-- ==== Sys2Proof/Word.lean ====
section
/-!
DEFINITION. The word types of the register target (64-bit registers, R7), bytes of frames and images,
32-bit playbook words (R191) and 128-bit tallies and seeds (R258, R269).
-/

namespace Sys2Proof

/-- A register, R7: 64 bits. -/
abbrev Word := BitVec 64

/-- One byte of a frame, an image or a tallied stream. -/
abbrev Byte := BitVec 8

/-- One playbook word, R191. -/
abbrev CueWord := BitVec 32

/-- A 128-bit seed, counter or tally (R258, R269). -/
abbrev W128 := BitVec 128

end Sys2Proof
end

