-- ==== Sys2Proof/Syntax.lean ====
section
/-!
DEFINITION. The commands of the block: the operand types (frame payloads of chapter 03, message and record
forms of the other chapters) and the one inductive `Instr`, one constructor per row of spec/opcode_table.json.
-/

namespace Sys2Proof

/-- Which of the two products (00_scope.md) a command reaches. -/
inductive Dev where
  | tsu
  | dxd
  deriving DecidableEq, Repr

/-- The two threads of the cue engine, R192. -/
inductive Thread where
  | run
  | lead
  deriving DecidableEq, Repr

/-- What the error correction of the playbook store reports for the fetched word, R191. -/
inductive Ecc where
  | clean
  | corrected
  | uncorrectable
  deriving DecidableEq, Repr

/-- The cause of a port's loss declaration, R88. -/
inductive LossCause where
  | signal
  | alignment
  deriving DecidableEq, Repr

/-- The IEEE 1149.1 instructions that R371 tells apart. -/
inductive JtagIns where
  | idcode
  | bypass
  | otherPublic
  | scanDump
  | overrideOn
  | overrideOff
  | overrideWrite (addr : Nat) (v : Word)
  deriving DecidableEq, Repr

/-- Strap pins (R16) and tie-offs (R410) as they stand when power-on reset is released. -/
structure Pins where
  role : Nat
  side : Nat
  level : Nat
  bootSrc : Nat
  bootLocal : Nat
  fitted : Nat
  deriving DecidableEq, Repr

/-- Link fields of bytes 1 to 3 of every frame, R67. -/
structure LinkHdr where
  holdC : Bool
  holdB : Bool
  nak : Bool
  ack : Nat
  seq : Nat
  deriving DecidableEq, Repr

/-- A firmware entry, R251. -/
structure FwEntry where
  stepping : Nat
  major : Nat
  minor : Nat
  build : Nat
  deriving DecidableEq, Repr

/-- TIME payload. -/
structure TimeF where
  sec : Nat
  ns : Nat
  frac : Nat
  utcOffset : Int
  traceable : Bool
  originLocal : Bool
  rootHoldover : Bool
  utcValid : Bool
  stepPending : Bool
  censusTree : Nat
  level : Nat
  state : Nat
  stepDelta : Int
  /-- bits [47:46] of the packed HT, reserved (R36) -/
  reserved : Nat := 0
  deriving DecidableEq, Repr

/-- ARM payload. `kick` is BC[47:0]. -/
structure ArmF where
  oseq : Nat
  step : Nat
  attempt : Nat
  kick : Nat
  checkpoint : Bool
  reorigin : Bool
  deriving DecidableEq, Repr

/-- CALL_OFF payload. -/
structure CallOffF where
  oseq : Nat
  step : Nat
  attempt : Nat
  reason : Nat
  deriving DecidableEq, Repr

/-- CENSUS_UP payload. -/
structure CensusUpF where
  kind : Nat
  slot : Nat
  step : Nat
  attempt : Nat
  count : Nat
  fp : Nat
  deriving DecidableEq, Repr

/-- CENSUS_DN payload. -/
structure CensusDnF where
  kind : Nat
  slot : Nat
  step : Nat
  attempt : Nat
  outcome : Nat
  count : Nat
  deriving DecidableEq, Repr

/-- BENCH payload. -/
structure BenchF where
  oseq : Nat
  newEpoch : Nat
  kind : Nat
  target : Nat
  reason : Nat
  admitLead : Nat
  deriving DecidableEq, Repr

/-- ALIGN payload. -/
structure AlignF where
  oseq : Nat
  at48 : Nat
  outputs : Nat
  deriving DecidableEq, Repr

/-- SCORE payload. -/
structure ScoreF where
  fragment : Nat
  kind : Nat
  attempt : Nat
  step16 : Nat
  data : List Byte
  deriving DecidableEq, Repr

/-- TALLY payload; it also carries fence reports (R294) and tree notices (R239). -/
structure TallyF where
  die : Nat
  half : Nat
  lane : Nat
  window : Nat
  step16 : Nat
  attempt : Nat
  tally : Nat
  deriving DecidableEq, Repr

/-- STOCK payload, R336 and R368. -/
structure StockF where
  die : Nat
  kind : Nat
  envelope : Nat
  granted : Nat
  peak : Nat
  phases : Nat
  bump : Bool
  derated : Bool
  index : Nat
  deriving DecidableEq, Repr

/-- CONFIG payload: 16 bytes of an image. -/
structure ConfigF where
  image : Nat
  chunk : Nat
  data : List Byte
  deriving DecidableEq, Repr

/-- HEARTBEAT payload. -/
structure HeartbeatF where
  keeper : Nat
  state : Nat
  count : Nat
  coreSplit : Bool
  srcALost : Bool
  srcBLost : Bool
  bistMismatch : Bool
  noHistory : Bool
  bumpSuspect : Bool
  sustainedLate : Bool
  lastLaunched : Nat
  attempt : Nat
  deriving DecidableEq, Repr

/-- DELAY_PROBE payload. -/
structure ProbeF where
  reply : Bool
  calDone : Bool
  id : Nat
  turnaround : Nat
  result : Nat
  deriving DecidableEq, Repr

/-- TRAIN payload. -/
structure TrainF where
  level : Nat
  side : Nat
  kind : Nat
  port : Nat
  ack : Bool
  topologyError : Bool
  sideConflict : Bool
  stepping : Nat
  serial : Nat
  fw : FwEntry
  deriving DecidableEq, Repr

/-- Payloads of R69. -/
inductive Payload where
  | time (f : TimeF)
  | probe (f : ProbeF)
  | heartbeat (f : HeartbeatF)
  | train (f : TrainF)
  | fill
  | arm (f : ArmF)
  | callOff (f : CallOffF)
  | censusUp (f : CensusUpF)
  | censusDn (f : CensusDnF)
  | bench (f : BenchF)
  | align (f : AlignF)
  | score (f : ScoreF)
  | tally (f : TallyF)
  | stock (f : StockF)
  | config (f : ConfigF)
  deriving DecidableEq, Repr

/-- A frame less its link fields: EPOCH (R70) and payload. -/
structure Frame where
  epoch : Nat
  payload : Payload
  deriving DecidableEq, Repr

/-- A remote post, R225 (its CRC is told apart by the event that brings it). -/
structure RPost where
  dest : Nat
  source : Nat
  epoch : Nat
  step16 : Nat
  attempt : Nat
  targeted : Bool
  rank : Nat
  stream : Nat
  seq : Nat
  mark : Nat
  cell : Nat
  n : Nat
  deriving DecidableEq, Repr

/-- One bay's reading at an event: a round trip in 2⁻⁸ ns (R148) or a margin code (R369). -/
structure BayReading where
  bay : Nat
  value : Nat
  deriving DecidableEq, Repr

/-- One ring-oscillator pair's counts over a gate, R368. -/
structure OscPair where
  ref : Nat
  str : Nat
  deriving DecidableEq, Repr

/-- The 16 bytes of one cell of a context image, at an address (R232). -/
structure CtxCell where
  addr : Nat
  bytes : List Byte
  deriving DecidableEq, Repr

/-- The IEEE 1588 messages that the 1588 port handles, R135 and R138. -/
inductive PtpKind where
  | sync
  | followUp
  | delayReq
  | delayResp
  | pdelayReq
  | pdelayResp
  | pdelayRespFollowUp
  | announce
  deriving DecidableEq, Repr

/-- How a PTP message travels, R135 and R136: UDP/IPv4 or IEEE 802.3, its UDP port or EtherType, VLAN (0 untagged), multicast
address (IPv4 or MAC), the sender's IPv4 address (0 without UDP), and whether the UDP checksum is sent as 0 (R138). -/
structure PtpNet where
  udp : Bool
  proto : Nat
  vlan : Nat
  dest : Nat
  src : Nat
  csumZero : Bool
  deriving DecidableEq, Repr

/-- A PTP message: the fields that R135 to R138 use. `ts` is the body timestamp in nanoseconds (sec × 10⁹ + ns),
`correction` is correctionField in 2⁻¹⁶ ns. The announce fields are those of R137. -/
structure PtpMsg where
  kind : PtpKind
  domain : Nat
  seq : Nat
  source : Nat
  requester : Nat
  twoStep : Bool
  ts : Nat
  correction : Int
  gm : Nat
  priority1 : Nat
  priority2 : Nat
  clockClass : Nat
  accuracy : Nat
  variance : Nat
  stepsRemoved : Nat
  timeSource : Nat
  utcOffset : Int
  utcValid : Bool
  ptpTimescale : Bool
  timeTraceable : Bool
  freqTraceable : Bool
  net : PtpNet
  deriving DecidableEq, Repr

/-- One ledger record, R306 (the CRC is computed from the fields). -/
structure LedgerRec where
  ty : Nat
  attempt : Nat
  step : Nat
  epoch : Nat
  seq : Nat
  value : Nat
  data : List Byte
  solo : Bool
  ckpt : Bool
  deriving DecidableEq, Repr

/-- What the pair link brings the other root member of a job beside its records (R30, log 71): the job slot, the epoch from
which the descriptor's maps count, and the descriptor of R317. -/
structure JobCopy where
  epoch : Nat
  slot : Nat
  desc : List Byte
  deriving DecidableEq, Repr

/-- A playbook instruction, chapter 08. Register fields are 0 to 15. -/
inductive Cue where
  | nop
  | halt
  | done
  | arm (pd : BitVec 4)
  | kick (pd : BitVec 4)
  | calloff (lh rh : BitVec 12)
  | waitk (off : BitVec 24)
  | waitn (inc : BitVec 24)
  | waitr (pa : BitVec 4)
  | hent (pa : BitVec 4) (slot : BitVec 12)
  | hawait (pd : BitVec 4) (slot : BitVec 12)
  | post (n1 : BitVec 4) (cell : BitVec 16)
  | postt (r : BitVec 4) (cell : BitVec 16)
  | cwait (r n1 : BitVec 4) (cell : BitVec 16)
  | creset (cell : BitVec 16)
  | resv (ps : BitVec 4) (w : BitVec 12)
  | rels (ps : BitVec 4)
  | bayp (pt : BitVec 4) (mask : BitVec 16)
  | bist (pd pa : BitVec 4)
  | probe (pa pb : BitVec 4)
  | li (pd : BitVec 4) (imm : BitVec 16)
  | lis (pd : BitVec 4) (k : BitVec 2) (imm : BitVec 16)
  | mov (pd pa : BitVec 4)
  | add (pd pa pb : BitVec 4)
  | sub (pd pa pb : BitVec 4)
  | addi (pd pa : BitVec 4) (imm : BitVec 16)
  | and (pd pa pb : BitVec 4)
  | or (pd pa pb : BitVec 4)
  | xor (pd pa pb : BitVec 4)
  | shl (pd pa : BitVec 4) (sh : BitVec 6)
  | shr (pd pa : BitVec 4) (sh : BitVec 6)
  | get (pd : BitVec 4) (src : BitVec 8)
  | b (t : BitVec 12)
  | beq (pa pb : BitVec 4) (t : BitVec 12)
  | bne (pa pb : BitVec 4) (t : BitVec 12)
  | blt (pa pb : BitVec 4) (t : BitVec 12)
  | bltu (pa pb : BitVec 4) (t : BitVec 12)
  | bz (pa : BitVec 4) (t : BitVec 12)
  | bnz (pa : BitVec 4) (t : BitVec 12)
  | loop (pa : BitVec 4) (t : BitVec 12)
  deriving DecidableEq, Repr

/-- The commands, one per row of spec/opcode_table.json; each docstring gives the row's rule and summary. -/
inductive Instr where
  /-- R377: Release of tsu_por_n or the DX-D power-on reset clears everything except fuses, attic and flash, and begins a start. -/
  | powerOnReset (d : Dev) (pins : Pins)
  /-- R377: tsu_warm_rst_n, RESTART or a failed start resets the timing and logic domains and keeps RS fields, IC configuration, fuses and attic. -/
  | warmReset (d : Dev)
  /-- R378: The fuse bank read completes; a passing CRC moves to reset LBIST and a failing one fails the start with FUSE_CRC. -/
  | fuseReadDone (d : Dev) (crcOk : Bool)
  /-- R378: Reset LBIST of all logic completes and is compared with the fused signature; a match releases logic and enables the ports. -/
  | resetLbistDone (d : Dev) (sig : Word)
  /-- R379: With LOCAL_THEN_LANE the read of the die-local image completes; a failing image sets LOCAL_FAIL and falls back to the lane. -/
  | localImageReadDone (img : List Byte)
  /-- R390: A DX-D finishes loading firmware from SPI NOR copy 0, or copy 1 on a CRC failure, and checks the attic header. -/
  | flashLoadDone (ok0 : Bool) (ok1 : Bool) (fw : FwEntry) (atticOk : Bool)
  /-- R380: A CONFIG frame delivers one image chunk, which a DX-D caches or forwards and a TSU stores toward a complete image. -/
  | configReceive (d : Dev) (p : Nat) (h : LinkHdr) (ep : Nat) (f : ConfigF)
  /-- R381: Application of an image's sections in order completes; a bad PRESET ends it with IMAGE_FORMAT. -/
  | imageApplyDone
  /-- R381: A PLAYBOOK section refused while a thread ran is applied when the threads next stop. -/
  | playbookSectionDeferred
  /-- R378: Once APPLY is done and a core is LOCKED, the TSU enters READY, clears FAILS and delivers the immediate correction to each bay. -/
  | tsuReady
  /-- R386: A start not READY within START_TIMEOUT of its first lane UP fails with NO_IMAGE or NO_LOCK. -/
  | startTimeout (d : Dev)
  /-- R389: A write of BO_CTL.RESTART clears FAILS and takes a warm reset, leaving CELLAR if the device was there. -/
  | boRestart (d : Dev) (rq : Nat) (v : Word)
  /-- R387: A write of BO_CTL.FORCE_CELLAR enters CELLAR at once with FORCED, winning over RESTART in the same write. -/
  | boForceCellar (d : Dev) (rq : Nat) (v : Word)
  /-- R390: DX-D firmware writes BO_CTL.READY, which ends the DX-D's start. -/
  | boReady (rq : Nat) (v : Word)
  /-- R392: AT_CTL.COMMIT checks the image at OFFSET and enters it in the cache directory, or refuses it with BUSY, BAD_CRC, BAD_FORMAT or NO_ROOM. -/
  | atCommit (rq : Nat) (v : Word)
  /-- R395: AT_CTL.DROP removes IMAGE from the attic directory. -/
  | atDrop (rq : Nat) (v : Word)
  /-- R395: AT_CTL.CLEAR_HISTORY invalidates both servo history slots. -/
  | atClearHistory (rq : Nat) (v : Word)
  /-- R395: AT_CTL.CLEAR_CAL invalidates every link record. -/
  | atClearCal (rq : Nat) (v : Word)
  /-- R395: A read of AT_DATA returns 8 attic bytes at OFFSET and advances OFFSET by 8. -/
  | atDataRead (rq : Nat)
  /-- R395: A write of AT_DATA stores 8 bytes at OFFSET and advances it, or is refused below 0x10_1000 with WRITE_REFUSED. -/
  | atDataWrite (rq : Nat) (v : Word)
  /-- R76: Setting a port's CONTROL.ENABLE takes it from IDLE to DOWN. -/
  | portEnable (d : Dev) (rq : Nat) (p : Nat)
  /-- R76: Clearing a port's CONTROL.ENABLE takes it to IDLE from any state. -/
  | portDisable (d : Dev) (rq : Nat) (p : Nat)
  /-- R90: A write of CONTROL.RETRAIN takes the port to DOWN with reason RETRAIN and clears its flap count. -/
  | retrain (d : Dev) (rq : Nat) (p : Nat) (v : Word)
  /-- R76: After 10,000 beats in DOWN with signal present and no flap hold the port enters SYNC. -/
  | downDwellEnd (d : Dev) (p : Nat)
  /-- R76: Three consecutive slot-aligned start codes, after block lock on fibre, take the port from SYNC to TRAIN. -/
  | alignmentAcquired (d : Dev) (p : Nat)
  /-- R77: A TRAIN frame is checked against R18 and counted toward ACK; a valid TRAIN in CAL or UP takes the port back to TRAIN. -/
  | trainFrameReceive (d : Dev) (p : Nat) (h : LinkHdr) (f : TrainF)
  /-- R77: After 8 consecutive matching TRAIN frames the end sets ACK in its own TRAIN frames. -/
  | trainAckSet (d : Dev) (p : Nat)
  /-- R77: Having set ACK and received 8 TRAIN frames with ACK, the end enters CAL. -/
  | trainComplete (d : Dev) (p : Nat)
  /-- R78: The originating end sends a DELAY_PROBE request every 2,048 beats in CAL and every 65,536 beats in UP, carrying APPLIED. -/
  | delayProbeRequestSend (d : Dev) (p : Nat)
  /-- R78: The answering end receives a request and queues a reply; a request with CAL_DONE takes it to UP. -/
  | delayProbeRequestReceive (d : Dev) (p : Nat) (h : LinkHdr) (f : ProbeF) (t2 : Nat)
  /-- R79: A reply yields four stamps from which the round trip and down and up delays are computed with α. -/
  | delayProbeReplyReceive (d : Dev) (p : Nat) (h : LinkHdr) (f : ProbeF) (t4 : Nat)
  /-- R78: A reply not arrived within 16,384 beats of its request is void. -/
  | delayProbeTimeout (d : Dev) (p : Nat)
  /-- R78: With 64 valid results the originator sets APPLIED to their mean, sends CAL_DONE and enters UP. -/
  | calComplete (d : Dev) (p : Nat)
  /-- R78: 256 requests without 64 valid results take the port DOWN with CAL_FAIL. -/
  | calFail (d : Dev) (p : Nat)
  /-- R81: At each whole second the originator moves APPLIED toward the second's mean by at most 131 frac LSBs. -/
  | delayUpdate (d : Dev) (p : Nat)
  /-- R85: At each slot start the sender transmits TIME, an L frame, a forced bulk, a control, a bulk frame or FILL by precedence. -/
  | frameSlot (d : Dev) (p : Nat)
  /-- R82: A received FILL frame delivers only the link fields HOLD, NAK and ACK_SEQ, freeing acknowledged retained frames. -/
  | fillFrameReceive (d : Dev) (p : Nat) (h : LinkHdr)
  /-- R83: A frame failing its CRC is discarded, counted, gives no offset, and sets NAK. -/
  | frameCrcError (d : Dev) (p : Nat)
  /-- R69: A frame passing CRC with an undefined TYPE is discarded, counted in UNKNOWN_TYPE and neither acknowledged nor NAKed. -/
  | unknownTypeFrame (d : Dev) (p : Nat) (h : LinkHdr) (ty : Nat)
  /-- R83: NAK held 16,384 beats without progress triggers another resend; after 4 the port goes DOWN with REPLAY_FAIL. -/
  | nakResendTimeout (d : Dev) (p : Nat)
  /-- R87: In CAL and UP each end sends a HEARTBEAT at the first L opportunity after every BC multiple of 10,000. -/
  | heartbeatSend (d : Dev) (p : Nat)
  /-- R87: A HEARTBEAT resets the missed-period count and carries the peer's state, flags and last launched step. -/
  | heartbeatReceive (d : Dev) (p : Nat) (h : LinkHdr) (ep : Nat) (f : HeartbeatF)
  /-- R87: Eight whole heartbeat periods without a valid HEARTBEAT take the port DOWN with PEER_FAILED. -/
  | peerFailed (d : Dev) (p : Nat)
  /-- R88: Loss of signal, three slots without a valid SOF, or loss of block lock takes the port DOWN within 512 ns of its cause. -/
  | portLossDeclared (d : Dev) (p : Nat) (cause : LossCause)
  /-- R89: 16 CRC failures within 1,024 consecutive slots take the port DOWN with ERROR_RATE. -/
  | errorRate (d : Dev) (p : Nat)
  /-- R90: A port entering DOWN 8 times in one second is held in DOWN with LINK_FLAP until RETRAIN. -/
  | linkFlap (d : Dev) (p : Nat)
  /-- R72: A TIME frame yields an offset for the servo and carries flags, UTC offset, sender state and CENSUS_TREE. -/
  | timeFrameReceive (d : Dev) (p : Nat) (h : LinkHdr) (f : TimeF) (rx : Nat) (diff : Int)
  /-- R45: With calibration complete and 64 consecutive offsets within 25 ps, or COUNT reference samples within LIMIT at the root, the device enters LOCKED. -/
  | enterLocked (d : Dev) (core : Nat)
  /-- R45: Eight consecutive offsets beyond 50 ps, or beyond twice LIMIT at the root, take the device from LOCKED to ACQUIRE. -/
  | leaveLocked (d : Dev) (core : Nat)
  /-- R50: Eight consecutive both-LOCKED measurements beyond SPLIT_LIMIT raise CORE_SPLIT for the next HEARTBEAT. -/
  | coreSplit
  /-- R48: Core A LOCKED for REVERT_HOLD while core B keeps, with no FORCE, becomes keeper again. -/
  | keeperReversion
  /-- R48: A write of TK_KEEPER_CTL.FORCE naming a LOCKED core makes it keeper at once; otherwise it has no effect. -/
  | keeperForce (d : Dev) (rq : Nat) (v : Word)
  /-- R49: A keeper, parent, twin or root reference pull brings r to 0 and raises PULL_DONE. -/
  | pullComplete (d : Dev)
  /-- R62: A read of TK_NOW_SEC returns sec and takes an ns and frac snapshot for the requesting core. -/
  | tkNowSecRead (d : Dev) (rq : Nat)
  /-- R43: A write of TK_ORIGIN_SET at the root requests an origin step, refused with ORIGIN_REFUSED while any epoch is active. -/
  | tkOriginSet (rq : Nat) (v : Word)
  /-- R73: At the next whole second every device moves sec by STEP_DELTA, raises TIME_STEPPED and discards stored cue-engine targets. -/
  | originStep (d : Dev)
  /-- R57: At each BC multiple of 1,024 the TSU issues a correction to every bay, which steps the LBC forward or withholds debt. -/
  | bayCorrection (rets : List BayReading) (canary : List BayReading)
  /-- R96: An edge on a TDC channel is converted to a stamp, or counted MISSED or INVALID. -/
  | edgeStamp (d : Dev) (ch : Nat) (w : Nat) (n : Nat) (c : Nat)
  /-- R95: A 51.2 ns interpolator calibration completes and passes or fails its span check. -/
  | interpolatorCalibration (d : Dev) (ch : Nat) (i : Nat) (c1s : Nat) (c2s : Nat)
  /-- R95: Sixteen successive failed calibrations on a channel raise CHANNEL_CAL_FAIL. -/
  | channelCalFail (d : Dev) (ch : Nat)
  /-- R106: TD_Mm_CTL.ARM in IDLE or DONE clears the results, checks the request and starts a class D or class F measurement. -/
  | measurementArm (d : Dev) (rq : Nat) (m : Nat) (v : Word)
  /-- R106: TD_Mm_CTL.ABORT ends a running set in DONE with ABORTED, keeping gathered results. -/
  | measurementAbort (d : Dev) (rq : Nat) (m : Nat) (v : Word)
  /-- R100: A set's window or fit run opens at W, the first BC multiple of 1,024 at least 1,024 beats after ARM or after the previous repeat. -/
  | measurementWindowOpen (d : Dev) (m : Nat)
  /-- R100: A class D window closes when all stops are stamped or 64,000 beats after W, and the last repeat enters DONE. -/
  | measurementWindowClose (d : Dev) (m : Nat)
  /-- R103: A class F run holding n stamps computes FIT_Y and FIT_PPT, or ends voided. -/
  | fitRunComplete (d : Dev) (m : Nat)
  /-- R99: A write of TD_CHn.TAP on a general channel is scheduled to take effect 1 µs later. -/
  | tapWrite (d : Dev) (rq : Nat) (ch : Nat) (v : Word)
  /-- R99: The new tap takes effect and any set measuring on the channel ends with BAD_CONFIG. -/
  | tapTakeEffect (d : Dev) (ch : Nat)
  /-- R110: At each BC multiple of 1,024 the root takes an IN or F phase sample and runs the servo against the followed source. -/
  | referenceSample (stamp : Nat)
  /-- R110: A 1PPS edge is checked against its window and gives p; a pending time of day is applied to it. -/
  | ppsEdge (n : Nat) (stamp : Nat) (stamp10 : Nat)
  /-- R113: At each second's end a missing or displaced 1PPS edge sets PPS_MISS, and two in succession make the IN source LOST. -/
  | ppsWindowEnd (n : Nat)
  /-- R112: A 1,000 ms reference fit ends and counts toward qualification, or makes the source LOST beyond FREQ_LIMIT. -/
  | referenceFitComplete (n : Nat)
  /-- R113: No 10 MHz edge for 512 ns makes the IN or F source LOST and walks the fall-back list. -/
  | referenceEdgeLoss (n : Nat)
  /-- R138: A received PTP event or general message is stamped and processed by its instance, giving Sync samples and state changes. -/
  | ptpMessageReceive (inst : Nat) (m : PtpMsg) (stamp : Nat)
  /-- R138: A PTP event message is sent with departure time T inserted one-step or stamped for two-step. -/
  | ptpMessageTransmit (inst : Nat) (m : PtpMsg) (t : Nat) (stamp : Nat)
  /-- R113: No Announce for ANNOUNCE_TIMEOUT intervals or no Sync for 3 intervals makes the PTP source LOST. -/
  | ptpAnnounceTimeout
  /-- R136: Any change of PT_CTL restarts each affected 1588 instance in INITIALIZING. -/
  | ptCtlWrite (rq : Nat) (v : Word)
  /-- R114: A write of RF_SEL sets ACTIVE and the fall-back list and changes the followed source under R114. -/
  | rfSelWrite (rq : Nat) (v : Word)
  /-- R111: A write of RF_INn_TOD gives the TAI second of the first 1PPS edge at least 100 ms later; ignored after HT load. -/
  | rfTodWrite (rq : Nat) (n : Nat) (v : Word)
  /-- R125: At each whole second while LOCKED the mean of y is kept and HOLD_RATE and HOLD_AVAIL are updated. -/
  | holdoverMeanUpdate (d : Dev)
  /-- R127: Every 64 s, at HOLDOVER entry or on SV_CTL.SAVE, a servo history record is written to the alternate attic slot. -/
  | servoRecordWrite
  /-- R127: A write of SV_CTL.SAVE writes an attic servo record. -/
  | svSave (rq : Nat) (v : Word)
  /-- R126: Setting SV_CTL.FORCE_HOLDOVER keeps the root in HOLDOVER until cleared; ignored elsewhere. -/
  | svForceHoldoverWrite (rq : Nat) (v : Word)
  /-- R129: Without usable history the 1,000 ms first fit completes, acc is set from FIT_PPT and the servo starts. -/
  | firstFitComplete (d : Dev) (core : Nat)
  /-- R130: No local oscillator edge for 512 ns raises OSC_LOSS, clears HT_VALID, enters COLD and stops all transmission. -/
  | oscLoss
  /-- R130: After oscillator edges have returned for 1 s the DX-D's ports leave IDLE and HT is loaded afresh. -/
  | oscReturn
  /-- R133: A write of OP_ALIGN.GO stores an alignment at AT for the selected outputs and, at the acting referee with HALL, sends ALIGN. -/
  | opAlignGo (rq : Nat) (v : Word)
  /-- R133: An ALIGN frame stores an alignment and is forwarded, but not passed to lanes. -/
  | alignReceive (p : Nat) (h : LinkHdr) (ep : Nat) (f : AlignF)
  /-- R133: At beat AT each selected output is driven low and re-phased to its waveform rule, and ALIGN_DONE is raised. -/
  | outputAlignment
  /-- R134: Each second the DX-D measures each output's ERROR and sets MISALIGNED beyond 1 ns. -/
  | outputErrorMeasure (e0 : Int) (e1 : Int) (e2 : Int)
  /-- R182: A DX-D drives its step-frame strobe at the kickoff beat in effect of each forwarded, unwithdrawn step. -/
  | stepFrameStrobe
  /-- R146: At the end of each gate of G corrections the TSU recomputes a bay's INC and checks its rate against REF_TOL. -/
  | incGateEnd (b : Nat)
  /-- R147: A bay's class F fit gate ends and its result goes to BY_Bn_FIT. -/
  | bayFitGateEnd (b : Nat)
  /-- R149: A bay asserting its reference-loss flag sets REF_LOSS, raises the event once and shortens the INC gate to 64. -/
  | bayRefLoss (b : Nat)
  /-- R150: A bay's divided clock giving no edge for 4,096 ns while not STOPPED declares it DEAD. -/
  | bayNoEdgeTimeout (b : Nat)
  /-- R153: A monitor reports a point and urgent flag, which may change the set's target and start an urgent change. -/
  | bayMonitorReport (b : Nat) (point : Nat) (urgent : Bool) (temp : Int)
  /-- R156: Once every crossing buffer of the set is empty the TSU sends the new frequency and asserts stop to every bay of the set. -/
  | crossingDrained (set : Nat)
  /-- R156: A bay halts on its next edge and acknowledges the stop. -/
  | bayStopAck (b : Nat)
  /-- R156: On the bay's first edge at the new frequency the TSU delivers the immediate correction, re-centres crossings and raises CHANGE_DONE. -/
  | bayResume (b : Nat)
  /-- R156: No stop acknowledgement within 64 ns or no resume within 96 ns declares the bay DEAD. -/
  | bayChangeTimeout (b : Nat)
  /-- R158: An adaptive bay reports its period length n, which updates UNITS, STRETCHED and the slip counts of its crossings. -/
  | bayPeriodReport (rs : List BayReading)
  /-- R152: A write of BY_Xc defines a crossing for the next re-centre, or is ignored with CONFIG_ERROR if it joins two sets. -/
  | byXcWrite (rq : Nat) (c : Nat) (v : Word)
  /-- R152: A write of BY_Bn_CFG sets REQ_POINT, MON_EN and SET, a split of a crossing being ignored with CONFIG_ERROR. -/
  | byBayCfgWrite (rq : Nat) (b : Nat) (v : Word)
  /-- R151: A write of BY_Bn_PTp changes a point entry and raises TABLE_ERROR when the table's ordering breaks. -/
  | bayTableWrite (rq : Nat) (b : Nat) (pt : Nat) (v : Word)
  /-- R169: When its lead, run-ahead and commit conditions hold and no pause applies, the root computes k and sends the first ARM of a step. -/
  | armSend (j : Nat)
  /-- R173: An ARM is forwarded by a DX-D and, at a TSU, taken as a new arming, a re-time or a discard. -/
  | armReceive (d : Dev) (p : Nat) (h : LinkHdr) (ep : Nat) (f : ArmF)
  /-- R170: At K − 10,000 the root calls off a step whose arm census is incomplete or slips it if the predecessor's done census is incomplete. -/
  | armDeadlineCheck (j : Nat) (step : Nat)
  /-- R171: A done census incomplete at K + STEP_TIMEOUT sends CALL_OFF with STEP_TIMEOUT and hands missing members to probes. -/
  | stepTimeout (j : Nat) (step : Nat)
  /-- R180: At K − 512 of the lowest ARMED step the TSU decides to fire, hold (KICKOFF_HELD) or withhold (KICKOFF_WITHHELD). -/
  | kickoffDecision
  /-- R181: At K the TSU fires the strobe into its bays or kick_out, closes the gap, moves the step to LAUNCHED and makes it current. -/
  | kickoff (d : Dev) (j : Nat) (rets : List BayReading)
  /-- R177: A CENSUS_DN is forwarded toward members and, at a TSU, marks a step accepted, released, committed or ends a huddle. -/
  | censusDnReceive (d : Dev) (p : Nat) (h : LinkHdr) (ep : Nat) (f : CensusDnF)
  /-- R187: A CALL_OFF withdraws steps at a TSU and makes package DX-Ds probe members missing from the census. -/
  | callOffReceive (d : Dev) (p : Nat) (h : LinkHdr) (ep : Nat) (f : CallOffF)
  /-- R196: nop does nothing. -/
  | nop (th : Thread) (e : Ecc)
  /-- R196: halt puts the thread in HALTED, raising HALT_IN_STEP if its step is LAUNCHED. -/
  | halt (th : Thread) (e : Ecc)
  /-- R183: done moves the step to DONE, sends the done-census entry and scorecard, and opens the step gap. -/
  | doneInstruction (th : Thread) (e : Ecc)
  /-- R197: arm waits for an unbound ARMED or LAUNCHED step, or binds one at once. -/
  | armInstruction (th : Thread) (e : Ecc)
  /-- R198: kick waits for a launched step not yet returned, or returns at once with KICK_LATE. -/
  | kickInstruction (th : Thread) (e : Ecc)
  /-- R196: calloff sets the lead and run handler addresses. -/
  | calloffInstruction (th : Thread) (e : Ecc)
  /-- R200: waitk stores kickoff-plus-offset as the thread's target and waits. -/
  | waitk (th : Thread) (e : Ecc)
  /-- R200: waitn stores T + inc as the target and waits. -/
  | waitn (th : Thread) (e : Ecc)
  /-- R200: waitr checks a full BC target under R38, stores it and waits, or faults TIME_RANGE. -/
  | waitr (th : Thread) (e : Ecc)
  /-- R39: A stored wait target is reached and the waiting thread resumes. -/
  | waitTargetReached (th : Thread)
  /-- R236: hent takes a huddle credit and sends a CENSUS_UP entry with the fingerprint, or waits for a credit. -/
  | hent (th : Thread) (e : Ecc)
  /-- R201: hawait waits until the entered huddle ends. -/
  | hawait (th : Thread) (e : Ecc)
  /-- R202: post adds n counts to a cell. -/
  | postInstruction (th : Thread) (e : Ecc)
  /-- R202: postt adds one targeted count for a rank on a cell. -/
  | posttInstruction (th : Thread) (e : Ecc)
  /-- R202: cwait registers the thread as a waiter of rank r and waits for its grant. -/
  | cwait (th : Thread) (e : Ecc)
  /-- R202: creset resets a cell. -/
  | cresetInstruction (th : Thread) (e : Ecc)
  /-- R203: resv requests w watts of step leave for a step, a pre-grant before its kickoff. -/
  | resv (th : Thread) (e : Ecc)
  /-- R203: rels returns all step leave of a step. -/
  | rels (th : Thread) (e : Ecc)
  /-- R204: bayp sets REQ_POINT in every masked bay. -/
  | bayp (th : Thread) (e : Ecc)
  /-- R205: bist requests an LBIST slice and waits for its outcome. -/
  | bistInstruction (th : Thread) (e : Ecc)
  /-- R206: probe opens probe-tally windows for the thread's current step. -/
  | probe (th : Thread) (e : Ecc)
  /-- R207: li loads a sign-extended immediate. -/
  | li (th : Thread) (e : Ecc)
  /-- R207: lis loads 16 bits into one quarter of a register. -/
  | lis (th : Thread) (e : Ecc)
  /-- R207: mov copies a register. -/
  | mov (th : Thread) (e : Ecc)
  /-- R207: add sums two registers mod 2^64. -/
  | addOp (th : Thread) (e : Ecc)
  /-- R207: sub subtracts two registers mod 2^64. -/
  | subOp (th : Thread) (e : Ecc)
  /-- R207: addi adds a signed immediate. -/
  | addi (th : Thread) (e : Ecc)
  /-- R207: and is bitwise AND. -/
  | andOp (th : Thread) (e : Ecc)
  /-- R207: or is bitwise OR. -/
  | orOp (th : Thread) (e : Ecc)
  /-- R207: xor is bitwise XOR. -/
  | xorOp (th : Thread) (e : Ecc)
  /-- R207: shl shifts left. -/
  | shl (th : Thread) (e : Ecc)
  /-- R207: shr shifts right logically. -/
  | shr (th : Thread) (e : Ecc)
  /-- R208: get loads a step, time, die or argument value selected by src. -/
  | get (th : Thread) (e : Ecc)
  /-- R207: b branches unconditionally. -/
  | b (th : Thread) (e : Ecc)
  /-- R207: beq branches if equal. -/
  | beq (th : Thread) (e : Ecc)
  /-- R207: bne branches if not equal. -/
  | bne (th : Thread) (e : Ecc)
  /-- R207: blt branches if less as s64. -/
  | blt (th : Thread) (e : Ecc)
  /-- R207: bltu branches if less as u64. -/
  | bltu (th : Thread) (e : Ecc)
  /-- R207: bz branches if zero. -/
  | bz (th : Thread) (e : Ecc)
  /-- R207: bnz branches if not zero. -/
  | bnz (th : Thread) (e : Ecc)
  /-- R207: loop decrements a register and branches while it is non-zero. -/
  | loop (th : Thread) (e : Ecc)
  /-- R193: CU_CTL.START, when no thread runs, clears registers and starts each enabled thread at its entry. -/
  | cuStart (rq : Nat) (v : Word)
  /-- R193: CU_CTL.STOP sets both threads STOPPED and abandons waits, a fault STOPPED when a step is held. -/
  | cuStop (rq : Nat) (v : Word)
  /-- R213: A write of PB_DATA stores two words at INDEX and advances it, or is refused with WRITE_REFUSED while a thread runs. -/
  | pbDataWrite (rq : Nat) (v : Word)
  /-- R213: A read of PB_DATA returns two words and advances INDEX by 2. -/
  | pbDataRead (rq : Nat)
  /-- R213: The playbook CRC recomputation completes, BUSY falls and CHECK_DONE is raised. -/
  | pbCheckDone
  /-- R219: A POST command adds n to COUNT and runs a grant pass. -/
  | cellPost (rq : Nat) (c : Nat) (n : Nat)
  /-- R219: A POSTT command adds a targeted count for a rank and runs a grant pass. -/
  | cellPostt (rq : Nat) (c : Nat) (r : Nat)
  /-- R219: An ADD command adds a signed delta to COUNT and runs a grant pass. -/
  | cellAdd (rq : Nat) (c : Nat) (dlt : Int)
  /-- R219: A WAIT command registers a waiter of a rank and need, or is refused if the rank holds one. -/
  | cellWait (rq : Nat) (c : Nat) (r : Nat) (need : Nat)
  /-- R219: A RESET command zeroes COUNT and every held count, keeping waiters. -/
  | cellReset (rq : Nat) (c : Nat)
  /-- R219: A read of the TEST word returns the cell's state without effect. -/
  | cellTest (rq : Nat) (c : Nat)
  /-- R218: A cell command with a reserved OP, reserved bit or out-of-range VALUE, or a bad window access, is ignored and counted in BAD_ACCESS. -/
  | cellBadCommand (rq : Nat) (off : Nat) (bytes : Nat) (wr : Bool) (v : Word)
  /-- R223: A DMA completion post is applied to a cell or issued as a remote post on its stream. -/
  | dmaCompletionPost (c : Nat) (n : Nat) (targeted : Bool) (r : Nat) (streamEn : Bool) (st : Nat)
  /-- R226: A write of SG_RPOST builds and sends a remote-post record with the stream's MARK and POST_SEQ, or drops it as STALE_POST. -/
  | sgRpost (rq : Nat) (v : Word)
  /-- R227: A received remote post is discarded, held in the bullpen or applied to its cell. -/
  | remotePostReceive (record : List Byte)
  /-- R224: A data write accepted on an outbound stream increments DEPART. -/
  | departReport (st : Nat)
  /-- R224: A data write completed with the current tag increments ARRIVED and rechecks the bullpen. -/
  | arrivalReport (st : Nat) (tag : Nat)
  /-- R229: A post held 100,000 beats raises ORPHAN_POST and fails the step as an own failure. -/
  | orphanPost
  /-- R232: A write of SG_CTX.SWITCH is refused or starts a cell save, load or clear. -/
  | sgCtxSwitch (rq : Nat) (v : Word)
  /-- R232: The context switch ends with DONE or CLEARED and raises CTX_DONE. -/
  | ctxSwitchDone (img : List CtxCell)
  /-- R237: A DX-D keeps a child's cumulative count and fingerprint and, when complete, sends upward or resolves the census. -/
  | censusUpReceive (p : Nat) (h : LinkHdr) (ep : Nat) (f : CensusUpF)
  /-- R240: When a credit frees, an identity held for want of credit is sent upward in ascending (STEP, SLOT) order. -/
  | censusCreditFree
  /-- R239: A device whose CENSUS_TREE changes frees slots on the tree left and resends unresolved entries on the new tree. -/
  | censusTreeChange (d : Dev)
  /-- R239: A DX-D with a lost parent link or member lane sends a tree notice and repeats it every 1,000,000 beats. -/
  | treeNoticeSend
  /-- R239: A tree notice not renewed for 4,000,000 beats stops being current at the root. -/
  | treeNoticeExpiry
  /-- R263: Key-port request SEED_HI returns seed[127:64]. -/
  | keySeedHi (ch : Nat)
  /-- R263: Key-port request SEED_LO returns seed[63:0]. -/
  | keySeedLo (ch : Nat)
  /-- R263: Key-port request STEP returns the current step. -/
  | keyStep (ch : Nat)
  /-- R263: Key-port request CTR_BASE returns the counter base for the current step. -/
  | keyCtrBase (ch : Nat)
  /-- R263: Key-port request SEED_INDEX returns the seed index. -/
  | keySeedIndex (ch : Nat)
  /-- R263: Key-port request DIE returns the die identifier. -/
  | keyDie (ch : Nat)
  /-- R263: Key-port request JOB returns the KP_JOB value. -/
  | keyJob (ch : Nat)
  /-- R263: Key-port request KEPT returns the die's kept-unit count. -/
  | keyKept (ch : Nat)
  /-- R263: A key-port request with a reserved code returns 0 with VALID = 0 and counts BAD_REQUEST. -/
  | keyReservedRequest (ch : Nat) (code : Nat)
  /-- R264: A request held over a kickoff switch or a job load is answered once the switch or JOB_LOADED completes. -/
  | keyPortDeferredAnswer
  /-- R255: Firmware sets KP_CLASS.APPLIED after disabling units outside the kept set. -/
  | kpAppliedWrite (rq : Nat) (v : Word)
  /-- R272: A unit passing a bound line-lane tap is appended to the lane's step string or counted as gap traffic. -/
  | tallyTapUnit (tap : Nat) (flow : Nat) (outbound : Bool) (bytes : List Byte)
  /-- R273: A write of TL_FEEDn by the owner appends 8 bytes to the feed lane; others are refused. -/
  | tlFeedWrite (rq : Nat) (n : Nat) (v : Word)
  /-- R279: A SCORE fragment is collected and combined into an engine digest, subtree sum or hall scorecard. -/
  | scoreReceive (p : Nat) (h : LinkHdr) (ep : Nat) (f : ScoreF)
  /-- R284: A probe window closes at its end beat, its tally is recorded in the ring and queued or counted TALLY_OVERRUN. -/
  | probeWindowClose (lane : Nat)
  /-- R284: A closing record waiting for room in the TALLY queue is sent when room frees. -/
  | tallyQueueRoom
  /-- R286: A TALLY frame is forwarded upward and, at the root, is a window record, fence report or tree notice. -/
  | tallyReceive (p : Nat) (h : LinkHdr) (ep : Nat) (f : TallyF)
  /-- R283: Writing VALID of a lock-step entry checks it and refuses and clears it on a bad shape, fingerprint or seed. -/
  | lsPairValidWrite (rq : Nat) (e : Nat) (v : Word)
  /-- R336: A STOCK frame is forwarded and the root keeps the latest per die, benching an engine on three lost phases. -/
  | stockReceive (p : Nat) (h : LinkHdr) (ep : Nat) (f : StockF)
  /-- R295: A single report without a partner within 1 ms is logged as UNPAIRED and benches nothing. -/
  | fencePairTimeout
  /-- R293: A TSU in an epoch whose lanes have been without a source for 10,000 beats enters SIDELINE. -/
  | sourcelessSelfFence
  /-- R296: A probing parent sends the next of 8 probe requests every 10,000 beats. -/
  | probeRequestSend (p : Nat)
  /-- R296: After 80,000 beats a probe passes or fails, a failure sending PROBE_FAIL. -/
  | probeEnd (p : Nat)
  /-- R297: A complaint write sends a BENCH with REASON PROBE naming the die, or is ignored. -/
  | mbComplaintGo (rq : Nat) (v : Word)
  /-- R297: No PROBE_FAIL within 200,000 beats of a complaint shows PASSED. -/
  | complaintTimeout
  /-- R312: 200,000 beats after an ARM_DEADLINE or STEP_TIMEOUT CALL_OFF the root decides on benches and sends BENCH or RENEW. -/
  | recoveryWaitEnd (j : Nat)
  /-- R313: A BENCH held back by a near kickoff is sent 1 beat after that kickoff. -/
  | deferredBench (j : Nat)
  /-- R302: A BENCH is forwarded and at its members ends or renews the epoch, fences the target or starts a probe. -/
  | benchReceive (d : Dev) (p : Nat) (h : LinkHdr) (ep : Nat) (f : BenchF)
  /-- R302: Once LOCKED, healthy, fitting, version-matched and loaded, a TSU joins NEW_EPOCH and clears cells, waiters, stream state and its stockroom ledger. -/
  | epochJoin
  /-- R305: A member not showing NEW_EPOCH and LOCKED within ADMIT_LEAD or JOIN_MS draws an ADMIT_FAIL or FIRMWARE_MISMATCH report. -/
  | admitDeadline (p : Nat)
  /-- R307: A ledger record becomes durable in both root MRAMs, or SOLO, and the message it justifies is sent. -/
  | ledgerRecordDurable (r : LedgerRec) (jobs : List JobCopy)
  /-- R311: Within 1,024 ns of both root pair links leaving UP, a root member becomes acting referee, benches its twin and writes SOLO. -/
  | rootTakeover
  /-- R314: At the last BENCH plus ADMIT_LEAD, or CALL_OFF plus 200,000, the root arms the replay with REORIGIN, ending the pause. -/
  | replayArm (j : Nat)
  /-- R318: MB_JOB_CMD SUBMIT checks a descriptor and accepts the job with JOB_START and EPOCH records and image loading, or rejects it. -/
  | jobSubmit (rq : Nat) (v : Word)
  /-- R320: MB_JOB_CMD RESUME resumes a PAUSED job, with a new schedule block after SUSTAINED_LATE. -/
  | jobResume (rq : Nat) (v : Word)
  /-- R320: MB_JOB_CMD END sends CALL_OFF JOB_STOP where allowed and ends the job once its steps settle. -/
  | jobEndCommand (rq : Nat) (v : Word)
  /-- R300: MB_JOB_CMD BENCH_OPERATOR benches the named die with REASON OPERATOR. -/
  | benchOperator (rq : Nat) (v : Word)
  /-- R320: When every step of an ending job has committed or been withdrawn, the root sends a closing RENEW, writes JOB_END and frees the slot. -/
  | jobEnd (j : Nat)
  /-- R304: Writing a spare entry adds it to the table and sends the job images to it as a standby. -/
  | mbSpareWrite (rq : Nat) (v : Word)
  /-- R310: A write of LG_EXPORTED marks records as exported and frees them for overwriting. -/
  | lgExportedWrite (rq : Nat) (v : Word)
  /-- R319: LG_CKPT.MARK marks a step not yet armed as a checkpoint. -/
  | ckptMark (rq : Nat) (v : Word)
  /-- R319: LG_CKPT.SAVED has the root write a CKPT_SAVED record for the step. -/
  | ckptSaved (rq : Nat) (v : Word)
  /-- R327: At each BC multiple of 64 the stockroom takes releases, phase losses, step leave, computes the ceiling, refuses and runs its grant pass. -/
  | grantTick (droop : Bool) (vsense : Nat) (phases : Nat)
  /-- R326: A requester port presents a request for w watts, ignored if one is pending. -/
  | stockRequest (port : Nat) (w : Nat)
  /-- R326: A requester port presents a release of all its held leave. -/
  | stockRelease (port : Nat)
  /-- R332: Assertion of the droop input raises DROOP and withholds grants at ticks while asserted. -/
  | droop
  /-- R333: An abnormal drop on BUMP_TICKS consecutive ticks sets BUMP_SUSPECT. -/
  | bumpSuspect
  /-- R334: A regulator phase zero for PHASE_FILTER ticks is declared lost, derating E_eff or setting DARK at three. -/
  | phaseLost (ph : Nat)
  /-- R336: A TSU-C or TSU-M sends a stockroom summary at each BC multiple of 1,048,576 or after a flag change. -/
  | stockReportSend
  /-- R333: ST_MON_CFG.CLEAR_BUMP clears BUMP_SUSPECT and restarts the abnormal-tick count. -/
  | clearBump (rq : Nat) (v : Word)
  /-- R346: A source's level rises or is raised, moving it to GATHER with a stamp or counting toward COUNT. -/
  | icSourceRaise (d : Dev) (n : Nat)
  /-- R346: A source's level falls, taking a GATHER or PENDING source to IDLE. -/
  | icSourceFall (d : Dev) (n : Nat)
  /-- R347: A source in GATHER reaching TIME becomes PENDING. -/
  | icCoalesceTimeout (d : Dev) (n : Nat)
  /-- R349: A read of IC_Tt_CLAIM claims the lowest PENDING source of the target and returns it with its stamp. -/
  | icClaim (d : Dev) (rq : Nat) (t : Nat)
  /-- R350: A write of IC_Tt_COMPLETE completes an ACTIVE source or counts a stray completion. -/
  | icComplete (d : Dev) (rq : Nat) (t : Nat) (v : Word)
  /-- R351: A write of IC_Sn_CFG sets enable, watch, coalescing and target, with CONFIG_IGNORED or WATCH_FULL as required. -/
  | icSourceCfgWrite (d : Dev) (rq : Nat) (n : Nat) (v : Word)
  /-- R352: Writing IC_CTL.DELIVER disables or re-enables all target outputs. -/
  | icDeliverWrite (d : Dev) (rq : Nat) (v : Word)
  /-- R353: IC_CTL.SLEEP stops the controller's logic part when nothing is pending or active, or raises SLEEP_REFUSED. -/
  | icSleep (d : Dev) (rq : Nat) (v : Word)
  /-- R353: While asleep a watched level rising drives ic_wake and is recorded with a stamp. -/
  | icWatchedRise (d : Dev) (n : Nat) (timingOn : Bool)
  /-- R353: After log_power_good the controller clears SLEEP, raises WOKE and takes high levels as assertions. -/
  | icWake (d : Dev)
  /-- R344: A W1C write of IC_LOCAL clears local event bits. -/
  | icLocalWrite (rq : Nat) (v : Word)
  /-- R360: BT_RUN.GO requests an LBIST slice, which is accepted or refused with a reason. -/
  | btRunGo (d : Dev) (rq : Nat) (v : Word)
  /-- R361: At I + 16 the slice is isolated, its requests queue and, for a keeper time core, the twin becomes keeper. -/
  | bistIsolate
  /-- R361: At I + 1,616 the signature is latched and compared, giving PASS, MISMATCH or RAW. -/
  | bistSignatureLatch (outs : List Word)
  /-- R362: At I + 1,800 a tested time core is restored, advanced by its NCO increment and put in ACQUIRE. -/
  | bistCoreRestore
  /-- R361: At I + 2,000 the slice is released, queued requests are applied and the requesting thread resumes. -/
  | bistRelease
  /-- R363: The twin losing its last source during a time-core slice aborts or hastens the test. -/
  | bistTwinLost
  /-- R368: BT_AGE_CTL.MEASURE starts an ageing measurement unless a gate is running. -/
  | ageingMeasure (d : Dev) (rq : Nat) (v : Word)
  /-- R368: At each HT second that is a multiple of PERIOD_S an ageing gate starts. -/
  | ageingGateStart (d : Dev)
  /-- R368: After 1,000,000 beats the ageing index is computed and a TSU sends its STOCK ageing summary. -/
  | ageingGateEnd (d : Dev) (counts : List OscPair)
  /-- R370: BT_REPLAN.GO re-plans every bay table from the base at a maintenance stop, or is refused. -/
  | btReplanGo (d : Dev) (rq : Nat) (v : Word)
  /-- R372: FU_ACCESS with ARM and code 0xC1 arms the field-fuse blow. -/
  | fuAccessArm (d : Dev) (rq : Nat) (v : Word)
  /-- R372: FU_ACCESS with GO and code 0x5E within 1,000 beats starts the blow, else CLOSE_ABORTED. -/
  | fuAccessGo (d : Dev) (rq : Nat) (v : Word) (vppOk : Bool)
  /-- R372: The field-fuse blow completes, closing private test access and raising CLOSE_DONE. -/
  | fieldFuseBlown (d : Dev)
  /-- R371: An IEEE 1149.1 instruction is executed, private ones only while the field fuse is intact. -/
  | jtagInstruction (d : Dev) (ins : JtagIns)
  /-- R406: A write of PG_LOCK locks with a key, unlocks with the held key, or is refused. -/
  | pgLockWrite (d : Dev) (rq : Nat) (pg : Nat) (v : Word)
  /-- R404: A W1C write of PG_EVENT clears event bits, allowed even when locked. -/
  | pgEventWrite (d : Dev) (rq : Nat) (pg : Nat) (v : Word)
  /-- R342: A write of PG_EVENT_EN enables event bits and raises the page source if the level rises. -/
  | pgEventEnWrite (d : Dev) (rq : Nat) (pg : Nat) (v : Word)
  /-- R404: PG_CONTROL.EVENT_TEST sets every defined PG_EVENT bit as if hardware had set it. -/
  | eventTest (d : Dev) (rq : Nat) (pg : Nat) (v : Word)
  /-- R403: A 32-bit read of a low half on BAR0 performs a full read and captures the 64-bit value. -/
  | bar0LowRead (addr : Nat)
  /-- R403: A 32-bit read of a high half returns the captured or live high half without side effects. -/
  | bar0HighRead (addr : Nat)
  /-- R403: A 32-bit write of a low half on BAR0 is held for pairing. -/
  | bar0LowWrite (addr : Nat) (v : Nat)
  /-- R403: A 32-bit high-half write pairs with the held low half into one 64-bit write, or is dropped. -/
  | bar0HighWrite (addr : Nat) (v : Nat)
  /-- R397: A register access of wrong size or alignment is dropped, reads return 0, and BAD_ACCESS counts. -/
  | badAccess (d : Dev) (rq : Nat) (addr : Nat) (bytes : Nat) (wr : Bool)
  /-- R398: A write to a register with no row of its own updates its RW fields, subject to locks and reserved bits. -/
  | registerWrite (d : Dev) (rq : Nat) (addr : Nat) (v : Word)
  /-- R91: A read of a port set's ERRORS returns and clears its counters. -/
  | portErrorsRead (d : Dev) (rq : Nat) (p : Nat)
  /-- R107: A read of TD_CHn returns and clears MISSED and INVALID. -/
  | tdChRead (d : Dev) (rq : Nat) (n : Nat)
  /-- R162: A read of BY_Bn_CHANGES returns and clears its change counters. -/
  | byChangesRead (rq : Nat) (b : Nat)
  /-- R162: A read of BY_Xc returns and clears STALLS and PEAK. -/
  | byXcRead (rq : Nat) (c : Nat)
  /-- R213: A read of PB_ECC returns and clears CORRECTED. -/
  | pbEccRead (rq : Nat)
  /-- R214: A read of CU_LATE returns and clears its lateness counters. -/
  | cuLateRead (rq : Nat)
  /-- R243: A read of SG_ERRORS returns and clears its counters. -/
  | sgErrorsRead (rq : Nat)
  /-- R245: A read of CS_STATUS returns and clears PEAK. -/
  | csStatusRead (rq : Nat)
  /-- R267: A read of KP_ERRORS returns and clears BAD_REQUEST. -/
  | kpErrorsRead (rq : Nat)
  /-- R288: A read of TL_ERRORS on a TSU or DX-D returns and clears its counters. -/
  | tlErrorsRead (d : Dev) (rq : Nat)
  /-- R291: A read of LS_COUNTS returns and clears the comparison counters. -/
  | lsCountsRead (rq : Nat)
  /-- R338: A read of ST_COUNTS returns and clears its counters. -/
  | stCountsRead (rq : Nat)
  /-- R356: A read of IC_STRAY returns and clears the stray-completion count. -/
  | icStrayRead (d : Dev) (rq : Nat)
  /-- R373: A read of BT_COUNTS returns and clears its counters. -/
  | btCountsRead (d : Dev) (rq : Nat)
  /-- R373: A read of BT_CANARYb returns and resets LOW. -/
  | btCanaryRead (d : Dev) (rq : Nat) (b : Nat)
  /-- R394: A read of BO_COUNTS returns and clears its counters. -/
  | boCountsRead (d : Dev) (rq : Nat)
  /-- R404: A read of PG_STATUS returns and clears BAD_ACCESS and LOCK_REFUSED. -/
  | pgStatusRead (d : Dev) (rq : Nat) (pg : Nat)
  /-- R321: A read of MB_STATUS returns and clears UNPAIRED. -/
  | mbStatusRead (rq : Nat)
  /-- R142: A read of PT_PATH returns and clears TX_CHECK. -/
  | ptPathRead (rq : Nat)
  /-- R149: A bay deasserts its reference-loss flag; REF_LOSS clears and the INC gate returns to BY_CTL.INC_GATE. -/
  | bayRefLossEnd (b : Nat)
  /-- R76: Signal becomes present on a port that has already dwelt 10,000 beats in DOWN without a flap hold, and the port enters SYNC. -/
  | signalPresent (d : Dev) (p : Nat)
  /-- R71: A receiver that has acted on no ORIGIN_SEQ for 1 s forgets h and will act on the next copy it receives. -/
  | originSeqForget (d : Dev)
  /-- R142: The 1588 port's Ethernet link goes up or down, updating PT_STATUS.LINK_UP and raising LINK_CHANGE. -/
  | ptpLinkChange (up : Bool)
  /-- R309: A returning root member finishes copying the acting member's log, after which the acting member stops writing SOLO and MIRROR_OK is set. -/
  | ledgerCopyComplete (recs : List LedgerRec) (jobs : List JobCopy)
  /-- R113: The inputs of an ABSENT or LOST reference source become present again, and the source enters QUALIFYING. -/
  | referenceInputsPresent (src : Nat)
  deriving DecidableEq, Repr

end Sys2Proof
end

