-- ==== Sys2Proof/Config.lean ====
section
/-!
DEFINITION. What the spec leaves open and the model keeps free: opaque constants with no body, so no statement can
rest on a value of them. Each is applied to what the value may depend on.
-/

namespace Sys2Proof.Config

/-- Free value (log 8): the content of an attic location that a power-on reset keeps (R377) and nothing
has written; the address is the argument. -/
opaque atticByte : Nat → BitVec 8

/-- Free value (log 18): bytes of the attic's header and servo history slots, whose layout R127 and R392 do not give; of the
address and of the bytes of the records that the two slots hold. -/
opaque servoByte : Nat → List (List (BitVec 8)) → BitVec 8

/-- Free value: what a core reads of a bay's LBC before its first correction has been applied (R59); of the bay. -/
opaque lbcUndefined : Nat → BitVec 64

/-- Free value (log 120): what an immediate correction of a bay (R59) measures of its return path, in 2⁻⁸ ns (R148); of the bay and the
free-running counter. -/
opaque pathReturn : Nat → Nat → Nat

/-- Free value (log 120): the canary code sampled at an immediate correction (R369); of the bay and the free-running counter. -/
opaque canaryCode : Nat → Nat → Nat

/-- Free value (log 107): the chain outputs that the X-masks of an image mask, whose format R381 does not give; of the section's
bytes, the slice and the shift cycle. -/
opaque xMask : List (BitVec 8) → Nat → Nat → BitVec 64

/-- Free value (log 52): what a scan dump shifts out; of the device and the free-running counter. -/
opaque scanWord : Bool → Nat → BitVec 64

/-- Free value (log 111): the subsystem vendor and device ID in the header of a flash copy (R422); of the copy. -/
opaque flashSubsystem : Nat → BitVec 32

/-- Free value (log 18): bytes of a link record that hardware wrote, whose layout R392 does not give; of the address and the
record's ASYM, APPLIED and sec. -/
opaque linkByte : Nat → Int → Nat → Nat → BitVec 8

/-- Free value (log 18): bytes that the directory of R392 takes at the start of the image cache. -/
opaque dirBytes : Nat

/-- Free value (log 18): bytes of that directory, whose layout R392 does not give; of the address and the entries' image, kind, length
and offset. -/
opaque dirByte : Nat → List (Nat × Nat × Nat × Nat) → BitVec 8

/-- Free value (log 125): the MRAM cannot correct what an AT_DATA read finds (R395); of the address and the free-running counter. -/
opaque mramFault : Nat → Nat → Bool

/-- Free value (log 19): the slots that the descriptor's engine map, or weight-server map, holds under an epoch, as a package
DX-D knows them (R383 does not say how the maps reach it); of the epoch and the kind of server. -/
opaque jobSlots : Nat → Bool → List Nat

/-- Free value (log 19): the slots listed as spares for the job of an epoch (R304); of the epoch and the kind of server. -/
opaque spareSlots : Nat → Bool → List Nat

/-- Free value (log 68): the slot whose package takes the RANK of an ADMIT image (R384); of the epoch and the RANK. -/
opaque admitSlot : Nat → Nat → Nat

end Sys2Proof.Config
end

