-- ==== Sys2Proof/Machine/Bits.lean ====
section
/-!
DEFINITION. Bit fields of registers, signed values, the serial arithmetic of R38 to R40 and big-endian bytes.
-/

namespace Sys2Proof.Machine

/-- Bits [lo + n − 1 : lo] of a register. -/
def fld (w : Word) (lo n : Nat) : Nat := (w.toNat / 2 ^ lo) % 2 ^ n

/-- One bit of a register. -/
def bit (w : Word) (i : Nat) : Bool := (w.toNat / 2 ^ i) % 2 == 1

/-- A register built from fields: (lowest bit, value). -/
def wd (fs : List (Nat × Nat)) : Word := BitVec.ofNat 64 (fs.foldl (fun a f => a + f.2 * 2 ^ f.1) 0)

/-- A register with one bit set. -/
def bitW (i : Nat) : Word := BitVec.ofNat 64 (2 ^ i)

/-- A Bool as a bit. -/
def b2n (b : Bool) : Nat := if b then 1 else 0

/-- The two's complement reading of an n-bit value. -/
def sx (n v : Nat) : Int := if v % 2 ^ n < 2 ^ (n - 1) then (v % 2 ^ n : Nat) else (v % 2 ^ n : Nat) - (2 ^ n : Nat)

/-- The n-bit two's complement form of an integer. -/
def ux (n : Nat) (i : Int) : Nat := (i % (2 ^ n : Nat)).toNat

/-- Saturation to ±(2^(n−1) − 1) (or the full negative limit is never used, R62). -/
def satS (n : Nat) (i : Int) : Int := max (-(2 ^ (n - 1) - 1 : Nat)) (min i (2 ^ (n - 1) - 1 : Nat))

/-- Saturating 16-bit count. -/
def sat16 (n : Nat) : Nat := min n 0xFFFF

/-- Saturating 32-bit count. -/
def sat32 (n : Nat) : Nat := min n 0xFFFFFFFF

/-- (a − b) mod 2^n read as a signed value: the serial comparison of R39, R71 and R227. -/
def serial (n a b : Nat) : Int := sx n ((a + (2 ^ n - b % 2 ^ n)) % 2 ^ n)

/-- The check of R38 on a full 64-bit target. -/
def inWindow (now target : Nat) : Bool :=
  let d := serial 64 target now
  decide (-(2 ^ 47 : Nat) < d ∧ d < (2 ^ 47 : Nat))

/-- R40: the full target nearest to `now` with these 48 low bits. -/
def extend48 (now t48 : Nat) : Nat := (((now : Int) + serial 48 t48 now) % (2 ^ 64 : Nat)).toNat

/-- The step number nearest to `ref` whose low 16 bits are given (R225, TALLY and SCORE payloads). -/
def extend16 (ref s16 : Nat) : Nat := (((ref : Int) + serial 16 s16 ref) % (2 ^ 48 : Nat)).toNat

/-- R39: a target is reached. -/
def reached (now target : Nat) : Bool := decide (0 ≤ serial 48 now target)

/-- Clamp to a range. -/
def clampI (i lo hi : Int) : Int := max lo (min i hi)

/-- `n` bytes of a value, most significant first (R68). -/
def bytesBE : Nat → Nat → List Byte
  | 0, _ => []
  | n + 1, v => BitVec.ofNat 8 (v / 2 ^ (8 * n)) :: bytesBE n v

/-- The value of bytes, most significant first. -/
def natBE (bs : List Byte) : Nat := bs.foldl (fun a b => a * 256 + b.toNat) 0

/-- Bytes from offset `o`, `n` of them. -/
def sub (bs : List Byte) (o n : Nat) : List Byte := (bs.drop o).take n

/-- The big-endian number in bytes `o` to `o + n − 1`. -/
def be (bs : List Byte) (o n : Nat) : Nat := natBE (sub bs o n)

/-- Rounded division, halves toward zero (R117). -/
def roundHalfZero (a b : Int) : Int :=
  if b ≤ 0 then 0 else
  if 0 ≤ a then (2 * a + b - 1) / (2 * b) else -((2 * (-a) + b - 1) / (2 * b))

/-- Rounded division, halves away from zero (R103). -/
def roundHalfAway (a b : Int) : Int :=
  if b ≤ 0 then 0 else
  if 0 ≤ a then (2 * a + b) / (2 * b) else -((2 * (-a) + b) / (2 * b))

end Sys2Proof.Machine
end

