-- ==== Sys2Proof/Machine/Table.lean ====
section
/-!
DEFINITION. Sparse arrays as plain data: a list of (key, value) pairs with keys strictly rising and no entry equal to
the default that an unlisted key reads as, so that equal arrays are equal lists.
-/

namespace Sys2Proof.Machine

/-- The value at key `k`, the default where nothing is listed. -/
def tabGet {α : Type} (dflt : α) : List (Nat × α) → Nat → α
  | [], _ => dflt
  | (j, v) :: t, k => if j = k then v else tabGet dflt t k

/-- The table without key `k`. -/
def tabErase {α : Type} : List (Nat × α) → Nat → List (Nat × α)
  | [], _ => []
  | (j, v) :: t, k => if j = k then tabErase t k else (j, v) :: tabErase t k

/-- Insert at the sorted place of a key the table does not list. -/
def tabInsert {α : Type} : List (Nat × α) → Nat → α → List (Nat × α)
  | [], k, v => [(k, v)]
  | (j, w) :: t, k, v => if k < j then (k, v) :: (j, w) :: t else (j, w) :: tabInsert t k v

/-- Write one key, keeping the canonical form: the default value is not listed. -/
def tabSet {α : Type} [DecidableEq α] (dflt : α) (t : List (Nat × α)) (k : Nat) (v : α) : List (Nat × α) :=
  if v = dflt then tabErase t k else tabInsert (tabErase t k) k v

/-- Change one key's value. -/
def tabMod {α : Type} [DecidableEq α] (dflt : α) (t : List (Nat × α)) (k : Nat) (f : α → α) : List (Nat × α) :=
  tabSet dflt t k (f (tabGet dflt t k))

/-- The canonical form: keys strictly rising, no entry equal to its key's default. -/
abbrev tabWf {α : Type} [DecidableEq α] (dflt : Nat → α) (t : List (Nat × α)) : Prop :=
  t.Pairwise (fun a b => a.1 < b.1) ∧ ∀ x ∈ t, x.2 ≠ dflt x.1

/-- The first element that satisfies a test, changed; the list unchanged where none does. -/
def listModify {α : Type} (p : α → Bool) (f : α → α) : List α → List α
  | [] => []
  | a :: t => if p a then f a :: t else a :: listModify p f t

/-- A list without its repeats. -/
def distinct {α : Type} [DecidableEq α] : List α → List α
  | [] => []
  | a :: t => if a ∈ distinct t then distinct t else a :: distinct t

/-- The numbers below `n`, in order. -/
def upTo (n : Nat) : List Nat := List.range n

end Sys2Proof.Machine
end

