-- ==== Sys2Proof/Machine/StateCom.lean ====
section
/-!
DEFINITION. The state that a TSU and a DX-D have in common: fuses, start, hall time, ports, register pages,
interrupt controller, self-test and test access (chapters 02, 03, 14 to 17).
-/

namespace Sys2Proof.Machine

/-- The TSU variants, 00_scope.md; FU_ID.KIND codes 3 to 6 (R375). -/
inductive TsuKind where
  | c
  | m
  | e
  | w
  deriving DecidableEq, Repr

/-- The fused values, R375, R96 and R378. -/
structure Fuses where
  kind : TsuKind := .c
  serial : Word := 0
  fieldClosed : Bool := false
  mac : Nat := 0
  ptpEgress : Nat := 0
  ptpIngress : Nat := 0
  map : List (Nat × Word) := []
  trim : List (Nat × Int) := []
  resetSig : Word := 0
  deriving DecidableEq, Repr

/-- What a fused unit-map word reads as where the state lists none (log 12): every unit works. -/
def Fuses.mapDflt : Word := BitVec.allOnes 64

/-- The start of a device: stage, sticky bits, images (chapter 16). -/
structure Boot where
  stage : Nat := 0
  fails : Nat := 0
  warm : Bool := false
  localFail : Bool := false
  reason : Nat := 0
  cellarReason : Nat := 0
  readyUs : Nat := 0
  startTimeout : Nat := 2000
  source : Nat := 0
  flashCopy : Nat := 0
  fw : FwEntry := ⟨0, 0, 0, 0⟩
  loadedImage : Nat := 0
  loadedCrc : Nat := 0
  localAddr : Nat := 0
  /-- boot_local_addr, the reset value of BO_LOCAL -/
  localTie : Nat := 0
  starts : Nat := 0
  imagesDiscarded : Nat := 0
  localFails : Nat := 0
  firstUp : Option Nat := none
  applyDone : Bool := false
  /-- chunks held per image identifier, R380 -/
  chunks : List (Nat × List (Nat × List Byte)) := []
  /-- the complete image that waits for its application, R381 -/
  image : Option (List Byte) := none
  /-- JOB and ADMIT images held until READY, R393 -/
  heldJob : Option (List Byte) := none
  heldAdmit : Option (List Byte) := none
  /-- the JOB image held since its application, and the new epoch for which it is due to be applied again (R266, R383) -/
  jobImage : Option (List Byte) := none
  again : Option Nat := none
  /-- the new epoch of the image being applied, where that image is applied again -/
  applying : Option Nat := none
  /-- a PLAYBOOK section that waits until the threads stop, R381 -/
  deferred : Option (List Byte) := none
  /-- X-masks after the twelve signatures of a GOLDEN section, R359 -/
  xmasks : List Byte := []
  /-- the ports that an image on its way down has taken since its header, which all its chunks follow (R382) -/
  routes : List (Nat × List Nat) := []
  /-- chunks that came while slice 11 was under test (R361) -/
  heldChunks : List ConfigF := []
  deriving DecidableEq, Repr

/-- Presented hall time and what the TK page shows (chapter 02). -/
structure Time where
  sec : Nat := 0
  ns : Nat := 0
  frac : Nat := 0
  /-- the part of a frac LSB that the oscillator has counted, in 2⁻³⁵ frac LSB (R124) -/
  nco : Nat := 0
  /-- core A − core B in 2⁻³⁵ frac LSB, as the two oscillators have carried it on since its last measurement (R49, R50) -/
  delta : Int := 0
  htValid : Bool := false
  state : Nat := 0
  keeper : Nat := 2
  everKept : Bool := false
  rootHoldover : Bool := false
  traceable : Bool := false
  originLocal : Bool := false
  utcValid : Bool := false
  utcOffset : Int := 0
  /-- TK_CORE_DIFF, R50 -/
  diff : Int := 0
  splitCount : Nat := 0
  coreSplit : Bool := false
  /-- the FORCE in effect, R48 -/
  force : Option Nat := none
  /-- the residual r of R49, R117 and R119 in frac LSBs, and the part of an LSB the pull has moved -/
  r : Int := 0
  rPart : Nat := 0
  /-- a pull runs: PULL_DONE follows when r reaches 0 -/
  pulling : Bool := false
  /-- REF_FAR latch of R118 -/
  freqOnly : Bool := false
  /-- TK_NOW_SUB snapshots per requester, R62 -/
  snap : List (Nat × Option (Nat × Nat)) := []
  /-- an accepted origin step: the second s it follows and STEP_DELTA, R73 -/
  stepPend : Option (Nat × Int) := none
  /-- the step last taken, until a TIME frame without STEP_PENDING follows it (R73) -/
  stepped : Option (Nat × Int) := none
  /-- the root's wished second, R43 -/
  originSet : Option Nat := none
  sideline : Bool := false
  /-- SIDE_CONFLICT holds the DX-D in COLD, R19 -/
  sideConflict : Bool := false
  deriving DecidableEq, Repr

/-- A servo with its lock counters: one per TSU time core, one in a DX-D (R45, R121). -/
structure Core where
  st : Nat := 0
  acc : Int := 0
  y : Int := 0
  e : Int := 0
  inBand : Nat := 0
  outBand : Nat := 0
  lockedAt : Option Nat := none
  /-- FIT_RUNNING of R129 -/
  fit : Bool := false
  /-- the servo runs (after the first fit or the attic's rate, R129) -/
  running : Bool := false
  /-- left out of service by a LBIST mismatch, R365 -/
  off : Bool := false
  deriving DecidableEq, Repr

/-- A delay probe sent and not yet answered, R78. -/
structure ProbeOut where
  id : Nat
  t1 : Nat
  at_ : Nat
  deriving DecidableEq, Repr

/-- A frame in an output queue: the port it came from, if it was received, and when it was queued (R84, R85). -/
structure QFrame where
  f : Frame
  src : Option Nat
  at_ : Nat
  deriving DecidableEq, Repr

/-- A frame as it stands on the wire, R67. -/
structure WireFrame where
  hdr : LinkHdr
  frame : Frame
  deriving DecidableEq, Repr

/-- Training and calibration of a port, R76 to R81. -/
structure Training where
  count : Nat := 0
  ref : Option TrainF := none
  ackSent : Bool := false
  ackCount : Nat := 0
  topologyError : Bool := false
  sideConflict : Bool := false
  requests : Nat := 0
  probes : List ProbeOut := []
  nextId : Nat := 0
  lastReq : Nat := 0
  downs : List Int := []
  ups : List Int := []
  calDoneSent : Bool := false
  calDoneRcvd : Bool := false
  /-- requests that wait for a reply: the request and its stamp t2 -/
  toAnswer : List (ProbeF × Nat) := []
  excursion : Bool := false
  /-- the last whole second at which APPLIED was moved, R81 -/
  lastSec : Nat := 0
  deriving DecidableEq, Repr

/-- Reliable delivery and flow on a port, R82 to R85. -/
structure Reliable where
  seqTx : Nat := 0
  retained : List (Nat × Frame) := []
  resend : List (Nat × Frame) := []
  seqRx : Nat := 0
  nakOut : Bool := false
  nakIn : Bool := false
  nakSince : Nat := 0
  nakTries : Nat := 0
  holdCIn : Bool := false
  holdBIn : Bool := false
  /-- control frames in the output queue (R85), and those that wait at their producer for room (R84) -/
  ctl : List QFrame := []
  ctlWait : List QFrame := []
  /-- control frames accepted from the peer that wait in the receive buffer while one before them waits for room (R84) -/
  rxBuf : List Frame := []
  bulk : List QFrame := []
  lq : List Frame := []
  /-- slots since the last L frame, R85 -/
  sinceL : Nat := 64
  deriving DecidableEq, Repr

/-- The probe of R296 that a parent runs on a port: when it began, requests sent, requests answered, heartbeats. -/
structure MemberProbe where
  from_ : Nat
  epoch : Nat
  sent : Nat
  answered : Nat
  beats : Nat
  lateOk : Bool
  deriving DecidableEq, Repr

/-- One port: a lane end, fibre port or pair link end (chapter 03). -/
structure Port where
  st : Nat := 0
  enable : Bool := false
  peerPort : Nat := 0
  peerKind : Nat := 0
  peerLevel : Nat := 0
  peerSide : Nat := 0
  peerFw : FwEntry := ⟨0, 0, 0, 0⟩
  /-- the version of the BOOT image last sent to the lane, R305 -/
  bootFw : Option FwEntry := none
  downReason : Nat := 0
  downAt : Nat := 0
  /-- the receiver or module reports a signal; at reset the spec gives no value and the model has one (DESIGN CHOICE, log 42) -/
  signal : Bool := true
  flaps : List Nat := []
  flapHold : Bool := false
  tr : Training := {}
  mean : Nat := 0
  applied : Nat := 0
  appliedUp : Nat := 0
  alpha : Int := 0
  rel : Reliable := {}
  hbMissed : Nat := 0
  hbFrom : Nat := 0
  hbCount : Nat := 0
  hbSentAt : Nat := 0
  crcErr : Nat := 0
  nakSent : Nat := 0
  epochDrop : Nat := 0
  unknownType : Nat := 0
  crcAt : List Nat := []
  event : Word := 0
  eventEn : Word := 0
  /-- the last TIME frame received in UP: SENDER decides whether the port is a source (R44) -/
  lastTime : Option TimeF := none
  /-- the last HEARTBEAT with the EPOCH it carried -/
  peerHb : Option (HeartbeatF × Nat) := none
  wire : Option WireFrame := none
  probe : Option MemberProbe := none
  deriving DecidableEq, Repr

/-- A stamp of the interrupt controller, R348. -/
structure Stamp where
  bc : Nat := 0
  frac : Nat := 0
  htValid : Bool := false
  atWake : Bool := false
  deriving DecidableEq, Repr

/-- One interrupt source, R345 to R351. -/
structure IcSrc where
  st : Nat := 0
  target : Nat := 0
  enable : Bool := false
  watch : Bool := false
  count : Nat := 1
  time : Nat := 0
  /-- raises counted in GATHER, and the beats counted at entry into GATHER (`Com.beats`) -/
  rc : Nat := 0
  from_ : Nat := 0
  /-- raises and a rising edge not yet taken by the controller -/
  raised : Nat := 0
  edge : Bool := false
  stamp : Stamp := {}
  by_ : Nat := 0
  deriving DecidableEq, Repr

/-- An entry of the MSI-X table of BAR2, R402: message address, data, and its mask. -/
structure MsixEntry where
  addr : Nat := 0
  data : Nat := 0
  masked : Bool := false
  deriving DecidableEq, Repr

/-- The interrupt controller, chapter 14. -/
structure Ic where
  deliver : Bool := true
  asleep : Bool := false
  src : List (Nat × IcSrc) := []
  /-- ic_fitted, sampled with the straps (R340): bit t says that target t's core is on the die -/
  fitted : Nat := 255
  tEnable : List (Nat × Bool) := []
  tStamp : List (Nat × Option (Nat × Stamp)) := []
  stray : Nat := 0
  local_ : Word := 0
  wake : Bool := false
  /-- rises the watcher recorded, with their stamps, R353 -/
  recorded : List (Nat × Option Stamp) := []
  /-- target outputs as last seen, and MSI-X messages sent per vector, R340 -/
  out : List (Nat × Bool) := []
  msix : List (Nat × Nat) := []
  /-- BAR2 of the management PCIe port, R402: the table, and the pending bit of each vector -/
  msixTable : List (Nat × MsixEntry) := []
  msixPending : List (Nat × Bool) := []
  deriving DecidableEq, Repr

/-- A slice under test, R361. `by_` is the thread that asked (none: BT_RUN) with its result register. -/
structure SliceWin where
  start : Nat
  slice : Nat
  compare : Bool
  by_ : Option (Thread × Nat)
  isolated : Bool
  latched : Bool
  restored : Bool
  outcome : Nat
  reason : Nat
  /-- the rise credit at isolation, R366 -/
  credit : Nat
  isolatedAt : Nat
  /-- the PRPG, R359 -/
  prpg : Word
  deriving DecidableEq, Repr

/-- A register access that waits for a slice's release, R361; `bad`: one of a size or alignment that R397 drops. -/
structure HeldAccess where
  rq : Nat
  addr : Nat
  write : Bool
  v : Word
  bad : Bool
  deriving DecidableEq, Repr

/-- Self-test and ageing, chapter 15. -/
structure Bt where
  mismatch : Bool := false
  goldenValid : Bool := false
  baseValid : Bool := false
  slice : Nat := 0
  outcome : Nat := 0
  reason : Nat := 0
  step : Nat := 0
  sig : List (Nat × Word) := []
  golden : List (Nat × Word) := []
  passes : Nat := 0
  mismatches : Nat := 0
  refusals : Nat := 0
  ageValid : Bool := false
  worst : Nat := 0
  index : Nat := 0
  ageSec : Nat := 0
  gate : Option Nat := none
  lastPeriodic : Nat := 0
  ro : List (Nat × OscPair) := []
  replan : Nat := 0
  margin : List (Nat × Nat) := []
  low : List (Nat × Nat) := []
  base : List (Nat × Nat) := []
  win : Option SliceWin := none
  held : List HeldAccess := []
  deriving DecidableEq, Repr

/-- The field fuse and the test port, R371 and R372. -/
structure TestAccess where
  armed : Option Nat := none
  blowing : Option Nat := none
  /-- the 1149.1 instruction in force: 0 BYPASS, 1 IDCODE, 2 other public, 3 scan dump, 4 override -/
  ins : Nat := 0
  overrideOn : Bool := false
  /-- forced registers: address, value, and the bits that are not forced -/
  ovr : List (Nat × Word × Word) := []
  /-- what the last scan dump shifted out -/
  scan : Option Word := none
  /-- vpp_fuse stands at 1.71 V or more (R424) -/
  vpp : Bool := false
  deriving DecidableEq, Repr

/-- Identity by which a receiver knows a second copy, R71, within the frame's epoch (log 96). -/
inductive SeenId where
  | censusDn (epoch kind slot step attempt outcome : Nat)
  | config (image chunk : Nat)
  | score (epoch kind fragment step attempt port : Nat)
  | tally (epoch die lane window half step attempt : Nat)
  deriving DecidableEq, Repr

/-- An interpolator, R94 and R95: its passed calibration (c1s, c2s), and when the edge it took last was timed, in tenths of a ns
of HT. -/
structure Interp where
  cal : Option (Nat × Nat) := none
  busy : Option Nat := none
  deriving DecidableEq, Repr

/-- One channel of the TDC, R94 to R99. -/
structure Chan where
  tap : Nat := 0x3FF
  missed : Nat := 0
  invalid : Nat := 0
  /-- the interpolators, and the one that takes the next edge (R94) -/
  units : List (Nat × Interp) := []
  next : Nat := 0
  fails : Nat := 0
  /-- a TAP write that takes effect later, R99 -/
  pend : Option (Nat × Nat) := none
  deriving DecidableEq, Repr

/-- One stop of a class D measurement, R100. -/
structure Stop where
  got : Option Nat := none
  bad : Bool := false
  /-- stamps of the channel that came before the start's, R100 -/
  early : List Nat := []
  sum : Int := 0
  last : Int := 0
  noEdge : Bool := false
  invalid : Bool := false
  deriving DecidableEq, Repr

/-- One measurement set, R100 to R106. -/
structure MSet where
  st : Nat := 0
  error : Nat := 0
  count : Nat := 0
  fitD : Nat := 0
  fitY : Int := 0
  fitPpt : Int := 0
  w : Nat := 0
  /-- repeats that have closed -/
  done : Nat := 0
  start : Option Nat := none
  startBad : Bool := false
  stops : List (Nat × Stop) := []
  /-- class F: stamps wanted, edges seen since the first stamp, first and last stamp, sums S0 and S1, void marks -/
  n : Nat := 0
  edge : Nat := 0
  first : Nat := 0
  last : Nat := 0
  s0 : Int := 0
  s1 : Int := 0
  voidEdge : Bool := false
  voidTime : Bool := false
  deriving DecidableEq, Repr

/-- A fit that hardware runs on its own (R105): the channel, F_NOM in mHz, E, and the run. -/
structure HwFit where
  ch : Nat
  fnom : Nat
  e : Nat
  run : MSet := {}
  deriving DecidableEq, Repr

/-- State common to the two products. -/
structure Com where
  fuse : Fuses := {}
  boot : Boot := {}
  /-- beats since the release of reset: the free-running counter -/
  up : Nat := 0
  /-- beats of presented HT, or of the free-running counter while HT_VALID = 0, as timers count them (R347, R368) -/
  beats : Nat := 0
  tk : Time := {}
  coreA : Core := {}
  coreB : Core := {}
  ports : List (Nat × Port) := []
  chans : List (Nat × Chan) := []
  msets : List (Nat × MSet) := []
  /-- fits of hardware's own by their key: 10 MHz inputs, bays, first fits (R105) -/
  hfits : List (Nat × Option HwFit) := []
  /-- RW fields of registers, by byte offset in the register window; an unlisted one holds its reset value -/
  regs : List (Nat × Word) := []
  pgEvent : List (Nat × Word) := []
  pgEn : List (Nat × Word) := []
  badAccess : List (Nat × Nat) := []
  lockRefused : List (Nat × Nat) := []
  /-- the held key of a locked page, 0 while unlocked (R405, R406) -/
  lockKey : List (Nat × Nat) := []
  ic : Ic := {}
  bt : Bt := {}
  ta : TestAccess := {}
  /-- BAR0 halves, R403: a captured read and a held low half, each with its address -/
  barCap : Option (Nat × Word) := none
  barLow : Option (Nat × Nat) := none
  /-- the last read response per requester -/
  rsp : List (Nat × Word) := []
  /-- ORIGIN_SEQ last acted on and when, R71 -/
  oseq : Option (Nat × Nat) := none
  seen : List (SeenId × Nat) := []
  /-- CENSUS_TREE in use and, in a TSU, its own notice: cause and when last sent (R239) -/
  censusTree : Nat := 0
  deriving DecidableEq, Repr

end Sys2Proof.Machine
end

