-- ==== Sys2Proof/Machine/StateTsu.lean ====
section
/-!
DEFINITION. The state that only a TSU has: step records, membership, cue engine, cells, posts, huddles, key port,
tallies, bays and stockroom (chapters 06 to 13).
-/

namespace Sys2Proof.Machine

/-- A schedule block with its defaults applied, R167. -/
structure Sched where
  firstStep : Nat := 0
  firstKickoff : Nat := 0
  period : Nat := 0
  minPeriod : Nat := 0
  armLead : Nat := 0
  slip : Nat := 0
  quantum : Nat := 0
  stepTimeout : Nat := 0
  runAhead : Nat := 0
  maxAttempt : Nat := 0
  lateWindow : Nat := 0
  policyStop : Bool := false
  deriving DecidableEq, Repr

/-- Step states, R178. -/
inductive StepSt where
  | armed
  | launched
  | done
  | committed
  | calledOff
  | failed
  deriving DecidableEq, Repr

/-- The decision taken at K − 512, R180. -/
inductive Decision where
  | fire
  | held
  | withheld
  deriving DecidableEq, Repr

/-- A step record, R178. `k` is the full BC of the kickoff in effect. -/
structure StepRec where
  step : Nat
  attempt : Nat
  epoch : Nat
  k : Nat
  st : StepSt
  accepted : Bool
  released : Bool
  decision : Option Decision
  /-- a re-time came too late: the step fails at K (R175) -/
  missed : Bool
  checkpoint : Bool
  reorigin : Bool
  /-- step leave L, and whether it returns at the next grant tick (R330) -/
  leave : Nat
  leaveReturn : Bool
  /-- bound by arm (R197), in the lead set, and returned by kick (R198) -/
  bound : Bool
  inLead : Bool
  returned : Bool
  deriving DecidableEq, Repr

/-- Membership and schedule of a TSU (chapters 07 and 12). Epoch 0 means none (R299). -/
structure Member where
  epoch : Nat := 0
  /-- the epoch the TSU waits to join, R302 -/
  nextEpoch : Option Nat := none
  fenced : Bool := false
  die : Nat := 0
  dieValid : Bool := false
  expected : Option Nat := none
  /-- the reason of the last ARM_REFUSED, R174: 1 NOT_LOCKED, 2 TOO_LATE, 3 RUN_AHEAD_FULL; 0 none yet -/
  armReason : Nat := 0
  /-- highest attempt seen per step, plus 1 (R173) -/
  attempts : List (Nat × Nat) := []
  launchedInEpoch : Bool := false
  firstArmed : Option Nat := none
  firstStep : Nat := 0
  /-- highest step known to be committed, for the predecessor condition of freed records (R180) -/
  committed : Option Nat := none
  lastLaunched : Nat := 0
  lastAttempt : Nat := 0
  sched : Sched := {}
  gS : Nat := 0
  gK : Nat := 0
  period : Nat := 0
  late : Nat := 0
  lateFlag : Bool := false
  /-- arms and launches nothing more until the next join, R187 -/
  ownFailed : Bool := false
  gapOpen : Bool := true
  curStep : Nat := 0
  curAttempt : Nat := 0
  curK : Nat := 0
  /-- since when both lanes are without a source, R293 -/
  sourceless : Option Nat := none
  deriving DecidableEq, Repr

/-- What a waiting thread waits for. -/
inductive WaitOn where
  | beat (target : Nat)
  | arm (pd : Nat)
  | kick (pd : Nat)
  | hawait (pd slot : Nat)
  | cwait (cell rank : Nat)
  | credit (slot : Nat) (fp : Word)
  | bist (pd : Nat)
  deriving DecidableEq, Repr

/-- The current step of a thread. -/
structure CurStep where
  epoch : Nat
  step : Nat
  attempt : Nat
  k : Nat
  deriving DecidableEq, Repr

/-- A thread: state 0 STOPPED, 1 RUNNING, 2 WAITING, 3 HALTED, 4 FAULT (R193, R214). -/
structure Thr where
  st : Nat := 0
  pc : Nat := 0
  fault : Nat := 0
  handler : Nat := 0
  cur : Option CurStep := none
  t : Option Nat := none
  wait : Option WaitOn := none
  deriving DecidableEq, Repr

/-- An event for a thread that a slice under test holds back (R205): its handler is taken, its wait ends, or it faults. -/
inductive HeldEv where
  | handler
  | resume
  | fault (code : Nat)
  deriving DecidableEq, Repr

/-- The cue engine and its store, chapter 08. -/
structure Engine where
  run : Thr := {}
  lead : Thr := {}
  p : List (Nat × Word) := []
  store : List (Nat × CueWord) := []
  faultWord : Nat := 0
  faultLead : Bool := false
  faultPc : Nat := 0
  waitLate : Nat := 0
  kickLate : Nat := 0
  leadLate : Nat := 0
  probeSkip : Nat := 0
  withdrawn : Option Nat := none
  /-- steps (with attempt) that reached DONE before arm bound them and that arm has not yet passed over (R197) -/
  passed : List (Nat × Nat) := []
  /-- events held for the threads while a slice is under test (R205) -/
  held : List (Thread × HeldEv) := []
  pbIndex : Nat := 0
  pbBusy : Bool := false
  pbCrc : Option Nat := none
  corrected : Nat := 0
  lastIndex : Nat := 0
  deriving DecidableEq, Repr

/-- Who registered a waiter, R219. -/
inductive WOwner where
  | fabric (rq : Nat)
  | thread (th : Thread)
  deriving DecidableEq, Repr

/-- A waiter, R218. -/
structure Waiter where
  need : Nat
  owner : WOwner
  deriving DecidableEq, Repr

/-- A signal cell, R218. `granted` holds bit r for rank r (R216). -/
structure Cell where
  count : Int := 0
  held : List (Nat × Nat) := []
  waiters : List (Nat × Option Waiter) := []
  granted : Nat := 0
  deriving DecidableEq, Repr

/-- A wake message, R222. -/
structure Wake where
  cell : Nat
  rank : Nat
  granted : Bool
  owner : WOwner
  deriving DecidableEq, Repr

/-- An outbound stream, R224. -/
structure StreamOut where
  dest : Nat := 0
  depart : Nat := 0
  seq : Nat := 0
  deriving DecidableEq, Repr

/-- An inbound stream, R224. -/
structure StreamIn where
  source : Nat := 0
  arrived : Nat := 0
  next : Nat := 0
  deriving DecidableEq, Repr

/-- A post in the bullpen or at the port: when it arrived, and whether its CRC holds (R227 to R229). -/
structure HeldPost where
  post : RPost
  at_ : Nat
  crcOk : Bool := true
  deriving DecidableEq, Repr

/-- A request to the cells or the streams that waits for a context operation or a slice, R217 and R361. -/
inductive CellReq where
  | post (rq c n : Nat)
  | postt (rq c r : Nat)
  | add (rq c : Nat) (d : Int)
  | wait (rq c r need : Nat)
  | reset (rq c : Nat)
  | test (rq c : Nat)
  | granted (rq c : Nat)
  | bad
  | badRead (rq : Nat)
  | depart (st : Nat)
  | arrive (st tag : Nat)
  | cwait (th : Thread) (c r need : Nat)
  | remote (st cell n : Nat) (targeted : Bool) (rank : Nat)
  deriving DecidableEq, Repr

/-- Cells, streams, posts and the context switch, chapter 09. -/
structure Signals where
  cells : List (Nat × Cell) := []
  wakes : List Wake := []
  /-- the last response of a TEST or GRANTED read, per requester -/
  sOut : List (Nat × StreamOut) := []
  sIn : List (Nat × StreamIn) := []
  gen : Nat := 0
  bullpen : List HeldPost := []
  /-- posts the remote-post port has not yet taken, with their arrival (R228, R366) -/
  port : List HeldPost := []
  /-- the record of the last post that left, R225 -/
  rpostOut : List Byte := []
  compact : Bool := false
  ctxBusy : Bool := false
  ctxSave : Bool := false
  ctxLoad : Bool := false
  ctxResult : Nat := 0
  /-- what the last SAVE wrote, in cell order (R232) -/
  saved : List CtxCell := []
  waitingReqs : List CellReq := []
  stalePost : Nat := 0
  waitBusy : Nat := 0
  badAccess : Nat := 0
  postCrc : Nat := 0
  deriving DecidableEq, Repr

/-- A huddle entered, R236. `out` is its end: outcome and count. -/
structure Huddle where
  slot : Nat
  epoch : Nat
  step : Nat
  attempt : Nat
  fp : Word
  out : Option (Nat × Nat)
  deriving DecidableEq, Repr

/-- The huddle agent, R244, and the census entries this TSU has sent and not seen resolved (R238). -/
structure Huddles where
  entered : List Huddle := []
  creditWait : Bool := false
  lastOutcome : Nat := 0
  lastSlot : Nat := 0
  lastCount : Nat := 0
  lastStep : Nat := 0
  misfitValid : Bool := false
  misfitSlot : Nat := 0
  misfitStep : Nat := 0
  misfitFp : Word := 0
  census : List CensusUpF := []
  /-- entries that wait for LOCKED: no other time state answers a census (R44) -/
  held : List CensusUpF := []
  /-- entries and results that wait for the release of slice 7 (R361) -/
  heldUp : List CensusUpF := []
  heldDn : List CensusDnF := []
  deriving DecidableEq, Repr

/-- A key-port response, R263. -/
structure KpRsp where
  valid : Bool
  data : Word
  tag : Nat
  deriving DecidableEq, Repr

/-- The key port, chapter 10. -/
structure KeyPort where
  seed : W128 := 0
  seedIndex : Nat := 0
  jobValid : Bool := false
  jobNumber : Nat := 0
  mapClass : Nat := 0
  ws : Nat := 0
  engines : Nat := 0
  fits : Bool := false
  applied : Bool := false
  kept : Nat := 0
  curValid : Bool := false
  curStep : Nat := 0
  bad : Nat := 0
  fp : List Byte := []
  digest : List Byte := []
  /-- a load under R266 in progress, and the requests held over it -/
  loading : Bool := false
  waiting : List (Nat × Nat) := []
  rsp : List (Nat × Option KpRsp) := []
  /-- the epoch for which the JOB image is loaded, R302 -/
  loadedEpoch : Nat := 0
  deriving DecidableEq, Repr

/-- A tally lane: configuration as effective, step string, R274. -/
structure Lane where
  cfg : Word := 0
  str : List Byte := []
  units : Nat := 0
  last : W128 := 0
  deriving DecidableEq, Repr

/-- The probe windows a playbook asked for, R206: windows `first` to `first + count − 1` of each lane of the mask, and how
many of them have closed per lane. -/
structure ProbeReq where
  step : Nat
  attempt : Nat
  first : Nat
  count : Nat
  lanes : List Nat
  deriving DecidableEq, Repr

/-- What one probe window of the running step has tallied so far, R284. -/
structure Window where
  lane : Nat
  w : Nat
  str : List Byte
  units : Nat
  deriving DecidableEq, Repr

/-- A record of the local ring, R285. -/
structure RingRec where
  step : Nat
  attempt : Nat
  lane : Nat
  sent : Bool
  closing : Bool
  window : Nat
  tally : W128
  units : Nat
  load : Nat
  temp : Int
  deriving DecidableEq, Repr

/-- Tallies, scorecards and probe windows of a TSU, chapter 11. -/
structure Tallies where
  lanes : List (Nat × Lane) := []
  gapFlag : Bool := false
  unsent : Bool := false
  gapWords : Nat := 0
  feedRefused : Nat := 0
  overrun : Nat := 0
  /-- scorecards held, newest first, and the step of the newest -/
  cards : List (List Byte) := []
  lastStep : Nat := 0
  probes : List ProbeReq := []
  /-- per lane, the lowest window of the running step that has not closed (R284) -/
  closedTo : List (Nat × Nat) := []
  windows : List Window := []
  ring : List (Nat × Option RingRec) := []
  newest : Nat := 0
  ringHeld : Nat := 0
  /-- closing records that wait for room, R284: ring index and frames -/
  closingWait : List (Nat × List Frame) := []
  lsCtl : Word := 0
  deriving DecidableEq, Repr

/-- A clock bay, chapter 06 and R55 to R59. -/
structure Bay where
  lbcValid : Bool := false
  refLoss : Bool := false
  dead : Bool := false
  stopped : Bool := false
  /-- the TSU asserts the bay's stop request (R156, R335) -/
  stopReq : Bool := false
  freq : Nat := 0
  urgent : Bool := false
  cur : Nat := 0
  /-- the FREQ_MHZ that the bay still runs at after a re-plan, until its next change (R370) -/
  mhz : Option Nat := none
  mon : Nat := 0
  temp : Int := -128
  path : Nat := 0
  pathSum : Nat := 0
  pathN : Nat := 0
  edges : Nat := 0
  stretched : Nat := 0
  units : Nat := 0
  u : Nat := 0
  inc : Nat := 0
  incNext : Option Nat := none
  gateB : Nat := 0
  gateU : Option Nat := none
  gateN : Nat := 0
  /-- a correction on its way: the next edge takes it (R57), and latches U with its B (R145) -/
  pendCorr : Option Nat := none
  latchB : Nat := 0
  latchU : Nat := 0
  /-- the last correction sent: B -/
  corr : Option Nat := none
  lbc : Nat := 0
  debt : Nat := 0
  fit : Int := 0
  changes : Nat := 0
  urgentChanges : Nat := 0
  deferred : Nat := 0
  recentresSkipped : Nat := 0
  deriving DecidableEq, Repr

/-- The change sequence of a bay set, R156: 0 none, 1 emptying crossings, 2 stop requested, 3 retuning. -/
structure BaySet where
  phase : Nat := 0
  point : Nat := 0
  /-- an urgent change that waits for the kickoff, R154 -/
  afterKick : Bool := false
  /-- bays that have acknowledged their stop, and when -/
  acked : List (Nat × Nat) := []
  resumed : List Nat := []
  since : Nat := 0
  /-- the bays that the change started with: SET may be written while it runs (R155) -/
  members : List Nat := []
  deriving DecidableEq, Repr

/-- A crossing, R158: fields as effective, slip count, stalls. -/
structure Xing where
  cfg : Word := 0
  stalls : Nat := 0
  peak : Nat := 0
  slip : Int := 0
  /-- slots still to be withheld by the sender and to be skipped by the receiver: stalls never merge (R159) -/
  sndHold : Nat := 0
  rcvSkip : Nat := 0
  /-- slots are withheld for a re-centring until this beat of the free-running counter (R160) -/
  quietTo : Nat := 0
  deriving DecidableEq, Repr

/-- The bay supervisor. -/
structure Bays where
  bay : List (Nat × Bay) := []
  sets : List (Nat × BaySet) := []
  xing : List (Nat × Xing) := []
  deriving DecidableEq, Repr

/-- A queued step-leave action, R194 and R331: resv of w watts, or rels (w = none); the thread that issued it, and when. -/
structure LeaveReq where
  step : Nat
  w : Option Nat
  thread : Thread
  at_ : Nat
  deriving DecidableEq, Repr

/-- A requester port, R326. -/
structure StPort where
  pending : Bool := false
  req : Nat := 0
  held : Nat := 0
  wait : Nat := 0
  /-- presented and not yet taken: the watts of a request and when, and when releases were presented -/
  newReq : Option (Nat × Nat) := none
  newRel : List Nat := []
  /-- the last answer: 0 none, 1 grant, 2 refused -/
  answer : Nat := 0
  deriving DecidableEq, Repr

/-- The stockroom, chapter 13. Credit in mW. -/
structure Stock where
  port : List (Nat × StPort) := []
  g : Nat := 0
  credit : Nat := 0
  ceiling : Nat := 0
  eEff : Nat := 0
  leaveQ : List LeaveReq := []
  dark : Bool := false
  derated : Bool := false
  bump : Bool := false
  droop : Bool := false
  overEnv : Bool := false
  lost : Nat := 0
  zeros : List (Nat × Nat) := []
  v : List Nat := []
  gs : List Nat := []
  abnormal : Nat := 0
  ticks : Nat := 0
  lastTick : Nat := 0
  residual : Int := 0
  reqRefused : Nat := 0
  leaveShort : Nat := 0
  droopTicks : Nat := 0
  peak : Nat := 0
  peakStock : Nat := 0
  stockDue : Bool := false
  /-- the BC period in which the last periodic STOCK went, plus 1 -/
  reported : Nat := 0
  deriving DecidableEq, Repr

/-- Signals the TSU drives at a kickoff, R181: the bays strobed and the beat; kick_out of a TSU-W. -/
structure KickPins where
  at_ : Nat := 0
  bays : Nat := 0
  /-- launch instants of the bays' strobes in 2⁻⁸ ns: K less each bay's PATH_DELAY (R148) -/
  launch : List (Nat × Int) := []
  /-- kick_out, and the beat of the free-running counter at which it rose: it is high for 8 ns (R410) -/
  out : Nat := 0
  since : Nat := 0
  deriving DecidableEq, Repr

/-- The TSU's own state. -/
structure Tsu where
  steps : List StepRec := []
  mem : Member := {}
  cue : Engine := {}
  sg : Signals := {}
  hd : Huddles := {}
  kp : KeyPort := {}
  tl : Tallies := {}
  by_ : Bays := {}
  st : Stock := {}
  kick : KickPins := {}
  deriving DecidableEq, Repr

end Sys2Proof.Machine
end

