-- ==== Sys2Proof/Machine/StateDxd.lean ====
section
/-!
DEFINITION. The state that only a DX-D has: references and servo, outputs, the 1588 port, census engine, score
combiner, lock-step store, referee and ledger, attic (chapters 05, 09, 11, 12, 16).
-/

namespace Sys2Proof.Machine

/-- Sampled straps, R16. -/
structure Straps where
  role : Nat := 0
  side : Nat := 0
  level : Nat := 0
  /-- where the installation puts the pair (R21; log 14): its pair index as in BENCH TARGET, and the subtree -/
  pair : Nat := 0
  wsTree : Bool := false
  /-- TSU-equivalents of the weight-server slots that a compatible endpoint occupies (R33; log 14); 4 where unlisted -/
  endpoints : List (Nat × Nat) := []
  deriving DecidableEq, Repr

/-- Per reference source, R112 and R113: 0 ABSENT, 1 QUALIFYING, 2 QUALIFIED, 3 LOST. -/
structure RefSrc where
  qual : Nat := 0
  /-- consecutive good fits or seconds -/
  good : Nat := 0
  /-- 1PPS misses in succession -/
  misses : Nat := 0
  /-- the last 1PPS: its offset p from the whole second, and q from the 10 MHz edge, frac LSBs (R110) -/
  p : Int := 0
  q : Option Int := none
  ppsSeen : Bool := false
  todValid : Bool := false
  tod : Nat := 0
  todAt : Nat := 0
  /-- the beat of the free-running counter at which `tod` was counted last (R111) -/
  todUp : Nat := 0
  /-- in the running fit's second: 1PPS edges, and one that was missing, displaced or unsteady; 10 MHz edges since the last 1PPS
  (R112) -/
  secEdges : Nat := 0
  secBad : Bool := false
  edges : Nat := 0
  /-- at the last 1PPS: the nearest second of HT less the counted time of day (R43) -/
  secOff : Int := 0
  /-- has been QUALIFIED since reset: then it reads LOST and not ABSENT without inputs (R113) -/
  everQual : Bool := false
  deriving DecidableEq, Repr

/-- The selector, R114 and R115. -/
structure Ref where
  src : List (Nat × RefSrc) := []
  followed : Nat := 0xF
  pendingActive : Bool := false
  fellBack : Bool := false
  /-- the next sample is the first of a newly followed source, R117 -/
  fresh : Bool := false
  /-- r is taken again with no change of source: after an origin step (R118), OSC_LOSS or a forced HOLDOVER -/
  retake : Bool := false
  phi0 : Int := 0
  deriving DecidableEq, Repr

/-- A servo history record, R127: `sel` holds ACTIVE, FB0 to FB3 and the followed source, which only a root writes. -/
structure HistRec where
  seq : Nat
  sec : Nat
  rate : Int
  sel : Option (Nat × Nat × Nat)
  crc : Nat
  deriving DecidableEq, Repr

/-- Holdover, R125 to R129. -/
structure Hold where
  means : List Int := []
  sumY : Int := 0
  nY : Nat := 0
  /-- the running second is left out of the average: not LOCKED in all of it, or a residual or FREQ_ONLY in it (R125) -/
  skip : Bool := true
  meanSec : Nat := 0
  rate : Int := 0
  avail : Bool := false
  src : Nat := 0
  noHistory : Bool := false
  profile : Nat := 4
  history : Word := 0
  lastRecord : Nat := 0
  /-- the attic record was usable when HT was loaded, R128 -/
  usable : Bool := false
  oscLost : Bool := false
  /-- the first Sync of a first fit: its t1 and t2, and when it came (R129) -/
  syncFirst : Option (Int × Int × Nat) := none
  /-- the last fit of the oscillator input (R105): its ppt; none before the first, or where it was void -/
  oscPpt : Option Int := none
  deriving DecidableEq, Repr

/-- One output, R132 to R134. -/
structure OutPin where
  pend : Option Nat := none
  aligned : Bool := false
  delayWritten : Bool := false
  delay : Int := 0
  error : Int := 0
  misaligned : Bool := false
  alignedAt : Nat := 0
  deriving DecidableEq, Repr

/-- A PTP port instance, R136 and R142. -/
structure PtpInst where
  state : Nat := 3
  gm : Nat := 0
  steps : Nat := 0
  /-- the grandmaster's announced data, used by R137 -/
  ann : Option PtpMsg := none
  annAt : Nat := 0
  syncAt : Nat := 0
  /-- t2 − correction of a two-step Sync that waits for its Follow_Up, and the last Sync's t1 and t2 in frac LSBs -/
  waitFu : Option (Nat × Nat × Int) := none
  t1 : Int := 0
  t2 : Int := 0
  /-- sent Delay_Req / Pdelay_Req: sequence and departure stamp -/
  req : Option (Nat × Nat) := none
  reqAt : Option Nat := none
  /-- Pdelay_Resp received: t2, t4 and correction, waiting for its follow-up -/
  presp : Option (Int × Int × Int) := none
  meanPath : Int := 0
  offset : Int := 0
  /-- since when the instance has been in SLAVE with its grandmaster, and how many whole seconds from then on have had a Sync, one
  after the other (R112) -/
  slaveFrom : Nat := 0
  slaveSecs : Nat := 0
  /-- the channel-202 stamp of the last Sync or Pdelay_Resp sent, which its follow-up carries (R138) -/
  txStamp : Int := 0
  /-- a received Delay_Req or Pdelay_Req that waits for its response: sequence and arrival -/
  rxReq : Option (Nat × Int) := none
  /-- the last message the instance sent, as it left -/
  sent : Option PtpMsg := none
  deriving DecidableEq, Repr

/-- The 1588 port, R142. -/
structure Ptp where
  linkUp : Bool := false
  i1 : PtpInst := {}
  i2 : PtpInst := {}
  txCheck : Nat := 0
  deriving DecidableEq, Repr

/-- A kickoff a DX-D knows from an ARM it forwarded, R132 and R182. -/
structure KnownKick where
  epoch : Nat
  step : Nat
  attempt : Nat
  k : Nat
  accepted : Bool
  committed : Bool
  withdrawn : Bool
  strobed : Bool
  deriving DecidableEq, Repr

/-- The identity of a census, R233. -/
structure CensusId where
  kind : Nat
  slot : Nat
  step : Nat
  attempt : Nat
  epoch : Nat
  deriving DecidableEq, Repr

/-- A child's latest entry, R74. -/
structure Entry where
  port : Nat
  count : Nat
  fp : Nat
  deriving DecidableEq, Repr

/-- A census slot in use, R237 to R241. -/
structure Census where
  id : CensusId
  entries : List Entry
  /-- counts of the misfit reports received or judged -/
  misfits : List Nat
  /-- ports already judged -/
  judged : List Nat
  sent : Bool
  waiting : Bool
  deriving DecidableEq, Repr

/-- A logged misfit, R245. -/
structure MisfitLog where
  slot : Nat
  step : Nat
  port : Nat
  count : Nat
  die : Nat
  deriving DecidableEq, Repr

/-- A member lane of a package DX-D under an epoch: its lane, die identifier and whether it has joined (R305). -/
structure LaneMember where
  port : Nat
  die : Nat
  joined : Bool
  reported : Bool
  deriving DecidableEq, Repr

/-- An epoch served below this DX-D: ports that lead to members, groups, member lanes and the admission limit. -/
structure Served where
  epoch : Nat
  ports : List Nat
  /-- group g: (LCA, EXPECT), R235 -/
  groups : List (Nat × (Bool × Nat))
  loaded : Bool
  table : List Nat
  members : List LaneMember
  deadline : Nat
  deriving DecidableEq, Repr

/-- A combination of scores in progress, R279 to R281. -/
structure Combine where
  epoch : Nat
  step : Nat
  attempt : Nat
  /-- fragments: port, fragment, data -/
  frags : List (Nat × Nat × List Byte)
  /-- complete values: port and value (COMBINED of a member, or a child's sum) -/
  vals : List (Nat × Nat)
  corrupt : List Nat
  sent : Bool
  deriving DecidableEq, Repr

/-- A window or closing record held at the root, R286. -/
structure LsRec where
  epoch : Nat
  step : Nat
  attempt : Nat
  die : Nat
  lane : Nat
  window : Nat
  hi : Option Nat
  lo : Option Nat
  deriving DecidableEq, Repr

/-- A lock-step entry's check state; X, Y, Z and LANES are register fields (R291). -/
structure LsEntry where
  valid : Bool := false
  refused : Bool := false
  reason : Nat := 0
  /-- the steps decided under the sides' present epochs, R286 -/
  done : List Nat := []
  deriving DecidableEq, Repr

/-- A logged divergence, R291. -/
structure LsDiv where
  confirmed : Bool
  step : Nat
  window : Nat
  lane : Nat
  pair : Nat
  side : Nat
  rankX : Nat
  position : Nat
  deriving DecidableEq, Repr

/-- Scores and lock-step at a DX-D, chapter 11. -/
structure Scores where
  combos : List Combine := []
  corrupt : Nat := 0
  stray : Nat := 0
  hallValid : Bool := false
  hallStep : Nat := 0
  hall : List Byte := []
  ent : List (Nat × LsEntry) := []
  recs : List LsRec := []
  /-- steps already compared: epoch and step -/
  compared : List (Nat × Nat) := []
  agree : Nat := 0
  skew : Nat := 0
  diverged : Nat := 0
  unmatched : Nat := 0
  div : List LsDiv := []
  deriving DecidableEq, Repr

/-- A step of a job at the root. -/
structure RStep where
  step : Nat
  attempt : Nat
  k : Nat
  epoch : Nat
  checkpoint : Bool
  reorigin : Bool
  /-- the ARM has left (its record is durable) -/
  sent : Bool
  armDone : Bool
  accepted : Bool
  doneDone : Bool
  launched : Bool
  withdrawn : Bool
  committed : Bool
  hall : Option (List Byte)
  /-- the check at K − 10,000 has been made for the present K -/
  checked : Bool
  /-- COMMIT record written -/
  committing : Bool
  deriving DecidableEq, Repr

/-- Why and where a paused job stands, R312 to R314. -/
structure Pause where
  /-- CALL_OFF reason, 0 where none was sent -/
  reason : Nat
  /-- the CALL_OFF's STEP -/
  step : Nat
  /-- beat of the CALL_OFF send -/
  callAt : Nat
  /-- members to bench or renew: kind, target, reason -/
  targets : List (Nat × Nat × Nat)
  /-- the 200,000-beat wait has still to end -/
  waiting : Bool
  /-- the last BENCH or RENEW left at this beat -/
  benchAt : Option Nat
  /-- a BENCH waits for a near kickoff (R313): the beat it may go -/
  deferTo : Option Nat
  endsEpoch : Bool
  /-- the ADMIT_LEAD of that BENCH -/
  lead : Nat
  deriving DecidableEq, Repr

/-- A job slot at the root, R317 to R321. State 0 FREE to 5 ENDED. -/
structure Job where
  slot : Nat
  state : Nat
  result : Nat
  benched : Nat
  epoch : Nat
  job : Nat
  seedIndex : Nat
  seed : Nat
  mapClass : Nat
  engines : Nat
  ws : Nat
  digest : List Byte
  fp : List Byte
  ckptInterval : Nat
  groups : List Nat
  cold : Bool
  engineMap : List Nat
  wsMap : List Nat
  sched : Sched
  gS : Nat
  gK : Nat
  period : Nat
  late : Nat
  nextStep : Nat
  armFrom : Nat
  steps : List RStep
  committedTo : Option Nat
  marks : List Nat
  pause : Option Pause
  ending : Option Nat
  /-- SUSTAINED_LATE stop: no further ARM (R185) -/
  stopArms : Bool
  /-- SUSTAINED_LATE is raised, until the next step that is not behind (R185) -/
  lateFlag : Bool := false
  deriving DecidableEq, Repr

/-- A message that waits for its ledger record, R307, and the downstream ports it goes to. -/
structure LedgerMsg where
  seq : Nat
  frame : Frame
  ports : List Nat
  deriving DecidableEq, Repr

/-- The ledger, R306 to R310. -/
structure Ledger where
  recs : List LedgerRec := []
  /-- SEQ of records written and not yet durable -/
  open_ : List Nat := []
  head : Nat := 0
  next : Nat := 1
  exported : Nat := 0
  mirrorOk : Bool := false
  solo : Bool := false
  msgs : List LedgerMsg := []
  deriving DecidableEq, Repr

/-- A fence report held at the root, R295. -/
structure Report where
  kind : Nat
  target : Nat
  reason : Nat
  sender : Nat
  epoch : Nat
  at_ : Nat
  deriving DecidableEq, Repr

/-- A spare entry, R304 and R321. -/
structure Spare where
  valid : Bool := false
  ws : Bool := false
  slot : Nat := 0
  bestClass : Nat := 0
  deriving DecidableEq, Repr

/-- The referee, chapter 12. -/
structure Referee where
  acting : Bool := false
  jobs : List Job := []
  lastEpoch : Nat := 0
  oseqNext : Nat := 0
  oseqReserved : Nat := 0
  reports : List Report := []
  unpaired : Nat := 0
  benchReason : Nat := 0
  benchKind : Nat := 0
  benchTarget : Nat := 0
  benchedDevs : List (Nat × Nat) := []
  /-- slots benched and not listed again (R301): weight server, slot -/
  benchedSlots : List (Bool × Nat) := []
  complaint : Nat := 0
  complaintDie : Nat := 0
  complaintAt : Nat := 0
  spares : List (Nat × Spare) := []
  /-- tree notices current at the root: side, sender, last arrival (R239) -/
  notices : List (Nat × Nat × Nat) := []
  stocks : List (Nat × StockF) := []
  fenced : Bool := false
  /-- fence reports this DX-D has sent: kind, target, reason, epoch -/
  sentReports : List (Nat × Nat × Nat × Nat) := []
  /-- own tree notice: when last sent (R239) -/
  noticeAt : Option Nat := none
  deriving DecidableEq, Repr

/-- A directory entry of the attic, R392 and R395. -/
structure DirEntry where
  image : Nat
  kind : Nat
  length : Nat
  offset : Nat
  deriving DecidableEq, Repr

/-- The attic and its page. Unlisted bytes read `Config.atticByte` (log 8). -/
structure Attic where
  bytes : List (Nat × Option Byte) := []
  offset : Nat := 0
  result : Nat := 0
  resultImage : Nat := 0
  dir : List DirEntry := []
  /-- the servo state record slots: a place (0 or 1) and what it holds -/
  slots : List (Nat × HistRec) := []
  /-- link records: channel to (ASYM, last APPLIED, HT sec) -/
  links : List (Nat × Option (Int × Nat × Nat)) := []
  /-- version-only image entry 5, R391 -/
  version5 : FwEntry := ⟨0, 0, 0, 0⟩
  deriving DecidableEq, Repr

/-- Census engine of a DX-D, chapter 09. -/
structure CensusEng where
  open_ : List Census := []
  peak : Nat := 0
  log : List MisfitLog := []
  credits : Nat := 63
  /-- misfit reports that came before any entry of their identity, and when (R241) -/
  early : List (CensusId × Nat × CensusUpF) := []
  served : List Served := []
  deriving DecidableEq, Repr

/-- The identity that the management PCIe port presents, R422. -/
structure PcieId where
  vendor : Nat := 0x1E9C
  device : Nat := 0xDA0D
  revision : Nat := 0xB0
  classCode : Nat := 0x088000
  subsystem : Nat
  msixVectors : Nat := 4
  deriving DecidableEq, Repr

/-- The DX-D's own state. -/
structure Dxd where
  straps : Straps := {}
  rf : Ref := {}
  hold : Hold := {}
  outs : List (Nat × OutPin) := []
  pt : Ptp := {}
  kicks : List KnownKick := []
  /-- the step-frame strobe's last edge -/
  strobeAt : Nat := 0
  cs : CensusEng := {}
  tl : Scores := {}
  lg : Ledger := {}
  rf2 : Referee := {}
  at_ : Attic := {}
  /-- twin path and own path TIME offsets, for TK_CORE_DIFF (R62) -/
  ownOff : Option Int := none
  twinOff : Option Int := none
  /-- subsystem vendor and device ID of the management PCIe port, from the header of the flash copy that runs (R422) -/
  subsystem : Nat := 0
  deriving DecidableEq, Repr

end Sys2Proof.Machine
end

