-- ==== Sys2Proof/Machine/State.lean ====
section
/-!
DEFINITION. The block's state as plain data, why a step can stop, and the state after reset.
-/

namespace Sys2Proof.Machine

/-- Why the block stops with a fault. The spec describes none (every failure it names is a state of the device), so no
meaning raises one; the type has no constructor. -/
inductive Fault where
  deriving DecidableEq, Repr

/-- Why a command has no outcome. -/
inductive Refusal where
  /-- The arm of a command that has no meaning yet; raised by `exec` only. Safe: nothing can be proved of it. -/
  | notModelled (mnemonic : String)
  deriving DecidableEq, Repr

/-- The block: one TSU (`tc`, `t`) and one DX-D (`dc`, `x`), each at its own boundary (log 1), and the commands that
wait, first in, first out. A run from reset is that of one part (log 9). -/
structure State where
  tc : Com := {}
  t : Tsu := {}
  dc : Com := {}
  x : Dxd := {}
  pending : List Instr := []
  deriving DecidableEq, Repr

/-- The port sets of a device after reset: CONTROL.ENABLE is 1 on a lane, 0 on a fibre port (R91). -/
def resetPorts (d : Dev) : List (Nat × Port) :=
  match d with
  | .tsu => [(0, { enable := true }), (1, { enable := true })]
  | .dxd => []

/-- The block right after reset: both devices at the release of power-on reset, in stage FUSES (R378); the stockroom's credit is full,
48 W (R329, R338); a DX-D starts from flash (R394); no command waits. -/
def State.reset : State := { dc := { boot := { source := 2 } }, tc := { ports := resetPorts .tsu }, t := { st := { credit := 48000 } } }

end Sys2Proof.Machine
end

