-- ==== Sys2Proof/Machine/Pages.lean ====
section
/-!
DEFINITION. The page map of chapter 17: states, codes, instances, ends and defined event bits of every window page, the
sources of R343, and the pages a slice under test holds (R428).
-/

namespace Sys2Proof.Machine

/-- Page states, R399. -/
inductive PageSt where
  | op
  | dormant
  | void
  | absent
  deriving DecidableEq, Repr

/-- R400, TSU columns. -/
def pageStTsu (k : TsuKind) (pg : Nat) : PageSt :=
  if pg = 0x03 then (if k = .w then .void else .op)
  else if pg = 0x0B then (if k = .c ∨ k = .m then .op else .void)
  else if pg ≤ 0x0F then .op
  else if 0x20 ≤ pg ∧ pg ≤ 0x23 then .op
  else .absent

/-- R400, DX-D columns; role 2 is root, role 0 package. -/
def pageStDxd (role : Nat) (pg : Nat) : PageSt :=
  if pg = 0x0A ∨ pg = 0x12 ∨ pg = 0x15 ∨ pg = 0x1E then (if role = 2 then .op else .dormant)
  else if 0x1A ≤ pg ∧ pg ≤ 0x1D then (if role = 0 then .op else .void)
  else if pg = 0x00 ∨ pg = 0x02 ∨ pg = 0x09 ∨ (0x0C ≤ pg ∧ pg ≤ 0x11) ∨ pg = 0x13 ∨ pg = 0x14 ∨
      (0x16 ≤ pg ∧ pg ≤ 0x19) ∨ pg = 0x24 then .op
  else .absent

/-- The state of a page instance in a device. -/
def pageSt (d : Dev) (s : State) (pg : Nat) : PageSt :=
  match d with
  | .tsu => pageStTsu s.tc.fuse.kind pg
  | .dxd => pageStDxd s.x.straps.role pg

/-- CODE values, R400. -/
def pgCode (pg : Nat) : Nat :=
  match pg with
  | 0x00 => 0x544B | 0x01 => 0x4C4E | 0x02 => 0x5444 | 0x03 => 0x4259 | 0x04 => 0x4355 | 0x05 => 0x5042
  | 0x06 => 0x5347 | 0x07 => 0x4844 | 0x08 => 0x4B50 | 0x09 => 0x544C | 0x0A => 0x4C53 | 0x0B => 0x5354
  | 0x0C => 0x4943 | 0x0D => 0x4254 | 0x0E => 0x424F | 0x0F => 0x4655 | 0x10 => 0x5356 | 0x11 => 0x4F50
  | 0x12 => 0x5054 | 0x13 => 0x4353 | 0x14 => 0x4D42 | 0x15 => 0x4C47 | 0x16 => 0x4154 | 0x17 => 0x5550
  | 0x1E => 0x5246 | 0x24 => 0x5444
  | n => if 0x18 ≤ n ∧ n ≤ 0x1D then 0x444E else if 0x20 ≤ n ∧ n ≤ 0x23 then 0x5347 else 0

/-- The page index (window page of instance 0) and the instance, R399 and R401. -/
def pgIndexInst (pg : Nat) : Nat × Nat :=
  if 0x18 ≤ pg ∧ pg ≤ 0x1D then (0x18, pg - 0x18)
  else if 0x20 ≤ pg ∧ pg ≤ 0x23 then (0x06, pg - 0x1F)
  else if pg = 0x24 then (0x02, 1)
  else (pg, 0)

/-- R401: the window page of (index, instance), none where R400 lists no such pair. -/
def pgResolve (ix inst : Nat) : Option Nat :=
  if inst = 0 then (if ix ≤ 0x18 ∨ ix = 0x1E then some ix else none)
  else if ix = 0x06 ∧ inst ≤ 4 then some (0x1F + inst)
  else if ix = 0x18 ∧ inst ≤ 5 then some (0x18 + inst)
  else if ix = 0x02 ∧ inst = 1 then some 0x24
  else none

/-- INSTANCES of PG_ID, R404. -/
def pgInstances (d : Dev) (pg : Nat) : Nat :=
  match (pgIndexInst pg).1, d with
  | 0x06, _ => 5
  | 0x18, _ => 6
  | 0x02, .dxd => 2
  | _, _ => 1

/-- PG_CAPS.END: the last register's offset, R404 and R408. -/
def pgEnd (d : Dev) (pg : Nat) : Nat :=
  match pg, d with
  | 0x00, _ => 0x140 | 0x01, _ => 0x168 | 0x17, _ => 0x168
  | 0x02, .tsu => 0x800 + 8 * 0x2F | 0x02, .dxd => 0x100 + 0x80 * 15 + 0x78
  | 0x03, _ => 0xE00 + 8 * 31 | 0x04, _ => 0x1F8 | 0x05, _ => 0x118 | 0x06, _ => 0x130 | 0x07, _ => 0x118
  | 0x08, _ => 0x158 | 0x09, .tsu => 0x378 | 0x09, .dxd => 0x130 | 0x0A, .tsu => 0x130 | 0x0A, .dxd => 0x2F8
  | 0x0B, _ => 0x140 | 0x0C, _ => 0x800 + 8 * 255 | 0x0D, _ => 0x338 | 0x0E, _ => 0x130 | 0x0F, _ => 0x1F8
  | 0x10, _ => 0x178 | 0x11, _ => 0x130 | 0x12, _ => 0x138 | 0x13, _ => 0x198 | 0x14, _ => 0x150
  | 0x15, _ => 0x158 | 0x16, _ => 0x130 | 0x1E, _ => 0x130 | 0x24, _ => 0x100 + 8 * 259
  | n, _ => if 0x18 ≤ n ∧ n ≤ 0x1D then 0x100 + 0x40 * 31 + 0x28 else if 0x20 ≤ n ∧ n ≤ 0x23 then 0x8F8 else 0

/-- Defined bits of a page's PG_EVENT (R63, R91, R108, R131, R141, R142, R163, R213, R215, R243 to R245, R268, R288 to
R291, R322, R323, R339, R357, R374, R375, R394, R395). -/
def evMask (d : Dev) (pg : Nat) : Word :=
  match pg, d with
  | 0x00, _ => 0x1FF | 0x01, _ => 0x3 | 0x17, _ => 0x3
  | 0x02, .tsu => 0x7_000F_000F | 0x02, .dxd => 0x7_FFFF_FFFF
  | 0x03, _ => 0x3F_FFFF_FFFF_FFFF | 0x04, _ => 0x7FF | 0x05, _ => 0x3 | 0x06, _ => 0x7F | 0x07, _ => 0x3
  | 0x08, _ => 0x7 | 0x09, .tsu => 0x7 | 0x09, .dxd => 0x3 | 0x0A, .tsu => 0x1 | 0x0A, .dxd => 0x7
  | 0x0B, _ => 0x7F | 0x0C, _ => 0x1F | 0x0D, _ => 0x3F | 0x0E, _ => 0xF | 0x0F, _ => 0x3
  | 0x10, _ => 0xFFFFF | 0x11, _ => 0x3F | 0x12, _ => 0x7 | 0x13, _ => 0x3 | 0x14, _ => 0x3F
  | 0x15, _ => 0x7 | 0x16, _ => 0x7
  | n, _ => if 0x18 ≤ n ∧ n ≤ 0x1D then 0xFFFFFFFF else 0

/-- R343: the sources that exist; that of a void page is absent (R400). -/
def srcPresent (d : Dev) (s : State) (n : Nat) : Bool :=
  match d with
  | .tsu => decide ((n ≤ 0x0F ∧ pageStTsu s.tc.fuse.kind n = .op) ∨ (0x20 ≤ n ∧ n ≤ 0x2D))
  | .dxd => decide ((n = 0x00 ∨ n = 0x02 ∨ n = 0x09 ∨ n = 0x0A ∨ (0x0C ≤ n ∧ n ≤ 0x1D)) ∧
      pageStDxd s.x.straps.role n ≠ .void)

/-- R428: the pages that a slice holds (slice 5 also holds the cell window). -/
def sliceHolds (slice pg : Nat) : Bool :=
  match slice with
  | 2 => pg == 0x02 | 3 => pg == 0x04 || pg == 0x05 | 4 => pg == 0x03 | 5 => pg == 0x06
  | 6 => pg == 0x06 || (0x20 ≤ pg && pg ≤ 0x23) | 7 => pg == 0x07
  | 8 => pg == 0x08 || pg == 0x09 || pg == 0x0A | 9 => pg == 0x0B
  | 10 => true | 11 => pg == 0x0E || pg == 0x0F
  | _ => false

/-- R358: the slices of a variant. -/
def slicePresent (k : TsuKind) (slice : Nat) : Bool :=
  decide (slice < 12 ∧ ¬(slice = 4 ∧ k = .w) ∧ ¬(slice = 9 ∧ (k = .e ∨ k = .w)))

end Sys2Proof.Machine
end

