-- ==== Sys2Proof/Machine/Ops.lean ====
section
/-!
DEFINITION. The named operations on the state that every chapter uses: reaching a device, its registers and events,
hall time, and the admission of register accesses (chapters 02, 14 and 17).
-/

namespace Sys2Proof.Machine

/-! Reaching the parts of the state. -/

/-- The common state of a device. -/
def State.com (s : State) : Dev → Com
  | .tsu => s.tc
  | .dxd => s.dc

/-- Change the common state of a device. -/
def modCom (d : Dev) (f : Com → Com) (s : State) : State :=
  match d with
  | .tsu => { s with tc := f s.tc }
  | .dxd => { s with dc := f s.dc }

def modTk (d : Dev) (f : Time → Time) (s : State) : State := modCom d (fun c => { c with tk := f c.tk }) s
def modBoot (d : Dev) (f : Boot → Boot) (s : State) : State := modCom d (fun c => { c with boot := f c.boot }) s
def modIc (d : Dev) (f : Ic → Ic) (s : State) : State := modCom d (fun c => { c with ic := f c.ic }) s
def modBt (d : Dev) (f : Bt → Bt) (s : State) : State := modCom d (fun c => { c with bt := f c.bt }) s
def modT (f : Tsu → Tsu) (s : State) : State := { s with t := f s.t }
def modX (f : Dxd → Dxd) (s : State) : State := { s with x := f s.x }
def modMem (f : Member → Member) (s : State) : State := modT (fun t => { t with mem := f t.mem }) s
def modCue (f : Engine → Engine) (s : State) : State := modT (fun t => { t with cue := f t.cue }) s
def modSg (f : Signals → Signals) (s : State) : State := modT (fun t => { t with sg := f t.sg }) s
def modHd (f : Huddles → Huddles) (s : State) : State := modT (fun t => { t with hd := f t.hd }) s
def modKp (f : KeyPort → KeyPort) (s : State) : State := modT (fun t => { t with kp := f t.kp }) s
def modTl (f : Tallies → Tallies) (s : State) : State := modT (fun t => { t with tl := f t.tl }) s
def modBy (f : Bays → Bays) (s : State) : State := modT (fun t => { t with by_ := f t.by_ }) s
def modSt (f : Stock → Stock) (s : State) : State := modT (fun t => { t with st := f t.st }) s
def modRf (f : Ref → Ref) (s : State) : State := modX (fun x => { x with rf := f x.rf }) s
def modHold (f : Hold → Hold) (s : State) : State := modX (fun x => { x with hold := f x.hold }) s
def modPt (f : Ptp → Ptp) (s : State) : State := modX (fun x => { x with pt := f x.pt }) s
def modCs (f : CensusEng → CensusEng) (s : State) : State := modX (fun x => { x with cs := f x.cs }) s
def modScores (f : Scores → Scores) (s : State) : State := modX (fun x => { x with tl := f x.tl }) s
def modLg (f : Ledger → Ledger) (s : State) : State := modX (fun x => { x with lg := f x.lg }) s
def modRef (f : Referee → Referee) (s : State) : State := modX (fun x => { x with rf2 := f x.rf2 }) s
def modAt (f : Attic → Attic) (s : State) : State := modX (fun x => { x with at_ := f x.at_ }) s

/-- Port `p` of a device: TSU 0 lane A, 1 lane B; DX-D 0 to 191 downstream, 192 upstream A, 193 upstream B. -/
def State.port (s : State) (d : Dev) (p : Nat) : Port := tabGet {} (s.com d).ports p

def modPort (d : Dev) (p : Nat) (f : Port → Port) (s : State) : State :=
  modCom d (fun c => { c with ports := tabMod {} c.ports p f }) s

/-- The ports of a device that its registers show, R16 and R91. -/
def portShown (d : Dev) (s : State) (p : Nat) : Bool :=
  match d with
  | .tsu => decide (p < 2)
  | .dxd => decide (p = 192 ∨ p = 193 ∨ (if s.x.straps.role = 0 then p < 192 else p < 64))

/-- How many downstream ports of a DX-D are used: root ports 5 to 63 are not (R10), nor lanes 175 to 191 of an engine and 4
to 191 of a weight server, which stay in electrical idle (R20). -/
def usedPorts (s : State) : Nat :=
  match s.x.straps.role with
  | 0 => if s.x.straps.wsTree then 4 else 175
  | 2 => 5
  | _ => 64

/-- The ports of a device that carry a link, R10, R16 and R20. -/
def portExists (d : Dev) (s : State) (p : Nat) : Bool :=
  match d with
  | .tsu => decide (p < 2)
  | .dxd => decide (p = 192 ∨ p = 193 ∨ p < usedPorts s)

/-- R13: a DX-D port that is a pair link. In the root pair both upstream ports are. -/
def isPair (d : Dev) (s : State) (p : Nat) : Bool :=
  match d with
  | .tsu => false
  | .dxd => decide ((p = 192 ∨ p = 193) ∧
      (s.x.straps.role = 2 ∨ (s.x.straps.side = 0 ∧ p = 193) ∨ (s.x.straps.side = 1 ∧ p = 192)))

/-- The port to the parent of a DX-D below the root: port A of member A, port B of member B (R12). -/
def parentPort (s : State) : Nat := if s.x.straps.side = 0 then 192 else 193

/-- The pair-link port used for frames to the twin. -/
def twinPort (s : State) : Nat := if s.x.straps.side = 0 then 193 else 192

/-- A lane has 10-frame spacing and buffers of 12; every other port is a fibre port (R66, R84, R85). -/
def isLane (d : Dev) (s : State) (p : Nat) : Bool :=
  match d with
  | .tsu => true
  | .dxd => decide (p < 192 ∧ s.x.straps.role = 0)

/-! Hall time, R34 to R41. -/

/-- BC of the presented HT, R37. -/
def Time.bc (t : Time) : Nat := (t.sec * 1000000000 + t.ns) % 2 ^ 64

/-- BC[47:0]. -/
def Time.bc48 (t : Time) : Nat := t.bc % 2 ^ 48

/-- Presented HT as one count of frac LSBs, the form of a stamp (R92). -/
def Time.lsb (t : Time) : Nat := t.bc * 65536 + t.frac

/-- BC back to HT, R37. -/
def htOfBc (bc : Nat) : Nat × Nat × Nat := (bc / 1000000000 % 2 ^ 48, bc % 1000000000, 0)

/-- HT moved by a signed number of frac LSBs with the carries of R35. -/
def Time.addLsb (t : Time) (d : Int) : Time :=
  let total : Int := ((t.sec * 1000000000 + t.ns : Nat) : Int) * 65536 + (t.frac : Nat) + d
  let wrap : Int := (2 ^ 48 : Nat) * 1000000000 * 65536
  let m := (total % wrap).toNat
  { t with sec := m / 65536000000000, ns := m / 65536 % 1000000000, frac := m % 65536 }

/-- HT set to a count of frac LSBs (R47, R116). -/
def Time.load (t : Time) (lsb : Int) : Time :=
  Time.addLsb { t with sec := 0, ns := 0, frac := 0, htValid := true } lsb

/-! Events and interrupt sources, R342 to R353. -/

/-- The level of a source, R342. -/
def srcLevel (d : Dev) (s : State) (n : Nat) : Bool :=
  if n < 0x1E then tabGet 0 (s.com d).pgEvent n &&& tabGet 0 (s.com d).pgEn n != 0
  else if 0x20 ≤ n ∧ n ≤ 0x2D then d == .tsu && bit s.tc.ic.local_ (n - 0x20)
  else false

/-- Note a raise of source `n` for the interrupt controller; `was` is the level before. -/
def noteRaise (d : Dev) (n : Nat) (was : Bool) (s : State) : State :=
  if srcPresent d s n then
    modIc d (fun c => { c with src := tabMod {} c.src n (fun i =>
      { i with raised := if i.enable then i.raised + 1 else i.raised, edge := i.edge || !was }) }) s
  else s

/-- Hardware sets bits of a page's PG_EVENT; an enabled bit raises the page's source (R342). -/
def raiseMask (d : Dev) (pg : Nat) (m : Word) (s : State) : State :=
  if pageSt d s pg = .op ∧ pg ≠ 0x1E ∧ pg ≠ 0x24 ∧ ¬(0x20 ≤ pg ∧ pg ≤ 0x23) then
    let was := srcLevel d s pg
    let en := tabGet 0 (s.com d).pgEn pg &&& m
    let s1 := modCom d (fun c => { c with pgEvent := tabMod 0 c.pgEvent pg (· ||| m) }) s
    if en = 0 then s1 else noteRaise d pg was s1
  else s

/-- Hardware sets one bit. -/
def raise (d : Dev) (pg : Nat) (b : Nat) (s : State) : State := raiseMask d pg (bitW b) s

/-- Raise under a condition. -/
def raiseIf (c : Bool) (d : Dev) (pg b : Nat) (s : State) : State := if c then raise d pg b s else s

/-- The TSU sets a bit of IC_LOCAL, R344. -/
def raiseLocal (i : Nat) (s : State) : State :=
  let was := srcLevel .tsu s (0x20 + i)
  noteRaise .tsu (0x20 + i) was (modIc .tsu (fun c => { c with local_ := c.local_ ||| bitW i }) s)

/-- R348: the stamp of a capture now. -/
def stampNow (t : Time) (up : Nat) : Stamp :=
  if t.htValid then { bc := t.bc, frac := t.frac / 256 * 256, htValid := true }
  else { bc := up % 2 ^ 64, frac := 0, htValid := false }

/-- R341: the output of target `t`. -/
def icOutput (c : Ic) (t : Nat) : Bool :=
  c.deliver && tabGet false c.tEnable t &&
    c.src.any (fun x => x.2.st == 2 && x.2.target == t)

/-- The entry of BAR2's table for target `t`, R340 and R402. -/
def msixEntry (c : Ic) (t : Nat) : MsixEntry := tabGet {} c.msixTable (t - 4)

/-- The target outputs after a change; a rising output of targets 4 to 7 sends an MSI-X message in package role
(R340, `msi`), or sets its pending bit where its entry is masked (PRESUMED from PCI Express, log 111). -/
def icOutputs (msi : Bool) (c : Ic) : Ic :=
  (upTo 8).foldl (fun c t =>
    let o := icOutput c t
    let rise := o && !tabGet false c.out t
    { c with out := tabSet false c.out t o,
             msix := if msi && rise && 4 ≤ t && !(msixEntry c t).masked then tabMod 0 c.msix (t - 4) (· + 1) else c.msix,
             msixPending := if msi && rise && 4 ≤ t && (msixEntry c t).masked then tabSet false c.msixPending (t - 4) true
               else c.msixPending }) c

/-- Change the interrupt controller and bring its outputs up to date. -/
def icDo (d : Dev) (f : Ic → Ic) (s : State) : State :=
  modIc d (fun c => icOutputs (d == .dxd && s.x.straps.role == 0) (f c)) s

/-! Hall-time state changes that raise events, R63. -/

/-- A class F run between its first and its last stamp is voided by KEEPER_SWITCH or TIME_STEPPED (R104). -/
def voidFits (d : Dev) (s : State) : State :=
  let mark (x : MSet) : MSet :=
    if x.st = 2 ∧ 0 < x.n ∧ 0 < x.count ∧ x.count < x.n then { x with voidTime := true } else x
  modCom d (fun c => { c with
    msets := c.msets.map (fun x => (x.1, mark x.2)),
    hfits := c.hfits.map (fun x => (x.1, x.2.map (fun f => { f with run := mark f.run }))) }) s

/-- KEEPER_SWITCH (bit 3) or TIME_STEPPED (bit 7) is raised, R63 and R104. -/
def raiseTime (d : Dev) (b : Nat) (s : State) : State := raise d 0x00 b (voidFits d s)

/-- STATE of TK_TIME_STATUS becomes `n`. -/
def setTimeState (d : Dev) (n : Nat) (s : State) : State :=
  if (s.com d).tk.state = n then s
  else raise d 0x00 0 (modTk d (fun t => { t with state := n }) s)

/-- ROOT_HOLDOVER becomes `b`. -/
def setRootHoldover (d : Dev) (b : Bool) (s : State) : State :=
  if (s.com d).tk.rootHoldover = b then s
  else raise d 0x00 2 (modTk d (fun t => { t with rootHoldover := b }) s)

/-- TRACEABLE and ORIGIN_LOCAL become these. -/
def setTrace (d : Dev) (tr ol : Bool) (s : State) : State :=
  if (s.com d).tk.traceable = tr ∧ (s.com d).tk.originLocal = ol then s
  else raise d 0x00 1 (modTk d (fun t => { t with traceable := tr, originLocal := ol }) s)

/-! Register accesses, R397 to R406. -/

/-- The device is in CELLAR (STAGE 7, R394). -/
def inCellar (d : Dev) (s : State) : Bool := (s.com d).boot.stage == 7

/-- Count an access dropped under R397 or R403, if the addressed page is present. -/
def countBad (d : Dev) (pg : Nat) (s : State) : State :=
  if pageSt d s pg = .op ∨ pageSt d s pg = .dormant then
    modCom d (fun c => { c with badAccess := tabMod 0 c.badAccess pg (fun n => sat16 (n + 1)) }) s
  else s

/-- R403: a held low half that any other access of the PCIe requester follows is dropped and counted; the captured read
no longer pairs. -/
def dropHalf (d : Dev) (rq : Nat) (s : State) : State :=
  if d = .dxd ∧ rq = 4 then
    let s1 := match s.dc.barLow with
      | some (a, _) => countBad .dxd (a / 4096) { s with dc := { s.dc with barLow := none } }
      | none => s
    { s1 with dc := { s1.dc with barCap := none } }
  else s

/-- The slice is under test and isolated (R361). -/
def sliceIsolated (s : State) (n : Nat) : Bool :=
  match s.tc.bt.win with
  | some w => w.isolated && w.slice == n
  | none => false

/-- The requester's path to the register target works: the management PCIe port in package role only (R402, R418); in CELLAR a hall
or root DX-D is reached through IEEE 1149.1 alone (R388). -/
def reaches (d : Dev) (rq : Nat) (s : State) : Bool :=
  match d with
  | .tsu => true
  | .dxd => if rq = 4 then s.x.straps.role == 0 else s.x.straps.role == 0 || !inCellar .dxd s

/-- An access to this page waits for the release of the slice under test (R361, R428). -/
def isHeld (d : Dev) (pg : Nat) (s : State) : Bool :=
  match (s.com d).bt.win with
  | some w => w.isolated && sliceHolds w.slice pg
  | none => false

/-- Queue an access behind the slice under test. -/
def holdAccess (d : Dev) (a : HeldAccess) (s : State) : State :=
  modBt d (fun b => { b with held := b.held ++ [a] }) s

/-- CELLAR takes writes only on the BO, AT, IC and FU pages (R388), and BT_RUN, whose request R360 has it refuse (log 123). -/
def cellarTakes (pg off : Nat) : Bool := pg == 0x0C || pg == 0x0E || pg == 0x0F || pg == 0x16 || (pg == 0x0D && off == 0x100)

/-- The page takes a write: an operative one, or the header of a dormant one (R399). -/
def pageTakes (d : Dev) (s : State) (pg off : Nat) : Bool :=
  match pageSt d s pg with
  | .op => true
  | .dormant => decide (off < 0x100)
  | _ => false

/-- A write that has reached its page: page state, CELLAR, lock, then the register's effect (R399, R388, R406). -/
def applyWrite (d : Dev) (pg off : Nat) (f : State → State) (s : State) : State :=
  if !pageTakes d s pg off then s
  else if inCellar d s && !cellarTakes pg off then s
  else if tabGet 0 (s.com d).lockKey pg ≠ 0 ∧ (off = 0x20 ∨ off = 0x30 ∨ 0x100 ≤ off) then
    modCom d (fun c => { c with lockRefused := tabMod 0 c.lockRefused pg (fun n => sat16 (n + 1)) }) s
  else f s

/-- A 64-bit register write by requester `rq` (R398), with the effect `f` of the addressed register. -/
def admitWrite (d : Dev) (rq pg off : Nat) (v : Word) (f : State → State) (s : State) : State :=
  let s1 := dropHalf d rq s
  if !reaches d rq s then s
  else if isHeld d pg s1 then holdAccess d ⟨rq, pg * 4096 + off, true, v, false⟩ s1
  else applyWrite d pg off f s1

/-- A response to requester `rq`. -/
def respond (d : Dev) (rq : Nat) (v : Word) (s : State) : State :=
  modCom d (fun c => { c with rsp := tabSet 0 c.rsp rq v }) s

/-- A read that has reached its page: the value before the effect is returned (R398). -/
def applyRead (d : Dev) (rq pg : Nat) (v : Word) (f : State → State) (s : State) : State :=
  if pageSt d s pg = .op then f (respond d rq v s) else respond d rq 0 s

/-- R371: the fields that register override has written show what it wrote; the others stay live. -/
def shown (d : Dev) (a : Nat) (v : Word) (s : State) : Word :=
  match (s.com d).ta.ovr.find? (fun x => x.1 == a) with
  | some (_, w, live) => (v &&& live) ||| (w &&& ~~~live)
  | none => v

/-- A 64-bit register read by requester `rq` with value `v` and read effect `f`. -/
def admitRead (d : Dev) (rq pg off : Nat) (v : State → Word) (f : State → State) (s : State) : State :=
  let s1 := dropHalf d rq s
  if !reaches d rq s then s
  else if isHeld d pg s1 then holdAccess d ⟨rq, pg * 4096 + off, false, 0, false⟩ s1
  else applyRead d rq pg (shown d (pg * 4096 + off) (v s1) s1) f s1

/-! The RW register file. -/

/-- Reset values of RW registers that are not 0, by window address (chapters 02 to 17). `k` is the TSU's variant. -/
def regReset (d : Dev) (k : TsuKind) (a : Nat) : Word :=
  let pg := a / 4096
  let off := a % 4096
  match pg with
  | 0x00 => if off = 0x130 then wd [(16, 1000), (0, 160)] else if off = 0x138 then wd [(32, 5)] else 0
  | 0x02 => if 0x100 ≤ off ∧ off < (if d = .tsu then 0x300 else 0x900) ∧ off % 0x80 = 0 then wd [(0, 1000)] else 0
  | 0x03 => if off = 0x100 then wd [(32, 1024), (12, 10), (0, 1000)]
      else if off = 0x110 then wd [(0, 256)]
      else if 0x200 ≤ off ∧ off < 0x600 ∧ off % 0x40 = 0 then
        (if k = .c ∧ 12 ≤ (off - 0x200) / 0x40 then 0 else wd [(12, 1)])
      else if 0x600 ≤ off ∧ off < 0xE00 then
        (if off % 0x80 = 0 then wd [(63, 1), (0, 800)] else wd [(0, 800)]) else 0
  | 0x04 => if off = 0x100 then wd [(45, 1), (13, 1)] else 0
  | 0x0B => if off = 0x100 then (if k = .m then wd [(32, 60), (16, 8), (0, 60)] else wd [(32, 60), (16, 48), (0, 730)])
      else if off = 0x120 then wd [(32, 1024), (16, 30), (0, 16)] else 0
  | 0x0D => if off = 0x100 then wd [(62, 1)]
      else if off = 0x118 then wd [(32, 256), (0, 3600)] else 0
  | 0x10 => match off with
      | 0x120 => wd [(0, 10000)]
      | 0x128 => wd [(48, 50), (40, 16), (16, 25), (8, 64)]
      | 0x140 => 10000 | 0x148 => 109951163 | 0x150 => 100 | 0x158 => 10995
      | 0x160 => 10 | 0x168 => 13421773 | 0x170 => 250000000 | 0x178 => 68719476736000000
      | _ => 0
  | 0x11 => if off = 0x100 then wd [(16, 8)] else 0
  | 0x12 => if off = 0x100 then wd [(8, 128), (0, 128)]
      else if off = 0x108 then wd [(24, 0xFD), (16, 1), (8, 0xFD), (0, 3)] else 0
  | 0x14 => if off = 0x108 then wd [(32, 1000000), (16, 2500), (0, 240)] else 0
  | 0x1E => if off = 0x100 then wd [(20, 1), (16, 0xF), (12, 0xF), (8, 0xF), (4, 0xF), (0, 0xF)]
      else if off = 0x110 then wd [(32, 2000), (16, 20), (8, 8)] else 0
  | _ => 0

/-- The value of an RW register. -/
def State.reg (s : State) (d : Dev) (a : Nat) : Word := tabGet (regReset d s.tc.fuse.kind a) (s.com d).regs a

/-- Write the fields `mask` of an RW register; other bits keep their value. -/
def setReg (d : Dev) (a : Nat) (mask v : Word) (s : State) : State :=
  let w := (v &&& mask) ||| (s.reg d a &&& ~~~mask)
  modCom d (fun c => { c with regs := tabSet (regReset d s.tc.fuse.kind a) c.regs a w }) s

/-- A field of an RW register. -/
def State.regF (s : State) (d : Dev) (a lo n : Nat) : Nat := fld (s.reg d a) lo n

/-- "0 is taken as 1". -/
def orOne (n : Nat) : Nat := if n = 0 then 1 else n

end Sys2Proof.Machine
end

