-- ==== Sys2Proof/Machine/FitBase.lean ====
section
/-!
DEFINITION. Frequency fits (R102 to R105): the derived run, the edges it stamps, its result, and the fits that hardware runs on
its own channels for the servo and the bay supervisor.
-/

namespace Sys2Proof.Machine

/-- ps in frac LSBs times 1000: 1 ns is 65,536 LSBs. -/
def lsbToPs (l : Int) : Int := l * 1000 / 65536
def psToLsb (p : Int) : Int := p * 65536 / 1000

/-- The derived run of R102: n and d for a gate, a nominal frequency in mHz and a prescale. d is a u32: of a greater one its low 32
bits are taken (DESIGN CHOICE, log 112). -/
def fitRun (gateMs fnom e : Nat) : Nat × Nat :=
  let ge := gateMs * fnom / (1000 * 1000 * e)
  let dmin := (64 * fnom + e * 10 ^ 12 - 1) / (e * 10 ^ 12)
  let dd := max (max dmin ((ge + 65534) / 65535)) 1 % 2 ^ 32
  (ge / dd + 1, dd)

/-- q of R103. -/
def fitQ (n : Nat) (s0 s1 : Int) : Int := 6 * (2 * s1 - (n - 1 : Nat) * s0)

/-- FIT_Y and FIT_PPT of R103, for q > 0. -/
def fitResult (n dd e fnom : Nat) (s0 s1 : Int) : Int × Int :=
  let q := fitQ n s0 s1
  let m : Nat := n * (n * n - 1)
  let den := q * fnom
  let num : Int := ((dd * e * 256 * 10 ^ 12 * m : Nat) : Int) - den
  let y := clampI (roundHalfAway (num * (2 ^ 64 : Nat)) den) (-(2 ^ 63 : Nat)) ((2 ^ 63 : Nat) - 1)
  (y, (y * (10 ^ 12 : Nat) + (2 ^ 63 : Nat)) / (2 ^ 64 : Nat))

/-- The first multiple of 1,024 at or after `n`. -/
def nextMult (n : Nat) : Nat := (n + 1023) / 1024 * 1024

/-- TK_PULL.REMAINING is not 0. -/
def pullShown (d : Dev) (s : State) : Bool := lsbToPs (s.com d).tk.r != 0

/-- What an edge does to a class F run (R102 to R104): every d-th edge from the first at or after W is stamped. `now` is the BC at
which the edge is seen, which decides whether one without a stamp comes before W; `pulling` says that REMAINING is not 0. -/
def fitEdge (fnom e now : Nat) (pulling : Bool) (stamp : Option Nat) (x : MSet) : MSet :=
  if x.n ≤ x.count then x
  else if x.count = 0 then
    match stamp with
    | some t => if x.w * 65536 ≤ t then { x with count := 1, first := t, last := t, edge := 0, voidTime := pulling } else x
    | none => if x.w ≤ now then { x with voidEdge := true } else x
  else
    let k := x.edge + 1
    if k % (max 1 x.fitD) ≠ 0 then { x with edge := k }
    else match stamp with
      | none => { x with edge := k, voidEdge := true }
      | some t =>
        let dt := (t - x.first) / 256
        { x with edge := k, last := t, count := x.count + 1, s0 := x.s0 + dt, s1 := x.s1 + x.count * dt,
                 voidEdge := x.voidEdge || decide (2 * x.fitD * e * 10 ^ 12 * 65536 < (t - x.last) * fnom),
                 voidTime := x.voidTime || pulling }

/-- A fit of hardware's own begins at or after beat `w` (R105). -/
def newFit (ch fnom e gateMs w : Nat) : HwFit :=
  let r := fitRun gateMs fnom e
  { ch := ch, fnom := fnom, e := e, run := { st := 2, w := w, n := r.1, fitD := r.2 } }

/-- Start the fit that is kept under `key` in place of any that runs there. -/
def startFit (d : Dev) (key ch fnom e gateMs w : Nat) (s : State) : State :=
  modCom d (fun c => { c with hfits := tabSet none c.hfits key (some (newFit ch fnom e gateMs w)) }) s

/-- Abandon the fit under `key`. -/
def dropFit (d : Dev) (key : Nat) (s : State) : State := modCom d (fun c => { c with hfits := tabSet none c.hfits key none }) s

/-- The fit under `key`. -/
def State.hfit (s : State) (d : Dev) (key : Nat) : Option HwFit := tabGet none (s.com d).hfits key

/-- The channel number of a fit over the SOFs of TIME frames, which no channel stamps for it. -/
def sofFit : Nat := 0xFFFF

/-- The SOF of a TIME frame, for the fit under `key`. -/
def feedFit (d : Dev) (key : Nat) (stamp : Option Nat) (s : State) : State :=
  let p := pullShown d s
  let now := (s.com d).tk.bc
  modCom d (fun c => { c with hfits := c.hfits.map (fun x =>
    if x.1 = key then
      (x.1, x.2.map (fun f => if f.ch = sofFit then { f with run := fitEdge f.fnom f.e now p stamp f.run } else f)) else x) }) s

/-- How a run of hardware's own has ended: none while it lasts, else its ppt, or none where it was void (R104). -/
def HwFit.result (f : HwFit) : Option (Option Int) :=
  let x := f.run
  if x.voidEdge ∨ x.voidTime ∨ x.n < 3 then some none
  else if x.count < x.n then none
  else if fitQ x.n x.s0 x.s1 ≤ 0 then some none
  else some (some (fitResult x.n x.fitD f.e f.fnom x.s0 x.s1).2)

/-- The ended fit under `key`. -/
def fitEnd (d : Dev) (key : Nat) (s : State) : Option (Option Int) := (s.hfit d key).bind (·.result)

/-- Keys of the fits that hardware runs: a 10 MHz input, the oscillator input (R105), a bay, the first fit of a servo (R129). -/
def fitInput (i : Nat) : Nat := 0x20 + i
def fitOsc : Nat := 0x22
def fitBay (b : Nat) : Nat := b
def fitFirst (core : Nat) : Nat := 0x10 + core

end Sys2Proof.Machine
end

