-- ==== Sys2Proof/Machine/Crypto.lean ====
section
/-!
DEFINITION. The computations over bytes that the spec fixes: CRC-32 (R68), SHA-256 (FIPS 180-4, R250, R277 to R280),
DCG-128 (R259) and Tally-128 (R269).
-/

namespace Sys2Proof.Machine

/-- One shift of the reflected CRC-32 register, R68. -/
def crcShift (c : Nat) : Nat := if c % 2 = 1 then (c / 2) ^^^ 0xEDB88320 else c / 2

/-- One byte of the CRC-32. -/
def crcByte (c : Nat) (b : Byte) : Nat :=
  crcShift (crcShift (crcShift (crcShift (crcShift (crcShift (crcShift (crcShift (c ^^^ b.toNat))))))))

/-- The CRC-32 of R68: preset to ones, reflected, result complemented. -/
def crc32 (bs : List Byte) : Nat := (bs.foldl crcByte 0xFFFFFFFF) ^^^ 0xFFFFFFFF

/-- Rotation left of a 32-bit word. -/
def rotl32 (x n : Nat) : Nat := (x * 2 ^ n ||| x / 2 ^ (32 - n)) % 2 ^ 32

/-- Rotation right of a 32-bit word. -/
def rotr32 (x n : Nat) : Nat := rotl32 x (32 - n)

/-- The round constants of SHA-256. -/
def shaK : List Nat :=
  [0x428A2F98, 0x71374491, 0xB5C0FBCF, 0xE9B5DBA5, 0x3956C25B, 0x59F111F1,
   0x923F82A4, 0xAB1C5ED5, 0xD807AA98, 0x12835B01, 0x243185BE, 0x550C7DC3,
   0x72BE5D74, 0x80DEB1FE, 0x9BDC06A7, 0xC19BF174, 0xE49B69C1, 0xEFBE4786,
   0x0FC19DC6, 0x240CA1CC, 0x2DE92C6F, 0x4A7484AA, 0x5CB0A9DC, 0x76F988DA,
   0x983E5152, 0xA831C66D, 0xB00327C8, 0xBF597FC7, 0xC6E00BF3, 0xD5A79147,
   0x06CA6351, 0x14292967, 0x27B70A85, 0x2E1B2138, 0x4D2C6DFC, 0x53380D13,
   0x650A7354, 0x766A0ABB, 0x81C2C92E, 0x92722C85, 0xA2BFE8A1, 0xA81A664B,
   0xC24B8B70, 0xC76C51A3, 0xD192E819, 0xD6990624, 0xF40E3585, 0x106AA070,
   0x19A4C116, 0x1E376C08, 0x2748774C, 0x34B0BCB5, 0x391C0CB3, 0x4ED8AA4A,
   0x5B9CCA4F, 0x682E6FF3, 0x748F82EE, 0x78A5636F, 0x84C87814, 0x8CC70208,
   0x90BEFFFA, 0xA4506CEB, 0xBEF9A3F7, 0xC67178F2]

/-- The initial hash value of SHA-256. -/
def shaH : List Nat :=
  [0x6A09E667, 0xBB67AE85, 0x3C6EF372, 0xA54FF53A,
   0x510E527F, 0x9B05688C, 0x1F83D9AB, 0x5BE0CD19]

/-- The complement of a 32-bit word. -/
def not32 (x : Nat) : Nat := x ^^^ 0xFFFFFFFF

/-- Message padding of SHA-256. -/
def shaPad (bs : List Byte) : List Byte :=
  bs ++ [0x80] ++ List.replicate ((119 - bs.length % 64) % 64) 0 ++ bytesBE 8 (8 * bs.length)

/-- The next word of the message schedule from the last sixteen, newest first. -/
def shaNextW (w : List Nat) : Nat :=
  let g (i : Nat) : Nat := w.getD (i - 1) 0
  let s0 := rotr32 (g 15) 7 ^^^ rotr32 (g 15) 18 ^^^ (g 15) / 8
  let s1 := rotr32 (g 2) 17 ^^^ rotr32 (g 2) 19 ^^^ (g 2) / 1024
  (g 16 + s0 + g 7 + s1) % 2 ^ 32

/-- The 64 words of the schedule, oldest first. -/
def shaSched (ws : List Nat) : List Nat :=
  ((upTo48 48).foldl (fun acc _ => shaNextW acc :: acc) ws.reverse).reverse
where upTo48 (n : Nat) : List Nat := List.range n

/-- One round of the compression function over (a, …, h). -/
def shaRound (v : List Nat) (kw : Nat × Nat) : List Nat :=
  match v with
  | [a, b, c, d, e, f, g, h] =>
    let s1 := rotr32 e 6 ^^^ rotr32 e 11 ^^^ rotr32 e 25
    let ch := (e &&& f) ^^^ (not32 e &&& g)
    let t1 := (h + s1 + ch + kw.1 + kw.2) % 2 ^ 32
    let s0 := rotr32 a 2 ^^^ rotr32 a 13 ^^^ rotr32 a 22
    let mj := (a &&& b) ^^^ (a &&& c) ^^^ (b &&& c)
    [(t1 + s0 + mj) % 2 ^ 32, a, b, c, (d + t1) % 2 ^ 32, e, f, g]
  | v => v

/-- One block. -/
def shaBlock (h : List Nat) (block : List Byte) : List Nat :=
  let ws := (List.range 16).map (fun i => be block (4 * i) 4)
  let v := (List.zip shaK (shaSched ws)).foldl shaRound h
  List.zipWith (fun x y => (x + y) % 2 ^ 32) h v

/-- SHA-256. -/
def sha256 (bs : List Byte) : List Byte :=
  let p := shaPad bs
  let h := (List.range (p.length / 64)).foldl (fun h i => shaBlock h (sub p (64 * i) 64)) shaH
  h.flatMap (bytesBE 4)

/-- DCG-128 injection `s` with key words `k`, R259. -/
def dcgInject (k : List Nat) (s : Nat) (x : List Nat) : List Nat :=
  let y := (List.range 4).map (fun i => (x.getD i 0 + k.getD ((s + i) % 4) 0) % 2 ^ 32)
  y.set 3 (y.getD 3 0 ^^^ ((0x5D1C4E93 + s) % 2 ^ 32))

/-- DCG-128 round `r`. -/
def dcgRound (r : Nat) (x : List Nat) : List Nat :=
  match x with
  | [x0, x1, x2, x3] =>
    let ab := [(12, 7), (24, 13), (4, 19), (16, 29)].getD (r % 4) (0, 0)
    let y0 := (x0 + rotl32 x3 ab.1) % 2 ^ 32
    let y1 := x1 ^^^ y0
    let y2 := (x2 + rotl32 y1 ab.2) % 2 ^ 32
    let y3 := x3 ^^^ y2
    [y1, y2, y3, y0]
  | x => x

/-- DCG-128 of a seed and a counter, R259. -/
def dcg128 (seed counter : W128) : W128 :=
  let ws (v : W128) : List Nat := (List.range 4).map (fun i => v.toNat / 2 ^ (32 * (3 - i)) % 2 ^ 32)
  let k := ws seed
  let x := (List.range 10).foldl (fun x r =>
    let y := dcgRound r x
    if r % 2 = 1 then dcgInject k ((r + 1) / 2) y else y) (dcgInject k 0 (ws counter))
  BitVec.ofNat 128 (x.foldl (fun a w => a * 2 ^ 32 + w) 0)

/-- The four output words of a call, y[127:96] first (R260). -/
def dcgWords (y : W128) : List (BitVec 32) := [y.extractLsb' 96 32, y.extractLsb' 64 32, y.extractLsb' 32 32, y.extractLsb' 0 32]

/-- The canonical conversion of an output word for p significand bits, R260: 24 for FP32, 11 for FP16, 8 for BF16. -/
def dcgUniform (p : Nat) (w : BitVec 32) : Rat := mkRat (w.toNat / 2 ^ (32 - p)) (2 ^ p)

/-- The counter of R258. -/
def dcgCounter (step stream position lane : Nat) : W128 :=
  BitVec.ofNat 128 ((step % 2 ^ 48) * 2 ^ 80 + (stream % 2 ^ 32) * 2 ^ 48 + (position % 2 ^ 32) * 2 ^ 16 + lane % 2 ^ 16)

/-- Multiplication by x in GF(2)[x] modulo x^128 + x^7 + x^2 + x + 1, R269. -/
def gfDouble (a : Nat) : Nat := if a < 2 ^ 127 then a * 2 else ((a * 2) % 2 ^ 128) ^^^ 0x87

/-- The product modulo that polynomial. -/
def gfMul (a b : Nat) : Nat :=
  (List.range 128).foldl (fun acc i =>
    let d := gfDouble acc
    if (a / 2 ^ (127 - i)) % 2 = 1 then d ^^^ b else d) 0

/-- The evaluation point h of R269. -/
def tallyH : Nat := 0xB5D34E0719A62C8F6E21D9407A3C85F1

/-- One block of 16 bytes, short blocks padded with zeros. -/
def tallyBlock (acc : Nat) (block : List Byte) : Nat :=
  gfMul acc tallyH ^^^ natBE (block ++ List.replicate (16 - block.length) 0)

/-- Tally-128 of a byte string, R269. -/
def tally128 (bs : List Byte) : W128 :=
  let acc := (List.range ((bs.length + 15) / 16)).foldl (fun a i => tallyBlock a (sub bs (16 * i) 16)) 0
  BitVec.ofNat 128 (gfMul acc tallyH ^^^ (2 ^ 127 ||| 8 * bs.length))

end Sys2Proof.Machine
end

