-- ==== Sys2Proof/Machine/Frames.lean ====
section
/-!
DEFINITION. Frames: TYPE codes, classes, the bytes on the wire (R67 to R74), output queues, and what every received
frame does to its link (R70, R71, R82 to R84).
-/

namespace Sys2Proof.Machine

/-- Scheduling classes, R69. -/
inductive FClass where
  | time
  | link
  | control
  | bulk
  | fill
  deriving DecidableEq, Repr

/-- TYPE, R69. -/
def payloadType : Payload → Nat
  | .time _ => 0x01 | .probe _ => 0x02 | .heartbeat _ => 0x03 | .train _ => 0x04 | .fill => 0x05
  | .arm _ => 0x08 | .callOff _ => 0x09 | .censusUp _ => 0x0A | .censusDn _ => 0x0B | .bench _ => 0x0C
  | .align _ => 0x0D | .score _ => 0x10 | .tally _ => 0x11 | .stock _ => 0x12 | .config _ => 0x13

/-- The codes of R69. -/
def typeDefined (ty : Nat) : Bool :=
  (1 ≤ ty && ty ≤ 5) || (8 ≤ ty && ty ≤ 0xD) || (0x10 ≤ ty && ty ≤ 0x13)

/-- Class, R69. -/
def payloadCls : Payload → FClass
  | .time _ => .time
  | .probe _ | .heartbeat _ | .train _ => .link
  | .fill => .fill
  | .arm _ | .callOff _ | .censusUp _ | .censusDn _ | .bench _ | .align _ => .control
  | .score _ | .tally _ | .stock _ | .config _ => .bulk

/-- Epoch-checked frames, R69 and R70 (a BENCH of TARGET_KIND 0x1 is not checked). -/
def payloadChecked : Payload → Bool
  | .arm _ | .callOff _ | .censusUp _ | .censusDn _ | .score _ | .tally _ => true
  | .bench f => f.kind != 1
  | _ => false

/-- The bytes of a firmware entry, R251. -/
def fwBytes (f : FwEntry) : List Byte :=
  bytesBE 1 f.stepping ++ bytesBE 1 0 ++ bytesBE 2 f.major ++ bytesBE 2 f.minor ++ bytesBE 2 f.build

/-- The 20 payload bytes 8 to 27. -/
def payloadBytes (pl : Payload) : List Byte :=
  let body : List Byte := match pl with
    | .time f => bytesBE 6 f.sec ++ bytesBE 4 (f.reserved * 2 ^ 30 + f.ns) ++ bytesBE 2 f.frac ++ bytesBE 2 (ux 16 f.utcOffset) ++
        bytesBE 1 (b2n f.traceable * 128 + b2n f.originLocal * 64 + b2n f.rootHoldover * 32 + b2n f.utcValid * 16 +
          b2n f.stepPending * 8 + f.censusTree * 2) ++ bytesBE 1 (f.level * 16 + f.state) ++
        bytesBE 4 (ux 32 f.stepDelta)
    | .probe f => bytesBE 1 (b2n f.reply * 128 + b2n f.calDone * 64) ++ bytesBE 1 0 ++ bytesBE 2 f.id ++
        bytesBE 4 f.turnaround ++ bytesBE 4 f.result
    | .heartbeat f => bytesBE 1 (f.keeper * 16 + f.state) ++ bytesBE 1 0 ++ bytesBE 2 f.count ++
        bytesBE 4 (b2n f.coreSplit + b2n f.srcALost * 2 + b2n f.srcBLost * 4 + b2n f.bistMismatch * 8 +
          b2n f.noHistory * 16 + b2n f.bumpSuspect * 32 + b2n f.sustainedLate * 64) ++
        bytesBE 6 f.lastLaunched ++ bytesBE 1 f.attempt
    | .train f => bytesBE 1 f.level ++ bytesBE 1 f.side ++ bytesBE 1 f.kind ++ bytesBE 1 f.port ++
        bytesBE 1 (b2n f.ack + b2n f.topologyError * 2 + b2n f.sideConflict * 4) ++ bytesBE 1 f.stepping ++
        bytesBE 8 f.serial ++ bytesBE 2 f.fw.major ++ bytesBE 2 f.fw.minor ++ bytesBE 2 f.fw.build
    | .fill => []
    | .arm f => bytesBE 4 f.oseq ++ bytesBE 6 f.step ++ bytesBE 1 f.attempt ++ bytesBE 6 f.kick ++
        bytesBE 1 (b2n f.checkpoint + b2n f.reorigin * 2)
    | .callOff f => bytesBE 4 f.oseq ++ bytesBE 6 f.step ++ bytesBE 1 f.attempt ++ bytesBE 1 f.reason
    | .censusUp f => bytesBE 2 (f.kind * 4096 + f.slot) ++ bytesBE 6 f.step ++ bytesBE 1 f.attempt ++
        bytesBE 3 f.count ++ bytesBE 8 f.fp
    | .censusDn f => bytesBE 2 (f.kind * 4096 + f.slot) ++ bytesBE 6 f.step ++ bytesBE 1 f.attempt ++
        bytesBE 1 f.outcome ++ bytesBE 3 f.count
    | .bench f => bytesBE 4 f.oseq ++ bytesBE 4 f.newEpoch ++ bytesBE 1 f.kind ++ bytesBE 4 f.target ++
        bytesBE 1 f.reason ++ bytesBE 4 f.admitLead
    | .align f => bytesBE 4 f.oseq ++ bytesBE 6 f.at48 ++ bytesBE 1 f.outputs
    | .score f => bytesBE 1 (f.fragment * 16 + f.kind) ++ bytesBE 1 f.attempt ++ bytesBE 2 f.step16 ++ f.data
    | .tally f => bytesBE 4 f.die ++ bytesBE 1 (f.half * 128 + f.lane) ++ bytesBE 3 f.window ++ bytesBE 2 f.step16 ++
        bytesBE 1 f.attempt ++ bytesBE 1 0 ++ bytesBE 8 f.tally
    | .stock f => bytesBE 4 f.die ++ bytesBE 1 f.kind ++
        (if f.kind = 0 then bytesBE 2 f.envelope ++ bytesBE 2 f.granted ++ bytesBE 2 f.peak ++ bytesBE 1 f.phases ++
          bytesBE 1 (b2n f.bump + b2n f.derated * 2) else bytesBE 2 f.index)
    | .config f => bytesBE 2 f.image ++ bytesBE 2 f.chunk ++ f.data
  (body ++ List.replicate 20 0).take 20

/-- Bytes 1 to 27 of a frame on the wire, R67. -/
def WireFrame.body (w : WireFrame) : List Byte :=
  bytesBE 1 (b2n w.hdr.holdC * 128 + b2n w.hdr.holdB * 64 + b2n w.hdr.nak * 32 + payloadType w.frame.payload) ++
  bytesBE 1 w.hdr.ack ++ bytesBE 1 w.hdr.seq ++ bytesBE 4 w.frame.epoch ++ payloadBytes w.frame.payload

/-- Bytes 1 to 31: the CRC follows least significant byte first, R68. -/
def WireFrame.bytes (w : WireFrame) : List Byte := w.body ++ (bytesBE 4 (crc32 w.body)).reverse

/-! Output queues, R74, R84, R85. -/

/-- The largest number of control frames an output port holds, R85. -/
def ctlRoom (lane : Bool) : Nat := if lane then 6 else 23

/-- Two CENSUS_UP entries of one identity (R74). -/
def sameCensusUp (a b : Frame) : Bool :=
  match a.payload, b.payload with
  | .censusUp x, .censusUp y =>
    a.epoch == b.epoch && x.kind == y.kind && x.slot == y.slot && x.step == y.step && x.attempt == y.attempt &&
      x.kind != 3
  | _, _ => false

/-- A full output queue lets no more in; as it drains, the frames that waited longest enter (R84). -/
def pullCtl (lane : Bool) (r : Reliable) : Reliable :=
  let n := ctlRoom lane - r.ctl.length
  { r with ctl := r.ctl ++ r.ctlWait.take n, ctlWait := r.ctlWait.drop n }

/-- Queue a frame on a port by its class; a CENSUS_UP of an identity still unsent is updated in place (R74). -/
def enqueue (d : Dev) (p : Nat) (src : Option Nat) (f : Frame) (s : State) : State :=
  let up := (s.com d).up
  let lane := isLane d s p
  let same (e : QFrame) : Bool := sameCensusUp e.f f
  let renew (e : QFrame) : QFrame := { e with f := f }
  modPort d p (fun q =>
    let r := q.rel
    match payloadCls f.payload with
    | .control =>
      if r.ctl.any same then { q with rel := { r with ctl := listModify same renew r.ctl } }
      else if r.ctlWait.any same then { q with rel := { r with ctlWait := listModify same renew r.ctlWait } }
      else { q with rel := pullCtl lane { r with ctlWait := r.ctlWait ++ [⟨f, src, up⟩] } }
    | .bulk => { q with rel := { r with bulk := r.bulk ++ [⟨f, src, up⟩] } }
    | .link => { q with rel := { r with lq := r.lq ++ [f] } }
    | _ => q) s

/-- Queue a frame on several ports. -/
def enqueueAll (d : Dev) (ps : List Nat) (src : Option Nat) (f : Frame) (s : State) : State :=
  ps.foldl (fun s p => enqueue d p src f s) s

/-- A control frame that came through port `p` waits for room in an output queue: no more are taken from that input (R84). -/
def inputBlocked (c : Com) (p : Nat) : Bool := c.ports.any (fun x => x.2.rel.ctlWait.any (fun e => e.src == some p))

/-- A frame of this class from port `p` is taken as it arrives: no control frame of that input waits before it (R84). -/
def takesNow (c : Com) (p : Nat) (ctl : Bool) : Bool :=
  !ctl || (!inputBlocked c p && (tabGet {} c.ports p).rel.rxBuf.isEmpty)

/-- Bulk frames received through port `p` that wait to leave, each counted once however many outputs it goes to. -/
def bulkFrom (c : Com) (p : Nat) : List QFrame :=
  distinct (c.ports.flatMap (fun x => x.2.rel.bulk.filter (fun e => e.src == some p)))

/-- Frames received through port `p` that wait in its receive buffer (R84): the control frame that waits for room and those behind it;
bulk frames, for which the spec gives no output queue, until they leave (log 24). -/
def waitingFrom (c : Com) (p : Nat) (ctl : Bool) : Nat :=
  if ctl then (tabGet {} c.ports p).rel.rxBuf.length + b2n (inputBlocked c p) else (bulkFrom c p).length

/-- The receive buffer of a port for control or for bulk frames is full, R84. -/
def bufferFull (lane : Bool) (c : Com) (p : Nat) (ctl : Bool) : Bool :=
  decide ((if lane then 12 else 64) ≤ waitingFrom c p ctl)

/-- HOLD_C and HOLD_B as this end shows them, R84. -/
def holdOut (lane : Bool) (c : Com) (p : Nat) : Bool × Bool :=
  let lim := if lane then 4 else 16
  (decide (lim ≤ waitingFrom c p true), decide (lim ≤ waitingFrom c p false))

/-! Link fields of a received frame, R82 and R83. -/

/-- Take HOLD, ACK and NAK of a received frame: acknowledged frames are freed, and a NAK that rises resends the rest. -/
def takeLink (d : Dev) (p : Nat) (h : LinkHdr) (s : State) : State :=
  let up := (s.com d).up
  modPort d p (fun q =>
    let r := q.rel
    let kept := r.retained.filter (fun x => decide (serial 8 h.ack x.1 < 0))
    let progress := kept.length < r.retained.length
    { q with rel := { r with
        holdCIn := h.holdC, holdBIn := h.holdB, retained := kept, nakIn := h.nak,
        resend := if h.nak && !r.nakIn then kept else r.resend.filter (fun x => decide (serial 8 h.ack x.1 < 0)),
        nakSince := if (h.nak && !r.nakIn) || progress then up else r.nakSince,
        nakTries := if !h.nak || !r.nakIn || progress then 0 else r.nakTries } }) s

/-- Set NAK toward the peer; an episode is counted once (R83, R91). -/
def setNak (d : Dev) (p : Nat) (s : State) : State :=
  modPort d p (fun q => if q.rel.nakOut then q else
    { q with nakSent := sat16 (q.nakSent + 1), rel := { q.rel with nakOut := true } }) s

/-- Accept a retained frame of this SEQ: NAK clears (R83). -/
def acceptSeq (d : Dev) (p seq : Nat) (s : State) : State :=
  modPort d p (fun q => { q with rel := { q.rel with seqRx := seq, nakOut := false } }) s

/-- The epochs that a port's members hold (R70): at a TSU its own; at a DX-D those served below the port, or all of them
for a frame that comes from above or from the twin, and for a KIND 0x1 SCORE, which R281 counts apart. -/
def epochOk (d : Dev) (p ep : Nat) (pl : Payload) (s : State) : Bool :=
  match d with
  | .tsu => ep != 0 && s.t.mem.epoch == ep
  | .dxd => s.x.cs.served.any (fun v => v.epoch == ep && (192 ≤ p || v.ports.contains p || hallScore pl))
where
  hallScore (pl : Payload) : Bool := match pl with
    | .score f => f.kind == 1
    | _ => false

/-- A frame that reaches the device through a port in UP. A CELLAR TSU and a fenced DX-D discard it (R388, R301). -/
def rxUp (d : Dev) (p : Nat) (s : State) : Bool :=
  (s.port d p).st == 5 && !inCellar d s && portExists d s p

/-- A frame that has been accepted is taken: of a strange epoch it is counted (R70); otherwise `f` acts on it. -/
def takeFrame (d : Dev) (p : Nat) (fr : Frame) (f : State → State) (s : State) : State :=
  if payloadChecked fr.payload && !epochOk d p fr.epoch fr.payload s then
    modPort d p (fun q => { q with epochDrop := sat16 (q.epochDrop + 1) }) s
  else f s

/-- A retained frame arrives (R82, R83): out of sequence it is discarded with NAK, and so is one that finds the receive buffer
full (R84, log 24: the peer sends it again). One that is accepted is taken at once, or waits behind a control frame of its
input that waits for room (R84). -/
def recvRetained (d : Dev) (p : Nat) (h : LinkHdr) (fr : Frame) (f : State → State) (s : State) : State :=
  if !rxUp d p s then s else
  let s1 := takeLink d p h s
  let ctl := payloadCls fr.payload == .control
  if h.seq ≠ ((s1.port d p).rel.seqRx + 1) % 256 then setNak d p s1 else
  if bufferFull (isLane d s p) (s1.com d) p ctl then setNak d p s1 else
  let s2 := acceptSeq d p h.seq s1
  if takesNow (s2.com d) p ctl then takeFrame d p fr f s2
  else modPort d p (fun q => { q with rel := { q.rel with rxBuf := q.rel.rxBuf ++ [fr] } }) s2

/-- The SOF of a frame on port `p` has a stamp: some interpolator of its receive channel holds a passed calibration (R93 to
R95). Without it a TIME or DELAY_PROBE frame gives no offset and no delay (log 100). -/
def sofStamped (d : Dev) (p : Nat) (s : State) : Bool :=
  (tabGet {} (s.com d).chans p).units.any (fun x => x.2.cal.isSome)

/-! Second copies, R71. -/

/-- The ORIGIN_SEQ is to be acted on. -/
def oseqNew (d : Dev) (q : Nat) (s : State) : Bool :=
  match (s.com d).oseq with
  | none => true
  | some (h, _) => decide (0 < serial 32 q h)

def oseqTake (d : Dev) (q : Nat) (s : State) : State :=
  modCom d (fun c => { c with oseq := some (q, c.up) }) s

/-- Act on the first copy of a message with this ORIGIN_SEQ. -/
def byOseq (d : Dev) (q : Nat) (f : State → State) (s : State) : State :=
  if oseqNew d q s then f (oseqTake d q s) else s

/-- Act on the first copy of a message with this identity; an identity is held for 1 ms. -/
def bySeen (d : Dev) (i : SeenId) (f : State → State) (s : State) : State :=
  let c := s.com d
  let live := c.seen.filter (fun x => decide (c.up ≤ x.2 + 1000000))
  if live.any (fun x => x.1 == i) then s
  else f (modCom d (fun c => { c with seen := live ++ [(i, c.up)] }) s)

/-! Ports and events of port sets, R91. -/

/-- The page and PG_EVENT bit of a port set. -/
def portPage (d : Dev) (p : Nat) : Nat × Nat :=
  match d with
  | .tsu => (0x01, p)
  | .dxd => if 192 ≤ p then (0x17, p - 192) else (0x18 + p / 32, p % 32)

/-- The window address of a port set. -/
def portBase (d : Dev) (p : Nat) : Nat :=
  let pg := portPage d p
  pg.1 * 4096 + 0x100 + 0x40 * pg.2

/-- Hardware sets bit `b` of a port's EVENT register; an enabled bit sets the page's PG_EVENT. -/
def portEvent (d : Dev) (p b : Nat) (s : State) : State :=
  let s1 := modPort d p (fun q => { q with event := q.event ||| bitW b }) s
  if bit (s.port d p).eventEn b then raise d (portPage d p).1 (portPage d p).2 s1 else s1

/-- The downstream ports of a DX-D that lead to members of an epoch, R27 (log 11). -/
def epochPorts (s : State) (ep : Nat) : List Nat :=
  match s.x.cs.served.find? (fun v => v.epoch == ep) with
  | some v => v.ports
  | none => []

/-- The downstream ports in UP. -/
def downPorts (s : State) : List Nat :=
  (s.dc.ports.filter (fun x => decide (x.1 < 192) && x.2.st == 5)).map (·.1)

/-- The port on which a DX-D sends upward: its parent link, or its twin while that is not UP (R15, R294). A root member sends
to its twin, the acting member, over either pair link (R13, R233). -/
def upPort (s : State) : Nat :=
  if s.x.straps.role = 2 then (if (s.port .dxd (twinPort s)).st = 5 then twinPort s else parentPort s)
  else if (s.port .dxd (parentPort s)).st = 5 then parentPort s else twinPort s

end Sys2Proof.Machine
end

