-- ==== Sys2Proof/Machine/TimeKeep.lean ====
section
/-!
DEFINITION. Sources, the twin time cores and the active keeper, the state of hall time (R44 to R52, R427), the residual
and its pull (R49, R117), the servo (R121) and the numerically controlled oscillator (R124).
-/

namespace Sys2Proof.Machine

/-- R44: a port counts as a source. -/
def isSource (d : Dev) (p : Nat) (s : State) : Bool :=
  let q := s.port d p
  q.st == 5 && match q.lastTime with
    | some f => f.state == 1 || f.state == 2 || (f.level == 0 && f.state == 3)
    | none => false

def State.core (s : State) (d : Dev) (c : Nat) : Core := if c = 0 then (s.com d).coreA else (s.com d).coreB

def modCore (d : Dev) (c : Nat) (f : Core → Core) (s : State) : State :=
  modCom d (fun m => if c = 0 then { m with coreA := f m.coreA } else { m with coreB := f m.coreB }) s

/-- TK registers. -/
def revertHoldBeats (s : State) (d : Dev) : Nat := orOne (s.regF d 0x130 16 16) * 1000000
def splitLimitPs (s : State) (d : Dev) : Nat := orOne (s.regF d 0x130 0 16)
/-- TK_PULL.SLOPE in ps per µs, R62. -/
def tkSlope (s : State) (d : Dev) : Nat := min 1000 (orOne (s.regF d 0x138 32 16))
/-- SV_PULL.SLOPE in ps per s, R140. -/
def svSlope (s : State) : Nat := min 1000000 (orOne (s.regF .dxd 0x10120 0 20))

/-- Start or replace a residual (R49, R117): presented HT does not move. -/
def startPull (d : Dev) (r : Int) (s : State) : State :=
  let s1 := modTk d (fun t => { t with r := r, rPart := 0, pulling := r != 0 }) s
  if d = .dxd ∧ r ≠ 0 then modHold (fun h => { h with history := h.history ||| bitW 10 }) (raise .dxd 0x10 10 s1) else s1

/-- The SV history bit and its event, R131. -/
def history (b : Nat) (s : State) : State :=
  raise .dxd 0x10 b (modHold (fun h => { h with history := h.history ||| bitW b }) s)

/-- Row 4 of R48: core A has been LOCKED without a break for REVERT_HOLD while core B keeps. -/
def reversionDue (s : State) : Bool :=
  s.tc.tk.keeper == 1 && s.tc.coreB.st == 2 && s.tc.coreA.st == 2 &&
    match s.tc.coreA.lockedAt with
    | some l => decide (l + revertHoldBeats s .tsu ≤ s.tc.up)
    | none => false

/-- R48 rows 1 to 9 for a TSU. A core that has mismatched stays IDLE and is not chosen for its source (R365). -/
def keeperChoice (s : State) : Nat :=
  let k := s.tc.tk.keeper
  let a := s.tc.coreA
  let b := s.tc.coreB
  if a.st = 3 then 1
  else if b.st = 3 then 0
  else match s.tc.tk.force with
  | some f => f
  | none =>
    if !s.tc.tk.everKept then (if a.st = 2 then 0 else if b.st = 2 then 1 else 2)
    else if reversionDue s then 0
    else if (s.core .tsu k).st = 2 then k
    else if (s.core .tsu (1 - k)).st = 2 then 1 - k
    else if isSource .tsu k s && !(s.core .tsu k).off then k
    else if isSource .tsu (1 - k) s && !(s.core .tsu (1 - k)).off then 1 - k
    else k

/-- A FORCE ends when its core leaves LOCKED or is taken into BIST (R48). -/
def dropForce (s : State) : State :=
  match s.tc.tk.force with
  | some f => if (s.core .tsu f).st = 2 then s else modTk .tsu (fun t => { t with force := none }) s
  | none => s

/-- R427. -/
def tsuTimeState (s : State) : Nat :=
  if inCellar .tsu s then 5
  else if s.tc.tk.sideline then 4
  else if !s.tc.tk.htValid then 0
  else if s.tc.tk.keeper < 2 ∧ (s.core .tsu s.tc.tk.keeper).st = 2 then 2
  else if isSource .tsu 0 s || isSource .tsu 1 s then 1
  else 3

/-- Each core shows IDLE while its lane is not a source and enters ACQUIRE when it becomes one again (R427). -/
def coreFollow (c : Nat) (s : State) : State :=
  let k := s.core .tsu c
  if k.st = 3 ∨ k.off then s
  else if isSource .tsu c s then
    (if k.st = 0 ∧ s.tc.tk.htValid then modCore .tsu c (fun k => { k with st := 1, inBand := 0, outBand := 0 }) s else s)
  else if k.st = 0 then s
  else modCore .tsu c (fun k => { k with st := 0, inBand := 0, outBand := 0, lockedAt := none }) s

/-- When both lanes of a TSU went without a source, R293. -/
def noteSourceless (s : State) : State :=
  if isSource .tsu 0 s || isSource .tsu 1 s then modMem (fun m => { m with sourceless := none }) s
  else if s.t.mem.sourceless.isNone then modMem (fun m => { m with sourceless := some s.tc.up }) s else s

/-- The lane that carries a census slot, R26 and R239. -/
def censusLane (s : State) (slot : Nat) : Nat :=
  let aUp := (s.port .tsu 0).st == 5
  let bUp := (s.port .tsu 1).st == 5
  if aUp && !bUp then 0
  else if bUp && !aUp then 1
  else match s.tc.censusTree with
    | 1 => 0
    | 2 => 1
    | _ => slot % 2

/-- The current epoch in frames that are not epoch-checked, R70. -/
def tsuFrame (pl : Payload) (s : State) : Frame := ⟨s.t.mem.epoch, pl⟩

/-- A census entry leaves while the TSU is LOCKED; in another time state it waits (R44, log 99). -/
def answerCensus (c : CensusUpF) (s : State) : State :=
  if s.tc.tk.state = 2 then enqueue .tsu (censusLane s c.slot) none (tsuFrame (.censusUp c) s) s
  else modHd (fun h => { h with held := if h.held.contains c then h.held else h.held ++ [c] }) s

/-- The entries that waited leave when the TSU is LOCKED again. -/
def sendHeld (s : State) : State :=
  if s.tc.tk.state = 2 then s.t.hd.held.foldl (fun s c => answerCensus c s) (modHd (fun h => { h with held := [] }) s) else s

/-- The TSU chooses its keeper and shows its state, after anything that R48 or R427 depends on. -/
def tsuReselect (s : State) : State :=
  let s1 := noteSourceless (coreFollow 1 (coreFollow 0 s))
  let s2 := dropForce s1
  let k := s2.tc.tk.keeper
  let n := keeperChoice s2
  let s3 :=
    if n = k then s2
    else
      let apart := s2.tc.tk.delta / (2 ^ 35 : Nat)
      let r : Int := if k = 2 then 0 else s2.tc.tk.r + (if n = 1 then apart else -apart)
      raiseTime .tsu 3 (modTk .tsu (fun t => { t with keeper := n, everKept := true, r := r, rPart := 0, pulling := r != 0 }) s2)
  sendHeld (setTimeState .tsu (tsuTimeState s3) s3)

/-- The twin shows, in its HEARTBEAT, that its own parent link is no source (R51, log 13). -/
def twinOrphan (s : State) : Bool :=
  match (s.port .dxd (twinPort s)).peerHb with
  | some (h, _) => if s.x.straps.side = 0 then h.srcBLost else h.srcALost
  | none => false

/-! The selector of the root, R112 to R115. -/

/-- State of a reference source: 0 ABSENT, 1 QUALIFYING, 2 QUALIFIED, 3 LOST. -/
def State.qual (s : State) (n : Nat) : Nat := (tabGet {} s.x.rf.src n).qual

def modSrc (n : Nat) (f : RefSrc → RefSrc) (s : State) : State :=
  modRf (fun r => { r with src := tabMod {} r.src n f }) s

/-- RF_SEL fields. -/
def rfActive (s : State) : Nat := s.regF .dxd 0x1E100 16 4
def rfAuto (s : State) : Bool := bit (s.reg .dxd 0x1E100) 20
def rfFb (s : State) (i : Nat) : Nat := s.regF .dxd 0x1E100 (4 * i) 4

/-- The fall-back entries that count (R114): NONE ends the list; ACTIVE, LOCAL, TWIN, reserved codes and repeats are
skipped. -/
def fallbackList (s : State) : List Nat :=
  let raw := [rfFb s 0, rfFb s 1, rfFb s 2, rfFb s 3].takeWhile (· != 0xF)
  raw.foldl (fun l c => if c < 5 ∧ c ≠ rfActive s ∧ !l.contains c then l ++ [c] else l) []

/-- The order ACTIVE, FB0 to FB3 of R114. -/
def resumeOrder (s : State) : List Nat := if rfActive s < 6 then rfActive s :: fallbackList s else fallbackList s

/-- The first QUALIFIED entry of a list. -/
def firstQualified (s : State) (l : List Nat) : Option Nat := l.find? (fun c => s.qual c == 2)

/-- The first fit of a servo begins (R129): over the 10 MHz input of an IN or F source, over Syncs, or over the SOF stamps of TIME
frames, which no channel number feeds. On LOCAL, which has no samples, there is nothing to fit (log 101). -/
def startFirstFit (d : Dev) (c : Nat) (s : State) : State :=
  let sof := startFit d (fitFirst c) sofFit 976562500 1 1000 0 s
  match d with
  | .tsu => sof
  | .dxd =>
    let f := s.x.rf.followed
    if s.x.straps.role ≠ 2 ∨ f = 0xE then sof
    else if f = 2 then modHold (fun h => { h with syncFirst := none }) (dropFit .dxd (fitFirst c) s)
    else if f < 5 then
      startFit .dxd (fitFirst c) (if f = 0 ∨ f = 3 then 194 else 195) 10000000000 1 1000 (nextMult s.dc.tk.bc) s
    else modCore .dxd 0 (fun k => { k with fit := false, running := true }) (dropFit .dxd (fitFirst c) s)

/-- The followed source changes (R114); the switch itself comes with the next sample (R117), and samples of the source before do not
count toward LOCKED (R45, R123). The spec does not say whether TRACEABLE clears when a source that is not traceable follows a
traceable one: it stays set (DESIGN CHOICE, log 113). -/
def follow (n : Nat) (viaList : Bool) (s : State) : State :=
  if s.x.rf.followed = n then s
  else
    let s1 := modRf (fun r => { r with followed := n, fresh := n != 0xF, retake := false, fellBack := viaList }) s
    let s2 := modCore .dxd 0 (fun c => { c with inBand := 0 })
      (modTk .dxd (fun t => { t with freqOnly := false, keeper := if n = 0xF then 2 else if n = 0xE then 1 else 0 }) s1)
    let s3 := if viaList then history 8 s2 else s2
    let s4 := if n ≠ 0xF ∧ s3.dc.coreA.fit then startFirstFit .dxd 0 s3 else s3
    if n = 0xF then history 7 (raiseTime .dxd 3 s4) else s4

/-- TWIN is left for the first QUALIFIED source in the order ACTIVE, FB0 to FB3, or for none (R114). -/
def leaveTwin (s : State) : State :=
  match firstQualified s (resumeOrder s) with
  | some c => follow c (c != rfActive s) s
  | none => follow 0xF false s

/-- R113: a source becomes LOST; the followed one gives way to the fall-back list. PTP counts its seconds afresh (R112), and a
followed TWIN that is lost is a lost twin too (R131). -/
def sourceLost (n : Nat) (s : State) : State :=
  if s.qual n ≠ 2 then s
  else
    let s0 := if n = 2 then modPt (fun t => { t with i1 := { t.i1 with slaveSecs := 0 } }) s else s
    let s1 := history (if n = 0xE then 5 else n) (modSrc n (fun r => { r with qual := 3, good := 0, misses := 0 }) s0)
    if s1.x.rf.followed ≠ n then s1
    else if n = 0xE then leaveTwin (history 6 s1)
    else match firstQualified s1 (fallbackList s1) with
      | some c => follow c true s1
      | none => follow 0xF false s1

/-- A root pair link is UP. -/
def pairUp (s : State) : Bool := (s.port .dxd 192).st == 5 || (s.port .dxd 193).st == 5

/-- A root pair link on which the twin shows itself as a source: the acting member is present. -/
def twinPresent (s : State) : Bool := isSource .dxd 192 s || isSource .dxd 193 s

/-- The rows of R114 that no single event carries. -/
def rootSelect (s : State) : State :=
  if s.x.straps.role ≠ 2 then s
  else
    let s1 := if pairUp s then (if s.qual 0xE = 2 then s else modSrc 0xE (fun r => { r with qual := 2 }) s)
      else sourceLost 0xE s
    let s2 := if !s1.x.rf2.acting ∧ twinPresent s1 ∧ s1.qual 0xE = 2 then follow 0xE false s1 else s1
    let s3 := if s2.x.rf.followed ≠ 0xE then s2
      else if s2.x.rf2.acting then leaveTwin s2
      else if twinPresent s2 then s2
      else leaveTwin (history 6 s2)
    let s4 := if s3.x.rf.pendingActive ∧ s3.qual (rfActive s3) = 2 ∧ s3.x.rf.followed ≠ 0xE then
        follow (rfActive s3) false (modRf (fun r => { r with pendingActive := false }) s3)
      else s3
    if s4.x.rf.followed = 0xF ∧ s4.dc.tk.htValid ∧ rfAuto s4 then
      (match firstQualified s4 (resumeOrder s4) with
       | some c => follow c (c != rfActive s4) s4
       | none => s4)
    else s4

/-- R51: what a DX-D below the root follows: 0 its parent, 1 its twin, 2 nothing. A FORCE (TK_KEEPER_CTL) holds while
its source lasts. -/
def dxdChoice (s : State) : Nat :=
  let par := isSource .dxd (parentPort s) s
  let twin := isSource .dxd (twinPort s) s && !twinOrphan s
  if s.dc.tk.force = some 0 ∧ par then 0
  else if s.dc.tk.force = some 1 ∧ twin then 1
  else if s.x.straps.role = 0 ∧ s.x.straps.side = 1 then (if twin then 1 else if par then 0 else 2)
  else if par then 0 else if twin then 1 else 2

/-- The source a DX-D follows exists: at the root the selector's (R115), below it R51's. -/
def dxdHasSource (s : State) : Bool :=
  if s.x.straps.role = 2 then s.x.rf.followed != 0xF && !bit (s.reg .dxd 0x10100) 1 else dxdChoice s != 2

/-- R44 for a DX-D. -/
def dxdTimeState (s : State) : Nat :=
  if inCellar .dxd s then 5
  else if s.dc.tk.sideline then 4
  else if !s.dc.tk.htValid then 0
  else if !dxdHasSource s then 3
  else if s.dc.coreA.st = 2 then 2
  else 1

/-- The fields of a servo history record before its CRC, R127. -/
def HistRec.body (r : HistRec) : List Byte :=
  bytesBE 4 r.seq ++ bytesBE 6 r.sec ++ bytesBE 4 (ux 32 r.rate) ++ match r.sel with
    | some (a, fb, f) => bytesBE 3 (a * 2 ^ 20 + fb * 16 + f)
    | none => []

/-- Its CRC passes. -/
def HistRec.valid (r : HistRec) : Bool := r.crc == crc32 r.body

/-- A record with its CRC. -/
def HistRec.seal (r : HistRec) : HistRec := { r with crc := crc32 r.body }

/-- The current record: the valid slot with the higher sequence, with its slot. -/
def currentRecord (a : Attic) : Option (Nat × HistRec) :=
  a.slots.foldl (fun o x => if x.2.valid then
    (match o with
     | some y => if y.2.seq < x.2.seq then some x else o
     | none => some x) else o) none

/-- R127: a servo history record in the alternate attic slot. -/
def writeRecord (rate : Int) (s : State) : State :=
  let fb := fld (s.reg .dxd 0x1E100) 0 16
  let sel := if s.x.straps.role = 2 then some (rfActive s, fb, s.x.rf.followed) else none
  modHold (fun h => { h with lastRecord := s.dc.up }) (modAt (fun a =>
    let cur := currentRecord a
    let place := match cur with
      | some x => 1 - x.1
      | none => 0
    let r : HistRec := ⟨((cur.map (·.2.seq)).getD 0 + 1) % 2 ^ 32, s.dc.tk.sec, rate, sel, 0⟩
    { a with slots := (a.slots.filter (·.1 != place)) ++ [(place, r.seal)] }) s)

/-- On entering HOLDOVER the servo takes its rate from R126 and a record is written (R127). The spec does not say what
SV_STATUS.PROFILE shows in HOLDOVER: it keeps the last profile, and shows OFF on LOCAL, where the servo is off (DESIGN CHOICE,
log 101). -/
def enterHoldover (s : State) : State :=
  let h := s.x.hold
  let y := s.dc.coreA.acc / (2 ^ 48 : Nat)
  let pick : Int × Nat :=
    if h.avail then (h.rate, 2)
    else match h.usable, currentRecord s.x.at_ with
      | true, some r => (r.2.rate, 1)
      | _, _ => (y, 0)
  let s1 := modCore .dxd 0 (fun c => { c with
    y := pick.1, acc := pick.1 * (2 ^ 48 : Nat), st := 0, inBand := 0, outBand := 0, lockedAt := none }) s
  history 9 (writeRecord pick.1 (modHold (fun h => { h with src := pick.2 }) s1))

/-- A FORCE of a DX-D ends with its source (R48). -/
def dropForceDxd (s : State) : State :=
  match s.dc.tk.force with
  | some f => if isSource .dxd (if f = 0 then parentPort s else twinPort s) s then s
      else modTk .dxd (fun t => { t with force := none }) s
  | none => s

/-- A DX-D shows its state; leaving LOCKED is an event of its history (R131) and ends a whole second of R125. -/
def showDxdState (s : State) : State :=
  let n := dxdTimeState s
  setTimeState .dxd n (if s.dc.tk.state = 2 ∧ n ≠ 2 then history 15 (modHold (fun h => { h with skip := true }) s) else s)

/-- What a DX-D below the root followed, 0 its parent or 1 its twin, is no source any more (R131). -/
def followedLost (k : Nat) (s : State) : Bool :=
  match k with
  | 0 => !isSource .dxd (parentPort s) s
  | 1 => !isSource .dxd (twinPort s) s
  | _ => false

/-- A DX-D chooses its source and shows its state. Offsets to the source it leaves do not count toward LOCKED (R45). -/
def dxdReselect (s : State) : State :=
  let s0 := dropForceDxd (rootSelect s)
  let k := s0.dc.tk.keeper
  let s1 :=
    if s0.x.straps.role = 2 ∨ !s0.dc.tk.htValid then s0
    else
      let n := dxdChoice s0
      if n = k then s0
      else
        let s2 := modTk .dxd (fun t => { t with keeper := n }) s0
        let s3 := if n = 2 then history 7 s2
          else if k = 2 then
            let again := s2.dc.tk.state == 3
            modRf (fun r => { r with fresh := again, retake := again }) (history 7 s2)
          else
            let off := (if n = 0 then s2.x.ownOff else s2.x.twinOff).getD 0
            startPull .dxd off (history 7 s2)
        let s4 := modCore .dxd 0 (fun c => { c with inBand := 0 }) s3
        raiseTime .dxd 3 (if followedLost k s4 then history 6 s4 else s4)
  let st := dxdTimeState s1
  let was := s1.dc.tk.state
  let s4 := if st = 3 ∧ was ≠ 3 then enterHoldover s1
    else if (st = 1 ∨ st = 2) ∧ was = 3 then modCore .dxd 0 (fun c => { c with st := 1, inBand := 0, outBand := 0 }) s1
    else s1
  let s6 := if s4.x.straps.role = 2 ∧ st = 3 then setRootHoldover .dxd true s4
    else if s4.x.straps.role = 2 ∧ s4.x.rf.followed ≠ 0xE ∧ s4.dc.tk.rootHoldover ∧ (st = 1 ∨ st = 2) then
      setRootHoldover .dxd false s4
    else s4
  showDxdState s6

/-- Reselection in either device. -/
def reselect (d : Dev) (s : State) : State :=
  match d with
  | .tsu => tsuReselect s
  | .dxd => dxdReselect s

/-! The servo, R121 to R124. -/

/-- y and acc after one sample e with gains kp and ki; the Bool says that a clamp acted. -/
def servo (acc e : Int) (kp ki : Nat) : Int × Int × Bool :=
  let lim : Int := 500000000 * (2 ^ 48 : Nat)
  let p := (e * kp) / 65536
  let a0 := acc - e * ki
  let a := clampI a0 (-lim) lim
  let y0 := a / (2 ^ 48 : Nat) - p
  let y := clampI y0 (-500000000) 500000000
  (a, y, a ≠ a0 || y ≠ y0)

/-- TREE gains of R122. -/
def treeKp : Nat := 250000000
def treeKi : Nat := 68719476736000000

/-- R124. -/
def ncoInc (y : Int) : Int := ((2 ^ 52 : Nat) * ((10 ^ 12 : Nat) + y) + (5 * 10 ^ 12 : Nat)) / (10 ^ 13 : Nat)

/-- The counts of R45 after a sample of magnitude |e|, limits in ps. -/
def lockCount (limit out : Nat) (e : Int) (c : Core) : Core :=
  let m := e.natAbs * 1000
  { c with e := e, inBand := if m ≤ limit * 65536 then c.inBand + 1 else 0,
           outBand := if m > out * 65536 then c.outBand + 1 else 0 }

/-- One sample of a core with its gains; NCO_CLAMP is a DX-D's event (R131). -/
def servoSample (d : Dev) (c : Nat) (e : Int) (kp ki limit out : Nat) (s : State) : State :=
  let k := s.core d c
  let v := servo k.acc e kp ki
  let s1 := modCore d c (fun k =>
    let k1 := lockCount limit out e k
    if k.running then { k1 with acc := v.1, y := v.2.1 } else k1) s
  if d = .dxd ∧ k.running ∧ v.2.2 then history 16 s1 else s1

/-! The load of hall time, R47, R116 and R129. -/

/-- One second in frac LSBs. -/
def secLsb : Int := 65536000000000

/-- x less the nearest multiple of one second. -/
def wrapSec (x : Int) : Int := (x + secLsb / 2) % secLsb - secLsb / 2

/-- The offsets of a source's last 1PPS edge (R110) against an HT that has moved by `dlt` frac LSBs. -/
def RefSrc.moved (dlt : Int) (r : RefSrc) : RefSrc :=
  let raw := r.p + (r.secOff + r.tod) * secLsb + dlt
  { r with p := wrapSec raw, secOff := (raw - wrapSec raw) / secLsb - r.tod }

/-- HT has been set anew by `dlt` frac LSBs, by a load or an origin step: the 1PPS offsets that the DX-D has measured follow. -/
def moveRefs (dlt : Int) (s : State) : State :=
  [0, 1].foldl (fun s n => if (tabGet {} s.x.rf.src n).q.isSome then modSrc n (·.moved dlt) s else s) s

/-- HT becomes `lsb`; the servo starts from a usable record or runs its first fit. -/
def loadHt (d : Dev) (lsb : Int) (s : State) : State :=
  let s0 := modTk d (fun t => { (t.load lsb) with nco := 0, delta := 0 }) s
  match d with
  | .tsu =>
    let s1 := s0
    let fresh (k : Core) : Core := { k with fit := true, running := false, acc := 0, y := 0, inBand := 0, outBand := 0 }
    startFirstFit .tsu 1 (startFirstFit .tsu 0 (modCore .tsu 1 fresh (modCore .tsu 0 fresh s1)))
  | .dxd =>
    let s1 := moveRefs ((s0.dc.tk.lsb : Int) - s.dc.tk.lsb) s0
    let sec := s1.dc.tk.sec
    match currentRecord s.x.at_ with
    | some (_, r) =>
      if r.sec ≤ sec ∧ sec ≤ r.sec + 2592000 then
        modHold (fun h => { h with src := 1, usable := true })
          (modCore .dxd 0 (fun c => { c with st := 1, running := true, fit := false, y := r.rate, acc := r.rate * (2 ^ 48 : Nat) }) s1)
      else noRecord s1
    | none => noRecord s1
where
  /-- NO_HISTORY, the factory gains, and the first fit at y = 0 (R129). -/
  noRecord (s : State) : State :=
    let gains (a : Nat) : Bool := decide (0x10140 ≤ a ∧ a ≤ 0x10178)
    let s1 := modCom .dxd (fun c => { c with regs := c.regs.filter (fun x => !gains x.1) }) s
    startFirstFit .dxd 0 (history 17 (modHold (fun h => { h with noHistory := true, usable := false })
      (modCore .dxd 0 (fun c => { c with st := 1, running := false, fit := true, y := 0, acc := 0 }) s1)))

/-! The passing of a beat. -/

/-- The whole LSBs by which r moves in this beat, and the part of an LSB left (`den` parts make one LSB). -/
def pullStep (r : Int) (part num den : Nat) : Int × Nat :=
  let t := part + num
  let w := t / den
  let m := min w r.natAbs
  (if 0 ≤ r then r - m else r + m, if m < w then 0 else t % den)

/-- The rate of the oscillator whose HT a device presents, in ppt: its active keeper's, or 0 where nothing keeps. -/
def presentedY (d : Dev) (s : State) : Int :=
  match d with
  | .dxd => s.dc.coreA.y
  | .tsu => if s.tc.tk.keeper = 0 then s.tc.coreA.y else if s.tc.tk.keeper = 1 then s.tc.coreB.y else 0

/-- What an oscillator adds in one beat of the local clock, in 2⁻³⁵ frac LSB: R124 adds `ncoInc` units of 2⁻³² frac LSB in
each 1.6 ns, so five eighths of them in a nanosecond (log 97). -/
def ncoBeat (y : Int) : Int := 5 * ncoInc y

/-- Whole frac LSBs that HT advances in a beat at rate `y`, and the part of one left over. -/
def ncoStep (part : Nat) (y : Int) : Int × Nat :=
  let t := (part : Int) + ncoBeat y
  (t / (2 ^ 35 : Nat), (t % (2 ^ 35 : Nat)).toNat)

/-- How far core A moves from core B in a beat. -/
def coreDrift (d : Dev) (s : State) : Int :=
  match d with
  | .dxd => 0
  | .tsu => ncoBeat s.tc.coreA.y - ncoBeat s.tc.coreB.y

/-- One beat of the local clock passes in a device: the free-running counter, presented HT by the oscillator (R41, R124), and
the pull of R49 or R117, and with them the beats that timers count (R347, R368). TK_PULL.SLOPE moves r by SLOPE × 65,536 / 10⁶ LSBs a beat, SV_PULL.SLOPE by SLOPE × 65,536 /
10¹². -/
def tickTime (d : Dev) (s : State) : State :=
  let c := s.com d
  let root := d = .dxd ∧ s.x.straps.role = 2 ∧ s.x.rf.followed ≠ 0xE
  let slope := if root then svSlope s * 65536 else tkSlope s d * 65536
  let den := if root then 10 ^ 12 else 10 ^ 6
  let q := if c.tk.r = 0 ∨ c.tk.freqOnly then (c.tk.r, c.tk.rPart) else pullStep c.tk.r c.tk.rPart slope den
  let n := ncoStep c.tk.nco (presentedY d s)
  let apart := c.tk.delta + coreDrift d s
  modCom d (fun c =>
    let t := c.tk.addLsb (n.1 + (q.1 - c.tk.r))
    { c with up := c.up + 1,
             beats := c.beats + (if c.tk.htValid then (t.bc + 2 ^ 64 - c.tk.bc) % 2 ^ 64 else 1),
             tk := { t with r := q.1, rPart := q.2, nco := n.2, delta := apart } }) s

end Sys2Proof.Machine
end

