-- ==== Sys2Proof/Machine/StepsBase.lean ====
section
/-!
DEFINITION. What happens to a TSU's steps when they are withdrawn, when the TSU fails on its own, and when it enters
SIDELINE or leaves its epoch (R187, R188, R209, R293, R302); step gaps (R144); frames a TSU sends upward.
-/

namespace Sys2Proof.Machine

def StepRec.armed (r : StepRec) : Bool := r.st == .armed
def StepRec.launched (r : StepRec) : Bool := r.st == .launched
/-- ARMED, LAUNCHED or DONE. -/
def StepRec.active (r : StepRec) : Bool := r.st == .armed || r.st == .launched || r.st == .done

/-- The step that runs. -/
def launchedStep (s : State) : Option StepRec := s.t.steps.find? (·.launched)

/-- The lowest ARMED step. -/
def lowestArmed (l : List StepRec) : Option StepRec :=
  l.foldl (fun o r => if r.armed then
    (match o with | some q => if r.step < q.step then some r else o | none => some r) else o) none

/-- The next kickoff beat, R144: the earliest in effect among ARMED steps. -/
def nextKick (s : State) : Option Nat :=
  s.t.steps.foldl (fun o r => if r.armed then some (match o with | some k => min k r.k | none => r.k) else o) none

/-- The TSU is outside every epoch for R144 and R360: none held, or SIDELINE. -/
def noEpoch (s : State) : Bool := s.t.mem.epoch == 0 || s.tc.tk.sideline

/-- A step gap is open, R144. -/
def gapIsOpen (s : State) : Bool := noEpoch s || s.t.mem.gapOpen

/-- BY_GAP.GUARD, R162; 256 on a TSU-W (R360). -/
def guardBeats (s : State) : Nat :=
  if s.tc.fuse.kind = .w then 256 else max 192 (s.regF .tsu 0x3110 0 16)

/-- Every ARMED kickoff lies at least `n` beats ahead. -/
def kickAtLeast (s : State) (n : Nat) : Bool :=
  noEpoch s || match nextKick s with
    | some k => decide ((n : Int) ≤ (k : Int) - s.tc.tk.bc)
    | none => true

def getThr (e : Engine) : Thread → Thr
  | .run => e.run
  | .lead => e.lead

def setThr (th : Thread) (f : Thr → Thr) (e : Engine) : Engine :=
  match th with
  | .run => { e with run := f e.run }
  | .lead => { e with lead := f e.lead }

/-- A thread that is RUNNING or WAITING. -/
def Thr.alive (t : Thr) : Bool := t.st == 1 || t.st == 2

/-- A thread's abandoned cwait leaves the cell's waiter list, R209: its own waiter, and no other that has since taken the rank. -/
def dropWaiter (th : Thread) (w : Option WaitOn) (s : State) : State :=
  match w with
  | some (.cwait c r) =>
    let own (x : Cell) : Bool := (tabGet none x.waiters r).any (fun w => w.owner == .thread th)
    modSg (fun g => { g with cells := tabMod {} g.cells c (fun x =>
      if own x then { x with waiters := tabSet none x.waiters r none } else x) }) s
  | some (.credit _ _) => modHd (fun h => { h with creditWait := false }) s
  | _ => s

/-- R205: while a slice is under test the cue engine holds both threads. -/
def threadsHeld (s : State) : Bool := s.tc.bt.win.isSome

/-- An event for a held thread, applied once the slice's state has been restored. -/
def holdEvent (th : Thread) (ev : HeldEv) (s : State) : State := modCue (fun e => { e with held := e.held ++ [(th, ev)] }) s

/-- A thread that is RUNNING or WAITING abandons its instruction and resumes at its handler (R209). -/
def goHandler (th : Thread) (s : State) : State :=
  let t := getThr s.t.cue th
  if !t.alive then s
  else raise .tsu 0x04 4 (modCue (setThr th (fun t => { t with pc := t.handler, st := 1, wait := none })) (dropWaiter th t.wait s))

/-- The same, at release where a slice is under test (R205, R211). -/
def takeHandler (th : Thread) (s : State) : State := if threadsHeld s then holdEvent th .handler s else goHandler th s

/-- Huddles of a withdrawn step end WITHDRAWN and their credits return (R188, R236, R244). -/
def withdrawHuddles (ws : List StepRec) (s : State) : State :=
  modHd (fun h =>
    let hit (e : Huddle) : Bool := e.out.isNone && ws.any (fun r => r.epoch == e.epoch && r.step == e.step && r.attempt == e.attempt)
    let ended := h.entered.filter hit
    let h1 := { h with
      entered := h.entered.map (fun e => if hit e then { e with out := some (3, 0) } else e),
      census := h.census.filter (fun c => !ws.any (fun r => r.step == c.step && r.attempt == c.attempt)),
      held := h.held.filter (fun c => !ws.any (fun r => r.step == c.step && r.attempt == c.attempt)) }
    match ended.getLast? with
    | some e => { h1 with lastOutcome := 3, lastSlot := e.slot, lastCount := 0, lastStep := e.step % 2 ^ 24 }
    | none => h1) s

/-- Unsent arm-census entries of withdrawn steps leave the lanes' control queues, R188; so do their unsent huddle entries,
whose STEP and ATTEMPT are no longer the sender's (R242). -/
def dropArmEntries (ws : List StepRec) (s : State) : State :=
  let keep (e : QFrame) : Bool := match e.f.payload with
    | .censusUp c => !((c.kind == 0 || c.kind == 2) && ws.any (fun r => r.step == c.step && r.attempt == c.attempt))
    | _ => true
  let f (q : Port) : Port := { q with rel := pullCtl true { q.rel with ctl := q.rel.ctl.filter keep, ctlWait := q.rel.ctlWait.filter keep } }
  modPort .tsu 1 f (modPort .tsu 0 f s)

/-- A withdrawal, R187 and R188: the steps for which `p` holds, with the expected step `exp` as R173 sets it. A DONE step that fails
with its epoch is no withdrawal of R187, so the run thread goes on (R209): a waiting kick keeps waiting (R211). -/
def withdraw (p : StepRec → Bool) (exp : Option Nat) (s : State) : State :=
  let ws := s.t.steps.filter (fun r => r.active && p r)
  let fails := ws.any (fun r => !r.armed)
  let offs := ws.any (·.armed)
  let lead := ws.any (fun r => r.armed && r.inLead)
  let runCur := match s.t.cue.run.cur with
    | some c => ws.any (fun r => r.launched && r.epoch == c.epoch && r.step == c.step && r.attempt == c.attempt)
    | none => false
  let s1 := modT (fun t => { t with
    steps := t.steps.map (fun r => if r.active && p r then
      { r with st := if r.armed then .calledOff else .failed, decision := none, leaveReturn := true,
               inLead := false, bound := false } else r),
    tl := { t.tl with
      probes := t.tl.probes.filter (fun w => !ws.any (fun r => r.step == w.step && r.attempt == w.attempt)),
      windows := if fails then [] else t.tl.windows } }) s
  let s2 := dropArmEntries ws (withdrawHuddles ws s1)
  let s3 := if ws.isEmpty then s2 else modCue (fun e => { e with
    withdrawn := match exp with | some x => some x | none => e.withdrawn,
    passed := e.passed.filter (fun x => !ws.any (fun r => r.step == x.1 && r.attempt == x.2)) }) s2
  let s4 := if lead then takeHandler .lead s3 else s3
  let s5 := if runCur then takeHandler .run s4 else s4
  let s6 := if fails then raiseLocal 0 s5 else s5
  if offs then raiseLocal 4 s6 else s6

/-- The lowest step that a predicate withdraws. -/
def lowestOf (p : StepRec → Bool) (s : State) : Option Nat :=
  s.t.steps.foldl (fun o r => if r.active && p r then
    some (match o with | some k => min k r.step | none => r.step) else o) none

/-- A withdrawal other than a CALL_OFF: the expected step becomes the lowest step withdrawn (R173). -/
def withdrawSet (p : StepRec → Bool) (s : State) : State :=
  match lowestOf p s with
  | some l => withdraw p (some l) (modMem (fun m => { m with expected := some l }) s)
  | none => s

/-- The TSU leaves its epoch at a BENCH, R302; `next` is the epoch it may join. -/
def leaveEpoch (next : Option Nat) (s : State) : State :=
  let s1 := withdrawSet (fun _ => true) s
  let s2 := modMem (fun m => { m with epoch := 0, nextEpoch := next, gapOpen := true, ownFailed := false }) s1
  raiseLocal 5 (modKp (fun k => { k with curValid := false, applied := false }) s2)

/-! Frames a TSU sends upward. -/

/-- The tree a TSU uses now: that of its only lane in UP, else what its keeper's lane carries (R239). -/
def tsuTree (s : State) : Nat :=
  let aUp := (s.port .tsu 0).st == 5
  let bUp := (s.port .tsu 1).st == 5
  if aUp && !bUp then 1
  else if bUp && !aUp then 2
  else match (s.port .tsu (if s.tc.tk.keeper = 1 then 1 else 0)).lastTime with
    | some f => f.censusTree
    | none => s.tc.censusTree

/-- A TSU sends a census entry; SIDELINE sends no epoch-checked frame (R293). The entry is kept for R238. -/
def sendEntry (c : CensusUpF) (s : State) : State :=
  if s.tc.tk.sideline then s else answerCensus c (modHd (fun h => { h with census := h.census ++ [c] }) s)

/-- A frame that travels up both trees leaves on every lane in UP. -/
def sendUp (pl : Payload) (s : State) : State :=
  if s.tc.tk.sideline && payloadChecked pl then s
  else
    let s1 := if (s.port .tsu 0).st = 5 then enqueue .tsu 0 none (tsuFrame pl s) s else s
    if (s1.port .tsu 1).st = 5 then enqueue .tsu 1 none (tsuFrame pl s) s1 else s1

end Sys2Proof.Machine
end

