-- ==== Sys2Proof/Machine/TreeBase.lean ====
section
/-!
DEFINITION. What a DX-D holds of steps and censuses, and what ends it: forwarding down (R24, R27), known kickoffs (R182),
census slots and credits (R233, R237, R240), combinations (R281), lock-step entries (R283).
-/

namespace Sys2Proof.Machine

/-- This DX-D is the acting referee. -/
def rootActs (s : State) : Bool := s.x.straps.role == 2 && s.x.rf2.acting

/-- The root member that keeps the shadow copy, R30. -/
def rootShadow (s : State) : Bool := s.x.straps.role == 2 && !s.x.rf2.acting

def State.served (s : State) (ep : Nat) : Option Served := s.x.cs.served.find? (fun v => v.epoch == ep)

/-- Steps of the job under an epoch: change the one that a census or record names. -/
def modRStep (ep step attempt : Nat) (f : RStep → RStep) (s : State) : State :=
  modRef (fun r => { r with jobs := r.jobs.map (fun b => if b.epoch == ep && decide (1 ≤ b.state ∧ b.state ≤ 4) then
    { b with steps := b.steps.map (fun x => if x.step == step && x.attempt == attempt && x.epoch == ep then f x else x) }
    else b) }) s

/-- The ports in UP that lead to members of an epoch, R27. -/
def dnPorts (s : State) (ep : Nat) : List Nat := (epochPorts s ep).filter (fun p => (s.port .dxd p).st == 5)

/-- A frame passes down this DX-D's tree. -/
def sendDown (f : Frame) (src : Option Nat) (s : State) : State := enqueueAll .dxd (dnPorts s f.epoch) src f s

/-- A pair link in UP. -/
def pairPort (s : State) : Option Nat :=
  if (s.port .dxd (twinPort s)).st = 5 ∧ isPair .dxd s (twinPort s) then some (twinPort s)
  else if (s.port .dxd (parentPort s)).st = 5 ∧ isPair .dxd s (parentPort s) then some (parentPort s)
  else none

/-- A frame for the twin over a pair link. -/
def sendTwin (f : Frame) (s : State) : State :=
  match pairPort s with
  | some p => enqueue .dxd p none f s
  | none => s

/-! Known kickoffs, R132 and R182. -/

/-- The same step and attempt of an epoch. -/
def KnownKick.is (k : KnownKick) (ep step attempt : Nat) : Bool :=
  k.epoch == ep && k.step == step && k.attempt == attempt

/-- An ARM forwarded here: a new kickoff, or a later one for a known step. The strobe comes at the kickoff beat in effect 512 beats
before it (R182), so a later one no longer moves it from then on. -/
def noteArm (ep : Nat) (f : ArmF) (s : State) : State :=
  let bc := s.dc.tk.bc
  let k := extend48 bc f.kick
  modX (fun x =>
    let hit (q : KnownKick) : Bool := q.is ep f.step f.attempt
    if x.kicks.any hit then { x with kicks := listModify hit (fun q => if bc + 512 ≤ q.k then { q with k := k } else q) x.kicks }
    else { x with kicks := x.kicks ++ [⟨ep, f.step, f.attempt, k, false, false, false, false⟩] }) s

/-- Steps of an epoch at or above `step` are withdrawn here. -/
def noteCallOff (ep step : Nat) (s : State) : State :=
  modX (fun x => { x with kicks := x.kicks.map (fun q =>
    if q.epoch == ep && decide (step ≤ q.step) then { q with withdrawn := true } else q) }) s

/-- ACCEPTED or COMMITTED forwarded here; a committed step that has been strobed is forgotten. -/
def noteOutcome (ep : Nat) (f : CensusDnF) (s : State) : State :=
  modX (fun x =>
    let mark (q : KnownKick) : KnownKick :=
      if q.is ep f.step f.attempt then
        { q with accepted := q.accepted || f.outcome == 1, committed := q.committed || f.outcome == 2 } else q
    let keep (q : KnownKick) : Bool := !(q.committed && q.strobed)
    { x with kicks := (x.kicks.map mark).filter keep }) s

/-! Census slots, R233 and R240. -/

/-- A huddle that holds a credit toward the parent. -/
def Census.credited (c : Census) : Bool := c.sent && c.id.kind == 2

/-- Free census slots; credits return (R237, R239). -/
def freeCensus (p : Census → Bool) (s : State) : State :=
  modCs (fun c => { c with
    open_ := c.open_.filter (fun x => !p x), early := c.early.filter (fun x => !p ⟨x.1, [], [], [], false, false⟩),
    credits := c.credits + c.open_.countP (fun x => p x && x.credited) }) s

/-- Partial combinations of steps at or above `step` are dropped, R281. -/
def dropCombos (ep step : Nat) (s : State) : State :=
  modScores (fun t => { t with combos := t.combos.filter (fun c => !(c.epoch == ep && decide (step ≤ c.step))) }) s

/-! Lock-step entries, R283. -/

/-- A side of an entry: epoch, first rank, engines. -/
structure LsSide where
  epoch : Nat
  first : Nat
  count : Nat
  deriving DecidableEq, Repr

/-- Side 0 X, 1 Y, 2 Z of entry e. -/
def lsSide (s : State) (e n : Nat) : LsSide :=
  let w := s.reg .dxd (0xA100 + 0x20 * e + 8 * n)
  ⟨fld w 32 32, fld w 18 14, fld w 4 14⟩

/-- The sides in use: X, Y and Z where its COUNT is not 0. -/
def lsSides (s : State) (e : Nat) : List LsSide :=
  let z := lsSide s e 2
  [lsSide s e 0, lsSide s e 1] ++ (if z.count = 0 then [] else [z])

/-- LANES of an entry. -/
def lsLanes (s : State) (e : Nat) : Nat := s.regF .dxd (0xA118 + 0x20 * e) 0 16

def State.lsEnt (s : State) (e : Nat) : LsEntry := tabGet {} s.x.tl.ent e

def modEnt (e : Nat) (f : LsEntry → LsEntry) (s : State) : State :=
  modScores (fun t => { t with ent := tabMod {} t.ent e f }) s

/-- Two sides share a rank of one epoch. -/
def sidesOverlap (a b : LsSide) : Bool :=
  a.epoch == b.epoch && decide (a.first < b.first + b.count ∧ b.first < a.first + a.count)

/-- The job of an epoch at the root. -/
def jobOfEpoch (s : State) (ep : Nat) : Option Job :=
  s.x.rf2.jobs.find? (fun b => b.epoch == ep && decide (1 ≤ b.state ∧ b.state ≤ 4))

/-- The check of R283: 0 taken, 1 FP_DIFFER, 2 SEED_DIFFER, 3 SHAPE. -/
def lsCheck (s : State) (e : Nat) : Nat :=
  let l := lsSides s e
  let x := lsSide s e 0
  let y := lsSide s e 1
  let z := lsSide s e 2
  let inside (a : LsSide) : Bool := match jobOfEpoch s a.epoch with
    | some b => decide (a.first + a.count ≤ b.engines)
    | none => false
  let overlap := sidesOverlap x y || (z.count != 0 && (sidesOverlap x z || sidesOverlap y z))
  if l.any (fun a => a.count != x.count) || overlap || l.any (fun a => !inside a) then 3
  else
    let jobs := l.filterMap (fun a => jobOfEpoch s a.epoch)
    match jobs with
    | [] => 3
    | b :: rest =>
      if rest.any (fun c => c.fp != b.fp) then 1 else if rest.any (fun c => c.seed != b.seed) then 2 else 0

/-- An entry is checked, and refused where it fails. -/
def lsRecheck (e : Nat) (s : State) : State :=
  let r := lsCheck s e
  let s1 := modEnt e (fun x => { x with valid := r == 0, refused := r != 0, reason := r }) s
  if r = 0 then s1 else raise .dxd 0x0A 2 s1

def LsRec.is (r : LsRec) (ep step die lane window : Nat) : Bool :=
  r.epoch == ep && r.step == step && r.die == die && r.lane == lane && r.window == window

/-- A record of a side: rank, position, lane, window. -/
def lsFind (s : State) (a : LsSide) (i step pos lane window : Nat) : Option LsRec :=
  s.x.tl.recs.find? (fun r => r.is a.epoch step ((a.first + i) * 2 ^ 16 + pos) lane window && r.hi.isSome && r.lo.isSome)

/-- The lanes of a die position that an entry compares: 4 lanes on compute and memory-side dies, 16 on I/O (R271). -/
def lsLanesOf (mask pos : Nat) : List Nat :=
  (upTo 16).filter (fun l => mask.testBit l && (decide (l < 4) || decide (147 ≤ pos)))

/-- Partner sets, positions and lanes of an entry. -/
def lsSpots (s : State) (e : Nat) : List (Nat × Nat × Nat) :=
  (upTo (lsSide s e 0).count).flatMap (fun i =>
    (upTo 175).flatMap (fun pos => (lsLanesOf (lsLanes s e) pos).map (fun l => (i, pos, l))))

/-- The dies, with their epochs, whose closing records of a step have not arrived on any side of an undecided entry that names this
epoch, R286. -/
def closingMissing (s : State) (ep step : Nat) : List (Nat × Nat) :=
  ((upTo 8).flatMap (fun e =>
    if !(s.lsEnt e).valid || (s.lsEnt e).done.contains step || !(lsSides s e).any (fun a => a.epoch == ep) then []
    else (lsSides s e).flatMap (fun a => (lsSpots s e).filterMap (fun q =>
      if (lsFind s a q.1 step q.2.1 q.2.2 0xFFFFFF).isSome then none
      else some (a.epoch, (a.first + q.1) * 2 ^ 16 + q.2.1))))).dedup

/-- A record may still be compared: some valid entry names its epoch and has a side whose job has not committed its step. -/
def lsNeeded (s : State) (r : LsRec) : Bool :=
  (upTo 8).any (fun e => (s.lsEnt e).valid && (lsSides s e).any (fun a => a.epoch == r.epoch) &&
    (lsSides s e).any (fun a => match jobOfEpoch s a.epoch with
      | some b => !b.committedTo.any (fun c => decide (r.step ≤ c))
      | none => false))

/-- The records of a step that every side has committed leave the store (log 92). -/
def lsForget (step : Nat) (s : State) : State :=
  modScores (fun t => { t with recs := t.recs.filter (fun r => r.step != step || lsNeeded s r) }) s

/-- The epoch of a side ends and its job goes on: the entry follows, and is checked again (R283, R287). -/
def lsMoveEpoch (old new : Nat) (s : State) : State :=
  let s1 := modScores (fun t => { t with recs := t.recs.filter (fun r => r.epoch != old) }) s
  (upTo 8).foldl (fun s e =>
    if (upTo 3).any (fun n => (lsSide s e n).epoch == old) then
      let s2 := (upTo 3).foldl (fun s n =>
        if (lsSide s e n).epoch = old then
          setReg .dxd (0xA100 + 0x20 * e + 8 * n) (~~~0xFFFFFFFF#64) (wd [(32, new)]) s else s) s
      let s3 := modEnt e (fun x => { x with done := [] }) s2
      if (s3.lsEnt e).valid then lsRecheck e s3 else s3
    else s) s1

end Sys2Proof.Machine
end

