-- ==== Sys2Proof/Machine/RefereeBase.lean ====
section
/-!
DEFINITION. The referee's shared operations: tree positions and fence reports (R294, R295), the ledger (R306 to R308),
pausing a job, CALL_OFF and BENCH (R186, R299 to R305, R312, R313), commits (R183, R308).
-/

namespace Sys2Proof.Machine

/-- Level of a DX-D: 0 root to 3 package (R10). -/
def dxdLevel (s : State) : Nat :=
  if s.x.straps.role = 2 then 0 else if s.x.straps.role = 1 then (if s.x.straps.level = 0 then 1 else 2) else 3

/-- BENCH TARGET of kind 0x1. -/
def dxdTarget (level side : Nat) (ws : Bool) (pair : Nat) : Nat :=
  level * 2 ^ 30 + side * 2 ^ 29 + b2n ws * 2 ^ 28 + pair % 2 ^ 14

/-- This DX-D as SENDER of a fence report. -/
def selfTarget (s : State) : Nat :=
  dxdTarget (dxdLevel s) s.x.straps.side s.x.straps.wsTree s.x.straps.pair

/-- This DX-D's twin. -/
def twinTarget (s : State) : Nat :=
  dxdTarget (dxdLevel s) (1 - s.x.straps.side) s.x.straps.wsTree s.x.straps.pair

/-- The pair index of the child pair on downstream port `p` (R21 and the BENCH payload). -/
def childPair (s : State) (p : Nat) : Nat :=
  match dxdLevel s with
  | 0 => p
  | 1 => if s.x.straps.wsTree then p else s.x.straps.pair * 64 + p
  | _ => s.x.straps.pair * 64 + p

/-- The child DX-D on downstream port `p`, of this member's side. -/
def childTarget (s : State) (p : Nat) : Nat :=
  dxdTarget (dxdLevel s + 1) s.x.straps.side (if dxdLevel s = 0 then p == 4 else s.x.straps.wsTree) (childPair s p)

/-- The downstream port that leads toward the pair of a kind 0x1 target, R70. -/
def portToward (s : State) (target : Nat) : Option Nat :=
  let lv := target / 2 ^ 30
  let ws := target / 2 ^ 28 % 2 == 1
  let i := target % 2 ^ 14
  let own := dxdLevel s
  let pair := s.x.straps.pair
  let h2 := if lv = 3 then i / 64 else i
  if lv ≤ own then none
  else match own with
    | 0 => if ws then some 4 else if lv = 1 then some i else some (h2 / 64)
    | 1 =>
      if s.x.straps.wsTree != ws then none
      else if lv = 2 ∨ lv = 3 then (if ws || h2 / 64 == pair then some (h2 % 64) else none) else none
    | 2 => if s.x.straps.wsTree == ws && lv == 3 && i / 64 == pair then some (i % 64) else none
    | _ => none

/-- The member of a served epoch on a lane. -/
def laneMember (s : State) (p : Nat) : Option (Nat × LaneMember) :=
  s.x.cs.served.findSome? (fun v => (v.members.find? (fun m => m.port == p)).map (fun m => (v.epoch, m)))

/-- The class and rank of a die identifier, R22. -/
def dieClass (die : Nat) : Nat := die / 2 ^ 30
def dieRank (die : Nat) : Nat := die / 2 ^ 16 % 2 ^ 14
def diePos (die : Nat) : Nat := die % 256

/-! The ledger. -/

/-- A record has not been exported; SEQ goes in serial order, since it wraps (R306). The copies of a DX-D below the root carry none. -/
def Ledger.kept (l : Ledger) (r : LedgerRec) : Bool := r.seq == 0 || decide (0 < serial 32 r.seq l.exported)

/-- Records free for writing, R310 and R323. -/
def ledgerFree (l : Ledger) : Nat := 16384 - l.recs.countP l.kept

/-- There is room for these records, and for the ORIGIN record that the next ORIGIN_SEQ may need: a message whose record cannot be
written is not sent (R307, R308; log 114). -/
def ledgerRoom (n : Nat) (s : State) : Bool :=
  decide (n + b2n (decide (s.x.rf2.oseqReserved ≤ s.x.rf2.oseqNext)) ≤ ledgerFree s.x.lg)

/-- The SEQ after this one, R306. -/
def nextSeq (n : Nat) : Nat := if n = 0xFFFFFFFF then 1 else n + 1

/-- Every job becomes PAUSED; a job that changes STATE is an event of the MB page (R322). -/
def pauseEvery (f : Job → Job) (s : State) : State :=
  raiseIf (s.x.rf2.jobs.any (fun b => decide (1 ≤ b.state ∧ b.state ≤ 3))) .dxd 0x14 2
    (modRef (fun r => { r with jobs := r.jobs.map (fun b =>
      if 1 ≤ b.state ∧ b.state ≤ 4 then f { b with state := 4 } else b) }) s)

/-- R310 after a record: LEDGER_LOW below 256 free records; at none every job is PAUSED with LEDGER_FULL. -/
def ledgerWatch (s : State) : State :=
  let n := ledgerFree s.x.lg
  let s1 := if n < 256 then raise .dxd 0x15 1 s else s
  if n = 0 then pauseEvery (fun b => { b with result := 0xA }) s1 else s1

/-- Append a record; it waits to become durable (R307). Exported records make room (R310). -/
def ledgerAppend (ty attempt step epoch value : Nat) (data : List Byte) (ckpt : Bool) (s : State) : State :=
  if ledgerFree s.x.lg = 0 then s
  else ledgerWatch (modLg (fun l =>
    let r : LedgerRec := ⟨ty, attempt, step, epoch, l.next, value, data, l.solo, ckpt⟩
    let keep := if 16384 ≤ l.recs.length then l.recs.drop 1 else l.recs
    { l with recs := keep ++ [r], open_ := l.open_ ++ [l.next], next := nextSeq l.next }) s)

/-- The SEQ of the record just appended. -/
def lastSeq (s : State) : Nat := (s.x.lg.recs.getLast?.map (·.seq)).getD 0

/-- A message that leaves when the records written so far are durable, for these ports. -/
def afterLedgerTo (ports : List Nat) (f : Frame) (s : State) : State :=
  modLg (fun l => { l with msgs := l.msgs ++ [⟨(l.recs.getLast?.map (·.seq)).getD 0, f, ports⟩] }) s

/-- The engine or weight server that a bench of kind 0x0 or 0x2 replaces: class and rank. -/
def replacedRank (target : Nat) : Nat × Nat := (dieClass target, dieRank target)

/-- A bench for this target benches this die: the die itself, or its whole engine or weight server. -/
def benchesDie (kind target reason die : Nat) : Bool :=
  reason != 0 && reason != 0xB && ((kind == 0 && target == die) || (kind == 2 && replacedRank target == replacedRank die))

/-- Record a BENCH that was sent or acted on, R321 and R322; a complaint about a die that it benches is settled (R316). -/
def noteBench (kind target reason : Nat) (s : State) : State :=
  let s1 := raise .dxd 0x14 1 (modRef (fun r => { r with benchReason := reason, benchKind := kind, benchTarget := target }) s)
  if s.x.rf2.complaint = 1 ∧ benchesDie kind target reason s.x.rf2.complaintDie then
    raise .dxd 0x14 3 (modRef (fun r => { r with complaint := 3 }) s1)
  else s1

/-- A BENCH that ends an epoch leaves now: the replay of the job under the new one counts from here, with the ADMIT_LEAD that the
BENCH carries (R314). -/
def replayFrom (ep : Nat) (f : BenchF) (s : State) : State :=
  if f.kind = 1 ∨ f.newEpoch = ep then s
  else modRef (fun r => { r with jobs := r.jobs.map (fun b => if b.epoch == f.newEpoch then
    { b with pause := b.pause.map (fun p => { p with benchAt := some s.dc.tk.bc, lead := f.admitLead }) } else b) }) s

/-- What the referee notes of a message that leaves. -/
def noteSent (f : Frame) (s : State) : State :=
  match f.payload with
  | .bench b => replayFrom f.epoch b (noteBench b.kind b.target b.reason s)
  | _ => s

/-- A message leaves: down the root's own tree, and to the twin (R307). -/
def sendMsg (m : LedgerMsg) (s : State) : State :=
  noteSent m.frame (sendTwin m.frame (enqueueAll .dxd (m.ports.filter (fun p => (s.port .dxd p).st == 5)) none m.frame s))

/-- No record up to this one is still open. -/
def recordsDurable (l : Ledger) (seq : Nat) : Bool := l.open_.all (fun o => decide (0 < serial 32 o seq))

/-- The messages whose records are durable leave, in order. -/
def flushMsgs : Nat → State → State
  | 0, s => s
  | n + 1, s =>
    match s.x.lg.msgs with
    | m :: rest => if recordsDurable s.x.lg m.seq then flushMsgs n (sendMsg m (modLg (fun l => { l with msgs := rest }) s)) else s
    | [] => s

def flushLedger (s : State) : State := flushMsgs s.x.lg.msgs.length s

/-- A message to the members of an epoch. -/
def afterLedger (epoch : Nat) (f : Frame) (s : State) : State := flushLedger (afterLedgerTo (epochPorts s epoch) f s)

/-- The next ORIGIN_SEQ; a new block of 4,096 writes its ORIGIN record first (R307). -/
def takeOseq (s : State) : Nat × State :=
  let q := s.x.rf2.oseqNext
  let s1 := if s.x.rf2.oseqReserved ≤ q then
      ledgerAppend 3 0 0 0 (q + 4095) [] false (modRef (fun r => { r with oseqReserved := q + 4096 }) s)
    else s
  (q % 2 ^ 32, modRef (fun r => { r with oseqNext := q + 1 }) s1)

/-! Jobs. -/

def State.job (s : State) (j : Nat) : Option Job := s.x.rf2.jobs.find? (fun b => b.slot == j)

def modJob (j : Nat) (f : Job → Job) (s : State) : State :=
  modRef (fun r => { r with jobs := listModify (fun b => b.slot == j) f r.jobs }) s

/-- A job changes STATE, R322. -/
def setJobState (j st : Nat) (s : State) : State :=
  match s.job j with
  | some b => if b.state = st then s else raise .dxd 0x14 2 (modJob j (fun b => { b with state := st }) s)
  | none => s

/-- PAUSED with LEDGER_FULL or SPLIT_REFEREE: evidence does not set such a job in motion again (R310, R311). -/
def Job.stays (b : Job) : Bool := b.state == 4 && (b.result == 0xA || b.result == 0xB)

/-- A paused job is RECOVERING while it is benched and replayed, R312. -/
def setRecovering (j : Nat) (s : State) : State :=
  match s.job j with
  | some b => if b.stays then s else setJobState j 3 s
  | none => s

/-- A slot is in some job. -/
def slotInJob (s : State) (ws : Bool) (slot : Nat) : Bool :=
  s.x.rf2.jobs.any (fun b => decide (1 ≤ b.state ∧ b.state ≤ 4) && (if ws then b.wsMap else b.engineMap).contains slot)

/-- l_eff of R168. -/
def lEff (c : Sched) : Nat := min c.armLead (c.runAhead * c.minPeriod)

/-- A step that is armed at the root: sent, not launched, not withdrawn. -/
def RStep.isArmed (r : RStep) : Bool := r.sent && !r.launched && !r.withdrawn && !r.committed

/-- Beats from now to a kickoff. -/
def ahead (s : State) (k : Nat) : Int := (k : Int) - s.dc.tk.bc

/-- A valid lock-step entry has a side of this epoch, R283 and R280; Z is a side where its COUNT is not 0 (R291). -/
def epochPaired (s : State) (ep : Nat) : Bool :=
  (upTo 8).any (fun e => (s.lsEnt e).valid && (lsSides s e).any (fun a => a.epoch == ep))

/-- R312 step 1 and R183: commit, in step order, every step whose hall scorecard is formed and, for lock-step epochs,
compared. -/
def commitSteps (j : Nat) (s : State) : State :=
  match s.job j with
  | none => s
  | some b =>
    b.steps.foldl (fun s r =>
      let before := (s.job j).map (·.steps) |>.getD []
      let prevOk := r.step == b.sched.firstStep || b.committedTo == some (r.step - 1) ||
        before.any (fun q => q.step + 1 == r.step && (q.committing || q.committed))
      let cmp := !epochPaired s r.epoch || s.x.tl.compared.contains (r.epoch, r.step)
      match r.hall with
      | some h =>
        if r.accepted && !r.committing && !r.committed && !r.withdrawn && prevOk && cmp && decide (0 < ledgerFree s.x.lg) then
          let s1 := ledgerAppend 6 r.attempt r.step r.epoch 0 h r.checkpoint s
          let dn : CensusDnF := ⟨1, r.step % 8, r.step, r.attempt, 2, 0⟩
          let s2 := noteOutcome r.epoch dn (afterLedger r.epoch ⟨r.epoch, .censusDn dn⟩ s1)
          modJob j (fun b => { b with steps := b.steps.map (fun q =>
            if q.step == r.step && q.attempt == r.attempt then { q with committing := true } else q) }) s2
        else s
      | none => s) s

/-- What a DX-D drops of the steps of an epoch at or above `step` (R188, R281). -/
def endSteps (ep step : Nat) (s : State) : State :=
  noteCallOff ep step (dropCombos ep step (freeCensus (fun c => c.id.epoch == ep && decide (step ≤ c.id.step)) s))

/-- R186: the lowest ARMED step 10,000 beats or more ahead. -/
def callOffStep (s : State) (b : Job) : Option RStep :=
  b.steps.foldl (fun o r => if r.isArmed && decide (10000 ≤ ahead s r.k) then
    (match o with | some q => if r.step < q.step then some r else o | none => some r) else o) none

/-- Send CALL_OFF with this REASON where R186 allows it; every ARMED step at or above STEP is withdrawn. -/
def sendCallOff (j reason : Nat) (s : State) : State :=
  match s.job j with
  | none => s
  | some b => match callOffStep s b with
    | none => s
    | some r =>
      if !ledgerRoom 0 s then s else
      let q := takeOseq s
      let s0 := endSteps b.epoch r.step q.2
      let s1 := afterLedger b.epoch ⟨b.epoch, .callOff ⟨q.1, r.step, r.attempt, reason⟩⟩ s0
      modJob j (fun b => { b with steps := b.steps.map (fun x =>
        if x.isArmed && decide (r.step ≤ x.step) then { x with withdrawn := true } else x) }) s1

/-- The slot that holds a rank. -/
def slotOf (b : Job) (cls rank : Nat) : Option Nat := (if cls = 0 then b.engineMap else b.wsMap)[rank]?

/-- The job that a die identifier belongs to under an epoch (0: any). -/
def jobOfDie (s : State) (die ep : Nat) : Option Job :=
  s.x.rf2.jobs.find? (fun b => decide (1 ≤ b.state ∧ b.state ≤ 4) && (ep == 0 || b.epoch == ep) &&
    (slotOf b (dieClass die) (dieRank die)).isSome)

/-- The valid spare with the lowest slot that is not IN_USE and fits, R304 and R305; one benched since it was listed waits for firmware
to list it again (R301). -/
def findSpare (s : State) (b : Job) (ws : Bool) : Option (Nat × Spare) :=
  s.x.rf2.spares.foldl (fun o e =>
    if e.2.valid && !slotInJob s ws e.2.slot && !s.x.rf2.benchedSlots.contains (ws, e.2.slot) && e.2.ws == ws &&
        (ws || decide (e.2.bestClass ≤ b.mapClass)) then
      (match o with | some q => if e.2.slot < q.2.slot then some e else o | none => some e) else o) none

/-- The root port that leads to a slot, R10 and R21. -/
def rootPortOf (ws : Bool) (slot : Nat) : Nat := if ws then 4 else slot / 4096

/-- The header of an image with its CRC, R380. -/
def imageOf (image kind : Nat) (fw : FwEntry) (target : Nat) (body : List Byte) : List Byte :=
  let hdr (crc : Nat) : List Byte := bytesBE 4 1 ++ bytesBE 2 image ++ bytesBE 1 kind ++ bytesBE 1 0 ++
    fwBytes fw ++ bytesBE 4 (64 + body.length) ++ bytesBE 4 target ++ bytesBE 4 crc ++ List.replicate 36 0
  hdr (crc32 (hdr 0 ++ body)) ++ body

/-- A section with its head, padded to 8 bytes (R381). -/
def sectionOf (ty : Nat) (body : List Byte) : List Byte :=
  bytesBE 2 ty ++ bytesBE 2 0 ++ bytesBE 4 body.length ++ body ++ List.replicate ((8 - body.length % 8) % 8) 0

/-- The ADMIT section, R384. -/
def admitBody (epoch rank gS gK period late : Nat) : List Byte :=
  bytesBE 4 epoch ++ bytesBE 4 rank ++ bytesBE 6 gS ++ bytesBE 2 0 ++ bytesBE 8 gK ++ bytesBE 8 period ++
    bytesBE 2 late ++ bytesBE 6 0

/-- The CONFIG frames of an image. -/
def configFrames (epoch image : Nat) (img : List Byte) : List Frame :=
  (upTo ((img.length + 15) / 16)).map (fun i =>
    ⟨epoch, .config ⟨image, i, (sub img (16 * i) 16 ++ List.replicate 16 0).take 16⟩⟩)

/-- An image that waits for the same records, for these ports. -/
def imageAfterLedger (ports : List Nat) (fs : List Frame) (s : State) : State :=
  flushLedger (fs.foldl (fun s f => afterLedgerTo ports f s) s)

/-! Group counts, R235. -/

/-- The pair of a level over a slot, as a pair index of BENCH TARGET; the root is pair 0. -/
def pairOver (level : Nat) (ws : Bool) (slot : Nat) : Nat :=
  match level with
  | 3 => slot
  | 2 => slot / 64
  | 1 => if ws then 4 else slot / 4096
  | _ => 0

/-- The slot lies below the pair. -/
def slotBelow (level : Nat) (ws : Bool) (pair : Nat) (ws' : Bool) (slot : Nat) : Bool :=
  level == 0 || (ws == ws' && pairOver level ws slot == pair)

/-- Members of one engine in a group entry: dies of its kinds. -/
def engineDies (e : Nat) : Nat :=
  let w := BitVec.ofNat 64 e
  49 * b2n (bit w 60) + 98 * b2n (bit w 61) + 28 * b2n (bit w 62)

/-- Ranks first to last whose slot lies below a pair. -/
def ranksBelow (m : List Nat) (first last : Nat) (below : Nat → Bool) : List Nat :=
  ((m.take (last + 1)).drop first).filter below

/-- Members of group g (its entry `e`; group 0 is everyone) below a pair; `ends` counts the TSU-equivalents of the
weight-server slots that compatible endpoints occupy (R33). -/
def groupBelow (ends : List (Nat × Nat)) (b : Job) (g e level : Nat) (ws : Bool) (pair : Nat) : Nat :=
  let w := BitVec.ofNat 64 e
  let eng := slotBelow level ws pair false
  let srv := slotBelow level ws pair true
  let servers (l : List Nat) : Nat := l.foldl (fun n slot => n + tabGet 4 ends slot) 0
  if g = 0 then 175 * b.engineMap.countP eng + servers (b.wsMap.filter srv)
  else engineDies e * (ranksBelow b.engineMap (fld w 46 14) (fld w 32 14) eng).length +
    (if bit w 63 then servers (ranksBelow b.wsMap (fld w 18 14) (fld w 4 14) srv) else 0)

/-- Every pair of a level that has a mapped slot below it. -/
def pairsOf (b : Job) (level : Nat) : List (Bool × Nat) :=
  (b.engineMap.map (fun n => (false, pairOver level false n)) ++ b.wsMap.map (fun n => (true, pairOver level true n))).eraseDups

/-- (LCA, EXPECT) of a group at a pair. -/
def groupAt (ends : List (Nat × Nat)) (b : Job) (g level : Nat) (ws : Bool) (pair : Nat) : Bool × Nat :=
  let e := if g = 0 then 0 else (b.groups[g - 1]?).getD 0
  let n := groupBelow ends b g e level ws pair
  let total := groupBelow ends b g e 0 false 0
  let deeper := level != 3 && (pairsOf b (level + 1)).any (fun q => groupBelow ends b g e (level + 1) q.1 q.2 == total)
  (n != 0 && n == total && !deeper, n)

/-- The identifier of the n-th CENSUS image under an epoch. Successive epochs use other identifiers, so that R71 takes none
of a new epoch's chunks for a copy of an old one's (log 74). -/
def censusImageId (ep n : Nat) : Nat := 0x3000 + (128 * ep + n) % 4096

/-- One GROUPS entry. -/
def groupsEntry (g : Bool × Nat) : List Byte := bytesBE 4 (b2n g.1 * 2 ^ 31 + g.2)

/-- The CENSUS image for a pair. -/
def censusImage (s : State) (b : Job) (n level : Nat) (ws : Bool) (pair : Nat) : List Byte :=
  let groups := sectionOf 0x12 ((upTo 256).flatMap (fun g => groupsEntry (groupAt s.x.straps.endpoints b g level ws pair)))
  let table := if level = 3 then sectionOf 0x13 (b.groups.flatMap (fun g => bytesBE 8 g)) else []
  imageOf (censusImageId b.epoch n) 0xF s.dc.boot.fw (dxdTarget level s.x.straps.side ws pair) (groups ++ table)

/-- A CENSUS image for every pair with members, by way of the root port that leads to it (R235, R382). -/
def sendCensusImages (b : Job) (s : State) : State :=
  let all : List (Nat × Bool × Nat) :=
    [1, 2, 3].flatMap (fun l => (pairsOf b l).map (fun q => (l, q.1, q.2)))
  let port (l : Nat) (ws : Bool) (pair : Nat) : Nat :=
    if ws then 4 else if l = 1 then pair else if l = 2 then pair / 64 else pair / 4096
  (upTo all.length).foldl (fun s n => match all[n]? with
    | some (l, ws, pair) =>
      imageAfterLedger [port l ws pair] (configFrames b.epoch (censusImageId b.epoch n) (censusImage s b n l ws pair)) s
    | none => s) s

/-- What a root member serves under a job's epoch: its own ports and the group counts of level 0 (R235). -/
def rootServed (ends : List (Nat × Nat)) (b : Job) : Served :=
  let ports := (b.engineMap.map (rootPortOf false) ++ b.wsMap.map (rootPortOf true)).eraseDups
  let groups := (upTo 256).foldl (fun t g => tabSet (false, 0) t g (groupAt ends b g 0 false 0)) []
  { epoch := b.epoch, ports := ports, groups := groups, loaded := true, table := b.groups, members := [], deadline := 0 }

/-- A root member serves a job under its present epoch. -/
def serveJob (b : Job) (s : State) : State :=
  modCs (fun c => { c with served := c.served.filter (fun v => v.epoch != b.epoch) ++ [rootServed s.x.straps.endpoints b] }) s

/-- A served epoch becomes its successor (R302) at this DX-D. -/
def renameServed (old new : Nat) (s : State) : State :=
  modCs (fun c => { c with served := c.served.map (fun v => if v.epoch == old then
    { v with epoch := new, members := v.members.map (fun m => { m with joined := false, reported := false }) } else v) }) s

/-- Issue the next epoch, R299. -/
def nextEpochOf (s : State) : Nat := s.x.rf2.lastEpoch + 1

/-- A job under its next epoch: every step not committed is withdrawn, and a spare's slot takes the rank of what it
replaces (R23, R302, R305). -/
def Job.nextEpoch (b : Job) (ne : Nat) (hard : Bool) (cr : Nat × Nat) (slot : Nat) : Job :=
  { b with
    epoch := ne,
    steps := b.steps.map (fun r => if r.committed || r.committing then r else { r with withdrawn := true }),
    benched := if hard then sat16 (b.benched + 1) else b.benched,
    engineMap := if hard && cr.1 == 0 then b.engineMap.set cr.2 slot else b.engineMap,
    wsMap := if hard && cr.1 == 1 then b.wsMap.set cr.2 slot else b.wsMap }

/-- The admission image of a spare, which takes the rank of what it replaces (R305, R384), to every DX-D (R380, R382). -/
def sendAdmission (b : Job) (ne : Nat) (cr : Nat × Nat) (s : State) : State :=
  let die := cr.1 * 2 ^ 30 + cr.2 * 2 ^ 16
  let id := 0x2000 + ne % 4096
  let img := imageOf id 0xF s.dc.boot.fw 0xFFFFFFFF
    (sectionOf 0x11 (admitBody ne die b.gS b.gK b.period b.late))
  imageAfterLedger (downPorts s) (configFrames ne id img) s

/-- ADMIT_LEAD in effect, R321. -/
def admitLead (s : State) : Nat := max 100000 (s.regF .dxd 0x14108 32 32)

/-- Send the BENCH or RENEW of a job for one target (R299, R305, R313): EPOCH record, BENCH, and the admission image where a
member is replaced. With no spare the job is PAUSED with NO_SPARE. `reason` 0 renews and benches nothing, and one RENEW serves every
self-fence of the pause. -/
def sendBench (j : Nat) (t : Nat × Nat × Nat) (s : State) : State :=
  match s.job j with
  | none => s
  | some b =>
    if s.x.rf2.lastEpoch ≥ 0xFFFFFFFF ∨ !ledgerRoom 1 s then s else
    let kind := t.1
    let target := t.2.1
    let reason := t.2.2
    let cr := replacedRank target
    let hard := reason != 0
    let spare := findSpare s b (cr.1 == 1)
    if hard && spare.isNone then
      setJobState j 4 (modJob j (fun b => { b with result := 4 }) s)
    else
      let ne := nextEpochOf s
      let slot := if hard then (spare.map (fun e => e.2.slot)).getD 0xFFFF else 0xFFFF
      let rest (l : List (Nat × Nat × Nat)) : List (Nat × Nat × Nat) :=
        l.filter (fun u => u != t && u.2.2 != 0 && !(hard && replacedRank u.2.1 == cr))
      let paused (p : Pause) : Pause :=
        { p with benchAt := none, endsEpoch := true, waiting := false, deferTo := none, targets := rest p.targets }
      let q := takeOseq (modRef (fun r => { r with lastEpoch := ne }) (setRecovering j s))
      let s2 := ledgerAppend 2 0 0 ne (b.epoch * 2 ^ 32 + reason * 2 ^ 24 + kind * 2 ^ 16)
        (bytesBE 4 target ++ bytesBE 2 slot) false q.2
      let s3 := afterLedger b.epoch ⟨b.epoch, .bench ⟨q.1, ne, kind, target, reason, admitLead s⟩⟩ s2
      let s4 := match hard, spare with
        | true, some e =>
          modRef (fun r => { r with
            benchedDevs := (kind, target) :: r.benchedDevs,
            benchedSlots := r.benchedSlots ++ ((slotOf b cr.1 cr.2).map (fun n => (cr.1 == 1, n))).toList })
            (sendAdmission b ne cr s3)
        | _, _ => s3
      let s8 := modJob j (fun b => { b.nextEpoch ne hard cr slot with pause := b.pause.map paused }) s4
      let s9 := lsMoveEpoch b.epoch ne (renameServed b.epoch ne (endSteps b.epoch 0 s8))
      match hard, s9.job j with
      | true, some n => sendCensusImages n (serveJob n s9)
      | _, _ => s9

/-- The target that goes first: a member to bench before any RENEW, which goes only where none is benched (R312). -/
def firstTarget (l : List (Nat × Nat × Nat)) : Option (Nat × Nat × Nat) :=
  match l.find? (fun t => t.2.2 != 0) with
  | some t => some t
  | none => l.head?

/-- The targets of a pause are benched one after another, each under its own epoch, while the job is RECOVERING. -/
def benchTargets (j : Nat) : Nat → State → State
  | 0, s => s
  | n + 1, s =>
    match s.job j with
    | none => s
    | some b => match b.pause.bind (fun p => firstTarget p.targets) with
      | none => s
      | some t => if b.state = 3 then benchTargets j n (sendBench j t s) else s

/-- R313: a BENCH that ends an epoch waits while an ARMED step's kickoff is less than 10,000 beats ahead; it goes 1 beat
after that kickoff. -/
def benchOrDefer (j : Nat) (s : State) : State :=
  match s.job j with
  | none => s
  | some b => match b.pause with
    | none => s
    | some p =>
      let near := b.steps.foldl (fun o r => if r.isArmed && decide (0 ≤ ahead s r.k ∧ ahead s r.k < 10000) then
        some (match o with | some k => max k r.k | none => r.k) else o) none
      match near with
      | some k => modJob j (fun b => { b with pause := b.pause.map (fun p => { p with deferTo := some (k + 1) }) }) s
      | none => benchTargets j p.targets.length s

/-- Targets joined: each member once, and no RENEW of an engine or weight server that hard evidence benches (R316). -/
def joinTargets (old new : List (Nat × Nat × Nat)) : List (Nat × Nat × Nat) :=
  let same (t u : Nat × Nat × Nat) : Bool := t.1 == u.1 && t.2.1 == u.2.1
  let hard (t : Nat × Nat × Nat) : Bool := (old ++ new).any (fun u => u.2.2 != 0 && replacedRank u.2.1 == replacedRank t.2.1)
  (old ++ new.filter (fun u => u.2.2 == 0 || !old.any (fun t => same t u && t.2.2 != 0))).filter (fun t => t.2.2 != 0 || !hard t)

/-- R312: pause a job for targets to bench or renew, or for a CALL_OFF with a 200,000-beat wait (`wait`). -/
def pauseJob (j reason : Nat) (targets : List (Nat × Nat × Nat)) (wait : Bool) (s : State) : State :=
  match s.job j with
  | none => s
  | some b =>
    if b.state = 0 ∨ b.state = 5 then s else
    match b.pause with
    | some q =>
      let s1 := modJob j (fun b => { b with pause := b.pause.map (fun p =>
        { p with targets := joinTargets p.targets targets }) }) s
      if wait || q.waiting then s1 else benchOrDefer j s1
    | none =>
      let s1 := setRecovering j (commitSteps j s)
      let st := (callOffStep s1 b).map (·.step)
      let p : Pause :=
        { reason := reason, step := st.getD b.nextStep, callAt := s.dc.tk.bc, targets := targets, waiting := wait,
          benchAt := none, deferTo := none, endsEpoch := false, lead := 0 }
      let s2 := modJob j (fun b => { b with pause := some p }) (sendCallOff j reason s1)
      if wait then s2 else benchOrDefer j s2

/-! Fence reports, R292 to R295. -/

/-- REASON codes of R300. -/
def rLinkLoss : Nat := 1
def rHeartbeatLoss : Nat := 2
def rSelfFenced : Nat := 0xA
def rProbeFail : Nat := 5

/-- Bench a device outside any job's epoch change: kind 0x1 (R300, sent once with EPOCH and NEW_EPOCH 0), toward the
target's pair (R70). -/
def benchDxd (target reason : Nat) (s : State) : State :=
  if !ledgerRoom 0 s then s else
  let q := takeOseq s
  flushLedger (afterLedgerTo (portToward s target).toList ⟨0, .bench ⟨q.1, 0, 1, target, reason, 0⟩⟩
    (modRef (fun r => { r with benchedDevs := (1, target) :: r.benchedDevs }) q.2))

/-- The hard bench or renewal of a member die, or of its whole engine (kinds 0x0 and 0x2). -/
def benchMember (kind target reason ep : Nat) (s : State) : State :=
  match jobOfDie s target ep with
  | some b => pauseJob b.slot 2 [(kind, target, if reason = rSelfFenced then 0 else reason)] false s
  | none => s

/-- Whether a report needs a partner (R295, R296). -/
def needsPair (r : Report) : Bool :=
  (r.kind == 0 && (r.reason == 1 || r.reason == 2 || r.reason == 5)) || (r.kind == 1 && (r.reason == 1 || r.reason == 2))

/-- A report of an H2 member on a package member. -/
def fromH2 (a : Report) : Bool := a.kind == 1 && a.target / 2 ^ 30 == 3 && a.sender / 2 ^ 30 == 2

/-- A partner: another sender's report of the same kind of evidence, a loss or a failed probe (R292), on the same target, or, for a
package pair, each H2 member's report on its own side's package member. -/
def pairs (a b : Report) : Bool :=
  a.sender != b.sender && (a.reason == rProbeFail) == (b.reason == rProbeFail) &&
    ((a.kind == b.kind && a.target == b.target) || (fromH2 a && fromH2 b && a.target % 2 ^ 29 == b.target % 2 ^ 29))

/-- R295 at the acting referee. A PROBE_FAIL of the die of a running complaint needs no partner (R297; log 115). -/
def rootReport (r : Report) (s : State) : State :=
  let s0 := raise .dxd 0x14 0 s
  if !s.x.rf2.acting then s0
  else if (r.kind == 1 && s.x.rf2.benchedDevs.contains (r.kind, r.target)) ||
      (r.epoch != 0 && !s.x.rf2.jobs.any (fun b => b.epoch == r.epoch && decide (1 ≤ b.state ∧ b.state ≤ 4))) then s0
  else if r.kind = 0 ∧ r.reason = rProbeFail ∧ s.x.rf2.complaint = 1 ∧ s.x.rf2.complaintDie = r.target then
    benchMember 0 r.target r.reason r.epoch (raise .dxd 0x14 3 (modRef (fun f => { f with complaint := 3 }) s0))
  else if needsPair r then
    let fresh := s0.x.rf2.reports.filter (fun q => decide (s0.dc.up ≤ q.at_ + 1000000))
    match fresh.find? (fun q => pairs r q) with
    | some q =>
      let s1 := modRef (fun f => { f with reports := f.reports.filter (fun x => !(x == q)) }) s0
      if r.kind = 0 then benchMember 0 r.target r.reason r.epoch s1
      else if q.target = r.target then benchDxd r.target r.reason s1
      else
        -- both members of one package pair: the engine or weight server of that slot
        let ws := r.target / 2 ^ 28 % 2 == 1
        let slot := r.target % 2 ^ 14
        match s1.x.rf2.jobs.find? (fun b => (if ws then b.wsMap else b.engineMap).contains slot && b.epoch == r.epoch) with
        | some b =>
          let rank := (if ws then b.wsMap else b.engineMap).idxOf slot
          benchMember 2 (b2n ws * 2 ^ 30 + rank * 2 ^ 16) r.reason r.epoch s1
        | none => s1
    | none => modRef (fun f => { f with reports := f.reports ++ [r] }) s0
  else if r.kind = 1 then benchDxd r.target r.reason s0
  else benchMember r.kind r.target r.reason r.epoch s0

/-- (STEP, ATTEMPT) of this DX-D's lowest uncommitted step under an epoch, (0, 0) where it knows none. -/
def lowestUncommitted (s : State) (ep : Nat) : Nat × Nat :=
  (s.x.kicks.foldl (fun o q =>
    if q.epoch == ep && !q.committed && !q.withdrawn then
      some (match o with | some p => if q.step < p.1 then (q.step, q.attempt) else p | none => (q.step, q.attempt))
    else o) none).getD (0, 0)

/-- The TALLY frame of a fence report, R294. -/
def fenceFrame (s : State) (kind target reason ep : Nat) : Frame :=
  let m := lowestUncommitted s ep
  ⟨ep, .tally ⟨target, 0, 0xF, 0xFFFFFE, m.1 % 2 ^ 16, m.2, reason * 2 ^ 56 + kind * 2 ^ 48 + selfTarget s⟩⟩

/-- A DX-D reports evidence: at the root to itself, elsewhere up its tree or over the pair link (R294). -/
def fenceReport (kind target reason ep : Nat) (s : State) : State :=
  if ep = 0 then s
  else if s.x.straps.role = 2 ∧ s.x.rf2.acting then
    rootReport ⟨kind, target, reason, selfTarget s, ep, s.dc.up⟩ s
  else
    raise .dxd 0x14 0 (modRef (fun f => { f with sentReports := (kind, target, reason, ep) :: f.sentReports })
      (enqueue .dxd (upPort s) none (fenceFrame s kind target reason ep) s))

/-- The lowest of these served epochs, 0 where none. -/
def lowestOfServed (l : List Served) : Nat :=
  (l.foldl (fun o v => some (match o with | some e => min e v.epoch | none => v.epoch)) none).getD 0

/-- The lowest epoch held for members below this DX-D, 0 where none (R294). -/
def lowestEpoch (s : State) : Nat := lowestOfServed s.x.cs.served

/-- The lowest epoch held for members that a downstream port leads to, 0 where none. -/
def lowestBelow (s : State) (p : Nat) : Nat := lowestOfServed (s.x.cs.served.filter (fun v => v.ports.contains p))

/-- The evidence a DX-D sees when a port leaves UP (R292): a TSU that has joined its epoch, a child DX-D, or the twin. -/
def portEvidence (p : Nat) (hb : Bool) (s : State) : State :=
  let reason := if hb then rHeartbeatLoss else rLinkLoss
  if isPair .dxd s p then fenceReport 1 (twinTarget s) reason (lowestEpoch s) s
  else if 192 ≤ p then s
  else if s.x.straps.role = 0 then
    match laneMember s p with
    | some (ep, m) => if m.joined then fenceReport 0 m.die reason ep s else s
    | none => s
  else fenceReport 1 (childTarget s p) reason (lowestBelow s p) s

end Sys2Proof.Machine
end

