-- ==== Sys2Proof/Machine/LinkBase.lean ====
section
/-!
DEFINITION. The shared operations of a port (chapter 03): its transitions (R75, R76, R90), the training checks (R18, R19,
R77), delays (R79), the frames it makes itself (R24, R66), and the boot image sent on a lane that enters UP (R379).
-/

namespace Sys2Proof.Machine

/-- Ports whose logic has been released: after LBIST (R378). -/
def portsReleased (d : Dev) (s : State) : Bool := decide (2 ≤ (s.com d).boot.stage)

/-- A fenced DX-D and one in CELLAR hold every port in DOWN (R301, R388). -/
def portsHeld (d : Dev) (s : State) : Bool := d == .dxd && (s.x.rf2.fenced || inCellar .dxd s)

/-- CAL or UP. -/
def Port.live (q : Port) : Bool := q.st == 4 || q.st == 5

/-- R78: the originating end of delay probes. -/
def isOriginator (d : Dev) (p : Nat) : Bool :=
  match d with
  | .tsu => true
  | .dxd => decide (192 ≤ p)

/-- Entries into DOWN within the last second, R90. -/
def flapCount (up : Nat) (q : Port) : Nat := q.flaps.countP (fun t => decide (up < t + 1000000000))

/-- A port held in DOWN by R90. -/
def flapHeld (up : Nat) (q : Port) : Bool := q.flapHold || decide (8 ≤ flapCount up q)

/-- What a port loses when it leaves CAL or UP: it is no source (R44) and its training starts afresh. A probe of its member runs on to
its end (R296). -/
def Port.closed (q : Port) : Port :=
  { q with tr := { lastSec := q.tr.lastSec }, lastTime := none, peerHb := none,
           rel := { q.rel with lq := [], holdCIn := false, holdBIn := false, nakIn := false } }

/-- A port enters DOWN: the entry counts for R90. -/
def Port.toDown (up : Nat) (q : Port) : Port :=
  { q.closed with st := 1, downAt := up, flaps := up :: q.flaps.filter (fun t => decide (up < t + 1000000000)) }

/-- HB_MISSED of R91: whole 10,000-beat periods without a valid HEARTBEAT, up to 8 (R87). -/
def hbMissedNow (up : Nat) (q : Port) : Nat := if q.live then min 8 ((up - q.hbFrom) / 10000) else q.hbMissed

/-- R312 and R311: a member that returns finds the other acting too; every job stops. -/
def splitReferee (s : State) : State :=
  raise .dxd 0x14 5 (pauseEvery (fun b => { b with result := 0xB, stopArms := true }) s)

/-- The twin shows that it acts (log 15): it has hall time and does not follow this member. -/
def twinActs (s : State) (p : Nat) : Bool :=
  match (s.port .dxd p).peerHb with
  | some (h, _) => h.keeper == 0 && (h.state == 1 || h.state == 2 || h.state == 3)
  | none => false

/-- The bytes of a cached image (R392). -/
def atticBytes (s : State) (off len : Nat) : List Byte :=
  (upTo len).map (fun i => (tabGet none s.x.at_.bytes (off + i)).getD (Config.atticByte (off + i)))

/-- The cached BOOT image for a KIND. -/
def bootEntry (s : State) (kind : Nat) : Option DirEntry :=
  s.x.at_.dir.find? (fun e => e.image / 4096 == 0 && (e.kind == kind || e.kind == 0xF))

/-- The firmware entry in the header of the cached BOOT image of a kind. -/
def cachedFw (s : State) (kind : Nat) : FwEntry :=
  match bootEntry s kind with
  | some e =>
    let h := atticBytes s e.offset 16
    ⟨be h 8 1, be h 10 2, be h 12 2, be h 14 2⟩
  | none => ⟨0, 0, 0, 0⟩

/-- A member's firmware entry differs from the job's set, R305: of a TSU the version of the BOOT image sent to its lane, of a compatible
endpoint the entry in its TRAIN frames (R385). A TSU that booted without an image from here is not judged. -/
def entryDiffers (s : State) (p : Nat) : Bool :=
  let q := s.port .dxd p
  if q.peerKind = 7 then q.peerFw != s.x.at_.version5
  else match q.bootFw with
  | some v => v != cachedFw s q.peerKind
  | none => false

/-- A package DX-D sends the BOOT image of the peer's kind on a lane that enters UP (R379, R385). -/
def bootToLane (p : Nat) (s : State) : State :=
  if s.x.straps.role = 0 ∧ p < 192 ∧ (s.port .dxd p).peerKind ≠ 7 then
    match bootEntry s (s.port .dxd p).peerKind with
    | some e =>
      (configFrames (lowestEpoch s) e.image (atticBytes s e.offset e.length)).foldl (fun s f => enqueue .dxd p none f s)
        (modPort .dxd p (fun q => { q with bootFw := some (cachedFw s q.peerKind) }) s)
    | none => s
  else s

/-- A port enters UP (R76): frames kept over a loss are sent again (log 16). -/
def portUp (d : Dev) (p : Nat) (s : State) : State :=
  let c := s.com d
  let s1 := modPort d p (fun q => { q with
    st := 5, rel := { q.rel with resend := q.rel.retained },
    tr := { q.tr with downs := [], ups := [], lastSec := c.tk.sec, excursion := false } }) s
  let s2 := modBoot d (fun b => { b with
    firstUp := some (b.firstUp.getD c.up),
    stage := if d = .tsu ∧ b.stage = 2 then (if b.applyDone then 5 else if b.image.isSome then 4 else 3) else b.stage }) s1
  let s3 := portEvent d p 0 s2
  match d with
  | .tsu => s3
  | .dxd =>
    if s3.x.straps.role = 2 ∧ isPair .dxd s3 p ∧ s3.x.rf2.acting ∧ twinActs s3 p then splitReferee s3
    else bootToLane p s3

/-- A port leaves SYNC, TRAIN, CAL or UP for DOWN, R76. -/
def portDown (d : Dev) (p reason : Nat) (s : State) : State :=
  let q := s.port d p
  if q.st < 2 then s else
  let up := (s.com d).up
  let s1 := modPort d p (fun q => { (q.toDown up) with downReason := reason, hbMissed := hbMissedNow up q }) s
  if q.live then
    let s2 := reselect d (portEvent d p 1 s1)
    if d = .dxd ∧ ((q.st = 5 ∧ (reason = 1 ∨ reason = 2)) ∨ reason = 3) then portEvidence p (reason == 3) s2 else s2
  else s1

/-- ENABLE is cleared, R76. -/
def portIdle (d : Dev) (p : Nat) (s : State) : State :=
  let q := s.port d p
  let s1 := modPort d p (fun q => { q.closed with st := 0, enable := false }) s
  if q.live then reselect d (portEvent d p 1 s1) else s1

/-- A write of CONTROL with these bits, R76 and R90. -/
def portControl (d : Dev) (p : Nat) (v : Word) (s : State) : State :=
  let q := s.port d p
  if !portExists d s p then modPort d p (fun q => { q with enable := bit v 0 }) s
  else if !bit v 0 then (if q.st = 0 then modPort d p (fun q => { q with enable := false }) s else portIdle d p s)
  else
    let s1 := modPort d p (fun q => { q with enable := true }) s
    let up := (s.com d).up
    let s2 := if q.st = 0 then (if portsReleased d s then modPort d p (·.toDown up) s1 else s1) else s1
    if bit v 1 then
      let s3 := if q.st ≤ 1 then modPort d p (fun q => { q with downReason := 6, downAt := up }) s2 else portDown d p 6 s2
      modPort d p (fun q => { q with flaps := [], flapHold := false }) s3
    else s2

/-! Training, R77. -/

/-- This end's LEVEL. -/
def ownLevel (d : Dev) (s : State) : Nat :=
  match d with
  | .tsu => 4
  | .dxd => dxdLevel s

/-- This end's SIDE: for a TSU the lane. -/
def ownSide (d : Dev) (p : Nat) (s : State) : Nat :=
  match d with
  | .tsu => p
  | .dxd => s.x.straps.side

/-- An upstream port faces a device of this one's own level and side: the twin on a pair link whose members are strapped alike, which
one of them takes for its parent link (R13, R19). -/
def strappedAlike (d : Dev) (p : Nat) (f : TrainF) (s : State) : Bool :=
  d == .dxd && decide (192 ≤ p) && f.level == ownLevel d s && f.side == ownSide d p s

/-- The level check of R18, or on a pair link equal levels (R77). -/
def levelOk (d : Dev) (p : Nat) (f : TrainF) (s : State) : Bool :=
  let l := ownLevel d s
  if isPair d s p then f.level == l
  else if isOriginator d p then f.level + 1 == l
  else f.level == l + 1

/-- The R18 check failed: a wrong level, or unequal sides on a link that is no pair link. -/
def topologyBad (d : Dev) (p : Nat) (f : TrainF) (s : State) : Bool :=
  !strappedAlike d p f s && (!levelOk d p f s || (!isPair d s p && f.side != ownSide d p s))

/-- Equal sides on a pair link, R19, at both its ends. -/
def sidesEqual (d : Dev) (p : Nat) (f : TrainF) (s : State) : Bool :=
  strappedAlike d p f s || (isPair d s p && f.side == ownSide d p s)

/-- Agreement in bytes 8–11 and 13–21. -/
def trainAgrees (a b : TrainF) : Bool :=
  a.level == b.level && a.side == b.side && a.kind == b.kind && a.port == b.port && a.stepping == b.stepping &&
    a.serial == b.serial

/-- Count one TRAIN frame received in TRAIN. -/
def trainCount (d : Dev) (p : Nat) (f : TrainF) (s : State) : State :=
  let bad := topologyBad d p f s
  let eq := sidesEqual d p f s
  let s1 := modPort d p (fun q =>
    let t := q.tr
    let same := match t.ref with
      | some r => trainAgrees r f
      | none => false
    let fails := bad || eq
    { q with
      peerPort := f.port, peerKind := f.kind, peerLevel := f.level, peerSide := f.side, peerFw := f.fw,
      tr := { t with
        ref := some f,
        count := if fails then 0 else if same then t.count + 1 else 1,
        ackCount := if f.ack then t.ackCount + 1 else 0,
        topologyError := bad, sideConflict := eq } }) s
  let s2 := if bad then portEvent d p 5 s1 else s1
  if eq then portEvent d p 4 (modTk d (fun t => { t with sideConflict := true }) s2) else s2

/-- The TRAIN frame this end sends. -/
def trainFrame (d : Dev) (p : Nat) (s : State) : TrainF :=
  let t := (s.port d p).tr
  let kind := match d with
    | .tsu => match s.tc.fuse.kind with
      | .c => 3 | .m => 4 | .e => 5 | .w => 6
    | .dxd => if s.x.straps.role = 2 then 0 else if s.x.straps.role = 1 then 1 else 2
  { level := ownLevel d s, side := ownSide d p s, kind := kind, port := if 192 ≤ p then p - 192 else p,
    ack := (s.port d p).st == 3 && t.ackSent, topologyError := t.topologyError, sideConflict := t.sideConflict,
    stepping := 0xB0, serial := (s.com d).fuse.serial.toNat, fw := (s.com d).boot.fw }

/-! Delays, R79. -/

/-- (down, up) of one result in frac LSBs. -/
def delaysOf (alpha : Int) (t1 t4 turnaround : Nat) : Int × Int :=
  let rtt : Int := ((t4 : Int) - t1) - turnaround
  let down := rtt * ((2 ^ 32 : Nat) + alpha) / (2 ^ 33 : Nat)
  (down, rtt - down)

/-- A mean, truncated toward zero. -/
def meanTrunc (l : List Int) : Int := if l.isEmpty then 0 else (l.foldl (· + ·) 0).tdiv l.length

/-- A delay as the u32 field shows it. -/
def u32Of (i : Int) : Nat := ux 32 i

/-- The delay from the peer to this end that a received TIME frame uses: down, but up where member A follows B. -/
def rxDelay (d : Dev) (p : Nat) (s : State) : Nat :=
  let q := s.port d p
  if isPair d s p ∧ s.x.straps.side = 0 then q.appliedUp else q.applied

/-! The frames of a slot. -/

/-- The TIME frame of a DX-D, R24 and R73. -/
def timeFrame (s : State) : TimeF :=
  let t := s.dc.tk
  let pend := match t.stepPend with
    | some (sec, dlt) => if sec = t.sec then some dlt else none
    | none => none
  { sec := t.sec, ns := t.ns, frac := 0, utcOffset := t.utcOffset, traceable := t.traceable,
    originLocal := t.originLocal, rootHoldover := t.rootHoldover, utcValid := t.utcValid,
    stepPending := pend.isSome, censusTree := s.dc.censusTree, level := dxdLevel s, state := t.state,
    stepDelta := pend.getD 0 }

/-- The heartbeat's current epoch: the TSU's, or the lowest that a DX-D serves (R70; log 17). -/
def ownEpoch (d : Dev) (s : State) : Nat :=
  match d with
  | .tsu => s.t.mem.epoch
  | .dxd => lowestEpoch s

/-- The HEARTBEAT of R87. -/
def heartbeatFrame (d : Dev) (count : Nat) (s : State) : HeartbeatF :=
  let c := s.com d
  let src (i : Nat) : Bool := match d with
    | .tsu => isSource .tsu i s
    | .dxd => isSource .dxd (192 + i) s
  { keeper := c.tk.keeper, state := c.tk.state, count := count, coreSplit := c.tk.coreSplit,
    srcALost := !src 0, srcBLost := !src 1, bistMismatch := c.bt.mismatch,
    noHistory := d == .dxd && s.x.hold.noHistory,
    bumpSuspect := d == .tsu && s.t.st.bump, sustainedLate := d == .tsu && s.t.mem.lateFlag,
    lastLaunched := if d = .tsu then s.t.mem.lastLaunched else 0,
    attempt := if d = .tsu then s.t.mem.lastAttempt else 0 }

/-- A slot of R66 begins in the present beat. -/
def slotStarts (lane : Bool) (bc : Nat) : Bool :=
  if lane then bc % 128 == 0 else (upTo 40).any (fun j => 256 * j / 10 == bc % 1024)

/-- TIME goes on a DX-D's downstream ports and pair links in CAL and UP, in the slot at a multiple of 1,024 (R24, R66). -/
def sendsTime (d : Dev) (p : Nat) (s : State) : Bool :=
  d == .dxd && (decide (p < 192) || isPair .dxd s p) && (s.port d p).live && s.dc.tk.bc % 1024 == 0

/-- The link fields this end shows now. -/
def linkFields (d : Dev) (p : Nat) (seq : Nat) (s : State) : LinkHdr :=
  let q := s.port d p
  let h := holdOut (isLane d s p) (s.com d) p
  ⟨h.1, h.2, q.rel.nakOut, q.rel.seqRx, seq⟩

/-- Put a frame on the wire. -/
def transmit (d : Dev) (p : Nat) (seq : Nat) (f : Frame) (s : State) : State :=
  let h := linkFields d p seq s
  modPort d p (fun q => { q with wire := some ⟨h, f⟩ }) s

/-- A frame that is not retained carries the last SEQ sent. -/
def transmitPlain (d : Dev) (p : Nat) (pl : Payload) (s : State) : State :=
  transmit d p (s.port d p).rel.seqTx ⟨ownEpoch d s, pl⟩ s

/-- A new retained frame takes the next SEQ (R82). -/
def transmitNew (d : Dev) (p : Nat) (f : Frame) (s : State) : State :=
  let n := ((s.port d p).rel.seqTx + 1) % 256
  let s1 := modPort d p (fun q => { q with rel := { q.rel with seqTx := n, retained := q.rel.retained ++ [(n, f)] } }) s
  transmit d p n f s1

/-- HT at the start of the slot that runs (R66, R93): a multiple of 128 beats, or of 25.6, whose part of a frac LSB is cut
(log 100). -/
def slotStart (lane : Bool) (bc : Nat) : Nat :=
  if lane then bc / 128 * 128 * 65536 else bc / 1024 * 1024 * 65536 + (10 * (bc % 1024) + 9) / 256 * 16777216 / 10

/-- The L frame due: a reply, else the oldest request or heartbeat. -/
def sendLink (d : Dev) (p : Nat) (s : State) : State :=
  let q := s.port d p
  let up := (s.com d).up
  let now := slotStart (isLane d s p) (s.com d).tk.bc
  match q.tr.toAnswer with
  | (f, t2) :: rest =>
    let r : ProbeF := ⟨true, false, f.id, ux 32 ((now : Int) - t2), 0⟩
    transmitPlain d p (.probe r) (modPort d p (fun q => { q with
      tr := { q.tr with toAnswer := rest }, rel := { q.rel with sinceL := 0 } }) s)
  | [] => match q.rel.lq with
    | f :: rest =>
      let s1 := modPort d p (fun q => { q with rel := { q.rel with lq := rest, sinceL := 0 } }) s
      let s2 := match f.payload with
        | .probe r =>
          if r.id < 0xFF00 ∨ isOriginator d p then
            modPort d p (fun q => { q with tr := { q.tr with probes := q.tr.probes ++ [⟨r.id, now, up⟩] } }) s1
          else s1
        | _ => s1
      transmitPlain d p f.payload s2
    | [] => s

end Sys2Proof.Machine
end

