-- ==== Sys2Proof/Machine/Ports.lean ====
section
/-!
DEFINITION. The meanings of the port commands: link states, training, delay calibration, slots, reliable delivery,
heartbeats and loss (R64 to R91). A command whose condition does not hold leaves the state as it is (log 4).
-/

namespace Sys2Proof.Machine

/-! Link states, R75, R76, R90. -/

/-- A write of CONTROL that sets ENABLE. -/
def portEnable (d : Dev) (rq p : Nat) (s : State) : State :=
  if portShown d s p then admitWrite d rq (portPage d p).1 (portBase d p % 4096 + 0x20) 1 (portControl d p 1) s else s

/-- R76: IDLE to DOWN. -/
def execPortEnable (d : Dev) (rq p : Nat) (s : State) : Host.Outcome State Fault Refusal := .next (portEnable d rq p s)

def portDisable (d : Dev) (rq p : Nat) (s : State) : State :=
  if portShown d s p then admitWrite d rq (portPage d p).1 (portBase d p % 4096 + 0x20) 0 (portControl d p 0) s else s

/-- R76: any state to IDLE. -/
def execPortDisable (d : Dev) (rq p : Nat) (s : State) : Host.Outcome State Fault Refusal := .next (portDisable d rq p s)

def retrain (d : Dev) (rq p : Nat) (v : Word) (s : State) : State :=
  if portShown d s p ∧ bit v 1 then
    admitWrite d rq (portPage d p).1 (portBase d p % 4096 + 0x20) v (portControl d p v) s else s

/-- R90. -/
def execRetrain (d : Dev) (rq p : Nat) (v : Word) (s : State) : Host.Outcome State Fault Refusal :=
  .next (retrain d rq p v s)

/-- DOWN has lasted 10,000 beats and nothing but the signal may be missing, R76. -/
def dwelt (d : Dev) (p : Nat) (s : State) : Bool :=
  let q := s.port d p
  portExists d s p && q.st == 1 && decide (q.downAt + 10000 ≤ (s.com d).up) && !flapHeld (s.com d).up q && !portsHeld d s

def downDwellEnd (d : Dev) (p : Nat) (s : State) : State :=
  if dwelt d p s && (s.port d p).signal then modPort d p (fun q => { q with st := 2 }) s else s

/-- R76: DOWN to SYNC. -/
def execDownDwellEnd (d : Dev) (p : Nat) (s : State) : Host.Outcome State Fault Refusal := .next (downDwellEnd d p s)

def signalPresent (d : Dev) (p : Nat) (s : State) : State :=
  if portExists d s p then downDwellEnd d p (modPort d p (fun q => { q with signal := true }) s) else s

/-- R76: the signal returns; a port that has dwelt enters SYNC. -/
def execSignalPresent (d : Dev) (p : Nat) (s : State) : Host.Outcome State Fault Refusal := .next (signalPresent d p s)

def alignmentAcquired (d : Dev) (p : Nat) (s : State) : State :=
  if portExists d s p ∧ (s.port d p).st = 2 then modPort d p (fun q => { q with st := 3, tr := {} }) s else s

/-- R76: SYNC to TRAIN. -/
def execAlignmentAcquired (d : Dev) (p : Nat) (s : State) : Host.Outcome State Fault Refusal :=
  .next (alignmentAcquired d p s)

/-- A TRAIN frame: counted in TRAIN; in CAL or UP it takes the port back to TRAIN with PEER_RETRAIN. -/
def trainReceive (d : Dev) (p : Nat) (h : LinkHdr) (f : TrainF) (s : State) : State :=
  let q := s.port d p
  if !portExists d s p then s
  else if q.st = 3 then trainCount d p f (takeLink d p h s)
  else if q.live then
    let s1 := modPort d p (fun q => { q.closed with st := 3, downReason := 5, tr := {} }) s
    let s2 := reselect d (portEvent d p 1 s1)
    s2
  else s

/-- R77. -/
def execTrainFrameReceive (d : Dev) (p : Nat) (h : LinkHdr) (f : TrainF) (s : State) :
    Host.Outcome State Fault Refusal := .next (trainReceive d p h f s)

def trainAckSet (d : Dev) (p : Nat) (s : State) : State :=
  let q := s.port d p
  if portExists d s p ∧ q.st = 3 ∧ 8 ≤ q.tr.count then
    modPort d p (fun q => { q with tr := { q.tr with ackSent := true } }) s else s

/-- R77: the end sets ACK. -/
def execTrainAckSet (d : Dev) (p : Nat) (s : State) : Host.Outcome State Fault Refusal := .next (trainAckSet d p s)

def trainComplete (d : Dev) (p : Nat) (s : State) : State :=
  let q := s.port d p
  let c := s.com d
  if portExists d s p ∧ q.st = 3 ∧ q.tr.ackSent ∧ 8 ≤ q.tr.ackCount ∧ !q.tr.topologyError ∧ !q.tr.sideConflict then
    modPort d p (fun q => { q with
      st := 4, tr := { lastSec := c.tk.sec }, hbMissed := 0, hbFrom := c.up, hbSentAt := c.tk.bc / 10000 + 1 }) s
  else s

/-- R77: TRAIN to CAL. -/
def execTrainComplete (d : Dev) (p : Nat) (s : State) : Host.Outcome State Fault Refusal := .next (trainComplete d p s)

/-! Delay calibration, R78 to R81. -/

/-- Queue one request; `done` carries CAL_DONE. -/
def queueRequest (d : Dev) (p : Nat) (done : Bool) (s : State) : State :=
  let up := (s.com d).up
  let q := s.port d p
  let f : ProbeF := ⟨false, done, q.tr.nextId, 0, q.applied⟩
  modPort d p (fun q => { q with tr := { q.tr with
      requests := q.tr.requests + 1, lastReq := up, nextId := (q.tr.nextId + 1) % 0xFF00 } })
    (enqueue d p none ⟨0, .probe f⟩ s)

def requestSend (d : Dev) (p : Nat) (s : State) : State :=
  let q := s.port d p
  let up := (s.com d).up
  if !portExists d s p || !isOriginator d p then s
  else if q.st = 4 then
    (if q.tr.downs.length < 64 ∧ q.tr.requests < 256 ∧ (q.tr.requests = 0 ∨ q.tr.lastReq + 2048 ≤ up) then
      queueRequest d p false s else s)
  else if q.st = 5 then (if q.tr.lastReq + 65536 ≤ up then queueRequest d p false s else s)
  else s

/-- R78 and R81. -/
def execDelayProbeRequestSend (d : Dev) (p : Nat) (s : State) : Host.Outcome State Fault Refusal :=
  .next (requestSend d p s)

/-- A request is answered in the next L opportunity; the answering end shows its APPLIED and follows its CAL_DONE. -/
def requestReceive (d : Dev) (p : Nat) (h : LinkHdr) (f : ProbeF) (t2 : Nat) (s : State) : State :=
  let q := s.port d p
  if !portExists d s p || !q.live || f.reply then s else
  let s0 := takeLink d p h s
  let s1 := if sofStamped d p s then modPort d p (fun q => { q with tr := { q.tr with toAnswer := q.tr.toAnswer ++ [(f, t2)] } }) s0 else s0
  let s2 := if isOriginator d p || 0xFF00 ≤ f.id then s1 else modPort d p (fun q => { q with applied := f.result }) s1
  if f.calDone && q.st == 4 then
    (if isPair d s p then
      let s3 := modPort d p (fun q => { q with tr := { q.tr with calDoneRcvd := true } }) s2
      if q.tr.calDoneSent then portUp d p s3 else s3
    else if isOriginator d p then s2 else portUp d p s2)
  else s2

/-- R78. -/
def execDelayProbeRequestReceive (d : Dev) (p : Nat) (h : LinkHdr) (f : ProbeF) (t2 : Nat) (s : State) :
    Host.Outcome State Fault Refusal := .next (requestReceive d p h f t2 s)

/-- A reply gives one result (R79), or answers a member probe (R296). -/
def replyReceive (d : Dev) (p : Nat) (h : LinkHdr) (f : ProbeF) (t4 : Nat) (s : State) : State :=
  let q := s.port d p
  let up := (s.com d).up
  if !portExists d s p || !q.live || !f.reply then s else
  let s1 := takeLink d p h s
  match q.tr.probes.find? (fun x => x.id == f.id && decide (up ≤ x.at_ + 16384)) with
  | none =>
    (match q.probe with
     | some m => if 0xFF00 ≤ f.id ∧ f.id < 0xFF08 ∧ !isOriginator d p ∧ f.id - 0xFF00 < m.sent ∧
          up ≤ m.from_ + 10000 * (f.id - 0xFF00) + 10000 then
        modPort d p (fun q => { q with probe := some { m with answered := m.answered + 1 } }) s1 else s1
     | none => s1)
  | some x =>
    if !sofStamped d p s then modPort d p (fun q => { q with tr := { q.tr with probes := q.tr.probes.filter (fun y => !(y == x)) } }) s1 else
    let r := delaysOf q.alpha x.t1 t4 f.turnaround
    modPort d p (fun q => { q with tr := { q.tr with
      probes := q.tr.probes.filter (fun y => !(y == x)), downs := q.tr.downs ++ [r.1], ups := q.tr.ups ++ [r.2] } }) s1

/-- R79. -/
def execDelayProbeReplyReceive (d : Dev) (p : Nat) (h : LinkHdr) (f : ProbeF) (t4 : Nat) (s : State) :
    Host.Outcome State Fault Refusal := .next (replyReceive d p h f t4 s)

def probeTimeout (d : Dev) (p : Nat) (s : State) : State :=
  let up := (s.com d).up
  if portExists d s p then
    modPort d p (fun q => { q with tr := { q.tr with
      probes := q.tr.probes.filter (fun x => decide (up ≤ x.at_ + 16384)) } }) s else s

/-- R78: a late reply is void. -/
def execDelayProbeTimeout (d : Dev) (p : Nat) (s : State) : Host.Outcome State Fault Refusal := .next (probeTimeout d p s)

def calComplete (d : Dev) (p : Nat) (s : State) : State :=
  let q := s.port d p
  let up := (s.com d).up
  if portExists d s p ∧ isOriginator d p ∧ q.st = 4 ∧ 64 ≤ q.tr.downs.length ∧ !q.tr.calDoneSent ∧
      q.tr.lastReq + 2048 ≤ up then
    let s1 := modPort d p (fun q => { q with
      applied := u32Of (meanTrunc q.tr.downs), appliedUp := u32Of (meanTrunc q.tr.ups),
      tr := { q.tr with calDoneSent := true } }) s
    let s2 := queueRequest d p true s1
    if isPair d s p ∧ !q.tr.calDoneRcvd then s2 else portUp d p s2
  else s

/-- R78. -/
def execCalComplete (d : Dev) (p : Nat) (s : State) : Host.Outcome State Fault Refusal := .next (calComplete d p s)

def calFail (d : Dev) (p : Nat) (s : State) : State :=
  let q := s.port d p
  if portExists d s p ∧ isOriginator d p ∧ q.st = 4 ∧ 256 ≤ q.tr.requests ∧ q.tr.downs.length < 64 then portDown d p 7 s
  else s

/-- R78. -/
def execCalFail (d : Dev) (p : Nat) (s : State) : Host.Outcome State Fault Refusal := .next (calFail d p s)

/-- One whole-second move of a delay toward a mean, at most 131 frac LSBs (R81). -/
def moveApplied (applied : Nat) (m : Int) : Nat := u32Of ((applied : Int) + clampI (m - applied) (-131) 131)

/-- R81; the attic's link record follows (R392). A second with fewer than 1,024 results moves no delay; one without any has no
mean. -/
def delayUpdate (d : Dev) (p : Nat) (s : State) : State :=
  let q := s.port d p
  let sec := (s.com d).tk.sec
  if !(portExists d s p && isOriginator d p && q.st == 5 && q.tr.lastSec != sec) then s
  else if q.tr.downs.isEmpty then
    modPort d p (fun q => { q with tr := { q.tr with downs := [], ups := [], lastSec := sec } }) s
  else
    let m := meanTrunc q.tr.downs
    let mu := meanTrunc q.tr.ups
    let far := decide (10 * 65536 < (m - q.applied).natAbs * 1000)
    let full := decide (1024 ≤ q.tr.downs.length)
    let a := if full then moveApplied q.applied m else q.applied
    let s1 := modPort d p (fun q => { q with
      mean := u32Of m, applied := a, appliedUp := if full then moveApplied q.appliedUp mu else q.appliedUp,
      tr := { q.tr with downs := [], ups := [], lastSec := sec, excursion := far } }) s
    let s2 := if d = .dxd then
        modAt (fun t => { t with links := tabSet none t.links p (some (q.alpha, a, sec)) }) s1 else s1
    if far && !q.tr.excursion then portEvent d p 6 s2 else s2

/-- R81. -/
def execDelayUpdate (d : Dev) (p : Nat) (s : State) : Host.Outcome State Fault Refusal := .next (delayUpdate d p s)

/-! Slots, R66 and R84 to R86. -/

/-- The slot of a port in UP after TIME and L frames: resend, forced bulk, control, bulk, FILL. A HOLD of the peer stops
resent frames of its class too (R84), and new retained frames stay behind them (R83). -/
def sendRetained (d : Dev) (p : Nat) (s : State) : State :=
  let q := s.port d p
  let lane := isLane d s p
  let up := (s.com d).up
  let room := decide (q.rel.retained.length < (if lane then 16 else 64))
  let old (e : QFrame) : Bool := decide (e.at_ + (if lane then 4096 else 820) ≤ up)
  let heldBack (f : Frame) : Bool := if payloadCls f.payload == .control then q.rel.holdCIn else q.rel.holdBIn
  match q.rel.resend with
  | (n, f) :: rest =>
    if heldBack f then transmitPlain d p .fill s
    else transmit d p n f (modPort d p (fun q => { q with rel := { q.rel with resend := rest } }) s)
  | [] =>
    let bulk := if q.rel.holdBIn || !room then none else q.rel.bulk.head?
    let ctl := if q.rel.holdCIn || !room then none else q.rel.ctl.head?
    let forced := match bulk with
      | some e => old e
      | none => false
    let sendBulk (e : QFrame) : State :=
      transmitNew d p e.f (modPort d p (fun q => { q with rel := { q.rel with bulk := q.rel.bulk.drop 1 } }) s)
    match forced, ctl, bulk with
    | true, _, some e => sendBulk e
    | _, some e, _ =>
      transmitNew d p e.f (modPort d p (fun q => { q with rel := pullCtl lane { q.rel with ctl := q.rel.ctl.drop 1 } }) s)
    | _, none, some e => sendBulk e
    | _, none, none => transmitPlain d p .fill s

/-- What a port sends in the slot that begins now. -/
def frameSlot (d : Dev) (p : Nat) (s : State) : State :=
  let q := s.port d p
  let lane := isLane d s p
  if !portExists d s p || !slotStarts lane (s.com d).tk.bc then s
  else if q.st = 0 ∨ (d = .dxd ∧ s.x.hold.oscLost) then modPort d p (fun q => { q with wire := none }) s
  else
    let s1 := modPort d p (fun q => { q with rel := { q.rel with sinceL := min 64 (q.rel.sinceL + 1) } }) s
    if !q.live then transmitPlain d p (.train (trainFrame d p s)) s1
    else if sendsTime d p s then transmitPlain d p (.time (timeFrame s)) s1
    else if (if lane then 10 else 26) ≤ (s1.port d p).rel.sinceL ∧ (!q.tr.toAnswer.isEmpty ∨ !q.rel.lq.isEmpty) then
      sendLink d p s1
    else if q.st = 5 then sendRetained d p s1
    else transmitPlain d p .fill s1

/-- R85. -/
def execFrameSlot (d : Dev) (p : Nat) (s : State) : Host.Outcome State Fault Refusal := .next (frameSlot d p s)

/-! Link fields and errors, R69, R82 to R84. -/

def fillReceive (d : Dev) (p : Nat) (h : LinkHdr) (s : State) : State :=
  if portExists d s p && (s.port d p).live then takeLink d p h s else s

/-- R82. -/
def execFillFrameReceive (d : Dev) (p : Nat) (h : LinkHdr) (s : State) : Host.Outcome State Fault Refusal :=
  .next (fillReceive d p h s)

/-- R89 in beats: frames whose slots lie fewer than 1,024 slots apart end less than this apart (1,024 slots of 25.6 ns are
26,214.4 beats). -/
def rateWindow (lane : Bool) : Nat := if lane then 131072 else 26214

/-- A frame that fails its CRC (R83); in TRAIN it ends a run of consecutive frames. -/
def crcError (d : Dev) (p : Nat) (s : State) : State :=
  let q := s.port d p
  let up := (s.com d).up
  if !portExists d s p || decide (q.st < 3) then s else
  let win := rateWindow (isLane d s p)
  let s1 := modPort d p (fun q => { q with
    crcErr := sat16 (q.crcErr + 1), crcAt := up :: q.crcAt.filter (fun t => decide (up < t + win)),
    tr := if q.st = 3 then { q.tr with count := 0, ackCount := 0 } else q.tr }) s
  if q.live then setNak d p s1 else s1

/-- R83. -/
def execFrameCrcError (d : Dev) (p : Nat) (s : State) : Host.Outcome State Fault Refusal := .next (crcError d p s)

def unknownType (d : Dev) (p : Nat) (_h : LinkHdr) (ty : Nat) (s : State) : State :=
  if portExists d s p && (s.port d p).live && !typeDefined ty then
    modPort d p (fun q => { q with unknownType := sat16 (q.unknownType + 1) }) s
  else s

/-- R69: discarded and counted. -/
def execUnknownTypeFrame (d : Dev) (p : Nat) (h : LinkHdr) (ty : Nat) (s : State) :
    Host.Outcome State Fault Refusal := .next (unknownType d p h ty s)

def nakTimeout (d : Dev) (p : Nat) (s : State) : State :=
  let q := s.port d p
  let up := (s.com d).up
  if portExists d s p && q.live && q.rel.nakIn && decide (q.rel.nakSince + 16384 ≤ up) then
    (if 4 ≤ q.rel.nakTries then portDown d p 8 s
     else modPort d p (fun q => { q with rel := { q.rel with
       resend := q.rel.retained, nakTries := q.rel.nakTries + 1, nakSince := up } }) s)
  else s

/-- R83. -/
def execNakResendTimeout (d : Dev) (p : Nat) (s : State) : Host.Outcome State Fault Refusal := .next (nakTimeout d p s)

/-! Heartbeats and loss, R87 to R90. -/

/-- R178: once its state has been reported, the record of a COMMITTED, CALLED_OFF or FAILED step is freed. -/
def freeRecords (s : State) : State :=
  let top := s.t.steps.foldl (fun o r => if r.st == .committed then some (max (o.getD 0) r.step) else o) s.t.mem.committed
  modMem (fun m => { m with committed := top }) (modT (fun t => { t with steps := t.steps.filter (·.active) }) s)

/-- R50: the flag goes out in the next HEARTBEAT of every live port. -/
def clearSplit (d : Dev) (p period : Nat) (s : State) : State :=
  let pending := (s.com d).ports.any (fun x => x.1 != p && x.2.live && x.2.hbSentAt != period)
  if pending then s else modTk d (fun t => { t with coreSplit := false }) s

def heartbeatSend (d : Dev) (p : Nat) (s : State) : State :=
  let q := s.port d p
  let period := (s.com d).tk.bc / 10000 + 1
  if portExists d s p && q.live && q.hbSentAt != period then
    let s1 := enqueue d p none ⟨ownEpoch d s, .heartbeat (heartbeatFrame d q.hbCount s)⟩ s
    let s2 := modPort d p (fun q => { q with hbSentAt := period, hbCount := (q.hbCount + 1) % 65536 }) s1
    let s3 := clearSplit d p period s2
    if d = .tsu then freeRecords s3 else s3
  else s

/-- R87. -/
def execHeartbeatSend (d : Dev) (p : Nat) (s : State) : Host.Outcome State Fault Refusal := .next (heartbeatSend d p s)

/-- The evidence a heartbeat of a TSU that has joined carries to a package DX-D (R292, R293); each is reported once under an epoch. -/
def heartbeatEvidence (p ep : Nat) (f : HeartbeatF) (s : State) : State :=
  match laneMember s p with
  | none => s
  | some (e, m) =>
    let report (reason : Nat) (s : State) : State :=
      if s.x.rf2.sentReports.contains (0, m.die, reason, e) then s else fenceReport 0 m.die reason e s
    let s1 := if f.bistMismatch ∧ (m.joined ∨ ep = e) then report 4 s else s
    let s2 := if f.state = 5 ∧ m.joined then report 8 s1 else s1
    if f.state = 4 ∧ ep = e then report rSelfFenced s2 else s2

/-- The heartbeats that a member probe counts, R296. -/
def probeBeat (ep : Nat) (f : HeartbeatF) (m : MemberProbe) : MemberProbe :=
  { m with beats := m.beats + 1, lateOk := m.lateOk && ep == m.epoch && (f.state == 2 || f.state == 3 || f.state == 4) }

/-- A member that shows the epoch with STATE LOCKED has joined, unless its firmware entry differs from the job's set (R252, R305). -/
def noteJoined (p ep : Nat) (f : HeartbeatF) (s : State) : State :=
  if f.state = 2 ∧ !entryDiffers s p then
    modCs (fun c => { c with served := c.served.map (fun v => if v.epoch == ep then
      { v with members := v.members.map (fun m => if m.port == p then { m with joined := true } else m) } else v) }) s
  else s

def heartbeatReceive (d : Dev) (p : Nat) (h : LinkHdr) (ep : Nat) (f : HeartbeatF) (s : State) : State :=
  let q := s.port d p
  if !portExists d s p || !q.live then s else
  let up := (s.com d).up
  let s1 := modPort d p (fun q => { q with
    hbMissed := 0, hbFrom := up, peerHb := some (f, ep), probe := q.probe.map (probeBeat ep f) }) (takeLink d p h s)
  match d with
  | .tsu => s1
  | .dxd =>
    if isPair .dxd s p then reselect .dxd s1
    else if p < 192 ∧ s.x.straps.role = 0 then heartbeatEvidence p ep f (noteJoined p ep f s1)
    else s1

/-- R87. -/
def execHeartbeatReceive (d : Dev) (p : Nat) (h : LinkHdr) (ep : Nat) (f : HeartbeatF) (s : State) :
    Host.Outcome State Fault Refusal := .next (heartbeatReceive d p h ep f s)

def peerFailed (d : Dev) (p : Nat) (s : State) : State :=
  let q := s.port d p
  if portExists d s p && q.live && decide (q.hbFrom + 80000 ≤ (s.com d).up) then
    portDown d p 3 (portEvent d p 3 (modPort d p (fun q => { q with hbMissed := 8 }) s))
  else s

/-- R87. -/
def execPeerFailed (d : Dev) (p : Nat) (s : State) : Host.Outcome State Fault Refusal := .next (peerFailed d p s)

def portLoss (d : Dev) (p : Nat) (cause : LossCause) (s : State) : State :=
  if !portExists d s p then s
  else match cause with
    | .signal => portDown d p 1 (modPort d p (fun q => { q with signal := false }) s)
    | .alignment => portDown d p 2 s

/-- R88. -/
def execPortLossDeclared (d : Dev) (p : Nat) (cause : LossCause) (s : State) : Host.Outcome State Fault Refusal :=
  .next (portLoss d p cause s)

def errorRate (d : Dev) (p : Nat) (s : State) : State :=
  let q := s.port d p
  let up := (s.com d).up
  let win := rateWindow (isLane d s p)
  if portExists d s p && decide (2 ≤ q.st) && decide (16 ≤ q.crcAt.countP (fun t => decide (up < t + win))) then
    portDown d p 4 (portEvent d p 2 (modPort d p (fun q => { q with crcAt := [] }) s))
  else s

/-- R89. -/
def execErrorRate (d : Dev) (p : Nat) (s : State) : Host.Outcome State Fault Refusal := .next (errorRate d p s)

def linkFlap (d : Dev) (p : Nat) (s : State) : State :=
  let q := s.port d p
  if portExists d s p && q.st == 1 && !q.flapHold && decide (8 ≤ flapCount (s.com d).up q) then
    portEvent d p 7 (modPort d p (fun q => { q with flapHold := true, downReason := 9 }) s)
  else s

/-- R90. -/
def execLinkFlap (d : Dev) (p : Nat) (s : State) : Host.Outcome State Fault Refusal := .next (linkFlap d p s)

def oseqForget (d : Dev) (s : State) : State :=
  modCom d (fun c => { c with oseq := match c.oseq with
    | some (h, t) => if t + 1000000000 ≤ c.up then none else some (h, t)
    | none => none }) s

/-- R71. -/
def execOriginSeqForget (d : Dev) (s : State) : Host.Outcome State Fault Refusal := .next (oseqForget d s)

/-- The port ERRORS register, R91. -/
def portErrors (q : Port) : Word :=
  wd [(48, q.crcErr), (32, q.nakSent), (16, q.epochDrop), (0, q.unknownType)]

def portErrorsRead (d : Dev) (rq p : Nat) (s : State) : State :=
  if portExists d s p then
    admitRead d rq (portPage d p).1 (portBase d p % 4096 + 0x18) (fun s => portErrors (s.port d p))
      (modPort d p (fun q => { q with crcErr := 0, nakSent := 0, epochDrop := 0, unknownType := 0 })) s
  else s

/-- R91: the read returns and clears the counts. -/
def execPortErrorsRead (d : Dev) (rq p : Nat) (s : State) : Host.Outcome State Fault Refusal :=
  .next (portErrorsRead d rq p s)

end Sys2Proof.Machine
end

