-- ==== Sys2Proof/Machine/Attic.lean ====
section
/-!
DEFINITION. The attic (R306, R380, R391, R392, R395): its bytes as AT_DATA shows them, the image cache and its directory,
the commands of AT_CTL and AT_DATA.
-/

namespace Sys2Proof.Machine

/-! Ledger records as bytes, R306. -/

/-- Bytes 0 to 59 of a record. -/
def recordBody (r : LedgerRec) : List Byte :=
  bytesBE 1 r.ty ++ bytesBE 1 r.attempt ++ bytesBE 6 r.step ++ bytesBE 4 r.epoch ++ bytesBE 4 r.seq ++ bytesBE 8 r.value ++
    (r.data ++ List.replicate 32 0).take 32 ++ bytesBE 1 (b2n r.solo + 2 * b2n r.ckpt) ++ bytesBE 3 0

/-- The 64 bytes: the CRC is stored most significant byte first. -/
def recordBytes (r : LedgerRec) : List Byte := recordBody r ++ bytesBE 4 (crc32 (recordBody r))

/-! The bytes, R392. -/

/-- The record in a place of the ledger region: record SEQ in place (SEQ − 1) mod 16,384; of the copies that a DX-D below the root
keeps, which carry no SEQ, the i-th in place i mod 16,384 (log 18, log 62). -/
def placedRecord (recs : List LedgerRec) (k : Nat) : Option LedgerRec :=
  if recs.all (fun r => r.seq == 0) then
    (List.zip (upTo recs.length) recs).foldl (fun o x => if x.1 % 16384 = k then some x.2 else o) none
  else recs.find? (fun r => (r.seq + 16383) % 16384 == k)

/-- A byte of the ledger region. -/
def ledgerByte (s : State) (a : Nat) : Byte :=
  match placedRecord s.x.lg.recs (a / 64) with
  | some r => ((recordBytes r)[a % 64]?).getD 0
  | none => (tabGet none s.x.at_.bytes a).getD (Config.atticByte a)

/-- The bytes of the records in the two servo history slots, R127. -/
def slotBytes (a : Attic) : List (List Byte) :=
  (upTo 2).map (fun i => match a.slots.find? (·.1 == i) with
    | some (_, r) => r.body ++ bytesBE 4 r.crc
    | none => [])

/-- Where the cached images begin. -/
def cacheBase : Nat := 0x140000 + Config.dirBytes

/-- The directory's entries, for the free values of its bytes. -/
def dirKey (a : Attic) : List (Nat × Nat × Nat × Nat) := a.dir.map (fun e => (e.image, e.kind, e.length, e.offset))

/-- A byte as AT_DATA reads it. The directory's layout is not given: its bytes are free values of the entries (Config.dirByte,
log 18), until firmware writes over them. -/
def atticByteAt (s : State) (a : Nat) : Byte :=
  if a < 0x100000 then ledgerByte s a
  else if a < 0x101000 then Config.servoByte a (slotBytes s.x.at_)
  else if a < 0x104000 then
    match tabGet none s.x.at_.links ((a - 0x101000) / 32) with
    | some (asym, applied, sec) => Config.linkByte a asym applied sec
    | none => (tabGet none s.x.at_.bytes a).getD (Config.atticByte a)
  else if 0x140000 ≤ a ∧ a < cacheBase then (tabGet none s.x.at_.bytes a).getD (Config.dirByte a (dirKey s.x.at_))
  else (tabGet none s.x.at_.bytes a).getD (Config.atticByte a)

/-- Store bytes from an address on. -/
def atticStore (off : Nat) (bs : List Byte) (s : State) : State :=
  modAt (fun t => { t with bytes := (upTo bs.length).foldl (fun l i => tabSet none l (off + i) bs[i]?) t.bytes }) s

/-- Link records are held: by hardware, or bytes that firmware has written. -/
def calValid (s : State) : Bool :=
  s.x.at_.links.any (fun x => x.2.isSome) || s.x.at_.bytes.any (fun x => decide (0x101000 ≤ x.1 ∧ x.1 < 0x104000))

/-! AT_DATA. -/

/-- The 8 bytes at OFFSET. -/
def atData (s : State) : Word := BitVec.ofNat 64 (natBE ((upTo 8).map (fun i => atticByteAt s (s.x.at_.offset + i))))

/-- Each access advances OFFSET by 8. -/
def atAdvance (s : State) : State := modAt (fun t => { t with offset := (t.offset + 8) % 2 ^ 22 }) s

/-- A read of AT_DATA: ATTIC_ERROR where the MRAM cannot correct what it reads, which no command says: a free value of the address and
the free-running counter (Config.mramFault, log 125). -/
def atDataEffect (s : State) : State := atAdvance (raiseIf (Config.mramFault s.x.at_.offset s.dc.up) .dxd 0x16 0 s)

/-- R395. -/
def execAtDataRead (rq : Nat) (s : State) : Host.Outcome State Fault Refusal :=
  .next (admitRead .dxd rq 0x16 0x110 atData atDataEffect s)

/-- The 32 bytes of a link record that hardware wrote become plain bytes, of which firmware then writes eight. -/
def plainLink (i : Nat) (s : State) : State :=
  let base := 0x101000 + 32 * i
  atticStore base ((upTo 32).map (fun k => atticByteAt s (base + k))) (modAt (fun t => { t with links := tabSet none t.links i none }) s)

/-- The effect of a write of AT_DATA: refused below 0x10_1000. -/
def atDataWrite (v : Word) (s : State) : State :=
  let a := s.x.at_.offset
  let i := (a - 0x101000) / 32
  let s1 := if a < 0x101000 then raise .dxd 0x16 1 s
    else
      let s2 := if a < 0x104000 ∧ (tabGet none s.x.at_.links i).isSome then plainLink i s else s
      atticStore a (bytesBE 8 v.toNat) s2
  atAdvance s1

/-- R395. -/
def execAtDataWrite (rq : Nat) (v : Word) (s : State) : Host.Outcome State Fault Refusal :=
  .next (admitWrite .dxd rq 0x16 0x110 v (atDataWrite v) s)

/-- The effect of a write of AT_ADDR. -/
def atAddrWrite (v : Word) (s : State) : State := modAt (fun t => { t with offset := fld v 0 22 / 8 * 8 }) s

/-! Images, R380 and R381. -/

def imgId (b : List Byte) : Nat := be b 4 2
def imgClass (b : List Byte) : Nat := be b 4 2 / 4096
def imgKind (b : List Byte) : Nat := be b 6 1
def imgFw (b : List Byte) : FwEntry := ⟨be b 8 1, be b 10 2, be b 12 2, be b 14 2⟩
def imgLength (b : List Byte) : Nat := be b 16 4
def imgTarget (b : List Byte) : Nat := be b 20 4
def imgCrc (b : List Byte) : Nat := be b 24 4

/-- The CRC with its own four bytes taken as 0. -/
def imgCrcOk (b : List Byte) : Bool := crc32 (b.take 24 ++ bytesBE 4 0 ++ b.drop 28) == imgCrc b

/-- The same image with another RANK or VERSION has its CRC computed again. -/
def imgRecrc (b : List Byte) : List Byte := b.take 24 ++ bytesBE 4 (crc32 (b.take 24 ++ bytesBE 4 0 ++ b.drop 28)) ++ b.drop 28

/-- The sections of an image's body: TYPE and body; none where a section is wrong. `n` bounds their number. -/
def sectionsOf : Nat → List Byte → Option (List (Nat × List Byte))
  | _, [] => some []
  | 0, _ => none
  | n + 1, b =>
    let len := be b 4 4
    let pad := (8 - len % 8) % 8
    if b.length < 8 + len + pad ∨ be b 2 2 ≠ 0 ∨ be (b.drop (8 + len)) 0 pad ≠ 0 then none
    else (sectionsOf n (b.drop (8 + len + pad))).map (fun l => (be b 0 2, sub b 8 len) :: l)

def imgSections (b : List Byte) : Option (List (Nat × List Byte)) := sectionsOf b.length (b.drop 64)

/-- A section type in a class, with its body length and its reserved bytes (R380, R381, R383, R384). -/
def sectionOk (cls : Nat) (x : Nat × List Byte) : Bool :=
  let n := x.2.length
  let zero (o k : Nat) : Bool := be x.2 o k == 0
  match x.1 with
  | 0x01 => (cls == 0 || cls == 1) && n % 16 == 0
  | 0x02 => (cls == 0 || cls == 1) && n == 16384
  | 0x03 => cls == 0 && decide (96 ≤ n)
  | 0x04 => cls == 0 && n == 2048
  | 0x10 => cls == 1 && n == 176 && zero 15 1 && zero 172 4
  | 0x11 => cls == 2 && n == 40 && zero 14 2 && zero 34 6
  | 0x12 => cls == 3 && n == 1024
  | 0x13 => cls == 3 && n % 8 == 0 && decide (n ≤ 255 * 8)
  | _ => false

/-- FORMAT, reserved bytes, class and sections. -/
def imgFormatOk (b : List Byte) : Bool :=
  be b 0 4 == 1 && be b 7 1 == 0 && be b 9 1 == 0 && be b 28 36 == 0 && decide (imgClass b < 4) &&
    (match imgSections b with
     | some l => l.all (sectionOk (imgClass b))
     | none => false)

/-! The cache and its directory, R392. -/

/-- CACHE_FREE. -/
def cacheFree (s : State) : Nat := 0x400000 - cacheBase - s.x.at_.dir.foldl (fun n e => n + e.length) 0

/-- Two stretches of bytes have none in common. -/
def apart (o n : Nat) (e : DirEntry) : Bool := decide (o + n ≤ e.offset ∨ e.offset + e.length ≤ o)

/-- The lowest place in the cache for n bytes. -/
def cachePlace (dir : List DirEntry) (n : Nat) : Option Nat :=
  ((cacheBase :: dir.map (fun e => e.offset + e.length)).filter (fun o =>
    decide (o + n ≤ 0x400000) && dir.all (apart o n))).foldl (fun b o => some (match b with | some x => min x o | none => o)) none

/-- The directory without an identifier. -/
def dirDrop (s : State) (id : Nat) : List DirEntry := s.x.at_.dir.filter (fun e => e.image != id)

/-- The directory is written anew over what firmware may have put there. -/
def putDir (dir : List DirEntry) (s : State) : State :=
  modAt (fun t => { t with dir := dir, bytes := t.bytes.filter (fun x => decide (x.1 < 0x140000 ∨ cacheBase ≤ x.1)) }) s

/-- Enter an image, replacing an older one of the same identifier; the version-only image gives entry 5 (R385). -/
def dirEnter (off : Nat) (img : List Byte) (s : State) : State :=
  modAt (fun t => { t with version5 := if imgClass img = 0 ∧ imgKind img = 7 then imgFw img else t.version5 })
    (putDir (dirDrop s (imgId img) ++ [⟨imgId img, imgKind img, imgLength img, off⟩]) s)

/-- Receipt: the image is stored in the lowest place that holds it, if any (log 18). -/
def cacheImage (img : List Byte) (s : State) : State :=
  let dir := dirDrop s (imgId img)
  match cachePlace dir img.length with
  | some o => if dir.length < 64 then dirEnter o img (atticStore o img s) else s
  | none => s

/-! AT_CTL. -/

/-- RESULT of a COMMIT at OFFSET (log 20): 1 DONE, 2 BAD_CRC, 3 BAD_FORMAT, 4 NO_ROOM, 5 BUSY. -/
def commitResult (s : State) (off : Nat) (img : List Byte) : Nat :=
  let n := imgLength img
  if n < 64 ∨ 1048576 < n then 3
  else if 0x400000 < off + n then 4
  else if !imgCrcOk img then 2
  else if (imgFw img).stepping != 0xB0 || !imgFormatOk img then 3
  else if s.x.straps.role = 0 ∧ imgClass img = 0 ∧ !s.x.cs.served.isEmpty then 5
  else if 64 ≤ (dirDrop s (imgId img)).length then 4
  else 1

/-- The image whose header is at an offset. -/
def imageAt (s : State) (off : Nat) : List Byte :=
  let n := be (atticBytes s off 20) 16 4
  atticBytes s off (if n ≤ 1048576 then max 64 n else 64)

/-- An image goes down on these ports (R382). -/
def sendImage (ports : List Nat) (epoch : Nat) (img : List Byte) (s : State) : State :=
  (configFrames epoch (imgId img) img).foldl (fun s f => enqueueAll .dxd ports none f s) s

/-- COMMIT; at the root a BOOT image goes to every package DX-D (R391). -/
def commitImage (s : State) : State :=
  let off := s.x.at_.offset
  let img := imageAt s off
  let r := commitResult s off img
  let s1 := raise .dxd 0x16 2 (modAt (fun t => { t with result := r, resultImage := imgId img }) s)
  if r ≠ 1 then s1
  else
    let s2 := dirEnter off img s1
    if s.x.straps.role = 2 ∧ imgClass img = 0 then sendImage (downPorts s2) 0 img s2 else s2

def dropImage (id : Nat) (s : State) : State :=
  let held := s.x.at_.dir.any (fun e => e.image == id)
  modAt (fun t => { t with result := if held then 1 else 6, resultImage := id }) (putDir (dirDrop s id) s)

def clearHistorySlots (s : State) : State := modAt (fun t => { t with slots := [] }) s

def clearLinks (s : State) : State :=
  modAt (fun t => { t with links := [], bytes := t.bytes.filter (fun x => decide (x.1 < 0x101000 ∨ 0x104000 ≤ x.1)) }) s

/-- The effect of a write of AT_CTL. -/
def atCtlWrite (v : Word) (s : State) : State :=
  let s1 := if bit v 63 then commitImage s else s
  let s2 := if bit v 62 then dropImage (fld v 0 16) s1 else s1
  let s3 := if bit v 61 then clearHistorySlots s2 else s2
  if bit v 60 then clearLinks s3 else s3

/-- R391, R392 and R395. -/
def execAtCommit (rq : Nat) (v : Word) (s : State) : Host.Outcome State Fault Refusal :=
  .next (admitWrite .dxd rq 0x16 0x118 v (atCtlWrite v) s)

/-- R395. -/
def execAtDrop (rq : Nat) (v : Word) (s : State) : Host.Outcome State Fault Refusal :=
  .next (admitWrite .dxd rq 0x16 0x118 v (atCtlWrite v) s)

/-- R395. -/
def execAtClearHistory (rq : Nat) (v : Word) (s : State) : Host.Outcome State Fault Refusal :=
  .next (admitWrite .dxd rq 0x16 0x118 v (atCtlWrite v) s)

/-- R395. -/
def execAtClearCal (rq : Nat) (v : Word) (s : State) : Host.Outcome State Fault Refusal :=
  .next (admitWrite .dxd rq 0x16 0x118 v (atCtlWrite v) s)

end Sys2Proof.Machine
end

