-- ==== Sys2Proof/Machine/Tdc.lean ====
section
/-!
DEFINITION. Interval measurement: channels, interpolators, stamps, class D and class F sets (R92 to R108), and the fit
arithmetic that the servo and the bay supervisor share (R105).
-/

namespace Sys2Proof.Machine

/-! Channels, R97 to R99. -/

/-- The bays of a variant, R143. -/
def bayCount (k : TsuKind) : Nat :=
  match k with
  | .c => 16 | .m => 4 | .e => 2 | .w => 0

/-- A channel that is bindable. -/
def chanGeneral (d : Dev) (s : State) (ch : Nat) : Bool :=
  match d with
  | .tsu => decide (ch = 6 ∨ ch = 7)
  | .dxd => decide ((204 ≤ ch ∧ ch ≤ 259) ∨ (64 ≤ ch ∧ ch ≤ 191 ∧ s.x.straps.role ≠ 0) ∨
      (((194 ≤ ch ∧ ch ≤ 197) ∨ ch = 202) ∧ s.x.straps.role ≠ 2))

/-- A channel whose tap is fixed. -/
def chanFixed (d : Dev) (s : State) (ch : Nat) : Bool :=
  match d with
  | .tsu => decide (ch ≤ 4 ∨ (ch = 5 ∧ s.tc.fuse.kind ≠ .w) ∨ (0x10 ≤ ch ∧ ch < 0x10 + bayCount s.tc.fuse.kind) ∨
      (0x20 ≤ ch ∧ ch < 0x20 + bayCount s.tc.fuse.kind))
  | .dxd => decide (ch ≤ 203) && !chanGeneral .dxd s ch

/-- The channels of a device. -/
def chanListed (d : Dev) (ch : Nat) : Bool :=
  match d with
  | .tsu => decide (ch ≤ 0x2F)
  | .dxd => decide (ch ≤ 259)

def State.chan (s : State) (d : Dev) (ch : Nat) : Chan := tabGet {} (s.com d).chans ch

def modChan (d : Dev) (ch : Nat) (f : Chan → Chan) (s : State) : State :=
  modCom d (fun c => { c with chans := tabMod {} c.chans ch f }) s

/-- A tap code that names a tap of this device, R99: on a DX-D 0x200 + p for each p from 0 to 191. A code that R99 does not list names
no tap, so that a channel bound to it is absent (DESIGN CHOICE, log 112). -/
def tapPresent (d : Dev) (s : State) (tap : Nat) : Bool :=
  chanFixed d s tap || tap == 0x2C2 ||
  match d with
  | .tsu => tap == 0x200 || tap == 0x201
  | .dxd => decide (0x200 ≤ tap ∧ tap < 0x2C2)

/-- PRESENT of TD_CHn. -/
def chanPresent (d : Dev) (s : State) (ch : Nat) : Bool :=
  chanFixed d s ch || (chanGeneral d s ch && tapPresent d s (s.chan d ch).tap)

/-- TAP as the register shows it. -/
def chanTap (d : Dev) (s : State) (ch : Nat) : Nat := if chanGeneral d s ch then (s.chan d ch).tap else ch

/-! Measurement sets, R100 to R106. -/

def setCount (d : Dev) : Nat :=
  match d with
  | .tsu => 4
  | .dxd => 16

def State.mset (s : State) (d : Dev) (m : Nat) : MSet := tabGet {} (s.com d).msets m

def modSet (d : Dev) (m : Nat) (f : MSet → MSet) (s : State) : State :=
  modCom d (fun c => { c with msets := tabMod {} c.msets m f }) s

/-- The window address of a set's registers. -/
def setBase (m : Nat) : Nat := 0x2100 + 0x80 * m

/-- CLASS 01: a frequency fit. -/
def isFit (d : Dev) (m : Nat) (s : State) : Bool := s.regF d (setBase m) 60 2 == 1

def setStart (d : Dev) (m : Nat) (s : State) : Nat := s.regF d (setBase m) 32 9

/-- Stop k: enabled and its channel. -/
def setStop (d : Dev) (m k : Nat) (s : State) : Bool × Nat :=
  let r := s.reg d (setBase m + 8 + 8 * (k / 4))
  let j := 16 * (k % 4)
  (bit r (j + 15), fld r j 9)

/-- The enabled stops. -/
def enabledStops (d : Dev) (m : Nat) (s : State) : List Nat := (upTo 8).filter (fun k => (setStop d m k s).1)

/-- E of R102. -/
def prescale (d : Dev) (tap : Nat) : Nat :=
  match d with
  | .tsu => if 0x10 ≤ tap ∧ tap ≤ 0x1F then 1024 else 1
  | .dxd => 1

/-- A set enters DONE, R108. -/
def endSet (d : Dev) (m err : Nat) (s : State) : State :=
  let s1 := raise d 0x02 m (modSet d m (fun x => { x with st := 3, error := err }) s)
  if err = 0 then s1 else raise d 0x02 (16 + m) s1

/-- ARM, R106. Where both errors apply the spec does not say which shows: CHANNEL_ABSENT comes first here. GATE_MS is tested in
class F, the only class that has a gate. A set that ends with FIT_RANGE leaves FIT_D at 0, its cleared value (DESIGN CHOICE,
log 102). -/
def armSet (d : Dev) (m : Nat) (s : State) : State :=
  let s1 := modSet d m (fun _ => {}) s
  let cls := s.regF d (setBase m) 60 2
  let gate := s.regF d (setBase m) 0 20
  let fnom := s.regF d (setBase m + 0x18) 0 48
  let start := setStart d m s
  let stops := enabledStops d m s
  if !chanPresent d s start || stops.any (fun k => !chanPresent d s (setStop d m k s).2) then endSet d m 2 s1
  else if 2 ≤ cls ∨ (cls = 0 ∧ stops = []) ∨ (cls = 1 ∧ (gate < 1 ∨ 1000000 < gate ∨ fnom = 0)) then endSet d m 1 s1
  else
    let run := fitRun gate fnom (prescale d (chanTap d s start))
    let w := nextMult ((s.com d).tk.bc + 1024)
    if cls = 1 then
      (if run.1 < 3 then endSet d m 4 s1
       else modSet d m (fun x => { x with st := 1, w := w, n := run.1, fitD := run.2 }) s1)
    else modSet d m (fun x => { x with st := 1, w := w }) s1

/-- A write of TD_Mm_CTL, R106. -/
def setCtl (d : Dev) (m : Nat) (v : Word) (s : State) : State :=
  let st := (s.mset d m).st
  if st = 1 ∨ st = 2 then (if bit v 62 then endSet d m 7 s else s)
  else
    let s1 := setReg d (setBase m) (wd [(60, 3), (44, 0xFFFF), (32, 0x1FF), (0, 0xFFFFF)]) v s
    if bit v 63 then armSet d m s1 else s1

/-- A stop whose start is known takes the first stamp of its channel, of those that came before the start's, that is not less
than the start stamp: trims can turn the order of two edges. -/
def settleStops (en : List Nat) (x : MSet) : MSet :=
  match x.start with
  | none => x
  | some t0 => { x with stops := en.foldl (fun l k =>
      let st := tabGet {} l k
      if st.got.isSome || st.bad then l
      else tabSet {} l k { st with got := st.early.find? (fun t => decide (t0 ≤ t)), early := [] }) x.stops }

/-- What a stamp does to one class D set. Only stamps from W to 64,000 beats after it count. The spec does not say whether an edge
of a stop that is MISSED or INVALID ends its search: it does here, and the stop takes no later edge in that repeat (DESIGN
CHOICE, log 102). -/
def stampD (d : Dev) (m ch : Nat) (stamp : Option Nat) (s : State) (x : MSet) : MSet :=
  let en := enabledStops d m s
  let isStart := setStart d m s == ch
  let hadStart := x.start.isSome || x.startBad
  let inside (t : Nat) : Bool := decide (x.w * 65536 ≤ t ∧ t < (x.w + 64000) * 65536)
  let x1 := if isStart && !hadStart then
      (match stamp with
       | some t => if inside t then settleStops en { x with start := some t } else x
       | none => { x with startBad := true })
    else x
  let upd (x : MSet) (k : Nat) : MSet :=
    let st := tabGet {} x.stops k
    if (setStop d m k s).2 ≠ ch ∨ st.got.isSome ∨ st.bad ∨ (isStart && !hadStart) then x
    else match x.start, stamp with
      | some t0, some t => if t0 ≤ t ∧ inside t then { x with stops := tabSet {} x.stops k { st with got := some t } } else x
      | some _, none => { x with stops := tabSet {} x.stops k { st with bad := true } }
      | none, some t => if inside t then { x with stops := tabSet {} x.stops k { st with early := st.early ++ [t] } } else x
      | none, none => x
  en.foldl upd x1

/-- What an edge does to one class F set. -/
def stampF (d : Dev) (m : Nat) (stamp : Option Nat) (s : State) (x : MSet) : MSet :=
  fitEdge (s.regF d (setBase m + 0x18) 0 48) (prescale d (chanTap d s (setStart d m s))) (s.com d).tk.bc (pullShown d s) stamp x

/-- Every open set, and every fit of hardware's own on that channel, observes an edge (R101, R105). -/
def observe (d : Dev) (ch : Nat) (stamp : Option Nat) (s : State) : State :=
  let p := pullShown d s
  let now := (s.com d).tk.bc
  modCom d (fun c => { c with
    msets := c.msets.map (fun y =>
      if y.2.st ≠ 2 then y
      else if 0 < y.2.n then (if setStart d y.1 s = ch then (y.1, stampF d y.1 stamp s y.2) else y)
      else (y.1, stampD d y.1 ch stamp s y.2)),
    hfits := c.hfits.map (fun y => (y.1, y.2.map (fun f =>
      if f.ch = ch then { f with run := fitEdge f.fnom f.e now p stamp f.run } else f))) }) s

/-- A beat moved by whole seconds. -/
def moveBeat (dlt : Int) (n : Nat) : Nat := ((n : Int) + dlt * 1000000000).toNat

/-- A stamp moved by whole seconds. -/
def moveStamp (dlt : Int) (n : Nat) : Nat := ((n : Int) + dlt * 65536000000000).toNat

/-- An origin step moves sec only and voids no class D measurement (R101): the beats and stamps it holds move with HT. A run that
has not begun keeps its W a multiple of 1,024. -/
def moveSet (dlt : Int) (x : MSet) : MSet :=
  if 0 < x.n ∨ x.st ≠ 2 then { x with w := if x.count = 0 ∨ x.st = 1 then nextMult (moveBeat dlt x.w) else x.w }
  else { x with
    w := moveBeat dlt x.w, start := x.start.map (moveStamp dlt),
    stops := x.stops.map (fun y =>
      (y.1, { y.2 with got := y.2.got.map (moveStamp dlt), early := y.2.early.map (moveStamp dlt) })) }

/-- The measurements of a device after an origin step. -/
def moveSets (dlt : Int) (c : Com) : Com :=
  { c with
    msets := c.msets.map (fun y => (y.1, moveSet dlt y.2)),
    hfits := c.hfits.map (fun y => (y.1, y.2.map (fun f => { f with run := moveSet dlt f.run }))) }

/-- R96: the stamp of an edge in frac LSBs, or none where the guard rejects it. -/
def stampOf (c1s c2s : Nat) (trim : Int) (w n c : Nat) : Option Nat :=
  let s8 : Int := (c2s : Int) - c1s
  let g : Int := 8 * c - c1s
  if g < -(s8 / 16) ∨ s8 + s8 / 16 < g then none
  else
    let num : Int := 2048 * (((n : Int) - 1) * s8 - g)
    let den : Int := 5 * s8
    let t := (num + den / 2) / den
    some (((w : Int) * 65536 + (t - trim) * 256).toNat)

/-- The trim of a channel from the fuses. -/
def trimOf (d : Dev) (ch : Nat) (s : State) : Int := tabGet 0 (s.com d).fuse.trim ch

/-- A port receive channel, whose interpolators are four; every other channel has two (R94). -/
def portChannel (d : Dev) (s : State) (ch : Nat) : Bool :=
  chanFixed d s ch && match d with
    | .tsu => decide (ch < 2)
    | .dxd => decide (ch < 194)

def unitCount (d : Dev) (s : State) (ch : Nat) : Nat := if portChannel d s ch then 4 else 2

/-- An interpolator can take an edge whose second timing-clock edge falls at `now` (in tenths of a ns): it holds a passed
calibration, and since its last edge 54.4 ns have passed, which a stamp's 3.2 ns and a calibration's 51.2 ns take (R94,
log 102). -/
def Interp.ready (now : Nat) (u : Interp) : Bool :=
  u.cal.isSome && match u.busy with
    | some b => decide (now < b ∨ b + 544 ≤ now)
    | none => true

/-- The interpolator that takes an edge: they are used in rotation. -/
def pickUnit (n now : Nat) (x : Chan) : Option Nat :=
  ((upTo n).map (fun i => (x.next + i) % n)).find? (fun i => (tabGet {} x.units i).ready now)

/-- MISSED or INVALID advances, and its event follows where it did (R94, R96, R108). -/
def countMissed (d : Dev) (ch : Nat) (s : State) : State :=
  raiseIf (decide ((s.chan d ch).missed < 0xFFFF)) d 0x02 32 (modChan d ch (fun x => { x with missed := sat16 (x.missed + 1) }) s)

def countInvalid (d : Dev) (ch : Nat) (s : State) : State :=
  raiseIf (decide ((s.chan d ch).invalid < 0xFFFF)) d 0x02 33 (modChan d ch (fun x => { x with invalid := sat16 (x.invalid + 1) }) s)

/-- The 10 MHz edges of a root's reference pair are counted between its 1PPS edges (R112). -/
def countTen (d : Dev) (ch : Nat) (s : State) : State :=
  if d = .dxd ∧ (ch = 194 ∨ ch = 195) then modSrc (ch - 194) (fun r => { r with edges := r.edges + 1 }) s else s

def edgeStamp (d : Dev) (ch w n c : Nat) (s : State) : State :=
  if !chanPresent d s ch then s
  else
    let now := 10 * w + 16 * n
    let s1 := countTen d ch s
    match pickUnit (unitCount d s ch) now (s.chan d ch) with
    | none => observe d ch none (countMissed d ch s1)
    | some i =>
      let u := tabGet {} (s.chan d ch).units i
      let cal := u.cal.getD (0, 0)
      let s2 := modChan d ch (fun x => { x with
        units := tabSet {} x.units i { u with busy := some now }, next := (i + 1) % unitCount d s ch }) s1
      match stampOf cal.1 cal.2 (trimOf d ch s) w n c with
      | none => observe d ch none (countInvalid d ch s2)
      | some t => observe d ch (some t) s2

/-- R96: an edge becomes a stamp, or counts in MISSED or INVALID. -/
def execEdgeStamp (d : Dev) (ch w n c : Nat) (s : State) : Host.Outcome State Fault Refusal := .next (edgeStamp d ch w n c s)

/-- Interpolator `i` of a channel ends a calibration. One that fails is not used: the interpolator keeps the last that passed. -/
def calibration (d : Dev) (ch i c1s c2s : Nat) (s : State) : State :=
  if !chanPresent d s ch || decide (unitCount d s ch ≤ i) then s
  else if c1s + 6144 ≤ c2s ∧ c2s ≤ c1s + 12288 then
    modChan d ch (fun x => { x with units := tabMod {} x.units i (fun u => { u with cal := some (c1s, c2s) }), fails := 0 }) s
  else modChan d ch (fun x => { x with fails := x.fails + 1 }) s

/-- R95. -/
def execInterpolatorCalibration (d : Dev) (ch i c1s c2s : Nat) (s : State) : Host.Outcome State Fault Refusal :=
  .next (calibration d ch i c1s c2s s)

/-- Sixteen failures in succession take the channel's calibrations away. The spec does not say whether the event comes again while
they go on failing: the count starts again, so it comes at every further sixteen (DESIGN CHOICE, log 102). -/
def chanCalFail (d : Dev) (ch : Nat) (s : State) : State :=
  if chanPresent d s ch ∧ 16 ≤ (s.chan d ch).fails then
    raise d 0x02 34 (modChan d ch (fun x => { x with
      units := x.units.map (fun u => (u.1, { u.2 with cal := none })), fails := 0 }) s)
  else s

/-- R95: sixteen failures in succession. -/
def execChannelCalFail (d : Dev) (ch : Nat) (s : State) : Host.Outcome State Fault Refusal := .next (chanCalFail d ch s)

def measurementArm (d : Dev) (rq m : Nat) (v : Word) (s : State) : State :=
  if m < setCount d ∧ bit v 63 then admitWrite d rq 0x02 (0x100 + 0x80 * m) v (setCtl d m v) s else s

/-- R106. -/
def execMeasurementArm (d : Dev) (rq m : Nat) (v : Word) (s : State) : Host.Outcome State Fault Refusal :=
  .next (measurementArm d rq m v s)

def measurementAbort (d : Dev) (rq m : Nat) (v : Word) (s : State) : State :=
  if m < setCount d ∧ bit v 62 then admitWrite d rq 0x02 (0x100 + 0x80 * m) v (setCtl d m v) s else s

/-- R106. -/
def execMeasurementAbort (d : Dev) (rq m : Nat) (v : Word) (s : State) : Host.Outcome State Fault Refusal :=
  .next (measurementAbort d rq m v s)

/-- Slice 2 holds the measurement sets and the fit arithmetic of a TSU: what is due acts at its release (R358, R361). -/
def setsHeld (d : Dev) (s : State) : Bool := d == .tsu && sliceIsolated s 2

def windowOpen (d : Dev) (m : Nat) (s : State) : State :=
  let x := s.mset d m
  if m < setCount d ∧ x.st = 1 ∧ x.w ≤ (s.com d).tk.bc ∧ !setsHeld d s then modSet d m (fun x => { x with st := 2 }) s else s

/-- R100. -/
def execMeasurementWindowOpen (d : Dev) (m : Nat) (s : State) : Host.Outcome State Fault Refusal :=
  .next (windowOpen d m s)

/-- A repeat closes: valid only if its start and every enabled stop were stamped. -/
def closeRepeat (en : List Nat) (x : MSet) : MSet :=
  let ok := x.start.isSome && en.all (fun k => (tabGet {} x.stops k).got.isSome)
  let t0 := x.start.getD 0
  let upd (l : List (Nat × Stop)) (k : Nat) : List (Nat × Stop) :=
    let st := tabGet {} l k
    let clean : Stop := { st with got := none, bad := false, early := [] }
    tabSet {} l k (if ok then
      let dlt : Int := (st.got.getD 0 / 256 : Nat) - (t0 / 256 : Nat)
      { clean with sum := st.sum + dlt, last := dlt }
    else { clean with
      noEdge := st.noEdge || ((x.start.isNone && !x.startBad) || (st.got.isNone && !st.bad && x.start.isSome)),
      invalid := st.invalid || x.startBad || st.bad })
  { x with
    count := if ok then x.count + 1 else x.count, done := x.done + 1, start := none, startBad := false,
    stops := en.foldl upd x.stops }

def windowClose (d : Dev) (m : Nat) (s : State) : State :=
  let x := s.mset d m
  let en := enabledStops d m s
  let all := x.start.isSome && en.all (fun k => (tabGet {} x.stops k).got.isSome)
  if m < setCount d ∧ !setsHeld d s ∧ x.st = 2 ∧ x.n = 0 ∧ (all ∨ x.w + 64000 ≤ (s.com d).tk.bc) then
    let y := closeRepeat en x
    let s1 := modSet d m (fun _ => y) s
    if y.done < s.regF d (setBase m) 44 16 + 1 then
      modSet d m (fun y => { y with st := 1, w := nextMult ((s.com d).tk.bc + 1) }) s1
    else endSet d m (if y.count = 0 then 3 else 0) s1
  else s

/-- R100. -/
def execMeasurementWindowClose (d : Dev) (m : Nat) (s : State) : Host.Outcome State Fault Refusal :=
  .next (windowClose d m s)

/-- A run ends. Where it is void for an edge and for time, the spec does not say which ERROR shows: FIT_VOID_EDGE does here
(DESIGN CHOICE, log 102). -/
def fitRunComplete (d : Dev) (m : Nat) (s : State) : State :=
  let x := s.mset d m
  if m < setCount d ∧ !setsHeld d s ∧ x.st = 2 ∧ 0 < x.n ∧ (x.n ≤ x.count ∨ x.voidEdge ∨ x.voidTime) then
    if x.voidEdge ∨ (!x.voidTime ∧ fitQ x.n x.s0 x.s1 ≤ 0) then endSet d m 5 s
    else if x.voidTime then endSet d m 6 s
    else
      let r := fitResult x.n x.fitD (prescale d (chanTap d s (setStart d m s))) (s.regF d (setBase m + 0x18) 0 48) x.s0 x.s1
      endSet d m 0 (modSet d m (fun x => { x with fitY := r.1, fitPpt := r.2 }) s)
  else s

/-- R103 and R104. -/
def execFitRunComplete (d : Dev) (m : Nat) (s : State) : Host.Outcome State Fault Refusal := .next (fitRunComplete d m s)

/-- The page and offset of TD_CHn, R107. -/
def chanReg (d : Dev) (ch : Nat) : Nat × Nat :=
  match d with
  | .tsu => (0x02, 0x800 + 8 * ch)
  | .dxd => (0x24, 0x100 + 8 * ch)

/-- A write of TD_CHn on a general channel: effective 1 µs later. The spec does not say what a second write in that time does: it
replaces the first and its own 1 µs begins (DESIGN CHOICE, log 102). -/
def tapStore (d : Dev) (ch : Nat) (v : Word) (s : State) : State :=
  if chanGeneral d s ch then modChan d ch (fun x => { x with pend := some (fld v 48 10, (s.com d).up + 1000) }) s else s

def tapWrite (d : Dev) (rq ch : Nat) (v : Word) (s : State) : State :=
  if chanListed d ch then admitWrite d rq (chanReg d ch).1 (chanReg d ch).2 v (tapStore d ch v) s else s

/-- R99. -/
def execTapWrite (d : Dev) (rq ch : Nat) (v : Word) (s : State) : Host.Outcome State Fault Refusal :=
  .next (tapWrite d rq ch v s)

def tapTakeEffect (d : Dev) (ch : Nat) (s : State) : State :=
  match (s.chan d ch).pend with
  | some (tap, t) =>
    if t ≤ (s.com d).up then
      let s1 := modChan d ch (fun x => { x with tap := tap, pend := none }) s
      let uses (m : Nat) : Bool := decide ((s.mset d m).st = 1 ∨ (s.mset d m).st = 2) &&
        (setStart d m s == ch || (!isFit d m s && (enabledStops d m s).any (fun k => (setStop d m k s).2 == ch)))
      (upTo (setCount d)).foldl (fun s m => if uses m then endSet d m 1 s else s) s1
    else s
  | none => s

/-- R99. -/
def execTapTakeEffect (d : Dev) (ch : Nat) (s : State) : Host.Outcome State Fault Refusal := .next (tapTakeEffect d ch s)

/-- TD_CHn, R107. -/
def chanWord (d : Dev) (ch : Nat) (s : State) : Word :=
  let x := s.chan d ch
  if chanGeneral d s ch || chanFixed d s ch then
    wd [(63, b2n (chanPresent d s ch)), (62, b2n (chanGeneral d s ch)), (48, chanTap d s ch % 1024),
        (32, ux 12 (trimOf d ch s)), (16, x.missed), (0, x.invalid)]
  else 0

def tdChRead (d : Dev) (rq n : Nat) (s : State) : State :=
  if chanListed d n then
    admitRead d rq (chanReg d n).1 (chanReg d n).2 (chanWord d n)
      (modChan d n (fun x => { x with missed := 0, invalid := 0 })) s
  else s

/-- R107: a read clears both counters. -/
def execTdChRead (d : Dev) (rq n : Nat) (s : State) : Host.Outcome State Fault Refusal := .next (tdChRead d rq n s)

end Sys2Proof.Machine
end

