-- ==== Sys2Proof/Machine/BaysBase.lean ====
section
/-!
DEFINITION. Bay operations that other chapters use (R143 to R160): tables and targets, the change sequence, corrections,
re-centring, the step gap, and the death of a bay.
-/

namespace Sys2Proof.Machine

/-! Bays, points and sets. -/

def bayExists (s : State) (b : Nat) : Bool := decide (b < bayCount s.tc.fuse.kind)

/-- R143: the adaptive bays. -/
def bayAdaptive (s : State) (b : Nat) : Bool := s.tc.fuse.kind == .c && decide (12 ≤ b ∧ b < 16)

def State.bay (s : State) (b : Nat) : Bay := tabGet {} s.t.by_.bay b

def modBay (b : Nat) (f : Bay → Bay) (s : State) : State := modBy (fun y => { y with bay := tabMod {} y.bay b f }) s

def State.baySet (s : State) (n : Nat) : BaySet := tabGet {} s.t.by_.sets n

def modBaySet (n : Nat) (f : BaySet → BaySet) (s : State) : State :=
  modBy (fun y => { y with sets := tabMod {} y.sets n f }) s

/-- The present bays. -/
def allBays (s : State) : List Nat := upTo (bayCount s.tc.fuse.kind)

/-- BY_Bn_CFG fields. -/
def bayCfg (s : State) (b : Nat) : Word := s.reg .tsu (0x3200 + 0x40 * b)
def baySetOf (s : State) (b : Nat) : Nat := fld (bayCfg s b) 8 4
def bayMonEn (s : State) (b : Nat) : Bool := bit (bayCfg s b) 12 && !bayAdaptive s b
def bayReq (s : State) (b : Nat) : Nat := fld (bayCfg s b) 0 4

/-- The window address of BY_Bn_PTp. -/
def ptAddr (b p : Nat) : Nat := 0x3600 + 0x80 * b + 8 * p
def ptWord (s : State) (b p : Nat) : Word := s.reg .tsu (ptAddr b p)
def ptValid (s : State) (b p : Nat) : Bool := bit (ptWord s b p) 63
def ptFreq (s : State) (b p : Nat) : Nat := fld (ptWord s b p) 0 12
def ptMargin (s : State) (b p : Nat) : Nat := fld (ptWord s b p) 24 8

/-- FREQ_MHZ of a bay's current point; after a re-plan the bay keeps the one it runs at until its next change (R370). -/
def bayMhz (s : State) (b : Nat) : Nat := (s.bay b).mhz.getD (ptFreq s b (s.bay b).cur)

/-- A usable entry, R151. -/
def ptUsable (s : State) (b p : Nat) : Bool :=
  ptValid s b p && decide (800 ≤ ptFreq s b p ∧ ptFreq s b p ≤ 2400) &&
    (upTo p).all (fun q => !ptValid s b q || decide (ptFreq s b p ≤ ptFreq s b q))

/-- A VALID entry breaks the rule of R151. -/
def tableBad (s : State) (b : Nat) : Bool := (upTo 16).any (fun p => ptValid s b p && !ptUsable s b p)

/-- The members of a set that are not DEAD. -/
def setMembers (s : State) (n : Nat) : List Nat := (allBays s).filter (fun b => baySetOf s b == n && !(s.bay b).dead)

/-- The demand of R153 before it is raised to a usable point. -/
def setDemand (s : State) (n : Nat) : Nat :=
  (setMembers s n).foldl (fun m b => max m (max (bayReq s b) (if bayMonEn s b then (s.bay b).mon else 0))) 0

/-- The target point of a set, R153; none where no index serves every member. -/
def setTarget (s : State) (n : Nat) : Option Nat :=
  let ms := setMembers s n
  match ms with
  | [] => none
  | b0 :: _ => (upTo 16).find? (fun p => decide (setDemand s n ≤ p) &&
      ms.all (fun b => ptUsable s b p && ptFreq s b p == ptFreq s b0 p))

/-- A member's table is in error: its bay makes no change until it is corrected (R151), and its set moves as one (R152). -/
def setBarred (s : State) (n : Nat) : Bool := (setMembers s n).any (tableBad s)

/-- Pending, R153. -/
def setPending (s : State) (n : Nat) : Bool :=
  match setTarget s n with
  | some p => (setMembers s n).any (fun b => (s.bay b).cur != p)
  | none => false

/-- The commanded INC of R146. -/
def commandedInc (mhz : Nat) : Nat := if mhz = 0 then 0 else (2 ^ 25 * 1000 + mhz) / (2 * mhz) % 2 ^ 32

/-! Corrections, R57 to R59. -/

/-- The bay applies a correction B: forward, or the debt to withhold. -/
def applyCorrection (bc : Nat) (b : Bay) : Bay :=
  let v := bc % 2 ^ 64 * 2 ^ 24
  if b.lbc ≤ v then { b with lbc := v, debt := 0 } else { b with debt := b.lbc - v }

/-- One edge of a bay that begins a period of length n, R57: it takes a correction that has arrived, with LBC_VALID and the latch
of U (R59, R145), or advances the counter by INC × n / 64 (R56). U is latched before the period that begins is counted
(log 38). -/
def bayEdge (n : Nat) (b : Bay) : Bay :=
  match b.pendCorr with
  | some c => applyCorrection c { b with
      pendCorr := none, lbcValid := true, latchB := c, latchU := b.u, gateU := some (b.gateU.getD b.u) }
  | none =>
    let step := b.inc * n / 64
    if step ≤ b.debt then { b with debt := b.debt - step } else { b with lbc := (b.lbc + step - b.debt) % 2 ^ 88, debt := 0 }

/-- The counts of R145 for a period of length n. -/
def countPeriod (n : Nat) (b : Bay) : Bay :=
  { b with
    edges := (b.edges + 1) % 2 ^ 48, stretched := if 64 < n then (b.stretched + 1) % 2 ^ 32 else b.stretched,
    units := (b.units + (n - 64)) % 2 ^ 32, u := (b.u + n) % 2 ^ 54 }

/-- The immediate correction of R59 at a bay's current point: the commanded INC and a new gate (R146); the bay takes it on its
first edge. -/
def immediateCorrection (bc mhz : Nat) (b : Bay) : Bay :=
  { b with inc := commandedInc mhz, incNext := none, corr := some bc, pendCorr := some bc, gateB := bc, gateU := none, gateN := 0 }

/-- The 64 integer bits of an LBC as a core reads them in one access (R55); undefined until the first correction has been applied
(R59). -/
def lbcRead (b : Nat) (s : State) : BitVec 64 :=
  if (s.bay b).lbcValid then BitVec.ofNat 64 ((s.bay b).lbc / 2 ^ 24) else Config.lbcUndefined b

/-- The fit of R147 for a bay begins at the first multiple of 1,024 at or after `w`. -/
def startBayFit (b w : Nat) (s : State) : State :=
  startFit .tsu (fitBay b) (0x10 + b) (bayMhz s b * 10 ^ 9) 1024
    (max 1 (min 1000000 (s.regF .tsu 0x3100 12 20))) (nextMult w) s

/-! Crossings, R152 and R158 to R160. -/

def State.xing (s : State) (c : Nat) : Xing := tabGet {} s.t.by_.xing c

def modXing (c : Nat) (f : Xing → Xing) (s : State) : State := modBy (fun y => { y with xing := tabMod {} y.xing c f }) s

/-- VALID, SENDER and RECEIVER of a crossing word. -/
def xcValid (w : Word) : Bool := bit w 63
def xcSender (w : Word) : Nat := fld w 52 4
def xcReceiver (w : Word) : Nat := fld w 48 4

/-- Beats that 8 cycles of the slower bay of a crossing take, R160. -/
def recentreBeats (s : State) (w : Word) : Nat :=
  let f (b : Nat) : Nat := bayMhz s b
  (8000 + max 800 (min (f (xcSender w)) (f (xcReceiver w))) - 1) / max 800 (min (f (xcSender w)) (f (xcReceiver w)))

/-- Re-centre one crossing: it is empty, with D = 0 and no slot booked; written fields take effect, and its slots are withheld for
8 cycles of the slower bay, the longest that R160 allows (log 38). -/
def recentre (c : Nat) (s : State) : State :=
  let w := s.reg .tsu (0x3E00 + 8 * c)
  let till := s.tc.up + recentreBeats s w
  modXing c (fun x => { x with cfg := w, slip := 0, sndHold := 0, rcvSkip := 0, quietTo := till }) s

/-- Re-centring at a gap, or RECENTRE_SKIPPED where fewer than GUARD beats remain. R160 does not say whose RECENTRES_SKIPPED counts:
here each bay that ends a crossing valid in effect counts the gap once, and the event is raised even where no crossing is valid
(DESIGN CHOICE, log 119). -/
def recentreGap (s : State) : State :=
  if s.tc.fuse.kind = .w then s
  else if kickAtLeast s (guardBeats s) then (upTo 32).foldl (fun s c => recentre c s) s
  else
    let hit (b : Nat) : Bool := (upTo 32).any (fun c =>
      xcValid (s.xing c).cfg && (xcSender (s.xing c).cfg == b || xcReceiver (s.xing c).cfg == b))
    raise .tsu 0x03 53 ((allBays s).foldl (fun s b =>
      if hit b then modBay b (fun x => { x with recentresSkipped := sat16 (x.recentresSkipped + 1) }) s else s) s)

/-! Changes, R154 to R156. -/

/-- The change of a set starts: sender slots are withheld until the crossings are empty. One started mid-step is counted for each bay
of the set (R162). -/
def startChange (n p : Nat) (s : State) : State :=
  let mid := !gapIsOpen s
  let up := s.tc.up
  let ms := setMembers s n
  let s1 := modBaySet n (fun _ => { phase := 1, point := p, since := up, members := ms }) s
  if mid then
    raise .tsu 0x03 48 (ms.foldl (fun s b => modBay b (fun y => { y with urgentChanges := sat16 (y.urgentChanges + 1) }) s) s1)
  else s1

/-- A member with its urgent flag and MON_EN asks for a lower frequency. A point of equal FREQ_MHZ is neither higher nor lower: it is
taken as not urgent (DESIGN CHOICE, log 119). -/
def urgentDown (s : State) (n p : Nat) : Bool :=
  match setMembers s n with
  | [] => false
  | b0 :: _ => decide (ptFreq s b0 p < bayMhz s b0) &&
      (setMembers s n).any (fun b => (s.bay b).urgent && bayMonEn s b)

/-- The set whose running change a bay takes part in. -/
def changeOf (s : State) (b : Nat) : Option Nat :=
  (upTo 16).find? (fun n => (s.baySet n).phase != 0 && (s.baySet n).members.contains b)

/-- A pending set starts its change where R154 lets it, not while a member of it still takes part in another change, and not while a
member's table is in error (R151). In DARK, which has stopped every bay, none starts (log 121). -/
def tryChange (n : Nat) (s : State) : State :=
  if (s.baySet n).phase ≠ 0 ∨ sliceIsolated s 4 ∨ s.t.st.dark ∨ (setMembers s n).any (fun b => (changeOf s b).isSome) then s
  else match setTarget s n with
  | none => if (setMembers s n).isEmpty then s else raise .tsu 0x03 51 s
  | some p =>
    if !setPending s n || setBarred s n then modBaySet n (fun x => { x with afterKick := false }) s
    else if gapIsOpen s ∧ kickAtLeast s (guardBeats s) then startChange n p s
    else if urgentDown s n p then
      (if kickAtLeast s (guardBeats s) then startChange n p s else modBaySet n (fun x => { x with afterKick := true }) s)
    else modBaySet n (fun x => { x with afterKick := false }) s

/-- Every set is looked at. -/
def tryChanges (s : State) : State :=
  if s.tc.fuse.kind = .w then s else (upTo 16).foldl (fun s n => if (setMembers s n).isEmpty then s else tryChange n s) s

/-- Every member that is not DEAD has resumed: the set's crossings, as they are in effect, are re-centred and CHANGE_DONE is raised
(step 6). -/
def finishChange (n : Nat) (s : State) : State :=
  let x := s.baySet n
  let live := x.members.filter (fun b => !(s.bay b).dead)
  if x.phase = 2 ∧ live.all (fun b => x.resumed.contains b) then
    let s1 := (upTo 32).foldl (fun s c =>
      let w := (s.xing c).cfg
      if xcValid w && (x.members.contains (xcSender w) || x.members.contains (xcReceiver w)) then recentre c s else s) s
    let s2 := live.foldl (fun s b => raise .tsu 0x03 b (modBay b (fun y => { y with changes := sat16 (y.changes + 1) }) s)) s1
    tryChanges (modBaySet n (fun _ => {}) s2)
  else s

/-- Stage READY. -/
def tsuReady (s : State) : Bool := s.tc.boot.stage == 6

/-! The step gap, R144. -/

/-- The gap that has just opened is used: re-centring, then pending changes. -/
def useGap (s : State) : State := tryChanges (recentreGap s)

/-- Entry into SIDELINE, R293 and R301: as for a BENCH; the key port's step is no longer current (R265), and the step gap opens
without end (R144, R160). -/
def enterSideline (s : State) : State :=
  if s.tc.tk.sideline then s
  else
    let s1 := withdrawSet (fun r => r.armed || r.launched) s
    let s2 := modKp (fun k => { k with curValid := false, applied := false }) (modTk .tsu (fun t => { t with sideline := true }) s1)
    useGap (setTimeState .tsu (tsuTimeState s2) (raiseLocal 7 s2))

/-- An own failure, R187: within an epoch the running step fails, ARMED steps are called off and the TSU self-fences
(R293); outside every epoch it is only recorded by its event. -/
def ownFailure (s : State) : State :=
  if s.t.mem.epoch = 0 then s
  else enterSideline (modMem (fun m => { m with ownFailed := true }) s)

/-- The fit of a present bay goes on: one that a change has ended begins again (R147). -/
def keepBayFit (b : Nat) (s : State) : State :=
  if tsuReady s && (s.hfit .tsu (fitBay b)).isNone then startBayFit b (s.tc.tk.bc + 1) s else s

/-- A bay is declared DEAD, R150: a hard failure of its die (R187). Its clock is still counted and fitted (R145, R147). The spec does not say whether a bay that dies while it is stopped
goes on showing STOPPED: it does not here, since nothing will resume it (DESIGN CHOICE, log 109). -/
def bayDies (b : Nat) (s : State) : State :=
  if !bayExists s b || (s.bay b).dead then s
  else
    let s1 := modBay b (fun y => { y with dead := true, lbcValid := false, stopped := false, pendCorr := none }) s
    let s2 := keepBayFit b (raise .tsu 0x03 (32 + b) s1)
    ownFailure (match changeOf s b with
      | some n => finishChange n s2
      | none => s2)

/-- The gap opens: re-centring, then pending changes. -/
def openGap (s : State) : State := useGap (modMem (fun m => { m with gapOpen := true }) s)

/-- The gap closes at a kickoff: changes still pending are deferred, urgent ones start now. -/
def closeGap (s : State) : State :=
  let late (n : Nat) (s : State) : Bool := (s.baySet n).phase == 0 && setPending s n && !(s.baySet n).afterKick
  let was := gapIsOpen s
  let s1 := modMem (fun m => { m with gapOpen := false }) s
  if s.tc.fuse.kind = .w then s1
  else (upTo 16).foldl (fun s n =>
    if (setMembers s n).isEmpty then s
    else if (s.baySet n).afterKick then
      (match setTarget s n with
       | some p =>
         if setPending s n && !setBarred s n && urgentDown s n p then startChange n p s else modBaySet n (fun x => { x with afterKick := false }) s
       | none => s)
    else if was && late n s then
      raise .tsu 0x03 49 ((setMembers s n).foldl (fun s b => modBay b (fun y => { y with deferred := sat16 (y.deferred + 1) }) s) s)
    else s) s1

/-- The return stamps of a correction or a kickoff strobe: half the round trip, averaged over 64 (R148). R148 gives neither the form
of the average nor its rounding: here a block of 64 is shown once it is full, rounded down (DESIGN CHOICE, log 119). -/
def pathSample (r : BayReading) (s : State) : State :=
  modBay r.bay (fun y =>
    let sum := y.pathSum + r.value
    if y.pathN + 1 = 64 then { y with path := sum / 128 % 2 ^ 24, pathSum := 0, pathN := 0 }
    else { y with pathSum := sum, pathN := y.pathN + 1 }) s

/-- A bay that takes corrections and strobes. -/
def bayServed (s : State) (b : Nat) : Bool := bayExists s b && !(s.bay b).dead && !(s.bay b).stopped

end Sys2Proof.Machine
end

