-- ==== Sys2Proof/Machine/Bays.lean ====
section
/-!
DEFINITION. The meanings of the clock-bay commands (R55 to R60, R143 to R163, and the canary samples of R369).
-/

namespace Sys2Proof.Machine

/-! Corrections and gates. -/

/-- The canary code of a bay, sampled at a correction (R369). -/
def canarySample (r : BayReading) (s : State) : State :=
  let b := r.bay
  let s1 := modBt .tsu (fun t => { t with
    margin := tabSet 0 t.margin b (r.value % 256), low := tabSet 255 t.low b (min (tabGet 255 t.low b) (r.value % 256)) }) s
  if !bayAdaptive s b ∧ r.value % 256 < ptMargin s b (s.bay b).cur then raise .tsu 0x0D 3 s1 else s1

/-- What an immediate correction measures: the return delay (R148) and the canary's code (R369), which no command carries and which
are free values here (Config.pathReturn, Config.canaryCode; log 120). -/
def immediateSamples (b : Nat) (s : State) : State :=
  canarySample ⟨b, Config.canaryCode b s.tc.up⟩ (pathSample ⟨b, Config.pathReturn b s.tc.up⟩ s)

/-- One correction B = BC goes to one bay, with the INC that is due; the bay takes it on its next edge. -/
def correctBay (bc : Nat) (b : Nat) (s : State) : State :=
  let hold := sliceIsolated s 4
  modBay b (fun y =>
    let y1 := match y.incNext, hold with
      | some i, false => { y with inc := i, incNext := none }
      | _, _ => y
    { y1 with pendCorr := some bc, corr := some bc, gateN := y1.gateN + 1 }) s

/-- The correction of R57 at a BC multiple of 1,024, from READY on (R59). -/
def bayCorrection (rets canary : List BayReading) (s : State) : State :=
  let bc := s.tc.tk.bc
  if !tsuReady s || bc % 1024 ≠ 0 then s
  else
    let served := (allBays s).filter (bayServed s)
    let s1 := served.foldl (fun s b => correctBay bc b s) s
    let s2 := (rets.filter (fun r => served.contains r.bay)).foldl (fun s r => pathSample r s) s1
    (canary.filter (fun r => served.contains r.bay)).foldl (fun s r => canarySample r s) s2

/-- R57. -/
def execBayCorrection (rets canary : List BayReading) (s : State) : Host.Outcome State Fault Refusal :=
  .next (bayCorrection rets canary s)

/-- G of R146. -/
def incGate (s : State) (b : Nat) : Nat := if (s.bay b).refLoss then 64 else orOne (s.regF .tsu 0x3100 32 16)

/-- A gate ends once the bay has taken the correction that ends it: INC from the U that was latched there, and the rate check of
R150. -/
def incGateEnd (b : Nat) (s : State) : State :=
  let y := s.bay b
  if !bayServed s b || decide (y.gateN < incGate s b) || y.pendCorr.isSome then s
  else match y.gateU with
  | none => s
  | some u0 =>
    let c := y.latchB
    let du := (y.latchU + 2 ^ 54 - u0) % 2 ^ 54
    let db := c - y.gateB
    let f := bayMhz s b
    let tol := orOne (s.regF .tsu 0x3100 0 12)
    let off := decide (tol * (64 * db * f) < ((du * 1000 : Nat) - (64 * db * f : Nat) : Int).natAbs * 1000000)
    let inc := if du = 0 then y.inc else (2 ^ 30 * db + du / 2) / du % 2 ^ 32
    let s1 := modBay b (fun _ => { y with incNext := some inc, gateB := c, gateU := some y.latchU, gateN := 0 }) s
    if off then bayDies b s1 else s1

/-- R146. -/
def execIncGateEnd (b : Nat) (s : State) : Host.Outcome State Fault Refusal := .next (incGateEnd b s)

/-- The fit of a bay has ended: its result is shown, and the next one begins. -/
def bayFitEnd (b : Nat) (s : State) : State :=
  if !bayExists s b || setsHeld .tsu s then s
  else match fitEnd .tsu (fitBay b) s with
  | none => s
  | some r => startBayFit b s.tc.tk.bc (match r with
      | some ppt => modBay b (fun y => { y with fit := ppt }) s
      | none => s)

/-- R147: the last complete result is kept where the fit was void. -/
def execBayFitGateEnd (b : Nat) (s : State) : Host.Outcome State Fault Refusal := .next (bayFitEnd b s)

/-! Loss of reference and death, R149 and R150. -/

def bayRefLoss (b : Nat) (s : State) : State :=
  if !bayExists s b || (s.bay b).refLoss then s
  else raise .tsu 0x03 (16 + b) (modBay b (fun y => { y with refLoss := true }) s)

/-- R149. -/
def execBayRefLoss (b : Nat) (s : State) : Host.Outcome State Fault Refusal := .next (bayRefLoss b s)

def bayRefLossEnd (b : Nat) (s : State) : State :=
  if bayExists s b then modBay b (fun y => { y with refLoss := false }) s else s

/-- R149. -/
def execBayRefLossEnd (b : Nat) (s : State) : Host.Outcome State Fault Refusal := .next (bayRefLossEnd b s)

def bayNoEdge (b : Nat) (s : State) : State := if (s.bay b).stopped then s else bayDies b s

/-- R150: no edge for 4,096 ns while not STOPPED. -/
def execBayNoEdgeTimeout (b : Nat) (s : State) : Host.Outcome State Fault Refusal := .next (bayNoEdge b s)

/-! Demands and changes, R153 to R156. -/

/-- The pins of a bay's monitors, R410; mon_point and mon_urgent of an adaptive bay are tied to 0. -/
def monitorReport (b point : Nat) (urgent : Bool) (temp : Int) (s : State) : State :=
  if !bayExists s b then s
  else
    let tied := bayAdaptive s b
    tryChange (baySetOf s b) (modBay b (fun y => { y with
      mon := if tied then 0 else point % 16, urgent := urgent && !tied, temp := temp }) s)

/-- R153 and R154. -/
def execBayMonitorReport (b point : Nat) (urgent : Bool) (temp : Int) (s : State) : Host.Outcome State Fault Refusal :=
  .next (monitorReport b point urgent temp s)

/-- The crossings are empty: the frequency and the stop request go to every bay of the change (step 2), whose fits end there
(R147). A bay that DARK has stopped meanwhile has acknowledged (log 121). -/
def crossingDrained (n : Nat) (s : State) : State :=
  let x := s.baySet n
  if x.phase ≠ 1 then s
  else
    let up := s.tc.up
    let s1 := modBaySet n (fun x => { x with
      phase := 2, since := up, resumed := [],
      acked := (x.members.filter (fun b => (s.bay b).stopped)).map (fun b => (b, up)) }) s
    finishChange n ((x.members.filter (fun b => !(s.bay b).dead)).foldl (fun s b =>
      dropFit .tsu (fitBay b) (modBay b (fun y => { y with freq := ptFreq s b x.point, stopReq := true }) s)) s1)

/-- R156. -/
def execCrossingDrained (set : Nat) (s : State) : Host.Outcome State Fault Refusal := .next (crossingDrained set s)

/-- A bay acknowledges its stop: that of a change (step 3), or that of DARK (R335). -/
def stopAck (b : Nat) (s : State) : State :=
  let n := (changeOf s b).getD (baySetOf s b)
  let x := s.baySet n
  if !bayServed s b then s
  else if x.phase = 2 ∧ !x.acked.any (fun a => a.1 == b) then
    let up := s.tc.up
    modBaySet n (fun x => { x with acked := x.acked ++ [(b, up)] }) (modBay b (fun y => { y with stopped := true }) s)
  else if (s.bay b).stopReq then modBay b (fun y => { y with stopped := true }) s
  else s

/-- R156. -/
def execBayStopAck (b : Nat) (s : State) : Host.Outcome State Fault Refusal := .next (stopAck b s)

/-- A bay's first edge at the new frequency: the immediate correction of R59 (steps 4 and 5). The stop request that DARK asserts stays
(R335). -/
def bayResume (b : Nat) (s : State) : State :=
  let n := (changeOf s b).getD (baySetOf s b)
  let x := s.baySet n
  let y := s.bay b
  if !bayExists s b || y.dead || !y.stopped || x.phase ≠ 2 || !x.acked.any (fun a => a.1 == b) then s
  else
    let bc := s.tc.tk.bc
    let f := ptFreq s b x.point
    let s1 := modBay b (fun y =>
      immediateCorrection bc f { y with stopped := false, stopReq := s.t.st.dark, cur := x.point, mhz := none }) s
    finishChange n (modBaySet n (fun x => { x with resumed := x.resumed ++ [b] }) (startBayFit b (bc + 1) (immediateSamples b s1)))

/-- R156. -/
def execBayResume (b : Nat) (s : State) : Host.Outcome State Fault Refusal := .next (bayResume b s)

/-- No acknowledgement within 64 ns, or no resume within 96 ns of it. -/
def changeTimeout (b : Nat) (s : State) : State :=
  let x := s.baySet ((changeOf s b).getD (baySetOf s b))
  let up := s.tc.up
  let late := match x.acked.find? (fun a => a.1 == b) with
    | none => decide (x.since + 64 ≤ up)
    | some a => !x.resumed.contains b && decide (a.2 + 96 ≤ up)
  if bayExists s b && x.phase == 2 && late then bayDies b s else s

/-- R156. -/
def execBayChangeTimeout (b : Nat) (s : State) : Host.Outcome State Fault Refusal := .next (changeTimeout b s)

/-! Period reports and slips, R145 and R158. -/

/-- A crossing sees the periods that begin at one moment: its receiver's, then its sender's, then the stall test (R158, R159). The
edge that begins a period also takes up a slot booked before or now: the sender withholds one, the receiver skips one. R162 does not
say which |D| PEAK shows: here the one that the test sees, before a stall takes 64 off, at most 96 (DESIGN CHOICE, log 119). -/
def slip (rcv snd : Option Nat) (x : Xing) : Xing × Bool :=
  let term (n : Option Nat) : Int := match n with
    | some n => (n : Int) - 64
    | none => 0
  let d := x.slip + term rcv - term snd
  let peak := max x.peak (min 96 d.natAbs)
  let r : Xing × Bool :=
    if 96 < d then ({ x with slip := d - 64, sndHold := x.sndHold + 1, stalls := sat16 (x.stalls + 1), peak := peak }, true)
    else if d < -96 then ({ x with slip := d + 64, rcvSkip := x.rcvSkip + 1, stalls := sat16 (x.stalls + 1), peak := peak }, true)
    else ({ x with slip := d, peak := peak }, false)
  ({ r.1 with sndHold := r.1.sndHold - b2n snd.isSome, rcvSkip := r.1.rcvSkip - b2n rcv.isSome }, r.2)

/-- The length of the period that a bay reports as beginning now: 64 to 96 from an adaptive bay, 64 from any other (R56, R145). A DEAD
bay's periods still count; a stopped bay has none (R156). -/
def reportOf (rs : List BayReading) (s : State) (b : Nat) : Option Nat :=
  match rs.find? (fun r => r.bay == b) with
  | some r =>
    if bayExists s b && !(s.bay b).stopped && (if bayAdaptive s b then decide (64 ≤ r.value ∧ r.value ≤ 96) else r.value == 64) then some r.value else none
  | none => none

/-- A crossing that is held: while its set changes, its slots are withheld or its bays are stopped (R156, R159), and so they are
while it is re-centred (R160). -/
def xingHeld (x : Xing) (s : State) : Bool := (changeOf s (xcSender x.cfg)).isSome || decide (s.tc.up < x.quietTo)

/-- Periods of bays begin at one moment: their counters, their LBCs and the slip counts of their crossings move. -/
def periodReport (rs : List BayReading) (s : State) : State :=
  let rep := reportOf rs s
  let s1 := (allBays s).foldl (fun t b => match rep b with
    | some n => modBay b (fun y => countPeriod n (bayEdge n y)) t
    | none => t) s
  (upTo 32).foldl (fun t c =>
    let x := t.xing c
    let rcv := rep (xcReceiver x.cfg)
    let snd := rep (xcSender x.cfg)
    if xcValid x.cfg && !xingHeld x s && (rcv.isSome || snd.isSome) then
      let r := slip rcv snd x
      raiseIf r.2 .tsu 0x03 52 (modXing c (fun _ => r.1) t)
    else t) s1

/-- R158. -/
def execBayPeriodReport (rs : List BayReading) (s : State) : Host.Outcome State Fault Refusal := .next (periodReport rs s)

/-! Configuration writes, R151 and R152. -/

/-- The effect of a write of BY_Xc: fields for the next re-centre, unless it would join two sets. -/
def xcStore (c : Nat) (v : Word) (s : State) : State :=
  if bit v 63 ∧ baySetOf s (xcSender v) ≠ baySetOf s (xcReceiver v) then raise .tsu 0x03 50 s
  else
    let s1 := setReg .tsu (0x3E00 + 8 * c) (wd [(63, 1), (52, 15), (48, 15)]) v s
    if noEpoch s then recentre c s1 else s1

def byXcWrite (rq c : Nat) (v : Word) (s : State) : State :=
  if c < 32 then admitWrite .tsu rq 0x03 (0xE00 + 8 * c) v (xcStore c v) s else s

/-- R152. -/
def execByXcWrite (rq c : Nat) (v : Word) (s : State) : Host.Outcome State Fault Refusal := .next (byXcWrite rq c v s)

/-- A crossing word joins bay b to a bay outside set n. -/
def joinsOutside (s : State) (b n : Nat) (w : Word) : Bool :=
  xcValid w && ((xcSender w == b && xcReceiver w != b && baySetOf s (xcReceiver w) != n) ||
    (xcReceiver w == b && xcSender w != b && baySetOf s (xcSender w) != n))

/-- A crossing, as written or as still in effect (R162), joins bay b to a bay outside set n. -/
def splitsCrossing (s : State) (b n : Nat) : Bool :=
  (upTo 32).any (fun c => joinsOutside s b n (s.reg .tsu (0x3E00 + 8 * c)) || joinsOutside s b n (s.xing c).cfg)

/-- The effect of a write of BY_Bn_CFG; one that would split a crossing is ignored. -/
def bayCfgStore (b : Nat) (v : Word) (s : State) : State :=
  if !bayExists s b then s
  else
    let n := fld v 8 4
    let was := baySetOf s b
    if n ≠ was ∧ splitsCrossing s b n then raise .tsu 0x03 50 s
    else
      let s1 := setReg .tsu (0x3200 + 0x40 * b) (wd [(12, if bayAdaptive s b then 0 else 1), (8, 15), (0, 15)]) v s
      let s2 := tryChange n s1
      if n ≠ was then tryChange was s2 else s2

def byBayCfgWrite (rq b : Nat) (v : Word) (s : State) : State :=
  if b < 16 then admitWrite .tsu rq 0x03 (0x200 + 0x40 * b) v (bayCfgStore b v) s else s

/-- R152 and R153. -/
def execByBayCfgWrite (rq b : Nat) (v : Word) (s : State) : Host.Outcome State Fault Refusal :=
  .next (byBayCfgWrite rq b v s)

/-- The effect of a write of BY_Bn_PTp. -/
def ptStore (b p : Nat) (v : Word) (s : State) : State :=
  if !bayExists s b then s
  else
    let s1 := setReg .tsu (ptAddr b p) (wd [(63, 1), (32, 255), (24, 255), (0, 0xFFF)]) v s
    if tableBad s1 b then raise .tsu 0x03 51 s1 else tryChange (baySetOf s1 b) s1

def bayTableWrite (rq b pt : Nat) (v : Word) (s : State) : State :=
  if b < 16 ∧ pt < 16 then admitWrite .tsu rq 0x03 (0x600 + 0x80 * b + 8 * pt) v (ptStore b pt v) s else s

/-- R151. -/
def execBayTableWrite (rq b pt : Nat) (v : Word) (s : State) : Host.Outcome State Fault Refusal :=
  .next (bayTableWrite rq b pt v s)

/-! Reads with effects, R162. -/

/-- BY_Bn_CHANGES. -/
def changesWord (y : Bay) : Word :=
  wd [(48, y.changes), (32, y.urgentChanges), (16, y.deferred), (0, y.recentresSkipped)]

def byChangesRead (rq b : Nat) (s : State) : State :=
  if b < 16 then
    admitRead .tsu rq 0x03 (0x200 + 0x40 * b + 0x30) (fun s => changesWord (s.bay b))
      (modBay b (fun y => { y with changes := 0, urgentChanges := 0, deferred := 0, recentresSkipped := 0 })) s
  else s

/-- R162. -/
def execByChangesRead (rq b : Nat) (s : State) : Host.Outcome State Fault Refusal := .next (byChangesRead rq b s)

/-- BY_Xc: its fields as written, the counts, and D. -/
def xcWord (c : Nat) (s : State) : Word :=
  let x := s.xing c
  s.reg .tsu (0x3E00 + 8 * c) ||| wd [(32, x.stalls), (16, x.peak), (0, ux 8 x.slip)]

def byXcRead (rq c : Nat) (s : State) : State :=
  if c < 32 then
    admitRead .tsu rq 0x03 (0xE00 + 8 * c) (xcWord c) (modXing c (fun x => { x with stalls := 0, peak := 0 })) s
  else s

/-- R162. -/
def execByXcRead (rq c : Nat) (s : State) : Host.Outcome State Fault Refusal := .next (byXcRead rq c s)

end Sys2Proof.Machine
end

