-- ==== Sys2Proof/Machine/SigBase.lean ====
section
/-!
DEFINITION. Thread faults (R210); cells and the grant pass (R218 to R222); streams, remote posts and the bullpen (R224 to
R230).
-/

namespace Sys2Proof.Machine

/-- The TSU's units are out of reset: after LBIST and not in CELLAR (R378, R388). -/
def tsuUnits (s : State) : Bool := decide (2 ≤ s.tc.boot.stage) && !inCellar .tsu s

/-! Threads. -/

/-- A step that makes a fault an own failure, R210. -/
def holdsStep (s : State) : Bool := s.t.mem.epoch != 0 && s.t.steps.any (·.active)

/-- The record of a thread's current step. -/
def curRec (th : Thread) (s : State) : Option StepRec :=
  match (getThr s.t.cue th).cur with
  | some c => s.t.steps.find? (fun r => r.epoch == c.epoch && r.step == c.step && r.attempt == c.attempt)
  | none => none

/-- The run thread's current step is LAUNCHED. -/
def runLaunched (s : State) : Bool :=
  match curRec .run s with
  | some r => r.launched
  | none => false

def modThr (th : Thread) (f : Thr → Thr) (s : State) : State := modCue (setThr th f) s

/-- R199: the run thread leaves a LAUNCHED step undone. -/
def haltInStep (th : Thread) (s : State) : State := raiseIf (th == .run && runLaunched s) .tsu 0x04 5 s

/-- A fault stops its thread, R210; `word` and `pc` go to CU_FAULT. -/
def threadFault (th : Thread) (code word pc : Nat) (s : State) : State :=
  let s1 := modCue (fun e =>
    { setThr th (fun t => { t with st := 4, fault := code, wait := none }) e with
      faultWord := word, faultLead := th == .lead, faultPc := pc }) (haltInStep th s)
  let s2 := raise .tsu 0x04 (match th with | .run => 0 | .lead => 1) s1
  if holdsStep s ∧ code ≠ 7 ∧ code ≠ 9 then ownFailure s2 else s2

/-- The word at a store address, R191. -/
def State.pbWord (s : State) (a : Nat) : CueWord := tabGet 0 s.t.cue.store (a % 4096)

/-- A fault that an event brings on a waiting thread: its instruction is the one before PC. -/
def waitFault (th : Thread) (code : Nat) (s : State) : State :=
  let pc := ((getThr s.t.cue th).pc + 4095) % 4096
  if threadsHeld s then holdEvent th (.fault code) s else threadFault th code (s.pbWord pc).toNat pc (dropWaiter th (getThr s.t.cue th).wait s)

/-- A thread is released from its wait. -/
def threadResume (th : Thread) (s : State) : State := modThr th (fun t => { t with st := 1, wait := none }) s

/-- Register p`n`. -/
def State.p (s : State) (n : Nat) : Word := tabGet 0 s.t.cue.p n

def setP (n : Nat) (v : Word) (s : State) : State := modCue (fun e => { e with p := tabSet 0 e.p n v }) s

/-! Cells. -/

def State.cell (s : State) (c : Nat) : Cell := tabGet {} s.t.sg.cells c

def putCell (c : Nat) (x : Cell) (s : State) : State := modSg (fun g => { g with cells := tabSet {} g.cells c x }) s

/-- One waiter of the grant pass, R220: granted where its targeted counts and COUNT suffice. -/
def grantRank (acc : Cell × List (Nat × WOwner)) (r : Nat) : Cell × List (Nat × WOwner) :=
  let x := acc.1
  match tabGet none x.waiters r with
  | some w =>
    let held := tabGet 0 x.held r
    let avail : Int := held + max x.count 0
    if (w.need : Int) ≤ avail then
      let t := min held w.need
      ({ x with
          held := tabSet 0 x.held r (held - t), count := x.count - (w.need - t : Nat),
          waiters := tabSet none x.waiters r none, granted := x.granted ||| 2 ^ r },
        acc.2 ++ [(r, w.owner)])
    else acc
  | none => acc

/-- R220: ascending rank. -/
def grantPass (x : Cell) : Cell × List (Nat × WOwner) := (upTo 16).foldl grantRank (x, [])

/-- A wake, R222: a message on the fabric, or the thread resumes. -/
def wake (c r : Nat) (o : WOwner) (s : State) : State :=
  match o with
  | .fabric _ => modSg (fun g => { g with wakes := g.wakes ++ [⟨c, r, true, o⟩] }) s
  | .thread th =>
    if (getThr s.t.cue th).wait ≠ some (.cwait c r) then s
    else if threadsHeld s then holdEvent th .resume s else threadResume th s

/-- Apply a changed cell with its grant pass; none is an overflow (R219). -/
def applyCell (c : Nat) (x : Option Cell) (s : State) : State :=
  match x with
  | some x =>
    let g := grantPass x
    g.2.foldl (fun s w => wake c w.1 w.2 s) (putCell c g.1 s)
  | none => ownFailure (raise .tsu 0x06 5 s)

/-- The s32 range of COUNT. -/
def countOk (n : Int) : Bool := decide (-(2 ^ 31 : Nat) ≤ n ∧ n < (2 ^ 31 : Nat))

/-- add d; a post of n is add n (R219). -/
def cellAdd (c : Nat) (d : Int) (s : State) : State :=
  let x := s.cell c
  applyCell c (if countOk (x.count + d) then some { x with count := x.count + d } else none) s

/-- post-targeted r. -/
def cellPostt (c r : Nat) (s : State) : State :=
  let x := s.cell c
  let h := tabGet 0 x.held r
  applyCell c (if h < 15 then some { x with held := tabSet 0 x.held r (h + 1) } else none) s

/-- reset: COUNT and held counts 0. -/
def cellReset (c : Nat) (s : State) : State := applyCell c (some { s.cell c with count := 0, held := [] }) s

/-- The rank holds a waiter. -/
def hasWaiter (s : State) (c r : Nat) : Bool := (tabGet none (s.cell c).waiters r).isSome

/-- A waiter is registered and the pass runs; its GRANTED bit clears (R216). -/
def cellRegister (c r need : Nat) (o : WOwner) (s : State) : State :=
  let x := s.cell c
  applyCell c (some { x with
    waiters := tabSet none x.waiters r (some ⟨need, o⟩), granted := x.granted - (if x.granted.testBit r then 2 ^ r else 0) }) s

/-- wait by a fabric requester: refused with a wake where the rank is taken (R219). -/
def cellWait (rq c r need : Nat) (s : State) : State :=
  if hasWaiter s c r then
    modSg (fun g => { g with waitBusy := sat16 (g.waitBusy + 1), wakes := g.wakes ++ [⟨c, r, false, .fabric rq⟩] }) s
  else cellRegister c r need (.fabric rq) s

/-- The TEST word, R216. -/
def testWord (x : Cell) : Word :=
  let mask (f : Nat → Bool) : Nat := (upTo 16).foldl (fun n r => if f r then n + 2 ^ r else n) 0
  wd [(48, mask (fun r => (tabGet none x.waiters r).isSome)), (32, mask (fun r => tabGet 0 x.held r != 0)),
    (0, ux 32 x.count)]

/-- A bad access or command, counted (R217, R218). -/
def badCell (s : State) : State :=
  raise .tsu 0x06 1 (modSg (fun g => { g with badAccess := sat16 (g.badAccess + 1) }) s)

/-! Streams and remote posts. -/

def State.sOut (s : State) (n : Nat) : StreamOut := tabGet {} s.t.sg.sOut n
def State.sIn (s : State) (n : Nat) : StreamIn := tabGet {} s.t.sg.sIn n

def modStreamOut (n : Nat) (f : StreamOut → StreamOut) (s : State) : State :=
  modSg (fun g => { g with sOut := tabMod {} g.sOut n f }) s

def modStreamIn (n : Nat) (f : StreamIn → StreamIn) (s : State) : State :=
  modSg (fun g => { g with sIn := tabMod {} g.sIn n f }) s

/-- The tag, R224. -/
def ownTag (s : State) : Nat := s.t.mem.epoch % 16 * 16 + s.t.sg.gen

/-- A post is discarded as stale, R226, R227 and R230. -/
def stalePost (n : Nat) (s : State) : State :=
  if n = 0 then s else raise .tsu 0x06 2 (modSg (fun g => { g with stalePost := sat16 (g.stalePost + n) }) s)

/-- The record of a remote post, R225. -/
def postRecord (p : RPost) : List Byte :=
  let b : List Byte := bytesBE 4 p.dest ++ bytesBE 4 p.source ++ bytesBE 4 p.epoch ++ bytesBE 2 p.step16 ++ bytesBE 1 p.attempt ++
    bytesBE 1 (b2n p.targeted * 128 + p.rank % 16) ++ bytesBE 2 (p.stream % 512) ++ bytesBE 1 p.seq ++ bytesBE 1 0 ++
    bytesBE 4 (p.mark % 2 ^ 24) ++ bytesBE 2 p.cell ++ bytesBE 2 p.n
  b ++ bytesBE 4 (crc32 b)

/-- The post of a record, R225; its reserved bits are not looked at. -/
def readPost (l : List Byte) : RPost :=
  let f (i n : Nat) : Nat := natBE ((l.drop i).take n)
  { dest := f 0 4, source := f 4 4, epoch := f 8 4, step16 := f 12 2, attempt := f 14 1, targeted := decide (128 ≤ f 15 1),
    rank := f 15 1 % 16, stream := f 16 2 % 512, seq := f 18 1, mark := f 20 4 % 2 ^ 24, cell := f 24 2, n := f 26 2 }

/-- The CRC of a record holds, R227. -/
def postCrcOk (l : List Byte) : Bool := natBE ((l.drop 28).take 4) == crc32 (l.take 28)

/-- A remote post leaves, R226. -/
def remotePost (st cell n : Nat) (targeted : Bool) (rank : Nat) (s : State) : State :=
  match launchedStep s with
  | none => stalePost 1 s
  | some r =>
    let o := s.sOut st
    let p : RPost :=
      { dest := o.dest, source := s.t.mem.die, epoch := s.t.mem.epoch, step16 := r.step % 65536, attempt := r.attempt,
        targeted := targeted, rank := if targeted then rank else 0, stream := st, seq := o.seq, mark := o.depart,
        cell := cell, n := if targeted then 0 else n }
    modStreamOut st (fun o => { o with seq := (o.seq + 1) % 256 }) (modSg (fun g => { g with rpostOut := postRecord p }) s)

/-- What R227 makes of a post. -/
inductive PostV where
  | crc
  | hold
  | stale
  | mismatch
  | apply
  deriving DecidableEq, Repr

/-- R227, row by row. -/
def postVerdict (s : State) (h : HeldPost) : PostV :=
  let m := s.t.mem
  let p := h.post
  let i := s.sIn p.stream
  let st := extend16 m.curStep p.step16
  if !h.crcOk then .crc
  else if p.epoch = m.epoch ∧ m.epoch ≠ 0 ∧ !m.launchedInEpoch then .hold
  else if p.epoch ≠ m.epoch ∨ m.epoch = 0 ∨ st < m.curStep ∨ (st = m.curStep ∧ p.attempt ≠ m.curAttempt) then .stale
  else if p.source ≠ i.source then .mismatch
  else if m.curStep < st then .hold
  else if p.seq ≠ i.next ∨ serial 24 i.arrived p.mark < 0 then .hold
  else .apply

/-! Accesses that wait for a context operation or a slice, R217 and R361. -/

/-- Window accesses wait. -/
def windowWaits (s : State) : Bool := s.t.sg.ctxBusy || sliceIsolated s 5 || sliceIsolated s 10

def queueReq (q : CellReq) (s : State) : State := modSg (fun g => { g with waitingReqs := g.waitingReqs ++ [q] }) s

/-- A cell operation that comes from inside the TSU: a remote post, or an instruction. It waits for slice 5 alone. -/
def cellDo (q : CellReq) (f : State → State) (s : State) : State := if sliceIsolated s 5 then queueReq q s else f s

/-- A post that is not held is discarded or applied. -/
def actPost (v : PostV) (p : RPost) (s : State) : State :=
  match v with
  | .crc => ownFailure (modSg (fun g => { g with postCrc := sat16 (g.postCrc + 1) }) s)
  | .hold => s
  | .stale => stalePost 1 s
  | .mismatch => ownFailure (raise .tsu 0x06 3 s)
  | .apply =>
    modStreamIn p.stream (fun i => { i with next := (i.next + 1) % 256 })
      (if p.targeted then cellDo (.postt 0 p.cell p.rank) (cellPostt p.cell p.rank) s
       else cellDo (.post 0 p.cell p.n) (cellAdd p.cell p.n) s)

/-- The lowest held post, by stream and sequence, that R227 no longer holds. -/
def nextPost (s : State) : Option HeldPost :=
  s.t.sg.bullpen.foldl (fun o h =>
    if postVerdict s h = .hold then o
    else match o with
      | some q => if h.post.stream < q.post.stream ∨ (h.post.stream = q.post.stream ∧ h.post.seq < q.post.seq) then some h else o
      | none => some h) none

/-- R228: the held posts are checked again, in ascending stream and sequence, until none passes. -/
def recheck : Nat → State → State
  | 0, s => s
  | n + 1, s =>
    match nextPost s with
    | none => s
    | some h =>
      recheck n (actPost (postVerdict s h) h.post (modSg (fun g => { g with bullpen := g.bullpen.erase h }) s))

/-- The remote-post port takes a post: acted on, or held in the bullpen. -/
def takePost (h : HeldPost) (s : State) : State :=
  let v := postVerdict s h
  if v = .hold then
    let s1 := modSg (fun g => { g with bullpen := g.bullpen ++ [h] }) s
    if 1024 ≤ s1.t.sg.bullpen.length then raise .tsu 0x06 0 s1 else s1
  else
    let s1 := actPost v h.post s
    recheck s1.t.sg.bullpen.length s1

/-- The port stops taking posts: slice 6 under test, or the bullpen full (R228, R366). -/
def portClosed (s : State) : Bool := sliceIsolated s 6 || decide (1024 ≤ s.t.sg.bullpen.length)

/-- The port takes what waits in it, oldest first, while it may; a post arrives when it is taken (R228, R361). -/
def drainPort : Nat → State → State
  | 0, s => s
  | n + 1, s =>
    match s.t.sg.port with
    | h :: rest => if portClosed s then s else drainPort n (takePost { h with at_ := s.tc.up } (modSg (fun g => { g with port := rest }) s))
    | [] => s

/-- Everything held is checked again, and the port drains (R228). -/
def recheckAll (s : State) : State :=
  if sliceIsolated s 6 then s
  else
    let s1 := recheck s.t.sg.bullpen.length s
    drainPort s1.t.sg.port.length s1

/-- R230: a new generation G. Every counter of every stream becomes 0 and every held post is stale. -/
def newGeneration (gen : Nat) (s : State) : State :=
  let n := s.t.sg.bullpen.length
  stalePost n (modSg (fun g => { g with
    gen := gen % 16, bullpen := [],
    sOut := g.sOut.foldl (fun t x => tabSet {} t x.1 { dest := x.2.dest }) [],
    sIn := g.sIn.foldl (fun t x => tabSet {} t x.1 { source := x.2.source }) [] }) s)

/-- Beats a held post has been held, counted as in R229: none before its step has launched here. -/
def heldFor (s : State) (h : HeldPost) : Option Nat :=
  let m := s.t.mem
  if m.launchedInEpoch ∧ h.post.epoch = m.epoch ∧ extend16 m.curStep h.post.step16 = m.curStep then
    some (min (s.tc.up - h.at_) (max 0 ((s.tc.tk.bc : Int) - m.curK)).toNat)
  else none

/-- A write of stream `st` has departed, R224. -/
def streamDepart (st : Nat) (s : State) : State := modStreamOut st (fun o => { o with depart := (o.depart + 1) % 2 ^ 24 }) s

/-- A write of stream `st` has arrived, if its tag is the TSU's (R224); posts held for it are checked again (R228). -/
def streamArrive (st tag : Nat) (s : State) : State :=
  if tag = ownTag s then recheckAll (modStreamIn st (fun i => { i with arrived := (i.arrived + 1) % 2 ^ 24 }) s) else s

/-- A cwait that has waited for slice 5 registers, if its thread still waits for it; a rank that is taken is a fault (R202). -/
def cwaitLater (th : Thread) (c r need : Nat) (s : State) : State :=
  if (getThr s.t.cue th).wait ≠ some (.cwait c r) then s
  else if hasWaiter s c r then waitFault th 4 s
  else cellRegister c r need (.thread th) s

/-- The effect of a window access, a completion post, a report or an instruction that has waited. -/
def applyReq (q : CellReq) (s : State) : State :=
  match q with
  | .post _ c n => cellAdd c n s
  | .postt _ c r => cellPostt c r s
  | .add _ c d => cellAdd c d s
  | .wait rq c r need => cellWait rq c r need s
  | .reset _ c => cellReset c s
  | .test rq c => respond .tsu rq (testWord (s.cell c)) s
  | .granted rq c => respond .tsu rq (wd [(0, (s.cell c).granted)]) s
  | .bad => badCell s
  | .badRead rq => badCell (respond .tsu rq 0 s)
  | .depart st => streamDepart st s
  | .arrive st tag => streamArrive st tag s
  | .cwait th c r need => cwaitLater th c r need s
  | .remote st c n t r => remotePost st c n t r s

/-- An access acts now or waits. -/
def windowDo (q : CellReq) (s : State) : State :=
  if !tsuUnits s then s else if windowWaits s then queueReq q s else applyReq q s

/-- A completion post that leaves on its stream, and a report of a stream, wait for slice 6 alone; every other access waits for the
window (R217). -/
def reqHeld (s : State) (q : CellReq) : Bool :=
  match q with
  | .remote _ _ _ _ _ => sliceIsolated s 6
  | .depart _ => sliceIsolated s 6
  | .arrive _ _ => sliceIsolated s 6
  | _ => windowWaits s

/-- The accesses that waited and no longer have to are applied in order. -/
def releaseReqs (s : State) : State :=
  (s.t.sg.waitingReqs.filter (fun q => !reqHeld s q)).foldl (fun s q => applyReq q s)
    (modSg (fun g => { g with waitingReqs := g.waitingReqs.filter (reqHeld s) }) s)

end Sys2Proof.Machine
end

