-- ==== Sys2Proof/Machine/Stockroom.lean ====
section
/-!
DEFINITION. The stockroom: requests and grants, step leave, droop and abnormal drops, regulator phases, reports (R324 to
R339).
-/

namespace Sys2Proof.Machine

/-- A ledger is present, R324. -/
def hasStock (s : State) : Bool := tsuUnits s && (s.tc.fuse.kind == .c || s.tc.fuse.kind == .m)

/-- ST_CFG and ST_MON_CFG fields with their limits, R338. -/
def stEnvelope (s : State) : Nat := min 850 (s.regF .tsu 0xB100 0 12)
def stRise (s : State) : Nat := min 64 (orOne (s.regF .tsu 0xB100 16 7))
def stLoadline (s : State) : Nat := s.regF .tsu 0xB100 32 16
def bumpTicks (s : State) : Nat := orOne (s.regF .tsu 0xB120 32 16)
def bumpMv (s : State) : Nat := orOne (s.regF .tsu 0xB120 16 8)
def phaseFilter (s : State) : Nat := orOne (s.regF .tsu 0xB120 0 16)

/-- Phases lost, R335. -/
def lostCount (l : Nat) : Nat := (upTo 24).countP (fun p => l.testBit p)

/-- E_eff, R325 and R335. -/
def effEnvelope (env n : Nat) : Nat := if 3 ≤ n then 0 else env - 40 * n

/-- The values that CEILING and EFFECTIVE show before the first tick. -/
def shownEff (s : State) : Nat := if s.t.st.ticks = 0 then effEnvelope (stEnvelope s) (lostCount s.t.st.lost) else s.t.st.eEff
def shownCeiling (s : State) : Nat := if s.t.st.ticks = 0 then shownEff s else s.t.st.ceiling

def modStPort (p : Nat) (f : StPort → StPort) (s : State) : State := modSt (fun t => { t with port := tabMod {} t.port p f }) s
def State.stPort (s : State) (p : Nat) : StPort := tabGet {} s.t.st.port p

/-- R329: the ledger as a reset or a join leaves it, its credit full at the depth that RISE gives then. -/
def emptyLedger (s : State) : State :=
  modSt (fun t => { t with port := [], g := 0, credit := 1000 * stRise s, overEnv := false }) s

/-- A request refused or ignored is counted. -/
def reqRefused (s : State) : State := raise .tsu 0x0B 1 (modSt (fun t => { t with reqRefused := sat16 (t.reqRefused + 1) }) s)

def stockRequest (p w : Nat) (s : State) : State :=
  if !hasStock s || decide (64 ≤ p ∨ w = 0 ∨ 64 < w) then s
  else if (s.stPort p).pending || (s.stPort p).newReq.isSome then reqRefused s
  else modStPort p (fun x => { x with newReq := some (w, s.tc.up), answer := 0 }) s

/-- R326. -/
def execStockRequest (port w : Nat) (s : State) : Host.Outcome State Fault Refusal := .next (stockRequest port w s)

def stockRelease (p : Nat) (s : State) : State :=
  if hasStock s ∧ p < 64 then modStPort p (fun x => { x with newRel := x.newRel ++ [s.tc.up] }) s else s

/-- R326. -/
def execStockRelease (port : Nat) (s : State) : Host.Outcome State Fault Refusal := .next (stockRelease port s)

/-! Phases, R334 and R335. -/

/-- DARK is an own failure that enters SIDELINE outside every epoch too (R293). -/
def darkFailure (s : State) : State := if s.t.mem.epoch = 0 then enterSideline s else ownFailure s

/-- A phase is declared lost: E_eff falls, or the region goes dark, fits no class any more (R254) and the TSU fails on its own. -/
def losePhase (p : Nat) (s : State) : State :=
  if s.t.st.lost.testBit p then s
  else
    let l := s.t.st.lost + 2 ^ p
    let n := lostCount l
    let s1 := raise .tsu 0x0B 5 (modSt (fun t => { t with
      lost := l, derated := true, stockDue := true, eEff := effEnvelope (stEnvelope s) n }) s)
    if n < 3 then s1
    else if s.t.st.dark then s1
    else
      let s2 := modBy (fun y => { y with bay := (upTo 16).foldl (fun t b =>
        if bayExists s b then tabMod {} t b (fun x => { x with stopReq := true }) else t) y.bay }) s1
      let s3 := raiseIf (s2.t.kp.jobValid && s2.t.kp.fits) .tsu 0x08 1 (modKp (fun k => { k with fits := false, kept := 0 }) s2)
      darkFailure (raise .tsu 0x0B 6 (modSt (fun t => { t with dark := true }) s3))

/-- A tick samples the phase bus of a TSU-C. -/
def samplePhases (phases : Nat) (s : State) : State :=
  if s.tc.fuse.kind ≠ .c then s
  else modSt (fun t => { t with zeros := (upTo 24).foldl (fun z p =>
    tabSet 0 z p (if phases.testBit p then 0 else sat16 (tabGet 0 t.zeros p + 1))) [] }) s

/-- A phase whose bit has been 0 at PHASE_FILTER ticks. -/
def phaseDue (s : State) (p : Nat) : Bool :=
  s.tc.fuse.kind == .c && decide (p < 24 ∧ phaseFilter s ≤ tabGet 0 s.t.st.zeros p) && !s.t.st.lost.testBit p

def losePhases (s : State) : State := (upTo 24).foldl (fun s p => if phaseDue s p then losePhase p s else s) s

/-- R334. -/
def execPhaseLost (ph : Nat) (s : State) : Host.Outcome State Fault Refusal :=
  .next (if hasStock s && phaseDue s ph then losePhase ph s else s)

/-! Stages of a grant tick, R327. -/

/-- The record that a queued resv or rels names: an active one before any other. -/
def leaveRec (s : State) (step : Nat) : Option StepRec :=
  match s.t.steps.find? (fun r => r.step == step && r.active) with
  | some r => some r
  | none => s.t.steps.find? (fun r => r.step == step)

/-- The step leave of one record becomes `l`. -/
def setLeave (r : StepRec) (l : Nat) (s : State) : State :=
  modT (fun t => { t with steps := listModify (fun x => x == r) (fun x => { x with leave := l }) t.steps }) s

/-- Releases presented 8 ns before the tick: the port returns all leave it holds (R326). -/
def takeRelease (p : Nat) (s : State) : State :=
  let up := s.tc.up
  let x := s.stPort p
  if x.newRel.any (fun a => decide (a + 8 ≤ up)) then
    modSt (fun t => { t with g := t.g - x.held })
      (modStPort p (fun x => { x with held := 0, newRel := x.newRel.filter (fun a => decide (up < a + 8)) }) s)
  else s

/-- One queued rels returns its step's leave. -/
def takeRel (q : LeaveReq) (s : State) : State :=
  match leaveRec s q.step with
  | some r => setLeave r 0 s
  | none => s

/-- The queued rels return their steps' leave (R203, R327). -/
def takeRels (s : State) : State :=
  let s1 := (s.t.st.leaveQ.filter (fun q => q.w.isNone)).foldl (fun s q => takeRel q s) s
  modSt (fun t => { t with leaveQ := t.leaveQ.filter (fun q => q.w.isSome) }) s1

/-- Stage 1: releases, and the return of step leave, by rels and of steps that have ended. -/
def takeReleases (s : State) : State :=
  modT (fun t => { t with steps := t.steps.map (fun r =>
    if r.leaveReturn || !(r.armed || r.launched) then { r with leave := 0, leaveReturn := false } else r) })
    (takeRels ((upTo 64).foldl (fun s p => takeRelease p s) s))

/-- Stage 3 for one queued resv, R331. -/
def takeLeave (q : LeaveReq) (s : State) : State :=
  match leaveRec s q.step, q.w with
  | some r, some w =>
    let e := s.t.st.eEff
    let s1 := setLeave r (min (r.leave + w) e) s
    if e < r.leave + w then
      raise .tsu 0x0B 2 (modSt (fun t => { t with leaveShort := sat16 (t.leaveShort + 1) }) s1)
    else s1
  | _, _ => s

/-- Stage 3: the queue in order of issue; leave of a step that has ended is returned at the same tick (R337). -/
def takeLeaves (s : State) : State :=
  let s1 := s.t.st.leaveQ.foldl (fun s q => takeLeave q s) (modSt (fun t => { t with leaveQ := [] }) s)
  modT (fun t => { t with steps := t.steps.map (fun r =>
    if r.armed || r.launched then r else { r with leave := 0, leaveReturn := false }) }) s1

/-- Stage 4: the ceiling C. -/
def ceilingOf (s : State) : Nat :=
  match launchedStep s with
  | some r => if 0 < r.leave then min s.t.st.eEff r.leave else s.t.st.eEff
  | none => s.t.st.eEff

/-- Requests presented 8 ns before the tick become pending. -/
def takeRequests (s : State) : State :=
  let up := s.tc.up
  (upTo 64).foldl (fun s p =>
    match (s.stPort p).newReq with
    | some (w, a) => if a + 8 ≤ up then
        modStPort p (fun x => { x with newReq := none, pending := true, req := w, wait := 0 }) s else s
    | none => s) s

/-- Stage 5: requests above the ceiling or RISE are refused. -/
def refuseRequests (c rise : Nat) (s : State) : State :=
  (upTo 64).foldl (fun s p =>
    let x := s.stPort p
    if x.pending ∧ (c < x.req ∨ rise < x.req) then
      reqRefused (modStPort p (fun x => { x with pending := false, req := 0, wait := 0, answer := 2 }) s)
    else s) s

/-- Stage 6 over the ranks from `r`: the pass stops at the first request that does not fit (R328). -/
def grantFrom (c : Nat) : List Nat → Stock → Stock
  | [], t => t
  | r :: rest, t =>
    let x := tabGet {} t.port r
    if !x.pending then grantFrom c rest t
    else if c < t.g + x.req ∨ t.credit < 1000 * x.req then t
    else
      grantFrom c rest { t with
        g := t.g + x.req, credit := t.credit - 1000 * x.req,
        port := tabSet {} t.port r { x with held := x.held + x.req, pending := false, req := 0, wait := 0, answer := 1 } }

/-- The rise credit after the refill of one tick. -/
def refill (rise : Nat) (t : Stock) : Stock :=
  { t with credit := min (t.credit + 64 * rise) (1000 * rise) }

/-- Every request still pending has waited one more tick. -/
def waitOne (t : Stock) : Stock :=
  { t with port := t.port.map (fun x => (x.1, if x.2.pending then { x.2 with wait := sat32 (x.2.wait + 1) } else x.2)) }

/-- Stage 6: refill and pass. -/
def grantStage (c rise : Nat) (serving droop : Bool) (s : State) : State :=
  modSt (fun t =>
    let t1 := refill rise t
    let t2 := if droop || t.dark || !serving then t1 else grantFrom c (upTo 64) t1
    waitOne { t2 with ceiling := c, peak := min 0xFFFF (max t2.peak t2.g), peakStock := max t2.peakStock t2.g }) s

/-- g above C raises OVER_ENVELOPE once. -/
def noteOver (s : State) : State :=
  let above := decide (s.t.st.ceiling < s.t.st.g)
  raiseIf (above && !s.t.st.overEnv) .tsu 0x0B 3 (modSt (fun t => { t with overEnv := above }) s)

/-- Samples of the last 256 ticks, newest first, and the residual of R333. -/
def sampleDrop (vsense : Nat) (s : State) : State :=
  modSt (fun t =>
    let v := (vsense % 4096 :: t.v).take 256
    let gs := (t.g :: t.gs).take 256
    let sum (l : List Nat) : Int := l.foldl (fun a b => a + b) 0
    let dv := sum ((v.drop 192).take 64) - sum (v.take 64)
    let dg := sum (gs.take 64) - sum ((gs.drop 192).take 64)
    let res := dv - (dg * stLoadline s).tdiv 500
    let ready := decide (256 ≤ t.ticks + 1)
    let bad := ready && decide ((bumpMv s : Int) * 128 < res)
    { t with v := v, gs := gs, residual := if ready then res else 0, ticks := t.ticks + 1,
             abnormal := if bad then t.abnormal + 1 else 0 }) s

/-- The droop input as a tick finds it: one that stands asserted with no DROOP command before it is an assertion (R332). -/
def setDroop (b : Bool) (s : State) : State :=
  raiseIf (b && !s.t.st.droop) .tsu 0x0B 0 (modSt (fun t => { t with droop := b }) s)

/-- A grant tick is due: a BC that is a multiple of 64, once. -/
def tickDue (s : State) : Bool :=
  hasStock s && s.tc.tk.bc % 64 == 0 && !(s.t.st.ticks != 0 && s.t.st.lastTick == s.tc.up)

/-- While slice 9 is under test a tick samples, filters and declares, and grants nothing (R358, R366); in SIDELINE requests stay pending
with no answer (R337). -/
def grantTick (droop : Bool) (vsense phases : Nat) (s : State) : State :=
  if !tickDue s then s
  else
    let s1 := samplePhases phases (setDroop droop (modSt (fun t => { t with
      lastTick := s.tc.up, droopTicks := if droop then sat16 (t.droopTicks + 1) else t.droopTicks }) s))
    if sliceIsolated s 9 then sampleDrop vsense (losePhases s1)
    else
      let s2 := modSt (fun t => { t with eEff := effEnvelope (stEnvelope s) (lostCount t.lost) }) (losePhases (takeReleases s1))
      let s3 := takeLeaves s2
      let c := ceilingOf s3
      let rise := stRise s3
      let s4 := takeRequests s3
      let serving := !s4.tc.tk.sideline
      let s5 := if serving then refuseRequests c rise s4 else s4
      sampleDrop vsense (noteOver (grantStage c rise serving droop s5))

/-- R327. -/
def execGrantTick (droop : Bool) (vsense phases : Nat) (s : State) : Host.Outcome State Fault Refusal :=
  .next (grantTick droop vsense phases s)

/-- The droop input is asserted: every assertion raises DROOP. -/
def assertDroop (s : State) : State := raise .tsu 0x0B 0 (modSt (fun t => { t with droop := true }) s)

/-- R332. -/
def execDroop (s : State) : Host.Outcome State Fault Refusal := .next (if hasStock s then assertDroop s else s)

def bumpSuspect (s : State) : State :=
  if hasStock s && decide (bumpTicks s ≤ s.t.st.abnormal) && !s.t.st.bump then
    raise .tsu 0x0B 4 (modSt (fun t => { t with bump := true, stockDue := true }) s)
  else s

/-- R333. -/
def execBumpSuspect (s : State) : Host.Outcome State Fault Refusal := .next (bumpSuspect s)

/-- The STOCK summary, R336. -/
def stockFrame (s : State) : StockF :=
  let t := s.t.st
  { die := s.t.mem.die, kind := 0, envelope := t.eEff, granted := t.g, peak := t.peakStock, phases := lostCount t.lost,
    bump := t.bump, derated := t.derated, index := 0 }

def stockReport (s : State) : State :=
  let p := s.tc.tk.bc / 1048576 + 1
  let periodic := s.tc.tk.bc % 1048576 == 0 && s.t.st.reported != p
  if hasStock s && (periodic || s.t.st.stockDue) then
    sendUp (.stock (stockFrame s)) (modSt (fun t => { t with
      stockDue := false, peakStock := t.g, reported := if periodic then p else t.reported }) s)
  else s

/-- R336. -/
def execStockReportSend (s : State) : Host.Outcome State Fault Refusal := .next (stockReport s)

/-- The effect of ST_MON_CFG, R338. -/
def monWrite (v : Word) (s : State) : State :=
  let s1 := setReg .tsu 0xB120 (wd [(32, 0xFFFF), (0, 0xFFFFFF)]) v s
  if bit v 63 then modSt (fun t => { t with bump := false, abnormal := 0, stockDue := t.stockDue || t.bump }) s1 else s1

/-- R333. -/
def execClearBump (rq : Nat) (v : Word) (s : State) : Host.Outcome State Fault Refusal :=
  .next (admitWrite .tsu rq 0x0B 0x120 v (monWrite v) s)

/-- ST_COUNTS, R338. -/
def stCounts (s : State) : Word :=
  wd [(48, s.t.st.reqRefused), (32, s.t.st.leaveShort), (16, s.t.st.droopTicks), (0, s.t.st.peak)]

/-- The read clears the counts. -/
def clearStCounts (s : State) : State :=
  modSt (fun t => { t with reqRefused := 0, leaveShort := 0, droopTicks := 0, peak := 0 }) s

/-- R338. -/
def execStCountsRead (rq : Nat) (s : State) : Host.Outcome State Fault Refusal :=
  .next (admitRead .tsu rq 0x0B 0x130 stCounts clearStCounts s)

end Sys2Proof.Machine
end

