-- ==== Sys2Proof/Machine/Threads.lean ====
section
/-!
DEFINITION. What events do to the cue engine's threads: the binds of arm and kick, huddles and their ends, stored targets, and
what a slice under test held back (R197 to R201, R205, R209).
-/

namespace Sys2Proof.Machine

/-- The instruction completes: PC moves on. -/
def cueNext (th : Thread) (s : State) : State := modThr th (fun t => { t with pc := (t.pc + 1) % 4096 }) s

/-- A counted lateness of R214. -/
def leadLate (s : State) : State := raise .tsu 0x04 8 (modCue (fun e => { e with leadLate := sat16 (e.leadLate + 1) }) s)

/-- The lowest step that arm may bind, R197. -/
def bindable (s : State) : Option StepRec :=
  let lim := s.t.cue.withdrawn.getD 0
  s.t.steps.foldl (fun o r =>
    if (r.armed || r.launched) && !r.bound && decide (lim ≤ r.step) then
      (match o with | some q => if r.step < q.step then some r else o | none => some r) else o) none

def modRec (r : StepRec) (f : StepRec → StepRec) (s : State) : State :=
  modT (fun t => { t with steps := listModify (fun x => x.epoch == r.epoch && x.step == r.step && x.attempt == r.attempt) f t.steps }) s

/-- arm binds a step; one already LAUNCHED is late and stays out of the lead set. -/
def bindStep (pd : Nat) (r : StepRec) (s : State) : State :=
  let s1 := modRec r (fun x => { x with bound := true, inLead := x.armed }) s
  let s2 := setP pd (wd [(0, r.step)]) (modThr .lead (fun t => { t with cur := some ⟨r.epoch, r.step, r.attempt, r.k⟩, t := some r.k }) s1)
  if r.launched then leadLate s2 else s2

/-- A waiting arm binds as soon as it can. -/
def pokeArm (s : State) : State :=
  match s.t.cue.lead.wait, bindable s with
  | some (.arm pd), some r => if threadsHeld s then s else threadResume .lead (bindStep pd r s)
  | _, _ => s

/-- The launched step that kick has not returned, R198. -/
def unreturned (s : State) : Option StepRec := s.t.steps.find? (fun r => r.launched && !r.returned)

/-- kick returns a step. -/
def returnStep (pd : Nat) (r : StepRec) (s : State) : State :=
  let s1 := modRec r (fun x => { x with returned := true }) s
  setP pd (wd [(0, r.step)]) (modThr .run (fun t => { t with cur := some ⟨r.epoch, r.step, r.attempt, r.k⟩, t := some r.k }) s1)

/-- A waiting kick returns at the launch. -/
def pokeKick (s : State) : State :=
  match s.t.cue.run.wait, unreturned s with
  | some (.kick pd), some r => if threadsHeld s then s else threadResume .run (returnStep pd r s)
  | _, _ => s

/-! Huddles at the TSU, R236 and R244. -/

/-- Credits in use. -/
def creditsUsed (s : State) : Nat := s.t.hd.entered.countP (fun e => e.out.isNone)

/-- The entry of a huddle goes up; while slice 7 is under test it waits for its release (R361). -/
def sendHuddle (f : CensusUpF) (s : State) : State :=
  if sliceIsolated s 7 then modHd (fun h => { h with heldUp := h.heldUp ++ [f] }) s else sendEntry f s

/-- hent takes a credit and sends its entry. -/
def enterHuddle (slot : Nat) (fp : Word) (c : CurStep) (s : State) : State :=
  sendHuddle ⟨2, slot, c.step, c.attempt, 1, fp.toNat⟩
    (modHd (fun h => { h with entered := h.entered ++ [⟨slot, c.epoch, c.step, c.attempt, fp, none⟩] }) s)

/-- The huddle the thread entered in its current step, R201: a step is that of one epoch (R164). -/
def huddleOf (slot : Nat) (c : CurStep) (s : State) : Option Huddle :=
  s.t.hd.entered.find? (fun e => e.slot == slot && e.epoch == c.epoch && e.step == c.step && e.attempt == c.attempt)

/-- A hent that waits for a credit takes one that is free. -/
def pokeCredit (s : State) : State :=
  match s.t.cue.run.wait, s.t.cue.run.cur with
  | some (.credit slot fp), some c =>
    if creditsUsed s < 16 ∧ !threadsHeld s then
      threadResume .run (enterHuddle slot fp c (modHd (fun h => { h with creditWait := false }) s))
    else s
  | _, _ => s

/-- The huddles that a hawait waits for have ended, R201. -/
def pokeHawait (s : State) : State :=
  match s.t.cue.run.wait, s.t.cue.run.cur with
  | some (.hawait pd slot), some c =>
    if threadsHeld s then s
    else match (huddleOf slot c s).bind (·.out) with
    | some (1, n) => threadResume .run (setP pd (wd [(0, n)]) s)
    | some (2, _) => waitFault .run 9 s
    | _ => s
  | _, _ => s

/-! Stored targets, R39 and R200. -/

def targetReached (th : Thread) (s : State) : State :=
  match (getThr s.t.cue th).wait with
  | some (.beat t) => if reached s.tc.tk.bc t ∧ !threadsHeld s then threadResume th s else s
  | _ => s

/-! The release of the threads, R205. -/

/-- One event that was held; a wait that has ended otherwise takes no second end. -/
def applyHeld (s : State) (x : Thread × HeldEv) : State :=
  let waits := (getThr s.t.cue x.1).wait.isSome
  match x.2 with
  | .handler => goHandler x.1 s
  | .resume => if waits then threadResume x.1 s else s
  | .fault c => if waits then waitFault x.1 c s else s

/-- The events held for the threads are applied in the order in which they came, now that no slice is under test. -/
def releaseThreads (s : State) : State := s.t.cue.held.foldl applyHeld (modCue (fun e => { e with held := [] }) s)

/-- Waits whose end came while the threads were held, ended now. -/
def pokeThreads (s : State) : State :=
  targetReached .lead (targetReached .run (pokeCredit (pokeHawait (pokeKick (pokeArm s)))))

end Sys2Proof.Machine
end

