-- ==== Sys2Proof/Machine/BistBase.lean ====
section
/-!
DEFINITION. LBIST slices: requests, the window, outcomes (R205, R358 to R366); ageing and re-planning (R368 to R370); the
field fuse (R372). The register accesses that a slice held are replayed in ImagesTsu.lean, and the test port stands in
PageCmds.lean.
-/

namespace Sys2Proof.Machine

/-! Requests, R360. -/

/-- The first check that refuses a request, R360; none where it is accepted. -/
def bistRefusal (d : Dev) (slice : Nat) (compare : Bool) (s : State) : Option Nat :=
  if d = .dxd then some 4
  else if !gapIsOpen s then some 1
  else if !kickAtLeast s (guardBeats s + 2048) then some 2
  else if slice < 2 ∧ (s.core .tsu (1 - slice)).st ≠ 2 then some 3
  else if !slicePresent s.tc.fuse.kind slice then some 4
  else if slice = 2 ∧ s.tc.msets.any (fun x => x.2.st == 1 || x.2.st == 2) then some 5
  else if compare ∧ !s.tc.bt.goldenValid then some 6
  else if s.tc.bt.win.isSome then some 7
  else if slice = 4 ∧ (s.t.by_.sets.any (fun x => x.2.phase != 0) ∨ s.t.by_.bay.any (fun x => x.2.stopped)) then some 9
  else if inCellar .tsu s then some 0xA
  else none

/-- The step that BT_STATUS shows. -/
def bistStep (d : Dev) (s : State) : Nat :=
  match d with
  | .tsu => (s.t.cue.run.cur.map (·.step)).getD 0
  | .dxd => 0

/-! The generator and the compactor, R359. -/

/-- The next value of the 64-bit Fibonacci register with taps at 64, 63, 61 and 60 (log 107). -/
def lfsrNext (w : Word) : Word :=
  (w <<< 1) ||| wd [(0, b2n (bit w 63 != (bit w 62 != (bit w 60 != bit w 59))))]

/-- The seed of the PRPG for a slice. -/
def prpgSeed (slice : Nat) : Word := 0x9E3779B97F4A7C15 ^^^ BitVec.ofNat 64 slice

/-- The MISR after these shift cycles, each of which takes 64 chain outputs. -/
def misr (outs : List Word) : Word := outs.foldl (fun m o => lfsrNext m ^^^ o) 0

/-- P × L of R358: the shift cycles of a slice's test. -/
def sliceCycles (slice : Nat) : Nat :=
  match slice with
  | 0 => 96 * 7 | 1 => 96 * 7 | 2 => 96 * 12 | 3 => 80 * 15 | 4 => 112 * 10 | 5 => 96 * 13 | 6 => 96 * 12 | 7 => 128 * 9
  | 8 => 112 * 11 | 9 => 128 * 8 | 10 => 80 * 14 | 11 => 160 * 6
  | _ => 0

/-- The PRPG after `n` shift cycles; its 64 bits are what the chains take in at each. -/
def prpgAfter (n : Nat) (w : Word) : Word := (upTo n).foldl (fun w _ => lfsrNext w) w

/-- What the MISR takes in a slice's test: the chain outputs of its P × L shift cycles, X-masked as the image says (R359, R367). A
cycle that the command gives no outputs for has 0 (log 107). -/
def sliceOuts (masks : List Byte) (slice : Nat) (outs : List Word) : List Word :=
  (upTo (sliceCycles slice)).map (fun i => outs.getD i 0 &&& ~~~(Config.xMask masks slice i))

/-- A refused request, R360 and R374. OUTCOME of a DX-D goes on showing its reset LBIST (R367, R373). -/
def bistRefuse (d : Dev) (slice reason : Nat) (s : State) : State :=
  raise d 0x0D 0 (modBt d (fun b => { b with
    slice := slice, outcome := if d = .dxd then b.outcome else 3, reason := reason, step := bistStep d s, refusals := sat16 (b.refusals + 1) }) s)

/-- An accepted request opens its window at I. -/
def bistAccept (slice : Nat) (compare : Bool) (by_ : Option (Thread × Nat)) (s : State) : State :=
  let w : SliceWin :=
    { start := s.tc.up, slice := slice, compare := compare, by_ := by_, isolated := false, latched := false,
      restored := false, outcome := 0, reason := 0, credit := 0, isolatedAt := 0, prpg := prpgSeed slice }
  modBt .tsu (fun b => { b with slice := slice, step := bistStep .tsu s, win := some w }) s

/-- A register request. -/
def bistRequest (d : Dev) (slice : Nat) (compare : Bool) (s : State) : State :=
  match bistRefusal d slice compare s with
  | some r => bistRefuse d slice r s
  | none => bistAccept slice compare none s

/-- The effect of BT_RUN. -/
def btRunWrite (d : Dev) (v : Word) (s : State) : State :=
  let s1 := setReg d 0xD100 (wd [(62, 1), (0, 0xF)]) v s
  if bit v 63 then bistRequest d (fld v 0 4) (bit v 62) s1 else s1

/-- R360. -/
def execBtRunGo (d : Dev) (rq : Nat) (v : Word) (s : State) : Host.Outcome State Fault Refusal :=
  .next (admitWrite d rq 0x0D 0x100 v (btRunWrite d v) s)

/-! The window, R361 to R366. -/

def modWin (f : SliceWin → SliceWin) (s : State) : State :=
  modBt .tsu (fun b => { b with win := b.win.map f }) s

/-- Isolation at I + 16. A core under test shows BIST and its twin keeps (R362). -/
def bistIsolate (s : State) : State :=
  match s.tc.bt.win with
  | some w =>
    if w.isolated ∨ s.tc.up < w.start + 16 then s
    else
      let s1 := modWin (fun w => { w with isolated := true, credit := s.t.st.credit, isolatedAt := s.tc.up }) s
      if w.slice < 2 then
        tsuReselect (modCore .tsu w.slice (fun c => { c with st := 3, inBand := 0, outBand := 0, lockedAt := none }) s1)
      else s1
  | none => s

/-- R361. -/
def execBistIsolate (s : State) : Host.Outcome State Fault Refusal := .next (bistIsolate s)

/-- A MISMATCH is an own failure, shown until reset (R365). -/
def bistMismatch (s : State) : State :=
  ownFailure (raise .tsu 0x0D 1 (modBt .tsu (fun b => { b with mismatch := true, mismatches := sat16 (b.mismatches + 1) }) s))

/-- The signature of these chain outputs is latched at I + 1,616, the generator having run through every pattern, R359 and R364. -/
def bistLatch (outs : List Word) (s : State) : State :=
  match s.tc.bt.win with
  | some w =>
    if !w.isolated ∨ w.latched ∨ s.tc.up < w.start + 1616 then s
    else
      let sig := misr (sliceOuts s.tc.boot.xmasks w.slice outs)
      let o := if !w.compare then 4 else if sig = tabGet 0 s.tc.bt.golden w.slice then 1 else 2
      let s1 := modBt .tsu (fun b => { b with sig := tabSet 0 b.sig w.slice sig })
        (modWin (fun w => { w with latched := true, outcome := o, prpg := prpgAfter (sliceCycles w.slice) w.prpg }) s)
      if o = 2 then bistMismatch s1 else s1
  | none => s

/-- R361. -/
def execBistSignatureLatch (outs : List Word) (s : State) : Host.Outcome State Fault Refusal := .next (bistLatch outs s)

/-- The core under test is resynchronised and enters ACQUIRE; one that has mismatched, now or before, stays IDLE (R362, R365). -/
def restoreCore (c : Nat) (mismatch : Bool) (s : State) : State :=
  let st := if mismatch || (s.core .tsu c).off then 0 else if isSource .tsu c s && s.tc.tk.htValid then 1 else 0
  tsuReselect (modCore .tsu c (fun k => { k with st := st, inBand := 0, outBand := 0, lockedAt := none, off := k.off || mismatch }) s)

def bistRestore (s : State) : State :=
  match s.tc.bt.win with
  | some w =>
    if w.slice < 2 ∧ w.latched ∧ !w.restored ∧ w.start + 1800 ≤ s.tc.up then
      restoreCore w.slice (w.outcome == 2) (modWin (fun w => { w with restored := true }) s)
    else s
  | none => s

/-- R362. -/
def execBistCoreRestore (s : State) : Host.Outcome State Fault Refusal := .next (bistRestore s)

/-- The requesting thread resumes with its result, unless a withdrawal has given it its handler (R211). -/
def bistResume (by_ : Option (Thread × Nat)) (result : Nat) (s : State) : State :=
  match by_ with
  | none => s
  | some (th, _) =>
    match (getThr s.t.cue th).wait with
    | some (.bist pd) => threadResume th (setP pd (wd [(0, result)]) s)
    | _ => s

/-- The result of bist, R364. -/
def bistResult (outcome : Nat) : Nat := if outcome = 1 then 0 else if outcome = 2 then 1 else 2

/-- What was queued at the units of the slice is applied at release (R361, R366). -/
def releaseUnits (w : SliceWin) (s : State) : State :=
  let s1 := if w.slice = 9 then modSt (fun t => { t with credit := w.credit }) s else s
  let s2 := if w.slice = 4 then tryChanges s1 else s1
  let s3 := releaseReqs s2
  if w.slice = 6 then recheckAll s3 else s3

/-- The slice is released with its outcome recorded; register accesses held for it are still queued. -/
def releaseSlice (outcome reason : Nat) (s : State) : State :=
  match s.tc.bt.win with
  | none => s
  | some w =>
    let s1 := modBt .tsu (fun b => { b with
      win := none, outcome := outcome, reason := reason,
      passes := if outcome = 1 then sat16 (b.passes + 1) else b.passes,
      refusals := if outcome = 3 then sat16 (b.refusals + 1) else b.refusals }) s
    pokeThreads (bistResume w.by_ (bistResult outcome) (releaseThreads (releaseUnits w (raise .tsu 0x0D 0 s1))))

/-- A slice is ready for release. -/
def releaseDue (s : State) : Bool :=
  match s.tc.bt.win with
  | some w => w.latched && (w.restored || decide (2 ≤ w.slice)) && decide (w.start + 2000 ≤ s.tc.up)
  | none => false

/-- The outcome latched for the slice under test. -/
def winOutcome (s : State) : Nat := (s.tc.bt.win.map (·.outcome)).getD 0

/-- R363: before the latch the test ends REFUSED with TWIN_LOST; after it the restore is hastened. -/
def bistTwinLost (s : State) : State :=
  match s.tc.bt.win with
  | some w =>
    if 2 ≤ w.slice ∨ isSource .tsu (1 - w.slice) s ∨ !w.isolated then s
    else if !w.latched then
      restoreCore w.slice false (releaseSlice 3 8 (modWin (fun w => { w with restored := true }) s))
    else if !w.restored then
      restoreCore w.slice (w.outcome == 2) (modWin (fun w => { w with restored := true }) s)
    else s
  | none => s

/-- R363. -/
def execBistTwinLost (s : State) : Host.Outcome State Fault Refusal := .next (bistTwinLost s)

/-! Ageing, R368 and R370. -/

/-- BT_AGE_CTL fields. -/
def ageGain (s : State) (d : Dev) : Nat := s.regF d 0xD118 32 16
def agePeriod (s : State) (d : Dev) : Nat := s.regF d 0xD118 0 32

/-- A gate of 1,000,000 beats of HT opens unless one runs. While HT_VALID = 0 the free-running counter stands in (DESIGN CHOICE,
log 124). -/
def openGate (d : Dev) (s : State) : State :=
  modBt d (fun b => { b with gate := some (b.gate.getD (s.com d).beats) }) s

/-- The effect of BT_AGE_CTL. -/
def ageCtlWrite (d : Dev) (v : Word) (s : State) : State :=
  let s1 := setReg d 0xD118 (wd [(0, 0xFFFFFFFFFFFF)]) v s
  if bit v 63 then openGate d s1 else s1

/-- R368: a MEASURE during a gate is ignored. -/
def execAgeingMeasure (d : Dev) (rq : Nat) (v : Word) (s : State) : Host.Outcome State Fault Refusal :=
  .next (admitWrite d rq 0x0D 0x118 v (ageCtlWrite d v) s)

def gateStart (d : Dev) (s : State) : State :=
  let c := s.com d
  let p := agePeriod s d
  if c.tk.htValid ∧ p ≠ 0 ∧ c.tk.sec % p = 0 ∧ c.bt.lastPeriodic ≠ c.tk.sec + 1 then
    openGate d (modBt d (fun b => { b with lastPeriodic := c.tk.sec + 1 }) s)
  else s

/-- R368. -/
def execAgeingGateStart (d : Dev) (s : State) : Host.Outcome State Fault Refusal := .next (gateStart d s)

/-- d of one pair, in 10 ppm. -/
def pairAge (p : OscPair) : Int := (((p.ref : Int) - p.str) * 100000).tdiv p.ref

/-- The pair with the largest d, and that d; pairs with ref = 0 are left out. -/
def worstPair (l : List OscPair) : Option (Nat × Int) :=
  (List.zip (upTo 8) l).foldl (fun o x =>
    if x.2.ref = 0 then o
    else match o with
      | some q => if q.2 < pairAge x.2 then some (x.1, pairAge x.2) else o
      | none => some (x.1, pairAge x.2)) none

/-- The index, R368. -/
def ageIndex (d : Int) : Nat := min d.toNat 65535

/-- The ageing summary of a TSU. -/
def ageFrame (s : State) : StockF :=
  { die := s.t.mem.die, kind := 1, envelope := 0, granted := 0, peak := 0, phases := 0, bump := false, derated := false,
    index := s.tc.bt.index }

/-- BT_ROp keeps a pair's counts. -/
def keepPair (t : List (Nat × OscPair)) (x : Nat × OscPair) : List (Nat × OscPair) := tabSet ⟨0, 0⟩ t x.1 x.2

def gateEnd (d : Dev) (counts : List OscPair) (s : State) : State :=
  match (s.com d).bt.gate with
  | none => s
  | some g =>
    if (s.com d).beats < g + 1000000 then s
    else
      let sec := (s.com d).tk.sec % 2 ^ 32
      let s1 := modBt d (fun b =>
        let b1 := { b with gate := none, ageSec := sec,
                           ro := (List.zip (upTo 8) counts).foldl keepPair b.ro }
        match worstPair counts with
        | some (i, v) => { b1 with ageValid := true, worst := i, index := ageIndex v }
        | none => { b1 with ageValid := false }) s
      let s2 := raise d 0x0D 2 s1
      if d = .tsu then sendUp (.stock (ageFrame s2)) s2 else s2

/-- R368. -/
def execAgeingGateEnd (d : Dev) (counts : List OscPair) (s : State) : Host.Outcome State Fault Refusal :=
  .next (gateEnd d counts s)

/-- The derated frequency of a base point, and whether it was clamped (R370). -/
def replanFreq (index gain base : Nat) : Nat × Bool :=
  let derate := index * 10 * gain / 256
  let f := base * (1000000 - min derate 1000000) / 1000000
  if f < 800 then (800, true) else (f, false)

/-- The base latched at the first re-plan. -/
def latchBase (s : State) : State :=
  if s.tc.bt.baseValid then s
  else modBt .tsu (fun b => { b with
    baseValid := true,
    base := (upTo 256).foldl (fun t i => if bayExists s (i / 16) then tabSet 0 t i (ptWord s (i / 16) (i % 16)).toNat else t) [] }) s

/-- Bays go on at the frequency they run at until their next change (R370). -/
def keepFreqs (s : State) : State := (allBays s).foldl (fun s b => modBay b (fun y => { y with mhz := some (bayMhz s b) }) s) s

/-- One entry of the tables is re-planned. -/
def replanEntry (i : Nat) (s : State) : State :=
  let w : Word := BitVec.ofNat 64 (tabGet 0 s.tc.bt.base i)
  if bayExists s (i / 16) && bit w 63 then
    let f := replanFreq s.tc.bt.index (ageGain s .tsu) (fld w 0 12)
    let s1 := setReg .tsu (ptAddr (i / 16) (i % 16)) (BitVec.allOnes 64) ((w &&& ~~~(wd [(0, 0xFFF)])) ||| wd [(0, f.1)]) s
    if f.2 then raise .tsu 0x0D 5 s1 else s1
  else s

/-- The effect of BT_REPLAN, R370. -/
def replanWrite (d : Dev) (v : Word) (s : State) : State :=
  if d = .dxd ∨ !bit v 63 then s
  else if !noEpoch s ∨ !s.t.steps.isEmpty then
    raise .tsu 0x0D 4 (modBt .tsu (fun b => { b with replan := 2 }) s)
  else
    let s1 := if s.tc.fuse.kind = .w then s else (upTo 256).foldl (fun s i => replanEntry i s) (keepFreqs (latchBase s))
    raise .tsu 0x0D 4 (modBt .tsu (fun b => { b with replan := 1 }) s1)

/-- R370. -/
def execBtReplanGo (d : Dev) (rq : Nat) (v : Word) (s : State) : Host.Outcome State Fault Refusal :=
  .next (admitWrite d rq 0x0D 0x128 v (replanWrite d v) s)

/-! The field fuse. -/

def modTa (d : Dev) (f : TestAccess → TestAccess) (s : State) : State := modCom d (fun c => { c with ta := f c.ta }) s

/-- CLOSE_ARMED clears and CLOSE_ABORTED is raised. -/
def closeAbort (d : Dev) (s : State) : State := raise d 0x0F 0 (modTa d (fun t => { t with armed := none }) s)

/-- The effect of FU_ACCESS, R372 and R424. A GO with vpp_fuse too low is not attempted and raises CLOSE_ABORTED, once closed and in
mid-blow too, where any other write has no effect. -/
def fuAccessWrite (d : Dev) (v : Word) (s : State) : State :=
  let c := s.com d
  let code := fld v 8 8
  if c.fuse.fieldClosed ∨ c.ta.blowing.isSome then (if bit v 1 && !c.ta.vpp then closeAbort d s else s)
  else match c.ta.armed with
  | some t =>
    if bit v 1 && !bit v 0 && code == 0x5E && decide (c.up ≤ t + 1000) && c.ta.vpp then
      modTa d (fun a => { a with armed := none, blowing := some c.up }) s
    else closeAbort d s
  | none =>
    if bit v 0 && !bit v 1 && code == 0xC1 then modTa d (fun a => { a with armed := some c.up }) s
    else if bit v 0 || bit v 1 then closeAbort d s
    else s

/-- R372. -/
def execFuAccessArm (d : Dev) (rq : Nat) (v : Word) (s : State) : Host.Outcome State Fault Refusal :=
  .next (admitWrite d rq 0x0F 0x110 v (fuAccessWrite d v) s)

/-- R372 and R424: the supply as it stands when GO is written. -/
def execFuAccessGo (d : Dev) (rq : Nat) (v : Word) (vppOk : Bool) (s : State) : Host.Outcome State Fault Refusal :=
  .next (admitWrite d rq 0x0F 0x110 v (fuAccessWrite d v) (modTa d (fun t => { t with vpp := vppOk }) s))

/-- The blow has ended; the fuse-bank logic of a TSU does so once slice 11 is released (R361). -/
def fuseBlown (d : Dev) (s : State) : State :=
  if (s.com d).ta.blowing.isSome && !(d == .tsu && sliceIsolated s 11) then
    raise d 0x0F 1 (modTa d (fun t => { t with blowing := none, overrideOn := false, ovr := [], ins := if 2 ≤ t.ins then 0 else t.ins })
      (modCom d (fun c => { c with fuse := { c.fuse with fieldClosed := true } }) s))
  else s

/-- R372. -/
def execFieldFuseBlown (d : Dev) (s : State) : Host.Outcome State Fault Refusal := .next (fuseBlown d s)

/-! Read-to-clear registers of the BT page. -/

/-- BT_COUNTS, R373. -/
def btCounts (d : Dev) (s : State) : Word :=
  let b := (s.com d).bt
  wd [(48, b.passes), (32, b.mismatches), (16, b.refusals)]

def clearBtCounts (d : Dev) (s : State) : State :=
  modBt d (fun b => { b with passes := 0, mismatches := 0, refusals := 0 }) s

/-- R373. -/
def execBtCountsRead (d : Dev) (rq : Nat) (s : State) : Host.Outcome State Fault Refusal :=
  .next (admitRead d rq 0x0D 0x110 (btCounts d) (clearBtCounts d) s)

/-- BT_CANARYb, R373: 0 on a DX-D and for a bay the variant lacks. -/
def btCanary (d : Dev) (b : Nat) (s : State) : Word :=
  if d = .dxd ∨ !bayExists s b then 0
  else wd [(16, tabGet 255 s.tc.bt.low b), (0, tabGet 0 s.tc.bt.margin b)]

def clearCanary (d : Dev) (b : Nat) (s : State) : State :=
  modBt d (fun t => { t with low := tabSet 255 t.low b 255 }) s

/-- R373. -/
def execBtCanaryRead (d : Dev) (rq : Nat) (b : Nat) (s : State) : Host.Outcome State Fault Refusal :=
  .next (if b < 16 then admitRead d rq 0x0D (0x280 + 8 * b) (btCanary d b) (clearCanary d b) s else s)

end Sys2Proof.Machine
end

