-- ==== Sys2Proof/Machine/Interrupts.lean ====
section
/-!
DEFINITION. The interrupt controller, chapter 14: sources, coalescing, claims and completions, sleep (R340 to R357).
-/

namespace Sys2Proof.Machine

def State.icSrc (s : State) (d : Dev) (n : Nat) : IcSrc := tabGet {} (s.com d).ic.src n

/-- COUNT of a source: 0 is taken as 1 (R347). -/
def IcSrc.limit (i : IcSrc) : Nat := orOne i.count

/-- A source with `rc` raises counted: PENDING at COUNT. -/
def IcSrc.gather (i : IcSrc) (rc : Nat) : IcSrc :=
  { i with st := if i.limit ≤ rc then 2 else 1, rc := rc, raised := 0, edge := false }

/-- IDLE again: counts and the stamp are discarded (R346). -/
def IcSrc.idle (i : IcSrc) : IcSrc := { i with st := 0, rc := 0, raised := 0, edge := false, stamp := {} }

/-- The stamp of a capture now. -/
def icStamp (d : Dev) (s : State) : Stamp := stampNow (s.com d).tk (s.com d).up

/-- Change one source and bring the outputs up to date (R341). -/
def modIcSrc (d : Dev) (n : Nat) (f : IcSrc → IcSrc) (s : State) : State :=
  icDo d (fun c => { c with src := tabMod {} c.src n f }) s

/-- An asserted source, R346: GATHER with raise count 1, or more where it was raised again before it was taken. -/
def assertSrc (st : Stamp) (up : Nat) (i : IcSrc) : IcSrc :=
  { i with from_ := up, stamp := st }.gather (max 1 i.raised)

/-- What the controller takes from a source's raises and rising edges, R346. -/
def takeRaise (st : Stamp) (up : Nat) (level : Bool) (i : IcSrc) : IcSrc :=
  match i.st with
  | 0 => if i.enable && level then assertSrc st up i else { i with raised := 0, edge := false }
  | 1 => i.gather (i.rc + i.raised)
  | 3 => if i.edge then { i with st := 4, stamp := st, raised := 0, edge := false } else { i with raised := 0 }
  | _ => { i with raised := 0, edge := false }

def sourceRaise (d : Dev) (n : Nat) (s : State) : State :=
  if !srcPresent d s n || (s.com d).ic.asleep then s
  else modIcSrc d n (takeRaise (icStamp d s) (s.com d).beats (srcLevel d s n)) s

/-- R346. -/
def execIcSourceRaise (d : Dev) (n : Nat) (s : State) : Host.Outcome State Fault Refusal := .next (sourceRaise d n s)

/-- A low level withdraws a source in GATHER or PENDING. -/
def IcSrc.fall (level : Bool) (i : IcSrc) : IcSrc := if !level && (i.st == 1 || i.st == 2) then i.idle else i

def sourceFall (d : Dev) (n : Nat) (s : State) : State :=
  if (s.com d).ic.asleep then s else modIcSrc d n (IcSrc.fall (srcLevel d s n)) s

/-- R346. -/
def execIcSourceFall (d : Dev) (n : Nat) (s : State) : Host.Outcome State Fault Refusal := .next (sourceFall d n s)

/-- TIME beats have been counted since GATHER: of presented HT, or of the free-running counter while HT_VALID = 0 (R347). -/
def coalesceTimeout (d : Dev) (n : Nat) (s : State) : State :=
  let i := s.icSrc d n
  if !(s.com d).ic.asleep ∧ i.st = 1 ∧ i.time ≠ 0 ∧ i.from_ + i.time ≤ (s.com d).beats then modIcSrc d n (fun i => { i with st := 2 }) s else s

/-- R347. -/
def execIcCoalesceTimeout (d : Dev) (n : Nat) (s : State) : Host.Outcome State Fault Refusal :=
  .next (coalesceTimeout d n s)

/-! Claim and completion, R349 and R350. -/

/-- The source that a claim through target t takes; a level that has fallen is taken first (R355). -/
def claimable (d : Dev) (t : Nat) (s : State) : Option Nat :=
  let c := (s.com d).ic
  if c.deliver && tabGet false c.tEnable t then
    (c.src.find? (fun x => x.2.st == 2 && x.2.target == t && srcLevel d s x.1)).map (·.1)
  else none

/-- IC_Tt_CLAIM as a read now returns it. -/
def claimWord (d : Dev) (t : Nat) (s : State) : Word :=
  match claimable d t s with
  | some n => wd [(63, 1), (0, n)]
  | none => 0

/-- The levels that have fallen are taken, then the claim. -/
def claimEffect (d : Dev) (t : Nat) (s : State) : State :=
  let s1 := icDo d (fun c => { c with src := c.src.foldl (fun l x => tabSet {} l x.1 (x.2.fall (srcLevel d s x.1))) [] }) s
  match claimable d t s with
  | some n =>
    let st := (s.icSrc d n).stamp
    icDo d (fun c => { c with
      src := tabMod {} c.src n (fun i => { i with st := 3, by_ := t, rc := 0, raised := 0 }),
      tStamp := tabSet none c.tStamp t (some (n, st)) }) s1
  | none => s1

def icClaim (d : Dev) (rq t : Nat) (s : State) : State :=
  if t < 8 then admitRead d rq 0x0C (0x208 + 0x40 * t) (claimWord d t) (claimEffect d t) s else s

/-- R349. -/
def execIcClaim (d : Dev) (rq t : Nat) (s : State) : Host.Outcome State Fault Refusal := .next (icClaim d rq t s)

/-- A completion that is taken: a rising edge, which takes its stamp, or a fall of the level comes first (R346, R355). -/
def IcSrc.complete (st : Stamp) (level : Bool) (i : IcSrc) : IcSrc :=
  if !i.enable then i.idle
  else if i.st = 4 ∨ i.edge ∨ level then
    { i with st := 2, stamp := if i.st = 3 && i.edge then st else i.stamp, raised := 0, edge := false }
  else i.idle

/-- The effect of a write of IC_Tt_COMPLETE. -/
def completeWrite (d : Dev) (t : Nat) (v : Word) (s : State) : State :=
  let n := fld v 0 8
  let i := s.icSrc d n
  if srcPresent d s n && (i.st == 3 || i.st == 4) && i.by_ == t then modIcSrc d n (IcSrc.complete (icStamp d s) (srcLevel d s n)) s
  else raise d 0x0C 0 (modIc d (fun c => { c with stray := sat32 (c.stray + 1) }) s)

def icComplete (d : Dev) (rq t : Nat) (v : Word) (s : State) : State :=
  if t < 8 then admitWrite d rq 0x0C (0x210 + 0x40 * t) v (completeWrite d t v) s else s

/-- R350. -/
def execIcComplete (d : Dev) (rq t : Nat) (v : Word) (s : State) : Host.Outcome State Fault Refusal :=
  .next (icComplete d rq t v s)

/-! Configuration, R351 and R352. -/

def watchedCount (c : Ic) : Nat := c.src.countP (fun x => x.2.watch)

/-- A source after its ENABLE, COUNT and TIME have been written. -/
def reconfigured (st : Stamp) (up : Nat) (level : Bool) (i : IcSrc) : IcSrc :=
  if !i.enable then (if i.st = 1 ∨ i.st = 2 then i.idle else { i with raised := 0 })
  else if i.st = 0 ∧ level then assertSrc st up i
  else if i.st = 1 then i.gather (i.rc + i.raised)
  else i

/-- The effect of a write of IC_Sn_CFG. -/
def srcCfgWrite (d : Dev) (n : Nat) (v : Word) (s : State) : State :=
  if !srcPresent d s n then s
  else
    let i := s.icSrc d n
    let free := !i.enable && i.st == 0
    let full := bit v 54 && !i.watch && decide (32 ≤ watchedCount (s.com d).ic)
    let j := { i with
      target := if free then fld v 56 3 else i.target, enable := bit v 55, watch := bit v 54 && !full,
      count := fld v 24 16, time := fld v 0 24 }
    let s1 := modIcSrc d n (fun _ =>
      if (s.com d).ic.asleep then j else reconfigured (icStamp d s) (s.com d).beats (srcLevel d s n) j) s
    let s2 := raiseIf (!free) d 0x0C 1 s1
    raiseIf full d 0x0C 2 s2

def icSourceCfg (d : Dev) (rq n : Nat) (v : Word) (s : State) : State :=
  if n < 256 then admitWrite d rq 0x0C (0x800 + 8 * n) v (srcCfgWrite d n v) s else s

/-- R351. -/
def execIcSourceCfgWrite (d : Dev) (rq n : Nat) (v : Word) (s : State) : Host.Outcome State Fault Refusal :=
  .next (icSourceCfg d rq n v s)

/-- The effect of a write of IC_Tt_CTL: a target whose core is not fitted stays disabled (R340). -/
def targetCtlWrite (d : Dev) (t : Nat) (v : Word) (s : State) : State :=
  icDo d (fun c => { c with tEnable := tabSet false c.tEnable t (bit v 0 && c.fitted.testBit t) }) s

/-- SLEEP is written 1, R353. A watched rise that the controller has not yet taken is left to the watcher (R355). -/
def sleepWrite (d : Dev) (s : State) : State :=
  let c := (s.com d).ic
  if c.asleep then s
  else if c.src.any (fun x => x.2.st == 2 || x.2.st == 3 || x.2.st == 4) then raise d 0x0C 3 s
  else modIc d (fun c => { c with
    asleep := true, wake := false, recorded := [],
    src := c.src.foldl (fun l x => tabSet {} l x.1 { x.2 with raised := 0, edge := x.2.edge && x.2.watch }) [] }) s

/-- The effect of a write of IC_CTL. -/
def icCtlWrite (d : Dev) (v : Word) (s : State) : State :=
  let s1 := icDo d (fun c => { c with deliver := bit v 0 }) s
  if bit v 1 then sleepWrite d s1 else s1

/-- R352. -/
def execIcDeliverWrite (d : Dev) (rq : Nat) (v : Word) (s : State) : Host.Outcome State Fault Refusal :=
  .next (admitWrite d rq 0x0C 0x100 v (icCtlWrite d v) s)

/-- R353. -/
def execIcSleep (d : Dev) (rq : Nat) (v : Word) (s : State) : Host.Outcome State Fault Refusal :=
  .next (admitWrite d rq 0x0C 0x100 v (icCtlWrite d v) s)

def watchedRise (d : Dev) (n : Nat) (timingOn : Bool) (s : State) : State :=
  let i := s.icSrc d n
  if (s.com d).ic.asleep && i.watch && i.edge then
    let st := if timingOn then some (icStamp d s) else none
    modIc d (fun c => { c with
      wake := true, recorded := (c.recorded.filter (fun x => x.1 != n)) ++ [(n, st)],
      src := tabMod {} c.src n (fun i => { i with edge := false, raised := 0 }) }) s
  else s

/-- R353. -/
def execIcWatchedRise (d : Dev) (n : Nat) (timingOn : Bool) (s : State) : Host.Outcome State Fault Refusal :=
  .next (watchedRise d n timingOn s)

/-- The stamp of a source that the wake finds asserted. -/
def wakeStamp (c : Ic) (now : Stamp) (n : Nat) : Stamp :=
  match c.recorded.find? (fun x => x.1 == n) with
  | some (_, some st) => st
  | _ => { now with atWake := true }

def icWake (d : Dev) (s : State) : State :=
  let c := (s.com d).ic
  if !c.asleep then s
  else
    let now := icStamp d s
    let up := (s.com d).beats
    let one (n : Nat) (i : IcSrc) : IcSrc :=
      if i.enable && srcLevel d s n then assertSrc (wakeStamp c now n) up { i.idle with raised := 0 } else i.idle
    raise d 0x0C 4 (icDo d (fun c => { c with
      asleep := false, wake := false, recorded := [], src := c.src.foldl (fun l x => tabSet {} l x.1 (one x.1 x.2)) [] }) s)

/-- R353. -/
def execIcWake (d : Dev) (s : State) : Host.Outcome State Fault Refusal := .next (icWake d s)

/-- The effect of a write of IC_LOCAL: W1C, nothing on a DX-D. -/
def icLocalWrite (d : Dev) (v : Word) (s : State) : State :=
  match d with
  | .tsu => modIc .tsu (fun c => { c with local_ := c.local_ &&& ~~~v }) s
  | .dxd => s

/-- R344. -/
def execIcLocalWrite (rq : Nat) (v : Word) (s : State) : Host.Outcome State Fault Refusal :=
  .next (admitWrite .tsu rq 0x0C 0x118 v (icLocalWrite .tsu v) s)

def clearStray (d : Dev) (s : State) : State := modIc d (fun c => { c with stray := 0 }) s

/-- R356. -/
def execIcStrayRead (d : Dev) (rq : Nat) (s : State) : Host.Outcome State Fault Refusal :=
  .next (admitRead d rq 0x0C 0x110 (fun s => wd [(0, (s.com d).ic.stray)]) (clearStray d) s)

end Sys2Proof.Machine
end

