-- ==== Sys2Proof/Machine/KeyPort.lean ====
section
/-!
DEFINITION. The key port and the KP page (R253 to R255, R263 to R268).
-/

namespace Sys2Proof.Machine

/-- Units that work, by fuses: set FU_MAP bits (R255, R375); 0 on TSU-E and TSU-W. -/
def fuseWorking (s : State) : Nat :=
  let f := s.tc.fuse
  let bits (k n : Nat) : Nat :=
    let w := tabGet Fuses.mapDflt f.map k
    (upTo n).countP (fun i => bit w i)
  match f.kind with
  | .c => (upTo 16).foldl (fun n k => n + bits k 64) 0
  | .m => bits 0 64
  | _ => 0

/-- Units a class keeps on a compute and on a memory-side die, R253; none for a reserved class. -/
def classUnits (cls : Nat) : Option (Nat × Nat) :=
  match cls with
  | 0x0700 => some (1024, 64)
  | 0x0701 => some (1008, 64)
  | 0x0702 => some (992, 62)
  | 0x0703 => some (960, 60)
  | _ => none

/-- KEPT and FITS for a map class, R254 and R267; a dark compute region fits none. -/
def classFit (s : State) (cls : Nat) : Nat × Bool :=
  let need : Option Nat := match s.tc.fuse.kind with
    | .c => (classUnits cls).map (·.1)
    | .m => (classUnits cls).map (·.2)
    | _ => some 0
  match need with
  | some n => if n ≤ fuseWorking s ∧ !s.t.st.dark then (n, true) else (0, false)
  | none => (0, false)

/-- KP_JOB, R267. -/
def kpJobWord (k : KeyPort) : Word :=
  wd [(63, b2n k.jobValid), (32, k.mapClass), (16, k.ws), (0, k.engines)]

/-- The answer to a request code, R263. -/
def kpAnswer (code : Nat) (s : State) : KpRsp :=
  let k := s.t.kp
  let tag := k.curStep % 65536
  let seed := k.seed.toNat
  match code with
  | 0 => ⟨k.jobValid, wd [(0, seed / 2 ^ 64)], tag⟩
  | 1 => ⟨k.jobValid, wd [(0, seed % 2 ^ 64)], tag⟩
  | 2 => ⟨k.curValid, wd [(0, k.curStep)], tag⟩
  | 3 => ⟨k.curValid, wd [(16, k.curStep)], tag⟩
  | 4 => ⟨k.jobValid, wd [(0, k.seedIndex)], tag⟩
  | 5 => ⟨k.jobValid, wd [(0, s.t.mem.die)], tag⟩
  | 6 => ⟨k.jobValid, kpJobWord k, tag⟩
  | 7 => ⟨k.jobValid, wd [(0, k.kept)], tag⟩
  | _ => ⟨false, 0, tag⟩

/-- A request waits: over a kickoff whose beat has come (R264), a load (R266) or slice 8 (R361). -/
def kpWaits (s : State) : Bool :=
  s.t.kp.loading || sliceIsolated s 8 ||
    s.t.steps.any (fun r => r.armed && r.decision == some .fire && decide (r.k ≤ s.tc.tk.bc))

/-- Answer a request on a core's channel; a reserved code counts (R263). -/
def kpRespond (ch code : Nat) (s : State) : State :=
  let a := kpAnswer code s
  let s1 := modKp (fun k => { k with rsp := tabSet none k.rsp ch (some a) }) s
  if 8 ≤ code then raise .tsu 0x08 2 (modKp (fun k => { k with bad := sat16 (k.bad + 1) }) s1) else s1

/-- A request arrives. -/
def kpRequest (ch code : Nat) (s : State) : State :=
  if !tsuUnits s then s
  else if kpWaits s then modKp (fun k => { k with waiting := k.waiting ++ [(ch, code)] }) s
  else kpRespond ch code s

/-- R263 code 0x0. -/
def execKeySeedHi (ch : Nat) (s : State) : Host.Outcome State Fault Refusal := .next (kpRequest ch 0 s)

/-- R263 code 0x1. -/
def execKeySeedLo (ch : Nat) (s : State) : Host.Outcome State Fault Refusal := .next (kpRequest ch 1 s)

/-- R263 code 0x2. -/
def execKeyStep (ch : Nat) (s : State) : Host.Outcome State Fault Refusal := .next (kpRequest ch 2 s)

/-- R263 code 0x3. -/
def execKeyCtrBase (ch : Nat) (s : State) : Host.Outcome State Fault Refusal := .next (kpRequest ch 3 s)

/-- R263 code 0x4. -/
def execKeySeedIndex (ch : Nat) (s : State) : Host.Outcome State Fault Refusal := .next (kpRequest ch 4 s)

/-- R263 code 0x5. -/
def execKeyDie (ch : Nat) (s : State) : Host.Outcome State Fault Refusal := .next (kpRequest ch 5 s)

/-- R263 code 0x6. -/
def execKeyJob (ch : Nat) (s : State) : Host.Outcome State Fault Refusal := .next (kpRequest ch 6 s)

/-- R263 code 0x7. -/
def execKeyKept (ch : Nat) (s : State) : Host.Outcome State Fault Refusal := .next (kpRequest ch 7 s)

/-- R263: codes 0x8 to 0xF are reserved. -/
def execKeyReservedRequest (ch code : Nat) (s : State) : Host.Outcome State Fault Refusal :=
  .next (if 8 ≤ code ∧ code < 16 then kpRequest ch code s else s)

/-- The requests that waited are answered in order of arrival. -/
def kpDeferred (s : State) : State :=
  if kpWaits s then s
  else s.t.kp.waiting.foldl (fun s r => kpRespond r.1 r.2 s) (modKp (fun k => { k with waiting := [] }) s)

/-- R264 and R266. -/
def execKeyPortDeferredAnswer (s : State) : Host.Outcome State Fault Refusal := .next (kpDeferred s)

/-- The effect of a write of KP_CLASS: APPLIED is W1S. -/
def kpClassWrite (v : Word) (s : State) : State :=
  if bit v 62 then modKp (fun k => { k with applied := true }) s else s

/-- R255. -/
def execKpAppliedWrite (rq : Nat) (v : Word) (s : State) : Host.Outcome State Fault Refusal :=
  .next (admitWrite .tsu rq 0x08 0x118 v (kpClassWrite v) s)

/-- KP_ERRORS, R267. -/
def kpErrors (s : State) : Word := wd [(0, s.t.kp.bad)]

/-- The read clears BAD_REQUEST. -/
def clearKpErrors (s : State) : State := modKp (fun k => { k with bad := 0 }) s

/-- R267. -/
def execKpErrorsRead (rq : Nat) (s : State) : Host.Outcome State Fault Refusal :=
  .next (admitRead .tsu rq 0x08 0x130 kpErrors clearKpErrors s)

end Sys2Proof.Machine
end

