-- ==== Sys2Proof/Machine/Posts.lean ====
section
/-!
DEFINITION. The meanings of the signal-cell window, completion posts, remote posts and the context switch (R216 to R232).
-/

namespace Sys2Proof.Machine

/-- A command for a cell of the window. -/
def cellCommand (c : Nat) (ok : Bool) (q : CellReq) (s : State) : State :=
  if c < 65536 then windowDo (if ok then q else .bad) s else s

/-- R219 post n. -/
def execCellPost (rq c n : Nat) (s : State) : Host.Outcome State Fault Refusal :=
  .next (cellCommand c (decide (1 ≤ n ∧ n < 2 ^ 31)) (.post rq c n) s)

/-- R219 post-targeted r. -/
def execCellPostt (rq c r : Nat) (s : State) : Host.Outcome State Fault Refusal :=
  .next (cellCommand c (decide (r < 16)) (.postt rq c r) s)

/-- R219 add d. -/
def execCellAdd (rq c : Nat) (dlt : Int) (s : State) : Host.Outcome State Fault Refusal :=
  .next (cellCommand c (countOk dlt) (.add rq c dlt) s)

/-- R219 wait r, need. -/
def execCellWait (rq c r need : Nat) (s : State) : Host.Outcome State Fault Refusal :=
  .next (cellCommand c (decide (r < 16 ∧ 1 ≤ need ∧ need < 65536)) (.wait rq c r need) s)

/-- R219 reset. -/
def execCellReset (rq c : Nat) (s : State) : Host.Outcome State Fault Refusal :=
  .next (cellCommand c true (.reset rq c) s)

/-- R216 TEST. -/
def execCellTest (rq c : Nat) (s : State) : Host.Outcome State Fault Refusal :=
  .next (cellCommand c true (.test rq c) s)

/-- A command word of R218 that is taken: its OP, no reserved bit, VALUE in range. -/
def commandOk (v : Word) : Bool :=
  let op := fld v 60 4
  let rank := fld v 56 4
  let val := fld v 0 32
  fld v 32 24 == 0 && (match op with
    | 1 => rank == 0 && decide (1 ≤ val ∧ val < 2 ^ 31)
    | 2 => val == 0
    | 3 => rank == 0
    | 4 => decide (1 ≤ val ∧ val < 65536)
    | 5 => rank == 0 && val == 0
    | _ => false)

/-- A window access that is no command of R218: GRANTED at +0x8 (writes there are ignored), or one that R217 or R218
counts as bad (a dropped read returns 0). -/
def windowOther (rq off bytes : Nat) (wr : Bool) (v : Word) (s : State) : State :=
  if 2 ^ 20 ≤ off then s
  else if bytes ≠ 8 ∨ off % 8 ≠ 0 then
    windowDo (if wr then .bad else .badRead rq) s
  else if off % 16 = 8 then (if wr then s else windowDo (.granted rq (off / 16)) s)
  else if wr && !commandOk v then windowDo .bad s
  else s

/-- R217 and R218. -/
def execCellBadCommand (rq off bytes : Nat) (wr : Bool) (v : Word) (s : State) : Host.Outcome State Fault Refusal :=
  .next (windowOther rq off bytes wr v s)

def dmaPost (c n : Nat) (targeted : Bool) (r : Nat) (streamEn : Bool) (st : Nat) (s : State) : State :=
  if !tsuUnits s || decide (65536 ≤ c) || (targeted && decide (16 ≤ r)) || (!targeted && decide (n = 0)) then s
  else if streamEn then
    if 512 ≤ st ∨ (!targeted ∧ 65536 ≤ n) then s
    else if sliceIsolated s 6 then queueReq (.remote st c n targeted r) s else remotePost st c n targeted r s
  else
    let q : CellReq := if targeted then .postt 0 c r else .post 0 c n
    if sliceIsolated s 5 then queueReq q s else applyReq q s

/-- R223: a completion post, local or to its stream's destination. -/
def execDmaCompletionPost (c n : Nat) (targeted : Bool) (r : Nat) (streamEn : Bool) (st : Nat) (s : State) :
    Host.Outcome State Fault Refusal := .next (dmaPost c n targeted r streamEn st s)

/-- The effect of SG_RPOST; N = 0 untargeted is counted in BAD_ACCESS and raises nothing (R243). -/
def rpostWrite (v : Word) (s : State) : State :=
  let targeted := bit v 63
  let n := fld v 32 16
  if n = 0 ∧ !targeted then modSg (fun g => { g with badAccess := sat16 (g.badAccess + 1) }) s else remotePost (fld v 50 9) (fld v 0 16) n targeted (fld v 59 4) s

/-- R226. -/
def execSgRpost (rq : Nat) (v : Word) (s : State) : Host.Outcome State Fault Refusal :=
  .next (admitWrite .tsu rq 0x06 0x120 v (rpostWrite v) s)

def remoteReceive (l : List Byte) (s : State) : State :=
  if !tsuUnits s then s
  else
    let h : HeldPost := ⟨readPost l, s.tc.up, postCrcOk l⟩
    if portClosed s ∨ !s.t.sg.port.isEmpty then modSg (fun g => { g with port := g.port ++ [h] }) s else takePost h s

/-- R227. -/
def execRemotePostReceive (record : List Byte) (s : State) : Host.Outcome State Fault Refusal :=
  .next (remoteReceive record s)

def departReport (st : Nat) (s : State) : State :=
  if !tsuUnits s || decide (512 ≤ st) then s else if sliceIsolated s 6 then queueReq (.depart st) s else streamDepart st s

/-- R224. -/
def execDepartReport (st : Nat) (s : State) : Host.Outcome State Fault Refusal := .next (departReport st s)

def arrivalReport (st tag : Nat) (s : State) : State :=
  if !tsuUnits s || decide (512 ≤ st) then s
  else if sliceIsolated s 6 then queueReq (.arrive st tag) s
  else streamArrive st tag s

/-- R224 and R228. -/
def execArrivalReport (st tag : Nat) (s : State) : Host.Outcome State Fault Refusal := .next (arrivalReport st tag s)

/-- A post has been held in the bullpen for 100,000 beats. -/
def orphanDue (s : State) : Bool :=
  s.t.sg.bullpen.any (fun h => match heldFor s h with
    | some n => decide (100000 ≤ n)
    | none => false)

def orphanPost (s : State) : State := if orphanDue s then ownFailure (raise .tsu 0x06 4 s) else s

/-- R229. -/
def execOrphanPost (s : State) : Host.Outcome State Fault Refusal := .next (orphanPost s)

/-- Any cell holds a waiter. -/
def anyWaiter (s : State) : Bool := s.t.sg.cells.any (fun x => !x.2.waiters.isEmpty)

/-- The effect of SG_CTX, R232. A SWITCH while one runs is ignored. -/
def ctxWrite (v : Word) (s : State) : State :=
  let s1 := setReg .tsu 0x6100 3 v s
  if !bit v 63 ∨ s.t.sg.ctxBusy then s1
  else if s.t.cue.run.alive || s.t.cue.lead.alive || anyWaiter s || !s.t.sg.bullpen.isEmpty then
    modSg (fun g => { g with ctxResult := 3 }) s1
  else modSg (fun g => { g with ctxBusy := true, ctxSave := bit v 0, ctxLoad := bit v 1 }) s1

/-- R232. -/
def execSgCtxSwitch (rq : Nat) (v : Word) (s : State) : Host.Outcome State Fault Refusal :=
  .next (admitWrite .tsu rq 0x06 0x100 v (ctxWrite v) s)

/-- Every cell with COUNT 0 and no held counts. -/
def clearCells (s : State) : State :=
  modSg (fun g => { g with cells := g.cells.foldl (fun t x => tabSet {} t x.1 { x.2 with count := 0, held := [] }) [] }) s

/-- The 16 bytes of a cell in a context image, R232: COUNT, held[0] to held[15] with the even rank in the upper half of its byte
(DESIGN CHOICE, log 104), and four zero bytes. -/
def cellBytes (x : Cell) : List Byte :=
  bytesBE 4 (ux 32 x.count) ++
    (upTo 8).map (fun i => BitVec.ofNat 8 (tabGet 0 x.held (2 * i) % 16 * 16 + tabGet 0 x.held (2 * i + 1) % 16)) ++ bytesBE 4 0

/-- What a SAVE writes: every cell in cell order, from SG_CTX_SAVE on. -/
def ctxImage (s : State) : List CtxCell :=
  let base := (s.reg .tsu 0x6108).toNat
  (upTo 65536).map (fun c => ⟨base + 16 * c, cellBytes (s.cell c)⟩)

/-- A cell takes the COUNT and held counts of its 16 bytes. -/
def cellOf (l : List Byte) (x : Cell) : Cell :=
  let h (r : Nat) : Nat := natBE ((l.drop (4 + r / 2)).take 1) / (if r % 2 = 0 then 16 else 1) % 16
  { x with count := sx 32 (natBE (l.take 4)), held := (upTo 16).foldl (fun t r => tabSet 0 t r (h r)) [] }

/-- A LOAD: the cells of the image that stands at SG_CTX_LOAD; a cell that the operand leaves out reads as 16 zero bytes. -/
def loadCells (img : List CtxCell) (s : State) : State :=
  let base := (s.reg .tsu 0x6110).toNat
  img.foldl (fun s i =>
    if base ≤ i.addr ∧ i.addr < base + 2 ^ 20 ∧ i.addr % 16 = 0 then
      putCell ((i.addr - base) / 16) (cellOf i.bytes (s.cell ((i.addr - base) / 16))) s
    else s) (clearCells s)

def ctxDone (img : List CtxCell) (s : State) : State :=
  if !s.t.sg.ctxBusy then s
  else
    let g := s.t.sg
    let s1 := if g.compact ∧ g.ctxSave then
        modSg (fun g => { g with saved := ctxImage s }) s else s
    let s2 := if g.compact ∧ g.ctxLoad then loadCells img s1 else clearCells s1
    releaseReqs (raise .tsu 0x06 6 (modSg (fun g => { g with
      ctxBusy := false, ctxResult := if g.compact then 1 else 2 }) s2))

/-- R232: the switch ends; window accesses that waited are applied. -/
def execCtxSwitchDone (img : List CtxCell) (s : State) : Host.Outcome State Fault Refusal := .next (ctxDone img s)

/-- SG_ERRORS, R243. -/
def sgErrors (s : State) : Word :=
  let g := s.t.sg
  wd [(48, g.stalePost), (32, g.waitBusy), (16, g.badAccess), (0, g.postCrc)]

/-- The read clears the counts. -/
def clearSgErrors (s : State) : State :=
  modSg (fun g => { g with stalePost := 0, waitBusy := 0, badAccess := 0, postCrc := 0 }) s

/-- R243. -/
def execSgErrorsRead (rq : Nat) (s : State) : Host.Outcome State Fault Refusal :=
  .next (admitRead .tsu rq 0x06 0x130 sgErrors clearSgErrors s)

end Sys2Proof.Machine
end

