-- ==== Sys2Proof/Machine/TallyBase.lean ====
section
/-!
DEFINITION. Tally lanes, probe windows, closing records and scorecards of a TSU (R206, R271 to R278, R284, R285).
-/

namespace Sys2Proof.Machine

/-- The lanes of the variant, R271. -/
def lanePresent (k : TsuKind) (n : Nat) : Bool :=
  match k with
  | .c | .m => decide (n < 4)
  | .e | .w => decide (n < 16)

/-- Feed lanes are those of TSU-C and TSU-M. -/
def feedLanes (k : TsuKind) : Bool := k == .c || k == .m

def State.lane (s : State) (n : Nat) : Lane := tabGet {} s.t.tl.lanes n

def modLane (n : Nat) (f : Lane → Lane) (s : State) : State :=
  modTl (fun t => { t with lanes := tabMod {} t.lanes n f }) s

/-- Fields of an effective TL_Ln_CFG. -/
def laneEnabled (l : Lane) : Bool := bit l.cfg 63
def laneClass (l : Lane) : Nat := fld l.cfg 60 2
def lanePort (l : Lane) : Nat := fld l.cfg 48 8
def laneFlow (l : Lane) : Nat := fld l.cfg 32 16
def laneOwner (l : Lane) : Nat := fld l.cfg 16 16

/-- LS_CTL as effective since the last kickoff. -/
def lsEnable (s : State) : Bool := bit s.t.tl.lsCtl 63
def lsFreeze (s : State) : Bool := bit s.t.tl.lsCtl 62

/-- At a kickoff the lanes take their configuration and begin their step strings; LS_CTL takes effect (R274, R287). -/
def startLanes (s : State) : State :=
  let s1 := (upTo 16).foldl (fun s n =>
    if lanePresent s.tc.fuse.kind n then
      let w := s.reg .tsu (0x9200 + 8 * n)
      modLane n (fun l => { l with cfg := w, str := [], units := 0 }) s
    else s) s
  modTl (fun t => { t with lsCtl := s.reg .tsu 0xA100, unsent := false, windows := [], closedTo := [] }) s1

/-! Probe windows, R206 and R284. -/

/-- The window of a step with kickoff `k` in which a beat lies. -/
def windowOf (k bc : Nat) : Option Nat := if k ≤ bc then some ((bc - k) / 4096) else none

/-- Window `w` of a lane has been asked for and has not closed. -/
def windowAsked (s : State) (r : StepRec) (lane w : Nat) : Bool :=
  decide (tabGet 0 s.t.tl.closedTo lane ≤ w) &&
    s.t.tl.probes.any (fun p => p.step == r.step && p.attempt == r.attempt && p.lanes.contains lane &&
      decide (p.first ≤ w ∧ w < p.first + p.count))

/-- Bytes reach an asked window of the running step. -/
def feedWindow (lane : Nat) (bs : List Byte) (units : Nat) (s : State) : State :=
  match launchedStep s with
  | none => s
  | some r => match windowOf r.k s.tc.tk.bc with
    | none => s
    | some w =>
      if lsEnable s && windowAsked s r lane w then
        modTl (fun t =>
          let hit (x : Window) : Bool := x.lane == lane && x.w == w
          let more (x : Window) : Window := { x with str := x.str ++ bs, units := x.units + units }
          let l := if t.windows.any hit then listModify hit more t.windows else t.windows ++ [⟨lane, w, bs, units⟩]
          { t with windows := l }) s
      else s

/-- A unit of one lane: into its step string and window, or gap traffic (R274). -/
def laneUnit (lane : Nat) (bs : List Byte) (units : Nat) (s : State) : State :=
  if !laneEnabled (s.lane lane) then s
  else match launchedStep s with
    | some _ => feedWindow lane bs units (modLane lane (fun l => { l with str := l.str ++ bs, units := l.units + units }) s)
    | none =>
      raise .tsu 0x09 0 (modTl (fun t => { t with
        gapWords := sat32 (t.gapWords + (bs.length + 7) / 8), gapFlag := true }) s)

/-- probe: windows of a step; those whose first beat has passed are skipped (R206). Nothing is tallied any more for a step that is
neither ARMED nor LAUNCHED (R284). -/
def openWindows (c : CurStep) (k : Nat) (live : Bool) (first count mask : Nat) (s : State) : State :=
  let passed := if k < s.tc.tk.bc then (s.tc.tk.bc - k + 4095) / 4096 else 0
  let skip := min count (passed - first)
  let lanes := (upTo 16).filter (fun l => lanePresent s.tc.fuse.kind l && mask.testBit l)
  let s1 := if 0 < skip then
      raise .tsu 0x04 9 (modCue (fun e => { e with probeSkip := sat16 (e.probeSkip + skip) }) s) else s
  if count ≤ skip ∨ lanes.isEmpty ∨ !live then s1
  else modTl (fun t => { t with probes := t.probes ++ [⟨c.step, c.attempt, first + skip, count - skip, lanes⟩] }) s1

/-! Records, R284 and R285. -/

/-- TALLY frames that wait on a port. -/
def tallyOn (q : Port) : Nat := q.rel.bulk.countP (fun e => match e.f.payload with | .tally _ => true | _ => false)

/-- TALLY frames that the TSU keeps waiting. -/
def tallyWaiting (s : State) : Nat := max (tallyOn (s.port .tsu 0)) (tallyOn (s.port .tsu 1))

/-- The two TALLY frames of a record. -/
def tallyFrames (s : State) (r : StepRec) (lane window : Nat) (v : W128) : List Payload :=
  let f (half t : Nat) : Payload :=
    .tally ⟨s.t.mem.die, half, lane, window, r.step % 65536, r.attempt, t⟩
  [f 0 (v.toNat % 2 ^ 64), f 1 (v.toNat / 2 ^ 64)]

/-- Send payloads up both trees, in order. -/
def sendAll (l : List Payload) (s : State) : State := l.foldl (fun s p => sendUp p s) s

/-- The highest temperature that the bay monitors have reported. -/
def dieTemp (s : State) : Int := s.t.by_.bay.foldl (fun t b => max t b.2.temp) (-128)

/-- Keep a record in the ring; the Bool says that FREEZE left it out (RECORD_LOST). -/
def ringKeep (x : RingRec) (s : State) : Option Nat × State :=
  let t := s.t.tl
  if lsFreeze s ∧ t.ringHeld = 1024 then (none, raise .tsu 0x0A 0 s)
  else
    let i := if t.ringHeld = 0 then 0 else (t.newest + 1) % 1024
    (some i, modTl (fun t => { t with
      ring := tabSet none t.ring i (some x), newest := i, ringHeld := min 1024 (t.ringHeld + 1) }) s)

/-- One window closes: its record in the ring, and its frames, or none of them where it stays local (R284). -/
def closeWindow (r : StepRec) (lane w : Nat) (temp : Int) (waiting : Nat) (s : State) : List Payload × State :=
  let x := (s.t.tl.windows.find? (fun x => x.lane == lane && x.w == w)).getD ⟨lane, w, [], 0⟩
  let tally := tally128 x.str
  let special := decide (0xFFFFFD ≤ w)
  let room := decide (waiting + 2 ≤ 64)
  let send := room && !special
  let k := ringKeep ⟨r.step, r.attempt, lane, send, false, w, tally, sat16 x.units, s.t.st.g, temp⟩ s
  let s1 := modTl (fun t => { t with windows := t.windows.filter (fun y => !(y.lane == lane && y.w == w)) }) k.2
  if special then ([], s1)
  else if room then (tallyFrames s r lane w tally, s1)
  else ([], raise .tsu 0x09 2 (raiseUnsent s1))
where
  raiseUnsent (s : State) : State :=
    modTl (fun t => { t with overrun := sat16 (t.overrun + 1), unsent := true }) s

/-- The next window of a lane to close: the lowest that any request asks for and that has not closed; their beats end in that order. -/
def nextWindow (s : State) (r : StepRec) (lane : Nat) : Option Nat :=
  let c := tabGet 0 s.t.tl.closedTo lane
  s.t.tl.probes.foldl (fun o p =>
    if p.step == r.step && p.attempt == r.attempt && p.lanes.contains lane && decide (c < p.first + p.count) then
      some (match o with | some w => min w (max c p.first) | none => max c p.first)
    else o) none

/-- A window of a lane has closed. -/
def noteClosed (lane w : Nat) (s : State) : State :=
  modTl (fun t => { t with closedTo := tabSet 0 t.closedTo lane (w + 1) }) s

/-! DONE, R183, R275 to R278 and R284. -/

/-- The tally of a CLASS over the lanes' step tallies, R275. -/
def classTally (s : State) (cls : Nat) : W128 :=
  tally128 ((upTo 16).flatMap (fun n =>
    let l := s.lane n
    if lanePresent s.tc.fuse.kind n && laneEnabled l && laneClass l == cls then bytesBE 16 (tally128 l.str).toNat else []))

/-- COMBINED over bytes 0 to 95 of a scorecard and a die identifier, R277. -/
def combinedOf (die : Nat) (card : List Byte) : List Byte :=
  sha256 (bytesBE 4 die ++ sub card 0 6 ++ sub card 12 4 ++ sub card 16 80)

/-- The scorecard of the running step, R276. -/
def scorecard (s : State) (r : StepRec) : List Byte :=
  let k := s.t.kp
  let t := s.t.tl
  let body := bytesBE 6 r.step ++ bytesBE 1 r.attempt ++ bytesBE 1 (b2n t.gapFlag + 2 * b2n t.unsent) ++
    bytesBE 4 r.epoch ++ bytesBE 4 k.seedIndex ++ (k.fp ++ List.replicate 16 0).take 16 ++
    (k.digest ++ List.replicate 16 0).take 16 ++ bytesBE 16 (classTally s 1).toNat ++ bytesBE 16 (classTally s 2).toNat ++
    bytesBE 16 (classTally s 3).toNat
  body ++ combinedOf s.t.mem.die body

/-- The eight SCORE frames of a scorecard, R278. -/
def scoreFrames (r : StepRec) (card : List Byte) : List Payload :=
  (upTo 8).map (fun i => .score ⟨i, 0, r.attempt, r.step % 65536, sub card (16 * i) 16⟩)

/-- Every asked window that has begun and not closed, lane by lane. -/
def openNow (s : State) (r : StepRec) : List (Nat × Nat) :=
  match windowOf r.k s.tc.tk.bc with
  | none => []
  | some last => (upTo 16).flatMap (fun lane =>
      ((upTo (last + 1)).filter (windowAsked s r lane)).map (fun w => (lane, w)))

/-- R278 and R284 at DONE: windows close, the scorecard is sealed and sent, then the window frames and the closing records. -/
def sealStep (r : StepRec) (s : State) : State :=
  let temp := dieTemp s
  let w : List Payload × State := if lsEnable s then
      (openNow s r).foldl (fun acc lw =>
        let c := closeWindow r lw.1 lw.2 temp (tallyWaiting acc.2 + acc.1.length) acc.2
        (acc.1 ++ c.1, c.2)) (([] : List Payload), s)
    else ([], s)
  let s1 := modTl (fun t => { t with
    lanes := ((upTo 16).filter (lanePresent s.tc.fuse.kind)).foldl (fun l n =>
      tabMod {} l n (fun x => { x with last := tally128 x.str })) t.lanes,
    probes := t.probes.filter (fun p => !(p.step == r.step && p.attempt == r.attempt)), windows := [] }) w.2
  let card := scorecard s1 r
  let s2 := modTl (fun t => { t with
    cards := (card :: t.cards).take 8, lastStep := r.step, gapFlag := false, unsent := false }) s1
  let s3 := sendAll w.1 (sendAll (scoreFrames r card) s2)
  if !lsEnable s3 then s3
  else (upTo 16).foldl (fun s lane =>
    if lanePresent s.tc.fuse.kind lane && bit s.t.tl.lsCtl lane then
      let l := s.lane lane
      let fs := tallyFrames s r lane 0xFFFFFF (tally128 l.str)
      let room := decide (tallyWaiting s + 2 ≤ 64) && s.t.tl.closingWait.isEmpty
      let k := ringKeep ⟨r.step, r.attempt, lane, room, true, 0xFFFFFF, tally128 l.str, sat16 l.units, s.t.st.g, temp⟩ s
      if room then sendAll fs k.2
      else modTl (fun t => { t with closingWait := t.closingWait ++ [(k.1.getD 1024, fs.map (fun p => tsuFrame p s))] }) k.2
    else s) s3

end Sys2Proof.Machine
end

