-- ==== Sys2Proof/Machine/CueBase.lean ====
section
/-!
DEFINITION. Playbook words: their encoding and decoding (R195 to R208), and how a thread issues one (R191 to R195, R210).
-/

namespace Sys2Proof.Machine

/-! Encoding. -/

/-- A word from its opcode and its fields [23:0]. -/
def cueWord (op : BitVec 8) (f : BitVec 24) : CueWord := op ++ f

/-- The word of an instruction, from the format tables of R196 to R207. -/
def encodeCue : Cue → CueWord
  | .nop => cueWord 0x01 0
  | .halt => cueWord 0x02 0
  | .done => cueWord 0x03 0
  | .arm pd => cueWord 0x04 (pd ++ 0#20)
  | .kick pd => cueWord 0x05 (pd ++ 0#20)
  | .calloff lh rh => cueWord 0x06 (lh ++ rh)
  | .waitk off => cueWord 0x08 off
  | .waitn inc => cueWord 0x09 inc
  | .waitr pa => cueWord 0x0A (0#4 ++ pa ++ 0#16)
  | .hent pa slot => cueWord 0x10 (0#4 ++ pa ++ 0#4 ++ slot)
  | .hawait pd slot => cueWord 0x11 (pd ++ 0#8 ++ slot)
  | .post n1 cell => cueWord 0x18 (0#4 ++ n1 ++ cell)
  | .postt r cell => cueWord 0x19 (r ++ 0#4 ++ cell)
  | .cwait r n1 cell => cueWord 0x1A (r ++ n1 ++ cell)
  | .creset cell => cueWord 0x1B (0#8 ++ cell)
  | .resv ps w => cueWord 0x20 (0#4 ++ ps ++ 0#4 ++ w)
  | .rels ps => cueWord 0x21 (0#4 ++ ps ++ 0#16)
  | .bayp pt mask => cueWord 0x28 (0#4 ++ pt ++ mask)
  | .bist pd pa => cueWord 0x30 (pd ++ pa ++ 0#16)
  | .probe pa pb => cueWord 0x31 (0#4 ++ pa ++ pb ++ 0#12)
  | .li pd imm => cueWord 0x40 (pd ++ 0#4 ++ imm)
  | .lis pd k imm => cueWord 0x41 (pd ++ 0#2 ++ k ++ imm)
  | .mov pd pa => cueWord 0x42 (pd ++ pa ++ 0#16)
  | .add pd pa pb => cueWord 0x43 (pd ++ pa ++ pb ++ 0#12)
  | .sub pd pa pb => cueWord 0x44 (pd ++ pa ++ pb ++ 0#12)
  | .addi pd pa imm => cueWord 0x45 (pd ++ pa ++ imm)
  | .and pd pa pb => cueWord 0x46 (pd ++ pa ++ pb ++ 0#12)
  | .or pd pa pb => cueWord 0x47 (pd ++ pa ++ pb ++ 0#12)
  | .xor pd pa pb => cueWord 0x48 (pd ++ pa ++ pb ++ 0#12)
  | .shl pd pa sh => cueWord 0x49 (pd ++ pa ++ 0#10 ++ sh)
  | .shr pd pa sh => cueWord 0x4A (pd ++ pa ++ 0#10 ++ sh)
  | .get pd src => cueWord 0x4B (pd ++ 0#12 ++ src)
  | .b t => cueWord 0x50 (0#12 ++ t)
  | .beq pa pb t => cueWord 0x51 (pa ++ pb ++ 0#4 ++ t)
  | .bne pa pb t => cueWord 0x52 (pa ++ pb ++ 0#4 ++ t)
  | .blt pa pb t => cueWord 0x53 (pa ++ pb ++ 0#4 ++ t)
  | .bltu pa pb t => cueWord 0x54 (pa ++ pb ++ 0#4 ++ t)
  | .bz pa t => cueWord 0x55 (pa ++ 0#8 ++ t)
  | .bnz pa t => cueWord 0x56 (pa ++ 0#8 ++ t)
  | .loop pa t => cueWord 0x57 (pa ++ 0#8 ++ t)

/-! Decoding. -/

/-- Bits [31:24]. -/
def cueOp (w : CueWord) : BitVec 8 := w.extractLsb' 24 8

/-- Named fields of the format tables. -/
def f20 (w : CueWord) : BitVec 4 := w.extractLsb' 20 4
def f16 (w : CueWord) : BitVec 4 := w.extractLsb' 16 4
def f12 (w : CueWord) : BitVec 4 := w.extractLsb' 12 4
def fImm (w : CueWord) : BitVec 16 := w.extractLsb' 0 16
def fAddr (w : CueWord) : BitVec 12 := w.extractLsb' 0 12
def fHigh (w : CueWord) : BitVec 12 := w.extractLsb' 12 12
def fWide (w : CueWord) : BitVec 24 := w.extractLsb' 0 24

/-- The fields an opcode names, by opcode; none: the opcode is undefined (R195). -/
def cueFields (op : BitVec 8) : Option (BitVec 24) :=
  match op.toNat with
  | 0x01 | 0x02 | 0x03 => some 0
  | 0x04 | 0x05 => some 0xF00000
  | 0x06 | 0x08 | 0x09 => some 0xFFFFFF
  | 0x0A => some 0x0F0000
  | 0x10 => some 0x0F0FFF
  | 0x11 => some 0xF00FFF
  | 0x18 => some 0x0FFFFF
  | 0x19 => some 0xF0FFFF
  | 0x1A => some 0xFFFFFF
  | 0x1B => some 0x00FFFF
  | 0x20 => some 0x0F0FFF
  | 0x21 => some 0x0F0000
  | 0x28 => some 0x0FFFFF
  | 0x30 => some 0xFF0000
  | 0x31 => some 0x0FF000
  | 0x40 => some 0xF0FFFF
  | 0x41 => some 0xF3FFFF
  | 0x42 => some 0xFF0000
  | 0x43 | 0x44 | 0x46 | 0x47 | 0x48 => some 0xFFF000
  | 0x45 => some 0xFFFFFF
  | 0x49 | 0x4A => some 0xFF003F
  | 0x4B => some 0xF000FF
  | 0x50 => some 0x000FFF
  | 0x51 | 0x52 | 0x53 | 0x54 => some 0xFF0FFF
  | 0x55 | 0x56 | 0x57 => some 0xF00FFF
  | _ => none

/-- The instruction of a defined opcode, reserved bits apart. -/
def cueOf (w : CueWord) : Option Cue :=
  match (cueOp w).toNat with
  | 0x01 => some .nop
  | 0x02 => some .halt
  | 0x03 => some .done
  | 0x04 => some (.arm (f20 w))
  | 0x05 => some (.kick (f20 w))
  | 0x06 => some (.calloff (fHigh w) (fAddr w))
  | 0x08 => some (.waitk (fWide w))
  | 0x09 => some (.waitn (fWide w))
  | 0x0A => some (.waitr (f16 w))
  | 0x10 => some (.hent (f16 w) (fAddr w))
  | 0x11 => some (.hawait (f20 w) (fAddr w))
  | 0x18 => some (.post (f16 w) (fImm w))
  | 0x19 => some (.postt (f20 w) (fImm w))
  | 0x1A => some (.cwait (f20 w) (f16 w) (fImm w))
  | 0x1B => some (.creset (fImm w))
  | 0x20 => some (.resv (f16 w) (fAddr w))
  | 0x21 => some (.rels (f16 w))
  | 0x28 => some (.bayp (f16 w) (fImm w))
  | 0x30 => some (.bist (f20 w) (f16 w))
  | 0x31 => some (.probe (f16 w) (f12 w))
  | 0x40 => some (.li (f20 w) (fImm w))
  | 0x41 => some (.lis (f20 w) (w.extractLsb' 16 2) (fImm w))
  | 0x42 => some (.mov (f20 w) (f16 w))
  | 0x43 => some (.add (f20 w) (f16 w) (f12 w))
  | 0x44 => some (.sub (f20 w) (f16 w) (f12 w))
  | 0x45 => some (.addi (f20 w) (f16 w) (fImm w))
  | 0x46 => some (.and (f20 w) (f16 w) (f12 w))
  | 0x47 => some (.or (f20 w) (f16 w) (f12 w))
  | 0x48 => some (.xor (f20 w) (f16 w) (f12 w))
  | 0x49 => some (.shl (f20 w) (f16 w) (w.extractLsb' 0 6))
  | 0x4A => some (.shr (f20 w) (f16 w) (w.extractLsb' 0 6))
  | 0x4B => some (.get (f20 w) (w.extractLsb' 0 8))
  | 0x50 => some (.b (fAddr w))
  | 0x51 => some (.beq (f20 w) (f16 w) (fAddr w))
  | 0x52 => some (.bne (f20 w) (f16 w) (fAddr w))
  | 0x53 => some (.blt (f20 w) (f16 w) (fAddr w))
  | 0x54 => some (.bltu (f20 w) (f16 w) (fAddr w))
  | 0x55 => some (.bz (f20 w) (fAddr w))
  | 0x56 => some (.bnz (f20 w) (fAddr w))
  | 0x57 => some (.loop (f20 w) (fAddr w))
  | _ => none

/-- R195: none for an undefined opcode or a set reserved bit. -/
def decodeCue (w : CueWord) : Option Cue :=
  match cueFields (cueOp w) with
  | some m => if fWide w &&& ~~~m = 0 then cueOf w else none
  | none => none

/-! Threads that may issue an instruction, and the registers it names. -/

/-- The Thread column of R196 to R207. -/
def threadOk (th : Thread) (c : Cue) : Bool :=
  match c with
  | .done | .kick _ | .hent _ _ | .hawait _ _ | .bist _ _ => th == .run
  | .arm _ => th == .lead
  | _ => true

/-- The registers an instruction names. -/
def cueRegs : Cue → List (BitVec 4)
  | .nop | .halt | .done | .calloff _ _ | .waitk _ | .waitn _ | .post _ _ | .postt _ _ | .cwait _ _ _ | .creset _
  | .bayp _ _ | .b _ => []
  | .arm p | .kick p | .waitr p | .hent p _ | .hawait p _ | .resv p _ | .rels p | .li p _ | .lis p _ _ | .get p _
  | .bz p _ | .bnz p _ | .loop p _ => [p]
  | .bist p q | .probe p q | .mov p q | .addi p q _ | .shl p q _ | .shr p q _ | .beq p q _ | .bne p q _ | .blt p q _
  | .bltu p q _ => [p, q]
  | .add p q r | .sub p q r | .and p q r | .or p q r | .xor p q r => [p, q, r]

/-- R192: p0 to p7 belong to run, p8 to p15 to lead. -/
def owns (th : Thread) (p : BitVec 4) : Bool :=
  match th with
  | .run => p.toNat < 8
  | .lead => 8 ≤ p.toNat

/-! Issue. -/

/-- A thread that may issue: RUNNING, and no slice is under test (R193, R205). -/
def canIssue (th : Thread) (s : State) : Bool :=
  (getThr s.t.cue th).st == 1 && tsuUnits s && s.tc.bt.win.isNone

/-- The word at PC faults. -/
def cueFault (th : Thread) (code : Nat) (s : State) : State :=
  let pc := (getThr s.t.cue th).pc
  threadFault th code (s.pbWord pc).toNat pc s

/-- A corrected single-bit error is counted, R191 and R213. -/
def noteEcc (e : Ecc) (pc : Nat) (s : State) : State :=
  match e with
  | .corrected => raise .tsu 0x04 10 (modCue (fun c => { c with corrected := sat16 (c.corrected + 1), lastIndex := pc }) s)
  | _ => s

/-- Fetch the word at PC and, where its opcode is one of `ops`, issue it; faults in the order of R210. The command of another
opcode leaves the state as it is (log 4). -/
def issue (ops : Nat → Bool) (body : Cue → State → State) (th : Thread) (e : Ecc) (s : State) : State :=
  if !canIssue th s then s
  else
    let pc := (getThr s.t.cue th).pc
    let w := s.pbWord pc
    if e = .uncorrectable then threadFault th 0x0B 0 pc (modCue (fun c => { c with lastIndex := pc }) s)
    else if !ops (cueOp w).toNat then s
    else
      let s1 := noteEcc e pc s
      match decodeCue w with
      | none => cueFault th 1 s1
      | some c =>
        if !threadOk th c then cueFault th 2 s1
        else if (cueRegs c).any (fun p => !owns th p) then cueFault th 3 s1
        else body c s1

/-- The opcode of one row. -/
def opIs (n m : Nat) : Bool := m == n

/-- The nop row also takes undefined opcodes, which fault with ILLEGAL_OP. -/
def opNop (m : Nat) : Bool := m == 1 || (cueFields (BitVec.ofNat 8 m)).isNone

/-! Parts of the instructions. -/

/-- The kickoff beat in effect of a thread's current step. -/
def curKick (th : Thread) (s : State) : Option Nat :=
  match (getThr s.t.cue th).cur with
  | some c => match curRec th s with
    | some r => some r.k
    | none => some c.k
  | none => none

/-- A counted lateness of R214. -/
def waitLate (s : State) : State := raise .tsu 0x04 6 (modCue (fun e => { e with waitLate := sat16 (e.waitLate + 1) }) s)
def kickLate (s : State) : State := raise .tsu 0x04 7 (modCue (fun e => { e with kickLate := sat16 (e.kickLate + 1) }) s)

/-- T and the stored target, R200; one already reached does not wait. -/
def waitUntil (th : Thread) (target : Nat) (s : State) : State :=
  let s1 := cueNext th (modThr th (fun t => { t with t := some target }) s)
  if reached s.tc.tk.bc target then waitLate s1
  else modThr th (fun t => { t with st := 2, wait := some (.beat target) }) s1

/-! done, R183. -/

/-- LAUNCHED to DONE: the record, the done-census entry, STEP_DONE (R344), the scorecard, the step gap. -/
def stepDone (r : StepRec) (s : State) : State :=
  let s0 := if r.bound then s else modCue (fun e => { e with passed := e.passed ++ [(r.step, r.attempt)] }) s
  let s1 := modRec r (fun x => { x with st := .done, leaveReturn := true }) s0
  let s2 := sendEntry ⟨1, r.step % 8, r.step, r.attempt, 1, 0⟩ s1
  openGap (sealStep r (raiseLocal 2 s2))

/-- get, R208: the value, or the fault code. -/
def getSource (th : Thread) (src : Nat) (s : State) : Except Nat Word :=
  let t := getThr s.t.cue th
  let need (o : Option Nat) : Except Nat Word := match o with
    | some n => .ok (wd [(0, n % 2 ^ 64)])
    | none => .error 5
  match src with
  | 0x00 => need (t.cur.map (·.step))
  | 0x01 => need (t.cur.map (·.attempt))
  | 0x02 => .ok (wd [(0, s.t.mem.epoch)])
  | 0x03 => need (curKick th s)
  | 0x04 => .ok (wd [(0, s.tc.tk.bc)])
  | 0x05 => need s.t.cue.withdrawn
  | 0x06 => .ok (wd [(0, if s.t.mem.dieValid then s.t.mem.die else 0)])
  | 0x07 => need t.t
  | 0x08 => .ok (wd [(0, s.t.steps.countP (fun r => r.armed && r.inLead))])
  | n => if 0x10 ≤ n ∧ n ≤ 0x13 then .ok (s.reg .tsu (0x4140 + 8 * (n - 0x10))) else .error 4

/-- The step number of resv and rels is in the lead set or is the run thread's current step (R203). -/
def leaveStepOk (n : Nat) (s : State) : Bool :=
  s.t.steps.any (fun r => r.armed && r.inLead && r.step == n) ||
    (match s.t.cue.run.cur with
     | some c => c.step == n
     | none => false)

end Sys2Proof.Machine
end

