-- ==== Sys2Proof/Machine/CensusBase.lean ====
section
/-!
DEFINITION. Member probes of a package DX-D (R296 to R298).
-/

namespace Sys2Proof.Machine

/-- The entry of a lane in a census. -/
def holdsEntry (s : State) (i : CensusId) (p : Nat) : Bool :=
  s.x.cs.open_.any (fun c => c.id == i && c.entries.any (fun e => e.port == p))

/-! Member probes, R296 to R298. -/

/-- A probe of the member on a port begins. -/
def startProbe (ep p : Nat) (s : State) : State :=
  let up := s.dc.up
  modPort .dxd p (fun q => if q.probe.isSome then q else { q with probe := some ⟨up, ep, 0, 0, 0, true⟩ }) s

/-- The member lanes of an epoch at a package DX-D. -/
def memberLanes (s : State) (ep : Nat) : List Nat :=
  match s.x.cs.served.find? (fun v => v.epoch == ep) with
  | some v => v.members.map (·.port)
  | none => []

/-- The oldest uncommitted launched step as this DX-D sees it, R298. -/
def oldestLaunched (s : State) (ep : Nat) : Option KnownKick :=
  s.x.kicks.foldl (fun o q =>
    if q.epoch == ep && q.accepted && !q.committed && !q.withdrawn && decide (q.k ≤ s.dc.tk.bc) then
      (match o with | some r => if q.step < r.step then some q else o | none => some q) else o) none

/-- The census that a CALL_OFF names, R298. -/
def namedCensus (s : State) (ep : Nat) (f : CallOffF) : Option CensusId :=
  if f.reason = 1 then some ⟨0, f.step % 8, f.step, f.attempt, ep⟩
  else if f.reason = 3 then (oldestLaunched s ep).map (fun q => ⟨1, q.step % 8, q.step, q.attempt, ep⟩)
  else none

/-- A package DX-D probes the member lanes without an entry in the named census. -/
def probeMissing (ep : Nat) (f : CallOffF) (s : State) : State :=
  if s.x.straps.role ≠ 0 then s
  else match namedCensus s ep f with
  | some i => (memberLanes s ep).foldl (fun s p => if holdsEntry s i p then s else startProbe ep p s) s
  | none => s

end Sys2Proof.Machine
end

