-- ==== Sys2Proof/Machine/Steps.lean ====
section
/-!
DEFINITION. Arming, kickoff and call-off at the devices (R173 to R190): ARM, CALL_OFF and CENSUS_DN frames, the decision
at K − 512 and the kickoff.
-/

namespace Sys2Proof.Machine

/-! ARM, R173 to R175. -/

/-- Highest attempt seen for a step, plus 1. -/
def seenAttempts (s : State) (step : Nat) : Nat := tabGet 0 s.t.mem.attempts step

/-- The first row of R173. -/
def isNewArming (f : ArmF) (s : State) : Bool :=
  (s.t.mem.expected.isNone || s.t.mem.expected == some f.step) && decide (seenAttempts s f.step ≤ f.attempt)

/-- The first check of R174 that fails: 1 NOT_LOCKED, 2 TOO_LATE, 3 RUN_AHEAD_FULL; none where every one passes. -/
def armRefusal (k : Nat) (s : State) : Option Nat :=
  if s.tc.tk.state ≠ 2 then some 1
  else if k < s.tc.tk.bc + 1024 then some 2
  else if 4 ≤ s.t.steps.countP (·.armed) then some 3
  else none

/-- A step that has just been armed. -/
def newRec (ep k : Nat) (f : ArmF) : StepRec :=
  { step := f.step, attempt := f.attempt, epoch := ep, k := k, st := .armed, accepted := false, released := false,
    decision := none, missed := false, checkpoint := f.checkpoint, reorigin := f.reorigin, leave := 0,
    leaveReturn := false, bound := false, inLead := false, returned := false }

/-- A new arming, R174. -/
def newArming (ep : Nat) (f : ArmF) (s : State) : State :=
  let k := extend48 s.tc.tk.bc f.kick
  let s1 := modMem (fun m => { m with expected := some (f.step + 1) }) s
  match armRefusal k s with
  | some n => raiseLocal 8 (modMem (fun m => { m with armReason := n }) s1)
  | none =>
    let s2 := modT (fun t => { t with
      steps := t.steps ++ [newRec ep k f],
      mem := { t.mem with firstArmed := some (t.mem.firstArmed.getD f.step) } }) s1
    pokeArm (sendEntry ⟨0, f.step % 8, f.step, f.attempt, 1, 0⟩ s2)

/-- The ARMED step that a re-time names, with its new kickoff. -/
def retimed (f : ArmF) (s : State) : Option StepRec :=
  s.t.steps.find? (fun r => r.armed && r.step == f.step && r.attempt == f.attempt &&
    decide (r.k < extend48 s.tc.tk.bc f.kick))

/-- A re-time, R175: the beat in effect is that of get KICK too (R200), and a bay change that the kickoff held back is looked at
again (R154). -/
def reTime (f : ArmF) (r : StepRec) (s : State) : State :=
  let k := extend48 s.tc.tk.bc f.kick
  if s.tc.tk.bc + 1024 ≤ k then
    let cur (t : Thr) : Thr := { t with cur := t.cur.map (fun c =>
      if c.epoch == r.epoch && c.step == r.step && c.attempt == r.attempt then { c with k := k } else c) }
    tryChanges (modCue (fun e => { e with run := cur e.run, lead := cur e.lead })
      (modRec r (fun x => { x with k := k, decision := none, missed := false, reorigin := f.reorigin }) s))
  else raiseLocal 11 (modRec r (fun x => { x with missed := true }) s)

/-- What a TSU makes of an ARM, R173. -/
def armAtTsu (ep : Nat) (f : ArmF) (s : State) : State :=
  let s1 := modMem (fun m => { m with attempts := tabMod 0 m.attempts f.step (max (f.attempt + 1)) }) s
  if isNewArming f s then newArming ep f s1
  else match retimed f s with
    | some r => reTime f r s1
    | none => raiseLocal 9 s1

/-- What an ARM that is taken does, once for its ORIGIN_SEQ (R71). -/
def armTake (d : Dev) (p ep : Nat) (f : ArmF) : State → State :=
  byOseq d f.oseq (fun s =>
    match d with
    | .tsu => armAtTsu ep f s
    | .dxd => noteArm ep f (sendDown ⟨ep, .arm f⟩ (some p) s))

def armReceive (d : Dev) (p : Nat) (h : LinkHdr) (ep : Nat) (f : ArmF) (s : State) : State :=
  recvRetained d p h ⟨ep, .arm f⟩ (armTake d p ep f) s

/-- R173. -/
def execArmReceive (d : Dev) (p : Nat) (h : LinkHdr) (ep : Nat) (f : ArmF) (s : State) :
    Host.Outcome State Fault Refusal := .next (armReceive d p h ep f s)

/-! CENSUS_DN, R177 and R237. -/

/-- The record that a CENSUS_DN names. -/
def dnRec (f : CensusDnF) (r : StepRec) : Bool := r.step == f.step && r.attempt == f.attempt

/-- Change the named record where a test holds. -/
def modNamed (f : CensusDnF) (p : StepRec → Bool) (g : StepRec → StepRec) (s : State) : State :=
  modT (fun t => { t with steps := t.steps.map (fun r => if dnRec f r && p r then g r else r) }) s

/-- An entry of this TSU is resolved: it is not sent again (R238). -/
def dropOwnEntry (f : CensusDnF) (s : State) : State :=
  modHd (fun h => { h with census := h.census.filter (fun c =>
    !(c.kind == f.kind && c.slot == f.slot && c.step == f.step && c.attempt == f.attempt)) }) s

/-- A huddle ends, R236, R237 and R244. -/
def huddleEndsNow (f : CensusDnF) (s : State) : State :=
  let hit (e : Huddle) : Bool := e.out.isNone && e.slot == f.slot && e.epoch == s.t.mem.epoch && e.step == f.step && e.attempt == f.attempt
  match s.t.hd.entered.find? hit with
  | none => s
  | some e =>
    let code := if f.outcome = 3 then 2 else 1
    let s1 := modHd (fun h => { h with
      entered := listModify hit (fun e => { e with out := some (code, f.count) }) h.entered,
      lastOutcome := code, lastSlot := f.slot, lastCount := f.count, lastStep := f.step % 2 ^ 24 }) s
    let s2 := if f.outcome = 3 then
        raise .tsu 0x07 1 (modHd (fun h => { h with
          misfitValid := true, misfitSlot := f.slot, misfitStep := f.step, misfitFp := e.fp }) s1)
      else s1
    pokeCredit (pokeHawait s2)

/-- The result of a huddle; while slice 7 is under test it waits for the release (R361). -/
def huddleEnds (f : CensusDnF) (s : State) : State :=
  if sliceIsolated s 7 then modHd (fun h => { h with heldDn := h.heldDn ++ [f] }) s else huddleEndsNow f s

/-- Slice 7 has been released: entries that still stand go up, and results act, in order. -/
def releaseHuddles (s : State) : State :=
  let ups := s.t.hd.heldUp.filter (fun f =>
    s.t.hd.entered.any (fun e => e.slot == f.slot && e.step == f.step && e.attempt == f.attempt))
  s.t.hd.heldDn.foldl (fun s f => huddleEndsNow f s)
    (ups.foldl (fun s f => sendEntry f s) (modHd (fun h => { h with heldUp := [], heldDn := [] }) s))

/-- A CENSUS_DN at a TSU. -/
def censusDnAtTsu (f : CensusDnF) (s : State) : State :=
  let s1 := dropOwnEntry f s
  if f.kind = 2 then (if f.outcome = 0 ∨ f.outcome = 3 then huddleEnds f s1 else s1)
  else if f.outcome = 1 ∧ f.kind = 0 then modNamed f (fun _ => true) (fun r => { r with accepted := true }) s1
  else if f.outcome = 0 ∧ f.kind = 1 then modNamed f (fun _ => true) (fun r => { r with released := true }) s1
  else if f.outcome = 2 ∧ s.t.steps.any (fun r => dnRec f r && r.st == .done) then
    raiseLocal 3 (modNamed f (fun r => r.st == .done) (fun r => { r with st := .committed, released := true }) s1)
  else s1

/-- The ledger copy of a DX-D below the root, R31. -/
def copyCommit (ep : Nat) (f : CensusDnF) (s : State) : State :=
  if s.x.straps.role = 2 ∨ f.outcome ≠ 2 then s
  else modLg (fun l => { l with recs := l.recs ++ [⟨6, f.attempt, f.step, ep, 0, 0, [], false, false⟩] }) s

/-- A RELEASE of a done census at a root member: its copy of the job notes the step as done (R30). -/
def noteRelease (ep : Nat) (f : CensusDnF) (s : State) : State :=
  if rootShadow s ∧ f.kind = 1 ∧ f.outcome = 0 then
    modRStep ep f.step f.attempt (fun x => { x with doneDone := true }) s
  else s

/-- A CENSUS_DN at a DX-D: noted, forwarded down, its census slot freed. -/
def censusDnAtDxd (p ep : Nat) (f : CensusDnF) (s : State) : State :=
  let s1 := noteRelease ep f (copyCommit ep f (noteOutcome ep f s))
  freeCensus (fun c => c.id == ⟨f.kind, f.slot, f.step, f.attempt, ep⟩) (sendDown ⟨ep, .censusDn f⟩ (some p) s1)

/-- What a CENSUS_DN that is taken does, once (R71). -/
def censusDnTake (d : Dev) (p ep : Nat) (f : CensusDnF) : State → State :=
  bySeen d (.censusDn ep f.kind f.slot f.step f.attempt f.outcome) (fun s =>
    match d with
    | .tsu => censusDnAtTsu f s
    | .dxd => censusDnAtDxd p ep f s)

def censusDnReceive (d : Dev) (p : Nat) (h : LinkHdr) (ep : Nat) (f : CensusDnF) (s : State) : State :=
  recvRetained d p h ⟨ep, .censusDn f⟩ (censusDnTake d p ep f) s

/-- R177 and R237. -/
def execCensusDnReceive (d : Dev) (p : Nat) (h : LinkHdr) (ep : Nat) (f : CensusDnF) (s : State) :
    Host.Outcome State Fault Refusal := .next (censusDnReceive d p h ep f s)

/-! The decision, R180. -/

/-- The predecessor condition. -/
def predecessorOk (r : StepRec) (s : State) : Bool :=
  let m := s.t.mem
  r.step == m.firstStep || m.firstArmed == some r.step ||
    s.t.steps.any (fun q => q.step + 1 == r.step && (q.released || q.st == .committed)) ||
    (match m.committed with
     | some c => decide (r.step ≤ c + 1)
     | none => false)

/-- The outcome of the decision and the event it raises. -/
def decide512 (r : StepRec) (s : State) : Decision :=
  if !r.accepted || s.tc.tk.state != 2 || s.t.mem.ownFailed then .withheld
  else if predecessorOk r s then .fire else .held

def kickoffDecision (s : State) : State :=
  match lowestArmed s.t.steps with
  | none => s
  | some r =>
    if r.decision.isSome ∨ s.tc.tk.bc + 512 < r.k then s
    else
      let o := decide512 r s
      let s1 := modRec r (fun x => { x with decision := some o }) s
      match o with
      | .fire => s1
      | .held => raiseLocal 10 s1
      | .withheld => raiseLocal 12 s1

/-- R180. -/
def execKickoffDecision (s : State) : Host.Outcome State Fault Refusal := .next (kickoffDecision s)

/-! Late steps, R184 and R185. -/

/-- A grid with its late count: origin step and beat, period, late count. -/
structure Grid where
  gS : Nat
  gK : Nat
  period : Nat
  late : Nat
  deriving DecidableEq, Repr

/-- The nominal beat of step m. -/
def Grid.nominal (g : Grid) (m : Nat) : Int := (g.gK : Int) + ((m : Int) - g.gS) * g.period

/-- What the kickoff of step m at k does to a grid: the new grid, whether m is behind, and whether the late count has
reached LATE_WINDOW. -/
def Grid.kickoff (g : Grid) (c : Sched) (m k : Nat) (reorigin : Bool) : Grid × Bool × Bool :=
  if reorigin then ({ g with gS := m, gK := k, late := 0 }, false, false)
  else if (k : Int) ≤ g.nominal m then ({ g with late := 0 }, false, false)
  else
    let n := g.late + 1
    if n ≠ c.lateWindow then ({ g with late := n }, true, false)
    else if !c.policyStop && decide (g.period + c.quantum ≤ 60000000000) then
      (⟨m, k, g.period + c.quantum, 0⟩, true, true)
    else ({ g with late := n }, true, true)

/-- The member's grid at a kickoff. -/
def lateAtTsu (r : StepRec) (s : State) : State :=
  let m := s.t.mem
  let o := Grid.kickoff ⟨m.gS, m.gK, m.period, m.late⟩ m.sched r.step r.k r.reorigin
  let s1 := modMem (fun m => { m with
    gS := o.1.gS, gK := o.1.gK, period := o.1.period, late := o.1.late,
    lateFlag := o.2.2 || (o.2.1 && m.lateFlag) }) s
  if o.2.2 then raiseLocal 13 s1 else s1

/-! The kickoff, R181. -/

/-- The ARMED step whose kickoff beat has come. -/
def dueKick (s : State) : Option StepRec :=
  match lowestArmed s.t.steps with
  | some r => if r.k ≤ s.tc.tk.bc ∧ (r.decision.isSome ∨ r.missed) then some r else none
  | none => none

/-- The bays that take the strobe. -/
def strobed (s : State) : List Nat := (allBays s).filter (fun b => (s.bay b).lbcValid && !(s.bay b).dead)

/-- The strobe into the bays, each launched early by its path's delay, or kick_out of a TSU-W, with the return stamps of R148. -/
def fireStrobe (k : Nat) (rets : List BayReading) (s : State) : State :=
  let bs := if s.tc.fuse.kind = .w then [] else strobed s
  let s1 := modT (fun t => { t with
    kick := ⟨k, bs.foldl (fun n b => n + 2 ^ b) 0, bs.map (fun b => (b, (256 * k : Nat) - ((s.bay b).path : Int))),
      if s.tc.fuse.kind = .w then 1 else 0, s.tc.up⟩ }) s
  rets.foldl (fun s r => if bs.contains r.bay then pathSample r s else s) s1

/-- kick_out falls 8 ns after the kickoff (R410). -/
def kickFalls (s : State) : State :=
  if s.t.kick.out ≠ 0 ∧ s.t.kick.since + 8 ≤ s.tc.up then modT (fun t => { t with kick := { t.kick with out := 0 } }) s else s

/-- The step becomes LAUNCHED and current. Ended huddles are kept while the run thread's current step is theirs (R201). -/
def makeCurrent (r : StepRec) (s : State) : State :=
  let s1 := modRec r (fun x => { x with st := .launched, inLead := false }) s
  modT (fun t => { t with
    mem := { t.mem with
      lastLaunched := r.step, lastAttempt := r.attempt, launchedInEpoch := true,
      curStep := r.step, curAttempt := r.attempt, curK := r.k },
    hd := { t.hd with entered := t.hd.entered.filter (fun e => e.out.isNone ||
      t.cue.run.cur.any (fun c => c.epoch == e.epoch && c.step == e.step && c.attempt == e.attempt)) },
    kp := { t.kp with curStep := r.step, curValid := true } }) s1

/-- The kickoff fires. -/
def fireKick (r : StepRec) (rets : List BayReading) (s : State) : State :=
  let s1 := closeGap (makeCurrent r (startLanes (fireStrobe r.k rets s)))
  let s2 := if 0 < r.attempt then newGeneration (s1.t.sg.gen + 1) s1 else s1
  pokeKick (recheckAll (raiseLocal 1 (lateAtTsu r s2)))

/-- The step was not launched at its kickoff beat: it is FAILED and the TSU self-fences (R180, R293). -/
def failKick (r : StepRec) (s : State) : State :=
  let s1 := if r.decision = some .held ∧ !r.missed then raiseLocal 11 s else s
  let s2 := if r.inLead then takeHandler .lead s1 else s1
  enterSideline (modRec r (fun x => { x with st := .launched }) s2)

def kickoffTsu (rets : List BayReading) (s : State) : State :=
  match dueKick s with
  | some r => if r.decision = some .fire ∧ !r.missed then fireKick r rets s else failKick r s
  | none => s

/-- The root's kickoff of every step of a job whose beat has come: launched, and the grid (R169, R172, R184). -/
def rootKick (j : Nat) (r : RStep) (s : State) : State :=
  match s.job j with
  | none => s
  | some b =>
    let o := Grid.kickoff ⟨b.gS, b.gK, b.period, b.late⟩ b.sched r.step r.k r.reorigin
    let stop := o.2.2 && (b.sched.policyStop || decide (60000000000 < b.period + b.sched.quantum))
    modJob j (fun b => { b with
      gS := o.1.gS, gK := o.1.gK, period := o.1.period, late := o.1.late, stopArms := b.stopArms || stop,
      lateFlag := o.2.2 || (o.2.1 && b.lateFlag),
      steps := b.steps.map (fun x => if x == r then { x with launched := true } else x) }) s

def kickoffDxd (j : Nat) (s : State) : State :=
  match s.job j with
  | none => s
  | some b => b.steps.foldl (fun s r => if r.isArmed && decide (r.k ≤ s.dc.tk.bc) then rootKick j r s else s) s

/-- R181; at the root R169 and R184. -/
def execKickoff (d : Dev) (j : Nat) (rets : List BayReading) (s : State) : Host.Outcome State Fault Refusal :=
  .next (match d with
    | .tsu => kickoffTsu rets s
    | .dxd => kickoffDxd j s)

/-! CALL_OFF, R186 to R188. -/

/-- A CALL_OFF at a TSU: the expected step falls to STEP, and steps at or above it are withdrawn. At or after K the kickoff that was
decided fires first, from its stored target (R181), so that the step FAILS and is not called off (R190). -/
def callOffAtTsu (f : CallOffF) (s : State) : State :=
  let s0 := match dueKick s with
    | some r => if r.decision = some .fire ∧ !r.missed ∧ f.step ≤ r.step then fireKick r [] s else s
    | none => s
  let e := s0.t.mem.expected.map (fun e => min e f.step)
  tryChanges (withdraw (fun r => (r.armed || r.launched) && decide (f.step ≤ r.step)) e
    (modMem (fun m => { m with expected := e }) s0))


/-- The shadow's copy of a job that its acting member calls off: the steps are withdrawn and the job pauses, so that a
successor goes on from here (R30, R312, R316; log 71). -/
def shadowCallOff (ep : Nat) (f : CallOffF) (s : State) : State :=
  if !rootShadow s then s
  else
    let p : Pause :=
      { reason := if f.reason = 1 then 1 else 3, step := f.step, callAt := s.dc.tk.bc, targets := [], waiting := true,
        benchAt := none, deferTo := none, endsEpoch := false, lead := 0 }
    let off (b : Job) : Job := { b with
      steps := b.steps.map (fun x => if x.isArmed && decide (f.step ≤ x.step) then { x with withdrawn := true } else x),
      state := if f.reason ≤ 3 then 3 else b.state,
      pause := if f.reason ≤ 3 then some p else none, stopArms := b.stopArms || decide (4 ≤ f.reason),
      ending := if f.reason ≤ 3 then b.ending else some (if f.reason = 4 then 6 else 8) }
    modRef (fun r => { r with jobs := r.jobs.map (fun b =>
      if b.epoch == ep && decide (1 ≤ b.state ∧ b.state ≤ 4) then off b else b) }) s

/-- A CALL_OFF at a DX-D: probes, freed slots, no strobe, forwarded down. -/
def callOffAtDxd (p ep : Nat) (f : CallOffF) (s : State) : State :=
  let s1 := noteCallOff ep f.step (probeMissing ep f s)
  let s2 := shadowCallOff ep f (dropCombos ep f.step (freeCensus (fun c => c.id.epoch == ep && decide (f.step ≤ c.id.step)) s1))
  sendDown ⟨ep, .callOff f⟩ (some p) s2

/-- What a CALL_OFF that is taken does, once for its ORIGIN_SEQ (R71). -/
def callOffTake (d : Dev) (p ep : Nat) (f : CallOffF) : State → State :=
  byOseq d f.oseq (fun s =>
    match d with
    | .tsu => callOffAtTsu f s
    | .dxd => callOffAtDxd p ep f s)

def callOffReceive (d : Dev) (p : Nat) (h : LinkHdr) (ep : Nat) (f : CallOffF) (s : State) : State :=
  recvRetained d p h ⟨ep, .callOff f⟩ (callOffTake d p ep f) s

/-- R187. -/
def execCallOffReceive (d : Dev) (p : Nat) (h : LinkHdr) (ep : Nat) (f : CallOffF) (s : State) :
    Host.Outcome State Fault Refusal := .next (callOffReceive d p h ep f s)

end Sys2Proof.Machine
end

