-- ==== Sys2Proof/Machine/RootSteps.lean ====
section
/-!
DEFINITION. What the acting referee does with the steps of a job: first ARMs, slips, timeouts, the waits and replays of a
pause (R169 to R172, R312 to R314).
-/

namespace Sys2Proof.Machine

/-- The last attempt of a step in its job, plus 1; 0 where it was never armed (R165). -/
def nextAttempt (b : Job) (step : Nat) : Nat :=
  b.steps.foldl (fun n r => if r.step = step then max n (r.attempt + 1) else n) 0

/-- A step has been launched and not withdrawn, or is committed, or lies before FIRST_STEP. -/
def wasLaunched (b : Job) (step : Int) : Bool :=
  decide (step < b.sched.firstStep) || b.steps.any (fun r => (r.step : Int) == step && r.launched && !r.withdrawn) ||
    wasCommitted b step
where
  /-- A step at or below the last committed one. -/
  wasCommitted (b : Job) (step : Int) : Bool := match b.committedTo with
    | some c => decide (step ≤ c)
    | none => false

/-- A step is committed or lies before FIRST_STEP. -/
def isCommitted (b : Job) (step : Int) : Bool := decide (step < b.sched.firstStep) || wasLaunched.wasCommitted b step

/-- K of the predecessor in effect. -/
def kPrev (b : Job) (step : Nat) : Option Nat :=
  (b.steps.find? (fun r => r.step + 1 == step && !r.withdrawn)).map (·.k)

/-- kp of R169. -/
def kpOf (b : Job) (m : Nat) : Nat :=
  let nom := (Grid.nominal ⟨b.gS, b.gK, b.period, b.late⟩ m).toNat
  match kPrev b m with
  | some k => max nom (k + b.sched.minPeriod)
  | none => nom

/-- A checkpoint step, R317 and R319. -/
def isCheckpoint (b : Job) (m : Nat) : Bool :=
  b.marks.contains m || (b.ckptInterval != 0 && (m + 1 - b.sched.firstStep) % b.ckptInterval == 0)

/-- Record and queue an ARM of a step, R307; whoever arms has found room for the record (`ledgerRoom`). -/
def queueArm (ep : Nat) (r : RStep) (s : State) : State :=
  let q := takeOseq s
  let s1 := ledgerAppend 4 r.attempt r.step ep r.k [] r.checkpoint q.2
  let f : ArmF := ⟨q.1, r.step, r.attempt, r.k % 2 ^ 48, r.checkpoint, r.reorigin⟩
  afterLedger ep ⟨ep, .arm f⟩ (noteArm ep f s1)

/-- R165: step m has no attempt left, or a step at or above it that was withdrawn or failed was armed with the last one. -/
def exhausted (b : Job) (m : Nat) : Bool :=
  decide (b.sched.maxAttempt ≤ nextAttempt b m) ||
    b.steps.any (fun r => decide (m ≤ r.step) && !r.committed && decide (b.sched.maxAttempt ≤ r.attempt + 1))

/-- A step newly armed at the root. -/
def newRStep (b : Job) (m attempt k : Nat) (reorigin : Bool) : RStep :=
  { step := m, attempt := attempt, k := k, epoch := b.epoch, checkpoint := isCheckpoint b m, reorigin := reorigin,
    sent := true, armDone := false, accepted := false, doneDone := false, launched := false, withdrawn := false,
    committed := false, hall := none, checked := false, committing := false }

/-- Steps that no rule of R165 or R169 looks at any more are forgotten. -/
def pruneSteps (b : Job) : List RStep :=
  b.steps.filter (fun r => !(r.committed && decide (r.step + 16 < b.nextStep)))

/-- R164, R165 and R241: a job stops by itself. -/
def stopJob (j reason result : Nat) (s : State) : State :=
  match s.job j with
  | some b =>
    if b.ending.isSome ∨ b.state = 0 ∨ b.state = 5 then s
    else modJob j (fun b => { b with ending := some result, stopArms := true, pause := none }) (sendCallOff j reason s)
  | none => s

/-- The conditions of R169 for the first ARM of a job's next step. -/
def armSendOk (b : Job) (s : State) : Bool :=
  let m := b.nextStep
  (b.state == 1 || b.state == 2) && b.pause.isNone && b.ending.isNone && !b.stopArms && decide (m < 2 ^ 48) &&
    decide (256 ≤ ledgerFree s.x.lg) && decide (b.armFrom ≤ s.dc.tk.bc) &&
    decide (kpOf b m ≤ s.dc.tk.bc + b.sched.armLead) &&
    wasLaunched b ((m : Int) - b.sched.runAhead) && isCommitted b ((m : Int) - 8)

def armSend (j : Nat) (s : State) : State :=
  match s.job j with
  | none => s
  | some b =>
    let m := b.nextStep
    if !rootActs s || !armSendOk b s then s
    else if exhausted b m then stopJob j 5 5 s
    else
      let r := newRStep b m (nextAttempt b m) (max (kpOf b m) (s.dc.tk.bc + lEff b.sched)) false
      queueArm b.epoch r (setJobState j 2 (modJob j (fun b => { b with
        steps := pruneSteps b ++ [r], nextStep := m + 1 }) s))

/-- R169. -/
def execArmSend (j : Nat) (s : State) : Host.Outcome State Fault Refusal := .next (armSend j s)

/-! R170. -/

/-- Later ARMED steps are pushed to MIN_PERIOD spacing: each step of the list in ascending order with the kickoff before
it. -/
def pushSteps (minPeriod : Nat) (prev : Nat) : List RStep → List RStep
  | [] => []
  | r :: rest =>
    if r.isArmed then
      let k := max r.k (prev + minPeriod)
      { r with k := k, checked := r.checked && k == r.k } :: pushSteps minPeriod k rest
    else r :: pushSteps minPeriod prev rest

/-- The steps of a job after the slip of step m. -/
def slipSteps (c : Sched) (m : Nat) : List RStep → List RStep
  | [] => []
  | r :: rest =>
    if r.step = m ∧ r.isArmed then
      let k := r.k + c.slip
      { r with k := k, checked := false } :: pushSteps c.minPeriod k rest
    else r :: slipSteps c m rest

/-- m slips: re-time ARMs for every step whose K changed, in ascending order; the grid of a replayed step follows it
(R172). -/
def slipStep (j : Nat) (b : Job) (m : Nat) (s : State) : State :=
  let l := slipSteps b.sched m b.steps
  let moved := l.filter (fun r => r.isArmed && !b.steps.any (fun q => q.step == r.step &&
    q.attempt == r.attempt && q.k == r.k))
  let gK := match moved.find? (fun r => r.reorigin && r.step == b.gS) with
    | some r => r.k
    | none => b.gK
  if !ledgerRoom moved.length s then s
  else moved.foldl (fun s r => queueArm b.epoch r s) (modJob j (fun b => { b with steps := l, gK := gK }) s)

/-- The done census of the predecessor is complete, or there is none. -/
def prevDone (b : Job) (m : Nat) : Bool :=
  m == b.sched.firstStep || wasLaunched.wasCommitted b ((m : Int) - 1) ||
    b.steps.any (fun r => r.step + 1 == m && r.doneDone && !r.withdrawn)

def deadlineCheck (j step : Nat) (s : State) : State :=
  match s.job j with
  | none => s
  | some b => match b.steps.find? (fun r => r.step == step && r.isArmed) with
    | none => s
    | some r =>
      if !rootActs s || r.checked || decide (s.dc.tk.bc + 10000 < r.k) then s
      else
        let s1 := modJob j (fun b => { b with steps := b.steps.map (fun x => if x == r then { x with checked := true } else x) }) s
        if !r.armDone then (if b.ending.isSome then sendCallOff j 1 s1 else pauseJob j 1 [] true s1)
        else if prevDone b step then s1
        else match s1.job j with
          | some b1 => slipStep j b1 step s1
          | none => s1

/-- R170. -/
def execArmDeadlineCheck (j step : Nat) (s : State) : Host.Outcome State Fault Refusal := .next (deadlineCheck j step s)

/-- BENCH of REASON PROBE, R297: it changes no membership, and its target's package members probe it. -/
def sendProbe (ep die : Nat) (s : State) : State :=
  if !ledgerRoom 0 s then s else
  let q := takeOseq s
  afterLedger ep ⟨ep, .bench ⟨q.1, ep, 0, die, 0xB, 0⟩⟩ q.2

/-- A step that is not done, or whose hall scorecard or comparison is missing, is ended; the dies of any side that lack only closing
records are handed to the probes (R171, R281, R286; log 106). Where no ARMED step lies 10,000 beats ahead, R186 allows no CALL_OFF to
name the census to the probes: the job pauses all the same, waits its 200,000 beats and renews, and no missing member is probed
(DESIGN CHOICE, log 116). -/
def stepTimeout (j step : Nat) (s : State) : State :=
  match s.job j with
  | none => s
  | some b =>
    if rootActs s && b.ending.isNone && b.pause.isNone && b.steps.any (fun r => r.step == step && r.launched &&
        (!r.doneDone || r.hall.isNone || (epochPaired s r.epoch && !s.x.tl.compared.contains (r.epoch, r.step))) && !r.withdrawn && !r.committed && decide (r.k + b.sched.stepTimeout ≤ s.dc.tk.bc)) then
      let late := if b.steps.any (fun r => r.step == step && r.launched && r.doneDone && !r.withdrawn && !r.committed) &&
          epochPaired s b.epoch then closingMissing s b.epoch step else []
      late.foldl (fun s x => sendProbe x.1 x.2 s) (pauseJob j 3 [] true s)
    else s

/-- R171. -/
def execStepTimeout (j step : Nat) (s : State) : Host.Outcome State Fault Refusal := .next (stepTimeout j step s)

/-! Recovery, R312 to R314. -/

/-- A step launched although the CALL_OFF covers its number. -/
def launchedUnder (b : Job) (p : Pause) : Bool :=
  b.steps.any (fun r => decide (p.step ≤ r.step) && r.launched && !r.committed && !r.withdrawn)

/-- R298 and R312: after 200,000 beats the root benches, renews, or goes on in the same epoch. -/
def recoveryWaitEnd (j : Nat) (s : State) : State :=
  match s.job j with
  | none => s
  | some b => match b.pause with
    | none => s
    | some p =>
      if !rootActs s || !p.waiting || decide (s.dc.tk.bc < p.callAt + 200000) then s
      else
        let renew := p.targets.isEmpty && (p.reason == 3 || launchedUnder b p)
        let ts := if renew then [(0, 0, 0)] else p.targets
        let s1 := modJob j (fun b => { b with pause := some { p with waiting := false, targets := ts } }) s
        if ts.isEmpty then s1 else benchOrDefer j s1

def execRecoveryWaitEnd (j : Nat) (s : State) : Host.Outcome State Fault Refusal := .next (recoveryWaitEnd j s)

/-- R313: the BENCH that waited for a near kickoff. -/
def deferredBench (j : Nat) (s : State) : State :=
  match s.job j with
  | none => s
  | some b => match b.pause with
    | none => s
    | some p => match p.deferTo with
      | none => s
      | some t =>
        if !rootActs s || decide (s.dc.tk.bc < t) then s
        else benchOrDefer j (modJob j (fun b => { b with pause := some { p with deferTo := none } }) s)

def execDeferredBench (j : Nat) (s : State) : Host.Outcome State Fault Refusal := .next (deferredBench j s)

/-- The step from which a pause replays and the beat of its ARM, R314; none while the pause has not come so far. -/
def replayPoint (b : Job) (p : Pause) : Option (Nat × Nat) :=
  if p.waiting ∨ p.deferTo.isSome ∨ !p.targets.isEmpty then none
  else match p.benchAt with
    | some t => some ((b.committedTo.map (· + 1)).getD b.sched.firstStep, t + p.lead)
    | none => if p.reason = 1 ∧ !p.endsEpoch then some (p.step, p.callAt + 200000) else none

/-- The replay ARM, R314. In a job that SUSTAINED_LATE stops (R185), the step that the pause withdrew is still replayed, so that it is
not dropped (R189); later withdrawn steps are not armed again, a step never armed is none to replay, and the job is PAUSED with
SUSTAINED_LATE afterwards (log 116). -/
def replayArm (j : Nat) (s : State) : State :=
  match s.job j with
  | none => s
  | some b => match b.pause with
    | none => s
    | some p => match replayPoint b p with
      | none => s
      | some (r, a) =>
        if !rootActs s || b.state != 3 || b.ending.isSome || decide (s.dc.tk.bc < a) then s
        else if b.stopArms && nextAttempt b r == 0 then
          setJobState j 4 (modJob j (fun b => { b with result := 7, pause := none }) s)
        else if exhausted b r then stopJob j 5 5 s
        else if !ledgerRoom 1 s then s
        else
          let k := max a s.dc.tk.bc + lEff b.sched
          let x := newRStep b r (nextAttempt b r) k true
          queueArm b.epoch x (setJobState j 2 (modJob j (fun b => { b with
            steps := pruneSteps b ++ [x], nextStep := r + 1, gS := r, gK := k, pause := none }) s))

/-- R314. -/
def execReplayArm (j : Nat) (s : State) : Host.Outcome State Fault Refusal := .next (replayArm j s)

end Sys2Proof.Machine
end

