-- ==== Sys2Proof/Machine/Census.lean ====
section
/-!
DEFINITION. The census engine of a DX-D: combining, resolution, misfits, credits, the census tree and tree notices (R233 to
R245).
-/

namespace Sys2Proof.Machine

/-- (LCA, EXPECT) of a group under an epoch, R235; none where it is not loaded. -/
def groupOf (s : State) (ep g : Nat) : Option (Bool × Nat) :=
  match s.served ep with
  | some v => if v.loaded then some (tabGet (false, 0) v.groups g) else none
  | none => none

/-- GROUP of a descriptor fingerprint, R234. -/
def fpGroup (fp : Nat) : Nat := fp / 2 ^ 16 % 256

/-! Group membership at a package DX-D, R235 and R241. -/

/-- The die-kind bit of a die identifier: 0 compute, 1 memory-side, 2 I/O, 3 TSU-W (R20). -/
def dieKindBit (die : Nat) : Nat :=
  if dieClass die = 1 then 3 else if diePos die < 49 then 0 else if diePos die < 147 then 1 else 2

/-- A member belongs to a group entry. -/
def inGroupEntry (e die : Nat) : Bool :=
  let w := BitVec.ofNat 64 e
  let k := dieKindBit die
  let lo := if k = 3 then fld w 18 14 else fld w 46 14
  let hi := if k = 3 then fld w 4 14 else fld w 32 14
  bit w (60 + k) && decide (lo ≤ dieRank die ∧ dieRank die ≤ hi)

/-- A member belongs to group g of its epoch; group 0 is every member. -/
def inGroup (v : Served) (g die : Nat) : Bool :=
  g == 0 || (match v.table[g - 1]? with
    | some e => inGroupEntry e die
    | none => false)

/-- The die behind a lane of an epoch. -/
def laneDie (v : Served) (p : Nat) : Option Nat := (v.members.find? (fun m => m.port == p)).map (·.die)

/-! Slots. -/

def State.census (s : State) (i : CensusId) : Option Census := s.x.cs.open_.find? (fun c => c.id == i)

def modCensus (i : CensusId) (f : Census → Census) (s : State) : State :=
  modCs (fun c => { c with open_ := listModify (fun x => x.id == i) f c.open_ }) s

/-- The identity occupies a slot from now on; PEAK follows (R245). -/
def openCensus (i : CensusId) (s : State) : State :=
  if (s.census i).isSome then s
  else modCs (fun c => { c with
    open_ := c.open_ ++ [⟨i, [], [], [], false, false⟩], peak := max c.peak (c.open_.length + 1) }) s

/-- A child's latest entry, R74. -/
def putEntry (i : CensusId) (e : Entry) (s : State) : State :=
  modCensus i (fun c => { c with entries := (c.entries.filter (fun x => x.port != e.port)) ++ [e] }) s

/-- The total COUNT: the members below, or what the twin has combined (R233). -/
def Census.total (c : Census) : Nat :=
  let sum (l : List Entry) : Nat := l.foldl (fun n e => n + e.count) 0
  max (sum (c.entries.filter (fun e => decide (e.port < 192)))) (sum (c.entries.filter (fun e => decide (192 ≤ e.port))))

/-- The members that carried a fingerprint. -/
def Census.votes (c : Census) (fp : Nat) : Nat := c.entries.foldl (fun n e => if e.fp = fp then n + e.count else n) 0

/-- The reference: the fingerprint of most members, ties to the lowest port (R237). -/
def Census.reference (c : Census) : Nat :=
  let best := c.entries.foldl (fun (o : Option Entry) e => match o with
    | none => some e
    | some b =>
      if c.votes b.fp < c.votes e.fp ∨ (c.votes b.fp = c.votes e.fp ∧ e.port < b.port) then some e else o) none
  (best.map (·.fp)).getD 0

/-- (LCA, EXPECT) that applies to a census: arm and done censuses cover group 0 and resolve at the acting referee. -/
def censusGroup (s : State) (c : Census) : Option (Bool × Nat) :=
  if c.id.kind = 2 then groupOf s c.id.epoch (fpGroup c.reference)
  else (groupOf s c.id.epoch 0).map (fun g => (rootActs s, g.2))

/-! Misfits, R241. -/

/-- A misfit is judged here. -/
def judgeMisfit (i : CensusId) (p count die : Nat) (s : State) : State :=
  raise .dxd 0x13 1 (modCs (fun c => { c with
    log := (⟨i.slot, i.step, p, count, die⟩ :: c.log).take 8 })
    (modCensus i (fun c => { c with judged := c.judged ++ [p], misfits := c.misfits ++ [count] }) s))

/-- A KIND 0x3 report goes up. -/
def reportUp (i : CensusId) (count die : Nat) (s : State) : State :=
  enqueue .dxd (upPort s) none ⟨i.epoch, .censusUp ⟨3, i.slot, i.step, i.attempt, count, die * 2 ^ 32⟩⟩ s

/-- The die of a report on a child port. -/
def reportDie (s : State) (ep p : Nat) : Nat :=
  if s.x.straps.role = 0 then ((s.served ep).bind (fun v => laneDie v p)).getD 0xFFFFFFFF else 0xFFFFFFFF

/-- The children whose fingerprint differs from the reference are judged when the subtree completes. -/
def judgeAll (i : CensusId) (s : State) : State :=
  match s.census i with
  | none => s
  | some c => c.entries.foldl (fun s e =>
      if e.fp = c.reference ∨ c.judged.contains e.port then s
      else
        let n := if s.x.straps.role = 0 then 1 else e.count
        let s1 := judgeMisfit i e.port n (reportDie s i.epoch e.port) s
        match censusGroup s c with
        | some (false, _) => reportUp i n (reportDie s i.epoch e.port) s1
        | _ => s1) s

/-! Resolution, R233 and R237. -/

def State.rstep (s : State) (ep step attempt : Nat) : Option RStep :=
  s.x.rf2.jobs.findSome? (fun b => if b.epoch == ep && decide (1 ≤ b.state ∧ b.state ≤ 4) then
    b.steps.find? (fun x => x.step == step && x.attempt == attempt && x.epoch == ep) else none)

/-- The resolution of an arm census at the acting referee: ACCEPT once, then ACCEPTED; a late completion is ignored (R190,
R308). -/
def resolveArm (i : CensusId) (total : Nat) (s : State) : State :=
  let f : CensusDnF := ⟨0, i.slot, i.step, i.attempt, 1, total⟩
  let dn : Frame := ⟨i.epoch, .censusDn f⟩
  match s.rstep i.epoch i.step i.attempt with
  | none => s
  | some r =>
    if r.withdrawn then s
    else if r.accepted then afterLedger i.epoch dn (freeCensus (fun c => c.id == i) s)
    else if s.dc.tk.bc + 10000 ≤ r.k ∧ 0 < ledgerFree s.x.lg then
      let s1 := modRStep i.epoch i.step i.attempt (fun x => { x with armDone := true, accepted := true }) s
      let s2 := ledgerAppend 5 i.attempt i.step i.epoch 0 [] false s1
      afterLedger i.epoch dn (noteOutcome i.epoch f (freeCensus (fun c => c.id == i) s2))
    else s

/-- A CENSUS_DN leaves the resolving DX-D down its own tree and to its twin; where the same resolution came from the twin before, it
is the second copy (R25, R71, R237). -/
def sendResolved (ep : Nat) (f : CensusDnF) (s : State) : State :=
  bySeen .dxd (.censusDn ep f.kind f.slot f.step f.attempt f.outcome) (fun s =>
    sendTwin ⟨ep, .censusDn f⟩ (sendDown ⟨ep, .censusDn f⟩ none s)) s

/-- The resolution of a done census: RELEASE. -/
def resolveDone (i : CensusId) (total : Nat) (s : State) : State :=
  let s1 := modRStep i.epoch i.step i.attempt (fun x => { x with doneDone := true }) (freeCensus (fun c => c.id == i) s)
  sendResolved i.epoch ⟨1, i.slot, i.step, i.attempt, 0, total⟩ s1

/-- The job of an epoch stops with MISFIT, R241. -/
def misfitJob (ep : Nat) (s : State) : State :=
  if !rootActs s then s
  else match s.x.rf2.jobs.find? (fun b => b.epoch == ep && decide (1 ≤ b.state ∧ b.state ≤ 4)) with
  | some b => stopJob b.slot 4 6 s
  | none => s

/-- The resolution of a huddle at the lowest common ancestor. -/
def resolveHuddle (i : CensusId) (total : Nat) (s : State) : State :=
  match s.census i with
  | none => s
  | some c =>
    let bad := c.misfits.foldl (· + ·) 0
    let s1 := freeCensus (fun c => c.id == i) s
    if c.misfits.isEmpty then sendResolved i.epoch ⟨2, i.slot, i.step, i.attempt, 0, total⟩ s1
    else
      let s2 := sendResolved i.epoch ⟨2, i.slot, i.step, i.attempt, 3, bad⟩ s1
      if rootActs s then misfitJob i.epoch s2 else reportUp i bad 0xFFFFFFFF s2

/-- The one identity goes before the other, R240. -/
def CensusId.before (a b : CensusId) : Bool := decide (a.step < b.step ∨ (a.step = b.step ∧ a.slot < b.slot))

/-- The CENSUS_UP of a subtree. -/
def subtreeFrame (i : CensusId) (c : Census) : Frame :=
  ⟨i.epoch, .censusUp ⟨i.kind, i.slot, i.step, i.attempt, c.total, if i.kind = 2 then c.reference else 0⟩⟩

/-- The subtree's CENSUS_UP, or a wait for a credit behind the identities that wait already and go before it (R240). At the root it
goes to the acting member. -/
def sendSubtree (i : CensusId) (c : Census) (s : State) : State :=
  if c.sent then s
  else if i.kind = 2 ∧ s.x.straps.role ≠ 2 ∧
      (s.x.cs.credits = 0 ∨ s.x.cs.open_.any (fun w => w.waiting && w.id.before i)) then
    let was := s.x.cs.open_.any (·.waiting)
    raiseIf (!was) .dxd 0x13 0 (modCensus i (fun c => { c with waiting := true }) s)
  else
    let s1 := modCensus i (fun c => { c with sent := true, waiting := false })
      (modCs (fun c => { c with credits := if i.kind = 2 then c.credits - 1 else c.credits }) s)
    enqueue .dxd (upPort s) none (subtreeFrame i c) s1

/-- What the DX-D does with an identity after an entry, R237. -/
def completeCensus (i : CensusId) (s : State) : State :=
  match s.census i with
  | none => s
  | some c => match censusGroup s c with
    | none => s
    | some (lca, n) =>
      if n = 0 ∨ c.total < n then s
      else
        let s1 := if i.kind = 2 then judgeAll i s else s
        if !lca then sendSubtree i c s1
        else if i.kind = 0 then resolveArm i c.total s1
        else if i.kind = 1 then resolveDone i c.total s1
        else resolveHuddle i c.total s1

/-- A report that is not kept here goes up, or stops the job at the acting referee. -/
def passReport (p : Option Nat) (ep : Nat) (f : CensusUpF) (s : State) : State :=
  if rootActs s then misfitJob ep s else enqueue .dxd (upPort s) p ⟨ep, .censusUp f⟩ s

/-- A report that names no die: it may come from a lowest common ancestor below, and then no entry follows it. From a package DX-D it
does, since what that judges are members. -/
def unnamed (f : CensusUpF) : Bool := f.fp / 2 ^ 32 == 0xFFFFFFFF

/-- The reports that came before the first entry of an identity: they count at the lowest common ancestor, and go up elsewhere. -/
def takeEarly (i : CensusId) (s : State) : State :=
  match s.census i with
  | none => s
  | some c => match censusGroup s c with
    | none => s
    | some (lca, _) =>
      let l := (s.x.cs.early.filter (fun x => x.1 == i)).map (·.2.2)
      let s1 := modCs (fun c => { c with early := c.early.filter (fun x => x.1 != i) }) s
      if lca then modCensus i (fun c => { c with misfits := c.misfits ++ l.map (·.count) }) s1
      else l.foldl (fun s f => passReport none i.epoch f s) s1

/-- An entry of KIND 0x0 to 0x2 from a child. -/
def entryReceive (p ep : Nat) (f : CensusUpF) (s : State) : State :=
  let i : CensusId := ⟨f.kind, f.slot, f.step, f.attempt, ep⟩
  let s1 := openCensus i s
  let stranger := f.kind == 2 && s.x.straps.role == 0 && (match s.served ep with
    | some v => (match laneDie v p with
      | some die => v.loaded && !inGroup v (fpGroup f.fp) die
      | none => false)
    | none => false)
  if stranger then
    (match s1.census i with
     | some c =>
       if c.judged.contains p then s1
       else
         let s2 := judgeMisfit i p 1 (reportDie s ep p) s1
         (match groupOf s ep (fpGroup f.fp) with
          | some (true, _) => completeCensus i s2
          | _ => reportUp i 1 (reportDie s ep p) s2)
     | none => s1)
  else completeCensus i (takeEarly i (putEntry i ⟨p, f.count, f.fp⟩ s1))

/-- This DX-D is the lowest common ancestor of some huddle group of an epoch. -/
def someLca (s : State) (ep : Nat) : Bool :=
  match s.served ep with
  | some v => v.loaded && v.groups.any (fun g => g.2.1)
  | none => false

/-- A misfit report from a child, R241: kept where this DX-D is known to be the lowest common ancestor, else passed on; at
the acting referee it stops the job. One that comes before any entry of its identity is kept beside the census slots where this DX-D
can be the ancestor, and passed on where it cannot be, or where it comes from an ancestor below (log 40). -/
def reportReceive (p ep : Nat) (f : CensusUpF) (s : State) : State :=
  let i : CensusId := ⟨2, f.slot, f.step, f.attempt, ep⟩
  let lca : Option Bool := match s.census i with
    | some c => if c.entries.isEmpty then none else (censusGroup s c).map (·.1)
    | none => none
  match lca with
  | some true => modCensus i (fun c => { c with misfits := c.misfits ++ [f.count] }) s
  | some false => passReport (some p) ep f s
  | none =>
    if !someLca s ep || (unnamed f && dxdLevel s == 2) then passReport (some p) ep f s
    else modCs (fun c => { c with early := c.early ++ [(i, s.dc.up, f)] }) s

/-- A kept report that names no die and is followed by no entry for 1,024 beats comes from an ancestor below, whose entry never follows:
it goes up (DESIGN CHOICE, log 40). An entry of a subtree follows its reports on the link at once, but for a wait for credit. -/
def passEarly (s : State) : State :=
  let old (x : CensusId × Nat × CensusUpF) : Bool :=
    unnamed x.2.2 && decide (x.2.1 + 1024 ≤ s.dc.up) && !(s.census x.1).any (fun c => !c.entries.isEmpty)
  if s.x.cs.early.any old then
    (s.x.cs.early.filter old).foldl (fun s x => passReport none x.1.epoch x.2.2 s)
      (modCs (fun c => { c with early := c.early.filter (fun x => !old x) }) s)
  else s

/-- What a CENSUS_UP that is taken does. -/
def censusUpTake (p ep : Nat) (f : CensusUpF) (s : State) : State :=
  if f.kind = 3 then reportReceive p ep f s
  else if f.kind < 3 then entryReceive p ep f s else s

def censusUpReceive (p : Nat) (h : LinkHdr) (ep : Nat) (f : CensusUpF) (s : State) : State :=
  recvRetained .dxd p h ⟨ep, .censusUp f⟩ (censusUpTake p ep f) s

/-- R237 and R241. -/
def execCensusUpReceive (p : Nat) (h : LinkHdr) (ep : Nat) (f : CensusUpF) (s : State) :
    Host.Outcome State Fault Refusal := .next (censusUpReceive p h ep f s)

/-- The waiting identity that goes first, R240. -/
def firstWaiting (s : State) : Option Census :=
  s.x.cs.open_.foldl (fun o c => if c.waiting then
    (match o with
     | some b => if c.id.before b.id then some c else o
     | none => some c) else o) none

/-- Waiting identities go up while credits last. -/
def sendWaiting : Nat → State → State
  | 0, s => s
  | n + 1, s =>
    match firstWaiting s with
    | some c => if s.x.cs.credits = 0 then s else sendWaiting n (sendSubtree c.id c s)
    | none => s

/-- R240. -/
def execCensusCreditFree (s : State) : Host.Outcome State Fault Refusal :=
  .next (sendWaiting s.x.cs.open_.length s)

/-! The census tree, R239. -/

/-- A side carries a slot under a CENSUS_TREE value. -/
def carries (tree side slot : Nat) : Bool :=
  match tree with
  | 1 => side == 0
  | 2 => side == 1
  | _ => slot % 2 == side

/-- The value a DX-D uses; the root member that does not act takes it from whichever pair link carries the acting member's TIME. -/
def dxdTree (s : State) : Nat :=
  let own := if s.x.straps.side = 0 then 1 else 2
  if rootActs s then
    (if s.x.lg.solo then own
     else match s.x.rf2.notices with
       | n :: _ => if n.1 = 0 then 2 else 1
       | [] => 0)
  else if s.x.straps.role ≠ 2 ∧ (s.port .dxd (parentPort s)).st ≠ 5 ∧ s.dc.tk.keeper = 1 then 3 - own
  else if s.x.straps.role = 2 then
    match [twinPort s, parentPort s].findSome? (fun p => if (s.port .dxd p).st = 5 then (s.port .dxd p).lastTime else none) with
    | some f => f.censusTree
    | none => s.dc.censusTree
  else
    let p := if s.dc.tk.keeper = 1 then twinPort s else parentPort s
    match (s.port .dxd p).lastTime with
    | some f => f.censusTree
    | none => s.dc.censusTree

/-- The entries in ascending (STEP, SLOT) order. -/
def sortEntries (l : List CensusUpF) : List CensusUpF :=
  l.mergeSort (fun a b => decide (a.step < b.step ∨ (a.step = b.step ∧ a.slot ≤ b.slot)))

/-- A TSU resends what it has not seen resolved on the lane that now carries it (R238). -/
def resendEntries (old : Nat → Nat) (s : State) : State :=
  (sortEntries s.t.hd.census).foldl (fun s c =>
    if old c.slot = censusLane s c.slot then s
    else answerCensus c s) s

/-- The identities that this DX-D carries from now on, in ascending (STEP, SLOT) order. -/
def gained (was n : Nat) (s : State) : List Census :=
  (s.x.cs.open_.filter (fun c => !carries was s.x.straps.side c.id.slot && carries n s.x.straps.side c.id.slot)).mergeSort
    (fun a b => !b.id.before a.id)

/-- A DX-D sends again the CENSUS_UP of an identity whose subtree is complete on the tree that now carries it, or resolves it (R238,
R239). -/
def resendSubtree (s : State) (c : Census) : State :=
  if c.sent then enqueue .dxd (upPort s) none (subtreeFrame c.id c) s else completeCensus c.id s

def censusTreeChange (d : Dev) (s : State) : State :=
  match d with
  | .tsu =>
    let n := tsuTree s
    if n = s.tc.censusTree then s
    else
      let old (slot : Nat) : Nat := match s.tc.censusTree with
        | 1 => 0 | 2 => 1 | _ => slot % 2
      resendEntries old { s with tc := { s.tc with censusTree := n } }
  | .dxd =>
    let n := dxdTree s
    let was := s.dc.censusTree
    if n = was then s
    else
      let s1 := freeCensus (fun c => carries was s.x.straps.side c.id.slot && !carries n s.x.straps.side c.id.slot)
        { s with dc := { s.dc with censusTree := n } }
      (gained was n s1).foldl resendSubtree s1

/-- R239. -/
def execCensusTreeChange (d : Dev) (s : State) : Host.Outcome State Fault Refusal := .next (censusTreeChange d s)

/-! Tree notices. -/

/-- This DX-D has cause for a tree notice. -/
def noticeCause (s : State) : Bool :=
  s.x.straps.role != 2 && !s.x.cs.served.isEmpty &&
    ((s.port .dxd (parentPort s)).st != 5 ||
     (s.x.straps.role == 0 && s.x.cs.served.any (fun v => v.members.any (fun m => (s.port .dxd m.port).st != 5))))

/-- The TALLY frame of a tree notice. -/
def noticeFrame (s : State) : Frame :=
  ⟨lowestEpoch s, .tally ⟨selfTarget s, 0, 0xF, 0xFFFFFD, 0, 0, s.x.straps.side * 2 ^ 56⟩⟩

def treeNoticeSend (s : State) : State :=
  if !noticeCause s then modRef (fun r => { r with noticeAt := none }) s
  else
    let due := match s.x.rf2.noticeAt with
      | some t => decide (t + 1000000 ≤ s.dc.up)
      | none => true
    if due then
      modRef (fun r => { r with noticeAt := some s.dc.up })
        (enqueue .dxd (if (s.port .dxd (twinPort s)).st = 5 then twinPort s else upPort s) none (noticeFrame s) s)
    else s

/-- R239. -/
def execTreeNoticeSend (s : State) : Host.Outcome State Fault Refusal := .next (treeNoticeSend s)

/-- A notice reaches the root: side, sender and arrival. -/
def noteNotice (side sender : Nat) (s : State) : State :=
  modRef (fun r =>
    let hit (n : Nat × Nat × Nat) : Bool := n.1 == side && n.2.1 == sender
    if r.notices.any hit then { r with notices := listModify hit (fun _ => (side, sender, s.dc.up)) r.notices }
    else { r with notices := r.notices ++ [(side, sender, s.dc.up)] }) s

/-- R239: a notice is current for 4,000,000 beats. -/
def execTreeNoticeExpiry (s : State) : Host.Outcome State Fault Refusal :=
  .next (modRef (fun r => { r with notices := r.notices.filter (fun n => decide (s.dc.up < n.2.2 + 4000000)) }) s)

/-- CS_STATUS, R245. -/
def csStatus (s : State) : Word :=
  wd [(48, s.x.cs.open_.length), (32, s.x.cs.peak), (0, s.x.cs.open_.countP (·.waiting))]

/-- The read clears PEAK to what is in use. -/
def clearPeak (s : State) : State := modCs (fun c => { c with peak := c.open_.length }) s

/-- R245. -/
def execCsStatusRead (rq : Nat) (s : State) : Host.Outcome State Fault Refusal :=
  .next (admitRead .dxd rq 0x13 0x100 csStatus clearPeak s)

end Sys2Proof.Machine
end

