-- ==== Sys2Proof/Machine/Scores.lean ====
section
/-!
DEFINITION. Scores at a DX-D (R279 to R281) and the lock-step store of the root (R283, R286, R291).
-/

namespace Sys2Proof.Machine

/-! SCORE, R279 to R281. -/

/-- The step of an epoch and attempt that a 16-bit step number names here; none: that attempt is not armed here. -/
def scoreStep (s : State) (ep attempt s16 : Nat) : Option Nat :=
  (s.x.kicks.find? (fun k => k.epoch == ep && k.attempt == attempt && k.step % 65536 == s16 && !k.withdrawn)).map (·.step)

def Combine.is (c : Combine) (ep step attempt : Nat) : Bool := c.epoch == ep && c.step == step && c.attempt == attempt

def State.combo (s : State) (ep step attempt : Nat) : Combine :=
  (s.x.tl.combos.find? (fun c => c.is ep step attempt)).getD ⟨ep, step, attempt, [], [], [], false⟩

def putCombo (c : Combine) (s : State) : State :=
  modScores (fun t => { t with combos := (t.combos.filter (fun x => !x.is c.epoch c.step c.attempt)) ++ [c] }) s

/-- The combination is finished. -/
def closeCombo (c : Combine) (s : State) : State :=
  modScores (fun t => { t with combos := t.combos.filter (fun x => !x.is c.epoch c.step c.attempt) }) s

/-- Bytes of `n` fragments of a port, where all are held. -/
def fragBytes (c : Combine) (p n : Nat) : Option (List Byte) :=
  (upTo n).foldl (fun o i => match o, c.frags.find? (fun f => f.1 == p && f.2.1 == i) with
    | some l, some f => some (l ++ (f.2.2 ++ List.replicate 16 0).take 16)
    | _, _ => none) (some [])

/-- Two fragments of a 32-byte value go up. -/
def sendValue (c : Combine) (v : List Byte) (s : State) : State :=
  (upTo 2).foldl (fun s i =>
    enqueue .dxd (upPort s) none ⟨c.epoch, .score ⟨i, 1, c.attempt, c.step % 65536, sub v (16 * i) 16⟩⟩ s) (closeCombo c s)

/-- The engine digest of R279. -/
def engineDigest (step base : Nat) (combined : List (List Byte)) : List Byte :=
  sha256 (bytesBE 6 step ++ bytesBE 4 base ++ combined.flatten)

/-- The hall scorecard of R280. -/
def hallCard (step engines ws v : Nat) : List Byte :=
  sha256 (bytesBE 6 step ++ bytesBE 2 engines ++ bytesBE 2 ws ++ bytesBE 32 v)

/-- A package DX-D that holds every member's scorecard sends the engine digest. -/
def packageDone (v : Served) (c : Combine) (s : State) : State :=
  let lanes := (v.members.map (·.port)).mergeSort (· ≤ ·)
  if lanes.isEmpty || lanes.any (fun p => !c.vals.any (fun x => x.1 == p)) then s
  else
    let base := (v.members.head?.map (fun m => m.die / 256 * 256)).getD 0
    sendValue c (engineDigest c.step base (lanes.map (fun p => bytesBE 32 ((c.vals.find? (fun x => x.1 == p)).map (·.2) |>.getD 0)))) s

/-- A KIND 0x0 fragment from a member lane. -/
def scoreFromLane (p : Nat) (v : Served) (c : Combine) (s : State) : State :=
  match fragBytes c p 8, laneDie v p with
  | some card, some die =>
    let rest := { c with frags := c.frags.filter (fun f => f.1 != p) }
    if sub card 96 32 = combinedOf die card then
      let c1 := { rest with vals := rest.vals ++ [(p, natBE (sub card 96 32))] }
      packageDone v c1 (putCombo c1 s)
    else
      raise .dxd 0x09 0 (modScores (fun t => { t with corrupt := sat16 (t.corrupt + 1) })
        (putCombo { rest with corrupt := rest.corrupt ++ [p] } s))
  | _, _ => putCombo c s

/-- The sum of R280 at a DX-D above the package level, passed up, or the hall scorecard at the acting referee. The other root
member keeps its own for a takeover. -/
def sumDone (v : Served) (c : Combine) (s : State) : State :=
  if v.ports.isEmpty || v.ports.any (fun p => !c.vals.any (fun x => x.1 == p)) then s
  else
    let sum := (c.vals.foldl (fun n x => n + x.2) 0) % 2 ^ 256
    if s.x.straps.role ≠ 2 then sendValue c (bytesBE 32 sum) s
    else if !rootActs s then s
    else
      let s1 := closeCombo c s
      match s1.x.rf2.jobs.find? (fun b => b.epoch == c.epoch && decide (1 ≤ b.state ∧ b.state ≤ 4)) with
      | none => s1
      | some b =>
        match s1.rstep c.epoch c.step c.attempt with
        | none => s1
        | some r =>
          if !r.accepted then s1
          else
            let h := hallCard c.step b.engines b.ws sum
            let s2 := modRStep c.epoch c.step c.attempt (fun x => { x with hall := some h }) s1
            let s3 := modScores (fun t => { t with hallValid := true, hallStep := c.step, hall := h }) s2
            commitSteps b.slot (raise .dxd 0x09 1 s3)

/-- A KIND 0x1 fragment from a child port. -/
def scoreFromChild (p : Nat) (v : Served) (c : Combine) (s : State) : State :=
  match fragBytes c p 2 with
  | some b =>
    let c1 := { c with frags := c.frags.filter (fun f => f.1 != p), vals := c.vals ++ [(p, natBE b)] }
    sumDone v c1 (putCombo c1 s)
  | none => putCombo c s

/-- One SCORE frame. -/
def scoreTake (p ep : Nat) (f : ScoreF) (s : State) : State :=
  match s.served ep, scoreStep s ep f.attempt f.step16 with
  | some v, some step =>
    let pkg := s.x.straps.role = 0
    if f.kind = 1 ∧ (192 ≤ p ∨ !v.ports.contains p) then modScores (fun t => { t with stray := sat16 (t.stray + 1) }) s
    else if pkg ∧ f.kind ≠ 0 ∨ ¬ pkg ∧ f.kind ≠ 1 then s
    else
      let c := s.combo ep step f.attempt
      if c.vals.any (fun x => x.1 == p) ∨ c.frags.any (fun x => x.1 == p && x.2.1 == f.fragment) ∨ c.corrupt.contains p then s
      else
        let c1 := { c with frags := c.frags ++ [(p, f.fragment, f.data)] }
        if pkg then scoreFromLane p v c1 s else scoreFromChild p v c1 s
  | _, _ => s

def scoreReceive (p : Nat) (h : LinkHdr) (ep : Nat) (f : ScoreF) (s : State) : State :=
  recvRetained .dxd p h ⟨ep, .score f⟩ (fun s =>
    if s.x.straps.role = 2 then
      (match scoreStep s ep f.attempt f.step16 with
       | some step => bySeen .dxd (.score ep f.kind f.fragment step f.attempt p) (scoreTake p ep f) s
       | none => s)
    else scoreTake p ep f s) s

/-- R279 to R281. -/
def execScoreReceive (p : Nat) (h : LinkHdr) (ep : Nat) (f : ScoreF) (s : State) : Host.Outcome State Fault Refusal :=
  .next (scoreReceive p h ep f s)

/-! Lock-step entries, R283. -/

/-- The effect of a write of LS_Pp_CFG: an entry that is written compares every step afresh. -/
def lsCfgWrite (e : Nat) (v : Word) (s : State) : State :=
  let s1 := setReg .dxd (0xA118 + 0x20 * e) 0xFFFF v s
  let s2 := modEnt e (fun x => { x with done := [] }) s1
  if bit v 63 then lsRecheck e s2 else modEnt e (fun x => { x with valid := false }) s2

def lsPairValid (rq e : Nat) (v : Word) (s : State) : State :=
  if e < 8 then admitWrite .dxd rq 0x0A (0x118 + 0x20 * e) v (lsCfgWrite e v) s else s

/-- R283. -/
def execLsPairValidWrite (rq e : Nat) (v : Word) (s : State) : Host.Outcome State Fault Refusal :=
  .next (lsPairValid rq e v s)

/-! The store, R286. -/

/-- The sides of valid entries that a member belongs to: entry, side and index of the partner set. -/
def lsPlaces (s : State) (ep die : Nat) : List (Nat × Nat × Nat) :=
  if dieClass die ≠ 0 then []
  else (upTo 8).flatMap (fun e =>
    if (s.lsEnt e).valid then
      (upTo 3).filterMap (fun n =>
        let a := lsSide s e n
        if a.epoch = ep ∧ a.first ≤ dieRank die ∧ dieRank die < a.first + a.count then some (e, n, dieRank die - a.first)
        else none)
    else [])

/-- A record has a partner on another side of some entry. -/
def lsPartnered (s : State) (r : LsRec) : Bool :=
  (lsPlaces s r.epoch r.die).any (fun pl =>
    let all := lsSides s pl.1
    (upTo all.length).any (fun n => n != pl.2.1 && (match all[n]? with
      | some a => (lsFind s a pl.2.2 r.step (diePos r.die) r.lane r.window).isSome
      | none => false)))

/-- Keep one half of a record; the oldest unmatched one makes room in a full store. Where every record held has its partner, the new
one is the unmatched one. -/
def lsKeep (ep step : Nat) (f : TallyF) (s : State) : State :=
  let hit (r : LsRec) : Bool := r.is ep step f.die f.lane f.window && r.attempt == f.attempt
  let put (r : LsRec) : LsRec := if f.half = 0 then { r with lo := some f.tally } else { r with hi := some f.tally }
  if s.x.tl.recs.any hit then modScores (fun t => { t with recs := listModify hit put t.recs }) s
  else
    let s1 := if s.x.tl.recs.length < 65536 then s
      else match s.x.tl.recs.find? (fun r => !lsPartnered s r) with
        | some r => modScores (fun t => { t with recs := t.recs.erase r, unmatched := sat16 (t.unmatched + 1) }) s
        | none => s
    if 65536 ≤ s1.x.tl.recs.length then
      modScores (fun t => { t with unmatched := if f.half = 0 then sat16 (t.unmatched + 1) else t.unmatched }) s1
    else modScores (fun t => { t with recs := t.recs ++ [put ⟨ep, step, f.attempt, f.die, f.lane, f.window, none, none⟩] }) s1

/-- Every closing record of a step has arrived from every side. -/
def lsComplete (s : State) (e step : Nat) : Bool :=
  (lsSpots s e).all (fun q => (lsSides s e).all (fun a => (lsFind s a q.1 step q.2.1 q.2.2 0xFFFFFF).isSome))

/-- The values of one record on every side that holds it. -/
def lsValues (s : State) (e step i pos lane window : Nat) : List (Nat × Nat) :=
  let all := lsSides s e
  (upTo all.length).filterMap (fun n => (all[n]?).bind (fun a =>
    (lsFind s a i step pos lane window).map (fun r => (n, r.hi.getD 0 * 2 ^ 64 + r.lo.getD 0))))

/-- Values that differ among the sides. -/
def differ (l : List (Nat × Nat)) : Bool := match l with
  | [] => false
  | v :: rest => rest.any (fun w => w.2 != v.2)

/-- The side whose value differs from two equal ones; none is undecided. -/
def minority (l : List (Nat × Nat)) : Option Nat :=
  match l with
  | [a, b, c] =>
    if b.2 = c.2 ∧ a.2 ≠ b.2 then some a.1 else if a.2 = c.2 ∧ b.2 ≠ a.2 then some b.1
    else if a.2 = b.2 ∧ c.2 ≠ a.2 then some c.1 else none
  | _ => none

/-- The probe windows held of a spot, ascending. -/
def lsWindows (s : State) (e step i pos lane : Nat) : List Nat :=
  let all := lsSides s e
  ((s.x.tl.recs.filter (fun r => r.step == step && r.lane == lane && r.window != 0xFFFFFF &&
    all.any (fun a => r.epoch == a.epoch && r.die == (a.first + i) * 2 ^ 16 + pos))).map (·.window)).dedup.mergeSort (· ≤ ·)

/-- The divergence of one spot, logged; confirmed ones bench the die (R286, R292). -/
def lsDiverged (e step : Nat) (q : Nat × Nat × Nat) (s : State) : State :=
  let c := lsValues s e step q.1 q.2.1 q.2.2 0xFFFFFF
  let w := ((lsWindows s e step q.1 q.2.1 q.2.2).find? (fun w => differ (lsValues s e step q.1 q.2.1 q.2.2 w))).getD 0xFFFFFF
  let m := minority c
  let d : LsDiv := ⟨m.isSome, step, w, q.2.2, e, m.getD 3, (lsSide s e 0).first + q.1, q.2.1⟩
  modScores (fun t => { t with div := (d :: t.div).take 8 }) s

/-- The confirmed dies of a step: die identifier and epoch. -/
def lsConvicted (s : State) (e step : Nat) (spots : List (Nat × Nat × Nat)) : List (Nat × Nat) :=
  (spots.filterMap (fun q => (minority (lsValues s e step q.1 q.2.1 q.2.2 0xFFFFFF)).bind (fun n =>
    ((lsSides s e)[n]?).map (fun a => ((a.first + q.1) * 2 ^ 16 + q.2.1, a.epoch))))).dedup

/-- A step of an epoch has been compared by every valid entry that names the epoch. Its records stay until every side has committed
it, since a side that has not may replay it and is then compared afresh (R286, R287; log 92). -/
def noteCompared (step : Nat) (s : State) : State :=
  (s.x.rf2.jobs.map (·.epoch)).foldl (fun s ep =>
    let es := (upTo 8).filter (fun e => (s.lsEnt e).valid && (lsSides s e).any (fun a => a.epoch == ep))
    if !es.isEmpty && es.all (fun e => (s.lsEnt e).done.contains step) && !s.x.tl.compared.contains (ep, step) then
      modScores (fun t => { t with compared := t.compared ++ [(ep, step)] }) s
    else s) s

/-- The decision of R286 for one entry and step; then the steps that waited for it commit. -/
def lsDecide (e step : Nat) (s : State) : State :=
  if !(s.lsEnt e).valid || (s.lsEnt e).done.contains step || !lsComplete s e step then s
  else
    let spots := lsSpots s e
    let bad := spots.filter (fun q => differ (lsValues s e step q.1 q.2.1 q.2.2 0xFFFFFF))
    let wins := spots.flatMap (fun q => (lsWindows s e step q.1 q.2.1 q.2.2).map (fun w => lsValues s e step q.1 q.2.1 q.2.2 w))
    let alone := wins.countP (fun l => decide (l.length < 2))
    let skew := wins.any differ
    let guilty := lsConvicted s e step bad
    let s1 := bad.foldl (fun s q => lsDiverged e step q s) s
    let s2 := modScores (fun t => { t with
      agree := if bad.isEmpty && !skew then sat16 (t.agree + 1) else t.agree,
      skew := if bad.isEmpty && skew then sat16 (t.skew + 1) else t.skew,
      diverged := if bad.isEmpty then t.diverged else sat16 (t.diverged + 1),
      unmatched := sat16 (t.unmatched + alone) }) s1
    let s3 := if !bad.isEmpty then raise .dxd 0x0A 0 s2 else if skew then raise .dxd 0x0A 1 s2 else s2
    let s4 := noteCompared step (modEnt e (fun x => { x with done := x.done ++ [step] }) s3)
    let s5 := s4.x.rf2.jobs.foldl (fun s b => commitSteps b.slot s) s4
    guilty.foldl (fun s g => benchMember 0 g.1 3 g.2 s) s5

/-- A window or closing record at the acting referee. -/
def lsRecord (ep : Nat) (f : TallyF) (s : State) : State :=
  let places := lsPlaces s ep f.die
  let step := (jobOfEpoch s ep).bind (fun b =>
    (b.steps.find? (fun r => r.attempt == f.attempt && r.step % 65536 == f.step16 && r.epoch == ep && !r.withdrawn)).map (·.step))
  match places, step with
  | [], _ => s
  | _, none => s
  | l, some n => (l.map (·.1)).dedup.foldl (fun s e => lsDecide e n s) (lsKeep ep n f s)

/-- LS_COUNTS, R291. -/
def lsCounts (s : State) : Word :=
  let t := s.x.tl
  wd [(48, t.agree), (32, t.skew), (16, t.diverged), (0, t.unmatched)]

def clearLsCounts (s : State) : State :=
  modScores (fun t => { t with agree := 0, skew := 0, diverged := 0, unmatched := 0 }) s

/-- R291. -/
def execLsCountsRead (rq : Nat) (s : State) : Host.Outcome State Fault Refusal :=
  .next (admitRead .dxd rq 0x0A 0x208 lsCounts clearLsCounts s)

/-! TALLY, R24, R71, R286, R294 and R239. -/

/-- A fence report at the acting referee; its sender is part of what tells it apart (log 41). -/
def takeReport (ep : Nat) (f : TallyF) (s : State) : State :=
  let r : Report := ⟨f.tally / 2 ^ 48 % 256, f.die, f.tally / 2 ^ 56, f.tally % 2 ^ 32, ep, s.dc.up⟩
  if s.x.rf2.reports.any (fun q => q.kind == r.kind && q.target == r.target && q.reason == r.reason &&
      q.sender == r.sender && q.epoch == r.epoch && decide (s.dc.up ≤ q.at_ + 1000000)) then s
  else rootReport r s

/-- A TALLY frame that is new here. -/
def tallyTake (p ep : Nat) (f : TallyF) (s : State) : State :=
  if !rootActs s then
    let s1 := if f.lane = 0xF ∧ f.window = 0xFFFFFE then raise .dxd 0x14 0 s else s
    enqueue .dxd (upPort s1) (some p) ⟨ep, .tally f⟩ s1
  else if f.lane = 0xF ∧ f.window = 0xFFFFFE then takeReport ep f s
  else if f.lane = 0xF ∧ f.window = 0xFFFFFD then noteNotice (f.tally / 2 ^ 56) f.die s
  else lsRecord ep f s

def tallyReceive (p : Nat) (h : LinkHdr) (ep : Nat) (f : TallyF) (s : State) : State :=
  recvRetained .dxd p h ⟨ep, .tally f⟩ (fun s =>
    if f.lane = 0xF ∧ (f.window = 0xFFFFFE ∨ f.window = 0xFFFFFD) then tallyTake p ep f s
    else bySeen .dxd (.tally ep f.die f.lane f.window f.half f.step16 f.attempt) (tallyTake p ep f) s) s

/-- R286. -/
def execTallyReceive (p : Nat) (h : LinkHdr) (ep : Nat) (f : TallyF) (s : State) : Host.Outcome State Fault Refusal :=
  .next (tallyReceive p h ep f s)

end Sys2Proof.Machine
end

