-- ==== Sys2Proof/Machine/Membership.lean ====
section
/-!
DEFINITION. Membership at the devices (R292 to R305): BENCH frames, fencing, the join of an epoch, probes, admission
limits, unpaired reports and STOCK frames.
-/

namespace Sys2Proof.Machine

/-! JOB and ADMIT images begin their application at READY, one at a time (R266, R302, R393). -/

/-- Application of a JOB or ADMIT image begins, unless its VERSION differs from the running boot image; `again` names the new epoch of
a JOB image that is applied again. -/
def beginImage (again : Option Nat) (img : List Byte) (s : State) : State :=
  if imgFw img ≠ s.tc.boot.fw then s
  else modKp (fun k => { k with loading := true }) (modBoot .tsu (fun b => { b with image := some img, applying := again }) s)

/-- The next held image begins: a new JOB image, then the JOB image held for a new epoch, then the ADMIT image. -/
def nextHeld (s : State) : State :=
  if s.tc.boot.stage ≠ 6 ∨ s.tc.boot.image.isSome then s
  else
    let s1 := match s.tc.boot.heldJob with
      | some j => beginImage none j (modBoot .tsu (fun b => { b with heldJob := none, again := none }) s)
      | none => match s.tc.boot.again, s.tc.boot.jobImage with
        | some e, some j => beginImage (some e) j (modBoot .tsu (fun b => { b with again := none }) s)
        | _, _ => s
    match s1.tc.boot.image, s1.tc.boot.heldAdmit with
    | none, some a => beginImage none a (modBoot .tsu (fun b => { b with heldAdmit := none }) s1)
    | _, _ => s1

/-! BENCH at a TSU, R302 and R305. -/

/-- The TSU belongs to the engine or weight server that a bench replaces. -/
def ofReplaced (f : BenchF) (die : Nat) : Bool := dieClass f.target == dieClass die && dieRank f.target == dieRank die

/-- The bench fences this TSU. -/
def fencesTsu (f : BenchF) (die : Nat) : Bool :=
  f.reason != 0 && ((f.kind == 0 && f.target == die) || (f.kind == 2 && ofReplaced f die))

/-- A fenced TSU stays in SIDELINE until its next reset (R301). -/
def fenceTsu (s : State) : State :=
  let s1 := modMem (fun m => { m with fenced := true }) s
  if s1.tc.tk.sideline then s1
  else
    let s2 := modTk .tsu (fun t => { t with sideline := true }) s1
    setTimeState .tsu (tsuTimeState s2) (raiseLocal 7 s2)

/-- A TSU that may join again leaves SIDELINE (R293). -/
def leaveSideline (s : State) : State :=
  if s.t.mem.fenced || !s.tc.tk.sideline then s
  else
    let s1 := modTk .tsu (fun t => { t with sideline := false }) s
    setTimeState .tsu (tsuTimeState s1) s1

/-- The closing RENEW of a job, which admits no member: no device has its TARGET (R320; log 117). -/
def closesEpoch (f : BenchF) : Bool := f.reason == 0 && f.target == 0xFFFFFFFF

/-- A BENCH at a TSU: one that ends its epoch makes it leave; those not fenced and not replaced may join the next, once the JOB image
that they hold has been applied again with the new EPOCH (R266). A TSU that is not to join stays in SIDELINE where it is there
(R293, R305). -/
def benchAtTsu (ep : Nat) (f : BenchF) (s : State) : State :=
  if f.kind = 1 ∨ f.newEpoch = ep ∨ s.t.mem.epoch = 0 then s
  else
    let die := s.t.mem.die
    let out := closesEpoch f || (f.reason != 0 && ofReplaced f die)
    let s1 := openGap (leaveEpoch (if out then none else some f.newEpoch) s)
    if fencesTsu f die then fenceTsu s1
    else if out then s1
    else
      let held := s.t.kp.jobValid && s.t.kp.loadedEpoch == ep
      leaveSideline (if held then nextHeld (modBoot .tsu (fun b => { b with again := some f.newEpoch }) s1) else s1)

/-! BENCH at a DX-D. -/

/-- Every port goes to DOWN and stays there, one that is IDLE too (R301, R388). -/
def holdPorts (s : State) : State :=
  let up := s.dc.up
  dxdReselect ((upTo (usedPorts s) ++ [192, 193]).foldl (fun s p =>
    let q := s.port .dxd p
    if q.st = 1 then s
    else
      let s1 := modPort .dxd p (fun q => { (q.toDown up) with hbMissed := hbMissedNow up q }) s
      if q.live then portEvent .dxd p 1 s1 else s1) s)

/-- A fenced DX-D, R301. -/
def fenceDxd (s : State) : State :=
  let s1 := modTk .dxd (fun t => { t with sideline := true }) (modRef (fun r => { r with fenced := true }) s)
  holdPorts (showDxdState s1)

/-- A BENCH acted on here is an event of the MB page (R322). -/
def noteBenchHere (f : BenchF) (s : State) : State := noteBench f.kind f.target f.reason s

/-- An epoch ends at a DX-D and its successor takes its place (R70, R188, R281, R305); after a closing RENEW none does. Where a member
is replaced, the CENSUS images of the new epoch bring new groups, and a hall DX-D learns from them which ports lead to its members
(R235; log 11); the shadow root takes both from its copy of the job (R30). -/
def passEpoch (ep : Nat) (f : BenchF) (s : State) : State :=
  let s1 := endSteps ep 0 s
  let hard := f.reason != 0
  let gone (v : Served) : Bool := v.epoch == ep &&
    (closesEpoch f || (s.x.straps.role == 0 && hard && v.members.any (fun m => ofReplaced f m.die)))
  let moved (v : Served) : Served :=
    if v.epoch != ep then v
    else
      let w := { v with deadline := s.dc.up + f.admitLead, ports := if s.x.straps.role == 1 && hard then [] else v.ports }
      if hard then { w with loaded := false, groups := [] } else w
  let s2 := modCs (fun c => { c with served := (c.served.filter (fun v => !gone v)).map moved }) s1
  let s3 := modRef (fun r => { r with lastEpoch := max r.lastEpoch f.newEpoch }) (renameServed ep f.newEpoch s2)
  match s.x.straps.role == 2, jobOfEpoch s3 f.newEpoch with
  | true, some b => serveJob b (replayFrom ep f s3)
  | _, _ => s3

/-- A package DX-D probes the named die (R297), and notes the BENCH that it acts on. -/
def probeDie (ep : Nat) (f : BenchF) (s : State) : State :=
  if s.x.straps.role ≠ 0 then s
  else match (s.served ep).bind (fun v => v.members.find? (fun m => m.die == f.target)) with
  | some m => startProbe ep m.port (noteBenchHere f s)
  | none => s

/-- A BENCH at a DX-D: forwarded, then acted on. -/
def benchAtDxd (p ep : Nat) (f : BenchF) (s : State) : State :=
  let fr : Frame := ⟨ep, .bench f⟩
  if f.kind = 1 then
    let s1 := match portToward s f.target with
      | some q => if (s.port .dxd q).st = 5 then enqueue .dxd q (some p) fr s else s
      | none => s
    if f.target = selfTarget s then fenceDxd (noteBenchHere f s1) else s1
  else
    let s1 := sendDown fr (some p) s
    if f.reason = 0xB then probeDie ep f s1
    else if f.newEpoch = ep then s1
    else noteBenchHere f (passEpoch ep f s1)

/-- What a BENCH that is taken does, once for its ORIGIN_SEQ (R71). -/
def benchTake (d : Dev) (p ep : Nat) (f : BenchF) : State → State :=
  byOseq d f.oseq (fun s =>
    match d with
    | .tsu => benchAtTsu ep f s
    | .dxd => benchAtDxd p ep f s)

def benchReceive (d : Dev) (p : Nat) (h : LinkHdr) (ep : Nat) (f : BenchF) (s : State) : State :=
  recvRetained d p h ⟨ep, .bench f⟩ (benchTake d p ep f) s

/-- R300 to R302. -/
def execBenchReceive (d : Dev) (p : Nat) (h : LinkHdr) (ep : Nat) (f : BenchF) (s : State) :
    Host.Outcome State Fault Refusal := .next (benchReceive d p h ep f s)

/-! The join, R302. -/

/-- Every condition of the join. -/
def joinOk (e : Nat) (s : State) : Bool :=
  let t := s.t
  s.tc.boot.stage == 6 && t.mem.epoch == 0 && !t.mem.fenced && !s.tc.tk.sideline && s.tc.tk.state == 2 &&
    !(allBays s).any (fun b => (s.bay b).dead) && !t.st.dark && t.kp.fits && t.kp.applied && t.kp.jobValid &&
    t.kp.loadedEpoch == e && !t.kp.loading

/-- Waiters end at the join: fabric requesters are woken with REFUSED, threads take their handler. -/
def dropWaiters (s : State) : State :=
  let ws := s.t.sg.cells.flatMap (fun x => x.2.waiters.filterMap (fun w => w.2.map (fun o => (x.1, w.1, o))))
  let msgs : List Wake := ws.filterMap (fun w => match w.2.2.owner with
    | .fabric rq => some ⟨w.1, w.2.1, false, .fabric rq⟩
    | .thread _ => none)
  let waits (t : Thr) : Bool := match t.wait with
    | some (.cwait _ _) => t.alive
    | _ => false
  let s0 := if waits s.t.cue.lead then takeHandler .lead s else s
  let s1 := if waits s.t.cue.run then takeHandler .run s0 else s0
  modSg (fun g => { g with
    cells := g.cells.foldl (fun t x => tabSet {} t x.1 { granted := x.2.granted }) [], wakes := g.wakes ++ msgs }) s1

/-- The TSU joins an epoch. -/
def joinEpoch (e : Nat) (s : State) : State :=
  let s1 := modMem (fun m => { m with
    epoch := e, nextEpoch := none, expected := none, launchedInEpoch := false, firstArmed := none, ownFailed := false,
    firstStep := m.sched.firstStep, gapOpen := true }) s
  let s2 := recheckAll (newGeneration 0 (dropWaiters s1))
  let s3 := modSg (fun g => { g with compact := decide (s.t.kp.engines ≤ 512) }) s2
  raiseLocal 6 (openGap (emptyLedger s3))

def epochJoin (s : State) : State :=
  match s.t.mem.nextEpoch with
  | some e => if joinOk e s then joinEpoch e s else s
  | none => s

/-- R302. -/
def execEpochJoin (s : State) : Host.Outcome State Fault Refusal := .next (epochJoin s)

/-! SIDELINE, R293. -/

def sourcelessFence (s : State) : State :=
  match s.t.mem.sourceless with
  | some t => if s.t.mem.epoch ≠ 0 ∧ t + 10000 ≤ s.tc.up then enterSideline s else s
  | none => s

/-- R293. -/
def execSourcelessSelfFence (s : State) : Host.Outcome State Fault Refusal := .next (sourcelessFence s)

/-! Probes, R296. -/

/-- The next request of a probe; one that falls due while the link is out of CAL and UP goes unanswered. -/
def probeSend (p : Nat) (s : State) : State :=
  match (s.port .dxd p).probe with
  | some m =>
    if m.sent < 8 ∧ m.from_ + 10000 * m.sent ≤ s.dc.up then
      let s1 := modPort .dxd p (fun q => { q with probe := some { m with sent := m.sent + 1 } }) s
      if (s.port .dxd p).live then enqueue .dxd p none ⟨0, .probe ⟨false, false, 0xFF00 + m.sent, 0, 0⟩⟩ s1 else s1
    else s
  | none => s

/-- R296. -/
def execProbeRequestSend (p : Nat) (s : State) : Host.Outcome State Fault Refusal := .next (probeSend p s)

def probeEnd (p : Nat) (s : State) : State :=
  match (s.port .dxd p).probe with
  | some m =>
    if s.dc.up < m.from_ + 80000 then s
    else
      let s1 := modPort .dxd p (fun q => { q with probe := none }) s
      if 4 ≤ m.answered ∧ m.lateOk then s1
      else match laneMember s p with
        | some (ep, x) => fenceReport 0 x.die rProbeFail ep s1
        | none => s1
  | none => s

/-- R296: a failed probe is reported. -/
def execProbeEnd (p : Nat) (s : State) : Host.Outcome State Fault Refusal := .next (probeEnd p s)

/-! Admission, R305. -/

def admitDeadline (p : Nat) (s : State) : State :=
  match s.x.cs.served.find? (fun v => v.members.any (fun m => m.port == p)) with
  | none => s
  | some v => match v.members.find? (fun m => m.port == p) with
    | none => s
    | some m =>
      if s.x.straps.role ≠ 0 ∨ m.joined ∨ m.reported ∨ s.dc.up < v.deadline then s
      else
        let s1 := modCs (fun c => { c with served := c.served.map (fun w => if w.epoch == v.epoch then
          { w with members := w.members.map (fun x => if x.port == p then { x with reported := true } else x) } else w) }) s
        fenceReport 0 m.die (if entryDiffers s p then 7 else 6) v.epoch s1

/-- R305. -/
def execAdmitDeadline (p : Nat) (s : State) : Host.Outcome State Fault Refusal := .next (admitDeadline p s)

/-! Reports without a partner, R295. -/

def pairTimeout (s : State) : State :=
  let old (r : Report) : Bool := decide (r.at_ + 1000000 < s.dc.up)
  modRef (fun r => { r with
    unpaired := sat16 (r.unpaired + r.reports.countP old), reports := r.reports.filter (fun q => !old q) }) s

/-- R295. -/
def execFencePairTimeout (s : State) : Host.Outcome State Fault Refusal := .next (pairTimeout s)

/-! STOCK, R335 and R336. -/

/-- The engine of a die that shows three lost phases is benched whole. -/
def darkEngine (ep : Nat) (f : StockF) (s : State) : State :=
  if f.kind = 0 ∧ 3 ≤ f.phases ∧ ep ≠ 0 ∧ rootActs s then
    match jobOfDie s f.die ep with
    | some b => benchMember 2 (dieClass f.die * 2 ^ 30 + dieRank f.die * 2 ^ 16) 9 b.epoch s
    | none => s
  else s

def stockReceive (p : Nat) (h : LinkHdr) (ep : Nat) (f : StockF) (s : State) : State :=
  let fr : Frame := ⟨ep, .stock f⟩
  recvRetained .dxd p h fr (fun s =>
    if s.x.straps.role ≠ 2 then enqueue .dxd (upPort s) (some p) fr s
    else
      let key := f.die * 2 + f.kind % 2
      let s1 := modRef (fun r => { r with stocks := (r.stocks.filter (fun x => x.1 != key)) ++ [(key, f)] }) s
      if rootActs s1 then darkEngine ep f s1 else enqueue .dxd (upPort s1) (some p) fr s1) s

/-- R336. -/
def execStockReceive (p : Nat) (h : LinkHdr) (ep : Nat) (f : StockF) (s : State) : Host.Outcome State Fault Refusal :=
  .next (stockReceive p h ep f s)

end Sys2Proof.Machine
end

