-- ==== Sys2Proof/Machine/JobsBase.lean ====
section
/-!
DEFINITION. Job descriptors and what a job sends at its start: the schedule block (R167, R168), the checks of R318, the
JOB and CENSUS images (R235, R250, R380 to R383).
-/

namespace Sys2Proof.Machine

/-! The schedule block, R167 and R168. -/

/-- "Where 0 stands for a default". -/
def dflt (n d : Nat) : Nat := if n = 0 then d else n

/-- A schedule block of 64 bytes with its defaults applied. -/
def schedOf (b : List Byte) : Sched :=
  let period := be b 16 8
  { firstStep := be b 0 6, firstKickoff := be b 8 8, period := period, minPeriod := dflt (be b 24 8) period,
    armLead := dflt (be b 32 4) 200000, slip := dflt (be b 36 4) 32768,
    quantum := dflt (be b 40 8) (max 1 (period / 64)), stepTimeout := dflt (be b 48 8) (4 * period),
    runAhead := dflt (be b 56 1) 4, maxAttempt := dflt (be b 57 1) 16, lateWindow := dflt (be b 58 2) 64,
    policyStop := be b 60 1 % 2 == 1 }

/-- No reserved bit of the block is set. -/
def schedReserved (b : List Byte) : Bool := be b 6 2 == 0 && decide (be b 60 1 < 2) && be b 61 3 == 0

/-- Every field lies in its range. -/
def schedRanges (c : Sched) : Bool :=
  decide (10000 ≤ c.period ∧ c.period ≤ 60000000000) && decide (10000 ≤ c.minPeriod ∧ c.minPeriod ≤ c.period) &&
  decide (20000 ≤ c.armLead ∧ c.armLead ≤ 4000000000) && decide (20000 ≤ c.slip ∧ c.slip ≤ 4000000000) &&
  decide (1 ≤ c.quantum ∧ c.quantum ≤ c.period) && decide (c.period ≤ c.stepTimeout ∧ c.stepTimeout ≤ 2 ^ 46) &&
  decide (1 ≤ c.runAhead ∧ c.runAhead ≤ 4) && decide (1 ≤ c.maxAttempt ∧ c.maxAttempt ≤ 255) &&
  decide (1 ≤ c.lateWindow ∧ c.lateWindow ≤ 65535)

/-- R168: the root accepts the block at `now`. -/
def schedOk (now : Nat) (b : List Byte) : Bool :=
  let c := schedOf b
  schedRanges c && schedReserved b && decide (20000 ≤ lEff c) && inWindow now c.firstKickoff

/-- A block turned away (RESULT 1) for a FIRST_KICKOFF outside the window also sets TIME_RANGE in the TK page (R38). -/
def noteRange (result : Nat) (b : List Byte) (s : State) : State :=
  raiseIf (result == 1 && !inWindow s.dc.tk.bc (schedOf b).firstKickoff) .dxd 0x00 6 s

/-! The descriptor, R317. -/

/-- The job-descriptor region of the attic, R392, holds these bytes. -/
def inDescRegion (off len : Nat) : Bool := decide (off % 64 = 0 ∧ 0x104000 ≤ off ∧ off + len ≤ 0x140000)

/-- The slots whose bit is set in a map. -/
def mapSlots (m : List Byte) : List Nat := (upTo (8 * m.length)).filter (fun i => (be m (i / 8) 1).testBit (7 - i % 8))

def descGroups (d : List Byte) : List Nat := (upTo (be d 9 1)).map (fun g => be d (2696 + 8 * g) 8)
def descEngines (d : List Byte) : List Nat := mapSlots (sub d 136 2048)
def descWs (d : List Byte) : List Nat := mapSlots (sub d 2184 512)
def descSched (d : List Byte) : List Byte := sub d 72 64

/-- FORMAT, job number, reserved bits, class and counts. -/
def descOk (d : List Byte) : Bool :=
  be d 0 4 == 1 && be d 4 4 != 0 && decide (be d 8 1 < 2) && (descGroups d).all (fun g => g % 16 == 0) &&
  (classUnits (be d 10 2)).isSome && be d 12 2 != 0 && be d 12 2 == (descEngines d).length &&
  be d 14 2 == (descWs d).length

/-- A mapped slot is present, not benched and in no epoch. -/
def slotFree (s : State) (ws : Bool) (slot : Nat) : Bool :=
  (s.port .dxd (rootPortOf ws slot)).st == 5 && !s.x.rf2.benchedSlots.contains (ws, slot) && !slotInJob s ws slot

/-- R318: RESULT of the first check that fails, 0 where all pass. -/
def submitResult (s : State) (off : Nat) : Nat :=
  let head := atticBytes s off 2696
  if !inDescRegion off 2696 || !inDescRegion off (2696 + 8 * be head 9 1) then 2
  else
    let d := atticBytes s off (2696 + 8 * be head 9 1)
    if !descOk d then 2
    else if !schedOk s.dc.tk.bc (descSched d) then 1
    else if !((descEngines d).all (slotFree s false) && (descWs d).all (slotFree s true)) then 3
    else 0

/-! The fingerprint, R250. -/

/-- The version set, R251 and R391. -/
def versionSet (s : State) : List FwEntry :=
  [cachedFw s 3, cachedFw s 4, cachedFw s 5, cachedFw s 6, s.dc.boot.fw, s.x.at_.version5, ⟨0, 0, 0, 0⟩, ⟨0, 0, 0, 0⟩]

/-- The configuration fingerprint. -/
def configFp (engines ws cls : Nat) (digest : List Byte) (fw : List FwEntry) : List Byte :=
  sha256 (bytesBE 4 1 ++ bytesBE 2 engines ++ bytesBE 2 ws ++ bytesBE 2 cls ++ bytesBE 6 0 ++ digest ++ fw.flatMap fwBytes)

/-! Images, R380 to R383. -/

/-- The 176 bytes of the JOB section, with RANK 0. -/
def jobBody (b : Job) (sched : List Byte) (joinMs : Nat) : List Byte :=
  bytesBE 4 b.epoch ++ bytesBE 4 b.job ++ bytesBE 2 b.mapClass ++ bytesBE 2 b.engines ++ bytesBE 2 b.ws ++
    bytesBE 1 (b2n b.cold) ++ bytesBE 1 0 ++ bytesBE 16 b.seed ++ bytesBE 4 b.seedIndex ++ bytesBE 4 0 ++ b.fp ++ b.digest ++
    sched ++ bytesBE 4 joinMs ++ bytesBE 4 0

/-- The schedule block as the JOB section carries it. -/
def schedBytes (c : Sched) : List Byte :=
  bytesBE 6 c.firstStep ++ bytesBE 2 0 ++ bytesBE 8 c.firstKickoff ++ bytesBE 8 c.period ++ bytesBE 8 c.minPeriod ++
    bytesBE 4 c.armLead ++ bytesBE 4 c.slip ++ bytesBE 8 c.quantum ++ bytesBE 8 c.stepTimeout ++ bytesBE 1 c.runAhead ++
    bytesBE 1 c.maxAttempt ++ bytesBE 2 c.lateWindow ++ bytesBE 1 (b2n c.policyStop) ++ bytesBE 3 0

/-- JOIN_WARM or JOIN_COLD in ms, R318 and R383. -/
def joinMs (s : State) (cold : Bool) : Nat :=
  if cold then orOne (s.regF .dxd 0x14108 0 16) * 1000 else orOne (s.regF .dxd 0x14108 16 16)

/-- The identifier of the JOB image of an epoch. -/
def jobImageId (ep : Nat) : Nat := 0x1000 + ep % 4096

/-- The JOB image of a job under its present epoch. -/
def jobImage (s : State) (b : Job) : List Byte :=
  imageOf (jobImageId b.epoch) 0xF s.dc.boot.fw 0xFFFFFFFF (sectionOf 0x10 (jobBody b (schedBytes b.sched) (joinMs s b.cold)))

/-- The JOB image goes to every DX-D below the root (R382). -/
def sendJobImage (b : Job) (s : State) : State :=
  imageAfterLedger (downPorts s) (configFrames b.epoch (jobImageId b.epoch) (jobImage s b)) s

end Sys2Proof.Machine
end

