-- ==== Sys2Proof/Machine/Jobs.lean ====
section
/-!
DEFINITION. Jobs at the acting referee, complaints, spares, the ledger and the root takeover (R297, R304, R307 to R311,
R317 to R323).
-/

namespace Sys2Proof.Machine

/-- A write that only the acting referee takes (R321). -/
def atReferee (f : State → State) (s : State) : State := if rootActs s then f s else s

/-- A die identifier that a member can hold, R20 and R22. -/
def dieOk (die : Nat) : Bool :=
  decide (die / 2 ^ 8 % 2 ^ 8 = 0) && (if dieClass die = 0 then decide (diePos die < 175) else decide (dieClass die = 1 ∧ diePos die < 4))

/-! Complaints, R297. -/

/-- BENCH of REASON PROBE: it changes no membership. Where the ledger has no room for the ORIGIN record of its ORIGIN_SEQ, the complaint
is not filed. -/
def fileComplaint (die : Nat) (s : State) : State :=
  match jobOfDie s die 0 with
  | some b =>
    if s.x.rf2.complaint = 1 ∨ !dieOk die ∨ !ledgerRoom 0 s then s
    else
      sendProbe b.epoch die (modRef (fun r => { r with complaint := 1, complaintDie := die, complaintAt := s.dc.up }) s)
  | none => s

/-- The effect of a write of MB_COMPLAINT. -/
def complaintWrite (v : Word) (s : State) : State :=
  atReferee (fun s =>
    let s1 := setReg .dxd 0x14138 0xFFFFFFFF v s
    if bit v 61 then fileComplaint (fld v 0 32) s1 else s1) s

/-- R297. -/
def execMbComplaintGo (rq : Nat) (v : Word) (s : State) : Host.Outcome State Fault Refusal :=
  .next (admitWrite .dxd rq 0x14 0x138 v (complaintWrite v) s)

/-- The referee is benching this die already: it is a target of a pause, or its BENCH waits for its record (R316). -/
def beingBenched (die : Nat) (s : State) : Bool :=
  s.x.rf2.jobs.any (fun b => b.pause.any (fun p => p.targets.any (fun t => benchesDie t.1 t.2.1 t.2.2 die))) ||
    s.x.lg.msgs.any (fun m => match m.frame.payload with
      | .bench f => benchesDie f.kind f.target f.reason die
      | _ => false)

def complaintTimeout (s : State) : State :=
  if s.x.rf2.complaint = 1 ∧ s.x.rf2.complaintAt + 200000 ≤ s.dc.up ∧ !beingBenched s.x.rf2.complaintDie s then
    raise .dxd 0x14 3 (modRef (fun r => { r with complaint := 2 }) s)
  else s

/-- R297. -/
def execComplaintTimeout (s : State) : Host.Outcome State Fault Refusal := .next (complaintTimeout s)

/-! The ledger, R307 to R311. -/

/-- A step of a job stopped by SUSTAINED_LATE is still to commit, R185. -/
def lateLeft (b : Job) : Bool :=
  b.steps.any (fun r => r.sent && !r.committed && !r.withdrawn)

/-- A COMMIT record is durable: its step is COMMITTED (R31, R183, R185, R319, R320). -/
def commitDurable (c : LedgerRec) (s : State) : State :=
  let hit (r : RStep) : Bool := r.step == c.step && r.attempt == c.attempt && r.epoch == c.epoch && r.committing
  match s.x.rf2.jobs.find? (fun b => b.steps.any hit) with
  | none => s
  | some b =>
    let s1 := modJob b.slot (fun b => { b with
      steps := b.steps.map (fun r => if hit r then { r with committed := true, committing := false } else r),
      committedTo := some (max c.step (b.committedTo.getD 0)) }) s
    let s2 := raiseIf c.ckpt .dxd 0x15 2 (lsForget c.step s1)
    let s3 := if c.step = 2 ^ 48 - 1 then stopJob b.slot 5 9 s2 else s2
    match s3.job b.slot with
    | some n =>
      if n.stopArms && n.ending.isNone && n.pause.isNone && n.state == 2 && !lateLeft n then
        setJobState b.slot 4 (modJob b.slot (fun b => { b with result := 7 }) s3)
      else s3
    | none => s3

/-! MB_STATUS. -/

/-- ROLE of MB_STATUS. -/
def mbRole (s : State) : Nat :=
  match s.x.straps.role with
  | 0 => 0
  | 2 => if s.x.rf2.acting then 3 else 2
  | _ => 1

def mbStatus (s : State) : Word :=
  wd [(62, mbRole s), (61, b2n s.x.lg.solo), (48, s.x.rf2.jobs.countP (fun b => decide (1 ≤ b.state ∧ b.state ≤ 4))),
    (32, s.x.rf2.unpaired), (0, s.x.rf2.lastEpoch)]

def clearUnpaired (s : State) : State := modRef (fun r => { r with unpaired := 0 }) s

/-- R321. -/
def execMbStatusRead (rq : Nat) (s : State) : Host.Outcome State Fault Refusal :=
  .next (admitRead .dxd rq 0x14 0x100 mbStatus clearUnpaired s)

/-! MB_JOB_CMD, R317 to R320. -/

/-- The job slot that MB_JOB_SEL selects. -/
def jobSel (s : State) : Nat := s.regF .dxd 0x14110 0 4

/-- The job record of a slot is replaced. -/
def putJob (b : Job) (s : State) : State :=
  modRef (fun r => { r with jobs := r.jobs.filter (fun x => x.slot != b.slot) ++ [b] }) s

/-- A free slot's record. -/
def freeJob (j result : Nat) : Job :=
  { slot := j, state := 0, result := result, benched := 0, epoch := 0, job := 0, seedIndex := 0, seed := 0, mapClass := 0,
    engines := 0, ws := 0, digest := [], fp := [], ckptInterval := 0, groups := [], cold := false, engineMap := [],
    wsMap := [], sched := {}, gS := 0, gK := 0, period := 0, late := 0, nextStep := 0, armFrom := 0, steps := [],
    committedTo := none, marks := [], pause := none, ending := none, stopArms := false }

/-- The job of a descriptor, accepted at this beat. -/
def jobOfDesc (j ep : Nat) (d : List Byte) (s : State) : Job :=
  let c := schedOf (descSched d)
  let cold := be d 8 1 == 1
  { freeJob j 0 with
    state := 1, epoch := ep, job := be d 4 4, seedIndex := be d 32 4, seed := be d 16 16, mapClass := be d 10 2,
    engines := be d 12 2, ws := be d 14 2, digest := sub d 40 32, ckptInterval := be d 36 4, groups := descGroups d,
    cold := cold, engineMap := descEngines d, wsMap := descWs d, sched := c, gS := c.firstStep, gK := c.firstKickoff,
    period := c.period, nextStep := c.firstStep, armFrom := s.dc.tk.bc + (joinMs s cold + 1) * 1000000,
    fp := configFp (be d 12 2) (be d 14 2) (be d 10 2) (sub d 40 32) (versionSet s) }

/-- An accepted job: its records, its images, its lock-step entries (R283, R304, R318). -/
def acceptJob (b : Job) (s : State) : State :=
  let s1 := serveJob b (modRef (fun r => { r with lastEpoch := b.epoch }) (putJob b s))
  let s2 := ledgerAppend 1 0 0 b.epoch b.job [] false s1
  let s3 := ledgerAppend 2 0 0 b.epoch 0 (bytesBE 4 0 ++ bytesBE 2 0xFFFF) false s2
  let s4 := sendJobImage b (sendCensusImages b s3)
  let s5 := (upTo 8).foldl (fun s e => if (s.lsEnt e).valid then lsRecheck e s else s) s4
  raise .dxd 0x14 2 s5

/-- SUBMIT. A slot in use takes none, and no job is accepted once epoch 0xFFFF_FFFF has been issued (R299). -/
def submitJob (off : Nat) (s : State) : State :=
  let j := jobSel s
  let old := ((s.job j).map (·.state)).getD 0
  if (1 ≤ old ∧ old ≤ 4) ∨ 0xFFFFFFFF ≤ s.x.rf2.lastEpoch then s
  else
    let r := submitResult s off
    if r ≠ 0 then noteRange r (sub (atticBytes s off 136) 72 64) (raiseIf (old != 0) .dxd 0x14 2 (putJob (freeJob j r) s))
    else
      let d := atticBytes s off (2696 + 8 * be (atticBytes s off 10) 9 1)
      acceptJob (jobOfDesc j (nextEpochOf s) d s) s

/-- The block of a RESUME after SUSTAINED_LATE, R320: 0 taken, else RESULT. -/
def resumeResult (b : Job) (off : Nat) (s : State) : Nat :=
  let blk := atticBytes s off 64
  if !inDescRegion off 64 then 2
  else if !schedOk s.dc.tk.bc blk || (schedOf blk).firstStep != (b.committedTo.map (· + 1)).getD b.sched.firstStep then 1
  else 0

/-- RESUME of a PAUSED job. How members learn the new schedule block is not said (R383 sends one JOB image per job): the root's own grid
changes, and the ARMs that follow carry its kickoffs (DESIGN CHOICE, log 122). A job stopped by SPLIT_REFEREE waits for its end (R311). -/
def resumeJob (off : Nat) (s : State) : State :=
  let j := jobSel s
  match s.job j with
  | none => s
  | some b =>
    if b.state ≠ 4 ∨ b.result = 0xB ∨ b.ending.isSome then s
    else if b.pause.isSome then
      benchOrDefer j (setJobState j 3 (modJob j (fun b => { b with result := 0 }) s))
    else if b.stopArms then
      let r := resumeResult b off s
      if r ≠ 0 then noteRange r (atticBytes s off 64) (modJob j (fun b => { b with result := r }) s)
      else
        let c := schedOf (atticBytes s off 64)
        setJobState j 2 (modJob j (fun b => { b with
          result := 0, stopArms := false, sched := c, gS := c.firstStep, gK := c.firstKickoff, period := c.period, late := 0,
          nextStep := c.firstStep }) s)
    else setJobState j (if b.steps.isEmpty then 1 else 2) (modJob j (fun b => { b with result := 0 }) s)

/-- BENCH_OPERATOR: a member of the job that MB_JOB_SEL selects is benched (R321). -/
def operatorBench (die : Nat) (s : State) : State :=
  match s.job (jobSel s) with
  | some b => if dieOk die && (slotOf b (dieClass die) (dieRank die)).isSome then pauseJob b.slot 2 [(0, die, 0xC)] false s else s
  | none => s

/-- The effect of a write of MB_JOB_CMD. -/
def jobCmdWrite (v : Word) (s : State) : State :=
  atReferee (fun s =>
    match fld v 61 3 with
    | 1 => submitJob (fld v 0 32) s
    | 2 => resumeJob (fld v 0 32) s
    | 3 => stopJob (jobSel s) 5 8 s
    | 4 => operatorBench (fld v 0 32) s
    | _ => s) s

/-- R318. -/
def execJobSubmit (rq : Nat) (v : Word) (s : State) : Host.Outcome State Fault Refusal :=
  .next (admitWrite .dxd rq 0x14 0x118 v (jobCmdWrite v) s)

/-- R320. -/
def execJobResume (rq : Nat) (v : Word) (s : State) : Host.Outcome State Fault Refusal :=
  .next (admitWrite .dxd rq 0x14 0x118 v (jobCmdWrite v) s)

/-- R320. -/
def execJobEndCommand (rq : Nat) (v : Word) (s : State) : Host.Outcome State Fault Refusal :=
  .next (admitWrite .dxd rq 0x14 0x118 v (jobCmdWrite v) s)

/-- R300 and R321. -/
def execBenchOperator (rq : Nat) (v : Word) (s : State) : Host.Outcome State Fault Refusal :=
  .next (admitWrite .dxd rq 0x14 0x118 v (jobCmdWrite v) s)

/-- A step no longer keeps its job from ending, R320. -/
def stepSettled (s : State) (b : Job) (r : RStep) : Bool :=
  r.committed || r.withdrawn || (!r.committing && decide (r.k + b.sched.stepTimeout ≤ s.dc.tk.bc))

/-- The closing RENEW: it ends the epoch and admits no member, as its TARGET says (log 117). -/
def closingRenew (b : Job) (s : State) : State :=
  let ne := nextEpochOf s
  let q := takeOseq (modRef (fun r => { r with lastEpoch := ne }) s)
  let s1 := ledgerAppend 2 0 0 ne (b.epoch * 2 ^ 32) (bytesBE 4 0xFFFFFFFF ++ bytesBE 2 0xFFFF) false q.2
  let s2 := afterLedger b.epoch ⟨b.epoch, .bench ⟨q.1, ne, 0, 0xFFFFFFFF, 0, admitLead s⟩⟩ s1
  let s3 := modScores (fun t => { t with recs := t.recs.filter (fun r => r.epoch != b.epoch) }) s2
  modCs (fun c => { c with served := c.served.filter (fun v => v.epoch != b.epoch) }) (endSteps b.epoch 0 s3)

def jobEnd (j : Nat) (s : State) : State :=
  match s.job j with
  | none => s
  | some b => match b.ending with
    | none => s
    | some result =>
      if !rootActs s || b.state == 0 || b.state == 5 || !b.steps.all (stepSettled s b) ||
          decide (0xFFFFFFFF ≤ s.x.rf2.lastEpoch) || !ledgerRoom 2 s then s
      else
        let s1 := ledgerAppend 8 0 0 b.epoch result [] false (closingRenew b s)
        setJobState j 5 (modJob j (fun b => { b with result := result, ending := none, pause := none, steps := [] }) s1)

/-- R320. -/
def execJobEnd (j : Nat) (s : State) : Host.Outcome State Fault Refusal := .next (jobEnd j s)

/-! Spares, R304. -/

/-- The jobs of a spare's kind. -/
def spareJobs (ws : Bool) (s : State) : List Job :=
  s.x.rf2.jobs.filter (fun b => decide (1 ≤ b.state ∧ b.state ≤ 4) && (if ws then b.ws != 0 else b.engines != 0))

/-- The effect of a write of MB_SPARE: the entry is listed, its slot may serve again (R301), and it becomes a standby. -/
def spareWrite (v : Word) (s : State) : State :=
  atReferee (fun s =>
    let ws := bit v 62
    let slot := fld v 32 14
    let e : Spare := { valid := bit v 63, ws := ws, slot := slot, bestClass := fld v 0 16 }
    let s1 := modRef (fun r => { r with
      spares := tabSet {} r.spares (s.regF .dxd 0x14148 0 6) e,
      benchedSlots := if e.valid then r.benchedSlots.filter (fun x => x != (ws, slot)) else r.benchedSlots }) s
    if e.valid then (spareJobs ws s).foldl (fun s b =>
      imageAfterLedger [rootPortOf ws slot] (configFrames b.epoch (jobImageId b.epoch) (jobImage s b)) s) s1
    else s1) s

/-- R304. -/
def execMbSpareWrite (rq : Nat) (v : Word) (s : State) : Host.Outcome State Fault Refusal :=
  .next (admitWrite .dxd rq 0x14 0x150 v (spareWrite v) s)

/-! The LG page, R310, R319 and R323. -/

/-- Records that had no room may be written: steps that are ready commit, and arm censuses that are complete resolve (R308, R310). -/
def retryRecords (s : State) : State :=
  let s1 := s.x.rf2.jobs.foldl (fun s b => commitSteps b.slot s) s
  (s1.x.cs.open_.filter (fun c => c.id.kind == 0)).foldl (fun s c => completeCensus c.id s) s1

/-- The effect of a write of LG_EXPORTED: values below the present one, in the serial order of SEQ, are ignored. -/
def exportedWrite (v : Word) (s : State) : State :=
  let n := fld v 0 32
  let full := ledgerFree s.x.lg == 0
  let s1 := modLg (fun l => { l with exported := if 0 < serial 32 n l.exported then n else l.exported }) s
  if full && rootActs s then retryRecords s1 else s1

/-- R310. -/
def execLgExportedWrite (rq : Nat) (v : Word) (s : State) : Host.Outcome State Fault Refusal :=
  .next (admitWrite .dxd rq 0x15 0x108 v (exportedWrite v) s)

/-- MARK: ignored once the step has been armed. -/
def ckptMark (j step : Nat) (s : State) : State :=
  match s.job j with
  | some b => if nextAttempt b step ≠ 0 ∨ step < b.nextStep then s
      else modJob j (fun b => { b with marks := if b.marks.contains step then b.marks else b.marks ++ [step] }) s
  | none => s

/-- SAVED: the CKPT_SAVED record. -/
def ckptSaved (j step : Nat) (s : State) : State :=
  match s.job j with
  | some b => if b.state = 0 then s else ledgerAppend 7 0 step b.epoch 0 [] false s
  | none => s

/-- The effect of a write of LG_CKPT. -/
def ckptWrite (v : Word) (s : State) : State :=
  atReferee (fun s =>
    let s1 := if bit v 63 then ckptSaved (fld v 48 4) (fld v 0 48) s else s
    if bit v 62 then ckptMark (fld v 48 4) (fld v 0 48) s1 else s1) s

/-- R319. -/
def execCkptMark (rq : Nat) (v : Word) (s : State) : Host.Outcome State Fault Refusal :=
  .next (admitWrite .dxd rq 0x15 0x158 v (ckptWrite v) s)

/-- R319. -/
def execCkptSaved (rq : Nat) (v : Word) (s : State) : Host.Outcome State Fault Refusal :=
  .next (admitWrite .dxd rq 0x15 0x158 v (ckptWrite v) s)

end Sys2Proof.Machine
end

