-- ==== Sys2Proof/Machine/Shadow.lean ====
section
/-!
DEFINITION. The ledger in both root members: records that become durable, the shadow's copy of the jobs, the root takeover
and the copy that a returning member takes (R30, R31, R307 to R311).
-/

namespace Sys2Proof.Machine

/-! The shadow's copy of the jobs, kept from the mirrored records (R30; log 71). -/

/-- JOB_START: the job that the descriptor names, under its epoch. -/
def mirrorStart (c : JobCopy) (s : State) : State :=
  let b := jobOfDesc c.slot c.epoch c.desc s
  serveJob b (putJob b s)

/-- The job that runs under an epoch, changed. -/
def modEpochJob (ep : Nat) (f : Job → Job) (s : State) : State :=
  modRef (fun r => { r with jobs := r.jobs.map (fun b =>
    if b.epoch == ep && decide (1 ≤ b.state ∧ b.state ≤ 4) then f b else b) }) s

/-- The pause of a job whose next epoch is recorded: its replay counts from the BENCH, which is still to come (R314). -/
def mirrorPause (b : Job) (now : Nat) : Pause :=
  { reason := 2, step := b.nextStep, callAt := now, targets := [], waiting := false, benchAt := none, deferTo := none,
    endsEpoch := true, lead := 0 }

/-- EPOCH with a previous epoch: the job goes on under the new one, whose BENCH is still to pass (`passEpoch`); the record of a closing
RENEW ends the old one only. -/
def mirrorEpoch (r : LedgerRec) (s : State) : State :=
  let old := r.value / 2 ^ 32
  let cr := replacedRank (be r.data 0 4)
  let slot := be r.data 4 2
  let hard := slot != 0xFFFF
  let s1 := modRef (fun q => { q with lastEpoch := max q.lastEpoch r.epoch }) s
  match jobOfEpoch s1 old with
  | none => s1
  | some b =>
    if be r.data 0 4 = 0xFFFFFFFF then s1
    else
      let freed := if hard then ((slotOf b cr.1 cr.2).map (fun n => (cr.1 == 1, n))).toList else []
      modEpochJob old (fun b => { b.nextEpoch r.epoch hard cr slot with
        state := 3, pause := some (mirrorPause b s.dc.tk.bc) })
        (modRef (fun q => { q with benchedSlots := q.benchedSlots ++ freed }) s1)

/-- ARM: a re-time of a step it knows, else a step newly armed; the first of a replay re-origins the grid (R172, R314). -/
def mirrorArm (r : LedgerRec) (b : Job) : Job :=
  if b.steps.any (fun x => x.step == r.step && x.attempt == r.attempt && x.epoch == r.epoch) then
    { b with
      gK := if b.steps.any (fun x => x.step == r.step && x.reorigin && x.step == b.gS) then r.value else b.gK
      steps := b.steps.map (fun x => if x.step == r.step && x.attempt == r.attempt && x.epoch == r.epoch then
        { x with k := r.value, checked := x.checked && r.value == x.k } else x) }
  else
    let re := b.pause.isSome || decide (r.step < b.nextStep)
    let x : RStep := { newRStep b r.step r.attempt r.value re with checkpoint := r.ckpt }
    { b with
      state := 2, pause := none, nextStep := r.step + 1, steps := pruneSteps b ++ [x],
      gS := if re then r.step else b.gS, gK := if re then r.value else b.gK }

/-- COMMIT: the step is committed; what the shadow combined for it is dropped. -/
def mirrorCommit (r : LedgerRec) (s : State) : State :=
  let s1 := modEpochJob r.epoch (fun b => { b with committedTo := some (max r.step (b.committedTo.getD 0)) })
    (modRStep r.epoch r.step r.attempt (fun x => { x with committed := true }) s)
  closeCombo (s.combo r.epoch r.step r.attempt) s1

/-- JOB_END: the job has ended. -/
def mirrorEnd (r : LedgerRec) (s : State) : State :=
  modEpochJob r.epoch (fun b => { b with state := 5, result := r.value % 256, ending := none, pause := none, steps := [] }) s

/-- What a mirrored record says of the jobs. -/
def mirrorRecord (js : List JobCopy) (r : LedgerRec) (s : State) : State :=
  match r.ty with
  | 1 => match js.find? (fun c => c.epoch == r.epoch) with
    | some c => mirrorStart c s
    | none => s
  | 2 => mirrorEpoch r s
  | 4 => modEpochJob r.epoch (mirrorArm r) s
  | 5 => modRStep r.epoch r.step r.attempt (fun x => { x with armDone := true, accepted := true }) s
  | 6 => mirrorCommit r s
  | 8 => mirrorEnd r s
  | _ => s

/-! Records, R307. -/

/-- The record stands in this member's MRAM too. -/
def shadowRecord (js : List JobCopy) (r : LedgerRec) (s : State) : State :=
  if r.solo || r.seq != s.x.lg.next || (pairPort s).isNone then s
  else mirrorRecord js r (modLg (fun l => { l with
    recs := (if 16384 ≤ l.recs.length then l.recs.drop 1 else l.recs) ++ [r], head := r.seq, next := nextSeq r.seq }) s)

/-- The acting member's oldest open record has become durable. -/
def recordDurable (seq : Nat) (s : State) : State :=
  if s.x.lg.open_.head? ≠ some seq then s
  else
    let s1 := modLg (fun l => { l with open_ := l.open_.drop 1, head := seq }) s
    let s2 := match s.x.lg.recs.find? (fun r => r.seq == seq) with
      | some r => if r.ty = 6 then commitDurable r s1 else s1
      | none => s1
    flushLedger s2

/-- R307 and R31: at the acting member the oldest open record has become durable and what waited for it leaves; the shadow
takes it into its own ledger. -/
def execLedgerRecordDurable (r : LedgerRec) (jobs : List JobCopy) (s : State) : Host.Outcome State Fault Refusal :=
  .next (if rootActs s then recordDurable r.seq s else if rootShadow s then shadowRecord jobs r s else s)

/-! The takeover, R311. -/

/-- The highest ORIGIN value in a ledger, plus 1: where a successor starts (R307). -/
def originAfter (recs : List LedgerRec) : Nat :=
  recs.foldl (fun n r => if r.ty = 3 then max n (r.value + 1) else n) 0

/-- The highest epoch that any record of a ledger names, R299. -/
def epochAfter (recs : List LedgerRec) : Nat := recs.foldl (fun n r => max n r.epoch) 0

/-- Both root pair links have left UP. -/
def pairLost (s : State) : Bool :=
  [192, 193].all (fun p => (s.port .dxd p).st != 5 && (s.port .dxd p).downReason != 0)

/-- A job whose EPOCH record is durable and whose BENCH has not come down this member's tree: the successor sends it (R316). -/
def resumeBench (b : Job) (s : State) : State :=
  if !b.pause.any (fun p => p.endsEpoch && p.benchAt.isNone) || decide (b.state = 0 ∨ b.state = 5) then s
  else match s.x.lg.recs.find? (fun r => r.ty == 2 && r.epoch == b.epoch) with
  | none => s
  | some r =>
    let old := r.value / 2 ^ 32
    let target := be r.data 0 4
    let slot := be r.data 4 2
    let q := takeOseq s
    let f : BenchF := ⟨q.1, b.epoch, r.value / 2 ^ 16 % 256, target, r.value / 2 ^ 24 % 256, admitLead s⟩
    let s1 := afterLedger old ⟨old, .bench f⟩ q.2
    let s2 := if slot = 0xFFFF then s1 else sendAdmission b b.epoch (replacedRank target) s1
    let s3 := endSteps old 0 (modCs (fun c => { c with served := c.served.filter (fun v => v.epoch != old) }) s2)
    if slot = 0xFFFF then serveJob b s3 else sendCensusImages b (serveJob b s3)

/-- What a successor does with the jobs it has copied: unsent BENCHes leave, and sums that are complete form their hall
scorecards (R280, R316). -/
def resumeJobs (s : State) : State :=
  let s1 := s.x.rf2.jobs.foldl (fun s b => resumeBench b s) s
  s1.x.tl.combos.foldl (fun s c => match s.served c.epoch with
    | some v => sumDone v c s
    | none => s) s1

def rootTakeover (s : State) : State :=
  if s.x.straps.role ≠ 2 || inCellar .dxd s || !pairLost s || (s.x.rf2.acting && s.x.lg.solo) then s
  else
    let s1 := raise .dxd 0x15 0 (modLg (fun l => { l with solo := true, mirrorOk := false }) s)
    if s.x.rf2.acting then benchDxd (twinTarget s) rLinkLoss s1
    else
      let q := originAfter s.x.lg.recs
      let s2 := modRef (fun r => { r with
        acting := true, oseqNext := q, oseqReserved := q, lastEpoch := max r.lastEpoch (epochAfter s.x.lg.recs) }) s1
      resumeJobs (dxdReselect (benchDxd (twinTarget s) rLinkLoss (raise .dxd 0x14 4 s2)))

/-- R311. -/
def execRootTakeover (s : State) : Host.Outcome State Fault Refusal := .next (rootTakeover s)

/-! The copy of a returning member, R309. -/

/-- A copied job's last BENCH has been sent already, at a beat that the log does not hold: its replay counts from the copy. -/
def sinceCopied (b : Job) : Job :=
  { b with pause := b.pause.map (fun p => if p.endsEpoch then { p with benchAt := some p.callAt, lead := 1000000 } else p) }

/-- The jobs of a copied log, each served under its present epoch (R233, R235). -/
def copyJobs (recs : List LedgerRec) (js : List JobCopy) (s : State) : State :=
  let kept (c : JobCopy) : Bool := recs.any (fun r => r.ty == 1 && r.epoch == c.epoch)
  let s1 := modRef (fun r => { r with jobs := [], benchedSlots := [] }) s
  let s2 := recs.foldl (fun s r => mirrorRecord js r s) ((js.filter (fun c => !kept c)).foldl (fun s c => mirrorStart c s) s1)
  let live := s2.x.rf2.jobs.filter (fun b => decide (1 ≤ b.state ∧ b.state ≤ 4))
  live.foldl (fun s b => serveJob b s) (modCs (fun c => { c with served := [] })
    (modRef (fun r => { r with jobs := r.jobs.map sinceCopied }) s2))

/-- The longest run of records from SEQ `n` on in which each is present in both logs or carries SOLO in the one that holds it. -/
def commonFrom (own twin : List LedgerRec) : Nat → Nat → List LedgerRec
  | 0, _ => []
  | k + 1, n =>
    match own.find? (fun r => r.seq == n), twin.find? (fun r => r.seq == n) with
    | some r, some _ => r :: commonFrom own twin k (nextSeq n)
    | some r, none => if r.solo then r :: commonFrom own twin k (nextSeq n) else []
    | none, some r => if r.solo then r :: commonFrom own twin k (nextSeq n) else []
    | none, none => []

/-- The SEQ from which on neither of two logs has dropped a record that it exported: the later of their first ones. -/
def commonStart (own twin : List LedgerRec) : Nat :=
  match own.head?, twin.head? with
  | some a, some b => if 0 < serial 32 b.seq a.seq then b.seq else a.seq
  | some a, none => a.seq
  | none, some b => b.seq
  | none, none => 1

/-- What a root pair that restarts together adopts, R309; what this member alone still holds from before has been exported. -/
def adopted (own twin : List LedgerRec) : List LedgerRec :=
  let n := commonStart own twin
  own.takeWhile (fun r => decide (serial 32 r.seq n < 0)) ++ commonFrom own twin (own.length + twin.length) n

/-- The acting member adopts the pair's log while it has begun no job since its reset. -/
def adoptLog (recs : List LedgerRec) (s : State) : State :=
  if !s.x.rf2.jobs.isEmpty || !s.x.lg.open_.isEmpty then s
  else
    let l := adopted s.x.lg.recs recs
    let last := (l.getLast?.map (·.seq)).getD 0
    modRef (fun r => { r with
      lastEpoch := max r.lastEpoch (epochAfter l), oseqNext := max r.oseqNext (originAfter l),
      oseqReserved := max r.oseqReserved (originAfter l) })
      (modLg (fun g => { g with recs := l, head := last, next := nextSeq last }) s)

def ledgerCopied (recs : List LedgerRec) (js : List JobCopy) (s : State) : State :=
  if s.x.straps.role ≠ 2 ∨ (pairPort s).isNone then s
  else if s.x.rf2.acting then modLg (fun l => { l with solo := false, mirrorOk := true }) (adoptLog recs s)
  else
    let last := (recs.getLast?.map (·.seq)).getD 0
    copyJobs recs js
      (modLg (fun l => { l with recs := recs, open_ := [], head := last, next := nextSeq last, mirrorOk := true }) s)

/-- R309: a returning root member holds the acting member's log; `recs` is the twin's log at either end. -/
def execLedgerCopyComplete (recs : List LedgerRec) (jobs : List JobCopy) (s : State) : Host.Outcome State Fault Refusal :=
  .next (ledgerCopied recs jobs s)

end Sys2Proof.Machine
end

