-- ==== Sys2Proof/Machine/Boot.lean ====
section
/-!
DEFINITION. Resets, the stages of a start, failed starts and CELLAR (R16, R17, R376 to R379, R386 to R390, R393, R407), and
BO_CTL.
-/

namespace Sys2Proof.Machine

/-! Resets, R377 and R407. -/

/-- The interrupt controller after a warm reset: its configuration stays, source states return to IDLE. -/
def warmIc (c : Ic) : Ic :=
  { deliver := c.deliver, fitted := c.fitted, tEnable := c.tEnable, msixTable := c.msixTable,
    src := c.src.foldl (fun l x => tabSet {} l x.1
      { target := x.2.target, enable := x.2.enable, watch := x.2.watch, count := x.2.count, time := x.2.time }) [] }

/-- What a reset leaves of a device's common state; `hold` keeps a SIDE_CONFLICT, which only a power-on reset ends (R19). -/
def freshCom (d : Dev) (c : Com) (b : Boot) (ic : Ic) (hold : Bool) : Com :=
  { fuse := c.fuse, boot := b, ic := ic, ta := { vpp := c.ta.vpp }, ports := resetPorts d, tk := { sideConflict := hold } }

/-- The attic keeps its contents; its page returns to reset. -/
def keptAttic (a : Attic) : Attic := { a with offset := 0, result := 0, resultImage := 0 }

/-- The records from SEQ `n` on, up to the first that breaks the sequence. -/
def runFrom : Nat → List LedgerRec → List LedgerRec
  | n, r :: rest => if r.seq = n then r :: runFrom (nextSeq n) rest else []
  | _, [] => []

/-- Each root member reads its ledger at reset, from the oldest record that has not been exported up to the first that fails its CRC,
as an open record does, or breaks the sequence (R309; log 118). What was exported stays, and so do the copies of a DX-D below the
root, which carry no SEQ. -/
def ledgerAtReset (l : Ledger) : Ledger :=
  if l.recs.all (fun r => r.seq == 0) then { recs := l.recs }
  else
    let whole := l.recs.takeWhile (fun r => !l.open_.contains r.seq)
    let old := whole.takeWhile (fun r => !l.kept r)
    let new := whole.drop old.length
    let recs := old ++ runFrom ((new.head?.map (·.seq)).getD 0) new
    let last := (recs.getLast?.map (·.seq)).getD 0
    { recs := recs, head := last, next := nextSeq last, exported := l.exported }

/-- A DX-D's own state after a reset. -/
def freshDxd (x : Dxd) (st : Straps) (history : Word) : Dxd :=
  let l := ledgerAtReset x.lg
  let q := originAfter l.recs
  { straps := st, hold := { history := history }, at_ := keptAttic x.at_, lg := l,
    rf2 := { lastEpoch := epochAfter l.recs, oseqNext := q, oseqReserved := q } }

/-- A warm reset, R377. -/
def warmReset (d : Dev) (s : State) : State :=
  let c := s.com d
  let b : Boot :=
    { fails := c.boot.fails, reason := c.boot.reason, cellarReason := c.boot.cellarReason, startTimeout := c.boot.startTimeout,
      warm := true, source := c.boot.source, localTie := c.boot.localTie, localAddr := c.boot.localTie }
  let s1 := modCom d (fun c => freshCom d c b (warmIc c.ic) c.tk.sideConflict) s
  match d with
  | .tsu => emptyLedger { s1 with t := {} }
  | .dxd => { s1 with x := freshDxd s1.x s1.x.straps s1.x.hold.history }

/-! CELLAR, R388. -/

/-- Pages whose logic runs on in CELLAR. -/
def cellarPage (pg : Nat) : Bool := cellarTakes pg 0 || pg == 0x01 || decide (0x17 ≤ pg ∧ pg ≤ 0x1D)

/-- Every other unit is held in reset. R44 has TK_NOW count freely in CELLAR without saying from what: it starts at 0 there (DESIGN CHOICE,
log 122). -/
def cellarCom (c : Com) : Com :=
  { fuse := c.fuse, boot := c.boot, up := c.up, tk := { state := 5, sideConflict := c.tk.sideConflict }, ports := c.ports,
    regs := c.regs.filter (fun x => cellarPage (x.1 / 4096)), pgEvent := c.pgEvent.filter (fun x => cellarPage x.1),
    pgEn := c.pgEn.filter (fun x => cellarPage x.1), badAccess := c.badAccess, lockRefused := c.lockRefused,
    lockKey := c.lockKey.filter (fun x => cellarPage x.1), ic := c.ic, ta := c.ta, beats := c.beats,
    bt := { outcome := c.bt.outcome }, barCap := c.barCap, barLow := c.barLow, rsp := c.rsp }

/-- A lane that is enabled leaves IDLE. -/
def laneDown (p : Nat) (s : State) : State :=
  let up := s.tc.up
  modPort .tsu p (fun q => if q.enable && q.st == 0 then q.toDown up else q) s

/-- R265: the seed and job fields stay until the next join; nothing is current, and APPLIED clears (R255). -/
def cellarKp (k : KeyPort) : KeyPort :=
  { seed := k.seed, seedIndex := k.seedIndex, jobValid := k.jobValid, jobNumber := k.jobNumber, mapClass := k.mapClass, ws := k.ws,
    engines := k.engines, fits := k.fits, kept := k.kept, fp := k.fp, digest := k.digest }

/-- Enter CELLAR: a DX-D that was LOCKED has left it (R131). A TSU withdraws its steps first, so that their unsent arm-census entries leave the lanes' queues (R187, R188). -/
def enterCellar (d : Dev) (reason : Nat) (s : State) : State :=
  let s0 := match d with
    | .tsu => withdrawSet (fun r => r.armed || r.launched) s
    | .dxd => if s.dc.tk.state = 2 then history 15 s else s
  let s1 := modCom d cellarCom (modBoot d (fun b => { b with
    stage := 7, cellarReason := reason, image := none, chunks := [], heldJob := none, heldAdmit := none, jobImage := none,
    again := none, applying := none, deferred := none }) s0)
  let s2 := match d with
    | .tsu => laneDown 1 (laneDown 0 (emptyLedger { s1 with t := { kp := cellarKp s.t.kp } }))
    | .dxd =>
      let x : Dxd := { straps := s1.x.straps, hold := { history := s1.x.hold.history }, at_ := s1.x.at_, lg := s1.x.lg }
      holdPorts { s1 with x := x }
  raise d 0x0E 0 s2

/-- A failed start, R386. -/
def failStart (d : Dev) (reason : Nat) (s : State) : State :=
  let n := (s.com d).boot.fails + 1
  let s1 := raise d 0x0E 2 (modBoot d (fun b => { b with reason := reason, fails := min 3 n }) s)
  if n < 3 then warmReset d s1 else enterCellar d reason s1

/-! Power-on, R16, R17 and R377. -/

def powerOn (d : Dev) (pins : Pins) (s : State) : State :=
  let b : Boot := { source := pins.bootSrc % 4, localTie := pins.bootLocal, localAddr := pins.bootLocal }
  match d with
  | .tsu => emptyLedger { modCom .tsu (fun c => freshCom .tsu c b { fitted := pins.fitted } false) s with t := {} }
  | .dxd =>
    let st : Straps := { s.x.straps with role := pins.role % 4, side := pins.side % 2, level := pins.level % 2 }
    let s1 := modCom .dxd (fun c => freshCom .dxd c { b with source := 2, localAddr := 0, localTie := 0 } {} false) s
    let s2 : State := { s1 with x := freshDxd s1.x st 0 }
    if st.role = 3 then enterCellar .dxd 0xB s2 else s2

/-- R377. -/
def execPowerOnReset (d : Dev) (pins : Pins) (s : State) : Host.Outcome State Fault Refusal := .next (powerOn d pins s)

/-- R377; CELLAR is left only by power-on or RESTART (R389). -/
def execWarmReset (d : Dev) (s : State) : Host.Outcome State Fault Refusal :=
  .next (if inCellar d s then s else warmReset d s)

/-! Stages, R378 and R390. -/

def fuseReadDone (d : Dev) (crcOk : Bool) (s : State) : State :=
  if (s.com d).boot.stage ≠ 0 then s
  else if crcOk then modBoot d (fun b => { b with stage := 1 }) s
  else failStart d 1 s

/-- R378. -/
def execFuseReadDone (d : Dev) (crcOk : Bool) (s : State) : Host.Outcome State Fault Refusal := .next (fuseReadDone d crcOk s)

/-- Reset LBIST: a match releases the logic; a DX-D's BT_STATUS shows the outcome (R367). -/
def lbistDone (d : Dev) (sig : Word) (s : State) : State :=
  if (s.com d).boot.stage ≠ 1 then s
  else
    let ok := sig == (s.com d).fuse.resetSig
    let s1 := if d = .dxd then modBt .dxd (fun b => { b with outcome := if ok then 1 else 2 }) s else s
    if !ok then failStart d 2 s1
    else match d with
      | .tsu => laneDown 1 (laneDown 0 (modBoot .tsu (fun b => { b with stage := 2 }) s1))
      | .dxd => modBoot .dxd (fun b => { b with stage := 3 }) s1

/-- R378. -/
def execResetLbistDone (d : Dev) (sig : Word) (s : State) : Host.Outcome State Fault Refusal := .next (lbistDone d sig s)

/-- Firmware from flash and the attic header, R390; `applyDone` then says that firmware runs. The flash header's subsystem IDs, which no
command carries, are a free value (Config.flashSubsystem, R422; log 111). -/
def flashLoadDone (ok0 ok1 : Bool) (fw : FwEntry) (atticOk : Bool) (s : State) : State :=
  if s.dc.boot.stage ≠ 3 ∨ s.dc.boot.applyDone then s
  else if !ok0 && !ok1 then failStart .dxd 8 s
  else if !atticOk then failStart .dxd 0xA s
  else
    let copy := if ok0 then 0 else 1
    let s1 := modBoot .dxd (fun b => { b with flashCopy := copy, fw := fw, applyDone := true }) s
    { s1 with x := { s1.x with subsystem := (Config.flashSubsystem copy).toNat } }

/-- R390. -/
def execFlashLoadDone (ok0 ok1 : Bool) (fw : FwEntry) (atticOk : Bool) (s : State) : Host.Outcome State Fault Refusal :=
  .next (flashLoadDone ok0 ok1 fw atticOk s)

/-- A start succeeds, R386 and R394. -/
def startReady (d : Dev) (s : State) : State :=
  let up := (s.com d).up
  raise d 0x0E 1 (modBoot d (fun b => { b with
    stage := 6, fails := 0, readyUs := sat32 (up / 1000), starts := sat16 (b.starts + 1) }) s)

/-- START_TIMEOUT in beats. -/
def startLimit (d : Dev) (s : State) : Nat := orOne (s.com d).boot.startTimeout * 1000000

/-- The start has lasted too long: a TSU counts from its first lane in UP, a DX-D from the release of reset. -/
def startLate (d : Dev) (s : State) : Bool :=
  let b := (s.com d).boot
  decide (b.stage < 6) && match d with
    | .tsu => (match b.firstUp with
      | some t => decide (t + startLimit .tsu s ≤ s.tc.up)
      | none => false)
    | .dxd => decide (startLimit .dxd s ≤ s.dc.up)

def startTimeout (d : Dev) (s : State) : State :=
  if !startLate d s then s
  else match d with
    | .tsu => failStart .tsu (if s.tc.boot.image.isSome || s.tc.boot.applyDone then 7 else 3) s
    | .dxd => failStart .dxd 9 s

/-- R386. -/
def execStartTimeout (d : Dev) (s : State) : Host.Outcome State Fault Refusal := .next (startTimeout d s)

/-! BO_CTL, R387, R389, R390 and R394. -/

/-- Root member A acts from its start on, unless it finds its twin acting (R30, R311; log 21). -/
def rootStarts (s : State) : State :=
  if s.x.straps.role = 2 ∧ s.x.straps.side = 0 ∧ !([192, 193].any (fun p => (s.port .dxd p).st == 5 && twinActs s p)) then
    modRef (fun r => { r with acting := true }) s
  else s

/-- Firmware of a DX-D ends its start. -/
def dxdReady (s : State) : State :=
  if s.dc.boot.stage = 3 ∧ s.dc.boot.applyDone then rootStarts (startReady .dxd s) else s

/-- RESTART clears FAILS and takes a warm reset, out of CELLAR too. -/
def restart (d : Dev) (s : State) : State :=
  let s1 := modBoot d (fun b => { b with fails := 0 }) s
  let s2 := warmReset d s1
  if d = .dxd ∧ s2.x.straps.role = 3 then enterCellar .dxd 0xB s2 else s2

/-- The effect of a write of BO_CTL: FORCE_CELLAR wins over RESTART (R393). -/
def boCtlWrite (d : Dev) (v : Word) (s : State) : State :=
  if bit v 62 then enterCellar d 0xC s
  else if bit v 63 then restart d s
  else if bit v 61 ∧ d = .dxd then dxdReady s
  else s

/-- R389. -/
def execBoRestart (d : Dev) (rq : Nat) (v : Word) (s : State) : Host.Outcome State Fault Refusal :=
  .next (admitWrite d rq 0x0E 0x100 v (boCtlWrite d v) s)

/-- R387. -/
def execBoForceCellar (d : Dev) (rq : Nat) (v : Word) (s : State) : Host.Outcome State Fault Refusal :=
  .next (admitWrite d rq 0x0E 0x100 v (boCtlWrite d v) s)

/-- R390. -/
def execBoReady (rq : Nat) (v : Word) (s : State) : Host.Outcome State Fault Refusal :=
  .next (admitWrite .dxd rq 0x0E 0x100 v (boCtlWrite .dxd v) s)

/-- BO_COUNTS. -/
def boCounts (d : Dev) (s : State) : Word :=
  let b := (s.com d).boot
  wd [(48, b.starts), (32, b.imagesDiscarded), (16, b.localFails)]

def clearBoCounts (d : Dev) (s : State) : State :=
  modBoot d (fun b => { b with starts := 0, imagesDiscarded := 0, localFails := 0 }) s

/-- R394. -/
def execBoCountsRead (d : Dev) (rq : Nat) (s : State) : Host.Outcome State Fault Refusal :=
  .next (admitRead d rq 0x0E 0x130 (boCounts d) (clearBoCounts d) s)

end Sys2Proof.Machine
end

