-- ==== Sys2Proof/Machine/HallTime.lean ====
section
/-!
DEFINITION. The meanings of the hall-time commands: TIME frames, lock, core split, the keeper, pulls and the origin
(R42 to R52, R61 to R63, R72, R73).
-/

namespace Sys2Proof.Machine

/-! TIME frames, R72. -/

/-- Flags, UTC offset and a pending step of an accepted TIME frame (R42, R46, R73). -/
def copyTime (d : Dev) (f : TimeF) (s : State) : State :=
  let s1 := modTk d (fun t => { t with
    utcOffset := f.utcOffset, utcValid := f.utcValid,
    stepPend := if f.stepPending ∧ t.stepped ≠ some (f.sec, f.stepDelta) then some (f.sec, f.stepDelta) else t.stepPend,
    stepped := if f.stepPending then t.stepped else none }) s
  setRootHoldover d f.rootHoldover (setTrace d f.traceable f.originLocal s1)

/-- R50: one measurement of core A − core B. -/
def coreDiff (diff : Int) (s : State) : State :=
  let a := s.tc.coreA.st
  let b := s.tc.coreB.st
  let lim := splitLimitPs s .tsu
  modTk .tsu (fun t =>
    if (a = 1 ∨ a = 2) ∧ (b = 1 ∨ b = 2) then
      { t with diff := satS 32 diff, delta := diff * (2 ^ 35 : Nat),
               splitCount := if a = 2 ∧ b = 2 ∧ lim * 65536 < diff.natAbs * 1000 then t.splitCount + 1 else 0 }
    else { t with splitCount := 0 }) s

/-- The offset of R72. -/
def timeOffset (d : Dev) (p : Nat) (f : TimeF) (rx : Nat) (s : State) : Int :=
  (rx : Int) - (((f.sec * 1000000000 + f.ns : Nat) : Int) * 65536 + f.frac + rxDelay d p s)

/-- tx_ht + delay, the first HT of a device in COLD (R47). -/
def timeLoad (d : Dev) (p : Nat) (f : TimeF) (s : State) : Int :=
  ((f.sec * 1000000000 + f.ns : Nat) : Int) * 65536 + f.frac + rxDelay d p s

/-- A TIME frame on a TSU lane that is a source: the load of R47, or a sample of the lane's core (R121). -/
def timeTsu (p : Nat) (f : TimeF) (rx : Nat) (diff : Int) (s : State) : State :=
  let keeps := s.tc.tk.keeper = p ∨ s.tc.tk.keeper = 2
  if !s.tc.tk.htValid then (if inCellar .tsu s then s else copyTime .tsu f (loadHt .tsu (timeLoad .tsu p f s) s))
  else
    let k := s.core .tsu p
    let seen := sofStamped .tsu p s
    let s0 := feedFit .tsu (fitFirst p) (if seen then some rx else none) s
    let s1 := if k.st = 3 ∨ k.off ∨ !seen then s0
      else servoSample .tsu p (timeOffset .tsu p f rx s) treeKp treeKi 25 50 s0
    let s2 := coreDiff diff s1
    if keeps then copyTime .tsu f s2 else s2

/-- FREQ_ONLY of SV_STATUS: latched (R118), or an F source is followed (R140). -/
def freqShown (s : State) : Bool := s.dc.tk.freqOnly || s.x.rf.followed == 3 || s.x.rf.followed == 4

/-- y joins the mean of the running second, unless it is left out (R125). -/
def holdAccum (s : State) : State :=
  if s.dc.coreA.st = 2 then
    modHold (fun h => { h with
      sumY := h.sumY + s.dc.coreA.y, nY := h.nY + 1, skip := h.skip || pullShown .dxd s || freqShown s }) s
  else modHold (fun h => { h with skip := true }) s

/-- The TREE gains of a DX-D's SV page. -/
def svTree (s : State) : Nat × Nat := ((fld (s.reg .dxd 0x10170) 0 32), (s.reg .dxd 0x10178).toNat)

/-- The source a DX-D follows is the port `p`: its parent, its twin, or at the root TWIN over a pair link (R119). -/
def follows (p : Nat) (s : State) : Bool :=
  if s.x.straps.role = 2 then s.x.rf.followed == 0xE && isPair .dxd s p && !bit (s.reg .dxd 0x10100) 1
  else
    let n := if s.dc.tk.htValid then s.dc.tk.keeper else dxdChoice s
    (n == 0 && p == parentPort s) || (n == 1 && p == twinPort s)

/-- The root takes a residual; one above 1 ms is latched and never reduced (R118). -/
def takeResidual (r : Int) (s : State) : State :=
  if 1000000 * 65536 < r.natAbs then
    history 18 (modTk .dxd (fun t => { t with r := r, rPart := 0, pulling := false, freqOnly := true }) s)
  else startPull .dxd r s

/-- The first sample of a newly followed source (R117), or of one whose residual is taken again. -/
def referenceSwitch (r : Int) (s : State) : State :=
  let s1 := takeResidual r (modRf (fun f => { f with fresh := false, retake := false }) s)
  if s.x.rf.retake then s1 else raiseTime .dxd 3 (history 7 s1)

/-- A TIME frame on a link that is a source of a DX-D. -/
def timeDxd (p : Nat) (f : TimeF) (rx : Nat) (s : State) : State :=
  let off := timeOffset .dxd p f rx s
  let seen := sofStamped .dxd p s
  let s0 := modX (fun x =>
    if !seen then x
    else if p = parentPort s then { x with ownOff := some off } else if p = twinPort s then { x with twinOff := some off } else x) s
  if !follows p s0 then s0
  else if s0.x.hold.oscLost ∨ inCellar .dxd s0 then s0
  else if !s0.dc.tk.htValid then
    (if s0.dc.tk.sideConflict then s0 else copyTime .dxd f (loadHt .dxd (timeLoad .dxd p f s0) s0))
  else if !seen then copyTime .dxd f (feedFit .dxd (fitFirst 0) none s0)
  else
    let sf := feedFit .dxd (fitFirst 0) (some rx) s0
    let s1 := if !sf.x.rf.fresh then sf
      else if sf.x.straps.role = 2 then referenceSwitch off sf
      else startPull .dxd off (modRf (fun r => { r with fresh := false, retake := false }) sf)
    let g := svTree s1
    let s2 := servoSample .dxd 0 (off - s1.dc.tk.r) g.1 g.2 25 50 (modHold (fun h => { h with profile := 3 }) s1)
    copyTime .dxd f (holdAccum s2)

/-- A TIME frame that passes its CRC; one whose packed HT is corrupt counts as one that fails it (R36). -/
def timeReceive (d : Dev) (p : Nat) (h : LinkHdr) (f : TimeF) (rx : Nat) (diff : Int) (s : State) : State :=
  let q := s.port d p
  if !portExists d s p || !q.live then s
  else if 1000000000 ≤ f.ns ∨ f.reserved ≠ 0 then crcError d p s
  else
    let s1 := takeLink d p h s
    if q.st ≠ 5 || inCellar d s then s1
    else
      let s2 := modPort d p (fun q => { q with lastTime := some f }) s1
      if !isSource d p s2 then reselect d s2
      else match d with
        | .tsu => tsuReselect (timeTsu p f rx diff s2)
        | .dxd => dxdReselect (timeDxd p f rx s2)

/-- R72. -/
def execTimeFrameReceive (d : Dev) (p : Nat) (h : LinkHdr) (f : TimeF) (rx : Nat) (diff : Int) (s : State) :
    Host.Outcome State Fault Refusal := .next (timeReceive d p h f rx diff s)

/-! Lock, R45 and R123. -/

/-- Samples that must lie within the limit: 64 TIME frames, or COUNT or PTP_COUNT reference samples at the root. -/
def lockSamples (d : Dev) (s : State) : Nat :=
  if d = .dxd ∧ s.x.straps.role = 2 ∧ s.x.rf.followed ≠ 0xE then
    (if s.x.rf.followed = 2 then orOne (s.regF .dxd 0x10128 40 8) else orOne (s.regF .dxd 0x10128 8 8))
  else 64

/-- The core's source remains. -/
def coreSource (d : Dev) (c : Nat) (s : State) : Bool :=
  match d with
  | .tsu => isSource .tsu c s
  | .dxd => dxdHasSource s

def coreExists (d : Dev) (c : Nat) : Bool := c == 0 || (d == .tsu && c == 1)

def enterLocked (d : Dev) (c : Nat) (s : State) : State :=
  let k := s.core d c
  if coreExists d c ∧ k.st = 1 ∧ (s.com d).tk.htValid ∧ coreSource d c s ∧ lockSamples d s ≤ k.inBand then
    let up := (s.com d).up
    reselect d (modCore d c (fun k => { k with st := 2, lockedAt := some up, outBand := 0 }) s)
  else s

/-- R45. -/
def execEnterLocked (d : Dev) (core : Nat) (s : State) : Host.Outcome State Fault Refusal := .next (enterLocked d core s)

def leaveLocked (d : Dev) (c : Nat) (s : State) : State :=
  let k := s.core d c
  if coreExists d c ∧ k.st = 2 ∧ coreSource d c s ∧ 8 ≤ k.outBand then
    reselect d (modCore d c (fun k => { k with st := 1, lockedAt := none, inBand := 0, outBand := 0 }) s)
  else s

/-- R45. -/
def execLeaveLocked (d : Dev) (core : Nat) (s : State) : Host.Outcome State Fault Refusal := .next (leaveLocked d core s)

def coreSplit (s : State) : State :=
  if 8 ≤ s.tc.tk.splitCount then raise .tsu 0x00 5 (modTk .tsu (fun t => { t with coreSplit := true, splitCount := 0 }) s)
  else s

/-- R50. -/
def execCoreSplit (s : State) : Host.Outcome State Fault Refusal := .next (coreSplit s)

/-! The keeper, R48 and R49. -/

def keeperReversion (s : State) : State :=
  if reversionDue s ∧ s.tc.tk.force = none then tsuReselect s else s

/-- R48 row 4. -/
def execKeeperReversion (s : State) : Host.Outcome State Fault Refusal := .next (keeperReversion s)

/-- The effect of TK_KEEPER_CTL: its RW fields, and a FORCE of a LOCKED core (at a DX-D, of a source it has). -/
def keeperCtl (d : Dev) (v : Word) (s : State) : State :=
  let s1 := setReg d 0x130 0xFFFFFFFF v s
  let f := fld v 32 2
  if f = 1 ∨ f = 2 then
    let ok := match d with
      | .tsu => (s.core .tsu (f - 1)).st == 2
      | .dxd => isSource .dxd (if f = 1 then parentPort s else twinPort s) s && s.x.straps.role != 2
    if ok then reselect d (modTk d (fun t => { t with force := some (f - 1) }) s1) else s1
  else s1

def keeperForce (d : Dev) (rq : Nat) (v : Word) (s : State) : State :=
  admitWrite d rq 0x00 0x130 v (keeperCtl d v) s

/-- R48. -/
def execKeeperForce (d : Dev) (rq : Nat) (v : Word) (s : State) : Host.Outcome State Fault Refusal :=
  .next (keeperForce d rq v s)

/-- The source the root follows gives traceable time, R116. -/
def traceableSource (s : State) : Bool :=
  match s.x.rf.followed with
  | 0 => bit (s.reg .dxd 0x1E118) 63 && (tabGet {} s.x.rf.src 0).todValid
  | 1 => bit (s.reg .dxd 0x1E128) 63 && (tabGet {} s.x.rf.src 1).todValid
  | 2 => match s.x.pt.i1.ann with
    | some a => a.ptpTimescale && a.timeTraceable
    | none => false
  | _ => false

/-- R43: local time that has been pulled onto a traceable reference becomes traceable. -/
def becomeTraceable (s : State) : State :=
  if s.x.straps.role = 2 ∧ s.dc.tk.originLocal ∧ traceableSource s ∧ !s.dc.tk.freqOnly then setTrace .dxd true false s else s

def pullComplete (d : Dev) (s : State) : State :=
  if (s.com d).tk.pulling ∧ (s.com d).tk.r = 0 then
    let s1 := raise d 0x00 4 (modTk d (fun t => { t with pulling := false }) s)
    match d with
    | .tsu => s1
    | .dxd => becomeTraceable (history 11 s1)
  else s

/-- R49: r has reached 0. -/
def execPullComplete (d : Dev) (s : State) : Host.Outcome State Fault Refusal := .next (pullComplete d s)

/-! TK registers with effects. -/

/-- The snapshot of a requester, kept for requesters 0 to 7 (R62 and R402). -/
def takeSnap (d : Dev) (rq : Nat) (s : State) : State :=
  if rq < 8 then modTk d (fun t => { t with snap := tabSet none t.snap rq (some (t.ns, t.frac)) }) s else s

def nowSecRead (d : Dev) (rq : Nat) (s : State) : State :=
  admitRead d rq 0x00 0x100 (fun s => wd [(0, (s.com d).tk.sec)])
    (takeSnap d rq) s

/-- R62: the snapshot of the requester. -/
def execTkNowSecRead (d : Dev) (rq : Nat) (s : State) : Host.Outcome State Fault Refusal := .next (nowSecRead d rq s)

/-- An epoch is active at the root: some job holds one. -/
def anyEpoch (s : State) : Bool := s.x.rf2.jobs.any (fun b => decide (1 ≤ b.state ∧ b.state ≤ 4))

/-- A step toward the second `target`, as large as one STEP_DELTA allows, taken where second `sec` ends (R73). -/
def pendStep (sec target : Nat) (t : Time) : Time :=
  let want : Int := (target : Int) - (sec + 1)
  let dlt := clampI want (-(2 ^ 31 - 1 : Nat)) (2 ^ 31 - 1 : Nat)
  { t with stepPend := some (sec, dlt), originSet := if dlt = want then none else some (target + 1) }

/-- The second s whose TIME frames all carry the step: the next one to begin, since R73 sets STEP_PENDING in every frame of
s and the running second's first frames have left (log 98). -/
def stepSecond (s : State) : Nat := (s.dc.tk.sec + 1) % 2 ^ 48

/-- R43: the root takes a step to `target`, or refuses it. -/
def originStepTo (target : Nat) (s : State) : State :=
  if anyEpoch s then raise .dxd 0x00 8 s else modTk .dxd (pendStep (stepSecond s) target) s

/-- The effect of a write of TK_ORIGIN_SET: at the root only. -/
def originSetWrite (v : Word) (s : State) : State :=
  if s.x.straps.role = 2 then originStepTo (fld v 0 48) s else s

def tkOriginSet (rq : Nat) (v : Word) (s : State) : State :=
  admitWrite .dxd rq 0x00 0x140 v (originSetWrite v) s

/-- R43. -/
def execTkOriginSet (rq : Nat) (v : Word) (s : State) : Host.Outcome State Fault Refusal := .next (tkOriginSet rq v s)

end Sys2Proof.Machine
end

