-- ==== Sys2Proof/Machine/Cue.lean ====
section
/-!
DEFINITION. The meanings of the playbook instructions and of the CU and PB pages' commands (R191 to R215), and the origin
step that discards stored targets (R43).
-/

namespace Sys2Proof.Machine

/-! Step and control instructions, R196 to R199. -/

def nopBody (th : Thread) (c : Cue) (s : State) : State :=
  match c with
  | .nop => cueNext th s
  | _ => s

/-- R196. -/
def execNop (th : Thread) (e : Ecc) (s : State) : Host.Outcome State Fault Refusal :=
  .next (issue opNop (nopBody th) th e s)

/-- HALTED, with its event; HALT_IN_STEP where the run thread leaves a LAUNCHED step (R199). -/
def haltBody (th : Thread) (c : Cue) (s : State) : State :=
  match c with
  | .halt =>
    raise .tsu 0x04 (match th with | .run => 2 | .lead => 3)
      (modThr th (fun t => { t with st := 3 }) (cueNext th (haltInStep th s)))
  | _ => s

/-- R196. -/
def execHalt (th : Thread) (e : Ecc) (s : State) : Host.Outcome State Fault Refusal :=
  .next (issue (opIs 2) (haltBody th) th e s)

def doneBody (th : Thread) (c : Cue) (s : State) : State :=
  match c with
  | .done => match curRec .run s with
    | some r => if r.launched then stepDone r (cueNext th s) else cueFault th 8 s
    | none => cueFault th 8 s
  | _ => s

/-- R199 and R183. -/
def execDoneInstruction (th : Thread) (e : Ecc) (s : State) : Host.Outcome State Fault Refusal :=
  .next (issue (opIs 3) (doneBody th) th e s)

/-- Steps that reached DONE before arm bound them are passed over and counted, R197, whatever has become of them since. -/
def passOver (s : State) : State :=
  let lim := s.t.cue.withdrawn.getD 0
  (s.t.cue.passed.filter (fun x => decide (lim ≤ x.1))).foldl (fun s _ => leadLate s) (modCue (fun e => { e with passed := [] }) s)

def armBody (th : Thread) (c : Cue) (s : State) : State :=
  match c with
  | .arm pd =>
    let s1 := cueNext th (passOver s)
    match bindable s1 with
    | some r => bindStep pd.toNat r s1
    | none => modThr th (fun t => { t with st := 2, wait := some (.arm pd.toNat) }) s1
  | _ => s

/-- R197. -/
def execArmInstruction (th : Thread) (e : Ecc) (s : State) : Host.Outcome State Fault Refusal :=
  .next (issue (opIs 4) (armBody th) th e s)

def kickBody (th : Thread) (c : Cue) (s : State) : State :=
  match c with
  | .kick pd =>
    let s1 := cueNext th s
    match unreturned s1 with
    | some r => kickLate (returnStep pd.toNat r s1)
    | none => modThr th (fun t => { t with st := 2, wait := some (.kick pd.toNat) }) s1
  | _ => s

/-- R198. -/
def execKickInstruction (th : Thread) (e : Ecc) (s : State) : Host.Outcome State Fault Refusal :=
  .next (issue (opIs 5) (kickBody th) th e s)

def calloffBody (th : Thread) (c : Cue) (s : State) : State :=
  match c with
  | .calloff lh rh =>
    modThr .lead (fun t => { t with handler := lh.toNat }) (modThr .run (fun t => { t with handler := rh.toNat }) (cueNext th s))
  | _ => s

/-- R196 and R209. -/
def execCalloffInstruction (th : Thread) (e : Ecc) (s : State) : Host.Outcome State Fault Refusal :=
  .next (issue (opIs 6) (calloffBody th) th e s)

/-! Waits, R200. -/

def waitkBody (th : Thread) (c : Cue) (s : State) : State :=
  match c with
  | .waitk off => match curKick th s with
    | some k => waitUntil th (ux 64 ((k : Int) + off.toInt)) s
    | none => cueFault th 5 s
  | _ => s

/-- R200. -/
def execWaitk (th : Thread) (e : Ecc) (s : State) : Host.Outcome State Fault Refusal :=
  .next (issue (opIs 8) (waitkBody th) th e s)

def waitnBody (th : Thread) (c : Cue) (s : State) : State :=
  match c with
  | .waitn inc => match (getThr s.t.cue th).t with
    | some t => waitUntil th ((t + inc.toNat) % 2 ^ 64) s
    | none => cueFault th 5 s
  | _ => s

/-- R200. -/
def execWaitn (th : Thread) (e : Ecc) (s : State) : Host.Outcome State Fault Refusal :=
  .next (issue (opIs 9) (waitnBody th) th e s)

def waitrBody (th : Thread) (c : Cue) (s : State) : State :=
  match c with
  | .waitr pa =>
    let t := (s.p pa.toNat).toNat
    if inWindow s.tc.tk.bc t then waitUntil th t s else cueFault th 6 (raise .tsu 0x00 6 s)
  | _ => s

/-- R200. -/
def execWaitr (th : Thread) (e : Ecc) (s : State) : Host.Outcome State Fault Refusal :=
  .next (issue (opIs 0xA) (waitrBody th) th e s)

/-- R39. -/
def execWaitTargetReached (th : Thread) (s : State) : Host.Outcome State Fault Refusal := .next (targetReached th s)

/-! Huddles, R201. -/

def hentBody (th : Thread) (c : Cue) (s : State) : State :=
  match c with
  | .hent pa slot =>
    let fp := s.p pa.toNat
    match s.t.cue.run.cur with
    | none => cueFault th 8 s
    | some k =>
      if (huddleOf slot.toNat k s).isSome then cueFault th 4 s
      else if !runLaunched s then cueFault th 8 s
      else if creditsUsed s < 16 then enterHuddle slot.toNat fp k (cueNext th s)
      else
        raise .tsu 0x07 0 (modHd (fun h => { h with creditWait := true })
          (modThr th (fun t => { t with st := 2, wait := some (.credit slot.toNat fp) }) (cueNext th s)))
  | _ => s

/-- R201 and R236. -/
def execHent (th : Thread) (e : Ecc) (s : State) : Host.Outcome State Fault Refusal :=
  .next (issue (opIs 0x10) (hentBody th) th e s)

def hawaitBody (th : Thread) (c : Cue) (s : State) : State :=
  match c with
  | .hawait pd slot => match s.t.cue.run.cur with
    | none => cueFault th 4 s
    | some k => match huddleOf slot.toNat k s with
      | none => cueFault th 4 s
      | some h => match h.out with
        | some (1, n) => setP pd.toNat (wd [(0, n)]) (cueNext th s)
        | some (2, _) => cueFault th 9 s
        | _ => modThr th (fun t => { t with st := 2, wait := some (.hawait pd.toNat slot.toNat) }) (cueNext th s)
  | _ => s

/-- R201. -/
def execHawait (th : Thread) (e : Ecc) (s : State) : Host.Outcome State Fault Refusal :=
  .next (issue (opIs 0x11) (hawaitBody th) th e s)

/-! Cells, R202. -/

def postBody (th : Thread) (c : Cue) (s : State) : State :=
  match c with
  | .post n1 cell => cellDo (.post 0 cell.toNat (n1.toNat + 1)) (cellAdd cell.toNat (n1.toNat + 1 : Nat)) (cueNext th s)
  | _ => s

/-- R202. -/
def execPostInstruction (th : Thread) (e : Ecc) (s : State) : Host.Outcome State Fault Refusal :=
  .next (issue (opIs 0x18) (postBody th) th e s)

def posttBody (th : Thread) (c : Cue) (s : State) : State :=
  match c with
  | .postt r cell => cellDo (.postt 0 cell.toNat r.toNat) (cellPostt cell.toNat r.toNat) (cueNext th s)
  | _ => s

/-- R202. -/
def execPosttInstruction (th : Thread) (e : Ecc) (s : State) : Host.Outcome State Fault Refusal :=
  .next (issue (opIs 0x19) (posttBody th) th e s)

def cwaitBody (th : Thread) (c : Cue) (s : State) : State :=
  match c with
  | .cwait r n1 cell =>
    if hasWaiter s cell.toNat r.toNat && !sliceIsolated s 5 then cueFault th 4 s
    else
      cellDo (.cwait th cell.toNat r.toNat (n1.toNat + 1)) (cellRegister cell.toNat r.toNat (n1.toNat + 1) (.thread th))
        (modThr th (fun t => { t with st := 2, wait := some (.cwait cell.toNat r.toNat) }) (cueNext th s))
  | _ => s

/-- R202. -/
def execCwait (th : Thread) (e : Ecc) (s : State) : Host.Outcome State Fault Refusal :=
  .next (issue (opIs 0x1A) (cwaitBody th) th e s)

def cresetBody (th : Thread) (c : Cue) (s : State) : State :=
  match c with
  | .creset cell => cellDo (.reset 0 cell.toNat) (cellReset cell.toNat) (cueNext th s)
  | _ => s

/-- R202. -/
def execCresetInstruction (th : Thread) (e : Ecc) (s : State) : Host.Outcome State Fault Refusal :=
  .next (issue (opIs 0x1B) (cresetBody th) th e s)

/-! Step leave, R203, and bays, R204. -/

/-- The queue in order of issue; of requests of one logic cycle, which is one beat of the free-running counter here, the run thread's
come first (R211, R331; log 43). -/
def enqueueLeave (q : LeaveReq) (l : List LeaveReq) : List LeaveReq :=
  match q.thread with
  | .lead => l ++ [q]
  | .run =>
    let back := (l.reverse.takeWhile (fun x => x.thread == .lead && x.at_ == q.at_)).length
    l.take (l.length - back) ++ q :: l.drop (l.length - back)

/-- Hand a step-leave request to the stockroom's queue of 8; the thread stalls while it is full (R194). -/
def queueLeave (th : Thread) (step : Nat) (w : Option Nat) (s : State) : State :=
  if 8 ≤ s.t.st.leaveQ.length then s
  else modSt (fun t => { t with leaveQ := enqueueLeave ⟨step, w, th, s.tc.up⟩ t.leaveQ }) (cueNext th s)

def resvBody (th : Thread) (c : Cue) (s : State) : State :=
  match c with
  | .resv ps w =>
    if !hasStock s then cueNext th s
    else if w = 0 ∨ !leaveStepOk (s.p ps.toNat).toNat s then cueFault th 4 s
    else queueLeave th (s.p ps.toNat).toNat (some w.toNat) s
  | _ => s

/-- R203 and R324. -/
def execResv (th : Thread) (e : Ecc) (s : State) : Host.Outcome State Fault Refusal :=
  .next (issue (opIs 0x20) (resvBody th) th e s)

def relsBody (th : Thread) (c : Cue) (s : State) : State :=
  match c with
  | .rels ps =>
    if !hasStock s then cueNext th s
    else if !leaveStepOk (s.p ps.toNat).toNat s then cueFault th 4 s
    else queueLeave th (s.p ps.toNat).toNat none s
  | _ => s

/-- R203 and R324. -/
def execRels (th : Thread) (e : Ecc) (s : State) : Host.Outcome State Fault Refusal :=
  .next (issue (opIs 0x21) (relsBody th) th e s)

def baypBody (th : Thread) (c : Cue) (s : State) : State :=
  match c with
  | .bayp pt mask =>
    let bays := (upTo 16).filter (fun b => mask.toNat.testBit b)
    if s.tc.fuse.kind = .w ∨ bays.any (fun b => !bayExists s b) then cueFault th 4 s
    else tryChanges (bays.foldl (fun s b => setReg .tsu (0x3200 + 0x40 * b) (wd [(0, 15)]) (wd [(0, pt.toNat)]) s) (cueNext th s))
  | _ => s

/-- R204. -/
def execBayp (th : Thread) (e : Ecc) (s : State) : Host.Outcome State Fault Refusal :=
  .next (issue (opIs 0x28) (baypBody th) th e s)

/-! Self-test and probe windows, R205 and R206. -/

def bistBody (th : Thread) (c : Cue) (s : State) : State :=
  match c with
  | .bist pd pa =>
    let slice := (s.p pa.toNat).toNat
    if 12 ≤ slice then cueFault th 4 s
    else match bistRefusal .tsu slice true s with
      | some r => setP pd.toNat 2 (bistRefuse .tsu slice r (cueNext th s))
      | none =>
        modThr th (fun t => { t with st := 2, wait := some (.bist pd.toNat) })
          (bistAccept slice true (some (th, pd.toNat)) (cueNext th s))
  | _ => s

/-- R205. -/
def execBistInstruction (th : Thread) (e : Ecc) (s : State) : Host.Outcome State Fault Refusal :=
  .next (issue (opIs 0x30) (bistBody th) th e s)

def probeBody (th : Thread) (c : Cue) (s : State) : State :=
  match c with
  | .probe pa pb =>
    let first := fld (s.p pa.toNat) 0 24
    let count := fld (s.p pa.toNat) 24 24
    let mask := fld (s.p pb.toNat) 0 16
    if 2 ^ 24 < first + count then cueFault th 4 s
    else match (getThr s.t.cue th).cur, curKick th s with
      | some c, some k =>
        let live := match curRec th s with
          | some r => r.armed || r.launched
          | none => false
        openWindows c k live first (if mask = 0 then 0 else count) mask (cueNext th s)
      | _, _ => cueFault th 5 s
  | _ => s

/-- R206. -/
def execProbe (th : Thread) (e : Ecc) (s : State) : Host.Outcome State Fault Refusal :=
  .next (issue (opIs 0x31) (probeBody th) th e s)

/-! Registers and branches, R207 and R208. -/

/-- pd = v, and the next instruction. -/
def setNext (th : Thread) (pd : BitVec 4) (v : Word) (s : State) : State := setP pd.toNat v (cueNext th s)

/-- Branch to `t` where `c` holds. -/
def branch (th : Thread) (c : Bool) (t : BitVec 12) (s : State) : State :=
  if c then modThr th (fun x => { x with pc := t.toNat }) s else cueNext th s

def liBody (th : Thread) (c : Cue) (s : State) : State :=
  match c with
  | .li pd imm => setNext th pd (imm.signExtend 64) s
  | _ => s

/-- R207. -/
def execLi (th : Thread) (e : Ecc) (s : State) : Host.Outcome State Fault Refusal :=
  .next (issue (opIs 0x40) (liBody th) th e s)

/-- lis: bits 16k to 16k + 15 replaced. -/
def lisValue (old : Word) (k : BitVec 2) (imm : BitVec 16) : Word :=
  (old &&& ~~~((0xFFFF : Word) <<< (16 * k.toNat))) ||| ((imm.setWidth 64) <<< (16 * k.toNat))

def lisBody (th : Thread) (c : Cue) (s : State) : State :=
  match c with
  | .lis pd k imm => setNext th pd (lisValue (s.p pd.toNat) k imm) s
  | _ => s

/-- R207. -/
def execLis (th : Thread) (e : Ecc) (s : State) : Host.Outcome State Fault Refusal :=
  .next (issue (opIs 0x41) (lisBody th) th e s)

def movBody (th : Thread) (c : Cue) (s : State) : State :=
  match c with
  | .mov pd pa => setNext th pd (s.p pa.toNat) s
  | _ => s

/-- R207. -/
def execMov (th : Thread) (e : Ecc) (s : State) : Host.Outcome State Fault Refusal :=
  .next (issue (opIs 0x42) (movBody th) th e s)

def addBody (th : Thread) (c : Cue) (s : State) : State :=
  match c with
  | .add pd pa pb => setNext th pd (s.p pa.toNat + s.p pb.toNat) s
  | _ => s

/-- R207. -/
def execAddOp (th : Thread) (e : Ecc) (s : State) : Host.Outcome State Fault Refusal :=
  .next (issue (opIs 0x43) (addBody th) th e s)

def subBody (th : Thread) (c : Cue) (s : State) : State :=
  match c with
  | .sub pd pa pb => setNext th pd (s.p pa.toNat - s.p pb.toNat) s
  | _ => s

/-- R207. -/
def execSubOp (th : Thread) (e : Ecc) (s : State) : Host.Outcome State Fault Refusal :=
  .next (issue (opIs 0x44) (subBody th) th e s)

def addiBody (th : Thread) (c : Cue) (s : State) : State :=
  match c with
  | .addi pd pa imm => setNext th pd (s.p pa.toNat + imm.signExtend 64) s
  | _ => s

/-- R207. -/
def execAddi (th : Thread) (e : Ecc) (s : State) : Host.Outcome State Fault Refusal :=
  .next (issue (opIs 0x45) (addiBody th) th e s)

def andBody (th : Thread) (c : Cue) (s : State) : State :=
  match c with
  | .and pd pa pb => setNext th pd (s.p pa.toNat &&& s.p pb.toNat) s
  | _ => s

/-- R207. -/
def execAndOp (th : Thread) (e : Ecc) (s : State) : Host.Outcome State Fault Refusal :=
  .next (issue (opIs 0x46) (andBody th) th e s)

def orBody (th : Thread) (c : Cue) (s : State) : State :=
  match c with
  | .or pd pa pb => setNext th pd (s.p pa.toNat ||| s.p pb.toNat) s
  | _ => s

/-- R207. -/
def execOrOp (th : Thread) (e : Ecc) (s : State) : Host.Outcome State Fault Refusal :=
  .next (issue (opIs 0x47) (orBody th) th e s)

def xorBody (th : Thread) (c : Cue) (s : State) : State :=
  match c with
  | .xor pd pa pb => setNext th pd (s.p pa.toNat ^^^ s.p pb.toNat) s
  | _ => s

/-- R207. -/
def execXorOp (th : Thread) (e : Ecc) (s : State) : Host.Outcome State Fault Refusal :=
  .next (issue (opIs 0x48) (xorBody th) th e s)

def shlBody (th : Thread) (c : Cue) (s : State) : State :=
  match c with
  | .shl pd pa sh => setNext th pd (s.p pa.toNat <<< sh.toNat) s
  | _ => s

/-- R207. -/
def execShl (th : Thread) (e : Ecc) (s : State) : Host.Outcome State Fault Refusal :=
  .next (issue (opIs 0x49) (shlBody th) th e s)

def shrBody (th : Thread) (c : Cue) (s : State) : State :=
  match c with
  | .shr pd pa sh => setNext th pd (s.p pa.toNat >>> sh.toNat) s
  | _ => s

/-- R207. -/
def execShr (th : Thread) (e : Ecc) (s : State) : Host.Outcome State Fault Refusal :=
  .next (issue (opIs 0x4A) (shrBody th) th e s)

def getBody (th : Thread) (c : Cue) (s : State) : State :=
  match c with
  | .get pd src => match getSource th src.toNat s with
    | .ok v => setNext th pd v s
    | .error f => cueFault th f s
  | _ => s

/-- R208. -/
def execGet (th : Thread) (e : Ecc) (s : State) : Host.Outcome State Fault Refusal :=
  .next (issue (opIs 0x4B) (getBody th) th e s)

def bBody (th : Thread) (c : Cue) (s : State) : State :=
  match c with
  | .b t => branch th true t s
  | _ => s

/-- R207. -/
def execB (th : Thread) (e : Ecc) (s : State) : Host.Outcome State Fault Refusal :=
  .next (issue (opIs 0x50) (bBody th) th e s)

def beqBody (th : Thread) (c : Cue) (s : State) : State :=
  match c with
  | .beq pa pb t => branch th (s.p pa.toNat == s.p pb.toNat) t s
  | _ => s

/-- R207. -/
def execBeq (th : Thread) (e : Ecc) (s : State) : Host.Outcome State Fault Refusal :=
  .next (issue (opIs 0x51) (beqBody th) th e s)

def bneBody (th : Thread) (c : Cue) (s : State) : State :=
  match c with
  | .bne pa pb t => branch th (s.p pa.toNat != s.p pb.toNat) t s
  | _ => s

/-- R207. -/
def execBne (th : Thread) (e : Ecc) (s : State) : Host.Outcome State Fault Refusal :=
  .next (issue (opIs 0x52) (bneBody th) th e s)

def bltBody (th : Thread) (c : Cue) (s : State) : State :=
  match c with
  | .blt pa pb t => branch th ((s.p pa.toNat).slt (s.p pb.toNat)) t s
  | _ => s

/-- R207. -/
def execBlt (th : Thread) (e : Ecc) (s : State) : Host.Outcome State Fault Refusal :=
  .next (issue (opIs 0x53) (bltBody th) th e s)

def bltuBody (th : Thread) (c : Cue) (s : State) : State :=
  match c with
  | .bltu pa pb t => branch th ((s.p pa.toNat).ult (s.p pb.toNat)) t s
  | _ => s

/-- R207. -/
def execBltu (th : Thread) (e : Ecc) (s : State) : Host.Outcome State Fault Refusal :=
  .next (issue (opIs 0x54) (bltuBody th) th e s)

def bzBody (th : Thread) (c : Cue) (s : State) : State :=
  match c with
  | .bz pa t => branch th (s.p pa.toNat == 0) t s
  | _ => s

/-- R207. -/
def execBz (th : Thread) (e : Ecc) (s : State) : Host.Outcome State Fault Refusal :=
  .next (issue (opIs 0x55) (bzBody th) th e s)

def bnzBody (th : Thread) (c : Cue) (s : State) : State :=
  match c with
  | .bnz pa t => branch th (s.p pa.toNat != 0) t s
  | _ => s

/-- R207. -/
def execBnz (th : Thread) (e : Ecc) (s : State) : Host.Outcome State Fault Refusal :=
  .next (issue (opIs 0x56) (bnzBody th) th e s)

def loopBody (th : Thread) (c : Cue) (s : State) : State :=
  match c with
  | .loop pa t => branch th (s.p pa.toNat - 1 != 0) t (setP pa.toNat (s.p pa.toNat - 1) s)
  | _ => s

/-- R207. -/
def execLoop (th : Thread) (e : Ecc) (s : State) : Host.Outcome State Fault Refusal :=
  .next (issue (opIs 0x57) (loopBody th) th e s)

/-! CU_CTL, R193. -/

/-- A thread at START. -/
def startThread (en : Bool) (entry : Nat) (t : Thr) : Thr :=
  { t with st := if en then 1 else 0, pc := entry, handler := entry, fault := 0, wait := none }

/-- START: only while neither thread runs or waits. -/
def cuStart (s : State) : State :=
  if s.t.cue.run.alive || s.t.cue.lead.alive then s
  else
    modCue (fun e => { e with
      p := [], withdrawn := none,
      run := startThread (s.regF .tsu 0x4100 13 1 == 1) (s.regF .tsu 0x4100 0 12) e.run,
      lead := startThread (s.regF .tsu 0x4100 45 1 == 1) (s.regF .tsu 0x4100 32 12) e.lead }) s

/-- Both threads STOPPED, their waits abandoned. -/
def stopThreads (s : State) : State :=
  modCue (fun e => { e with
    held := [], run := { e.run with st := 0, wait := none }, lead := { e.lead with st := 0, wait := none } })
    (dropWaiter .lead s.t.cue.lead.wait (dropWaiter .run s.t.cue.run.wait s))

/-- STOP, R193 and R210: a fault STOPPED where a thread ran while a step was held. -/
def cuStop (s : State) : State :=
  let run := s.t.cue.run.alive
  let lead := s.t.cue.lead.alive
  if (run || lead) && holdsStep s then
    let s1 := stopThreads (raiseIf run .tsu 0x04 0 (raiseIf lead .tsu 0x04 1 (if run then haltInStep .run s else s)))
    ownFailure (modCue (fun e => { e with
      run := { e.run with fault := if run then 0xA else e.run.fault },
      lead := { e.lead with fault := if lead then 0xA else e.lead.fault },
      faultWord := 0, faultLead := !run, faultPc := if run then s.t.cue.run.pc else s.t.cue.lead.pc }) s1)
  else stopThreads s

/-- The effect of CU_CTL; STOP wins over START. -/
def cuCtlWrite (v : Word) (s : State) : State :=
  let s1 := setReg .tsu 0x4100 (wd [(45, 1), (32, 0xFFF), (13, 1), (0, 0xFFF)]) v s
  if bit v 62 then cuStop s1 else if bit v 63 then cuStart s1 else s1

/-- R193. -/
def execCuStart (rq : Nat) (v : Word) (s : State) : Host.Outcome State Fault Refusal :=
  .next (admitWrite .tsu rq 0x04 0x100 v (cuCtlWrite v) s)

/-- R193. -/
def execCuStop (rq : Nat) (v : Word) (s : State) : Host.Outcome State Fault Refusal :=
  .next (admitWrite .tsu rq 0x04 0x100 v (cuCtlWrite v) s)

/-! The PB page, R213. -/

/-- INDEX moves on by 2. -/
def pbAdvance (s : State) : State := modCue (fun e => { e with pbIndex := (e.pbIndex + 2) % 4096 }) s

/-- The effect of a write of PB_DATA. -/
def pbDataStore (v : Word) (s : State) : State :=
  if s.t.cue.run.alive || s.t.cue.lead.alive then raise .tsu 0x05 0 s
  else
    pbAdvance (modCue (fun e => { e with
      pbBusy := true,
      store := tabSet 0 (tabSet 0 e.store (e.pbIndex % 4096) (v.setWidth 32)) ((e.pbIndex + 1) % 4096) ((v >>> 32).setWidth 32) }) s)

/-- R213. -/
def execPbDataWrite (rq : Nat) (v : Word) (s : State) : Host.Outcome State Fault Refusal :=
  .next (admitWrite .tsu rq 0x05 0x108 v (pbDataStore v) s)

/-- PB_DATA. -/
def pbData (s : State) : Word := (s.pbWord (s.t.cue.pbIndex + 1)) ++ (s.pbWord s.t.cue.pbIndex)

/-- R213. -/
def execPbDataRead (rq : Nat) (s : State) : Host.Outcome State Fault Refusal :=
  .next (admitRead .tsu rq 0x05 0x108 pbData pbAdvance s)

/-- The CRC of the store, R213. -/
def pbCrc (s : State) : Nat := crc32 ((upTo 4096).flatMap (fun a => bytesBE 4 (s.pbWord a).toNat))

def pbCheckDone (s : State) : State :=
  if s.t.cue.pbBusy then raise .tsu 0x05 1 (modCue (fun e => { e with pbBusy := false, pbCrc := some (pbCrc s) }) s) else s

/-- R213. -/
def execPbCheckDone (s : State) : Host.Outcome State Fault Refusal := .next (pbCheckDone s)

/-- PB_ECC. -/
def pbEcc (s : State) : Word := wd [(48, s.t.cue.corrected), (0, s.t.cue.lastIndex)]

def clearPbEcc (s : State) : State := modCue (fun e => { e with corrected := 0 }) s

/-- R213. -/
def execPbEccRead (rq : Nat) (s : State) : Host.Outcome State Fault Refusal :=
  .next (admitRead .tsu rq 0x05 0x118 pbEcc clearPbEcc s)

/-- CU_LATE, R214. -/
def cuLate (s : State) : Word :=
  wd [(48, s.t.cue.waitLate), (32, s.t.cue.kickLate), (16, s.t.cue.leadLate), (0, s.t.cue.probeSkip)]

def clearCuLate (s : State) : State := modCue (fun e => { e with waitLate := 0, kickLate := 0, leadLate := 0, probeSkip := 0 }) s

/-- R214. -/
def execCuLateRead (rq : Nat) (s : State) : Host.Outcome State Fault Refusal :=
  .next (admitRead .tsu rq 0x04 0x130 cuLate clearCuLate s)

/-! The origin step, R43 and R73. -/

/-- A stored target is discarded with TIME_STEPPED. -/
def stepTarget (th : Thread) (s : State) : State :=
  match (getThr s.t.cue th).wait with
  | some (.beat _) => waitFault th 7 s
  | _ => s

/-- The second moves, and the next of several steps is taken at the end of the second that begins. -/
def moveSecond (dlt : Int) (t : Time) : Time :=
  let t1 := { t with sec := ux 48 ((t.sec : Int) + dlt), stepPend := none, stepped := t.stepPend }
  match t1.originSet with
  | some n => pendStep t1.sec n t1
  | none => t1

def originStep (d : Dev) (s : State) : State :=
  match (s.com d).tk.stepPend with
  | some (sec, dlt) =>
    if sec + 1 ≤ (s.com d).tk.sec then
      let s1 := modCom d (moveSets dlt) (raiseTime d 7 (modTk d (moveSecond dlt) s))
      match d with
      | .tsu => stepTarget .lead (stepTarget .run s1)
      | .dxd =>
        let s2 := moveRefs (dlt * secLsb) (modX (fun x => { x with
          outs := x.outs.map (fun o => (o.1, { o.2 with alignedAt := moveBeat dlt o.2.alignedAt })) }) s1)
        if s.x.straps.role = 2 ∧ (s.x.rf.followed < 6 ∨ s.dc.tk.freqOnly) then
          modRf (fun r => { r with fresh := true, retake := !r.fresh || r.retake }) (modTk .dxd (fun t => { t with freqOnly := false }) s2)
        else s2
    else s
  | none => s

/-- R43. -/
def execOriginStep (d : Dev) (s : State) : Host.Outcome State Fault Refusal := .next (originStep d s)

end Sys2Proof.Machine
end

