-- ==== Sys2Proof/Machine/RegsBase.lean ====
section
/-!
DEFINITION. How one register of a page reads and takes a write, and the common page header (R404 to R406).
-/

namespace Sys2Proof.Machine

/-- A register: its value, the bits that a write reaches, the effect of a write and the side effect of a read (R7). The
reset of an offset that no register occupies: reads 0, writes ignored (R397). -/
structure RegDef where
  word : State → Word := fun _ => 0
  mask : Word := 0
  store : Word → State → State := fun _ s => s
  effect : State → State := id

/-- An offset that no register occupies. -/
def noReg : RegDef := {}

/-- A read-only register. -/
def roReg (w : State → Word) : RegDef := { word := w }

/-- A read-only register whose read has an effect (RC, R7). -/
def rcReg (w : State → Word) (e : State → State) : RegDef := { word := w, effect := e }

/-- A register of RW fields only. -/
def rwReg (d : Dev) (a : Nat) (mask : Word) : RegDef :=
  { word := fun s => s.reg d a, mask := mask, store := setReg d a mask }

/-- A register with its own reading and write effect. -/
def fxReg (w : State → Word) (mask : Word) (f : Word → State → State) : RegDef :=
  { word := w, mask := mask, store := f }

/-- The low `n` bits from bit `lo`. -/
def ones (lo n : Nat) : Word := BitVec.ofNat 64 ((2 ^ n - 1) * 2 ^ lo)

/-! The header. -/

/-- PG_ID, R404. -/
def pgIdWord (d : Dev) (pg : Nat) : Word :=
  let (ix, inst) := pgIndexInst pg
  wd [(32, pgCode pg), (16, ix), (8, inst), (0, pgInstances d pg)]

/-- PG_VERSION, R404. -/
def pgVersionWord : Word := wd [(56, 0xB0), (32, 1)]

/-- PG_CAPS, R404. -/
def pgCapsWord (d : Dev) (pg : Nat) (s : State) : Word :=
  wd [(63, 1), (62, b2n (decide (pageSt d s pg = .op))), (0, pgEnd d pg)]

/-- PG_STATUS, R404. -/
def pgStatusWord (d : Dev) (pg : Nat) (s : State) : Word :=
  let c := s.com d
  wd [(48, tabGet 0 c.badAccess pg), (32, tabGet 0 c.lockRefused pg),
      (0, b2n (tabGet 0 c.pgEvent pg &&& tabGet 0 c.pgEn pg != 0))]

/-- The RC effect of a read of PG_STATUS. -/
def clearPgStatus (d : Dev) (pg : Nat) (s : State) : State :=
  modCom d (fun c => { c with badAccess := tabSet 0 c.badAccess pg 0, lockRefused := tabSet 0 c.lockRefused pg 0 }) s

/-- A write of PG_CONTROL, R404: EVENT_TEST sets every defined bit of PG_EVENT. -/
def pgControlStore (d : Dev) (pg : Nat) (v : Word) (s : State) : State :=
  if bit v 0 then raiseMask d pg (evMask d pg) s else s

/-- A write of PG_EVENT, R404: W1C. -/
def pgEventStore (d : Dev) (pg : Nat) (v : Word) (s : State) : State :=
  modCom d (fun c => { c with pgEvent := tabMod 0 c.pgEvent pg (fun w => w &&& ~~~v) }) s

/-- A write of PG_EVENT_EN, R404; a level that rises with it raises the page's source (R342). -/
def pgEnStore (d : Dev) (pg : Nat) (v : Word) (s : State) : State :=
  let was := srcLevel d s pg
  let s1 := modCom d (fun c => { c with pgEn := tabSet 0 c.pgEn pg (v &&& evMask d pg) }) s
  if !was && srcLevel d s1 pg then noteRaise d pg was s1 else s1

/-- Count a write refused under R406. -/
def countRefused (d : Dev) (pg : Nat) (s : State) : State :=
  modCom d (fun c => { c with lockRefused := tabMod 0 c.lockRefused pg (fun n => sat16 (n + 1)) }) s

/-- Hold a key, or none. -/
def setLock (d : Dev) (pg key : Nat) (s : State) : State :=
  modCom d (fun c => { c with lockKey := tabSet 0 c.lockKey pg key }) s

/-- A write of PG_LOCK, R406. -/
def pgLockStore (d : Dev) (pg : Nat) (v : Word) (s : State) : State :=
  let key := fld v 0 16
  let held := tabGet 0 (s.com d).lockKey pg
  if held = 0 then
    (if bit v 16 then (if key = 0 then countRefused d pg s else setLock d pg key s) else s)
  else if !bit v 16 ∧ key = held then setLock d pg 0 s
  else countRefused d pg s

/-- PG_LOCK as read. -/
def pgLockWord (d : Dev) (pg : Nat) (s : State) : Word := wd [(63, b2n (tabGet 0 (s.com d).lockKey pg != 0))]

/-- The header registers, R404. -/
def headerReg (d : Dev) (pg off : Nat) : RegDef :=
  match off with
  | 0x00 => roReg (fun _ => pgIdWord d pg)
  | 0x08 => roReg (fun _ => pgVersionWord)
  | 0x10 => roReg (pgCapsWord d pg)
  | 0x18 => rcReg (pgStatusWord d pg) (clearPgStatus d pg)
  | 0x20 => fxReg (fun _ => 0) 1 (pgControlStore d pg)
  | 0x28 => fxReg (fun s => tabGet 0 (s.com d).pgEvent pg) (evMask d pg) (pgEventStore d pg)
  | 0x30 => fxReg (fun s => tabGet 0 (s.com d).pgEn pg) (evMask d pg) (pgEnStore d pg)
  | 0x38 => fxReg (pgLockWord d pg) (wd [(16, 1), (0, 0xFFFF)]) (pgLockStore d pg)
  | _ => noReg

end Sys2Proof.Machine
end

