-- ==== Sys2Proof/Machine/RegsCom.lean ====
section
/-!
DEFINITION. The registers of the IC, BT, BO and FU pages (R356, R373, R375, R394).
-/

namespace Sys2Proof.Machine

/-! IC, R356. -/

def icStatus (d : Dev) (s : State) : Word :=
  let c := (s.com d).ic
  wd [(63, b2n c.asleep), (48, watchedCount c), (32, c.src.countP (fun x => x.2.st == 2)),
      (0, c.src.countP (fun x => x.2.st == 3 || x.2.st == 4))]

def icTargetCtl (d : Dev) (t : Nat) (s : State) : Word :=
  let c := (s.com d).ic
  wd [(8, b2n (icOutput c t)), (0, b2n (tabGet false c.tEnable t))]

def icStampBc (d : Dev) (t : Nat) (s : State) : Word :=
  match tabGet none (s.com d).ic.tStamp t with
  | some (_, st) => wd [(0, st.bc)]
  | none => 0

def icStampSub (d : Dev) (t : Nat) (s : State) : Word :=
  match tabGet none (s.com d).ic.tStamp t with
  | some (n, st) => wd [(63, 1), (62, b2n st.htValid), (61, b2n st.atWake), (16, n), (0, st.frac)]
  | none => 0

def icSrcWord (d : Dev) (n : Nat) (s : State) : Word :=
  let i := s.icSrc d n
  if srcPresent d s n then
    wd [(61, i.st), (60, b2n (srcLevel d s n)), (59, 1), (56, i.target), (55, b2n i.enable), (54, b2n i.watch),
        (24, i.count), (0, i.time)]
  else 0

def icTargetReg (d : Dev) (t o : Nat) : RegDef :=
  match o with
  | 0x00 => fxReg (icTargetCtl d t) 1 (targetCtlWrite d t)
  | 0x08 => rcReg (claimWord d t) (claimEffect d t)
  | 0x10 => fxReg (fun _ => 0) 0xFF (completeWrite d t)
  | 0x18 => roReg (icStampBc d t)
  | 0x20 => roReg (icStampSub d t)
  | _ => noReg

def icReg (d : Dev) (off : Nat) (s : State) : RegDef :=
  if off = 0x100 then
    fxReg (fun s => wd [(1, b2n (s.com d).ic.asleep), (0, b2n (s.com d).ic.deliver)]) 3 (icCtlWrite d)
  else if off = 0x108 then roReg (icStatus d)
  else if off = 0x110 then rcReg (fun s => wd [(0, (s.com d).ic.stray)]) (clearStray d)
  else if off = 0x118 then
    fxReg (fun s => if d = .tsu then s.tc.ic.local_ else 0) (if d = .tsu then ones 0 14 else 0) (icLocalWrite d)
  else if 0x200 ≤ off ∧ off < 0x400 then icTargetReg d ((off - 0x200) / 0x40) ((off - 0x200) % 0x40)
  else if 0x800 ≤ off then
    let n := (off - 0x800) / 8
    fxReg (icSrcWord d n) (if srcPresent d s n then ones 54 5 ||| ones 24 16 ||| ones 0 24 else 0) (srcCfgWrite d n)
  else noReg

/-! BT, R373. -/

def btStatus (d : Dev) (s : State) : Word :=
  let b := (s.com d).bt
  wd [(63, b2n b.win.isSome), (62, b2n b.mismatch), (61, b2n b.goldenValid), (60, b2n b.baseValid), (56, b.slice),
      (52, b.outcome), (48, b.reason), (0, b.step)]

def ageStatus (d : Dev) (s : State) : Word :=
  let b := (s.com d).bt
  wd [(63, b2n b.ageValid), (48, b.worst), (32, b.index), (0, b.ageSec % 2 ^ 32)]

def roWord (d : Dev) (p : Nat) (s : State) : Word :=
  let o := tabGet ⟨0, 0⟩ (s.com d).bt.ro p
  wd [(32, o.ref), (0, o.str)]

def btReg (d : Dev) (off : Nat) : RegDef :=
  if off = 0x100 then fxReg (fun s => s.reg d 0xD100) (ones 62 2 ||| ones 0 4) (btRunWrite d)
  else if off = 0x108 then roReg (btStatus d)
  else if off = 0x110 then rcReg (btCounts d) (clearBtCounts d)
  else if off = 0x118 then fxReg (fun s => s.reg d 0xD118) (bitW 63 ||| ones 0 48) (ageCtlWrite d)
  else if off = 0x120 then roReg (ageStatus d)
  else if off = 0x128 then
    fxReg (fun s => wd [(0, if d = .dxd then 0 else s.tc.bt.replan)]) (bitW 63) (replanWrite d)
  else if 0x180 ≤ off ∧ off < 0x1E0 then
    roReg (fun s => if d = .dxd then 0 else tabGet 0 s.tc.bt.sig ((off - 0x180) / 8))
  else if 0x200 ≤ off ∧ off < 0x260 then
    roReg (fun s => if d = .dxd then 0 else tabGet 0 s.tc.bt.golden ((off - 0x200) / 8))
  else if 0x280 ≤ off ∧ off < 0x300 then rcReg (btCanary d ((off - 0x280) / 8)) (clearCanary d ((off - 0x280) / 8))
  else if 0x300 ≤ off ∧ off < 0x340 then roReg (roWord d ((off - 0x300) / 8))
  else noReg

/-! FU, R375. -/

/-- KIND of FU_ID. -/
def fuKind (d : Dev) (s : State) : Nat :=
  match d, s.tc.fuse.kind with
  | .dxd, _ => 2
  | .tsu, .c => 3
  | .tsu, .m => 4
  | .tsu, .e => 5
  | .tsu, .w => 6

/-- FU_MAPk: cores of a TSU-C, units of a TSU-M, 0 elsewhere. -/
def fuMap (d : Dev) (k : Nat) (s : State) : Word :=
  match d, s.tc.fuse.kind with
  | .tsu, .c => tabGet Fuses.mapDflt s.tc.fuse.map k
  | .tsu, .m => if k = 0 then tabGet Fuses.mapDflt s.tc.fuse.map 0 else 0
  | _, _ => 0

def fuReg (d : Dev) (off : Nat) : RegDef :=
  match off with
  | 0x100 => roReg (fun s => wd [(56, 0xB0), (52, fuKind d s)])
  | 0x108 => roReg (fun s => (s.com d).fuse.serial)
  | 0x110 => fxReg (fun s => wd [(63, b2n (s.com d).fuse.fieldClosed), (62, b2n (s.com d).ta.armed.isSome)])
      (ones 8 8 ||| ones 0 2) (fuAccessWrite d)
  | 0x118 => roReg (fun s => if d = .dxd then wd [(0, s.dc.fuse.mac)] else 0)
  | 0x120 => roReg (fun s => if d = .dxd then wd [(32, s.dc.fuse.ptpEgress), (0, s.dc.fuse.ptpIngress)] else 0)
  | o => if 0x180 ≤ o ∧ o ≤ 0x1F8 then roReg (fuMap d ((o - 0x180) / 8)) else noReg

/-! BO, R394. -/

def boStatus (d : Dev) (s : State) : Word :=
  let b := (s.com d).boot
  wd [(60, b.stage), (58, b.fails), (57, b2n b.warm), (56, b2n b.localFail), (48, b.reason), (40, b.cellarReason),
      (0, b.readyUs)]

def boCfg (d : Dev) (s : State) : Word :=
  let b := (s.com d).boot
  wd [(32, b.startTimeout), (2, b.flashCopy), (0, b.source)]

def boImage (d : Dev) (s : State) : Word :=
  let f := (s.com d).boot.fw
  wd [(56, f.stepping), (32, f.major), (16, f.minor), (0, f.build)]

def boReg (d : Dev) (off : Nat) : RegDef :=
  match off with
  | 0x100 => fxReg (fun _ => 0) (ones 61 3) (boCtlWrite d)
  | 0x108 => roReg (boStatus d)
  | 0x110 => fxReg (boCfg d) (ones 32 16) (fun v => modBoot d (fun b => { b with startTimeout := fld v 32 16 }))
  | 0x118 => roReg (boImage d)
  | 0x120 => roReg (fun s => wd [(48, (s.com d).boot.loadedImage), (0, (s.com d).boot.loadedCrc)])
  | 0x128 => fxReg (fun s => wd [(12, (s.com d).boot.localAddr)]) (if d = .tsu then ones 12 52 else 0)
      (if d = .tsu then fun v => modBoot .tsu (fun b => { b with localAddr := fld v 12 52 }) else fun _ s => s)
  | 0x130 => rcReg (boCounts d) (clearBoCounts d)
  | _ => noReg

end Sys2Proof.Machine
end

