-- ==== Sys2Proof/Machine/Refs.lean ====
section
/-!
DEFINITION. References, holdover and outputs of a DX-D (R109 to R134): samples, qualification, loss, selection, the first
fit, the oscillator, and the frame and pulse outputs.
-/

namespace Sys2Proof.Machine

/-- The input pair of an IN or F source, R109. -/
def inputOf (n : Nat) : Nat := if n = 0 ∨ n = 3 then 0 else 1

/-- DELAY of an input pair in frac LSBs. -/
def inputDelay (i : Nat) (s : State) : Int := sx 32 (s.regF .dxd (if i = 0 then 0x1E118 else 0x1E128) 0 32)

/-- 100 ns in frac LSBs. -/
def hundredNs : Int := 6553600

/-- Into −50 ns to just under +50 ns. -/
def wrap100 (x : Int) : Int := (x + 3276800) % hundredNs - 3276800

/-- RF_QUAL. -/
def freqLimitPpb (s : State) : Nat := orOne (s.regF .dxd 0x1E110 32 16)
def ppsWindow (s : State) : Int := (max 1 (min 50 (s.regF .dxd 0x1E110 16 16)) : Nat) * 65536
def qualSeconds (s : State) : Nat := orOne (s.regF .dxd 0x1E110 8 8)

/-- The root acts on its references. -/
def rootRuns (s : State) : Bool := s.x.straps.role == 2 && !s.x.hold.oscLost && !inCellar .dxd s

/-- A source shows QUALIFIED, R112. -/
def markQualified (n : Nat) (s : State) : State := modSrc n (fun r => { r with qual := 2, everQual := true, misses := 0 }) s

/-- A source becomes QUALIFIED, and the device chooses again. -/
def qualified (n : Nat) (s : State) : State := dxdReselect (markQualified n s)

/-- A source is LOST and the device chooses again. -/
def lost (n : Nat) (s : State) : State := dxdReselect (sourceLost n s)

/-! The load of HT at the root, R43 and R116. -/

/-- The first second under R43. -/
def localSec (s : State) : Nat :=
  match currentRecord s.x.at_ with
  | some x => x.2.sec + 1
  | none => 0

/-- Load HT at the root: traceable, or local under R43. SIDE_CONFLICT keeps it in COLD (R19). -/
def rootLoad (traceable : Bool) (lsb : Int) (s : State) : State :=
  if s.dc.tk.sideConflict then s else dxdReselect (setTrace .dxd traceable (!traceable) (loadHt .dxd lsb s))

/-! Switching, R117, R118 and R43. -/

/-- R43 for a traceable source under a local origin: an offset above 1 ms is followed in frequency only, and stepped away
or refused. The spec does not say when the root steps on its own: it tries at the first sample of a newly followed source, and not
again when the epochs in the way end (DESIGN CHOICE, log 113). -/
def originCheck (total : Int) (s : State) : State :=
  let secs := roundHalfZero total secLsb
  if !(s.dc.tk.originLocal && traceableSource s) ∨ total.natAbs ≤ 1000000 * 65536 then s
  else
    let s1 := modTk .dxd (fun t => { t with freqOnly := true }) s
    if anyEpoch s1 then raise .dxd 0x00 8 s1
    else if secs = 0 then s1
    else originStepTo (((stepSecond s1 : Int) + 1 - secs) % (2 ^ 48 : Nat)).toNat s1

/-- The first sample of a newly followed source with residual r; `total` is the whole offset to it. -/
def firstSample (r total : Int) (s : State) : State :=
  let s1 := originCheck total (referenceSwitch r s)
  if r = 0 then becomeTraceable s1 else s1

/-- Profile, gains and limits of the root's servo, R122 and R123. -/
def rootGains (s : State) : Nat × Nat × Nat :=
  if s.x.rf.followed = 2 then (2, fld (s.reg .dxd 0x10160) 0 32, (s.reg .dxd 0x10168).toNat)
  else if s.dc.coreA.st = 2 then (1, fld (s.reg .dxd 0x10150) 0 32, (s.reg .dxd 0x10158).toNat)
  else (0, fld (s.reg .dxd 0x10140) 0 32, (s.reg .dxd 0x10148).toNat)

/-- LIMIT in ps: PTP_LIMIT is in ns. -/
def rootLimit (s : State) : Nat :=
  if s.x.rf.followed = 2 then s.regF .dxd 0x10128 48 16 * 1000 else s.regF .dxd 0x10128 16 16

/-- One servo sample of the root with phase error e. -/
def rootServo (e : Int) (s : State) : State :=
  let g := rootGains s
  let lim := rootLimit s
  holdAccum (servoSample .dxd 0 e g.2.1 g.2.2 lim (2 * lim) (modHold (fun h => { h with profile := g.1 }) s))

/-- A sample of the followed IN or F source. -/
def sampleInput (n stamp : Nat) (s : State) : State :=
  let raw : Int := (stamp : Int) - inputDelay (inputOf n) s
  let s0 := if s.x.rf.fresh ∧ 3 ≤ n then modRf (fun r => { r with phi0 := wrap100 raw }) s else s
  let e := wrap100 (raw - (if 3 ≤ n then s0.x.rf.phi0 else 0))
  let s1 := if !s0.x.rf.fresh then s0
    else if 3 ≤ n then firstSample 0 0 s0
    else
      let src := tabGet {} s0.x.rf.src n
      let r := hundredNs * roundHalfZero (src.p - e) hundredNs + e
      firstSample r (r + (if src.todValid then src.secOff * secLsb else 0)) s0
  rootServo (e - s1.dc.tk.r) s1

/-- LOCAL: the servo is off, y = 0 and e is taken as 0 (R110, R123); its seconds count like others (R125). -/
def sampleLocal (s : State) : State :=
  let s1 := if s.x.rf.fresh then referenceSwitch 0 s else s
  holdAccum (modHold (fun h => { h with profile := 4 })
    (modCore .dxd 0 (fun c => lockCount (rootLimit s) (2 * rootLimit s) 0 { c with y := 0 }) s1))

def referenceSample (stamp : Nat) (s : State) : State :=
  if !rootRuns s || s.dc.tk.bc % 1024 ≠ 0 then s
  else
    let s1 := dxdReselect s
    let n := s1.x.rf.followed
    if bit (s1.reg .dxd 0x10100) 1 then s1
    else if n = 0 ∨ n = 1 then (if s1.dc.tk.htValid then dxdReselect (sampleInput n stamp s1) else s1)
    else if n = 3 ∨ n = 4 then
      (if s1.dc.tk.htValid then dxdReselect (sampleInput n stamp s1) else rootLoad false ((localSec s1 : Int) * secLsb) s1)
    else if n = 5 then
      (if s1.dc.tk.htValid then dxdReselect (sampleLocal s1) else rootLoad false ((localSec s1 : Int) * secLsb) s1)
    else s1

/-- R110. -/
def execReferenceSample (stamp : Nat) (s : State) : Host.Outcome State Fault Refusal := .next (referenceSample stamp s)

/-! 1PPS, R110, R111 and R113. -/

/-- The time of day at this edge: counted on by the seconds that the DX-D has counted itself since the last, whether or not each
had an edge, or taken from a write at least 100 ms old (R111). -/
def todEdge (up : Nat) (r : RefSrc) : RefSrc :=
  if r.todValid then { r with tod := (r.tod + (up - r.todUp + 500000000) / 1000000000) % 2 ^ 48, todUp := up }
  else if 0 < r.todAt ∧ r.todAt + 100000000 ≤ up + 1 then { r with todValid := true, todUp := up }
  else r

def ppsEdge (n stamp stamp10 : Nat) (s : State) : State :=
  if !rootRuns s || 2 ≤ n then s
  else
    let raw : Int := (stamp : Int) - inputDelay n s
    let p := wrapSec raw
    let q : Int := (stamp : Int) - stamp10
    let win := ppsWindow s
    let src := tabGet {} s.x.rf.src n
    let inside := decide (q.natAbs ≤ win.natAbs)
    let steady := match src.q with
      | some q0 => decide ((q - q0).natAbs ≤ win.natAbs)
      | none => true
    let s1 := modSrc n (fun r =>
      let r1 := todEdge s.dc.up r
      let even := r.q.isNone || r.edges == 10000000
      { r1 with p := p, q := some q, ppsSeen := inside, secOff := (raw - p) / secLsb - r1.tod, edges := 0,
                secEdges := r.secEdges + 1, secBad := r.secBad || !inside || !steady || !even }) s
    if s1.x.rf.followed = n ∧ !s1.dc.tk.htValid then
      let src1 := tabGet {} s1.x.rf.src n
      let tr := src1.todValid && bit (s1.reg .dxd (if n = 0 then 0x1E118 else 0x1E128)) 63
      rootLoad tr ((if tr then (src1.tod : Int) else localSec s1) * secLsb + ((s1.dc.tk.lsb : Int) - raw)) s1
    else s1

/-- R110: the edge gives p, and may load HT (R116). -/
def execPpsEdge (n stamp stamp10 : Nat) (s : State) : Host.Outcome State Fault Refusal := .next (ppsEdge n stamp stamp10 s)

def ppsWindowEnd (n : Nat) (s : State) : State :=
  if !rootRuns s || 2 ≤ n then s
  else
    let src := tabGet {} s.x.rf.src n
    if src.ppsSeen then modSrc n (fun r => { r with ppsSeen := false, misses := 0 }) s
    else if src.qual = 2 then
      let s1 := history 13 (modSrc n (fun r => { r with misses := r.misses + 1 }) s)
      if 2 ≤ src.misses + 1 then lost n s1 else s1
    else modSrc n (fun r => { r with secBad := true }) s

/-- R113. -/
def execPpsWindowEnd (n : Nat) (s : State) : Host.Outcome State Fault Refusal := .next (ppsWindowEnd n s)

/-- The two sources that one 10 MHz input carries (R109), the followed one last, so that the walk of R114 finds what is left. -/
def inputCodes (i : Nat) (s : State) : List Nat := if s.x.rf.followed = 3 + i then [i, 3 + i] else [3 + i, i]

/-- The fit of a 10 MHz input starts (again): the fits are taken back to back (R112). -/
def startInputFit (i : Nat) (s : State) : State := startFit .dxd (fitInput i) (194 + i) 10000000000 1 1000 s.dc.tk.bc s

/-- The fit of the oscillator input starts (again), R105: channel 198 and 10 MHz (R98, R419), over the gate of the reference fits,
since the spec gives it none (DESIGN CHOICE, log 112). -/
def startOscFit (s : State) : State := startFit .dxd fitOsc 198 10000000000 1 1000 s.dc.tk.bc s

/-- What an ended fit of its 10 MHz input says of source `n`: no result where it was void. An IN source also needs, in that second,
one 1PPS edge, inside its window and steady, and 10,000,000 edges of 10 MHz between 1PPS edges (R112). Nothing is chosen here: two
sources that qualify at one fit are chosen between in the order of R114. -/
def judgeFit (ppt : Option Int) (n : Nat) (s : State) : State :=
  let qual := s.qual n
  let inside := match ppt with
    | some y => decide (y.natAbs ≤ freqLimitPpb s * 1000)
    | none => false
  let src := tabGet {} s.x.rf.src n
  if qual = 2 then (if inside || ppt.isNone then s else sourceLost n (history 12 s))
  else if qual = 1 then
    (if inside && (3 ≤ n || (src.q.isSome && src.secEdges == 1 && !src.secBad)) then
      let s1 := modSrc n (fun r => { r with good := r.good + 1 }) s
      if qualSeconds s ≤ src.good + 1 then markQualified n s1 else s1
    else modSrc n (fun r => { r with good := 0 }) s)
  else s

/-- The fit of the oscillator input ends: its result is held, and it starts again (R105). -/
def oscFitEnd (s : State) : State :=
  match fitEnd .dxd fitOsc s with
  | none => s
  | some ppt => startOscFit (modHold (fun h => { h with oscPpt := ppt }) s)

/-- A 1,000 ms fit of the input of source `n` ends. Of a 10 MHz input both sources on it are judged (R109, R112, R113) before the
device chooses again; of LOCAL it is the fit of the oscillator (R105). -/
def fitComplete (n : Nat) (s : State) : State :=
  if n = 5 then (if s.x.hold.oscLost || inCellar .dxd s then s else oscFitEnd s)
  else if ¬ rootRuns s ∨ n = 2 ∨ 5 ≤ n then s
  else
    let i := inputOf n
    match fitEnd .dxd (fitInput i) s with
    | none => s
    | some ppt =>
      let s1 := (inputCodes i s).foldl (fun s c => judgeFit ppt c s) s
      dxdReselect (startInputFit i (modSrc i (fun r => { r with secEdges := 0, secBad := false }) s1))

/-- R112 and R113. -/
def execReferenceFitComplete (n : Nat) (s : State) : Host.Outcome State Fault Refusal := .next (fitComplete n s)

/-- A source without its 10 MHz edges: LOST, or ABSENT if it was never qualified. -/
def loseEdges (n : Nat) (s : State) : State :=
  if s.qual n = 2 then lost n s
  else if s.qual n = 1 then
    modSrc n (fun r => { r with qual := if r.everQual then 3 else 0, good := 0, q := none }) s
  else s

/-- No edge of the 10 MHz input of source `n` for 512 ns: both sources on it are lost (R109, R113). -/
def edgeLoss (n : Nat) (s : State) : State :=
  if ¬ rootRuns s ∨ n = 2 ∨ 5 ≤ n then s
  else dropFit .dxd (fitInput (inputOf n)) ((inputCodes (inputOf n) s).foldl (fun s c => loseEdges c s) s)

/-- R113. -/
def execReferenceEdgeLoss (n : Nat) (s : State) : Host.Outcome State Fault Refusal := .next (edgeLoss n s)

/-- A source whose inputs are present again is QUALIFYING. -/
def beginQualify (n : Nat) (s : State) : State :=
  if s.qual n = 0 ∨ s.qual n = 3 then
    modSrc n (fun r => { r with qual := 1, good := 0, q := none, misses := 0, edges := 0, secEdges := 0, secBad := false }) s
  else s

/-- The inputs of source `n` are present, of PTP instance 1 in SLAVE: an IN source's pair brings the F source on its 10 MHz input with it (R109); the oscillator
input is fitted in every role (R105). -/
def inputsPresent (n : Nat) (s : State) : State :=
  if n = 5 then
    let s1 := if s.x.hold.oscLost || inCellar .dxd s || (s.hfit .dxd fitOsc).isSome then s else startOscFit s
    if rootRuns s1 ∧ (s1.qual 5 = 0 ∨ s1.qual 5 = 3) then qualified 5 s1 else s1
  else if !rootRuns s then s
  else if n = 2 then (if s.x.pt.i1.state = 9 then beginQualify 2 s else s)
  else if n < 5 then
    let i := inputOf n
    let s1 := beginQualify (3 + i) (if n < 2 then beginQualify n s else s)
    if (s1.hfit .dxd (fitInput i)).isSome then s1 else startInputFit i s1
  else s

/-- R112 and R113: LOCAL is QUALIFIED as soon as the oscillator has edges. -/
def execReferenceInputsPresent (src : Nat) (s : State) : Host.Outcome State Fault Refusal := .next (inputsPresent src s)

/-! Selection, R114. -/

/-- The effect of a write of RF_SEL; `ACTIVE` is acted on at every write. -/
def rfSel (v : Word) (s : State) : State :=
  if s.x.straps.role ≠ 2 then s
  else
    let s1 := setReg .dxd 0x1E100 0x1FFFFF v s
    let a := fld v 16 4
    let s2 := modRf (fun r => { r with pendingActive := false }) s1
    let s3 := if s2.x.rf.followed = 0xE then s2
      else if a = 0xF then follow 0xF false s2
      else if s2.qual a = 2 ∧ a ≠ 0xE then follow a false s2
      else if a < 6 then modRf (fun r => { r with pendingActive := true }) s2
      else s2
    dxdReselect s3

def rfSelWrite (rq : Nat) (v : Word) (s : State) : State := admitWrite .dxd rq 0x1E 0x100 v (rfSel v) s

/-- R114. -/
def execRfSelWrite (rq : Nat) (v : Word) (s : State) : Host.Outcome State Fault Refusal := .next (rfSelWrite rq v s)

/-- The effect of a write of RF_INn_TOD: ignored once the root has loaded HT. -/
def rfTod (n : Nat) (v : Word) (s : State) : State :=
  if s.x.straps.role ≠ 2 ∨ s.dc.tk.htValid then s
  else modSrc n (fun r => { r with todValid := false, tod := fld v 0 48, todAt := s.dc.up + 1 }) s

def rfTodWrite (rq n : Nat) (v : Word) (s : State) : State :=
  if n < 2 then admitWrite .dxd rq 0x1E (0x120 + 0x10 * n) v (rfTod n v) s else s

/-- R111. -/
def execRfTodWrite (rq n : Nat) (v : Word) (s : State) : Host.Outcome State Fault Refusal := .next (rfTodWrite rq n v s)

/-! Holdover and the attic record, R125 to R127. -/

/-- A whole second of HT has passed: the mean of y over it is kept unless the second is left out, and the next one counts if
the DX-D is LOCKED and follows a source as it begins. -/
def meanUpdate (s : State) : State :=
  let h := s.x.hold
  if h.meanSec = s.dc.tk.sec then s
  else
    let keep := (h.means ++ [h.sumY.tdiv h.nY]).drop (h.means.length + 1 - 64)
    let runs := s.dc.coreA.st == 2 && dxdHasSource s
    modHold (fun h =>
      let h1 := { h with sumY := 0, nY := 0, skip := !runs, meanSec := s.dc.tk.sec }
      if h.skip ∨ h.nY = 0 ∨ s.dc.coreA.st ≠ 2 then h1
      else if keep.length = 64 then { h1 with means := keep, avail := true, rate := (keep.foldl (· + ·) 0).tdiv 64 }
      else { h1 with means := keep }) s

def holdoverMeanUpdate (d : Dev) (s : State) : State :=
  match d with
  | .tsu => s
  | .dxd => meanUpdate s

/-- R125: only a DX-D keeps a holdover average. -/
def execHoldoverMeanUpdate (d : Dev) (s : State) : Host.Outcome State Fault Refusal := .next (holdoverMeanUpdate d s)

def servoRecordWrite (s : State) : State :=
  if s.x.hold.avail ∧ s.dc.tk.state ≠ 3 ∧ s.x.hold.lastRecord + 64000000000 ≤ s.dc.up then writeRecord s.x.hold.rate s
  else s

/-- R127: every 64 s. -/
def execServoRecordWrite (s : State) : Host.Outcome State Fault Refusal := .next (servoRecordWrite s)

/-- The effect of a write of SV_CTL, R126, R127 and R140. -/
def svCtl (v : Word) (s : State) : State :=
  let ends := s.x.straps.role == 2 && bit (s.reg .dxd 0x10100) 1 && !bit v 1 && s.x.rf.followed != 0xF
  let s0 := setReg .dxd 0x10100 2 v s
  let s1 := if ends then modRf (fun r => { r with fresh := true, retake := !r.fresh || r.retake }) s0 else s0
  let s2 := if bit v 0 then writeRecord s1.x.hold.rate s1 else s1
  if s2.x.straps.role = 2 then dxdReselect s2 else s2

def svSave (rq : Nat) (v : Word) (s : State) : State :=
  if bit v 0 then admitWrite .dxd rq 0x10 0x100 v (svCtl v) s else s

/-- R127. -/
def execSvSave (rq : Nat) (v : Word) (s : State) : Host.Outcome State Fault Refusal := .next (svSave rq v s)

def svForceHoldover (rq : Nat) (v : Word) (s : State) : State := admitWrite .dxd rq 0x10 0x100 v (svCtl v) s

/-- R126. -/
def execSvForceHoldoverWrite (rq : Nat) (v : Word) (s : State) : Host.Outcome State Fault Refusal :=
  .next (svForceHoldover rq v s)

/-- PTP's own estimate over the Syncs of a 1,000 ms gate (R129), rounded down (log 101). -/
def syncFit (s : State) : Option (Option Int) :=
  match s.x.hold.syncFirst with
  | none => none
  | some (a1, a2, from_) =>
    let i := s.x.pt.i1
    if s.dc.up < from_ + 1000000000 then none
    else if i.t1 - a1 = 0 then some none
    else some (some (((i.t2 - a2) - (i.t1 - a1)) * (10 ^ 12 : Nat) / (i.t1 - a1)))

/-- How the first fit of a servo has ended. -/
def firstFit (d : Dev) (c : Nat) (s : State) : Option (Option Int) :=
  if d = .dxd ∧ s.x.straps.role = 2 ∧ s.x.rf.followed = 2 then syncFit s else fitEnd d (fitFirst c) s

/-- The first fit ends: acc is set from its result and the servo starts; a void one is taken again. -/
def firstFitComplete (d : Dev) (c : Nat) (s : State) : State :=
  let k := s.core d c
  if coreExists d c ∧ !setsHeld d s ∧ k.fit ∧ (s.com d).tk.htValid then
    match firstFit d c s with
    | some (some ppt) =>
      dropFit d (fitFirst c)
        (modCore d c (fun k => { k with fit := false, running := true, acc := ppt * (2 ^ 48 : Nat), y := ppt }) s)
    | some none => startFirstFit d c s
    | none => s
  else s

/-- R129: acc is set from FIT_PPT and the servo starts. -/
def execFirstFitComplete (d : Dev) (core : Nat) (s : State) : Host.Outcome State Fault Refusal :=
  .next (firstFitComplete d core s)

/-! The oscillator, R130. -/

/-- Every port of the DX-D falls silent. -/
def silencePorts (s : State) : State :=
  let ps := s.dc.ports.map (·.1)
  ps.foldl (fun s p =>
    let q := s.port .dxd p
    let s1 := modPort .dxd p (fun q => { q.closed with st := 0, wire := none }) s
    if q.live then portEvent .dxd p 1 s1 else s1) s

def oscLoss (s : State) : State :=
  if s.x.hold.oscLost then s
  else
    let s1 := history 19 (modHold (fun h => { h with oscLost := true }) s)
    let s2 := silencePorts s1
    let s3 := modTk .dxd (fun t => { t with htValid := false, r := 0, rPart := 0, pulling := false, freqOnly := false, stepPend := none, originSet := none, stepped := none, sec := 0, ns := 0, frac := 0, nco := 0 }) s2
    let root := s3.x.straps.role == 2
    let s4 := modRf (fun r => { r with fresh := root, retake := root }) (modCore .dxd 0 (fun _ => {}) s3)
    let s5 := if s4.qual 5 = 2 then modSrc 5 (fun r => { r with qual := 0 }) s4 else s4
    showDxdState (dropFit .dxd fitOsc (dropFit .dxd (fitFirst 0) s5))

/-- R130: OSC_LOSS counts as a reset of the DX-D's hall time, which runs from 0 in COLD (R44). -/
def execOscLoss (s : State) : Host.Outcome State Fault Refusal := .next (oscLoss s)

def oscReturn (s : State) : State :=
  if !s.x.hold.oscLost then s
  else
    let s1 := modHold (fun h => { h with oscLost := false }) s
    let up := s1.dc.up
    startOscFit (dxdReselect (modCom .dxd (fun c => { c with ports := c.ports.map (fun x =>
      (x.1, if x.2.enable ∧ x.2.st = 0 then x.2.toDown up else x.2)) }) s1))

/-- R130: edges have returned for 1 s. -/
def execOscReturn (s : State) : Host.Outcome State Fault Refusal := .next (oscReturn s)

/-! Outputs, R132 to R134 and R182. -/

def modOut (n : Nat) (f : OutPin → OutPin) (s : State) : State := modX (fun x => { x with outs := tabMod {} x.outs n f }) s

/-- Store an alignment at the full BC `at_` for the selected outputs; ignored while HT_VALID = 0. -/
def storeAlign (at_ outputs : Nat) (s : State) : State :=
  if !s.dc.tk.htValid then s
  else (upTo 3).foldl (fun s n => if outputs / 2 ^ n % 2 = 1 then modOut n (fun o => { o with pend := some at_ }) s else s) s

/-- ALIGN goes down every downstream port but the lanes of a package DX-D. -/
def alignPorts (s : State) : List Nat := if s.x.straps.role = 0 then [] else downPorts s

/-- The effect of OP_ALIGN.GO: R38 is checked against OP_ALIGN_AT. -/
def opAlign (v : Word) (s : State) : State :=
  if !bit v 63 then s
  else
    let t := (s.reg .dxd 0x11108).toNat
    let outs := fld v 0 3
    if !inWindow s.dc.tk.bc t then raise .dxd 0x00 6 s
    else
      let s1 := storeAlign t outs s
      if bit v 62 ∧ s.x.straps.role = 2 ∧ s.x.rf2.acting then
        let q := takeOseq s1
        flushLedger (afterLedgerTo (downPorts q.2) ⟨lowestEpoch q.2, .align ⟨q.1, t % 2 ^ 48, outs⟩⟩ q.2)
      else s1

def opAlignGo (rq : Nat) (v : Word) (s : State) : State :=
  if bit v 63 then admitWrite .dxd rq 0x11 0x110 v (opAlign v) s else s

/-- R133. -/
def execOpAlignGo (rq : Nat) (v : Word) (s : State) : Host.Outcome State Fault Refusal := .next (opAlignGo rq v s)

/-- An ALIGN frame: stored and forwarded once (R71). -/
def alignTake (p ep : Nat) (f : AlignF) : State → State :=
  byOseq .dxd f.oseq (fun s =>
    enqueueAll .dxd (alignPorts s) (some p) ⟨ep, .align f⟩ (storeAlign (extend48 s.dc.tk.bc f.at48) f.outputs s))

def alignReceive (p : Nat) (h : LinkHdr) (ep : Nat) (f : AlignF) (s : State) : State :=
  recvRetained .dxd p h ⟨ep, .align f⟩ (alignTake p ep f) s

/-- R133. -/
def execAlignReceive (p : Nat) (h : LinkHdr) (ep : Nat) (f : AlignF) (s : State) : Host.Outcome State Fault Refusal :=
  .next (alignReceive p h ep f s)

/-- Every output whose beat AT has come is re-phased and takes its written DELAY (R133, R134). -/
def outputAlignment (s : State) : State :=
  (upTo 3).foldl (fun s n =>
    let o := tabGet {} s.x.outs n
    match o.pend with
    | some t =>
      if reached s.dc.tk.bc (t % 2 ^ 48) then
        raise .dxd 0x11 n (modOut n (fun o => { o with
          pend := none, aligned := true, alignedAt := s.dc.tk.bc, delayWritten := false,
          delay := sx 32 (s.regF .dxd (0x11120 + 8 * n) 0 32) }) s)
      else s
    | none => s) s

/-- R133. -/
def execOutputAlignment (s : State) : Host.Outcome State Fault Refusal := .next (outputAlignment s)

/-- ERROR of each output over the last second and MISALIGNED, R134. The operands are the means of return stamp − nominal instant
on channels 199 to 201; the DELAY in effect is added to each. -/
def errorMeasure (es : List Int) (s : State) : State :=
  (upTo 3).foldl (fun s n =>
    let o := tabGet {} s.x.outs n
    let e := es.getD n 0 + o.delay
    let mis := decide (65536 < e.natAbs) || o.delayWritten
    let s1 := modOut n (fun o => { o with error := satS 32 e, misaligned := mis }) s
    if mis && !o.misaligned then raise .dxd 0x11 (3 + n) s1 else s1) s

/-- R134. -/
def execOutputErrorMeasure (e0 e1 e2 : Int) (s : State) : Host.Outcome State Fault Refusal :=
  .next (errorMeasure [e0, e1, e2] s)

/-- The waveform of an output at `t` (presented HT advanced by its DELAY) that is high for `high` after every multiple of
`period`: since its alignment, which is `since` in the same scale, it has been low until its next rising edge (R133). -/
def waveHigh (t since period high : Int) : Bool := decide (t % period < high ∧ since < t - t % period)

/-- STROBE_WIDTH in frac LSBs: units of 8 ns. -/
def strobeWidth (s : State) : Int := (orOne (s.regF .dxd 0x11100 16 8) * 8 * 65536 : Nat)

/-- The level that the DX-D drives on an output, R132: 1PPS, 10 MHz, and the step-frame strobe, whose overlapping pulses merge. It is
low until the first alignment after reset and while the output is not enabled; each edge is launched early by DELAY. An edge
whose launch would fall on AT itself or before it is not driven: the next one is (log 103). -/
def outputHigh (n : Nat) (s : State) : Bool :=
  let o := tabGet {} s.x.outs n
  let now : Int := (s.dc.tk.lsb : Int) + o.delay
  let since : Int := (o.alignedAt : Int) * 65536 + o.delay
  o.aligned && bit (s.reg .dxd 0x11100) n && match n with
    | 0 => waveHigh now since secLsb (secLsb / 10)
    | 1 => waveHigh now since (100 * 65536) (50 * 65536)
    | 2 => s.x.kicks.any (fun k =>
        let rise : Int := (k.k : Int) * 65536
        (k.strobed || !k.withdrawn) && decide (rise ≤ now ∧ now < rise + strobeWidth s ∧ since < rise))
    | _ => false

/-- The strobe of R132 and R182: every known kickoff whose beat has come, once, unless withdrawn. -/
def stepStrobe (s : State) : State :=
  let due (k : KnownKick) : Bool := !k.strobed && !k.withdrawn && decide (k.k ≤ s.dc.tk.bc)
  if s.x.kicks.any due then
    modX (fun x => { x with
      kicks := x.kicks.map (fun k => if due k then { k with strobed := true } else k), strobeAt := s.dc.tk.bc }) s
  else s

/-- R182. -/
def execStepFrameStrobe (s : State) : Host.Outcome State Fault Refusal := .next (stepStrobe s)

end Sys2Proof.Machine
end

