-- ==== Sys2Proof/Machine/Ptp.lean ====
section
/-!
DEFINITION. The 1588 port (R135 to R138, R142): messages received and sent, the PTP reference source, and PT_CTL. State
names are those of IEEE 1588 as PT_STATUS codes them.
-/

namespace Sys2Proof.Machine

def stInit : Nat := 1
def stDisabled : Nat := 3
def stListening : Nat := 4
def stMaster : Nat := 6
def stUncal : Nat := 8
def stSlave : Nat := 9

/-- The role an instance runs under: 0 DISABLED, 1 MASTER_ONLY, 2 SLAVE_ONLY (R136). -/
def ptpRole (inst : Nat) (s : State) : Nat :=
  let r := s.regF .dxd 0x12100 (if inst = 1 then 24 else 26) 2
  if r = 3 ∨ (inst = 2 ∧ r = 2) then 0 else r

def ptpInst (inst : Nat) (s : State) : PtpInst := if inst = 1 then s.x.pt.i1 else s.x.pt.i2

def modInst (inst : Nat) (f : PtpInst → PtpInst) (s : State) : State :=
  modPt (fun t => if inst = 1 then { t with i1 := f t.i1 } else { t with i2 := f t.i2 }) s

/-- portState changes, R142; instance 1 leaving SLAVE takes the PTP source's input away (R109, R113). -/
def ptpState (inst n : Nat) (s : State) : State :=
  let was := (ptpInst inst s).state
  if was = n then s
  else
    let up := s.dc.up
    let s1 := raise .dxd 0x12 (inst - 1) (modInst inst (fun i => { i with state := n, slaveFrom := up, slaveSecs := 0 }) s)
    if inst = 1 ∧ was = stSlave then loseEdges 2 s1 else s1

/-- Own clockIdentity: the EUI-64 of the fused MAC. -/
def clockIdentity (s : State) : Nat :=
  let m := s.dc.fuse.mac
  m / 2 ^ 24 * 2 ^ 40 + 0xFFFE * 2 ^ 24 + m % 2 ^ 24

/-- sourcePortIdentity of an instance. -/
def portIdentity (inst : Nat) (s : State) : Nat := clockIdentity s * 65536 + inst

/-- A received stamp less the ingress latency, in frac LSBs. -/
def rxTime (stamp : Nat) (s : State) : Int :=
  (stamp : Int) - ((s.dc.fuse.ptpIngress : Int) + sx 32 (s.regF .dxd 0x12118 0 32))

/-- The departure time T of R138. -/
def txTime (t : Nat) (s : State) : Int :=
  (t : Int) + s.dc.fuse.ptpEgress + sx 32 (s.regF .dxd 0x12118 32 32)

/-- Nanoseconds to frac LSBs. -/
def nsLsb (ns : Nat) : Int := (ns : Int) * 65536

/-- PT_INTERVALS fields with their limits. -/
def logSync (s : State) : Int := clampI (sx 8 (s.regF .dxd 0x12108 24 8)) (-7) 1
def logAnnounce (s : State) : Int := clampI (sx 8 (s.regF .dxd 0x12108 16 8)) 0 3
def announceTimeout (s : State) : Nat := max 2 (s.regF .dxd 0x12108 0 8)

/-- logMinDelayReqInterval, also used as logMinPdelayReqInterval. -/
def logMinDelay (s : State) : Int := clampI (sx 8 (s.regF .dxd 0x12108 8 8)) (-7) 1

/-! Transport and delay mechanism, R135 and R136. -/

/-- Peer delay (DELAY_MECH = 1), else request-response. -/
def peerDelay (s : State) : Bool := bit (s.reg .dxd 0x12100) 29

/-- UDP/IPv4 (TRANSPORT = 1), else IEEE 802.3. -/
def udpTransport (s : State) : Bool := bit (s.reg .dxd 0x12100) 30

/-- A message of the peer-delay mechanism. -/
def isPeerKind : PtpKind → Bool
  | .pdelayReq | .pdelayResp | .pdelayRespFollowUp => true
  | _ => false

/-- An event message, which has a timestamp point. -/
def isEventKind : PtpKind → Bool
  | .sync | .delayReq | .pdelayReq | .pdelayResp => true
  | _ => false

/-- A message that the configured delay mechanism uses. -/
def mechUses (k : PtpKind) (s : State) : Bool :=
  match k with
  | .delayReq | .delayResp => !peerDelay s
  | .pdelayReq | .pdelayResp | .pdelayRespFollowUp => peerDelay s
  | _ => true

/-- VLAN_n and IPV4_n. -/
def ptpVlan (inst : Nat) (s : State) : Nat := s.regF .dxd 0x12100 (if inst = 1 then 36 else 48) 12
def ptpAddr (inst : Nat) (s : State) : Nat := s.regF .dxd 0x12110 (if inst = 1 then 32 else 0) 32

/-- How an instance sends a message of a kind: event port 319, general port 320 or EtherType 0x88F7; 224.0.1.129 and
01-1B-19-00-00-00, or for peer delay 224.0.0.107 and 01-80-C2-00-00-0E. -/
def netOf (inst : Nat) (k : PtpKind) (csumZero : Bool) (s : State) : PtpNet :=
  let udp := udpTransport s
  { udp := udp, proto := if udp then (if isEventKind k then 319 else 320) else 0x88F7, vlan := ptpVlan inst s,
    dest := if udp then (if isPeerKind k then 0xE000006B else 0xE0000181)
      else if isPeerKind k then 0x0180C200000E else 0x011B19000000,
    src := if udp then ptpAddr inst s else 0, csumZero := udp && csumZero }

/-- A message that came the way the instance listens on. -/
def netMatches (inst : Nat) (m : PtpMsg) (s : State) : Bool :=
  let n := netOf inst m.kind false s
  m.net.udp == n.udp && m.net.proto == n.proto && m.net.vlan == n.vlan && m.net.dest == n.dest

/-- 2^l seconds in beats. -/
def intervalBeats (l : Int) : Nat := if 0 ≤ l then 1000000000 * 2 ^ l.toNat else 1000000000 / 2 ^ (-l).toNat

/-- An announced dataset as the default best-master algorithm compares it. -/
def masterKey (m : PtpMsg) : List Nat :=
  [m.priority1, m.clockClass, m.accuracy, m.variance, m.priority2, m.gm, m.stepsRemoved, m.source]

/-- Lexicographic order. -/
def keyLt : List Nat → List Nat → Bool
  | a :: as, b :: bs => decide (a < b) || (a == b && keyLt as bs)
  | _, _ => false

/-- An Announce at a SLAVE_ONLY instance: the best master is kept, and a grandmaster other than the last one it saw is a change
(R113, R131). -/
def ptpAnnounce (inst : Nat) (m : PtpMsg) (s : State) : State :=
  let i := ptpInst inst s
  let take := match i.ann with
    | none => true
    | some a => a.source == m.source || keyLt (masterKey m) (masterKey a)
  if !take then s
  else
    let newGm := i.gm != 0 && i.gm != m.gm
    let up := s.dc.up
    let s1 := modInst inst (fun i => { i with
      ann := some m, annAt := up, gm := m.gm, steps := m.stepsRemoved,
      slaveFrom := if newGm then up else i.slaveFrom, slaveSecs := if newGm then 0 else i.slaveSecs }) s
    let s2 := if inst = 1 ∧ newGm then history 14 (lost 2 s1) else s1
    if i.state = stInit ∨ i.state = stListening then ptpState inst stUncal s2 else s2

/-- The root's servo takes the offset of a Sync while PTP is followed (R110, R117). Its load is that of R116's table, master time plus
offsetFromMaster; master time is HT less that offset (DEDUCED, log 95). -/
def ptpSample (off : Int) (s : State) : State :=
  if !rootRuns s || s.x.rf.followed ≠ 2 || bit (s.reg .dxd 0x10100) 1 then s
  else if !s.dc.tk.htValid then
    (if traceableSource s then
       let master : Int := (s.dc.tk.lsb : Int) - off
       rootLoad true (master + off) s
     else rootLoad false ((localSec s : Int) * secLsb) s)
  else
    let s1 := if s.x.rf.fresh then firstSample off off s else s
    dxdReselect (rootServo (off - s1.dc.tk.r) s1)

/-- A Sync in SLAVE (R112). Seconds count from the entry into SLAVE or from a new grandmaster, each with at least one Sync; a second
without one starts the count again. PTP is QUALIFYING from the first Sync on, and QUALIFIED at the first one after QUAL_S such
seconds. -/
def slaveSecond (inst : Nat) (s : State) : State :=
  let i := ptpInst inst s
  let up := s.dc.up
  let k := (up - i.slaveFrom) / 1000000000
  let full := decide (qualSeconds s ≤ i.slaveSecs ∧ qualSeconds s ≤ k)
  let s1 := modInst inst (fun i =>
    if k ≤ i.slaveSecs ∨ full then { i with syncAt := up, slaveSecs := max i.slaveSecs (k + 1) }
    else { i with syncAt := up, slaveFrom := up, slaveSecs := 1 }) s
  if inst ≠ 1 then s1
  else
    let s2 := beginQualify 2 s1
    if s2.qual 2 = 1 ∧ full then qualified 2 s2 else s2

/-- A complete Sync: t1 with its corrections, t2; offsetFromMaster follows. -/
def ptpSync (inst : Nat) (t1 t2 : Int) (s : State) : State :=
  let i := ptpInst inst s
  let off := t2 - t1 - i.meanPath
  let s0 := if inst = 1 ∧ s.dc.coreA.fit ∧ s.x.hold.syncFirst.isNone then
      modHold (fun h => { h with syncFirst := some (t1, t2, s.dc.up) }) s else s
  let s1 := modInst inst (fun i => { i with t1 := t1, t2 := t2, waitFu := none, offset := off }) s0
  let s2 := if i.state = stUncal then ptpState inst stSlave s1 else s1
  if (ptpInst inst s2).state = stSlave then
    let s3 := slaveSecond inst s2
    if inst = 1 then ptpSample off s3 else s3
  else s2

/-- The peer-delay mechanism's mean path. -/
def ptpPath (inst : Nat) (d2 : Int) (s : State) : State := modInst inst (fun i => { i with meanPath := d2 / 2 }) s

/-- What a received message does at an instance in role `role`. -/
def ptpHandle (inst role : Nat) (m : PtpMsg) (stamp : Nat) (s : State) : State :=
  let i := ptpInst inst s
  let rx := rxTime stamp s
  let fromMaster := match i.ann with
    | some a => a.source == m.source
    | none => false
  let body := nsLsb m.ts
  match m.kind with
  | .announce => if role = 2 then ptpAnnounce inst m s else s
  | .sync =>
    if role ≠ 2 || !fromMaster then s
    else if m.twoStep then modInst inst (fun i => { i with waitFu := some (m.seq, stamp, m.correction) }) s
    else ptpSync inst (body + m.correction) rx s
  | .followUp =>
    (match i.waitFu with
     | some (q, st, corr) =>
       if role = 2 && fromMaster && q == m.seq then ptpSync inst (body + m.correction + corr) (rxTime st s) s else s
     | none => s)
  | .delayReq => if role = 1 then modInst inst (fun i => { i with rxReq := some (m.seq, rx) }) s else s
  | .delayResp =>
    (match i.req with
     | some (q, t3) =>
       if role = 2 && fromMaster && q == m.seq && m.requester == portIdentity inst s then
         ptpPath inst ((i.t2 - i.t1) + (body - m.correction - t3)) (modInst inst (fun i => { i with req := none }) s)
       else s
     | none => s)
  | .pdelayReq => modInst inst (fun i => { i with rxReq := some (m.seq, rx) }) s
  | .pdelayResp =>
    (match i.req with
     | some (q, t1) =>
       if q == m.seq && m.requester == portIdentity inst s then
         (if m.twoStep then modInst inst (fun i => { i with presp := some (body, rx, m.correction) }) s
          else ptpPath inst (rx - t1 - m.correction) (modInst inst (fun i => { i with req := none }) s))
       else s
     | none => s)
  | .pdelayRespFollowUp =>
    (match i.req, i.presp with
     | some (q, t1), some (t2, t4, corr) =>
       if q == m.seq && m.requester == portIdentity inst s then
         ptpPath inst ((t4 - t1) - (body - t2) - corr - m.correction)
           (modInst inst (fun i => { i with req := none, presp := none }) s)
       else s
     | _, _ => s)

/-- The port is operative in root role only, with its link up and an instance that is not DISABLED (R142). -/
def ptpRuns (inst : Nat) (s : State) : Bool :=
  s.x.straps.role == 2 && s.x.pt.linkUp && (inst == 1 || inst == 2) && ptpRole inst s != 0 && !inCellar .dxd s

def ptpReceive (inst : Nat) (m : PtpMsg) (stamp : Nat) (s : State) : State :=
  if ptpRuns inst s && m.domain == s.regF .dxd 0x12100 16 8 && netMatches inst m s && mechUses m.kind s then ptpHandle inst (ptpRole inst s) m stamp s else s

/-- R138. -/
def execPtpMessageReceive (inst : Nat) (m : PtpMsg) (stamp : Nat) (s : State) : Host.Outcome State Fault Refusal :=
  .next (ptpReceive inst m stamp s)

/-- The clockClass announced while the root does not follow PTP, R137. -/
def ownClass (s : State) : Nat :=
  if s.dc.tk.state = 2 ∧ s.dc.tk.traceable then 6
  else if s.dc.tk.state = 3 ∧ s.dc.tk.traceable then 7 else 248

/-- The dataset a MASTER_ONLY instance announces, R137. -/
def announceOf (inst : Nat) (m : PtpMsg) (s : State) : PtpMsg :=
  let t := s.dc.tk
  let inTrace := (s.x.rf.followed == 0 || s.x.rf.followed == 1) && traceableSource s
  let base : PtpMsg := { m with
    domain := s.regF .dxd 0x12100 16 8, source := portIdentity inst s, utcOffset := t.utcOffset, utcValid := t.utcValid,
    ptpTimescale := true, timeTraceable := t.traceable, freqTraceable := t.traceable }
  match s.x.rf.followed, s.x.pt.i1.ann with
  | 2, some a => { base with
      gm := a.gm, priority1 := a.priority1, priority2 := a.priority2, clockClass := a.clockClass,
      accuracy := a.accuracy, variance := a.variance, stepsRemoved := a.stepsRemoved + 1, timeSource := 0x40 }
  | _, _ => { base with
      gm := clockIdentity s, priority1 := s.regF .dxd 0x12100 8 8, priority2 := s.regF .dxd 0x12100 0 8,
      clockClass := ownClass s, accuracy := if ownClass s = 6 then 0x21 else 0xFE, variance := 0xFFFF,
      stepsRemoved := 0, timeSource := if inTrace then 0x20 else 0xA0 }

/-- CLOCK_CLASS of PT_STATUS: the class being announced. -/
def announcedClass (s : State) : Nat :=
  match s.x.rf.followed, s.x.pt.i1.ann with
  | 2, some a => a.clockClass
  | _, _ => ownClass s

/-- ns of a time in frac LSBs, and its frac. -/
def nsOf (t : Int) : Nat := (t / 65536).toNat
def fracOf (t : Int) : Int := t % 65536

/-- TX_CHECK keeps the largest difference of T and the stamp, R138. -/
def txCheck (t stamp : Int) (s : State) : State :=
  modPt (fun p => { p with txCheck := max p.txCheck (min 0xFFFFFFFF (t - stamp).natAbs) }) s

/-- A message as it leaves: T inserted in one-step mode, the stamp carried by the follow-ups (R138). How a two-step Pdelay_Resp
carries t2 the spec does not say: its ns goes into requestReceiptTimestamp and its frac is added to correctionField, and the
receiving side takes both from the turnaround (DESIGN CHOICE, log 110). -/
def ptpSend (inst : Nat) (m : PtpMsg) (t stamp : Nat) (s : State) : State :=
  let i := ptpInst inst s
  let two := bit (s.reg .dxd 0x12100) 28
  let tt := txTime t s
  let put (m : PtpMsg) (f : PtpInst → PtpInst) (s : State) : State :=
    modInst inst (fun i => { (f i) with sent := some m }) s
  let oneStep := !two && (m.kind == .sync || m.kind == .pdelayResp)
  let m0 : PtpMsg := { m with
    domain := s.regF .dxd 0x12100 16 8, source := portIdentity inst s, twoStep := two, net := netOf inst m.kind oneStep s }
  match m.kind with
  | .sync =>
    if two then put m0 (fun i => { i with txStamp := stamp }) s
    else txCheck tt stamp (put { m0 with ts := nsOf tt, correction := m.correction + fracOf tt } (fun i => { i with txStamp := stamp }) s)
  | .followUp => put { m0 with ts := nsOf i.txStamp, correction := m.correction + fracOf i.txStamp } id s
  | .delayReq => put m0 (fun i => { i with req := some (m.seq, stamp), reqAt := some s.dc.up }) s
  | .pdelayReq => put m0 (fun i => { i with req := some (m.seq, stamp), reqAt := some s.dc.up }) s
  | .delayResp =>
    let t4 := (i.rxReq.map (·.2)).getD 0
    put { m0 with ts := nsOf t4, correction := m.correction - fracOf t4 } (fun i => { i with rxReq := none }) s
  | .pdelayResp =>
    let t2 := (i.rxReq.map (·.2)).getD 0
    if two then put { m0 with ts := nsOf t2, correction := m.correction + fracOf t2 } (fun i => { i with txStamp := stamp, rxReq := none }) s
    else txCheck tt stamp (put { m0 with ts := 0, correction := m.correction + (tt - t2) } (fun i => { i with rxReq := none }) s)
  | .pdelayRespFollowUp => put { m0 with ts := nsOf i.txStamp, correction := m.correction + fracOf i.txStamp } id s
  | .announce => put { (announceOf inst m s) with net := m0.net } id s

/-- A Delay_Req or Pdelay_Req leaves no sooner than its least interval after the last one (PT_INTERVALS). -/
def reqTooSoon (inst : Nat) (k : PtpKind) (s : State) : Bool :=
  (k == .delayReq || k == .pdelayReq) && match (ptpInst inst s).reqAt with
    | some t => decide (s.dc.up < t + intervalBeats (logMinDelay s))
    | none => false

def ptpTransmit (inst : Nat) (m : PtpMsg) (t stamp : Nat) (s : State) : State :=
  if ptpRuns inst s && mechUses m.kind s && !reqTooSoon inst m.kind s then
    let s1 := if ptpRole inst s = 1 ∧ (ptpInst inst s).state ≠ stMaster then ptpState inst stMaster s
      else if ptpRole inst s = 2 ∧ (ptpInst inst s).state = stInit then ptpState inst stListening s else s
    ptpSend inst m t stamp s1
  else s

/-- R138. -/
def execPtpMessageTransmit (inst : Nat) (m : PtpMsg) (t stamp : Nat) (s : State) : Host.Outcome State Fault Refusal :=
  .next (ptpTransmit inst m t stamp s)

/-- No Announce, or no Sync, for too long (R113): without Announces the instance goes back to LISTENING. -/
def ptpTimeout (s : State) : State :=
  let i := s.x.pt.i1
  let up := s.dc.up
  if i.state ≠ stSlave ∧ i.state ≠ stUncal then s
  else if i.annAt + announceTimeout s * intervalBeats (logAnnounce s) ≤ up then
    ptpState 1 stListening (modInst 1 (fun i => { i with ann := none }) s)
  else if i.syncAt + 3 * intervalBeats (logSync s) ≤ up then loseEdges 2 (modInst 1 (fun i => { i with slaveFrom := up, slaveSecs := 0 }) s)
  else s

/-- R113. -/
def execPtpAnnounceTimeout (s : State) : Host.Outcome State Fault Refusal := .next (ptpTimeout s)

/-- Restart an instance under PT_CTL, R136. -/
def ptpRestart (inst : Nat) (s : State) : State :=
  let s1 := ptpState inst (if ptpRole inst s = 0 then stDisabled else stInit) s
  modInst inst (fun i => { state := i.state, sent := i.sent }) s1

/-- The effect of a write of PT_CTL; a DOMAIN above 127 leaves that field unchanged. -/
def ptCtl (v : Word) (s : State) : State :=
  if s.x.straps.role ≠ 2 then s
  else
    let old := s.reg .dxd 0x12100
    let mask : Word := wd [(48, 0xFFF), (36, 0xFFF), (24, 0xFF), (16, if fld v 16 8 ≤ 127 then 0xFF else 0), (0, 0xFFFF)]
    let s1 := setReg .dxd 0x12100 mask v s
    let dif := old ^^^ s1.reg .dxd 0x12100
    let common := fld dif 28 4 != 0 || fld dif 0 24 != 0
    let s2 := if common || fld dif 36 12 != 0 || fld dif 24 2 != 0 then ptpRestart 1 s1 else s1
    if common || fld dif 48 12 != 0 || fld dif 26 2 != 0 then ptpRestart 2 s2 else s2

def ptCtlWrite (rq : Nat) (v : Word) (s : State) : State := admitWrite .dxd rq 0x12 0x100 v (ptCtl v) s

/-- R136. -/
def execPtCtlWrite (rq : Nat) (v : Word) (s : State) : Host.Outcome State Fault Refusal := .next (ptCtlWrite rq v s)

/-- PT_PATH, R142. -/
def ptPathWord (s : State) : Word := wd [(32, s.x.pt.txCheck), (0, ux 32 s.x.pt.i1.meanPath)]

def ptPathRead (rq : Nat) (s : State) : State :=
  admitRead .dxd rq 0x12 0x138 ptPathWord (modPt (fun p => { p with txCheck := 0 })) s

/-- R142: TX_CHECK is cleared by the read. -/
def execPtPathRead (rq : Nat) (s : State) : Host.Outcome State Fault Refusal := .next (ptPathRead rq s)

def ptpLink (up : Bool) (s : State) : State :=
  if s.x.straps.role ≠ 2 ∨ s.x.pt.linkUp = up then s else raise .dxd 0x12 2 (modPt (fun p => { p with linkUp := up }) s)

/-- R142. -/
def execPtpLinkChange (up : Bool) (s : State) : Host.Outcome State Fault Refusal := .next (ptpLink up s)

end Sys2Proof.Machine
end

