-- ==== Sys2Proof/Machine/Tallies.lean ====
section
/-!
DEFINITION. The meanings of the tally commands of a TSU (R272 to R274, R284, R288).
-/

namespace Sys2Proof.Machine

/-- The port codes that name a tap of the variant, R412. -/
def tapCode (k : TsuKind) (tap : Nat) : Bool :=
  match k with
  | .e => decide (tap < 8 ∨ (0x10 ≤ tap ∧ tap < 0x14))
  | .w => decide ((0x20 ≤ tap ∧ tap < 0x28) ∨ (0x30 ≤ tap ∧ tap < 0x34))
  | _ => false

/-- A unit passes a tap: every line lane bound to its flow takes it. A lane whose PORT names no tap is bound to no flow (R272). -/
def tapUnit (tap flow : Nat) (outbound : Bool) (bytes : List Byte) (s : State) : State :=
  if !tsuUnits s || !tapCode s.tc.fuse.kind tap then s
  else (upTo 8).foldl (fun s i =>
    let lane := if outbound then 8 + i else i
    if lanePort (s.lane lane) = tap ∧ laneFlow (s.lane lane) = flow then
      laneUnit lane bytes (max 1 ((bytes.length + 63) / 64)) s
    else s) s

/-- R272 and R274. -/
def execTallyTapUnit (tap flow : Nat) (outbound : Bool) (bytes : List Byte) (s : State) :
    Host.Outcome State Fault Refusal := .next (tapUnit tap flow outbound bytes s)

/-- The effect of TL_FEEDn, R273. -/
def feedStore (rq n : Nat) (v : Word) (s : State) : State :=
  if !feedLanes s.tc.fuse.kind || decide (4 ≤ n) then s
  else if laneOwner (s.lane n) ≠ rq then
    raise .tsu 0x09 1 (modTl (fun t => { t with feedRefused := sat16 (t.feedRefused + 1) }) s)
  else laneUnit n (bytesBE 8 v.toNat) 1 s

/-- R273. -/
def execTlFeedWrite (rq n : Nat) (v : Word) (s : State) : Host.Outcome State Fault Refusal :=
  .next (if n < 4 then admitWrite .tsu rq 0x09 (0x180 + 8 * n) v (feedStore rq n v) s else s)

/-- The end beat of the next asked window of a lane has come. -/
def windowDue (s : State) (lane : Nat) : Option (StepRec × Nat) :=
  match launchedStep s with
  | none => none
  | some r => match nextWindow s r lane with
    | some w => if lsEnable s && decide (r.k + 4096 * (w + 1) ≤ s.tc.tk.bc) then some (r, w) else none
    | none => none

def windowCloseCmd (lane : Nat) (s : State) : State :=
  match windowDue s lane with
  | none => s
  | some (r, w) =>
    let c := closeWindow r lane w (dieTemp s) (tallyWaiting s) s
    sendAll c.1 (noteClosed lane w c.2)

/-- R284 and R285. -/
def execProbeWindowClose (lane : Nat) (s : State) : Host.Outcome State Fault Refusal := .next (windowCloseCmd lane s)

/-- Put a frame on every lane in UP. -/
def sendFrames (fs : List Frame) (s : State) : State :=
  fs.foldl (fun s f => enqueueAll .tsu ((upTo 2).filter (fun p => (s.port .tsu p).st == 5)) none f s) s

def queueRoom (s : State) : State :=
  match s.t.tl.closingWait with
  | [] => s
  | (i, fs) :: rest =>
    if tallyWaiting s + 2 ≤ 64 then
      let s1 := modTl (fun t => { t with
        closingWait := rest,
        ring := match tabGet none t.ring i with
          | some x => tabSet none t.ring i (some { x with sent := true })
          | none => t.ring }) s
      if s1.tc.tk.sideline then s1 else sendFrames fs s1
    else s

/-- R284. -/
def execTallyQueueRoom (s : State) : Host.Outcome State Fault Refusal := .next (queueRoom s)

/-- TL_ERRORS of a TSU and of a DX-D, R288 and R289. -/
def tlErrors (d : Dev) (s : State) : Word :=
  match d with
  | .tsu => wd [(32, s.t.tl.gapWords), (16, s.t.tl.feedRefused), (0, s.t.tl.overrun)]
  | .dxd => wd [(16, s.x.tl.corrupt), (0, s.x.tl.stray)]

/-- The read clears the counts. -/
def clearTlErrors (d : Dev) (s : State) : State :=
  match d with
  | .tsu => modTl (fun t => { t with gapWords := 0, feedRefused := 0, overrun := 0 }) s
  | .dxd => modScores (fun t => { t with corrupt := 0, stray := 0 }) s

/-- R288 and R289. -/
def execTlErrorsRead (d : Dev) (rq : Nat) (s : State) : Host.Outcome State Fault Refusal :=
  .next (admitRead d rq 0x09 0x108 (tlErrors d) (clearTlErrors d) s)

end Sys2Proof.Machine
end

