-- ==== Sys2Proof/Machine/RegsDxd.lean ====
section
/-!
DEFINITION. The registers of the pages that only a DX-D has: RF, SV, OP, PT, CS, TL, LS, MB, LG and AT (R131, R141, R142,
R245, R289, R291, R321, R323, R395).
-/

namespace Sys2Proof.Machine

/-! RF and SV, R131. -/

/-- SEL_STATE, R115. -/
def selState (s : State) : Nat :=
  let f := s.x.rf.followed
  if f = 0xE then 5
  else if f ≠ 0xF ∧ f = rfActive s then 2
  else if s.x.rf.pendingActive then 1
  else if f ≠ 0xF then 3
  else if s.dc.tk.htValid then 4 else 0

def rfStatus (s : State) : Word :=
  wd ([(40, s.x.rf.followed), (32, selState s), (12, if s.x.straps.role = 2 then s.qual 0xE else 0)] ++
    (upTo 6).map (fun n => (2 * n, s.qual n)))

def todValidWord (n : Nat) (s : State) : Word := wd [(63, b2n (tabGet {} s.x.rf.src n).todValid)]

def rfReg (off : Nat) : RegDef :=
  match off with
  | 0x100 => fxReg (fun s => s.reg .dxd 0x1E100) (ones 0 21) rfSel
  | 0x108 => roReg rfStatus
  | 0x110 => rwReg .dxd 0x1E110 (ones 8 40)
  | 0x118 => rwReg .dxd 0x1E118 (bitW 63 ||| ones 0 32)
  | 0x120 => fxReg (todValidWord 0) (ones 0 48) (rfTod 0)
  | 0x128 => rwReg .dxd 0x1E128 (bitW 63 ||| ones 0 32)
  | 0x130 => fxReg (todValidWord 1) (ones 0 48) (rfTod 1)
  | _ => noReg

def svStatus (s : State) : Word :=
  let h := s.x.hold
  let freq := freqShown s
  wd [(32, h.means.length), (28, h.profile), (26, h.src), (25, b2n h.avail), (24, b2n h.noHistory),
      (23, b2n s.dc.coreA.fit), (22, b2n freq)]

def svHistoryStore (v : Word) (s : State) : State := modHold (fun h => { h with history := h.history &&& ~~~v }) s

def svReg (off : Nat) : RegDef :=
  match off with
  | 0x100 => fxReg (fun s => s.reg .dxd 0x10100) 3 svCtl
  | 0x108 => roReg svStatus
  | 0x110 => roReg (fun s => wd [(32, ux 32 s.x.hold.rate), (0, ux 32 s.dc.coreA.y)])
  | 0x118 => roReg (fun s => BitVec.ofInt 64 s.dc.coreA.e)
  | 0x120 => rwReg .dxd 0x10120 (ones 0 20)
  | 0x128 => rwReg .dxd 0x10128 (ones 40 24 ||| ones 8 24)
  | 0x130 => fxReg (fun s => s.x.hold.history) (ones 0 20) svHistoryStore
  | 0x138 => roReg (fun s => BitVec.ofInt 64 s.dc.tk.r)
  | o =>
    if 0x140 ≤ o ∧ o ≤ 0x178 then rwReg .dxd (0x10000 + o) (if o % 16 = 0 then ones 0 32 else ones 0 64) else noReg

/-! OP, R141. -/

def opStatus (s : State) : Word :=
  wd ((upTo 3).flatMap (fun n =>
    let o : OutPin := tabGet {} s.x.outs n
    [(8 + n, b2n o.pend.isSome), (4 + n, b2n o.misaligned), (n, b2n o.aligned)]))

/-- A written DELAY waits for the next alignment (R134). -/
def opOutStore (n : Nat) (v : Word) (s : State) : State :=
  modOut n (fun o => { o with delayWritten := true }) (setReg .dxd (0x11120 + 8 * n) (ones 0 32) v s)

def opOutWord (n : Nat) (s : State) : Word :=
  wd [(32, ux 32 (tabGet ({} : OutPin) s.x.outs n).error), (0, s.regF .dxd (0x11120 + 8 * n) 0 32)]

def opReg (off : Nat) : RegDef :=
  match off with
  | 0x100 => rwReg .dxd 0x11100 (ones 16 8 ||| ones 0 3)
  | 0x108 => rwReg .dxd 0x11108 (ones 0 64)
  | 0x110 => fxReg (fun _ => 0) (ones 62 2 ||| ones 0 3) opAlign
  | 0x118 => roReg opStatus
  | o => if o = 0x120 ∨ o = 0x128 ∨ o = 0x130 then
      fxReg (opOutWord ((o - 0x120) / 8)) (ones 0 32) (opOutStore ((o - 0x120) / 8)) else noReg

/-! PT, R142. -/

def ptStatus (s : State) : Word :=
  let p := s.x.pt
  wd [(32, p.i1.steps), (24, announcedClass s), (20, p.i2.state), (16, p.i1.state), (0, b2n p.linkUp)]

def ptReg (off : Nat) : RegDef :=
  match off with
  | 0x100 => fxReg (fun s => s.reg .dxd 0x12100) (ones 36 24 ||| ones 0 32) ptCtl
  | 0x108 => rwReg .dxd 0x12108 (ones 0 32)
  | 0x110 => rwReg .dxd 0x12110 (ones 0 64)
  | 0x118 => rwReg .dxd 0x12118 (ones 0 64)
  | 0x120 => roReg ptStatus
  | 0x128 => roReg (fun s => wd [(0, s.x.pt.i1.gm)])
  | 0x130 => roReg (fun s => BitVec.ofInt 64 s.x.pt.i1.offset)
  | 0x138 => rcReg ptPathWord (modPt (fun p => { p with txCheck := 0 }))
  | _ => noReg

/-! CS, R245. -/

/-- CS_GROUP shows the group that CS_GROUP_SEL names. -/
def csGroup (s : State) : Word :=
  let ep := s.regF .dxd 0x13108 32 32
  let g := s.regF .dxd 0x13108 0 8
  match s.x.cs.served.find? (fun v => v.epoch == ep && v.loaded) with
  | some v =>
    let e := tabGet (false, 0) v.groups g
    wd [(63, 1), (62, b2n e.1), (0, e.2 % 2 ^ 24)]
  | none => 0

def csLogWord (k : Nat) (who : Bool) (s : State) : Word :=
  match s.x.cs.log[k]? with
  | some m => if who then wd [(56, m.port), (32, m.count % 2 ^ 24), (0, m.die)] else wd [(63, 1), (48, m.slot), (0, m.step)]
  | none => 0

def csReg (off : Nat) : RegDef :=
  match off with
  | 0x100 => rcReg csStatus clearPeak
  | 0x108 => rwReg .dxd 0x13108 (ones 32 32 ||| ones 0 8)
  | 0x110 => roReg csGroup
  | o => if 0x120 ≤ o ∧ o ≤ 0x198 then roReg (csLogWord ((o - 0x120) / 16) (o % 16 == 8)) else noReg

/-! TL and LS of a DX-D, R289 and R291. -/

def tlDxdReg (off : Nat) : RegDef :=
  match off with
  | 0x100 => roReg (fun s => wd [(0, s.x.tl.combos.countP (fun c => !c.sent))])
  | 0x108 => rcReg (tlErrors .dxd) (clearTlErrors .dxd)
  | 0x110 => roReg (fun s => wd [(63, b2n s.x.tl.hallValid), (0, s.x.tl.hallStep)])
  | o => if 0x118 ≤ o ∧ o ≤ 0x130 then roReg (fun s => wd [(0, be s.x.tl.hall (o - 0x118) 8)]) else noReg

def lsCfgWord (e : Nat) (s : State) : Word :=
  let x := s.lsEnt e
  wd [(63, b2n x.valid), (62, b2n x.refused), (60, x.reason), (0, lsLanes s e)]

def lsDivWord (k : Nat) (who : Bool) (s : State) : Word :=
  match s.x.tl.div[k]? with
  | some v =>
    if who then wd [(40, v.window), (36, v.lane), (33, v.pair), (31, v.side), (16, v.rankX), (0, v.position)]
    else wd [(63, 1), (62, b2n v.confirmed), (0, v.step)]
  | none => 0

def lsDxdReg (off : Nat) : RegDef :=
  if 0x100 ≤ off ∧ off < 0x200 then
    let e := (off - 0x100) / 0x20
    if off % 0x20 = 0x18 then fxReg (lsCfgWord e) (bitW 63 ||| ones 0 16) (lsCfgWrite e)
    else rwReg .dxd (0xA000 + off) (ones 4 60)
  else if off = 0x200 then roReg (fun s => wd [(0, s.x.tl.recs.length)])
  else if off = 0x208 then rcReg lsCounts clearLsCounts
  else if 0x280 ≤ off ∧ off ≤ 0x2F8 then roReg (lsDivWord ((off - 0x280) / 16) (off % 16 == 8))
  else noReg

/-! MB, R321: job, timing, complaint and spare registers live at the acting referee. -/

def mbJob (f : Job → Word) (s : State) : Word :=
  match s.job (jobSel s) with
  | some b => f b
  | none => 0

def mbJobStatus (b : Job) : Word := wd [(60, b.state), (48, b.result), (32, sat16 b.benched), (0, b.epoch)]

/-- ATTEMPT of the lowest uncommitted step, and the last committed step. -/
def mbJobStep (b : Job) : Word :=
  let l := b.steps.filter (fun r => !r.committed)
  let low := l.foldl (fun n r => min n r.step) (2 ^ 48)
  wd [(56, (l.filter (fun r => r.step == low)).foldl (fun n r => max n r.attempt) 0), (0, b.committedTo.getD 0)]

def mbSpareWord (s : State) : Word :=
  let e := tabGet {} s.x.rf2.spares (s.regF .dxd 0x14148 0 6)
  wd [(63, b2n e.valid), (62, b2n e.ws), (61, b2n (e.valid && slotInJob s e.ws e.slot)), (32, e.slot), (0, e.bestClass)]

def mbComplaintWord (s : State) : Word := wd [(62, s.x.rf2.complaint), (0, s.regF .dxd 0x14138 0 32)]

def mbLastBench (s : State) : Word :=
  wd [(56, s.x.rf2.benchReason), (48, s.x.rf2.benchKind), (0, s.x.rf2.benchTarget)]

def mbReg (off : Nat) : RegDef :=
  match off with
  | 0x100 => rcReg mbStatus clearUnpaired
  | 0x108 => fxReg (fun s => s.reg .dxd 0x14108) (ones 0 64) (fun v => atReferee (setReg .dxd 0x14108 (ones 0 64) v))
  | 0x110 => rwReg .dxd 0x14110 15
  | 0x118 => fxReg (fun _ => 0) (ones 61 3 ||| ones 0 32) jobCmdWrite
  | 0x120 => roReg (mbJob mbJobStatus)
  | 0x128 => roReg (mbJob mbJobStep)
  | 0x130 => roReg (mbJob (fun b => wd [(32, b.job), (0, b.seedIndex)]))
  | 0x138 => fxReg mbComplaintWord (bitW 61 ||| ones 0 32) complaintWrite
  | 0x140 => roReg mbLastBench
  | 0x148 => rwReg .dxd 0x14148 (ones 0 6)
  | 0x150 => fxReg mbSpareWord (ones 62 2 ||| ones 32 14 ||| ones 0 16) spareWrite
  | _ => noReg

/-- MB registers that live away from the acting referee (R400). -/
def mbLive (off : Nat) : Bool := off == 0x100 || off == 0x110 || off == 0x148

/-! LG, R323. -/

def lgShown (s : State) : Option LedgerRec :=
  let n := s.regF .dxd 0x15110 0 32
  s.x.lg.recs.find? (fun r => r.seq == n && n != 0)

def lgStatus (s : State) : Word :=
  wd [(48, ledgerFree s.x.lg), (47, b2n s.x.lg.mirrorOk), (46, b2n (lgShown s).isSome), (0, s.x.lg.head)]

def lgReadWord (i : Nat) (s : State) : Word :=
  match lgShown s with
  | some r => wd [(0, be (recordBytes r) (8 * i) 8)]
  | none => 0

def lgReg (off : Nat) : RegDef :=
  match off with
  | 0x100 => roReg lgStatus
  | 0x108 => fxReg (fun s => wd [(0, s.x.lg.exported)]) (ones 0 32) exportedWrite
  | 0x110 => rwReg .dxd 0x15110 (ones 0 32)
  | 0x158 => fxReg (fun _ => 0) (ones 62 2 ||| ones 0 52) ckptWrite
  | o => if 0x118 ≤ o ∧ o ≤ 0x150 then roReg (lgReadWord ((o - 0x118) / 8)) else noReg

/-! AT, R395. -/

/-- A usable servo record is held, R128: after HT is loaded, one at most 30 days old. -/
def historyValid (s : State) : Bool :=
  match currentRecord s.x.at_ with
  | some (_, r) => !s.dc.tk.htValid || decide (r.sec ≤ s.dc.tk.sec ∧ s.dc.tk.sec ≤ r.sec + 2592000)
  | none => false

def atStatus (s : State) : Word :=
  wd [(63, b2n (historyValid s)), (62, b2n (calValid s)), (48, s.x.at_.dir.length), (0, cacheFree s)]

def atDirWord (s : State) : Word :=
  match s.x.at_.dir[s.regF .dxd 0x16128 0 6]? with
  | some e => wd [(63, 1), (53, e.kind % 16), (32, e.length % 2 ^ 21), (16, e.image % 2 ^ 16)]
  | none => 0

def atReg (off : Nat) : RegDef :=
  match off with
  | 0x100 => roReg atStatus
  | 0x108 => fxReg (fun s => wd [(0, s.x.at_.offset)]) (ones 3 19) atAddrWrite
  | 0x110 => { word := atData, mask := ones 0 64, store := atDataWrite, effect := atAdvance }
  | 0x118 => fxReg (fun _ => 0) (ones 60 4 ||| ones 0 16) atCtlWrite
  | 0x120 => roReg (fun s => wd [(60, s.x.at_.result), (0, s.x.at_.resultImage)])
  | 0x128 => rwReg .dxd 0x16128 (ones 0 6)
  | 0x130 => roReg atDirWord
  | _ => noReg

end Sys2Proof.Machine
end

