-- ==== Sys2Proof/Machine/RegsTime.lean ====
section
/-!
DEFINITION. The registers of the TK, LN, UP, DN, TD and BY pages (R61, R62, R91, R107, R162).
-/

namespace Sys2Proof.Machine

/-! TK, R62. -/

def tkSub (d : Dev) (rq : Nat) (s : State) : Word :=
  match tabGet none (s.com d).tk.snap rq with
  | some (ns, f) => wd [(63, 1), (16, ns), (0, f)]
  | none => 0

def tkStatus (d : Dev) (s : State) : Word :=
  let t := (s.com d).tk
  let cs := match d with
    | .tsu => [(12, s.tc.coreB.st), (8, s.tc.coreA.st)]
    | .dxd => []
  wd ([(23, b2n t.rootHoldover), (22, b2n t.traceable), (21, b2n t.originLocal), (20, b2n t.htValid),
      (18, t.keeper), (0, t.state)] ++ cs)

def tkUtc (d : Dev) (s : State) : Word :=
  wd [(16, b2n (s.com d).tk.utcValid), (0, ux 16 (s.com d).tk.utcOffset)]

/-- TK_UTC_OFFSET is RW at the root. -/
def utcStore (v : Word) (s : State) : State :=
  if s.x.straps.role = 2 then modTk .dxd (fun t => { t with utcValid := bit v 16, utcOffset := sx 16 (fld v 0 16) }) s else s

/-- TK_CORE_DIFF. At a DX-D the spec gives 'own-parent path − twin path' and not its sign against HT: the model takes each
path's offset (presented HT − that path's time, R72) and subtracts the twin's (DESIGN CHOICE, log 108). It is 0 where either
path is no source, and at the root, which has no parent. -/
def tkDiff (d : Dev) (s : State) : Word :=
  let i : Int := match d with
    | .tsu =>
      let idle (c : Core) : Bool := c.st == 0 || c.st == 3
      if idle s.tc.coreA || idle s.tc.coreB then 0 else s.tc.tk.diff
    | .dxd =>
      let paths := s.x.straps.role != 2 && isSource .dxd (parentPort s) s && isSource .dxd (twinPort s) s
      match paths, s.x.ownOff, s.x.twinOff with
      | true, some a, some b => a - b
      | _, _, _ => 0
  wd [(0, ux 32 (satS 32 i))]

def tkPull (d : Dev) (s : State) : Word := s.reg d 0x138 ||| wd [(0, ux 32 (satS 32 (lsbToPs (s.com d).tk.r)))]

def tkReg (d : Dev) (rq off : Nat) (s : State) : RegDef :=
  let root := d == .dxd && s.x.straps.role == 2
  match off with
  | 0x100 => rcReg (fun s => wd [(0, (s.com d).tk.sec)]) (takeSnap d rq)
  | 0x108 => roReg (tkSub d rq)
  | 0x110 => roReg (fun s => wd [(0, (s.com d).tk.bc)])
  | 0x118 => roReg (tkStatus d)
  | 0x120 => fxReg (tkUtc d) (if root then ones 0 17 else 0) (if root then utcStore else fun _ s => s)
  | 0x128 => roReg (tkDiff d)
  | 0x130 => fxReg (fun s => s.reg d 0x130) (ones 32 2 ||| ones 0 32) (keeperCtl d)
  | 0x138 => fxReg (tkPull d) (ones 32 16) (setReg d 0x138 (ones 32 16))
  | 0x140 => fxReg (fun _ => 0) (if root then ones 0 48 else 0) (if root then originSetWrite else fun _ s => s)
  | _ => noReg

/-! Port sets, R91. -/

def portStatus (d : Dev) (p : Nat) (s : State) : Word :=
  let q := s.port d p
  if !portShown d s p then 0
  else
    let ho := holdOut (isLane d s p) (s.com d) p
    wd [(56, q.peerPort % 256), (52, q.peerKind % 16), (49, q.peerLevel % 8), (48, q.peerSide % 2), (40, q.downReason),
        (32, q.rel.retained.length % 256), (28, hbMissedNow (s.com d).up q), (7, b2n ho.1), (6, b2n ho.2), (5, b2n q.rel.holdCIn),
        (4, b2n q.rel.holdBIn), (3, b2n (isPair d s p)), (0, q.st)]

/-- ALPHA is RW on fibre ports other than package pair links (R79, R91). -/
def alphaRw (d : Dev) (p : Nat) (s : State) : Bool :=
  !(isLane d s p || (isPair d s p && s.x.straps.role == 0))

def alphaStore (d : Dev) (p : Nat) (v : Word) (s : State) : State :=
  if alphaRw d p s ∧ ¬(s.port d p).live then modPort d p (fun q => { q with alpha := sx 32 (fld v 0 32) }) s else s

def portEventWord (d : Dev) (p : Nat) (s : State) : Word :=
  let q := s.port d p
  (q.event &&& 0xFF) ||| wd [(32, fld q.eventEn 0 8)]

def portEventStore (d : Dev) (p : Nat) (v : Word) (s : State) : State :=
  modPort d p (fun q => { q with event := q.event &&& ~~~(v &&& 0xFF), eventEn := wd [(0, fld v 32 8)] }) s

def clearPortErrors (d : Dev) (p : Nat) : State → State :=
  modPort d p (fun q => { q with crcErr := 0, nakSent := 0, epochDrop := 0, unknownType := 0 })

/-- Register `o` of the port set of port `p`. -/
def portReg (d : Dev) (p o : Nat) (s : State) : RegDef :=
  if !portShown d s p then noReg
  else match o with
  | 0x00 => roReg (portStatus d p)
  | 0x08 => roReg (fun s => wd [(32, (s.port d p).mean), (0, (s.port d p).applied)])
  | 0x10 => fxReg (fun s => if alphaRw d p s then wd [(0, ux 32 (s.port d p).alpha)] else 0)
      (if alphaRw d p s then ones 0 32 else 0) (alphaStore d p)
  | 0x18 => rcReg (fun s => portErrors (s.port d p)) (clearPortErrors d p)
  | 0x20 => fxReg (fun s => wd [(0, b2n (s.port d p).enable)]) 3 (portControl d p)
  | 0x28 => fxReg (portEventWord d p) (ones 0 8 ||| ones 32 8) (portEventStore d p)
  | _ => noReg

/-- The port of set `k` of a page, and its registers. -/
def portsReg (d : Dev) (pg off : Nat) (s : State) : RegDef :=
  let k := (off - 0x100) / 0x40
  let o := (off - 0x100) % 0x40
  if off < 0x100 then noReg
  else match pg with
  | 0x01 => if k < 2 then portReg d k o s else noReg
  | 0x17 => if k < 2 then portReg d (192 + k) o s else noReg
  | _ => if k < 32 then portReg d (32 * (pg - 0x18) + k) o s else noReg

/-! TD, R106 and R107. -/

def setStatus (d : Dev) (m : Nat) (s : State) : Word :=
  let x := s.mset d m
  wd [(60, x.st), (56, x.error), (39, x.count % 2 ^ 17), (0, x.fitD % 2 ^ 32)]

/-- TD_Mm_RESk: MEAN truncated toward zero (R100). -/
def setRes (d : Dev) (m k : Nat) (s : State) : Word :=
  let x := s.mset d m
  let st := tabGet {} x.stops k
  let mean : Int := if x.count = 0 then 0 else (st.sum * 256).tdiv x.count
  wd [(63, b2n (decide (1 ≤ x.count) && (setStop d m k s).1)), (62, b2n st.noEdge), (61, b2n st.invalid),
      (25, ux 34 mean), (0, ux 25 st.last)]

/-- A write of STOPS or FNOM is ignored in WAIT and OPEN (R106). -/
def setStore (d : Dev) (m a : Nat) (mask v : Word) (s : State) : State :=
  let st := (s.mset d m).st
  if st = 1 ∨ st = 2 then s else setReg d a mask v s

def stopsMask : Word := wd ((upTo 4).flatMap (fun j => [(16 * j + 15, 1), (16 * j, 0x1FF)]))

def setsReg (d : Dev) (off : Nat) : RegDef :=
  let m := (off - 0x100) / 0x80
  let o := (off - 0x100) % 0x80
  let a := setBase m + o
  if off < 0x100 ∨ setCount d ≤ m then noReg
  else match o with
  | 0x00 => fxReg (fun s => s.reg d a) (wd [(63, 1), (62, 1), (60, 3), (44, 0xFFFF), (32, 0x1FF), (0, 0xFFFFF)]) (setCtl d m)
  | 0x08 => fxReg (fun s => s.reg d a) stopsMask (setStore d m a stopsMask)
  | 0x10 => fxReg (fun s => s.reg d a) stopsMask (setStore d m a stopsMask)
  | 0x18 => fxReg (fun s => s.reg d a) (ones 0 48) (setStore d m a (ones 0 48))
  | 0x20 => roReg (setStatus d m)
  | 0x28 => roReg (fun s => BitVec.ofInt 64 (s.mset d m).fitY)
  | 0x30 => roReg (fun s => BitVec.ofInt 64 (s.mset d m).fitPpt)
  | o => if 0x40 ≤ o then roReg (setRes d m ((o - 0x40) / 8)) else noReg

/-- TD_CHn: TAP is RW on general channels. -/
def chanRegDef (d : Dev) (ch : Nat) (s : State) : RegDef :=
  if chanListed d ch then
    { word := chanWord d ch, mask := if chanGeneral d s ch then ones 48 10 else 0, store := tapStore d ch,
      effect := modChan d ch (fun x => { x with missed := 0, invalid := 0 }) }
  else noReg

def tdReg (d : Dev) (pg off : Nat) (s : State) : RegDef :=
  if pg = 0x24 then (if 0x100 ≤ off then chanRegDef d ((off - 0x100) / 8) s else noReg)
  else if d = .tsu ∧ 0x800 ≤ off then chanRegDef d ((off - 0x800) / 8) s
  else setsReg d off

/-! BY, R151 to R162. -/

def byMask (f : Bay → Bool) (s : State) : Nat := (allBays s).foldl (fun n b => n + b2n (f (s.bay b)) * 2 ^ b) 0

def byStatus (s : State) : Word :=
  wd [(32, byMask (·.stopped) s), (16, byMask (·.lbcValid) s), (0, 2 ^ bayCount s.tc.fuse.kind - 1)]

/-- BY_Bn_STATUS. TARGET reads 0 while the set has no target (TABLE_ERROR), which the spec does not say (DESIGN CHOICE, log 109). -/
def bayStatus (b : Nat) (s : State) : Word :=
  let y := s.bay b
  let n := baySetOf s b
  wd [(63, 1), (62, b2n (bayAdaptive s b)), (61, b2n y.lbcValid), (60, b2n y.refLoss), (59, b2n y.dead),
      (58, b2n y.stopped), (57, b2n (setPending s n)), (56, b2n y.urgent), (48, y.cur),
      (44, if bayAdaptive s b then 0 else y.mon), (40, (setTarget s n).getD 0), (0, y.path)]

/-- Registers of bay `b`; those of an absent bay read 0 (R162). -/
def bayReg (b o : Nat) (s : State) : RegDef :=
  let a := 0x3200 + 0x40 * b
  if !bayExists s b then noReg
  else match o with
  | 0x00 => fxReg (fun s => s.reg .tsu a) (wd [(12, b2n (!bayAdaptive s b)), (8, 15), (0, 15)]) (bayCfgStore b)
  | 0x08 => roReg (bayStatus b)
  | 0x10 => roReg (fun s => wd [(0, (s.bay b).edges)])
  | 0x18 => roReg (fun s => wd [(32, (s.bay b).stretched), (0, (s.bay b).units)])
  | 0x20 => roReg (fun s => wd [(0, (s.bay b).inc)])
  | 0x28 => roReg (fun s => BitVec.ofInt 64 (s.bay b).fit)
  | 0x30 => rcReg (fun s => changesWord (s.bay b))
      (modBay b (fun y => { y with changes := 0, urgentChanges := 0, deferred := 0, recentresSkipped := 0 }))
  | _ => noReg

def byReg (off : Nat) (s : State) : RegDef :=
  if off = 0x100 then rwReg .tsu 0x3100 (ones 0 48)
  else if off = 0x108 then roReg byStatus
  else if off = 0x110 then rwReg .tsu 0x3110 (ones 0 16)
  else if 0x200 ≤ off ∧ off < 0x600 then bayReg ((off - 0x200) / 0x40) ((off - 0x200) % 0x40) s
  else if 0x600 ≤ off ∧ off < 0xE00 then
    let b := (off - 0x600) / 0x80
    let p := (off - 0x600) % 0x80 / 8
    if bayExists s b then fxReg (fun s => ptWord s b p) (wd [(63, 1), (32, 255), (24, 255), (0, 0xFFF)]) (ptStore b p) else noReg
  else if 0xE00 ≤ off ∧ off < 0xF00 then
    let c := (off - 0xE00) / 8
    { word := xcWord c, mask := wd [(63, 1), (52, 15), (48, 15)], store := xcStore c,
      effect := modXing c (fun x => { x with stalls := 0, peak := 0 }) }
  else noReg

end Sys2Proof.Machine
end

