-- ==== Sys2Proof/Machine/RegsTsu.lean ====
section
/-!
DEFINITION. The registers of the pages that only a TSU has: CU, PB, SG, HD, KP, TL, LS and ST (R213, R214, R243, R244,
R267, R288, R290, R338).
-/

namespace Sys2Proof.Machine

/-! CU and PB, R213 and R214. -/

def cuStatus (s : State) : Word :=
  let e := s.t.cue
  wd [(60, e.run.st), (56, e.lead.st), (44, e.run.pc), (32, e.lead.pc), (24, e.run.fault), (16, e.lead.fault),
      (4, s.t.steps.countP (fun r => r.inLead && r.armed)), (0, b2n e.run.cur.isSome)]

def cuWithdrawn (s : State) : Word :=
  match s.t.cue.withdrawn with
  | some n => wd [(63, 1), (0, n)]
  | none => 0

def cuReg (off : Nat) : RegDef :=
  let m := wd [(63, 1), (62, 1), (45, 1), (32, 0xFFF), (13, 1), (0, 0xFFF)]
  match off with
  | 0x100 => fxReg (fun s => s.reg .tsu 0x4100) m cuCtlWrite
  | 0x108 => roReg cuStatus
  | 0x110 => roReg (fun s => wd [(56, s.t.mem.curAttempt), (0, s.t.mem.curStep)])
  | 0x118 => roReg (fun s => wd [(32, b2n (s.t.mem.epoch != 0)), (0, s.t.mem.epoch)])
  | 0x120 => roReg (fun s => wd [(0, s.t.mem.curK)])
  | 0x128 => roReg (fun s => wd [(32, s.t.cue.faultWord), (12, b2n s.t.cue.faultLead), (0, s.t.cue.faultPc)])
  | 0x130 => rcReg cuLate clearCuLate
  | 0x138 => roReg cuWithdrawn
  | o =>
    if 0x140 ≤ o ∧ o ≤ 0x158 then rwReg .tsu (0x4000 + o) (ones 0 64)
    else if 0x180 ≤ o ∧ o ≤ 0x1F8 then roReg (fun s => s.p ((o - 0x180) / 8)) else noReg

def pbCheckWord (s : State) : Word :=
  wd [(63, b2n s.t.cue.pbBusy), (0, match s.t.cue.pbCrc with
    | some c => c
    | none => pbCrc s)]

def pbAddrStore (v : Word) (s : State) : State := modCue (fun e => { e with pbIndex := fld v 1 11 * 2 }) s

def pbReg (off : Nat) : RegDef :=
  match off with
  | 0x100 => fxReg (fun s => wd [(0, s.t.cue.pbIndex)]) (ones 1 11) pbAddrStore
  | 0x108 => { word := pbData, mask := ones 0 64, store := pbDataStore, effect := pbAdvance }
  | 0x110 => roReg pbCheckWord
  | 0x118 => rcReg pbEcc clearPbEcc
  | _ => noReg

/-! SG, R243. -/

def sgStatus (s : State) : Word :=
  let g := s.t.sg
  wd [(63, b2n g.compact), (62, b2n g.ctxBusy), (60, g.ctxResult), (56, s.t.mem.epoch % 16), (52, g.gen),
      (0, g.cells.foldl (fun n x => n + x.2.waiters.length) 0)]

def sgBullpen (s : State) : Word :=
  let b := s.t.sg.bullpen
  wd [(32, b.length), (0, match b with
    | h :: _ => sat32 ((heldFor s h).getD 0)
    | [] => 0)]

def sgReg (off : Nat) : RegDef :=
  match off with
  | 0x100 => fxReg (fun s => s.reg .tsu 0x6100) (wd [(63, 1), (0, 3)]) ctxWrite
  | 0x108 => rwReg .tsu 0x6108 (ones 12 52)
  | 0x110 => rwReg .tsu 0x6110 (ones 12 52)
  | 0x118 => roReg sgStatus
  | 0x120 => fxReg (fun _ => 0) (ones 50 14 ||| ones 32 16 ||| ones 0 16) rpostWrite
  | 0x128 => roReg sgBullpen
  | 0x130 => rcReg sgErrors clearSgErrors
  | _ => noReg

/-- Stream entries, instances 1 to 4. -/
def streamReg (pg off : Nat) : RegDef :=
  let n := (pg - 0x20) % 2 * 256 + (off - 0x100) / 8
  if off < 0x100 ∨ 0x900 ≤ off then noReg
  else if pg < 0x22 then
    fxReg (fun s => wd [(32, (s.sOut n).dest), (24, (s.sOut n).seq), (0, (s.sOut n).depart)]) (ones 32 32)
      (fun v => modStreamOut n (fun o => { o with dest := fld v 32 32 }))
  else
    fxReg (fun s => wd [(56, (s.sIn n).next), (24, (s.sIn n).source), (0, (s.sIn n).arrived)]) (ones 24 32)
      (fun v => modStreamIn n (fun i => { i with source := fld v 24 32 }))

/-! HD, R244. -/

def hdReg (off : Nat) : RegDef :=
  match off with
  | 0x100 => roReg (fun s => wd [(8, b2n s.t.hd.creditWait), (0, creditsUsed s)])
  | 0x108 => roReg (fun s => wd [(60, s.t.hd.lastOutcome), (48, s.t.hd.lastSlot), (24, s.t.hd.lastCount % 2 ^ 24),
      (0, s.t.hd.lastStep % 2 ^ 24)])
  | 0x110 => roReg (fun s => wd [(63, b2n s.t.hd.misfitValid), (48, s.t.hd.misfitSlot), (0, s.t.hd.misfitStep)])
  | 0x118 => roReg (fun s => s.t.hd.misfitFp)
  | _ => noReg

/-! KP, R267. -/

def kpClassWord (s : State) : Word :=
  let k := s.t.kp
  let free := s.tc.fuse.kind == .e || s.tc.fuse.kind == .w
  wd [(63, b2n (k.fits || free)), (62, b2n k.applied), (16, k.kept), (0, fuseWorking s)]

/-- The ARMED steps, whose coordinates are preloaded (R264). -/
def kpPreload (s : State) : Word :=
  let l := (s.t.steps.filter (·.armed)).map (·.step)
  match l with
  | [] => 0
  | a :: t => wd [(56, l.length), (0, t.foldl min a)]

def kpReg (off : Nat) : RegDef :=
  match off with
  | 0x100 => roReg (fun s => wd [(0, s.t.kp.seed.toNat / 2 ^ 64)])
  | 0x108 => roReg (fun s => wd [(0, s.t.kp.seed.toNat % 2 ^ 64)])
  | 0x110 => roReg (fun s => kpJobWord s.t.kp)
  | 0x118 => fxReg kpClassWord (bitW 62) kpClassWrite
  | 0x120 => roReg (fun s => wd [(63, b2n s.t.kp.curValid), (0, s.t.kp.curStep)])
  | 0x128 => roReg kpPreload
  | 0x130 => rcReg kpErrors clearKpErrors
  | 0x138 => roReg (fun s => wd [(0, s.t.kp.seedIndex)])
  | o => if 0x140 ≤ o ∧ o ≤ 0x158 then roReg (fun s => wd [(0, be s.t.kp.fp (o - 0x140) 8)]) else noReg

/-! TL of a TSU, R288. -/

def tlStatus (s : State) : Word :=
  let t := s.t.tl
  wd [(63, b2n !t.cards.isEmpty), (56, t.cards.length), (0, t.lastStep)]

/-- The RW bits of TL_Ln_CFG: PORT on line lanes, OWNER on feed lanes. -/
def laneMask (k : TsuKind) (n : Nat) : Word :=
  if !lanePresent k n then 0
  else wd [(63, 1), (60, 3), (32, 0xFFFF)] ||| (if feedLanes k then ones 16 16 else ones 48 8)

/-- The lane that TL_LANE_SEL shows. -/
def laneShown (s : State) : Nat := (s.lane (s.regF .tsu 0x9280 0 4)).last.toNat

def tlReg (rq off : Nat) (s : State) : RegDef :=
  match off with
  | 0x100 => roReg tlStatus
  | 0x108 => rcReg (tlErrors .tsu) (clearTlErrors .tsu)
  | 0x110 => rwReg .tsu 0x9110 7
  | 0x280 => rwReg .tsu 0x9280 15
  | 0x288 => roReg (fun s => wd [(0, laneShown s / 2 ^ 64)])
  | 0x290 => roReg (fun s => wd [(0, laneShown s % 2 ^ 64)])
  | o =>
    let n := (o - 0x180) / 8
    let l := (o - 0x200) / 8
    if 0x180 ≤ o ∧ o ≤ 0x198 then
      fxReg (fun _ => 0) (if feedLanes s.tc.fuse.kind then ones 0 64 else 0) (feedStore rq n)
    else if 0x200 ≤ o ∧ o ≤ 0x278 then rwReg .tsu (0x9000 + o) (laneMask s.tc.fuse.kind l)
    else if 0x300 ≤ o ∧ o ≤ 0x378 then
      roReg (fun s => wd [(0, be (s.t.tl.cards.getD (s.regF .tsu 0x9110 0 3) []) (o - 0x300) 8)])
    else noReg

/-! LS of a TSU, R290. -/

/-- The ring record that LS_REC_SEL shows. -/
def ringShown (s : State) : Option RingRec := tabGet none s.t.tl.ring (s.regF .tsu 0xA110 0 10)

def recWord (f : RingRec → Word) (s : State) : Word :=
  match ringShown s with
  | some r => f r
  | none => 0

def recId (r : RingRec) : Word :=
  wd [(48, r.step % 65536), (40, r.attempt), (36, r.lane), (35, b2n r.sent), (34, b2n r.closing), (0, r.window)]

def lsTsuReg (off : Nat) : RegDef :=
  match off with
  | 0x100 => rwReg .tsu 0xA100 (ones 62 2 ||| ones 0 16)
  | 0x108 => roReg (fun s => wd [(48, s.t.tl.ringHeld), (0, s.t.tl.newest)])
  | 0x110 => rwReg .tsu 0xA110 (ones 0 10)
  | 0x118 => roReg (recWord recId)
  | 0x120 => roReg (recWord (fun r => wd [(0, r.tally.toNat / 2 ^ 64)]))
  | 0x128 => roReg (recWord (fun r => wd [(0, r.tally.toNat % 2 ^ 64)]))
  | 0x130 => roReg (recWord (fun r => wd [(48, r.units), (32, r.load), (24, ux 8 r.temp)]))
  | _ => noReg

/-! ST, R338. -/

def stStatus (s : State) : Word :=
  let t := s.t.st
  wd [(63, 1), (62, b2n t.dark), (61, b2n t.derated), (60, b2n t.bump), (59, b2n t.droop), (58, b2n t.overEnv),
      (36, shownCeiling s), (24, shownEff s), (12, t.g)]

def stStep (s : State) : Word :=
  match launchedStep s with
  | some r => wd [(52, r.leave), (0, r.step)]
  | none => 0

/-- ST_VOLTAGE: BASE is the mean of the samples 192 to 255 ticks back. -/
def stVoltage (s : State) : Word :=
  let t := s.t.st
  wd [(32, ux 16 (satS 16 (t.residual.tdiv 64))), (16, ((t.v.drop 192).take 64).foldl (· + ·) 0 / 64), (0, t.v.headD 0)]

def stPortWord (s : State) : Word :=
  let p := s.stPort (s.regF .tsu 0xB138 0 6)
  wd [(63, b2n p.pending), (56, p.req), (44, p.held), (0, sat32 p.wait)]

def stReg (off : Nat) : RegDef :=
  match off with
  | 0x100 => rwReg .tsu 0xB100 (ones 32 16 ||| ones 16 7 ||| ones 0 12)
  | 0x108 => roReg stStatus
  | 0x110 => roReg stStep
  | 0x118 => roReg (fun s => wd [(56, lostCount s.t.st.lost), (0, s.t.st.lost)])
  | 0x120 => fxReg (fun s => s.reg .tsu 0xB120) (bitW 63 ||| ones 32 16 ||| ones 0 24) monWrite
  | 0x128 => roReg stVoltage
  | 0x130 => rcReg stCounts clearStCounts
  | 0x138 => rwReg .tsu 0xB138 (ones 0 6)
  | 0x140 => roReg stPortWord
  | _ => noReg

end Sys2Proof.Machine
end

