-- ==== Sys2Proof/Machine/RegPages.lean ====
section
/-!
DEFINITION. Every register by its window address, and reads and writes of one (R396 to R401, R408).
-/

namespace Sys2Proof.Machine

/-- The register at an offset of 0x100 and above of a page that a device can have. -/
def bodyReg (d : Dev) (rq pg off : Nat) (s : State) : RegDef :=
  match pg, d with
  | 0x00, _ => tkReg d rq off s
  | 0x01, _ => portsReg d pg off s
  | 0x17, _ => portsReg d pg off s
  | 0x02, _ => tdReg d pg off s
  | 0x24, _ => tdReg d pg off s
  | 0x03, _ => byReg off s
  | 0x04, _ => cuReg off
  | 0x05, _ => pbReg off
  | 0x06, _ => sgReg off
  | 0x07, _ => hdReg off
  | 0x08, _ => kpReg off
  | 0x09, .tsu => tlReg rq off s
  | 0x09, .dxd => tlDxdReg off
  | 0x0A, .tsu => lsTsuReg off
  | 0x0A, .dxd => lsDxdReg off
  | 0x0B, _ => stReg off
  | 0x0C, _ => icReg d off s
  | 0x0D, _ => btReg d off
  | 0x0E, _ => boReg d off
  | 0x0F, _ => fuReg d off
  | 0x10, _ => svReg off
  | 0x11, _ => opReg off
  | 0x12, _ => ptReg off
  | 0x13, _ => csReg off
  | 0x14, _ => mbReg off
  | 0x15, _ => lgReg off
  | 0x16, _ => atReg off
  | 0x1E, _ => rfReg off
  | n, _ =>
    if 0x18 ≤ n ∧ n ≤ 0x1D then portsReg d pg off s
    else if 0x20 ≤ n ∧ n ≤ 0x23 then streamReg pg off
    else noReg

/-- The register at a page and offset, R404 and R408. -/
def regAt (d : Dev) (rq pg off : Nat) (s : State) : RegDef :=
  if off % 8 ≠ 0 ∨ 0x1000 ≤ off then noReg
  else if off < 0x100 then headerReg d pg off
  else bodyReg d rq pg off s

/-- The state in which a dormant page reads as at reset (R399): a root DX-D after reset. -/
def resetView (s : State) : State := { State.reset with x := { straps := { s.x.straps with role := 2 } } }

/-- The register is dormant: on a dormant page, or an MB register away from the acting referee (R321, R400). -/
def regDormant (d : Dev) (pg off : Nat) (s : State) : Bool :=
  decide (0x100 ≤ off) && (decide (pageSt d s pg = .dormant) || (d == .dxd && pg == 0x14 && !mbLive off && !rootActs s))

/-- What a read of a window address returns. -/
def regWord (d : Dev) (rq a : Nat) (s : State) : Word :=
  let pg := a / 4096
  let off := a % 4096
  match pageSt d s pg with
  | .void => 0
  | .absent => 0
  | _ =>
    let r := if regDormant d pg off s then resetView s else s
    shown d a ((regAt d rq pg off r).word r) s

/-- A read that no slice holds: the value, then the register's side effect (R398). -/
def regReadNow (d : Dev) (rq a : Nat) (s : State) : State :=
  let pg := a / 4096
  let off := a % 4096
  let s1 := respond d rq (regWord d rq a s) s
  if pageSt d s pg = .op ∧ !regDormant d pg off s then (regAt d rq pg off s).effect s1
  else if pageSt d s pg = .dormant ∧ off < 0x100 then (regAt d rq pg off s).effect s1
  else s1

/-- A 64-bit read of a window address. -/
def regRead (d : Dev) (rq a : Nat) (s : State) : State :=
  let s1 := dropHalf d rq s
  if !reaches d rq s then s
  else if isHeld d (a / 4096) s1 then holdAccess d ⟨rq, a, false, 0, false⟩ s1
  else regReadNow d rq a s1

/-! Register override, R371. -/

/-- The states that a forced RO field of a status register shows are forced with it: of hall time and the time cores, the bays, the
threads, the stockroom, self-test and the start. What other units override moves is not said (log 52). -/
def forceUnit (d : Dev) (a : Nat) (v : Word) (s : State) : State :=
  match d, a with
  | _, 0x0118 =>
    let s1 := modTk d (fun t => { t with
      state := fld v 0 3, rootHoldover := bit v 23, traceable := bit v 22, originLocal := bit v 21, htValid := bit v 20,
      keeper := fld v 18 2 }) s
    if d = .tsu then modCore .tsu 0 (fun c => { c with st := fld v 8 2 }) (modCore .tsu 1 (fun c => { c with st := fld v 12 2 }) s1)
    else s1
  | .tsu, 0x4108 => modCue (fun e => { e with
      run := { e.run with st := fld v 60 4, pc := fld v 44 12, fault := fld v 24 8 },
      lead := { e.lead with st := fld v 56 4, pc := fld v 32 12, fault := fld v 16 8 } }) s
  | .tsu, 0xB108 => if hasStock s then modSt (fun t => { t with
      dark := bit v 62, derated := bit v 61, bump := bit v 60, droop := bit v 59, overEnv := bit v 58, ceiling := fld v 36 12,
      eEff := fld v 24 12, g := fld v 12 12 }) s else s
  | _, 0xD108 => modBt d (fun b => { b with
      mismatch := bit v 62, goldenValid := bit v 61, baseValid := bit v 60, slice := fld v 56 4, outcome := fld v 52 4,
      reason := fld v 48 4, step := fld v 0 48 }) s
  | _, 0xE108 => modBoot d (fun b => { b with
      stage := fld v 60 4, fails := fld v 58 2, warm := bit v 57, localFail := bit v 56, reason := fld v 48 8,
      cellarReason := fld v 40 8, readyUs := fld v 0 32 }) s
  | .tsu, a =>
    let b := (a - 0x3208) / 0x40
    if 0x3208 ≤ a ∧ a < 0x3600 ∧ (a - 0x3208) % 0x40 = 0 ∧ bayExists s b then
      modBay b (fun y => { y with
        lbcValid := bit v 61, refLoss := bit v 60, dead := bit v 59, stopped := bit v 58, urgent := bit v 56, cur := fld v 48 4,
        mon := fld v 44 4, path := fld v 0 24 }) s
    else s
  | .dxd, _ => s

/-- Register override lets a write reach the RO fields too: they show what was written from then on. -/
def forceRegister (d : Dev) (a : Nat) (live v : Word) (s : State) : State :=
  forceUnit d a v (modTa d (fun t => { t with ovr := tabInsert (tabErase t.ovr a) a (v, live) }) s)

/-- The effect of a write that has reached its register. -/
def regStore (d : Dev) (rq a : Nat) (v : Word) (s : State) : State :=
  let r := regAt d rq (a / 4096) (a % 4096) s
  let s1 := r.store v s
  if (s.com d).ta.overrideOn then forceRegister d a r.mask v s1 else s1

/-- A write that no slice holds. -/
def regWriteNow (d : Dev) (rq a : Nat) (v : Word) (s : State) : State :=
  applyWrite d (a / 4096) (a % 4096) (regStore d rq a v) s

/-- An access of another size or alignment: a write is dropped, a read returns 0, and either is counted (R397). -/
def badNow (d : Dev) (rq a : Nat) (wr : Bool) (s : State) : State :=
  let s1 := countBad d (a / 4096) s
  if wr then s1 else respond d rq 0 s1

/-- A 64-bit write of a window address. -/
def regWrite (d : Dev) (rq a : Nat) (v : Word) (s : State) : State :=
  admitWrite d rq (a / 4096) (a % 4096) v (regStore d rq a v) s

end Sys2Proof.Machine
end

