-- ==== Sys2Proof/Machine/ImagesTsu.lean ====
section
/-!
DEFINITION. Images at a TSU: chunks, checks, the sections and their application, and the last step of a start (R302, R304,
R367, R378 to R386, R393), and the release of a slice with the register accesses that waited for it (R361).
-/

namespace Sys2Proof.Machine

/-! Chunks, R380. -/

/-- The chunks held of an image, by number. -/
def heldChunks (d : Dev) (id : Nat) (s : State) : List (Nat × List Byte) := tabGet [] (s.com d).boot.chunks id

/-- A chunk is held: always 16 bytes. -/
def addChunk (d : Dev) (f : ConfigF) (s : State) : State :=
  modBoot d (fun b => { b with
    chunks := tabMod [] b.chunks f.image (fun l => tabSet [] l f.chunk ((f.data ++ List.replicate 16 0).take 16)) }) s

def dropChunks (d : Dev) (id : Nat) (s : State) : State := modBoot d (fun b => { b with chunks := tabSet [] b.chunks id [] }) s

/-- The image once chunks 0 to (LENGTH − 1) / 16 are held; one of an impossible LENGTH comes out empty, for its rejection. -/
def assembled (l : List (Nat × List Byte)) : Option (List Byte) :=
  let n := be (tabGet [] l 1) 0 4
  if tabGet [] l 0 = [] ∨ tabGet [] l 1 = [] then none
  else if n < 64 ∨ 1048576 < n then some []
  else if (upTo ((n + 15) / 16)).all (fun i => tabGet [] l i != []) then
    some (((upTo ((n + 15) / 16)).flatMap (tabGet [] l)).take n)
  else none

/-- Why a receiver of this KIND rejects an image that came as one of class `cls` (R380, R387): 4 IMAGE_CRC, 5 IMAGE_KIND,
6 IMAGE_FORMAT. -/
def imageReject (own cls : Nat) (img : List Byte) : Option Nat :=
  if img.isEmpty then some 6
  else if !imgCrcOk img then some 4
  else if (imgKind img != own && imgKind img != 0xF) || (imgFw img).stepping != 0xB0 then some 5
  else if !imgFormatOk img || imgClass img != cls then some 6
  else none

/-! Receipt at a TSU, R379, R380 and R393. -/

/-- A complete boot image: taken, or the start fails. -/
def takeBoot (img : List Byte) (s : State) : State :=
  let b := s.tc.boot
  if b.image.isSome ∨ b.applyDone ∨ 6 ≤ b.stage then s
  else match imageReject (fuKind .tsu s) 0 img with
    | some r => failStart .tsu r s
    | none => modBoot .tsu (fun b => { b with image := some img, stage := if b.stage = 3 then 4 else b.stage }) s

/-- A complete JOB or ADMIT image: held until READY and behind another image. -/
def takeConfig (cls : Nat) (img : List Byte) (s : State) : State :=
  if (imageReject (fuKind .tsu s) cls img).isSome then s
  else if imgClass img = 1 then nextHeld (modBoot .tsu (fun b => { b with heldJob := some img }) s)
  else if imgClass img = 2 then nextHeld (modBoot .tsu (fun b => { b with heldAdmit := some img }) s)
  else s

/-- LOCAL_THEN_LANE, with the local image neither read nor failed: the lane is only its fall-back (R379). -/
def localFirst (s : State) : Bool := s.tc.boot.source == 1 && !s.tc.boot.localFail

/-- A chunk at a TSU; after READY a boot image is discarded, and counted by its first chunk. A boot image that is complete while the
local one comes first waits for it to fail. -/
def tsuChunkNow (f : ConfigF) (s : State) : State :=
  let cls := f.image / 4096
  if cls = 0 ∧ s.tc.boot.stage = 6 then
    (if f.chunk = 0 then modBoot .tsu (fun b => { b with imagesDiscarded := sat16 (b.imagesDiscarded + 1) }) s else s)
  else if cls = 0 ∧ (s.tc.boot.image.isSome ∨ s.tc.boot.applyDone) then s
  else
    let s1 := addChunk .tsu f s
    match assembled (heldChunks .tsu f.image s1) with
    | some img =>
      if cls = 0 ∧ localFirst s then s1
      else
        let s2 := dropChunks .tsu f.image s1
        if cls = 0 then takeBoot img s2 else takeConfig cls img s2
    | none => s1

/-- While slice 11 is under test a chunk waits for its release (R361). -/
def tsuChunk (f : ConfigF) (s : State) : State :=
  if sliceIsolated s 11 then modBoot .tsu (fun b => { b with heldChunks := b.heldChunks ++ [f] }) s else tsuChunkNow f s

/-- The local image has failed: a boot image that the lanes have brought is taken in its place (R379). -/
def laneFallback (s : State) : State :=
  match s.tc.boot.chunks.findSome? (fun x => if x.1 / 4096 = 0 then (assembled x.2).map (fun img => (x.1, img)) else none) with
  | some (id, img) => takeBoot img (dropChunks .tsu id s)
  | none => s

/-- The image read from die-local storage. -/
def localImageDone (img : List Byte) (s : State) : State :=
  let b := s.tc.boot
  if b.source ≠ 1 ∨ b.stage < 2 ∨ 6 ≤ b.stage ∨ b.localFail ∨ b.image.isSome ∨ b.applyDone then s
  else if (imageReject (fuKind .tsu s) 0 img).isSome ∨ imgLength img ≠ img.length then
    laneFallback (modBoot .tsu (fun b => { b with localFail := true, localFails := sat16 (b.localFails + 1) }) s)
  else takeBoot img s

/-- R379. -/
def execLocalImageReadDone (img : List Byte) (s : State) : Host.Outcome State Fault Refusal := .next (localImageDone img s)

/-! The sections, R381. -/

/-- One PRESET write: false where the page is absent, or the register or a field is read-only. -/
def preset (e : List Byte) (s : State) : State × Bool :=
  let v : Word := BitVec.ofNat 64 (be e 8 8)
  match pgResolve (be e 0 1) (be e 1 1) with
  | none => (s, false)
  | some pg =>
    let r := regAt .tsu 0 pg (be e 2 2) s
    if pageSt .tsu s pg ≠ .op ∨ r.mask = 0 ∨ v &&& ~~~r.mask ≠ 0 ∨ be e 4 4 ≠ 0 then (s, false)
    else (r.store v s, true)

/-- The writes of a PRESET section in order, up to the first bad one. -/
def presets (b : List Byte) (s : State) : State × Bool :=
  (upTo (b.length / 16)).foldl (fun acc i => if acc.2 then preset (sub b (16 * i) 16) acc.1 else acc) (s, true)

/-- The store's contents from the bytes of a PLAYBOOK section. -/
def playbookWords (b : List Byte) : List (Nat × CueWord) :=
  (upTo 4096).filterMap (fun a =>
    let w : CueWord := BitVec.ofNat 32 (be b (4 * a) 4)
    if w = 0 then none else some (a, w))

/-- Either thread runs or waits. -/
def threadsRun (s : State) : Bool := s.t.cue.run.alive || s.t.cue.lead.alive

/-- A PLAYBOOK section is written, or refused under R213 and kept until the threads stop. -/
def playbookSection (b : List Byte) (s : State) : State :=
  if threadsRun s then raise .tsu 0x05 0 (modBoot .tsu (fun t => { t with deferred := some b }) s)
  else modCue (fun e => { e with store := playbookWords b, pbBusy := true }) s

/-- GOLDEN: twelve signatures, then X-masks. -/
def goldenSection (b : List Byte) (s : State) : State :=
  let g := (upTo 12).foldl (fun t i => tabSet 0 t i (BitVec.ofNat 64 (be b (8 * i) 8))) ([] : List (Nat × Word))
  modBoot .tsu (fun t => { t with xmasks := b.drop 96 }) (modBt .tsu (fun t => { t with golden := g, goldenValid := true }) s)

/-- BAY_TABLES: every point of every bay the variant has, then one check of each table (R151). -/
def bayTablesSection (b : List Byte) (s : State) : State :=
  let m : Word := wd [(63, 1), (32, 255), (24, 255), (0, 0xFFF)]
  let put (s : State) (i : Nat) : State :=
    if bayExists s (i / 16) then
      setReg .tsu (ptAddr (i / 16) (i % 16)) m (BitVec.ofNat 64 (be b (8 * i) 8)) s
    else s
  if s.tc.fuse.kind = .w then s
  else
    let s1 := (upTo 256).foldl put s
    let s2 := raiseIf ((allBays s1).any (tableBad s1)) .tsu 0x03 51 s1
    (allBays s2).foldl (fun s n => tryChange (baySetOf s n) s) s2

/-- The position of this die: the PORT that its lane's peer announces (R20, R77). -/
def ownPosition (s : State) : Nat := (if (s.port .tsu 0).st = 5 then s.port .tsu 0 else s.port .tsu 1).peerPort

/-- A RANK names a member; a reserved class marks a standby, which waits for its ADMIT image (log 22). -/
def rankMember (rank : Nat) : Bool := decide (rank / 2 ^ 30 < 2)

/-- The seed, the job fields and the fingerprint of a JOB section at the key port, for an epoch (R266). -/
def jobFields (ep : Nat) (b : List Byte) (s : State) : State :=
  let fit := classFit s (be b 8 2)
  modKp (fun k => { k with
    seed := BitVec.ofNat 128 (be b 16 16), seedIndex := be b 32 4, jobValid := true, jobNumber := be b 4 4, mapClass := be b 8 2,
    engines := be b 10 2, ws := be b 12 2, kept := fit.1, fits := fit.2, fp := sub b 40 32, digest := sub b 72 32,
    loadedEpoch := ep }) s

/-- JOB_LOADED, and CLASS_UNFIT where FITS is 0 (R255). -/
def jobLoaded (s : State) : State := raise .tsu 0x08 0 (raiseIf (!s.t.kp.fits) .tsu 0x08 1 s)

/-- The JOB section, R266, R302, R304 and R383. The spec does not say by what a TSU knows a job: here by its JOB number alone, so that a
later job of the same number keeps the attempts seen and the committed mark (DESIGN CHOICE, log 122). -/
def jobSection (b : List Byte) (s : State) : State :=
  let ep := be b 0 4
  let num := be b 4 4
  let rank := be b 36 4
  let c := schedOf (sub b 104 64)
  let same := s.t.kp.jobValid && s.t.kp.jobNumber == num
  let s1 := jobFields ep b s
  let s2 := modMem (fun m =>
    let m1 := { m with
      sched := c, gS := c.firstStep, gK := c.firstKickoff, period := c.period, late := 0, lateFlag := false,
      attempts := if same then m.attempts else [], committed := if same then m.committed else none }
    if rankMember rank then
      { m1 with die := rank / 256 * 256 + ownPosition s, dieValid := true, nextEpoch := some ep }
    else m1) s1
  jobLoaded s2

/-- The JOB section of a held image that is applied again with its new EPOCH, R266 and R383. The grid, the late count, the rank and the
attempts that the TSU holds stay: they are the job's, which goes on (R172, R184, R302; log 105). -/
def jobAgain (ep : Nat) (b : List Byte) (s : State) : State := jobLoaded (jobFields ep b s)

/-- The ADMIT section, R302 and R384: it overrides EPOCH and RANK of the JOB image held. -/
def admitSection (b : List Byte) (s : State) : State :=
  if !s.t.kp.jobValid then s
  else
    let ep := be b 0 4
    let s1 := modKp (fun k => { k with loadedEpoch := ep }) s
    let s2 := modMem (fun m => { m with
      die := be b 4 4 / 256 * 256 + ownPosition s, dieValid := true, gS := be b 8 6, gK := be b 16 8, period := be b 24 8,
      late := be b 32 2, nextEpoch := some ep }) s1
    raise .tsu 0x08 0 s2

/-- One section of an image; after a bad PRESET nothing more is applied. -/
def applySection (again : Option Nat) (acc : State × Bool) (x : Nat × List Byte) : State × Bool :=
  if !acc.2 then acc
  else match x.1 with
  | 0x01 => presets x.2 acc.1
  | 0x02 => (playbookSection x.2 acc.1, true)
  | 0x03 => (goldenSection x.2 acc.1, true)
  | 0x04 => (bayTablesSection x.2 acc.1, true)
  | 0x10 => ((match again with
    | some e => jobAgain e x.2 acc.1
    | none => jobSection x.2 acc.1), true)
  | 0x11 => (admitSection x.2 acc.1, true)
  | _ => acc

/-- An image has been applied in full. -/
def imageLoaded (img : List Byte) (s : State) : State :=
  raise .tsu 0x0E 3 (modBoot .tsu (fun b =>
    let b1 := { b with loadedImage := imgId img, loadedCrc := imgCrc img }
    if imgClass img = 0 then { b1 with fw := imgFw img, applyDone := true, stage := if b.stage = 4 then 5 else b.stage } else b1) s)

/-- The image that waits is applied; not while slice 11 is under test (R361). -/
def imageApplyDone (s : State) : State :=
  match s.tc.boot.image, sliceIsolated s 11 with
  | none, _ => s
  | _, true => s
  | some img, false =>
    let r := ((imgSections img).getD []).foldl (applySection s.tc.boot.applying) (s, true)
    if r.1.tc.boot.image.isNone then r.1
    else
      let s1 := modKp (fun k => { k with loading := false }) (modBoot .tsu (fun b => { b with
        image := none, applying := none, jobImage := if r.2 && imgClass img == 1 then some img else b.jobImage }) r.1)
      if r.2 then nextHeld (imageLoaded img s1)
      else if imgClass img = 0 then failStart .tsu 6 s1
      else nextHeld s1

/-- R381. -/
def execImageApplyDone (s : State) : Host.Outcome State Fault Refusal := .next (imageApplyDone s)

def sectionDeferred (s : State) : State :=
  match s.tc.boot.deferred with
  | some b => if threadsRun s || sliceIsolated s 11 then s else playbookSection b (modBoot .tsu (fun t => { t with deferred := none }) s)
  | none => s

/-- R381. -/
def execPlaybookSectionDeferred (s : State) : Host.Outcome State Fault Refusal := .next (sectionDeferred s)

/-! READY, R378 and R59. -/

/-- APPLY is done and a core is LOCKED. -/
def readyDue (s : State) : Bool :=
  s.tc.boot.stage == 5 && s.tc.boot.applyDone && (s.tc.coreA.st == 2 || s.tc.coreB.st == 2)

def tsuReadyEnter (s : State) : State :=
  if !readyDue s then s
  else
    let s1 := startReady .tsu s
    let bc := s.tc.tk.bc
    let s2 := (allBays s1).foldl (fun s b =>
      startBayFit b bc (if bayServed s b then immediateSamples b (modBay b (immediateCorrection bc (bayMhz s b)) s) else s)) s1
    nextHeld s2

/-- R378. -/
def execTsuReady (s : State) : Host.Outcome State Fault Refusal := .next (tsuReadyEnter s)

/-! The release of a slice, R361. -/

/-- The accesses held for a slice, in the order in which they came. -/
def replayHeld (l : List HeldAccess) (s : State) : State :=
  l.foldl (fun s a => if a.bad then badNow .tsu a.rq a.addr a.write s else if a.write then regWrite .tsu a.rq a.addr a.v s else regRead .tsu a.rq a.addr s) s

/-- Chunks that waited for slice 11. -/
def releaseChunks (s : State) : State :=
  s.tc.boot.heldChunks.foldl (fun s f => tsuChunkNow f s) (modBoot .tsu (fun b => { b with heldChunks := [] }) s)

/-- The slice is released, with what waited for its units: huddles (slice 7), image chunks (slice 11), register accesses. -/
def bistRelease (s : State) : State :=
  if releaseDue s then
    let held := s.tc.bt.held
    let s1 := releaseChunks (releaseHuddles (releaseSlice (winOutcome s) 0 s))
    replayHeld held (modBt .tsu (fun b => { b with held := [] }) s1)
  else s

/-- R361 and R366. -/
def execBistRelease (s : State) : Host.Outcome State Fault Refusal := .next (bistRelease s)

end Sys2Proof.Machine
end

