-- ==== Sys2Proof/Machine/ImagesDxd.lean ====
section
/-!
DEFINITION. Images at a DX-D: their way down, the cache, the CENSUS and JOB images of a pair, and the meaning of a CONFIG
frame (R235, R304, R305, R380 to R385).
-/

namespace Sys2Proof.Machine

/-! What a DX-D learns of the epochs below it, R27 (log 11). -/

/-- Change what is served under an epoch, from nothing where it is new. -/
def upsertServed (ep : Nat) (f : Served → Served) : State → State :=
  modCs (fun c =>
    let known := c.served.any (fun v => v.epoch == ep)
    let blank : Served := { epoch := ep, ports := [], groups := [], loaded := false, table := [], members := [], deadline := 0 }
    let served := if known then listModify (fun v => v.epoch == ep) f c.served else c.served ++ [f blank]
    { c with served := served })

/-- A port leads to members of an epoch. -/
def learnPort (ep p : Nat) : State → State :=
  upsertServed ep (fun v => if v.ports.contains p then v else { v with ports := v.ports ++ [p] })

/-! The way down, R382. -/

/-- TARGET names this pair, whichever of its members. -/
def targetsPair (s : State) (target : Nat) : Bool := target == selfTarget s || target == twinTarget s

/-- The downstream ports of an image. -/
def imagePorts (s : State) (target : Nat) : List Nat :=
  if target = 0xFFFFFFFF then downPorts s
  else ((portToward s target).toList).filter (fun p => (s.port .dxd p).st == 5)

/-- The chunks to pass on once chunks 0 and 1, with the header's TARGET, are held: all of them when this chunk completes
the two, this one afterwards. -/
def chunksToPass (f : ConfigF) (l : List (Nat × List Byte)) : List ConfigF :=
  if tabGet [] l 0 = [] ∨ tabGet [] l 1 = [] then []
  else if f.chunk < 2 then l.map (fun x => ⟨f.image, x.1, x.2⟩)
  else [⟨f.image, f.chunk, tabGet [] l f.chunk⟩]

/-- A hall DX-D or the shadow root passes chunks on, on the ports that the image's header chose when it was complete (R382); a hall
DX-D learns where a targeted image leads. -/
def passChunks (p ep : Nat) (f : ConfigF) (l : List (Nat × List Byte)) (s0 : State) : State :=
  let target := be (tabGet [] l 1) 4 4
  let fs := chunksToPass f l
  if fs.isEmpty then s0
  else
    let ports := if f.chunk < 2 then imagePorts s0 target else tabGet [] s0.dc.boot.routes f.image
    let s := modBoot .dxd (fun b => { b with routes := tabSet [] b.routes f.image ports }) s0
    let s1 := if target = 0xFFFFFFFF ∨ s.x.straps.role = 2 then s else ports.foldl (fun s q => learnPort ep q s) s
    fs.foldl (fun s g => enqueueAll .dxd ports (some p) ⟨ep, .config g⟩ s) s1

/-! CENSUS images, R235. -/

/-- One GROUPS entry: (LCA, EXPECT). -/
def groupEntry (b : List Byte) (g : Nat) : Bool × Nat := (be b (4 * g) 4 / 2 ^ 31 == 1, be b (4 * g) 4 % 2 ^ 24)

/-- A CENSUS image for this pair loads its groups and, in package role, the group table. -/
def loadCensus (ep : Nat) (secs : List (Nat × List Byte)) (s : State) : State :=
  secs.foldl (fun s x => match x.1 with
    | 0x12 => upsertServed ep (fun v => { v with
        loaded := true, groups := (upTo 256).foldl (fun t g => tabSet (false, 0) t g (groupEntry x.2 g)) [] }) s
    | 0x13 => upsertServed ep (fun v => { v with table := (upTo (x.2.length / 8)).map (fun g => be x.2 (8 * g) 8) }) s
    | _ => s) s

/-! JOB and ADMIT images at a package DX-D, R383 to R385. -/

/-- The lanes of a package's TSUs: 175 in an engine, 4 in a weight server (R20); in a slot that a compatible endpoint
occupies, the one to four lanes that announce KIND 7 (R33, R385). -/
def packageLanes (s : State) : List Nat :=
  if !s.x.straps.wsTree then upTo 175
  else
    let e := (upTo 4).filter (fun p => (s.port .dxd p).peerKind == 7)
    if e.isEmpty then upTo 4 else e

/-- The version set's entry for the kind on a lane. -/
def laneVersion (s : State) (p : Nat) : FwEntry :=
  if (s.port .dxd p).peerKind = 7 then s.x.at_.version5 else cachedFw s (s.port .dxd p).peerKind

/-- Bytes of an image replaced. -/
def putBytes (off : Nat) (v b : List Byte) : List Byte := b.take off ++ v ++ b.drop (off + v.length)

/-- The image for a lane: its VERSION, its RANK where one is written, its CRC. The JOB section's RANK lies at byte 36 of the
section that follows the image's other sections. -/
def laneImage (s : State) (p : Nat) (img : List Byte) : List Byte := imgRecrc (putBytes 8 (fwBytes (laneVersion s p)) img)

/-- The offset of the first section of a type within an image's body. -/
def sectionAt (ty : Nat) : Nat → List Byte → Nat → Option Nat
  | 0, _, _ => none
  | n + 1, b, o =>
    if b.length < 8 then none
    else if be b 0 2 = ty then some (o + 8)
    else
      let len := 8 + be b 4 4 + (8 - be b 4 4 % 8) % 8
      sectionAt ty n (b.drop len) (o + len)

/-- RANK written into the JOB section. -/
def putRank (rank : Nat) (img : List Byte) : List Byte :=
  match sectionAt 0x10 img.length (img.drop 64) 64 with
  | some o => putBytes (o + 36) (bytesBE 4 rank) img
  | none => img

/-- An image goes to these lanes, each with its own VERSION. -/
def imageToLanes (ep : Nat) (img : List Byte) (lanes : List Nat) (s : State) : State :=
  lanes.foldl (fun s p => if (s.port .dxd p).st = 5 then sendImage [p] ep (laneImage s p img) s else s) s

/-- The member lanes under an epoch, with the limit by which they are to join. -/
def setMembers305 (ep rank limit : Nat) (s : State) : State :=
  upsertServed ep (fun v => { v with
    ports := packageLanes s, deadline := s.dc.up + limit,
    members := (packageLanes s).map (fun p => ⟨p, rank / 256 * 256 + p, false, false⟩) }) s

/-- The RANK that no member holds, written for a standby (log 22). -/
def standbyRank : Nat := 0xFFFFFFFF

/-- The rank of a slot: ranks are assigned in ascending slot order (R23). -/
def mapRank (slots : List Nat) (slot : Nat) : Option Nat :=
  if slots.contains slot then some ((upTo slot).countP (fun n => slots.contains n)) else none

/-- A JOB image at a package DX-D: to its members, once; to the lanes of a listed spare, as standbys, while it serves no epoch (R304).
Which slots are mapped or listed is a free value (log 19). -/
def packageJob (ep : Nat) (img body : List Byte) (s : State) : State :=
  let fresh := ((s.served ep).map (fun v => v.members.isEmpty)).getD true
  let ws := s.x.straps.wsTree
  match mapRank (Config.jobSlots ep ws) s.x.straps.pair with
  | some r =>
    let rank := b2n ws * 2 ^ 30 + r % 2 ^ 14 * 2 ^ 16
    if fresh then
      imageToLanes ep (putRank rank img) (packageLanes s) (setMembers305 ep rank (be body 168 4 * 1000000) s)
    else s
  | none =>
    if s.x.cs.served.isEmpty && (Config.spareSlots ep ws).contains s.x.straps.pair then
      imageToLanes ep (putRank standbyRank img) (packageLanes s) s
    else s

/-- The package in whose slot the RANK of an ADMIT image is taken: the image goes to every DX-D (R380), and how one knows that it is
meant is not said (Config.admitSlot, a free value; log 68). -/
def admitsHere (s : State) (body : List Byte) : Bool := Config.admitSlot (be body 0 4) (be body 4 4) == s.x.straps.pair

/-- An ADMIT image for this package: its lanes become members of the new epoch, within the reset value of ADMIT_LEAD of the
image's arrival (log 23). -/
def packageAdmit (img body : List Byte) (s : State) : State :=
  let ep := be body 0 4
  imageToLanes ep img (packageLanes s) (setMembers305 ep (be body 4 4) 1000000 s)

/-! Receipt at a DX-D. -/

/-- The body of an image's section. -/
def sectionBody (ty : Nat) (secs : List (Nat × List Byte)) : List Byte := ((secs.find? (fun x => x.1 == ty)).map (·.2)).getD []

/-- A JOB image names another DX-D firmware than this one runs: the DX-D reports itself where it serves the epoch (R292, R380). -/
def reportOwnFw (ep : Nat) (s : State) : State :=
  if (s.served ep).isSome then fenceReport 1 (selfTarget s) 7 (lowestEpoch s) s else s

/-- The KINDs of the endpoints below a DX-D, R20 and R33: an engine's, a weight server's, or either below a hall DX-D. -/
def kindBelow (s : State) (k : Nat) : Bool :=
  k == 7 || k == 0xF || (if s.x.straps.role = 0 then (if s.x.straps.wsTree then k == 6 else k == 3 || k == 4 || k == 5)
    else decide (3 ≤ k ∧ k ≤ 6))

/-- A complete image at a DX-D below the root. -/
def dxdImage (ep : Nat) (img : List Byte) (s : State) : State :=
  if img.isEmpty || !imgCrcOk img || (imgFw img).stepping != 0xB0 || !imgFormatOk img then s
  else if (imgClass img == 1 || imgClass img == 2) && imgFw img != s.dc.boot.fw then reportOwnFw ep s
  else
    let secs := (imgSections img).getD []
    let mine := targetsPair s (imgTarget img)
    match imgClass img with
    | 0 => if kindBelow s (imgKind img) then cacheImage img s else s
    | 1 =>
      let s1 := if (s.served ep).isSome || s.x.straps.role == 0 then cacheImage img s else s
      if s.x.straps.role = 0 then packageJob ep img (sectionBody 0x10 secs) s1 else s1
    | 2 =>
      let body := sectionBody 0x11 secs
      if s.x.straps.role = 0 && imgTarget img == 0xFFFFFFFF && admitsHere s body then packageAdmit img body s else s
    | 3 => if mine then loadCensus ep secs s else s
    | _ => s

/-- A chunk at a DX-D, from above or from its twin, since images travel downward only (R382): passed on in hall role and by the root
member that does not act, gathered below the root. -/
def dxdChunk (p ep : Nat) (f : ConfigF) (s : State) : State :=
  if rootActs s || decide (p < 192) then s
  else
    let s1 := addChunk .dxd f s
    let l := heldChunks .dxd f.image s1
    let s2 := if s.x.straps.role = 0 then s1 else passChunks p ep f l s1
    match assembled l with
    | some img =>
      let s3 := dropChunks .dxd f.image (modBoot .dxd (fun b => { b with routes := tabSet [] b.routes f.image [] }) s2)
      if s.x.straps.role = 2 ∨ imgClass img ≠ f.image / 4096 then s3 else dxdImage ep img s3
    | none => s2

def configReceive (d : Dev) (p : Nat) (h : LinkHdr) (ep : Nat) (f : ConfigF) (s : State) : State :=
  recvRetained d p h ⟨ep, .config f⟩ (bySeen d (.config f.image f.chunk) (fun s =>
    match d with
    | .tsu => tsuChunk f s
    | .dxd => dxdChunk p ep f s)) s

/-- R380 and R382. -/
def execConfigReceive (d : Dev) (p : Nat) (h : LinkHdr) (ep : Nat) (f : ConfigF) (s : State) :
    Host.Outcome State Fault Refusal := .next (configReceive d p h ep f s)

end Sys2Proof.Machine
end

