-- ==== Sys2Proof/Machine/PageCmds.lean ====
section
/-!
DEFINITION. The meanings of the commands of the common page header, of plain register writes, of accesses that do not fit
and of 32-bit accesses on BAR0 (R397, R403 to R406).
-/

namespace Sys2Proof.Machine

/-- R406. -/
def execPgLockWrite (d : Dev) (rq pg : Nat) (v : Word) (s : State) : Host.Outcome State Fault Refusal :=
  .next (regWrite d rq (pg * 4096 + 0x38) v s)

/-- R404. -/
def execPgEventWrite (d : Dev) (rq pg : Nat) (v : Word) (s : State) : Host.Outcome State Fault Refusal :=
  .next (regWrite d rq (pg * 4096 + 0x28) v s)

/-- R342 and R404. -/
def execPgEventEnWrite (d : Dev) (rq pg : Nat) (v : Word) (s : State) : Host.Outcome State Fault Refusal :=
  .next (regWrite d rq (pg * 4096 + 0x30) v s)

/-- R404. -/
def execEventTest (d : Dev) (rq pg : Nat) (v : Word) (s : State) : Host.Outcome State Fault Refusal :=
  .next (regWrite d rq (pg * 4096 + 0x20) v s)

/-- R404: the read returns and clears the counts. -/
def execPgStatusRead (d : Dev) (rq pg : Nat) (s : State) : Host.Outcome State Fault Refusal :=
  .next (regRead d rq (pg * 4096 + 0x18) s)

/-- R397 and R398: a 64-bit write of any register. -/
def execRegisterWrite (d : Dev) (rq addr : Nat) (v : Word) (s : State) : Host.Outcome State Fault Refusal :=
  .next (regWrite d rq addr v s)

/-- An access of a size and alignment that the register target takes, R397 and R403. -/
def fitsTarget (d : Dev) (rq addr bytes : Nat) : Bool :=
  (bytes == 8 && addr % 8 == 0) || (d == .dxd && rq == 4 && bytes == 4 && addr % 4 == 0)

/-- One that a slice under test holds is answered at its release (R361, R428). -/
def badAccess (d : Dev) (rq addr bytes : Nat) (wr : Bool) (s : State) : State :=
  if fitsTarget d rq addr bytes || !reaches d rq s then s
  else
    let s1 := dropHalf d rq s
    if isHeld d (addr / 4096) s1 then holdAccess d ⟨rq, addr, wr, 0, true⟩ s1 else badNow d rq addr wr s1

/-- R397: a write is dropped, a read returns 0, and either is counted. -/
def execBadAccess (d : Dev) (rq addr bytes : Nat) (wr : Bool) (s : State) : Host.Outcome State Fault Refusal :=
  .next (badAccess d rq addr bytes wr s)

/-! The test port, R371. -/

/-- A register write through the test port, which a hall or root DX-D in CELLAR takes too (R388). -/
def overrideWrite (d : Dev) (a : Nat) (v : Word) (s : State) : State := regWriteNow d 0 a v s

/-- R371: IDCODE and BYPASS always; the others only while the field fuse is intact, else decoded as BYPASS. A scan dump shifts out
the flops, whose order the spec does not give: what comes out is a free value (Config.scanWord, log 52). -/
def jtag (d : Dev) (i : JtagIns) (s : State) : State :=
  let closed := (s.com d).fuse.fieldClosed
  let ins (n : Nat) (t : TestAccess) : TestAccess := { t with ins := n }
  match i with
  | .idcode => modTa d (ins 1) s
  | .bypass => modTa d (ins 0) s
  | .otherPublic => modTa d (ins (if closed then 0 else 2)) s
  | .scanDump =>
    let out := Config.scanWord (d == .tsu) (s.com d).up
    modTa d (fun t => if closed then ins 0 t else { t with ins := 3, scan := some out }) s
  | .overrideOn => modTa d (fun t => if closed then ins 0 t else { t with ins := 4, overrideOn := true }) s
  | .overrideOff => modTa d (fun t => if closed then ins 0 t else { t with ins := 4, overrideOn := false, ovr := [] }) s
  | .overrideWrite a v =>
    if closed then modTa d (ins 0) s
    else
      let s1 := modTa d (ins 4) s
      if (s.com d).ta.overrideOn then overrideWrite d a v s1 else s1

/-- R371. -/
def execJtagInstruction (d : Dev) (ins : JtagIns) (s : State) : Host.Outcome State Fault Refusal := .next (jtag d ins s)

/-! BAR0, R403: the management PCIe port of a package DX-D, requester 4. -/

/-- The identity that the port presents: one physical function, in package role (R418, R422). -/
def pcieIdentity (s : State) : Option PcieId := if s.x.straps.role = 0 then some { subsystem := s.x.subsystem } else none

/-- The port works, in package role only (R402), and the half lies in BAR0. -/
def barOk (addr half : Nat) (s : State) : Bool := s.x.straps.role == 0 && addr % 8 == half && decide (addr < 0x40000)

/-- The high 32 bits. -/
def highHalf (w : Word) : Word := w >>> 32

/-- The low 32 bits. -/
def lowHalf (w : Word) : Word := w &&& 0xFFFFFFFF

def barLowRead (addr : Nat) (s : State) : State :=
  if barOk addr 0 s then
    let s1 := dropHalf .dxd 4 s
    let w := regWord .dxd 4 addr s1
    let s2 := respond .dxd 4 (lowHalf w) (regReadNow .dxd 4 addr s1)
    { s2 with dc := { s2.dc with barCap := some (addr, w) } }
  else s

/-- R403: a full read, captured. -/
def execBar0LowRead (addr : Nat) (s : State) : Host.Outcome State Fault Refusal := .next (barLowRead addr s)

/-- What a read of a high half returns: the capture's half right after it, else the live one. -/
def barHighWord (addr : Nat) (s : State) : Word :=
  match s.dc.barCap with
  | some (a, w) => if a + 4 = addr then highHalf w else highHalf (regWord .dxd 4 (addr - 4) s)
  | none => highHalf (regWord .dxd 4 (addr - 4) s)

def barHighRead (addr : Nat) (s : State) : State :=
  if barOk addr 4 s then respond .dxd 4 (barHighWord addr s) (dropHalf .dxd 4 s) else s

/-- R403: no side effects. -/
def execBar0HighRead (addr : Nat) (s : State) : Host.Outcome State Fault Refusal := .next (barHighRead addr s)

def barLowWrite (addr v : Nat) (s : State) : State :=
  if barOk addr 0 s then
    let s1 := dropHalf .dxd 4 s
    { s1 with dc := { s1.dc with barLow := some (addr, v % 2 ^ 32) } }
  else s

/-- R403: the low half is held. -/
def execBar0LowWrite (addr v : Nat) (s : State) : Host.Outcome State Fault Refusal := .next (barLowWrite addr v s)

def barHighWrite (addr v : Nat) (s : State) : State :=
  if barOk addr 4 s then
    match s.dc.barLow with
    | some (a, lo) =>
      if a + 4 = addr then
        regWrite .dxd 4 a (wd [(32, v % 2 ^ 32), (0, lo)]) { s with dc := { s.dc with barLow := none } }
      else countBad .dxd (addr / 4096) (dropHalf .dxd 4 s)
    | none => countBad .dxd (addr / 4096) (dropHalf .dxd 4 s)
  else s

/-- R403: one 64-bit write with the held low half, or a drop. -/
def execBar0HighWrite (addr v : Nat) (s : State) : Host.Outcome State Fault Refusal := .next (barHighWrite addr v s)

end Sys2Proof.Machine
end

