-- ==== Sys2Proof/Machine/Dispatch.lean ====
section
/-! DEFINITION. The effect of each command on everything but the queue: one arm per constructor. -/

namespace Sys2Proof.Machine

open Sys2Proof

def exec (i : Instr) (s : State) : Host.Outcome State Fault Refusal :=
  match i with
  | .powerOnReset d pins => Sys2Proof.Machine.execPowerOnReset d pins s
  | .warmReset d => Sys2Proof.Machine.execWarmReset d s
  | .fuseReadDone d crcOk => Sys2Proof.Machine.execFuseReadDone d crcOk s
  | .resetLbistDone d sig => Sys2Proof.Machine.execResetLbistDone d sig s
  | .localImageReadDone img => Sys2Proof.Machine.execLocalImageReadDone img s
  | .flashLoadDone ok0 ok1 fw atticOk => Sys2Proof.Machine.execFlashLoadDone ok0 ok1 fw atticOk s
  | .configReceive d p h ep f => Sys2Proof.Machine.execConfigReceive d p h ep f s
  | .imageApplyDone => Sys2Proof.Machine.execImageApplyDone s
  | .playbookSectionDeferred => Sys2Proof.Machine.execPlaybookSectionDeferred s
  | .tsuReady => Sys2Proof.Machine.execTsuReady s
  | .startTimeout d => Sys2Proof.Machine.execStartTimeout d s
  | .boRestart d rq v => Sys2Proof.Machine.execBoRestart d rq v s
  | .boForceCellar d rq v => Sys2Proof.Machine.execBoForceCellar d rq v s
  | .boReady rq v => Sys2Proof.Machine.execBoReady rq v s
  | .atCommit rq v => Sys2Proof.Machine.execAtCommit rq v s
  | .atDrop rq v => Sys2Proof.Machine.execAtDrop rq v s
  | .atClearHistory rq v => Sys2Proof.Machine.execAtClearHistory rq v s
  | .atClearCal rq v => Sys2Proof.Machine.execAtClearCal rq v s
  | .atDataRead rq => Sys2Proof.Machine.execAtDataRead rq s
  | .atDataWrite rq v => Sys2Proof.Machine.execAtDataWrite rq v s
  | .portEnable d rq p => Sys2Proof.Machine.execPortEnable d rq p s
  | .portDisable d rq p => Sys2Proof.Machine.execPortDisable d rq p s
  | .retrain d rq p v => Sys2Proof.Machine.execRetrain d rq p v s
  | .downDwellEnd d p => Sys2Proof.Machine.execDownDwellEnd d p s
  | .alignmentAcquired d p => Sys2Proof.Machine.execAlignmentAcquired d p s
  | .trainFrameReceive d p h f => Sys2Proof.Machine.execTrainFrameReceive d p h f s
  | .trainAckSet d p => Sys2Proof.Machine.execTrainAckSet d p s
  | .trainComplete d p => Sys2Proof.Machine.execTrainComplete d p s
  | .delayProbeRequestSend d p => Sys2Proof.Machine.execDelayProbeRequestSend d p s
  | .delayProbeRequestReceive d p h f t2 => Sys2Proof.Machine.execDelayProbeRequestReceive d p h f t2 s
  | .delayProbeReplyReceive d p h f t4 => Sys2Proof.Machine.execDelayProbeReplyReceive d p h f t4 s
  | .delayProbeTimeout d p => Sys2Proof.Machine.execDelayProbeTimeout d p s
  | .calComplete d p => Sys2Proof.Machine.execCalComplete d p s
  | .calFail d p => Sys2Proof.Machine.execCalFail d p s
  | .delayUpdate d p => Sys2Proof.Machine.execDelayUpdate d p s
  | .frameSlot d p => Sys2Proof.Machine.execFrameSlot d p s
  | .fillFrameReceive d p h => Sys2Proof.Machine.execFillFrameReceive d p h s
  | .frameCrcError d p => Sys2Proof.Machine.execFrameCrcError d p s
  | .unknownTypeFrame d p h ty => Sys2Proof.Machine.execUnknownTypeFrame d p h ty s
  | .nakResendTimeout d p => Sys2Proof.Machine.execNakResendTimeout d p s
  | .heartbeatSend d p => Sys2Proof.Machine.execHeartbeatSend d p s
  | .heartbeatReceive d p h ep f => Sys2Proof.Machine.execHeartbeatReceive d p h ep f s
  | .peerFailed d p => Sys2Proof.Machine.execPeerFailed d p s
  | .portLossDeclared d p cause => Sys2Proof.Machine.execPortLossDeclared d p cause s
  | .errorRate d p => Sys2Proof.Machine.execErrorRate d p s
  | .linkFlap d p => Sys2Proof.Machine.execLinkFlap d p s
  | .timeFrameReceive d p h f rx diff => Sys2Proof.Machine.execTimeFrameReceive d p h f rx diff s
  | .enterLocked d core => Sys2Proof.Machine.execEnterLocked d core s
  | .leaveLocked d core => Sys2Proof.Machine.execLeaveLocked d core s
  | .coreSplit => Sys2Proof.Machine.execCoreSplit s
  | .keeperReversion => Sys2Proof.Machine.execKeeperReversion s
  | .keeperForce d rq v => Sys2Proof.Machine.execKeeperForce d rq v s
  | .pullComplete d => Sys2Proof.Machine.execPullComplete d s
  | .tkNowSecRead d rq => Sys2Proof.Machine.execTkNowSecRead d rq s
  | .tkOriginSet rq v => Sys2Proof.Machine.execTkOriginSet rq v s
  | .originStep d => Sys2Proof.Machine.execOriginStep d s
  | .bayCorrection rets canary => Sys2Proof.Machine.execBayCorrection rets canary s
  | .edgeStamp d ch w n c => Sys2Proof.Machine.execEdgeStamp d ch w n c s
  | .interpolatorCalibration d ch u c1s c2s => Sys2Proof.Machine.execInterpolatorCalibration d ch u c1s c2s s
  | .channelCalFail d ch => Sys2Proof.Machine.execChannelCalFail d ch s
  | .measurementArm d rq m v => Sys2Proof.Machine.execMeasurementArm d rq m v s
  | .measurementAbort d rq m v => Sys2Proof.Machine.execMeasurementAbort d rq m v s
  | .measurementWindowOpen d m => Sys2Proof.Machine.execMeasurementWindowOpen d m s
  | .measurementWindowClose d m => Sys2Proof.Machine.execMeasurementWindowClose d m s
  | .fitRunComplete d m => Sys2Proof.Machine.execFitRunComplete d m s
  | .tapWrite d rq ch v => Sys2Proof.Machine.execTapWrite d rq ch v s
  | .tapTakeEffect d ch => Sys2Proof.Machine.execTapTakeEffect d ch s
  | .referenceSample stamp => Sys2Proof.Machine.execReferenceSample stamp s
  | .ppsEdge n stamp stamp10 => Sys2Proof.Machine.execPpsEdge n stamp stamp10 s
  | .ppsWindowEnd n => Sys2Proof.Machine.execPpsWindowEnd n s
  | .referenceFitComplete n => Sys2Proof.Machine.execReferenceFitComplete n s
  | .referenceEdgeLoss n => Sys2Proof.Machine.execReferenceEdgeLoss n s
  | .ptpMessageReceive inst m stamp => Sys2Proof.Machine.execPtpMessageReceive inst m stamp s
  | .ptpMessageTransmit inst m t stamp => Sys2Proof.Machine.execPtpMessageTransmit inst m t stamp s
  | .ptpAnnounceTimeout => Sys2Proof.Machine.execPtpAnnounceTimeout s
  | .ptCtlWrite rq v => Sys2Proof.Machine.execPtCtlWrite rq v s
  | .rfSelWrite rq v => Sys2Proof.Machine.execRfSelWrite rq v s
  | .rfTodWrite rq n v => Sys2Proof.Machine.execRfTodWrite rq n v s
  | .holdoverMeanUpdate d => Sys2Proof.Machine.execHoldoverMeanUpdate d s
  | .servoRecordWrite => Sys2Proof.Machine.execServoRecordWrite s
  | .svSave rq v => Sys2Proof.Machine.execSvSave rq v s
  | .svForceHoldoverWrite rq v => Sys2Proof.Machine.execSvForceHoldoverWrite rq v s
  | .firstFitComplete d core => Sys2Proof.Machine.execFirstFitComplete d core s
  | .oscLoss => Sys2Proof.Machine.execOscLoss s
  | .oscReturn => Sys2Proof.Machine.execOscReturn s
  | .opAlignGo rq v => Sys2Proof.Machine.execOpAlignGo rq v s
  | .alignReceive p h ep f => Sys2Proof.Machine.execAlignReceive p h ep f s
  | .outputAlignment => Sys2Proof.Machine.execOutputAlignment s
  | .outputErrorMeasure e0 e1 e2 => Sys2Proof.Machine.execOutputErrorMeasure e0 e1 e2 s
  | .stepFrameStrobe => Sys2Proof.Machine.execStepFrameStrobe s
  | .incGateEnd b => Sys2Proof.Machine.execIncGateEnd b s
  | .bayFitGateEnd b => Sys2Proof.Machine.execBayFitGateEnd b s
  | .bayRefLoss b => Sys2Proof.Machine.execBayRefLoss b s
  | .bayNoEdgeTimeout b => Sys2Proof.Machine.execBayNoEdgeTimeout b s
  | .bayMonitorReport b point urgent temp => Sys2Proof.Machine.execBayMonitorReport b point urgent temp s
  | .crossingDrained set => Sys2Proof.Machine.execCrossingDrained set s
  | .bayStopAck b => Sys2Proof.Machine.execBayStopAck b s
  | .bayResume b => Sys2Proof.Machine.execBayResume b s
  | .bayChangeTimeout b => Sys2Proof.Machine.execBayChangeTimeout b s
  | .bayPeriodReport rs => Sys2Proof.Machine.execBayPeriodReport rs s
  | .byXcWrite rq c v => Sys2Proof.Machine.execByXcWrite rq c v s
  | .byBayCfgWrite rq b v => Sys2Proof.Machine.execByBayCfgWrite rq b v s
  | .bayTableWrite rq b pt v => Sys2Proof.Machine.execBayTableWrite rq b pt v s
  | .armSend j => Sys2Proof.Machine.execArmSend j s
  | .armReceive d p h ep f => Sys2Proof.Machine.execArmReceive d p h ep f s
  | .armDeadlineCheck j step => Sys2Proof.Machine.execArmDeadlineCheck j step s
  | .stepTimeout j step => Sys2Proof.Machine.execStepTimeout j step s
  | .kickoffDecision => Sys2Proof.Machine.execKickoffDecision s
  | .kickoff d j rets => Sys2Proof.Machine.execKickoff d j rets s
  | .censusDnReceive d p h ep f => Sys2Proof.Machine.execCensusDnReceive d p h ep f s
  | .callOffReceive d p h ep f => Sys2Proof.Machine.execCallOffReceive d p h ep f s
  | .nop th e => Sys2Proof.Machine.execNop th e s
  | .halt th e => Sys2Proof.Machine.execHalt th e s
  | .doneInstruction th e => Sys2Proof.Machine.execDoneInstruction th e s
  | .armInstruction th e => Sys2Proof.Machine.execArmInstruction th e s
  | .kickInstruction th e => Sys2Proof.Machine.execKickInstruction th e s
  | .calloffInstruction th e => Sys2Proof.Machine.execCalloffInstruction th e s
  | .waitk th e => Sys2Proof.Machine.execWaitk th e s
  | .waitn th e => Sys2Proof.Machine.execWaitn th e s
  | .waitr th e => Sys2Proof.Machine.execWaitr th e s
  | .waitTargetReached th => Sys2Proof.Machine.execWaitTargetReached th s
  | .hent th e => Sys2Proof.Machine.execHent th e s
  | .hawait th e => Sys2Proof.Machine.execHawait th e s
  | .postInstruction th e => Sys2Proof.Machine.execPostInstruction th e s
  | .posttInstruction th e => Sys2Proof.Machine.execPosttInstruction th e s
  | .cwait th e => Sys2Proof.Machine.execCwait th e s
  | .cresetInstruction th e => Sys2Proof.Machine.execCresetInstruction th e s
  | .resv th e => Sys2Proof.Machine.execResv th e s
  | .rels th e => Sys2Proof.Machine.execRels th e s
  | .bayp th e => Sys2Proof.Machine.execBayp th e s
  | .bistInstruction th e => Sys2Proof.Machine.execBistInstruction th e s
  | .probe th e => Sys2Proof.Machine.execProbe th e s
  | .li th e => Sys2Proof.Machine.execLi th e s
  | .lis th e => Sys2Proof.Machine.execLis th e s
  | .mov th e => Sys2Proof.Machine.execMov th e s
  | .addOp th e => Sys2Proof.Machine.execAddOp th e s
  | .subOp th e => Sys2Proof.Machine.execSubOp th e s
  | .addi th e => Sys2Proof.Machine.execAddi th e s
  | .andOp th e => Sys2Proof.Machine.execAndOp th e s
  | .orOp th e => Sys2Proof.Machine.execOrOp th e s
  | .xorOp th e => Sys2Proof.Machine.execXorOp th e s
  | .shl th e => Sys2Proof.Machine.execShl th e s
  | .shr th e => Sys2Proof.Machine.execShr th e s
  | .get th e => Sys2Proof.Machine.execGet th e s
  | .b th e => Sys2Proof.Machine.execB th e s
  | .beq th e => Sys2Proof.Machine.execBeq th e s
  | .bne th e => Sys2Proof.Machine.execBne th e s
  | .blt th e => Sys2Proof.Machine.execBlt th e s
  | .bltu th e => Sys2Proof.Machine.execBltu th e s
  | .bz th e => Sys2Proof.Machine.execBz th e s
  | .bnz th e => Sys2Proof.Machine.execBnz th e s
  | .loop th e => Sys2Proof.Machine.execLoop th e s
  | .cuStart rq v => Sys2Proof.Machine.execCuStart rq v s
  | .cuStop rq v => Sys2Proof.Machine.execCuStop rq v s
  | .pbDataWrite rq v => Sys2Proof.Machine.execPbDataWrite rq v s
  | .pbDataRead rq => Sys2Proof.Machine.execPbDataRead rq s
  | .pbCheckDone => Sys2Proof.Machine.execPbCheckDone s
  | .cellPost rq c n => Sys2Proof.Machine.execCellPost rq c n s
  | .cellPostt rq c r => Sys2Proof.Machine.execCellPostt rq c r s
  | .cellAdd rq c dlt => Sys2Proof.Machine.execCellAdd rq c dlt s
  | .cellWait rq c r need => Sys2Proof.Machine.execCellWait rq c r need s
  | .cellReset rq c => Sys2Proof.Machine.execCellReset rq c s
  | .cellTest rq c => Sys2Proof.Machine.execCellTest rq c s
  | .cellBadCommand rq off bytes wr v => Sys2Proof.Machine.execCellBadCommand rq off bytes wr v s
  | .dmaCompletionPost c n targeted r streamEn st => Sys2Proof.Machine.execDmaCompletionPost c n targeted r streamEn st s
  | .sgRpost rq v => Sys2Proof.Machine.execSgRpost rq v s
  | .remotePostReceive record => Sys2Proof.Machine.execRemotePostReceive record s
  | .departReport st => Sys2Proof.Machine.execDepartReport st s
  | .arrivalReport st tag => Sys2Proof.Machine.execArrivalReport st tag s
  | .orphanPost => Sys2Proof.Machine.execOrphanPost s
  | .sgCtxSwitch rq v => Sys2Proof.Machine.execSgCtxSwitch rq v s
  | .ctxSwitchDone img => Sys2Proof.Machine.execCtxSwitchDone img s
  | .censusUpReceive p h ep f => Sys2Proof.Machine.execCensusUpReceive p h ep f s
  | .censusCreditFree => Sys2Proof.Machine.execCensusCreditFree s
  | .censusTreeChange d => Sys2Proof.Machine.execCensusTreeChange d s
  | .treeNoticeSend => Sys2Proof.Machine.execTreeNoticeSend s
  | .treeNoticeExpiry => Sys2Proof.Machine.execTreeNoticeExpiry s
  | .keySeedHi ch => Sys2Proof.Machine.execKeySeedHi ch s
  | .keySeedLo ch => Sys2Proof.Machine.execKeySeedLo ch s
  | .keyStep ch => Sys2Proof.Machine.execKeyStep ch s
  | .keyCtrBase ch => Sys2Proof.Machine.execKeyCtrBase ch s
  | .keySeedIndex ch => Sys2Proof.Machine.execKeySeedIndex ch s
  | .keyDie ch => Sys2Proof.Machine.execKeyDie ch s
  | .keyJob ch => Sys2Proof.Machine.execKeyJob ch s
  | .keyKept ch => Sys2Proof.Machine.execKeyKept ch s
  | .keyReservedRequest ch code => Sys2Proof.Machine.execKeyReservedRequest ch code s
  | .keyPortDeferredAnswer => Sys2Proof.Machine.execKeyPortDeferredAnswer s
  | .kpAppliedWrite rq v => Sys2Proof.Machine.execKpAppliedWrite rq v s
  | .tallyTapUnit tap flow outbound bytes => Sys2Proof.Machine.execTallyTapUnit tap flow outbound bytes s
  | .tlFeedWrite rq n v => Sys2Proof.Machine.execTlFeedWrite rq n v s
  | .scoreReceive p h ep f => Sys2Proof.Machine.execScoreReceive p h ep f s
  | .probeWindowClose lane => Sys2Proof.Machine.execProbeWindowClose lane s
  | .tallyQueueRoom => Sys2Proof.Machine.execTallyQueueRoom s
  | .tallyReceive p h ep f => Sys2Proof.Machine.execTallyReceive p h ep f s
  | .lsPairValidWrite rq e v => Sys2Proof.Machine.execLsPairValidWrite rq e v s
  | .stockReceive p h ep f => Sys2Proof.Machine.execStockReceive p h ep f s
  | .fencePairTimeout => Sys2Proof.Machine.execFencePairTimeout s
  | .sourcelessSelfFence => Sys2Proof.Machine.execSourcelessSelfFence s
  | .probeRequestSend p => Sys2Proof.Machine.execProbeRequestSend p s
  | .probeEnd p => Sys2Proof.Machine.execProbeEnd p s
  | .mbComplaintGo rq v => Sys2Proof.Machine.execMbComplaintGo rq v s
  | .complaintTimeout => Sys2Proof.Machine.execComplaintTimeout s
  | .recoveryWaitEnd j => Sys2Proof.Machine.execRecoveryWaitEnd j s
  | .deferredBench j => Sys2Proof.Machine.execDeferredBench j s
  | .benchReceive d p h ep f => Sys2Proof.Machine.execBenchReceive d p h ep f s
  | .epochJoin => Sys2Proof.Machine.execEpochJoin s
  | .admitDeadline p => Sys2Proof.Machine.execAdmitDeadline p s
  | .ledgerRecordDurable r jobs => Sys2Proof.Machine.execLedgerRecordDurable r jobs s
  | .rootTakeover => Sys2Proof.Machine.execRootTakeover s
  | .replayArm j => Sys2Proof.Machine.execReplayArm j s
  | .jobSubmit rq v => Sys2Proof.Machine.execJobSubmit rq v s
  | .jobResume rq v => Sys2Proof.Machine.execJobResume rq v s
  | .jobEndCommand rq v => Sys2Proof.Machine.execJobEndCommand rq v s
  | .benchOperator rq v => Sys2Proof.Machine.execBenchOperator rq v s
  | .jobEnd j => Sys2Proof.Machine.execJobEnd j s
  | .mbSpareWrite rq v => Sys2Proof.Machine.execMbSpareWrite rq v s
  | .lgExportedWrite rq v => Sys2Proof.Machine.execLgExportedWrite rq v s
  | .ckptMark rq v => Sys2Proof.Machine.execCkptMark rq v s
  | .ckptSaved rq v => Sys2Proof.Machine.execCkptSaved rq v s
  | .grantTick droop vsense phases => Sys2Proof.Machine.execGrantTick droop vsense phases s
  | .stockRequest port w => Sys2Proof.Machine.execStockRequest port w s
  | .stockRelease port => Sys2Proof.Machine.execStockRelease port s
  | .droop => Sys2Proof.Machine.execDroop s
  | .bumpSuspect => Sys2Proof.Machine.execBumpSuspect s
  | .phaseLost ph => Sys2Proof.Machine.execPhaseLost ph s
  | .stockReportSend => Sys2Proof.Machine.execStockReportSend s
  | .clearBump rq v => Sys2Proof.Machine.execClearBump rq v s
  | .icSourceRaise d n => Sys2Proof.Machine.execIcSourceRaise d n s
  | .icSourceFall d n => Sys2Proof.Machine.execIcSourceFall d n s
  | .icCoalesceTimeout d n => Sys2Proof.Machine.execIcCoalesceTimeout d n s
  | .icClaim d rq t => Sys2Proof.Machine.execIcClaim d rq t s
  | .icComplete d rq t v => Sys2Proof.Machine.execIcComplete d rq t v s
  | .icSourceCfgWrite d rq n v => Sys2Proof.Machine.execIcSourceCfgWrite d rq n v s
  | .icDeliverWrite d rq v => Sys2Proof.Machine.execIcDeliverWrite d rq v s
  | .icSleep d rq v => Sys2Proof.Machine.execIcSleep d rq v s
  | .icWatchedRise d n timingOn => Sys2Proof.Machine.execIcWatchedRise d n timingOn s
  | .icWake d => Sys2Proof.Machine.execIcWake d s
  | .icLocalWrite rq v => Sys2Proof.Machine.execIcLocalWrite rq v s
  | .btRunGo d rq v => Sys2Proof.Machine.execBtRunGo d rq v s
  | .bistIsolate => Sys2Proof.Machine.execBistIsolate s
  | .bistSignatureLatch sig => Sys2Proof.Machine.execBistSignatureLatch sig s
  | .bistCoreRestore => Sys2Proof.Machine.execBistCoreRestore s
  | .bistRelease => Sys2Proof.Machine.execBistRelease s
  | .bistTwinLost => Sys2Proof.Machine.execBistTwinLost s
  | .ageingMeasure d rq v => Sys2Proof.Machine.execAgeingMeasure d rq v s
  | .ageingGateStart d => Sys2Proof.Machine.execAgeingGateStart d s
  | .ageingGateEnd d counts => Sys2Proof.Machine.execAgeingGateEnd d counts s
  | .btReplanGo d rq v => Sys2Proof.Machine.execBtReplanGo d rq v s
  | .fuAccessArm d rq v => Sys2Proof.Machine.execFuAccessArm d rq v s
  | .fuAccessGo d rq v vppOk => Sys2Proof.Machine.execFuAccessGo d rq v vppOk s
  | .fieldFuseBlown d => Sys2Proof.Machine.execFieldFuseBlown d s
  | .jtagInstruction d ins => Sys2Proof.Machine.execJtagInstruction d ins s
  | .pgLockWrite d rq pg v => Sys2Proof.Machine.execPgLockWrite d rq pg v s
  | .pgEventWrite d rq pg v => Sys2Proof.Machine.execPgEventWrite d rq pg v s
  | .pgEventEnWrite d rq pg v => Sys2Proof.Machine.execPgEventEnWrite d rq pg v s
  | .eventTest d rq pg v => Sys2Proof.Machine.execEventTest d rq pg v s
  | .bar0LowRead addr => Sys2Proof.Machine.execBar0LowRead addr s
  | .bar0HighRead addr => Sys2Proof.Machine.execBar0HighRead addr s
  | .bar0LowWrite addr v => Sys2Proof.Machine.execBar0LowWrite addr v s
  | .bar0HighWrite addr v => Sys2Proof.Machine.execBar0HighWrite addr v s
  | .badAccess d rq addr bytes wr => Sys2Proof.Machine.execBadAccess d rq addr bytes wr s
  | .registerWrite d rq addr v => Sys2Proof.Machine.execRegisterWrite d rq addr v s
  | .portErrorsRead d rq p => Sys2Proof.Machine.execPortErrorsRead d rq p s
  | .tdChRead d rq n => Sys2Proof.Machine.execTdChRead d rq n s
  | .byChangesRead rq b => Sys2Proof.Machine.execByChangesRead rq b s
  | .byXcRead rq c => Sys2Proof.Machine.execByXcRead rq c s
  | .pbEccRead rq => Sys2Proof.Machine.execPbEccRead rq s
  | .cuLateRead rq => Sys2Proof.Machine.execCuLateRead rq s
  | .sgErrorsRead rq => Sys2Proof.Machine.execSgErrorsRead rq s
  | .csStatusRead rq => Sys2Proof.Machine.execCsStatusRead rq s
  | .kpErrorsRead rq => Sys2Proof.Machine.execKpErrorsRead rq s
  | .tlErrorsRead d rq => Sys2Proof.Machine.execTlErrorsRead d rq s
  | .lsCountsRead rq => Sys2Proof.Machine.execLsCountsRead rq s
  | .stCountsRead rq => Sys2Proof.Machine.execStCountsRead rq s
  | .icStrayRead d rq => Sys2Proof.Machine.execIcStrayRead d rq s
  | .btCountsRead d rq => Sys2Proof.Machine.execBtCountsRead d rq s
  | .btCanaryRead d rq b => Sys2Proof.Machine.execBtCanaryRead d rq b s
  | .boCountsRead d rq => Sys2Proof.Machine.execBoCountsRead d rq s
  | .pgStatusRead d rq pg => Sys2Proof.Machine.execPgStatusRead d rq pg s
  | .mbStatusRead rq => Sys2Proof.Machine.execMbStatusRead rq s
  | .ptPathRead rq => Sys2Proof.Machine.execPtPathRead rq s
  | .bayRefLossEnd b => Sys2Proof.Machine.execBayRefLossEnd b s
  | .signalPresent d p => Sys2Proof.Machine.execSignalPresent d p s
  | .originSeqForget d => Sys2Proof.Machine.execOriginSeqForget d s
  | .ptpLinkChange up => Sys2Proof.Machine.execPtpLinkChange up s
  | .ledgerCopyComplete recs jobs => Sys2Proof.Machine.execLedgerCopyComplete recs jobs s
  | .referenceInputsPresent src => Sys2Proof.Machine.execReferenceInputsPresent src s

end Sys2Proof.Machine
end

