-- ==== Sys2Proof/Machine/Inbox.lean ====
section
/-!
DEFINITION. The receive buffers of a forwarding DX-D: control frames that waited behind one of their input are taken, in order, once
there is room for it (R84).
-/

namespace Sys2Proof.Machine

/-- What a buffered control frame does once it is taken; a STOCK frame and a bulk one are taken as they arrive. -/
def takeControl (p : Nat) (fr : Frame) (s : State) : State :=
  match fr.payload with
  | .arm f => armTake .dxd p fr.epoch f s
  | .censusUp f => censusUpTake p fr.epoch f s
  | .censusDn f => censusDnTake .dxd p fr.epoch f s
  | .callOff f => callOffTake .dxd p fr.epoch f s
  | .bench f => benchTake .dxd p fr.epoch f s
  | .align f => alignTake p fr.epoch f s
  | _ => s

/-- An input's buffered frames are taken, oldest first, until one of them waits for room again. -/
def drainInput (p : Nat) : Nat → State → State
  | 0, s => s
  | n + 1, s =>
    match (s.port .dxd p).rel.rxBuf with
    | fr :: rest =>
      if inputBlocked s.dc p then s
      else drainInput p n (takeFrame .dxd p fr (takeControl p fr)
        (modPort .dxd p (fun q => { q with rel := { q.rel with rxBuf := rest } }) s))
    | [] => s

/-- Every input of a DX-D takes what it may; a fenced one and one in CELLAR take nothing (R301, R388). -/
def drainInputs (s : State) : State :=
  if portsHeld .dxd s then s
  else (s.dc.ports.filter (fun x => !x.2.rel.rxBuf.isEmpty)).foldl (fun s x => drainInput x.1 x.2.rel.rxBuf.length s) s

end Sys2Proof.Machine
end

