-- ==== Sys2Proof/Machine/Step.lean ====
section
/-!
DEFINITION. One step: the command at the front of the queue, or a beat that passes where none waits.
-/

namespace Sys2Proof.Machine

/-- A beat passes in both devices (log 2); then the DX-D takes what its inputs hold and its outputs have room for (R84). -/
def State.tick (s : State) : State := kickFalls (passEarly (drainInputs (tickTime .dxd (tickTime .tsu s))))

/-- The front command runs with the queue's rest; on an empty queue a beat passes. -/
def step (s : State) : Host.Outcome State Fault Refusal :=
  match s.pending with
  | [] => .next s.tick
  | c :: rest => exec c { s with pending := rest }

/-- The command that a word spells, put at the front of the queue; `s` where the word spells none. -/
def State.withFetchWord (s : State) (nbits w : Nat) : State :=
  match decodeTableWord nbits w with
  | some i => { s with pending := i :: s.pending }
  | none => s

end Sys2Proof.Machine
end

