-- ==== Sys2Proof/Safety.lean ====
section
/-!
DEFINITION. What the statements speak of: the parts of the state, what a change leaves alone, and the canonical form of the stores.
-/

namespace Sys2Proof.Machine

/-- The parts of the state that the two products have in common, one per field of `Com`. -/
inductive CPart where
  | fuse
  | boot
  | up
  | beats
  | tk
  | coreA
  | coreB
  | ports
  | chans
  | msets
  | hfits
  | regs
  | pgEvent
  | pgEn
  | badAccess
  | lockRefused
  | lockKey
  | ic
  | bt
  | ta
  | barCap
  | barLow
  | rsp
  | oseq
  | seen
  | censusTree
  deriving DecidableEq, Repr

/-- The parts of the state: the common ones of each device, those of a TSU, those of a DX-D, and the queue. -/
inductive Part where
  | com (d : Dev) (p : CPart)
  | steps
  | member
  | cue
  | signals
  | huddles
  | keyPort
  | tallies
  | bays
  | stock
  | kickPins
  | straps
  | refs
  | hold
  | outs
  | ptp
  | kicks
  | strobe
  | census
  | scores
  | ledger
  | referee
  | attic
  | ownOff
  | twinOff
  | subsystem
  | queue
  deriving DecidableEq, Repr

/-- A device's common state with the parts `W` blanked. -/
def Com.blank (W : CPart → Bool) (c : Com) : Com :=
  { fuse := if W .fuse then ({} : Com).fuse else c.fuse, boot := if W .boot then ({} : Com).boot else c.boot,
    up := if W .up then ({} : Com).up else c.up, beats := if W .beats then ({} : Com).beats else c.beats,
    tk := if W .tk then ({} : Com).tk else c.tk,
    coreA := if W .coreA then ({} : Com).coreA else c.coreA,
    coreB := if W .coreB then ({} : Com).coreB else c.coreB,
    ports := if W .ports then ({} : Com).ports else c.ports,
    chans := if W .chans then ({} : Com).chans else c.chans,
    msets := if W .msets then ({} : Com).msets else c.msets,
    hfits := if W .hfits then ({} : Com).hfits else c.hfits,
    regs := if W .regs then ({} : Com).regs else c.regs,
    pgEvent := if W .pgEvent then ({} : Com).pgEvent else c.pgEvent,
    pgEn := if W .pgEn then ({} : Com).pgEn else c.pgEn,
    badAccess := if W .badAccess then ({} : Com).badAccess else c.badAccess,
    lockRefused := if W .lockRefused then ({} : Com).lockRefused else c.lockRefused,
    lockKey := if W .lockKey then ({} : Com).lockKey else c.lockKey,
    ic := if W .ic then ({} : Com).ic else c.ic, bt := if W .bt then ({} : Com).bt else c.bt,
    ta := if W .ta then ({} : Com).ta else c.ta, barCap := if W .barCap then ({} : Com).barCap else c.barCap,
    barLow := if W .barLow then ({} : Com).barLow else c.barLow,
    rsp := if W .rsp then ({} : Com).rsp else c.rsp, oseq := if W .oseq then ({} : Com).oseq else c.oseq,
    seen := if W .seen then ({} : Com).seen else c.seen,
    censusTree := if W .censusTree then ({} : Com).censusTree else c.censusTree }

/-- A TSU's own state with the parts `W` blanked. -/
def Tsu.blank (W : Part → Bool) (t : Tsu) : Tsu :=
  { steps := if W .steps then ({} : Tsu).steps else t.steps,
    mem := if W .member then ({} : Tsu).mem else t.mem, cue := if W .cue then ({} : Tsu).cue else t.cue,
    sg := if W .signals then ({} : Tsu).sg else t.sg, hd := if W .huddles then ({} : Tsu).hd else t.hd,
    kp := if W .keyPort then ({} : Tsu).kp else t.kp, tl := if W .tallies then ({} : Tsu).tl else t.tl,
    by_ := if W .bays then ({} : Tsu).by_ else t.by_, st := if W .stock then ({} : Tsu).st else t.st,
    kick := if W .kickPins then ({} : Tsu).kick else t.kick }

/-- A DX-D's own state with the parts `W` blanked. -/
def Dxd.blank (W : Part → Bool) (x : Dxd) : Dxd :=
  { straps := if W .straps then ({} : Dxd).straps else x.straps, rf := if W .refs then ({} : Dxd).rf else x.rf,
    hold := if W .hold then ({} : Dxd).hold else x.hold, outs := if W .outs then ({} : Dxd).outs else x.outs,
    pt := if W .ptp then ({} : Dxd).pt else x.pt, kicks := if W .kicks then ({} : Dxd).kicks else x.kicks,
    strobeAt := if W .strobe then ({} : Dxd).strobeAt else x.strobeAt,
    cs := if W .census then ({} : Dxd).cs else x.cs, tl := if W .scores then ({} : Dxd).tl else x.tl,
    lg := if W .ledger then ({} : Dxd).lg else x.lg, rf2 := if W .referee then ({} : Dxd).rf2 else x.rf2,
    at_ := if W .attic then ({} : Dxd).at_ else x.at_,
    ownOff := if W .ownOff then ({} : Dxd).ownOff else x.ownOff,
    twinOff := if W .twinOff then ({} : Dxd).twinOff else x.twinOff,
    subsystem := if W .subsystem then ({} : Dxd).subsystem else x.subsystem }

/-- The state with the parts `W` blanked. -/
def State.blank (W : Part → Bool) (s : State) : State :=
  { tc := s.tc.blank (fun p => W (.com .tsu p)), t := s.t.blank W, dc := s.dc.blank (fun p => W (.com .dxd p)),
    x := s.x.blank W, pending := if W .queue then [] else s.pending }

/-- `t` differs from `s` in the parts `W` at most: every other register, FIFO, counter and pin of both devices, and the
queue where it is not listed, is unchanged. -/
def Only (W : List Part) (s t : State) : Prop := t.blank W.contains = s.blank W.contains

/-- The parts that a command changes at a TSU or at a DX-D. -/
def pick (d : Dev) (tsu dxd : List Part) : List Part :=
  match d with
  | .tsu => tsu
  | .dxd => dxd

/-- A write by requester `rq` of the register at `off` of page `pg` is taken: the requester's path works, no slice under test holds
the page, the page takes writes, CELLAR leaves it live, and it is not locked (R361, R388, R399, R402, R406). -/
abbrev WriteTaken (d : Dev) (rq pg off : Nat) (s : State) : Prop :=
  reaches d rq s = true ∧ isHeld d pg s = false ∧ pageTakes d s pg off = true ∧
    (inCellar d s = true → cellarTakes pg off = true) ∧
    (tabGet 0 (s.com d).lockKey pg = 0 ∨ ¬(off = 0x20 ∨ off = 0x30 ∨ 0x100 ≤ off))

/-- A read by requester `rq` of a register of page `pg` is answered at once: the requester's path works, no slice under test holds
the page, and the page is operative (R361, R388, R399, R402). -/
abbrev ReadTaken (d : Dev) (rq pg : Nat) (s : State) : Prop :=
  reaches d rq s = true ∧ isHeld d pg s = false ∧ pageSt d s pg = .op

/-- The response of a device to a requester. -/
def State.response (s : State) (d : Dev) (rq : Nat) : Word := tabGet 0 (s.com d).rsp rq

/-- A retained frame is accepted and taken at once: its port is in UP, its SEQ is the next one, the receive buffer has room, no
control frame of its input waits before it, and an epoch-checked payload names an epoch of the port's members (R70, R82 to R84). -/
abbrev Accepts (d : Dev) (p : Nat) (h : LinkHdr) (fr : Frame) (s : State) : Prop :=
  rxUp d p s = true ∧ h.seq = ((s.port d p).rel.seqRx + 1) % 256 ∧
    bufferFull (isLane d s p) (s.com d) p (payloadCls fr.payload == .control) = false ∧
    takesNow (s.com d) p (payloadCls fr.payload == .control) = true ∧
    (payloadChecked fr.payload = true → epochOk d p fr.epoch fr.payload s = true)

/-- No copy with this identity has come within the last millisecond (R71). -/
abbrev Unseen (d : Dev) (i : SeenId) (s : State) : Prop := ∀ x ∈ (s.com d).seen, x.1 = i → x.2 + 1000000 < (s.com d).up

/-- Bit `b` of a page's PG_EVENT is set. -/
abbrev eventSet (d : Dev) (pg b : Nat) (s : State) : Prop := bit (tabGet 0 (s.com d).pgEvent pg) b = true

/-- Every port but `p` is unchanged. -/
def OtherPorts (d : Dev) (p : Nat) (s t : State) : Prop := ∀ q, q ≠ p → t.port d q = s.port d q

/-- A register of a port takes a write. -/
abbrev PortWrite (d : Dev) (rq p off : Nat) (s : State) : Prop :=
  portExists d s p = true ∧ WriteTaken d rq (portPage d p).1 (portBase d p % 4096 + off) s

/-- Every bay but `b` is unchanged. -/
def OtherBays (b : Nat) (s t : State) : Prop := ∀ j, j ≠ b → t.bay j = s.bay j

/-- The thread may issue, and the instruction `c` stands at its PC, with no uncorrectable error and with the thread and the
registers that R196 to R207 allow it. -/
abbrev Issues (th : Thread) (e : Ecc) (c : Cue) (s : State) : Prop :=
  canIssue th s = true ∧ e ≠ .uncorrectable ∧ s.pbWord (getThr s.t.cue th).pc = encodeCue c ∧ threadOk th c = true ∧
    ∀ p ∈ cueRegs c, owns th p = true

/-- The other thread is unchanged. -/
def OtherThread (th : Thread) (s t : State) : Prop := ∀ u, u ≠ th → getThr t.t.cue u = getThr s.t.cue u

/-- The thread goes on at `pc`; nothing else of it, the other thread and the store is unchanged. -/
def GoesTo (th : Thread) (pc : Nat) (s t : State) : Prop :=
  getThr t.t.cue th = { getThr s.t.cue th with pc := pc } ∧ OtherThread th s t ∧ t.t.cue.store = s.t.cue.store

/-- The PC after the present one. -/
def pcAfter (th : Thread) (s : State) : Nat := ((getThr s.t.cue th).pc + 1) % 4096

/-- Register `n` has the value `v`, and every other register is unchanged. -/
def SetsP (n : Nat) (v : Word) (s t : State) : Prop := t.p n = v ∧ ∀ j, j ≠ n → t.p j = s.p j

/-- No register changes. -/
def SameP (s t : State) : Prop := ∀ j, t.p j = s.p j

/-- The thread waits for `w` after the present instruction; the other thread is unchanged. -/
def WaitsFor (th : Thread) (w : WaitOn) (s t : State) : Prop :=
  (getThr t.t.cue th).st = 2 ∧ (getThr t.t.cue th).wait = some w ∧ (getThr t.t.cue th).pc = pcAfter th s ∧ OtherThread th s t

/-- The thread stops with a fault of this code (R210). -/
def Faults (th : Thread) (code : Nat) (t : State) : Prop :=
  (getThr t.t.cue th).st = 4 ∧ (getThr t.t.cue th).fault = code ∧ (getThr t.t.cue th).wait = none ∧
    eventSet .tsu 0x04 (match th with | .run => 0 | .lead => 1) t

/-- CU_FAULT shows the instruction at the thread's PC (R210). -/
def FaultAt (th : Thread) (s t : State) : Prop :=
  t.t.cue.faultPc = (getThr s.t.cue th).pc ∧ t.t.cue.faultLead = (th == .lead) ∧
    t.t.cue.faultWord = (s.pbWord (getThr s.t.cue th).pc).toNat

/-- The thread waits until the beat `n`, or goes on with WAIT_LATE where that beat has come (R200). -/
def WaitsUntil (th : Thread) (n : Nat) (s t : State) : Prop :=
  (reached s.tc.tk.bc n = false →
      getThr t.t.cue th = { getThr s.t.cue th with pc := pcAfter th s, t := some n, st := 2, wait := some (.beat n) }) ∧
    (reached s.tc.tk.bc n = true →
      getThr t.t.cue th = { getThr s.t.cue th with pc := pcAfter th s, t := some n } ∧ eventSet .tsu 0x04 6 t) ∧
    OtherThread th s t ∧ SameP s t

/-- Cell `c` becomes `x` after its grant pass: every fabric requester granted gets a wake, in rank order; no other cell
changes (R220, R222). -/
def CellIs (c : Nat) (x : Cell) (s t : State) : Prop :=
  t.cell c = (grantPass x).1 ∧ (∀ j, j ≠ c → t.cell j = s.cell j) ∧
    t.t.sg.wakes = s.t.sg.wakes ++ (grantPass x).2.filterMap (fun g => match g.2 with
      | .fabric rq => some ⟨c, g.1, true, .fabric rq⟩
      | .thread _ => none)

/-- Every thread whose cwait the grant pass of `x` grants resumes, unless a slice under test holds the threads (R202, R205). -/
def CwaitsEnd (c : Nat) (x : Cell) (s t : State) : Prop :=
  threadsHeld s = false → ∀ r th, (r, .thread th) ∈ (grantPass x).2 → (getThr s.t.cue th).wait = some (.cwait c r) →
    (getThr t.t.cue th).st = 1 ∧ (getThr t.t.cue th).wait = none

/-- The commands that issue a playbook instruction, by opcode (R196 to R207). -/
def cueRows (th : Thread) (e : Ecc) : List (Nat × Instr) :=
  [(0x01, .nop th e), (0x02, .halt th e), (0x03, .doneInstruction th e), (0x04, .armInstruction th e),
    (0x05, .kickInstruction th e), (0x06, .calloffInstruction th e), (0x08, .waitk th e), (0x09, .waitn th e),
    (0x0A, .waitr th e), (0x10, .hent th e), (0x11, .hawait th e), (0x18, .postInstruction th e),
    (0x19, .posttInstruction th e), (0x1A, .cwait th e), (0x1B, .cresetInstruction th e), (0x20, .resv th e),
    (0x21, .rels th e), (0x28, .bayp th e), (0x30, .bistInstruction th e), (0x31, .probe th e), (0x40, .li th e),
    (0x41, .lis th e), (0x42, .mov th e), (0x43, .addOp th e), (0x44, .subOp th e), (0x45, .addi th e),
    (0x46, .andOp th e), (0x47, .orOp th e), (0x48, .xorOp th e), (0x49, .shl th e), (0x4A, .shr th e), (0x4B, .get th e),
    (0x50, .b th e), (0x51, .beq th e), (0x52, .bne th e), (0x53, .blt th e), (0x54, .bltu th e), (0x55, .bz th e),
    (0x56, .bnz th e), (0x57, .loop th e)]

/-- The frame waits to leave on this port. -/
def Queued (d : Dev) (p : Nat) (f : Frame) (t : State) : Prop :=
  ((t.port d p).rel.ctl ++ (t.port d p).rel.ctlWait).any (fun e => e.f == f) = true ∨
    (t.port d p).rel.bulk.any (fun e => e.f == f) = true ∨ f ∈ (t.port d p).rel.lq

/-- A window access acts at once: the TSU's units run, and no context operation or slice under test holds it (R217). -/
abbrev WindowOpen (s : State) : Prop := tsuUnits s = true ∧ windowWaits s = false

/-- The remote post that leaves on a stream from the launched step (R225, R226). -/
def postOf (st cell n : Nat) (targeted : Bool) (rank : Nat) (r : StepRec) (s : State) : RPost :=
  { dest := (s.sOut st).dest, source := s.t.mem.die, epoch := s.t.mem.epoch, step16 := r.step % 65536,
    attempt := r.attempt, targeted := targeted, rank := if targeted then rank else 0, stream := st,
    seq := (s.sOut st).seq, mark := (s.sOut st).depart, cell := cell, n := if targeted then 0 else n }

/-- A remote post leaves on stream `st`, which counts it. -/
def PostLeaves (st : Nat) (p : RPost) (s t : State) : Prop :=
  t.t.sg.rpostOut = postRecord p ∧ t.sOut st = { s.sOut st with seq := ((s.sOut st).seq + 1) % 256 } ∧
    (∀ j, j ≠ st → t.sOut j = s.sOut j) ∧ (∀ c, t.cell c = s.cell c)

/-- No cell's COUNT and held counts change. -/
def SameCounts (s t : State) : Prop := ∀ c, (t.cell c).count = (s.cell c).count ∧ (t.cell c).held = (s.cell c).held

/-- An own failure of an epoch's member shows (R187, R293). -/
def OwnFailure (s t : State) : Prop := s.t.mem.epoch ≠ 0 → t.t.mem.ownFailed = true ∧ t.tc.tk.sideline = true

/-- The entries of a census, and those after an entry of a port (R74). -/
def entriesOf (i : CensusId) (s : State) : List Entry := ((s.census i).map (·.entries)).getD []
def withEntry (i : CensusId) (e : Entry) (s : State) : List Entry :=
  (entriesOf i s).filter (fun x => x.port != e.port) ++ [e]

/-- The census with these entries. -/
def censusWith (i : CensusId) (es : List Entry) : Census := ⟨i, es, [], [], false, false⟩

/-- No misfit report came before the first entry of this identity (R241). -/
def NoEarly (i : CensusId) (s : State) : Prop := ∀ x, x ∈ s.x.cs.early → x.1 ≠ i

/-- The outputs of the interrupt controller are as R341 says. -/
def OutputsShown (d : Dev) (t : State) : Prop :=
  ∀ k, k < 8 → tabGet false (t.com d).ic.out k = icOutput (t.com d).ic k

/-- The checks of a slice request in the order of R360, each with its REASON; true refuses. -/
def sliceChecks (slice : Nat) (compare : Bool) (s : State) : List (Nat × Bool) :=
  [(1, !gapIsOpen s), (2, !kickAtLeast s (guardBeats s + 2048)),
    (3, decide (slice < 2 ∧ (s.core .tsu (1 - slice)).st ≠ 2)), (4, !slicePresent s.tc.fuse.kind slice),
    (5, slice == 2 && s.tc.msets.any (fun x => x.2.st == 1 || x.2.st == 2)), (6, compare && !s.tc.bt.goldenValid),
    (7, s.tc.bt.win.isSome),
    (9, slice == 4 && (s.t.by_.sets.any (fun x => x.2.phase != 0) || s.t.by_.bay.any (fun x => x.2.stopped))),
    (0xA, inCellar .tsu s)]

/-- Every interrupt source but `n` is unchanged. -/
def OtherSources (d : Dev) (n : Nat) (s t : State) : Prop := ∀ j, j ≠ n → t.icSrc d j = s.icSrc d j

/-- The fields of a hall time are in their ranges (R34). -/
abbrev HtOk (k : Time) : Prop := k.sec < 2 ^ 48 ∧ k.ns < 1000000000 ∧ k.frac < 65536

/-- A hall time as one count of frac LSBs. -/
def htCount (k : Time) : Nat := (k.sec * 1000000000 + k.ns) * 65536 + k.frac

/-- Once the field fuse is blown no private instruction and no override is in force (R371). -/
abbrev TestPortShut (c : Com) : Prop :=
  c.fuse.fieldClosed = true → c.ta.overrideOn = false ∧ c.ta.ovr = [] ∧ c.ta.ins < 2

/-- A 1588 instance in INITIALIZING (1) or LISTENING (4) has no announced master (R113, R136, R142). -/
abbrev PtpListens (s : State) : Prop :=
  ∀ i ∈ [s.x.pt.i1, s.x.pt.i2], i.state = 1 ∨ i.state = 4 → i.ann = none

end Sys2Proof.Machine
end

