-- ==== Sys2Proof/WellFormed.lean ====
section
/-!
DEFINITION. Which commands are well formed: every operand within the width that the spec gives it, every port, channel, bay and
slot number one that a device can have, and every register-write row carrying the bit that makes the write that row.
-/

namespace Sys2Proof

/-- `v` fits in `n` bits. -/
def below (n v : Nat) : Bool := decide (v < 2 ^ n)

/-- `i` fits in `n` bits as two's complement. -/
def within (n : Nat) (i : Int) : Bool := decide (-(2 ^ (n - 1) : Nat) ≤ i ∧ i < (2 ^ (n - 1) : Nat))

/-- Bit `i` of a written value. -/
def bitSet (v : Word) (i : Nat) : Bool := v.getLsbD i

/-- MB_JOB_CMD.CMD, R321. -/
def jobCommand (v : Word) (n : Nat) : Bool := v.extractLsb' 61 3 == BitVec.ofNat 3 n

/-- R91: ports 0 and 1 of a TSU; 0 to 191 downstream and 192, 193 upstream of a DX-D. -/
def portOk (d : Dev) (p : Nat) : Bool :=
  match d with
  | .tsu => decide (p < 2)
  | .dxd => decide (p < 194)

/-- R94: channel numbers. -/
def chanOk (d : Dev) (ch : Nat) : Bool :=
  match d with
  | .tsu => decide (ch < 48)
  | .dxd => decide (ch < 260)

/-- R100: measurement sets. -/
def setOk (d : Dev) (m : Nat) : Bool :=
  match d with
  | .tsu => decide (m < 4)
  | .dxd => decide (m < 16)

/-- R143: at most 16 bays. -/
def bayOk (b : Nat) : Bool := decide (b < 16)

/-- R110: the two 1PPS inputs. -/
def inputOk (n : Nat) : Bool := decide (n < 2)

/-- R69: a defined frame type. -/
def knownType (ty : Nat) : Bool :=
  decide ((1 ≤ ty ∧ ty ≤ 5) ∨ (8 ≤ ty ∧ ty ≤ 0xD) ∨ (0x10 ≤ ty ∧ ty ≤ 0x13))

/-! Operand structures: the field widths of chapter 03. -/

/-- R67. -/
def hdrOk (h : LinkHdr) : Bool := below 8 h.ack && below 8 h.seq

/-- R251. -/
def fwOk (f : FwEntry) : Bool := below 8 f.stepping && below 16 f.major && below 16 f.minor && below 16 f.build

/-- R306. -/
def ledgerRecOk (r : LedgerRec) : Bool :=
  decide (1 ≤ r.ty ∧ r.ty ≤ 8) && below 8 r.attempt && below 48 r.step && below 32 r.epoch && below 32 r.seq && r.seq != 0 &&
    below 64 r.value && decide (r.data.length ≤ 32)

/-- R317: a job slot and a descriptor. -/
def jobCopyOk (c : JobCopy) : Bool := below 32 c.epoch && below 4 c.slot && decide (c.desc.length ≤ 4736)

/-- R16 and R410. -/
def pinsOk (p : Pins) : Bool := below 2 p.role && below 1 p.side && below 1 p.level && below 2 p.bootSrc

/-- CONFIG. -/
def configOk (f : ConfigF) : Bool := below 16 f.image && below 16 f.chunk && f.data.length == 16

/-- TRAIN. -/
def trainOk (f : TrainF) : Bool :=
  below 8 f.level && below 8 f.side && below 8 f.kind && below 8 f.port && below 8 f.stepping && below 64 f.serial && fwOk f.fw

/-- DELAY_PROBE. -/
def probeOk (f : ProbeF) : Bool := below 16 f.id && below 32 f.turnaround && below 32 f.result

/-- HEARTBEAT. -/
def heartbeatOk (f : HeartbeatF) : Bool :=
  below 2 f.keeper && below 4 f.state && below 16 f.count && below 48 f.lastLaunched && below 8 f.attempt

/-- TIME. -/
def timeOk (f : TimeF) : Bool :=
  below 48 f.sec && below 30 f.ns && below 16 f.frac && within 16 f.utcOffset && below 2 f.censusTree && below 4 f.level &&
    below 4 f.state && within 32 f.stepDelta && below 2 f.reserved

/-- ALIGN. -/
def alignOk (f : AlignF) : Bool := below 32 f.oseq && below 48 f.at48 && below 8 f.outputs

/-- ARM. -/
def armOk (f : ArmF) : Bool := below 32 f.oseq && below 48 f.step && below 8 f.attempt && below 48 f.kick

/-- CALL_OFF. -/
def callOffOk (f : CallOffF) : Bool := below 32 f.oseq && below 48 f.step && below 8 f.attempt && below 8 f.reason

/-- CENSUS_UP. -/
def censusUpOk (f : CensusUpF) : Bool :=
  below 4 f.kind && below 12 f.slot && below 48 f.step && below 8 f.attempt && below 24 f.count && below 64 f.fp

/-- CENSUS_DN. -/
def censusDnOk (f : CensusDnF) : Bool :=
  below 4 f.kind && below 12 f.slot && below 48 f.step && below 8 f.attempt && below 8 f.outcome && below 24 f.count

/-- BENCH. -/
def benchOk (f : BenchF) : Bool :=
  below 32 f.oseq && below 32 f.newEpoch && below 8 f.kind && below 32 f.target && below 8 f.reason && below 32 f.admitLead

/-- SCORE. -/
def scoreOk (f : ScoreF) : Bool :=
  below 4 f.fragment && below 4 f.kind && below 8 f.attempt && below 16 f.step16 && f.data.length == 16

/-- TALLY. -/
def tallyOk (f : TallyF) : Bool :=
  below 32 f.die && below 1 f.half && below 4 f.lane && below 24 f.window && below 16 f.step16 && below 8 f.attempt &&
    below 64 f.tally

/-- STOCK. -/
def stockOk (f : StockF) : Bool :=
  below 32 f.die && below 8 f.kind && below 16 f.envelope && below 16 f.granted && below 16 f.peak && below 8 f.phases

/-- R225. -/
def rpostOk (f : RPost) : Bool :=
  below 32 f.dest && below 32 f.source && below 32 f.epoch && below 16 f.step16 && below 8 f.attempt && below 4 f.rank &&
    below 9 f.stream && below 8 f.seq && below 24 f.mark && below 16 f.cell && below 16 f.n

/-- IEEE 1588 header and Announce fields (R135 to R138). -/
def ptpOk (m : PtpMsg) : Bool :=
  below 8 m.domain && below 16 m.seq && below 80 m.source && within 64 m.correction && below 8 m.priority1 &&
    below 8 m.priority2 && below 8 m.clockClass && below 8 m.accuracy && below 16 m.variance && below 16 m.stepsRemoved &&
    below 8 m.timeSource && within 16 m.utcOffset && below 16 m.net.proto && below 12 m.net.vlan && below 48 m.net.dest &&
    below 32 m.net.src

/-- The well-formed commands. -/
def wellFormed (i : Instr) : Bool :=
  match i with
  | .powerOnReset _ pins => pinsOk pins
  | .warmReset _ => true
  | .fuseReadDone _ _ => true
  | .resetLbistDone _ _ => true
  | .localImageReadDone _ => true
  | .flashLoadDone _ _ fw _ => fwOk fw
  | .configReceive d p h ep f => portOk d p && hdrOk h && below 32 ep && configOk f
  | .imageApplyDone => true
  | .playbookSectionDeferred => true
  | .tsuReady => true
  | .startTimeout _ => true
  | .boRestart _ rq v => below 16 rq && bitSet v 63 && !bitSet v 62
  | .boForceCellar _ rq v => below 16 rq && bitSet v 62
  | .boReady rq v => below 16 rq && bitSet v 61 && !bitSet v 62 && !bitSet v 63
  | .atCommit rq v => below 16 rq && bitSet v 63
  | .atDrop rq v => below 16 rq && bitSet v 62
  | .atClearHistory rq v => below 16 rq && bitSet v 61
  | .atClearCal rq v => below 16 rq && bitSet v 60
  | .atDataRead rq => below 16 rq
  | .atDataWrite rq _ => below 16 rq
  | .portEnable d rq p => below 16 rq && portOk d p
  | .portDisable d rq p => below 16 rq && portOk d p
  | .retrain d rq p v => below 16 rq && portOk d p && bitSet v 0 && bitSet v 1
  | .downDwellEnd d p => portOk d p
  | .alignmentAcquired d p => portOk d p
  | .trainFrameReceive d p h f => portOk d p && hdrOk h && trainOk f
  | .trainAckSet d p => portOk d p
  | .trainComplete d p => portOk d p
  | .delayProbeRequestSend d p => portOk d p
  | .delayProbeRequestReceive d p h f _ => portOk d p && hdrOk h && probeOk f
  | .delayProbeReplyReceive d p h f _ => portOk d p && hdrOk h && probeOk f
  | .delayProbeTimeout d p => portOk d p
  | .calComplete d p => portOk d p
  | .calFail d p => portOk d p
  | .delayUpdate d p => portOk d p
  | .frameSlot d p => portOk d p
  | .fillFrameReceive d p h => portOk d p && hdrOk h
  | .frameCrcError d p => portOk d p
  | .unknownTypeFrame d p h ty => portOk d p && hdrOk h && below 5 ty && !knownType ty
  | .nakResendTimeout d p => portOk d p
  | .heartbeatSend d p => portOk d p
  | .heartbeatReceive d p h ep f => portOk d p && hdrOk h && below 32 ep && heartbeatOk f
  | .peerFailed d p => portOk d p
  | .portLossDeclared d p _ => portOk d p
  | .errorRate d p => portOk d p
  | .linkFlap d p => portOk d p
  | .timeFrameReceive d p h f _ _ => portOk d p && hdrOk h && timeOk f
  | .enterLocked _ core => decide (core < 2)
  | .leaveLocked _ core => decide (core < 2)
  | .coreSplit => true
  | .keeperReversion => true
  | .keeperForce _ rq v => below 16 rq && (bitSet v 32 || bitSet v 33)
  | .pullComplete _ => true
  | .tkNowSecRead _ rq => below 16 rq
  | .tkOriginSet rq _ => below 16 rq
  | .originStep _ => true
  | .bayCorrection _ _ => true
  | .edgeStamp d ch _ _ _ => chanOk d ch
  | .interpolatorCalibration d ch i _ _ => chanOk d ch && decide (i < 4)
  | .channelCalFail d ch => chanOk d ch
  | .measurementArm d rq m v => below 16 rq && setOk d m && bitSet v 63
  | .measurementAbort d rq m v => below 16 rq && setOk d m && bitSet v 62
  | .measurementWindowOpen d m => setOk d m
  | .measurementWindowClose d m => setOk d m
  | .fitRunComplete d m => setOk d m
  | .tapWrite d rq ch _ => below 16 rq && chanOk d ch
  | .tapTakeEffect d ch => chanOk d ch
  | .referenceSample _ => true
  | .ppsEdge n _ _ => inputOk n
  | .ppsWindowEnd n => inputOk n
  | .referenceFitComplete n => decide (n < 5)
  | .referenceEdgeLoss n => decide (n < 5)
  | .ptpMessageReceive inst m _ => (inst == 1 || inst == 2) && ptpOk m
  | .ptpMessageTransmit inst m _ _ => (inst == 1 || inst == 2) && ptpOk m
  | .ptpAnnounceTimeout => true
  | .ptCtlWrite rq _ => below 16 rq
  | .rfSelWrite rq _ => below 16 rq
  | .rfTodWrite rq n _ => below 16 rq && inputOk n
  | .holdoverMeanUpdate _ => true
  | .servoRecordWrite => true
  | .svSave rq v => below 16 rq && bitSet v 0
  | .svForceHoldoverWrite rq _ => below 16 rq
  | .firstFitComplete _ core => decide (core < 2)
  | .oscLoss => true
  | .oscReturn => true
  | .opAlignGo rq v => below 16 rq && bitSet v 63
  | .alignReceive p h ep f => portOk .dxd p && hdrOk h && below 32 ep && alignOk f
  | .outputAlignment => true
  | .outputErrorMeasure _ _ _ => true
  | .stepFrameStrobe => true
  | .incGateEnd b => bayOk b
  | .bayFitGateEnd b => bayOk b
  | .bayRefLoss b => bayOk b
  | .bayNoEdgeTimeout b => bayOk b
  | .bayMonitorReport b point _ _ => bayOk b && below 4 point
  | .crossingDrained set => below 4 set
  | .bayStopAck b => bayOk b
  | .bayResume b => bayOk b
  | .bayChangeTimeout b => bayOk b
  | .bayPeriodReport rs => rs.all (fun r => bayOk r.bay)
  | .byXcWrite rq c _ => below 16 rq && decide (c < 32)
  | .byBayCfgWrite rq b _ => below 16 rq && bayOk b
  | .bayTableWrite rq b pt _ => below 16 rq && bayOk b && decide (pt < 16)
  | .armSend j => decide (j < 16)
  | .armReceive d p h ep f => portOk d p && hdrOk h && below 32 ep && armOk f
  | .armDeadlineCheck j step => decide (j < 16) && below 48 step
  | .stepTimeout j step => decide (j < 16) && below 48 step
  | .kickoffDecision => true
  | .kickoff _ j _ => decide (j < 16)
  | .censusDnReceive d p h ep f => portOk d p && hdrOk h && below 32 ep && censusDnOk f
  | .callOffReceive d p h ep f => portOk d p && hdrOk h && below 32 ep && callOffOk f
  | .nop _ _ => true
  | .halt _ _ => true
  | .doneInstruction _ _ => true
  | .armInstruction _ _ => true
  | .kickInstruction _ _ => true
  | .calloffInstruction _ _ => true
  | .waitk _ _ => true
  | .waitn _ _ => true
  | .waitr _ _ => true
  | .waitTargetReached _ => true
  | .hent _ _ => true
  | .hawait _ _ => true
  | .postInstruction _ _ => true
  | .posttInstruction _ _ => true
  | .cwait _ _ => true
  | .cresetInstruction _ _ => true
  | .resv _ _ => true
  | .rels _ _ => true
  | .bayp _ _ => true
  | .bistInstruction _ _ => true
  | .probe _ _ => true
  | .li _ _ => true
  | .lis _ _ => true
  | .mov _ _ => true
  | .addOp _ _ => true
  | .subOp _ _ => true
  | .addi _ _ => true
  | .andOp _ _ => true
  | .orOp _ _ => true
  | .xorOp _ _ => true
  | .shl _ _ => true
  | .shr _ _ => true
  | .get _ _ => true
  | .b _ _ => true
  | .beq _ _ => true
  | .bne _ _ => true
  | .blt _ _ => true
  | .bltu _ _ => true
  | .bz _ _ => true
  | .bnz _ _ => true
  | .loop _ _ => true
  | .cuStart rq v => below 16 rq && bitSet v 63 && !bitSet v 62
  | .cuStop rq v => below 16 rq && bitSet v 62
  | .pbDataWrite rq _ => below 16 rq
  | .pbDataRead rq => below 16 rq
  | .pbCheckDone => true
  | .cellPost rq c n => below 16 rq && below 16 c && below 32 n
  | .cellPostt rq c r => below 16 rq && below 16 c && decide (r < 16)
  | .cellAdd rq c dlt => below 16 rq && below 16 c && within 32 dlt
  | .cellWait rq c r need => below 16 rq && below 16 c && decide (r < 16) && decide (1 ≤ need) && below 16 need
  | .cellReset rq c => below 16 rq && below 16 c
  | .cellTest rq c => below 16 rq && below 16 c
  | .cellBadCommand rq _ _ _ _ => below 16 rq
  | .dmaCompletionPost c n _ r _ st => below 16 c && below 32 n && decide (r < 16) && below 9 st
  | .sgRpost rq _ => below 16 rq
  | .remotePostReceive record => record.length == 32
  | .departReport st => below 9 st
  | .arrivalReport st tag => below 9 st && below 16 tag
  | .orphanPost => true
  | .sgCtxSwitch rq v => below 16 rq && bitSet v 63
  | .ctxSwitchDone img => img.all (fun c => c.bytes.length == 16)
  | .censusUpReceive p h ep f => portOk .dxd p && hdrOk h && below 32 ep && censusUpOk f
  | .censusCreditFree => true
  | .censusTreeChange _ => true
  | .treeNoticeSend => true
  | .treeNoticeExpiry => true
  | .keySeedHi ch => below 16 ch
  | .keySeedLo ch => below 16 ch
  | .keyStep ch => below 16 ch
  | .keyCtrBase ch => below 16 ch
  | .keySeedIndex ch => below 16 ch
  | .keyDie ch => below 16 ch
  | .keyJob ch => below 16 ch
  | .keyKept ch => below 16 ch
  | .keyReservedRequest ch code => below 16 ch && decide (8 ≤ code ∧ code < 16)
  | .keyPortDeferredAnswer => true
  | .kpAppliedWrite rq v => below 16 rq && bitSet v 62
  | .tallyTapUnit tap flow _ _ => below 8 tap && below 16 flow
  | .tlFeedWrite rq n _ => below 16 rq && decide (n < 4)
  | .scoreReceive p h ep f => portOk .dxd p && hdrOk h && below 32 ep && scoreOk f
  | .probeWindowClose lane => decide (lane < 16)
  | .tallyQueueRoom => true
  | .tallyReceive p h ep f => portOk .dxd p && hdrOk h && below 32 ep && tallyOk f
  | .lsPairValidWrite rq e v => below 16 rq && decide (e < 8) && bitSet v 63
  | .stockReceive p h ep f => portOk .dxd p && hdrOk h && below 32 ep && stockOk f
  | .fencePairTimeout => true
  | .sourcelessSelfFence => true
  | .probeRequestSend p => portOk .dxd p
  | .probeEnd p => portOk .dxd p
  | .mbComplaintGo rq v => below 16 rq && bitSet v 61
  | .complaintTimeout => true
  | .recoveryWaitEnd j => decide (j < 16)
  | .deferredBench j => decide (j < 16)
  | .benchReceive d p h ep f => portOk d p && hdrOk h && below 32 ep && benchOk f
  | .epochJoin => true
  | .admitDeadline p => portOk .dxd p
  | .ledgerRecordDurable r jobs => ledgerRecOk r && jobs.all jobCopyOk
  | .rootTakeover => true
  | .replayArm j => decide (j < 16)
  | .jobSubmit rq v => below 16 rq && jobCommand v 1
  | .jobResume rq v => below 16 rq && jobCommand v 2
  | .jobEndCommand rq v => below 16 rq && jobCommand v 3
  | .benchOperator rq v => below 16 rq && jobCommand v 4
  | .jobEnd j => decide (j < 16)
  | .mbSpareWrite rq _ => below 16 rq
  | .lgExportedWrite rq _ => below 16 rq
  | .ckptMark rq v => below 16 rq && bitSet v 62
  | .ckptSaved rq v => below 16 rq && bitSet v 63
  | .grantTick _ vsense phases => below 12 vsense && below 24 phases
  | .stockRequest port w => decide (port < 64) && decide (1 ≤ w ∧ w ≤ 64)
  | .stockRelease port => decide (port < 64)
  | .droop => true
  | .bumpSuspect => true
  | .phaseLost ph => decide (ph < 24)
  | .stockReportSend => true
  | .clearBump rq v => below 16 rq && bitSet v 63
  | .icSourceRaise _ n => below 8 n
  | .icSourceFall _ n => below 8 n
  | .icCoalesceTimeout _ n => below 8 n
  | .icClaim _ rq t => below 16 rq && decide (t < 8)
  | .icComplete _ rq t _ => below 16 rq && decide (t < 8)
  | .icSourceCfgWrite _ rq n _ => below 16 rq && below 8 n
  | .icDeliverWrite _ rq _ => below 16 rq
  | .icSleep _ rq v => below 16 rq && bitSet v 1
  | .icWatchedRise _ n _ => below 8 n
  | .icWake _ => true
  | .icLocalWrite rq _ => below 16 rq
  | .btRunGo _ rq v => below 16 rq && bitSet v 63
  | .bistIsolate => true
  | .bistSignatureLatch _ => true
  | .bistCoreRestore => true
  | .bistRelease => true
  | .bistTwinLost => true
  | .ageingMeasure _ rq v => below 16 rq && bitSet v 63
  | .ageingGateStart _ => true
  | .ageingGateEnd _ _ => true
  | .btReplanGo _ rq v => below 16 rq && bitSet v 63
  | .fuAccessArm _ rq v => below 16 rq && bitSet v 0 && !bitSet v 1
  | .fuAccessGo _ rq v _ => below 16 rq && bitSet v 1
  | .fieldFuseBlown _ => true
  | .jtagInstruction _ _ => true
  | .pgLockWrite _ rq pg _ => below 16 rq && below 6 pg
  | .pgEventWrite _ rq pg _ => below 16 rq && below 6 pg
  | .pgEventEnWrite _ rq pg _ => below 16 rq && below 6 pg
  | .eventTest _ rq pg v => below 16 rq && below 6 pg && bitSet v 0
  | .bar0LowRead addr => below 18 addr && addr % 8 == 0
  | .bar0HighRead addr => below 18 addr && addr % 8 == 4
  | .bar0LowWrite addr v => below 18 addr && addr % 8 == 0 && below 32 v
  | .bar0HighWrite addr v => below 18 addr && addr % 8 == 4 && below 32 v
  | .badAccess _ rq addr _ _ => below 16 rq && below 18 addr
  | .registerWrite _ rq addr _ => below 16 rq && below 18 addr && addr % 8 == 0
  | .portErrorsRead d rq p => below 16 rq && portOk d p
  | .tdChRead d rq n => below 16 rq && chanOk d n
  | .byChangesRead rq b => below 16 rq && bayOk b
  | .byXcRead rq c => below 16 rq && decide (c < 32)
  | .pbEccRead rq => below 16 rq
  | .cuLateRead rq => below 16 rq
  | .sgErrorsRead rq => below 16 rq
  | .csStatusRead rq => below 16 rq
  | .kpErrorsRead rq => below 16 rq
  | .tlErrorsRead _ rq => below 16 rq
  | .lsCountsRead rq => below 16 rq
  | .stCountsRead rq => below 16 rq
  | .icStrayRead _ rq => below 16 rq
  | .btCountsRead _ rq => below 16 rq
  | .btCanaryRead _ rq b => below 16 rq && bayOk b
  | .boCountsRead _ rq => below 16 rq
  | .pgStatusRead _ rq pg => below 16 rq && below 6 pg
  | .mbStatusRead rq => below 16 rq
  | .ptPathRead rq => below 16 rq
  | .bayRefLossEnd b => bayOk b
  | .signalPresent d p => portOk d p
  | .originSeqForget _ => true
  | .ptpLinkChange _ => true
  | .ledgerCopyComplete recs jobs => recs.all ledgerRecOk && jobs.all jobCopyOk
  | .referenceInputsPresent src => decide (src < 6)

end Sys2Proof
end

