-- ==== Sys2Proof/Certificates/Slice0/Obligations.lean ====
section
/-!
DEFINITION. The statements for the provers: what each command of the block does, what it leaves alone, and what every step keeps.
-/

open Sys2Proof Sys2Proof.Machine

/-- A step with a command at the front of the queue runs exactly that command on the state with the queue's rest, no
command changes the queue, and a step on an empty queue lets one beat pass in both devices (the model's choice, log 2):
it changes the clocks and the kickoff output alone where no input of the DX-D buffers a control frame and no early
report waits. Cites: R398. -/
def Obligations.FrontOfTheQueue : Prop :=
  (∀ c rest s, s.pending = c :: rest → step s = exec c { s with pending := rest }) ∧
  (∀ c s t, exec c s = .next t → t.pending = s.pending) ∧
  (∀ s, s.pending = [] → ∃ t, step s = .next t ∧ t.tc.up = s.tc.up + 1 ∧ t.dc.up = s.dc.up + 1 ∧
    (s.tc.tk.r = 0 → t.tc.tk = { s.tc.tk.addLsb (ncoStep s.tc.tk.nco (presentedY .tsu s)).1 with
      nco := (ncoStep s.tc.tk.nco (presentedY .tsu s)).2, delta := s.tc.tk.delta + coreDrift .tsu s }) ∧
    Only [.com .tsu .up, .com .tsu .beats, .com .tsu .tk, .kickPins, .com .dxd .up, .com .dxd .beats, .com .dxd .tk,
      .com .dxd .coreA, .com .dxd .coreB, .com .dxd .ports, .com .dxd .msets, .com .dxd .pgEvent, .com .dxd .ic,
      .com .dxd .oseq, .com .dxd .seen, .com .dxd .hfits, .refs, .hold, .outs, .ptp, .kicks, .census, .scores, .ledger,
      .referee, .attic] s t) ∧
  (∀ s, s.pending = [] → (∀ x, x ∈ s.dc.ports → x.2.rel.rxBuf = []) → s.x.cs.early = [] → ∃ t, step s = .next t ∧
    t.dc.up = s.dc.up + 1 ∧ (s.t.kick.since + 8 ≤ s.tc.up + 1 → t.t.kick.out = 0) ∧
    Only [.com .tsu .up, .com .tsu .beats, .com .tsu .tk, .kickPins, .com .dxd .up, .com .dxd .beats, .com .dxd .tk] s t)

/-- After reset both devices are in stage FUSES with no event, no lock, no hall time and every register field at the value
of its Reset column; the queue is empty; the invariants of HallTimeRanges and FusesAndTestPort hold. Cites: R35, R371,
R378, R399, R407. -/
def Obligations.ResetState : Prop :=
  State.reset.pending = [] ∧
  (∀ d, (State.reset.com d).boot.stage = 0 ∧ (State.reset.com d).up = 0 ∧ (State.reset.com d).regs = [] ∧
    (State.reset.com d).pgEvent = [] ∧ (State.reset.com d).pgEn = [] ∧ (State.reset.com d).lockKey = [] ∧
    (State.reset.com d).tk.htValid = false ∧ (State.reset.com d).tk.state = 0 ∧ (State.reset.com d).ic.deliver = true ∧
    (State.reset.com d).bt.win = none ∧ (State.reset.com d).ta.ins = 0 ∧ HtOk (State.reset.com d).tk ∧
    TestPortShut (State.reset.com d)) ∧
  (∀ th, (getThr State.reset.t.cue th).st = 0) ∧ State.reset.t.mem.epoch = 0 ∧ State.reset.t.steps = [] ∧
  (∀ p, p < 2 → (State.reset.port .tsu p).enable = true) ∧ (∀ p, (State.reset.port .dxd p).enable = false) ∧
  (∀ x : Dev × Nat × Nat, x ∈ [(.tsu, 0x0130, 1000 * 2 ^ 16 + 160), (.tsu, 0x0138, 5 * 2 ^ 32), (.tsu, 0x2100, 1000),
      (.tsu, 0x3100, 1024 * 2 ^ 32 + 10 * 2 ^ 12 + 1000), (.tsu, 0x3110, 256), (.tsu, 0x3200, 4096),
      (.tsu, 0x3600, 2 ^ 63 + 800), (.tsu, 0x3608, 800), (.tsu, 0x4100, 2 ^ 45 + 2 ^ 13),
      (.tsu, 0xD100, 2 ^ 62), (.dxd, 0xD118, 256 * 2 ^ 32 + 3600), (.dxd, 0x10120, 10000), (.dxd, 0x10140, 10000),
      (.dxd, 0x10148, 109951163), (.dxd, 0x10150, 100), (.dxd, 0x10158, 10995), (.dxd, 0x10160, 10),
      (.dxd, 0x10168, 13421773), (.dxd, 0x10170, 250000000), (.dxd, 0x10178, 68719476736000000),
      (.dxd, 0x11100, 8 * 2 ^ 16), (.dxd, 0x12100, 128 * 2 ^ 8 + 128),
      (.dxd, 0x14108, 1000000 * 2 ^ 32 + 2500 * 2 ^ 16 + 240), (.dxd, 0x1E100, 0x1FFFFF)] →
    State.reset.reg x.1 x.2.1 = BitVec.ofNat 64 x.2.2)

/-- The word of every playbook instruction decodes to it with every operand, a word that decodes is the word of its
instruction, and a word with an undefined opcode or a set reserved bit does not decode. Cites: R195, R196, R207. -/
def Obligations.CueEncoding : Prop :=
  (∀ c, decodeCue (encodeCue c) = some c) ∧
  (∀ w c, decodeCue w = some c → encodeCue c = w) ∧
  (∀ w, decodeCue w = none ↔ ∀ c, encodeCue c ≠ w)

/-- Every step keeps ns below 1,000,000,000, frac below 65,536 and sec below 2^48 in both devices, from every state where
they are; moving a hall time by any number of frac LSBs carries from frac into ns and from ns into sec, and sec wraps to
0. Cites: R35. -/
def Obligations.HallTimeRanges : Prop :=
  (∀ s t, (∀ d, HtOk (s.com d).tk) → step s = .next t → ∀ d, HtOk (t.com d).tk) ∧
  (∀ (k : Time) (n : Int), HtOk (k.addLsb n) ∧
    (htCount (k.addLsb n) : Int) = ((htCount k : Int) + n) % ((2 ^ 48 * 1000000000 * 65536 : Nat) : Int)) ∧
  (∀ s, s.pending = [] → ∃ t, step s = .next t ∧ (s.tc.tk.r = 0 →
    t.tc.tk = { s.tc.tk.addLsb (ncoStep s.tc.tk.nco (presentedY .tsu s)).1 with
      nco := (ncoStep s.tc.tk.nco (presentedY .tsu s)).2, delta := s.tc.tk.delta + coreDrift .tsu s }))

/-- A power-on reset of the DX-D takes the levels at its strap pins; no other command and no beat changes the sampled
straps; a DX-D strapped 0b11 enters CELLAR with INVALID_STRAP at once and nothing but another power-on reset takes it
out. Cites: R16, R17. -/
def Obligations.StrapsHold : Prop :=
  (∀ pins s, ∃ t, exec (.powerOnReset .dxd pins) s = .next t ∧ t.x.straps.role = pins.role % 4 ∧
    t.x.straps.side = pins.side % 2 ∧ t.x.straps.level = pins.level % 2 ∧
    (pins.role % 4 = 3 → t.dc.boot.stage = 7 ∧ t.dc.boot.cellarReason = 0xB)) ∧
  (∀ c s t, (∀ pins, c ≠ .powerOnReset .dxd pins) → exec c s = .next t → t.x.straps = s.x.straps) ∧
  (∀ s t, s.pending = [] → step s = .next t → t.x.straps = s.x.straps ∧ t.dc.boot = s.dc.boot) ∧
  (∀ c s t, (∀ pins, c ≠ .powerOnReset .dxd pins) → exec c s = .next t → s.x.straps.role = 3 → s.dc.boot.stage = 7 →
    t.dc.boot.stage = 7)

/-- From every state where a closed device has no override and no private instruction in force, every step leads to such a
state; a closed device stays closed; no other fuse of either device ever changes. Cites: R371, R372, R375. -/
def Obligations.FusesAndTestPort : Prop :=
  (∀ s t, (∀ d, TestPortShut (s.com d)) → step s = .next t → ∀ d, TestPortShut (t.com d)) ∧
  (∀ s t d, step s = .next t →
    (t.com d).fuse = { (s.com d).fuse with fieldClosed := (t.com d).fuse.fieldClosed } ∧
    ((s.com d).fuse.fieldClosed = true → (t.com d).fuse.fieldClosed = true)) ∧
  (∀ c s t d, exec c s = .next t → c ≠ .fieldFuseBlown d → (t.com d).fuse = (s.com d).fuse)

/-- The tallies of the six strings of R270 are the values of its table. Cites: R270. -/
def Obligations.TallyVectors : Prop :=
  tally128 [] = 0x80000000000000000000000000000000 ∧
  tally128 [0] = 0x80000000000000000000000000000008 ∧
  tally128 (List.replicate 16 0) = 0x80000000000000000000000000000080 ∧
  tally128 (List.replicate 15 0 ++ [1]) = 0x35D34E0719A62C8F6E21D9407A3C8571 ∧
  tally128 (List.replicate 15 0 ++ [0x80]) = 0x69A7038CD31647B710ECA03D1E42D486 ∧
  tally128 (List.replicate 31 0 ++ [1]) = 0x35D34E0719A62C8F6E21D9407A3C84F1

/-- A TIME frame with a reserved bit set or a nanosecond field of 10^9 or more counts as one that fails its CRC; in COLD a
source's frame loads HT with the sender's time and the delay; afterwards a frame whose start is stamped is one sample of
the servo and never moves HT. Cites: R36, R42, R46, R47, R72, R121, R427. -/
def Obligations.TimeFrames : Prop :=
  (∀ d p h f rx diff s, portExists d s p = true → (s.port d p).live = true → 1000000000 ≤ f.ns ∨ f.reserved ≠ 0 →
    exec (.timeFrameReceive d p h f rx diff) s = exec (.frameCrcError d p) s) ∧
  (∀ p h f rx diff s, portExists .tsu s p = true → (s.port .tsu p).st = 5 → inCellar .tsu s = false → f.ns < 1000000000 →
    f.reserved = 0 → f.state = 1 ∨ f.state = 2 ∨ (f.level = 0 ∧ f.state = 3) → s.tc.tk.htValid = false →
    ∃ t, exec (.timeFrameReceive .tsu p h f rx diff) s = .next t ∧ t.tc.tk.htValid = true ∧
      t.tc.tk.sec = (s.tc.tk.load (timeLoad .tsu p f s)).sec ∧ t.tc.tk.ns = (s.tc.tk.load (timeLoad .tsu p f s)).ns ∧
      t.tc.tk.frac = (s.tc.tk.load (timeLoad .tsu p f s)).frac ∧ t.tc.tk.utcOffset = f.utcOffset ∧
      t.tc.tk.traceable = f.traceable ∧ t.tc.tk.originLocal = f.originLocal ∧ t.tc.tk.rootHoldover = f.rootHoldover ∧
      t.tc.coreA.fit = true ∧ t.tc.coreB.fit = true ∧ isSource .tsu p t = true ∧ (t.tc.tk.state = 2 → t.t.hd.held = []) ∧
        (s.t.hd.held = [] → OtherPorts .tsu p s t) ∧
      Only [.com .tsu .tk, .com .tsu .coreA, .com .tsu .coreB, .com .tsu .ports, .com .tsu .msets, .com .tsu .pgEvent,
        .com .tsu .ic, .com .tsu .hfits, .member, .huddles] s t) ∧
  (∀ p h f rx diff s, portExists .dxd s p = true → (s.port .dxd p).st = 5 → inCellar .dxd s = false → f.ns < 1000000000 →
    f.reserved = 0 → f.state = 1 ∨ f.state = 2 ∨ (f.level = 0 ∧ f.state = 3) → s.dc.tk.htValid = false →
    s.dc.tk.sideConflict = false → s.x.hold.oscLost = false →
    follows p (modPort .dxd p (fun q => { q with lastTime := some f }) s) = true →
    ∃ t, exec (.timeFrameReceive .dxd p h f rx diff) s = .next t ∧ t.dc.tk.htValid = true ∧
      t.dc.tk.sec = (s.dc.tk.load (timeLoad .dxd p f s)).sec ∧ t.dc.tk.ns = (s.dc.tk.load (timeLoad .dxd p f s)).ns ∧
      t.dc.tk.frac = (s.dc.tk.load (timeLoad .dxd p f s)).frac ∧ t.dc.tk.utcOffset = f.utcOffset ∧
      (t.port .dxd p).lastTime = some f ∧ OtherPorts .dxd p s t ∧ Only [.com .dxd .tk, .com .dxd .coreA, .com .dxd .coreB,
        .com .dxd .ports, .com .dxd .msets, .com .dxd .regs, .com .dxd .pgEvent, .com .dxd .ic, .com .dxd .hfits, .refs,
        .hold, .ptp, .attic, .ownOff, .twinOff] s t) ∧
  (∀ p h f rx diff s, portExists .tsu s p = true → (s.port .tsu p).st = 5 → inCellar .tsu s = false → f.ns < 1000000000 →
    f.reserved = 0 → sofStamped .tsu p s = true →
    f.state = 1 ∨ f.state = 2 ∨ (f.level = 0 ∧ f.state = 3) → s.tc.tk.htValid = true → (s.core .tsu p).st ≠ 3 →
    (s.core .tsu p).off = false → (s.core .tsu p).running = true →
    ∃ t, exec (.timeFrameReceive .tsu p h f rx diff) s = .next t ∧ (t.core .tsu p).e = timeOffset .tsu p f rx s ∧
      (t.core .tsu p).acc = (servo (s.core .tsu p).acc (timeOffset .tsu p f rx s) treeKp treeKi).1 ∧
      (t.core .tsu p).y = (servo (s.core .tsu p).acc (timeOffset .tsu p f rx s) treeKp treeKi).2.1 ∧
      t.tc.tk.sec = s.tc.tk.sec ∧ t.tc.tk.ns = s.tc.tk.ns ∧ t.tc.tk.frac = s.tc.tk.frac ∧ t.tc.tk.htValid = true ∧
      (t.tc.tk.state = 2 → t.t.hd.held = []) ∧ (s.t.hd.held = [] → OtherPorts .tsu p s t) ∧ Only [.com .tsu .tk,
        .com .tsu .coreA, .com .tsu .coreB, .com .tsu .ports, .com .tsu .msets, .com .tsu .pgEvent, .com .tsu .ic,
        .com .tsu .hfits, .member, .huddles] s t) ∧
  (∀ p h f rx diff s, portExists .dxd s p = true → (s.port .dxd p).st = 5 → inCellar .dxd s = false →
    f.ns < 1000000000 → f.reserved = 0 → sofStamped .dxd p s = true → f.state = 1 ∨ f.state = 2 ∨ (f.level = 0 ∧ f.state =
      3) → s.dc.tk.htValid = true →
    s.x.straps.role ≠ 2 → s.x.hold.oscLost = false → s.x.rf.fresh = false → follows p s = true →
    ∃ t, exec (.timeFrameReceive .dxd p h f rx diff) s = .next t ∧
      t.dc.coreA.e = timeOffset .dxd p f rx s - s.dc.tk.r ∧
      (p = parentPort s → t.x.ownOff = some (timeOffset .dxd p f rx s)) ∧
      t.dc.tk.sec = s.dc.tk.sec ∧ t.dc.tk.ns = s.dc.tk.ns ∧ t.dc.tk.frac = s.dc.tk.frac ∧ t.dc.tk.htValid = true ∧
      OtherPorts .dxd p s t ∧ Only [.com .dxd .tk, .com .dxd .coreA, .com .dxd .coreB, .com .dxd .ports, .com .dxd .msets,
        .com .dxd .regs, .com .dxd .pgEvent, .com .dxd .ic, .com .dxd .hfits, .refs, .hold, .ptp, .attic, .ownOff,
        .twinOff] s t)

/-- 64 samples in band lock a core that has a source and eight out of band unlock it; the first core to lock becomes the
keeper; eight split measurements raise CORE_SPLIT; a reversion or a FORCE changes the keeper, raises KEEPER_SWITCH and
moves the cores' difference at the switch into the residual, not into HT. Cites: R44, R45, R48, R49, R50, R63, R427. -/
def Obligations.LockAndKeeper : Prop :=
  (∀ c s, c < 2 → (s.core .tsu c).st = 1 → s.tc.tk.htValid = true → isSource .tsu c s = true → 64 ≤ (s.core .tsu c).inBand →
    ∃ t, exec (.enterLocked .tsu c) s = .next t ∧ (t.core .tsu c).st = 2 ∧ (t.core .tsu c).lockedAt = some s.tc.up ∧
      (t.core .tsu c).outBand = 0 ∧ (t.core .tsu c).acc = (s.core .tsu c).acc ∧
      (s.tc.tk.everKept = false → s.tc.tk.keeper = 2 → s.tc.tk.force = none → (s.core .tsu (1 - c)).st ≠ 2 →
        (s.core .tsu (1 - c)).st ≠ 3 → inCellar .tsu s = false → s.tc.tk.sideline = false →
        t.tc.tk.keeper = c ∧ t.tc.tk.state = 2 ∧ eventSet .tsu 0x00 3 t) ∧ Only [.com .tsu .tk, .com .tsu .coreA,
          .com .tsu .coreB, .com .tsu .ports, .com .tsu .msets, .com .tsu .pgEvent, .com .tsu .ic, .com .tsu .hfits,
          .member, .huddles] s t) ∧
  (∀ s, s.x.straps.role ≠ 2 → s.dc.coreA.st = 1 → s.dc.tk.htValid = true → dxdChoice s ≠ 2 → 64 ≤ s.dc.coreA.inBand →
    s.dc.tk.state ≠ 3 → inCellar .dxd s = false → s.dc.tk.sideline = false →
    ∃ t, exec (.enterLocked .dxd 0) s = .next t ∧ t.dc.coreA.st = 2 ∧ t.dc.coreA.lockedAt = some s.dc.up ∧
      t.dc.tk.state = 2 ∧ Only [.com .dxd .tk, .com .dxd .coreA, .com .dxd .coreB, .com .dxd .msets, .com .dxd .pgEvent,
        .com .dxd .ic, .com .dxd .hfits, .refs, .hold, .ptp, .attic] s t) ∧
  (∀ c s, c < 2 → (s.core .tsu c).st = 2 → isSource .tsu c s = true → 8 ≤ (s.core .tsu c).outBand →
    ∃ t, exec (.leaveLocked .tsu c) s = .next t ∧ (t.core .tsu c).st = 1 ∧ (t.core .tsu c).inBand = 0 ∧
      (t.core .tsu c).lockedAt = none ∧ (t.core .tsu c).acc = (s.core .tsu c).acc ∧ Only [.com .tsu .tk, .com .tsu .coreA,
        .com .tsu .coreB, .com .tsu .ports, .com .tsu .msets, .com .tsu .pgEvent, .com .tsu .ic, .com .tsu .hfits,
        .member, .huddles] s t) ∧
  (∀ s, s.x.straps.role ≠ 2 → s.dc.coreA.st = 2 → dxdChoice s ≠ 2 → 8 ≤ s.dc.coreA.outBand →
    ∃ t, exec (.leaveLocked .dxd 0) s = .next t ∧ t.dc.coreA.st = 1 ∧ t.dc.coreA.inBand = 0 ∧ t.dc.coreA.lockedAt = none ∧
      t.dc.coreA.acc = s.dc.coreA.acc ∧ t.dc.coreA.y = s.dc.coreA.y ∧
      (s.dc.tk.htValid = true → inCellar .dxd s = false → s.dc.tk.sideline = false → t.dc.tk.state = 1) ∧
      t.dc.tk.sec = s.dc.tk.sec ∧ t.dc.tk.ns = s.dc.tk.ns ∧ t.dc.tk.frac = s.dc.tk.frac ∧ Only [.com .dxd .tk,
        .com .dxd .coreA, .com .dxd .coreB, .com .dxd .msets, .com .dxd .pgEvent, .com .dxd .ic, .com .dxd .hfits, .refs,
        .hold, .ptp, .attic] s t) ∧
  (∀ s, 8 ≤ s.tc.tk.splitCount → ∃ t, exec .coreSplit s = .next t ∧ t.tc.tk.coreSplit = true ∧ t.tc.tk.splitCount = 0 ∧
    eventSet .tsu 0x00 5 t ∧ t.tc.tk.keeper = s.tc.tk.keeper ∧ Only [.com .tsu .tk, .com .tsu .pgEvent, .com .tsu .ic] s
      t) ∧
  (∀ s, reversionDue s = true → s.tc.tk.force = none → isSource .tsu 0 s = true → isSource .tsu 1 s = true →
    ∃ t, exec .keeperReversion s = .next t ∧ t.tc.tk.keeper = 0 ∧ t.tc.tk.r = s.tc.tk.r - s.tc.tk.delta / (2 ^ 35 : Nat) ∧
      t.tc.tk.sec = s.tc.tk.sec ∧ t.tc.tk.ns = s.tc.tk.ns ∧ t.tc.tk.frac = s.tc.tk.frac ∧ eventSet .tsu 0x00 3 t ∧
      Only [.com .tsu .tk, .com .tsu .coreA, .com .tsu .coreB, .com .tsu .ports, .com .tsu .msets, .com .tsu .pgEvent,
        .com .tsu .ic, .com .tsu .hfits, .member, .huddles] s t) ∧
  (∀ rq v s, WriteTaken .tsu rq 0x00 0x130 s → fld v 32 2 = 1 ∨ fld v 32 2 = 2 → (s.core .tsu (fld v 32 2 - 1)).st = 2 →
    isSource .tsu (fld v 32 2 - 1) s = true → s.tc.coreA.st ≠ 3 → s.tc.coreB.st ≠ 3 →
    ∃ t, exec (.keeperForce .tsu rq v) s = .next t ∧ t.tc.tk.force = some (fld v 32 2 - 1) ∧
      t.tc.tk.keeper = fld v 32 2 - 1 ∧ t.reg .tsu 0x130 = (v &&& 0xFFFFFFFF) ||| (s.reg .tsu 0x130 &&& ~~~0xFFFFFFFF) ∧
      t.tc.tk.sec = s.tc.tk.sec ∧ t.tc.tk.ns = s.tc.tk.ns ∧ t.tc.tk.frac = s.tc.tk.frac ∧ Only [.com .tsu .tk,
        .com .tsu .coreA, .com .tsu .coreB, .com .tsu .ports, .com .tsu .msets, .com .tsu .regs, .com .tsu .pgEvent,
        .com .tsu .lockRefused, .com .tsu .ic, .com .tsu .bt, .com .tsu .hfits, .member, .huddles] s t) ∧
  (∀ rq v s, WriteTaken .tsu rq 0x00 0x130 s → fld v 32 2 = 1 ∨ fld v 32 2 = 2 → (s.core .tsu (fld v 32 2 - 1)).st ≠ 2 →
    ∃ t, exec (.keeperForce .tsu rq v) s = .next t ∧ t.tc.tk = s.tc.tk ∧ Only [.com .tsu .regs] s t)

/-- When r has reached 0 PULL_DONE is raised once; a read of TK_NOW_SEC keeps the requester's subsecond snapshot; the root
announces an origin step in the whole second that follows while no epoch is active and takes it at that second's end,
else it refuses it; a step moves the second by STEP_DELTA and raises TIME_STEPPED. Cites: R43, R49, R62, R63, R73. -/
def Obligations.PullAndOrigin : Prop :=
  (∀ d s, (s.com d).tk.pulling = true → (s.com d).tk.r = 0 → ∃ t, exec (.pullComplete d) s = .next t ∧
    (t.com d).tk.pulling = false ∧ eventSet d 0x00 4 t ∧ (d = .dxd → bit t.x.hold.history 11 = true) ∧
    (t.com d).tk.sec = (s.com d).tk.sec ∧ (t.com d).tk.ns = (s.com d).tk.ns ∧ Only (pick d [.com .tsu .tk,
      .com .tsu .pgEvent, .com .tsu .ic] [.com .dxd .tk, .com .dxd .pgEvent, .com .dxd .ic, .hold]) s t) ∧
  (∀ d rq s, ReadTaken d rq 0x00 s → rq < 8 → ∃ t, exec (.tkNowSecRead d rq) s = .next t ∧
    t.response d rq = shown d 0x100 (wd [(0, (s.com d).tk.sec)]) s ∧
    tabGet none (t.com d).tk.snap rq = some ((s.com d).tk.ns, (s.com d).tk.frac) ∧
    (∀ q, q ≠ rq → tabGet none (t.com d).tk.snap q = tabGet none (s.com d).tk.snap q) ∧ Only (pick d [.com .tsu .tk,
      .com .tsu .rsp] [.com .dxd .tk, .com .dxd .badAccess, .com .dxd .barCap, .com .dxd .barLow, .com .dxd .rsp]) s t) ∧
  (∀ rq v s, WriteTaken .dxd rq 0x00 0x140 s → s.x.straps.role = 2 → anyEpoch s = false →
    stepSecond s + 1 ≤ fld v 0 48 → fld v 0 48 < stepSecond s + 2 ^ 31 → ∃ t, exec (.tkOriginSet rq v) s = .next t ∧
      t.dc.tk.stepPend = some (stepSecond s, (fld v 0 48 : Int) - (stepSecond s + 1)) ∧ t.dc.tk.originSet = none ∧
      t.dc.tk.sec = s.dc.tk.sec ∧ Only [.com .dxd .tk, .com .dxd .badAccess, .com .dxd .barCap, .com .dxd .barLow] s t) ∧
  (∀ rq v s, WriteTaken .dxd rq 0x00 0x140 s → s.x.straps.role = 2 → anyEpoch s = true →
    ∃ t, exec (.tkOriginSet rq v) s = .next t ∧ t.dc.tk = s.dc.tk ∧ eventSet .dxd 0x00 8 t ∧ Only [.com .dxd .pgEvent,
      .com .dxd .badAccess, .com .dxd .ic, .com .dxd .barCap, .com .dxd .barLow] s t) ∧
  (∀ d sec dlt s, (s.com d).tk.stepPend = some (sec, dlt) → sec + 1 ≤ (s.com d).tk.sec →
    ∃ t, exec (.originStep d) s = .next t ∧ (t.com d).tk.sec = ux 48 (((s.com d).tk.sec : Int) + dlt) ∧
      (t.com d).tk.ns = (s.com d).tk.ns ∧ (t.com d).tk.frac = (s.com d).tk.frac ∧ (t.com d).tk.r = (s.com d).tk.r ∧
      ((s.com d).tk.originSet = none → (t.com d).tk.stepPend = none) ∧ eventSet d 0x00 7 t ∧ Only (pick d [.com .tsu .tk,
        .com .tsu .ports, .com .tsu .msets, .com .tsu .pgEvent, .com .tsu .ic, .com .tsu .hfits, .steps, .member, .cue,
        .signals, .huddles, .keyPort, .tallies, .bays] [.com .dxd .tk, .com .dxd .msets, .com .dxd .pgEvent,
        .com .dxd .ic, .com .dxd .hfits, .refs, .outs]) s t)

/-- ENABLE takes a port from IDLE to DOWN, its clearing takes it to IDLE, RETRAIN takes it to DOWN with DOWN_REASON 6
(written with ENABLE = 0 it takes it to IDLE), and a dwelt port with a signal enters SYNC and then TRAIN; every other
port is left alone. Cites: R75, R76, R90. -/
def Obligations.PortStates : Prop :=
  (∀ d rq p s, PortWrite d rq p 0x20 s → (s.port d p).st = 0 → portsReleased d s = true →
    ∃ t, exec (.portEnable d rq p) s = .next t ∧
      t.port d p = { (s.port d p).toDown (s.com d).up with enable := true } ∧ OtherPorts d p s t ∧
      Only (pick d [.com .tsu .ports] [.com .dxd .ports, .com .dxd .badAccess, .com .dxd .barCap, .com .dxd .barLow]) s t) ∧
  (∀ d rq p s, PortWrite d rq p 0x20 s → (s.port d p).st ≠ 0 ∨ portsReleased d s = false →
    ∃ t, exec (.portEnable d rq p) s = .next t ∧ t.port d p = { s.port d p with enable := true } ∧ OtherPorts d p s t ∧
      Only (pick d [.com .tsu .ports] [.com .dxd .ports, .com .dxd .badAccess, .com .dxd .barCap, .com .dxd .barLow]) s t) ∧
  (∀ d rq p s, PortWrite d rq p 0x20 s → (s.port d p).st ≠ 0 → (s.port d p).live = false →
    ∃ t, exec (.portDisable d rq p) s = .next t ∧ t.port d p = { (s.port d p).closed with st := 0, enable := false } ∧
      OtherPorts d p s t ∧ Only (pick d [.com .tsu .ports] [.com .dxd .ports, .com .dxd .badAccess, .com .dxd .barCap,
        .com .dxd .barLow]) s t) ∧
  (∀ d rq p s, PortWrite d rq p 0x20 s → (s.port d p).live = true →
    ∃ t, exec (.portDisable d rq p) s = .next t ∧ (t.port d p).st = 0 ∧ (t.port d p).enable = false ∧
      (t.port d p).lastTime = none ∧ (t.port d p).event = (s.port d p).event ||| bitW 1 ∧ ((d = .tsu → s.t.hd.held = []) →
        OtherPorts d p s t) ∧
      Only (pick d [.com .tsu .tk, .com .tsu .coreA, .com .tsu .coreB, .com .tsu .ports, .com .tsu .msets,
        .com .tsu .pgEvent, .com .tsu .ic, .com .tsu .hfits, .member, .huddles] [.com .dxd .tk, .com .dxd .coreA,
        .com .dxd .coreB, .com .dxd .ports, .com .dxd .msets, .com .dxd .pgEvent, .com .dxd .badAccess, .com .dxd .ic,
        .com .dxd .barCap, .com .dxd .barLow, .com .dxd .hfits, .refs, .hold, .ptp, .attic]) s t) ∧
  (∀ d rq p v s, PortWrite d rq p 0x20 s → bit v 1 = true → bit v 0 = true → (s.port d p).st ≤ 1 →
    (s.port d p).st = 1 ∨ portsReleased d s = true →
    ∃ t, exec (.retrain d rq p v) s = .next t ∧ (t.port d p).st = 1 ∧ (t.port d p).downReason = 6 ∧
      (t.port d p).downAt = (s.com d).up ∧ (t.port d p).flaps = [] ∧ (t.port d p).flapHold = false ∧
      (t.port d p).enable = true ∧ OtherPorts d p s t ∧ Only (pick d [.com .tsu .ports] [.com .dxd .ports,
        .com .dxd .badAccess, .com .dxd .barCap, .com .dxd .barLow]) s t) ∧
  (∀ d rq p v s, PortWrite d rq p 0x20 s → bit v 1 = true → bit v 0 = true → 2 ≤ (s.port d p).st →
    ∃ t, exec (.retrain d rq p v) s = .next t ∧ (t.port d p).st = 1 ∧ (t.port d p).downReason = 6 ∧
      (t.port d p).downAt = (s.com d).up ∧ (t.port d p).flaps = [] ∧ (t.port d p).flapHold = false ∧
      (t.port d p).lastTime = none ∧ ((d = .tsu → s.t.hd.held = []) → OtherPorts d p s t) ∧ Only (pick d [.com .tsu .tk,
        .com .tsu .coreA, .com .tsu .coreB, .com .tsu .ports, .com .tsu .msets, .com .tsu .pgEvent, .com .tsu .ic,
        .com .tsu .hfits, .member, .huddles] [.com .dxd .tk, .com .dxd .coreA, .com .dxd .coreB, .com .dxd .ports,
        .com .dxd .msets, .com .dxd .pgEvent, .com .dxd .badAccess, .com .dxd .ic, .com .dxd .barCap, .com .dxd .barLow,
        .com .dxd .hfits, .refs, .hold, .ptp, .attic]) s t) ∧
  (∀ d rq p v s, PortWrite d rq p 0x20 s → bit v 1 = true → bit v 0 = false → ∃ t, exec (.retrain d rq p v) s = .next t ∧
    (t.port d p).st = 0 ∧ (t.port d p).enable = false ∧ (t.port d p).downReason = (s.port d p).downReason ∧
    (t.port d p).flaps = (s.port d p).flaps ∧ ((s.port d p).live = true → bit (t.port d p).event 1 = true) ∧
    ((d = .tsu → s.t.hd.held = []) → OtherPorts d p s t) ∧ Only (pick d [.com .tsu .tk, .com .tsu .coreA,
      .com .tsu .coreB, .com .tsu .ports, .com .tsu .msets, .com .tsu .pgEvent, .com .tsu .ic, .com .tsu .hfits, .member,
      .huddles] [.com .dxd .tk, .com .dxd .coreA, .com .dxd .coreB, .com .dxd .ports, .com .dxd .msets,
      .com .dxd .pgEvent, .com .dxd .badAccess, .com .dxd .ic, .com .dxd .barCap, .com .dxd .barLow, .com .dxd .hfits,
      .refs, .hold, .ptp, .attic]) s t) ∧
  (∀ d p s, dwelt d p s = true → (s.port d p).signal = true → ∃ t, exec (.downDwellEnd d p) s = .next t ∧
    t.port d p = { s.port d p with st := 2 } ∧ OtherPorts d p s t ∧ Only [.com d .ports] s t) ∧
  (∀ d p s, portExists d s p = true → ∃ t, exec (.signalPresent d p) s = .next t ∧
    t.port d p = { s.port d p with signal := true, st := if dwelt d p s then 2 else (s.port d p).st } ∧
    OtherPorts d p s t ∧ Only [.com d .ports] s t) ∧
  (∀ d p s, portExists d s p = true → (s.port d p).st = 2 → ∃ t, exec (.alignmentAcquired d p) s = .next t ∧
    t.port d p = { s.port d p with st := 3, tr := {} } ∧ OtherPorts d p s t ∧ Only [.com d .ports] s t)

/-- A TRAIN frame in TRAIN counts when it agrees with the one before it, and a wrong level or equal sides set the count to
0 with their event; eight of them set ACK; ACK at both ends takes the port to CAL; a TRAIN frame in CAL or UP takes it
back to TRAIN. Cites: R18, R19, R76, R77. -/
def Obligations.PortTraining : Prop :=
  (∀ d p h f s, portExists d s p = true → (s.port d p).st = 3 → topologyBad d p f s = false → sidesEqual d p f s = false →
    ∃ t, exec (.trainFrameReceive d p h f) s = .next t ∧ (t.port d p).st = 3 ∧ (t.port d p).tr.ref = some f ∧
      (t.port d p).tr.count = (if (s.port d p).tr.ref.any (fun r => trainAgrees r f) then (s.port d p).tr.count + 1 else
        1) ∧
      (t.port d p).tr.ackCount = (if f.ack then (s.port d p).tr.ackCount + 1 else 0) ∧
      (t.port d p).tr.topologyError = false ∧ (t.port d p).tr.sideConflict = false ∧ (t.port d p).peerPort = f.port ∧
      (t.port d p).peerKind = f.kind ∧ (t.port d p).peerLevel = f.level ∧ (t.port d p).peerSide = f.side ∧
      (t.port d p).peerFw = f.fw ∧ OtherPorts d p s t ∧ Only [.com d .ports] s t) ∧
  (∀ d p h f s, portExists d s p = true → (s.port d p).st = 3 → topologyBad d p f s = true →
    ∃ t, exec (.trainFrameReceive d p h f) s = .next t ∧ (t.port d p).st = 3 ∧ (t.port d p).tr.count = 0 ∧
      (t.port d p).tr.topologyError = true ∧ bit (t.port d p).event 5 = true ∧ OtherPorts d p s t ∧ Only [.com d .tk,
        .com d .ports, .com d .pgEvent, .com d .ic] s t) ∧
  (∀ d p h f s, portExists d s p = true → (s.port d p).st = 3 → sidesEqual d p f s = true →
    ∃ t, exec (.trainFrameReceive d p h f) s = .next t ∧ (t.port d p).st = 3 ∧ (t.port d p).tr.count = 0 ∧
      (t.port d p).tr.sideConflict = true ∧ bit (t.port d p).event 4 = true ∧ (t.com d).tk.sideConflict = true ∧
      OtherPorts d p s t ∧ Only [.com d .tk, .com d .ports, .com d .pgEvent, .com d .ic] s t) ∧
  (∀ d p h f s, portExists d s p = true → (s.port d p).live = true → ∃ t, exec (.trainFrameReceive d p h f) s = .next t ∧
    (t.port d p).st = 3 ∧ (t.port d p).downReason = 5 ∧ (t.port d p).tr = {} ∧ bit (t.port d p).event 1 = true ∧
    (t.port d p).lastTime = none ∧ ((d = .tsu → s.t.hd.held = []) → OtherPorts d p s t) ∧ Only (pick d [.com .tsu .tk,
      .com .tsu .coreA, .com .tsu .coreB, .com .tsu .ports, .com .tsu .msets, .com .tsu .pgEvent, .com .tsu .ic,
      .com .tsu .hfits, .member, .huddles] [.com .dxd .tk, .com .dxd .coreA, .com .dxd .coreB, .com .dxd .ports,
      .com .dxd .msets, .com .dxd .pgEvent, .com .dxd .ic, .com .dxd .hfits, .refs, .hold, .ptp, .attic]) s t) ∧
  (∀ d p s, portExists d s p = true → (s.port d p).st = 3 → 8 ≤ (s.port d p).tr.count →
    ∃ t, exec (.trainAckSet d p) s = .next t ∧
      t.port d p = { s.port d p with tr := { (s.port d p).tr with ackSent := true } } ∧ OtherPorts d p s t ∧
      Only [.com d .ports] s t) ∧
  (∀ d p s, portExists d s p = true → (s.port d p).st = 3 → (s.port d p).tr.ackSent = true → 8 ≤ (s.port d p).tr.ackCount →
    (s.port d p).tr.topologyError = false → (s.port d p).tr.sideConflict = false →
    ∃ t, exec (.trainComplete d p) s = .next t ∧ (t.port d p).st = 4 ∧ (t.port d p).tr = { lastSec := (s.com d).tk.sec } ∧
      (t.port d p).hbMissed = 0 ∧ (t.port d p).hbFrom = (s.com d).up ∧
      (t.port d p).hbSentAt = (s.com d).tk.bc / 10000 + 1 ∧ (t.port d p).crcAt = (s.port d p).crcAt ∧
      (t.port d p).rel = (s.port d p).rel ∧ OtherPorts d p s t ∧ Only [.com d .ports] s t)

/-- A probe request leaves while results are wanted; a request is answered and its CAL_DONE takes the answering end to UP;
a reply in time gives one delay pair; 64 results end the calibration, 256 requests without them fail it with DOWN_REASON
7; in UP the applied delay moves by at most 131 LSBs a second toward the mean, and not at all after a second of fewer
than 1,024 results. Cites: R76, R78, R79, R81, R392. -/
def Obligations.PortDelays : Prop :=
  (∀ d p q s, s.port d p = q → portExists d s p = true → isOriginator d p = true →
    (q.st = 4 ∧ q.tr.downs.length < 64 ∧ q.tr.requests < 256 ∧ (q.tr.requests = 0 ∨ q.tr.lastReq + 2048 ≤ (s.com d).up)) ∨
    (q.st = 5 ∧ q.tr.lastReq + 65536 ≤ (s.com d).up) → ∃ t, exec (.delayProbeRequestSend d p) s = .next t ∧
      (t.port d p).rel.lq = q.rel.lq ++ [⟨0, .probe ⟨false, false, q.tr.nextId, 0, q.applied⟩⟩] ∧
      (t.port d p).tr.requests = q.tr.requests + 1 ∧ (t.port d p).tr.lastReq = (s.com d).up ∧
      (t.port d p).tr.nextId = (q.tr.nextId + 1) % 0xFF00 ∧ (t.port d p).tr.downs = q.tr.downs ∧ (t.port d p).st = q.st ∧
      OtherPorts d p s t ∧ Only [.com d .ports] s t) ∧
  (∀ d p h f t2 s, portExists d s p = true → (s.port d p).live = true → f.reply = false →
    sofStamped d p s = true → f.calDone = false ∨ (s.port d p).st = 5 → ∃ t, exec (.delayProbeRequestReceive d p h f t2) s
      = .next t ∧
      (t.port d p).tr = { (s.port d p).tr with toAnswer := (s.port d p).tr.toAnswer ++ [(f, t2)] } ∧
      (t.port d p).applied = (if isOriginator d p = true ∨ 0xFF00 ≤ f.id then (s.port d p).applied else f.result) ∧
      (t.port d p).st = (s.port d p).st ∧ OtherPorts d p s t ∧ Only [.com d .ports] s t) ∧
  (∀ p h f t2 s, portExists .dxd s p = true → p < 192 → (s.port .dxd p).st = 4 → f.reply = false → f.calDone = true →
    ∃ t, exec (.delayProbeRequestReceive .dxd p h f t2) s = .next t ∧ (t.port .dxd p).st = 5 ∧
      bit (t.port .dxd p).event 0 = true ∧ OtherPorts .dxd p s t ∧ Only [.com .dxd .boot, .com .dxd .ports,
        .com .dxd .pgEvent, .com .dxd .ic, .referee] s t) ∧
  (∀ d p h f t4 x s, portExists d s p = true → (s.port d p).live = true → f.reply = true →
    sofStamped d p s = true → (s.port d p).tr.probes.find? (fun x => x.id == f.id && decide ((s.com d).up ≤ x.at_ +
      16384)) = some x →
    ∃ t, exec (.delayProbeReplyReceive d p h f t4) s = .next t ∧
      (t.port d p).tr.downs = (s.port d p).tr.downs ++ [(delaysOf (s.port d p).alpha x.t1 t4 f.turnaround).1] ∧
      (t.port d p).tr.ups = (s.port d p).tr.ups ++ [(delaysOf (s.port d p).alpha x.t1 t4 f.turnaround).2] ∧
      (t.port d p).tr.probes = (s.port d p).tr.probes.filter (fun y => !(y == x)) ∧
      (t.port d p).applied = (s.port d p).applied ∧ OtherPorts d p s t ∧ Only [.com d .ports] s t) ∧
  (∀ d p s, portExists d s p = true → ∃ t, exec (.delayProbeTimeout d p) s = .next t ∧
    (t.port d p).tr.probes = (s.port d p).tr.probes.filter (fun x => decide ((s.com d).up ≤ x.at_ + 16384)) ∧
    (t.port d p).tr.downs = (s.port d p).tr.downs ∧ (t.port d p).st = (s.port d p).st ∧
    OtherPorts d p s t ∧ Only [.com d .ports] s t) ∧
  (∀ d p s, portExists d s p = true → isOriginator d p = true → (s.port d p).st = 4 → 64 ≤ (s.port d p).tr.downs.length →
    (s.port d p).tr.calDoneSent = false → (s.port d p).tr.lastReq + 2048 ≤ (s.com d).up →
    ∃ t, exec (.calComplete d p) s = .next t ∧
      (t.port d p).applied = u32Of (meanTrunc (s.port d p).tr.downs) ∧
      (t.port d p).appliedUp = u32Of (meanTrunc (s.port d p).tr.ups) ∧ (t.port d p).tr.calDoneSent = true ∧
      (t.port d p).st = (if isPair d s p = true ∧ (s.port d p).tr.calDoneRcvd = false then 4 else 5) ∧
      OtherPorts d p s t ∧ Only (pick d [.com .tsu .boot, .com .tsu .ports, .com .tsu .pgEvent, .com .tsu .ic]
        [.com .dxd .boot, .com .dxd .ports, .com .dxd .pgEvent, .com .dxd .ic, .referee]) s t) ∧
  (∀ d p s, portExists d s p = true → isOriginator d p = true → (s.port d p).st = 4 → 256 ≤ (s.port d p).tr.requests →
    (s.port d p).tr.downs.length < 64 → ∃ t, exec (.calFail d p) s = .next t ∧ (t.port d p).st = 1 ∧
      (t.port d p).downReason = 7 ∧ bit (t.port d p).event 1 = true ∧ ((d = .tsu → s.t.hd.held = []) → OtherPorts d p s t)
        ∧ Only (pick d [.com .tsu .tk, .com .tsu .coreA, .com .tsu .coreB, .com .tsu .ports, .com .tsu .msets,
        .com .tsu .pgEvent, .com .tsu .ic, .com .tsu .hfits, .member, .huddles] [.com .dxd .tk, .com .dxd .coreA,
        .com .dxd .coreB, .com .dxd .ports, .com .dxd .msets, .com .dxd .pgEvent, .com .dxd .ic, .com .dxd .hfits, .refs,
        .hold, .ptp, .attic]) s t) ∧
  (∀ d p s, portExists d s p = true → isOriginator d p = true → (s.port d p).st = 5 →
    (s.port d p).tr.lastSec ≠ (s.com d).tk.sec → 1024 ≤ (s.port d p).tr.downs.length →
    ∃ t, exec (.delayUpdate d p) s = .next t ∧ (t.port d p).mean = u32Of (meanTrunc (s.port d p).tr.downs) ∧
      (t.port d p).applied = moveApplied (s.port d p).applied (meanTrunc (s.port d p).tr.downs) ∧
      (t.port d p).appliedUp = moveApplied (s.port d p).appliedUp (meanTrunc (s.port d p).tr.ups) ∧
      (t.port d p).tr.downs = [] ∧ (t.port d p).tr.lastSec = (s.com d).tk.sec ∧
      (d = .dxd → tabGet none t.x.at_.links p = some ((s.port d p).alpha, (t.port d p).applied, (s.com d).tk.sec)) ∧
      OtherPorts d p s t ∧ Only (pick d [.com .tsu .ports, .com .tsu .pgEvent, .com .tsu .ic] [.com .dxd .ports,
        .com .dxd .pgEvent, .com .dxd .ic, .attic]) s t) ∧
  (∀ d p s, portExists d s p = true → isOriginator d p = true → (s.port d p).st = 5 →
    (s.port d p).tr.lastSec ≠ (s.com d).tk.sec → 0 < (s.port d p).tr.downs.length → (s.port d p).tr.downs.length < 1024 →
    ∃ t, exec (.delayUpdate d p) s = .next t ∧ (t.port d p).mean = u32Of (meanTrunc (s.port d p).tr.downs) ∧
      (t.port d p).applied = (s.port d p).applied ∧ (t.port d p).appliedUp = (s.port d p).appliedUp ∧
      (t.port d p).tr.downs = [] ∧ OtherPorts d p s t ∧ Only (pick d [.com .tsu .ports, .com .tsu .pgEvent, .com .tsu .ic]
        [.com .dxd .ports, .com .dxd .pgEvent, .com .dxd .ic, .attic]) s t)

/-- Outside its slots a port sends nothing; in IDLE its wire is quiet; before CAL it sends TRAIN; a TIME slot sends TIME;
in UP a resend goes first, then the oldest control frame with the next SEQ, which is retained until it is acknowledged;
with nothing to send it sends FILL. Cites: R24, R66, R77, R82, R84, R85, R86. -/
def Obligations.PortSlots : Prop :=
  (∀ d p s, slotStarts (isLane d s p) (s.com d).tk.bc = false → exec (.frameSlot d p) s = .next s) ∧
  (∀ d p s, portExists d s p = true → slotStarts (isLane d s p) (s.com d).tk.bc = true →
    (s.port d p).st = 0 ∨ (d = .dxd ∧ s.x.hold.oscLost = true) → ∃ t, exec (.frameSlot d p) s = .next t ∧
      t.port d p = { s.port d p with wire := none } ∧ OtherPorts d p s t ∧ Only [.com d .ports] s t) ∧
  (∀ d p s, portExists d s p = true → slotStarts (isLane d s p) (s.com d).tk.bc = true → (s.port d p).st ≠ 0 →
    (d = .dxd → s.x.hold.oscLost = false) → (s.port d p).live = false → ∃ t, exec (.frameSlot d p) s = .next t ∧
      (∃ h, (t.port d p).wire = some ⟨h, ⟨ownEpoch d s, .train (trainFrame d p s)⟩⟩ ∧ h.seq = (s.port d p).rel.seqTx ∧
        h.ack = (s.port d p).rel.seqRx ∧ h.nak = (s.port d p).rel.nakOut) ∧
      (t.port d p).st = (s.port d p).st ∧ OtherPorts d p s t ∧ Only [.com d .ports] s t) ∧
  (∀ p s, portExists .dxd s p = true → slotStarts (isLane .dxd s p) s.dc.tk.bc = true → s.x.hold.oscLost = false →
    sendsTime .dxd p s = true → ∃ t, exec (.frameSlot .dxd p) s = .next t ∧
      (∃ h, (t.port .dxd p).wire = some ⟨h, ⟨lowestEpoch s, .time (timeFrame s)⟩⟩) ∧
      (t.port .dxd p).rel.retained = (s.port .dxd p).rel.retained ∧ (t.port .dxd p).st = (s.port .dxd p).st ∧
      OtherPorts .dxd p s t ∧ Only [.com .dxd .ports] s t) ∧
  (∀ d p n f rest s, portExists d s p = true → slotStarts (isLane d s p) (s.com d).tk.bc = true → (s.port d p).st = 5 →
    (d = .dxd → s.x.hold.oscLost = false) → sendsTime d p s = false → (s.port d p).tr.toAnswer = [] →
    (s.port d p).rel.lq = [] → (s.port d p).rel.resend = (n, f) :: rest → (s.port d p).rel.holdCIn = false →
    (s.port d p).rel.holdBIn = false → ∃ t, exec (.frameSlot d p) s = .next t ∧
      (∃ h, (t.port d p).wire = some ⟨h, f⟩ ∧ h.seq = n) ∧ (t.port d p).rel.resend = rest ∧
      (t.port d p).rel.retained = (s.port d p).rel.retained ∧ (t.port d p).rel.seqTx = (s.port d p).rel.seqTx ∧
      OtherPorts d p s t ∧ Only [.com d .ports] s t) ∧
  (∀ d p e rest s, portExists d s p = true → slotStarts (isLane d s p) (s.com d).tk.bc = true → (s.port d p).st = 5 →
    (d = .dxd → s.x.hold.oscLost = false) → sendsTime d p s = false → (s.port d p).tr.toAnswer = [] →
    (s.port d p).rel.lq = [] → (s.port d p).rel.resend = [] → (s.port d p).rel.bulk = [] →
    (s.port d p).rel.ctl = e :: rest → (s.port d p).rel.holdCIn = false →
    (s.port d p).rel.retained.length < (if isLane d s p then 16 else 64) → ∃ t, exec (.frameSlot d p) s = .next t ∧
      (∃ h, (t.port d p).wire = some ⟨h, e.f⟩ ∧ h.seq = ((s.port d p).rel.seqTx + 1) % 256) ∧
      (t.port d p).rel.ctl = rest ++ (s.port d p).rel.ctlWait.take (ctlRoom (isLane d s p) - rest.length) ∧
      (t.port d p).rel.seqTx = ((s.port d p).rel.seqTx + 1) % 256 ∧
      (t.port d p).rel.retained = (s.port d p).rel.retained ++ [(((s.port d p).rel.seqTx + 1) % 256, e.f)] ∧
      OtherPorts d p s t ∧ Only [.com d .ports] s t) ∧
  (∀ d p s, portExists d s p = true → slotStarts (isLane d s p) (s.com d).tk.bc = true → (s.port d p).st = 5 →
    (d = .dxd → s.x.hold.oscLost = false) → sendsTime d p s = false → (s.port d p).tr.toAnswer = [] →
    (s.port d p).rel.lq = [] → (s.port d p).rel.resend = [] → (s.port d p).rel.bulk = [] → (s.port d p).rel.ctl = [] →
    ∃ t, exec (.frameSlot d p) s = .next t ∧
      (∃ h, (t.port d p).wire = some ⟨h, ⟨ownEpoch d s, .fill⟩⟩ ∧ h.seq = (s.port d p).rel.seqTx) ∧
      (t.port d p).rel.retained = (s.port d p).rel.retained ∧ OtherPorts d p s t ∧ Only [.com d .ports] s t)

/-- A frame's ACK frees the frames it covers and its NAK and HOLD are noted; a frame that fails its CRC is counted and
answered with NAK; an undefined TYPE is counted; an unanswered NAK resends at most four times and then ends the link
with DOWN_REASON 8; ERRORS is returned and cleared; ORIGIN_SEQ is forgotten after one second. Cites: R69, R71, R82, R83,
R84, R91. -/
def Obligations.PortLinkErrors : Prop :=
  (∀ d p h s, portExists d s p = true → (s.port d p).live = true → ∃ t, exec (.fillFrameReceive d p h) s = .next t ∧
    (∀ x, x ∈ (t.port d p).rel.retained ↔ x ∈ (s.port d p).rel.retained ∧ serial 8 h.ack x.1 < 0) ∧
    (t.port d p).rel.holdCIn = h.holdC ∧ (t.port d p).rel.holdBIn = h.holdB ∧ (t.port d p).rel.nakIn = h.nak ∧
    (h.nak = true → (s.port d p).rel.nakIn = false → (t.port d p).rel.resend = (t.port d p).rel.retained) ∧
    (t.port d p).st = (s.port d p).st ∧ (t.port d p).rel.seqRx = (s.port d p).rel.seqRx ∧ OtherPorts d p s t ∧
    Only [.com d .ports] s t) ∧
  (∀ d p s, portExists d s p = true → (s.port d p).live = true → ∃ t, exec (.frameCrcError d p) s = .next t ∧
    (t.port d p).crcErr = sat16 ((s.port d p).crcErr + 1) ∧ (t.port d p).rel.nakOut = true ∧
    (t.port d p).nakSent = (if (s.port d p).rel.nakOut then (s.port d p).nakSent else sat16 ((s.port d p).nakSent + 1)) ∧
    (t.port d p).rel.seqRx = (s.port d p).rel.seqRx ∧ (t.port d p).st = (s.port d p).st ∧ OtherPorts d p s t ∧
    Only [.com d .ports] s t) ∧
  (∀ d p s, portExists d s p = true → (s.port d p).st = 3 → ∃ t, exec (.frameCrcError d p) s = .next t ∧
    (t.port d p).crcErr = sat16 ((s.port d p).crcErr + 1) ∧ (t.port d p).tr.count = 0 ∧ (t.port d p).tr.ackCount = 0 ∧
    (t.port d p).rel = (s.port d p).rel ∧ OtherPorts d p s t ∧ Only [.com d .ports] s t) ∧
  (∀ d p h ty s, portExists d s p = true → (s.port d p).live = true → typeDefined ty = false →
    ∃ t, exec (.unknownTypeFrame d p h ty) s = .next t ∧
      t.port d p = { s.port d p with unknownType := sat16 ((s.port d p).unknownType + 1) } ∧ OtherPorts d p s t ∧
      Only [.com d .ports] s t) ∧
  (∀ d p s, portExists d s p = true → (s.port d p).live = true → (s.port d p).rel.nakIn = true →
    (s.port d p).rel.nakSince + 16384 ≤ (s.com d).up → (s.port d p).rel.nakTries < 4 →
    ∃ t, exec (.nakResendTimeout d p) s = .next t ∧ (t.port d p).rel.resend = (s.port d p).rel.retained ∧
      (t.port d p).rel.nakTries = (s.port d p).rel.nakTries + 1 ∧ (t.port d p).rel.nakSince = (s.com d).up ∧
      (t.port d p).rel.retained = (s.port d p).rel.retained ∧ (t.port d p).st = (s.port d p).st ∧
      OtherPorts d p s t ∧ Only [.com d .ports] s t) ∧
  (∀ d p s, portExists d s p = true → (s.port d p).live = true → (s.port d p).rel.nakIn = true →
    (s.port d p).rel.nakSince + 16384 ≤ (s.com d).up → 4 ≤ (s.port d p).rel.nakTries →
    ∃ t, exec (.nakResendTimeout d p) s = .next t ∧ (t.port d p).st = 1 ∧ (t.port d p).downReason = 8 ∧
      bit (t.port d p).event 1 = true ∧ ((d = .tsu → s.t.hd.held = []) → OtherPorts d p s t) ∧ Only (pick d
        [.com .tsu .tk, .com .tsu .coreA, .com .tsu .coreB, .com .tsu .ports, .com .tsu .msets, .com .tsu .pgEvent,
        .com .tsu .ic, .com .tsu .hfits, .member, .huddles] [.com .dxd .tk, .com .dxd .coreA, .com .dxd .coreB,
        .com .dxd .ports, .com .dxd .msets, .com .dxd .pgEvent, .com .dxd .ic, .com .dxd .hfits, .refs, .hold, .ptp,
        .attic]) s t) ∧
  (∀ d rq p s, portExists d s p = true → ReadTaken d rq (portPage d p).1 s → ∃ t, exec (.portErrorsRead d rq p) s = .next
    t ∧
    t.response d rq = shown d ((portPage d p).1 * 4096 + (portBase d p % 4096 + 0x18)) (portErrors (s.port d p)) s ∧
    t.port d p = { s.port d p with crcErr := 0, nakSent := 0, epochDrop := 0, unknownType := 0 } ∧
    OtherPorts d p s t ∧ Only (pick d [.com .tsu .ports, .com .tsu .rsp] [.com .dxd .ports, .com .dxd .badAccess,
      .com .dxd .barCap, .com .dxd .barLow, .com .dxd .rsp]) s t) ∧
  (∀ d q at_ s, (s.com d).oseq = some (q, at_) → ∃ t, exec (.originSeqForget d) s = .next t ∧
    (t.com d).oseq = (if at_ + 1000000000 ≤ (s.com d).up then none else some (q, at_)) ∧ Only [.com d .oseq] s t)

/-- A heartbeat is sent once a period and one received restarts the count of missed ones; eight missed, a lost signal or
alignment, or 16 CRC errors in the window take the port to DOWN with their reasons; eight losses within a second hold it
there. Cites: R50, R76, R87, R88, R89, R90, R178. -/
def Obligations.PortLosses : Prop :=
  (∀ d p s, portExists d s p = true → (s.port d p).live = true → (s.port d p).hbSentAt ≠ (s.com d).tk.bc / 10000 + 1 →
    ∃ t, exec (.heartbeatSend d p) s = .next t ∧ (t.port d p).rel.lq = (s.port d p).rel.lq ++
        [⟨ownEpoch d s, .heartbeat (heartbeatFrame d (s.port d p).hbCount s)⟩] ∧
      (t.port d p).hbSentAt = (s.com d).tk.bc / 10000 + 1 ∧ (t.port d p).hbCount = ((s.port d p).hbCount + 1) % 65536 ∧
      (d = .tsu → ∀ r, r ∈ t.t.steps ↔ r ∈ s.t.steps ∧ r.active = true) ∧ OtherPorts d p s t ∧ Only (pick d
        [.com .tsu .tk, .com .tsu .ports, .steps, .member] [.com .dxd .tk, .com .dxd .ports]) s t) ∧
  (∀ p h ep f s, portExists .tsu s p = true → (s.port .tsu p).live = true →
    ∃ t, exec (.heartbeatReceive .tsu p h ep f) s = .next t ∧ (t.port .tsu p).hbMissed = 0 ∧
      (t.port .tsu p).hbFrom = s.tc.up ∧ (t.port .tsu p).peerHb = some (f, ep) ∧ (t.port .tsu p).st = (s.port .tsu p).st ∧
      OtherPorts .tsu p s t ∧ Only [.com .tsu .ports] s t) ∧
  (∀ p h ep f s, portExists .dxd s p = true → (s.port .dxd p).live = true →
    ∃ t, exec (.heartbeatReceive .dxd p h ep f) s = .next t ∧ (t.port .dxd p).hbMissed = 0 ∧
      (t.port .dxd p).hbFrom = s.dc.up ∧ (t.port .dxd p).peerHb = some (f, ep) ∧
      (t.port .dxd p).st = (s.port .dxd p).st ∧ Only [.com .dxd .tk, .com .dxd .coreA, .com .dxd .coreB, .com .dxd .ports,
        .com .dxd .msets, .com .dxd .regs, .com .dxd .pgEvent, .com .dxd .ic, .com .dxd .hfits, .refs, .hold, .ptp,
        .kicks, .census, .scores, .ledger, .referee, .attic] s t) ∧
  (∀ d p s, portExists d s p = true → (s.port d p).live = true → (s.port d p).hbFrom + 80000 ≤ (s.com d).up →
    ∃ t, exec (.peerFailed d p) s = .next t ∧ (t.port d p).st = 1 ∧ (t.port d p).downReason = 3 ∧
      (t.port d p).hbMissed = 8 ∧ bit (t.port d p).event 3 = true ∧ bit (t.port d p).event 1 = true ∧ Only (pick d
        [.com .tsu .tk, .com .tsu .coreA, .com .tsu .coreB, .com .tsu .ports, .com .tsu .msets, .com .tsu .pgEvent,
        .com .tsu .ic, .com .tsu .hfits, .member, .huddles] [.com .dxd .tk, .com .dxd .coreA, .com .dxd .coreB,
        .com .dxd .ports, .com .dxd .msets, .com .dxd .regs, .com .dxd .pgEvent, .com .dxd .ic, .com .dxd .hfits, .refs,
        .hold, .ptp, .kicks, .census, .scores, .ledger, .referee, .attic]) s t) ∧
  (∀ d p cause s, portExists d s p = true → 2 ≤ (s.port d p).st → ∃ t, exec (.portLossDeclared d p cause) s = .next t ∧
    (t.port d p).st = 1 ∧ (t.port d p).downReason = (if cause = .signal then 1 else 2) ∧
    (t.port d p).downAt = (s.com d).up ∧ (t.port d p).signal = (if cause = .signal then false else (s.port d p).signal) ∧
    (t.port d p).lastTime = none ∧ ((s.port d p).live = true → bit (t.port d p).event 1 = true) ∧ Only (pick d
      [.com .tsu .tk, .com .tsu .coreA, .com .tsu .coreB, .com .tsu .ports, .com .tsu .msets, .com .tsu .pgEvent,
      .com .tsu .ic, .com .tsu .hfits, .member, .huddles] [.com .dxd .tk, .com .dxd .coreA, .com .dxd .coreB,
      .com .dxd .ports, .com .dxd .msets, .com .dxd .regs, .com .dxd .pgEvent, .com .dxd .ic, .com .dxd .hfits, .refs,
      .hold, .ptp, .kicks, .census, .scores, .ledger, .referee, .attic]) s t) ∧
  (∀ d p s, portExists d s p = true → 2 ≤ (s.port d p).st →
    16 ≤ (s.port d p).crcAt.countP (fun c => decide ((s.com d).up < c + rateWindow (isLane d s p))) →
    ∃ t, exec (.errorRate d p) s = .next t ∧ (t.port d p).st = 1 ∧ (t.port d p).downReason = 4 ∧
      bit (t.port d p).event 2 = true ∧ (t.port d p).crcAt = [] ∧ ((d = .tsu → s.t.hd.held = []) → OtherPorts d p s t) ∧
        Only (pick d [.com .tsu .tk, .com .tsu .coreA, .com .tsu .coreB, .com .tsu .ports, .com .tsu .msets,
        .com .tsu .pgEvent, .com .tsu .ic, .com .tsu .hfits, .member, .huddles] [.com .dxd .tk, .com .dxd .coreA,
        .com .dxd .coreB, .com .dxd .ports, .com .dxd .msets, .com .dxd .pgEvent, .com .dxd .ic, .com .dxd .hfits, .refs,
        .hold, .ptp, .attic]) s t) ∧
  (∀ d p s, portExists d s p = true → (s.port d p).st = 1 → (s.port d p).flapHold = false →
    8 ≤ flapCount (s.com d).up (s.port d p) → ∃ t, exec (.linkFlap d p) s = .next t ∧ (t.port d p).st = 1 ∧
      (t.port d p).flapHold = true ∧ (t.port d p).downReason = 9 ∧ bit (t.port d p).event 7 = true ∧
      OtherPorts d p s t ∧ Only [.com d .ports, .com d .pgEvent, .com d .ic] s t)

/-- An edge that finds a calibrated and idle interpolator becomes the stamp of R96, which every open set and every
hardware fit on the channel sees; an edge that finds none counts in MISSED and one outside the guard in INVALID, with
their events where the counter advanced; an interpolator takes a calibration within the limits, and sixteen failed ones
in succession take the channel's away; a TAP write takes effect 1 us later and ends the sets that use the channel; a
read of TD_CH returns and clears the counts. Cites: R93, R95, R96, R98, R99, R107, R108. -/
def Obligations.TdcChannels : Prop :=
  (∀ d ch w n c s, chanPresent d s ch = true → pickUnit (unitCount d s ch) (10 * w + 16 * n) (s.chan d ch) = none →
    ∃ t, exec (.edgeStamp d ch w n c) s = .next t ∧
      t.chan d ch = { s.chan d ch with missed := sat16 ((s.chan d ch).missed + 1) } ∧ (∀ j, j ≠ ch → t.chan d j = s.chan d
        j) ∧
      ((s.chan d ch).missed < 0xFFFF → eventSet d 0x02 32 t) ∧ Only (pick d [.com .tsu .chans, .com .tsu .msets,
        .com .tsu .pgEvent, .com .tsu .ic, .com .tsu .hfits] [.com .dxd .chans, .com .dxd .msets, .com .dxd .pgEvent,
        .com .dxd .ic, .com .dxd .hfits, .refs]) s t) ∧
  (∀ d ch w n c i c1 c2 s, chanPresent d s ch = true → pickUnit (unitCount d s ch) (10 * w + 16 * n) (s.chan d ch) = some
    i →
    (tabGet {} (s.chan d ch).units i).cal = some (c1, c2) → stampOf c1 c2 (trimOf d ch s) w n c = none →
    ∃ t, exec (.edgeStamp d ch w n c) s = .next t ∧
      t.chan d ch = { s.chan d ch with units := tabSet {} (s.chan d ch).units i { tabGet {} (s.chan d ch).units i with
        busy := some (10 * w + 16 * n) }, next := (i + 1) % unitCount d s ch, invalid := sat16 ((s.chan d ch).invalid + 1)
        } ∧
      (∀ j, j ≠ ch → t.chan d j = s.chan d j) ∧ ((s.chan d ch).invalid < 0xFFFF → eventSet d 0x02 33 t) ∧ Only (pick d
        [.com .tsu .chans, .com .tsu .msets, .com .tsu .pgEvent, .com .tsu .ic, .com .tsu .hfits] [.com .dxd .chans,
        .com .dxd .msets, .com .dxd .pgEvent, .com .dxd .ic, .com .dxd .hfits, .refs]) s t) ∧
  (∀ d ch w n c i c1 c2 e s, chanPresent d s ch = true → pickUnit (unitCount d s ch) (10 * w + 16 * n) (s.chan d ch) =
    some i →
    (tabGet {} (s.chan d ch).units i).cal = some (c1, c2) → stampOf c1 c2 (trimOf d ch s) w n c = some e →
    ∃ t, exec (.edgeStamp d ch w n c) s = .next t ∧ (t.chan d ch).missed = (s.chan d ch).missed ∧
      (t.chan d ch).invalid = (s.chan d ch).invalid ∧
      (∀ m, (s.mset d m).st ≠ 2 → t.mset d m = s.mset d m) ∧
      (∀ m, (s.mset d m).st = 2 → (s.mset d m).n = 0 → t.mset d m = stampD d m ch (some e) s (s.mset d m)) ∧
      (∀ m, (s.mset d m).st = 2 → 0 < (s.mset d m).n →
        t.mset d m = if setStart d m s = ch then stampF d m (some e) s (s.mset d m) else s.mset d m) ∧
      (∀ key, (s.hfit d key).any (fun f => f.ch == ch) = true → t.hfit d key =
        (s.hfit d key).map (fun f => { f with run := fitEdge f.fnom f.e (s.com d).tk.bc (pullShown d s) (some e) f.run })) ∧
      (t.com d).pgEvent = (s.com d).pgEvent ∧ Only (pick d [.com .tsu .chans, .com .tsu .msets, .com .tsu .pgEvent,
        .com .tsu .ic, .com .tsu .hfits] [.com .dxd .chans, .com .dxd .msets, .com .dxd .pgEvent, .com .dxd .ic,
        .com .dxd .hfits, .refs]) s t) ∧
  (∀ d ch i c1 c2 s, chanPresent d s ch = true → i < unitCount d s ch → ∃ t, exec (.interpolatorCalibration d ch i c1 c2)
    s = .next t ∧
    (c1 + 6144 ≤ c2 ∧ c2 ≤ c1 + 12288 → t.chan d ch = { s.chan d ch with
      units := tabMod {} (s.chan d ch).units i (fun u => { u with cal := some (c1, c2) }), fails := 0 }) ∧
    (¬(c1 + 6144 ≤ c2 ∧ c2 ≤ c1 + 12288) → t.chan d ch = { s.chan d ch with fails := (s.chan d ch).fails + 1 }) ∧
    (∀ j, j ≠ ch → t.chan d j = s.chan d j) ∧ Only [.com d .chans] s t) ∧
  (∀ d ch s, chanPresent d s ch = true → 16 ≤ (s.chan d ch).fails → ∃ t, exec (.channelCalFail d ch) s = .next t ∧
    (t.chan d ch).fails = 0 ∧ (∀ i, (tabGet {} (t.chan d ch).units i).cal = none) ∧ (t.chan d ch).tap = (s.chan d ch).tap ∧
    (t.chan d ch).missed = (s.chan d ch).missed ∧ (t.chan d ch).invalid = (s.chan d ch).invalid ∧
    (∀ j, j ≠ ch → t.chan d j = s.chan d j) ∧ eventSet d 0x02 34 t ∧ Only [.com d .chans, .com d .pgEvent, .com d .ic] s
      t) ∧
  (∀ d rq ch v s, chanListed d ch = true → chanGeneral d s ch = true → WriteTaken d rq (chanReg d ch).1 (chanReg d ch).2 s →
    ∃ t, exec (.tapWrite d rq ch v) s = .next t ∧
      t.chan d ch = { s.chan d ch with pend := some (fld v 48 10, (s.com d).up + 1000) } ∧
      (∀ j, j ≠ ch → t.chan d j = s.chan d j) ∧ Only (pick d [.com .tsu .chans] [.com .dxd .chans, .com .dxd .badAccess,
        .com .dxd .barCap, .com .dxd .barLow]) s t) ∧
  (∀ d rq ch v s, chanListed d ch = true → chanGeneral d s ch = false → WriteTaken d rq (chanReg d ch).1 (chanReg d ch).2
    s →
    ∃ t, exec (.tapWrite d rq ch v) s = .next t ∧ (∀ j, t.chan d j = s.chan d j) ∧ Only (pick d [] [.com .dxd .badAccess,
      .com .dxd .barCap, .com .dxd .barLow]) s t) ∧
  (∀ d ch tap at_ s, (s.chan d ch).pend = some (tap, at_) → at_ ≤ (s.com d).up →
    ∃ t, exec (.tapTakeEffect d ch) s = .next t ∧ t.chan d ch = { s.chan d ch with tap := tap, pend := none } ∧
      (∀ m, m < setCount d → (s.mset d m).st = 1 ∨ (s.mset d m).st = 2 → setStart d m s = ch →
        (t.mset d m).st = 3 ∧ (t.mset d m).error = 1) ∧
      (∀ m, (s.mset d m).st ≠ 1 → (s.mset d m).st ≠ 2 → t.mset d m = s.mset d m) ∧ Only [.com d .chans, .com d .msets,
        .com d .pgEvent, .com d .ic] s t) ∧
  (∀ d rq ch s, chanListed d ch = true → ReadTaken d rq (chanReg d ch).1 s → ∃ t, exec (.tdChRead d rq ch) s = .next t ∧
    t.response d rq = shown d ((chanReg d ch).1 * 4096 + (chanReg d ch).2) (chanWord d ch s) s ∧
    t.chan d ch = { s.chan d ch with missed := 0, invalid := 0 } ∧ (∀ j, j ≠ ch → t.chan d j = s.chan d j) ∧
    Only (pick d [.com .tsu .chans, .com .tsu .rsp] [.com .dxd .chans, .com .dxd .badAccess, .com .dxd .barCap,
      .com .dxd .barLow, .com .dxd .rsp]) s t)

/-- ARM writes the set's control and opens a window at the second multiple of 1,024 to come, or ends the set with its
error; ABORT ends an armed set with error 7; a repeat closes when all its stamps are there or after 64,000 beats; a
complete fit gives FIT_Y and FIT_PPT, and a void one an error. Cites: R100, R101, R102, R103, R104, R106, R108. -/
def Obligations.Measurements : Prop :=
  (∀ d rq m v s, m < setCount d → bit v 63 = true → WriteTaken d rq 0x02 (0x100 + 0x80 * m) s → (s.mset d m).st ≠ 1 →
    (s.mset d m).st ≠ 2 → fld v 60 2 = 1 → chanPresent d s (fld v 32 9) = true →
    (∀ k, k ∈ enabledStops d m s → chanPresent d s (setStop d m k s).2 = true) → 1 ≤ fld v 0 20 → fld v 0 20 ≤ 1000000 →
    s.regF d (setBase m + 0x18) 0 48 ≠ 0 →
    3 ≤ (fitRun (fld v 0 20) (s.regF d (setBase m + 0x18) 0 48) (prescale d (chanTap d s (fld v 32 9)))).1 →
    ∃ t, exec (.measurementArm d rq m v) s = .next t ∧ (t.mset d m).st = 1 ∧
      (t.mset d m).w = nextMult ((s.com d).tk.bc + 1024) ∧ (t.mset d m).count = 0 ∧ (t.mset d m).error = 0 ∧
      ((t.mset d m).n, (t.mset d m).fitD) =
        fitRun (fld v 0 20) (s.regF d (setBase m + 0x18) 0 48) (prescale d (chanTap d s (fld v 32 9))) ∧
      (∀ j, j ≠ m → t.mset d j = s.mset d j) ∧ Only (pick d [.com .tsu .msets, .com .tsu .regs] [.com .dxd .msets,
        .com .dxd .regs, .com .dxd .badAccess, .com .dxd .barCap, .com .dxd .barLow]) s t) ∧
  (∀ d rq m v s, m < setCount d → bit v 63 = true → WriteTaken d rq 0x02 (0x100 + 0x80 * m) s → (s.mset d m).st ≠ 1 →
    (s.mset d m).st ≠ 2 → fld v 60 2 = 0 → chanPresent d s (fld v 32 9) = true → enabledStops d m s ≠ [] →
    (∀ k, k ∈ enabledStops d m s → chanPresent d s (setStop d m k s).2 = true) →
    ∃ t, exec (.measurementArm d rq m v) s = .next t ∧ (t.mset d m).st = 1 ∧ (t.mset d m).n = 0 ∧
      (t.mset d m).w = nextMult ((s.com d).tk.bc + 1024) ∧ (∀ j, j ≠ m → t.mset d j = s.mset d j) ∧
      Only (pick d [.com .tsu .msets, .com .tsu .regs] [.com .dxd .msets, .com .dxd .regs, .com .dxd .badAccess,
        .com .dxd .barCap, .com .dxd .barLow]) s t) ∧
  (∀ d rq m v s, m < setCount d → bit v 63 = true → WriteTaken d rq 0x02 (0x100 + 0x80 * m) s → (s.mset d m).st ≠ 1 →
    (s.mset d m).st ≠ 2 →
    chanPresent d s (fld v 32 9) = false ∨ (∃ k, k ∈ enabledStops d m s ∧ chanPresent d s (setStop d m k s).2 = false) →
    ∃ t, exec (.measurementArm d rq m v) s = .next t ∧
      (t.mset d m).st = 3 ∧ (t.mset d m).error = 2 ∧ eventSet d 0x02 m t ∧ (∀ j, j ≠ m → t.mset d j = s.mset d j) ∧
      Only (pick d [.com .tsu .msets, .com .tsu .regs, .com .tsu .pgEvent, .com .tsu .ic] [.com .dxd .msets,
        .com .dxd .regs, .com .dxd .pgEvent, .com .dxd .badAccess, .com .dxd .ic, .com .dxd .barCap, .com .dxd .barLow]) s
        t) ∧
  (∀ d rq m v s, m < setCount d → bit v 62 = true → WriteTaken d rq 0x02 (0x100 + 0x80 * m) s →
    (s.mset d m).st = 1 ∨ (s.mset d m).st = 2 → ∃ t, exec (.measurementAbort d rq m v) s = .next t ∧
      t.mset d m = { s.mset d m with st := 3, error := 7 } ∧ eventSet d 0x02 m t ∧
      (∀ a, t.reg d a = s.reg d a) ∧ (∀ j, j ≠ m → t.mset d j = s.mset d j) ∧ Only (pick d [.com .tsu .msets,
        .com .tsu .pgEvent, .com .tsu .ic] [.com .dxd .msets, .com .dxd .pgEvent, .com .dxd .badAccess, .com .dxd .ic,
        .com .dxd .barCap, .com .dxd .barLow]) s t) ∧
  (∀ d m s, m < setCount d → setsHeld d s = false → (s.mset d m).st = 1 → (s.mset d m).w ≤ (s.com d).tk.bc →
    ∃ t, exec (.measurementWindowOpen d m) s = .next t ∧ t.mset d m = { s.mset d m with st := 2 } ∧
      (∀ j, j ≠ m → t.mset d j = s.mset d j) ∧ Only [.com d .msets] s t) ∧
  (∀ d m s, m < setCount d → setsHeld d s = false → (s.mset d m).st = 2 → (s.mset d m).n = 0 → (s.mset d m).w + 64000 ≤
    (s.com d).tk.bc →
    (s.mset d m).done < s.regF d (setBase m) 44 16 → ∃ t, exec (.measurementWindowClose d m) s = .next t ∧
      t.mset d m = { closeRepeat (enabledStops d m s) (s.mset d m) with st := 1, w := nextMult ((s.com d).tk.bc + 1) } ∧
      (t.mset d m).done = (s.mset d m).done + 1 ∧ (∀ j, j ≠ m → t.mset d j = s.mset d j) ∧ Only [.com d .msets] s t) ∧
  (∀ d m s, m < setCount d → setsHeld d s = false → (s.mset d m).st = 2 → (s.mset d m).n = 0 → (s.mset d m).w + 64000 ≤
    (s.com d).tk.bc →
    s.regF d (setBase m) 44 16 ≤ (s.mset d m).done → ∃ t, exec (.measurementWindowClose d m) s = .next t ∧
      (t.mset d m).st = 3 ∧ (t.mset d m).count = (closeRepeat (enabledStops d m s) (s.mset d m)).count ∧
      (t.mset d m).error = (if (t.mset d m).count = 0 then 3 else 0) ∧ eventSet d 0x02 m t ∧
      (∀ j, j ≠ m → t.mset d j = s.mset d j) ∧ Only [.com d .msets, .com d .pgEvent, .com d .ic] s t) ∧
  (∀ d m x s, s.mset d m = x → m < setCount d → setsHeld d s = false → x.st = 2 → x.n = 0 → x.start.isSome = true →
    (∀ k, k ∈ enabledStops d m s → (tabGet {} x.stops k).got.isSome = true) → x.done < s.regF d (setBase m) 44 16 →
    ∃ t, exec (.measurementWindowClose d m) s = .next t ∧
      t.mset d m = { closeRepeat (enabledStops d m s) x with st := 1, w := nextMult ((s.com d).tk.bc + 1) } ∧
      (t.mset d m).done = x.done + 1 ∧ (∀ j, j ≠ m → t.mset d j = s.mset d j) ∧ Only [.com d .msets] s t) ∧
  (∀ d m x s, s.mset d m = x → m < setCount d → setsHeld d s = false → x.st = 2 → x.n = 0 → x.start.isSome = true →
    (∀ k, k ∈ enabledStops d m s → (tabGet {} x.stops k).got.isSome = true) → s.regF d (setBase m) 44 16 ≤ x.done →
    ∃ t, exec (.measurementWindowClose d m) s = .next t ∧ (t.mset d m).st = 3 ∧
      (t.mset d m).count = (closeRepeat (enabledStops d m s) x).count ∧
      (t.mset d m).error = (if (t.mset d m).count = 0 then 3 else 0) ∧ eventSet d 0x02 m t ∧
      (∀ j, j ≠ m → t.mset d j = s.mset d j) ∧ Only [.com d .msets, .com d .pgEvent, .com d .ic] s t) ∧
  (∀ d m x s, s.mset d m = x → m < setCount d → setsHeld d s = false → x.st = 2 → 0 < x.n → x.n ≤ x.count → x.voidEdge =
    false → x.voidTime = false →
    0 < fitQ x.n x.s0 x.s1 → ∃ t, exec (.fitRunComplete d m) s = .next t ∧ (t.mset d m).st = 3 ∧ (t.mset d m).error = 0 ∧
      ((t.mset d m).fitY, (t.mset d m).fitPpt) = fitResult x.n x.fitD (prescale d (chanTap d s (setStart d m s)))
        (s.regF d (setBase m + 0x18) 0 48) x.s0 x.s1 ∧ eventSet d 0x02 m t ∧
      (∀ j, j ≠ m → t.mset d j = s.mset d j) ∧ Only [.com d .msets, .com d .pgEvent, .com d .ic] s t) ∧
  (∀ d m x s, s.mset d m = x → m < setCount d → setsHeld d s = false → x.st = 2 → 0 < x.n → x.voidEdge = true ∨ x.voidTime
    = true →
    ∃ t, exec (.fitRunComplete d m) s = .next t ∧
      t.mset d m = { x with st := 3, error := if x.voidEdge then 5 else 6 } ∧ eventSet d 0x02 (16 + m) t ∧
      (∀ j, j ≠ m → t.mset d j = s.mset d j) ∧ Only [.com d .msets, .com d .pgEvent, .com d .ic] s t)

/-- The followed input gives a servo sample at each multiple of 1,024; a frequency source or LOCAL loads a local origin; a
1PPS edge gives its offsets; a source with inputs qualifies after QUAL good seconds and is lost on a bad fit, two missed
pulses or lost edges of its 10 MHz input, which both sources on that input share; PTP has inputs in SLAVE alone; the
oscillator's own fit is taken again and again. Cites: R43, R110, R111, R112, R113, R116, R123. -/
def Obligations.ReferenceInputs : Prop :=
  (∀ stamp s, s.dc.tk.bc % 1024 ≠ 0 → exec (.referenceSample stamp) s = .next s) ∧
  (∀ stamp s u, rootRuns s = true → s.dc.tk.bc % 1024 = 0 → dxdReselect s = u → u.x.rf.followed = 0 ∨ u.x.rf.followed = 1 →
    bit (u.reg .dxd 0x10100) 1 = false → u.dc.tk.htValid = true → u.x.rf.fresh = false →
    ∃ t, exec (.referenceSample stamp) s = .next t ∧
      t.dc.coreA.e = wrap100 ((stamp : Int) - inputDelay u.x.rf.followed u) - u.dc.tk.r ∧
      t.dc.tk.sec = u.dc.tk.sec ∧ t.dc.tk.ns = u.dc.tk.ns ∧ t.dc.tk.frac = u.dc.tk.frac ∧ Only [.com .dxd .tk,
        .com .dxd .coreA, .com .dxd .coreB, .com .dxd .msets, .com .dxd .regs, .com .dxd .pgEvent, .com .dxd .ic,
        .com .dxd .hfits, .refs, .hold, .ptp, .attic] s t) ∧
  (∀ stamp s u, rootRuns s = true → s.dc.tk.bc % 1024 = 0 → dxdReselect s = u → 3 ≤ u.x.rf.followed → u.x.rf.followed ≤ 5 →
    bit (u.reg .dxd 0x10100) 1 = false → u.dc.tk.htValid = false → u.dc.tk.sideConflict = false →
    ∃ t, exec (.referenceSample stamp) s = .next t ∧ t.dc.tk.htValid = true ∧ t.dc.tk.sec = localSec u % 2 ^ 48 ∧
      t.dc.tk.ns = 0 ∧ t.dc.tk.frac = 0 ∧ t.dc.tk.originLocal = true ∧ t.dc.tk.traceable = false ∧ Only [.com .dxd .tk,
        .com .dxd .coreA, .com .dxd .coreB, .com .dxd .msets, .com .dxd .regs, .com .dxd .pgEvent, .com .dxd .ic,
        .com .dxd .hfits, .refs, .hold, .ptp, .attic] s t) ∧
  (∀ n stamp stamp10 s, rootRuns s = true → n < 2 → s.dc.tk.htValid = true →
    ∃ t, exec (.ppsEdge n stamp stamp10) s = .next t ∧
      (tabGet {} t.x.rf.src n).p = wrapSec ((stamp : Int) - inputDelay n s) ∧
      (tabGet {} t.x.rf.src n).q = some ((stamp : Int) - stamp10) ∧
      (tabGet {} t.x.rf.src n).ppsSeen = decide (((stamp : Int) - stamp10).natAbs ≤ (ppsWindow s).natAbs) ∧
      (tabGet {} t.x.rf.src n).qual = (tabGet {} s.x.rf.src n).qual ∧
      (∀ j, j ≠ n → tabGet {} t.x.rf.src j = tabGet {} s.x.rf.src j) ∧ Only [.refs] s t) ∧
  (∀ n s, rootRuns s = true → n < 2 → (tabGet {} s.x.rf.src n).ppsSeen = true → ∃ t, exec (.ppsWindowEnd n) s = .next t ∧
    tabGet {} t.x.rf.src n = { tabGet {} s.x.rf.src n with ppsSeen := false, misses := 0 } ∧
    (∀ j, j ≠ n → tabGet {} t.x.rf.src j = tabGet {} s.x.rf.src j) ∧ Only [.refs] s t) ∧
  (∀ n s, rootRuns s = true → n < 2 → (tabGet {} s.x.rf.src n).ppsSeen = false → s.qual n = 2 →
    ∃ t, exec (.ppsWindowEnd n) s = .next t ∧ bit t.x.hold.history 13 = true ∧
      ((tabGet {} s.x.rf.src n).misses = 0 → t.qual n = 2 ∧ (tabGet {} t.x.rf.src n).misses = 1) ∧
      (1 ≤ (tabGet {} s.x.rf.src n).misses → t.qual n = 3 ∧ bit t.x.hold.history n = true) ∧ Only [.com .dxd .tk,
        .com .dxd .coreA, .com .dxd .coreB, .com .dxd .msets, .com .dxd .pgEvent, .com .dxd .ic, .com .dxd .hfits, .refs,
        .hold, .ptp, .attic] s t) ∧
  (∀ n ppt s, rootRuns s = true → n < 5 → n ≠ 2 → s.qual n = 1 → fitEnd .dxd (fitInput (inputOf n)) s = some (some ppt) →
    ppt.natAbs ≤ freqLimitPpb s * 1000 → 3 ≤ n ∨ ((tabGet {} s.x.rf.src n).q.isSome = true ∧
      (tabGet {} s.x.rf.src n).secEdges = 1 ∧ (tabGet {} s.x.rf.src n).secBad = false) →
    ∃ t, exec (.referenceFitComplete n) s = .next t ∧
      (tabGet {} t.x.rf.src n).good = (tabGet {} s.x.rf.src n).good + 1 ∧
      t.qual n = (if qualSeconds s ≤ (tabGet {} s.x.rf.src n).good + 1 then 2 else 1) ∧ Only [.com .dxd .tk,
        .com .dxd .coreA, .com .dxd .coreB, .com .dxd .msets, .com .dxd .pgEvent, .com .dxd .ic, .com .dxd .hfits, .refs,
        .hold, .ptp, .attic] s t) ∧
  (∀ n y s, rootRuns s = true → n < 5 → n ≠ 2 → s.qual n = 2 → fitEnd .dxd (fitInput (inputOf n)) s = some y →
    ∃ t, exec (.referenceFitComplete n) s = .next t ∧
      ((∀ ppt, y = some ppt → ppt.natAbs ≤ freqLimitPpb s * 1000) → t.qual n = 2) ∧
      (∀ ppt, y = some ppt → freqLimitPpb s * 1000 < ppt.natAbs → t.qual n = 3 ∧ bit t.x.hold.history 12 = true) ∧
      Only [.com .dxd .tk, .com .dxd .coreA, .com .dxd .coreB, .com .dxd .msets, .com .dxd .pgEvent, .com .dxd .ic,
        .com .dxd .hfits, .refs, .hold, .ptp, .attic] s t) ∧
  (∀ n m s, rootRuns s = true → n < 5 → n ≠ 2 → m < 5 → m ≠ 2 → inputOf m = inputOf n → s.qual m = 1 ∨ s.qual m = 2 →
    ∃ t, exec (.referenceEdgeLoss n) s = .next t ∧
      t.qual m = (if s.qual m = 1 ∧ (tabGet {} s.x.rf.src m).everQual = false then 0 else 3) ∧
      (tabGet {} t.x.rf.src m).good = 0 ∧ t.hfit .dxd (fitInput (inputOf n)) = none ∧ Only [.com .dxd .tk,
        .com .dxd .coreA, .com .dxd .coreB, .com .dxd .msets, .com .dxd .pgEvent, .com .dxd .ic, .com .dxd .hfits, .refs,
        .hold, .ptp, .attic] s t) ∧
  (∀ n s, rootRuns s = true → n ≤ 5 → n ≠ 2 ∨ s.x.pt.i1.state = 9 → s.qual n = 0 ∨ s.qual n = 3 →
    ∃ t, exec (.referenceInputsPresent n) s = .next t ∧ t.qual n = (if n = 5 then 2 else 1) ∧
      (n < 5 → (tabGet {} t.x.rf.src n).good = 0 ∧ Only [.refs, .com .dxd .hfits] s t) ∧ Only [.com .dxd .tk,
        .com .dxd .coreA, .com .dxd .coreB, .com .dxd .msets, .com .dxd .pgEvent, .com .dxd .ic, .com .dxd .hfits, .refs,
        .hold, .ptp, .attic] s t) ∧
  (∀ s, s.x.pt.i1.state ≠ 9 → exec (.referenceInputsPresent 2) s = .next s) ∧
  (∀ s, s.x.hold.oscLost = false → inCellar .dxd s = false → s.hfit .dxd fitOsc = none →
    ∃ t, exec (.referenceInputsPresent 5) s = .next t ∧ (t.hfit .dxd fitOsc).any (fun g => g.ch == 198) = true ∧
      Only [.com .dxd .tk, .com .dxd .coreA, .com .dxd .coreB, .com .dxd .msets, .com .dxd .pgEvent, .com .dxd .ic,
        .com .dxd .hfits, .refs, .hold, .ptp, .attic] s t) ∧
  (∀ y s, s.x.hold.oscLost = false → inCellar .dxd s = false → fitEnd .dxd fitOsc s = some y →
    ∃ t, exec (.referenceFitComplete 5) s = .next t ∧ t.x.hold.oscPpt = y ∧ (t.hfit .dxd fitOsc).isSome = true ∧
      t.x.rf = s.x.rf ∧ Only [.hold, .com .dxd .hfits] s t)

/-- A write of RF_SEL switches to a qualified ACTIVE at once and waits for one that is not; a time of day is kept until HT
is loaded; every LOCKED second joins the holdover mean; FORCE_HOLDOVER takes the root to HOLDOVER; the first fit sets
the rate; OSC_LOSS silences the ports, clears HT_VALID and runs hall time on from 0. Cites: R111, R114, R125, R126,
R127, R129, R130, R131. -/
def Obligations.SelectionAndHoldover : Prop :=
  (∀ rq v s, WriteTaken .dxd rq 0x1E 0x100 s → s.x.straps.role = 2 → s.x.rf2.acting = true → s.x.rf.followed ≠ 0xE →
    fld v 16 4 < 6 → s.qual (fld v 16 4) = 2 → ∃ t, exec (.rfSelWrite rq v) s = .next t ∧
      t.x.rf.followed = fld v 16 4 ∧ t.x.rf.pendingActive = false ∧
      t.reg .dxd 0x1E100 = (v &&& 0x1FFFFF) ||| (s.reg .dxd 0x1E100 &&& ~~~0x1FFFFF) ∧ Only [.com .dxd .tk,
        .com .dxd .coreA, .com .dxd .coreB, .com .dxd .msets, .com .dxd .regs, .com .dxd .pgEvent, .com .dxd .badAccess,
        .com .dxd .lockRefused, .com .dxd .ic, .com .dxd .bt, .com .dxd .barCap, .com .dxd .barLow, .com .dxd .hfits,
        .refs, .hold, .ptp, .attic] s t) ∧
  (∀ rq v s, WriteTaken .dxd rq 0x1E 0x100 s → s.x.straps.role = 2 → s.x.rf2.acting = true → s.x.rf.followed < 6 →
    fld v 16 4 < 6 → s.qual (fld v 16 4) ≠ 2 → ∃ t, exec (.rfSelWrite rq v) s = .next t ∧
      t.x.rf.followed = s.x.rf.followed ∧ t.x.rf.pendingActive = true ∧ Only [.com .dxd .tk, .com .dxd .coreA,
        .com .dxd .coreB, .com .dxd .msets, .com .dxd .regs, .com .dxd .pgEvent, .com .dxd .badAccess,
        .com .dxd .lockRefused, .com .dxd .ic, .com .dxd .bt, .com .dxd .barCap, .com .dxd .barLow, .com .dxd .hfits,
        .refs, .hold, .ptp, .attic] s t) ∧
  (∀ rq n v s, n < 2 → WriteTaken .dxd rq 0x1E (0x120 + 0x10 * n) s → s.x.straps.role = 2 → s.dc.tk.htValid = false →
    ∃ t, exec (.rfTodWrite rq n v) s = .next t ∧ (tabGet {} t.x.rf.src n).tod = fld v 0 48 ∧
      (tabGet {} t.x.rf.src n).todValid = false ∧ (tabGet {} t.x.rf.src n).todAt = s.dc.up + 1 ∧
      (∀ j, j ≠ n → tabGet {} t.x.rf.src j = tabGet {} s.x.rf.src j) ∧ Only [.com .dxd .badAccess, .com .dxd .barCap,
        .com .dxd .barLow, .refs] s t) ∧
  (∀ rq n v s, n < 2 → WriteTaken .dxd rq 0x1E (0x120 + 0x10 * n) s → s.dc.tk.htValid = true →
    ∃ t, exec (.rfTodWrite rq n v) s = .next t ∧ t.x.rf = s.x.rf ∧ Only [.com .dxd .badAccess, .com .dxd .barCap,
      .com .dxd .barLow] s t) ∧
  (∀ s, s.x.hold.nY ≠ 0 → s.x.hold.meanSec ≠ s.dc.tk.sec → s.x.hold.skip = false → s.dc.coreA.st = 2 →
    s.x.hold.means.length ≤ 63 → ∃ t, exec (.holdoverMeanUpdate .dxd) s = .next t ∧
      t.x.hold.means = s.x.hold.means ++ [s.x.hold.sumY.tdiv s.x.hold.nY] ∧ t.x.hold.sumY = 0 ∧ t.x.hold.nY = 0 ∧
      t.x.hold.meanSec = s.dc.tk.sec ∧ (s.x.hold.means.length < 63 → t.x.hold.avail = s.x.hold.avail) ∧
      (s.x.hold.means.length = 63 → t.x.hold.avail = true ∧
        t.x.hold.rate = (t.x.hold.means.foldl (· + ·) 0).tdiv 64) ∧ Only [.hold] s t) ∧
  (∀ s, exec (.holdoverMeanUpdate .tsu) s = .next s) ∧
  (∀ s, s.x.hold.avail = true → s.dc.tk.state ≠ 3 → s.x.hold.lastRecord + 64000000000 ≤ s.dc.up →
    (∀ x, currentRecord s.x.at_ = some x → x.2.seq + 1 < 2 ^ 32) →
    ∃ t, exec .servoRecordWrite s = .next t ∧ t.x.hold.lastRecord = s.dc.up ∧
      (∃ x, currentRecord t.x.at_ = some x ∧ x.2.seq = (currentRecord s.x.at_).elim 1 (·.2.seq + 1) ∧
        x.2.rate = s.x.hold.rate ∧ x.2.sec = s.dc.tk.sec ∧ x.2.valid = true) ∧
      t.x.at_.bytes = s.x.at_.bytes ∧ Only [.hold, .attic] s t) ∧
  (∀ rq v s, bit v 0 = true → WriteTaken .dxd rq 0x10 0x100 s → s.x.straps.role ≠ 2 →
    (∀ x, currentRecord s.x.at_ = some x → x.2.seq + 1 < 2 ^ 32) → ∃ t, exec (.svSave rq v) s = .next t ∧
      (∃ x, currentRecord t.x.at_ = some x ∧ x.2.rate = s.x.hold.rate ∧ x.2.sec = s.dc.tk.sec) ∧
      t.x.hold.lastRecord = s.dc.up ∧ Only [.com .dxd .regs, .com .dxd .badAccess, .com .dxd .barCap, .com .dxd .barLow,
        .hold, .attic] s t) ∧
  (∀ rq v s, bit v 0 = true → WriteTaken .dxd rq 0x10 0x100 s → ∃ t, exec (.svSave rq v) s = .next t ∧
    bit (t.reg .dxd 0x10100) 1 = bit v 1 ∧ Only [.com .dxd .tk, .com .dxd .coreA, .com .dxd .coreB, .com .dxd .msets,
      .com .dxd .regs, .com .dxd .pgEvent, .com .dxd .badAccess, .com .dxd .lockRefused, .com .dxd .ic, .com .dxd .bt,
      .com .dxd .barCap, .com .dxd .barLow, .com .dxd .hfits, .refs, .hold, .ptp, .attic] s t) ∧
  (∀ rq v s, bit v 1 = true → WriteTaken .dxd rq 0x10 0x100 s → s.x.straps.role = 2 → s.dc.tk.htValid = true →
    inCellar .dxd s = false → s.dc.tk.sideline = false → ∃ t, exec (.svForceHoldoverWrite rq v) s = .next t ∧
      bit (t.reg .dxd 0x10100) 1 = true ∧ t.dc.tk.state = 3 ∧ t.dc.tk.rootHoldover = true ∧
      t.dc.tk.sec = s.dc.tk.sec ∧ t.dc.tk.ns = s.dc.tk.ns ∧ Only [.com .dxd .tk, .com .dxd .coreA, .com .dxd .coreB,
        .com .dxd .msets, .com .dxd .regs, .com .dxd .pgEvent, .com .dxd .badAccess, .com .dxd .lockRefused,
        .com .dxd .ic, .com .dxd .bt, .com .dxd .barCap, .com .dxd .barLow, .com .dxd .hfits, .refs, .hold, .ptp, .attic]
        s t) ∧
  (∀ d c ppt s, coreExists d c = true → setsHeld d s = false → (s.core d c).fit = true → (s.com d).tk.htValid = true →
    firstFit d c s = some (some ppt) → ∃ t, exec (.firstFitComplete d c) s = .next t ∧
      t.core d c = { s.core d c with fit := false, running := true, acc := ppt * (2 ^ 48 : Nat), y := ppt } ∧
      t.hfit d (fitFirst c) = none ∧ Only [.com d .coreA, .com d .coreB, .com d .hfits] s t) ∧
  (∀ c s, coreExists .tsu c = true → setsHeld .tsu s = false → (s.core .tsu c).fit = true → s.tc.tk.htValid = true →
    firstFit .tsu c s = some none →
    ∃ t, exec (.firstFitComplete .tsu c) s = .next t ∧
      t.hfit .tsu (fitFirst c) = some (newFit sofFit 976562500 1 1000 0) ∧ Only [.com .tsu .hfits] s t) ∧
  (∀ s, s.x.hold.oscLost = false → ∃ t, exec .oscLoss s = .next t ∧ t.x.hold.oscLost = true ∧ t.dc.tk.htValid = false ∧
    t.dc.tk.sec = 0 ∧ t.dc.tk.ns = 0 ∧ t.dc.tk.frac = 0 ∧
    (∀ p, (t.port .dxd p).st = 0 ∧ ((s.port .dxd p).st ≠ 0 → (t.port .dxd p).wire = none)) ∧
    bit t.x.hold.history 19 = true ∧ Only [.com .dxd .tk, .com .dxd .coreA, .com .dxd .coreB, .com .dxd .ports,
      .com .dxd .pgEvent, .com .dxd .ic, .com .dxd .hfits, .refs, .hold] s t) ∧
  (∀ s, s.x.hold.oscLost = true → ∃ t, exec .oscReturn s = .next t ∧ t.x.hold.oscLost = false ∧
    (∀ p, (t.port .dxd p).st = if (s.port .dxd p).enable = true ∧ (s.port .dxd p).st = 0 then 1 else (s.port .dxd p).st) ∧
    Only [.com .dxd .tk, .com .dxd .coreA, .com .dxd .coreB, .com .dxd .ports, .com .dxd .msets, .com .dxd .pgEvent,
      .com .dxd .ic, .com .dxd .hfits, .refs, .hold, .ptp, .attic] s t)

/-- An alignment within the window of R38 is stored for the selected outputs and one outside it raises the late-target
event; an output is re-phased at its beat; MISALIGNED follows the measured error with DELAY added; an output that is not
enabled or has not been aligned is low; the strobe marks every due kickoff that is not withdrawn. A one-step Sync of the
announced master that came by the configured transport gives offsetFromMaster from its origin, correction and arrival,
and takes an UNCALIBRATED instance to SLAVE; a one-step Sync leaves with its departure time; a slave without Announces
goes back to LISTENING and the PTP source is lost, as it is without Syncs; an instance that LISTENS has no announced
master, which every step keeps; PT_CTL restarts an instance whose role changes; the read of PT_PATH clears TX_CHECK.
Cites: R38, R113, R132, R133, R134, R136, R137, R138, R142, R182. -/
def Obligations.OutputsAndPtp : Prop :=
  (∀ rq v s, bit v 63 = true → bit v 62 = false → WriteTaken .dxd rq 0x11 0x110 s → s.dc.tk.htValid = true →
    inWindow s.dc.tk.bc (s.reg .dxd 0x11108).toNat = true → ∃ t, exec (.opAlignGo rq v) s = .next t ∧
      (∀ n, n < 3 → tabGet {} t.x.outs n = (if fld v 0 3 / 2 ^ n % 2 = 1 then
        { tabGet {} s.x.outs n with pend := some (s.reg .dxd 0x11108).toNat } else tabGet {} s.x.outs n)) ∧
      Only [.com .dxd .badAccess, .com .dxd .barCap, .com .dxd .barLow, .outs] s t) ∧
  (∀ rq v s, bit v 63 = true → WriteTaken .dxd rq 0x11 0x110 s → inWindow s.dc.tk.bc (s.reg .dxd 0x11108).toNat = false →
    ∃ t, exec (.opAlignGo rq v) s = .next t ∧ t.x.outs = s.x.outs ∧ eventSet .dxd 0x00 6 t ∧ Only [.com .dxd .pgEvent,
      .com .dxd .badAccess, .com .dxd .ic, .com .dxd .barCap, .com .dxd .barLow] s t) ∧
  (∀ p h ep f s, Accepts .dxd p h ⟨ep, .align f⟩ s → oseqNew .dxd f.oseq s = true → s.dc.tk.htValid = true →
    ∃ t, exec (.alignReceive p h ep f) s = .next t ∧ (t.com .dxd).oseq = some (f.oseq, s.dc.up) ∧
      (∀ n, n < 3 → f.outputs / 2 ^ n % 2 = 1 →
        (tabGet {} t.x.outs n).pend = some (extend48 s.dc.tk.bc f.at48)) ∧
      (t.port .dxd p).rel.seqRx = h.seq ∧ Only [.com .dxd .ports, .com .dxd .oseq, .outs] s t) ∧
  (∀ n at_ s, n < 3 → (tabGet {} s.x.outs n).pend = some at_ → reached s.dc.tk.bc (at_ % 2 ^ 48) = true →
    ∃ t, exec .outputAlignment s = .next t ∧ (tabGet {} t.x.outs n).aligned = true ∧
      (tabGet {} t.x.outs n).alignedAt = s.dc.tk.bc ∧ (tabGet {} t.x.outs n).pend = none ∧
      (tabGet {} t.x.outs n).delay = sx 32 (s.regF .dxd (0x11120 + 8 * n) 0 32) ∧ eventSet .dxd 0x11 n t ∧
      Only [.com .dxd .pgEvent, .com .dxd .ic, .outs] s t) ∧
  (∀ e0 e1 e2 s, ∃ t, exec (.outputErrorMeasure e0 e1 e2) s = .next t ∧
    (∀ n, n < 3 → (tabGet {} t.x.outs n).error = satS 32 ([e0, e1, e2].getD n 0 + (tabGet {} s.x.outs n).delay) ∧
      (tabGet {} t.x.outs n).misaligned = (decide (65536 < ([e0, e1, e2].getD n 0 + (tabGet {} s.x.outs n).delay).natAbs) ||
        (tabGet {} s.x.outs n).delayWritten) ∧
      ((tabGet {} t.x.outs n).misaligned = true → (tabGet {} s.x.outs n).misaligned = false →
        eventSet .dxd 0x11 (3 + n) t)) ∧ Only [.com .dxd .pgEvent, .com .dxd .ic, .outs] s t) ∧
  (∀ n s, (tabGet {} s.x.outs n).aligned = false ∨ bit (s.reg .dxd 0x11100) n = false → outputHigh n s = false) ∧
  (∀ k s, k ∈ s.x.kicks → k.strobed = false → k.withdrawn = false → k.k ≤ s.dc.tk.bc →
    ∃ t, exec .stepFrameStrobe s = .next t ∧ { k with strobed := true } ∈ t.x.kicks ∧ t.x.strobeAt = s.dc.tk.bc ∧
      t.x.kicks.length = s.x.kicks.length ∧ Only [.kicks, .strobe] s t) ∧
  (∀ m stamp a s, ptpRuns 2 s = true → m.domain = s.regF .dxd 0x12100 16 8 → ptpRole 2 s = 1 → m.kind = .delayReq →
    netMatches 2 m s = true → peerDelay s = false →
    a = (m.seq, rxTime stamp s) → ∃ t, exec (.ptpMessageReceive 2 m stamp) s = .next t ∧ t.x.pt.i2.rxReq = some a ∧
      t.x.pt.i1 = s.x.pt.i1 ∧ t.x.pt.txCheck = s.x.pt.txCheck ∧ Only [.ptp] s t) ∧
  (∀ m stamp a s, ptpRuns 1 s = true → m.domain = s.regF .dxd 0x12100 16 8 → ptpRole 1 s = 2 → m.kind = .sync →
    netMatches 1 m s = true → m.twoStep = false → s.x.pt.i1.ann = some a → a.source = m.source → s.x.pt.i1.state = 8 →
    ∃ t, exec (.ptpMessageReceive 1 m stamp) s = .next t ∧ t.x.pt.i1.t1 = nsLsb m.ts + m.correction ∧
      t.x.pt.i1.t2 = rxTime stamp s ∧
      t.x.pt.i1.offset = rxTime stamp s - (nsLsb m.ts + m.correction) - s.x.pt.i1.meanPath ∧
      t.x.pt.i1.state = 9 ∧ t.x.pt.i1.slaveFrom = s.dc.up ∧ t.x.pt.i1.slaveSecs = 1 ∧ eventSet .dxd 0x12 0 t ∧
      t.qual 2 = (if s.qual 2 = 0 ∨ s.qual 2 = 3 then 1 else s.qual 2) ∧ t.x.pt.i2 = s.x.pt.i2 ∧ Only [.com .dxd .tk,
        .com .dxd .coreA, .com .dxd .coreB, .com .dxd .msets, .com .dxd .regs, .com .dxd .pgEvent, .com .dxd .ic,
        .com .dxd .hfits, .refs, .hold, .ptp, .attic] s t) ∧
  (∀ m stamp a s, ptpRuns 1 s = true → m.domain = s.regF .dxd 0x12100 16 8 → ptpRole 1 s = 2 → m.kind = .sync →
    netMatches 1 m s = true → m.twoStep = false → s.x.pt.i1.ann = some a → a.source = m.source → s.x.pt.i1.state = 9 →
    ∃ t, exec (.ptpMessageReceive 1 m stamp) s = .next t ∧ t.x.pt.i1.t1 = nsLsb m.ts + m.correction ∧
      t.x.pt.i1.t2 = rxTime stamp s ∧
      t.x.pt.i1.offset = rxTime stamp s - (nsLsb m.ts + m.correction) - s.x.pt.i1.meanPath ∧
      t.x.pt.i1.state = 9 ∧ t.x.pt.i1.syncAt = s.dc.up ∧ t.x.pt.i1.ann = some a ∧ t.x.pt.i2 = s.x.pt.i2 ∧
      Only [.com .dxd .tk, .com .dxd .coreA, .com .dxd .coreB, .com .dxd .msets, .com .dxd .regs, .com .dxd .pgEvent,
        .com .dxd .ic, .com .dxd .hfits, .refs, .hold, .ptp, .attic] s t) ∧
  (∀ inst m stamp s, ptpRuns inst s = false ∨ netMatches inst m s = false ∨ mechUses m.kind s = false → exec
    (.ptpMessageReceive inst m stamp) s = .next s) ∧
  (∀ m tm stamp s, ptpRuns 2 s = true → ptpRole 2 s = 1 → s.x.pt.i2.state = 6 → m.kind = .sync →
    bit (s.reg .dxd 0x12100) 28 = false → ∃ t, exec (.ptpMessageTransmit 2 m tm stamp) s = .next t ∧
      t.x.pt.i2.sent.map (·.ts) = some (nsOf (txTime tm s)) ∧ t.x.pt.i2.sent.map (·.source) = some (portIdentity 2 s) ∧
      t.x.pt.i2.sent.map (·.correction) = some (m.correction + fracOf (txTime tm s)) ∧
      t.x.pt.i2.sent.map (·.net) = some (netOf 2 .sync true s) ∧
      t.x.pt.txCheck = max s.x.pt.txCheck (min 0xFFFFFFFF (txTime tm s - stamp).natAbs) ∧ t.x.pt.i1 = s.x.pt.i1 ∧
      Only [.ptp] s t) ∧
  (∀ s, s.x.pt.i1.state = 8 → s.x.pt.i1.annAt + announceTimeout s * intervalBeats (logAnnounce s) ≤ s.dc.up →
    s.x.straps.role = 2 → ∃ t, exec .ptpAnnounceTimeout s = .next t ∧ t.x.pt.i1.state = 4 ∧ t.x.pt.i1.ann = none ∧
      t.x.pt.i2 = s.x.pt.i2 ∧ eventSet .dxd 0x12 0 t ∧ Only [.com .dxd .pgEvent, .com .dxd .ic, .ptp] s t) ∧
  (∀ s, s.x.pt.i1.state = 9 → s.x.pt.i1.annAt + announceTimeout s * intervalBeats (logAnnounce s) ≤ s.dc.up →
    s.x.straps.role = 2 → ∃ t, exec .ptpAnnounceTimeout s = .next t ∧ t.x.pt.i1.state = 4 ∧ t.x.pt.i1.ann = none ∧
      (s.qual 2 = 2 → t.qual 2 = 3) ∧
      (s.qual 2 = 1 → t.qual 2 = if (tabGet {} s.x.rf.src 2).everQual = true then 3 else 0) ∧
      t.x.pt.i2 = s.x.pt.i2 ∧ eventSet .dxd 0x12 0 t ∧ Only [.com .dxd .tk, .com .dxd .coreA, .com .dxd .coreB,
        .com .dxd .msets, .com .dxd .pgEvent, .com .dxd .ic, .com .dxd .hfits, .refs, .hold, .ptp, .attic] s t) ∧
  (∀ s, s.x.pt.i1.state = 9 → s.dc.up < s.x.pt.i1.annAt + announceTimeout s * intervalBeats (logAnnounce s) →
    s.x.pt.i1.syncAt + 3 * intervalBeats (logSync s) ≤ s.dc.up → s.x.straps.role = 2 →
    ∃ t, exec .ptpAnnounceTimeout s = .next t ∧ t.x.pt.i1.state = 9 ∧ t.x.pt.i1.ann = s.x.pt.i1.ann ∧
      t.x.pt.i1.slaveSecs = 0 ∧ (s.qual 2 = 2 → t.qual 2 = 3) ∧ t.x.pt.i2 = s.x.pt.i2 ∧ Only [.com .dxd .tk,
        .com .dxd .coreA, .com .dxd .coreB, .com .dxd .msets, .com .dxd .pgEvent, .com .dxd .ic, .com .dxd .hfits, .refs,
        .hold, .ptp, .attic] s t) ∧
  PtpListens State.reset ∧ (∀ s t, PtpListens s → step s = .next t → PtpListens t) ∧
  (∀ rq v s, WriteTaken .dxd rq 0x12 0x100 s → s.x.straps.role = 2 → fld v 16 8 ≤ 127 → fld v 26 2 = 1 →
    s.regF .dxd 0x12100 26 2 = 0 → s.x.pt.i2.state = 3 → ∃ t, exec (.ptCtlWrite rq v) s = .next t ∧
      t.regF .dxd 0x12100 26 2 = 1 ∧ t.regF .dxd 0x12100 16 8 = fld v 16 8 ∧ t.x.pt.i2.state = 1 ∧
      t.x.pt.i2.ann = none ∧ Only [.com .dxd .tk, .com .dxd .coreA, .com .dxd .coreB, .com .dxd .msets, .com .dxd .regs,
        .com .dxd .pgEvent, .com .dxd .badAccess, .com .dxd .lockRefused, .com .dxd .ic, .com .dxd .bt, .com .dxd .barCap,
        .com .dxd .barLow, .com .dxd .hfits, .refs, .hold, .ptp, .attic] s t) ∧
  (∀ rq s, ReadTaken .dxd rq 0x12 s → ∃ t, exec (.ptPathRead rq) s = .next t ∧
    t.response .dxd rq = shown .dxd 0x12138 (ptPathWord s) s ∧ t.x.pt = { s.x.pt with txCheck := 0 } ∧
    Only [.com .dxd .badAccess, .com .dxd .barCap, .com .dxd .barLow, .com .dxd .rsp, .ptp] s t) ∧
  (∀ up s, s.x.straps.role = 2 → s.x.pt.linkUp ≠ up → ∃ t, exec (.ptpLinkChange up) s = .next t ∧
    t.x.pt = { s.x.pt with linkUp := up } ∧ eventSet .dxd 0x12 2 t ∧ Only [.com .dxd .pgEvent, .com .dxd .ic, .ptp] s t)

/-- At every multiple of 1,024 from READY on each served bay is sent the correction B = BC, which its next edge takes,
forward or as a debt, with the latch of U, and its return delay and canary code are sampled; every other edge adds INC x
n / 64 less the debt; a gate's end gives the next INC and kills a bay whose rate is off by more than the tolerance; a
bay without edges dies; a period of a bay, dead or not, counts and moves the slip of its crossings that are not held.
Cites: R57, R58, R145, R146, R147, R148, R149, R150, R158, R159, R369. -/
def Obligations.BayCorrections : Prop :=
  (∀ rets canary s, s.tc.tk.bc % 1024 ≠ 0 → exec (.bayCorrection rets canary) s = .next s) ∧
  (∀ s, s.tc.boot.stage = 6 → s.tc.tk.bc % 1024 = 0 → ∃ t, exec (.bayCorrection [] []) s = .next t ∧
    (∀ b, bayServed s b = true → t.bay b = { s.bay b with
      pendCorr := some s.tc.tk.bc, corr := some s.tc.tk.bc, gateN := (s.bay b).gateN + 1,
      inc := if sliceIsolated s 4 then (s.bay b).inc else (s.bay b).incNext.getD (s.bay b).inc,
      incNext := if sliceIsolated s 4 then (s.bay b).incNext else none }) ∧
    (∀ b, bayServed s b = false → t.bay b = s.bay b) ∧ Only [.bays] s t) ∧
  (∀ rets canary s, s.tc.boot.stage = 6 → s.tc.tk.bc % 1024 = 0 → ∃ t, exec (.bayCorrection rets canary) s = .next t ∧
    (∀ b, bayServed s b = true → (t.bay b).pendCorr = some s.tc.tk.bc ∧ (t.bay b).corr = some s.tc.tk.bc ∧
      (t.bay b).gateN = (s.bay b).gateN + 1 ∧ (t.bay b).lbc = (s.bay b).lbc ∧
      (∀ v, rets.filter (fun r => r.bay == b) = [⟨b, v⟩] →
        ((s.bay b).pathN = 63 → (t.bay b).path = ((s.bay b).pathSum + v) / 128 % 2 ^ 24 ∧ (t.bay b).pathN = 0 ∧
          (t.bay b).pathSum = 0) ∧
        ((s.bay b).pathN ≠ 63 → (t.bay b).path = (s.bay b).path ∧ (t.bay b).pathN = (s.bay b).pathN + 1 ∧
          (t.bay b).pathSum = (s.bay b).pathSum + v)) ∧
      (rets.filter (fun r => r.bay == b) = [] → (t.bay b).path = (s.bay b).path ∧ (t.bay b).pathN = (s.bay b).pathN ∧
        (t.bay b).pathSum = (s.bay b).pathSum) ∧
      (∀ v, canary.filter (fun r => r.bay == b) = [⟨b, v⟩] → tabGet 0 t.tc.bt.margin b = v % 256 ∧
        tabGet 255 t.tc.bt.low b = min (tabGet 255 s.tc.bt.low b) (v % 256) ∧
        (bayAdaptive s b = false → v % 256 < ptMargin s b (s.bay b).cur → eventSet .tsu 0x0D 3 t)) ∧
      (canary.filter (fun r => r.bay == b) = [] → tabGet 0 t.tc.bt.margin b = tabGet 0 s.tc.bt.margin b ∧
        tabGet 255 t.tc.bt.low b = tabGet 255 s.tc.bt.low b)) ∧
    (∀ b, bayServed s b = false → t.bay b = s.bay b) ∧ Only [.com .tsu .pgEvent, .com .tsu .ic, .com .tsu .bt, .bays] s t) ∧
  (∀ b s, bayServed s b = true → incGate s b ≤ (s.bay b).gateN → (s.bay b).pendCorr = none →
    ∀ u0 du db, (s.bay b).gateU = some u0 → du = ((s.bay b).latchU + 2 ^ 54 - u0) % 2 ^ 54 → du ≠ 0 →
    db = (s.bay b).latchB - (s.bay b).gateB → ∃ t, exec (.incGateEnd b) s = .next t ∧
      (t.bay b).incNext = some ((2 ^ 30 * db + du / 2) / du % 2 ^ 32) ∧ (t.bay b).gateB = (s.bay b).latchB ∧
      (t.bay b).gateU = some (s.bay b).latchU ∧ (t.bay b).gateN = 0 ∧
      (((du * 1000 : Nat) - (64 * db * bayMhz s b : Nat) : Int).natAbs * 1000000 ≤
          orOne (s.regF .tsu 0x3100 0 12) * (64 * db * bayMhz s b) →
        (t.bay b).dead = false ∧ OtherBays b s t ∧ Only [.bays] s t) ∧
      (orOne (s.regF .tsu 0x3100 0 12) * (64 * db * bayMhz s b) <
          ((du * 1000 : Nat) - (64 * db * bayMhz s b : Nat) : Int).natAbs * 1000000 →
        (t.bay b).dead = true ∧ eventSet .tsu 0x03 (32 + b) t) ∧ Only [.com .tsu .tk, .com .tsu .ports,
          .com .tsu .pgEvent, .com .tsu .ic, .com .tsu .hfits, .steps, .member, .cue, .signals, .huddles, .keyPort,
          .tallies, .bays] s t) ∧
  (∀ b y s, bayExists s b = true → setsHeld .tsu s = false → fitEnd .tsu (fitBay b) s = some y → ∃ t, exec (.bayFitGateEnd
    b) s = .next t ∧
    t.bay b = { s.bay b with fit := y.getD (s.bay b).fit } ∧
    (∃ g, t.hfit .tsu (fitBay b) = some (newFit (0x10 + b) (bayMhz s b * 10 ^ 9) 1024 g (nextMult s.tc.tk.bc))) ∧
    OtherBays b s t ∧ Only [.bays, .com .tsu .hfits] s t) ∧
  (∀ b s, bayExists s b = true → (s.bay b).refLoss = false → s.tc.fuse.kind ≠ .w → ∃ t, exec (.bayRefLoss b) s = .next t ∧
    t.bay b = { s.bay b with refLoss := true } ∧ eventSet .tsu 0x03 (16 + b) t ∧ OtherBays b s t ∧ Only
      [.com .tsu .pgEvent, .com .tsu .ic, .bays] s t) ∧
  (∀ b s, bayExists s b = true → ∃ t, exec (.bayRefLossEnd b) s = .next t ∧
    t.bay b = { s.bay b with refLoss := false } ∧ OtherBays b s t ∧ Only [.bays] s t) ∧
  (∀ b s, bayExists s b = true → (s.bay b).dead = false → (s.bay b).stopped = false →
    ∃ t, exec (.bayNoEdgeTimeout b) s = .next t ∧ (t.bay b).dead = true ∧ (t.bay b).lbcValid = false ∧
      eventSet .tsu 0x03 (32 + b) t ∧ (s.t.mem.epoch ≠ 0 → t.tc.tk.sideline = true) ∧ Only [.com .tsu .tk,
        .com .tsu .ports, .com .tsu .pgEvent, .com .tsu .ic, .com .tsu .hfits, .steps, .member, .cue, .signals, .huddles,
        .keyPort, .tallies, .bays] s t) ∧
  (∀ b s, (s.bay b).stopped = true → exec (.bayNoEdgeTimeout b) s = .next s) ∧
  (∀ b n s, bayExists s b = true → (s.bay b).stopped = false → (bayAdaptive s b = true ∧ 64 ≤ n ∧ n ≤ 96) ∨ (bayAdaptive s
    b = false ∧ n = 64) →
    ∃ t, exec (.bayPeriodReport [⟨b, n⟩]) s = .next t ∧ (t.bay b).edges = ((s.bay b).edges + 1) % 2 ^ 48 ∧
      (t.bay b).u = ((s.bay b).u + n) % 2 ^ 54 ∧ (t.bay b).units = ((s.bay b).units + (n - 64)) % 2 ^ 32 ∧
      (∀ c, (s.bay b).pendCorr = some c → (t.bay b).lbcValid = true ∧ (t.bay b).pendCorr = none ∧
        (t.bay b).latchB = c ∧ (t.bay b).latchU = (s.bay b).u ∧
        ((s.bay b).lbc ≤ c % 2 ^ 64 * 2 ^ 24 → (t.bay b).lbc = c % 2 ^ 64 * 2 ^ 24 ∧ (t.bay b).debt = 0) ∧
        (c % 2 ^ 64 * 2 ^ 24 < (s.bay b).lbc →
          (t.bay b).lbc = (s.bay b).lbc ∧ (t.bay b).debt = (s.bay b).lbc - c % 2 ^ 64 * 2 ^ 24)) ∧
      ((s.bay b).pendCorr = none → ∀ step, step = (s.bay b).inc * n / 64 →
        (step ≤ (s.bay b).debt → (t.bay b).lbc = (s.bay b).lbc ∧ (t.bay b).debt = (s.bay b).debt - step) ∧
        ((s.bay b).debt < step → (t.bay b).lbc = ((s.bay b).lbc + step - (s.bay b).debt) % 2 ^ 88 ∧ (t.bay b).debt = 0)) ∧
      (∀ c, c < 32 → ∀ r, r = slip (if xcReceiver (s.xing c).cfg = b then some n else none)
          (if xcSender (s.xing c).cfg = b then some n else none) (s.xing c) →
        xcReceiver (s.xing c).cfg = b ∨ xcSender (s.xing c).cfg = b → xcValid (s.xing c).cfg = true →
        xingHeld (s.xing c) s = false → t.xing c = r.1 ∧ (r.2 = true → eventSet .tsu 0x03 52 t)) ∧
      (∀ c, xcValid (s.xing c).cfg = false ∨ xingHeld (s.xing c) s = true ∨
        (xcReceiver (s.xing c).cfg ≠ b ∧ xcSender (s.xing c).cfg ≠ b) → t.xing c = s.xing c) ∧
      OtherBays b s t ∧ Only [.com .tsu .pgEvent, .com .tsu .ic, .bays] s t)

/-- A monitor report sets the bay's demand and temperature (an adaptive bay's demand pins are tied to 0); once the
crossings are empty every member gets its new frequency and a stop request; it acknowledges (as it does the stop request
of DARK), resumes at the new point with an immediate correction, or dies when it is late; a crossing that would join two
sets, and a set that would split one, is refused; reads of the counts clear them. Cites: R151, R152, R153, R154, R155,
R156, R160, R162. -/
def Obligations.BayChanges : Prop :=
  (∀ b point urgent temp s, bayExists s b = true → ∃ t, exec (.bayMonitorReport b point urgent temp) s = .next t ∧
    t.bay b = { s.bay b with
      temp := temp, mon := (if bayAdaptive s b then 0 else point % 16), urgent := (urgent && !bayAdaptive s b),
        urgentChanges := (t.bay b).urgentChanges } ∧
    (∀ j, j ≠ b → t.bay j = { s.bay j with urgentChanges := (t.bay j).urgentChanges }) ∧ Only [.com .tsu .pgEvent,
      .com .tsu .ic, .bays] s t) ∧
  (∀ n a s, (s.baySet n).phase = 1 → a ∈ (s.baySet n).members → (s.bay a).dead = false →
    ∃ t, exec (.crossingDrained n) s = .next t ∧
      (t.baySet n).phase = 2 ∧ (t.baySet n).since = s.tc.up ∧
      (t.baySet n).acked = ((s.baySet n).members.filter (fun b => (s.bay b).stopped)).map (fun b => (b, s.tc.up)) ∧
      (∀ b, b ∈ (s.baySet n).members → (s.bay b).dead = false → (t.bay b).freq = ptFreq s b (s.baySet n).point ∧
        (t.bay b).stopReq = true ∧ (t.bay b).cur = (s.bay b).cur ∧ t.hfit .tsu (fitBay b) = none) ∧
      (∀ b, b ∉ (s.baySet n).members ∨ (s.bay b).dead = true → t.bay b = s.bay b) ∧
      (∀ m, m ≠ n → t.baySet m = s.baySet m) ∧ Only [.bays, .com .tsu .hfits] s t) ∧
  (∀ b n s, n = (changeOf s b).getD (baySetOf s b) → bayServed s b = true → (s.baySet n).phase = 2 →
    (∀ a, a ∈ (s.baySet n).acked → a.1 ≠ b) → ∃ t, exec (.bayStopAck b) s = .next t ∧
      t.bay b = { s.bay b with stopped := true } ∧
      (t.baySet n).acked = (s.baySet n).acked ++ [(b, s.tc.up)] ∧ OtherBays b s t ∧ Only [.bays] s t) ∧
  (∀ b s, bayServed s b = true → (s.bay b).stopReq = true → (s.baySet ((changeOf s b).getD (baySetOf s b))).phase ≠ 2 →
    ∃ t, exec (.bayStopAck b) s = .next t ∧ t.bay b = { s.bay b with stopped := true } ∧ (∀ m, t.baySet m = s.baySet m) ∧
      OtherBays b s t ∧ Only [.bays] s t) ∧
  (∀ b n x at_ s, n = (changeOf s b).getD (baySetOf s b) → x = s.baySet n → bayExists s b = true → (s.bay b).dead = false →
    (s.bay b).stopped = true → x.phase = 2 → (b, at_) ∈ x.acked → ∃ t, exec (.bayResume b) s = .next t ∧
      (t.bay b).stopped = false ∧ (t.bay b).stopReq = s.t.st.dark ∧ (t.bay b).cur = x.point ∧ (t.bay b).mhz = none ∧
      (t.bay b).inc = commandedInc (ptFreq s b x.point) ∧ (t.bay b).corr = some s.tc.tk.bc ∧
      (t.bay b).pendCorr = some s.tc.tk.bc ∧ (t.bay b).gateN = 0 ∧ (t.bay b).gateB = s.tc.tk.bc ∧
      (t.hfit .tsu (fitBay b)).isSome = true ∧ tabGet 0 t.tc.bt.margin b = Config.canaryCode b s.tc.up % 256 ∧
      ((∃ j, j ∈ x.members ∧ (s.bay j).dead = false ∧ j ≠ b ∧ j ∉ x.resumed) → (t.baySet n).resumed = x.resumed ++ [b] ∧
        (t.baySet n).phase = 2) ∧ Only [.com .tsu .pgEvent, .com .tsu .ic, .com .tsu .bt, .com .tsu .hfits, .bays] s t) ∧
  (∀ b x s, x = s.baySet ((changeOf s b).getD (baySetOf s b)) → bayExists s b = true → (s.bay b).dead = false → x.phase =
    2 →
    (∀ a, a ∈ x.acked → a.1 ≠ b) → x.since + 64 ≤ s.tc.up → ∃ t, exec (.bayChangeTimeout b) s = .next t ∧
      (t.bay b).dead = true ∧ eventSet .tsu 0x03 (32 + b) t ∧ Only [.com .tsu .tk, .com .tsu .ports, .com .tsu .pgEvent,
        .com .tsu .ic, .com .tsu .hfits, .steps, .member, .cue, .signals, .huddles, .keyPort, .tallies, .bays] s t) ∧
  (∀ rq c v s, c < 32 → WriteTaken .tsu rq 0x03 (0xE00 + 8 * c) s →
    bit v 63 = false ∨ baySetOf s (xcSender v) = baySetOf s (xcReceiver v) → ∃ t, exec (.byXcWrite rq c v) s = .next t ∧
      t.reg .tsu (0x3E00 + 8 * c) = (v &&& wd [(63, 1), (52, 15), (48, 15)]) |||
        (s.reg .tsu (0x3E00 + 8 * c) &&& ~~~(wd [(63, 1), (52, 15), (48, 15)])) ∧
      (noEpoch s = true → (t.xing c).cfg = t.reg .tsu (0x3E00 + 8 * c) ∧ (t.xing c).slip = 0 ∧
        (t.xing c).sndHold = 0 ∧ (t.xing c).rcvSkip = 0) ∧
      (noEpoch s = false → t.xing c = s.xing c) ∧ Only [.com .tsu .regs, .bays] s t) ∧
  (∀ rq c v s, c < 32 → WriteTaken .tsu rq 0x03 (0xE00 + 8 * c) s → bit v 63 = true →
    baySetOf s (xcSender v) ≠ baySetOf s (xcReceiver v) → ∃ t, exec (.byXcWrite rq c v) s = .next t ∧
      (∀ a, t.reg .tsu a = s.reg .tsu a) ∧ eventSet .tsu 0x03 50 t ∧ Only [.com .tsu .pgEvent, .com .tsu .ic] s t) ∧
  (∀ rq b v s, b < 16 → WriteTaken .tsu rq 0x03 (0x200 + 0x40 * b) s → bayExists s b = true →
    fld v 8 4 = baySetOf s b ∨ splitsCrossing s b (fld v 8 4) = false →
    ∃ t, exec (.byBayCfgWrite rq b v) s = .next t ∧ bayReq t b = fld v 0 4 ∧ baySetOf t b = fld v 8 4 ∧
      bayMonEn t b = (bit v 12 && !bayAdaptive s b) ∧ (∀ a, a ≠ 0x3200 + 0x40 * b → t.reg .tsu a = s.reg .tsu a) ∧
      Only [.com .tsu .regs, .com .tsu .pgEvent, .com .tsu .ic, .bays] s t) ∧
  (∀ rq b v s, b < 16 → WriteTaken .tsu rq 0x03 (0x200 + 0x40 * b) s → bayExists s b = true → fld v 8 4 ≠ baySetOf s b →
    splitsCrossing s b (fld v 8 4) = true → ∃ t, exec (.byBayCfgWrite rq b v) s = .next t ∧
      (∀ a, t.reg .tsu a = s.reg .tsu a) ∧ eventSet .tsu 0x03 50 t ∧ Only [.com .tsu .pgEvent, .com .tsu .ic] s t) ∧
  (∀ rq b pt v s, b < 16 → pt < 16 → WriteTaken .tsu rq 0x03 (0x600 + 0x80 * b + 8 * pt) s → bayExists s b = true →
    ∃ t, exec (.bayTableWrite rq b pt v) s = .next t ∧ ptFreq t b pt = fld v 0 12 ∧ ptMargin t b pt = fld v 24 8 ∧
      ptValid t b pt = bit v 63 ∧ (∀ a, a ≠ ptAddr b pt → t.reg .tsu a = s.reg .tsu a) ∧
      (tableBad t b = true → eventSet .tsu 0x03 51 t) ∧ Only [.com .tsu .regs, .com .tsu .pgEvent, .com .tsu .ic, .bays] s
        t) ∧
  (∀ rq b s, b < 16 → ReadTaken .tsu rq 0x03 s → ∃ t, exec (.byChangesRead rq b) s = .next t ∧
    t.response .tsu rq = shown .tsu (0x3000 + (0x200 + 0x40 * b + 0x30)) (changesWord (s.bay b)) s ∧
    t.bay b = { s.bay b with changes := 0, urgentChanges := 0, deferred := 0, recentresSkipped := 0 } ∧
    OtherBays b s t ∧ Only [.com .tsu .rsp, .bays] s t) ∧
  (∀ rq c s, c < 32 → ReadTaken .tsu rq 0x03 s → ∃ t, exec (.byXcRead rq c) s = .next t ∧
    t.response .tsu rq = shown .tsu (0x3000 + (0xE00 + 8 * c)) (xcWord c s) s ∧
    t.xing c = { s.xing c with stalls := 0, peak := 0 } ∧ (∀ j, j ≠ c → t.xing j = s.xing j) ∧
    Only [.com .tsu .rsp, .bays] s t)

/-- An ARM of the expected step arms it unless R174 refuses it, and one that names an ARMED step with a later kickoff
re-times it; a DX-D notes the kickoff and forwards the frame; a CALL_OFF withdraws every step at or above its STEP, but
a step decided to fire whose K has come is launched first; a CENSUS_DN marks its step and frees its census slot. Cites:
R173, R174, R175, R177, R182, R186, R187, R188, R237. -/
def Obligations.ArmAndCallOff : Prop :=
  (∀ p h ep f s, Accepts .tsu p h ⟨ep, .arm f⟩ s → oseqNew .tsu f.oseq s = true → isNewArming f s = true →
    armRefusal (extend48 s.tc.tk.bc f.kick) s = none → (∀ pd, s.t.cue.lead.wait ≠ some (.arm pd)) →
    ∃ t, exec (.armReceive .tsu p h ep f) s = .next t ∧
      t.t.steps = s.t.steps ++ [newRec ep (extend48 s.tc.tk.bc f.kick) f] ∧ t.t.mem.expected = some (f.step + 1) ∧
      seenAttempts t f.step = max (f.attempt + 1) (seenAttempts s f.step) ∧ t.tc.oseq = some (f.oseq, s.tc.up) ∧
      (t.port .tsu p).rel.seqRx = h.seq ∧ Only [.com .tsu .ports, .com .tsu .pgEvent, .com .tsu .ic, .com .tsu .oseq,
        .steps, .member, .cue, .huddles, .bays] s t) ∧
  (∀ p h ep f n s, Accepts .tsu p h ⟨ep, .arm f⟩ s → oseqNew .tsu f.oseq s = true → isNewArming f s = true →
    armRefusal (extend48 s.tc.tk.bc f.kick) s = some n → ∃ t, exec (.armReceive .tsu p h ep f) s = .next t ∧
      t.t.steps = s.t.steps ∧ t.t.mem.expected = some (f.step + 1) ∧ t.t.mem.armReason = n ∧ bit t.tc.ic.local_ 8 = true ∧
      Only [.com .tsu .ports, .com .tsu .pgEvent, .com .tsu .ic, .com .tsu .oseq, .steps, .member, .cue, .huddles, .bays]
        s t) ∧
  (∀ p h ep f r s, Accepts .tsu p h ⟨ep, .arm f⟩ s → oseqNew .tsu f.oseq s = true → isNewArming f s = false →
    retimed f s = some r → s.tc.tk.bc + 1024 ≤ extend48 s.tc.tk.bc f.kick →
    ∃ t, exec (.armReceive .tsu p h ep f) s = .next t ∧
      t.t.steps = listModify (fun x => x.epoch == r.epoch && x.step == r.step && x.attempt == r.attempt) (fun x =>
        { x with k := extend48 s.tc.tk.bc f.kick, decision := none, missed := false, reorigin := f.reorigin }) s.t.steps ∧
      t.t.mem.expected = s.t.mem.expected ∧ Only [.com .tsu .ports, .com .tsu .pgEvent, .com .tsu .ic, .com .tsu .oseq,
        .steps, .member, .cue, .huddles, .bays] s t) ∧
  (∀ p h ep f s, Accepts .dxd p h ⟨ep, .arm f⟩ s → oseqNew .dxd f.oseq s = true →
    (∀ q, q ∈ s.x.kicks → q.is ep f.step f.attempt = true → s.dc.tk.bc + 512 ≤ q.k) →
    ∃ t, exec (.armReceive .dxd p h ep f) s = .next t ∧
      (∃ k, k ∈ t.x.kicks ∧ k.is ep f.step f.attempt = true ∧ k.k = extend48 s.dc.tk.bc f.kick) ∧
      t.dc.oseq = some (f.oseq, s.dc.up) ∧ Only [.com .dxd .ports, .com .dxd .oseq, .kicks] s t) ∧
  (∀ p h ep f s, Accepts .tsu p h ⟨ep, .callOff f⟩ s → oseqNew .tsu f.oseq s = true →
    (∀ r, dueKick s = some r → r.decision ≠ some .fire ∨ r.missed = true ∨ r.step < f.step) →
    ∃ t, exec (.callOffReceive .tsu p h ep f) s = .next t ∧
      t.t.steps = s.t.steps.map (fun r => if (r.armed || r.launched) && decide (f.step ≤ r.step) then
        { r with st := if r.armed then .calledOff else .failed, decision := none, leaveReturn := true, inLead := false,
                 bound := false } else r) ∧
      t.t.mem.expected = s.t.mem.expected.map (fun e => min e f.step) ∧
      (s.t.steps.any (fun r => r.armed && decide (f.step ≤ r.step)) = true → bit t.tc.ic.local_ 4 = true) ∧
      (s.t.steps.any (fun r => r.launched && decide (f.step ≤ r.step)) = true → bit t.tc.ic.local_ 0 = true) ∧
      Only [.com .tsu .tk, .com .tsu .ports, .com .tsu .pgEvent, .com .tsu .ic, .com .tsu .oseq, .steps, .member, .cue,
        .signals, .huddles, .keyPort, .tallies, .bays, .kickPins] s t) ∧
  (∀ p h ep f r s, Accepts .tsu p h ⟨ep, .callOff f⟩ s → oseqNew .tsu f.oseq s = true → dueKick s = some r →
    r.decision = some .fire → r.missed = false → f.step ≤ r.step →
    ∃ t, exec (.callOffReceive .tsu p h ep f) s = .next t ∧ t.t.mem.lastLaunched = r.step ∧ t.t.mem.lastAttempt =
      r.attempt ∧
      Only [.com .tsu .tk, .com .tsu .ports, .com .tsu .pgEvent, .com .tsu .ic, .com .tsu .oseq, .steps, .member, .cue,
        .signals, .huddles, .keyPort, .tallies, .bays, .kickPins] s t) ∧
  (∀ p h ep f s, Accepts .dxd p h ⟨ep, .callOff f⟩ s → oseqNew .dxd f.oseq s = true →
    ∃ t, exec (.callOffReceive .dxd p h ep f) s = .next t ∧
      t.x.kicks = s.x.kicks.map (fun q => if q.epoch == ep && decide (f.step ≤ q.step) then { q with withdrawn := true }
        else q) ∧
      (∀ c, c ∈ t.x.cs.open_ ↔ c ∈ s.x.cs.open_ ∧ ¬(c.id.epoch = ep ∧ f.step ≤ c.id.step)) ∧ Only [.com .dxd .ports,
        .com .dxd .oseq, .kicks, .census, .scores, .referee] s t) ∧
  (∀ p h ep f s, Accepts .tsu p h ⟨ep, .censusDn f⟩ s →
    Unseen .tsu (.censusDn ep f.kind f.slot f.step f.attempt f.outcome) s →
    (f.kind = 0 ∧ f.outcome = 1) ∨ (f.kind = 1 ∧ f.outcome = 0) → ∃ t, exec (.censusDnReceive .tsu p h ep f) s = .next t ∧
      t.t.steps = s.t.steps.map (fun r => if r.step == f.step && r.attempt == f.attempt then
        (if f.outcome = 1 then { r with accepted := true } else { r with released := true }) else r) ∧
      (∀ c, c ∈ t.t.hd.census ↔ c ∈ s.t.hd.census ∧
        ¬(c.kind = f.kind ∧ c.slot = f.slot ∧ c.step = f.step ∧ c.attempt = f.attempt)) ∧
      Only [.com .tsu .ports, .com .tsu .seen, .steps, .huddles] s t) ∧
  (∀ p h ep f s, Accepts .tsu p h ⟨ep, .censusDn f⟩ s →
    Unseen .tsu (.censusDn ep f.kind f.slot f.step f.attempt f.outcome) s → f.kind ≠ 2 → f.outcome = 2 →
    s.t.steps.any (fun r => r.step == f.step && r.attempt == f.attempt && r.st == .done) = true →
    ∃ t, exec (.censusDnReceive .tsu p h ep f) s = .next t ∧
      t.t.steps = s.t.steps.map (fun r => if r.step == f.step && r.attempt == f.attempt && r.st == .done then
        { r with st := .committed, released := true } else r) ∧
      bit t.tc.ic.local_ 3 = true ∧ Only [.com .tsu .ports, .com .tsu .ic, .com .tsu .seen, .steps, .huddles] s t) ∧
  (∀ p h ep f s, Accepts .dxd p h ⟨ep, .censusDn f⟩ s →
    Unseen .dxd (.censusDn ep f.kind f.slot f.step f.attempt f.outcome) s →
    ∃ t, exec (.censusDnReceive .dxd p h ep f) s = .next t ∧
      (∀ c, c ∈ t.x.cs.open_ ↔ c ∈ s.x.cs.open_ ∧ c.id ≠ ⟨f.kind, f.slot, f.step, f.attempt, ep⟩) ∧
      Only [.com .dxd .ports, .com .dxd .seen, .kicks, .census, .ledger, .referee] s t)

/-- At K - 512 the lowest ARMED step is fired, held or withheld; at K a fired step becomes the current one, takes the
strobe and closes the step gap, and one that was not fired makes the TSU fence itself; at the root every due step is
launched. Cites: R144, R169, R172, R178, R180, R181, R184, R187, R293. -/
def Obligations.Kickoffs : Prop :=
  (∀ r s, lowestArmed s.t.steps = some r → r.decision = none → r.k ≤ s.tc.tk.bc + 512 →
    ∃ t, exec .kickoffDecision s = .next t ∧
      t.t.steps = listModify (fun x => x.epoch == r.epoch && x.step == r.step && x.attempt == r.attempt)
        (fun x => { x with decision := some (decide512 r s) }) s.t.steps ∧
      (decide512 r s = .held → bit t.tc.ic.local_ 10 = true) ∧
      (decide512 r s = .withheld → bit t.tc.ic.local_ 12 = true) ∧ (decide512 r s = .fire → Only [.steps] s t) ∧
      Only [.com .tsu .ic, .steps] s t) ∧
  (∀ j rets r s, dueKick s = some r → r.decision = some .fire → r.missed = false →
    ∃ t, exec (.kickoff .tsu j rets) s = .next t ∧ t.t.mem.curStep = r.step ∧ t.t.mem.curAttempt = r.attempt ∧
      t.t.mem.curK = r.k ∧ t.t.mem.lastLaunched = r.step ∧ t.t.mem.lastAttempt = r.attempt ∧
      t.t.mem.launchedInEpoch = true ∧ t.t.mem.gapOpen = false ∧ t.t.kp.curStep = r.step ∧ t.t.kick.at_ = r.k ∧
      t.t.kick.out = (if s.tc.fuse.kind = .w then 1 else 0) ∧ t.t.kick.since = s.tc.up ∧ bit t.tc.ic.local_ 1 = true ∧
        Only [.com .tsu .tk, .com .tsu .ports, .com .tsu .pgEvent, .com .tsu .ic, .steps, .member, .cue, .signals,
        .huddles, .keyPort, .tallies, .bays, .kickPins] s t) ∧
  (∀ j rets r s, dueKick s = some r → r.decision ≠ some .fire ∨ r.missed = true →
    ∃ t, exec (.kickoff .tsu j rets) s = .next t ∧ t.tc.tk.sideline = true ∧
      t.t.mem.lastLaunched = s.t.mem.lastLaunched ∧ t.t.mem.curStep = s.t.mem.curStep ∧ t.t.kick = s.t.kick ∧
      (s.tc.tk.sideline = false → bit t.tc.ic.local_ 7 = true ∧ t.t.kp.curValid = false) ∧ Only [.com .tsu .tk,
        .com .tsu .ports, .com .tsu .pgEvent, .com .tsu .ic, .steps, .member, .cue, .signals, .huddles, .keyPort,
        .tallies, .bays, .kickPins] s t) ∧
  (∀ j rets s, dueKick s = none → exec (.kickoff .tsu j rets) s = .next s) ∧
  (∀ j rets b s, s.job j = some b → ∃ t, exec (.kickoff .dxd j rets) s = .next t ∧
    (∃ c, t.job j = some c ∧ c.steps.length = b.steps.length ∧
      (∀ r, r ∈ b.steps → r.isArmed = true → r.k ≤ s.dc.tk.bc → { r with launched := true } ∈ c.steps) ∧
      (∀ r, r ∈ b.steps → r.isArmed = false ∨ s.dc.tk.bc < r.k → r ∈ c.steps)) ∧ Only [.referee] s t)

/-- The root arms the next step at the later of its predecessor rule and the lead, under the next attempt; a step whose
attempts are exhausted ends the job; a step without a complete arm census at K - 10,000 pauses the job, and one with it
is checked; a launched step that is not done, or has no hall card, by its timeout pauses the job. Cites: R165, R169,
R170, R171, R307, R312. -/
def Obligations.RootSteps : Prop :=
  (∀ j b s, s.job j = some b → rootActs s = true → armSendOk b s = true →
    exhausted b b.nextStep = false → ∃ t, exec (.armSend j) s = .next t ∧
      (∃ c, t.job j = some c ∧ c.state = 2 ∧ c.nextStep = b.nextStep + 1 ∧ c.epoch = b.epoch ∧
        c.steps = pruneSteps b ++ [newRStep b b.nextStep (nextAttempt b b.nextStep)
          (max (kpOf b b.nextStep) (s.dc.tk.bc + lEff b.sched)) false]) ∧
      t.x.rf2.oseqNext = s.x.rf2.oseqNext + 1 ∧ Only [.com .dxd .ports, .com .dxd .pgEvent, .com .dxd .ic, .kicks,
        .census, .scores, .ledger, .referee] s t) ∧
  (∀ j b s, s.job j = some b → rootActs s = true → armSendOk b s = true →
    exhausted b b.nextStep = true → ∃ t, exec (.armSend j) s = .next t ∧
      (∃ c, t.job j = some c ∧ c.ending = some 5 ∧ c.stopArms = true ∧ c.nextStep = b.nextStep) ∧ Only [.com .dxd .ports,
        .com .dxd .pgEvent, .com .dxd .ic, .kicks, .census, .scores, .ledger, .referee] s t) ∧
  (∀ j b s, s.job j = some b → rootActs s = false ∨ armSendOk b s = false → exec (.armSend j) s = .next s) ∧
  (∀ j step b r s, s.job j = some b → rootActs s = true → b.steps.find? (fun r => r.step == step && r.isArmed) = some r →
    r.checked = false → r.k ≤ s.dc.tk.bc + 10000 → r.armDone = true → prevDone b step = true →
    ∃ t, exec (.armDeadlineCheck j step) s = .next t ∧
      t.job j = some { b with steps := b.steps.map (fun x => if x == r then { x with checked := true } else x) } ∧
      Only [.referee] s t) ∧
  (∀ j step b r s, s.job j = some b → rootActs s = true → b.steps.find? (fun r => r.step == step && r.isArmed) = some r →
    r.checked = false → r.k ≤ s.dc.tk.bc + 10000 → r.armDone = false → b.ending = none → b.pause = none →
    1 ≤ b.state → b.state ≤ 4 → ∃ t, exec (.armDeadlineCheck j step) s = .next t ∧
      (∃ c, t.job j = some c ∧ c.pause.map (·.reason) = some 1 ∧ c.pause.map (·.waiting) = some true ∧
        c.pause.map (·.callAt) = some s.dc.tk.bc) ∧ Only [.com .dxd .ports, .com .dxd .regs, .com .dxd .pgEvent,
          .com .dxd .ic, .kicks, .census, .scores, .ledger, .referee] s t) ∧
  (∀ j step b r s, s.job j = some b → rootActs s = true → b.ending = none → b.pause = none → 1 ≤ b.state → b.state ≤ 4 →
    r ∈ b.steps → r.step = step → r.launched = true → r.doneDone = false ∨ r.hall = none → r.withdrawn = false →
      r.committed = false →
    r.k + b.sched.stepTimeout ≤ s.dc.tk.bc → ∃ t, exec (.stepTimeout j step) s = .next t ∧
      (∃ c, t.job j = some c ∧ c.pause.map (·.reason) = some 3 ∧ c.pause.map (·.waiting) = some true) ∧
      Only [.com .dxd .ports, .com .dxd .regs, .com .dxd .pgEvent, .com .dxd .ic, .kicks, .census, .scores, .ledger,
        .referee] s t)

/-- li, lis, mov, add, sub, addi, and, or, xor, shl, shr and get write their result into pd and go on; nop goes on;
calloff sets both handlers; a branch goes to its target where its condition holds and to the next word otherwise; loop
subtracts 1 first; no other register and no other thread changes. Cites: R196, R207, R208, R209. -/
def Obligations.CueRegisters : Prop :=
  (∀ th e pd imm s, Issues th e (.li pd imm) s → ∃ t, exec (.li th e) s = .next t ∧
    SetsP pd.toNat (imm.signExtend 64) s t ∧ GoesTo th (pcAfter th s) s t ∧ Only [.com .tsu .pgEvent, .com .tsu .ic, .cue]
      s t) ∧
  (∀ th e pd k imm s, Issues th e (.lis pd k imm) s → ∃ t, exec (.lis th e) s = .next t ∧
    (∀ i, i < 64 → (t.p pd.toNat).getLsbD i =
      (if 16 * k.toNat ≤ i ∧ i < 16 * k.toNat + 16 then imm.getLsbD (i - 16 * k.toNat) else (s.p pd.toNat).getLsbD i)) ∧
    (∀ j, j ≠ pd.toNat → t.p j = s.p j) ∧ GoesTo th (pcAfter th s) s t ∧ Only [.com .tsu .pgEvent, .com .tsu .ic, .cue] s
      t) ∧
  (∀ th e pd pa s, Issues th e (.mov pd pa) s → ∃ t, exec (.mov th e) s = .next t ∧
    SetsP pd.toNat (s.p pa.toNat) s t ∧ GoesTo th (pcAfter th s) s t ∧ Only [.com .tsu .pgEvent, .com .tsu .ic, .cue] s t) ∧
  (∀ th e pd pa pb s, Issues th e (.add pd pa pb) s → ∃ t, exec (.addOp th e) s = .next t ∧
    SetsP pd.toNat (s.p pa.toNat + s.p pb.toNat) s t ∧ GoesTo th (pcAfter th s) s t ∧ Only [.com .tsu .pgEvent,
      .com .tsu .ic, .cue] s t) ∧
  (∀ th e pd pa pb s, Issues th e (.sub pd pa pb) s → ∃ t, exec (.subOp th e) s = .next t ∧
    SetsP pd.toNat (s.p pa.toNat - s.p pb.toNat) s t ∧ GoesTo th (pcAfter th s) s t ∧ Only [.com .tsu .pgEvent,
      .com .tsu .ic, .cue] s t) ∧
  (∀ th e pd pa imm s, Issues th e (.addi pd pa imm) s → ∃ t, exec (.addi th e) s = .next t ∧
    SetsP pd.toNat (s.p pa.toNat + imm.signExtend 64) s t ∧ GoesTo th (pcAfter th s) s t ∧ Only [.com .tsu .pgEvent,
      .com .tsu .ic, .cue] s t) ∧
  (∀ th e pd pa pb s, Issues th e (.and pd pa pb) s → ∃ t, exec (.andOp th e) s = .next t ∧
    SetsP pd.toNat (s.p pa.toNat &&& s.p pb.toNat) s t ∧ GoesTo th (pcAfter th s) s t ∧ Only [.com .tsu .pgEvent,
      .com .tsu .ic, .cue] s t) ∧
  (∀ th e pd pa pb s, Issues th e (.or pd pa pb) s → ∃ t, exec (.orOp th e) s = .next t ∧
    SetsP pd.toNat (s.p pa.toNat ||| s.p pb.toNat) s t ∧ GoesTo th (pcAfter th s) s t ∧ Only [.com .tsu .pgEvent,
      .com .tsu .ic, .cue] s t) ∧
  (∀ th e pd pa pb s, Issues th e (.xor pd pa pb) s → ∃ t, exec (.xorOp th e) s = .next t ∧
    SetsP pd.toNat (s.p pa.toNat ^^^ s.p pb.toNat) s t ∧ GoesTo th (pcAfter th s) s t ∧ Only [.com .tsu .pgEvent,
      .com .tsu .ic, .cue] s t) ∧
  (∀ th e pd pa sh s, Issues th e (.shl pd pa sh) s → ∃ t, exec (.shl th e) s = .next t ∧
    SetsP pd.toNat (s.p pa.toNat <<< sh.toNat) s t ∧ GoesTo th (pcAfter th s) s t ∧ Only [.com .tsu .pgEvent,
      .com .tsu .ic, .cue] s t) ∧
  (∀ th e pd pa sh s, Issues th e (.shr pd pa sh) s → ∃ t, exec (.shr th e) s = .next t ∧
    SetsP pd.toNat (s.p pa.toNat >>> sh.toNat) s t ∧ GoesTo th (pcAfter th s) s t ∧ Only [.com .tsu .pgEvent,
      .com .tsu .ic, .cue] s t) ∧
  (∀ th e pd src v s, Issues th e (.get pd src) s → getSource th src.toNat s = .ok v → ∃ t, exec (.get th e) s = .next t ∧
    SetsP pd.toNat v s t ∧ GoesTo th (pcAfter th s) s t ∧ Only [.com .tsu .pgEvent, .com .tsu .ic, .cue] s t) ∧
  (∀ th e s, Issues th e .nop s → ∃ t, exec (.nop th e) s = .next t ∧
    SameP s t ∧ GoesTo th (pcAfter th s) s t ∧ Only [.com .tsu .pgEvent, .com .tsu .ic, .cue] s t) ∧
  (∀ th e lh rh s, Issues th e (.calloff lh rh) s → ∃ t, exec (.calloffInstruction th e) s = .next t ∧
    (∀ u, getThr t.t.cue u = { getThr s.t.cue u with
      pc := if u = th then pcAfter th s else (getThr s.t.cue u).pc, handler := if u = .run then rh.toNat else lh.toNat }) ∧
    SameP s t ∧ Only [.com .tsu .pgEvent, .com .tsu .ic, .cue] s t) ∧
  (∀ th e tgt s, Issues th e (.b tgt) s → ∃ t, exec (.b th e) s = .next t ∧
    SameP s t ∧ GoesTo th tgt.toNat s t ∧ Only [.com .tsu .pgEvent, .com .tsu .ic, .cue] s t) ∧
  (∀ th e pa pb tgt s, Issues th e (.beq pa pb tgt) s → ∃ t, exec (.beq th e) s = .next t ∧ SameP s t ∧
    GoesTo th (if s.p pa.toNat = s.p pb.toNat then tgt.toNat else pcAfter th s) s t ∧ Only [.com .tsu .pgEvent,
      .com .tsu .ic, .cue] s t) ∧
  (∀ th e pa pb tgt s, Issues th e (.bne pa pb tgt) s → ∃ t, exec (.bne th e) s = .next t ∧ SameP s t ∧
    GoesTo th (if s.p pa.toNat ≠ s.p pb.toNat then tgt.toNat else pcAfter th s) s t ∧ Only [.com .tsu .pgEvent,
      .com .tsu .ic, .cue] s t) ∧
  (∀ th e pa pb tgt s, Issues th e (.blt pa pb tgt) s → ∃ t, exec (.blt th e) s = .next t ∧ SameP s t ∧
    GoesTo th (if (s.p pa.toNat).toInt < (s.p pb.toNat).toInt then tgt.toNat else pcAfter th s) s t ∧
    Only [.com .tsu .pgEvent, .com .tsu .ic, .cue] s t) ∧
  (∀ th e pa pb tgt s, Issues th e (.bltu pa pb tgt) s → ∃ t, exec (.bltu th e) s = .next t ∧ SameP s t ∧
    GoesTo th (if (s.p pa.toNat).toNat < (s.p pb.toNat).toNat then tgt.toNat else pcAfter th s) s t ∧
    Only [.com .tsu .pgEvent, .com .tsu .ic, .cue] s t) ∧
  (∀ th e pa tgt s, Issues th e (.bz pa tgt) s → ∃ t, exec (.bz th e) s = .next t ∧ SameP s t ∧
    GoesTo th (if s.p pa.toNat = 0 then tgt.toNat else pcAfter th s) s t ∧ Only [.com .tsu .pgEvent, .com .tsu .ic, .cue]
      s t) ∧
  (∀ th e pa tgt s, Issues th e (.bnz pa tgt) s → ∃ t, exec (.bnz th e) s = .next t ∧ SameP s t ∧
    GoesTo th (if s.p pa.toNat ≠ 0 then tgt.toNat else pcAfter th s) s t ∧ Only [.com .tsu .pgEvent, .com .tsu .ic, .cue]
      s t) ∧
  (∀ th e pa tgt s, Issues th e (.loop pa tgt) s → ∃ t, exec (.loop th e) s = .next t ∧
    SetsP pa.toNat (s.p pa.toNat - 1) s t ∧
    GoesTo th (if s.p pa.toNat ≠ 1 then tgt.toNat else pcAfter th s) s t ∧ Only [.com .tsu .pgEvent, .com .tsu .ic, .cue]
      s t)

/-- halt stops its thread; done ends the LAUNCHED step; arm binds the lowest ARMED or LAUNCHED step that is not bound, or
waits; kick returns the launched step, or waits; a wait stops the thread until its target and, while a slice is under
test, until that ends, and one whose target has come goes on with WAIT_LATE. Cites: R183, R196, R197, R198, R199, R200.
-/
def Obligations.CueSteps : Prop :=
  (∀ th e s, Issues th e .halt s → ∃ t, exec (.halt th e) s = .next t ∧
    getThr t.t.cue th = { getThr s.t.cue th with pc := pcAfter th s, st := 3 } ∧ OtherThread th s t ∧ SameP s t ∧
    eventSet .tsu 0x04 (match th with | .run => 2 | .lead => 3) t ∧
    (th = .run → runLaunched s = true → eventSet .tsu 0x04 5 t) ∧ Only [.com .tsu .pgEvent, .com .tsu .ic, .cue] s t) ∧
  (∀ e r s, Issues .run e .done s → curRec .run s = some r → r.launched = true →
    ∃ t, exec (.doneInstruction .run e) s = .next t ∧
      t.t.steps = listModify (fun x => x.epoch == r.epoch && x.step == r.step && x.attempt == r.attempt)
        (fun x => { x with st := .done, leaveReturn := true }) s.t.steps ∧
      t.t.mem.gapOpen = true ∧ t.t.tl.lastStep = r.step ∧ bit t.tc.ic.local_ 2 = true ∧
      (s.tc.tk.sideline = false → t.t.hd.census = s.t.hd.census ++ [⟨1, r.step % 8, r.step, r.attempt, 1, 0⟩]) ∧
      SameP s t ∧ GoesTo .run (pcAfter .run s) s t ∧ Only [.com .tsu .ports, .com .tsu .pgEvent, .com .tsu .ic, .steps,
        .member, .cue, .huddles, .tallies, .bays] s t) ∧
  (∀ e pd r s, Issues .lead e (.arm pd) s → s.t.cue.passed = [] → bindable s = some r →
    ∃ t, exec (.armInstruction .lead e) s = .next t ∧
      t.t.steps = listModify (fun x => x.epoch == r.epoch && x.step == r.step && x.attempt == r.attempt)
        (fun x => { x with bound := true, inLead := x.armed }) s.t.steps ∧
      SetsP pd.toNat (BitVec.ofNat 64 r.step) s t ∧
      t.t.cue.lead = { s.t.cue.lead with
        pc := pcAfter .lead s, cur := some ⟨r.epoch, r.step, r.attempt, r.k⟩, t := some r.k } ∧
      OtherThread .lead s t ∧ (r.launched = true → eventSet .tsu 0x04 8 t) ∧ Only [.com .tsu .pgEvent, .com .tsu .ic,
        .steps, .cue] s t) ∧
  (∀ e pd s, Issues .lead e (.arm pd) s → s.t.cue.passed = [] → bindable s = none →
    ∃ t, exec (.armInstruction .lead e) s = .next t ∧ WaitsFor .lead (.arm pd.toNat) s t ∧ SameP s t ∧
      Only [.com .tsu .pgEvent, .com .tsu .ic, .cue] s t) ∧
  (∀ e pd r s, Issues .run e (.kick pd) s → unreturned s = some r → ∃ t, exec (.kickInstruction .run e) s = .next t ∧
    t.t.steps = listModify (fun x => x.epoch == r.epoch && x.step == r.step && x.attempt == r.attempt)
      (fun x => { x with returned := true }) s.t.steps ∧
    SetsP pd.toNat (BitVec.ofNat 64 r.step) s t ∧
    t.t.cue.run = { s.t.cue.run with pc := pcAfter .run s, cur := some ⟨r.epoch, r.step, r.attempt, r.k⟩, t := some r.k } ∧
    OtherThread .run s t ∧ eventSet .tsu 0x04 7 t ∧ Only [.com .tsu .pgEvent, .com .tsu .ic, .steps, .cue] s t) ∧
  (∀ e pd s, Issues .run e (.kick pd) s → unreturned s = none → ∃ t, exec (.kickInstruction .run e) s = .next t ∧
    WaitsFor .run (.kick pd.toNat) s t ∧ SameP s t ∧ Only [.com .tsu .pgEvent, .com .tsu .ic, .cue] s t) ∧
  (∀ th e off k s, Issues th e (.waitk off) s → curKick th s = some k → ∃ t, exec (.waitk th e) s = .next t ∧
    WaitsUntil th (((k : Int) + off.toInt) % 2 ^ 64).toNat s t ∧ Only [.com .tsu .pgEvent, .com .tsu .ic, .cue] s t) ∧
  (∀ th e inc n s, Issues th e (.waitn inc) s → (getThr s.t.cue th).t = some n → ∃ t, exec (.waitn th e) s = .next t ∧
    WaitsUntil th ((n + inc.toNat) % 2 ^ 64) s t ∧ Only [.com .tsu .pgEvent, .com .tsu .ic, .cue] s t) ∧
  (∀ th e pa s, Issues th e (.waitr pa) s → inWindow s.tc.tk.bc (s.p pa.toNat).toNat = true →
    ∃ t, exec (.waitr th e) s = .next t ∧ WaitsUntil th (s.p pa.toNat).toNat s t ∧ Only [.com .tsu .pgEvent,
      .com .tsu .ic, .cue] s t) ∧
  (∀ th n s, (getThr s.t.cue th).wait = some (.beat n) → reached s.tc.tk.bc n = true → threadsHeld s = false →
    ∃ t, exec (.waitTargetReached th) s = .next t ∧ getThr t.t.cue th = { getThr s.t.cue th with st := 1, wait := none } ∧
      OtherThread th s t ∧ SameP s t ∧ Only [.cue] s t) ∧
  (∀ th n s, (getThr s.t.cue th).wait = some (.beat n) → reached s.tc.tk.bc n = false ∨ threadsHeld s = true →
    exec (.waitTargetReached th) s = .next s)

/-- hent enters its huddle or waits for a credit; hawait returns the huddle's count or waits; the cell instructions act on
their cell and its grant pass runs; resv and rels queue a step-leave request in order of issue, the run thread's first
in one beat, stall while the queue is full and do nothing where there is no stockroom; bayp sets REQ_POINT; bist opens a
window or returns 2; probe opens windows and counts those whose first beat has passed. Cites: R201, R202, R203, R204,
R205, R206, R220, R236. -/
def Obligations.CueUnits : Prop :=
  (∀ e pa slot k s, Issues .run e (.hent pa slot) s → s.t.cue.run.cur = some k → huddleOf slot.toNat k s = none →
    runLaunched s = true → creditsUsed s < 16 → ∃ t, exec (.hent .run e) s = .next t ∧
      t.t.hd.entered = s.t.hd.entered ++ [⟨slot.toNat, k.epoch, k.step, k.attempt, s.p pa.toNat, none⟩] ∧
      (s.tc.tk.sideline = false →
        t.t.hd.census = s.t.hd.census ++ [⟨2, slot.toNat, k.step, k.attempt, 1, (s.p pa.toNat).toNat⟩]) ∧
      SameP s t ∧ GoesTo .run (pcAfter .run s) s t ∧ Only [.com .tsu .ports, .com .tsu .pgEvent, .com .tsu .ic, .cue,
        .huddles] s t) ∧
  (∀ e pa slot k s, Issues .run e (.hent pa slot) s → s.t.cue.run.cur = some k → huddleOf slot.toNat k s = none →
    runLaunched s = true → 16 ≤ creditsUsed s → ∃ t, exec (.hent .run e) s = .next t ∧ t.t.hd.creditWait = true ∧
      t.t.hd.entered = s.t.hd.entered ∧ WaitsFor .run (.credit slot.toNat (s.p pa.toNat)) s t ∧ SameP s t ∧
      eventSet .tsu 0x07 0 t ∧ Only [.com .tsu .pgEvent, .com .tsu .ic, .cue, .huddles] s t) ∧
  (∀ e pd slot k h n s, Issues .run e (.hawait pd slot) s → s.t.cue.run.cur = some k →
    huddleOf slot.toNat k s = some h → h.out = some (1, n) → ∃ t, exec (.hawait .run e) s = .next t ∧
      SetsP pd.toNat (BitVec.ofNat 64 n) s t ∧ GoesTo .run (pcAfter .run s) s t ∧ Only [.com .tsu .pgEvent, .com .tsu .ic,
        .cue] s t) ∧
  (∀ e pd slot k h s, Issues .run e (.hawait pd slot) s → s.t.cue.run.cur = some k →
    huddleOf slot.toNat k s = some h → h.out = none → ∃ t, exec (.hawait .run e) s = .next t ∧
      WaitsFor .run (.hawait pd.toNat slot.toNat) s t ∧ SameP s t ∧ Only [.com .tsu .pgEvent, .com .tsu .ic, .cue] s t) ∧
  (∀ th e n1 cell x s, Issues th e (.post n1 cell) s → x = s.cell cell.toNat → countOk (x.count + (n1.toNat + 1)) = true →
    ∃ t, exec (.postInstruction th e) s = .next t ∧
      CellIs cell.toNat { x with count := x.count + (n1.toNat + 1) } s t ∧
      CwaitsEnd cell.toNat { x with count := x.count + (n1.toNat + 1) } s t ∧
      (getThr t.t.cue th).pc = pcAfter th s ∧ SameP s t ∧ Only [.com .tsu .pgEvent, .com .tsu .ic, .cue, .signals] s t) ∧
  (∀ th e r cell x s, Issues th e (.postt r cell) s → x = s.cell cell.toNat → tabGet 0 x.held r.toNat < 15 →
    ∃ t, exec (.posttInstruction th e) s = .next t ∧
      CellIs cell.toNat { x with held := tabSet 0 x.held r.toNat (tabGet 0 x.held r.toNat + 1) } s t ∧
      CwaitsEnd cell.toNat { x with held := tabSet 0 x.held r.toNat (tabGet 0 x.held r.toNat + 1) } s t ∧
      (getThr t.t.cue th).pc = pcAfter th s ∧ SameP s t ∧ Only [.com .tsu .pgEvent, .com .tsu .ic, .cue, .signals] s t) ∧
  (∀ th e r n1 cell x w g s, Issues th e (.cwait r n1 cell) s → x = s.cell cell.toNat →
    hasWaiter s cell.toNat r.toNat = false → w = tabSet none x.waiters r.toNat (some ⟨n1.toNat + 1, .thread th⟩) →
    g = x.granted - (if x.granted.testBit r.toNat then 2 ^ r.toNat else 0) →
    ∃ t, exec (.cwait th e) s = .next t ∧ CellIs cell.toNat { x with waiters := w, granted := g } s t ∧
      (getThr t.t.cue th).pc = pcAfter th s ∧
      ((r.toNat, .thread th) ∈ (grantPass { x with waiters := w, granted := g }).2 →
        (getThr t.t.cue th).st = 1 ∧ (getThr t.t.cue th).wait = none) ∧
      ((r.toNat, .thread th) ∉ (grantPass { x with waiters := w, granted := g }).2 →
        (getThr t.t.cue th).st = 2 ∧ (getThr t.t.cue th).wait = some (.cwait cell.toNat r.toNat)) ∧
      SameP s t ∧ Only [.com .tsu .pgEvent, .com .tsu .ic, .cue, .signals] s t) ∧
  (∀ th e cell x s, Issues th e (.creset cell) s → x = s.cell cell.toNat →
    ∃ t, exec (.cresetInstruction th e) s = .next t ∧ CellIs cell.toNat { x with count := 0, held := [] } s t ∧
      CwaitsEnd cell.toNat { x with count := 0, held := [] } s t ∧ (getThr t.t.cue th).pc = pcAfter th s ∧ SameP s t ∧
      Only [.com .tsu .pgEvent, .com .tsu .ic, .cue, .signals] s t) ∧
  (∀ th e ps w s, Issues th e (.resv ps w) s → hasStock s = true → w ≠ 0 → leaveStepOk (s.p ps.toNat).toNat s = true →
    s.t.st.leaveQ.length < 8 → ∃ t, exec (.resv th e) s = .next t ∧
      t.t.st = { s.t.st with leaveQ := enqueueLeave ⟨(s.p ps.toNat).toNat, some w.toNat, th, s.tc.up⟩ s.t.st.leaveQ } ∧
      SameP s t ∧ GoesTo th (pcAfter th s) s t ∧ Only [.com .tsu .pgEvent, .com .tsu .ic, .cue, .stock] s t) ∧
  (∀ th e ps s, Issues th e (.rels ps) s → hasStock s = true → leaveStepOk (s.p ps.toNat).toNat s = true →
    s.t.st.leaveQ.length < 8 → ∃ t, exec (.rels th e) s = .next t ∧
      t.t.st = { s.t.st with leaveQ := enqueueLeave ⟨(s.p ps.toNat).toNat, none, th, s.tc.up⟩ s.t.st.leaveQ } ∧
      SameP s t ∧ GoesTo th (pcAfter th s) s t ∧ Only [.com .tsu .pgEvent, .com .tsu .ic, .cue, .stock] s t) ∧
  (∀ th ps w s, Issues th .clean (.resv ps w) s → hasStock s = true → w ≠ 0 →
    leaveStepOk (s.p ps.toNat).toNat s = true → 8 ≤ s.t.st.leaveQ.length → exec (.resv th .clean) s = .next s) ∧
  (∀ th ps s, Issues th .clean (.rels ps) s → hasStock s = true → leaveStepOk (s.p ps.toNat).toNat s = true →
    8 ≤ s.t.st.leaveQ.length → exec (.rels th .clean) s = .next s) ∧
  (∀ th e ps s, Issues th e (.rels ps) s → hasStock s = false → ∃ t, exec (.rels th e) s = .next t ∧
    SameP s t ∧ GoesTo th (pcAfter th s) s t ∧ Only [.com .tsu .pgEvent, .com .tsu .ic, .cue] s t) ∧
  (∀ th e ps w s, Issues th e (.resv ps w) s → hasStock s = false → ∃ t, exec (.resv th e) s = .next t ∧
    SameP s t ∧ GoesTo th (pcAfter th s) s t ∧ Only [.com .tsu .pgEvent, .com .tsu .ic, .cue] s t) ∧
  (∀ th e pt mask s, Issues th e (.bayp pt mask) s → s.tc.fuse.kind ≠ .w →
    (∀ b, mask.toNat.testBit b = true → bayExists s b = true) → ∃ t, exec (.bayp th e) s = .next t ∧
      (∀ b, b < 16 → t.regF .tsu (0x3200 + 0x40 * b) 0 4 =
        if mask.toNat.testBit b then pt.toNat else s.regF .tsu (0x3200 + 0x40 * b) 0 4) ∧
      SameP s t ∧ GoesTo th (pcAfter th s) s t ∧ Only [.com .tsu .tk, .com .tsu .ports, .com .tsu .regs,
        .com .tsu .pgEvent, .com .tsu .ic, .steps, .member, .cue, .signals, .huddles, .keyPort, .tallies, .bays] s t) ∧
  (∀ e pd pa s, Issues .run e (.bist pd pa) s → (s.p pa.toNat).toNat < 12 →
    (sliceChecks (s.p pa.toNat).toNat true s).find? (fun c => c.2) = none → ∃ t, exec (.bistInstruction .run e) s = .next
      t ∧
      (∃ w, t.tc.bt.win = some w ∧ w.start = s.tc.up ∧ w.slice = (s.p pa.toNat).toNat ∧ w.compare = true ∧
        w.by_ = some (.run, pd.toNat) ∧ w.isolated = false ∧ w.latched = false ∧ w.prpg = prpgSeed (s.p pa.toNat).toNat) ∧
      WaitsFor .run (.bist pd.toNat) s t ∧ SameP s t ∧ Only [.com .tsu .pgEvent, .com .tsu .ic, .com .tsu .bt, .cue] s t) ∧
  (∀ e pd pa n s, Issues .run e (.bist pd pa) s → (s.p pa.toNat).toNat < 12 →
    (sliceChecks (s.p pa.toNat).toNat true s).find? (fun c => c.2) = some (n, true) → ∃ t, exec (.bistInstruction .run e)
      s = .next t ∧
      SetsP pd.toNat 2 s t ∧ GoesTo .run (pcAfter .run s) s t ∧ t.tc.bt.outcome = 3 ∧ t.tc.bt.reason = n ∧
      t.tc.bt.win = s.tc.bt.win ∧ eventSet .tsu 0x0D 0 t ∧ Only [.com .tsu .pgEvent, .com .tsu .ic, .com .tsu .bt, .cue] s
        t) ∧
  (∀ th e pa pb r s, Issues th e (.probe pa pb) s → fld (s.p pa.toNat) 0 24 + fld (s.p pa.toNat) 24 24 ≤ 2 ^ 24 →
    curRec th s = some r → r.armed = true ∨ r.launched = true → s.tc.tk.bc ≤ r.k → 0 < fld (s.p pa.toNat) 24 24 →
    (∃ l, l < 16 ∧ lanePresent s.tc.fuse.kind l = true ∧ bit (s.p pb.toNat) l = true) →
    ∃ t, exec (.probe th e) s = .next t ∧
      (∃ q, t.t.tl.probes = s.t.tl.probes ++ [q] ∧ q.step = r.step ∧ q.attempt = r.attempt ∧
        q.first = fld (s.p pa.toNat) 0 24 ∧ q.count = fld (s.p pa.toNat) 24 24 ∧
        (∀ l, l ∈ q.lanes ↔ l < 16 ∧ lanePresent s.tc.fuse.kind l = true ∧ bit (s.p pb.toNat) l = true)) ∧
      SameP s t ∧ GoesTo th (pcAfter th s) s t ∧ Only [.com .tsu .pgEvent, .com .tsu .ic, .cue, .tallies] s t) ∧
  (∀ th e pa pb k n s, Issues th e (.probe pa pb) s → fld (s.p pa.toNat) 0 24 + fld (s.p pa.toNat) 24 24 ≤ 2 ^ 24 →
    curKick th s = some k → k < s.tc.tk.bc → bit (s.p pb.toNat) 0 = true →
    n = min (fld (s.p pa.toNat) 24 24) ((s.tc.tk.bc - k + 4095) / 4096 - fld (s.p pa.toNat) 0 24) → 0 < n →
    ∃ t, exec (.probe th e) s = .next t ∧ t.t.cue.probeSkip = sat16 (s.t.cue.probeSkip + n) ∧ eventSet .tsu 0x04 9 t ∧
      SameP s t ∧ GoesTo th (pcAfter th s) s t ∧ Only [.com .tsu .pgEvent, .com .tsu .ic, .cue, .tallies] s t)

/-- START clears the registers and starts the enabled threads at their entries, while neither runs; STOP stops both
threads, with a fault STOPPED where a step is held; PB_DATA reads and writes two words and moves INDEX by 2; the CRC is
shown after a load; reads of PB_ECC and CU_LATE clear them. Cites: R191, R193, R213, R214. -/
def Obligations.CuePages : Prop :=
  (∀ rq v s, WriteTaken .tsu rq 0x04 0x100 s → bit v 62 = false → bit v 63 = true → s.t.cue.run.alive = false →
    s.t.cue.lead.alive = false → ∃ t, exec (.cuStart rq v) s = .next t ∧ (∀ n, t.p n = 0) ∧ t.t.cue.withdrawn = none ∧
      t.t.cue.run = startThread (bit v 13) (fld v 0 12) s.t.cue.run ∧
      t.t.cue.lead = startThread (bit v 45) (fld v 32 12) s.t.cue.lead ∧ t.t.cue.store = s.t.cue.store ∧
      Only [.com .tsu .regs, .cue] s t) ∧
  (∀ rq v s, WriteTaken .tsu rq 0x04 0x100 s → bit v 62 = false → s.t.cue.run.alive = true ∨ s.t.cue.lead.alive = true →
    ∃ t, exec (.cuStart rq v) s = .next t ∧ t.t.cue = s.t.cue ∧ Only [.com .tsu .regs] s t) ∧
  (∀ rq v s, WriteTaken .tsu rq 0x04 0x100 s → bit v 62 = true → ∃ t, exec (.cuStop rq v) s = .next t ∧
    (∀ th, (getThr t.t.cue th).st = 0 ∧ (getThr t.t.cue th).wait = none) ∧
    ((∃ th, (getThr s.t.cue th).alive = true) → holdsStep s = true →
      (∀ th, (getThr s.t.cue th).alive = true → (getThr t.t.cue th).fault = 0xA ∧
        eventSet .tsu 0x04 (match th with | .run => 0 | .lead => 1) t) ∧
      t.t.mem.ownFailed = true ∧ t.tc.tk.sideline = true) ∧
    ((∀ th, (getThr s.t.cue th).alive = false) ∨ holdsStep s = false →
      (∀ th, (getThr t.t.cue th).fault = (getThr s.t.cue th).fault) ∧ SameP s t) ∧ Only [.com .tsu .tk, .com .tsu .ports,
        .com .tsu .regs, .com .tsu .pgEvent, .com .tsu .ic, .steps, .member, .cue, .signals, .huddles, .keyPort, .tallies,
        .bays] s t) ∧
  (∀ rq v s, WriteTaken .tsu rq 0x05 0x108 s → s.t.cue.run.alive = false → s.t.cue.lead.alive = false →
    ∃ t, exec (.pbDataWrite rq v) s = .next t ∧ t.pbWord s.t.cue.pbIndex = v.setWidth 32 ∧
      t.pbWord (s.t.cue.pbIndex + 1) = (v >>> 32).setWidth 32 ∧
      (∀ j, j % 4096 ≠ s.t.cue.pbIndex % 4096 → j % 4096 ≠ (s.t.cue.pbIndex + 1) % 4096 → t.pbWord j = s.pbWord j) ∧
      t.t.cue.pbIndex = (s.t.cue.pbIndex + 2) % 4096 ∧ t.t.cue.pbBusy = true ∧ Only [.cue] s t) ∧
  (∀ rq v s, WriteTaken .tsu rq 0x05 0x108 s → s.t.cue.run.alive = true ∨ s.t.cue.lead.alive = true →
    ∃ t, exec (.pbDataWrite rq v) s = .next t ∧ t.t.cue = s.t.cue ∧ eventSet .tsu 0x05 0 t ∧ Only [.com .tsu .pgEvent,
      .com .tsu .ic] s t) ∧
  (∀ rq s, ReadTaken .tsu rq 0x05 s → ∃ t, exec (.pbDataRead rq) s = .next t ∧
    t.response .tsu rq = (s.pbWord (s.t.cue.pbIndex + 1)) ++ (s.pbWord s.t.cue.pbIndex) ∧
    t.t.cue = { s.t.cue with pbIndex := (s.t.cue.pbIndex + 2) % 4096 } ∧ Only [.com .tsu .rsp, .cue] s t) ∧
  (∀ s, s.t.cue.pbBusy = true → ∃ t, exec .pbCheckDone s = .next t ∧
    t.t.cue = { s.t.cue with pbBusy := false, pbCrc := some (pbCrc s) } ∧ eventSet .tsu 0x05 1 t ∧ Only
      [.com .tsu .pgEvent, .com .tsu .ic, .cue] s t) ∧
  (∀ s, s.t.cue.pbBusy = false → exec .pbCheckDone s = .next s) ∧
  (∀ rq s, ReadTaken .tsu rq 0x05 s → ∃ t, exec (.pbEccRead rq) s = .next t ∧
    t.response .tsu rq = BitVec.ofNat 64 (s.t.cue.corrected * 2 ^ 48 + s.t.cue.lastIndex) ∧
    t.t.cue = { s.t.cue with corrected := 0 } ∧ Only [.com .tsu .rsp, .cue] s t) ∧
  (∀ rq s, ReadTaken .tsu rq 0x04 s → ∃ t, exec (.cuLateRead rq) s = .next t ∧ t.response .tsu rq = cuLate s ∧
    t.t.cue = { s.t.cue with waitLate := 0, kickLate := 0, leadLate := 0, probeSkip := 0 } ∧
    Only [.com .tsu .rsp, .cue] s t)

/-- A thread stops with STORE_ERROR, ILLEGAL_OP, THREAD_OP or REG_OWNER, in that order, before anything else; then with
the fault of the instruction. CU_FAULT shows the word and its address, and a fault while a step is held is an own
failure. Cites: R191, R192, R195, R199, R200, R201, R202, R203, R205, R206, R208, R210. -/
def Obligations.CueFaults : Prop :=
  (∀ n c th s, (n, c) ∈ cueRows th .uncorrectable → canIssue th s = true → ∃ t, exec c s = .next t ∧ Faults th 0x0B t ∧
    t.t.cue.faultWord = 0 ∧ t.t.cue.faultPc = (getThr s.t.cue th).pc ∧
    (holdsStep s = true → t.t.mem.ownFailed = true) ∧ Only [.com .tsu .tk, .com .tsu .ports, .com .tsu .pgEvent,
      .com .tsu .ic, .steps, .member, .cue, .signals, .huddles, .keyPort, .tallies, .bays] s t) ∧
  (∀ n c th e s, (n, c) ∈ cueRows th e → e ≠ .uncorrectable → canIssue th s = true →
    (cueOp (s.pbWord (getThr s.t.cue th).pc)).toNat = n → decodeCue (s.pbWord (getThr s.t.cue th).pc) = none →
    ∃ t, exec c s = .next t ∧ Faults th 1 t ∧ FaultAt th s t ∧ SameP s t ∧ (holdsStep s = true → t.t.mem.ownFailed = true)
      ∧ Only [.com .tsu .tk, .com .tsu .ports, .com .tsu .pgEvent, .com .tsu .ic, .steps, .member, .cue, .signals,
      .huddles, .keyPort, .tallies, .bays] s t) ∧
  (∀ th e s, e ≠ .uncorrectable → canIssue th s = true → cueFields (cueOp (s.pbWord (getThr s.t.cue th).pc)) = none →
    ∃ t, exec (.nop th e) s = .next t ∧ Faults th 1 t ∧ FaultAt th s t ∧ SameP s t ∧ Only [.com .tsu .tk,
      .com .tsu .ports, .com .tsu .pgEvent, .com .tsu .ic, .steps, .member, .cue, .signals, .huddles, .keyPort, .tallies,
      .bays] s t) ∧
  (∀ n c th e i s, (n, c) ∈ cueRows th e → e ≠ .uncorrectable → canIssue th s = true →
    (cueOp (s.pbWord (getThr s.t.cue th).pc)).toNat = n → decodeCue (s.pbWord (getThr s.t.cue th).pc) = some i →
    threadOk th i = false → ∃ t, exec c s = .next t ∧ Faults th 2 t ∧ FaultAt th s t ∧ SameP s t ∧ Only [.com .tsu .tk,
      .com .tsu .ports, .com .tsu .pgEvent, .com .tsu .ic, .steps, .member, .cue, .signals, .huddles, .keyPort, .tallies,
      .bays] s t) ∧
  (∀ n c th e i p s, (n, c) ∈ cueRows th e → e ≠ .uncorrectable → canIssue th s = true →
    (cueOp (s.pbWord (getThr s.t.cue th).pc)).toNat = n → decodeCue (s.pbWord (getThr s.t.cue th).pc) = some i →
    threadOk th i = true → p ∈ cueRegs i → owns th p = false →
    ∃ t, exec c s = .next t ∧ Faults th 3 t ∧ FaultAt th s t ∧ SameP s t ∧ Only [.com .tsu .tk, .com .tsu .ports,
      .com .tsu .pgEvent, .com .tsu .ic, .steps, .member, .cue, .signals, .huddles, .keyPort, .tallies, .bays] s t) ∧
  (∀ e s, Issues .run e .done s → runLaunched s = false → ∃ t, exec (.doneInstruction .run e) s = .next t ∧
    Faults .run 8 t ∧ FaultAt .run s t ∧ SameP s t ∧ Only [.com .tsu .tk, .com .tsu .ports, .com .tsu .pgEvent,
      .com .tsu .ic, .steps, .member, .cue, .signals, .huddles, .keyPort, .tallies, .bays] s t) ∧
  (∀ th e off s, Issues th e (.waitk off) s → (getThr s.t.cue th).cur = none → ∃ t, exec (.waitk th e) s = .next t ∧
    Faults th 5 t ∧ FaultAt th s t ∧ SameP s t ∧ Only [.com .tsu .tk, .com .tsu .ports, .com .tsu .pgEvent, .com .tsu .ic,
      .steps, .member, .cue, .signals, .huddles, .keyPort, .tallies, .bays] s t) ∧
  (∀ th e inc s, Issues th e (.waitn inc) s → (getThr s.t.cue th).t = none → ∃ t, exec (.waitn th e) s = .next t ∧
    Faults th 5 t ∧ FaultAt th s t ∧ SameP s t ∧ Only [.com .tsu .tk, .com .tsu .ports, .com .tsu .pgEvent, .com .tsu .ic,
      .steps, .member, .cue, .signals, .huddles, .keyPort, .tallies, .bays] s t) ∧
  (∀ th e pa s, Issues th e (.waitr pa) s → inWindow s.tc.tk.bc (s.p pa.toNat).toNat = false →
    ∃ t, exec (.waitr th e) s = .next t ∧ Faults th 6 t ∧ FaultAt th s t ∧ SameP s t ∧ eventSet .tsu 0x00 6 t ∧ Only
      [.com .tsu .tk, .com .tsu .ports, .com .tsu .pgEvent, .com .tsu .ic, .steps, .member, .cue, .signals, .huddles,
      .keyPort, .tallies, .bays] s t) ∧
  (∀ e pa slot k h s, Issues .run e (.hent pa slot) s → s.t.cue.run.cur = some k → huddleOf slot.toNat k s = some h →
    ∃ t, exec (.hent .run e) s = .next t ∧ Faults .run 4 t ∧ FaultAt .run s t ∧ SameP s t ∧ Only [.com .tsu .tk,
      .com .tsu .ports, .com .tsu .pgEvent, .com .tsu .ic, .steps, .member, .cue, .signals, .huddles, .keyPort, .tallies,
      .bays] s t) ∧
  (∀ e pa slot s, Issues .run e (.hent pa slot) s → s.t.cue.run.cur = none →
    ∃ t, exec (.hent .run e) s = .next t ∧ Faults .run 8 t ∧ FaultAt .run s t ∧ SameP s t ∧ Only [.com .tsu .tk,
      .com .tsu .ports, .com .tsu .pgEvent, .com .tsu .ic, .steps, .member, .cue, .signals, .huddles, .keyPort, .tallies,
      .bays] s t) ∧
  (∀ e pd slot s, Issues .run e (.hawait pd slot) s → s.t.cue.run.cur.bind (fun k => huddleOf slot.toNat k s) = none →
    ∃ t, exec (.hawait .run e) s = .next t ∧ Faults .run 4 t ∧ FaultAt .run s t ∧ SameP s t ∧ Only [.com .tsu .tk,
      .com .tsu .ports, .com .tsu .pgEvent, .com .tsu .ic, .steps, .member, .cue, .signals, .huddles, .keyPort, .tallies,
      .bays] s t) ∧
  (∀ e pd slot k h n s, Issues .run e (.hawait pd slot) s → s.t.cue.run.cur = some k →
    huddleOf slot.toNat k s = some h → h.out = some (2, n) → ∃ t, exec (.hawait .run e) s = .next t ∧
      Faults .run 9 t ∧ FaultAt .run s t ∧ SameP s t ∧ t.t.mem = s.t.mem ∧ Only [.com .tsu .tk, .com .tsu .ports,
        .com .tsu .pgEvent, .com .tsu .ic, .steps, .member, .cue, .signals, .huddles, .keyPort, .tallies, .bays] s t) ∧
  (∀ th e r n1 cell s, Issues th e (.cwait r n1 cell) s → hasWaiter s cell.toNat r.toNat = true →
    ∃ t, exec (.cwait th e) s = .next t ∧ Faults th 4 t ∧ FaultAt th s t ∧ SameP s t ∧ Only [.com .tsu .tk,
      .com .tsu .ports, .com .tsu .pgEvent, .com .tsu .ic, .steps, .member, .cue, .signals, .huddles, .keyPort, .tallies,
      .bays] s t) ∧
  (∀ th e ps w s, Issues th e (.resv ps w) s → hasStock s = true →
    w = 0 ∨ leaveStepOk (s.p ps.toNat).toNat s = false → ∃ t, exec (.resv th e) s = .next t ∧
      Faults th 4 t ∧ FaultAt th s t ∧ SameP s t ∧ t.t.st = s.t.st ∧ Only [.com .tsu .tk, .com .tsu .ports,
        .com .tsu .pgEvent, .com .tsu .ic, .steps, .member, .cue, .signals, .huddles, .keyPort, .tallies, .bays] s t) ∧
  (∀ e pd pa s, Issues .run e (.bist pd pa) s → 12 ≤ (s.p pa.toNat).toNat →
    ∃ t, exec (.bistInstruction .run e) s = .next t ∧ Faults .run 4 t ∧ FaultAt .run s t ∧ SameP s t ∧ Only
      [.com .tsu .tk, .com .tsu .ports, .com .tsu .pgEvent, .com .tsu .ic, .steps, .member, .cue, .signals, .huddles,
      .keyPort, .tallies, .bays] s t) ∧
  (∀ th e pa pb s, Issues th e (.probe pa pb) s → 2 ^ 24 < fld (s.p pa.toNat) 0 24 + fld (s.p pa.toNat) 24 24 →
    ∃ t, exec (.probe th e) s = .next t ∧ Faults th 4 t ∧ FaultAt th s t ∧ SameP s t ∧ Only [.com .tsu .tk,
      .com .tsu .ports, .com .tsu .pgEvent, .com .tsu .ic, .steps, .member, .cue, .signals, .huddles, .keyPort, .tallies,
      .bays] s t) ∧
  (∀ th e pd src n s, Issues th e (.get pd src) s → getSource th src.toNat s = .error n →
    ∃ t, exec (.get th e) s = .next t ∧ Faults th n t ∧ FaultAt th s t ∧ SameP s t ∧ Only [.com .tsu .tk,
      .com .tsu .ports, .com .tsu .pgEvent, .com .tsu .ic, .steps, .member, .cue, .signals, .huddles, .keyPort, .tallies,
      .bays] s t)

/-- post, post-targeted, add, wait and reset act on their cell and run its grant pass; a count out of range changes no
count and is an own failure; a taken rank refuses a wait; TEST answers; a bad access is counted; while the window waits,
the access is queued, and without units it does nothing. Cites: R216, R217, R218, R219, R220, R222, R232. -/
def Obligations.CellWindow : Prop :=
  (∀ rq c (n : Nat) x s, WindowOpen s → c < 65536 → 1 ≤ n → n < 2 ^ 31 → x = s.cell c → countOk (x.count + n) = true →
    ∃ t, exec (.cellPost rq c n) s = .next t ∧ CellIs c { x with count := x.count + n } s t ∧
      CwaitsEnd c { x with count := x.count + n } s t ∧ Only [.cue, .signals] s t) ∧
  (∀ rq c r x s, WindowOpen s → c < 65536 → r < 16 → x = s.cell c → tabGet 0 x.held r < 15 →
    ∃ t, exec (.cellPostt rq c r) s = .next t ∧
      CellIs c { x with held := tabSet 0 x.held r (tabGet 0 x.held r + 1) } s t ∧
      CwaitsEnd c { x with held := tabSet 0 x.held r (tabGet 0 x.held r + 1) } s t ∧ Only [.cue, .signals] s t) ∧
  (∀ rq c dlt x s, WindowOpen s → c < 65536 → countOk dlt = true → x = s.cell c → countOk (x.count + dlt) = true →
    ∃ t, exec (.cellAdd rq c dlt) s = .next t ∧ CellIs c { x with count := x.count + dlt } s t ∧
      CwaitsEnd c { x with count := x.count + dlt } s t ∧ Only [.cue, .signals] s t) ∧
  (∀ rq c (n : Nat) s, WindowOpen s → c < 65536 → 1 ≤ n → n < 2 ^ 31 → countOk ((s.cell c).count + n) = false →
    ∃ t, exec (.cellPost rq c n) s = .next t ∧ SameCounts s t ∧ eventSet .tsu 0x06 5 t ∧ OwnFailure s t ∧
      Only [.com .tsu .tk, .com .tsu .ports, .com .tsu .pgEvent, .com .tsu .ic, .steps, .member, .cue, .signals, .huddles,
        .keyPort, .tallies, .bays] s t) ∧
  (∀ rq c r s, WindowOpen s → c < 65536 → r < 16 → 15 ≤ tabGet 0 (s.cell c).held r →
    ∃ t, exec (.cellPostt rq c r) s = .next t ∧ SameCounts s t ∧ eventSet .tsu 0x06 5 t ∧ OwnFailure s t ∧
      Only [.com .tsu .tk, .com .tsu .ports, .com .tsu .pgEvent, .com .tsu .ic, .steps, .member, .cue, .signals, .huddles,
        .keyPort, .tallies, .bays] s t) ∧
  (∀ rq c r need x w g s, WindowOpen s → c < 65536 → r < 16 → 1 ≤ need → need < 65536 → hasWaiter s c r = false →
    x = s.cell c → w = tabSet none x.waiters r (some ⟨need, .fabric rq⟩) →
    g = x.granted - (if x.granted.testBit r then 2 ^ r else 0) →
    ∃ t, exec (.cellWait rq c r need) s = .next t ∧ CellIs c { x with waiters := w, granted := g } s t ∧
      Only [.cue, .signals] s t) ∧
  (∀ rq c r need s, WindowOpen s → c < 65536 → r < 16 → 1 ≤ need → need < 65536 → hasWaiter s c r = true →
    ∃ t, exec (.cellWait rq c r need) s = .next t ∧
      t.t.sg = { s.t.sg with waitBusy := sat16 (s.t.sg.waitBusy + 1), wakes := s.t.sg.wakes ++ [⟨c, r, false, .fabric rq⟩]
        } ∧
      Only [.signals] s t) ∧
  (∀ rq c x s, WindowOpen s → c < 65536 → x = s.cell c → ∃ t, exec (.cellReset rq c) s = .next t ∧
    CellIs c { x with count := 0, held := [] } s t ∧ CwaitsEnd c { x with count := 0, held := [] } s t ∧
    Only [.cue, .signals] s t) ∧
  (∀ rq c s, WindowOpen s → c < 65536 → ∃ t, exec (.cellTest rq c) s = .next t ∧
    fld (t.response .tsu rq) 0 32 = ((s.cell c).count % 2 ^ 32).toNat ∧
    (∀ r, r < 16 → bit (t.response .tsu rq) (48 + r) = hasWaiter s c r ∧
      bit (t.response .tsu rq) (32 + r) = (tabGet 0 (s.cell c).held r != 0)) ∧ Only [.com .tsu .rsp] s t) ∧
  (∀ rq off bytes s, tsuUnits s = true → windowWaits s = true → off < 2 ^ 20 → bytes ≠ 8 ∨ off % 8 ≠ 0 →
    (∀ v, ∃ t, exec (.cellBadCommand rq off bytes true v) s = .next t ∧
      t.t.sg = { s.t.sg with waitingReqs := s.t.sg.waitingReqs ++ [.bad] } ∧ Only [.signals] s t) ∧
    (∀ v, ∃ t, exec (.cellBadCommand rq off bytes false v) s = .next t ∧
      t.t.sg = { s.t.sg with waitingReqs := s.t.sg.waitingReqs ++ [.badRead rq] } ∧ Only [.signals] s t)) ∧
  (∀ rq off bytes wr v s, WindowOpen s → off < 2 ^ 20 → bytes ≠ 8 ∨ off % 8 ≠ 0 ∨ (off % 16 = 0 ∧ wr = true ∧ commandOk v
    = false) →
    ∃ t, exec (.cellBadCommand rq off bytes wr v) s = .next t ∧
      t.t.sg = { s.t.sg with badAccess := sat16 (s.t.sg.badAccess + 1) } ∧ eventSet .tsu 0x06 1 t ∧
      (wr = false → t.response .tsu rq = 0) ∧
      Only [.com .tsu .pgEvent, .com .tsu .ic, .com .tsu .rsp, .signals] s t) ∧
  (∀ rq off v s, WindowOpen s → off < 2 ^ 20 → off % 16 = 8 → ∃ t, exec (.cellBadCommand rq off 8 false v) s = .next t ∧
    t.response .tsu rq = BitVec.ofNat 64 ((s.cell (off / 16)).granted) ∧ Only [.com .tsu .rsp] s t) ∧
  (∀ rq c n s, tsuUnits s = true → windowWaits s = true → c < 65536 → 1 ≤ n → n < 2 ^ 31 →
    ∃ t, exec (.cellPost rq c n) s = .next t ∧
      t.t.sg = { s.t.sg with waitingReqs := s.t.sg.waitingReqs ++ [.post rq c n] } ∧ Only [.signals] s t) ∧
  (∀ rq c s, tsuUnits s = true → windowWaits s = true → c < 65536 → ∃ t, exec (.cellTest rq c) s = .next t ∧
    t.t.sg = { s.t.sg with waitingReqs := s.t.sg.waitingReqs ++ [.test rq c] } ∧ Only [.signals] s t) ∧
  (∀ rq c n s, tsuUnits s = false → exec (.cellPost rq c n) s = .next s)

/-- A post leaves as the 32-byte record of R225 with its stream's counts, or is stale without a LAUNCHED step; a record is
read back as the post it was made of; a completion post acts on its cell; a received post is discarded, held in the
bullpen or applied as R227 says; DEPART and ARRIVED count, and an arrival releases a held post; an orphan is an own
failure. Cites: R223, R224, R225, R226, R227, R228, R229. -/
def Obligations.RemotePosts : Prop :=
  (∀ rq v r s, WriteTaken .tsu rq 0x06 0x120 s → bit v 63 = true ∨ fld v 32 16 ≠ 0 → launchedStep s = some r →
    ∃ t, exec (.sgRpost rq v) s = .next t ∧
      PostLeaves (fld v 50 9) (postOf (fld v 50 9) (fld v 0 16) (fld v 32 16) (bit v 63) (fld v 59 4) r s) s t ∧
      Only [.signals] s t) ∧
  (∀ rq v s, WriteTaken .tsu rq 0x06 0x120 s → bit v 63 = true ∨ fld v 32 16 ≠ 0 → launchedStep s = none →
    ∃ t, exec (.sgRpost rq v) s = .next t ∧ t.t.sg = { s.t.sg with stalePost := sat16 (s.t.sg.stalePost + 1) } ∧
      eventSet .tsu 0x06 2 t ∧ Only [.com .tsu .pgEvent, .com .tsu .ic, .signals] s t) ∧
  (∀ rq v s, WriteTaken .tsu rq 0x06 0x120 s → bit v 63 = false → fld v 32 16 = 0 →
    ∃ t, exec (.sgRpost rq v) s = .next t ∧ t.t.sg = { s.t.sg with badAccess := sat16 (s.t.sg.badAccess + 1) } ∧
      Only [.signals] s t) ∧
  (∀ c (n : Nat) x r st s, tsuUnits s = true → sliceIsolated s 5 = false → c < 65536 → 1 ≤ n → x = s.cell c →
    countOk (x.count + n) = true → ∃ t, exec (.dmaCompletionPost c n false r false st) s = .next t ∧
      CellIs c { x with count := x.count + n } s t ∧ CwaitsEnd c { x with count := x.count + n } s t ∧
      Only [.cue, .signals] s t) ∧
  (∀ c (n : Nat) x r st s, tsuUnits s = true → sliceIsolated s 5 = false → c < 65536 → r < 16 → x = s.cell c →
    tabGet 0 x.held r < 15 → ∃ t, exec (.dmaCompletionPost c n true r false st) s = .next t ∧
      CellIs c { x with held := tabSet 0 x.held r (tabGet 0 x.held r + 1) } s t ∧ Only [.cue, .signals] s t) ∧
  (∀ c n tg r st q s, tsuUnits s = true → sliceIsolated s 6 = false → c < 65536 → st < 512 →
    (if tg = true then r < 16 else 1 ≤ n ∧ n < 65536) → launchedStep s = some q →
    ∃ t, exec (.dmaCompletionPost c n tg r true st) s = .next t ∧ PostLeaves st (postOf st c n tg r q s) s t ∧
      Only [.signals] s t) ∧
  (∀ l s, postCrcOk l = false → tsuUnits s = true → portClosed s = false → s.t.sg.port = [] → s.t.sg.bullpen = [] →
    ∃ t, exec (.remotePostReceive l) s = .next t ∧ t.t.sg.postCrc = sat16 (s.t.sg.postCrc + 1) ∧ SameCounts s t ∧
      OwnFailure s t ∧ t.t.sg.bullpen = [] ∧ Only [.com .tsu .tk, .com .tsu .ports, .com .tsu .pgEvent, .com .tsu .ic,
        .steps, .member, .cue, .signals, .huddles, .keyPort, .tallies, .bays] s t) ∧
  (∀ l p s, postCrcOk l = true → p = readPost l → tsuUnits s = true → portClosed s = false → s.t.sg.port = [] →
    s.t.sg.bullpen = [] →
    postVerdict s ⟨p, s.tc.up, true⟩ = .stale → ∃ t, exec (.remotePostReceive l) s = .next t ∧
      t.t.sg = { s.t.sg with stalePost := sat16 (s.t.sg.stalePost + 1) } ∧ eventSet .tsu 0x06 2 t ∧ Only
        [.com .tsu .pgEvent, .com .tsu .ic, .signals] s t) ∧
  (∀ l p s, postCrcOk l = true → p = readPost l → tsuUnits s = true → portClosed s = false → s.t.sg.port = [] →
    s.t.sg.bullpen = [] →
    postVerdict s ⟨p, s.tc.up, true⟩ = .mismatch → ∃ t, exec (.remotePostReceive l) s = .next t ∧
      eventSet .tsu 0x06 3 t ∧ SameCounts s t ∧ OwnFailure s t ∧ t.sIn p.stream = s.sIn p.stream ∧ Only [.com .tsu .tk,
        .com .tsu .ports, .com .tsu .pgEvent, .com .tsu .ic, .steps, .member, .cue, .signals, .huddles, .keyPort,
        .tallies, .bays] s t) ∧
  (∀ l p s, postCrcOk l = true → p = readPost l → tsuUnits s = true → portClosed s = false → s.t.sg.port = [] →
    postVerdict s ⟨p, s.tc.up, true⟩ = .hold →
    ∃ t, exec (.remotePostReceive l) s = .next t ∧
      t.t.sg = { s.t.sg with bullpen := s.t.sg.bullpen ++ [⟨p, s.tc.up, true⟩] } ∧
      (1023 ≤ s.t.sg.bullpen.length → eventSet .tsu 0x06 0 t) ∧
      Only [.com .tsu .pgEvent, .com .tsu .ic, .signals] s t) ∧
  (∀ l p s, postCrcOk l = true → p = readPost l → tsuUnits s = true → portClosed s = false → s.t.sg.port = [] →
    s.t.sg.bullpen = [] → sliceIsolated s 5 = true → s.t.sg.waitingReqs = [] → p.targeted = false →
    postVerdict s ⟨p, s.tc.up, true⟩ = .apply → ∃ t, exec (.remotePostReceive l) s = .next t ∧ SameCounts s t ∧
      t.t.sg.waitingReqs = [.post 0 p.cell p.n] ∧
      t.sIn p.stream = { s.sIn p.stream with next := ((s.sIn p.stream).next + 1) % 256 } ∧ Only [.signals] s t) ∧
  (∀ l p x s, postCrcOk l = true → p = readPost l → tsuUnits s = true → portClosed s = false → sliceIsolated s 5 = false →
    s.t.sg.port = [] → s.t.sg.bullpen = [] →
    postVerdict s ⟨p, s.tc.up, true⟩ = .apply → x = s.cell p.cell → p.targeted = false → countOk (x.count + p.n) = true →
    ∃ t, exec (.remotePostReceive l) s = .next t ∧ CellIs p.cell { x with count := x.count + p.n } s t ∧
      CwaitsEnd p.cell { x with count := x.count + p.n } s t ∧
      t.sIn p.stream = { s.sIn p.stream with next := ((s.sIn p.stream).next + 1) % 256 } ∧
      (∀ j, j ≠ p.stream → t.sIn j = s.sIn j) ∧ Only [.cue, .signals] s t) ∧
  (∀ l s, tsuUnits s = true → portClosed s = true ∨ s.t.sg.port ≠ [] →
    ∃ t, exec (.remotePostReceive l) s = .next t ∧
      t.t.sg = { s.t.sg with port := s.t.sg.port ++ [⟨readPost l, s.tc.up, postCrcOk l⟩] } ∧ Only [.signals] s t) ∧
  (∀ p, p.dest < 2 ^ 32 → p.source < 2 ^ 32 → p.epoch < 2 ^ 32 → p.step16 < 65536 → p.attempt < 256 → p.rank < 16 →
    p.stream < 512 → p.seq < 256 → p.mark < 2 ^ 24 → p.cell < 65536 → p.n < 65536 →
    (postRecord p).length = 32 ∧ postCrcOk (postRecord p) = true ∧ readPost (postRecord p) = p) ∧
  (∀ st tag s, tsuUnits s = true → st < 512 → sliceIsolated s 6 = true →
    (∃ t, exec (.departReport st) s = .next t ∧
      t.t.sg = { s.t.sg with waitingReqs := s.t.sg.waitingReqs ++ [.depart st] } ∧ Only [.signals] s t) ∧
    (∃ t, exec (.arrivalReport st tag) s = .next t ∧
      t.t.sg = { s.t.sg with waitingReqs := s.t.sg.waitingReqs ++ [.arrive st tag] } ∧ Only [.signals] s t)) ∧
  (∀ st s, tsuUnits s = true → st < 512 → sliceIsolated s 6 = false → ∃ t, exec (.departReport st) s = .next t ∧
    t.sOut st = { s.sOut st with depart := ((s.sOut st).depart + 1) % 2 ^ 24 } ∧ (∀ j, j ≠ st → t.sOut j = s.sOut j) ∧
    (∀ j, t.sIn j = s.sIn j) ∧ Only [.signals] s t) ∧
  (∀ st tag s, tsuUnits s = true → st < 512 → sliceIsolated s 6 = false → tag = ownTag s → s.t.sg.bullpen = [] →
    s.t.sg.port = [] →
    ∃ t, exec (.arrivalReport st tag) s = .next t ∧
      t.sIn st = { s.sIn st with arrived := ((s.sIn st).arrived + 1) % 2 ^ 24 } ∧ (∀ j, j ≠ st → t.sIn j = s.sIn j) ∧
      Only [.signals] s t) ∧
  (∀ st tag h i s, tsuUnits s = true → st < 512 → tag = ownTag s → s.t.sg.bullpen = [h] → s.t.sg.port = [] →
    sliceIsolated s 5 = false → sliceIsolated s 6 = false → i = { s.sIn st with arrived := ((s.sIn st).arrived + 1) % 2 ^
      24 } →
    h.crcOk = true → h.post.epoch = s.t.mem.epoch → s.t.mem.epoch ≠ 0 → s.t.mem.launchedInEpoch = true →
    h.post.step16 = s.t.mem.curStep % 65536 → s.t.mem.curStep < 2 ^ 48 → h.post.attempt = s.t.mem.curAttempt →
    h.post.stream = st → h.post.source = i.source → h.post.seq = i.next → h.post.mark = i.arrived → h.post.targeted =
      false →
    countOk ((s.cell h.post.cell).count + h.post.n) = true → ∃ t, exec (.arrivalReport st tag) s = .next t ∧
      t.t.sg.bullpen = [] ∧ t.sIn st = { i with next := (i.next + 1) % 256 } ∧
      CellIs h.post.cell { s.cell h.post.cell with count := (s.cell h.post.cell).count + h.post.n } s t ∧
      Only [.cue, .signals] s t) ∧
  (∀ st tag s, sliceIsolated s 6 = false → tag ≠ ownTag s → exec (.arrivalReport st tag) s = .next s) ∧
  (∀ s, orphanDue s = true → ∃ t, exec .orphanPost s = .next t ∧ eventSet .tsu 0x06 4 t ∧ OwnFailure s t ∧ SameCounts s t ∧
    Only [.com .tsu .tk, .com .tsu .ports, .com .tsu .pgEvent, .com .tsu .ic, .steps, .member, .cue, .signals, .huddles,
      .keyPort, .tallies, .bays] s t) ∧
  (∀ s, orphanDue s = false → exec .orphanPost s = .next s)

/-- A SWITCH is refused while a thread runs, a waiter stands or a post is held, and starts otherwise; at its end the cells
are saved and loaded in their 16-byte form where the TSU is compact, cleared otherwise; a read of SG_ERRORS clears it.
Cites: R217, R231, R232, R243. -/
def Obligations.ContextSwitch : Prop :=
  (∀ rq v s, WriteTaken .tsu rq 0x06 0x100 s → bit v 63 = true → s.t.sg.ctxBusy = false →
    s.t.cue.run.alive = true ∨ s.t.cue.lead.alive = true ∨ anyWaiter s = true ∨ s.t.sg.bullpen ≠ [] →
    ∃ t, exec (.sgCtxSwitch rq v) s = .next t ∧ t.t.sg = { s.t.sg with ctxResult := 3 } ∧
      Only [.com .tsu .regs, .signals] s t) ∧
  (∀ rq v s, WriteTaken .tsu rq 0x06 0x100 s → bit v 63 = true → s.t.sg.ctxBusy = false → s.t.cue.run.alive = false →
    s.t.cue.lead.alive = false → anyWaiter s = false → s.t.sg.bullpen = [] → ∃ t, exec (.sgCtxSwitch rq v) s = .next t ∧
      t.t.sg = { s.t.sg with ctxBusy := true, ctxSave := bit v 0, ctxLoad := bit v 1 } ∧
      Only [.com .tsu .regs, .signals] s t) ∧
  (∀ rq v s, WriteTaken .tsu rq 0x06 0x100 s → bit v 63 = false ∨ s.t.sg.ctxBusy = true →
    ∃ t, exec (.sgCtxSwitch rq v) s = .next t ∧ Only [.com .tsu .regs] s t) ∧
  (∀ img base s, base = (s.reg .tsu 0x6110).toNat → s.t.sg.ctxBusy = true → s.t.sg.waitingReqs = [] →
    s.t.sg.compact = true → s.t.sg.ctxLoad = true →
    (∀ i, i ∈ img → base ≤ i.addr ∧ i.addr < base + 2 ^ 20 ∧ i.addr % 16 = 0) → (img.map (·.addr)).Nodup →
    ∃ t, exec (.ctxSwitchDone img) s = .next t ∧ t.t.sg.ctxBusy = false ∧ t.t.sg.ctxResult = 1 ∧ eventSet .tsu 0x06 6 t ∧
      (s.t.sg.ctxSave = true → t.t.sg.saved = ctxImage s) ∧
      (∀ i, i ∈ img → ∀ c, i.addr = base + 16 * c → (t.cell c).count = sx 32 (natBE (i.bytes.take 4)) ∧
        (t.cell c).held = (cellOf i.bytes {}).held) ∧
      (∀ c, (∀ i, i ∈ img → i.addr ≠ base + 16 * c) → (t.cell c).count = 0 ∧ (t.cell c).held = []) ∧
      Only [.com .tsu .pgEvent, .com .tsu .ic, .signals] s t) ∧
  (∀ x y, countOk x.count = true → (cellOf (cellBytes x) y).count = x.count ∧
    (∀ r, r < 16 → tabGet 0 (cellOf (cellBytes x) y).held r = tabGet 0 x.held r % 16)) ∧
  (∀ img s, s.t.sg.ctxBusy = true → s.t.sg.waitingReqs = [] → s.t.sg.compact = false ∨ s.t.sg.ctxLoad = false →
    ∃ t, exec (.ctxSwitchDone img) s = .next t ∧ t.t.sg.ctxBusy = false ∧
      t.t.sg.ctxResult = (if s.t.sg.compact then 1 else 2) ∧ eventSet .tsu 0x06 6 t ∧
      (s.t.sg.compact = true → s.t.sg.ctxSave = true → t.t.sg.saved = ctxImage s) ∧
      (∀ c, (t.cell c).count = 0 ∧ (t.cell c).held = []) ∧ Only [.com .tsu .pgEvent, .com .tsu .ic, .signals] s t) ∧
  (∀ img s, s.t.sg.ctxBusy = false → exec (.ctxSwitchDone img) s = .next s) ∧
  (∀ rq s, ReadTaken .tsu rq 0x06 s → ∃ t, exec (.sgErrorsRead rq) s = .next t ∧
    t.response .tsu rq = BitVec.ofNat 64 (s.t.sg.stalePost * 2 ^ 48 + s.t.sg.waitBusy * 2 ^ 32 +
      s.t.sg.badAccess * 2 ^ 16 + s.t.sg.postCrc) ∧
    t.t.sg = { s.t.sg with stalePost := 0, waitBusy := 0, badAccess := 0, postCrc := 0 } ∧
    Only [.com .tsu .rsp, .signals] s t)

/-- A child's latest entry stands in the census until the subtree is complete; a complete arm or done census goes up, or
at the acting referee is ACCEPTED in time or RELEASED; a complete huddle is released, ends in MISFIT, goes up for a
credit or waits for one; a misfit report is kept at the lowest common ancestor or where it may be one, goes on
elsewhere, and stops the job at the acting referee. Cites: R74, R190, R233, R235, R236, R237, R240, R241, R308. -/
def Obligations.CensusEntries : Prop :=
  (∀ p h ep f i es s, Accepts .dxd p h ⟨ep, .censusUp f⟩ s → f.kind < 2 → i = ⟨f.kind, f.slot, f.step, f.attempt, ep⟩ →
    es = withEntry i ⟨p, f.count, f.fp⟩ s → NoEarly i s → (∀ g, groupOf s ep 0 = some g → g.2 = 0 ∨ (censusWith i
      es).total < g.2) →
    ∃ t, exec (.censusUpReceive p h ep f) s = .next t ∧ entriesOf i t = es ∧ (t.census i).isSome = true ∧
      (∀ j, j ≠ i → t.census j = s.census j) ∧ OtherPorts .dxd p s t ∧ Only [.com .dxd .ports, .census] s t) ∧
  (∀ p h ep f i es g s, Accepts .dxd p h ⟨ep, .censusUp f⟩ s → f.kind < 2 → i = ⟨f.kind, f.slot, f.step, f.attempt, ep⟩ →
    es = withEntry i ⟨p, f.count, f.fp⟩ s → NoEarly i s → groupOf s ep 0 = some g → g.2 ≠ 0 → g.2 ≤ (censusWith i
      es).total →
    rootActs s = false → (s.census i).map (·.sent) ≠ some true →
    ∃ t, exec (.censusUpReceive p h ep f) s = .next t ∧ (t.census i).map (·.sent) = some true ∧ entriesOf i t = es ∧
      Queued .dxd (upPort s) ⟨ep, .censusUp ⟨f.kind, f.slot, f.step, f.attempt, (censusWith i es).total, 0⟩⟩ t ∧
      t.x.cs.credits = s.x.cs.credits ∧ Only [.com .dxd .ports, .census] s t) ∧
  (∀ p h ep f i es g r s, Accepts .dxd p h ⟨ep, .censusUp f⟩ s → f.kind = 0 → i = ⟨0, f.slot, f.step, f.attempt, ep⟩ →
    es = withEntry i ⟨p, f.count, f.fp⟩ s → NoEarly i s → groupOf s ep 0 = some g → g.2 ≠ 0 → g.2 ≤ (censusWith i
      es).total →
    rootActs s = true → s.rstep ep f.step f.attempt = some r → r.withdrawn = false → r.accepted = false →
    s.dc.tk.bc + 10000 ≤ r.k → 0 < ledgerFree s.x.lg → ∃ t, exec (.censusUpReceive p h ep f) s = .next t ∧
      t.rstep ep f.step f.attempt = some { r with armDone := true, accepted := true } ∧ t.census i = none ∧
      (∃ q, t.x.lg.recs.getLast? = some q ∧ q.ty = 5 ∧ q.step = f.step ∧ q.attempt = f.attempt ∧ q.epoch = ep ∧
        q.seq = s.x.lg.next) ∧ Only [.com .dxd .ports, .com .dxd .pgEvent, .com .dxd .ic, .kicks, .census, .ledger,
          .referee] s t) ∧
  (∀ p h ep f i es g r s, Accepts .dxd p h ⟨ep, .censusUp f⟩ s → f.kind = 0 → i = ⟨0, f.slot, f.step, f.attempt, ep⟩ →
    es = withEntry i ⟨p, f.count, f.fp⟩ s → NoEarly i s → groupOf s ep 0 = some g → g.2 ≠ 0 → g.2 ≤ (censusWith i
      es).total →
    rootActs s = true → s.rstep ep f.step f.attempt = some r → r.withdrawn = true ∨ (r.accepted = false ∧ r.k < s.dc.tk.bc
      + 10000) →
    ∃ t, exec (.censusUpReceive p h ep f) s = .next t ∧ entriesOf i t = es ∧ Only [.com .dxd .ports, .census] s t) ∧
  (∀ p h ep f i es g r s, Accepts .dxd p h ⟨ep, .censusUp f⟩ s → f.kind = 1 → i = ⟨1, f.slot, f.step, f.attempt, ep⟩ →
    es = withEntry i ⟨p, f.count, f.fp⟩ s → NoEarly i s → groupOf s ep 0 = some g → g.2 ≠ 0 → g.2 ≤ (censusWith i
      es).total →
    rootActs s = true → s.rstep ep f.step f.attempt = some r → Unseen .dxd (.censusDn ep 1 f.slot f.step f.attempt 0) s →
    ∃ t, exec (.censusUpReceive p h ep f) s = .next t ∧
      t.rstep ep f.step f.attempt = some { r with doneDone := true } ∧ t.census i = none ∧
      (∀ q, q ∈ dnPorts s ep →
        Queued .dxd q ⟨ep, .censusDn ⟨1, f.slot, f.step, f.attempt, 0, (censusWith i es).total⟩⟩ t) ∧
      Only [.com .dxd .ports, .com .dxd .seen, .census, .referee] s t) ∧
  (∀ p h ep f i es g s, Accepts .dxd p h ⟨ep, .censusUp f⟩ s → f.kind = 2 → i = ⟨2, f.slot, f.step, f.attempt, ep⟩ →
    s.x.straps.role ≠ 0 → es = withEntry i ⟨p, f.count, f.fp⟩ s → NoEarly i s → (∀ e, e ∈ es → e.fp = f.fp) →
    groupOf s ep (fpGroup f.fp) = some g → g.2 ≠ 0 → g.2 ≤ (censusWith i es).total → g.1 = true →
    ((s.census i).map (·.misfits)).getD [] = [] → Unseen .dxd (.censusDn ep 2 f.slot f.step f.attempt 0) s →
    ∃ t, exec (.censusUpReceive p h ep f) s = .next t ∧ t.census i = none ∧
      (∀ q, q ∈ dnPorts s ep →
        Queued .dxd q ⟨ep, .censusDn ⟨2, f.slot, f.step, f.attempt, 0, (censusWith i es).total⟩⟩ t) ∧
      Only [.com .dxd .ports, .com .dxd .seen, .census] s t) ∧
  (∀ p h ep f i es g s, Accepts .dxd p h ⟨ep, .censusUp f⟩ s → f.kind = 2 → i = ⟨2, f.slot, f.step, f.attempt, ep⟩ →
    s.x.straps.role = 1 → es = withEntry i ⟨p, f.count, f.fp⟩ s → NoEarly i s → (∀ e, e ∈ es → e.fp = f.fp) →
    groupOf s ep (fpGroup f.fp) = some g → g.2 ≠ 0 → g.2 ≤ (censusWith i es).total → g.1 = false →
    (s.census i).map (·.sent) ≠ some true → ∃ t, exec (.censusUpReceive p h ep f) s = .next t ∧
      (s.x.cs.credits ≠ 0 → s.x.cs.open_.any (fun w => w.waiting && w.id.before i) = false →
        t.x.cs.credits = s.x.cs.credits - 1 ∧ (t.census i).map (·.sent) = some true ∧
        Queued .dxd (upPort s) ⟨ep, .censusUp ⟨2, f.slot, f.step, f.attempt, (censusWith i es).total, f.fp⟩⟩ t) ∧
      (s.x.cs.credits = 0 ∨ s.x.cs.open_.any (fun w => w.waiting && w.id.before i) = true →
        t.x.cs.credits = s.x.cs.credits ∧ (t.census i).map (·.waiting) = some true ∧
        (s.x.cs.open_.any (·.waiting) = false → eventSet .dxd 0x13 0 t)) ∧
      Only [.com .dxd .ports, .com .dxd .pgEvent, .com .dxd .ic, .census] s t) ∧
  (∀ p h ep f i es c o g s, Accepts .dxd p h ⟨ep, .censusUp f⟩ s → f.kind = 2 → i = ⟨2, f.slot, f.step, f.attempt, ep⟩ →
    s.x.straps.role = 1 → es = withEntry i ⟨p, f.count, f.fp⟩ s → NoEarly i s → c = censusWith i es →
    s.census i = some o → o.judged = [] → groupOf s ep (fpGroup c.reference) = some g → g.2 ≠ 0 → g.2 ≤ c.total → g.1 =
      true → f.fp ≠ c.reference →
    Unseen .dxd (.censusDn ep 2 f.slot f.step f.attempt 3) s →
    ∃ t, exec (.censusUpReceive p h ep f) s = .next t ∧ t.census i = none ∧ eventSet .dxd 0x13 1 t ∧
      (∃ n, ∀ q, q ∈ dnPorts s ep → Queued .dxd q ⟨ep, .censusDn ⟨2, f.slot, f.step, f.attempt, 3, n⟩⟩ t) ∧
      Only [.com .dxd .ports, .com .dxd .pgEvent, .com .dxd .ic, .com .dxd .seen, .kicks, .census, .scores, .ledger,
        .referee] s t) ∧
  (∀ p h ep f b s, Accepts .dxd p h ⟨ep, .censusUp f⟩ s → f.kind = 3 → rootActs s = true →
    someLca s ep = false →
    s.census ⟨2, f.slot, f.step, f.attempt, ep⟩ = none → jobOfEpoch s ep = some b → s.job b.slot = some b → b.ending =
      none → b.state ≠ 5 →
    b.state ≠ 0 → ∃ t, exec (.censusUpReceive p h ep f) s = .next t ∧
      (∃ c, t.job b.slot = some c ∧ c.ending = some 6 ∧ c.stopArms = true ∧ c.pause = none) ∧
      Only [.com .dxd .ports, .com .dxd .pgEvent, .com .dxd .ic, .com .dxd .seen, .kicks, .census, .scores, .ledger,
        .referee] s t) ∧
  (∀ p h ep f s, Accepts .dxd p h ⟨ep, .censusUp f⟩ s → f.kind = 3 → rootActs s = false →
    s.census ⟨2, f.slot, f.step, f.attempt, ep⟩ = none → someLca s ep = false ∨ (unnamed f = true ∧ dxdLevel s = 2) →
    ∃ t, exec (.censusUpReceive p h ep f) s = .next t ∧ Queued .dxd (upPort s) ⟨ep, .censusUp f⟩ t ∧
      Only [.com .dxd .ports] s t) ∧
  (∀ p h ep f i s, Accepts .dxd p h ⟨ep, .censusUp f⟩ s → f.kind = 3 → i = ⟨2, f.slot, f.step, f.attempt, ep⟩ →
    s.census i = none → someLca s ep = true → unnamed f = false ∨ dxdLevel s ≠ 2 →
    ∃ t, exec (.censusUpReceive p h ep f) s = .next t ∧
      t.x.cs = { s.x.cs with early := s.x.cs.early ++ [(i, s.dc.up, f)] } ∧
      OtherPorts .dxd p s t ∧ Only [.com .dxd .ports, .census] s t) ∧
  (∀ p h ep f i c n s, Accepts .dxd p h ⟨ep, .censusUp f⟩ s → f.kind = 3 → i = ⟨2, f.slot, f.step, f.attempt, ep⟩ →
    s.census i = some c → c.entries ≠ [] → censusGroup s c = some (true, n) →
    ∃ t, exec (.censusUpReceive p h ep f) s = .next t ∧ t.census i = some { c with misfits := c.misfits ++ [f.count] } ∧
      OtherPorts .dxd p s t ∧ Only [.com .dxd .ports, .census] s t)

/-- A freed credit sends the waiting huddle of the lowest step and slot; when the census tree changes, a TSU resends every
entry whose lane changes, or keeps it until it is LOCKED, and a DX-D frees the slots its tree gives up and sends again
the subtree of one it now carries; a tree notice goes at most once a millisecond and is current for 4,000,000 beats; a
read of CS_STATUS resets PEAK. Cites: R238, R239, R240, R245. -/
def Obligations.CensusTrees : Prop :=
  (∀ c s, firstWaiting s = some c → s.x.cs.credits ≠ 0 → c.sent = false → c.id.kind = 2 → ∃ t, exec .censusCreditFree s =
    .next t ∧
    (t.census c.id).map (·.sent) = some true ∧ t.x.cs.credits < s.x.cs.credits ∧ Only [.com .dxd .ports,
      .com .dxd .pgEvent, .com .dxd .ic, .census] s t) ∧
  (∀ s, firstWaiting s = none ∨ s.x.cs.credits = 0 → exec .censusCreditFree s = .next s) ∧
  (∀ s, tsuTree s ≠ s.tc.censusTree → s.t.hd.census.Pairwise (fun a b =>
      sameCensusUp (tsuFrame (.censusUp a) s) (tsuFrame (.censusUp b) s) = false) →
    ∃ t, exec (.censusTreeChange .tsu) s = .next t ∧ t.tc.censusTree = tsuTree s ∧
      (∀ c, c ∈ s.t.hd.census →
        (match s.tc.censusTree with | 1 => 0 | 2 => 1 | _ => c.slot % 2) ≠ censusLane t c.slot →
        (s.tc.tk.state = 2 → Queued .tsu (censusLane t c.slot) (tsuFrame (.censusUp c) s) t) ∧
        (s.tc.tk.state ≠ 2 → c ∈ t.t.hd.held)) ∧ Only [.com .tsu .ports, .com .tsu .censusTree, .huddles] s t) ∧
  (∀ s, tsuTree s = s.tc.censusTree → exec (.censusTreeChange .tsu) s = .next s) ∧
  (∀ s, dxdTree s ≠ s.dc.censusTree → gained s.dc.censusTree (dxdTree s) s = [] →
    ∃ t, exec (.censusTreeChange .dxd) s = .next t ∧ t.dc.censusTree = dxdTree s ∧
    (∀ c, c ∈ t.x.cs.open_ ↔ c ∈ s.x.cs.open_ ∧
      ¬(carries s.dc.censusTree s.x.straps.side c.id.slot = true ∧ carries (dxdTree s) s.x.straps.side c.id.slot = false)) ∧
    Only [.com .dxd .censusTree, .census] s t) ∧
  (∀ c s, dxdTree s ≠ s.dc.censusTree → gained s.dc.censusTree (dxdTree s) s = [c] → c.sent = true →
    ∃ t, exec (.censusTreeChange .dxd) s = .next t ∧ t.dc.censusTree = dxdTree s ∧
      Queued .dxd (upPort s) (subtreeFrame c.id c) t ∧ Only [.com .dxd .censusTree, .com .dxd .ports, .census] s t) ∧
  (∀ s, dxdTree s = s.dc.censusTree → exec (.censusTreeChange .dxd) s = .next s) ∧
  (∀ s, noticeCause s = true → (∀ n, s.x.rf2.noticeAt = some n → n + 1000000 ≤ s.dc.up) →
    ∃ t, exec .treeNoticeSend s = .next t ∧ t.x.rf2 = { s.x.rf2 with noticeAt := some s.dc.up } ∧
      Queued .dxd (if (s.port .dxd (twinPort s)).st = 5 then twinPort s else upPort s) (noticeFrame s) t ∧
      Only [.com .dxd .ports, .referee] s t) ∧
  (∀ n s, noticeCause s = true → s.x.rf2.noticeAt = some n → s.dc.up < n + 1000000 → exec .treeNoticeSend s = .next s) ∧
  (∀ s, noticeCause s = false → ∃ t, exec .treeNoticeSend s = .next t ∧
    t.x.rf2 = { s.x.rf2 with noticeAt := none } ∧ Only [.referee] s t) ∧
  (∀ s, ∃ t, exec .treeNoticeExpiry s = .next t ∧
    (∀ n, n ∈ t.x.rf2.notices ↔ n ∈ s.x.rf2.notices ∧ s.dc.up < n.2.2 + 4000000) ∧ Only [.referee] s t) ∧
  (∀ rq s, ReadTaken .dxd rq 0x13 s → ∃ t, exec (.csStatusRead rq) s = .next t ∧
    t.response .dxd rq = BitVec.ofNat 64 (s.x.cs.open_.length * 2 ^ 48 + s.x.cs.peak * 2 ^ 32 +
      s.x.cs.open_.countP (·.waiting)) ∧
    t.x.cs = { s.x.cs with peak := s.x.cs.open_.length } ∧ Only [.com .dxd .rsp, .census] s t)

/-- A request is answered on its channel with VALID, the value of its code and the current step's low bits, and a reserved
code is counted; while the port waits the request is kept and answered when the wait ends; APPLIED is set by writing 1;
a read of KP_ERRORS clears it. Cites: R250, R253, R255, R263, R264, R266, R267. -/
def Obligations.KeyPortAnswers : Prop :=
  (∀ ch s, tsuUnits s = true → kpWaits s = false →
    (∀ code c d v, (code, c, d, v) ∈
      [(0, Instr.keySeedHi ch, s.t.kp.seed.toNat / 2 ^ 64, s.t.kp.jobValid),
       (1, .keySeedLo ch, s.t.kp.seed.toNat % 2 ^ 64, s.t.kp.jobValid),
       (2, .keyStep ch, s.t.kp.curStep, s.t.kp.curValid),
       (3, .keyCtrBase ch, s.t.kp.curStep * 2 ^ 16, s.t.kp.curValid),
       (4, .keySeedIndex ch, s.t.kp.seedIndex, s.t.kp.jobValid),
       (5, .keyDie ch, s.t.mem.die, s.t.kp.jobValid),
       (6, .keyJob ch, b2n s.t.kp.jobValid * 2 ^ 63 + s.t.kp.mapClass * 2 ^ 32 + s.t.kp.ws * 2 ^ 16 + s.t.kp.engines,
         s.t.kp.jobValid),
       (7, .keyKept ch, s.t.kp.kept, s.t.kp.jobValid)] →
      ∃ t, exec c s = .next t ∧
        tabGet none t.t.kp.rsp ch = some ⟨v, BitVec.ofNat 64 d, s.t.kp.curStep % 65536⟩ ∧
        (∀ q, q ≠ ch → tabGet none t.t.kp.rsp q = tabGet none s.t.kp.rsp q) ∧ t.t.kp.waiting = s.t.kp.waiting ∧
        t.t.kp.bad = s.t.kp.bad ∧ Only [.keyPort] s t)) ∧
  (∀ ch s, tsuUnits s = true → kpWaits s = true →
    (∀ code c, (code, c) ∈ [(0, Instr.keySeedHi ch), (1, .keySeedLo ch), (2, .keyStep ch), (3, .keyCtrBase ch),
        (4, .keySeedIndex ch), (5, .keyDie ch), (6, .keyJob ch), (7, .keyKept ch), (8, .keyReservedRequest ch 8)] →
      ∃ t, exec c s = .next t ∧ t.t.kp = { s.t.kp with waiting := s.t.kp.waiting ++ [(ch, code)] } ∧ Only [.keyPort] s t)) ∧
  (∀ ch code s, tsuUnits s = true → kpWaits s = false → 8 ≤ code → code < 16 →
    ∃ t, exec (.keyReservedRequest ch code) s = .next t ∧
      tabGet none t.t.kp.rsp ch = some ⟨false, 0, s.t.kp.curStep % 65536⟩ ∧ t.t.kp.bad = sat16 (s.t.kp.bad + 1) ∧
      eventSet .tsu 0x08 2 t ∧ Only [.com .tsu .pgEvent, .com .tsu .ic, .keyPort] s t) ∧
  (∀ s, kpWaits s = false → (s.t.kp.waiting.map (·.1)).Nodup → ∃ t, exec .keyPortDeferredAnswer s = .next t ∧
    t.t.kp.waiting = [] ∧
    (∀ r, r ∈ s.t.kp.waiting → tabGet none t.t.kp.rsp r.1 = some (kpAnswer r.2 s)) ∧
    (∀ q, (∀ r, r ∈ s.t.kp.waiting → r.1 ≠ q) → tabGet none t.t.kp.rsp q = tabGet none s.t.kp.rsp q) ∧ Only
      [.com .tsu .pgEvent, .com .tsu .ic, .keyPort] s t) ∧
  (∀ s, kpWaits s = true → exec .keyPortDeferredAnswer s = .next s) ∧
  (∀ rq v s, WriteTaken .tsu rq 0x08 0x118 s → ∃ t, exec (.kpAppliedWrite rq v) s = .next t ∧
    t.t.kp = { s.t.kp with applied := s.t.kp.applied || bit v 62 } ∧ Only [.keyPort] s t) ∧
  (∀ rq s, ReadTaken .tsu rq 0x08 s → ∃ t, exec (.kpErrorsRead rq) s = .next t ∧
    t.response .tsu rq = BitVec.ofNat 64 s.t.kp.bad ∧ t.t.kp = { s.t.kp with bad := 0 } ∧
    Only [.com .tsu .rsp, .keyPort] s t)

/-- A unit at a tap goes into the step string of every enabled lane bound to its flow; a feed word from its owner goes
into its lane, and into an asked window; without a LAUNCHED step it is gap traffic, and a foreign word is refused; a
window that has ended is recorded in the ring and sent while 64 frames are not waiting; a waiting closing record goes
when there is room; a read of TL_ERRORS clears it. Cites: R206, R269, R271, R272, R273, R274, R284, R285, R288, R289. -/
def Obligations.TallyLanes : Prop :=
  (∀ tap flow ob bs r s, tsuUnits s = true → tapCode s.tc.fuse.kind tap = true → launchedStep s = some r →
    lsEnable s = false → ∃ t, exec (.tallyTapUnit tap flow ob bs) s = .next t ∧
      (∀ n, t.lane n = if (if ob then 8 ≤ n ∧ n < 16 else n < 8) ∧ lanePort (s.lane n) = tap ∧ laneFlow (s.lane n) = flow ∧
          laneEnabled (s.lane n) = true then
        { s.lane n with str := (s.lane n).str ++ bs, units := (s.lane n).units + max 1 ((bs.length + 63) / 64) }
        else s.lane n) ∧ t.t.tl.windows = s.t.tl.windows ∧ Only [.tallies] s t) ∧
  (∀ tap flow ob bs s, feedLanes s.tc.fuse.kind = true ∨ tapCode s.tc.fuse.kind tap = false → exec (.tallyTapUnit tap flow
    ob bs) s = .next s) ∧
  (∀ rq n v r s, n < 4 → WriteTaken .tsu rq 0x09 (0x180 + 8 * n) s → feedLanes s.tc.fuse.kind = true →
    laneOwner (s.lane n) = rq → laneEnabled (s.lane n) = true → launchedStep s = some r →
    ∃ t, exec (.tlFeedWrite rq n v) s = .next t ∧
      t.lane n = { s.lane n with str := (s.lane n).str ++ bytesBE 8 v.toNat, units := (s.lane n).units + 1 } ∧
      (∀ j, j ≠ n → t.lane j = s.lane j) ∧
      (∀ w, windowOf r.k s.tc.tk.bc = some w → lsEnable s = true → windowAsked s r n w = true →
        (s.t.tl.windows.any (fun x => x.lane == n && x.w == w) = false →
          t.t.tl.windows = s.t.tl.windows ++ [⟨n, w, bytesBE 8 v.toNat, 1⟩])) ∧
      (lsEnable s = false → t.t.tl.windows = s.t.tl.windows) ∧ Only [.tallies] s t) ∧
  (∀ rq n v s, n < 4 → WriteTaken .tsu rq 0x09 (0x180 + 8 * n) s → feedLanes s.tc.fuse.kind = true →
    laneOwner (s.lane n) = rq → laneEnabled (s.lane n) = true → launchedStep s = none →
    ∃ t, exec (.tlFeedWrite rq n v) s = .next t ∧
      t.t.tl = { s.t.tl with gapWords := sat32 (s.t.tl.gapWords + 1), gapFlag := true } ∧ eventSet .tsu 0x09 0 t ∧
      Only [.com .tsu .pgEvent, .com .tsu .ic, .tallies] s t) ∧
  (∀ rq n v s, n < 4 → WriteTaken .tsu rq 0x09 (0x180 + 8 * n) s → feedLanes s.tc.fuse.kind = true →
    laneOwner (s.lane n) ≠ rq → ∃ t, exec (.tlFeedWrite rq n v) s = .next t ∧
      t.t.tl = { s.t.tl with feedRefused := sat16 (s.t.tl.feedRefused + 1) } ∧ eventSet .tsu 0x09 1 t ∧
      Only [.com .tsu .pgEvent, .com .tsu .ic, .tallies] s t) ∧
  (∀ lane r w x s, windowDue s lane = some (r, w) → lsFreeze s = false ∨ s.t.tl.ringHeld ≠ 1024 →
    x = (s.t.tl.windows.find? (fun y => y.lane == lane && y.w == w)).getD ⟨lane, w, [], 0⟩ →
    ∃ t, exec (.probeWindowClose lane) s = .next t ∧ tabGet 0 t.t.tl.closedTo lane = w + 1 ∧
      t.t.tl.newest = (if s.t.tl.ringHeld = 0 then 0 else (s.t.tl.newest + 1) % 1024) ∧
      t.t.tl.ringHeld = min 1024 (s.t.tl.ringHeld + 1) ∧
      tabGet none t.t.tl.ring t.t.tl.newest = some ⟨r.step, r.attempt, lane,
        decide (tallyWaiting s + 2 ≤ 64) && !decide (0xFFFFFD ≤ w), false, w, tally128 x.str, sat16 x.units, s.t.st.g,
          dieTemp s⟩ ∧
      (tallyWaiting s + 2 ≤ 64 → w < 0xFFFFFD → s.tc.tk.sideline = false → ∀ q, q < 2 → (s.port .tsu q).st = 5 →
        Queued .tsu q (tsuFrame (.tally ⟨s.t.mem.die, 0, lane, w, r.step % 65536, r.attempt,
          (tally128 x.str).toNat % 2 ^ 64⟩) s) t ∧
        Queued .tsu q (tsuFrame (.tally ⟨s.t.mem.die, 1, lane, w, r.step % 65536, r.attempt,
          (tally128 x.str).toNat / 2 ^ 64⟩) s) t) ∧
      (64 < tallyWaiting s + 2 → w < 0xFFFFFD →
        t.t.tl.overrun = sat16 (s.t.tl.overrun + 1) ∧ t.t.tl.unsent = true ∧ eventSet .tsu 0x09 2 t) ∧
      (∀ y, y ∈ t.t.tl.windows ↔ y ∈ s.t.tl.windows ∧ ¬(y.lane = lane ∧ y.w = w)) ∧ Only [.com .tsu .ports,
        .com .tsu .pgEvent, .com .tsu .ic, .tallies] s t) ∧
  (∀ lane s, windowDue s lane = none → exec (.probeWindowClose lane) s = .next s) ∧
  (∀ i fs rest s, s.t.tl.closingWait = (i, fs) :: rest → tallyWaiting s + 2 ≤ 64 →
    ∃ t, exec .tallyQueueRoom s = .next t ∧ t.t.tl.closingWait = rest ∧
      (∀ x, tabGet none s.t.tl.ring i = some x → tabGet none t.t.tl.ring i = some { x with sent := true }) ∧
      (s.tc.tk.sideline = false → (∀ f, f ∈ fs → payloadCls f.payload = .bulk) → ∀ f, f ∈ fs → ∀ q, q < 2 →
        (s.port .tsu q).st = 5 → Queued .tsu q f t) ∧ Only [.com .tsu .ports, .tallies] s t) ∧
  (∀ s, s.t.tl.closingWait = [] ∨ 64 < tallyWaiting s + 2 → exec .tallyQueueRoom s = .next s) ∧
  (∀ rq s, ReadTaken .tsu rq 0x09 s → ∃ t, exec (.tlErrorsRead .tsu rq) s = .next t ∧
    t.response .tsu rq =
      BitVec.ofNat 64 (s.t.tl.gapWords * 2 ^ 32 + s.t.tl.feedRefused * 2 ^ 16 + s.t.tl.overrun) ∧
    t.t.tl = { s.t.tl with gapWords := 0, feedRefused := 0, overrun := 0 } ∧ Only [.com .tsu .rsp, .tallies] s t) ∧
  (∀ rq s, ReadTaken .dxd rq 0x09 s → ∃ t, exec (.tlErrorsRead .dxd rq) s = .next t ∧
    t.response .dxd rq = BitVec.ofNat 64 (s.x.tl.corrupt * 2 ^ 16 + s.x.tl.stray) ∧
    t.x.tl = { s.x.tl with corrupt := 0, stray := 0 } ∧ Only [.com .dxd .rsp, .scores] s t)

/-- Fragments are kept by port; a package DX-D checks a member's scorecard by its COMBINED and sends the engine digest
when every lane has one; a DX-D above adds its children's values and passes the sum up, and the acting referee forms the
hall scorecard; a fragment from a port that serves no member is stray. Cites: R71, R277, R279, R280, R281, R289. -/
def Obligations.Scores : Prop :=
  (∀ p h ep f v step c s, Accepts .dxd p h ⟨ep, .score f⟩ s → s.x.straps.role = 0 → f.kind = 0 → s.served ep = some v →
    scoreStep s ep f.attempt f.step16 = some step → c = s.combo ep step f.attempt → c.vals.all (fun x => x.1 != p) = true →
    c.frags.all (fun x => x.1 != p || x.2.1 != f.fragment) = true → p ∉ c.corrupt →
    fragBytes { c with frags := c.frags ++ [(p, f.fragment, f.data)] } p 8 = none →
    ∃ t, exec (.scoreReceive p h ep f) s = .next t ∧
      t.combo ep step f.attempt = { c with frags := c.frags ++ [(p, f.fragment, f.data)] } ∧
      Only [.com .dxd .ports, .scores] s t) ∧
  (∀ p h ep f v step c card die s, Accepts .dxd p h ⟨ep, .score f⟩ s → s.x.straps.role = 0 → f.kind = 0 →
    s.served ep = some v → scoreStep s ep f.attempt f.step16 = some step → c = s.combo ep step f.attempt →
    c.vals.all (fun x => x.1 != p) = true → c.frags.all (fun x => x.1 != p || x.2.1 != f.fragment) = true →
    p ∉ c.corrupt → fragBytes { c with frags := c.frags ++ [(p, f.fragment, f.data)] } p 8 = some card →
    laneDie v p = some die → sub card 96 32 ≠ combinedOf die card → ∃ t, exec (.scoreReceive p h ep f) s = .next t ∧
      t.x.tl.corrupt = sat16 (s.x.tl.corrupt + 1) ∧ eventSet .dxd 0x09 0 t ∧
      p ∈ (t.combo ep step f.attempt).corrupt ∧ Only [.com .dxd .ports, .com .dxd .pgEvent, .com .dxd .ic, .scores] s t) ∧
  (∀ p h ep f v step c card die vals s, Accepts .dxd p h ⟨ep, .score f⟩ s → s.x.straps.role = 0 → f.kind = 0 →
    s.served ep = some v → scoreStep s ep f.attempt f.step16 = some step → c = s.combo ep step f.attempt →
    c.vals.all (fun x => x.1 != p) = true → c.frags.all (fun x => x.1 != p || x.2.1 != f.fragment) = true →
    p ∉ c.corrupt → fragBytes { c with frags := c.frags ++ [(p, f.fragment, f.data)] } p 8 = some card →
    laneDie v p = some die → sub card 96 32 = combinedOf die card → vals = c.vals ++ [(p, natBE (sub card 96 32))] →
    ∃ t, exec (.scoreReceive p h ep f) s = .next t ∧
      ((∃ m, m ∈ v.members ∧ vals.all (fun x => x.1 != m.port) = true) → (t.combo ep step f.attempt).vals = vals ∧
        Only [.com .dxd .ports, .scores] s t) ∧
      ((∀ m, m ∈ v.members → vals.any (fun x => x.1 == m.port) = true) → ∀ i, i < 2 →
        Queued .dxd (upPort s) ⟨ep, .score ⟨i, 1, f.attempt, step % 65536, sub (engineDigest step
          ((v.members.head?.map (fun m => m.die / 256 * 256)).getD 0)
          (((v.members.map (·.port)).mergeSort (· ≤ ·)).map (fun q =>
            bytesBE 32 (((vals.find? (fun x => x.1 == q)).map (·.2)).getD 0)))) (16 * i) 16⟩⟩ t) ∧
      Only [.com .dxd .ports, .scores] s t) ∧
  (∀ p h ep f v step c b vals s, Accepts .dxd p h ⟨ep, .score f⟩ s → s.x.straps.role = 1 → f.kind = 1 →
    s.served ep = some v → p ∈ v.ports → p < 192 → scoreStep s ep f.attempt f.step16 = some step → c = s.combo ep step
      f.attempt →
    c.vals.all (fun x => x.1 != p) = true → c.frags.all (fun x => x.1 != p || x.2.1 != f.fragment) = true →
    p ∉ c.corrupt → fragBytes { c with frags := c.frags ++ [(p, f.fragment, f.data)] } p 2 = some b →
    vals = c.vals ++ [(p, natBE b)] → ∃ t, exec (.scoreReceive p h ep f) s = .next t ∧
      ((∃ q, q ∈ v.ports ∧ vals.all (fun x => x.1 != q) = true) → (t.combo ep step f.attempt).vals = vals) ∧
      ((∀ q, q ∈ v.ports → vals.any (fun x => x.1 == q) = true) → ∀ i, i < 2 →
        Queued .dxd (upPort s) ⟨ep, .score ⟨i, 1, f.attempt, step % 65536,
          sub (bytesBE 32 ((vals.foldl (fun n x => n + x.2) 0) % 2 ^ 256)) (16 * i) 16⟩⟩ t) ∧
      Only [.com .dxd .ports, .scores] s t) ∧
  (∀ p h ep f v step c b vals j r s, Accepts .dxd p h ⟨ep, .score f⟩ s → rootActs s = true → f.kind = 1 →
    s.served ep = some v → p ∈ v.ports → p < 192 → scoreStep s ep f.attempt f.step16 = some step →
    Unseen .dxd (.score ep f.kind f.fragment step f.attempt p) s → c = s.combo ep step f.attempt →
    c.vals.all (fun x => x.1 != p) = true → c.frags.all (fun x => x.1 != p || x.2.1 != f.fragment) = true →
    p ∉ c.corrupt → fragBytes { c with frags := c.frags ++ [(p, f.fragment, f.data)] } p 2 = some b →
    vals = c.vals ++ [(p, natBE b)] → (∀ q, q ∈ v.ports → vals.any (fun x => x.1 == q) = true) →
    jobOfEpoch s ep = some j → s.rstep ep step f.attempt = some r → r.accepted = true →
    ∃ t, exec (.scoreReceive p h ep f) s = .next t ∧ t.x.tl.hallValid = true ∧ t.x.tl.hallStep = step ∧
      t.x.tl.hall = hallCard step j.engines j.ws ((vals.foldl (fun n x => n + x.2) 0) % 2 ^ 256) ∧
      (∃ q, t.rstep ep step f.attempt = some q ∧ q.hall = some t.x.tl.hall) ∧ eventSet .dxd 0x09 1 t ∧
      Only [.com .dxd .ports, .com .dxd .pgEvent, .com .dxd .ic, .com .dxd .seen, .kicks, .scores, .ledger, .referee] s t) ∧
  (∀ p h ep f v step s, Accepts .dxd p h ⟨ep, .score f⟩ s → f.kind = 1 → s.served ep = some v →
    p ∉ v.ports ∨ 192 ≤ p → Unseen .dxd (.score ep f.kind f.fragment step f.attempt p) s → scoreStep s ep f.attempt
      f.step16 = some step → ∃ t, exec (.scoreReceive p h ep f) s = .next t ∧
      t.x.tl = { s.x.tl with stray := sat16 (s.x.tl.stray + 1) } ∧ Only [.com .dxd .ports, .com .dxd .seen, .scores] s t) ∧
  (∀ p h ep f s, Accepts .dxd p h ⟨ep, .score f⟩ s → scoreStep s ep f.attempt f.step16 = none →
    ∃ t, exec (.scoreReceive p h ep f) s = .next t ∧ Only [.com .dxd .ports] s t)

/-- A TALLY frame goes up below the acting referee; there a tree notice is noted, a fence report that needs a partner
waits for it, and a record of a paired epoch is kept and, when the step is complete on every side, compared: agreement
or divergence is counted. Setting VALID checks the entry. A read of LS_COUNTS clears it. Cites: R24, R71, R239, R283,
R286, R291, R294. -/
def Obligations.LockStep : Prop :=
  (∀ p h ep f s, Accepts .dxd p h ⟨ep, .tally f⟩ s → rootActs s = false →
    Unseen .dxd (.tally ep f.die f.lane f.window f.half f.step16 f.attempt) s → ∃ t, exec (.tallyReceive p h ep f) s =
      .next t ∧
      Queued .dxd (upPort s) ⟨ep, .tally f⟩ t ∧
      (f.lane = 0xF ∧ f.window = 0xFFFFFE → eventSet .dxd 0x14 0 t) ∧
      Only [.com .dxd .ports, .com .dxd .seen, .com .dxd .pgEvent, .com .dxd .ic] s t) ∧
  (∀ p h ep f s, Accepts .dxd p h ⟨ep, .tally f⟩ s → rootActs s = true → f.lane = 0xF → f.window = 0xFFFFFD →
    ∃ t, exec (.tallyReceive p h ep f) s = .next t ∧
      (f.tally / 2 ^ 56, f.die, s.dc.up) ∈ t.x.rf2.notices ∧ Only [.com .dxd .ports, .referee] s t) ∧
  (∀ p h ep f r b s, Accepts .dxd p h ⟨ep, .tally f⟩ s → rootActs s = true → f.lane = 0xF → f.window = 0xFFFFFE →
    r = ⟨f.tally / 2 ^ 48 % 256, f.die, f.tally / 2 ^ 56, f.tally % 2 ^ 32, ep, s.dc.up⟩ → needsPair r = true →
    jobOfEpoch s ep = some b → (∀ q, q ∈ s.x.rf2.reports → s.dc.up ≤ q.at_ + 1000000 → pairs r q = false ∧
      ¬(q.kind = r.kind ∧ q.target = r.target ∧ q.reason = r.reason ∧ q.sender = r.sender ∧ q.epoch = r.epoch)) →
    (r.kind, r.target) ∉ s.x.rf2.benchedDevs → s.x.rf2.complaint ≠ 1 ∨ s.x.rf2.complaintDie ≠ r.target → ∃ t, exec
      (.tallyReceive p h ep f) s = .next t ∧
      t.x.rf2 = { s.x.rf2 with reports := s.x.rf2.reports ++ [r] } ∧ eventSet .dxd 0x14 0 t ∧
      Only [.com .dxd .ports, .com .dxd .pgEvent, .com .dxd .ic, .referee] s t) ∧
  (∀ p h ep f s, Accepts .dxd p h ⟨ep, .tally f⟩ s → rootActs s = true → f.lane ≠ 0xF → lsPlaces s ep f.die = [] →
    ∃ t, exec (.tallyReceive p h ep f) s = .next t ∧ Only [.com .dxd .ports, .com .dxd .seen] s t) ∧
  (∀ p h ep f b r e n i k s, Accepts .dxd p h ⟨ep, .tally f⟩ s → rootActs s = true → f.lane ≠ 0xF →
    Unseen .dxd (.tally ep f.die f.lane f.window f.half f.step16 f.attempt) s → jobOfEpoch s ep = some b →
    b.steps.find? (fun r => r.attempt == f.attempt && r.step % 65536 == f.step16 && r.epoch == ep && !r.withdrawn) = some
      r →
    lsPlaces s ep f.die = [(e, n, i)] → k = lsKeep ep r.step f s → s.x.tl.recs.length < 65536 → lsComplete k e r.step =
      false →
    ∃ t, exec (.tallyReceive p h ep f) s = .next t ∧
      (∃ q, q ∈ t.x.tl.recs ∧ q.is ep r.step f.die f.lane f.window = true ∧ q.attempt = f.attempt ∧
        (if f.half = 0 then q.lo = some f.tally else q.hi = some f.tally)) ∧
      t.x.tl.agree = s.x.tl.agree ∧ t.x.tl.diverged = s.x.tl.diverged ∧
      Only [.com .dxd .ports, .com .dxd .seen, .scores] s t) ∧
  (∀ p h ep f b r e n i k s, Accepts .dxd p h ⟨ep, .tally f⟩ s → rootActs s = true → f.lane ≠ 0xF →
    Unseen .dxd (.tally ep f.die f.lane f.window f.half f.step16 f.attempt) s → jobOfEpoch s ep = some b →
    b.steps.find? (fun r => r.attempt == f.attempt && r.step % 65536 == f.step16 && r.epoch == ep && !r.withdrawn) = some
      r →
    lsPlaces s ep f.die = [(e, n, i)] → k = lsKeep ep r.step f s → lsComplete k e r.step = true →
    (s.lsEnt e).valid = true → r.step ∉ (s.lsEnt e).done → ∃ t, exec (.tallyReceive p h ep f) s = .next t ∧
      ((∀ q, q ∈ lsSpots s e → differ (lsValues k e r.step q.1 q.2.1 q.2.2 0xFFFFFF) = false ∧
          lsWindows k e r.step q.1 q.2.1 q.2.2 = []) →
        t.x.tl.agree = sat16 (s.x.tl.agree + 1) ∧ r.step ∈ (t.lsEnt e).done ∧ t.x.tl.diverged = s.x.tl.diverged) ∧
      ((∃ q, q ∈ lsSpots s e ∧ differ (lsValues k e r.step q.1 q.2.1 q.2.2 0xFFFFFF) = true) →
        t.x.tl.diverged = sat16 (s.x.tl.diverged + 1) ∧ t.x.tl.agree = s.x.tl.agree ∧ t.x.tl.div ≠ [] ∧
        eventSet .dxd 0x0A 0 t) ∧ Only [.com .dxd .ports, .com .dxd .regs, .com .dxd .pgEvent, .com .dxd .ic,
          .com .dxd .seen, .kicks, .census, .scores, .ledger, .referee] s t) ∧
  (∀ rq e v s, e < 8 → WriteTaken .dxd rq 0x0A (0x118 + 0x20 * e) s → bit v 63 = true →
    ∃ t, exec (.lsPairValidWrite rq e v) s = .next t ∧
      t.lsEnt e = { s.lsEnt e with
        done := [], valid := lsCheck s e == 0, refused := lsCheck s e != 0, reason := lsCheck s e } ∧
      (∀ j, j ≠ e → t.lsEnt j = s.lsEnt j) ∧ lsLanes t e = fld v 0 16 ∧ (lsCheck s e ≠ 0 → eventSet .dxd 0x0A 2 t) ∧
      Only [.com .dxd .regs, .com .dxd .pgEvent, .com .dxd .ic, .scores] s t) ∧
  (∀ rq e v s, e < 8 → WriteTaken .dxd rq 0x0A (0x118 + 0x20 * e) s → bit v 63 = false →
    ∃ t, exec (.lsPairValidWrite rq e v) s = .next t ∧ t.lsEnt e = { s.lsEnt e with done := [], valid := false } ∧
      (∀ j, j ≠ e → t.lsEnt j = s.lsEnt j) ∧ lsLanes t e = fld v 0 16 ∧ Only [.com .dxd .regs, .scores] s t) ∧
  (∀ rq s, ReadTaken .dxd rq 0x0A s → ∃ t, exec (.lsCountsRead rq) s = .next t ∧
    t.response .dxd rq = BitVec.ofNat 64 (s.x.tl.agree * 2 ^ 48 + s.x.tl.skew * 2 ^ 32 + s.x.tl.diverged * 2 ^ 16 +
      s.x.tl.unmatched) ∧
    t.x.tl = { s.x.tl with agree := 0, skew := 0, diverged := 0, unmatched := 0 } ∧ Only [.com .dxd .rsp, .scores] s t)

/-- A BENCH ends its epoch at a TSU: every held step is withdrawn, and the TSU may join the next epoch unless it is
replaced; the one named is fenced. A DX-D passes it on, renames its epoch, probes the named die, or fences itself and
drops every port. A TSU that meets every condition joins; one 10,000 beats without a source fences itself. Cites: R70,
R188, R281, R293, R297, R300, R301, R302, R305. -/
def Obligations.BenchAndJoin : Prop :=
  (∀ p h ep f s, Accepts .tsu p h ⟨ep, .bench f⟩ s → oseqNew .tsu f.oseq s = true → f.kind ≠ 1 → f.newEpoch ≠ ep →
    s.t.mem.epoch ≠ 0 → closesEpoch f = false → f.reason = 0 ∨ ofReplaced f s.t.mem.die = false →
    ∃ t, exec (.benchReceive .tsu p h ep f) s = .next t ∧ t.t.mem.epoch = 0 ∧ t.t.mem.nextEpoch = some f.newEpoch ∧
      t.t.mem.gapOpen = true ∧ t.t.mem.ownFailed = false ∧ (∀ r, r ∈ t.t.steps → r.active = false) ∧
      t.t.kp.curValid = false ∧ t.t.kp.applied = false ∧ bit t.tc.ic.local_ 5 = true ∧
      (s.t.mem.fenced = false → t.tc.tk.sideline = false) ∧
      (∀ j, s.tc.boot.jobImage = some j → s.t.kp.jobValid = true → s.t.kp.loadedEpoch = ep → fencesTsu f s.t.mem.die =
        false →
        s.tc.boot.stage = 6 → s.tc.boot.image = none → s.tc.boot.heldJob = none → imgFw j = s.tc.boot.fw →
        t.tc.boot.image = some j ∧ t.tc.boot.applying = some f.newEpoch ∧ t.t.kp.loading = true) ∧
      Only [.com .tsu .boot, .com .tsu .tk, .com .tsu .ports, .com .tsu .pgEvent, .com .tsu .ic, .com .tsu .oseq, .steps,
        .member, .cue, .signals, .huddles, .keyPort, .tallies, .bays] s t) ∧
  (∀ p h ep f s, Accepts .tsu p h ⟨ep, .bench f⟩ s → oseqNew .tsu f.oseq s = true → f.kind ≠ 1 → f.newEpoch ≠ ep →
    s.t.mem.epoch ≠ 0 → fencesTsu f s.t.mem.die = true → ∃ t, exec (.benchReceive .tsu p h ep f) s = .next t ∧
      t.t.mem.epoch = 0 ∧ t.t.mem.nextEpoch = none ∧ t.t.mem.fenced = true ∧ t.tc.tk.sideline = true ∧
      (∀ r, r ∈ t.t.steps → r.active = false) ∧ Only [.com .tsu .boot, .com .tsu .tk, .com .tsu .ports,
        .com .tsu .pgEvent, .com .tsu .ic, .com .tsu .oseq, .steps, .member, .cue, .signals, .huddles, .keyPort, .tallies,
        .bays] s t) ∧
  (∀ p h ep f s, Accepts .tsu p h ⟨ep, .bench f⟩ s → oseqNew .tsu f.oseq s = true → f.kind ≠ 1 → f.newEpoch ≠ ep →
    s.t.mem.epoch ≠ 0 → closesEpoch f = true ∨ (f.reason ≠ 0 ∧ ofReplaced f s.t.mem.die = true ∧ fencesTsu f s.t.mem.die =
      false) →
    ∃ t, exec (.benchReceive .tsu p h ep f) s = .next t ∧ t.t.mem.epoch = 0 ∧ t.t.mem.nextEpoch = none ∧
      t.t.mem.fenced = s.t.mem.fenced ∧ t.tc.tk.sideline = s.tc.tk.sideline ∧ (∀ r, r ∈ t.t.steps → r.active = false) ∧
      Only [.com .tsu .boot, .com .tsu .tk, .com .tsu .ports, .com .tsu .pgEvent, .com .tsu .ic, .com .tsu .oseq, .steps,
        .member, .cue, .signals, .huddles, .keyPort, .tallies, .bays] s t) ∧
  (∀ p h ep f s, Accepts .tsu p h ⟨ep, .bench f⟩ s → oseqNew .tsu f.oseq s = true →
    f.kind = 1 ∨ f.newEpoch = ep ∨ s.t.mem.epoch = 0 → ∃ t, exec (.benchReceive .tsu p h ep f) s = .next t ∧
      t.tc.oseq = some (f.oseq, s.tc.up) ∧ Only [.com .tsu .ports, .com .tsu .oseq] s t) ∧
  (∀ p h ep f s, Accepts .dxd p h ⟨ep, .bench f⟩ s → oseqNew .dxd f.oseq s = true → f.kind ≠ 1 → f.reason ≠ 0xB →
    f.newEpoch ≠ ep → ∃ t, exec (.benchReceive .dxd p h ep f) s = .next t ∧
      (∀ v, v ∈ t.x.cs.served → v.epoch ≠ ep) ∧ (∀ c, c ∈ t.x.cs.open_ → c.id.epoch ≠ ep) ∧
      (∀ k, k ∈ t.x.kicks → k.epoch = ep → k.withdrawn = true) ∧ t.x.rf2.lastEpoch = max s.x.rf2.lastEpoch f.newEpoch ∧
      (∀ q, q ∈ dnPorts s ep → Queued .dxd q ⟨ep, .bench f⟩ t) ∧ t.x.rf2.benchReason = f.reason ∧
      t.x.rf2.benchTarget = f.target ∧ eventSet .dxd 0x14 1 t ∧ Only [.com .dxd .tk, .com .dxd .coreA, .com .dxd .coreB,
        .com .dxd .ports, .com .dxd .msets, .com .dxd .pgEvent, .com .dxd .ic, .com .dxd .oseq, .com .dxd .hfits, .refs,
        .hold, .ptp, .kicks, .census, .scores, .referee, .attic] s t) ∧
  (∀ p h ep f v m s, Accepts .dxd p h ⟨ep, .bench f⟩ s → oseqNew .dxd f.oseq s = true → f.kind ≠ 1 → f.reason = 0xB →
    s.x.straps.role = 0 → s.served ep = some v → v.members.find? (fun m => m.die == f.target) = some m →
    (s.port .dxd m.port).probe = none → ∃ t, exec (.benchReceive .dxd p h ep f) s = .next t ∧
      (t.port .dxd m.port).probe = some ⟨s.dc.up, ep, 0, 0, 0, true⟩ ∧ t.x.cs = s.x.cs ∧
      t.x.rf2 = { s.x.rf2 with benchReason := 0xB, benchKind := f.kind, benchTarget := f.target } ∧ eventSet .dxd 0x14 1 t ∧
      Only [.com .dxd .ports, .com .dxd .oseq, .com .dxd .pgEvent, .com .dxd .ic, .referee] s t) ∧
  (∀ p h ep f s, Accepts .dxd p h ⟨ep, .bench f⟩ s → oseqNew .dxd f.oseq s = true → f.kind = 1 → f.target = selfTarget s →
    ∃ t, exec (.benchReceive .dxd p h ep f) s = .next t ∧ t.x.rf2.fenced = true ∧ t.dc.tk.sideline = true ∧
      (∀ q, q < usedPorts s ∨ q = 192 ∨ q = 193 → (t.port .dxd q).st = 1) ∧ Only [.com .dxd .tk, .com .dxd .coreA,
        .com .dxd .coreB, .com .dxd .ports, .com .dxd .msets, .com .dxd .pgEvent, .com .dxd .ic, .com .dxd .oseq,
        .com .dxd .hfits, .refs, .hold, .ptp, .kicks, .census, .scores, .referee, .attic] s t) ∧
  (∀ p h ep f q s, Accepts .dxd p h ⟨ep, .bench f⟩ s → oseqNew .dxd f.oseq s = true → f.kind = 1 →
    f.target ≠ selfTarget s → portToward s f.target = some q → (s.port .dxd q).st = 5 →
    ∃ t, exec (.benchReceive .dxd p h ep f) s = .next t ∧ Queued .dxd q ⟨ep, .bench f⟩ t ∧
      Only [.com .dxd .ports, .com .dxd .oseq] s t) ∧
  (∀ e s, s.t.mem.nextEpoch = some e → joinOk e s = true → ∃ t, exec .epochJoin s = .next t ∧ t.t.mem.epoch = e ∧
    t.t.mem.nextEpoch = none ∧ t.t.mem.expected = none ∧ t.t.mem.launchedInEpoch = false ∧ t.t.mem.gapOpen = true ∧
    t.t.sg.gen = 0 ∧ t.t.sg.compact = decide (s.t.kp.engines ≤ 512) ∧
    (s.t.sg.port = [] → t.t.sg.bullpen = [] ∧
      (∀ c, (t.cell c).count = 0 ∧ (t.cell c).held = [] ∧ (t.cell c).waiters = []) ∧
      (∀ j, (t.sOut j).depart = 0 ∧ (t.sOut j).seq = 0 ∧ (t.sIn j).arrived = 0 ∧ (t.sIn j).next = 0)) ∧
    bit t.tc.ic.local_ 6 = true ∧ Only [.com .tsu .tk, .com .tsu .ports, .com .tsu .pgEvent, .com .tsu .ic, .steps,
      .member, .cue, .signals, .huddles, .keyPort, .tallies, .bays, .stock] s t) ∧
  (∀ s, (∀ e, s.t.mem.nextEpoch = some e → joinOk e s = false) → exec .epochJoin s = .next s) ∧
  (∀ n s, s.t.mem.sourceless = some n → s.t.mem.epoch ≠ 0 → n + 10000 ≤ s.tc.up →
    ∃ t, exec .sourcelessSelfFence s = .next t ∧ t.tc.tk.sideline = true ∧
      (s.tc.tk.sideline = false → bit t.tc.ic.local_ 7 = true ∧ (∀ r, r ∈ t.t.steps → r.armed = false ∧ r.launched =
        false)) ∧
      Only [.com .tsu .tk, .com .tsu .ports, .com .tsu .pgEvent, .com .tsu .ic, .steps, .member, .cue, .signals, .huddles,
        .keyPort, .tallies, .bays] s t) ∧
  (∀ s, s.t.mem.sourceless = none ∨ s.t.mem.epoch = 0 → exec .sourcelessSelfFence s = .next s)

/-- A package DX-D sends eight probe requests 10,000 beats apart and reports a member that fails; it reports a member that
has not joined by its deadline; the referee drops reports without a partner; a STOCK frame goes up and stands at the
root; a complaint makes a PROBE bench and is settled after 200,000 beats. Cites: R294, R295, R296, R297, R304, R305,
R335, R336, R385. -/
def Obligations.ProbesAndReports : Prop :=
  (∀ p m s, (s.port .dxd p).probe = some m → m.sent < 8 → m.from_ + 10000 * m.sent ≤ s.dc.up →
    (s.port .dxd p).live = false → ∃ t, exec (.probeRequestSend p) s = .next t ∧
      t.port .dxd p = { s.port .dxd p with probe := some { m with sent := m.sent + 1 } } ∧ OtherPorts .dxd p s t ∧
      Only [.com .dxd .ports] s t) ∧
  (∀ p m s, (s.port .dxd p).probe = some m → m.sent < 8 → m.from_ + 10000 * m.sent ≤ s.dc.up → (s.port .dxd p).live = true →
    ∃ t, exec (.probeRequestSend p) s = .next t ∧ (t.port .dxd p).probe = some { m with sent := m.sent + 1 } ∧
      Queued .dxd p ⟨0, .probe ⟨false, false, 0xFF00 + m.sent, 0, 0⟩⟩ t ∧ OtherPorts .dxd p s t ∧
      Only [.com .dxd .ports] s t) ∧
  (∀ p s, (∀ m, (s.port .dxd p).probe = some m → 8 ≤ m.sent ∨ s.dc.up < m.from_ + 10000 * m.sent) →
    exec (.probeRequestSend p) s = .next s) ∧
  (∀ p m s, (s.port .dxd p).probe = some m → m.from_ + 80000 ≤ s.dc.up → 4 ≤ m.answered → m.lateOk = true →
    ∃ t, exec (.probeEnd p) s = .next t ∧ t.port .dxd p = { s.port .dxd p with probe := none } ∧ OtherPorts .dxd p s t ∧
      Only [.com .dxd .ports] s t) ∧
  (∀ p m ep x s, (s.port .dxd p).probe = some m → m.from_ + 80000 ≤ s.dc.up → m.answered < 4 ∨ m.lateOk = false →
    laneMember s p = some (ep, x) → ep ≠ 0 → s.x.straps.role = 0 → ∃ t, exec (.probeEnd p) s = .next t ∧
      (t.port .dxd p).probe = none ∧ Queued .dxd (upPort s) (fenceFrame s 0 x.die 5 ep) t ∧ eventSet .dxd 0x14 0 t ∧
      (0, x.die, 5, ep) ∈ t.x.rf2.sentReports ∧ Only [.com .dxd .ports, .com .dxd .pgEvent, .com .dxd .ic, .referee] s t) ∧
  (∀ p m s, (s.port .dxd p).probe = some m → s.dc.up < m.from_ + 80000 → exec (.probeEnd p) s = .next s) ∧
  (∀ p v m s, s.x.cs.served.find? (fun v => v.members.any (fun m => m.port == p)) = some v →
    v.members.find? (fun m => m.port == p) = some m → s.x.straps.role = 0 → m.joined = false → m.reported = false →
    v.deadline ≤ s.dc.up → v.epoch ≠ 0 → ∃ t, exec (.admitDeadline p) s = .next t ∧
      Queued .dxd (upPort s) (fenceFrame s 0 m.die (if entryDiffers s p then 7 else 6) v.epoch) t ∧
      (∀ w, w ∈ t.x.cs.served → w.epoch = v.epoch → ∀ x, x ∈ w.members → x.port = p → x.reported = true) ∧
      Only [.com .dxd .ports, .com .dxd .pgEvent, .com .dxd .ic, .census, .referee] s t) ∧
  (∀ p v m s, s.x.cs.served.find? (fun v => v.members.any (fun m => m.port == p)) = some v →
    v.members.find? (fun m => m.port == p) = some m → m.joined = true ∨ m.reported = true ∨ s.dc.up < v.deadline →
    exec (.admitDeadline p) s = .next s) ∧
  (∀ s, ∃ t, exec .fencePairTimeout s = .next t ∧
    (∀ r, r ∈ t.x.rf2.reports ↔ r ∈ s.x.rf2.reports ∧ s.dc.up ≤ r.at_ + 1000000) ∧
    t.x.rf2.unpaired = sat16 (s.x.rf2.unpaired + s.x.rf2.reports.countP (fun r => decide (r.at_ + 1000000 < s.dc.up))) ∧
    Only [.referee] s t) ∧
  (∀ p h ep f s, Accepts .dxd p h ⟨ep, .stock f⟩ s → s.x.straps.role ≠ 2 → ∃ t, exec (.stockReceive p h ep f) s = .next t ∧
    Queued .dxd (upPort s) ⟨ep, .stock f⟩ t ∧ Only [.com .dxd .ports] s t) ∧
  (∀ p h ep f s, Accepts .dxd p h ⟨ep, .stock f⟩ s → rootActs s = true → f.kind ≠ 0 ∨ f.phases < 3 →
    ∃ t, exec (.stockReceive p h ep f) s = .next t ∧
      (∀ x, x ∈ t.x.rf2.stocks ↔ (x ∈ s.x.rf2.stocks ∧ x.1 ≠ f.die * 2 + f.kind % 2) ∨ x = (f.die * 2 + f.kind % 2, f)) ∧
      Only [.com .dxd .ports, .referee] s t) ∧
  (∀ p h ep f b s, Accepts .dxd p h ⟨ep, .stock f⟩ s → rootActs s = true → f.kind = 0 → 3 ≤ f.phases → ep ≠ 0 →
    jobOfDie s f.die ep = some b → jobOfDie s (dieClass f.die * 2 ^ 30 + dieRank f.die * 2 ^ 16) b.epoch = some b →
    s.job b.slot = some b → b.pause = none → b.steps = [] → findSpare s b (dieClass f.die == 1) = none →
    b.stays = false → ledgerRoom 1 s = true → s.x.rf2.lastEpoch < 0xFFFFFFFF → dieClass (dieClass f.die * 2 ^ 30 + dieRank
      f.die * 2 ^ 16) = dieClass f.die →
    ∃ t, exec (.stockReceive p h ep f) s = .next t ∧
      (∃ c, t.job b.slot = some c ∧ c.state = 4 ∧ c.result = 4 ∧ c.epoch = b.epoch) ∧ Only [.com .dxd .ports,
        .com .dxd .regs, .com .dxd .pgEvent, .com .dxd .ic, .kicks, .census, .scores, .ledger, .referee] s t) ∧
  (∀ rq v b s, WriteTaken .dxd rq 0x14 0x138 s → rootActs s = true → bit v 61 = true → dieOk (fld v 0 32) = true →
    jobOfDie s (fld v 0 32) 0 = some b → s.x.rf2.complaint ≠ 1 → ledgerRoom 0 s = true → ∃ t, exec (.mbComplaintGo rq v) s
      = .next t ∧
      t.x.rf2.complaint = 1 ∧ t.x.rf2.complaintDie = fld v 0 32 ∧ t.x.rf2.complaintAt = s.dc.up ∧
      t.x.rf2.oseqNext = s.x.rf2.oseqNext + 1 ∧ Only [.com .dxd .ports, .com .dxd .regs, .com .dxd .pgEvent,
        .com .dxd .ic, .ledger, .referee] s t) ∧
  (∀ rq v s, WriteTaken .dxd rq 0x14 0x138 s → rootActs s = false → exec (.mbComplaintGo rq v) s = .next s) ∧
  (∀ (r : Report) p h ep f v s, Accepts .dxd p h ⟨ep, .tally f⟩ s → rootActs s = true → f.lane = 0xF → f.window = 0xFFFFFE →
    r = ⟨f.tally / 2 ^ 48 % 256, f.die, f.tally / 2 ^ 56, f.tally % 2 ^ 32, ep, s.dc.up⟩ → r.kind = 0 → r.reason = 5 →
    s.x.rf2.complaint = 1 → s.x.rf2.complaintDie = r.target → jobOfEpoch s ep = some v → ep ≠ 0 →
    ∃ t, exec (.tallyReceive p h ep f) s = .next t ∧ t.x.rf2.complaint = 3 ∧ eventSet .dxd 0x14 3 t ∧ Only
      [.com .dxd .ports, .com .dxd .regs, .com .dxd .pgEvent, .com .dxd .ic, .com .dxd .seen, .kicks, .census, .scores,
      .ledger, .referee] s t) ∧
  (∀ s, s.x.rf2.complaint = 1 → s.x.rf2.complaintAt + 200000 ≤ s.dc.up → beingBenched s.x.rf2.complaintDie s = false → ∃
    t, exec .complaintTimeout s = .next t ∧
    t.x.rf2 = { s.x.rf2 with complaint := 2 } ∧ eventSet .dxd 0x14 3 t ∧ Only [.com .dxd .pgEvent, .com .dxd .ic,
      .referee] s t) ∧
  (∀ s, s.x.rf2.complaint ≠ 1 ∨ s.dc.up < s.x.rf2.complaintAt + 200000 ∨ beingBenched s.x.rf2.complaintDie s = true → exec
    .complaintTimeout s = .next s)

/-- 200,000 beats after the CALL_OFF an arm timeout goes on in the same epoch and a step timeout renews the epoch; a BENCH
that waited for a kickoff goes after it; the replay arms the first uncommitted step under its next attempt and a new
grid, or ends the job when attempts are exhausted. Cites: R171, R298, R299, R312, R313, R314, R315. -/
def Obligations.Recovery : Prop :=
  (∀ j b p s, s.job j = some b → b.pause = some p → rootActs s = true → p.waiting = true →
    p.callAt + 200000 ≤ s.dc.tk.bc → p.targets = [] → p.reason ≠ 3 → launchedUnder b p = false →
    ∃ t, exec (.recoveryWaitEnd j) s = .next t ∧ t.job j = some { b with pause := some { p with waiting := false, targets
      := [] } } ∧
      Only [.referee] s t) ∧
  (∀ j b p s, s.job j = some b → b.pause = some p → rootActs s = true → p.waiting = true →
    p.callAt + 200000 ≤ s.dc.tk.bc → p.targets = [] → p.reason = 3 ∨ launchedUnder b p = true → b.state = 3 →
    (∀ r, r ∈ b.steps → r.isArmed = false) → s.x.rf2.lastEpoch < 0xFFFFFFFF → ledgerRoom 1 s = true →
    ∃ t, exec (.recoveryWaitEnd j) s = .next t ∧
      (∃ c q, t.job j = some c ∧ c.epoch = s.x.rf2.lastEpoch + 1 ∧ c.state = 3 ∧ c.benched = b.benched ∧
        c.engineMap = b.engineMap ∧ c.pause = some q ∧ q.waiting = false ∧ q.targets = [] ∧
        q.benchAt = none ∧ q.endsEpoch = true) ∧
      (∃ m, m ∈ t.x.lg.msgs ∧ m.frame = ⟨b.epoch, .bench ⟨s.x.rf2.oseqNext % 2 ^ 32, s.x.rf2.lastEpoch + 1, 0, 0, 0,
        admitLead s⟩⟩) ∧
      t.x.rf2.lastEpoch = s.x.rf2.lastEpoch + 1 ∧ t.x.rf2.oseqNext = s.x.rf2.oseqNext + 1 ∧
      Only [.com .dxd .ports, .com .dxd .regs, .com .dxd .pgEvent, .com .dxd .ic, .kicks, .census, .scores, .ledger,
        .referee] s t) ∧
  (∀ j b p s, s.job j = some b → b.pause = some p → p.waiting = false ∨ s.dc.tk.bc < p.callAt + 200000 →
    exec (.recoveryWaitEnd j) s = .next s) ∧
  (∀ j b p n s, s.job j = some b → b.pause = some p → rootActs s = true → p.deferTo = some n → n ≤ s.dc.tk.bc →
    (∀ r, r ∈ b.steps → r.isArmed = false) → b.state = 3 → p.targets = [(0, 0, 0)] → s.x.rf2.lastEpoch < 0xFFFFFFFF →
    ledgerRoom 1 s = true → ∃ t, exec (.deferredBench j) s = .next t ∧
      (∃ c q, t.job j = some c ∧ c.epoch = s.x.rf2.lastEpoch + 1 ∧ c.pause = some q ∧ q.targets = [] ∧
        q.deferTo = none ∧ q.benchAt = none) ∧ t.x.rf2.lastEpoch = s.x.rf2.lastEpoch + 1 ∧ Only [.com .dxd .ports,
          .com .dxd .regs, .com .dxd .pgEvent, .com .dxd .ic, .kicks, .census, .scores, .ledger, .referee] s t) ∧
  (∀ j b p s, s.job j = some b → b.pause = some p → (∀ n, p.deferTo = some n → s.dc.tk.bc < n) →
    exec (.deferredBench j) s = .next s) ∧
  (∀ j b p r a s, s.job j = some b → b.pause = some p → replayPoint b p = some (r, a) → rootActs s = true →
    b.state = 3 → b.ending = none → a ≤ s.dc.tk.bc → exhausted b r = false → b.stopArms = false ∨ nextAttempt b r ≠ 0 →
    ledgerRoom 1 s = true →
    ∃ t, exec (.replayArm j) s = .next t ∧
      (∃ c, t.job j = some c ∧ c.state = 2 ∧ c.pause = none ∧ c.nextStep = r + 1 ∧ c.gS = r ∧
        c.gK = s.dc.tk.bc + lEff b.sched ∧
        c.steps = pruneSteps b ++ [newRStep b r (nextAttempt b r) (s.dc.tk.bc + lEff b.sched) true]) ∧
      t.x.rf2.oseqNext = s.x.rf2.oseqNext + 1 ∧ Only [.com .dxd .ports, .com .dxd .pgEvent, .com .dxd .ic, .kicks,
        .census, .scores, .ledger, .referee] s t) ∧
  (∀ j b p r a s, s.job j = some b → b.pause = some p → replayPoint b p = some (r, a) → rootActs s = true →
    b.state = 3 → b.ending = none → a ≤ s.dc.tk.bc → exhausted b r = true → b.stopArms = false ∨ nextAttempt b r ≠ 0 →
    ∃ t, exec (.replayArm j) s = .next t ∧
      (∃ c, t.job j = some c ∧ c.ending = some 5 ∧ c.stopArms = true ∧ c.pause = none) ∧ Only [.com .dxd .ports,
        .com .dxd .pgEvent, .com .dxd .ic, .kicks, .census, .scores, .ledger, .referee] s t) ∧
  (∀ j b p r a s, s.job j = some b → b.pause = some p → replayPoint b p = some (r, a) → rootActs s = true →
    b.state = 3 → b.ending = none → a ≤ s.dc.tk.bc → b.stopArms = true → nextAttempt b r = 0 →
    ∃ t, exec (.replayArm j) s = .next t ∧ t.job j = some { b with state := 4, result := 7, pause := none } ∧
      eventSet .dxd 0x14 2 t ∧ Only [.com .dxd .pgEvent, .com .dxd .ic, .referee] s t) ∧
  (∀ j b p s, s.job j = some b → b.pause = some p → b.state = 4 → exec (.replayArm j) s = .next s) ∧
  (∀ j b p s, s.job j = some b → b.pause = some p → replayPoint b p = none → exec (.replayArm j) s = .next s)

/-- At the acting referee SUBMIT starts a job or leaves its refusal, RESUME goes on with a PAUSED one, END stops it,
BENCH_OPERATOR replaces a member by a spare; a job whose steps are settled ends with a closing RENEW. A member that does
not act ignores the commands. Cites: R299, R300, R304, R317, R318, R320, R321, R322. -/
def Obligations.JobCommands : Prop :=
  (∀ rq v s, WriteTaken .dxd rq 0x14 0x118 s → rootActs s = false →
    exec (.jobSubmit rq v) s = .next s ∧ exec (.jobResume rq v) s = .next s ∧ exec (.jobEndCommand rq v) s = .next s ∧
      exec (.benchOperator rq v) s = .next s) ∧
  (∀ rq v d s, WriteTaken .dxd rq 0x14 0x118 s → rootActs s = true → fld v 61 3 = 1 →
    (∀ b, s.job (jobSel s) = some b → b.state = 0 ∨ b.state = 5) → s.x.rf2.lastEpoch < 0xFFFFFFFF →
    submitResult s (fld v 0 32) = 0 → 3 ≤ ledgerFree s.x.lg →
    d = atticBytes s (fld v 0 32) (2696 + 8 * be (atticBytes s (fld v 0 32) 10) 9 1) →
    ∃ t, exec (.jobSubmit rq v) s = .next t ∧
      t.job (jobSel s) = some (jobOfDesc (jobSel s) (s.x.rf2.lastEpoch + 1) d s) ∧
      t.x.rf2.lastEpoch = s.x.rf2.lastEpoch + 1 ∧ (t.served (s.x.rf2.lastEpoch + 1)).isSome = true ∧
      eventSet .dxd 0x14 2 t ∧ Only [.com .dxd .ports, .com .dxd .pgEvent, .com .dxd .ic, .census, .scores, .ledger,
        .referee] s t) ∧
  (∀ rq v r s, WriteTaken .dxd rq 0x14 0x118 s → rootActs s = true → fld v 61 3 = 1 →
    (∀ b, s.job (jobSel s) = some b → b.state = 0 ∨ b.state = 5) → s.x.rf2.lastEpoch < 0xFFFFFFFF →
    submitResult s (fld v 0 32) = r → r ≠ 0 → ∃ t, exec (.jobSubmit rq v) s = .next t ∧
      t.job (jobSel s) = some (freeJob (jobSel s) r) ∧ t.x.rf2.lastEpoch = s.x.rf2.lastEpoch ∧
      Only [.com .dxd .pgEvent, .com .dxd .ic, .referee] s t) ∧
  (∀ rq v b s, WriteTaken .dxd rq 0x14 0x118 s → rootActs s = true → fld v 61 3 = 1 → s.job (jobSel s) = some b →
    1 ≤ b.state → b.state ≤ 4 → exec (.jobSubmit rq v) s = .next s) ∧
  (∀ rq v b s, WriteTaken .dxd rq 0x14 0x118 s → rootActs s = true → fld v 61 3 = 2 → s.job (jobSel s) = some b →
    b.state = 4 → b.result ≠ 0xB → b.ending = none → b.pause = none → b.stopArms = false →
    ∃ t, exec (.jobResume rq v) s = .next t ∧
      t.job (jobSel s) = some { b with state := if b.steps.isEmpty then 1 else 2, result := 0 } ∧ eventSet .dxd 0x14 2 t ∧
      Only [.com .dxd .pgEvent, .com .dxd .ic, .referee] s t) ∧
  (∀ rq v b s, WriteTaken .dxd rq 0x14 0x118 s → rootActs s = true → fld v 61 3 = 2 → s.job (jobSel s) = some b →
    b.state = 4 → b.result ≠ 0xB → b.ending = none → b.pause = none → b.stopArms = true →
    ∃ t, exec (.jobResume rq v) s = .next t ∧
      (∀ r, resumeResult b (fld v 0 32) s = r → r ≠ 0 → t.job (jobSel s) = some { b with result := r }) ∧
      (resumeResult b (fld v 0 32) s = 0 → ∃ c, t.job (jobSel s) = some c ∧ c.state = 2 ∧ c.result = 0 ∧
        c.stopArms = false ∧ c.sched = schedOf (atticBytes s (fld v 0 32) 64) ∧ c.late = 0 ∧
        c.nextStep = c.sched.firstStep ∧ c.gS = c.sched.firstStep ∧ c.gK = c.sched.firstKickoff ∧
        c.period = c.sched.period) ∧ Only [.com .dxd .pgEvent, .com .dxd .ic, .referee] s t) ∧
  (∀ rq v b s, WriteTaken .dxd rq 0x14 0x118 s → fld v 61 3 = 2 → s.job (jobSel s) = some b → b.state ≠ 4 ∨ b.result = 0xB →
    exec (.jobResume rq v) s = .next s) ∧
  (∀ rq v b s, WriteTaken .dxd rq 0x14 0x118 s → rootActs s = true → fld v 61 3 = 3 → s.job (jobSel s) = some b →
    1 ≤ b.state → b.state ≤ 4 → b.ending = none → ∃ t, exec (.jobEndCommand rq v) s = .next t ∧
      (∃ c, t.job (jobSel s) = some c ∧ c.ending = some 8 ∧ c.stopArms = true ∧ c.pause = none) ∧ Only [.com .dxd .ports,
        .com .dxd .pgEvent, .com .dxd .ic, .kicks, .census, .scores, .ledger, .referee] s t) ∧
  (∀ rq v b i e s, WriteTaken .dxd rq 0x14 0x118 s → rootActs s = true → fld v 61 3 = 4 → dieOk (fld v 0 32) = true →
    s.job (jobSel s) = some b → b.slot = jobSel s → (slotOf b (dieClass (fld v 0 32)) (dieRank (fld v 0 32))).isSome =
      true →
    b.pause = none → b.steps = [] → b.stays = false → ledgerRoom 1 s = true →
    findSpare s b (dieClass (fld v 0 32) == 1) = some (i, e) → s.x.rf2.lastEpoch < 0xFFFFFFFF →
    ∃ t, exec (.benchOperator rq v) s = .next t ∧
      (∃ c, t.job b.slot = some c ∧ c.state = 3 ∧ c.epoch = s.x.rf2.lastEpoch + 1 ∧ c.benched = sat16 (b.benched + 1) ∧
        c.engineMap = (if dieClass (fld v 0 32) = 0 then b.engineMap.set (dieRank (fld v 0 32)) e.slot else b.engineMap) ∧
        c.wsMap = (if dieClass (fld v 0 32) = 1 then b.wsMap.set (dieRank (fld v 0 32)) e.slot else b.wsMap) ∧
        c.pause.map (·.benchAt) = some none) ∧
      (0, fld v 0 32) ∈ t.x.rf2.benchedDevs ∧ (∃ m, m ∈ t.x.lg.msgs ∧ m.frame = ⟨b.epoch, .bench ⟨s.x.rf2.oseqNext % 2 ^ 32,
        s.x.rf2.lastEpoch + 1, 0, fld v 0 32, 0xC, admitLead s⟩⟩) ∧ Only [.com .dxd .ports, .com .dxd .regs,
          .com .dxd .pgEvent, .com .dxd .ic, .kicks, .census, .scores, .ledger, .referee] s t) ∧
  (∀ rq v b s, WriteTaken .dxd rq 0x14 0x118 s → fld v 61 3 = 4 → s.job (jobSel s) = some b →
    slotOf b (dieClass (fld v 0 32)) (dieRank (fld v 0 32)) = none → exec (.benchOperator rq v) s = .next s) ∧
  (∀ rq v s, WriteTaken .dxd rq 0x14 0x118 s → fld v 61 3 = 4 → dieOk (fld v 0 32) = false →
    exec (.benchOperator rq v) s = .next s) ∧
  (∀ j b r s, s.job j = some b → b.ending = some r → rootActs s = true → b.state ≠ 0 → b.state ≠ 5 →
    (∀ x, x ∈ b.steps → stepSettled s b x = true) → s.x.rf2.lastEpoch < 0xFFFFFFFF → ledgerRoom 2 s = true →
    ∃ t, exec (.jobEnd j) s = .next t ∧
      (∃ m, m ∈ t.x.lg.msgs ∧ m.frame = ⟨b.epoch, .bench ⟨s.x.rf2.oseqNext % 2 ^ 32, s.x.rf2.lastEpoch + 1, 0, 0xFFFFFFFF,
        0,
        admitLead s⟩⟩) ∧
      (∃ c, t.job j = some c ∧ c.state = 5 ∧ c.result = r ∧ c.steps = [] ∧ c.ending = none ∧ c.pause = none) ∧
      t.x.rf2.lastEpoch = s.x.rf2.lastEpoch + 1 ∧ (∀ v, v ∈ t.x.cs.served → v.epoch ≠ b.epoch) ∧
      eventSet .dxd 0x14 2 t ∧ Only [.com .dxd .ports, .com .dxd .pgEvent, .com .dxd .ic, .kicks, .census, .scores,
        .ledger, .referee] s t) ∧
  (∀ j b s, s.job j = some b → b.ending = none ∨ (∃ x, x ∈ b.steps ∧ stepSettled s b x = false) →
    exec (.jobEnd j) s = .next s) ∧
  (∀ j s, ledgerRoom 2 s = false → exec (.jobEnd j) s = .next s) ∧
  (∀ rq v s, WriteTaken .dxd rq 0x14 0x150 s → rootActs s = true → ∃ t, exec (.mbSpareWrite rq v) s = .next t ∧
    tabGet {} t.x.rf2.spares (s.regF .dxd 0x14148 0 6) =
      ⟨bit v 63, bit v 62, fld v 32 14, fld v 0 16⟩ ∧
    (∀ i, i ≠ s.regF .dxd 0x14148 0 6 → tabGet {} t.x.rf2.spares i = tabGet {} s.x.rf2.spares i) ∧
    (bit v 63 = true → (bit v 62, fld v 32 14) ∉ t.x.rf2.benchedSlots) ∧ t.x.rf2.jobs = s.x.rf2.jobs ∧ Only
      [.com .dxd .ports, .com .dxd .pgEvent, .com .dxd .ic, .ledger, .referee] s t) ∧
  (∀ rq s, ReadTaken .dxd rq 0x14 s → ∃ t, exec (.mbStatusRead rq) s = .next t ∧
    t.response .dxd rq = BitVec.ofNat 64 (mbRole s * 2 ^ 62 + b2n s.x.lg.solo * 2 ^ 61 +
      s.x.rf2.jobs.countP (fun b => decide (1 ≤ b.state ∧ b.state ≤ 4)) * 2 ^ 48 + s.x.rf2.unpaired * 2 ^ 32 +
      s.x.rf2.lastEpoch) ∧
    t.x.rf2 = { s.x.rf2 with unpaired := 0 } ∧ Only [.com .dxd .rsp, .referee] s t)

/-- The oldest open record becomes durable: a COMMIT commits its step and the messages that waited leave; the member that
does not act keeps each record in turn and follows its job; a returning member holds the acting member's log, and one
that acts without a job takes the records both agree on; a standby whose pair links are lost acts, from the ORIGIN and
EPOCH records of its ledger; EXPORTED only grows; MARK notes a step that is not armed yet and SAVED writes a record.
Cites: R183, R306, R307, R308, R309, R310, R311, R319, R323. -/
def Obligations.LedgerCommands : Prop :=
  (∀ a js n c b s, rootActs s = true → a.seq = n → s.x.lg.open_.head? = some n →
    s.x.lg.recs.find? (fun r => r.seq == n) = some c → c.ty = 6 →
    c.step < 2 ^ 48 - 1 → s.job b.slot = some b → s.x.rf2.jobs.find? (fun b => b.steps.any (fun r =>
      r.step == c.step && r.attempt == c.attempt && r.epoch == c.epoch && r.committing)) = some b →
    ∃ t, exec (.ledgerRecordDurable a js) s = .next t ∧ t.x.lg.head = n ∧ t.x.lg.open_ = s.x.lg.open_.drop 1 ∧
      (∃ d, t.job b.slot = some d ∧ d.committedTo = some (max c.step (b.committedTo.getD 0)) ∧
        d.steps = b.steps.map (fun r => if r.step == c.step && r.attempt == c.attempt && r.epoch == c.epoch && r.committing
          then { r with committed := true, committing := false } else r)) ∧ Only [.com .dxd .ports, .com .dxd .pgEvent,
            .com .dxd .ic, .kicks, .census, .scores, .ledger, .referee] s t) ∧
  (∀ a js n c m s, rootActs s = true → a.seq = n → s.x.lg.open_.head? = some n → s.x.lg.recs.find? (fun r => r.seq == n) =
    some c → c.ty ≠ 6 →
    s.x.lg.msgs = [m] → (∀ o, o ∈ s.x.lg.open_.drop 1 → 0 < serial 32 o m.seq) → (∀ e, m.frame.payload ≠ .bench e) →
    ∃ t, exec (.ledgerRecordDurable a js) s = .next t ∧
      t.x.lg = { s.x.lg with open_ := s.x.lg.open_.drop 1, head := n, msgs := [] } ∧
      (payloadCls m.frame.payload = .control → ∀ q, q ∈ m.ports → (s.port .dxd q).st = 5 → Queued .dxd q m.frame t) ∧
      Only [.com .dxd .ports, .ledger] s t) ∧
  (∀ a js n c m e b p s, rootActs s = true → a.seq = n → s.x.lg.open_.head? = some n →
    s.x.lg.recs.find? (fun r => r.seq == n) = some c → c.ty ≠ 6 → s.x.lg.msgs = [m] →
    (∀ o, o ∈ s.x.lg.open_.drop 1 → 0 < serial 32 o m.seq) → m.frame.payload = .bench e → e.kind ≠ 1 → e.newEpoch ≠
      m.frame.epoch →
    s.job b.slot = some b → b.epoch = e.newEpoch → b.pause = some p →
    ∃ t, exec (.ledgerRecordDurable a js) s = .next t ∧
      t.job b.slot = some { b with pause := some { p with benchAt := some s.dc.tk.bc, lead := e.admitLead } } ∧
      t.x.lg.msgs = [] ∧ t.x.rf2.benchReason = e.reason ∧ t.x.rf2.benchTarget = e.target ∧ t.x.rf2.benchKind = e.kind ∧
      eventSet .dxd 0x14 1 t ∧ Only [.com .dxd .ports, .com .dxd .pgEvent, .com .dxd .ic, .referee, .ledger] s t) ∧
  (∀ a js s, rootActs s = true → s.x.lg.open_.head? ≠ some a.seq → exec (.ledgerRecordDurable a js) s = .next s) ∧
  (∀ a js s, rootShadow s = true → a.solo = false → a.seq = s.x.lg.next → (pairPort s).isSome = true →
    ∃ t, exec (.ledgerRecordDurable a js) s = .next t ∧ t.x.lg.recs.getLast? = some a ∧ t.x.lg.head = a.seq ∧
      t.x.lg.next = nextSeq a.seq ∧
      (a.ty = 5 → ∀ x, s.rstep a.epoch a.step a.attempt = some x →
        t.rstep a.epoch a.step a.attempt = some { x with armDone := true, accepted := true }) ∧ Only [.census, .scores,
          .ledger, .referee] s t) ∧
  (∀ a js s, s.x.straps.role ≠ 2 → exec (.ledgerRecordDurable a js) s = .next s) ∧
  (∀ recs js s, s.x.straps.role = 2 → (pairPort s).isSome = true → s.x.rf2.acting = false →
    ∃ t, exec (.ledgerCopyComplete recs js) s = .next t ∧ t.x.lg.recs = recs ∧ t.x.lg.open_ = [] ∧
      t.x.lg.head = (recs.getLast?.map (·.seq)).getD 0 ∧ t.x.lg.mirrorOk = true ∧
      t.x.lg.next = nextSeq t.x.lg.head ∧ (recs = [] → js = [] → t.x.rf2.jobs = [] ∧ t.x.cs.served = []) ∧
      Only [.census, .scores, .ledger, .referee] s t) ∧
  (∀ recs js s, s.x.straps.role = 2 → (pairPort s).isSome = true → s.x.rf2.acting = true →
    s.x.rf2.jobs ≠ [] ∨ s.x.lg.open_ ≠ [] → ∃ t, exec (.ledgerCopyComplete recs js) s = .next t ∧
      t.x.lg = { s.x.lg with solo := false, mirrorOk := true } ∧ Only [.ledger] s t) ∧
  (∀ recs js s, s.x.straps.role = 2 → (pairPort s).isSome = true → s.x.rf2.acting = true →
    s.x.rf2.jobs = [] → s.x.lg.open_ = [] → ∃ t, exec (.ledgerCopyComplete recs js) s = .next t ∧
      t.x.lg.recs = adopted s.x.lg.recs recs ∧ t.x.lg.solo = false ∧ t.x.lg.mirrorOk = true ∧
      t.x.rf2.lastEpoch = max s.x.rf2.lastEpoch (epochAfter (adopted s.x.lg.recs recs)) ∧
      Only [.referee, .ledger] s t) ∧
  (∀ recs js s, s.x.straps.role ≠ 2 ∨ pairPort s = none → exec (.ledgerCopyComplete recs js) s = .next s) ∧
  (∀ s, s.x.straps.role = 2 → inCellar .dxd s = false → pairLost s = true → s.x.rf2.acting = false →
    s.x.rf2.jobs = [] → 0 < ledgerFree s.x.lg →
    ∃ t, exec .rootTakeover s = .next t ∧ t.x.rf2.acting = true ∧ t.x.lg.solo = true ∧
      t.x.rf2.oseqNext = originAfter s.x.lg.recs + 1 ∧
      t.x.rf2.lastEpoch = max s.x.rf2.lastEpoch (epochAfter s.x.lg.recs) ∧ (1, twinTarget s) ∈ t.x.rf2.benchedDevs ∧
      (∃ m, m ∈ t.x.lg.msgs ∧ m.frame = ⟨0, .bench ⟨originAfter s.x.lg.recs % 2 ^ 32, 0, 1, twinTarget s, 1, 0⟩⟩) ∧
        eventSet .dxd 0x14 4 t ∧ eventSet .dxd 0x15 0 t ∧ Only [.com .dxd .tk, .com .dxd .coreA, .com .dxd .coreB,
        .com .dxd .ports, .com .dxd .msets, .com .dxd .pgEvent, .com .dxd .ic, .com .dxd .hfits, .refs, .hold, .ptp,
        .kicks, .census, .scores, .ledger, .referee, .attic] s t) ∧
  (∀ s, s.x.straps.role = 2 → inCellar .dxd s = false → pairLost s = true → s.x.rf2.acting = false →
    ∃ t, exec .rootTakeover s = .next t ∧ t.x.rf2.acting = true ∧ t.x.lg.solo = true ∧ t.x.lg.mirrorOk = false ∧
      Only [.com .dxd .tk, .com .dxd .coreA, .com .dxd .coreB, .com .dxd .ports, .com .dxd .msets, .com .dxd .pgEvent,
        .com .dxd .ic, .com .dxd .hfits, .refs, .hold, .ptp, .kicks, .census, .scores, .ledger, .referee, .attic] s t) ∧
  (∀ s, s.x.straps.role ≠ 2 ∨ pairLost s = false ∨ (s.x.rf2.acting = true ∧ s.x.lg.solo = true) →
    exec .rootTakeover s = .next s) ∧
  (∀ rq v s, WriteTaken .dxd rq 0x15 0x108 s → ∃ t, exec (.lgExportedWrite rq v) s = .next t ∧
    t.x.lg.exported = (if 0 < serial 32 (fld v 0 32) s.x.lg.exported then fld v 0 32 else s.x.lg.exported) ∧
    (0 < ledgerFree s.x.lg ∨ rootActs s = false → t.x.lg = { s.x.lg with exported := t.x.lg.exported } ∧ Only [.ledger] s
      t) ∧
    Only [.com .dxd .ports, .com .dxd .pgEvent, .com .dxd .ic, .com .dxd .seen, .kicks, .census, .scores, .ledger,
      .referee] s t) ∧
  (∀ rq v b s, WriteTaken .dxd rq 0x15 0x158 s → rootActs s = true → bit v 63 = false → bit v 62 = true →
    s.job (fld v 48 4) = some b → nextAttempt b (fld v 0 48) = 0 → b.nextStep ≤ fld v 0 48 →
    ∃ t, exec (.ckptMark rq v) s = .next t ∧ (∃ c, t.job (fld v 48 4) = some c ∧ c = { b with marks := c.marks } ∧
      ∀ n, n ∈ c.marks ↔ n ∈ b.marks ∨ n = fld v 0 48) ∧ Only [.referee] s t) ∧
  (∀ rq v b s, WriteTaken .dxd rq 0x15 0x158 s → bit v 63 = false → s.job (fld v 48 4) = some b →
    nextAttempt b (fld v 0 48) ≠ 0 ∨ fld v 0 48 < b.nextStep → exec (.ckptMark rq v) s = .next s) ∧
  (∀ rq v b s, WriteTaken .dxd rq 0x15 0x158 s → rootActs s = true → bit v 63 = true → bit v 62 = false →
    s.job (fld v 48 4) = some b → b.state ≠ 0 → 0 < ledgerFree s.x.lg → ∃ t, exec (.ckptSaved rq v) s = .next t ∧
      (∃ r, t.x.lg.recs.getLast? = some r ∧ r.ty = 7 ∧ r.step = fld v 0 48 ∧ r.epoch = b.epoch ∧ r.seq = s.x.lg.next) ∧
      t.x.lg.next = nextSeq s.x.lg.next ∧ Only [.com .dxd .pgEvent, .com .dxd .ic, .ledger, .referee] s t)

/-- At a BC multiple of 64 the tick samples, takes releases and requests presented 8 ns before, and grants in rank order
below the ceiling and the rise credit; nothing is granted during droop or in SIDELINE; the granted sum never passes the
ceiling by a grant; a request above the ceiling or RISE is refused; in SIDELINE a request stays pending; step leave is
returned by rels first and then follows the queue; a lost phase is declared at the tick, under test too. Cites: R324,
R325, R327, R328, R329, R330, R331, R335, R337. -/
def Obligations.StockTick : Prop :=
  (∀ dr vs ph s, tickDue s = false → exec (.grantTick dr vs ph) s = .next s) ∧
  (∀ dr vs ph s, tickDue s = true → ∃ t, exec (.grantTick dr vs ph) s = .next t ∧ t.t.st.lastTick = s.tc.up ∧
    t.t.st.ticks = s.t.st.ticks + 1 ∧ t.t.st.v = (vs % 4096 :: s.t.st.v).take 256 ∧ t.t.st.droop = dr ∧
    (t.t.st.g ≤ s.t.st.g ∨ t.t.st.g ≤ t.t.st.ceiling) ∧
    (dr = true ∨ s.t.st.dark = true ∨ s.tc.tk.sideline = true ∨ sliceIsolated s 9 = true → t.t.st.g ≤ s.t.st.g) ∧
    (dr = true → t.t.st.droopTicks = sat16 (s.t.st.droopTicks + 1) ∧ (s.t.st.droop = false → eventSet .tsu 0x0B 0 t)) ∧
    (sliceIsolated s 9 = true → t.t.st.port = s.t.st.port ∧ t.t.st.g = s.t.st.g ∧ t.t.st.leaveQ = s.t.st.leaveQ ∧
      (s.tc.fuse.kind = .m → t.t.steps = s.t.steps)) ∧
    (s.tc.fuse.kind = .c → ∀ p, p < 24 → ph.testBit p = false → s.t.st.lost.testBit p = false →
      phaseFilter s ≤ tabGet 0 s.t.st.zeros p + 1 → phaseFilter s ≤ 65535 → t.t.st.lost.testBit p = true) ∧
    (sliceIsolated s 9 = false → t.t.st.leaveQ = [] ∧ t.t.st.credit ≤ 1000 * stRise s) ∧ Only [.com .tsu .tk,
      .com .tsu .ports, .com .tsu .pgEvent, .com .tsu .ic, .steps, .member, .cue, .signals, .huddles, .keyPort, .tallies,
      .bays, .stock] s t) ∧
  (∀ vs ph p c n s, tickDue s = true → sliceIsolated s 9 = false → s.tc.fuse.kind = .m → s.t.st.dark = false →
    s.tc.tk.sideline = false → s.t.st.leaveQ = [] → launchedStep s = none → p < 64 → (s.stPort p).pending = true →
    (s.stPort p).newReq = none → (s.stPort p).newRel = [] →
    (∀ q, q < 64 → q ≠ p → (s.stPort q).pending = false ∧ (s.stPort q).newReq = none ∧ (s.stPort q).newRel = []) →
    c = effEnvelope (stEnvelope s) (lostCount s.t.st.lost) →
    n = min (s.t.st.credit + 64 * stRise s) (1000 * stRise s) →
    (s.stPort p).req ≤ stRise s → s.t.st.g + (s.stPort p).req ≤ c → 1000 * (s.stPort p).req ≤ n →
    ∃ t, exec (.grantTick false vs ph) s = .next t ∧
      (t.stPort p).held = (s.stPort p).held + (s.stPort p).req ∧ (t.stPort p).pending = false ∧ (t.stPort p).answer = 1 ∧
      t.t.st.g = s.t.st.g + (s.stPort p).req ∧ t.t.st.credit = n - 1000 * (s.stPort p).req ∧ t.t.st.ceiling = c ∧
      t.t.st.eEff = c ∧ (∀ q, q < 64 → q ≠ p → t.stPort q = s.stPort q)) ∧
  (∀ dr vs ph p s, tickDue s = true → sliceIsolated s 9 = false → s.tc.fuse.kind = .m → s.tc.tk.sideline = true → p < 64 →
    (s.stPort p).pending = true → (s.stPort p).newReq = none → (s.stPort p).newRel = [] →
    ∃ t, exec (.grantTick dr vs ph) s = .next t ∧
      t.stPort p = { s.stPort p with wait := sat32 ((s.stPort p).wait + 1) } ∧ t.t.st.reqRefused = s.t.st.reqRefused) ∧
  (∀ dr vs ph p s, tickDue s = true → sliceIsolated s 9 = false → s.tc.fuse.kind = .m → s.tc.tk.sideline = false → p < 64 →
    (s.stPort p).pending = true → (s.stPort p).newReq = none → (s.stPort p).newRel = [] → stRise s < (s.stPort p).req →
    ∃ t, exec (.grantTick dr vs ph) s = .next t ∧ (t.stPort p).pending = false ∧ (t.stPort p).answer = 2 ∧
      (t.stPort p).held = (s.stPort p).held ∧ eventSet .tsu 0x0B 1 t) ∧
  (∀ vs ph p w a s, tickDue s = true → sliceIsolated s 9 = false → s.tc.fuse.kind = .m → s.t.st.leaveQ = [] →
    launchedStep s = none → p < 64 → (s.stPort p).newReq = some (w, a) → a + 8 ≤ s.tc.up → w ≤ stRise s →
    w ≤ effEnvelope (stEnvelope s) (lostCount s.t.st.lost) → ∃ t, exec (.grantTick true vs ph) s = .next t ∧
      (t.stPort p).pending = true ∧ (t.stPort p).req = w ∧ (t.stPort p).wait = 1 ∧ (t.stPort p).newReq = none) ∧
  (∀ dr vs ph p a s, tickDue s = true → sliceIsolated s 9 = false → p < 64 → a ∈ (s.stPort p).newRel →
    a + 8 ≤ s.tc.up → (s.stPort p).pending = false → (s.stPort p).newReq = none →
    ∃ t, exec (.grantTick dr vs ph) s = .next t ∧ (t.stPort p).held = 0 ∧
      (∀ b, b ∈ (t.stPort p).newRel ↔ b ∈ (s.stPort p).newRel ∧ s.tc.up < b + 8)) ∧
  (∀ dr vs ph r w e th n th' n' s, tickDue s = true → sliceIsolated s 9 = false → s.tc.fuse.kind = .m →
    s.t.st.leaveQ = [⟨r.step, some w, th, n⟩, ⟨r.step, none, th', n'⟩] → s.t.steps = [r] → r.armed = true ∨ r.launched =
      true →
    e = effEnvelope (stEnvelope s) (lostCount s.t.st.lost) →
    ∃ t, exec (.grantTick dr vs ph) s = .next t ∧ t.t.steps.map (·.leave) = [min w e]) ∧
  (∀ dr vs ph r w e th n s, tickDue s = true → sliceIsolated s 9 = false → s.tc.fuse.kind = .m →
    s.t.st.leaveQ = [⟨r.step, some w, th, n⟩] → leaveRec s r.step = some r → r.armed = true ∨ r.launched = true →
    r.leaveReturn = false → e = effEnvelope (stEnvelope s) (lostCount s.t.st.lost) →
    ∃ t, exec (.grantTick dr vs ph) s = .next t ∧
      (∃ x, x ∈ t.t.steps ∧ x = { r with leave := min (r.leave + w) e }) ∧
      (e < r.leave + w → t.t.st.leaveShort = sat16 (s.t.st.leaveShort + 1) ∧ eventSet .tsu 0x0B 2 t) ∧
      (r.launched = true → launchedStep s = some r → 0 < min (r.leave + w) e →
        t.t.st.ceiling = min e (min (r.leave + w) e)))

/-- A request or a release of a port stands until a tick takes it, and a second request is refused; DROOP, BUMP_SUSPECT
and a lost phase raise their events, and three lost phases make the region dark and are an own failure; a STOCK report
goes when it is due; the writes and reads of the page do what the page says. Cites: R324, R326, R332, R333, R334, R335,
R336, R338. -/
def Obligations.Stockroom : Prop :=
  (∀ p w s, hasStock s = true → p < 64 → 1 ≤ w → w ≤ 64 → (s.stPort p).pending = false → (s.stPort p).newReq = none →
    ∃ t, exec (.stockRequest p w) s = .next t ∧ t.stPort p = { s.stPort p with newReq := some (w, s.tc.up), answer := 0 } ∧
      (∀ q, q ≠ p → t.stPort q = s.stPort q) ∧ t.t.st.g = s.t.st.g ∧ Only [.stock] s t) ∧
  (∀ p w s, hasStock s = true → p < 64 → 1 ≤ w → w ≤ 64 → (s.stPort p).pending = true ∨ (s.stPort p).newReq ≠ none →
    ∃ t, exec (.stockRequest p w) s = .next t ∧ t.t.st = { s.t.st with reqRefused := sat16 (s.t.st.reqRefused + 1) } ∧
      eventSet .tsu 0x0B 1 t ∧ Only [.com .tsu .pgEvent, .com .tsu .ic, .stock] s t) ∧
  (∀ p s, hasStock s = true → p < 64 → ∃ t, exec (.stockRelease p) s = .next t ∧
    t.stPort p = { s.stPort p with newRel := (s.stPort p).newRel ++ [s.tc.up] } ∧
    (∀ q, q ≠ p → t.stPort q = s.stPort q) ∧ Only [.stock] s t) ∧
  (∀ p w s, hasStock s = false → exec (.stockRequest p w) s = .next s ∧ exec (.stockRelease p) s = .next s) ∧
  (∀ s, hasStock s = true → ∃ t, exec .droop s = .next t ∧ t.t.st = { s.t.st with droop := true } ∧
    eventSet .tsu 0x0B 0 t ∧ Only [.com .tsu .pgEvent, .com .tsu .ic, .stock] s t) ∧
  (∀ s, hasStock s = false → exec .droop s = .next s) ∧
  (∀ s, hasStock s = true → bumpTicks s ≤ s.t.st.abnormal → s.t.st.bump = false → ∃ t, exec .bumpSuspect s = .next t ∧
    t.t.st = { s.t.st with bump := true, stockDue := true } ∧ eventSet .tsu 0x0B 4 t ∧ Only [.com .tsu .pgEvent,
      .com .tsu .ic, .stock] s t) ∧
  (∀ s, hasStock s = false ∨ s.t.st.abnormal < bumpTicks s ∨ s.t.st.bump = true → exec .bumpSuspect s = .next s) ∧
  (∀ p n s, hasStock s = true → phaseDue s p = true → n = lostCount (s.t.st.lost + 2 ^ p) → n < 3 →
    ∃ t, exec (.phaseLost p) s = .next t ∧ t.t.st = { s.t.st with
      lost := s.t.st.lost + 2 ^ p, derated := true, stockDue := true, eEff := stEnvelope s - 40 * n } ∧
      eventSet .tsu 0x0B 5 t ∧ Only [.com .tsu .pgEvent, .com .tsu .ic, .stock] s t) ∧
  (∀ p s, hasStock s = true → phaseDue s p = true → 3 ≤ lostCount (s.t.st.lost + 2 ^ p) → s.t.st.dark = false →
    ∃ t, exec (.phaseLost p) s = .next t ∧ t.t.st = { s.t.st with
      lost := s.t.st.lost + 2 ^ p, derated := true, stockDue := true, eEff := 0, dark := true } ∧
      (∀ b, b < 16 → bayExists s b = true → (t.bay b).stopReq = true) ∧ t.t.kp.fits = false ∧ OwnFailure s t ∧
        t.tc.tk.sideline = true ∧
      eventSet .tsu 0x0B 6 t ∧
      Only [.com .tsu .tk, .com .tsu .ports, .com .tsu .pgEvent, .com .tsu .ic, .steps, .member, .cue, .signals, .huddles,
        .keyPort, .tallies, .bays, .stock] s t) ∧
  (∀ p s, phaseDue s p = false → exec (.phaseLost p) s = .next s) ∧
  (∀ s, hasStock s = true → s.t.st.stockDue = true ∨
      (s.tc.tk.bc % 1048576 = 0 ∧ s.t.st.reported ≠ s.tc.tk.bc / 1048576 + 1) →
    ∃ t, exec .stockReportSend s = .next t ∧ t.t.st.stockDue = false ∧ t.t.st.peakStock = s.t.st.g ∧
      (∀ q, q < 2 → (s.port .tsu q).st = 5 → Queued .tsu q (tsuFrame (.stock (stockFrame s)) s) t) ∧ Only
        [.com .tsu .ports, .stock] s t) ∧
  (∀ s, s.t.st.stockDue = false → s.tc.tk.bc % 1048576 ≠ 0 ∨ s.t.st.reported = s.tc.tk.bc / 1048576 + 1 →
    exec .stockReportSend s = .next s) ∧
  (∀ rq v s, WriteTaken .tsu rq 0x0B 0x120 s → ∃ t, exec (.clearBump rq v) s = .next t ∧
    (bit v 63 = true → t.t.st = { s.t.st with bump := false, abnormal := 0, stockDue := s.t.st.stockDue || s.t.st.bump }) ∧
    (bit v 63 = false → t.t.st = s.t.st) ∧ t.regF .tsu 0xB120 32 16 = fld v 32 16 ∧
    t.regF .tsu 0xB120 0 24 = fld v 0 24 ∧ Only [.com .tsu .regs, .stock] s t) ∧
  (∀ rq s, ReadTaken .tsu rq 0x0B s → ∃ t, exec (.stCountsRead rq) s = .next t ∧
    t.response .tsu rq = BitVec.ofNat 64 (s.t.st.reqRefused * 2 ^ 48 + s.t.st.leaveShort * 2 ^ 32 +
      s.t.st.droopTicks * 2 ^ 16 + s.t.st.peak) ∧
    t.t.st = { s.t.st with reqRefused := 0, leaveShort := 0, droopTicks := 0, peak := 0 } ∧
    Only [.com .tsu .rsp, .stock] s t)

/-- An asserted enabled source gathers its raises and is PENDING at COUNT or after TIME; a fall withdraws it; TIME counts
beats of presented HT, and of the free-running counter while HT_VALID is 0; a claim returns the lowest PENDING source of
an enabled target and marks it CLAIMED with its stamp; its completion makes it PENDING again, a new edge with its stamp,
or IDLE, and any other completion is stray. The outputs always follow. Cites: R341, R345, R346, R347, R348, R349, R350,
R355. -/
def Obligations.InterruptSources : Prop :=
  (∀ d n s, srcPresent d s n = true → (s.com d).ic.asleep = false → (s.icSrc d n).st = 0 → (s.icSrc d n).enable = true →
    srcLevel d s n = true → ∃ t, exec (.icSourceRaise d n) s = .next t ∧
      (t.icSrc d n).st = (if (s.icSrc d n).limit ≤ max 1 (s.icSrc d n).raised then 2 else 1) ∧
      (t.icSrc d n).rc = max 1 (s.icSrc d n).raised ∧ (t.icSrc d n).stamp = stampNow (s.com d).tk (s.com d).up ∧
      (t.icSrc d n).from_ = (s.com d).beats ∧ OtherSources d n s t ∧ OutputsShown d t ∧ Only [.com d .ic] s t) ∧
  (∀ d n s, srcPresent d s n = true → (s.com d).ic.asleep = false → (s.icSrc d n).st = 1 →
    ∃ t, exec (.icSourceRaise d n) s = .next t ∧
      (t.icSrc d n).st = (if (s.icSrc d n).limit ≤ (s.icSrc d n).rc + (s.icSrc d n).raised then 2 else 1) ∧
      (t.icSrc d n).rc = (s.icSrc d n).rc + (s.icSrc d n).raised ∧ (t.icSrc d n).stamp = (s.icSrc d n).stamp ∧
      OtherSources d n s t ∧ OutputsShown d t ∧ Only [.com d .ic] s t) ∧
  (∀ d n s, srcPresent d s n = true → (s.com d).ic.asleep = false → (s.icSrc d n).st = 3 →
    ∃ t, exec (.icSourceRaise d n) s = .next t ∧
      (t.icSrc d n).st = (if (s.icSrc d n).edge then 4 else 3) ∧
      ((s.icSrc d n).edge = true → (t.icSrc d n).stamp = stampNow (s.com d).tk (s.com d).up) ∧
      OtherSources d n s t ∧ OutputsShown d t ∧ Only [.com d .ic] s t) ∧
  (∀ d n s, srcPresent d s n = false ∨ (s.com d).ic.asleep = true → exec (.icSourceRaise d n) s = .next s) ∧
  (∀ d n s, (s.com d).ic.asleep = true → exec (.icSourceFall d n) s = .next s ∧ exec (.icCoalesceTimeout d n) s = .next s) ∧
  (∀ d n s, (s.com d).ic.asleep = false → srcLevel d s n = false → (s.icSrc d n).st = 1 ∨ (s.icSrc d n).st = 2 →
    ∃ t, exec (.icSourceFall d n) s = .next t ∧
      t.icSrc d n = { s.icSrc d n with st := 0, rc := 0, raised := 0, edge := false, stamp := {} } ∧
      OtherSources d n s t ∧ OutputsShown d t ∧ Only [.com d .ic] s t) ∧
  (∀ d n s, (s.com d).ic.asleep = false → srcLevel d s n = true ∨ ((s.icSrc d n).st ≠ 1 ∧ (s.icSrc d n).st ≠ 2) →
    ∃ t, exec (.icSourceFall d n) s = .next t ∧ t.icSrc d n = s.icSrc d n ∧ OtherSources d n s t ∧ OutputsShown d t ∧
      Only [.com d .ic] s t) ∧
  (∀ d n s, (s.com d).ic.asleep = false → (s.icSrc d n).st = 1 → (s.icSrc d n).time ≠ 0 → (s.icSrc d n).from_ + (s.icSrc d
    n).time ≤ (s.com d).beats →
    ∃ t, exec (.icCoalesceTimeout d n) s = .next t ∧ t.icSrc d n = { s.icSrc d n with st := 2 } ∧ OtherSources d n s t ∧
      OutputsShown d t ∧ Only [.com d .ic] s t) ∧
  (∀ d n s, (s.icSrc d n).st ≠ 1 ∨ (s.icSrc d n).time = 0 ∨ (s.com d).beats < (s.icSrc d n).from_ + (s.icSrc d n).time →
    exec (.icCoalesceTimeout d n) s = .next s) ∧
  (∀ d s, ((tickTime d s).com d).beats = (s.com d).beats + (if (s.com d).tk.htValid = true then
    (((tickTime d s).com d).tk.bc + 2 ^ 64 - (s.com d).tk.bc) % 2 ^ 64 else 1)) ∧
  (∀ d rq k n s, ReadTaken d rq 0x0C s → k < 8 → claimable d k s = some n → tabWf (fun _ => ({} : IcSrc)) (s.com d).ic.src →
    ∃ t, exec (.icClaim d rq k) s = .next t ∧ t.response d rq = BitVec.ofNat 64 (2 ^ 63 + n) ∧
      t.icSrc d n = { s.icSrc d n with st := 3, by_ := k, rc := 0, raised := 0 } ∧
      tabGet none (t.com d).ic.tStamp k = some (n, (s.icSrc d n).stamp) ∧
      (∀ j, j ≠ n → t.icSrc d j = (s.icSrc d j).fall (srcLevel d s j)) ∧ OutputsShown d t ∧
      Only [.com d .rsp, .com d .ic] s t) ∧
  (∀ d rq k s, ReadTaken d rq 0x0C s → k < 8 → claimable d k s = none → ∃ t, exec (.icClaim d rq k) s = .next t ∧
    t.response d rq = 0 ∧ (t.com d).ic.tStamp = (s.com d).ic.tStamp ∧ OutputsShown d t ∧
    Only [.com d .rsp, .com d .ic] s t) ∧
  (∀ d rq k v n s, WriteTaken d rq 0x0C (0x210 + 0x40 * k) s → k < 8 → n = fld v 0 8 → srcPresent d s n = true →
    (s.icSrc d n).st = 3 ∨ (s.icSrc d n).st = 4 → (s.icSrc d n).by_ = k → ∃ t, exec (.icComplete d rq k v) s = .next t ∧
      (t.icSrc d n).st = (if (s.icSrc d n).enable ∧ ((s.icSrc d n).st = 4 ∨ (s.icSrc d n).edge ∨ srcLevel d s n) then 2
        else 0) ∧
      ((s.icSrc d n).enable = true → (s.icSrc d n).st = 3 → (s.icSrc d n).edge = true →
        (t.icSrc d n).stamp = stampNow (s.com d).tk (s.com d).up) ∧
      ((s.icSrc d n).enable = true → (s.icSrc d n).st = 4 → (t.icSrc d n).stamp = (s.icSrc d n).stamp) ∧
      (t.com d).ic.stray = (s.com d).ic.stray ∧ OtherSources d n s t ∧ OutputsShown d t ∧ Only [.com d .ic] s t) ∧
  (∀ d rq k v n s, WriteTaken d rq 0x0C (0x210 + 0x40 * k) s → k < 8 → n = fld v 0 8 →
    srcPresent d s n = false ∨ ((s.icSrc d n).st ≠ 3 ∧ (s.icSrc d n).st ≠ 4) ∨ (s.icSrc d n).by_ ≠ k →
    ∃ t, exec (.icComplete d rq k v) s = .next t ∧ (t.com d).ic.stray = sat32 ((s.com d).ic.stray + 1) ∧
      eventSet d 0x0C 0 t ∧ (∀ j, (t.icSrc d j).st = (s.icSrc d j).st) ∧ Only [.com d .pgEvent, .com d .ic] s t)

/-- A write of a source's configuration sets ENABLE, WATCH, COUNT and TIME, and its target only while it is free, with
CONFIG_IGNORED else; DELIVER follows its write; SLEEP is refused while a source is PENDING or CLAIMED; a watched rise
wakes and is recorded; at the wake every asserted enabled source gathers with its recorded stamp; IC_LOCAL is
write-1-to-clear; a read of STRAY clears it. Cites: R340, R344, R351, R352, R353, R356. -/
def Obligations.InterruptControl : Prop :=
  (∀ d rq n v i s, WriteTaken d rq 0x0C (0x800 + 8 * n) s → n < 256 → srcPresent d s n = true → i = s.icSrc d n →
    ∃ t, exec (.icSourceCfgWrite d rq n v) s = .next t ∧ (t.icSrc d n).enable = bit v 55 ∧
      (t.icSrc d n).count = fld v 24 16 ∧ (t.icSrc d n).time = fld v 0 24 ∧
      (t.icSrc d n).target = (if i.enable = false ∧ i.st = 0 then fld v 56 3 else i.target) ∧
      (t.icSrc d n).watch = (bit v 54 && (i.watch || decide (watchedCount (s.com d).ic < 32))) ∧
      (¬(i.enable = false ∧ i.st = 0) → eventSet d 0x0C 1 t) ∧
      (bit v 54 = true → i.watch = false → 32 ≤ watchedCount (s.com d).ic → eventSet d 0x0C 2 t) ∧
      ((s.com d).ic.asleep = true → (t.icSrc d n).st = i.st) ∧
      ((s.com d).ic.asleep = false → bit v 55 = false → i.st = 1 ∨ i.st = 2 → (t.icSrc d n).st = 0) ∧
      ((s.com d).ic.asleep = false → bit v 55 = true → i.st = 0 → srcLevel d s n = true →
        (t.icSrc d n).st = (if orOne (fld v 24 16) ≤ max 1 i.raised then 2 else 1)) ∧
      (∀ j, j ≠ n → (t.icSrc d j).st = (s.icSrc d j).st ∧ (t.icSrc d j).target = (s.icSrc d j).target) ∧ Only
        [.com d .pgEvent, .com d .ic] s t) ∧
  (∀ d rq n v s, srcPresent d s n = false → WriteTaken d rq 0x0C (0x800 + 8 * n) s → n < 256 →
    exec (.icSourceCfgWrite d rq n v) s = .next s) ∧
  (∀ d rq v s, WriteTaken d rq 0x0C 0x100 s → bit v 1 = false → ∃ t, exec (.icDeliverWrite d rq v) s = .next t ∧
    (t.com d).ic.deliver = bit v 0 ∧ OutputsShown d t ∧ (∀ j, t.icSrc d j = s.icSrc d j) ∧ Only [.com d .ic] s t) ∧
  (∀ d rq v s, WriteTaken d rq 0x0C 0x100 s → bit v 1 = true → (s.com d).ic.asleep = false →
    (s.com d).ic.src.all (fun x => x.2.st == 0 || x.2.st == 1) = true → ∃ t, exec (.icSleep d rq v) s = .next t ∧
      (t.com d).ic.asleep = true ∧ (t.com d).ic.wake = false ∧ (t.com d).ic.recorded = [] ∧
      (t.com d).ic.deliver = bit v 0 ∧ Only [.com d .ic] s t) ∧
  (∀ d rq v s, WriteTaken d rq 0x0C 0x100 s → bit v 1 = true → (s.com d).ic.asleep = false →
    (∃ x, x ∈ (s.com d).ic.src ∧ (x.2.st = 2 ∨ x.2.st = 3 ∨ x.2.st = 4)) → ∃ t, exec (.icSleep d rq v) s = .next t ∧
      (t.com d).ic.asleep = false ∧ eventSet d 0x0C 3 t ∧ Only [.com d .pgEvent, .com d .ic] s t) ∧
  (∀ d n on s, (s.com d).ic.asleep = true → (s.icSrc d n).watch = true → (s.icSrc d n).edge = true →
    ∃ t, exec (.icWatchedRise d n on) s = .next t ∧ (t.com d).ic.wake = true ∧ (t.com d).ic.asleep = true ∧
      (n, if on then some (stampNow (s.com d).tk (s.com d).up) else none) ∈ (t.com d).ic.recorded ∧
      t.icSrc d n = { s.icSrc d n with edge := false, raised := 0 } ∧ OtherSources d n s t ∧ Only [.com d .ic] s t) ∧
  (∀ d n on s, (s.com d).ic.asleep = false ∨ (s.icSrc d n).watch = false ∨ (s.icSrc d n).edge = false →
    exec (.icWatchedRise d n on) s = .next s) ∧
  (∀ d s, (s.com d).ic.asleep = true → tabWf (fun _ => ({} : IcSrc)) (s.com d).ic.src → ∃ t, exec (.icWake d) s = .next t ∧
    (t.com d).ic.asleep = false ∧ (t.com d).ic.wake = false ∧ (t.com d).ic.recorded = [] ∧ eventSet d 0x0C 4 t ∧
    (∀ n, n ∈ (s.com d).ic.src.map (·.1) → (s.icSrc d n).enable = true → srcLevel d s n = true →
      (t.icSrc d n).st = (if (s.icSrc d n).limit ≤ 1 then 2 else 1) ∧ (t.icSrc d n).rc = 1 ∧
      (∀ st, (s.com d).ic.recorded.find? (fun x => x.1 == n) = some (n, some st) → (t.icSrc d n).stamp = st)) ∧
    (∀ n, (s.icSrc d n).enable = false ∨ srcLevel d s n = false → (t.icSrc d n).st = 0) ∧ Only [.com d .pgEvent,
      .com d .ic] s t) ∧
  (∀ d s, (s.com d).ic.asleep = false → exec (.icWake d) s = .next s) ∧
  (∀ (c : Ic) k, k < 4 → icOutput c (k + 4) = true → tabGet false c.out (k + 4) = false →
    ((msixEntry c (k + 4)).masked = false → tabGet 0 (icOutputs true c).msix k = tabGet 0 c.msix k + 1) ∧
    ((msixEntry c (k + 4)).masked = true → tabGet false (icOutputs true c).msixPending k = true ∧
      tabGet 0 (icOutputs true c).msix k = tabGet 0 c.msix k)) ∧
  (∀ rq v s, WriteTaken .tsu rq 0x0C 0x118 s → ∃ t, exec (.icLocalWrite rq v) s = .next t ∧
    t.tc.ic = { s.tc.ic with local_ := s.tc.ic.local_ &&& ~~~v } ∧ Only [.com .tsu .ic] s t) ∧
  (∀ d rq s, ReadTaken d rq 0x0C s → ∃ t, exec (.icStrayRead d rq) s = .next t ∧
    t.response d rq = BitVec.ofNat 64 (s.com d).ic.stray ∧ (t.com d).ic = { (s.com d).ic with stray := 0 } ∧
    Only [.com d .rsp, .com d .ic] s t)

/-- BT_RUN.GO opens the window of its slice where every check of R360 passes, and is refused with the reason of the first
check that fails, which stores nothing; a DX-D refuses with ABSENT and goes on showing its reset outcome; CELLAR refuses
with NOT_AVAILABLE; without GO only COMPARE and SLICE are written. Cites: R360, R364, R373. -/
def Obligations.SliceRequests : Prop :=
  (∀ rq v s, WriteTaken .tsu rq 0x0D 0x100 s → bit v 63 = true →
    (sliceChecks (fld v 0 4) (bit v 62) s).find? (fun c => c.2) = none → ∃ t, exec (.btRunGo .tsu rq v) s = .next t ∧
      t.tc.bt.win = some ⟨s.tc.up, fld v 0 4, bit v 62, none, false, false, false, 0, 0, 0, 0, prpgSeed (fld v 0 4)⟩ ∧
      t.tc.bt.slice = fld v 0 4 ∧ t.tc.bt.sig = s.tc.bt.sig ∧ t.tc.bt.refusals = s.tc.bt.refusals ∧
      t.regF .tsu 0xD100 0 4 = fld v 0 4 ∧ bit (t.reg .tsu 0xD100) 62 = bit v 62 ∧
      Only [.com .tsu .regs, .com .tsu .bt] s t) ∧
  (∀ rq v r s, WriteTaken .tsu rq 0x0D 0x100 s → bit v 63 = true →
    (sliceChecks (fld v 0 4) (bit v 62) s).find? (fun c => c.2) = some (r, true) →
    ∃ t, exec (.btRunGo .tsu rq v) s = .next t ∧ t.tc.bt.outcome = 3 ∧ t.tc.bt.reason = r ∧
      t.tc.bt.slice = fld v 0 4 ∧ t.tc.bt.win = s.tc.bt.win ∧ t.tc.bt.sig = s.tc.bt.sig ∧
      t.tc.bt.refusals = sat16 (s.tc.bt.refusals + 1) ∧ eventSet .tsu 0x0D 0 t ∧ Only [.com .tsu .regs,
        .com .tsu .pgEvent, .com .tsu .ic, .com .tsu .bt] s t) ∧
  (∀ rq v s, WriteTaken .tsu rq 0x0D 0x100 s → inCellar .tsu s = true → s.t.mem.epoch = 0 → s.tc.bt.win = none →
    bit v 63 = true → bit v 62 = false → slicePresent s.tc.fuse.kind (fld v 0 4) = true → 4 < fld v 0 4 → ∃ t, exec
      (.btRunGo .tsu rq v) s = .next t ∧ t.tc.bt.outcome = 3 ∧ t.tc.bt.reason = 0xA ∧
      Only [.com .tsu .regs, .com .tsu .pgEvent, .com .tsu .ic, .com .tsu .bt] s t) ∧
  (∀ rq v s, WriteTaken .dxd rq 0x0D 0x100 s → bit v 63 = true → ∃ t, exec (.btRunGo .dxd rq v) s = .next t ∧
    t.dc.bt.outcome = s.dc.bt.outcome ∧ t.dc.bt.reason = 4 ∧ t.dc.bt.slice = fld v 0 4 ∧
    t.dc.bt.refusals = sat16 (s.dc.bt.refusals + 1) ∧ t.dc.bt.win = s.dc.bt.win ∧ eventSet .dxd 0x0D 0 t ∧
    Only [.com .dxd .regs, .com .dxd .pgEvent, .com .dxd .badAccess, .com .dxd .ic, .com .dxd .bt, .com .dxd .barCap,
      .com .dxd .barLow] s t) ∧
  (∀ d rq v s, WriteTaken d rq 0x0D 0x100 s → bit v 63 = false → ∃ t, exec (.btRunGo d rq v) s = .next t ∧
    (t.com d).bt = (s.com d).bt ∧ t.regF d 0xD100 0 4 = fld v 0 4 ∧ bit (t.reg d 0xD100) 62 = bit v 62 ∧
    Only (pick d [.com .tsu .regs] [.com .dxd .regs, .com .dxd .badAccess, .com .dxd .barCap, .com .dxd .barLow]) s t) ∧
  (∀ d rq s, ReadTaken d rq 0x0D s → ∃ t, exec (.btCountsRead d rq) s = .next t ∧
    t.response d rq = shown d 0xD110 (wd [(48, (s.com d).bt.passes), (32, (s.com d).bt.mismatches),
      (16, (s.com d).bt.refusals)]) s ∧
    (t.com d).bt = { (s.com d).bt with passes := 0, mismatches := 0, refusals := 0 } ∧ Only (pick d [.com .tsu .bt,
      .com .tsu .rsp] [.com .dxd .badAccess, .com .dxd .bt, .com .dxd .barCap, .com .dxd .barLow, .com .dxd .rsp]) s t)

/-- The slice is isolated at I + 16, the signature of the X-masked answers that it gave to its generator's patterns is
latched and judged at I + 1,616, its core is restored at I + 1,800 and it is released at I + 2,000 with its outcome; a
core under test shows BIST while its twin keeps; a MISMATCH is an own failure and leaves the core IDLE; a lost twin ends
the test as REFUSED before the latch and hastens the restore after it; a held access is answered at the release. Cites:
R359, R361, R362, R363, R364, R365. -/
def Obligations.SliceWindow : Prop :=
  (∀ w s, s.tc.bt.win = some w → w.isolated = false → w.start + 16 ≤ s.tc.up → ∃ t, exec .bistIsolate s = .next t ∧
    t.tc.bt = { s.tc.bt with win := some { w with
      isolated := true, credit := s.t.st.credit, isolatedAt := s.tc.up } } ∧
    (w.slice < 2 → (t.core .tsu w.slice).st = 3 ∧ ((s.core .tsu (1 - w.slice)).st = 2 → t.tc.tk.keeper = 1 - w.slice)) ∧
    (2 ≤ w.slice → Only [.com .tsu .bt] s t) ∧ Only [.com .tsu .tk, .com .tsu .coreA, .com .tsu .coreB, .com .tsu .ports,
      .com .tsu .msets, .com .tsu .pgEvent, .com .tsu .ic, .com .tsu .bt, .com .tsu .hfits, .member, .huddles] s t) ∧
  (∀ s, (∀ w, s.tc.bt.win = some w → w.isolated = true ∨ s.tc.up < w.start + 16) → exec .bistIsolate s = .next s) ∧
  (∀ outs o, misr [] = 0 ∧ misr (outs ++ [o]) = lfsrNext (misr outs) ^^^ o) ∧
  (∀ masks n outs, (sliceOuts masks n outs).length = sliceCycles n ∧
    (∀ i, i < sliceCycles n → (sliceOuts masks n outs)[i]? = some (outs.getD i 0 &&& ~~~(Config.xMask masks n i)))) ∧
  (∀ outs w g s, s.tc.bt.win = some w → w.isolated = true → w.latched = false → w.start + 1616 ≤ s.tc.up →
    g = misr (sliceOuts s.tc.boot.xmasks w.slice outs) → w.compare = false ∨ g = tabGet 0 s.tc.bt.golden w.slice →
    ∃ t, exec (.bistSignatureLatch outs) s = .next t ∧
      t.tc.bt.win = some { w with
        latched := true, outcome := if w.compare then 1 else 4, prpg := prpgAfter (sliceCycles w.slice) w.prpg } ∧
      tabGet 0 t.tc.bt.sig w.slice = g ∧ (∀ j, j ≠ w.slice → tabGet 0 t.tc.bt.sig j = tabGet 0 s.tc.bt.sig j) ∧
      t.tc.bt.mismatch = s.tc.bt.mismatch ∧ Only [.com .tsu .bt] s t) ∧
  (∀ n w, prpgAfter 0 w = w ∧ prpgAfter (n + 1) w = lfsrNext (prpgAfter n w)) ∧
  (∀ outs w g s, s.tc.bt.win = some w → w.isolated = true → w.latched = false → w.start + 1616 ≤ s.tc.up →
    g = misr (sliceOuts s.tc.boot.xmasks w.slice outs) → w.compare = true → g ≠ tabGet 0 s.tc.bt.golden w.slice →
    ∃ t, exec (.bistSignatureLatch outs) s = .next t ∧
      t.tc.bt.win = some { w with latched := true, outcome := 2, prpg := prpgAfter (sliceCycles w.slice) w.prpg } ∧
      tabGet 0 t.tc.bt.sig w.slice = g ∧
      t.tc.bt.mismatch = true ∧ t.tc.bt.mismatches = sat16 (s.tc.bt.mismatches + 1) ∧ eventSet .tsu 0x0D 1 t ∧
      OwnFailure s t ∧ (s.t.mem.epoch = 0 → t.t.mem = s.t.mem ∧ t.tc.tk = s.tc.tk) ∧ Only [.com .tsu .tk,
        .com .tsu .ports, .com .tsu .pgEvent, .com .tsu .ic, .com .tsu .bt, .steps, .member, .cue, .signals, .huddles,
        .keyPort, .tallies, .bays] s t) ∧
  (∀ outs s, (∀ w, s.tc.bt.win = some w → w.isolated = false ∨ w.latched = true ∨ s.tc.up < w.start + 1616) →
    exec (.bistSignatureLatch outs) s = .next s) ∧
  (∀ w s, s.tc.bt.win = some w → w.slice < 2 → w.latched = true → w.restored = false → w.start + 1800 ≤ s.tc.up →
    ∃ t, exec .bistCoreRestore s = .next t ∧ t.tc.bt = { s.tc.bt with win := some { w with restored := true } } ∧
      (w.outcome = 2 ∨ (s.core .tsu w.slice).off = true → (t.core .tsu w.slice).st = 0) ∧
      (w.outcome ≠ 2 → (s.core .tsu w.slice).off = false → isSource .tsu w.slice s = true → s.tc.tk.htValid = true →
        (t.core .tsu w.slice).st = 1) ∧ Only [.com .tsu .tk, .com .tsu .coreA, .com .tsu .coreB, .com .tsu .ports,
          .com .tsu .msets, .com .tsu .pgEvent, .com .tsu .ic, .com .tsu .bt, .com .tsu .hfits, .member, .huddles] s t) ∧
  (∀ s, (∀ w, s.tc.bt.win = some w → 2 ≤ w.slice ∨ w.latched = false ∨ w.restored = true ∨ s.tc.up < w.start + 1800) →
    exec .bistCoreRestore s = .next s) ∧
  (∀ w s, s.tc.bt.win = some w → w.latched = true → w.restored = true ∨ 2 ≤ w.slice → w.start + 2000 ≤ s.tc.up →
    s.tc.bt.held = [] → s.t.hd.heldUp = [] → s.t.hd.heldDn = [] → s.tc.boot.heldChunks = [] →
    ∃ t, exec .bistRelease s = .next t ∧ t.tc.bt = { s.tc.bt with
      win := none, outcome := w.outcome, reason := 0,
      passes := if w.outcome = 1 then sat16 (s.tc.bt.passes + 1) else s.tc.bt.passes,
      refusals := if w.outcome = 3 then sat16 (s.tc.bt.refusals + 1) else s.tc.bt.refusals } ∧
      eventSet .tsu 0x0D 0 t ∧ (w.slice = 9 → t.t.st.credit = w.credit) ∧ (w.slice ≠ 9 → t.t.st = s.t.st) ∧
      (∀ th pd st, w.by_ = some (th, st) → (getThr s.t.cue th).wait = some (.bist pd) →
        (∀ x, x ≠ th → (getThr s.t.cue x).wait = none) → s.t.cue.held = [] → w.slice ≠ 4 → w.slice ≠ 6 →
          s.t.sg.waitingReqs = [] →
        (getThr t.t.cue th).st = 1 ∧ (getThr t.t.cue th).wait = none ∧
        SetsP pd (if w.outcome = 1 then 0 else if w.outcome = 2 then 1 else 2) s t) ∧
      Only [.com .tsu .tk, .com .tsu .ports, .com .tsu .pgEvent, .com .tsu .ic, .com .tsu .bt, .com .tsu .rsp, .steps,
        .member, .cue, .signals, .huddles, .keyPort, .tallies, .bays, .stock] s t) ∧
  (∀ rq w s, s.tc.bt.win = some w → w.latched = true → w.slice = 11 → w.start + 2000 ≤ s.tc.up → w.by_ = none →
    s.tc.bt.held = [⟨rq, 0xF108, false, 0, false⟩] → s.tc.boot.heldChunks = [] → ∃ t, exec .bistRelease s = .next t ∧
      t.tc.bt.win = none ∧ t.tc.bt.held = [] ∧
      t.response .tsu rq = shown .tsu 0xF108 s.tc.fuse.serial s) ∧
  (∀ s, (∀ w, s.tc.bt.win = some w → w.latched = false ∨ (w.restored = false ∧ w.slice < 2) ∨ s.tc.up < w.start + 2000) →
    exec .bistRelease s = .next s) ∧
  (∀ w s, s.tc.bt.win = some w → w.slice < 2 → isSource .tsu (1 - w.slice) s = false → w.isolated = true →
    w.latched = false → w.by_ = none → s.t.sg.waitingReqs = [] → s.t.cue.held = [] → ∃ t, exec .bistTwinLost s = .next t ∧
      t.tc.bt = { s.tc.bt with
        win := none, outcome := 3, reason := 8, refusals := sat16 (s.tc.bt.refusals + 1) } ∧
      (isSource .tsu w.slice s = false → (t.core .tsu w.slice).st = 0) ∧ eventSet .tsu 0x0D 0 t ∧ Only [.com .tsu .tk,
        .com .tsu .coreA, .com .tsu .coreB, .com .tsu .ports, .com .tsu .msets, .com .tsu .pgEvent, .com .tsu .ic,
        .com .tsu .bt, .com .tsu .rsp, .com .tsu .hfits, .steps, .member, .cue, .signals, .huddles, .keyPort, .tallies,
        .bays, .stock] s t) ∧
  (∀ w s, s.tc.bt.win = some w → w.slice < 2 → isSource .tsu (1 - w.slice) s = false → w.isolated = true →
    w.latched = true → w.restored = false → ∃ t, exec .bistTwinLost s = .next t ∧
      t.tc.bt = { s.tc.bt with win := some { w with restored := true } } ∧
      (w.outcome = 2 → (t.core .tsu w.slice).st = 0) ∧ Only [.com .tsu .tk, .com .tsu .coreA, .com .tsu .coreB,
        .com .tsu .ports, .com .tsu .msets, .com .tsu .pgEvent, .com .tsu .ic, .com .tsu .bt, .com .tsu .hfits, .member,
        .huddles] s t) ∧
  (∀ s, (∀ w, s.tc.bt.win = some w → 2 ≤ w.slice ∨ isSource .tsu (1 - w.slice) s = true ∨ w.isolated = false) →
    exec .bistTwinLost s = .next s)

/-- MEASURE or the periodic second opens a gate unless one runs; at its end the index is the clamped largest d of the
pairs with counts, VALID clears where every pair is left out, and a TSU reports it; a re-plan derates every valid base
point, clamps at 800 MHz, acts on a bay from its next change on, and is refused away from a maintenance stop; a canary
read resets LOW. Cites: R368, R369, R370, R373. -/
def Obligations.AgeingAndReplan : Prop :=
  (∀ d rq v s, WriteTaken d rq 0x0D 0x118 s → ∃ t, exec (.ageingMeasure d rq v) s = .next t ∧
    (bit v 63 = true → (t.com d).bt = { (s.com d).bt with gate := some ((s.com d).bt.gate.getD (s.com d).beats) }) ∧
    (bit v 63 = false → (t.com d).bt = (s.com d).bt) ∧ t.regF d 0xD118 32 16 = fld v 32 16 ∧
    t.regF d 0xD118 0 32 = fld v 0 32 ∧ Only (pick d [.com .tsu .regs, .com .tsu .bt] [.com .dxd .regs,
      .com .dxd .badAccess, .com .dxd .bt, .com .dxd .barCap, .com .dxd .barLow]) s t) ∧
  (∀ d n s, (s.com d).tk.htValid = true → s.regF d 0xD118 0 32 = n → n ≠ 0 → (s.com d).tk.sec % n = 0 →
    (s.com d).bt.lastPeriodic ≠ (s.com d).tk.sec + 1 → ∃ t, exec (.ageingGateStart d) s = .next t ∧
      (t.com d).bt.gate = some ((s.com d).bt.gate.getD (s.com d).beats) ∧ Only [.com d .bt] s t) ∧
  (∀ d s, (s.com d).tk.htValid = false ∨ s.regF d 0xD118 0 32 = 0 ∨ (s.com d).tk.sec % s.regF d 0xD118 0 32 ≠ 0 →
    exec (.ageingGateStart d) s = .next s) ∧
  (∀ d g counts s, (s.com d).bt.gate = some g → g + 1000000 ≤ (s.com d).beats →
    ∃ t, exec (.ageingGateEnd d counts) s = .next t ∧ (t.com d).bt.gate = none ∧
      (t.com d).bt.ageSec = (s.com d).tk.sec % 2 ^ 32 ∧ eventSet d 0x0D 2 t ∧
      (∀ i, i < 8 → i < counts.length → tabGet ⟨0, 0⟩ (t.com d).bt.ro i = counts.getD i ⟨0, 0⟩) ∧
      ((∀ x ∈ counts.take 8, x.ref = 0) → (t.com d).bt.ageValid = false ∧ (t.com d).bt.index = (s.com d).bt.index) ∧
      (∀ m : Nat, m < 65536 → (∃ x ∈ counts.take 8, x.ref ≠ 0 ∧ (((x.ref : Int) - x.str) * 100000).tdiv x.ref = m) →
        (∀ x ∈ counts.take 8, x.ref ≠ 0 → (((x.ref : Int) - x.str) * 100000).tdiv x.ref ≤ m) →
        (t.com d).bt.ageValid = true ∧ (t.com d).bt.index = m) ∧
      ((∃ x ∈ counts.take 8, x.ref ≠ 0) →
        (∀ x ∈ counts.take 8, x.ref ≠ 0 → (((x.ref : Int) - x.str) * 100000).tdiv x.ref ≤ 0) →
        (t.com d).bt.ageValid = true ∧ (t.com d).bt.index = 0) ∧
      (d = .tsu → ∀ p, p < 2 → (s.port .tsu p).st = 5 →
        Queued .tsu p (tsuFrame (.stock ⟨s.t.mem.die, 1, 0, 0, 0, 0, false, false, t.tc.bt.index⟩) s) t) ∧ Only (pick d
          [.com .tsu .ports, .com .tsu .pgEvent, .com .tsu .ic, .com .tsu .bt] [.com .dxd .pgEvent, .com .dxd .ic,
          .com .dxd .bt]) s t) ∧
  (∀ d counts s, (∀ g, (s.com d).bt.gate = some g → (s.com d).beats < g + 1000000) →
    exec (.ageingGateEnd d counts) s = .next s) ∧
  (∀ rq v b p w n s, WriteTaken .tsu rq 0x0D 0x128 s → bit v 63 = true → noEpoch s = true → s.t.steps = [] →
    bayExists s b = true → p < 16 → s.tc.bt.baseValid = true →
    w = BitVec.ofNat 64 (tabGet 0 s.tc.bt.base (16 * b + p)) → bit w 63 = true →
    n = fld w 0 12 * (1000000 - min (s.tc.bt.index * 10 * s.regF .tsu 0xD118 32 16 / 256) 1000000) / 1000000 →
    ∃ t, exec (.btReplanGo .tsu rq v) s = .next t ∧ t.tc.bt = { s.tc.bt with replan := 1 } ∧
      fld (ptWord t b p) 0 12 = (if n < 800 then 800 else n) ∧
      (∀ i, 12 ≤ i → i < 64 → bit (ptWord t b p) i = bit w i) ∧ eventSet .tsu 0x0D 4 t ∧
      (n < 800 → eventSet .tsu 0x0D 5 t) ∧ (t.bay b).mhz = some (bayMhz s b) ∧ bayMhz t b = bayMhz s b ∧ Only
        [.com .tsu .regs, .com .tsu .pgEvent, .com .tsu .ic, .com .tsu .bt, .bays] s t) ∧
  (∀ rq v s, WriteTaken .tsu rq 0x0D 0x128 s → bit v 63 = true → noEpoch s = true → s.t.steps = [] →
    s.tc.fuse.kind ≠ .w → s.tc.bt.baseValid = false → ∃ t, exec (.btReplanGo .tsu rq v) s = .next t ∧
      t.tc.bt.replan = 1 ∧ t.tc.bt.baseValid = true ∧
      (∀ b p, bayExists s b = true → p < 16 → tabGet 0 t.tc.bt.base (16 * b + p) = (ptWord s b p).toNat) ∧
      eventSet .tsu 0x0D 4 t ∧ Only [.com .tsu .regs, .com .tsu .pgEvent, .com .tsu .ic, .com .tsu .bt, .bays] s t) ∧
  (∀ rq v s, WriteTaken .tsu rq 0x0D 0x128 s → bit v 63 = true → noEpoch s = false ∨ s.t.steps ≠ [] →
    ∃ t, exec (.btReplanGo .tsu rq v) s = .next t ∧ t.tc.bt = { s.tc.bt with replan := 2 } ∧ t.tc.regs = s.tc.regs ∧
      eventSet .tsu 0x0D 4 t ∧ Only [.com .tsu .regs, .com .tsu .pgEvent, .com .tsu .ic, .com .tsu .bt, .bays] s t) ∧
  (∀ rq v s, WriteTaken .tsu rq 0x0D 0x128 s → bit v 63 = false → exec (.btReplanGo .tsu rq v) s = .next s) ∧
  (∀ rq v s, WriteTaken .dxd rq 0x0D 0x128 s → ∃ t, exec (.btReplanGo .dxd rq v) s = .next t ∧ Only [.com .dxd .badAccess,
    .com .dxd .barCap, .com .dxd .barLow] s t) ∧
  (∀ rq b s, ReadTaken .tsu rq 0x0D s → bayExists s b = true → ∃ t, exec (.btCanaryRead .tsu rq b) s = .next t ∧
    t.response .tsu rq = shown .tsu (0xD280 + 8 * b)
      (wd [(16, tabGet 255 s.tc.bt.low b), (0, tabGet 0 s.tc.bt.margin b)]) s ∧
    tabGet 255 t.tc.bt.low b = 255 ∧ (∀ j, j ≠ b → tabGet 255 t.tc.bt.low j = tabGet 255 s.tc.bt.low j) ∧
    t.tc.bt.margin = s.tc.bt.margin ∧ Only [.com .tsu .bt, .com .tsu .rsp] s t) ∧
  (∀ rq b s, ReadTaken .dxd rq 0x0D s → b < 16 → ∃ t, exec (.btCanaryRead .dxd rq b) s = .next t ∧
    t.response .dxd rq = shown .dxd (0xD280 + 8 * b) 0 s ∧ Only [.com .dxd .badAccess, .com .dxd .bt, .com .dxd .barCap,
      .com .dxd .barLow, .com .dxd .rsp] s t)

/-- ARM with 0xC1 arms the close; GO with 0x5E within 1,000 beats starts the blow where the programming supply stands; any
other write while armed aborts with CLOSE_ABORTED; a GO without the supply raises CLOSE_ABORTED always; the blow ends
with FIELD_CLOSED, CLOSE_DONE and the override dropped, once slice 11 is no more under test, and is the only change of a
fuse; on a closed device every instruction but IDCODE and BYPASS decodes as BYPASS; on an open one the override writes
read-only fields too. Cites: R371, R372, R375, R424. -/
def Obligations.FieldFuseAndTestPort : Prop :=
  (∀ d rq v s, WriteTaken d rq 0x0F 0x110 s → (s.com d).fuse.fieldClosed = false → (s.com d).ta.blowing = none →
    (s.com d).ta.armed = none → bit v 0 = true → bit v 1 = false → fld v 8 8 = 0xC1 →
    ∃ t, exec (.fuAccessArm d rq v) s = .next t ∧ (t.com d).ta = { (s.com d).ta with armed := some (s.com d).up } ∧
      Only (pick d [.com .tsu .ta] [.com .dxd .badAccess, .com .dxd .ta, .com .dxd .barCap, .com .dxd .barLow]) s t) ∧
  (∀ d rq v s, WriteTaken d rq 0x0F 0x110 s → (s.com d).fuse.fieldClosed = false → (s.com d).ta.blowing = none →
    (s.com d).ta.armed.isSome = true ∨ bit v 1 = true ∨ fld v 8 8 ≠ 0xC1 →
    (s.com d).ta.armed.isSome = true ∨ bit v 0 = true ∨ bit v 1 = true →
    (s.com d).ta.vpp = false ∨ bit v 1 = false ∨ bit v 0 = true ∨ fld v 8 8 ≠ 0x5E → ∃ t, exec (.fuAccessArm d rq v) s =
      .next t ∧ (t.com d).ta = { (s.com d).ta with armed := none } ∧ eventSet d 0x0F 0 t ∧
      Only (pick d [.com .tsu .pgEvent, .com .tsu .ic, .com .tsu .ta] [.com .dxd .pgEvent, .com .dxd .badAccess,
        .com .dxd .ic, .com .dxd .ta, .com .dxd .barCap, .com .dxd .barLow]) s t) ∧
  (∀ d rq v a s, WriteTaken d rq 0x0F 0x110 s → (s.com d).fuse.fieldClosed = false → (s.com d).ta.blowing = none →
    (s.com d).ta.armed = some a → bit v 1 = true → bit v 0 = false → fld v 8 8 = 0x5E → (s.com d).up ≤ a + 1000 →
    ∃ t, exec (.fuAccessGo d rq v true) s = .next t ∧
      (t.com d).ta = { (s.com d).ta with armed := none, blowing := some (s.com d).up, vpp := true } ∧
      Only (pick d [.com .tsu .ta] [.com .dxd .badAccess, .com .dxd .ta, .com .dxd .barCap, .com .dxd .barLow]) s t) ∧
  (∀ d rq v a s, WriteTaken d rq 0x0F 0x110 s → (s.com d).fuse.fieldClosed = false → (s.com d).ta.blowing = none →
    (s.com d).ta.armed = some a → bit v 1 = true → bit v 0 = false → fld v 8 8 = 0x5E → (s.com d).up ≤ a + 1000 →
    (s.com d).ta.vpp = true → (s.com d).ta.overrideOn = false → ∃ t, exec (.registerWrite d rq 0xF110 v) s = .next t ∧
      (t.com d).ta = { (s.com d).ta with armed := none, blowing := some (s.com d).up } ∧ Only (pick d [.com .tsu .ta]
        [.com .dxd .badAccess, .com .dxd .ta, .com .dxd .barCap, .com .dxd .barLow]) s t) ∧
  (∀ d rq v a vpp s, WriteTaken d rq 0x0F 0x110 s → (s.com d).fuse.fieldClosed = false → (s.com d).ta.blowing = none →
    (s.com d).ta.armed = some a →
    bit v 1 = false ∨ bit v 0 = true ∨ fld v 8 8 ≠ 0x5E ∨ a + 1000 < (s.com d).up ∨ vpp = false →
    ∃ t, exec (.fuAccessGo d rq v vpp) s = .next t ∧ (t.com d).ta = { (s.com d).ta with armed := none, vpp := vpp } ∧
      eventSet d 0x0F 0 t ∧ Only (pick d [.com .tsu .pgEvent, .com .tsu .ic, .com .tsu .ta] [.com .dxd .pgEvent,
        .com .dxd .badAccess, .com .dxd .ic, .com .dxd .ta, .com .dxd .barCap, .com .dxd .barLow]) s t) ∧
  (∀ d rq v vpp s, WriteTaken d rq 0x0F 0x110 s → (s.com d).fuse.fieldClosed = true ∨ (s.com d).ta.blowing.isSome = true →
    ∃ t, exec (.fuAccessGo d rq v vpp) s = .next t ∧ (t.com d).fuse = (s.com d).fuse ∧
      (t.com d).ta.blowing = (s.com d).ta.blowing ∧ (t.com d).ta.vpp = vpp ∧
      (bit v 1 = true → vpp = false → eventSet d 0x0F 0 t) ∧
      (bit v 1 = false ∨ vpp = true → (t.com d).ta = { (s.com d).ta with vpp := vpp } ∧ (t.com d).pgEvent = (s.com
        d).pgEvent) ∧
      Only (pick d [.com .tsu .pgEvent, .com .tsu .ic, .com .tsu .ta] [.com .dxd .pgEvent, .com .dxd .badAccess,
        .com .dxd .ic, .com .dxd .ta, .com .dxd .barCap, .com .dxd .barLow]) s t) ∧
  (∀ d rq v s, WriteTaken d rq 0x0F 0x110 s → (s.com d).fuse.fieldClosed = true ∨ (s.com d).ta.blowing.isSome = true →
    bit v 1 = false ∨ (s.com d).ta.vpp = true → ∃ t, exec (.fuAccessArm d rq v) s = .next t ∧ Only (pick d []
      [.com .dxd .badAccess, .com .dxd .barCap, .com .dxd .barLow]) s t) ∧
  (∀ s, sliceIsolated s 11 = true → exec (.fieldFuseBlown .tsu) s = .next s) ∧
  (∀ d s, (s.com d).ta.blowing.isSome = true → d = .dxd ∨ sliceIsolated s 11 = false → ∃ t, exec (.fieldFuseBlown d) s =
    .next t ∧
    (t.com d).fuse = { (s.com d).fuse with fieldClosed := true } ∧ (t.com d).ta.blowing = none ∧
    (t.com d).ta.overrideOn = false ∧ (t.com d).ta.ovr = [] ∧ (t.com d).ta.ins < 2 ∧ eventSet d 0x0F 1 t ∧
    Only [.com d .fuse, .com d .pgEvent, .com d .ic, .com d .ta] s t) ∧
  (∀ d s, (s.com d).ta.blowing = none → exec (.fieldFuseBlown d) s = .next s) ∧
  (∀ d s, (∀ i n, (i, n) ∈ [(JtagIns.idcode, 1), (.bypass, 0)] → ∃ t, exec (.jtagInstruction d i) s = .next t ∧
    (t.com d).ta = { (s.com d).ta with ins := n } ∧ Only (pick d [.com .tsu .boot, .com .tsu .up, .com .tsu .beats,
      .com .tsu .tk, .com .tsu .coreA, .com .tsu .coreB, .com .tsu .ports, .com .tsu .chans, .com .tsu .msets,
      .com .tsu .regs, .com .tsu .pgEvent, .com .tsu .pgEn, .com .tsu .badAccess, .com .tsu .lockRefused,
      .com .tsu .lockKey, .com .tsu .ic, .com .tsu .bt, .com .tsu .ta, .com .tsu .barCap, .com .tsu .barLow,
      .com .tsu .rsp, .com .tsu .oseq, .com .tsu .seen, .com .tsu .censusTree, .com .tsu .hfits, .steps, .member, .cue,
      .signals, .huddles, .keyPort, .tallies, .bays, .stock, .kickPins, .com .dxd .tk, .com .dxd .coreA, .com .dxd .coreB,
      .com .dxd .ports, .com .dxd .msets, .com .dxd .regs, .com .dxd .pgEvent, .com .dxd .ic, .com .dxd .seen,
      .com .dxd .hfits, .refs, .hold, .outs, .ptp, .kicks, .census, .scores, .ledger, .referee, .attic] [.com .tsu .tk,
      .com .tsu .ports, .com .tsu .regs, .com .tsu .pgEvent, .com .tsu .ic, .com .tsu .bt, .steps, .member, .cue,
      .signals, .huddles, .keyPort, .tallies, .bays, .stock, .com .dxd .boot, .com .dxd .up, .com .dxd .beats,
      .com .dxd .tk, .com .dxd .coreA, .com .dxd .coreB, .com .dxd .ports, .com .dxd .chans, .com .dxd .msets,
      .com .dxd .regs, .com .dxd .pgEvent, .com .dxd .pgEn, .com .dxd .badAccess, .com .dxd .lockRefused,
      .com .dxd .lockKey, .com .dxd .ic, .com .dxd .bt, .com .dxd .ta, .com .dxd .barCap, .com .dxd .barLow,
      .com .dxd .rsp, .com .dxd .oseq, .com .dxd .seen, .com .dxd .censusTree, .com .dxd .hfits, .straps, .refs, .hold,
      .outs, .ptp, .kicks, .strobe, .census, .scores, .ledger, .referee, .attic, .ownOff, .twinOff, .subsystem]) s t)) ∧
  (∀ d i s, (s.com d).fuse.fieldClosed = true → i ≠ .idcode → ∃ t, exec (.jtagInstruction d i) s = .next t ∧
    (t.com d).ta = { (s.com d).ta with ins := 0 } ∧ Only (pick d [.com .tsu .boot, .com .tsu .up, .com .tsu .beats,
      .com .tsu .tk, .com .tsu .coreA, .com .tsu .coreB, .com .tsu .ports, .com .tsu .chans, .com .tsu .msets,
      .com .tsu .regs, .com .tsu .pgEvent, .com .tsu .pgEn, .com .tsu .badAccess, .com .tsu .lockRefused,
      .com .tsu .lockKey, .com .tsu .ic, .com .tsu .bt, .com .tsu .ta, .com .tsu .barCap, .com .tsu .barLow,
      .com .tsu .rsp, .com .tsu .oseq, .com .tsu .seen, .com .tsu .censusTree, .com .tsu .hfits, .steps, .member, .cue,
      .signals, .huddles, .keyPort, .tallies, .bays, .stock, .kickPins, .com .dxd .tk, .com .dxd .coreA, .com .dxd .coreB,
      .com .dxd .ports, .com .dxd .msets, .com .dxd .regs, .com .dxd .pgEvent, .com .dxd .ic, .com .dxd .seen,
      .com .dxd .hfits, .refs, .hold, .outs, .ptp, .kicks, .census, .scores, .ledger, .referee, .attic] [.com .tsu .tk,
      .com .tsu .ports, .com .tsu .regs, .com .tsu .pgEvent, .com .tsu .ic, .com .tsu .bt, .steps, .member, .cue,
      .signals, .huddles, .keyPort, .tallies, .bays, .stock, .com .dxd .boot, .com .dxd .up, .com .dxd .beats,
      .com .dxd .tk, .com .dxd .coreA, .com .dxd .coreB, .com .dxd .ports, .com .dxd .chans, .com .dxd .msets,
      .com .dxd .regs, .com .dxd .pgEvent, .com .dxd .pgEn, .com .dxd .badAccess, .com .dxd .lockRefused,
      .com .dxd .lockKey, .com .dxd .ic, .com .dxd .bt, .com .dxd .ta, .com .dxd .barCap, .com .dxd .barLow,
      .com .dxd .rsp, .com .dxd .oseq, .com .dxd .seen, .com .dxd .censusTree, .com .dxd .hfits, .straps, .refs, .hold,
      .outs, .ptp, .kicks, .strobe, .census, .scores, .ledger, .referee, .attic, .ownOff, .twinOff, .subsystem]) s t) ∧
  (∀ d s, (s.com d).fuse.fieldClosed = false → (∀ i x, (i, x) ∈ [(JtagIns.otherPublic, { (s.com d).ta with ins := 2 }),
      (.scanDump, { (s.com d).ta with ins := 3, scan := some (Config.scanWord (d == .tsu) (s.com d).up) }), (.overrideOn,
        { (s.com d).ta with ins := 4, overrideOn := true }),
      (.overrideOff, { (s.com d).ta with ins := 4, overrideOn := false, ovr := [] })] →
    ∃ t, exec (.jtagInstruction d i) s = .next t ∧ (t.com d).ta = x ∧ Only (pick d [.com .tsu .boot, .com .tsu .up,
      .com .tsu .beats, .com .tsu .tk, .com .tsu .coreA, .com .tsu .coreB, .com .tsu .ports, .com .tsu .chans,
      .com .tsu .msets, .com .tsu .regs, .com .tsu .pgEvent, .com .tsu .pgEn, .com .tsu .badAccess,
      .com .tsu .lockRefused, .com .tsu .lockKey, .com .tsu .ic, .com .tsu .bt, .com .tsu .ta, .com .tsu .barCap,
      .com .tsu .barLow, .com .tsu .rsp, .com .tsu .oseq, .com .tsu .seen, .com .tsu .censusTree, .com .tsu .hfits,
      .steps, .member, .cue, .signals, .huddles, .keyPort, .tallies, .bays, .stock, .kickPins, .com .dxd .tk,
      .com .dxd .coreA, .com .dxd .coreB, .com .dxd .ports, .com .dxd .msets, .com .dxd .regs, .com .dxd .pgEvent,
      .com .dxd .ic, .com .dxd .seen, .com .dxd .hfits, .refs, .hold, .outs, .ptp, .kicks, .census, .scores, .ledger,
      .referee, .attic] [.com .tsu .tk, .com .tsu .ports, .com .tsu .regs, .com .tsu .pgEvent, .com .tsu .ic,
      .com .tsu .bt, .steps, .member, .cue, .signals, .huddles, .keyPort, .tallies, .bays, .stock, .com .dxd .boot,
      .com .dxd .up, .com .dxd .beats, .com .dxd .tk, .com .dxd .coreA, .com .dxd .coreB, .com .dxd .ports,
      .com .dxd .chans, .com .dxd .msets, .com .dxd .regs, .com .dxd .pgEvent, .com .dxd .pgEn, .com .dxd .badAccess,
      .com .dxd .lockRefused, .com .dxd .lockKey, .com .dxd .ic, .com .dxd .bt, .com .dxd .ta, .com .dxd .barCap,
      .com .dxd .barLow, .com .dxd .rsp, .com .dxd .oseq, .com .dxd .seen, .com .dxd .censusTree, .com .dxd .hfits,
      .straps, .refs, .hold, .outs, .ptp, .kicks, .strobe, .census, .scores, .ledger, .referee, .attic, .ownOff, .twinOff,
      .subsystem]) s t)) ∧
  (∀ d a v m w s, (s.com d).fuse.fieldClosed = false → (s.com d).ta.overrideOn = true → inCellar d s = false →
    pageTakes d s (a / 4096) (a % 4096) = true → tabGet 0 (s.com d).lockKey (a / 4096) = 0 → a ≠ 0xE100 →
    m = (regAt d 0 (a / 4096) (a % 4096) s).mask →
    ∃ t, exec (.jtagInstruction d (.overrideWrite a v)) s = .next t ∧ shown d a w t = (w &&& m) ||| (v &&& ~~~m) ∧
      (∀ b x, b ≠ a → shown d b x t = shown d b x s) ∧ (t.com d).ta.overrideOn = true ∧
      (a = 0x0118 → (t.com d).tk.state = fld v 0 3 ∧ (t.com d).tk.htValid = bit v 20) ∧ Only (pick d [.com .tsu .boot,
        .com .tsu .up, .com .tsu .beats, .com .tsu .tk, .com .tsu .coreA, .com .tsu .coreB, .com .tsu .ports,
        .com .tsu .chans, .com .tsu .msets, .com .tsu .regs, .com .tsu .pgEvent, .com .tsu .pgEn, .com .tsu .badAccess,
        .com .tsu .lockRefused, .com .tsu .lockKey, .com .tsu .ic, .com .tsu .bt, .com .tsu .ta, .com .tsu .barCap,
        .com .tsu .barLow, .com .tsu .rsp, .com .tsu .oseq, .com .tsu .seen, .com .tsu .censusTree, .com .tsu .hfits,
        .steps, .member, .cue, .signals, .huddles, .keyPort, .tallies, .bays, .stock, .kickPins, .com .dxd .tk,
        .com .dxd .coreA, .com .dxd .coreB, .com .dxd .ports, .com .dxd .msets, .com .dxd .regs, .com .dxd .pgEvent,
        .com .dxd .ic, .com .dxd .seen, .com .dxd .hfits, .refs, .hold, .outs, .ptp, .kicks, .census, .scores, .ledger,
        .referee, .attic] [.com .tsu .tk, .com .tsu .ports, .com .tsu .regs, .com .tsu .pgEvent, .com .tsu .ic,
        .com .tsu .bt, .steps, .member, .cue, .signals, .huddles, .keyPort, .tallies, .bays, .stock, .com .dxd .boot,
        .com .dxd .up, .com .dxd .beats, .com .dxd .tk, .com .dxd .coreA, .com .dxd .coreB, .com .dxd .ports,
        .com .dxd .chans, .com .dxd .msets, .com .dxd .regs, .com .dxd .pgEvent, .com .dxd .pgEn, .com .dxd .badAccess,
        .com .dxd .lockRefused, .com .dxd .lockKey, .com .dxd .ic, .com .dxd .bt, .com .dxd .ta, .com .dxd .barCap,
        .com .dxd .barLow, .com .dxd .rsp, .com .dxd .oseq, .com .dxd .seen, .com .dxd .censusTree, .com .dxd .hfits,
        .straps, .refs, .hold, .outs, .ptp, .kicks, .strobe, .census, .scores, .ledger, .referee, .attic, .ownOff,
        .twinOff, .subsystem]) s t) ∧
  (∀ d a v s, (s.com d).fuse.fieldClosed = false → (s.com d).ta.overrideOn = false →
    ∃ t, exec (.jtagInstruction d (.overrideWrite a v)) s = .next t ∧ (t.com d).ta = { (s.com d).ta with ins := 4 } ∧
      Only (pick d [.com .tsu .boot, .com .tsu .up, .com .tsu .beats, .com .tsu .tk, .com .tsu .coreA, .com .tsu .coreB,
        .com .tsu .ports, .com .tsu .chans, .com .tsu .msets, .com .tsu .regs, .com .tsu .pgEvent, .com .tsu .pgEn,
        .com .tsu .badAccess, .com .tsu .lockRefused, .com .tsu .lockKey, .com .tsu .ic, .com .tsu .bt, .com .tsu .ta,
        .com .tsu .barCap, .com .tsu .barLow, .com .tsu .rsp, .com .tsu .oseq, .com .tsu .seen, .com .tsu .censusTree,
        .com .tsu .hfits, .steps, .member, .cue, .signals, .huddles, .keyPort, .tallies, .bays, .stock, .kickPins,
        .com .dxd .tk, .com .dxd .coreA, .com .dxd .coreB, .com .dxd .ports, .com .dxd .msets, .com .dxd .regs,
        .com .dxd .pgEvent, .com .dxd .ic, .com .dxd .seen, .com .dxd .hfits, .refs, .hold, .outs, .ptp, .kicks, .census,
        .scores, .ledger, .referee, .attic] [.com .tsu .tk, .com .tsu .ports, .com .tsu .regs, .com .tsu .pgEvent,
        .com .tsu .ic, .com .tsu .bt, .steps, .member, .cue, .signals, .huddles, .keyPort, .tallies, .bays, .stock,
        .com .dxd .boot, .com .dxd .up, .com .dxd .beats, .com .dxd .tk, .com .dxd .coreA, .com .dxd .coreB,
        .com .dxd .ports, .com .dxd .chans, .com .dxd .msets, .com .dxd .regs, .com .dxd .pgEvent, .com .dxd .pgEn,
        .com .dxd .badAccess, .com .dxd .lockRefused, .com .dxd .lockKey, .com .dxd .ic, .com .dxd .bt, .com .dxd .ta,
        .com .dxd .barCap, .com .dxd .barLow, .com .dxd .rsp, .com .dxd .oseq, .com .dxd .seen, .com .dxd .censusTree,
        .com .dxd .hfits, .straps, .refs, .hold, .outs, .ptp, .kicks, .strobe, .census, .scores, .ledger, .referee,
        .attic, .ownOff, .twinOff, .subsystem]) s t)

/-- A power-on reset clears a device but for its fuses and the attic's contents and samples the straps; a warm reset keeps
the sticky start bits and the interrupt configuration; CELLAR ignores a warm reset and keeps the job's seed and fields,
and RESTART and FORCE_CELLAR take effect from anywhere. Cites: R16, R17, R377, R387, R389, R407. -/
def Obligations.ResetAndCellar : Prop :=
  (∀ pins s, ∃ t, exec (.powerOnReset .tsu pins) s = .next t ∧
    t.tc.fuse = s.tc.fuse ∧ t.tc.boot.stage = 0 ∧ t.tc.boot.fails = 0 ∧ t.tc.boot.warm = false ∧ t.tc.up = 0 ∧
    t.tc.regs = [] ∧ t.tc.pgEvent = [] ∧ t.tc.pgEn = [] ∧ t.tc.lockKey = [] ∧ t.tc.tk.htValid = false ∧
      t.tc.tk.sideConflict = false ∧
    t.tc.ic.fitted = pins.fitted ∧ t.tc.boot.localAddr = pins.bootLocal ∧
    t.t = { st := { credit := 1000 * stRise t } } ∧ t.tc.ta = { vpp := s.tc.ta.vpp } ∧ Only [.com .tsu .boot,
      .com .tsu .up, .com .tsu .beats, .com .tsu .tk, .com .tsu .coreA, .com .tsu .coreB, .com .tsu .ports,
      .com .tsu .chans, .com .tsu .msets, .com .tsu .regs, .com .tsu .pgEvent, .com .tsu .pgEn, .com .tsu .badAccess,
      .com .tsu .lockRefused, .com .tsu .lockKey, .com .tsu .ic, .com .tsu .bt, .com .tsu .ta, .com .tsu .barCap,
      .com .tsu .barLow, .com .tsu .rsp, .com .tsu .oseq, .com .tsu .seen, .com .tsu .censusTree, .com .tsu .hfits,
      .steps, .member, .cue, .signals, .huddles, .keyPort, .tallies, .bays, .stock, .kickPins] s t) ∧
  (∀ pins s, pins.role % 4 ≠ 3 → ∃ t, exec (.powerOnReset .dxd pins) s = .next t ∧
    t.dc.fuse = s.dc.fuse ∧ t.dc.boot.stage = 0 ∧ t.dc.boot.fails = 0 ∧ t.dc.boot.source = 2 ∧ t.dc.up = 0 ∧ t.dc.regs =
      [] ∧ t.dc.pgEvent = [] ∧
    t.dc.lockKey = [] ∧ t.dc.tk.sideConflict = false ∧ t.x.straps.role = pins.role % 4 ∧ t.x.straps.side = pins.side % 2 ∧
    t.x.straps.level = pins.level % 2 ∧ t.x.hold.history = 0 ∧ t.x.at_.bytes = s.x.at_.bytes ∧
    t.x.at_.slots = s.x.at_.slots ∧ t.x.at_.links = s.x.at_.links ∧ t.x.at_.dir = s.x.at_.dir ∧ t.x.kicks = [] ∧
    Only [.com .dxd .boot, .com .dxd .up, .com .dxd .beats, .com .dxd .tk, .com .dxd .coreA, .com .dxd .coreB,
      .com .dxd .ports, .com .dxd .chans, .com .dxd .msets, .com .dxd .regs, .com .dxd .pgEvent, .com .dxd .pgEn,
      .com .dxd .badAccess, .com .dxd .lockRefused, .com .dxd .lockKey, .com .dxd .ic, .com .dxd .bt, .com .dxd .ta,
      .com .dxd .barCap, .com .dxd .barLow, .com .dxd .rsp, .com .dxd .oseq, .com .dxd .seen, .com .dxd .censusTree,
      .com .dxd .hfits, .straps, .refs, .hold, .outs, .ptp, .kicks, .strobe, .census, .scores, .ledger, .referee, .attic,
      .ownOff, .twinOff, .subsystem] s t) ∧
  (∀ pins s, pins.role % 4 = 3 → ∃ t, exec (.powerOnReset .dxd pins) s = .next t ∧
    t.dc.boot.stage = 7 ∧ t.dc.boot.cellarReason = 0xB ∧ eventSet .dxd 0x0E 0 t ∧ Only [.com .dxd .boot, .com .dxd .up,
      .com .dxd .beats, .com .dxd .tk, .com .dxd .coreA, .com .dxd .coreB, .com .dxd .ports, .com .dxd .chans,
      .com .dxd .msets, .com .dxd .regs, .com .dxd .pgEvent, .com .dxd .pgEn, .com .dxd .badAccess,
      .com .dxd .lockRefused, .com .dxd .lockKey, .com .dxd .ic, .com .dxd .bt, .com .dxd .ta, .com .dxd .barCap,
      .com .dxd .barLow, .com .dxd .rsp, .com .dxd .oseq, .com .dxd .seen, .com .dxd .censusTree, .com .dxd .hfits,
      .straps, .refs, .hold, .outs, .ptp, .kicks, .strobe, .census, .scores, .ledger, .referee, .attic, .ownOff, .twinOff,
      .subsystem] s t) ∧
  (∀ d s, inCellar d s = false → ∃ t, exec (.warmReset d) s = .next t ∧
    (t.com d).boot.stage = 0 ∧ (t.com d).boot.warm = true ∧ (t.com d).boot.fails = (s.com d).boot.fails ∧
    (t.com d).boot.reason = (s.com d).boot.reason ∧ (t.com d).boot.cellarReason = (s.com d).boot.cellarReason ∧
    (t.com d).boot.startTimeout = (s.com d).boot.startTimeout ∧ (t.com d).fuse = (s.com d).fuse ∧ (t.com d).regs = [] ∧
    (t.com d).pgEvent = [] ∧ (t.com d).pgEn = [] ∧ (t.com d).lockKey = [] ∧ (t.com d).ic.deliver = (s.com d).ic.deliver ∧
    (t.com d).ic.tEnable = (s.com d).ic.tEnable ∧ (t.com d).ic.stray = 0 ∧ (t.com d).ic.local_ = 0 ∧
    (t.com d).tk.sideConflict = (s.com d).tk.sideConflict ∧ (d = .tsu → t.t = { st := { credit := 1000 * stRise t } }) ∧
      (d = .dxd → t.x.straps = s.x.straps ∧ t.x.hold.history = s.x.hold.history ∧
      t.x.at_.bytes = s.x.at_.bytes ∧ t.x.at_.slots = s.x.at_.slots ∧ t.x.kicks = []) ∧ Only (pick d [.com .tsu .boot,
        .com .tsu .up, .com .tsu .beats, .com .tsu .tk, .com .tsu .coreA, .com .tsu .coreB, .com .tsu .ports,
        .com .tsu .chans, .com .tsu .msets, .com .tsu .regs, .com .tsu .pgEvent, .com .tsu .pgEn, .com .tsu .badAccess,
        .com .tsu .lockRefused, .com .tsu .lockKey, .com .tsu .ic, .com .tsu .bt, .com .tsu .ta, .com .tsu .barCap,
        .com .tsu .barLow, .com .tsu .rsp, .com .tsu .oseq, .com .tsu .seen, .com .tsu .censusTree, .com .tsu .hfits,
        .steps, .member, .cue, .signals, .huddles, .keyPort, .tallies, .bays, .stock, .kickPins] [.com .dxd .boot,
        .com .dxd .up, .com .dxd .beats, .com .dxd .tk, .com .dxd .coreA, .com .dxd .coreB, .com .dxd .ports,
        .com .dxd .chans, .com .dxd .msets, .com .dxd .regs, .com .dxd .pgEvent, .com .dxd .pgEn, .com .dxd .badAccess,
        .com .dxd .lockRefused, .com .dxd .lockKey, .com .dxd .ic, .com .dxd .bt, .com .dxd .ta, .com .dxd .barCap,
        .com .dxd .barLow, .com .dxd .rsp, .com .dxd .oseq, .com .dxd .seen, .com .dxd .censusTree, .com .dxd .hfits,
        .straps, .refs, .hold, .outs, .ptp, .kicks, .strobe, .census, .scores, .ledger, .referee, .attic, .ownOff,
        .twinOff, .subsystem]) s t) ∧
  (∀ d s, inCellar d s = true → exec (.warmReset d) s = .next s) ∧
  (∀ d rq v s, WriteTaken d rq 0x0E 0x100 s → bit v 63 = true → bit v 62 = false → (d = .dxd → s.x.straps.role ≠ 3) →
    ∃ t, exec (.boRestart d rq v) s = .next t ∧ (t.com d).boot.stage = 0 ∧ (t.com d).boot.fails = 0 ∧
      (t.com d).boot.warm = true ∧ (t.com d).fuse = (s.com d).fuse ∧ (t.com d).regs = [] ∧
      (d = .tsu → t.t = { st := { credit := 1000 * stRise t } }) ∧ Only (pick d [.com .tsu .boot, .com .tsu .up,
        .com .tsu .beats, .com .tsu .tk, .com .tsu .coreA, .com .tsu .coreB, .com .tsu .ports, .com .tsu .chans,
        .com .tsu .msets, .com .tsu .regs, .com .tsu .pgEvent, .com .tsu .pgEn, .com .tsu .badAccess,
        .com .tsu .lockRefused, .com .tsu .lockKey, .com .tsu .ic, .com .tsu .bt, .com .tsu .ta, .com .tsu .barCap,
        .com .tsu .barLow, .com .tsu .rsp, .com .tsu .oseq, .com .tsu .seen, .com .tsu .censusTree, .com .tsu .hfits,
        .steps, .member, .cue, .signals, .huddles, .keyPort, .tallies, .bays, .stock, .kickPins] [.com .dxd .boot,
        .com .dxd .up, .com .dxd .beats, .com .dxd .tk, .com .dxd .coreA, .com .dxd .coreB, .com .dxd .ports,
        .com .dxd .chans, .com .dxd .msets, .com .dxd .regs, .com .dxd .pgEvent, .com .dxd .pgEn, .com .dxd .badAccess,
        .com .dxd .lockRefused, .com .dxd .lockKey, .com .dxd .ic, .com .dxd .bt, .com .dxd .ta, .com .dxd .barCap,
        .com .dxd .barLow, .com .dxd .rsp, .com .dxd .oseq, .com .dxd .seen, .com .dxd .censusTree, .com .dxd .hfits,
        .straps, .refs, .hold, .outs, .ptp, .kicks, .strobe, .census, .scores, .ledger, .referee, .attic, .ownOff,
        .twinOff, .subsystem]) s t) ∧
  (∀ d rq v s, WriteTaken d rq 0x0E 0x100 s → bit v 62 = true →
    ∃ t, exec (.boForceCellar d rq v) s = .next t ∧ (t.com d).boot.stage = 7 ∧ (t.com d).boot.cellarReason = 0xC ∧
      (t.com d).fuse = (s.com d).fuse ∧ (t.com d).tk.state = 5 ∧ eventSet d 0x0E 0 t ∧
      (d = .tsu → (∃ r, r ∈ s.t.steps ∧ r.armed = true) → bit t.tc.ic.local_ 4 = true) ∧
      (d = .tsu → t.t.steps = [] ∧ t.t.kp.seed = s.t.kp.seed ∧ t.t.kp.jobValid = s.t.kp.jobValid ∧
        t.t.kp.fp = s.t.kp.fp ∧ t.t.kp.digest = s.t.kp.digest) ∧ Only (pick d [.com .tsu .boot, .com .tsu .tk,
          .com .tsu .coreA, .com .tsu .coreB, .com .tsu .ports, .com .tsu .chans, .com .tsu .msets, .com .tsu .regs,
          .com .tsu .pgEvent, .com .tsu .pgEn, .com .tsu .lockKey, .com .tsu .ic, .com .tsu .bt, .com .tsu .oseq,
          .com .tsu .seen, .com .tsu .censusTree, .com .tsu .hfits, .steps, .member, .cue, .signals, .huddles, .keyPort,
          .tallies, .bays, .stock, .kickPins] [.com .dxd .boot, .com .dxd .tk, .com .dxd .coreA, .com .dxd .coreB,
          .com .dxd .ports, .com .dxd .chans, .com .dxd .msets, .com .dxd .regs, .com .dxd .pgEvent, .com .dxd .pgEn,
          .com .dxd .badAccess, .com .dxd .lockKey, .com .dxd .ic, .com .dxd .bt, .com .dxd .barCap, .com .dxd .barLow,
          .com .dxd .oseq, .com .dxd .seen, .com .dxd .censusTree, .com .dxd .hfits, .refs, .hold, .outs, .ptp, .kicks,
          .strobe, .census, .scores, .referee, .attic, .ownOff, .twinOff, .subsystem]) s t)

/-- Each boot event moves a device in the stage that awaits it on to the next stage or fails the start; READY clears FAILS
and counts the start; a failed start counts in FAILS and starts again. Cites: R378, R386, R390, R394. -/
def Obligations.StartStages : Prop :=
  (∀ d s, (s.com d).boot.stage = 0 → ∃ t, exec (.fuseReadDone d true) s = .next t ∧ (t.com d).boot.stage = 1 ∧
    (t.com d).boot.fails = (s.com d).boot.fails ∧ Only [.com d .boot] s t) ∧
  (∀ d s, (s.com d).boot.stage = 0 → (s.com d).boot.fails < 2 → ∃ t, exec (.fuseReadDone d false) s = .next t ∧
    (t.com d).boot.stage = 0 ∧ (t.com d).boot.fails = (s.com d).boot.fails + 1 ∧ (t.com d).boot.reason = 1 ∧
    (t.com d).boot.warm = true ∧ Only (pick d [.com .tsu .boot, .com .tsu .up, .com .tsu .beats, .com .tsu .tk,
      .com .tsu .coreA, .com .tsu .coreB, .com .tsu .ports, .com .tsu .chans, .com .tsu .msets, .com .tsu .regs,
      .com .tsu .pgEvent, .com .tsu .pgEn, .com .tsu .badAccess, .com .tsu .lockRefused, .com .tsu .lockKey,
      .com .tsu .ic, .com .tsu .bt, .com .tsu .ta, .com .tsu .barCap, .com .tsu .barLow, .com .tsu .rsp, .com .tsu .oseq,
      .com .tsu .seen, .com .tsu .censusTree, .com .tsu .hfits, .steps, .member, .cue, .signals, .huddles, .keyPort,
      .tallies, .bays, .stock, .kickPins] [.com .dxd .boot, .com .dxd .up, .com .dxd .beats, .com .dxd .tk,
      .com .dxd .coreA, .com .dxd .coreB, .com .dxd .ports, .com .dxd .chans, .com .dxd .msets, .com .dxd .regs,
      .com .dxd .pgEvent, .com .dxd .pgEn, .com .dxd .badAccess, .com .dxd .lockRefused, .com .dxd .lockKey,
      .com .dxd .ic, .com .dxd .bt, .com .dxd .ta, .com .dxd .barCap, .com .dxd .barLow, .com .dxd .rsp, .com .dxd .oseq,
      .com .dxd .seen, .com .dxd .censusTree, .com .dxd .hfits, .straps, .refs, .hold, .outs, .ptp, .kicks, .strobe,
      .census, .scores, .ledger, .referee, .attic, .ownOff, .twinOff, .subsystem]) s t) ∧
  (∀ d s, (s.com d).boot.stage = 0 → 2 ≤ (s.com d).boot.fails → ∃ t, exec (.fuseReadDone d false) s = .next t ∧
    (t.com d).boot.stage = 7 ∧ (t.com d).boot.fails = 3 ∧ (t.com d).boot.cellarReason = 1 ∧ Only (pick d [.com .tsu .boot,
      .com .tsu .up, .com .tsu .beats, .com .tsu .tk, .com .tsu .coreA, .com .tsu .coreB, .com .tsu .ports,
      .com .tsu .chans, .com .tsu .msets, .com .tsu .regs, .com .tsu .pgEvent, .com .tsu .pgEn, .com .tsu .badAccess,
      .com .tsu .lockRefused, .com .tsu .lockKey, .com .tsu .ic, .com .tsu .bt, .com .tsu .ta, .com .tsu .barCap,
      .com .tsu .barLow, .com .tsu .rsp, .com .tsu .oseq, .com .tsu .seen, .com .tsu .censusTree, .com .tsu .hfits,
      .steps, .member, .cue, .signals, .huddles, .keyPort, .tallies, .bays, .stock, .kickPins] [.com .dxd .boot,
      .com .dxd .up, .com .dxd .beats, .com .dxd .tk, .com .dxd .coreA, .com .dxd .coreB, .com .dxd .ports,
      .com .dxd .chans, .com .dxd .msets, .com .dxd .regs, .com .dxd .pgEvent, .com .dxd .pgEn, .com .dxd .badAccess,
      .com .dxd .lockRefused, .com .dxd .lockKey, .com .dxd .ic, .com .dxd .bt, .com .dxd .ta, .com .dxd .barCap,
      .com .dxd .barLow, .com .dxd .rsp, .com .dxd .oseq, .com .dxd .seen, .com .dxd .censusTree, .com .dxd .hfits,
      .straps, .refs, .hold, .outs, .ptp, .kicks, .strobe, .census, .scores, .ledger, .referee, .attic, .ownOff, .twinOff,
      .subsystem]) s t) ∧
  (∀ s, s.tc.boot.stage = 1 → ∃ t, exec (.resetLbistDone .tsu s.tc.fuse.resetSig) s = .next t ∧ t.tc.boot.stage = 2 ∧
    Only [.com .tsu .boot, .com .tsu .ports] s t) ∧
  (∀ s, s.dc.boot.stage = 1 → ∃ t, exec (.resetLbistDone .dxd s.dc.fuse.resetSig) s = .next t ∧ t.dc.boot.stage = 3 ∧
    t.dc.bt.outcome = 1 ∧ Only [.com .dxd .boot, .com .dxd .bt] s t) ∧
  (∀ d sig s, (s.com d).boot.stage = 1 → sig ≠ (s.com d).fuse.resetSig → (s.com d).boot.fails < 2 →
    ∃ t, exec (.resetLbistDone d sig) s = .next t ∧ (t.com d).boot.stage = 0 ∧ (t.com d).boot.reason = 2 ∧
      (t.com d).boot.fails = (s.com d).boot.fails + 1 ∧ Only (pick d [.com .tsu .boot, .com .tsu .up, .com .tsu .beats,
        .com .tsu .tk, .com .tsu .coreA, .com .tsu .coreB, .com .tsu .ports, .com .tsu .chans, .com .tsu .msets,
        .com .tsu .regs, .com .tsu .pgEvent, .com .tsu .pgEn, .com .tsu .badAccess, .com .tsu .lockRefused,
        .com .tsu .lockKey, .com .tsu .ic, .com .tsu .bt, .com .tsu .ta, .com .tsu .barCap, .com .tsu .barLow,
        .com .tsu .rsp, .com .tsu .oseq, .com .tsu .seen, .com .tsu .censusTree, .com .tsu .hfits, .steps, .member, .cue,
        .signals, .huddles, .keyPort, .tallies, .bays, .stock, .kickPins] [.com .dxd .boot, .com .dxd .up,
        .com .dxd .beats, .com .dxd .tk, .com .dxd .coreA, .com .dxd .coreB, .com .dxd .ports, .com .dxd .chans,
        .com .dxd .msets, .com .dxd .regs, .com .dxd .pgEvent, .com .dxd .pgEn, .com .dxd .badAccess,
        .com .dxd .lockRefused, .com .dxd .lockKey, .com .dxd .ic, .com .dxd .bt, .com .dxd .ta, .com .dxd .barCap,
        .com .dxd .barLow, .com .dxd .rsp, .com .dxd .oseq, .com .dxd .seen, .com .dxd .censusTree, .com .dxd .hfits,
        .straps, .refs, .hold, .outs, .ptp, .kicks, .strobe, .census, .scores, .ledger, .referee, .attic, .ownOff,
        .twinOff, .subsystem]) s t) ∧
  (∀ ok0 ok1 fw s, s.dc.boot.stage = 3 → s.dc.boot.applyDone = false → (ok0 || ok1) = true →
    ∃ t, exec (.flashLoadDone ok0 ok1 fw true) s = .next t ∧ t.dc.boot.fw = fw ∧ t.dc.boot.applyDone = true ∧
      t.dc.boot.flashCopy = (if ok0 then 0 else 1) ∧ t.dc.boot.stage = 3 ∧
      t.x.subsystem = (Config.flashSubsystem (if ok0 then 0 else 1)).toNat ∧ Only [.com .dxd .boot, .subsystem] s t) ∧
  (∀ d s, startLate d s = true → (s.com d).boot.fails < 2 → ∃ t, exec (.startTimeout d) s = .next t ∧
    (t.com d).boot.stage = 0 ∧ (t.com d).boot.fails = (s.com d).boot.fails + 1 ∧ (t.com d).boot.warm = true ∧
    (t.com d).boot.reason = (if d = .dxd then 9 else if s.tc.boot.image.isSome || s.tc.boot.applyDone then 7 else 3) ∧
    Only (pick d [.com .tsu .boot, .com .tsu .up, .com .tsu .beats, .com .tsu .tk, .com .tsu .coreA, .com .tsu .coreB,
      .com .tsu .ports, .com .tsu .chans, .com .tsu .msets, .com .tsu .regs, .com .tsu .pgEvent, .com .tsu .pgEn,
      .com .tsu .badAccess, .com .tsu .lockRefused, .com .tsu .lockKey, .com .tsu .ic, .com .tsu .bt, .com .tsu .ta,
      .com .tsu .barCap, .com .tsu .barLow, .com .tsu .rsp, .com .tsu .oseq, .com .tsu .seen, .com .tsu .censusTree,
      .com .tsu .hfits, .steps, .member, .cue, .signals, .huddles, .keyPort, .tallies, .bays, .stock, .kickPins]
      [.com .dxd .boot, .com .dxd .up, .com .dxd .beats, .com .dxd .tk, .com .dxd .coreA, .com .dxd .coreB,
      .com .dxd .ports, .com .dxd .chans, .com .dxd .msets, .com .dxd .regs, .com .dxd .pgEvent, .com .dxd .pgEn,
      .com .dxd .badAccess, .com .dxd .lockRefused, .com .dxd .lockKey, .com .dxd .ic, .com .dxd .bt, .com .dxd .ta,
      .com .dxd .barCap, .com .dxd .barLow, .com .dxd .rsp, .com .dxd .oseq, .com .dxd .seen, .com .dxd .censusTree,
      .com .dxd .hfits, .straps, .refs, .hold, .outs, .ptp, .kicks, .strobe, .census, .scores, .ledger, .referee, .attic,
      .ownOff, .twinOff, .subsystem]) s t) ∧
  (∀ rq v s, WriteTaken .dxd rq 0x0E 0x100 s → bit v 61 = true → bit v 62 = false → bit v 63 = false →
    s.dc.boot.stage = 3 → s.dc.boot.applyDone = true → ∃ t, exec (.boReady rq v) s = .next t ∧ t.dc.boot.stage = 6 ∧
      t.dc.boot.fails = 0 ∧ t.dc.boot.starts = sat16 (s.dc.boot.starts + 1) ∧
      t.dc.boot.readyUs = sat32 (s.dc.up / 1000) ∧ eventSet .dxd 0x0E 1 t ∧ Only [.com .dxd .boot, .com .dxd .pgEvent,
        .com .dxd .badAccess, .com .dxd .ic, .com .dxd .barCap, .com .dxd .barLow, .referee] s t) ∧
  (∀ s, s.tc.boot.stage = 5 → s.tc.boot.applyDone = true → s.tc.coreA.st = 2 ∨ s.tc.coreB.st = 2 →
    ∃ t, exec .tsuReady s = .next t ∧ t.tc.boot.stage = 6 ∧ t.tc.boot.fails = 0 ∧
      t.tc.boot.starts = sat16 (s.tc.boot.starts + 1) ∧ t.tc.boot.readyUs = sat32 (s.tc.up / 1000) ∧
      eventSet .tsu 0x0E 1 t ∧ Only [.com .tsu .boot, .com .tsu .pgEvent, .com .tsu .ic, .com .tsu .bt, .com .tsu .hfits,
        .keyPort, .bays] s t) ∧
  (∀ d rq s, ReadTaken d rq 0x0E s → ∃ t, exec (.boCountsRead d rq) s = .next t ∧
    t.response d rq = shown d 0xE130 (wd [(48, (s.com d).boot.starts), (32, (s.com d).boot.imagesDiscarded),
      (16, (s.com d).boot.localFails)]) s ∧
    (t.com d).boot.starts = 0 ∧ (t.com d).boot.imagesDiscarded = 0 ∧ (t.com d).boot.localFails = 0 ∧
    (t.com d).boot.stage = (s.com d).boot.stage ∧ Only (pick d [.com .tsu .boot, .com .tsu .rsp] [.com .dxd .boot,
      .com .dxd .badAccess, .com .dxd .barCap, .com .dxd .barLow, .com .dxd .rsp]) s t)

/-- A CONFIG chunk that completes no image is held at its number; a complete good boot image is taken for application, a
bad die-local image sets LOCAL_FAIL and the lanes' image is taken in its place; a DX-D takes no image from below; what
comes under test waits; an image applied without a bad PRESET becomes the loaded one; a deferred PLAYBOOK section is
written once both threads stand. Cites: R379, R380, R381, R382, R393. -/
def Obligations.ImageCommands : Prop :=
  (∀ p h ep f s, Accepts .tsu p h ⟨ep, .config f⟩ s → Unseen .tsu (.config f.image f.chunk) s →
    f.image / 4096 = 0 → s.tc.boot.stage ≠ 6 → s.tc.boot.image = none → s.tc.boot.applyDone = false → sliceIsolated s 11 =
      false →
    assembled (tabSet [] (heldChunks .tsu f.image s) f.chunk ((f.data ++ List.replicate 16 0).take 16)) = none →
    ∃ t, exec (.configReceive .tsu p h ep f) s = .next t ∧
      heldChunks .tsu f.image t = tabSet [] (heldChunks .tsu f.image s) f.chunk ((f.data ++ List.replicate 16 0).take 16) ∧
      (t.port .tsu p).rel.seqRx = h.seq ∧ Only [.com .tsu .boot, .com .tsu .ports, .com .tsu .seen] s t) ∧
  (∀ p h ep f s, Accepts .tsu p h ⟨ep, .config f⟩ s → Unseen .tsu (.config f.image f.chunk) s → sliceIsolated s 11 = true →
    ∃ t, exec (.configReceive .tsu p h ep f) s = .next t ∧ t.tc.boot = { s.tc.boot with heldChunks := s.tc.boot.heldChunks
      ++ [f] } ∧
      Only [.com .tsu .boot, .com .tsu .ports, .com .tsu .seen] s t) ∧
  (∀ p h ep f s, p < 192 → Accepts .dxd p h ⟨ep, .config f⟩ s → ∃ t, exec (.configReceive .dxd p h ep f) s = .next t ∧
    t.dc.boot = s.dc.boot ∧ Only [.com .dxd .ports, .com .dxd .seen] s t) ∧
  (∀ p h ep f s, 192 ≤ p → Accepts .dxd p h ⟨ep, .config f⟩ s → Unseen .dxd (.config f.image f.chunk) s → s.x.straps.role
    = 0 →
    assembled (tabSet [] (heldChunks .dxd f.image s) f.chunk ((f.data ++ List.replicate 16 0).take 16)) = none →
    ∃ t, exec (.configReceive .dxd p h ep f) s = .next t ∧
      heldChunks .dxd f.image t = tabSet [] (heldChunks .dxd f.image s) f.chunk ((f.data ++ List.replicate 16 0).take 16) ∧
      (t.port .dxd p).rel.seqRx = h.seq ∧ Only [.com .dxd .boot, .com .dxd .ports, .com .dxd .seen] s t) ∧
  (∀ img s, s.tc.boot.source = 1 → 2 ≤ s.tc.boot.stage → s.tc.boot.stage < 6 → s.tc.boot.localFail = false →
    s.tc.boot.image = none → s.tc.boot.applyDone = false → imgClass img = 0 → imgLength img = img.length →
    imageReject (fuKind .tsu s) 0 img = none → ∃ t, exec (.localImageReadDone img) s = .next t ∧
      t.tc.boot.image = some img ∧ t.tc.boot.stage = (if s.tc.boot.stage = 3 then 4 else s.tc.boot.stage) ∧
      t.tc.boot.localFail = false ∧ Only [.com .tsu .boot] s t) ∧
  (∀ img s, s.tc.boot.source = 1 → 2 ≤ s.tc.boot.stage → s.tc.boot.stage < 6 → s.tc.boot.localFail = false →
    s.tc.boot.image = none → s.tc.boot.applyDone = false →
    (imageReject (fuKind .tsu s) 0 img).isSome = true ∨ imgLength img ≠ img.length →
    (∀ x, x ∈ s.tc.boot.chunks → x.1 / 4096 = 0 → assembled x.2 = none) → ∃ t, exec (.localImageReadDone img) s = .next t
      ∧ t.tc.boot.localFail = true ∧ t.tc.boot.image = none ∧
      t.tc.boot.localFails = sat16 (s.tc.boot.localFails + 1) ∧ Only [.com .tsu .boot] s t) ∧
  (∀ img l id x s, s.tc.boot.source = 1 → 2 ≤ s.tc.boot.stage → s.tc.boot.stage < 6 → s.tc.boot.localFail = false →
    s.tc.boot.image = none → s.tc.boot.applyDone = false → (imageReject (fuKind .tsu s) 0 img).isSome = true →
    s.tc.boot.chunks = [(id, l)] → id / 4096 = 0 → assembled l = some x → imageReject (fuKind .tsu s) 0 x = none →
    ∃ t, exec (.localImageReadDone img) s = .next t ∧ t.tc.boot.localFail = true ∧ t.tc.boot.image = some x ∧
      Only [.com .tsu .boot] s t) ∧
  (∀ s, sliceIsolated s 11 = true → exec .imageApplyDone s = .next s ∧ exec .playbookSectionDeferred s = .next s) ∧
  (∀ img u s, sliceIsolated s 11 = false → s.tc.boot.image = some img →
    ((imgSections img).getD []).foldl (applySection s.tc.boot.applying) (s, true) = (u, true) →
    u.tc.boot.image = some img → imgClass img = 0 → u.tc.boot.stage = 4 →
    ∃ t, exec .imageApplyDone s = .next t ∧ t.tc.boot.loadedImage = imgId img ∧ t.tc.boot.loadedCrc = imgCrc img ∧
      t.tc.boot.fw = imgFw img ∧ t.tc.boot.applyDone = true ∧ t.tc.boot.stage = 5 ∧ t.tc.boot.image = none ∧
      eventSet .tsu 0x0E 3 t ∧ Only [.com .tsu .boot, .com .tsu .pgEvent, .com .tsu .ic, .keyPort] u t) ∧
  (∀ img u s, sliceIsolated s 11 = false → s.tc.boot.image = some img →
    ((imgSections img).getD []).foldl (applySection s.tc.boot.applying) (s, true) = (u, true) → u.tc.boot.image = some img
      → imgClass img = 1 → u.tc.boot.stage = 6 → u.tc.boot.heldJob = none →
    u.tc.boot.heldAdmit = none → u.tc.boot.again = none → ∃ t, exec .imageApplyDone s = .next t ∧
      t.tc.boot.loadedImage = imgId img ∧ t.tc.boot.loadedCrc = imgCrc img ∧ t.tc.boot.image = none ∧
      t.tc.boot.applying = none ∧ t.tc.boot.jobImage = some img ∧ t.t.kp.loading = false ∧ eventSet .tsu 0x0E 3 t ∧
      Only [.com .tsu .boot, .com .tsu .pgEvent, .com .tsu .ic, .keyPort] u t) ∧
  (∀ b s, s.tc.boot.deferred = some b → threadsRun s = false → sliceIsolated s 11 = false → ∃ t, exec
    .playbookSectionDeferred s = .next t ∧
    t.t.cue.store = playbookWords b ∧ t.t.cue.pbBusy = true ∧ t.tc.boot.deferred = none ∧
    t.t.cue.run = s.t.cue.run ∧ t.t.cue.lead = s.t.cue.lead ∧ t.t.cue.p = s.t.cue.p ∧ Only [.com .tsu .boot, .cue] s t)

/-- AT_CTL commits or drops an image, or forgets the servo history or the link records; AT_DATA reads and writes eight
bytes at OFFSET and advances it, and a write below 0x10_1000 is refused. Cites: R391, R392, R395. -/
def Obligations.AtticCommands : Prop :=
  (∀ rq v s, WriteTaken .dxd rq 0x16 0x118 s → bit v 63 = true → bit v 62 = false → bit v 61 = false → bit v 60 = false →
    ∃ t, exec (.atCommit rq v) s = .next t ∧
      t.x.at_.result = commitResult s s.x.at_.offset (imageAt s s.x.at_.offset) ∧
      t.x.at_.resultImage = imgId (imageAt s s.x.at_.offset) ∧ eventSet .dxd 0x16 2 t ∧
      (t.x.at_.result = 1 → t.x.at_.dir = dirDrop s (imgId (imageAt s s.x.at_.offset)) ++
        [⟨imgId (imageAt s s.x.at_.offset), imgKind (imageAt s s.x.at_.offset), imgLength (imageAt s s.x.at_.offset),
          s.x.at_.offset⟩]) ∧
      (t.x.at_.result ≠ 1 → t.x.at_.dir = s.x.at_.dir ∧ t.x.at_.bytes = s.x.at_.bytes) ∧
      (∀ b, b ∈ t.x.at_.bytes → b ∈ s.x.at_.bytes) ∧
      (∀ b, b ∈ s.x.at_.bytes → b.1 < 0x140000 ∨ cacheBase ≤ b.1 → b ∈ t.x.at_.bytes) ∧ Only [.com .dxd .ports,
        .com .dxd .pgEvent, .com .dxd .badAccess, .com .dxd .ic, .com .dxd .barCap, .com .dxd .barLow, .attic] s t) ∧
  (∀ rq v s, WriteTaken .dxd rq 0x16 0x118 s → bit v 62 = true → bit v 63 = false → bit v 61 = false → bit v 60 = false →
    ∃ t, exec (.atDrop rq v) s = .next t ∧ t.x.at_.dir = s.x.at_.dir.filter (fun e => e.image != fld v 0 16) ∧
      t.x.at_.result = (if s.x.at_.dir.any (fun e => e.image == fld v 0 16) then 1 else 6) ∧
      t.x.at_.resultImage = fld v 0 16 ∧
      (∀ b, b ∈ t.x.at_.bytes ↔ b ∈ s.x.at_.bytes ∧ (b.1 < 0x140000 ∨ cacheBase ≤ b.1)) ∧ Only [.com .dxd .badAccess,
        .com .dxd .barCap, .com .dxd .barLow, .attic] s t) ∧
  (∀ rq v s, WriteTaken .dxd rq 0x16 0x118 s → bit v 61 = true → bit v 63 = false → bit v 62 = false → bit v 60 = false →
    ∃ t, exec (.atClearHistory rq v) s = .next t ∧ t.x.at_.slots = [] ∧ t.x.at_.links = s.x.at_.links ∧
      t.x.at_.dir = s.x.at_.dir ∧ t.x.at_.bytes = s.x.at_.bytes ∧ Only [.com .dxd .badAccess, .com .dxd .barCap,
        .com .dxd .barLow, .attic] s t) ∧
  (∀ rq v s, WriteTaken .dxd rq 0x16 0x118 s → bit v 60 = true → bit v 63 = false → bit v 62 = false → bit v 61 = false →
    ∃ t, exec (.atClearCal rq v) s = .next t ∧ t.x.at_.links = [] ∧ t.x.at_.slots = s.x.at_.slots ∧
      (∀ x, x ∈ t.x.at_.bytes ↔ x ∈ s.x.at_.bytes ∧ (x.1 < 0x101000 ∨ 0x104000 ≤ x.1)) ∧
      t.x.at_.dir = s.x.at_.dir ∧ Only [.com .dxd .badAccess, .com .dxd .barCap, .com .dxd .barLow, .attic] s t) ∧
  (∀ rq s, ReadTaken .dxd rq 0x16 s → ∃ t, exec (.atDataRead rq) s = .next t ∧
    t.response .dxd rq = shown .dxd 0x16110 (atData s) s ∧ t.x.at_.offset = (s.x.at_.offset + 8) % 2 ^ 22 ∧
    (∀ a, atticByteAt t a = atticByteAt s a) ∧ (Config.mramFault s.x.at_.offset s.dc.up = true → eventSet .dxd 0x16 0 t) ∧
    Only [.com .dxd .pgEvent, .com .dxd .badAccess, .com .dxd .ic, .com .dxd .barCap, .com .dxd .barLow, .com .dxd .rsp,
      .attic] s t) ∧
  (∀ rq v s, WriteTaken .dxd rq 0x16 0x110 s → 0x101000 ≤ s.x.at_.offset → s.x.at_.offset % 8 = 0 →
    ∃ t, exec (.atDataWrite rq v) s = .next t ∧
    (∀ i, i < 8 → atticByteAt t (s.x.at_.offset + i) = (bytesBE 8 v.toNat).getD i 0) ∧
    (∀ a, a < s.x.at_.offset ∨ s.x.at_.offset + 8 ≤ a → atticByteAt t a = atticByteAt s a)) ∧
  (∀ rq v s, WriteTaken .dxd rq 0x16 0x110 s → s.x.at_.offset < 0x101000 → ∃ t, exec (.atDataWrite rq v) s = .next t ∧
    (∀ a, atticByteAt t a = atticByteAt s a) ∧ eventSet .dxd 0x16 1 t ∧
    t.x.at_.offset = (s.x.at_.offset + 8) % 2 ^ 22 ∧ Only [.com .dxd .pgEvent, .com .dxd .badAccess, .com .dxd .ic,
      .com .dxd .barCap, .com .dxd .barLow, .attic] s t) ∧
  (∀ rq v s, WriteTaken .dxd rq 0x16 0x110 s → 0x104000 ≤ s.x.at_.offset → ∃ t, exec (.atDataWrite rq v) s = .next t ∧
    (∀ i, i < 8 → atticByteAt t (s.x.at_.offset + i) = (bytesBE 8 v.toNat).getD i 0) ∧
    (∀ a, a < s.x.at_.offset ∨ s.x.at_.offset + 8 ≤ a → atticByteAt t a = atticByteAt s a) ∧
    t.x.at_.offset = (s.x.at_.offset + 8) % 2 ^ 22 ∧
    Only [.com .dxd .badAccess, .com .dxd .barCap, .com .dxd .barLow, .attic] s t)

/-- With register override off, PG_LOCK takes a key on a free page, is released by the same key and counts any other
write; PG_EVENT is write-1-to-clear; PG_EVENT_EN takes the defined bits; EVENT_TEST sets every defined event bit of an
operative page; a read of PG_STATUS returns and clears its counts. Cites: R342, R404, R406. -/
def Obligations.PageHeaders : Prop :=
  (∀ d rq pg v k s, WriteTaken d rq pg 0x38 s → (s.com d).ta.overrideOn = false → tabGet 0 (s.com d).lockKey pg = 0 → bit
    v 16 = true → k = fld v 0 16 →
    k ≠ 0 → ∃ t, exec (.pgLockWrite d rq pg v) s = .next t ∧ tabGet 0 (t.com d).lockKey pg = k ∧
      (∀ q, q ≠ pg → tabGet 0 (t.com d).lockKey q = tabGet 0 (s.com d).lockKey q) ∧ Only (pick d [.com .tsu .lockKey]
        [.com .dxd .badAccess, .com .dxd .lockKey, .com .dxd .barCap, .com .dxd .barLow]) s t) ∧
  (∀ d rq pg v s, WriteTaken d rq pg 0x38 s → (s.com d).ta.overrideOn = false → tabGet 0 (s.com d).lockKey pg ≠ 0 → bit v
    16 = false →
    fld v 0 16 = tabGet 0 (s.com d).lockKey pg → ∃ t, exec (.pgLockWrite d rq pg v) s = .next t ∧
      tabGet 0 (t.com d).lockKey pg = 0 ∧
      (∀ q, q ≠ pg → tabGet 0 (t.com d).lockKey q = tabGet 0 (s.com d).lockKey q) ∧ Only (pick d [.com .tsu .lockKey]
        [.com .dxd .badAccess, .com .dxd .lockKey, .com .dxd .barCap, .com .dxd .barLow]) s t) ∧
  (∀ d rq pg v k s, WriteTaken d rq pg 0x38 s → (s.com d).ta.overrideOn = false → k = tabGet 0 (s.com d).lockKey pg →
    (k = 0 ∧ bit v 16 = true ∧ fld v 0 16 = 0) ∨ (k ≠ 0 ∧ (bit v 16 = true ∨ fld v 0 16 ≠ k)) →
    ∃ t, exec (.pgLockWrite d rq pg v) s = .next t ∧
      tabGet 0 (t.com d).lockRefused pg = sat16 (tabGet 0 (s.com d).lockRefused pg + 1) ∧
      (∀ q, q ≠ pg → tabGet 0 (t.com d).lockRefused q = tabGet 0 (s.com d).lockRefused q) ∧
      (t.com d).lockKey = (s.com d).lockKey ∧ Only (pick d [.com .tsu .lockRefused] [.com .dxd .badAccess,
        .com .dxd .lockRefused, .com .dxd .barCap, .com .dxd .barLow]) s t) ∧
  (∀ d rq pg v s, WriteTaken d rq pg 0x38 s → (s.com d).ta.overrideOn = false → tabGet 0 (s.com d).lockKey pg = 0 → bit v
    16 = false →
    ∃ t, exec (.pgLockWrite d rq pg v) s = .next t ∧ Only (pick d [] [.com .dxd .badAccess, .com .dxd .barCap,
      .com .dxd .barLow]) s t) ∧
  (∀ d rq pg v s, WriteTaken d rq pg 0x28 s → (s.com d).ta.overrideOn = false → ∃ t, exec (.pgEventWrite d rq pg v) s =
    .next t ∧
    tabGet 0 (t.com d).pgEvent pg = tabGet 0 (s.com d).pgEvent pg &&& ~~~v ∧
    (∀ q, q ≠ pg → tabGet 0 (t.com d).pgEvent q = tabGet 0 (s.com d).pgEvent q) ∧ Only (pick d [.com .tsu .pgEvent]
      [.com .dxd .pgEvent, .com .dxd .badAccess, .com .dxd .barCap, .com .dxd .barLow]) s t) ∧
  (∀ d rq pg v s, WriteTaken d rq pg 0x30 s → (s.com d).ta.overrideOn = false → ∃ t, exec (.pgEventEnWrite d rq pg v) s =
    .next t ∧
    tabGet 0 (t.com d).pgEn pg = v &&& evMask d pg ∧
    (∀ q, q ≠ pg → tabGet 0 (t.com d).pgEn q = tabGet 0 (s.com d).pgEn q) ∧ (t.com d).pgEvent = (s.com d).pgEvent ∧
    (pg < 0x1E → srcPresent d s pg = true → srcLevel d s pg = false → tabGet 0 (s.com d).pgEvent pg &&& v &&& evMask d pg
      ≠ 0 →
      (t.icSrc d pg).edge = true) ∧ Only (pick d [.com .tsu .pgEn, .com .tsu .ic] [.com .dxd .pgEn, .com .dxd .badAccess,
        .com .dxd .ic, .com .dxd .barCap, .com .dxd .barLow]) s t) ∧
  (∀ d rq pg v s, WriteTaken d rq pg 0x20 s → (s.com d).ta.overrideOn = false → bit v 0 = true → pageSt d s pg = .op →
    ∃ t, exec (.eventTest d rq pg v) s = .next t ∧
      tabGet 0 (t.com d).pgEvent pg = tabGet 0 (s.com d).pgEvent pg ||| evMask d pg ∧
      (∀ q, q ≠ pg → tabGet 0 (t.com d).pgEvent q = tabGet 0 (s.com d).pgEvent q) ∧ Only (pick d [.com .tsu .pgEvent,
        .com .tsu .ic] [.com .dxd .pgEvent, .com .dxd .badAccess, .com .dxd .ic, .com .dxd .barCap, .com .dxd .barLow]) s
        t) ∧
  (∀ d rq pg v s, WriteTaken d rq pg 0x20 s → (s.com d).ta.overrideOn = false → bit v 0 = false ∨ pageSt d s pg ≠ .op →
    ∃ t, exec (.eventTest d rq pg v) s = .next t ∧ Only (pick d [] [.com .dxd .badAccess, .com .dxd .barCap,
      .com .dxd .barLow]) s t) ∧
  (∀ d rq pg s, ReadTaken d rq pg s → s.dc.barLow = none → ∃ t, exec (.pgStatusRead d rq pg) s = .next t ∧
    t.response d rq = shown d (pg * 4096 + 0x18) (wd [(48, tabGet 0 (s.com d).badAccess pg),
      (32, tabGet 0 (s.com d).lockRefused pg),
      (0, b2n (tabGet 0 (s.com d).pgEvent pg &&& tabGet 0 (s.com d).pgEn pg != 0))]) s ∧
    tabGet 0 (t.com d).badAccess pg = 0 ∧ tabGet 0 (t.com d).lockRefused pg = 0 ∧
    (∀ q, q ≠ pg → tabGet 0 (t.com d).badAccess q = tabGet 0 (s.com d).badAccess q ∧
      tabGet 0 (t.com d).lockRefused q = tabGet 0 (s.com d).lockRefused q) ∧ Only (pick d [.com .tsu .badAccess,
        .com .tsu .lockRefused, .com .tsu .rsp] [.com .dxd .badAccess, .com .dxd .lockRefused, .com .dxd .barCap,
        .com .dxd .barLow, .com .dxd .rsp]) s t)

/-- A write of a plain register sets its fields and keeps its other bits; a read-only register, an absent page, the body
of a dormant page and a page that CELLAR closes take no write; a locked page counts the write; a page of the slice under
test queues it; the management port works in package role only, and a hall or root DX-D in CELLAR answers its test port
alone; an access of another size or alignment is dropped and counted, and a read of it returns 0. Cites: R361, R388,
R397, R398, R399, R403, R406, R428. -/
def Obligations.RegisterAccesses : Prop :=
  (∀ rq v s, (∀ d a m, (d, a, m) ∈ [(Dev.tsu, 0x3100, (0xFFFFFFFFFFFF : Word)), (.tsu, 0x3110, 0xFFFF),
      (.tsu, 0x4140, BitVec.allOnes 64), (.tsu, 0x6108, 0xFFFFFFFFFFFFF000), (.tsu, 0x9280, 0xF), (.tsu, 0xA110, 0x3FF),
      (.tsu, 0xB138, 0x3F), (.dxd, 0x1E110, 0xFFFFFFFFFF00), (.dxd, 0x1E118, 0x80000000FFFFFFFF), (.dxd, 0x10120, 0xFFFFF),
      (.dxd, 0x10148, 0xFFFFFFFFFFFFFFFF), (.dxd, 0x11108, BitVec.allOnes 64), (.dxd, 0x12110, BitVec.allOnes 64),
      (.dxd, 0x15110, 0xFFFFFFFF), (.dxd, 0x16128, 0x3F)] → WriteTaken d rq (a / 4096) (a % 4096) s →
    (s.com d).ta.overrideOn = false →
    ∃ t, exec (.registerWrite d rq a v) s = .next t ∧ t.reg d a = (v &&& m) ||| (s.reg d a &&& ~~~m) ∧
      (∀ b, b ≠ a → t.reg d b = s.reg d b) ∧ Only (pick d [.com .tsu .regs] [.com .dxd .regs, .com .dxd .badAccess,
        .com .dxd .barCap, .com .dxd .barLow]) s t)) ∧
  (∀ d rq v s, (s.com d).ta.overrideOn = false → (∀ a, a ∈ [0xD108, 0xD120, 0xF100, 0xF108, 0xF118] →
    WriteTaken d rq (a / 4096) (a % 4096) s →
    ∃ t, exec (.registerWrite d rq a v) s = .next t ∧ Only (pick d [] [.com .dxd .badAccess, .com .dxd .barCap,
      .com .dxd .barLow]) s t)) ∧
  (∀ d rq a v s, reaches d rq s = true → isHeld d (a / 4096) s = false → pageTakes d s (a / 4096) (a % 4096) = false ∨
      (inCellar d s = true ∧ cellarTakes (a / 4096) (a % 4096) = false) →
    ∃ t, exec (.registerWrite d rq a v) s = .next t ∧ Only (pick d [] [.com .dxd .badAccess, .com .dxd .barCap,
      .com .dxd .barLow]) s t) ∧
  (∀ d rq a v s, reaches d rq s = true → isHeld d (a / 4096) s = false → pageTakes d s (a / 4096) (a % 4096) = true →
    inCellar d s = false → tabGet 0 (s.com d).lockKey (a / 4096) ≠ 0 →
    a % 4096 = 0x20 ∨ a % 4096 = 0x30 ∨ 0x100 ≤ a % 4096 → ∃ t, exec (.registerWrite d rq a v) s = .next t ∧
      tabGet 0 (t.com d).lockRefused (a / 4096) = sat16 (tabGet 0 (s.com d).lockRefused (a / 4096) + 1) ∧
      Only (pick d [.com .tsu .lockRefused] [.com .dxd .badAccess, .com .dxd .lockRefused, .com .dxd .barCap,
        .com .dxd .barLow]) s t) ∧
  (∀ rq a v s, isHeld .tsu (a / 4096) s = true → ∃ t, exec (.registerWrite .tsu rq a v) s = .next t ∧
    t.tc.bt = { s.tc.bt with held := s.tc.bt.held ++ [⟨rq, a, true, v, false⟩] } ∧ Only [.com .tsu .bt] s t) ∧
  (∀ rq a n wr s, isHeld .tsu (a / 4096) s = true → n ≠ 8 ∨ a % 8 ≠ 0 → ∃ t, exec (.badAccess .tsu rq a n wr) s = .next t ∧
    t.tc.bt = { s.tc.bt with held := s.tc.bt.held ++ [⟨rq, a, wr, 0, true⟩] } ∧ Only [.com .tsu .bt] s t) ∧
  (∀ rq a v n wr s, reaches .dxd rq s = false → exec (.registerWrite .dxd rq a v) s = .next s ∧
    exec (.badAccess .dxd rq a n wr) s = .next s) ∧
  (∀ s, reaches .dxd 4 s = (s.x.straps.role == 0) ∧
    (∀ rq, rq ≠ 4 → s.x.straps.role ≠ 0 → inCellar .dxd s = true → reaches .dxd rq s = false)) ∧
  (∀ d rq a n wr s, reaches d rq s = true → isHeld d (a / 4096) s = false → n ≠ 8 ∨ a % 8 ≠ 0 →
    d = .tsu ∨ rq ≠ 4 ∨ n ≠ 4 ∨ a % 4 ≠ 0 → s.dc.barLow = none →
    ∃ t, exec (.badAccess d rq a n wr) s = .next t ∧
      tabGet 0 (t.com d).badAccess (a / 4096) = (if pageSt d s (a / 4096) = .op ∨ pageSt d s (a / 4096) = .dormant then
        sat16 (tabGet 0 (s.com d).badAccess (a / 4096) + 1) else tabGet 0 (s.com d).badAccess (a / 4096)) ∧
      (∀ q, q ≠ a / 4096 → tabGet 0 (t.com d).badAccess q = tabGet 0 (s.com d).badAccess q) ∧
      (wr = false → t.response d rq = 0) ∧ (wr = true → (t.com d).rsp = (s.com d).rsp) ∧
      (∀ q, q ≠ rq → t.response d q = s.response d q) ∧ Only (pick d [.com .tsu .badAccess, .com .tsu .rsp]
        [.com .dxd .badAccess, .com .dxd .barCap, .com .dxd .barLow, .com .dxd .rsp]) s t) ∧
  (∀ d rq a wr s, a % 8 = 0 → exec (.badAccess d rq a 8 wr) s = .next s) ∧
  (∀ a wr s, a % 4 = 0 → exec (.badAccess .dxd 4 a 4 wr) s = .next s)

/-- On a package DX-D a read of a low half is a full read that captures the high half, which the next read of that high
half returns without side effects; a low write is held and the high write that follows makes one 64-bit write; a half
that does not pair is dropped and counted; away from the package role nothing happens. Cites: R398, R402, R403. -/
def Obligations.Bar0Halves : Prop :=
  (∀ a s, s.x.straps.role = 0 → a % 8 = 0 → a < 0x40000 → s.dc.barLow = none → ∃ t u, exec (.bar0LowRead a) s = .next t ∧
    u = dropHalf .dxd 4 s ∧ t.response .dxd 4 = regWord .dxd 4 a u &&& 0xFFFFFFFF ∧
    t.dc.barCap = some (a, regWord .dxd 4 a u) ∧ Only [.com .tsu .tk, .com .tsu .ports, .com .tsu .regs,
      .com .tsu .pgEvent, .com .tsu .ic, .com .tsu .bt, .steps, .member, .cue, .signals, .huddles, .keyPort, .tallies,
      .bays, .stock, .com .dxd .boot, .com .dxd .up, .com .dxd .beats, .com .dxd .tk, .com .dxd .coreA, .com .dxd .coreB,
      .com .dxd .ports, .com .dxd .chans, .com .dxd .msets, .com .dxd .regs, .com .dxd .pgEvent, .com .dxd .pgEn,
      .com .dxd .badAccess, .com .dxd .lockRefused, .com .dxd .lockKey, .com .dxd .ic, .com .dxd .bt, .com .dxd .ta,
      .com .dxd .barCap, .com .dxd .barLow, .com .dxd .rsp, .com .dxd .oseq, .com .dxd .seen, .com .dxd .censusTree,
      .com .dxd .hfits, .straps, .refs, .hold, .outs, .ptp, .kicks, .strobe, .census, .scores, .ledger, .referee, .attic,
      .ownOff, .twinOff, .subsystem] s t) ∧
  (∀ s, s.x.straps.role = 0 → s.dc.barLow = none → s.dc.ta.ovr = [] → ∃ t, exec (.bar0LowRead 0xE130) s = .next t ∧
    t.dc.barCap = some (0xE130, wd [(48, s.dc.boot.starts), (32, s.dc.boot.imagesDiscarded), (16, s.dc.boot.localFails)]) ∧
    t.dc.boot.starts = 0 ∧ t.dc.boot.imagesDiscarded = 0 ∧ t.dc.boot.localFails = 0 ∧ t.dc.boot.stage = s.dc.boot.stage) ∧
  (∀ a (w : Word) s, s.x.straps.role = 0 → a % 8 = 0 → a + 4 < 0x40000 → s.dc.barCap = some (a, w) →
    ∃ t, exec (.bar0HighRead (a + 4)) s = .next t ∧ t.response .dxd 4 = w >>> 32 ∧ t.dc.barCap = none ∧
      Only [.com .dxd .badAccess, .com .dxd .barCap, .com .dxd .barLow, .com .dxd .rsp] s t) ∧
  (∀ a s, s.x.straps.role = 0 → a % 8 = 0 → a + 4 < 0x40000 → (∀ x, s.dc.barCap = some x → x.1 ≠ a) →
    ∃ t, exec (.bar0HighRead (a + 4)) s = .next t ∧ t.response .dxd 4 = regWord .dxd 4 a s >>> 32 ∧ t.dc.barCap = none ∧
      Only [.com .dxd .badAccess, .com .dxd .barCap, .com .dxd .barLow, .com .dxd .rsp] s t) ∧
  (∀ a v s, s.x.straps.role = 0 → a % 8 = 0 → a < 0x40000 → ∃ t, exec (.bar0LowWrite a v) s = .next t ∧
    t.dc.barLow = some (a, v % 2 ^ 32) ∧ t.dc.barCap = none ∧
    (s.dc.barLow = none → t.dc.badAccess = s.dc.badAccess) ∧ (∀ b w, s.dc.barLow = some (b, w) →
      pageSt .dxd s (b / 4096) = .op ∨ pageSt .dxd s (b / 4096) = .dormant →
      tabGet 0 t.dc.badAccess (b / 4096) = sat16 (tabGet 0 s.dc.badAccess (b / 4096) + 1)) ∧ Only [.com .dxd .badAccess,
        .com .dxd .barCap, .com .dxd .barLow] s t) ∧
  (∀ a v w s, s.x.straps.role = 0 → a % 8 = 0 → a + 4 < 0x40000 → s.dc.barLow = some (a, w) →
    ∃ t, exec (.bar0HighWrite (a + 4) v) s = .next t ∧
      exec (.registerWrite .dxd 4 a (wd [(32, v % 2 ^ 32), (0, w)])) { s with dc := { s.dc with barLow := none } } = .next
        t) ∧
  (∀ a v s, s.x.straps.role = 0 → a % 8 = 0 → a + 4 < 0x40000 → s.dc.barLow = none →
    ∃ t, exec (.bar0HighWrite (a + 4) v) s = .next t ∧
      tabGet 0 t.dc.badAccess (a / 4096) = (if pageSt .dxd s (a / 4096) = .op ∨ pageSt .dxd s (a / 4096) = .dormant then
        sat16 (tabGet 0 s.dc.badAccess (a / 4096) + 1) else tabGet 0 s.dc.badAccess (a / 4096)) ∧
      t.dc.barCap = none ∧ Only [.com .dxd .badAccess, .com .dxd .barCap, .com .dxd .barLow] s t) ∧
  (∀ a b v w s, s.x.straps.role = 0 → a % 8 = 0 → a + 4 < 0x40000 → s.dc.barLow = some (b, w) → b ≠ a →
    b / 4096 ≠ a / 4096 → pageSt .dxd s (b / 4096) = .op ∨ pageSt .dxd s (b / 4096) = .dormant →
    ∃ t, exec (.bar0HighWrite (a + 4) v) s = .next t ∧ t.dc.barLow = none ∧
      tabGet 0 t.dc.badAccess (b / 4096) = sat16 (tabGet 0 s.dc.badAccess (b / 4096) + 1) ∧ Only [.com .dxd .badAccess,
        .com .dxd .barCap, .com .dxd .barLow] s t) ∧
  (∀ a v s, s.x.straps.role ≠ 0 → exec (.bar0LowRead a) s = .next s ∧ exec (.bar0HighRead a) s = .next s ∧
    exec (.bar0LowWrite a v) s = .next s ∧ exec (.bar0HighWrite a v) s = .next s)
end

