-- ==== Sys2Proof/Laws/FrameBase.lean ====
section
/-!
SUPPORT. What each operation can change: blanking the parts that an operation may write gives the state that it started from.
-/

namespace Sys2Proof.Machine

@[simp ↓] theorem State.blank_ite {W : Part → Bool} (c : Prop) [Decidable c] (a b : State) :
    (if c then a else b).blank W = if c then a.blank W else b.blank W := by split <;> rfl

@[simp ↓] theorem Com.blank_ite {W : CPart → Bool} (c : Prop) [Decidable c] (a b : Com) :
    (if c then a else b).blank W = if c then a.blank W else b.blank W := by split <;> rfl

@[simp ↓] theorem Tsu.blank_ite {W : Part → Bool} (c : Prop) [Decidable c] (a b : Tsu) :
    (if c then a else b).blank W = if c then a.blank W else b.blank W := by split <;> rfl

@[simp ↓] theorem Dxd.blank_ite {W : Part → Bool} (c : Prop) [Decidable c] (a b : Dxd) :
    (if c then a else b).blank W = if c then a.blank W else b.blank W := by split <;> rfl

@[simp ↓] theorem foldl_blank {W : Part → Bool} {α : Type} (f : State → α → State) (l : List α) (s : State)
    (h : ∀ s a, (f s a).blank W = s.blank W) : (l.foldl f s).blank W = s.blank W := by
  induction l generalizing s with
  | nil => rfl
  | cons a l ih => simp only [List.foldl_cons, ih, h]

@[simp ↓] theorem foldl_snd_blank {W : Part → Bool} {α β : Type} (f : β × State → α → β × State) (l : List α) (a : β × State)
    (h : ∀ a b, (f a b).2.blank W = a.2.blank W) : (l.foldl f a).2.blank W = a.2.blank W := by
  induction l generalizing a with
  | nil => rfl
  | cons x l ih => simp only [List.foldl_cons, ih, h]

@[simp ↓] theorem foldl_fst_blank {W : Part → Bool} {α β : Type} (f : State × β → α → State × β) (l : List α) (a : State × β)
    (h : ∀ a b, (f a b).1.blank W = a.1.blank W) : (l.foldl f a).1.blank W = a.1.blank W := by
  induction l generalizing a with
  | nil => rfl
  | cons x l ih => simp only [List.foldl_cons, ih, h]

@[simp ↓] theorem snd_ite_blank {W : Part → Bool} {β : Type} (c : Prop) [Decidable c] (a b : β × State) :
    (if c then a else b).2.blank W = if c then a.2.blank W else b.2.blank W := by split <;> rfl

@[simp ↓] theorem fst_ite_blank {W : Part → Bool} {β : Type} (c : Prop) [Decidable c] (a b : State × β) :
    (if c then a else b).1.blank W = if c then a.1.blank W else b.1.blank W := by split <;> rfl

@[simp ↓] theorem modCom_tsu_blank {W : Part → Bool} (f : Com → Com) (s : State)
    (h : ∀ c, (f c).blank (fun p => W (.com .tsu p)) = c.blank (fun p => W (.com .tsu p))) :
    (modCom .tsu f s).blank W = s.blank W := by simp [modCom, State.blank, h]

@[simp ↓] theorem modCom_dxd_blank {W : Part → Bool} (f : Com → Com) (s : State)
    (h : ∀ c, (f c).blank (fun p => W (.com .dxd p)) = c.blank (fun p => W (.com .dxd p))) :
    (modCom .dxd f s).blank W = s.blank W := by simp [modCom, State.blank, h]

@[simp ↓] theorem modT_blank {W : Part → Bool} (f : Tsu → Tsu) (s : State) (h : ∀ t, (f t).blank W = t.blank W) :
    (modT f s).blank W = s.blank W := by simp [modT, State.blank, h]

@[simp ↓] theorem modX_blank {W : Part → Bool} (f : Dxd → Dxd) (s : State) (h : ∀ x, (f x).blank W = x.blank W) :
    (modX f s).blank W = s.blank W := by simp [modX, State.blank, h]

@[simp ↓] theorem with_tc_blank {W : Part → Bool} (s : State) (c : Com)
    (h : c.blank (fun p => W (.com .tsu p)) = s.tc.blank (fun p => W (.com .tsu p))) :
    ({ s with tc := c } : State).blank W = s.blank W := by simp [State.blank, h]

@[simp ↓] theorem with_dc_blank {W : Part → Bool} (s : State) (c : Com)
    (h : c.blank (fun p => W (.com .dxd p)) = s.dc.blank (fun p => W (.com .dxd p))) :
    ({ s with dc := c } : State).blank W = s.blank W := by simp [State.blank, h]

@[simp ↓] theorem with_t_blank {W : Part → Bool} (s : State) (t : Tsu) (h : t.blank W = s.t.blank W) :
    ({ s with t := t } : State).blank W = s.blank W := by simp [State.blank, h]

@[simp ↓] theorem with_x_blank {W : Part → Bool} (s : State) (x : Dxd) (h : x.blank W = s.x.blank W) :
    ({ s with x := x } : State).blank W = s.blank W := by simp [State.blank, h]

end Sys2Proof.Machine
end

