-- ==== Sys2Proof/Laws/FrameOps.lean ====
section
/-!
SUPPORT. What the operations of Machine/Ops.lean can change.
-/

namespace Sys2Proof.Machine

@[simp ↓] theorem modTk_dxd_blank {W : Part → Bool} (f : Time → Time) (s : State) (h0 : W (.com .dxd .tk) = true) :
    (modTk .dxd f s).blank W = s.blank W := by simp [modTk, Com.blank, Tsu.blank, Dxd.blank, h0]

@[simp ↓] theorem modTk_tsu_blank {W : Part → Bool} (f : Time → Time) (s : State) (h0 : W (.com .tsu .tk) = true) :
    (modTk .tsu f s).blank W = s.blank W := by simp [modTk, Com.blank, Tsu.blank, Dxd.blank, h0]

@[simp ↓] theorem modBoot_dxd_blank {W : Part → Bool} (f : Boot → Boot) (s : State) (h0 : W (.com .dxd .boot) = true) :
    (modBoot .dxd f s).blank W = s.blank W := by simp [modBoot, Com.blank, Tsu.blank, Dxd.blank, h0]

@[simp ↓] theorem modBoot_tsu_blank {W : Part → Bool} (f : Boot → Boot) (s : State) (h0 : W (.com .tsu .boot) = true) :
    (modBoot .tsu f s).blank W = s.blank W := by simp [modBoot, Com.blank, Tsu.blank, Dxd.blank, h0]

@[simp ↓] theorem modIc_dxd_blank {W : Part → Bool} (f : Ic → Ic) (s : State) (h0 : W (.com .dxd .ic) = true) :
    (modIc .dxd f s).blank W = s.blank W := by simp [modIc, Com.blank, Tsu.blank, Dxd.blank, h0]

@[simp ↓] theorem modIc_tsu_blank {W : Part → Bool} (f : Ic → Ic) (s : State) (h0 : W (.com .tsu .ic) = true) :
    (modIc .tsu f s).blank W = s.blank W := by simp [modIc, Com.blank, Tsu.blank, Dxd.blank, h0]

@[simp ↓] theorem modBt_tsu_blank {W : Part → Bool} (f : Bt → Bt) (s : State) (h0 : W (.com .tsu .bt) = true) :
    (modBt .tsu f s).blank W = s.blank W := by simp [modBt, Com.blank, Tsu.blank, Dxd.blank, h0]

@[simp ↓] theorem modBt_dxd_blank {W : Part → Bool} (f : Bt → Bt) (s : State) (h0 : W (.com .dxd .bt) = true) :
    (modBt .dxd f s).blank W = s.blank W := by simp [modBt, Com.blank, Tsu.blank, Dxd.blank, h0]

@[simp ↓] theorem modMem_blank {W : Part → Bool} (f : Member → Member) (s : State) (h0 : W .member = true) :
    (modMem f s).blank W = s.blank W := by simp [modMem, Com.blank, Tsu.blank, Dxd.blank, h0]

@[simp ↓] theorem modCue_blank {W : Part → Bool} (f : Engine → Engine) (s : State) (h0 : W .cue = true) :
    (modCue f s).blank W = s.blank W := by simp [modCue, Com.blank, Tsu.blank, Dxd.blank, h0]

@[simp ↓] theorem modSg_blank {W : Part → Bool} (f : Signals → Signals) (s : State) (h0 : W .signals = true) :
    (modSg f s).blank W = s.blank W := by simp [modSg, Com.blank, Tsu.blank, Dxd.blank, h0]

@[simp ↓] theorem modHd_blank {W : Part → Bool} (f : Huddles → Huddles) (s : State) (h0 : W .huddles = true) :
    (modHd f s).blank W = s.blank W := by simp [modHd, Com.blank, Tsu.blank, Dxd.blank, h0]

@[simp ↓] theorem modKp_blank {W : Part → Bool} (f : KeyPort → KeyPort) (s : State) (h0 : W .keyPort = true) :
    (modKp f s).blank W = s.blank W := by simp [modKp, Com.blank, Tsu.blank, Dxd.blank, h0]

@[simp ↓] theorem modTl_blank {W : Part → Bool} (f : Tallies → Tallies) (s : State) (h0 : W .tallies = true) :
    (modTl f s).blank W = s.blank W := by simp [modTl, Com.blank, Tsu.blank, Dxd.blank, h0]

@[simp ↓] theorem modBy_blank {W : Part → Bool} (f : Bays → Bays) (s : State) (h0 : W .bays = true) :
    (modBy f s).blank W = s.blank W := by simp [modBy, Com.blank, Tsu.blank, Dxd.blank, h0]

@[simp ↓] theorem modSt_blank {W : Part → Bool} (f : Stock → Stock) (s : State) (h0 : W .stock = true) :
    (modSt f s).blank W = s.blank W := by simp [modSt, Com.blank, Tsu.blank, Dxd.blank, h0]

@[simp ↓] theorem modRf_blank {W : Part → Bool} (f : Ref → Ref) (s : State) (h0 : W .refs = true) :
    (modRf f s).blank W = s.blank W := by simp [modRf, Com.blank, Tsu.blank, Dxd.blank, h0]

@[simp ↓] theorem modHold_blank {W : Part → Bool} (f : Hold → Hold) (s : State) (h0 : W .hold = true) :
    (modHold f s).blank W = s.blank W := by simp [modHold, Com.blank, Tsu.blank, Dxd.blank, h0]

@[simp ↓] theorem modPt_blank {W : Part → Bool} (f : Ptp → Ptp) (s : State) (h0 : W .ptp = true) :
    (modPt f s).blank W = s.blank W := by simp [modPt, Com.blank, Tsu.blank, Dxd.blank, h0]

@[simp ↓] theorem modCs_blank {W : Part → Bool} (f : CensusEng → CensusEng) (s : State) (h0 : W .census = true) :
    (modCs f s).blank W = s.blank W := by simp [modCs, Com.blank, Tsu.blank, Dxd.blank, h0]

@[simp ↓] theorem modScores_blank {W : Part → Bool} (f : Scores → Scores) (s : State) (h0 : W .scores = true) :
    (modScores f s).blank W = s.blank W := by simp [modScores, Com.blank, Tsu.blank, Dxd.blank, h0]

@[simp ↓] theorem modLg_blank {W : Part → Bool} (f : Ledger → Ledger) (s : State) (h0 : W .ledger = true) :
    (modLg f s).blank W = s.blank W := by simp [modLg, Com.blank, Tsu.blank, Dxd.blank, h0]

@[simp ↓] theorem modRef_blank {W : Part → Bool} (f : Referee → Referee) (s : State) (h0 : W .referee = true) :
    (modRef f s).blank W = s.blank W := by simp [modRef, Com.blank, Tsu.blank, Dxd.blank, h0]

@[simp ↓] theorem modAt_blank {W : Part → Bool} (f : Attic → Attic) (s : State) (h0 : W .attic = true) :
    (modAt f s).blank W = s.blank W := by simp [modAt, Com.blank, Tsu.blank, Dxd.blank, h0]

@[simp ↓] theorem modPort_dxd_blank {W : Part → Bool} (p : Nat) (f : Port → Port) (s : State) (h0 : W (.com .dxd .ports) = true) :
    (modPort .dxd p f s).blank W = s.blank W := by simp [modPort, Com.blank, Tsu.blank, Dxd.blank, h0]

@[simp ↓] theorem modPort_tsu_blank {W : Part → Bool} (p : Nat) (f : Port → Port) (s : State) (h0 : W (.com .tsu .ports) = true) :
    (modPort .tsu p f s).blank W = s.blank W := by simp [modPort, Com.blank, Tsu.blank, Dxd.blank, h0]

@[simp ↓] theorem noteRaise_tsu_blank {W : Part → Bool} (n : Nat) (was : Bool) (s : State) (h0 : W (.com .tsu .ic) = true) :
    (noteRaise .tsu n was s).blank W = s.blank W := by simp [noteRaise, Com.blank, Tsu.blank, Dxd.blank, h0]

@[simp ↓] theorem noteRaise_dxd_blank {W : Part → Bool} (n : Nat) (was : Bool) (s : State) (h0 : W (.com .dxd .ic) = true) :
    (noteRaise .dxd n was s).blank W = s.blank W := by simp [noteRaise, Com.blank, Tsu.blank, Dxd.blank, h0]

@[simp ↓] theorem raiseMask_dxd_blank {W : Part → Bool} (pg : Nat) (m : Word) (s : State) (h0 : W (.com .dxd .pgEvent) = true) (h1 : W (.com .dxd .ic) = true) :
    (raiseMask .dxd pg m s).blank W = s.blank W := by simp [raiseMask, Com.blank, Tsu.blank, Dxd.blank, h0, h1]

@[simp ↓] theorem raiseMask_tsu_blank {W : Part → Bool} (pg : Nat) (m : Word) (s : State) (h0 : W (.com .tsu .pgEvent) = true) (h1 : W (.com .tsu .ic) = true) :
    (raiseMask .tsu pg m s).blank W = s.blank W := by simp [raiseMask, Com.blank, Tsu.blank, Dxd.blank, h0, h1]

@[simp ↓] theorem raise_dxd_blank {W : Part → Bool} (pg : Nat) (b : Nat) (s : State) (h0 : W (.com .dxd .pgEvent) = true) (h1 : W (.com .dxd .ic) = true) :
    (raise .dxd pg b s).blank W = s.blank W := by simp [raise, Com.blank, Tsu.blank, Dxd.blank, h0, h1]

@[simp ↓] theorem raise_tsu_blank {W : Part → Bool} (pg : Nat) (b : Nat) (s : State) (h0 : W (.com .tsu .pgEvent) = true) (h1 : W (.com .tsu .ic) = true) :
    (raise .tsu pg b s).blank W = s.blank W := by simp [raise, Com.blank, Tsu.blank, Dxd.blank, h0, h1]

@[simp ↓] theorem raiseIf_tsu_blank {W : Part → Bool} (c : Bool) (pg : Nat) (b : Nat) (s : State) (h0 : W (.com .tsu .pgEvent) = true) (h1 : W (.com .tsu .ic) = true) :
    (raiseIf c .tsu pg b s).blank W = s.blank W := by simp [raiseIf, Com.blank, Tsu.blank, Dxd.blank, h0, h1]

@[simp ↓] theorem raiseIf_dxd_blank {W : Part → Bool} (c : Bool) (pg : Nat) (b : Nat) (s : State) (h0 : W (.com .dxd .pgEvent) = true) (h1 : W (.com .dxd .ic) = true) :
    (raiseIf c .dxd pg b s).blank W = s.blank W := by simp [raiseIf, Com.blank, Tsu.blank, Dxd.blank, h0, h1]

@[simp ↓] theorem raiseLocal_blank {W : Part → Bool} (i : Nat) (s : State) (h0 : W (.com .tsu .ic) = true) :
    (raiseLocal i s).blank W = s.blank W := by simp [raiseLocal, Com.blank, Tsu.blank, Dxd.blank, h0]

@[simp ↓] theorem icDo_tsu_blank {W : Part → Bool} (f : Ic → Ic) (s : State) (h0 : W (.com .tsu .ic) = true) :
    (icDo .tsu f s).blank W = s.blank W := by simp [icDo, Com.blank, Tsu.blank, Dxd.blank, h0]

@[simp ↓] theorem icDo_dxd_blank {W : Part → Bool} (f : Ic → Ic) (s : State) (h0 : W (.com .dxd .ic) = true) :
    (icDo .dxd f s).blank W = s.blank W := by simp [icDo, Com.blank, Tsu.blank, Dxd.blank, h0]

@[simp ↓] theorem voidFits_tsu_blank {W : Part → Bool} (s : State) (h0 : W (.com .tsu .msets) = true) (h1 : W (.com .tsu .hfits) = true) :
    (voidFits .tsu s).blank W = s.blank W := by simp [voidFits, Com.blank, Tsu.blank, Dxd.blank, h0, h1]

@[simp ↓] theorem voidFits_dxd_blank {W : Part → Bool} (s : State) (h0 : W (.com .dxd .msets) = true) (h1 : W (.com .dxd .hfits) = true) :
    (voidFits .dxd s).blank W = s.blank W := by simp [voidFits, Com.blank, Tsu.blank, Dxd.blank, h0, h1]

@[simp ↓] theorem raiseTime_tsu_blank {W : Part → Bool} (b : Nat) (s : State) (h0 : W (.com .tsu .pgEvent) = true) (h1 : W (.com .tsu .ic) = true) (h2 : W (.com .tsu .msets) = true) (h3 : W (.com .tsu .hfits) = true) :
    (raiseTime .tsu b s).blank W = s.blank W := by simp [raiseTime, Com.blank, Tsu.blank, Dxd.blank, h0, h1, h2, h3]

@[simp ↓] theorem raiseTime_dxd_blank {W : Part → Bool} (b : Nat) (s : State) (h0 : W (.com .dxd .pgEvent) = true) (h1 : W (.com .dxd .ic) = true) (h2 : W (.com .dxd .msets) = true) (h3 : W (.com .dxd .hfits) = true) :
    (raiseTime .dxd b s).blank W = s.blank W := by simp [raiseTime, Com.blank, Tsu.blank, Dxd.blank, h0, h1, h2, h3]

@[simp ↓] theorem setTimeState_tsu_blank {W : Part → Bool} (n : Nat) (s : State) (h0 : W (.com .tsu .pgEvent) = true) (h1 : W (.com .tsu .ic) = true) (h2 : W (.com .tsu .tk) = true) :
    (setTimeState .tsu n s).blank W = s.blank W := by simp [setTimeState, Com.blank, Tsu.blank, Dxd.blank, h0, h1, h2]

@[simp ↓] theorem setTimeState_dxd_blank {W : Part → Bool} (n : Nat) (s : State) (h0 : W (.com .dxd .pgEvent) = true) (h1 : W (.com .dxd .ic) = true) (h2 : W (.com .dxd .tk) = true) :
    (setTimeState .dxd n s).blank W = s.blank W := by simp [setTimeState, Com.blank, Tsu.blank, Dxd.blank, h0, h1, h2]

@[simp ↓] theorem setRootHoldover_dxd_blank {W : Part → Bool} (b : Bool) (s : State) (h0 : W (.com .dxd .pgEvent) = true) (h1 : W (.com .dxd .ic) = true) (h2 : W (.com .dxd .tk) = true) :
    (setRootHoldover .dxd b s).blank W = s.blank W := by simp [setRootHoldover, Com.blank, Tsu.blank, Dxd.blank, h0, h1, h2]

@[simp ↓] theorem setRootHoldover_tsu_blank {W : Part → Bool} (b : Bool) (s : State) (h0 : W (.com .tsu .pgEvent) = true) (h1 : W (.com .tsu .ic) = true) (h2 : W (.com .tsu .tk) = true) :
    (setRootHoldover .tsu b s).blank W = s.blank W := by simp [setRootHoldover, Com.blank, Tsu.blank, Dxd.blank, h0, h1, h2]

@[simp ↓] theorem setTrace_tsu_blank {W : Part → Bool} (tr : Bool) (ol : Bool) (s : State) (h0 : W (.com .tsu .pgEvent) = true) (h1 : W (.com .tsu .ic) = true) (h2 : W (.com .tsu .tk) = true) :
    (setTrace .tsu tr ol s).blank W = s.blank W := by simp [setTrace, Com.blank, Tsu.blank, Dxd.blank, h0, h1, h2]

@[simp ↓] theorem setTrace_dxd_blank {W : Part → Bool} (tr : Bool) (ol : Bool) (s : State) (h0 : W (.com .dxd .pgEvent) = true) (h1 : W (.com .dxd .ic) = true) (h2 : W (.com .dxd .tk) = true) :
    (setTrace .dxd tr ol s).blank W = s.blank W := by simp [setTrace, Com.blank, Tsu.blank, Dxd.blank, h0, h1, h2]

@[simp ↓] theorem countBad_dxd_blank {W : Part → Bool} (pg : Nat) (s : State) (h0 : W (.com .dxd .badAccess) = true) :
    (countBad .dxd pg s).blank W = s.blank W := by simp [countBad, Com.blank, Tsu.blank, Dxd.blank, h0]

@[simp ↓] theorem countBad_tsu_blank {W : Part → Bool} (pg : Nat) (s : State) (h0 : W (.com .tsu .badAccess) = true) :
    (countBad .tsu pg s).blank W = s.blank W := by simp [countBad, Com.blank, Tsu.blank, Dxd.blank, h0]

@[simp ↓] theorem dropHalf_tsu_blank {W : Part → Bool} (rq : Nat) (s : State) :
    (dropHalf .tsu rq s).blank W = s.blank W := by simp [dropHalf, Com.blank, Tsu.blank, Dxd.blank]

@[simp ↓] theorem dropHalf_dxd_blank {W : Part → Bool} (rq : Nat) (s : State) (h0 : W (.com .dxd .badAccess) = true) (h1 : W (.com .dxd .barLow) = true) (h2 : W (.com .dxd .barCap) = true) :
    (dropHalf .dxd rq s).blank W = s.blank W := by
  unfold dropHalf
  (repeat' split) <;> simp [Com.blank, Tsu.blank, Dxd.blank, h0, h1, h2]

@[simp ↓] theorem holdAccess_dxd_blank {W : Part → Bool} (a : HeldAccess) (s : State) (h0 : W (.com .dxd .bt) = true) :
    (holdAccess .dxd a s).blank W = s.blank W := by simp [holdAccess, Com.blank, Tsu.blank, Dxd.blank, h0]

@[simp ↓] theorem holdAccess_tsu_blank {W : Part → Bool} (a : HeldAccess) (s : State) (h0 : W (.com .tsu .bt) = true) :
    (holdAccess .tsu a s).blank W = s.blank W := by simp [holdAccess, Com.blank, Tsu.blank, Dxd.blank, h0]

@[simp ↓] theorem applyWrite_tsu_blank {W : Part → Bool} (pg : Nat) (off : Nat) (f : State → State) (s : State) (hf : ∀ s, (f s).blank W = s.blank W) (h0 : W (.com .tsu .lockRefused) = true) :
    (applyWrite .tsu pg off f s).blank W = s.blank W := by simp [applyWrite, Com.blank, Tsu.blank, Dxd.blank, hf, h0]

@[simp ↓] theorem applyWrite_dxd_blank {W : Part → Bool} (pg : Nat) (off : Nat) (f : State → State) (s : State) (hf : ∀ s, (f s).blank W = s.blank W) (h0 : W (.com .dxd .lockRefused) = true) :
    (applyWrite .dxd pg off f s).blank W = s.blank W := by simp [applyWrite, Com.blank, Tsu.blank, Dxd.blank, hf, h0]

@[simp ↓] theorem admitWrite_dxd_blank {W : Part → Bool} (rq : Nat) (pg : Nat) (off : Nat) (v : Word) (f : State → State) (s : State) (hf : ∀ s, (f s).blank W = s.blank W) (h0 : W (.com .dxd .badAccess) = true) (h1 : W (.com .dxd .barLow) = true) (h2 : W (.com .dxd .barCap) = true) (h3 : W (.com .dxd .bt) = true) (h4 : W (.com .dxd .lockRefused) = true) :
    (admitWrite .dxd rq pg off v f s).blank W = s.blank W := by simp [admitWrite, Com.blank, Tsu.blank, Dxd.blank, hf, h0, h1, h2, h3, h4]

@[simp ↓] theorem admitWrite_tsu_blank {W : Part → Bool} (rq : Nat) (pg : Nat) (off : Nat) (v : Word) (f : State → State) (s : State) (hf : ∀ s, (f s).blank W = s.blank W) (h0 : W (.com .tsu .bt) = true) (h1 : W (.com .tsu .lockRefused) = true) :
    (admitWrite .tsu rq pg off v f s).blank W = s.blank W := by simp [admitWrite, Com.blank, Tsu.blank, Dxd.blank, hf, h0, h1]

@[simp ↓] theorem respond_tsu_blank {W : Part → Bool} (rq : Nat) (v : Word) (s : State) (h0 : W (.com .tsu .rsp) = true) :
    (respond .tsu rq v s).blank W = s.blank W := by simp [respond, Com.blank, Tsu.blank, Dxd.blank, h0]

@[simp ↓] theorem respond_dxd_blank {W : Part → Bool} (rq : Nat) (v : Word) (s : State) (h0 : W (.com .dxd .rsp) = true) :
    (respond .dxd rq v s).blank W = s.blank W := by simp [respond, Com.blank, Tsu.blank, Dxd.blank, h0]

@[simp ↓] theorem applyRead_tsu_blank {W : Part → Bool} (rq : Nat) (pg : Nat) (v : Word) (f : State → State) (s : State) (hf : ∀ s, (f s).blank W = s.blank W) (h0 : W (.com .tsu .rsp) = true) :
    (applyRead .tsu rq pg v f s).blank W = s.blank W := by simp [applyRead, Com.blank, Tsu.blank, Dxd.blank, hf, h0]

@[simp ↓] theorem applyRead_dxd_blank {W : Part → Bool} (rq : Nat) (pg : Nat) (v : Word) (f : State → State) (s : State) (hf : ∀ s, (f s).blank W = s.blank W) (h0 : W (.com .dxd .rsp) = true) :
    (applyRead .dxd rq pg v f s).blank W = s.blank W := by simp [applyRead, Com.blank, Tsu.blank, Dxd.blank, hf, h0]

@[simp ↓] theorem admitRead_tsu_blank {W : Part → Bool} (rq : Nat) (pg : Nat) (off : Nat) (v : State → Word) (f : State → State) (s : State) (hf : ∀ s, (f s).blank W = s.blank W) (h0 : W (.com .tsu .bt) = true) (h1 : W (.com .tsu .rsp) = true) :
    (admitRead .tsu rq pg off v f s).blank W = s.blank W := by simp [admitRead, Com.blank, Tsu.blank, Dxd.blank, hf, h0, h1]

@[simp ↓] theorem admitRead_dxd_blank {W : Part → Bool} (rq : Nat) (pg : Nat) (off : Nat) (v : State → Word) (f : State → State) (s : State) (hf : ∀ s, (f s).blank W = s.blank W) (h0 : W (.com .dxd .badAccess) = true) (h1 : W (.com .dxd .barLow) = true) (h2 : W (.com .dxd .barCap) = true) (h3 : W (.com .dxd .bt) = true) (h4 : W (.com .dxd .rsp) = true) :
    (admitRead .dxd rq pg off v f s).blank W = s.blank W := by simp [admitRead, Com.blank, Tsu.blank, Dxd.blank, hf, h0, h1, h2, h3, h4]

@[simp ↓] theorem setReg_dxd_blank {W : Part → Bool} (a : Nat) (mask : Word) (v : Word) (s : State) (h0 : W (.com .dxd .regs) = true) :
    (setReg .dxd a mask v s).blank W = s.blank W := by simp [setReg, Com.blank, Tsu.blank, Dxd.blank, h0]

@[simp ↓] theorem setReg_tsu_blank {W : Part → Bool} (a : Nat) (mask : Word) (v : Word) (s : State) (h0 : W (.com .tsu .regs) = true) :
    (setReg .tsu a mask v s).blank W = s.blank W := by simp [setReg, Com.blank, Tsu.blank, Dxd.blank, h0]

end Sys2Proof.Machine
end

