-- ==== Sys2Proof/Laws/FrameFitBase.lean ====
section
/-!
SUPPORT. What the operations of Machine/FitBase.lean can change.
-/

namespace Sys2Proof.Machine

@[simp ↓] theorem startFit_tsu_blank {W : Part → Bool} (key : Nat) (ch : Nat) (fnom : Nat) (e : Nat) (gateMs : Nat) (w : Nat) (s : State) (h0 : W (.com .tsu .hfits) = true) :
    (startFit .tsu key ch fnom e gateMs w s).blank W = s.blank W := by simp [startFit, Com.blank, Tsu.blank, Dxd.blank, h0]

@[simp ↓] theorem startFit_dxd_blank {W : Part → Bool} (key : Nat) (ch : Nat) (fnom : Nat) (e : Nat) (gateMs : Nat) (w : Nat) (s : State) (h0 : W (.com .dxd .hfits) = true) :
    (startFit .dxd key ch fnom e gateMs w s).blank W = s.blank W := by simp [startFit, Com.blank, Tsu.blank, Dxd.blank, h0]

@[simp ↓] theorem dropFit_dxd_blank {W : Part → Bool} (key : Nat) (s : State) (h0 : W (.com .dxd .hfits) = true) :
    (dropFit .dxd key s).blank W = s.blank W := by simp [dropFit, Com.blank, Tsu.blank, Dxd.blank, h0]

@[simp ↓] theorem dropFit_tsu_blank {W : Part → Bool} (key : Nat) (s : State) (h0 : W (.com .tsu .hfits) = true) :
    (dropFit .tsu key s).blank W = s.blank W := by simp [dropFit, Com.blank, Tsu.blank, Dxd.blank, h0]

@[simp ↓] theorem feedFit_dxd_blank {W : Part → Bool} (key : Nat) (stamp : Option Nat) (s : State) (h0 : W (.com .dxd .hfits) = true) :
    (feedFit .dxd key stamp s).blank W = s.blank W := by simp [feedFit, Com.blank, Tsu.blank, Dxd.blank, h0]

@[simp ↓] theorem feedFit_tsu_blank {W : Part → Bool} (key : Nat) (stamp : Option Nat) (s : State) (h0 : W (.com .tsu .hfits) = true) :
    (feedFit .tsu key stamp s).blank W = s.blank W := by simp [feedFit, Com.blank, Tsu.blank, Dxd.blank, h0]

end Sys2Proof.Machine
end

