-- ==== Sys2Proof/Laws/FrameFrames.lean ====
section
/-!
SUPPORT. What the operations of Machine/Frames.lean can change.
-/

namespace Sys2Proof.Machine

@[simp ↓] theorem enqueue_dxd_blank {W : Part → Bool} (p : Nat) (src : Option Nat) (f : Frame) (s : State) (h0 : W (.com .dxd .ports) = true) :
    (enqueue .dxd p src f s).blank W = s.blank W := by simp [enqueue, Com.blank, Tsu.blank, Dxd.blank, h0]

@[simp ↓] theorem enqueue_tsu_blank {W : Part → Bool} (p : Nat) (src : Option Nat) (f : Frame) (s : State) (h0 : W (.com .tsu .ports) = true) :
    (enqueue .tsu p src f s).blank W = s.blank W := by simp [enqueue, Com.blank, Tsu.blank, Dxd.blank, h0]

@[simp ↓] theorem enqueueAll_tsu_blank {W : Part → Bool} (ps : List Nat) (src : Option Nat) (f : Frame) (s : State) (h0 : W (.com .tsu .ports) = true) :
    (enqueueAll .tsu ps src f s).blank W = s.blank W := by simp [enqueueAll, Com.blank, Tsu.blank, Dxd.blank, h0]

@[simp ↓] theorem enqueueAll_dxd_blank {W : Part → Bool} (ps : List Nat) (src : Option Nat) (f : Frame) (s : State) (h0 : W (.com .dxd .ports) = true) :
    (enqueueAll .dxd ps src f s).blank W = s.blank W := by simp [enqueueAll, Com.blank, Tsu.blank, Dxd.blank, h0]

@[simp ↓] theorem takeLink_dxd_blank {W : Part → Bool} (p : Nat) (h : LinkHdr) (s : State) (h0 : W (.com .dxd .ports) = true) :
    (takeLink .dxd p h s).blank W = s.blank W := by simp [takeLink, Com.blank, Tsu.blank, Dxd.blank, h0]

@[simp ↓] theorem takeLink_tsu_blank {W : Part → Bool} (p : Nat) (h : LinkHdr) (s : State) (h0 : W (.com .tsu .ports) = true) :
    (takeLink .tsu p h s).blank W = s.blank W := by simp [takeLink, Com.blank, Tsu.blank, Dxd.blank, h0]

@[simp ↓] theorem setNak_dxd_blank {W : Part → Bool} (p : Nat) (s : State) (h0 : W (.com .dxd .ports) = true) :
    (setNak .dxd p s).blank W = s.blank W := by simp [setNak, Com.blank, Tsu.blank, Dxd.blank, h0]

@[simp ↓] theorem setNak_tsu_blank {W : Part → Bool} (p : Nat) (s : State) (h0 : W (.com .tsu .ports) = true) :
    (setNak .tsu p s).blank W = s.blank W := by simp [setNak, Com.blank, Tsu.blank, Dxd.blank, h0]

@[simp ↓] theorem acceptSeq_dxd_blank {W : Part → Bool} (p : Nat) (seq : Nat) (s : State) (h0 : W (.com .dxd .ports) = true) :
    (acceptSeq .dxd p seq s).blank W = s.blank W := by simp [acceptSeq, Com.blank, Tsu.blank, Dxd.blank, h0]

@[simp ↓] theorem acceptSeq_tsu_blank {W : Part → Bool} (p : Nat) (seq : Nat) (s : State) (h0 : W (.com .tsu .ports) = true) :
    (acceptSeq .tsu p seq s).blank W = s.blank W := by simp [acceptSeq, Com.blank, Tsu.blank, Dxd.blank, h0]

@[simp ↓] theorem takeFrame_dxd_blank {W : Part → Bool} (p : Nat) (fr : Frame) (f : State → State) (s : State) (hf : ∀ s, (f s).blank W = s.blank W) (h0 : W (.com .dxd .ports) = true) :
    (takeFrame .dxd p fr f s).blank W = s.blank W := by simp [takeFrame, Com.blank, Tsu.blank, Dxd.blank, hf, h0]

@[simp ↓] theorem takeFrame_tsu_blank {W : Part → Bool} (p : Nat) (fr : Frame) (f : State → State) (s : State) (hf : ∀ s, (f s).blank W = s.blank W) (h0 : W (.com .tsu .ports) = true) :
    (takeFrame .tsu p fr f s).blank W = s.blank W := by simp [takeFrame, Com.blank, Tsu.blank, Dxd.blank, hf, h0]

@[simp ↓] theorem recvRetained_tsu_blank {W : Part → Bool} (p : Nat) (h : LinkHdr) (fr : Frame) (f : State → State) (s : State) (hf : ∀ s, (f s).blank W = s.blank W) (h0 : W (.com .tsu .ports) = true) :
    (recvRetained .tsu p h fr f s).blank W = s.blank W := by simp [recvRetained, Com.blank, Tsu.blank, Dxd.blank, hf, h0]

@[simp ↓] theorem recvRetained_dxd_blank {W : Part → Bool} (p : Nat) (h : LinkHdr) (fr : Frame) (f : State → State) (s : State) (hf : ∀ s, (f s).blank W = s.blank W) (h0 : W (.com .dxd .ports) = true) :
    (recvRetained .dxd p h fr f s).blank W = s.blank W := by simp [recvRetained, Com.blank, Tsu.blank, Dxd.blank, hf, h0]

@[simp ↓] theorem oseqTake_dxd_blank {W : Part → Bool} (q : Nat) (s : State) (h0 : W (.com .dxd .oseq) = true) :
    (oseqTake .dxd q s).blank W = s.blank W := by simp [oseqTake, Com.blank, Tsu.blank, Dxd.blank, h0]

@[simp ↓] theorem oseqTake_tsu_blank {W : Part → Bool} (q : Nat) (s : State) (h0 : W (.com .tsu .oseq) = true) :
    (oseqTake .tsu q s).blank W = s.blank W := by simp [oseqTake, Com.blank, Tsu.blank, Dxd.blank, h0]

@[simp ↓] theorem byOseq_tsu_blank {W : Part → Bool} (q : Nat) (f : State → State) (s : State) (hf : ∀ s, (f s).blank W = s.blank W) (h0 : W (.com .tsu .oseq) = true) :
    (byOseq .tsu q f s).blank W = s.blank W := by simp [byOseq, Com.blank, Tsu.blank, Dxd.blank, hf, h0]

@[simp ↓] theorem byOseq_dxd_blank {W : Part → Bool} (q : Nat) (f : State → State) (s : State) (hf : ∀ s, (f s).blank W = s.blank W) (h0 : W (.com .dxd .oseq) = true) :
    (byOseq .dxd q f s).blank W = s.blank W := by simp [byOseq, Com.blank, Tsu.blank, Dxd.blank, hf, h0]

@[simp ↓] theorem bySeen_tsu_blank {W : Part → Bool} (i : SeenId) (f : State → State) (s : State) (hf : ∀ s, (f s).blank W = s.blank W) (h0 : W (.com .tsu .seen) = true) :
    (bySeen .tsu i f s).blank W = s.blank W := by simp [bySeen, Com.blank, Tsu.blank, Dxd.blank, hf, h0]

@[simp ↓] theorem bySeen_dxd_blank {W : Part → Bool} (i : SeenId) (f : State → State) (s : State) (hf : ∀ s, (f s).blank W = s.blank W) (h0 : W (.com .dxd .seen) = true) :
    (bySeen .dxd i f s).blank W = s.blank W := by simp [bySeen, Com.blank, Tsu.blank, Dxd.blank, hf, h0]

@[simp ↓] theorem portEvent_tsu_blank {W : Part → Bool} (p : Nat) (b : Nat) (s : State) (h0 : W (.com .tsu .ports) = true) (h1 : W (.com .tsu .pgEvent) = true) (h2 : W (.com .tsu .ic) = true) :
    (portEvent .tsu p b s).blank W = s.blank W := by simp [portEvent, Com.blank, Tsu.blank, Dxd.blank, h0, h1, h2]

@[simp ↓] theorem portEvent_dxd_blank {W : Part → Bool} (p : Nat) (b : Nat) (s : State) (h0 : W (.com .dxd .ports) = true) (h1 : W (.com .dxd .pgEvent) = true) (h2 : W (.com .dxd .ic) = true) :
    (portEvent .dxd p b s).blank W = s.blank W := by simp [portEvent, Com.blank, Tsu.blank, Dxd.blank, h0, h1, h2]

end Sys2Proof.Machine
end

