-- ==== Sys2Proof/Laws/FrameTimeKeep.lean ====
section
/-!
SUPPORT. What the operations of Machine/TimeKeep.lean can change.
-/

namespace Sys2Proof.Machine

@[simp ↓] theorem modCore_dxd_blank {W : Part → Bool} (c : Nat) (f : Core → Core) (s : State) (h0 : W (.com .dxd .coreA) = true) (h1 : W (.com .dxd .coreB) = true) :
    (modCore .dxd c f s).blank W = s.blank W := by
  unfold modCore
  (repeat' split) <;> simp [Com.blank, Tsu.blank, Dxd.blank, h0, h1]

@[simp ↓] theorem modCore_tsu_blank {W : Part → Bool} (c : Nat) (f : Core → Core) (s : State) (h0 : W (.com .tsu .coreA) = true) (h1 : W (.com .tsu .coreB) = true) :
    (modCore .tsu c f s).blank W = s.blank W := by
  unfold modCore
  (repeat' split) <;> simp [Com.blank, Tsu.blank, Dxd.blank, h0, h1]

@[simp ↓] theorem startPull_dxd_blank {W : Part → Bool} (r : Int) (s : State) (h0 : W (.com .dxd .tk) = true) (h1 : W .hold = true) (h2 : W (.com .dxd .pgEvent) = true) (h3 : W (.com .dxd .ic) = true) :
    (startPull .dxd r s).blank W = s.blank W := by simp [startPull, Com.blank, Tsu.blank, Dxd.blank, h0, h1, h2, h3]

@[simp ↓] theorem startPull_tsu_blank {W : Part → Bool} (r : Int) (s : State) (h0 : W (.com .tsu .tk) = true) :
    (startPull .tsu r s).blank W = s.blank W := by simp [startPull, Com.blank, Tsu.blank, Dxd.blank, h0]

@[simp ↓] theorem history_blank {W : Part → Bool} (b : Nat) (s : State) (h0 : W (.com .dxd .pgEvent) = true) (h1 : W (.com .dxd .ic) = true) (h2 : W .hold = true) :
    (history b s).blank W = s.blank W := by simp [history, Com.blank, Tsu.blank, Dxd.blank, h0, h1, h2]

@[simp ↓] theorem dropForce_blank {W : Part → Bool} (s : State) (h0 : W (.com .tsu .tk) = true) :
    (dropForce s).blank W = s.blank W := by
  unfold dropForce
  (repeat' split) <;> simp [Com.blank, Tsu.blank, Dxd.blank, h0]

@[simp ↓] theorem coreFollow_blank {W : Part → Bool} (c : Nat) (s : State) (h0 : W (.com .tsu .coreA) = true) (h1 : W (.com .tsu .coreB) = true) :
    (coreFollow c s).blank W = s.blank W := by simp [coreFollow, Com.blank, Tsu.blank, Dxd.blank, h0, h1]

@[simp ↓] theorem noteSourceless_blank {W : Part → Bool} (s : State) (h0 : W .member = true) :
    (noteSourceless s).blank W = s.blank W := by simp [noteSourceless, Com.blank, Tsu.blank, Dxd.blank, h0]

@[simp ↓] theorem answerCensus_blank {W : Part → Bool} (c : CensusUpF) (s : State) (h0 : W (.com .tsu .ports) = true) (h1 : W .huddles = true) :
    (answerCensus c s).blank W = s.blank W := by simp [answerCensus, Com.blank, Tsu.blank, Dxd.blank, h0, h1]

@[simp ↓] theorem sendHeld_blank {W : Part → Bool} (s : State) (h0 : W (.com .tsu .ports) = true) (h1 : W .huddles = true) :
    (sendHeld s).blank W = s.blank W := by simp [sendHeld, Com.blank, Tsu.blank, Dxd.blank, h0, h1]

@[simp ↓] theorem tsuReselect_blank {W : Part → Bool} (s : State) (h0 : W .member = true) (h1 : W (.com .tsu .coreA) = true) (h2 : W (.com .tsu .coreB) = true) (h3 : W (.com .tsu .tk) = true) (h4 : W (.com .tsu .pgEvent) = true) (h5 : W (.com .tsu .ic) = true) (h6 : W (.com .tsu .msets) = true) (h7 : W (.com .tsu .hfits) = true) (h8 : W (.com .tsu .ports) = true) (h9 : W .huddles = true) :
    (tsuReselect s).blank W = s.blank W := by simp [tsuReselect, Com.blank, Tsu.blank, Dxd.blank, h0, h1, h2, h3, h4, h5, h6, h7, h8, h9]

@[simp ↓] theorem modSrc_blank {W : Part → Bool} (n : Nat) (f : RefSrc → RefSrc) (s : State) (h0 : W .refs = true) :
    (modSrc n f s).blank W = s.blank W := by simp [modSrc, Com.blank, Tsu.blank, Dxd.blank, h0]

@[simp ↓] theorem startFirstFit_tsu_blank {W : Part → Bool} (c : Nat) (s : State) (h0 : W (.com .tsu .hfits) = true) :
    (startFirstFit .tsu c s).blank W = s.blank W := by simp [startFirstFit, Com.blank, Tsu.blank, Dxd.blank, h0]

@[simp ↓] theorem startFirstFit_dxd_blank {W : Part → Bool} (c : Nat) (s : State) (h0 : W (.com .dxd .hfits) = true) (h1 : W .hold = true) (h2 : W (.com .dxd .coreA) = true) (h3 : W (.com .dxd .coreB) = true) :
    (startFirstFit .dxd c s).blank W = s.blank W := by simp [startFirstFit, Com.blank, Tsu.blank, Dxd.blank, h0, h1, h2, h3]

@[simp ↓] theorem follow_blank {W : Part → Bool} (n : Nat) (viaList : Bool) (s : State) (h0 : W .refs = true) (h1 : W (.com .dxd .coreA) = true) (h2 : W (.com .dxd .coreB) = true) (h3 : W (.com .dxd .tk) = true) (h4 : W (.com .dxd .pgEvent) = true) (h5 : W (.com .dxd .ic) = true) (h6 : W .hold = true) (h7 : W (.com .dxd .hfits) = true) (h8 : W (.com .dxd .msets) = true) :
    (follow n viaList s).blank W = s.blank W := by simp [follow, Com.blank, Tsu.blank, Dxd.blank, h0, h1, h2, h3, h4, h5, h6, h7, h8]

@[simp ↓] theorem leaveTwin_blank {W : Part → Bool} (s : State) (h0 : W .refs = true) (h1 : W (.com .dxd .coreA) = true) (h2 : W (.com .dxd .coreB) = true) (h3 : W (.com .dxd .tk) = true) (h4 : W (.com .dxd .pgEvent) = true) (h5 : W (.com .dxd .ic) = true) (h6 : W .hold = true) (h7 : W (.com .dxd .hfits) = true) (h8 : W (.com .dxd .msets) = true) :
    (leaveTwin s).blank W = s.blank W := by
  unfold leaveTwin
  (repeat' split) <;> simp [Com.blank, Tsu.blank, Dxd.blank, h0, h1, h2, h3, h4, h5, h6, h7, h8]

@[simp ↓] theorem sourceLost_blank {W : Part → Bool} (n : Nat) (s : State) (h0 : W .ptp = true) (h1 : W (.com .dxd .pgEvent) = true) (h2 : W (.com .dxd .ic) = true) (h3 : W .hold = true) (h4 : W .refs = true) (h5 : W (.com .dxd .coreA) = true) (h6 : W (.com .dxd .coreB) = true) (h7 : W (.com .dxd .tk) = true) (h8 : W (.com .dxd .hfits) = true) (h9 : W (.com .dxd .msets) = true) :
    (sourceLost n s).blank W = s.blank W := by
  unfold sourceLost
  dsimp only
  (repeat' split) <;> simp [Com.blank, Tsu.blank, Dxd.blank, h0, h1, h2, h3, h4, h5, h6, h7, h8, h9]

@[simp ↓] theorem rootSelect_blank {W : Part → Bool} (s : State) (h0 : W .refs = true) (h1 : W .ptp = true) (h2 : W (.com .dxd .pgEvent) = true) (h3 : W (.com .dxd .ic) = true) (h4 : W .hold = true) (h5 : W (.com .dxd .coreA) = true) (h6 : W (.com .dxd .coreB) = true) (h7 : W (.com .dxd .tk) = true) (h8 : W (.com .dxd .hfits) = true) (h9 : W (.com .dxd .msets) = true) :
    (rootSelect s).blank W = s.blank W := by
  unfold rootSelect
  (repeat' split) <;> (simp [Com.blank, Tsu.blank, Dxd.blank, h0, h1, h2, h3, h4, h5, h6, h7, h8, h9] <;> (repeat' split) <;> simp [Com.blank, Tsu.blank, Dxd.blank, h0, h1, h2, h3, h4, h5, h6, h7, h8, h9])

@[simp ↓] theorem writeRecord_blank {W : Part → Bool} (rate : Int) (s : State) (h0 : W .hold = true) (h1 : W .attic = true) :
    (writeRecord rate s).blank W = s.blank W := by simp [writeRecord, Com.blank, Tsu.blank, Dxd.blank, h0, h1]

@[simp ↓] theorem enterHoldover_blank {W : Part → Bool} (s : State) (h0 : W (.com .dxd .coreA) = true) (h1 : W (.com .dxd .coreB) = true) (h2 : W (.com .dxd .pgEvent) = true) (h3 : W (.com .dxd .ic) = true) (h4 : W .hold = true) (h5 : W .attic = true) :
    (enterHoldover s).blank W = s.blank W := by simp [enterHoldover, Com.blank, Tsu.blank, Dxd.blank, h0, h1, h2, h3, h4, h5]

@[simp ↓] theorem dropForceDxd_blank {W : Part → Bool} (s : State) (h0 : W (.com .dxd .tk) = true) :
    (dropForceDxd s).blank W = s.blank W := by
  unfold dropForceDxd
  (repeat' split) <;> simp [Com.blank, Tsu.blank, Dxd.blank, h0]

@[simp ↓] theorem showDxdState_blank {W : Part → Bool} (s : State) (h0 : W (.com .dxd .pgEvent) = true) (h1 : W (.com .dxd .ic) = true) (h2 : W (.com .dxd .tk) = true) (h3 : W .hold = true) :
    (showDxdState s).blank W = s.blank W := by simp [showDxdState, Com.blank, Tsu.blank, Dxd.blank, h0, h1, h2, h3]

@[simp ↓] theorem dxdReselect_blank {W : Part → Bool} (s : State) (h0 : W (.com .dxd .tk) = true) (h1 : W .refs = true) (h2 : W .ptp = true) (h3 : W (.com .dxd .pgEvent) = true) (h4 : W (.com .dxd .ic) = true) (h5 : W .hold = true) (h6 : W (.com .dxd .coreA) = true) (h7 : W (.com .dxd .coreB) = true) (h8 : W (.com .dxd .hfits) = true) (h9 : W (.com .dxd .msets) = true) (h10 : W .attic = true) :
    (dxdReselect s).blank W = s.blank W := by simp [dxdReselect, Com.blank, Tsu.blank, Dxd.blank, h0, h1, h2, h3, h4, h5, h6, h7, h8, h9, h10]

@[simp ↓] theorem reselect_dxd_blank {W : Part → Bool} (s : State) (h0 : W (.com .dxd .tk) = true) (h1 : W .refs = true) (h2 : W .ptp = true) (h3 : W (.com .dxd .pgEvent) = true) (h4 : W (.com .dxd .ic) = true) (h5 : W .hold = true) (h6 : W (.com .dxd .coreA) = true) (h7 : W (.com .dxd .coreB) = true) (h8 : W (.com .dxd .hfits) = true) (h9 : W (.com .dxd .msets) = true) (h10 : W .attic = true) :
    (reselect .dxd s).blank W = s.blank W := by simp [reselect, Com.blank, Tsu.blank, Dxd.blank, h0, h1, h2, h3, h4, h5, h6, h7, h8, h9, h10]

@[simp ↓] theorem reselect_tsu_blank {W : Part → Bool} (s : State) (h0 : W .member = true) (h1 : W (.com .tsu .coreA) = true) (h2 : W (.com .tsu .coreB) = true) (h3 : W (.com .tsu .tk) = true) (h4 : W (.com .tsu .pgEvent) = true) (h5 : W (.com .tsu .ic) = true) (h6 : W (.com .tsu .msets) = true) (h7 : W (.com .tsu .hfits) = true) (h8 : W (.com .tsu .ports) = true) (h9 : W .huddles = true) :
    (reselect .tsu s).blank W = s.blank W := by simp [reselect, Com.blank, Tsu.blank, Dxd.blank, h0, h1, h2, h3, h4, h5, h6, h7, h8, h9]

@[simp ↓] theorem servoSample_tsu_blank {W : Part → Bool} (c : Nat) (e : Int) (kp : Nat) (ki : Nat) (limit : Nat) (out : Nat) (s : State) (h0 : W (.com .tsu .coreA) = true) (h1 : W (.com .tsu .coreB) = true) :
    (servoSample .tsu c e kp ki limit out s).blank W = s.blank W := by simp [servoSample, Com.blank, Tsu.blank, Dxd.blank, h0, h1]

@[simp ↓] theorem servoSample_dxd_blank {W : Part → Bool} (c : Nat) (e : Int) (kp : Nat) (ki : Nat) (limit : Nat) (out : Nat) (s : State) (h0 : W (.com .dxd .coreA) = true) (h1 : W (.com .dxd .coreB) = true) (h2 : W (.com .dxd .pgEvent) = true) (h3 : W (.com .dxd .ic) = true) (h4 : W .hold = true) :
    (servoSample .dxd c e kp ki limit out s).blank W = s.blank W := by simp [servoSample, Com.blank, Tsu.blank, Dxd.blank, h0, h1, h2, h3, h4]

@[simp ↓] theorem moveRefs_blank {W : Part → Bool} (dlt : Int) (s : State) (h0 : W .refs = true) :
    (moveRefs dlt s).blank W = s.blank W := by simp [moveRefs, Com.blank, Tsu.blank, Dxd.blank, h0]

@[simp ↓] theorem loadHt.noRecord_blank {W : Part → Bool} (s : State) (h0 : W (.com .dxd .regs) = true) (h1 : W (.com .dxd .hfits) = true) (h2 : W .hold = true) (h3 : W (.com .dxd .coreA) = true) (h4 : W (.com .dxd .coreB) = true) (h5 : W (.com .dxd .pgEvent) = true) (h6 : W (.com .dxd .ic) = true) :
    (loadHt.noRecord s).blank W = s.blank W := by simp [loadHt.noRecord, Com.blank, Tsu.blank, Dxd.blank, h0, h1, h2, h3, h4, h5, h6]

@[simp ↓] theorem loadHt_tsu_blank {W : Part → Bool} (lsb : Int) (s : State) (h0 : W (.com .tsu .tk) = true) (h1 : W (.com .tsu .hfits) = true) (h2 : W (.com .tsu .coreA) = true) (h3 : W (.com .tsu .coreB) = true) :
    (loadHt .tsu lsb s).blank W = s.blank W := by simp [loadHt, Com.blank, Tsu.blank, Dxd.blank, h0, h1, h2, h3]

@[simp ↓] theorem loadHt_dxd_blank {W : Part → Bool} (lsb : Int) (s : State) (h0 : W (.com .dxd .tk) = true) (h1 : W .refs = true) (h2 : W .hold = true) (h3 : W (.com .dxd .coreA) = true) (h4 : W (.com .dxd .coreB) = true) (h5 : W (.com .dxd .regs) = true) (h6 : W (.com .dxd .hfits) = true) (h7 : W (.com .dxd .pgEvent) = true) (h8 : W (.com .dxd .ic) = true) :
    (loadHt .dxd lsb s).blank W = s.blank W := by
  unfold loadHt
  dsimp only
  (repeat' split) <;> simp [Com.blank, Tsu.blank, Dxd.blank, h0, h1, h2, h3, h4, h5, h6, h7, h8]

@[simp ↓] theorem tickTime_dxd_blank {W : Part → Bool} (s : State) (h0 : W (.com .dxd .up) = true) (h1 : W (.com .dxd .beats) = true) (h2 : W (.com .dxd .tk) = true) :
    (tickTime .dxd s).blank W = s.blank W := by simp [tickTime, Com.blank, Tsu.blank, Dxd.blank, h0, h1, h2]

@[simp ↓] theorem tickTime_tsu_blank {W : Part → Bool} (s : State) (h0 : W (.com .tsu .up) = true) (h1 : W (.com .tsu .beats) = true) (h2 : W (.com .tsu .tk) = true) :
    (tickTime .tsu s).blank W = s.blank W := by simp [tickTime, Com.blank, Tsu.blank, Dxd.blank, h0, h1, h2]

end Sys2Proof.Machine
end

