-- ==== Sys2Proof/Laws/FrameStepsBase.lean ====
section
/-!
SUPPORT. What the operations of Machine/StepsBase.lean can change.
-/

namespace Sys2Proof.Machine

@[simp ↓] theorem dropWaiter_blank {W : Part → Bool} (th : Thread) (w : Option WaitOn) (s : State) (h0 : W .signals = true) (h1 : W .huddles = true) :
    (dropWaiter th w s).blank W = s.blank W := by
  unfold dropWaiter
  (repeat' split) <;> simp [Com.blank, Tsu.blank, Dxd.blank, h0, h1]

@[simp ↓] theorem holdEvent_blank {W : Part → Bool} (th : Thread) (ev : HeldEv) (s : State) (h0 : W .cue = true) :
    (holdEvent th ev s).blank W = s.blank W := by simp [holdEvent, Com.blank, Tsu.blank, Dxd.blank, h0]

@[simp ↓] theorem goHandler_blank {W : Part → Bool} (th : Thread) (s : State) (h0 : W (.com .tsu .pgEvent) = true) (h1 : W (.com .tsu .ic) = true) (h2 : W .cue = true) (h3 : W .signals = true) (h4 : W .huddles = true) :
    (goHandler th s).blank W = s.blank W := by simp [goHandler, Com.blank, Tsu.blank, Dxd.blank, h0, h1, h2, h3, h4]

@[simp ↓] theorem takeHandler_blank {W : Part → Bool} (th : Thread) (s : State) (h0 : W .cue = true) (h1 : W (.com .tsu .pgEvent) = true) (h2 : W (.com .tsu .ic) = true) (h3 : W .signals = true) (h4 : W .huddles = true) :
    (takeHandler th s).blank W = s.blank W := by simp [takeHandler, Com.blank, Tsu.blank, Dxd.blank, h0, h1, h2, h3, h4]

@[simp ↓] theorem withdrawHuddles_blank {W : Part → Bool} (ws : List StepRec) (s : State) (h0 : W .huddles = true) :
    (withdrawHuddles ws s).blank W = s.blank W := by simp [withdrawHuddles, Com.blank, Tsu.blank, Dxd.blank, h0]

@[simp ↓] theorem dropArmEntries_blank {W : Part → Bool} (ws : List StepRec) (s : State) (h0 : W (.com .tsu .ports) = true) :
    (dropArmEntries ws s).blank W = s.blank W := by simp [dropArmEntries, Com.blank, Tsu.blank, Dxd.blank, h0]

@[simp ↓] theorem withdraw_blank {W : Part → Bool} (p : StepRec → Bool) (exp : Option Nat) (s : State) (h0 : W .steps = true) (h1 : W .tallies = true) (h2 : W (.com .tsu .ports) = true) (h3 : W .huddles = true) (h4 : W .cue = true) (h5 : W (.com .tsu .pgEvent) = true) (h6 : W (.com .tsu .ic) = true) (h7 : W .signals = true) :
    (withdraw p exp s).blank W = s.blank W := by simp [withdraw, Com.blank, Tsu.blank, Dxd.blank, h0, h1, h2, h3, h4, h5, h6, h7]

@[simp ↓] theorem withdrawSet_blank {W : Part → Bool} (p : StepRec → Bool) (s : State) (h0 : W .steps = true) (h1 : W .tallies = true) (h2 : W (.com .tsu .ports) = true) (h3 : W .huddles = true) (h4 : W .cue = true) (h5 : W (.com .tsu .pgEvent) = true) (h6 : W (.com .tsu .ic) = true) (h7 : W .signals = true) (h8 : W .member = true) :
    (withdrawSet p s).blank W = s.blank W := by
  unfold withdrawSet
  (repeat' split) <;> simp [Com.blank, Tsu.blank, Dxd.blank, h0, h1, h2, h3, h4, h5, h6, h7, h8]

@[simp ↓] theorem leaveEpoch_blank {W : Part → Bool} (next : Option Nat) (s : State) (h0 : W .steps = true) (h1 : W .tallies = true) (h2 : W (.com .tsu .ports) = true) (h3 : W .huddles = true) (h4 : W .cue = true) (h5 : W (.com .tsu .pgEvent) = true) (h6 : W (.com .tsu .ic) = true) (h7 : W .signals = true) (h8 : W .member = true) (h9 : W .keyPort = true) :
    (leaveEpoch next s).blank W = s.blank W := by simp [leaveEpoch, Com.blank, Tsu.blank, Dxd.blank, h0, h1, h2, h3, h4, h5, h6, h7, h8, h9]

@[simp ↓] theorem sendEntry_blank {W : Part → Bool} (c : CensusUpF) (s : State) (h0 : W (.com .tsu .ports) = true) (h1 : W .huddles = true) :
    (sendEntry c s).blank W = s.blank W := by simp [sendEntry, Com.blank, Tsu.blank, Dxd.blank, h0, h1]

@[simp ↓] theorem sendUp_blank {W : Part → Bool} (pl : Payload) (s : State) (h0 : W (.com .tsu .ports) = true) :
    (sendUp pl s).blank W = s.blank W := by simp [sendUp, Com.blank, Tsu.blank, Dxd.blank, h0]

end Sys2Proof.Machine
end

