-- ==== Sys2Proof/Laws/FrameTreeBase.lean ====
section
/-!
SUPPORT. What the operations of Machine/TreeBase.lean can change.
-/

namespace Sys2Proof.Machine

@[simp ↓] theorem modRStep_blank {W : Part → Bool} (ep : Nat) (step : Nat) (attempt : Nat) (f : RStep → RStep) (s : State) (h0 : W .referee = true) :
    (modRStep ep step attempt f s).blank W = s.blank W := by simp [modRStep, Com.blank, Tsu.blank, Dxd.blank, h0]

@[simp ↓] theorem sendDown_blank {W : Part → Bool} (f : Frame) (src : Option Nat) (s : State) (h0 : W (.com .dxd .ports) = true) :
    (sendDown f src s).blank W = s.blank W := by simp [sendDown, Com.blank, Tsu.blank, Dxd.blank, h0]

@[simp ↓] theorem sendTwin_blank {W : Part → Bool} (f : Frame) (s : State) (h0 : W (.com .dxd .ports) = true) :
    (sendTwin f s).blank W = s.blank W := by
  unfold sendTwin
  (repeat' split) <;> simp [Com.blank, Tsu.blank, Dxd.blank, h0]

@[simp ↓] theorem noteArm_blank {W : Part → Bool} (ep : Nat) (f : ArmF) (s : State) (h0 : W .kicks = true) :
    (noteArm ep f s).blank W = s.blank W := by
  unfold noteArm
  dsimp only
  (repeat' split) <;> first
    | (simp (maxDischargeDepth := 12) [Com.blank, Tsu.blank, Dxd.blank, h0]; done)
    | (exfalso; simp_all; done)
    | (refine (foldl_blank _ _ _ ?_).trans ?_
       · intro s a
         (repeat' split) <;> simp (maxDischargeDepth := 12) [Com.blank, Tsu.blank, Dxd.blank, h0]
       · simp (maxDischargeDepth := 12) [Com.blank, Tsu.blank, Dxd.blank, h0])

@[simp ↓] theorem noteCallOff_blank {W : Part → Bool} (ep : Nat) (step : Nat) (s : State) (h0 : W .kicks = true) :
    (noteCallOff ep step s).blank W = s.blank W := by simp [noteCallOff, Com.blank, Tsu.blank, Dxd.blank, h0]

@[simp ↓] theorem noteOutcome_blank {W : Part → Bool} (ep : Nat) (f : CensusDnF) (s : State) (h0 : W .kicks = true) :
    (noteOutcome ep f s).blank W = s.blank W := by simp [noteOutcome, Com.blank, Tsu.blank, Dxd.blank, h0]

@[simp ↓] theorem freeCensus_blank {W : Part → Bool} (p : Census → Bool) (s : State) (h0 : W .census = true) :
    (freeCensus p s).blank W = s.blank W := by simp [freeCensus, Com.blank, Tsu.blank, Dxd.blank, h0]

@[simp ↓] theorem dropCombos_blank {W : Part → Bool} (ep : Nat) (step : Nat) (s : State) (h0 : W .scores = true) :
    (dropCombos ep step s).blank W = s.blank W := by simp [dropCombos, Com.blank, Tsu.blank, Dxd.blank, h0]

@[simp ↓] theorem modEnt_blank {W : Part → Bool} (e : Nat) (f : LsEntry → LsEntry) (s : State) (h0 : W .scores = true) :
    (modEnt e f s).blank W = s.blank W := by simp [modEnt, Com.blank, Tsu.blank, Dxd.blank, h0]

@[simp ↓] theorem lsRecheck_blank {W : Part → Bool} (e : Nat) (s : State) (h0 : W .scores = true) (h1 : W (.com .dxd .pgEvent) = true) (h2 : W (.com .dxd .ic) = true) :
    (lsRecheck e s).blank W = s.blank W := by simp [lsRecheck, Com.blank, Tsu.blank, Dxd.blank, h0, h1, h2]

@[simp ↓] theorem lsForget_blank {W : Part → Bool} (step : Nat) (s : State) (h0 : W .scores = true) :
    (lsForget step s).blank W = s.blank W := by simp [lsForget, Com.blank, Tsu.blank, Dxd.blank, h0]

@[simp ↓] theorem lsMoveEpoch_blank {W : Part → Bool} (old : Nat) (new : Nat) (s : State) (h0 : W .scores = true) (h1 : W (.com .dxd .regs) = true) (h2 : W (.com .dxd .pgEvent) = true) (h3 : W (.com .dxd .ic) = true) :
    (lsMoveEpoch old new s).blank W = s.blank W := by
  unfold lsMoveEpoch
  refine (foldl_blank _ _ _ ?_).trans ?_
  · intro s e
    dsimp only
    (repeat' split) <;> simp (maxDischargeDepth := 12) [Com.blank, Tsu.blank, Dxd.blank, h0, h1, h2, h3]
  · simp [Com.blank, Tsu.blank, Dxd.blank, h0, h1, h2, h3]

end Sys2Proof.Machine
end

