-- ==== Sys2Proof/Laws/FrameRefereeBase.lean ====
section
/-!
SUPPORT. What the operations of Machine/RefereeBase.lean can change.
-/

namespace Sys2Proof.Machine

@[simp ↓] theorem pauseEvery_blank {W : Part → Bool} (f : Job → Job) (s : State) (h0 : W (.com .dxd .pgEvent) = true) (h1 : W (.com .dxd .ic) = true) (h2 : W .referee = true) :
    (pauseEvery f s).blank W = s.blank W := by simp [pauseEvery, Com.blank, Tsu.blank, Dxd.blank, h0, h1, h2]

@[simp ↓] theorem ledgerWatch_blank {W : Part → Bool} (s : State) (h0 : W (.com .dxd .pgEvent) = true) (h1 : W (.com .dxd .ic) = true) (h2 : W .referee = true) :
    (ledgerWatch s).blank W = s.blank W := by simp [ledgerWatch, Com.blank, Tsu.blank, Dxd.blank, h0, h1, h2]

@[simp ↓] theorem ledgerAppend_blank {W : Part → Bool} (ty : Nat) (attempt : Nat) (step : Nat) (epoch : Nat) (value : Nat) (data : List Byte) (ckpt : Bool) (s : State) (h0 : W (.com .dxd .pgEvent) = true) (h1 : W (.com .dxd .ic) = true) (h2 : W .referee = true) (h3 : W .ledger = true) :
    (ledgerAppend ty attempt step epoch value data ckpt s).blank W = s.blank W := by simp [ledgerAppend, Com.blank, Tsu.blank, Dxd.blank, h0, h1, h2, h3]

@[simp ↓] theorem afterLedgerTo_blank {W : Part → Bool} (ports : List Nat) (f : Frame) (s : State) (h0 : W .ledger = true) :
    (afterLedgerTo ports f s).blank W = s.blank W := by simp [afterLedgerTo, Com.blank, Tsu.blank, Dxd.blank, h0]

@[simp ↓] theorem noteBench_blank {W : Part → Bool} (kind : Nat) (target : Nat) (reason : Nat) (s : State) (h0 : W (.com .dxd .pgEvent) = true) (h1 : W (.com .dxd .ic) = true) (h2 : W .referee = true) :
    (noteBench kind target reason s).blank W = s.blank W := by simp [noteBench, Com.blank, Tsu.blank, Dxd.blank, h0, h1, h2]

@[simp ↓] theorem replayFrom_blank {W : Part → Bool} (ep : Nat) (f : BenchF) (s : State) (h0 : W .referee = true) :
    (replayFrom ep f s).blank W = s.blank W := by simp [replayFrom, Com.blank, Tsu.blank, Dxd.blank, h0]

@[simp ↓] theorem noteSent_blank {W : Part → Bool} (f : Frame) (s : State) (h0 : W .referee = true) (h1 : W (.com .dxd .pgEvent) = true) (h2 : W (.com .dxd .ic) = true) :
    (noteSent f s).blank W = s.blank W := by
  unfold noteSent
  (repeat' split) <;> simp [Com.blank, Tsu.blank, Dxd.blank, h0, h1, h2]

@[simp ↓] theorem sendMsg_blank {W : Part → Bool} (m : LedgerMsg) (s : State) (h0 : W .referee = true) (h1 : W (.com .dxd .pgEvent) = true) (h2 : W (.com .dxd .ic) = true) (h3 : W (.com .dxd .ports) = true) :
    (sendMsg m s).blank W = s.blank W := by simp [sendMsg, Com.blank, Tsu.blank, Dxd.blank, h0, h1, h2, h3]

@[simp ↓] theorem flushMsgs_blank {W : Part → Bool} (a : Nat) (a1 : State) (h0 : W .referee = true) (h1 : W (.com .dxd .pgEvent) = true) (h2 : W (.com .dxd .ic) = true) (h3 : W (.com .dxd .ports) = true) (h4 : W .ledger = true) :
    (flushMsgs a a1).blank W = a1.blank W := by
  induction a generalizing a1 with
  | zero => rfl
  | succ n ih =>
    unfold flushMsgs
    (repeat' split) <;> simp (maxDischargeDepth := 12) [ih, Com.blank, Tsu.blank, Dxd.blank, h0, h1, h2, h3, h4]

@[simp ↓] theorem flushLedger_blank {W : Part → Bool} (s : State) (h0 : W .referee = true) (h1 : W (.com .dxd .pgEvent) = true) (h2 : W (.com .dxd .ic) = true) (h3 : W (.com .dxd .ports) = true) (h4 : W .ledger = true) :
    (flushLedger s).blank W = s.blank W := by simp [flushLedger, Com.blank, Tsu.blank, Dxd.blank, h0, h1, h2, h3, h4]

@[simp ↓] theorem afterLedger_blank {W : Part → Bool} (epoch : Nat) (f : Frame) (s : State) (h0 : W .referee = true) (h1 : W (.com .dxd .pgEvent) = true) (h2 : W (.com .dxd .ic) = true) (h3 : W (.com .dxd .ports) = true) (h4 : W .ledger = true) :
    (afterLedger epoch f s).blank W = s.blank W := by simp [afterLedger, Com.blank, Tsu.blank, Dxd.blank, h0, h1, h2, h3, h4]

@[simp ↓] theorem takeOseq_blank {W : Part → Bool} (s : State) (h0 : W (.com .dxd .pgEvent) = true) (h1 : W (.com .dxd .ic) = true) (h2 : W .referee = true) (h3 : W .ledger = true) :
    (takeOseq s).2.blank W = s.blank W := by simp [takeOseq, Com.blank, Tsu.blank, Dxd.blank, h0, h1, h2, h3]

@[simp ↓] theorem modJob_blank {W : Part → Bool} (j : Nat) (f : Job → Job) (s : State) (h0 : W .referee = true) :
    (modJob j f s).blank W = s.blank W := by simp [modJob, Com.blank, Tsu.blank, Dxd.blank, h0]

@[simp ↓] theorem setJobState_blank {W : Part → Bool} (j : Nat) (st : Nat) (s : State) (h0 : W (.com .dxd .pgEvent) = true) (h1 : W (.com .dxd .ic) = true) (h2 : W .referee = true) :
    (setJobState j st s).blank W = s.blank W := by
  unfold setJobState
  (repeat' split) <;> simp [Com.blank, Tsu.blank, Dxd.blank, h0, h1, h2]

@[simp ↓] theorem setRecovering_blank {W : Part → Bool} (j : Nat) (s : State) (h0 : W (.com .dxd .pgEvent) = true) (h1 : W (.com .dxd .ic) = true) (h2 : W .referee = true) :
    (setRecovering j s).blank W = s.blank W := by
  unfold setRecovering
  (repeat' split) <;> simp [Com.blank, Tsu.blank, Dxd.blank, h0, h1, h2]

@[simp ↓] theorem commitSteps_blank {W : Part → Bool} (j : Nat) (s : State) (h0 : W (.com .dxd .pgEvent) = true) (h1 : W (.com .dxd .ic) = true) (h2 : W .referee = true) (h3 : W .ledger = true) (h4 : W .kicks = true) (h5 : W (.com .dxd .ports) = true) :
    (commitSteps j s).blank W = s.blank W := by
  unfold commitSteps
  dsimp only
  (repeat' split) <;> first
    | (simp (maxDischargeDepth := 12) [Com.blank, Tsu.blank, Dxd.blank, h0, h1, h2, h3, h4, h5]; done)
    | (exfalso; simp_all; done)
    | (refine (foldl_blank _ _ _ ?_).trans ?_
       · intro s a
         (repeat' split) <;> simp (maxDischargeDepth := 12) [Com.blank, Tsu.blank, Dxd.blank, h0, h1, h2, h3, h4, h5]
       · simp (maxDischargeDepth := 12) [Com.blank, Tsu.blank, Dxd.blank, h0, h1, h2, h3, h4, h5])

@[simp ↓] theorem endSteps_blank {W : Part → Bool} (ep : Nat) (step : Nat) (s : State) (h0 : W .kicks = true) (h1 : W .scores = true) (h2 : W .census = true) :
    (endSteps ep step s).blank W = s.blank W := by simp [endSteps, Com.blank, Tsu.blank, Dxd.blank, h0, h1, h2]

@[simp ↓] theorem sendCallOff_blank {W : Part → Bool} (j : Nat) (reason : Nat) (s : State) (h0 : W (.com .dxd .pgEvent) = true) (h1 : W (.com .dxd .ic) = true) (h2 : W .referee = true) (h3 : W .ledger = true) (h4 : W .kicks = true) (h5 : W .scores = true) (h6 : W .census = true) (h7 : W (.com .dxd .ports) = true) :
    (sendCallOff j reason s).blank W = s.blank W := by
  unfold sendCallOff
  (repeat' split) <;> simp [Com.blank, Tsu.blank, Dxd.blank, h0, h1, h2, h3, h4, h5, h6, h7]

@[simp ↓] theorem imageAfterLedger_blank {W : Part → Bool} (ports : List Nat) (fs : List Frame) (s : State) (h0 : W .referee = true) (h1 : W (.com .dxd .pgEvent) = true) (h2 : W (.com .dxd .ic) = true) (h3 : W (.com .dxd .ports) = true) (h4 : W .ledger = true) :
    (imageAfterLedger ports fs s).blank W = s.blank W := by simp [imageAfterLedger, Com.blank, Tsu.blank, Dxd.blank, h0, h1, h2, h3, h4]

@[simp ↓] theorem sendCensusImages_blank {W : Part → Bool} (b : Job) (s : State) (h0 : W .referee = true) (h1 : W (.com .dxd .pgEvent) = true) (h2 : W (.com .dxd .ic) = true) (h3 : W (.com .dxd .ports) = true) (h4 : W .ledger = true) :
    (sendCensusImages b s).blank W = s.blank W := by
  unfold sendCensusImages
  dsimp only
  (repeat' split) <;> first
    | (simp (maxDischargeDepth := 12) [Com.blank, Tsu.blank, Dxd.blank, h0, h1, h2, h3, h4]; done)
    | (exfalso; simp_all; done)
    | (refine (foldl_blank _ _ _ ?_).trans ?_
       · intro s a
         (repeat' split) <;> simp (maxDischargeDepth := 12) [Com.blank, Tsu.blank, Dxd.blank, h0, h1, h2, h3, h4]
       · simp (maxDischargeDepth := 12) [Com.blank, Tsu.blank, Dxd.blank, h0, h1, h2, h3, h4])

@[simp ↓] theorem serveJob_blank {W : Part → Bool} (b : Job) (s : State) (h0 : W .census = true) :
    (serveJob b s).blank W = s.blank W := by simp [serveJob, Com.blank, Tsu.blank, Dxd.blank, h0]

@[simp ↓] theorem renameServed_blank {W : Part → Bool} (old : Nat) (new : Nat) (s : State) (h0 : W .census = true) :
    (renameServed old new s).blank W = s.blank W := by simp [renameServed, Com.blank, Tsu.blank, Dxd.blank, h0]

@[simp ↓] theorem sendAdmission_blank {W : Part → Bool} (b : Job) (ne : Nat) (cr : Nat × Nat) (s : State) (h0 : W .referee = true) (h1 : W (.com .dxd .pgEvent) = true) (h2 : W (.com .dxd .ic) = true) (h3 : W (.com .dxd .ports) = true) (h4 : W .ledger = true) :
    (sendAdmission b ne cr s).blank W = s.blank W := by simp [sendAdmission, Com.blank, Tsu.blank, Dxd.blank, h0, h1, h2, h3, h4]

@[simp ↓] theorem sendBench_blank {W : Part → Bool} (j : Nat) (t : Nat × Nat × Nat) (s : State) (h0 : W (.com .dxd .pgEvent) = true) (h1 : W (.com .dxd .ic) = true) (h2 : W .referee = true) (h3 : W .ledger = true) (h4 : W (.com .dxd .ports) = true) (h5 : W .scores = true) (h6 : W (.com .dxd .regs) = true) (h7 : W .census = true) (h8 : W .kicks = true) :
    (sendBench j t s).blank W = s.blank W := by
  unfold sendBench
  dsimp only
  (repeat' split) <;> simp [Com.blank, Tsu.blank, Dxd.blank, h0, h1, h2, h3, h4, h5, h6, h7, h8]

@[simp ↓] theorem benchTargets_blank {W : Part → Bool} (j : Nat) (a : Nat) (a2 : State) (h0 : W (.com .dxd .pgEvent) = true) (h1 : W (.com .dxd .ic) = true) (h2 : W .referee = true) (h3 : W .ledger = true) (h4 : W (.com .dxd .ports) = true) (h5 : W .scores = true) (h6 : W (.com .dxd .regs) = true) (h7 : W .census = true) (h8 : W .kicks = true) :
    (benchTargets j a a2).blank W = a2.blank W := by
  induction a generalizing a2 with
  | zero => rfl
  | succ n ih =>
    unfold benchTargets
    (repeat' split) <;> simp (maxDischargeDepth := 12) [ih, Com.blank, Tsu.blank, Dxd.blank, h0, h1, h2, h3, h4, h5, h6, h7, h8]

@[simp ↓] theorem benchOrDefer_blank {W : Part → Bool} (j : Nat) (s : State) (h0 : W .referee = true) (h1 : W (.com .dxd .pgEvent) = true) (h2 : W (.com .dxd .ic) = true) (h3 : W .ledger = true) (h4 : W (.com .dxd .ports) = true) (h5 : W .scores = true) (h6 : W (.com .dxd .regs) = true) (h7 : W .census = true) (h8 : W .kicks = true) :
    (benchOrDefer j s).blank W = s.blank W := by
  unfold benchOrDefer
  dsimp only
  (repeat' split) <;> simp [Com.blank, Tsu.blank, Dxd.blank, h0, h1, h2, h3, h4, h5, h6, h7, h8]

@[simp ↓] theorem pauseJob_blank {W : Part → Bool} (j : Nat) (reason : Nat) (targets : List (Nat × Nat × Nat)) (wait : Bool) (s : State) (h0 : W .referee = true) (h1 : W (.com .dxd .pgEvent) = true) (h2 : W (.com .dxd .ic) = true) (h3 : W .ledger = true) (h4 : W (.com .dxd .ports) = true) (h5 : W .scores = true) (h6 : W (.com .dxd .regs) = true) (h7 : W .census = true) (h8 : W .kicks = true) :
    (pauseJob j reason targets wait s).blank W = s.blank W := by
  unfold pauseJob
  (repeat' split) <;> simp [Com.blank, Tsu.blank, Dxd.blank, h0, h1, h2, h3, h4, h5, h6, h7, h8]

@[simp ↓] theorem benchDxd_blank {W : Part → Bool} (target : Nat) (reason : Nat) (s : State) (h0 : W (.com .dxd .pgEvent) = true) (h1 : W (.com .dxd .ic) = true) (h2 : W .referee = true) (h3 : W .ledger = true) (h4 : W (.com .dxd .ports) = true) :
    (benchDxd target reason s).blank W = s.blank W := by simp [benchDxd, Com.blank, Tsu.blank, Dxd.blank, h0, h1, h2, h3, h4]

@[simp ↓] theorem benchMember_blank {W : Part → Bool} (kind : Nat) (target : Nat) (reason : Nat) (ep : Nat) (s : State) (h0 : W .referee = true) (h1 : W (.com .dxd .pgEvent) = true) (h2 : W (.com .dxd .ic) = true) (h3 : W .ledger = true) (h4 : W (.com .dxd .ports) = true) (h5 : W .scores = true) (h6 : W (.com .dxd .regs) = true) (h7 : W .census = true) (h8 : W .kicks = true) :
    (benchMember kind target reason ep s).blank W = s.blank W := by
  unfold benchMember
  (repeat' split) <;> simp [Com.blank, Tsu.blank, Dxd.blank, h0, h1, h2, h3, h4, h5, h6, h7, h8]

@[simp ↓] theorem rootReport_blank {W : Part → Bool} (r : Report) (s : State) (h0 : W (.com .dxd .pgEvent) = true) (h1 : W (.com .dxd .ic) = true) (h2 : W .referee = true) (h3 : W .ledger = true) (h4 : W (.com .dxd .ports) = true) (h5 : W .scores = true) (h6 : W (.com .dxd .regs) = true) (h7 : W .census = true) (h8 : W .kicks = true) :
    (rootReport r s).blank W = s.blank W := by
  unfold rootReport
  dsimp only
  (repeat' split) <;> simp [Com.blank, Tsu.blank, Dxd.blank, h0, h1, h2, h3, h4, h5, h6, h7, h8]

@[simp ↓] theorem fenceReport_blank {W : Part → Bool} (kind : Nat) (target : Nat) (reason : Nat) (ep : Nat) (s : State) (h0 : W (.com .dxd .pgEvent) = true) (h1 : W (.com .dxd .ic) = true) (h2 : W .referee = true) (h3 : W .ledger = true) (h4 : W (.com .dxd .ports) = true) (h5 : W .scores = true) (h6 : W (.com .dxd .regs) = true) (h7 : W .census = true) (h8 : W .kicks = true) :
    (fenceReport kind target reason ep s).blank W = s.blank W := by simp [fenceReport, Com.blank, Tsu.blank, Dxd.blank, h0, h1, h2, h3, h4, h5, h6, h7, h8]

@[simp ↓] theorem portEvidence_blank {W : Part → Bool} (p : Nat) (hb : Bool) (s : State) (h0 : W (.com .dxd .pgEvent) = true) (h1 : W (.com .dxd .ic) = true) (h2 : W .referee = true) (h3 : W .ledger = true) (h4 : W (.com .dxd .ports) = true) (h5 : W .scores = true) (h6 : W (.com .dxd .regs) = true) (h7 : W .census = true) (h8 : W .kicks = true) :
    (portEvidence p hb s).blank W = s.blank W := by
  unfold portEvidence
  (repeat' split) <;> simp [Com.blank, Tsu.blank, Dxd.blank, h0, h1, h2, h3, h4, h5, h6, h7, h8]

end Sys2Proof.Machine
end

