-- ==== Sys2Proof/Laws/FrameLinkBase.lean ====
section
/-!
SUPPORT. What the operations of Machine/LinkBase.lean can change.
-/

namespace Sys2Proof.Machine

@[simp ↓] theorem splitReferee_blank {W : Part → Bool} (s : State) (h0 : W (.com .dxd .pgEvent) = true) (h1 : W (.com .dxd .ic) = true) (h2 : W .referee = true) :
    (splitReferee s).blank W = s.blank W := by simp [splitReferee, Com.blank, Tsu.blank, Dxd.blank, h0, h1, h2]

@[simp ↓] theorem bootToLane_blank {W : Part → Bool} (p : Nat) (s : State) (h0 : W (.com .dxd .ports) = true) :
    (bootToLane p s).blank W = s.blank W := by
  unfold bootToLane
  (repeat' split) <;> simp [Com.blank, Tsu.blank, Dxd.blank, h0]

@[simp ↓] theorem portUp_tsu_blank {W : Part → Bool} (p : Nat) (s : State) (h0 : W (.com .tsu .ports) = true) (h1 : W (.com .tsu .boot) = true) (h2 : W (.com .tsu .pgEvent) = true) (h3 : W (.com .tsu .ic) = true) :
    (portUp .tsu p s).blank W = s.blank W := by
  unfold portUp
  dsimp only
  (repeat' split) <;> first
    | (simp (maxDischargeDepth := 12) [Com.blank, Tsu.blank, Dxd.blank, h0, h1, h2, h3]; done)
    | (exfalso; simp_all; done)
    | (refine (foldl_blank _ _ _ ?_).trans ?_
       · intro s a
         (repeat' split) <;> simp (maxDischargeDepth := 12) [Com.blank, Tsu.blank, Dxd.blank, h0, h1, h2, h3]
       · simp (maxDischargeDepth := 12) [Com.blank, Tsu.blank, Dxd.blank, h0, h1, h2, h3])

@[simp ↓] theorem portUp_dxd_blank {W : Part → Bool} (p : Nat) (s : State) (h0 : W (.com .dxd .ports) = true) (h1 : W (.com .dxd .boot) = true) (h2 : W (.com .dxd .pgEvent) = true) (h3 : W (.com .dxd .ic) = true) (h4 : W .referee = true) :
    (portUp .dxd p s).blank W = s.blank W := by simp [portUp, Com.blank, Tsu.blank, Dxd.blank, h0, h1, h2, h3, h4]

@[simp ↓] theorem portDown_tsu_blank {W : Part → Bool} (p : Nat) (reason : Nat) (s : State) (h0 : W (.com .tsu .ports) = true) (h1 : W .member = true) (h2 : W (.com .tsu .coreA) = true) (h3 : W (.com .tsu .coreB) = true) (h4 : W (.com .tsu .tk) = true) (h5 : W (.com .tsu .pgEvent) = true) (h6 : W (.com .tsu .ic) = true) (h7 : W (.com .tsu .msets) = true) (h8 : W (.com .tsu .hfits) = true) (h9 : W .huddles = true) :
    (portDown .tsu p reason s).blank W = s.blank W := by simp [portDown, Com.blank, Tsu.blank, Dxd.blank, h0, h1, h2, h3, h4, h5, h6, h7, h8, h9]

@[simp ↓] theorem portDown_dxd_blank {W : Part → Bool} (p : Nat) (reason : Nat) (s : State) (h0 : W (.com .dxd .ports) = true) (h1 : W (.com .dxd .tk) = true) (h2 : W .refs = true) (h3 : W .ptp = true) (h4 : W (.com .dxd .pgEvent) = true) (h5 : W (.com .dxd .ic) = true) (h6 : W .hold = true) (h7 : W (.com .dxd .coreA) = true) (h8 : W (.com .dxd .coreB) = true) (h9 : W (.com .dxd .hfits) = true) (h10 : W (.com .dxd .msets) = true) (h11 : W .attic = true) (h12 : W .referee = true) (h13 : W .ledger = true) (h14 : W .scores = true) (h15 : W (.com .dxd .regs) = true) (h16 : W .census = true) (h17 : W .kicks = true) :
    (portDown .dxd p reason s).blank W = s.blank W := by simp [portDown, Com.blank, Tsu.blank, Dxd.blank, h0, h1, h2, h3, h4, h5, h6, h7, h8, h9, h10, h11, h12, h13, h14, h15, h16, h17]

@[simp ↓] theorem portIdle_tsu_blank {W : Part → Bool} (p : Nat) (s : State) (h0 : W (.com .tsu .ports) = true) (h1 : W .member = true) (h2 : W (.com .tsu .coreA) = true) (h3 : W (.com .tsu .coreB) = true) (h4 : W (.com .tsu .tk) = true) (h5 : W (.com .tsu .pgEvent) = true) (h6 : W (.com .tsu .ic) = true) (h7 : W (.com .tsu .msets) = true) (h8 : W (.com .tsu .hfits) = true) (h9 : W .huddles = true) :
    (portIdle .tsu p s).blank W = s.blank W := by simp [portIdle, Com.blank, Tsu.blank, Dxd.blank, h0, h1, h2, h3, h4, h5, h6, h7, h8, h9]

@[simp ↓] theorem portIdle_dxd_blank {W : Part → Bool} (p : Nat) (s : State) (h0 : W (.com .dxd .ports) = true) (h1 : W (.com .dxd .tk) = true) (h2 : W .refs = true) (h3 : W .ptp = true) (h4 : W (.com .dxd .pgEvent) = true) (h5 : W (.com .dxd .ic) = true) (h6 : W .hold = true) (h7 : W (.com .dxd .coreA) = true) (h8 : W (.com .dxd .coreB) = true) (h9 : W (.com .dxd .hfits) = true) (h10 : W (.com .dxd .msets) = true) (h11 : W .attic = true) :
    (portIdle .dxd p s).blank W = s.blank W := by simp [portIdle, Com.blank, Tsu.blank, Dxd.blank, h0, h1, h2, h3, h4, h5, h6, h7, h8, h9, h10, h11]

@[simp ↓] theorem portControl_tsu_blank {W : Part → Bool} (p : Nat) (v : Word) (s : State) (h0 : W (.com .tsu .ports) = true) (h1 : W .member = true) (h2 : W (.com .tsu .coreA) = true) (h3 : W (.com .tsu .coreB) = true) (h4 : W (.com .tsu .tk) = true) (h5 : W (.com .tsu .pgEvent) = true) (h6 : W (.com .tsu .ic) = true) (h7 : W (.com .tsu .msets) = true) (h8 : W (.com .tsu .hfits) = true) (h9 : W .huddles = true) :
    (portControl .tsu p v s).blank W = s.blank W := by simp [portControl, Com.blank, Tsu.blank, Dxd.blank, h0, h1, h2, h3, h4, h5, h6, h7, h8, h9]

@[simp ↓] theorem portControl_dxd_blank {W : Part → Bool} (p : Nat) (v : Word) (s : State) (h0 : W (.com .dxd .ports) = true) (h1 : W (.com .dxd .tk) = true) (h2 : W .refs = true) (h3 : W .ptp = true) (h4 : W (.com .dxd .pgEvent) = true) (h5 : W (.com .dxd .ic) = true) (h6 : W .hold = true) (h7 : W (.com .dxd .coreA) = true) (h8 : W (.com .dxd .coreB) = true) (h9 : W (.com .dxd .hfits) = true) (h10 : W (.com .dxd .msets) = true) (h11 : W .attic = true) (h12 : W .referee = true) (h13 : W .ledger = true) (h14 : W .scores = true) (h15 : W (.com .dxd .regs) = true) (h16 : W .census = true) (h17 : W .kicks = true) :
    (portControl .dxd p v s).blank W = s.blank W := by simp [portControl, Com.blank, Tsu.blank, Dxd.blank, h0, h1, h2, h3, h4, h5, h6, h7, h8, h9, h10, h11, h12, h13, h14, h15, h16, h17]

@[simp ↓] theorem trainCount_tsu_blank {W : Part → Bool} (p : Nat) (f : TrainF) (s : State) (h0 : W (.com .tsu .ports) = true) (h1 : W (.com .tsu .pgEvent) = true) (h2 : W (.com .tsu .ic) = true) (h3 : W (.com .tsu .tk) = true) :
    (trainCount .tsu p f s).blank W = s.blank W := by
  unfold trainCount
  dsimp only
  (repeat' split) <;> first
    | (simp (maxDischargeDepth := 12) [Com.blank, Tsu.blank, Dxd.blank, h0, h1, h2, h3]; done)
    | (exfalso; simp_all; done)
    | (refine (foldl_blank _ _ _ ?_).trans ?_
       · intro s a
         (repeat' split) <;> simp (maxDischargeDepth := 12) [Com.blank, Tsu.blank, Dxd.blank, h0, h1, h2, h3]
       · simp (maxDischargeDepth := 12) [Com.blank, Tsu.blank, Dxd.blank, h0, h1, h2, h3])

@[simp ↓] theorem trainCount_dxd_blank {W : Part → Bool} (p : Nat) (f : TrainF) (s : State) (h0 : W (.com .dxd .ports) = true) (h1 : W (.com .dxd .pgEvent) = true) (h2 : W (.com .dxd .ic) = true) (h3 : W (.com .dxd .tk) = true) :
    (trainCount .dxd p f s).blank W = s.blank W := by
  unfold trainCount
  dsimp only
  (repeat' split) <;> first
    | (simp (maxDischargeDepth := 12) [Com.blank, Tsu.blank, Dxd.blank, h0, h1, h2, h3]; done)
    | (exfalso; simp_all; done)
    | (refine (foldl_blank _ _ _ ?_).trans ?_
       · intro s a
         (repeat' split) <;> simp (maxDischargeDepth := 12) [Com.blank, Tsu.blank, Dxd.blank, h0, h1, h2, h3]
       · simp (maxDischargeDepth := 12) [Com.blank, Tsu.blank, Dxd.blank, h0, h1, h2, h3])

@[simp ↓] theorem transmit_dxd_blank {W : Part → Bool} (p : Nat) (seq : Nat) (f : Frame) (s : State) (h0 : W (.com .dxd .ports) = true) :
    (transmit .dxd p seq f s).blank W = s.blank W := by simp [transmit, Com.blank, Tsu.blank, Dxd.blank, h0]

@[simp ↓] theorem transmit_tsu_blank {W : Part → Bool} (p : Nat) (seq : Nat) (f : Frame) (s : State) (h0 : W (.com .tsu .ports) = true) :
    (transmit .tsu p seq f s).blank W = s.blank W := by simp [transmit, Com.blank, Tsu.blank, Dxd.blank, h0]

@[simp ↓] theorem transmitPlain_tsu_blank {W : Part → Bool} (p : Nat) (pl : Payload) (s : State) (h0 : W (.com .tsu .ports) = true) :
    (transmitPlain .tsu p pl s).blank W = s.blank W := by simp [transmitPlain, Com.blank, Tsu.blank, Dxd.blank, h0]

@[simp ↓] theorem transmitPlain_dxd_blank {W : Part → Bool} (p : Nat) (pl : Payload) (s : State) (h0 : W (.com .dxd .ports) = true) :
    (transmitPlain .dxd p pl s).blank W = s.blank W := by simp [transmitPlain, Com.blank, Tsu.blank, Dxd.blank, h0]

@[simp ↓] theorem transmitNew_dxd_blank {W : Part → Bool} (p : Nat) (f : Frame) (s : State) (h0 : W (.com .dxd .ports) = true) :
    (transmitNew .dxd p f s).blank W = s.blank W := by simp [transmitNew, Com.blank, Tsu.blank, Dxd.blank, h0]

@[simp ↓] theorem transmitNew_tsu_blank {W : Part → Bool} (p : Nat) (f : Frame) (s : State) (h0 : W (.com .tsu .ports) = true) :
    (transmitNew .tsu p f s).blank W = s.blank W := by simp [transmitNew, Com.blank, Tsu.blank, Dxd.blank, h0]

@[simp ↓] theorem sendLink_tsu_blank {W : Part → Bool} (p : Nat) (s : State) (h0 : W (.com .tsu .ports) = true) :
    (sendLink .tsu p s).blank W = s.blank W := by
  unfold sendLink
  dsimp only
  (repeat' split) <;> simp [Com.blank, Tsu.blank, Dxd.blank, h0]

@[simp ↓] theorem sendLink_dxd_blank {W : Part → Bool} (p : Nat) (s : State) (h0 : W (.com .dxd .ports) = true) :
    (sendLink .dxd p s).blank W = s.blank W := by
  unfold sendLink
  dsimp only
  (repeat' split) <;> simp [Com.blank, Tsu.blank, Dxd.blank, h0]

end Sys2Proof.Machine
end

