-- ==== Sys2Proof/Laws/FramePorts.lean ====
section
/-!
SUPPORT. What the operations of Machine/Ports.lean can change.
-/

namespace Sys2Proof.Machine

@[simp ↓] theorem portEnable_tsu_blank {W : Part → Bool} (rq : Nat) (p : Nat) (s : State) (h0 : W (.com .tsu .bt) = true) (h1 : W (.com .tsu .lockRefused) = true) (h2 : W (.com .tsu .ports) = true) (h3 : W .member = true) (h4 : W (.com .tsu .coreA) = true) (h5 : W (.com .tsu .coreB) = true) (h6 : W (.com .tsu .tk) = true) (h7 : W (.com .tsu .pgEvent) = true) (h8 : W (.com .tsu .ic) = true) (h9 : W (.com .tsu .msets) = true) (h10 : W (.com .tsu .hfits) = true) (h11 : W .huddles = true) :
    (portEnable .tsu rq p s).blank W = s.blank W := by simp [portEnable, Com.blank, Tsu.blank, Dxd.blank, h0, h1, h2, h3, h4, h5, h6, h7, h8, h9, h10, h11]

@[simp ↓] theorem portEnable_dxd_blank {W : Part → Bool} (rq : Nat) (p : Nat) (s : State) (h0 : W (.com .dxd .badAccess) = true) (h1 : W (.com .dxd .barLow) = true) (h2 : W (.com .dxd .barCap) = true) (h3 : W (.com .dxd .bt) = true) (h4 : W (.com .dxd .lockRefused) = true) (h5 : W (.com .dxd .ports) = true) (h6 : W (.com .dxd .tk) = true) (h7 : W .refs = true) (h8 : W .ptp = true) (h9 : W (.com .dxd .pgEvent) = true) (h10 : W (.com .dxd .ic) = true) (h11 : W .hold = true) (h12 : W (.com .dxd .coreA) = true) (h13 : W (.com .dxd .coreB) = true) (h14 : W (.com .dxd .hfits) = true) (h15 : W (.com .dxd .msets) = true) (h16 : W .attic = true) (h17 : W .referee = true) (h18 : W .ledger = true) (h19 : W .scores = true) (h20 : W (.com .dxd .regs) = true) (h21 : W .census = true) (h22 : W .kicks = true) :
    (portEnable .dxd rq p s).blank W = s.blank W := by simp [portEnable, Com.blank, Tsu.blank, Dxd.blank, h0, h1, h2, h3, h4, h5, h6, h7, h8, h9, h10, h11, h12, h13, h14, h15, h16, h17, h18, h19, h20, h21, h22]

@[simp ↓] theorem portDisable_tsu_blank {W : Part → Bool} (rq : Nat) (p : Nat) (s : State) (h0 : W (.com .tsu .bt) = true) (h1 : W (.com .tsu .lockRefused) = true) (h2 : W (.com .tsu .ports) = true) (h3 : W .member = true) (h4 : W (.com .tsu .coreA) = true) (h5 : W (.com .tsu .coreB) = true) (h6 : W (.com .tsu .tk) = true) (h7 : W (.com .tsu .pgEvent) = true) (h8 : W (.com .tsu .ic) = true) (h9 : W (.com .tsu .msets) = true) (h10 : W (.com .tsu .hfits) = true) (h11 : W .huddles = true) :
    (portDisable .tsu rq p s).blank W = s.blank W := by simp [portDisable, Com.blank, Tsu.blank, Dxd.blank, h0, h1, h2, h3, h4, h5, h6, h7, h8, h9, h10, h11]

@[simp ↓] theorem portDisable_dxd_blank {W : Part → Bool} (rq : Nat) (p : Nat) (s : State) (h0 : W (.com .dxd .badAccess) = true) (h1 : W (.com .dxd .barLow) = true) (h2 : W (.com .dxd .barCap) = true) (h3 : W (.com .dxd .bt) = true) (h4 : W (.com .dxd .lockRefused) = true) (h5 : W (.com .dxd .ports) = true) (h6 : W (.com .dxd .tk) = true) (h7 : W .refs = true) (h8 : W .ptp = true) (h9 : W (.com .dxd .pgEvent) = true) (h10 : W (.com .dxd .ic) = true) (h11 : W .hold = true) (h12 : W (.com .dxd .coreA) = true) (h13 : W (.com .dxd .coreB) = true) (h14 : W (.com .dxd .hfits) = true) (h15 : W (.com .dxd .msets) = true) (h16 : W .attic = true) (h17 : W .referee = true) (h18 : W .ledger = true) (h19 : W .scores = true) (h20 : W (.com .dxd .regs) = true) (h21 : W .census = true) (h22 : W .kicks = true) :
    (portDisable .dxd rq p s).blank W = s.blank W := by simp [portDisable, Com.blank, Tsu.blank, Dxd.blank, h0, h1, h2, h3, h4, h5, h6, h7, h8, h9, h10, h11, h12, h13, h14, h15, h16, h17, h18, h19, h20, h21, h22]

@[simp ↓] theorem retrain_tsu_blank {W : Part → Bool} (rq : Nat) (p : Nat) (v : Word) (s : State) (h0 : W (.com .tsu .bt) = true) (h1 : W (.com .tsu .lockRefused) = true) (h2 : W (.com .tsu .ports) = true) (h3 : W .member = true) (h4 : W (.com .tsu .coreA) = true) (h5 : W (.com .tsu .coreB) = true) (h6 : W (.com .tsu .tk) = true) (h7 : W (.com .tsu .pgEvent) = true) (h8 : W (.com .tsu .ic) = true) (h9 : W (.com .tsu .msets) = true) (h10 : W (.com .tsu .hfits) = true) (h11 : W .huddles = true) :
    (retrain .tsu rq p v s).blank W = s.blank W := by simp [retrain, Com.blank, Tsu.blank, Dxd.blank, h0, h1, h2, h3, h4, h5, h6, h7, h8, h9, h10, h11]

@[simp ↓] theorem retrain_dxd_blank {W : Part → Bool} (rq : Nat) (p : Nat) (v : Word) (s : State) (h0 : W (.com .dxd .badAccess) = true) (h1 : W (.com .dxd .barLow) = true) (h2 : W (.com .dxd .barCap) = true) (h3 : W (.com .dxd .bt) = true) (h4 : W (.com .dxd .lockRefused) = true) (h5 : W (.com .dxd .ports) = true) (h6 : W (.com .dxd .tk) = true) (h7 : W .refs = true) (h8 : W .ptp = true) (h9 : W (.com .dxd .pgEvent) = true) (h10 : W (.com .dxd .ic) = true) (h11 : W .hold = true) (h12 : W (.com .dxd .coreA) = true) (h13 : W (.com .dxd .coreB) = true) (h14 : W (.com .dxd .hfits) = true) (h15 : W (.com .dxd .msets) = true) (h16 : W .attic = true) (h17 : W .referee = true) (h18 : W .ledger = true) (h19 : W .scores = true) (h20 : W (.com .dxd .regs) = true) (h21 : W .census = true) (h22 : W .kicks = true) :
    (retrain .dxd rq p v s).blank W = s.blank W := by simp [retrain, Com.blank, Tsu.blank, Dxd.blank, h0, h1, h2, h3, h4, h5, h6, h7, h8, h9, h10, h11, h12, h13, h14, h15, h16, h17, h18, h19, h20, h21, h22]

@[simp ↓] theorem downDwellEnd_dxd_blank {W : Part → Bool} (p : Nat) (s : State) (h0 : W (.com .dxd .ports) = true) :
    (downDwellEnd .dxd p s).blank W = s.blank W := by simp [downDwellEnd, Com.blank, Tsu.blank, Dxd.blank, h0]

@[simp ↓] theorem downDwellEnd_tsu_blank {W : Part → Bool} (p : Nat) (s : State) (h0 : W (.com .tsu .ports) = true) :
    (downDwellEnd .tsu p s).blank W = s.blank W := by simp [downDwellEnd, Com.blank, Tsu.blank, Dxd.blank, h0]

@[simp ↓] theorem signalPresent_tsu_blank {W : Part → Bool} (p : Nat) (s : State) (h0 : W (.com .tsu .ports) = true) :
    (signalPresent .tsu p s).blank W = s.blank W := by simp [signalPresent, Com.blank, Tsu.blank, Dxd.blank, h0]

@[simp ↓] theorem signalPresent_dxd_blank {W : Part → Bool} (p : Nat) (s : State) (h0 : W (.com .dxd .ports) = true) :
    (signalPresent .dxd p s).blank W = s.blank W := by simp [signalPresent, Com.blank, Tsu.blank, Dxd.blank, h0]

@[simp ↓] theorem alignmentAcquired_tsu_blank {W : Part → Bool} (p : Nat) (s : State) (h0 : W (.com .tsu .ports) = true) :
    (alignmentAcquired .tsu p s).blank W = s.blank W := by simp [alignmentAcquired, Com.blank, Tsu.blank, Dxd.blank, h0]

@[simp ↓] theorem alignmentAcquired_dxd_blank {W : Part → Bool} (p : Nat) (s : State) (h0 : W (.com .dxd .ports) = true) :
    (alignmentAcquired .dxd p s).blank W = s.blank W := by simp [alignmentAcquired, Com.blank, Tsu.blank, Dxd.blank, h0]

@[simp ↓] theorem trainReceive_tsu_blank {W : Part → Bool} (p : Nat) (h : LinkHdr) (f : TrainF) (s : State) (h0 : W (.com .tsu .ports) = true) (h1 : W (.com .tsu .pgEvent) = true) (h2 : W (.com .tsu .ic) = true) (h3 : W (.com .tsu .tk) = true) (h4 : W .member = true) (h5 : W (.com .tsu .coreA) = true) (h6 : W (.com .tsu .coreB) = true) (h7 : W (.com .tsu .msets) = true) (h8 : W (.com .tsu .hfits) = true) (h9 : W .huddles = true) :
    (trainReceive .tsu p h f s).blank W = s.blank W := by simp [trainReceive, Com.blank, Tsu.blank, Dxd.blank, h0, h1, h2, h3, h4, h5, h6, h7, h8, h9]

@[simp ↓] theorem trainReceive_dxd_blank {W : Part → Bool} (p : Nat) (h : LinkHdr) (f : TrainF) (s : State) (h0 : W (.com .dxd .ports) = true) (h1 : W (.com .dxd .pgEvent) = true) (h2 : W (.com .dxd .ic) = true) (h3 : W (.com .dxd .tk) = true) (h4 : W .refs = true) (h5 : W .ptp = true) (h6 : W .hold = true) (h7 : W (.com .dxd .coreA) = true) (h8 : W (.com .dxd .coreB) = true) (h9 : W (.com .dxd .hfits) = true) (h10 : W (.com .dxd .msets) = true) (h11 : W .attic = true) :
    (trainReceive .dxd p h f s).blank W = s.blank W := by simp [trainReceive, Com.blank, Tsu.blank, Dxd.blank, h0, h1, h2, h3, h4, h5, h6, h7, h8, h9, h10, h11]

@[simp ↓] theorem trainAckSet_dxd_blank {W : Part → Bool} (p : Nat) (s : State) (h0 : W (.com .dxd .ports) = true) :
    (trainAckSet .dxd p s).blank W = s.blank W := by simp [trainAckSet, Com.blank, Tsu.blank, Dxd.blank, h0]

@[simp ↓] theorem trainAckSet_tsu_blank {W : Part → Bool} (p : Nat) (s : State) (h0 : W (.com .tsu .ports) = true) :
    (trainAckSet .tsu p s).blank W = s.blank W := by simp [trainAckSet, Com.blank, Tsu.blank, Dxd.blank, h0]

@[simp ↓] theorem trainComplete_tsu_blank {W : Part → Bool} (p : Nat) (s : State) (h0 : W (.com .tsu .ports) = true) :
    (trainComplete .tsu p s).blank W = s.blank W := by simp [trainComplete, Com.blank, Tsu.blank, Dxd.blank, h0]

@[simp ↓] theorem trainComplete_dxd_blank {W : Part → Bool} (p : Nat) (s : State) (h0 : W (.com .dxd .ports) = true) :
    (trainComplete .dxd p s).blank W = s.blank W := by simp [trainComplete, Com.blank, Tsu.blank, Dxd.blank, h0]

@[simp ↓] theorem queueRequest_tsu_blank {W : Part → Bool} (p : Nat) (done : Bool) (s : State) (h0 : W (.com .tsu .ports) = true) :
    (queueRequest .tsu p done s).blank W = s.blank W := by
  unfold queueRequest
  dsimp only
  (repeat' split) <;> first
    | (simp (maxDischargeDepth := 12) [Com.blank, Tsu.blank, Dxd.blank, h0]; done)
    | (exfalso; simp_all; done)
    | (refine (foldl_blank _ _ _ ?_).trans ?_
       · intro s a
         (repeat' split) <;> simp (maxDischargeDepth := 12) [Com.blank, Tsu.blank, Dxd.blank, h0]
       · simp (maxDischargeDepth := 12) [Com.blank, Tsu.blank, Dxd.blank, h0])

@[simp ↓] theorem queueRequest_dxd_blank {W : Part → Bool} (p : Nat) (done : Bool) (s : State) (h0 : W (.com .dxd .ports) = true) :
    (queueRequest .dxd p done s).blank W = s.blank W := by
  unfold queueRequest
  dsimp only
  (repeat' split) <;> first
    | (simp (maxDischargeDepth := 12) [Com.blank, Tsu.blank, Dxd.blank, h0]; done)
    | (exfalso; simp_all; done)
    | (refine (foldl_blank _ _ _ ?_).trans ?_
       · intro s a
         (repeat' split) <;> simp (maxDischargeDepth := 12) [Com.blank, Tsu.blank, Dxd.blank, h0]
       · simp (maxDischargeDepth := 12) [Com.blank, Tsu.blank, Dxd.blank, h0])

@[simp ↓] theorem requestSend_tsu_blank {W : Part → Bool} (p : Nat) (s : State) (h0 : W (.com .tsu .ports) = true) :
    (requestSend .tsu p s).blank W = s.blank W := by
  unfold requestSend
  dsimp only
  (repeat' split) <;> first
    | (simp (maxDischargeDepth := 12) [Com.blank, Tsu.blank, Dxd.blank, h0]; done)
    | (exfalso; simp_all; done)
    | (refine (foldl_blank _ _ _ ?_).trans ?_
       · intro s a
         (repeat' split) <;> simp (maxDischargeDepth := 12) [Com.blank, Tsu.blank, Dxd.blank, h0]
       · simp (maxDischargeDepth := 12) [Com.blank, Tsu.blank, Dxd.blank, h0])

@[simp ↓] theorem requestSend_dxd_blank {W : Part → Bool} (p : Nat) (s : State) (h0 : W (.com .dxd .ports) = true) :
    (requestSend .dxd p s).blank W = s.blank W := by
  unfold requestSend
  dsimp only
  (repeat' split) <;> first
    | (simp (maxDischargeDepth := 12) [Com.blank, Tsu.blank, Dxd.blank, h0]; done)
    | (exfalso; simp_all; done)
    | (refine (foldl_blank _ _ _ ?_).trans ?_
       · intro s a
         (repeat' split) <;> simp (maxDischargeDepth := 12) [Com.blank, Tsu.blank, Dxd.blank, h0]
       · simp (maxDischargeDepth := 12) [Com.blank, Tsu.blank, Dxd.blank, h0])

@[simp ↓] theorem requestReceive_dxd_blank {W : Part → Bool} (p : Nat) (h : LinkHdr) (f : ProbeF) (t2 : Nat) (s : State) (h0 : W (.com .dxd .ports) = true) (h1 : W (.com .dxd .boot) = true) (h2 : W (.com .dxd .pgEvent) = true) (h3 : W (.com .dxd .ic) = true) (h4 : W .referee = true) :
    (requestReceive .dxd p h f t2 s).blank W = s.blank W := by
  unfold requestReceive
  dsimp only
  (repeat' split) <;> first
    | (simp (maxDischargeDepth := 12) [Com.blank, Tsu.blank, Dxd.blank, h0, h1, h2, h3, h4]; done)
    | (exfalso; simp_all; done)
    | (refine (foldl_blank _ _ _ ?_).trans ?_
       · intro s a
         (repeat' split) <;> simp (maxDischargeDepth := 12) [Com.blank, Tsu.blank, Dxd.blank, h0, h1, h2, h3, h4]
       · simp (maxDischargeDepth := 12) [Com.blank, Tsu.blank, Dxd.blank, h0, h1, h2, h3, h4])

@[simp ↓] theorem requestReceive_tsu_blank {W : Part → Bool} (p : Nat) (h : LinkHdr) (f : ProbeF) (t2 : Nat) (s : State) (h0 : W (.com .tsu .ports) = true) (h1 : W (.com .tsu .boot) = true) (h2 : W (.com .tsu .pgEvent) = true) (h3 : W (.com .tsu .ic) = true) :
    (requestReceive .tsu p h f t2 s).blank W = s.blank W := by
  unfold requestReceive
  dsimp only
  (repeat' split) <;> first
    | (simp (maxDischargeDepth := 12) [Com.blank, Tsu.blank, Dxd.blank, h0, h1, h2, h3]; done)
    | (exfalso; simp_all; done)
    | (refine (foldl_blank _ _ _ ?_).trans ?_
       · intro s a
         (repeat' split) <;> simp (maxDischargeDepth := 12) [Com.blank, Tsu.blank, Dxd.blank, h0, h1, h2, h3]
       · simp (maxDischargeDepth := 12) [Com.blank, Tsu.blank, Dxd.blank, h0, h1, h2, h3])

@[simp ↓] theorem replyReceive_tsu_blank {W : Part → Bool} (p : Nat) (h : LinkHdr) (f : ProbeF) (t4 : Nat) (s : State) (h0 : W (.com .tsu .ports) = true) :
    (replyReceive .tsu p h f t4 s).blank W = s.blank W := by
  unfold replyReceive
  dsimp only
  (repeat' split) <;> simp [Com.blank, Tsu.blank, Dxd.blank, h0]

@[simp ↓] theorem replyReceive_dxd_blank {W : Part → Bool} (p : Nat) (h : LinkHdr) (f : ProbeF) (t4 : Nat) (s : State) (h0 : W (.com .dxd .ports) = true) :
    (replyReceive .dxd p h f t4 s).blank W = s.blank W := by
  unfold replyReceive
  dsimp only
  (repeat' split) <;> simp [Com.blank, Tsu.blank, Dxd.blank, h0]

@[simp ↓] theorem probeTimeout_tsu_blank {W : Part → Bool} (p : Nat) (s : State) (h0 : W (.com .tsu .ports) = true) :
    (probeTimeout .tsu p s).blank W = s.blank W := by simp [probeTimeout, Com.blank, Tsu.blank, Dxd.blank, h0]

@[simp ↓] theorem probeTimeout_dxd_blank {W : Part → Bool} (p : Nat) (s : State) (h0 : W (.com .dxd .ports) = true) :
    (probeTimeout .dxd p s).blank W = s.blank W := by simp [probeTimeout, Com.blank, Tsu.blank, Dxd.blank, h0]

@[simp ↓] theorem calComplete_dxd_blank {W : Part → Bool} (p : Nat) (s : State) (h0 : W (.com .dxd .ports) = true) (h1 : W (.com .dxd .boot) = true) (h2 : W (.com .dxd .pgEvent) = true) (h3 : W (.com .dxd .ic) = true) (h4 : W .referee = true) :
    (calComplete .dxd p s).blank W = s.blank W := by
  unfold calComplete
  dsimp only
  (repeat' split) <;> first
    | (simp (maxDischargeDepth := 12) [Com.blank, Tsu.blank, Dxd.blank, h0, h1, h2, h3, h4]; done)
    | (exfalso; simp_all; done)
    | (refine (foldl_blank _ _ _ ?_).trans ?_
       · intro s a
         (repeat' split) <;> simp (maxDischargeDepth := 12) [Com.blank, Tsu.blank, Dxd.blank, h0, h1, h2, h3, h4]
       · simp (maxDischargeDepth := 12) [Com.blank, Tsu.blank, Dxd.blank, h0, h1, h2, h3, h4])

@[simp ↓] theorem calComplete_tsu_blank {W : Part → Bool} (p : Nat) (s : State) (h0 : W (.com .tsu .ports) = true) (h1 : W (.com .tsu .boot) = true) (h2 : W (.com .tsu .pgEvent) = true) (h3 : W (.com .tsu .ic) = true) :
    (calComplete .tsu p s).blank W = s.blank W := by
  unfold calComplete
  dsimp only
  (repeat' split) <;> first
    | (simp (maxDischargeDepth := 12) [Com.blank, Tsu.blank, Dxd.blank, h0, h1, h2, h3]; done)
    | (exfalso; simp_all; done)
    | (refine (foldl_blank _ _ _ ?_).trans ?_
       · intro s a
         (repeat' split) <;> simp (maxDischargeDepth := 12) [Com.blank, Tsu.blank, Dxd.blank, h0, h1, h2, h3]
       · simp (maxDischargeDepth := 12) [Com.blank, Tsu.blank, Dxd.blank, h0, h1, h2, h3])

@[simp ↓] theorem calFail_dxd_blank {W : Part → Bool} (p : Nat) (s : State) (h0 : W (.com .dxd .ports) = true) (h1 : W (.com .dxd .tk) = true) (h2 : W .refs = true) (h3 : W .ptp = true) (h4 : W (.com .dxd .pgEvent) = true) (h5 : W (.com .dxd .ic) = true) (h6 : W .hold = true) (h7 : W (.com .dxd .coreA) = true) (h8 : W (.com .dxd .coreB) = true) (h9 : W (.com .dxd .hfits) = true) (h10 : W (.com .dxd .msets) = true) (h11 : W .attic = true) (h12 : W .referee = true) (h13 : W .ledger = true) (h14 : W .scores = true) (h15 : W (.com .dxd .regs) = true) (h16 : W .census = true) (h17 : W .kicks = true) :
    (calFail .dxd p s).blank W = s.blank W := by simp [calFail, Com.blank, Tsu.blank, Dxd.blank, h0, h1, h2, h3, h4, h5, h6, h7, h8, h9, h10, h11, h12, h13, h14, h15, h16, h17]

@[simp ↓] theorem calFail_tsu_blank {W : Part → Bool} (p : Nat) (s : State) (h0 : W (.com .tsu .ports) = true) (h1 : W .member = true) (h2 : W (.com .tsu .coreA) = true) (h3 : W (.com .tsu .coreB) = true) (h4 : W (.com .tsu .tk) = true) (h5 : W (.com .tsu .pgEvent) = true) (h6 : W (.com .tsu .ic) = true) (h7 : W (.com .tsu .msets) = true) (h8 : W (.com .tsu .hfits) = true) (h9 : W .huddles = true) :
    (calFail .tsu p s).blank W = s.blank W := by simp [calFail, Com.blank, Tsu.blank, Dxd.blank, h0, h1, h2, h3, h4, h5, h6, h7, h8, h9]

@[simp ↓] theorem delayUpdate_tsu_blank {W : Part → Bool} (p : Nat) (s : State) (h0 : W (.com .tsu .ports) = true) (h1 : W (.com .tsu .pgEvent) = true) (h2 : W (.com .tsu .ic) = true) :
    (delayUpdate .tsu p s).blank W = s.blank W := by
  unfold delayUpdate
  dsimp only
  (repeat' split) <;> first
    | (simp (maxDischargeDepth := 12) [Com.blank, Tsu.blank, Dxd.blank, h0, h1, h2]; done)
    | (exfalso; simp_all; done)
    | (refine (foldl_blank _ _ _ ?_).trans ?_
       · intro s a
         (repeat' split) <;> simp (maxDischargeDepth := 12) [Com.blank, Tsu.blank, Dxd.blank, h0, h1, h2]
       · simp (maxDischargeDepth := 12) [Com.blank, Tsu.blank, Dxd.blank, h0, h1, h2])

@[simp ↓] theorem delayUpdate_dxd_blank {W : Part → Bool} (p : Nat) (s : State) (h0 : W (.com .dxd .ports) = true) (h1 : W .attic = true) (h2 : W (.com .dxd .pgEvent) = true) (h3 : W (.com .dxd .ic) = true) :
    (delayUpdate .dxd p s).blank W = s.blank W := by
  unfold delayUpdate
  dsimp only
  (repeat' split) <;> first
    | (simp (maxDischargeDepth := 12) [Com.blank, Tsu.blank, Dxd.blank, h0, h1, h2, h3]; done)
    | (exfalso; simp_all; done)
    | (refine (foldl_blank _ _ _ ?_).trans ?_
       · intro s a
         (repeat' split) <;> simp (maxDischargeDepth := 12) [Com.blank, Tsu.blank, Dxd.blank, h0, h1, h2, h3]
       · simp (maxDischargeDepth := 12) [Com.blank, Tsu.blank, Dxd.blank, h0, h1, h2, h3])

@[simp ↓] theorem sendRetained_tsu_blank {W : Part → Bool} (p : Nat) (s : State) (h0 : W (.com .tsu .ports) = true) :
    (sendRetained .tsu p s).blank W = s.blank W := by
  unfold sendRetained
  dsimp only
  (repeat' split) <;> simp [Com.blank, Tsu.blank, Dxd.blank, h0]

@[simp ↓] theorem sendRetained_dxd_blank {W : Part → Bool} (p : Nat) (s : State) (h0 : W (.com .dxd .ports) = true) :
    (sendRetained .dxd p s).blank W = s.blank W := by
  unfold sendRetained
  dsimp only
  (repeat' split) <;> simp [Com.blank, Tsu.blank, Dxd.blank, h0]

@[simp ↓] theorem frameSlot_tsu_blank {W : Part → Bool} (p : Nat) (s : State) (h0 : W (.com .tsu .ports) = true) :
    (frameSlot .tsu p s).blank W = s.blank W := by simp [frameSlot, Com.blank, Tsu.blank, Dxd.blank, h0]

@[simp ↓] theorem frameSlot_dxd_blank {W : Part → Bool} (p : Nat) (s : State) (h0 : W (.com .dxd .ports) = true) :
    (frameSlot .dxd p s).blank W = s.blank W := by simp [frameSlot, Com.blank, Tsu.blank, Dxd.blank, h0]

@[simp ↓] theorem fillReceive_tsu_blank {W : Part → Bool} (p : Nat) (h : LinkHdr) (s : State) (h0 : W (.com .tsu .ports) = true) :
    (fillReceive .tsu p h s).blank W = s.blank W := by simp [fillReceive, Com.blank, Tsu.blank, Dxd.blank, h0]

@[simp ↓] theorem fillReceive_dxd_blank {W : Part → Bool} (p : Nat) (h : LinkHdr) (s : State) (h0 : W (.com .dxd .ports) = true) :
    (fillReceive .dxd p h s).blank W = s.blank W := by simp [fillReceive, Com.blank, Tsu.blank, Dxd.blank, h0]

@[simp ↓] theorem crcError_dxd_blank {W : Part → Bool} (p : Nat) (s : State) (h0 : W (.com .dxd .ports) = true) :
    (crcError .dxd p s).blank W = s.blank W := by
  unfold crcError
  dsimp only
  (repeat' split) <;> first
    | (simp (maxDischargeDepth := 12) [Com.blank, Tsu.blank, Dxd.blank, h0]; done)
    | (exfalso; simp_all; done)
    | (refine (foldl_blank _ _ _ ?_).trans ?_
       · intro s a
         (repeat' split) <;> simp (maxDischargeDepth := 12) [Com.blank, Tsu.blank, Dxd.blank, h0]
       · simp (maxDischargeDepth := 12) [Com.blank, Tsu.blank, Dxd.blank, h0])

@[simp ↓] theorem crcError_tsu_blank {W : Part → Bool} (p : Nat) (s : State) (h0 : W (.com .tsu .ports) = true) :
    (crcError .tsu p s).blank W = s.blank W := by
  unfold crcError
  dsimp only
  (repeat' split) <;> first
    | (simp (maxDischargeDepth := 12) [Com.blank, Tsu.blank, Dxd.blank, h0]; done)
    | (exfalso; simp_all; done)
    | (refine (foldl_blank _ _ _ ?_).trans ?_
       · intro s a
         (repeat' split) <;> simp (maxDischargeDepth := 12) [Com.blank, Tsu.blank, Dxd.blank, h0]
       · simp (maxDischargeDepth := 12) [Com.blank, Tsu.blank, Dxd.blank, h0])

@[simp ↓] theorem unknownType_tsu_blank {W : Part → Bool} (p : Nat) (_h : LinkHdr) (ty : Nat) (s : State) (h0 : W (.com .tsu .ports) = true) :
    (unknownType .tsu p _h ty s).blank W = s.blank W := by simp [unknownType, Com.blank, Tsu.blank, Dxd.blank, h0]

@[simp ↓] theorem unknownType_dxd_blank {W : Part → Bool} (p : Nat) (_h : LinkHdr) (ty : Nat) (s : State) (h0 : W (.com .dxd .ports) = true) :
    (unknownType .dxd p _h ty s).blank W = s.blank W := by simp [unknownType, Com.blank, Tsu.blank, Dxd.blank, h0]

@[simp ↓] theorem nakTimeout_dxd_blank {W : Part → Bool} (p : Nat) (s : State) (h0 : W (.com .dxd .ports) = true) (h1 : W (.com .dxd .tk) = true) (h2 : W .refs = true) (h3 : W .ptp = true) (h4 : W (.com .dxd .pgEvent) = true) (h5 : W (.com .dxd .ic) = true) (h6 : W .hold = true) (h7 : W (.com .dxd .coreA) = true) (h8 : W (.com .dxd .coreB) = true) (h9 : W (.com .dxd .hfits) = true) (h10 : W (.com .dxd .msets) = true) (h11 : W .attic = true) (h12 : W .referee = true) (h13 : W .ledger = true) (h14 : W .scores = true) (h15 : W (.com .dxd .regs) = true) (h16 : W .census = true) (h17 : W .kicks = true) :
    (nakTimeout .dxd p s).blank W = s.blank W := by simp [nakTimeout, Com.blank, Tsu.blank, Dxd.blank, h0, h1, h2, h3, h4, h5, h6, h7, h8, h9, h10, h11, h12, h13, h14, h15, h16, h17]

@[simp ↓] theorem nakTimeout_tsu_blank {W : Part → Bool} (p : Nat) (s : State) (h0 : W (.com .tsu .ports) = true) (h1 : W .member = true) (h2 : W (.com .tsu .coreA) = true) (h3 : W (.com .tsu .coreB) = true) (h4 : W (.com .tsu .tk) = true) (h5 : W (.com .tsu .pgEvent) = true) (h6 : W (.com .tsu .ic) = true) (h7 : W (.com .tsu .msets) = true) (h8 : W (.com .tsu .hfits) = true) (h9 : W .huddles = true) :
    (nakTimeout .tsu p s).blank W = s.blank W := by simp [nakTimeout, Com.blank, Tsu.blank, Dxd.blank, h0, h1, h2, h3, h4, h5, h6, h7, h8, h9]

@[simp ↓] theorem freeRecords_blank {W : Part → Bool} (s : State) (h0 : W .member = true) (h1 : W .steps = true) :
    (freeRecords s).blank W = s.blank W := by simp [freeRecords, Com.blank, Tsu.blank, Dxd.blank, h0, h1]

@[simp ↓] theorem clearSplit_tsu_blank {W : Part → Bool} (p : Nat) (period : Nat) (s : State) (h0 : W (.com .tsu .tk) = true) :
    (clearSplit .tsu p period s).blank W = s.blank W := by simp [clearSplit, Com.blank, Tsu.blank, Dxd.blank, h0]

@[simp ↓] theorem clearSplit_dxd_blank {W : Part → Bool} (p : Nat) (period : Nat) (s : State) (h0 : W (.com .dxd .tk) = true) :
    (clearSplit .dxd p period s).blank W = s.blank W := by simp [clearSplit, Com.blank, Tsu.blank, Dxd.blank, h0]

@[simp ↓] theorem heartbeatSend_tsu_blank {W : Part → Bool} (p : Nat) (s : State) (h0 : W (.com .tsu .ports) = true) (h1 : W (.com .tsu .tk) = true) (h2 : W .member = true) (h3 : W .steps = true) :
    (heartbeatSend .tsu p s).blank W = s.blank W := by
  unfold heartbeatSend
  dsimp only
  (repeat' split) <;> first
    | (simp (maxDischargeDepth := 12) [Com.blank, Tsu.blank, Dxd.blank, h0, h1, h2, h3]; done)
    | (exfalso; simp_all; done)
    | (refine (foldl_blank _ _ _ ?_).trans ?_
       · intro s a
         (repeat' split) <;> simp (maxDischargeDepth := 12) [Com.blank, Tsu.blank, Dxd.blank, h0, h1, h2, h3]
       · simp (maxDischargeDepth := 12) [Com.blank, Tsu.blank, Dxd.blank, h0, h1, h2, h3])

@[simp ↓] theorem heartbeatSend_dxd_blank {W : Part → Bool} (p : Nat) (s : State) (h0 : W (.com .dxd .ports) = true) (h1 : W (.com .dxd .tk) = true) :
    (heartbeatSend .dxd p s).blank W = s.blank W := by
  unfold heartbeatSend
  dsimp only
  (repeat' split) <;> first
    | (simp (maxDischargeDepth := 12) [Com.blank, Tsu.blank, Dxd.blank, h0, h1]; done)
    | (exfalso; simp_all; done)
    | (refine (foldl_blank _ _ _ ?_).trans ?_
       · intro s a
         (repeat' split) <;> simp (maxDischargeDepth := 12) [Com.blank, Tsu.blank, Dxd.blank, h0, h1]
       · simp (maxDischargeDepth := 12) [Com.blank, Tsu.blank, Dxd.blank, h0, h1])

@[simp ↓] theorem heartbeatEvidence_blank {W : Part → Bool} (p : Nat) (ep : Nat) (f : HeartbeatF) (s : State) (h0 : W (.com .dxd .pgEvent) = true) (h1 : W (.com .dxd .ic) = true) (h2 : W .referee = true) (h3 : W .ledger = true) (h4 : W (.com .dxd .ports) = true) (h5 : W .scores = true) (h6 : W (.com .dxd .regs) = true) (h7 : W .census = true) (h8 : W .kicks = true) :
    (heartbeatEvidence p ep f s).blank W = s.blank W := by
  unfold heartbeatEvidence
  (repeat' split) <;> simp [State.blank, Com.blank, Tsu.blank, Dxd.blank, h0, h1, h2, h3, h4, h5, h6, h7, h8]

@[simp ↓] theorem noteJoined_blank {W : Part → Bool} (p : Nat) (ep : Nat) (f : HeartbeatF) (s : State) (h0 : W .census = true) :
    (noteJoined p ep f s).blank W = s.blank W := by simp [noteJoined, Com.blank, Tsu.blank, Dxd.blank, h0]

@[simp ↓] theorem heartbeatReceive_dxd_blank {W : Part → Bool} (p : Nat) (h : LinkHdr) (ep : Nat) (f : HeartbeatF) (s : State) (h0 : W (.com .dxd .ports) = true) (h1 : W (.com .dxd .tk) = true) (h2 : W .refs = true) (h3 : W .ptp = true) (h4 : W (.com .dxd .pgEvent) = true) (h5 : W (.com .dxd .ic) = true) (h6 : W .hold = true) (h7 : W (.com .dxd .coreA) = true) (h8 : W (.com .dxd .coreB) = true) (h9 : W (.com .dxd .hfits) = true) (h10 : W (.com .dxd .msets) = true) (h11 : W .attic = true) (h12 : W .referee = true) (h13 : W .ledger = true) (h14 : W .scores = true) (h15 : W (.com .dxd .regs) = true) (h16 : W .census = true) (h17 : W .kicks = true) :
    (heartbeatReceive .dxd p h ep f s).blank W = s.blank W := by simp [heartbeatReceive, Com.blank, Tsu.blank, Dxd.blank, h0, h1, h2, h3, h4, h5, h6, h7, h8, h9, h10, h11, h12, h13, h14, h15, h16, h17]

@[simp ↓] theorem heartbeatReceive_tsu_blank {W : Part → Bool} (p : Nat) (h : LinkHdr) (ep : Nat) (f : HeartbeatF) (s : State) (h0 : W (.com .tsu .ports) = true) :
    (heartbeatReceive .tsu p h ep f s).blank W = s.blank W := by
  unfold heartbeatReceive
  dsimp only
  (repeat' split) <;> first
    | (simp (maxDischargeDepth := 12) [Com.blank, Tsu.blank, Dxd.blank, h0]; done)
    | (exfalso; simp_all; done)
    | (refine (foldl_blank _ _ _ ?_).trans ?_
       · intro s a
         (repeat' split) <;> simp (maxDischargeDepth := 12) [Com.blank, Tsu.blank, Dxd.blank, h0]
       · simp (maxDischargeDepth := 12) [Com.blank, Tsu.blank, Dxd.blank, h0])

@[simp ↓] theorem peerFailed_dxd_blank {W : Part → Bool} (p : Nat) (s : State) (h0 : W (.com .dxd .ports) = true) (h1 : W (.com .dxd .tk) = true) (h2 : W .refs = true) (h3 : W .ptp = true) (h4 : W (.com .dxd .pgEvent) = true) (h5 : W (.com .dxd .ic) = true) (h6 : W .hold = true) (h7 : W (.com .dxd .coreA) = true) (h8 : W (.com .dxd .coreB) = true) (h9 : W (.com .dxd .hfits) = true) (h10 : W (.com .dxd .msets) = true) (h11 : W .attic = true) (h12 : W .referee = true) (h13 : W .ledger = true) (h14 : W .scores = true) (h15 : W (.com .dxd .regs) = true) (h16 : W .census = true) (h17 : W .kicks = true) :
    (peerFailed .dxd p s).blank W = s.blank W := by simp [peerFailed, Com.blank, Tsu.blank, Dxd.blank, h0, h1, h2, h3, h4, h5, h6, h7, h8, h9, h10, h11, h12, h13, h14, h15, h16, h17]

@[simp ↓] theorem peerFailed_tsu_blank {W : Part → Bool} (p : Nat) (s : State) (h0 : W (.com .tsu .ports) = true) (h1 : W .member = true) (h2 : W (.com .tsu .coreA) = true) (h3 : W (.com .tsu .coreB) = true) (h4 : W (.com .tsu .tk) = true) (h5 : W (.com .tsu .pgEvent) = true) (h6 : W (.com .tsu .ic) = true) (h7 : W (.com .tsu .msets) = true) (h8 : W (.com .tsu .hfits) = true) (h9 : W .huddles = true) :
    (peerFailed .tsu p s).blank W = s.blank W := by simp [peerFailed, Com.blank, Tsu.blank, Dxd.blank, h0, h1, h2, h3, h4, h5, h6, h7, h8, h9]

@[simp ↓] theorem portLoss_tsu_blank {W : Part → Bool} (p : Nat) (cause : LossCause) (s : State) (h0 : W (.com .tsu .ports) = true) (h1 : W .member = true) (h2 : W (.com .tsu .coreA) = true) (h3 : W (.com .tsu .coreB) = true) (h4 : W (.com .tsu .tk) = true) (h5 : W (.com .tsu .pgEvent) = true) (h6 : W (.com .tsu .ic) = true) (h7 : W (.com .tsu .msets) = true) (h8 : W (.com .tsu .hfits) = true) (h9 : W .huddles = true) :
    (portLoss .tsu p cause s).blank W = s.blank W := by
  unfold portLoss
  (repeat' split) <;> simp [Com.blank, Tsu.blank, Dxd.blank, h0, h1, h2, h3, h4, h5, h6, h7, h8, h9]

@[simp ↓] theorem portLoss_dxd_blank {W : Part → Bool} (p : Nat) (cause : LossCause) (s : State) (h0 : W (.com .dxd .ports) = true) (h1 : W (.com .dxd .tk) = true) (h2 : W .refs = true) (h3 : W .ptp = true) (h4 : W (.com .dxd .pgEvent) = true) (h5 : W (.com .dxd .ic) = true) (h6 : W .hold = true) (h7 : W (.com .dxd .coreA) = true) (h8 : W (.com .dxd .coreB) = true) (h9 : W (.com .dxd .hfits) = true) (h10 : W (.com .dxd .msets) = true) (h11 : W .attic = true) (h12 : W .referee = true) (h13 : W .ledger = true) (h14 : W .scores = true) (h15 : W (.com .dxd .regs) = true) (h16 : W .census = true) (h17 : W .kicks = true) :
    (portLoss .dxd p cause s).blank W = s.blank W := by
  unfold portLoss
  (repeat' split) <;> simp [Com.blank, Tsu.blank, Dxd.blank, h0, h1, h2, h3, h4, h5, h6, h7, h8, h9, h10, h11, h12, h13, h14, h15, h16, h17]

@[simp ↓] theorem errorRate_tsu_blank {W : Part → Bool} (p : Nat) (s : State) (h0 : W (.com .tsu .ports) = true) (h1 : W .member = true) (h2 : W (.com .tsu .coreA) = true) (h3 : W (.com .tsu .coreB) = true) (h4 : W (.com .tsu .tk) = true) (h5 : W (.com .tsu .pgEvent) = true) (h6 : W (.com .tsu .ic) = true) (h7 : W (.com .tsu .msets) = true) (h8 : W (.com .tsu .hfits) = true) (h9 : W .huddles = true) :
    (errorRate .tsu p s).blank W = s.blank W := by simp [errorRate, Com.blank, Tsu.blank, Dxd.blank, h0, h1, h2, h3, h4, h5, h6, h7, h8, h9]

@[simp ↓] theorem errorRate_dxd_blank {W : Part → Bool} (p : Nat) (s : State) (h0 : W (.com .dxd .ports) = true) (h1 : W (.com .dxd .tk) = true) (h2 : W .refs = true) (h3 : W .ptp = true) (h4 : W (.com .dxd .pgEvent) = true) (h5 : W (.com .dxd .ic) = true) (h6 : W .hold = true) (h7 : W (.com .dxd .coreA) = true) (h8 : W (.com .dxd .coreB) = true) (h9 : W (.com .dxd .hfits) = true) (h10 : W (.com .dxd .msets) = true) (h11 : W .attic = true) (h12 : W .referee = true) (h13 : W .ledger = true) (h14 : W .scores = true) (h15 : W (.com .dxd .regs) = true) (h16 : W .census = true) (h17 : W .kicks = true) :
    (errorRate .dxd p s).blank W = s.blank W := by simp [errorRate, Com.blank, Tsu.blank, Dxd.blank, h0, h1, h2, h3, h4, h5, h6, h7, h8, h9, h10, h11, h12, h13, h14, h15, h16, h17]

@[simp ↓] theorem linkFlap_dxd_blank {W : Part → Bool} (p : Nat) (s : State) (h0 : W (.com .dxd .ports) = true) (h1 : W (.com .dxd .pgEvent) = true) (h2 : W (.com .dxd .ic) = true) :
    (linkFlap .dxd p s).blank W = s.blank W := by
  unfold linkFlap
  dsimp only
  (repeat' split) <;> first
    | (simp (maxDischargeDepth := 12) [Com.blank, Tsu.blank, Dxd.blank, h0, h1, h2]; done)
    | (exfalso; simp_all; done)
    | (refine (foldl_blank _ _ _ ?_).trans ?_
       · intro s a
         (repeat' split) <;> simp (maxDischargeDepth := 12) [Com.blank, Tsu.blank, Dxd.blank, h0, h1, h2]
       · simp (maxDischargeDepth := 12) [Com.blank, Tsu.blank, Dxd.blank, h0, h1, h2])

@[simp ↓] theorem linkFlap_tsu_blank {W : Part → Bool} (p : Nat) (s : State) (h0 : W (.com .tsu .ports) = true) (h1 : W (.com .tsu .pgEvent) = true) (h2 : W (.com .tsu .ic) = true) :
    (linkFlap .tsu p s).blank W = s.blank W := by
  unfold linkFlap
  dsimp only
  (repeat' split) <;> first
    | (simp (maxDischargeDepth := 12) [Com.blank, Tsu.blank, Dxd.blank, h0, h1, h2]; done)
    | (exfalso; simp_all; done)
    | (refine (foldl_blank _ _ _ ?_).trans ?_
       · intro s a
         (repeat' split) <;> simp (maxDischargeDepth := 12) [Com.blank, Tsu.blank, Dxd.blank, h0, h1, h2]
       · simp (maxDischargeDepth := 12) [Com.blank, Tsu.blank, Dxd.blank, h0, h1, h2])

@[simp ↓] theorem oseqForget_dxd_blank {W : Part → Bool} (s : State) (h0 : W (.com .dxd .oseq) = true) :
    (oseqForget .dxd s).blank W = s.blank W := by simp [oseqForget, Com.blank, Tsu.blank, Dxd.blank, h0]

@[simp ↓] theorem oseqForget_tsu_blank {W : Part → Bool} (s : State) (h0 : W (.com .tsu .oseq) = true) :
    (oseqForget .tsu s).blank W = s.blank W := by simp [oseqForget, Com.blank, Tsu.blank, Dxd.blank, h0]

@[simp ↓] theorem portErrorsRead_dxd_blank {W : Part → Bool} (rq : Nat) (p : Nat) (s : State) (h0 : W (.com .dxd .badAccess) = true) (h1 : W (.com .dxd .barLow) = true) (h2 : W (.com .dxd .barCap) = true) (h3 : W (.com .dxd .bt) = true) (h4 : W (.com .dxd .rsp) = true) (h5 : W (.com .dxd .ports) = true) :
    (portErrorsRead .dxd rq p s).blank W = s.blank W := by simp [portErrorsRead, Com.blank, Tsu.blank, Dxd.blank, h0, h1, h2, h3, h4, h5]

@[simp ↓] theorem portErrorsRead_tsu_blank {W : Part → Bool} (rq : Nat) (p : Nat) (s : State) (h0 : W (.com .tsu .bt) = true) (h1 : W (.com .tsu .rsp) = true) (h2 : W (.com .tsu .ports) = true) :
    (portErrorsRead .tsu rq p s).blank W = s.blank W := by simp [portErrorsRead, Com.blank, Tsu.blank, Dxd.blank, h0, h1, h2]

end Sys2Proof.Machine
end

