-- ==== Sys2Proof/Laws/FrameAttic.lean ====
section
/-!
SUPPORT. What the operations of Machine/Attic.lean can change.
-/

namespace Sys2Proof.Machine

@[simp ↓] theorem atticStore_blank {W : Part → Bool} (off : Nat) (bs : List Byte) (s : State) (h0 : W .attic = true) :
    (atticStore off bs s).blank W = s.blank W := by simp [atticStore, Com.blank, Tsu.blank, Dxd.blank, h0]

@[simp ↓] theorem atAdvance_blank {W : Part → Bool} (s : State) (h0 : W .attic = true) :
    (atAdvance s).blank W = s.blank W := by simp [atAdvance, Com.blank, Tsu.blank, Dxd.blank, h0]

@[simp ↓] theorem atDataEffect_blank {W : Part → Bool} (s : State) (h0 : W .attic = true) (h1 : W (.com .dxd .pgEvent) = true) (h2 : W (.com .dxd .ic) = true) :
    (atDataEffect s).blank W = s.blank W := by simp [atDataEffect, Com.blank, Tsu.blank, Dxd.blank, h0, h1, h2]

@[simp ↓] theorem plainLink_blank {W : Part → Bool} (i : Nat) (s : State) (h0 : W .attic = true) :
    (plainLink i s).blank W = s.blank W := by simp [plainLink, Com.blank, Tsu.blank, Dxd.blank, h0]

@[simp ↓] theorem atDataWrite_blank {W : Part → Bool} (v : Word) (s : State) (h0 : W (.com .dxd .pgEvent) = true) (h1 : W (.com .dxd .ic) = true) (h2 : W .attic = true) :
    (atDataWrite v s).blank W = s.blank W := by simp [atDataWrite, Com.blank, Tsu.blank, Dxd.blank, h0, h1, h2]

@[simp ↓] theorem atAddrWrite_blank {W : Part → Bool} (v : Word) (s : State) (h0 : W .attic = true) :
    (atAddrWrite v s).blank W = s.blank W := by simp [atAddrWrite, Com.blank, Tsu.blank, Dxd.blank, h0]

@[simp ↓] theorem putDir_blank {W : Part → Bool} (dir : List DirEntry) (s : State) (h0 : W .attic = true) :
    (putDir dir s).blank W = s.blank W := by simp [putDir, Com.blank, Tsu.blank, Dxd.blank, h0]

@[simp ↓] theorem dirEnter_blank {W : Part → Bool} (off : Nat) (img : List Byte) (s : State) (h0 : W .attic = true) :
    (dirEnter off img s).blank W = s.blank W := by simp [dirEnter, Com.blank, Tsu.blank, Dxd.blank, h0]

@[simp ↓] theorem cacheImage_blank {W : Part → Bool} (img : List Byte) (s : State) (h0 : W .attic = true) :
    (cacheImage img s).blank W = s.blank W := by
  unfold cacheImage
  dsimp only
  (repeat' split) <;> simp [Com.blank, Tsu.blank, Dxd.blank, h0]

@[simp ↓] theorem sendImage_blank {W : Part → Bool} (ports : List Nat) (epoch : Nat) (img : List Byte) (s : State) (h0 : W (.com .dxd .ports) = true) :
    (sendImage ports epoch img s).blank W = s.blank W := by simp [sendImage, Com.blank, Tsu.blank, Dxd.blank, h0]

@[simp ↓] theorem commitImage_blank {W : Part → Bool} (s : State) (h0 : W (.com .dxd .pgEvent) = true) (h1 : W (.com .dxd .ic) = true) (h2 : W .attic = true) (h3 : W (.com .dxd .ports) = true) :
    (commitImage s).blank W = s.blank W := by simp [commitImage, Com.blank, Tsu.blank, Dxd.blank, h0, h1, h2, h3]

@[simp ↓] theorem dropImage_blank {W : Part → Bool} (id : Nat) (s : State) (h0 : W .attic = true) :
    (dropImage id s).blank W = s.blank W := by simp [dropImage, Com.blank, Tsu.blank, Dxd.blank, h0]

@[simp ↓] theorem clearHistorySlots_blank {W : Part → Bool} (s : State) (h0 : W .attic = true) :
    (clearHistorySlots s).blank W = s.blank W := by simp [clearHistorySlots, Com.blank, Tsu.blank, Dxd.blank, h0]

@[simp ↓] theorem clearLinks_blank {W : Part → Bool} (s : State) (h0 : W .attic = true) :
    (clearLinks s).blank W = s.blank W := by simp [clearLinks, Com.blank, Tsu.blank, Dxd.blank, h0]

@[simp ↓] theorem atCtlWrite_blank {W : Part → Bool} (v : Word) (s : State) (h0 : W (.com .dxd .pgEvent) = true) (h1 : W (.com .dxd .ic) = true) (h2 : W .attic = true) (h3 : W (.com .dxd .ports) = true) :
    (atCtlWrite v s).blank W = s.blank W := by simp [atCtlWrite, Com.blank, Tsu.blank, Dxd.blank, h0, h1, h2, h3]

end Sys2Proof.Machine
end

