-- ==== Sys2Proof/Laws/FrameTdc.lean ====
section
/-!
SUPPORT. What the operations of Machine/Tdc.lean can change.
-/

namespace Sys2Proof.Machine

@[simp ↓] theorem modChan_tsu_blank {W : Part → Bool} (ch : Nat) (f : Chan → Chan) (s : State) (h0 : W (.com .tsu .chans) = true) :
    (modChan .tsu ch f s).blank W = s.blank W := by simp [modChan, Com.blank, Tsu.blank, Dxd.blank, h0]

@[simp ↓] theorem modChan_dxd_blank {W : Part → Bool} (ch : Nat) (f : Chan → Chan) (s : State) (h0 : W (.com .dxd .chans) = true) :
    (modChan .dxd ch f s).blank W = s.blank W := by simp [modChan, Com.blank, Tsu.blank, Dxd.blank, h0]

@[simp ↓] theorem modSet_dxd_blank {W : Part → Bool} (m : Nat) (f : MSet → MSet) (s : State) (h0 : W (.com .dxd .msets) = true) :
    (modSet .dxd m f s).blank W = s.blank W := by simp [modSet, Com.blank, Tsu.blank, Dxd.blank, h0]

@[simp ↓] theorem modSet_tsu_blank {W : Part → Bool} (m : Nat) (f : MSet → MSet) (s : State) (h0 : W (.com .tsu .msets) = true) :
    (modSet .tsu m f s).blank W = s.blank W := by simp [modSet, Com.blank, Tsu.blank, Dxd.blank, h0]

@[simp ↓] theorem endSet_dxd_blank {W : Part → Bool} (m : Nat) (err : Nat) (s : State) (h0 : W (.com .dxd .pgEvent) = true) (h1 : W (.com .dxd .ic) = true) (h2 : W (.com .dxd .msets) = true) :
    (endSet .dxd m err s).blank W = s.blank W := by simp [endSet, Com.blank, Tsu.blank, Dxd.blank, h0, h1, h2]

@[simp ↓] theorem endSet_tsu_blank {W : Part → Bool} (m : Nat) (err : Nat) (s : State) (h0 : W (.com .tsu .pgEvent) = true) (h1 : W (.com .tsu .ic) = true) (h2 : W (.com .tsu .msets) = true) :
    (endSet .tsu m err s).blank W = s.blank W := by simp [endSet, Com.blank, Tsu.blank, Dxd.blank, h0, h1, h2]

@[simp ↓] theorem armSet_tsu_blank {W : Part → Bool} (m : Nat) (s : State) (h0 : W (.com .tsu .msets) = true) (h1 : W (.com .tsu .pgEvent) = true) (h2 : W (.com .tsu .ic) = true) :
    (armSet .tsu m s).blank W = s.blank W := by simp [armSet, Com.blank, Tsu.blank, Dxd.blank, h0, h1, h2]

@[simp ↓] theorem armSet_dxd_blank {W : Part → Bool} (m : Nat) (s : State) (h0 : W (.com .dxd .msets) = true) (h1 : W (.com .dxd .pgEvent) = true) (h2 : W (.com .dxd .ic) = true) :
    (armSet .dxd m s).blank W = s.blank W := by simp [armSet, Com.blank, Tsu.blank, Dxd.blank, h0, h1, h2]

@[simp ↓] theorem setCtl_dxd_blank {W : Part → Bool} (m : Nat) (v : Word) (s : State) (h0 : W (.com .dxd .pgEvent) = true) (h1 : W (.com .dxd .ic) = true) (h2 : W (.com .dxd .msets) = true) (h3 : W (.com .dxd .regs) = true) :
    (setCtl .dxd m v s).blank W = s.blank W := by simp [setCtl, Com.blank, Tsu.blank, Dxd.blank, h0, h1, h2, h3]

@[simp ↓] theorem setCtl_tsu_blank {W : Part → Bool} (m : Nat) (v : Word) (s : State) (h0 : W (.com .tsu .pgEvent) = true) (h1 : W (.com .tsu .ic) = true) (h2 : W (.com .tsu .msets) = true) (h3 : W (.com .tsu .regs) = true) :
    (setCtl .tsu m v s).blank W = s.blank W := by simp [setCtl, Com.blank, Tsu.blank, Dxd.blank, h0, h1, h2, h3]

@[simp ↓] theorem observe_dxd_blank {W : Part → Bool} (ch : Nat) (stamp : Option Nat) (s : State) (h0 : W (.com .dxd .msets) = true) (h1 : W (.com .dxd .hfits) = true) :
    (observe .dxd ch stamp s).blank W = s.blank W := by simp [observe, Com.blank, Tsu.blank, Dxd.blank, h0, h1]

@[simp ↓] theorem observe_tsu_blank {W : Part → Bool} (ch : Nat) (stamp : Option Nat) (s : State) (h0 : W (.com .tsu .msets) = true) (h1 : W (.com .tsu .hfits) = true) :
    (observe .tsu ch stamp s).blank W = s.blank W := by simp [observe, Com.blank, Tsu.blank, Dxd.blank, h0, h1]

@[simp ↓] theorem countMissed_dxd_blank {W : Part → Bool} (ch : Nat) (s : State) (h0 : W (.com .dxd .pgEvent) = true) (h1 : W (.com .dxd .ic) = true) (h2 : W (.com .dxd .chans) = true) :
    (countMissed .dxd ch s).blank W = s.blank W := by simp [countMissed, Com.blank, Tsu.blank, Dxd.blank, h0, h1, h2]

@[simp ↓] theorem countMissed_tsu_blank {W : Part → Bool} (ch : Nat) (s : State) (h0 : W (.com .tsu .pgEvent) = true) (h1 : W (.com .tsu .ic) = true) (h2 : W (.com .tsu .chans) = true) :
    (countMissed .tsu ch s).blank W = s.blank W := by simp [countMissed, Com.blank, Tsu.blank, Dxd.blank, h0, h1, h2]

@[simp ↓] theorem countInvalid_dxd_blank {W : Part → Bool} (ch : Nat) (s : State) (h0 : W (.com .dxd .pgEvent) = true) (h1 : W (.com .dxd .ic) = true) (h2 : W (.com .dxd .chans) = true) :
    (countInvalid .dxd ch s).blank W = s.blank W := by simp [countInvalid, Com.blank, Tsu.blank, Dxd.blank, h0, h1, h2]

@[simp ↓] theorem countInvalid_tsu_blank {W : Part → Bool} (ch : Nat) (s : State) (h0 : W (.com .tsu .pgEvent) = true) (h1 : W (.com .tsu .ic) = true) (h2 : W (.com .tsu .chans) = true) :
    (countInvalid .tsu ch s).blank W = s.blank W := by simp [countInvalid, Com.blank, Tsu.blank, Dxd.blank, h0, h1, h2]

@[simp ↓] theorem countTen_dxd_blank {W : Part → Bool} (ch : Nat) (s : State) (h0 : W .refs = true) :
    (countTen .dxd ch s).blank W = s.blank W := by simp [countTen, Com.blank, Tsu.blank, Dxd.blank, h0]

@[simp ↓] theorem countTen_tsu_blank {W : Part → Bool} (ch : Nat) (s : State) :
    (countTen .tsu ch s).blank W = s.blank W := by simp [countTen, Com.blank, Tsu.blank, Dxd.blank]

@[simp ↓] theorem edgeStamp_tsu_blank {W : Part → Bool} (ch : Nat) (w : Nat) (n : Nat) (c : Nat) (s : State) (h0 : W (.com .tsu .msets) = true) (h1 : W (.com .tsu .hfits) = true) (h2 : W (.com .tsu .pgEvent) = true) (h3 : W (.com .tsu .ic) = true) (h4 : W (.com .tsu .chans) = true) :
    (edgeStamp .tsu ch w n c s).blank W = s.blank W := by
  unfold edgeStamp
  dsimp only
  (repeat' split) <;> simp [Com.blank, Tsu.blank, Dxd.blank, h0, h1, h2, h3, h4]

@[simp ↓] theorem edgeStamp_dxd_blank {W : Part → Bool} (ch : Nat) (w : Nat) (n : Nat) (c : Nat) (s : State) (h0 : W .refs = true) (h1 : W (.com .dxd .msets) = true) (h2 : W (.com .dxd .hfits) = true) (h3 : W (.com .dxd .pgEvent) = true) (h4 : W (.com .dxd .ic) = true) (h5 : W (.com .dxd .chans) = true) :
    (edgeStamp .dxd ch w n c s).blank W = s.blank W := by
  unfold edgeStamp
  dsimp only
  (repeat' split) <;> simp [Com.blank, Tsu.blank, Dxd.blank, h0, h1, h2, h3, h4, h5]

@[simp ↓] theorem calibration_tsu_blank {W : Part → Bool} (ch : Nat) (i : Nat) (c1s : Nat) (c2s : Nat) (s : State) (h0 : W (.com .tsu .chans) = true) :
    (calibration .tsu ch i c1s c2s s).blank W = s.blank W := by simp [calibration, Com.blank, Tsu.blank, Dxd.blank, h0]

@[simp ↓] theorem calibration_dxd_blank {W : Part → Bool} (ch : Nat) (i : Nat) (c1s : Nat) (c2s : Nat) (s : State) (h0 : W (.com .dxd .chans) = true) :
    (calibration .dxd ch i c1s c2s s).blank W = s.blank W := by simp [calibration, Com.blank, Tsu.blank, Dxd.blank, h0]

@[simp ↓] theorem chanCalFail_tsu_blank {W : Part → Bool} (ch : Nat) (s : State) (h0 : W (.com .tsu .pgEvent) = true) (h1 : W (.com .tsu .ic) = true) (h2 : W (.com .tsu .chans) = true) :
    (chanCalFail .tsu ch s).blank W = s.blank W := by simp [chanCalFail, Com.blank, Tsu.blank, Dxd.blank, h0, h1, h2]

@[simp ↓] theorem chanCalFail_dxd_blank {W : Part → Bool} (ch : Nat) (s : State) (h0 : W (.com .dxd .pgEvent) = true) (h1 : W (.com .dxd .ic) = true) (h2 : W (.com .dxd .chans) = true) :
    (chanCalFail .dxd ch s).blank W = s.blank W := by simp [chanCalFail, Com.blank, Tsu.blank, Dxd.blank, h0, h1, h2]

@[simp ↓] theorem measurementArm_dxd_blank {W : Part → Bool} (rq : Nat) (m : Nat) (v : Word) (s : State) (h0 : W (.com .dxd .badAccess) = true) (h1 : W (.com .dxd .barLow) = true) (h2 : W (.com .dxd .barCap) = true) (h3 : W (.com .dxd .bt) = true) (h4 : W (.com .dxd .lockRefused) = true) (h5 : W (.com .dxd .pgEvent) = true) (h6 : W (.com .dxd .ic) = true) (h7 : W (.com .dxd .msets) = true) (h8 : W (.com .dxd .regs) = true) :
    (measurementArm .dxd rq m v s).blank W = s.blank W := by simp [measurementArm, Com.blank, Tsu.blank, Dxd.blank, h0, h1, h2, h3, h4, h5, h6, h7, h8]

@[simp ↓] theorem measurementArm_tsu_blank {W : Part → Bool} (rq : Nat) (m : Nat) (v : Word) (s : State) (h0 : W (.com .tsu .bt) = true) (h1 : W (.com .tsu .lockRefused) = true) (h2 : W (.com .tsu .pgEvent) = true) (h3 : W (.com .tsu .ic) = true) (h4 : W (.com .tsu .msets) = true) (h5 : W (.com .tsu .regs) = true) :
    (measurementArm .tsu rq m v s).blank W = s.blank W := by simp [measurementArm, Com.blank, Tsu.blank, Dxd.blank, h0, h1, h2, h3, h4, h5]

@[simp ↓] theorem measurementAbort_tsu_blank {W : Part → Bool} (rq : Nat) (m : Nat) (v : Word) (s : State) (h0 : W (.com .tsu .bt) = true) (h1 : W (.com .tsu .lockRefused) = true) (h2 : W (.com .tsu .pgEvent) = true) (h3 : W (.com .tsu .ic) = true) (h4 : W (.com .tsu .msets) = true) (h5 : W (.com .tsu .regs) = true) :
    (measurementAbort .tsu rq m v s).blank W = s.blank W := by simp [measurementAbort, Com.blank, Tsu.blank, Dxd.blank, h0, h1, h2, h3, h4, h5]

@[simp ↓] theorem measurementAbort_dxd_blank {W : Part → Bool} (rq : Nat) (m : Nat) (v : Word) (s : State) (h0 : W (.com .dxd .badAccess) = true) (h1 : W (.com .dxd .barLow) = true) (h2 : W (.com .dxd .barCap) = true) (h3 : W (.com .dxd .bt) = true) (h4 : W (.com .dxd .lockRefused) = true) (h5 : W (.com .dxd .pgEvent) = true) (h6 : W (.com .dxd .ic) = true) (h7 : W (.com .dxd .msets) = true) (h8 : W (.com .dxd .regs) = true) :
    (measurementAbort .dxd rq m v s).blank W = s.blank W := by simp [measurementAbort, Com.blank, Tsu.blank, Dxd.blank, h0, h1, h2, h3, h4, h5, h6, h7, h8]

@[simp ↓] theorem windowOpen_dxd_blank {W : Part → Bool} (m : Nat) (s : State) (h0 : W (.com .dxd .msets) = true) :
    (windowOpen .dxd m s).blank W = s.blank W := by simp [windowOpen, Com.blank, Tsu.blank, Dxd.blank, h0]

@[simp ↓] theorem windowOpen_tsu_blank {W : Part → Bool} (m : Nat) (s : State) (h0 : W (.com .tsu .msets) = true) :
    (windowOpen .tsu m s).blank W = s.blank W := by simp [windowOpen, Com.blank, Tsu.blank, Dxd.blank, h0]

@[simp ↓] theorem windowClose_dxd_blank {W : Part → Bool} (m : Nat) (s : State) (h0 : W (.com .dxd .msets) = true) (h1 : W (.com .dxd .pgEvent) = true) (h2 : W (.com .dxd .ic) = true) :
    (windowClose .dxd m s).blank W = s.blank W := by simp [windowClose, Com.blank, Tsu.blank, Dxd.blank, h0, h1, h2]

@[simp ↓] theorem windowClose_tsu_blank {W : Part → Bool} (m : Nat) (s : State) (h0 : W (.com .tsu .msets) = true) (h1 : W (.com .tsu .pgEvent) = true) (h2 : W (.com .tsu .ic) = true) :
    (windowClose .tsu m s).blank W = s.blank W := by simp [windowClose, Com.blank, Tsu.blank, Dxd.blank, h0, h1, h2]

@[simp ↓] theorem fitRunComplete_tsu_blank {W : Part → Bool} (m : Nat) (s : State) (h0 : W (.com .tsu .pgEvent) = true) (h1 : W (.com .tsu .ic) = true) (h2 : W (.com .tsu .msets) = true) :
    (fitRunComplete .tsu m s).blank W = s.blank W := by simp [fitRunComplete, Com.blank, Tsu.blank, Dxd.blank, h0, h1, h2]

@[simp ↓] theorem fitRunComplete_dxd_blank {W : Part → Bool} (m : Nat) (s : State) (h0 : W (.com .dxd .pgEvent) = true) (h1 : W (.com .dxd .ic) = true) (h2 : W (.com .dxd .msets) = true) :
    (fitRunComplete .dxd m s).blank W = s.blank W := by simp [fitRunComplete, Com.blank, Tsu.blank, Dxd.blank, h0, h1, h2]

@[simp ↓] theorem tapStore_dxd_blank {W : Part → Bool} (ch : Nat) (v : Word) (s : State) (h0 : W (.com .dxd .chans) = true) :
    (tapStore .dxd ch v s).blank W = s.blank W := by simp [tapStore, Com.blank, Tsu.blank, Dxd.blank, h0]

@[simp ↓] theorem tapStore_tsu_blank {W : Part → Bool} (ch : Nat) (v : Word) (s : State) (h0 : W (.com .tsu .chans) = true) :
    (tapStore .tsu ch v s).blank W = s.blank W := by simp [tapStore, Com.blank, Tsu.blank, Dxd.blank, h0]

@[simp ↓] theorem tapWrite_tsu_blank {W : Part → Bool} (rq : Nat) (ch : Nat) (v : Word) (s : State) (h0 : W (.com .tsu .bt) = true) (h1 : W (.com .tsu .lockRefused) = true) (h2 : W (.com .tsu .chans) = true) :
    (tapWrite .tsu rq ch v s).blank W = s.blank W := by simp [tapWrite, Com.blank, Tsu.blank, Dxd.blank, h0, h1, h2]

@[simp ↓] theorem tapWrite_dxd_blank {W : Part → Bool} (rq : Nat) (ch : Nat) (v : Word) (s : State) (h0 : W (.com .dxd .badAccess) = true) (h1 : W (.com .dxd .barLow) = true) (h2 : W (.com .dxd .barCap) = true) (h3 : W (.com .dxd .bt) = true) (h4 : W (.com .dxd .lockRefused) = true) (h5 : W (.com .dxd .chans) = true) :
    (tapWrite .dxd rq ch v s).blank W = s.blank W := by simp [tapWrite, Com.blank, Tsu.blank, Dxd.blank, h0, h1, h2, h3, h4, h5]

@[simp ↓] theorem tapTakeEffect_dxd_blank {W : Part → Bool} (ch : Nat) (s : State) (h0 : W (.com .dxd .chans) = true) (h1 : W (.com .dxd .pgEvent) = true) (h2 : W (.com .dxd .ic) = true) (h3 : W (.com .dxd .msets) = true) :
    (tapTakeEffect .dxd ch s).blank W = s.blank W := by
  unfold tapTakeEffect
  (repeat' split) <;> simp [Com.blank, Tsu.blank, Dxd.blank, h0, h1, h2, h3]

@[simp ↓] theorem tapTakeEffect_tsu_blank {W : Part → Bool} (ch : Nat) (s : State) (h0 : W (.com .tsu .chans) = true) (h1 : W (.com .tsu .pgEvent) = true) (h2 : W (.com .tsu .ic) = true) (h3 : W (.com .tsu .msets) = true) :
    (tapTakeEffect .tsu ch s).blank W = s.blank W := by
  unfold tapTakeEffect
  (repeat' split) <;> simp [Com.blank, Tsu.blank, Dxd.blank, h0, h1, h2, h3]

@[simp ↓] theorem tdChRead_tsu_blank {W : Part → Bool} (rq : Nat) (n : Nat) (s : State) (h0 : W (.com .tsu .bt) = true) (h1 : W (.com .tsu .rsp) = true) (h2 : W (.com .tsu .chans) = true) :
    (tdChRead .tsu rq n s).blank W = s.blank W := by simp [tdChRead, Com.blank, Tsu.blank, Dxd.blank, h0, h1, h2]

@[simp ↓] theorem tdChRead_dxd_blank {W : Part → Bool} (rq : Nat) (n : Nat) (s : State) (h0 : W (.com .dxd .badAccess) = true) (h1 : W (.com .dxd .barLow) = true) (h2 : W (.com .dxd .barCap) = true) (h3 : W (.com .dxd .bt) = true) (h4 : W (.com .dxd .rsp) = true) (h5 : W (.com .dxd .chans) = true) :
    (tdChRead .dxd rq n s).blank W = s.blank W := by simp [tdChRead, Com.blank, Tsu.blank, Dxd.blank, h0, h1, h2, h3, h4, h5]

end Sys2Proof.Machine
end

