-- ==== Sys2Proof/Laws/FrameHallTime.lean ====
section
/-!
SUPPORT. What the operations of Machine/HallTime.lean can change.
-/

namespace Sys2Proof.Machine

@[simp ↓] theorem copyTime_tsu_blank {W : Part → Bool} (f : TimeF) (s : State) (h0 : W (.com .tsu .tk) = true) (h1 : W (.com .tsu .pgEvent) = true) (h2 : W (.com .tsu .ic) = true) :
    (copyTime .tsu f s).blank W = s.blank W := by simp [copyTime, Com.blank, Tsu.blank, Dxd.blank, h0, h1, h2]

@[simp ↓] theorem copyTime_dxd_blank {W : Part → Bool} (f : TimeF) (s : State) (h0 : W (.com .dxd .tk) = true) (h1 : W (.com .dxd .pgEvent) = true) (h2 : W (.com .dxd .ic) = true) :
    (copyTime .dxd f s).blank W = s.blank W := by simp [copyTime, Com.blank, Tsu.blank, Dxd.blank, h0, h1, h2]

@[simp ↓] theorem coreDiff_blank {W : Part → Bool} (diff : Int) (s : State) (h0 : W (.com .tsu .tk) = true) :
    (coreDiff diff s).blank W = s.blank W := by simp [coreDiff, Com.blank, Tsu.blank, Dxd.blank, h0]

@[simp ↓] theorem timeTsu_blank {W : Part → Bool} (p : Nat) (f : TimeF) (rx : Nat) (diff : Int) (s : State) (h0 : W (.com .tsu .tk) = true) (h1 : W (.com .tsu .pgEvent) = true) (h2 : W (.com .tsu .ic) = true) (h3 : W (.com .tsu .hfits) = true) (h4 : W (.com .tsu .coreA) = true) (h5 : W (.com .tsu .coreB) = true) :
    (timeTsu p f rx diff s).blank W = s.blank W := by simp [timeTsu, Com.blank, Tsu.blank, Dxd.blank, h0, h1, h2, h3, h4, h5]

@[simp ↓] theorem holdAccum_blank {W : Part → Bool} (s : State) (h0 : W .hold = true) :
    (holdAccum s).blank W = s.blank W := by simp [holdAccum, Com.blank, Tsu.blank, Dxd.blank, h0]

@[simp ↓] theorem takeResidual_blank {W : Part → Bool} (r : Int) (s : State) (h0 : W (.com .dxd .pgEvent) = true) (h1 : W (.com .dxd .ic) = true) (h2 : W .hold = true) (h3 : W (.com .dxd .tk) = true) :
    (takeResidual r s).blank W = s.blank W := by simp [takeResidual, Com.blank, Tsu.blank, Dxd.blank, h0, h1, h2, h3]

@[simp ↓] theorem referenceSwitch_blank {W : Part → Bool} (r : Int) (s : State) (h0 : W (.com .dxd .pgEvent) = true) (h1 : W (.com .dxd .ic) = true) (h2 : W .hold = true) (h3 : W (.com .dxd .tk) = true) (h4 : W .refs = true) (h5 : W (.com .dxd .msets) = true) (h6 : W (.com .dxd .hfits) = true) :
    (referenceSwitch r s).blank W = s.blank W := by simp [referenceSwitch, Com.blank, Tsu.blank, Dxd.blank, h0, h1, h2, h3, h4, h5, h6]

@[simp ↓] theorem timeDxd_blank {W : Part → Bool} (p : Nat) (f : TimeF) (rx : Nat) (s : State) (h0 : W .ownOff = true) (h1 : W .twinOff = true) (h2 : W (.com .dxd .tk) = true) (h3 : W (.com .dxd .pgEvent) = true) (h4 : W (.com .dxd .ic) = true) (h5 : W .refs = true) (h6 : W .hold = true) (h7 : W (.com .dxd .coreA) = true) (h8 : W (.com .dxd .coreB) = true) (h9 : W (.com .dxd .regs) = true) (h10 : W (.com .dxd .hfits) = true) (h11 : W (.com .dxd .msets) = true) :
    (timeDxd p f rx s).blank W = s.blank W := by simp [timeDxd, Com.blank, Tsu.blank, Dxd.blank, h0, h1, h2, h3, h4, h5, h6, h7, h8, h9, h10, h11]

@[simp ↓] theorem timeReceive_tsu_blank {W : Part → Bool} (p : Nat) (h : LinkHdr) (f : TimeF) (rx : Nat) (diff : Int) (s : State) (h0 : W (.com .tsu .ports) = true) (h1 : W .member = true) (h2 : W (.com .tsu .coreA) = true) (h3 : W (.com .tsu .coreB) = true) (h4 : W (.com .tsu .tk) = true) (h5 : W (.com .tsu .pgEvent) = true) (h6 : W (.com .tsu .ic) = true) (h7 : W (.com .tsu .msets) = true) (h8 : W (.com .tsu .hfits) = true) (h9 : W .huddles = true) :
    (timeReceive .tsu p h f rx diff s).blank W = s.blank W := by simp [timeReceive, Com.blank, Tsu.blank, Dxd.blank, h0, h1, h2, h3, h4, h5, h6, h7, h8, h9]

@[simp ↓] theorem timeReceive_dxd_blank {W : Part → Bool} (p : Nat) (h : LinkHdr) (f : TimeF) (rx : Nat) (diff : Int) (s : State) (h0 : W (.com .dxd .ports) = true) (h1 : W (.com .dxd .tk) = true) (h2 : W .refs = true) (h3 : W .ptp = true) (h4 : W (.com .dxd .pgEvent) = true) (h5 : W (.com .dxd .ic) = true) (h6 : W .hold = true) (h7 : W (.com .dxd .coreA) = true) (h8 : W (.com .dxd .coreB) = true) (h9 : W (.com .dxd .hfits) = true) (h10 : W (.com .dxd .msets) = true) (h11 : W .attic = true) (h12 : W .ownOff = true) (h13 : W .twinOff = true) (h14 : W (.com .dxd .regs) = true) :
    (timeReceive .dxd p h f rx diff s).blank W = s.blank W := by simp [timeReceive, Com.blank, Tsu.blank, Dxd.blank, h0, h1, h2, h3, h4, h5, h6, h7, h8, h9, h10, h11, h12, h13, h14]

@[simp ↓] theorem enterLocked_dxd_blank {W : Part → Bool} (c : Nat) (s : State) (h0 : W (.com .dxd .tk) = true) (h1 : W .refs = true) (h2 : W .ptp = true) (h3 : W (.com .dxd .pgEvent) = true) (h4 : W (.com .dxd .ic) = true) (h5 : W .hold = true) (h6 : W (.com .dxd .coreA) = true) (h7 : W (.com .dxd .coreB) = true) (h8 : W (.com .dxd .hfits) = true) (h9 : W (.com .dxd .msets) = true) (h10 : W .attic = true) :
    (enterLocked .dxd c s).blank W = s.blank W := by simp [enterLocked, Com.blank, Tsu.blank, Dxd.blank, h0, h1, h2, h3, h4, h5, h6, h7, h8, h9, h10]

@[simp ↓] theorem enterLocked_tsu_blank {W : Part → Bool} (c : Nat) (s : State) (h0 : W .member = true) (h1 : W (.com .tsu .coreA) = true) (h2 : W (.com .tsu .coreB) = true) (h3 : W (.com .tsu .tk) = true) (h4 : W (.com .tsu .pgEvent) = true) (h5 : W (.com .tsu .ic) = true) (h6 : W (.com .tsu .msets) = true) (h7 : W (.com .tsu .hfits) = true) (h8 : W (.com .tsu .ports) = true) (h9 : W .huddles = true) :
    (enterLocked .tsu c s).blank W = s.blank W := by simp [enterLocked, Com.blank, Tsu.blank, Dxd.blank, h0, h1, h2, h3, h4, h5, h6, h7, h8, h9]

@[simp ↓] theorem leaveLocked_tsu_blank {W : Part → Bool} (c : Nat) (s : State) (h0 : W .member = true) (h1 : W (.com .tsu .coreA) = true) (h2 : W (.com .tsu .coreB) = true) (h3 : W (.com .tsu .tk) = true) (h4 : W (.com .tsu .pgEvent) = true) (h5 : W (.com .tsu .ic) = true) (h6 : W (.com .tsu .msets) = true) (h7 : W (.com .tsu .hfits) = true) (h8 : W (.com .tsu .ports) = true) (h9 : W .huddles = true) :
    (leaveLocked .tsu c s).blank W = s.blank W := by simp [leaveLocked, Com.blank, Tsu.blank, Dxd.blank, h0, h1, h2, h3, h4, h5, h6, h7, h8, h9]

@[simp ↓] theorem leaveLocked_dxd_blank {W : Part → Bool} (c : Nat) (s : State) (h0 : W (.com .dxd .tk) = true) (h1 : W .refs = true) (h2 : W .ptp = true) (h3 : W (.com .dxd .pgEvent) = true) (h4 : W (.com .dxd .ic) = true) (h5 : W .hold = true) (h6 : W (.com .dxd .coreA) = true) (h7 : W (.com .dxd .coreB) = true) (h8 : W (.com .dxd .hfits) = true) (h9 : W (.com .dxd .msets) = true) (h10 : W .attic = true) :
    (leaveLocked .dxd c s).blank W = s.blank W := by simp [leaveLocked, Com.blank, Tsu.blank, Dxd.blank, h0, h1, h2, h3, h4, h5, h6, h7, h8, h9, h10]

@[simp ↓] theorem coreSplit_blank {W : Part → Bool} (s : State) (h0 : W (.com .tsu .pgEvent) = true) (h1 : W (.com .tsu .ic) = true) (h2 : W (.com .tsu .tk) = true) :
    (coreSplit s).blank W = s.blank W := by simp [coreSplit, Com.blank, Tsu.blank, Dxd.blank, h0, h1, h2]

@[simp ↓] theorem keeperReversion_blank {W : Part → Bool} (s : State) (h0 : W .member = true) (h1 : W (.com .tsu .coreA) = true) (h2 : W (.com .tsu .coreB) = true) (h3 : W (.com .tsu .tk) = true) (h4 : W (.com .tsu .pgEvent) = true) (h5 : W (.com .tsu .ic) = true) (h6 : W (.com .tsu .msets) = true) (h7 : W (.com .tsu .hfits) = true) (h8 : W (.com .tsu .ports) = true) (h9 : W .huddles = true) :
    (keeperReversion s).blank W = s.blank W := by simp [keeperReversion, Com.blank, Tsu.blank, Dxd.blank, h0, h1, h2, h3, h4, h5, h6, h7, h8, h9]

@[simp ↓] theorem keeperCtl_dxd_blank {W : Part → Bool} (v : Word) (s : State) (h0 : W (.com .dxd .regs) = true) (h1 : W (.com .dxd .tk) = true) (h2 : W .refs = true) (h3 : W .ptp = true) (h4 : W (.com .dxd .pgEvent) = true) (h5 : W (.com .dxd .ic) = true) (h6 : W .hold = true) (h7 : W (.com .dxd .coreA) = true) (h8 : W (.com .dxd .coreB) = true) (h9 : W (.com .dxd .hfits) = true) (h10 : W (.com .dxd .msets) = true) (h11 : W .attic = true) :
    (keeperCtl .dxd v s).blank W = s.blank W := by simp [keeperCtl, Com.blank, Tsu.blank, Dxd.blank, h0, h1, h2, h3, h4, h5, h6, h7, h8, h9, h10, h11]

@[simp ↓] theorem keeperCtl_tsu_blank {W : Part → Bool} (v : Word) (s : State) (h0 : W (.com .tsu .regs) = true) (h1 : W .member = true) (h2 : W (.com .tsu .coreA) = true) (h3 : W (.com .tsu .coreB) = true) (h4 : W (.com .tsu .tk) = true) (h5 : W (.com .tsu .pgEvent) = true) (h6 : W (.com .tsu .ic) = true) (h7 : W (.com .tsu .msets) = true) (h8 : W (.com .tsu .hfits) = true) (h9 : W (.com .tsu .ports) = true) (h10 : W .huddles = true) :
    (keeperCtl .tsu v s).blank W = s.blank W := by simp [keeperCtl, Com.blank, Tsu.blank, Dxd.blank, h0, h1, h2, h3, h4, h5, h6, h7, h8, h9, h10]

@[simp ↓] theorem keeperForce_dxd_blank {W : Part → Bool} (rq : Nat) (v : Word) (s : State) (h0 : W (.com .dxd .badAccess) = true) (h1 : W (.com .dxd .barLow) = true) (h2 : W (.com .dxd .barCap) = true) (h3 : W (.com .dxd .bt) = true) (h4 : W (.com .dxd .lockRefused) = true) (h5 : W (.com .dxd .regs) = true) (h6 : W (.com .dxd .tk) = true) (h7 : W .refs = true) (h8 : W .ptp = true) (h9 : W (.com .dxd .pgEvent) = true) (h10 : W (.com .dxd .ic) = true) (h11 : W .hold = true) (h12 : W (.com .dxd .coreA) = true) (h13 : W (.com .dxd .coreB) = true) (h14 : W (.com .dxd .hfits) = true) (h15 : W (.com .dxd .msets) = true) (h16 : W .attic = true) :
    (keeperForce .dxd rq v s).blank W = s.blank W := by simp [keeperForce, Com.blank, Tsu.blank, Dxd.blank, h0, h1, h2, h3, h4, h5, h6, h7, h8, h9, h10, h11, h12, h13, h14, h15, h16]

@[simp ↓] theorem keeperForce_tsu_blank {W : Part → Bool} (rq : Nat) (v : Word) (s : State) (h0 : W (.com .tsu .bt) = true) (h1 : W (.com .tsu .lockRefused) = true) (h2 : W (.com .tsu .regs) = true) (h3 : W .member = true) (h4 : W (.com .tsu .coreA) = true) (h5 : W (.com .tsu .coreB) = true) (h6 : W (.com .tsu .tk) = true) (h7 : W (.com .tsu .pgEvent) = true) (h8 : W (.com .tsu .ic) = true) (h9 : W (.com .tsu .msets) = true) (h10 : W (.com .tsu .hfits) = true) (h11 : W (.com .tsu .ports) = true) (h12 : W .huddles = true) :
    (keeperForce .tsu rq v s).blank W = s.blank W := by simp [keeperForce, Com.blank, Tsu.blank, Dxd.blank, h0, h1, h2, h3, h4, h5, h6, h7, h8, h9, h10, h11, h12]

@[simp ↓] theorem becomeTraceable_blank {W : Part → Bool} (s : State) (h0 : W (.com .dxd .pgEvent) = true) (h1 : W (.com .dxd .ic) = true) (h2 : W (.com .dxd .tk) = true) :
    (becomeTraceable s).blank W = s.blank W := by simp [becomeTraceable, Com.blank, Tsu.blank, Dxd.blank, h0, h1, h2]

@[simp ↓] theorem pullComplete_tsu_blank {W : Part → Bool} (s : State) (h0 : W (.com .tsu .pgEvent) = true) (h1 : W (.com .tsu .ic) = true) (h2 : W (.com .tsu .tk) = true) :
    (pullComplete .tsu s).blank W = s.blank W := by simp [pullComplete, Com.blank, Tsu.blank, Dxd.blank, h0, h1, h2]

@[simp ↓] theorem pullComplete_dxd_blank {W : Part → Bool} (s : State) (h0 : W (.com .dxd .pgEvent) = true) (h1 : W (.com .dxd .ic) = true) (h2 : W (.com .dxd .tk) = true) (h3 : W .hold = true) :
    (pullComplete .dxd s).blank W = s.blank W := by simp [pullComplete, Com.blank, Tsu.blank, Dxd.blank, h0, h1, h2, h3]

@[simp ↓] theorem takeSnap_dxd_blank {W : Part → Bool} (rq : Nat) (s : State) (h0 : W (.com .dxd .tk) = true) :
    (takeSnap .dxd rq s).blank W = s.blank W := by simp [takeSnap, Com.blank, Tsu.blank, Dxd.blank, h0]

@[simp ↓] theorem takeSnap_tsu_blank {W : Part → Bool} (rq : Nat) (s : State) (h0 : W (.com .tsu .tk) = true) :
    (takeSnap .tsu rq s).blank W = s.blank W := by simp [takeSnap, Com.blank, Tsu.blank, Dxd.blank, h0]

@[simp ↓] theorem nowSecRead_tsu_blank {W : Part → Bool} (rq : Nat) (s : State) (h0 : W (.com .tsu .bt) = true) (h1 : W (.com .tsu .rsp) = true) (h2 : W (.com .tsu .tk) = true) :
    (nowSecRead .tsu rq s).blank W = s.blank W := by simp [nowSecRead, Com.blank, Tsu.blank, Dxd.blank, h0, h1, h2]

@[simp ↓] theorem nowSecRead_dxd_blank {W : Part → Bool} (rq : Nat) (s : State) (h0 : W (.com .dxd .badAccess) = true) (h1 : W (.com .dxd .barLow) = true) (h2 : W (.com .dxd .barCap) = true) (h3 : W (.com .dxd .bt) = true) (h4 : W (.com .dxd .rsp) = true) (h5 : W (.com .dxd .tk) = true) :
    (nowSecRead .dxd rq s).blank W = s.blank W := by simp [nowSecRead, Com.blank, Tsu.blank, Dxd.blank, h0, h1, h2, h3, h4, h5]

@[simp ↓] theorem originStepTo_blank {W : Part → Bool} (target : Nat) (s : State) (h0 : W (.com .dxd .pgEvent) = true) (h1 : W (.com .dxd .ic) = true) (h2 : W (.com .dxd .tk) = true) :
    (originStepTo target s).blank W = s.blank W := by simp [originStepTo, Com.blank, Tsu.blank, Dxd.blank, h0, h1, h2]

@[simp ↓] theorem originSetWrite_blank {W : Part → Bool} (v : Word) (s : State) (h0 : W (.com .dxd .pgEvent) = true) (h1 : W (.com .dxd .ic) = true) (h2 : W (.com .dxd .tk) = true) :
    (originSetWrite v s).blank W = s.blank W := by simp [originSetWrite, Com.blank, Tsu.blank, Dxd.blank, h0, h1, h2]

@[simp ↓] theorem tkOriginSet_blank {W : Part → Bool} (rq : Nat) (v : Word) (s : State) (h0 : W (.com .dxd .badAccess) = true) (h1 : W (.com .dxd .barLow) = true) (h2 : W (.com .dxd .barCap) = true) (h3 : W (.com .dxd .bt) = true) (h4 : W (.com .dxd .lockRefused) = true) (h5 : W (.com .dxd .pgEvent) = true) (h6 : W (.com .dxd .ic) = true) (h7 : W (.com .dxd .tk) = true) :
    (tkOriginSet rq v s).blank W = s.blank W := by simp [tkOriginSet, Com.blank, Tsu.blank, Dxd.blank, h0, h1, h2, h3, h4, h5, h6, h7]

end Sys2Proof.Machine
end

