-- ==== Sys2Proof/Laws/FrameRefs.lean ====
section
/-!
SUPPORT. What the operations of Machine/Refs.lean can change.
-/

namespace Sys2Proof.Machine

@[simp ↓] theorem markQualified_blank {W : Part → Bool} (n : Nat) (s : State) (h0 : W .refs = true) :
    (markQualified n s).blank W = s.blank W := by simp [markQualified, Com.blank, Tsu.blank, Dxd.blank, h0]

@[simp ↓] theorem qualified_blank {W : Part → Bool} (n : Nat) (s : State) (h0 : W (.com .dxd .tk) = true) (h1 : W .refs = true) (h2 : W .ptp = true) (h3 : W (.com .dxd .pgEvent) = true) (h4 : W (.com .dxd .ic) = true) (h5 : W .hold = true) (h6 : W (.com .dxd .coreA) = true) (h7 : W (.com .dxd .coreB) = true) (h8 : W (.com .dxd .hfits) = true) (h9 : W (.com .dxd .msets) = true) (h10 : W .attic = true) :
    (qualified n s).blank W = s.blank W := by simp [qualified, Com.blank, Tsu.blank, Dxd.blank, h0, h1, h2, h3, h4, h5, h6, h7, h8, h9, h10]

@[simp ↓] theorem lost_blank {W : Part → Bool} (n : Nat) (s : State) (h0 : W (.com .dxd .tk) = true) (h1 : W .refs = true) (h2 : W .ptp = true) (h3 : W (.com .dxd .pgEvent) = true) (h4 : W (.com .dxd .ic) = true) (h5 : W .hold = true) (h6 : W (.com .dxd .coreA) = true) (h7 : W (.com .dxd .coreB) = true) (h8 : W (.com .dxd .hfits) = true) (h9 : W (.com .dxd .msets) = true) (h10 : W .attic = true) :
    (lost n s).blank W = s.blank W := by simp [lost, Com.blank, Tsu.blank, Dxd.blank, h0, h1, h2, h3, h4, h5, h6, h7, h8, h9, h10]

@[simp ↓] theorem rootLoad_blank {W : Part → Bool} (traceable : Bool) (lsb : Int) (s : State) (h0 : W (.com .dxd .tk) = true) (h1 : W .refs = true) (h2 : W .ptp = true) (h3 : W (.com .dxd .pgEvent) = true) (h4 : W (.com .dxd .ic) = true) (h5 : W .hold = true) (h6 : W (.com .dxd .coreA) = true) (h7 : W (.com .dxd .coreB) = true) (h8 : W (.com .dxd .hfits) = true) (h9 : W (.com .dxd .msets) = true) (h10 : W .attic = true) (h11 : W (.com .dxd .regs) = true) :
    (rootLoad traceable lsb s).blank W = s.blank W := by simp [rootLoad, Com.blank, Tsu.blank, Dxd.blank, h0, h1, h2, h3, h4, h5, h6, h7, h8, h9, h10, h11]

@[simp ↓] theorem originCheck_blank {W : Part → Bool} (total : Int) (s : State) (h0 : W (.com .dxd .tk) = true) (h1 : W (.com .dxd .pgEvent) = true) (h2 : W (.com .dxd .ic) = true) :
    (originCheck total s).blank W = s.blank W := by simp [originCheck, Com.blank, Tsu.blank, Dxd.blank, h0, h1, h2]

@[simp ↓] theorem firstSample_blank {W : Part → Bool} (r : Int) (total : Int) (s : State) (h0 : W (.com .dxd .tk) = true) (h1 : W (.com .dxd .pgEvent) = true) (h2 : W (.com .dxd .ic) = true) (h3 : W .hold = true) (h4 : W .refs = true) (h5 : W (.com .dxd .msets) = true) (h6 : W (.com .dxd .hfits) = true) :
    (firstSample r total s).blank W = s.blank W := by simp [firstSample, Com.blank, Tsu.blank, Dxd.blank, h0, h1, h2, h3, h4, h5, h6]

@[simp ↓] theorem rootServo_blank {W : Part → Bool} (e : Int) (s : State) (h0 : W .hold = true) (h1 : W (.com .dxd .coreA) = true) (h2 : W (.com .dxd .coreB) = true) (h3 : W (.com .dxd .pgEvent) = true) (h4 : W (.com .dxd .ic) = true) :
    (rootServo e s).blank W = s.blank W := by simp [rootServo, Com.blank, Tsu.blank, Dxd.blank, h0, h1, h2, h3, h4]

@[simp ↓] theorem sampleInput_blank {W : Part → Bool} (n : Nat) (stamp : Nat) (s : State) (h0 : W .refs = true) (h1 : W (.com .dxd .tk) = true) (h2 : W (.com .dxd .pgEvent) = true) (h3 : W (.com .dxd .ic) = true) (h4 : W .hold = true) (h5 : W (.com .dxd .msets) = true) (h6 : W (.com .dxd .hfits) = true) (h7 : W (.com .dxd .coreA) = true) (h8 : W (.com .dxd .coreB) = true) :
    (sampleInput n stamp s).blank W = s.blank W := by simp [sampleInput, Com.blank, Tsu.blank, Dxd.blank, h0, h1, h2, h3, h4, h5, h6, h7, h8]

@[simp ↓] theorem sampleLocal_blank {W : Part → Bool} (s : State) (h0 : W (.com .dxd .pgEvent) = true) (h1 : W (.com .dxd .ic) = true) (h2 : W .hold = true) (h3 : W (.com .dxd .tk) = true) (h4 : W .refs = true) (h5 : W (.com .dxd .msets) = true) (h6 : W (.com .dxd .hfits) = true) (h7 : W (.com .dxd .coreA) = true) (h8 : W (.com .dxd .coreB) = true) :
    (sampleLocal s).blank W = s.blank W := by simp [sampleLocal, Com.blank, Tsu.blank, Dxd.blank, h0, h1, h2, h3, h4, h5, h6, h7, h8]

@[simp ↓] theorem referenceSample_blank {W : Part → Bool} (stamp : Nat) (s : State) (h0 : W (.com .dxd .tk) = true) (h1 : W .refs = true) (h2 : W .ptp = true) (h3 : W (.com .dxd .pgEvent) = true) (h4 : W (.com .dxd .ic) = true) (h5 : W .hold = true) (h6 : W (.com .dxd .coreA) = true) (h7 : W (.com .dxd .coreB) = true) (h8 : W (.com .dxd .hfits) = true) (h9 : W (.com .dxd .msets) = true) (h10 : W .attic = true) (h11 : W (.com .dxd .regs) = true) :
    (referenceSample stamp s).blank W = s.blank W := by
  unfold referenceSample
  (repeat' split) <;> simp [Com.blank, Tsu.blank, Dxd.blank, h0, h1, h2, h3, h4, h5, h6, h7, h8, h9, h10, h11]

@[simp ↓] theorem ppsEdge_blank {W : Part → Bool} (n : Nat) (stamp : Nat) (stamp10 : Nat) (s : State) (h0 : W .refs = true) (h1 : W (.com .dxd .tk) = true) (h2 : W .ptp = true) (h3 : W (.com .dxd .pgEvent) = true) (h4 : W (.com .dxd .ic) = true) (h5 : W .hold = true) (h6 : W (.com .dxd .coreA) = true) (h7 : W (.com .dxd .coreB) = true) (h8 : W (.com .dxd .hfits) = true) (h9 : W (.com .dxd .msets) = true) (h10 : W .attic = true) (h11 : W (.com .dxd .regs) = true) :
    (ppsEdge n stamp stamp10 s).blank W = s.blank W := by simp [ppsEdge, Com.blank, Tsu.blank, Dxd.blank, h0, h1, h2, h3, h4, h5, h6, h7, h8, h9, h10, h11]

@[simp ↓] theorem ppsWindowEnd_blank {W : Part → Bool} (n : Nat) (s : State) (h0 : W .refs = true) (h1 : W (.com .dxd .pgEvent) = true) (h2 : W (.com .dxd .ic) = true) (h3 : W .hold = true) (h4 : W (.com .dxd .tk) = true) (h5 : W .ptp = true) (h6 : W (.com .dxd .coreA) = true) (h7 : W (.com .dxd .coreB) = true) (h8 : W (.com .dxd .hfits) = true) (h9 : W (.com .dxd .msets) = true) (h10 : W .attic = true) :
    (ppsWindowEnd n s).blank W = s.blank W := by simp [ppsWindowEnd, Com.blank, Tsu.blank, Dxd.blank, h0, h1, h2, h3, h4, h5, h6, h7, h8, h9, h10]

@[simp ↓] theorem startInputFit_blank {W : Part → Bool} (i : Nat) (s : State) (h0 : W (.com .dxd .hfits) = true) :
    (startInputFit i s).blank W = s.blank W := by simp [startInputFit, Com.blank, Tsu.blank, Dxd.blank, h0]

@[simp ↓] theorem startOscFit_blank {W : Part → Bool} (s : State) (h0 : W (.com .dxd .hfits) = true) :
    (startOscFit s).blank W = s.blank W := by simp [startOscFit, Com.blank, Tsu.blank, Dxd.blank, h0]

@[simp ↓] theorem judgeFit_blank {W : Part → Bool} (ppt : Option Int) (n : Nat) (s : State) (h0 : W .ptp = true) (h1 : W (.com .dxd .pgEvent) = true) (h2 : W (.com .dxd .ic) = true) (h3 : W .hold = true) (h4 : W .refs = true) (h5 : W (.com .dxd .coreA) = true) (h6 : W (.com .dxd .coreB) = true) (h7 : W (.com .dxd .tk) = true) (h8 : W (.com .dxd .hfits) = true) (h9 : W (.com .dxd .msets) = true) :
    (judgeFit ppt n s).blank W = s.blank W := by simp [judgeFit, Com.blank, Tsu.blank, Dxd.blank, h0, h1, h2, h3, h4, h5, h6, h7, h8, h9]

@[simp ↓] theorem oscFitEnd_blank {W : Part → Bool} (s : State) (h0 : W (.com .dxd .hfits) = true) (h1 : W .hold = true) :
    (oscFitEnd s).blank W = s.blank W := by
  unfold oscFitEnd
  (repeat' split) <;> simp [Com.blank, Tsu.blank, Dxd.blank, h0, h1]

@[simp ↓] theorem fitComplete_blank {W : Part → Bool} (n : Nat) (s : State) (h0 : W (.com .dxd .hfits) = true) (h1 : W .hold = true) (h2 : W .ptp = true) (h3 : W (.com .dxd .pgEvent) = true) (h4 : W (.com .dxd .ic) = true) (h5 : W .refs = true) (h6 : W (.com .dxd .coreA) = true) (h7 : W (.com .dxd .coreB) = true) (h8 : W (.com .dxd .tk) = true) (h9 : W (.com .dxd .msets) = true) (h10 : W .attic = true) :
    (fitComplete n s).blank W = s.blank W := by
  unfold fitComplete
  dsimp only
  (repeat' split) <;> simp [Com.blank, Tsu.blank, Dxd.blank, h0, h1, h2, h3, h4, h5, h6, h7, h8, h9, h10]

@[simp ↓] theorem loseEdges_blank {W : Part → Bool} (n : Nat) (s : State) (h0 : W (.com .dxd .tk) = true) (h1 : W .refs = true) (h2 : W .ptp = true) (h3 : W (.com .dxd .pgEvent) = true) (h4 : W (.com .dxd .ic) = true) (h5 : W .hold = true) (h6 : W (.com .dxd .coreA) = true) (h7 : W (.com .dxd .coreB) = true) (h8 : W (.com .dxd .hfits) = true) (h9 : W (.com .dxd .msets) = true) (h10 : W .attic = true) :
    (loseEdges n s).blank W = s.blank W := by simp [loseEdges, Com.blank, Tsu.blank, Dxd.blank, h0, h1, h2, h3, h4, h5, h6, h7, h8, h9, h10]

@[simp ↓] theorem edgeLoss_blank {W : Part → Bool} (n : Nat) (s : State) (h0 : W (.com .dxd .hfits) = true) (h1 : W (.com .dxd .tk) = true) (h2 : W .refs = true) (h3 : W .ptp = true) (h4 : W (.com .dxd .pgEvent) = true) (h5 : W (.com .dxd .ic) = true) (h6 : W .hold = true) (h7 : W (.com .dxd .coreA) = true) (h8 : W (.com .dxd .coreB) = true) (h9 : W (.com .dxd .msets) = true) (h10 : W .attic = true) :
    (edgeLoss n s).blank W = s.blank W := by simp [edgeLoss, Com.blank, Tsu.blank, Dxd.blank, h0, h1, h2, h3, h4, h5, h6, h7, h8, h9, h10]

@[simp ↓] theorem beginQualify_blank {W : Part → Bool} (n : Nat) (s : State) (h0 : W .refs = true) :
    (beginQualify n s).blank W = s.blank W := by simp [beginQualify, Com.blank, Tsu.blank, Dxd.blank, h0]

@[simp ↓] theorem inputsPresent_blank {W : Part → Bool} (n : Nat) (s : State) (h0 : W (.com .dxd .hfits) = true) (h1 : W (.com .dxd .tk) = true) (h2 : W .refs = true) (h3 : W .ptp = true) (h4 : W (.com .dxd .pgEvent) = true) (h5 : W (.com .dxd .ic) = true) (h6 : W .hold = true) (h7 : W (.com .dxd .coreA) = true) (h8 : W (.com .dxd .coreB) = true) (h9 : W (.com .dxd .msets) = true) (h10 : W .attic = true) :
    (inputsPresent n s).blank W = s.blank W := by simp [inputsPresent, Com.blank, Tsu.blank, Dxd.blank, h0, h1, h2, h3, h4, h5, h6, h7, h8, h9, h10]

@[simp ↓] theorem rfSel_blank {W : Part → Bool} (v : Word) (s : State) (h0 : W (.com .dxd .regs) = true) (h1 : W .refs = true) (h2 : W (.com .dxd .coreA) = true) (h3 : W (.com .dxd .coreB) = true) (h4 : W (.com .dxd .tk) = true) (h5 : W (.com .dxd .pgEvent) = true) (h6 : W (.com .dxd .ic) = true) (h7 : W .hold = true) (h8 : W (.com .dxd .hfits) = true) (h9 : W (.com .dxd .msets) = true) (h10 : W .ptp = true) (h11 : W .attic = true) :
    (rfSel v s).blank W = s.blank W := by simp [rfSel, Com.blank, Tsu.blank, Dxd.blank, h0, h1, h2, h3, h4, h5, h6, h7, h8, h9, h10, h11]

@[simp ↓] theorem rfSelWrite_blank {W : Part → Bool} (rq : Nat) (v : Word) (s : State) (h0 : W (.com .dxd .badAccess) = true) (h1 : W (.com .dxd .barLow) = true) (h2 : W (.com .dxd .barCap) = true) (h3 : W (.com .dxd .bt) = true) (h4 : W (.com .dxd .lockRefused) = true) (h5 : W (.com .dxd .regs) = true) (h6 : W .refs = true) (h7 : W (.com .dxd .coreA) = true) (h8 : W (.com .dxd .coreB) = true) (h9 : W (.com .dxd .tk) = true) (h10 : W (.com .dxd .pgEvent) = true) (h11 : W (.com .dxd .ic) = true) (h12 : W .hold = true) (h13 : W (.com .dxd .hfits) = true) (h14 : W (.com .dxd .msets) = true) (h15 : W .ptp = true) (h16 : W .attic = true) :
    (rfSelWrite rq v s).blank W = s.blank W := by simp [rfSelWrite, Com.blank, Tsu.blank, Dxd.blank, h0, h1, h2, h3, h4, h5, h6, h7, h8, h9, h10, h11, h12, h13, h14, h15, h16]

@[simp ↓] theorem rfTod_blank {W : Part → Bool} (n : Nat) (v : Word) (s : State) (h0 : W .refs = true) :
    (rfTod n v s).blank W = s.blank W := by simp [rfTod, Com.blank, Tsu.blank, Dxd.blank, h0]

@[simp ↓] theorem rfTodWrite_blank {W : Part → Bool} (rq : Nat) (n : Nat) (v : Word) (s : State) (h0 : W (.com .dxd .badAccess) = true) (h1 : W (.com .dxd .barLow) = true) (h2 : W (.com .dxd .barCap) = true) (h3 : W (.com .dxd .bt) = true) (h4 : W (.com .dxd .lockRefused) = true) (h5 : W .refs = true) :
    (rfTodWrite rq n v s).blank W = s.blank W := by simp [rfTodWrite, Com.blank, Tsu.blank, Dxd.blank, h0, h1, h2, h3, h4, h5]

@[simp ↓] theorem meanUpdate_blank {W : Part → Bool} (s : State) (h0 : W .hold = true) :
    (meanUpdate s).blank W = s.blank W := by simp [meanUpdate, Com.blank, Tsu.blank, Dxd.blank, h0]

@[simp ↓] theorem holdoverMeanUpdate_dxd_blank {W : Part → Bool} (s : State) (h0 : W .hold = true) :
    (holdoverMeanUpdate .dxd s).blank W = s.blank W := by simp [holdoverMeanUpdate, Com.blank, Tsu.blank, Dxd.blank, h0]

@[simp ↓] theorem holdoverMeanUpdate_tsu_blank {W : Part → Bool} (s : State) :
    (holdoverMeanUpdate .tsu s).blank W = s.blank W := by simp [holdoverMeanUpdate, Com.blank, Tsu.blank, Dxd.blank]

@[simp ↓] theorem servoRecordWrite_blank {W : Part → Bool} (s : State) (h0 : W .hold = true) (h1 : W .attic = true) :
    (servoRecordWrite s).blank W = s.blank W := by simp [servoRecordWrite, Com.blank, Tsu.blank, Dxd.blank, h0, h1]

@[simp ↓] theorem svCtl_blank {W : Part → Bool} (v : Word) (s : State) (h0 : W (.com .dxd .regs) = true) (h1 : W .refs = true) (h2 : W .hold = true) (h3 : W .attic = true) (h4 : W (.com .dxd .tk) = true) (h5 : W .ptp = true) (h6 : W (.com .dxd .pgEvent) = true) (h7 : W (.com .dxd .ic) = true) (h8 : W (.com .dxd .coreA) = true) (h9 : W (.com .dxd .coreB) = true) (h10 : W (.com .dxd .hfits) = true) (h11 : W (.com .dxd .msets) = true) :
    (svCtl v s).blank W = s.blank W := by simp [svCtl, Com.blank, Tsu.blank, Dxd.blank, h0, h1, h2, h3, h4, h5, h6, h7, h8, h9, h10, h11]

@[simp ↓] theorem svSave_blank {W : Part → Bool} (rq : Nat) (v : Word) (s : State) (h0 : W (.com .dxd .badAccess) = true) (h1 : W (.com .dxd .barLow) = true) (h2 : W (.com .dxd .barCap) = true) (h3 : W (.com .dxd .bt) = true) (h4 : W (.com .dxd .lockRefused) = true) (h5 : W (.com .dxd .regs) = true) (h6 : W .refs = true) (h7 : W .hold = true) (h8 : W .attic = true) (h9 : W (.com .dxd .tk) = true) (h10 : W .ptp = true) (h11 : W (.com .dxd .pgEvent) = true) (h12 : W (.com .dxd .ic) = true) (h13 : W (.com .dxd .coreA) = true) (h14 : W (.com .dxd .coreB) = true) (h15 : W (.com .dxd .hfits) = true) (h16 : W (.com .dxd .msets) = true) :
    (svSave rq v s).blank W = s.blank W := by simp [svSave, Com.blank, Tsu.blank, Dxd.blank, h0, h1, h2, h3, h4, h5, h6, h7, h8, h9, h10, h11, h12, h13, h14, h15, h16]

@[simp ↓] theorem svForceHoldover_blank {W : Part → Bool} (rq : Nat) (v : Word) (s : State) (h0 : W (.com .dxd .badAccess) = true) (h1 : W (.com .dxd .barLow) = true) (h2 : W (.com .dxd .barCap) = true) (h3 : W (.com .dxd .bt) = true) (h4 : W (.com .dxd .lockRefused) = true) (h5 : W (.com .dxd .regs) = true) (h6 : W .refs = true) (h7 : W .hold = true) (h8 : W .attic = true) (h9 : W (.com .dxd .tk) = true) (h10 : W .ptp = true) (h11 : W (.com .dxd .pgEvent) = true) (h12 : W (.com .dxd .ic) = true) (h13 : W (.com .dxd .coreA) = true) (h14 : W (.com .dxd .coreB) = true) (h15 : W (.com .dxd .hfits) = true) (h16 : W (.com .dxd .msets) = true) :
    (svForceHoldover rq v s).blank W = s.blank W := by simp [svForceHoldover, Com.blank, Tsu.blank, Dxd.blank, h0, h1, h2, h3, h4, h5, h6, h7, h8, h9, h10, h11, h12, h13, h14, h15, h16]

@[simp ↓] theorem firstFitComplete_tsu_blank {W : Part → Bool} (c : Nat) (s : State) (h0 : W (.com .tsu .hfits) = true) (h1 : W (.com .tsu .coreA) = true) (h2 : W (.com .tsu .coreB) = true) :
    (firstFitComplete .tsu c s).blank W = s.blank W := by
  unfold firstFitComplete
  (repeat' split) <;> simp [Com.blank, Tsu.blank, Dxd.blank, h0, h1, h2]

@[simp ↓] theorem firstFitComplete_dxd_blank {W : Part → Bool} (c : Nat) (s : State) (h0 : W (.com .dxd .hfits) = true) (h1 : W (.com .dxd .coreA) = true) (h2 : W (.com .dxd .coreB) = true) (h3 : W .hold = true) :
    (firstFitComplete .dxd c s).blank W = s.blank W := by
  unfold firstFitComplete
  (repeat' split) <;> simp [Com.blank, Tsu.blank, Dxd.blank, h0, h1, h2, h3]

@[simp ↓] theorem silencePorts_blank {W : Part → Bool} (s : State) (h0 : W (.com .dxd .ports) = true) (h1 : W (.com .dxd .pgEvent) = true) (h2 : W (.com .dxd .ic) = true) :
    (silencePorts s).blank W = s.blank W := by
  unfold silencePorts
  dsimp only
  (repeat' split) <;> first
    | (simp (maxDischargeDepth := 12) [Com.blank, Tsu.blank, Dxd.blank, h0, h1, h2]; done)
    | (exfalso; simp_all; done)
    | (refine (foldl_blank _ _ _ ?_).trans ?_
       · intro s a
         (repeat' split) <;> simp (maxDischargeDepth := 12) [Com.blank, Tsu.blank, Dxd.blank, h0, h1, h2]
       · simp (maxDischargeDepth := 12) [Com.blank, Tsu.blank, Dxd.blank, h0, h1, h2])

@[simp ↓] theorem oscLoss_blank {W : Part → Bool} (s : State) (h0 : W (.com .dxd .pgEvent) = true) (h1 : W (.com .dxd .ic) = true) (h2 : W .hold = true) (h3 : W (.com .dxd .ports) = true) (h4 : W (.com .dxd .tk) = true) (h5 : W .refs = true) (h6 : W (.com .dxd .coreA) = true) (h7 : W (.com .dxd .coreB) = true) (h8 : W (.com .dxd .hfits) = true) :
    (oscLoss s).blank W = s.blank W := by simp [oscLoss, Com.blank, Tsu.blank, Dxd.blank, h0, h1, h2, h3, h4, h5, h6, h7, h8]

@[simp ↓] theorem oscReturn_blank {W : Part → Bool} (s : State) (h0 : W .hold = true) (h1 : W (.com .dxd .hfits) = true) (h2 : W (.com .dxd .tk) = true) (h3 : W .refs = true) (h4 : W .ptp = true) (h5 : W (.com .dxd .pgEvent) = true) (h6 : W (.com .dxd .ic) = true) (h7 : W (.com .dxd .coreA) = true) (h8 : W (.com .dxd .coreB) = true) (h9 : W (.com .dxd .msets) = true) (h10 : W .attic = true) (h11 : W (.com .dxd .ports) = true) :
    (oscReturn s).blank W = s.blank W := by simp [oscReturn, Com.blank, Tsu.blank, Dxd.blank, h0, h1, h2, h3, h4, h5, h6, h7, h8, h9, h10, h11]

@[simp ↓] theorem modOut_blank {W : Part → Bool} (n : Nat) (f : OutPin → OutPin) (s : State) (h0 : W .outs = true) :
    (modOut n f s).blank W = s.blank W := by simp [modOut, Com.blank, Tsu.blank, Dxd.blank, h0]

@[simp ↓] theorem storeAlign_blank {W : Part → Bool} (at_ : Nat) (outputs : Nat) (s : State) (h0 : W .outs = true) :
    (storeAlign at_ outputs s).blank W = s.blank W := by simp [storeAlign, Com.blank, Tsu.blank, Dxd.blank, h0]

@[simp ↓] theorem opAlign_blank {W : Part → Bool} (v : Word) (s : State) (h0 : W (.com .dxd .pgEvent) = true) (h1 : W (.com .dxd .ic) = true) (h2 : W .outs = true) (h3 : W .referee = true) (h4 : W .ledger = true) (h5 : W (.com .dxd .ports) = true) :
    (opAlign v s).blank W = s.blank W := by
  unfold opAlign
  (repeat' split) <;> simp [State.blank, Com.blank, Tsu.blank, Dxd.blank, h0, h1, h2, h3, h4, h5]

@[simp ↓] theorem opAlignGo_blank {W : Part → Bool} (rq : Nat) (v : Word) (s : State) (h0 : W (.com .dxd .badAccess) = true) (h1 : W (.com .dxd .barLow) = true) (h2 : W (.com .dxd .barCap) = true) (h3 : W (.com .dxd .bt) = true) (h4 : W (.com .dxd .lockRefused) = true) (h5 : W (.com .dxd .pgEvent) = true) (h6 : W (.com .dxd .ic) = true) (h7 : W .outs = true) (h8 : W .referee = true) (h9 : W .ledger = true) (h10 : W (.com .dxd .ports) = true) :
    (opAlignGo rq v s).blank W = s.blank W := by
  unfold opAlignGo
  (repeat' split) <;> simp [State.blank, Com.blank, Tsu.blank, Dxd.blank, h0, h1, h2, h3, h4, h5, h6, h7, h8, h9, h10]

@[simp ↓] theorem alignTake_blank {W : Part → Bool} (p : Nat) (ep : Nat) (f : AlignF) (a : State) (h0 : W (.com .dxd .oseq) = true) (h1 : W (.com .dxd .ports) = true) (h2 : W .outs = true) :
    (alignTake p ep f a).blank W = a.blank W := by simp [alignTake, Com.blank, Tsu.blank, Dxd.blank, h0, h1, h2]

@[simp ↓] theorem alignReceive_blank {W : Part → Bool} (p : Nat) (h : LinkHdr) (ep : Nat) (f : AlignF) (s : State) (h0 : W (.com .dxd .ports) = true) (h1 : W (.com .dxd .oseq) = true) (h2 : W .outs = true) :
    (alignReceive p h ep f s).blank W = s.blank W := by simp [alignReceive, Com.blank, Tsu.blank, Dxd.blank, h0, h1, h2]

@[simp ↓] theorem outputAlignment_blank {W : Part → Bool} (s : State) (h0 : W (.com .dxd .pgEvent) = true) (h1 : W (.com .dxd .ic) = true) (h2 : W .outs = true) :
    (outputAlignment s).blank W = s.blank W := by
  unfold outputAlignment
  dsimp only
  (repeat' split) <;> first
    | (simp (maxDischargeDepth := 12) [Com.blank, Tsu.blank, Dxd.blank, h0, h1, h2]; done)
    | (exfalso; simp_all; done)
    | (refine (foldl_blank _ _ _ ?_).trans ?_
       · intro s a
         (repeat' split) <;> simp (maxDischargeDepth := 12) [Com.blank, Tsu.blank, Dxd.blank, h0, h1, h2]
       · simp (maxDischargeDepth := 12) [Com.blank, Tsu.blank, Dxd.blank, h0, h1, h2])

@[simp ↓] theorem errorMeasure_blank {W : Part → Bool} (es : List Int) (s : State) (h0 : W .outs = true) (h1 : W (.com .dxd .pgEvent) = true) (h2 : W (.com .dxd .ic) = true) :
    (errorMeasure es s).blank W = s.blank W := by simp [errorMeasure, Com.blank, Tsu.blank, Dxd.blank, h0, h1, h2]

@[simp ↓] theorem stepStrobe_blank {W : Part → Bool} (s : State) (h0 : W .kicks = true) (h1 : W .strobe = true) :
    (stepStrobe s).blank W = s.blank W := by simp [stepStrobe, Com.blank, Tsu.blank, Dxd.blank, h0, h1]

end Sys2Proof.Machine
end

