-- ==== Sys2Proof/Laws/FramePtp.lean ====
section
/-!
SUPPORT. What the operations of Machine/Ptp.lean can change.
-/

namespace Sys2Proof.Machine

@[simp ↓] theorem modInst_blank {W : Part → Bool} (inst : Nat) (f : PtpInst → PtpInst) (s : State) (h0 : W .ptp = true) :
    (modInst inst f s).blank W = s.blank W := by simp [modInst, Com.blank, Tsu.blank, Dxd.blank, h0]

@[simp ↓] theorem ptpState_blank {W : Part → Bool} (inst : Nat) (n : Nat) (s : State) (h0 : W (.com .dxd .pgEvent) = true) (h1 : W (.com .dxd .ic) = true) (h2 : W .ptp = true) (h3 : W (.com .dxd .tk) = true) (h4 : W .refs = true) (h5 : W .hold = true) (h6 : W (.com .dxd .coreA) = true) (h7 : W (.com .dxd .coreB) = true) (h8 : W (.com .dxd .hfits) = true) (h9 : W (.com .dxd .msets) = true) (h10 : W .attic = true) :
    (ptpState inst n s).blank W = s.blank W := by simp [ptpState, Com.blank, Tsu.blank, Dxd.blank, h0, h1, h2, h3, h4, h5, h6, h7, h8, h9, h10]

@[simp ↓] theorem ptpAnnounce_blank {W : Part → Bool} (inst : Nat) (m : PtpMsg) (s : State) (h0 : W .ptp = true) (h1 : W (.com .dxd .pgEvent) = true) (h2 : W (.com .dxd .ic) = true) (h3 : W .hold = true) (h4 : W (.com .dxd .tk) = true) (h5 : W .refs = true) (h6 : W (.com .dxd .coreA) = true) (h7 : W (.com .dxd .coreB) = true) (h8 : W (.com .dxd .hfits) = true) (h9 : W (.com .dxd .msets) = true) (h10 : W .attic = true) :
    (ptpAnnounce inst m s).blank W = s.blank W := by simp [ptpAnnounce, Com.blank, Tsu.blank, Dxd.blank, h0, h1, h2, h3, h4, h5, h6, h7, h8, h9, h10]

@[simp ↓] theorem ptpSample_blank {W : Part → Bool} (off : Int) (s : State) (h0 : W (.com .dxd .tk) = true) (h1 : W .refs = true) (h2 : W .ptp = true) (h3 : W (.com .dxd .pgEvent) = true) (h4 : W (.com .dxd .ic) = true) (h5 : W .hold = true) (h6 : W (.com .dxd .coreA) = true) (h7 : W (.com .dxd .coreB) = true) (h8 : W (.com .dxd .hfits) = true) (h9 : W (.com .dxd .msets) = true) (h10 : W .attic = true) (h11 : W (.com .dxd .regs) = true) :
    (ptpSample off s).blank W = s.blank W := by simp [ptpSample, Com.blank, Tsu.blank, Dxd.blank, h0, h1, h2, h3, h4, h5, h6, h7, h8, h9, h10, h11]

@[simp ↓] theorem slaveSecond_blank {W : Part → Bool} (inst : Nat) (s : State) (h0 : W .ptp = true) (h1 : W .refs = true) (h2 : W (.com .dxd .tk) = true) (h3 : W (.com .dxd .pgEvent) = true) (h4 : W (.com .dxd .ic) = true) (h5 : W .hold = true) (h6 : W (.com .dxd .coreA) = true) (h7 : W (.com .dxd .coreB) = true) (h8 : W (.com .dxd .hfits) = true) (h9 : W (.com .dxd .msets) = true) (h10 : W .attic = true) :
    (slaveSecond inst s).blank W = s.blank W := by simp [slaveSecond, Com.blank, Tsu.blank, Dxd.blank, h0, h1, h2, h3, h4, h5, h6, h7, h8, h9, h10]

@[simp ↓] theorem ptpSync_blank {W : Part → Bool} (inst : Nat) (t1 : Int) (t2 : Int) (s : State) (h0 : W .hold = true) (h1 : W .ptp = true) (h2 : W (.com .dxd .pgEvent) = true) (h3 : W (.com .dxd .ic) = true) (h4 : W (.com .dxd .tk) = true) (h5 : W .refs = true) (h6 : W (.com .dxd .coreA) = true) (h7 : W (.com .dxd .coreB) = true) (h8 : W (.com .dxd .hfits) = true) (h9 : W (.com .dxd .msets) = true) (h10 : W .attic = true) (h11 : W (.com .dxd .regs) = true) :
    (ptpSync inst t1 t2 s).blank W = s.blank W := by simp [ptpSync, Com.blank, Tsu.blank, Dxd.blank, h0, h1, h2, h3, h4, h5, h6, h7, h8, h9, h10, h11]

@[simp ↓] theorem ptpPath_blank {W : Part → Bool} (inst : Nat) (d2 : Int) (s : State) (h0 : W .ptp = true) :
    (ptpPath inst d2 s).blank W = s.blank W := by simp [ptpPath, Com.blank, Tsu.blank, Dxd.blank, h0]

@[simp ↓] theorem ptpHandle_blank {W : Part → Bool} (inst : Nat) (role : Nat) (m : PtpMsg) (stamp : Nat) (s : State) (h0 : W .ptp = true) (h1 : W (.com .dxd .pgEvent) = true) (h2 : W (.com .dxd .ic) = true) (h3 : W .hold = true) (h4 : W (.com .dxd .tk) = true) (h5 : W .refs = true) (h6 : W (.com .dxd .coreA) = true) (h7 : W (.com .dxd .coreB) = true) (h8 : W (.com .dxd .hfits) = true) (h9 : W (.com .dxd .msets) = true) (h10 : W .attic = true) (h11 : W (.com .dxd .regs) = true) :
    (ptpHandle inst role m stamp s).blank W = s.blank W := by
  unfold ptpHandle
  dsimp only
  (repeat' split) <;> simp [Com.blank, Tsu.blank, Dxd.blank, h0, h1, h2, h3, h4, h5, h6, h7, h8, h9, h10, h11]

@[simp ↓] theorem ptpReceive_blank {W : Part → Bool} (inst : Nat) (m : PtpMsg) (stamp : Nat) (s : State) (h0 : W .ptp = true) (h1 : W (.com .dxd .pgEvent) = true) (h2 : W (.com .dxd .ic) = true) (h3 : W .hold = true) (h4 : W (.com .dxd .tk) = true) (h5 : W .refs = true) (h6 : W (.com .dxd .coreA) = true) (h7 : W (.com .dxd .coreB) = true) (h8 : W (.com .dxd .hfits) = true) (h9 : W (.com .dxd .msets) = true) (h10 : W .attic = true) (h11 : W (.com .dxd .regs) = true) :
    (ptpReceive inst m stamp s).blank W = s.blank W := by simp [ptpReceive, Com.blank, Tsu.blank, Dxd.blank, h0, h1, h2, h3, h4, h5, h6, h7, h8, h9, h10, h11]

@[simp ↓] theorem txCheck_blank {W : Part → Bool} (t : Int) (stamp : Int) (s : State) (h0 : W .ptp = true) :
    (txCheck t stamp s).blank W = s.blank W := by simp [txCheck, Com.blank, Tsu.blank, Dxd.blank, h0]

@[simp ↓] theorem ptpSend_blank {W : Part → Bool} (inst : Nat) (m : PtpMsg) (t : Nat) (stamp : Nat) (s : State) (h0 : W .ptp = true) :
    (ptpSend inst m t stamp s).blank W = s.blank W := by
  unfold ptpSend
  (repeat' split) <;> simp [Com.blank, Tsu.blank, Dxd.blank, h0]

@[simp ↓] theorem ptpTransmit_blank {W : Part → Bool} (inst : Nat) (m : PtpMsg) (t : Nat) (stamp : Nat) (s : State) (h0 : W (.com .dxd .pgEvent) = true) (h1 : W (.com .dxd .ic) = true) (h2 : W .ptp = true) (h3 : W (.com .dxd .tk) = true) (h4 : W .refs = true) (h5 : W .hold = true) (h6 : W (.com .dxd .coreA) = true) (h7 : W (.com .dxd .coreB) = true) (h8 : W (.com .dxd .hfits) = true) (h9 : W (.com .dxd .msets) = true) (h10 : W .attic = true) :
    (ptpTransmit inst m t stamp s).blank W = s.blank W := by simp [ptpTransmit, Com.blank, Tsu.blank, Dxd.blank, h0, h1, h2, h3, h4, h5, h6, h7, h8, h9, h10]

@[simp ↓] theorem ptpTimeout_blank {W : Part → Bool} (s : State) (h0 : W (.com .dxd .pgEvent) = true) (h1 : W (.com .dxd .ic) = true) (h2 : W .ptp = true) (h3 : W (.com .dxd .tk) = true) (h4 : W .refs = true) (h5 : W .hold = true) (h6 : W (.com .dxd .coreA) = true) (h7 : W (.com .dxd .coreB) = true) (h8 : W (.com .dxd .hfits) = true) (h9 : W (.com .dxd .msets) = true) (h10 : W .attic = true) :
    (ptpTimeout s).blank W = s.blank W := by simp [ptpTimeout, Com.blank, Tsu.blank, Dxd.blank, h0, h1, h2, h3, h4, h5, h6, h7, h8, h9, h10]

@[simp ↓] theorem ptpRestart_blank {W : Part → Bool} (inst : Nat) (s : State) (h0 : W (.com .dxd .pgEvent) = true) (h1 : W (.com .dxd .ic) = true) (h2 : W .ptp = true) (h3 : W (.com .dxd .tk) = true) (h4 : W .refs = true) (h5 : W .hold = true) (h6 : W (.com .dxd .coreA) = true) (h7 : W (.com .dxd .coreB) = true) (h8 : W (.com .dxd .hfits) = true) (h9 : W (.com .dxd .msets) = true) (h10 : W .attic = true) :
    (ptpRestart inst s).blank W = s.blank W := by simp [ptpRestart, Com.blank, Tsu.blank, Dxd.blank, h0, h1, h2, h3, h4, h5, h6, h7, h8, h9, h10]

@[simp ↓] theorem ptCtl_blank {W : Part → Bool} (v : Word) (s : State) (h0 : W (.com .dxd .regs) = true) (h1 : W (.com .dxd .pgEvent) = true) (h2 : W (.com .dxd .ic) = true) (h3 : W .ptp = true) (h4 : W (.com .dxd .tk) = true) (h5 : W .refs = true) (h6 : W .hold = true) (h7 : W (.com .dxd .coreA) = true) (h8 : W (.com .dxd .coreB) = true) (h9 : W (.com .dxd .hfits) = true) (h10 : W (.com .dxd .msets) = true) (h11 : W .attic = true) :
    (ptCtl v s).blank W = s.blank W := by simp [ptCtl, Com.blank, Tsu.blank, Dxd.blank, h0, h1, h2, h3, h4, h5, h6, h7, h8, h9, h10, h11]

@[simp ↓] theorem ptCtlWrite_blank {W : Part → Bool} (rq : Nat) (v : Word) (s : State) (h0 : W (.com .dxd .badAccess) = true) (h1 : W (.com .dxd .barLow) = true) (h2 : W (.com .dxd .barCap) = true) (h3 : W (.com .dxd .bt) = true) (h4 : W (.com .dxd .lockRefused) = true) (h5 : W (.com .dxd .regs) = true) (h6 : W (.com .dxd .pgEvent) = true) (h7 : W (.com .dxd .ic) = true) (h8 : W .ptp = true) (h9 : W (.com .dxd .tk) = true) (h10 : W .refs = true) (h11 : W .hold = true) (h12 : W (.com .dxd .coreA) = true) (h13 : W (.com .dxd .coreB) = true) (h14 : W (.com .dxd .hfits) = true) (h15 : W (.com .dxd .msets) = true) (h16 : W .attic = true) :
    (ptCtlWrite rq v s).blank W = s.blank W := by simp [ptCtlWrite, Com.blank, Tsu.blank, Dxd.blank, h0, h1, h2, h3, h4, h5, h6, h7, h8, h9, h10, h11, h12, h13, h14, h15, h16]

@[simp ↓] theorem ptPathRead_blank {W : Part → Bool} (rq : Nat) (s : State) (h0 : W (.com .dxd .badAccess) = true) (h1 : W (.com .dxd .barLow) = true) (h2 : W (.com .dxd .barCap) = true) (h3 : W (.com .dxd .bt) = true) (h4 : W (.com .dxd .rsp) = true) (h5 : W .ptp = true) :
    (ptPathRead rq s).blank W = s.blank W := by simp [ptPathRead, Com.blank, Tsu.blank, Dxd.blank, h0, h1, h2, h3, h4, h5]

@[simp ↓] theorem ptpLink_blank {W : Part → Bool} (up : Bool) (s : State) (h0 : W (.com .dxd .pgEvent) = true) (h1 : W (.com .dxd .ic) = true) (h2 : W .ptp = true) :
    (ptpLink up s).blank W = s.blank W := by simp [ptpLink, Com.blank, Tsu.blank, Dxd.blank, h0, h1, h2]

end Sys2Proof.Machine
end

