-- ==== Sys2Proof/Laws/FrameBaysBase.lean ====
section
/-!
SUPPORT. What the operations of Machine/BaysBase.lean can change.
-/

namespace Sys2Proof.Machine

@[simp ↓] theorem modBay_blank {W : Part → Bool} (b : Nat) (f : Bay → Bay) (s : State) (h0 : W .bays = true) :
    (modBay b f s).blank W = s.blank W := by simp [modBay, Com.blank, Tsu.blank, Dxd.blank, h0]

@[simp ↓] theorem modBaySet_blank {W : Part → Bool} (n : Nat) (f : BaySet → BaySet) (s : State) (h0 : W .bays = true) :
    (modBaySet n f s).blank W = s.blank W := by simp [modBaySet, Com.blank, Tsu.blank, Dxd.blank, h0]

@[simp ↓] theorem startBayFit_blank {W : Part → Bool} (b : Nat) (w : Nat) (s : State) (h0 : W (.com .tsu .hfits) = true) :
    (startBayFit b w s).blank W = s.blank W := by simp [startBayFit, Com.blank, Tsu.blank, Dxd.blank, h0]

@[simp ↓] theorem modXing_blank {W : Part → Bool} (c : Nat) (f : Xing → Xing) (s : State) (h0 : W .bays = true) :
    (modXing c f s).blank W = s.blank W := by simp [modXing, Com.blank, Tsu.blank, Dxd.blank, h0]

@[simp ↓] theorem recentre_blank {W : Part → Bool} (c : Nat) (s : State) (h0 : W .bays = true) :
    (recentre c s).blank W = s.blank W := by simp [recentre, Com.blank, Tsu.blank, Dxd.blank, h0]

@[simp ↓] theorem recentreGap_blank {W : Part → Bool} (s : State) (h0 : W .bays = true) (h1 : W (.com .tsu .pgEvent) = true) (h2 : W (.com .tsu .ic) = true) :
    (recentreGap s).blank W = s.blank W := by simp [recentreGap, Com.blank, Tsu.blank, Dxd.blank, h0, h1, h2]

@[simp ↓] theorem startChange_blank {W : Part → Bool} (n : Nat) (p : Nat) (s : State) (h0 : W .bays = true) (h1 : W (.com .tsu .pgEvent) = true) (h2 : W (.com .tsu .ic) = true) :
    (startChange n p s).blank W = s.blank W := by simp [startChange, Com.blank, Tsu.blank, Dxd.blank, h0, h1, h2]

@[simp ↓] theorem tryChange_blank {W : Part → Bool} (n : Nat) (s : State) (h0 : W (.com .tsu .pgEvent) = true) (h1 : W (.com .tsu .ic) = true) (h2 : W .bays = true) :
    (tryChange n s).blank W = s.blank W := by
  unfold tryChange
  (repeat' split) <;> simp [Com.blank, Tsu.blank, Dxd.blank, h0, h1, h2]

@[simp ↓] theorem tryChanges_blank {W : Part → Bool} (s : State) (h0 : W (.com .tsu .pgEvent) = true) (h1 : W (.com .tsu .ic) = true) (h2 : W .bays = true) :
    (tryChanges s).blank W = s.blank W := by simp [tryChanges, Com.blank, Tsu.blank, Dxd.blank, h0, h1, h2]

@[simp ↓] theorem finishChange_blank {W : Part → Bool} (n : Nat) (s : State) (h0 : W .bays = true) (h1 : W (.com .tsu .pgEvent) = true) (h2 : W (.com .tsu .ic) = true) :
    (finishChange n s).blank W = s.blank W := by simp [finishChange, Com.blank, Tsu.blank, Dxd.blank, h0, h1, h2]

@[simp ↓] theorem useGap_blank {W : Part → Bool} (s : State) (h0 : W (.com .tsu .pgEvent) = true) (h1 : W (.com .tsu .ic) = true) (h2 : W .bays = true) :
    (useGap s).blank W = s.blank W := by simp [useGap, Com.blank, Tsu.blank, Dxd.blank, h0, h1, h2]

@[simp ↓] theorem enterSideline_blank {W : Part → Bool} (s : State) (h0 : W .steps = true) (h1 : W .tallies = true) (h2 : W (.com .tsu .ports) = true) (h3 : W .huddles = true) (h4 : W .cue = true) (h5 : W (.com .tsu .pgEvent) = true) (h6 : W (.com .tsu .ic) = true) (h7 : W .signals = true) (h8 : W .member = true) (h9 : W .keyPort = true) (h10 : W (.com .tsu .tk) = true) (h11 : W .bays = true) :
    (enterSideline s).blank W = s.blank W := by simp [enterSideline, Com.blank, Tsu.blank, Dxd.blank, h0, h1, h2, h3, h4, h5, h6, h7, h8, h9, h10, h11]

@[simp ↓] theorem ownFailure_blank {W : Part → Bool} (s : State) (h0 : W .steps = true) (h1 : W .tallies = true) (h2 : W (.com .tsu .ports) = true) (h3 : W .huddles = true) (h4 : W .cue = true) (h5 : W (.com .tsu .pgEvent) = true) (h6 : W (.com .tsu .ic) = true) (h7 : W .signals = true) (h8 : W .member = true) (h9 : W .keyPort = true) (h10 : W (.com .tsu .tk) = true) (h11 : W .bays = true) :
    (ownFailure s).blank W = s.blank W := by simp [ownFailure, Com.blank, Tsu.blank, Dxd.blank, h0, h1, h2, h3, h4, h5, h6, h7, h8, h9, h10, h11]

@[simp ↓] theorem keepBayFit_blank {W : Part → Bool} (b : Nat) (s : State) (h0 : W (.com .tsu .hfits) = true) :
    (keepBayFit b s).blank W = s.blank W := by simp [keepBayFit, Com.blank, Tsu.blank, Dxd.blank, h0]

@[simp ↓] theorem bayDies_blank {W : Part → Bool} (b : Nat) (s : State) (h0 : W .bays = true) (h1 : W (.com .tsu .hfits) = true) (h2 : W (.com .tsu .pgEvent) = true) (h3 : W (.com .tsu .ic) = true) (h4 : W .steps = true) (h5 : W .tallies = true) (h6 : W (.com .tsu .ports) = true) (h7 : W .huddles = true) (h8 : W .cue = true) (h9 : W .signals = true) (h10 : W .member = true) (h11 : W .keyPort = true) (h12 : W (.com .tsu .tk) = true) :
    (bayDies b s).blank W = s.blank W := by
  unfold bayDies
  (repeat' split) <;> simp [Com.blank, Tsu.blank, Dxd.blank, h0, h1, h2, h3, h4, h5, h6, h7, h8, h9, h10, h11, h12]

@[simp ↓] theorem openGap_blank {W : Part → Bool} (s : State) (h0 : W (.com .tsu .pgEvent) = true) (h1 : W (.com .tsu .ic) = true) (h2 : W .bays = true) (h3 : W .member = true) :
    (openGap s).blank W = s.blank W := by simp [openGap, Com.blank, Tsu.blank, Dxd.blank, h0, h1, h2, h3]

@[simp ↓] theorem closeGap_blank {W : Part → Bool} (s : State) (h0 : W .member = true) (h1 : W .bays = true) (h2 : W (.com .tsu .pgEvent) = true) (h3 : W (.com .tsu .ic) = true) :
    (closeGap s).blank W = s.blank W := by
  unfold closeGap
  dsimp only
  split
  · simp [Com.blank, Tsu.blank, Dxd.blank, h0, h1, h2, h3]
  · refine (foldl_blank _ _ _ ?_).trans ?_
    · intro s n
      (repeat' split) <;> simp (maxDischargeDepth := 12) [Com.blank, Tsu.blank, Dxd.blank, h0, h1, h2, h3]
    · simp [Com.blank, Tsu.blank, Dxd.blank, h0, h1, h2, h3]

@[simp ↓] theorem pathSample_blank {W : Part → Bool} (r : BayReading) (s : State) (h0 : W .bays = true) :
    (pathSample r s).blank W = s.blank W := by simp [pathSample, Com.blank, Tsu.blank, Dxd.blank, h0]

end Sys2Proof.Machine
end

