-- ==== Sys2Proof/Laws/FrameBays.lean ====
section
/-!
SUPPORT. What the operations of Machine/Bays.lean can change.
-/

namespace Sys2Proof.Machine

@[simp ↓] theorem canarySample_blank {W : Part → Bool} (r : BayReading) (s : State) (h0 : W (.com .tsu .bt) = true) (h1 : W (.com .tsu .pgEvent) = true) (h2 : W (.com .tsu .ic) = true) :
    (canarySample r s).blank W = s.blank W := by simp [canarySample, Com.blank, Tsu.blank, Dxd.blank, h0, h1, h2]

@[simp ↓] theorem immediateSamples_blank {W : Part → Bool} (b : Nat) (s : State) (h0 : W (.com .tsu .bt) = true) (h1 : W (.com .tsu .pgEvent) = true) (h2 : W (.com .tsu .ic) = true) (h3 : W .bays = true) :
    (immediateSamples b s).blank W = s.blank W := by simp [immediateSamples, Com.blank, Tsu.blank, Dxd.blank, h0, h1, h2, h3]

@[simp ↓] theorem correctBay_blank {W : Part → Bool} (bc : Nat) (b : Nat) (s : State) (h0 : W .bays = true) :
    (correctBay bc b s).blank W = s.blank W := by simp [correctBay, Com.blank, Tsu.blank, Dxd.blank, h0]

@[simp ↓] theorem bayCorrection_blank {W : Part → Bool} (rets : List BayReading) (canary : List BayReading) (s : State) (h0 : W .bays = true) (h1 : W (.com .tsu .bt) = true) (h2 : W (.com .tsu .pgEvent) = true) (h3 : W (.com .tsu .ic) = true) :
    (bayCorrection rets canary s).blank W = s.blank W := by simp [bayCorrection, Com.blank, Tsu.blank, Dxd.blank, h0, h1, h2, h3]

@[simp ↓] theorem incGateEnd_blank {W : Part → Bool} (b : Nat) (s : State) (h0 : W .bays = true) (h1 : W (.com .tsu .hfits) = true) (h2 : W (.com .tsu .pgEvent) = true) (h3 : W (.com .tsu .ic) = true) (h4 : W .steps = true) (h5 : W .tallies = true) (h6 : W (.com .tsu .ports) = true) (h7 : W .huddles = true) (h8 : W .cue = true) (h9 : W .signals = true) (h10 : W .member = true) (h11 : W .keyPort = true) (h12 : W (.com .tsu .tk) = true) :
    (incGateEnd b s).blank W = s.blank W := by
  unfold incGateEnd
  dsimp only
  (repeat' split) <;> simp [Com.blank, Tsu.blank, Dxd.blank, h0, h1, h2, h3, h4, h5, h6, h7, h8, h9, h10, h11, h12]

@[simp ↓] theorem bayFitEnd_blank {W : Part → Bool} (b : Nat) (s : State) (h0 : W (.com .tsu .hfits) = true) (h1 : W .bays = true) :
    (bayFitEnd b s).blank W = s.blank W := by
  unfold bayFitEnd
  (repeat' split) <;> simp [Com.blank, Tsu.blank, Dxd.blank, h0, h1]

@[simp ↓] theorem bayRefLoss_blank {W : Part → Bool} (b : Nat) (s : State) (h0 : W (.com .tsu .pgEvent) = true) (h1 : W (.com .tsu .ic) = true) (h2 : W .bays = true) :
    (bayRefLoss b s).blank W = s.blank W := by simp [bayRefLoss, Com.blank, Tsu.blank, Dxd.blank, h0, h1, h2]

@[simp ↓] theorem bayRefLossEnd_blank {W : Part → Bool} (b : Nat) (s : State) (h0 : W .bays = true) :
    (bayRefLossEnd b s).blank W = s.blank W := by simp [bayRefLossEnd, Com.blank, Tsu.blank, Dxd.blank, h0]

@[simp ↓] theorem bayNoEdge_blank {W : Part → Bool} (b : Nat) (s : State) (h0 : W .bays = true) (h1 : W (.com .tsu .hfits) = true) (h2 : W (.com .tsu .pgEvent) = true) (h3 : W (.com .tsu .ic) = true) (h4 : W .steps = true) (h5 : W .tallies = true) (h6 : W (.com .tsu .ports) = true) (h7 : W .huddles = true) (h8 : W .cue = true) (h9 : W .signals = true) (h10 : W .member = true) (h11 : W .keyPort = true) (h12 : W (.com .tsu .tk) = true) :
    (bayNoEdge b s).blank W = s.blank W := by simp [bayNoEdge, Com.blank, Tsu.blank, Dxd.blank, h0, h1, h2, h3, h4, h5, h6, h7, h8, h9, h10, h11, h12]

@[simp ↓] theorem monitorReport_blank {W : Part → Bool} (b : Nat) (point : Nat) (urgent : Bool) (temp : Int) (s : State) (h0 : W (.com .tsu .pgEvent) = true) (h1 : W (.com .tsu .ic) = true) (h2 : W .bays = true) :
    (monitorReport b point urgent temp s).blank W = s.blank W := by simp [monitorReport, Com.blank, Tsu.blank, Dxd.blank, h0, h1, h2]

@[simp ↓] theorem crossingDrained_blank {W : Part → Bool} (n : Nat) (s : State) (h0 : W .bays = true) (h1 : W (.com .tsu .pgEvent) = true) (h2 : W (.com .tsu .ic) = true) (h3 : W (.com .tsu .hfits) = true) :
    (crossingDrained n s).blank W = s.blank W := by simp [crossingDrained, Com.blank, Tsu.blank, Dxd.blank, h0, h1, h2, h3]

@[simp ↓] theorem stopAck_blank {W : Part → Bool} (b : Nat) (s : State) (h0 : W .bays = true) :
    (stopAck b s).blank W = s.blank W := by simp [stopAck, Com.blank, Tsu.blank, Dxd.blank, h0]

@[simp ↓] theorem bayResume_blank {W : Part → Bool} (b : Nat) (s : State) (h0 : W .bays = true) (h1 : W (.com .tsu .pgEvent) = true) (h2 : W (.com .tsu .ic) = true) (h3 : W (.com .tsu .hfits) = true) (h4 : W (.com .tsu .bt) = true) :
    (bayResume b s).blank W = s.blank W := by simp [bayResume, Com.blank, Tsu.blank, Dxd.blank, h0, h1, h2, h3, h4]

@[simp ↓] theorem changeTimeout_blank {W : Part → Bool} (b : Nat) (s : State) (h0 : W .bays = true) (h1 : W (.com .tsu .hfits) = true) (h2 : W (.com .tsu .pgEvent) = true) (h3 : W (.com .tsu .ic) = true) (h4 : W .steps = true) (h5 : W .tallies = true) (h6 : W (.com .tsu .ports) = true) (h7 : W .huddles = true) (h8 : W .cue = true) (h9 : W .signals = true) (h10 : W .member = true) (h11 : W .keyPort = true) (h12 : W (.com .tsu .tk) = true) :
    (changeTimeout b s).blank W = s.blank W := by simp [changeTimeout, Com.blank, Tsu.blank, Dxd.blank, h0, h1, h2, h3, h4, h5, h6, h7, h8, h9, h10, h11, h12]

@[simp ↓] theorem periodReport_blank {W : Part → Bool} (rs : List BayReading) (s : State) (h0 : W .bays = true) (h1 : W (.com .tsu .pgEvent) = true) (h2 : W (.com .tsu .ic) = true) :
    (periodReport rs s).blank W = s.blank W := by
  unfold periodReport
  dsimp only
  refine (foldl_blank _ _ _ ?_).trans ?_
  · intro s c
    (repeat' split) <;> simp (maxDischargeDepth := 12) [Com.blank, Tsu.blank, Dxd.blank, h0, h1, h2]
  · refine foldl_blank _ _ _ ?_
    intro s b
    (repeat' split) <;> simp (maxDischargeDepth := 12) [Com.blank, Tsu.blank, Dxd.blank, h0, h1, h2]

@[simp ↓] theorem xcStore_blank {W : Part → Bool} (c : Nat) (v : Word) (s : State) (h0 : W (.com .tsu .pgEvent) = true) (h1 : W (.com .tsu .ic) = true) (h2 : W (.com .tsu .regs) = true) (h3 : W .bays = true) :
    (xcStore c v s).blank W = s.blank W := by simp [xcStore, Com.blank, Tsu.blank, Dxd.blank, h0, h1, h2, h3]

@[simp ↓] theorem byXcWrite_blank {W : Part → Bool} (rq : Nat) (c : Nat) (v : Word) (s : State) (h0 : W (.com .tsu .bt) = true) (h1 : W (.com .tsu .lockRefused) = true) (h2 : W (.com .tsu .pgEvent) = true) (h3 : W (.com .tsu .ic) = true) (h4 : W (.com .tsu .regs) = true) (h5 : W .bays = true) :
    (byXcWrite rq c v s).blank W = s.blank W := by simp [byXcWrite, Com.blank, Tsu.blank, Dxd.blank, h0, h1, h2, h3, h4, h5]

@[simp ↓] theorem bayCfgStore_blank {W : Part → Bool} (b : Nat) (v : Word) (s : State) (h0 : W (.com .tsu .pgEvent) = true) (h1 : W (.com .tsu .ic) = true) (h2 : W (.com .tsu .regs) = true) (h3 : W .bays = true) :
    (bayCfgStore b v s).blank W = s.blank W := by simp [bayCfgStore, Com.blank, Tsu.blank, Dxd.blank, h0, h1, h2, h3]

@[simp ↓] theorem byBayCfgWrite_blank {W : Part → Bool} (rq : Nat) (b : Nat) (v : Word) (s : State) (h0 : W (.com .tsu .bt) = true) (h1 : W (.com .tsu .lockRefused) = true) (h2 : W (.com .tsu .pgEvent) = true) (h3 : W (.com .tsu .ic) = true) (h4 : W (.com .tsu .regs) = true) (h5 : W .bays = true) :
    (byBayCfgWrite rq b v s).blank W = s.blank W := by simp [byBayCfgWrite, Com.blank, Tsu.blank, Dxd.blank, h0, h1, h2, h3, h4, h5]

@[simp ↓] theorem ptStore_blank {W : Part → Bool} (b : Nat) (p : Nat) (v : Word) (s : State) (h0 : W (.com .tsu .regs) = true) (h1 : W (.com .tsu .pgEvent) = true) (h2 : W (.com .tsu .ic) = true) (h3 : W .bays = true) :
    (ptStore b p v s).blank W = s.blank W := by simp [ptStore, Com.blank, Tsu.blank, Dxd.blank, h0, h1, h2, h3]

@[simp ↓] theorem bayTableWrite_blank {W : Part → Bool} (rq : Nat) (b : Nat) (pt : Nat) (v : Word) (s : State) (h0 : W (.com .tsu .bt) = true) (h1 : W (.com .tsu .lockRefused) = true) (h2 : W (.com .tsu .regs) = true) (h3 : W (.com .tsu .pgEvent) = true) (h4 : W (.com .tsu .ic) = true) (h5 : W .bays = true) :
    (bayTableWrite rq b pt v s).blank W = s.blank W := by simp [bayTableWrite, Com.blank, Tsu.blank, Dxd.blank, h0, h1, h2, h3, h4, h5]

@[simp ↓] theorem byChangesRead_blank {W : Part → Bool} (rq : Nat) (b : Nat) (s : State) (h0 : W (.com .tsu .bt) = true) (h1 : W (.com .tsu .rsp) = true) (h2 : W .bays = true) :
    (byChangesRead rq b s).blank W = s.blank W := by simp [byChangesRead, Com.blank, Tsu.blank, Dxd.blank, h0, h1, h2]

@[simp ↓] theorem byXcRead_blank {W : Part → Bool} (rq : Nat) (c : Nat) (s : State) (h0 : W (.com .tsu .bt) = true) (h1 : W (.com .tsu .rsp) = true) (h2 : W .bays = true) :
    (byXcRead rq c s).blank W = s.blank W := by simp [byXcRead, Com.blank, Tsu.blank, Dxd.blank, h0, h1, h2]

end Sys2Proof.Machine
end

