-- ==== Sys2Proof/Laws/FrameSigBase.lean ====
section
/-!
SUPPORT. What the operations of Machine/SigBase.lean can change.
-/

namespace Sys2Proof.Machine

@[simp ↓] theorem modThr_blank {W : Part → Bool} (th : Thread) (f : Thr → Thr) (s : State) (h0 : W .cue = true) :
    (modThr th f s).blank W = s.blank W := by simp [modThr, Com.blank, Tsu.blank, Dxd.blank, h0]

@[simp ↓] theorem haltInStep_blank {W : Part → Bool} (th : Thread) (s : State) (h0 : W (.com .tsu .pgEvent) = true) (h1 : W (.com .tsu .ic) = true) :
    (haltInStep th s).blank W = s.blank W := by simp [haltInStep, Com.blank, Tsu.blank, Dxd.blank, h0, h1]

@[simp ↓] theorem threadFault_blank {W : Part → Bool} (th : Thread) (code : Nat) (word : Nat) (pc : Nat) (s : State) (h0 : W .cue = true) (h1 : W (.com .tsu .pgEvent) = true) (h2 : W (.com .tsu .ic) = true) (h3 : W .steps = true) (h4 : W .tallies = true) (h5 : W (.com .tsu .ports) = true) (h6 : W .huddles = true) (h7 : W .signals = true) (h8 : W .member = true) (h9 : W .keyPort = true) (h10 : W (.com .tsu .tk) = true) (h11 : W .bays = true) :
    (threadFault th code word pc s).blank W = s.blank W := by simp [threadFault, Com.blank, Tsu.blank, Dxd.blank, h0, h1, h2, h3, h4, h5, h6, h7, h8, h9, h10, h11]

@[simp ↓] theorem waitFault_blank {W : Part → Bool} (th : Thread) (code : Nat) (s : State) (h0 : W .cue = true) (h1 : W (.com .tsu .pgEvent) = true) (h2 : W (.com .tsu .ic) = true) (h3 : W .steps = true) (h4 : W .tallies = true) (h5 : W (.com .tsu .ports) = true) (h6 : W .huddles = true) (h7 : W .signals = true) (h8 : W .member = true) (h9 : W .keyPort = true) (h10 : W (.com .tsu .tk) = true) (h11 : W .bays = true) :
    (waitFault th code s).blank W = s.blank W := by simp [waitFault, Com.blank, Tsu.blank, Dxd.blank, h0, h1, h2, h3, h4, h5, h6, h7, h8, h9, h10, h11]

@[simp ↓] theorem threadResume_blank {W : Part → Bool} (th : Thread) (s : State) (h0 : W .cue = true) :
    (threadResume th s).blank W = s.blank W := by simp [threadResume, Com.blank, Tsu.blank, Dxd.blank, h0]

@[simp ↓] theorem setP_blank {W : Part → Bool} (n : Nat) (v : Word) (s : State) (h0 : W .cue = true) :
    (setP n v s).blank W = s.blank W := by simp [setP, Com.blank, Tsu.blank, Dxd.blank, h0]

@[simp ↓] theorem putCell_blank {W : Part → Bool} (c : Nat) (x : Cell) (s : State) (h0 : W .signals = true) :
    (putCell c x s).blank W = s.blank W := by simp [putCell, Com.blank, Tsu.blank, Dxd.blank, h0]

@[simp ↓] theorem wake_blank {W : Part → Bool} (c : Nat) (r : Nat) (o : WOwner) (s : State) (h0 : W .signals = true) (h1 : W .cue = true) :
    (wake c r o s).blank W = s.blank W := by
  unfold wake
  (repeat' split) <;> simp [Com.blank, Tsu.blank, Dxd.blank, h0, h1]

@[simp ↓] theorem applyCell_blank {W : Part → Bool} (c : Nat) (x : Option Cell) (s : State) (h0 : W .signals = true) (h1 : W .cue = true) (h2 : W .steps = true) (h3 : W .tallies = true) (h4 : W (.com .tsu .ports) = true) (h5 : W .huddles = true) (h6 : W (.com .tsu .pgEvent) = true) (h7 : W (.com .tsu .ic) = true) (h8 : W .member = true) (h9 : W .keyPort = true) (h10 : W (.com .tsu .tk) = true) (h11 : W .bays = true) :
    (applyCell c x s).blank W = s.blank W := by
  unfold applyCell
  (repeat' split) <;> simp [Com.blank, Tsu.blank, Dxd.blank, h0, h1, h2, h3, h4, h5, h6, h7, h8, h9, h10, h11]

@[simp ↓] theorem cellAdd_blank {W : Part → Bool} (c : Nat) (d : Int) (s : State) (h0 : W .signals = true) (h1 : W .cue = true) (h2 : W .steps = true) (h3 : W .tallies = true) (h4 : W (.com .tsu .ports) = true) (h5 : W .huddles = true) (h6 : W (.com .tsu .pgEvent) = true) (h7 : W (.com .tsu .ic) = true) (h8 : W .member = true) (h9 : W .keyPort = true) (h10 : W (.com .tsu .tk) = true) (h11 : W .bays = true) :
    (cellAdd c d s).blank W = s.blank W := by simp [cellAdd, Com.blank, Tsu.blank, Dxd.blank, h0, h1, h2, h3, h4, h5, h6, h7, h8, h9, h10, h11]

@[simp ↓] theorem cellPostt_blank {W : Part → Bool} (c : Nat) (r : Nat) (s : State) (h0 : W .signals = true) (h1 : W .cue = true) (h2 : W .steps = true) (h3 : W .tallies = true) (h4 : W (.com .tsu .ports) = true) (h5 : W .huddles = true) (h6 : W (.com .tsu .pgEvent) = true) (h7 : W (.com .tsu .ic) = true) (h8 : W .member = true) (h9 : W .keyPort = true) (h10 : W (.com .tsu .tk) = true) (h11 : W .bays = true) :
    (cellPostt c r s).blank W = s.blank W := by simp [cellPostt, Com.blank, Tsu.blank, Dxd.blank, h0, h1, h2, h3, h4, h5, h6, h7, h8, h9, h10, h11]

@[simp ↓] theorem cellReset_blank {W : Part → Bool} (c : Nat) (s : State) (h0 : W .signals = true) (h1 : W .cue = true) (h2 : W .steps = true) (h3 : W .tallies = true) (h4 : W (.com .tsu .ports) = true) (h5 : W .huddles = true) (h6 : W (.com .tsu .pgEvent) = true) (h7 : W (.com .tsu .ic) = true) (h8 : W .member = true) (h9 : W .keyPort = true) (h10 : W (.com .tsu .tk) = true) (h11 : W .bays = true) :
    (cellReset c s).blank W = s.blank W := by simp [cellReset, Com.blank, Tsu.blank, Dxd.blank, h0, h1, h2, h3, h4, h5, h6, h7, h8, h9, h10, h11]

@[simp ↓] theorem cellRegister_blank {W : Part → Bool} (c : Nat) (r : Nat) (need : Nat) (o : WOwner) (s : State) (h0 : W .signals = true) (h1 : W .cue = true) (h2 : W .steps = true) (h3 : W .tallies = true) (h4 : W (.com .tsu .ports) = true) (h5 : W .huddles = true) (h6 : W (.com .tsu .pgEvent) = true) (h7 : W (.com .tsu .ic) = true) (h8 : W .member = true) (h9 : W .keyPort = true) (h10 : W (.com .tsu .tk) = true) (h11 : W .bays = true) :
    (cellRegister c r need o s).blank W = s.blank W := by simp [cellRegister, Com.blank, Tsu.blank, Dxd.blank, h0, h1, h2, h3, h4, h5, h6, h7, h8, h9, h10, h11]

@[simp ↓] theorem cellWait_blank {W : Part → Bool} (rq : Nat) (c : Nat) (r : Nat) (need : Nat) (s : State) (h0 : W .signals = true) (h1 : W .cue = true) (h2 : W .steps = true) (h3 : W .tallies = true) (h4 : W (.com .tsu .ports) = true) (h5 : W .huddles = true) (h6 : W (.com .tsu .pgEvent) = true) (h7 : W (.com .tsu .ic) = true) (h8 : W .member = true) (h9 : W .keyPort = true) (h10 : W (.com .tsu .tk) = true) (h11 : W .bays = true) :
    (cellWait rq c r need s).blank W = s.blank W := by simp [cellWait, Com.blank, Tsu.blank, Dxd.blank, h0, h1, h2, h3, h4, h5, h6, h7, h8, h9, h10, h11]

@[simp ↓] theorem badCell_blank {W : Part → Bool} (s : State) (h0 : W (.com .tsu .pgEvent) = true) (h1 : W (.com .tsu .ic) = true) (h2 : W .signals = true) :
    (badCell s).blank W = s.blank W := by simp [badCell, Com.blank, Tsu.blank, Dxd.blank, h0, h1, h2]

@[simp ↓] theorem modStreamOut_blank {W : Part → Bool} (n : Nat) (f : StreamOut → StreamOut) (s : State) (h0 : W .signals = true) :
    (modStreamOut n f s).blank W = s.blank W := by simp [modStreamOut, Com.blank, Tsu.blank, Dxd.blank, h0]

@[simp ↓] theorem modStreamIn_blank {W : Part → Bool} (n : Nat) (f : StreamIn → StreamIn) (s : State) (h0 : W .signals = true) :
    (modStreamIn n f s).blank W = s.blank W := by simp [modStreamIn, Com.blank, Tsu.blank, Dxd.blank, h0]

@[simp ↓] theorem stalePost_blank {W : Part → Bool} (n : Nat) (s : State) (h0 : W (.com .tsu .pgEvent) = true) (h1 : W (.com .tsu .ic) = true) (h2 : W .signals = true) :
    (stalePost n s).blank W = s.blank W := by simp [stalePost, Com.blank, Tsu.blank, Dxd.blank, h0, h1, h2]

@[simp ↓] theorem remotePost_blank {W : Part → Bool} (st : Nat) (cell : Nat) (n : Nat) (targeted : Bool) (rank : Nat) (s : State) (h0 : W (.com .tsu .pgEvent) = true) (h1 : W (.com .tsu .ic) = true) (h2 : W .signals = true) :
    (remotePost st cell n targeted rank s).blank W = s.blank W := by
  unfold remotePost
  (repeat' split) <;> simp [Com.blank, Tsu.blank, Dxd.blank, h0, h1, h2]

@[simp ↓] theorem queueReq_blank {W : Part → Bool} (q : CellReq) (s : State) (h0 : W .signals = true) :
    (queueReq q s).blank W = s.blank W := by simp [queueReq, Com.blank, Tsu.blank, Dxd.blank, h0]

@[simp ↓] theorem cellDo_blank {W : Part → Bool} (q : CellReq) (f : State → State) (s : State) (hf : ∀ s, (f s).blank W = s.blank W) (h0 : W .signals = true) :
    (cellDo q f s).blank W = s.blank W := by simp [cellDo, Com.blank, Tsu.blank, Dxd.blank, hf, h0]

@[simp ↓] theorem actPost_blank {W : Part → Bool} (v : PostV) (p : RPost) (s : State) (h0 : W .steps = true) (h1 : W .tallies = true) (h2 : W (.com .tsu .ports) = true) (h3 : W .huddles = true) (h4 : W .cue = true) (h5 : W (.com .tsu .pgEvent) = true) (h6 : W (.com .tsu .ic) = true) (h7 : W .signals = true) (h8 : W .member = true) (h9 : W .keyPort = true) (h10 : W (.com .tsu .tk) = true) (h11 : W .bays = true) :
    (actPost v p s).blank W = s.blank W := by
  unfold actPost
  (repeat' split) <;> simp [Com.blank, Tsu.blank, Dxd.blank, h0, h1, h2, h3, h4, h5, h6, h7, h8, h9, h10, h11]

@[simp ↓] theorem recheck_blank {W : Part → Bool} (a : Nat) (a1 : State) (h0 : W .steps = true) (h1 : W .tallies = true) (h2 : W (.com .tsu .ports) = true) (h3 : W .huddles = true) (h4 : W .cue = true) (h5 : W (.com .tsu .pgEvent) = true) (h6 : W (.com .tsu .ic) = true) (h7 : W .signals = true) (h8 : W .member = true) (h9 : W .keyPort = true) (h10 : W (.com .tsu .tk) = true) (h11 : W .bays = true) :
    (recheck a a1).blank W = a1.blank W := by
  induction a generalizing a1 with
  | zero => rfl
  | succ n ih =>
    unfold recheck
    (repeat' split) <;> simp (maxDischargeDepth := 12) [ih, Com.blank, Tsu.blank, Dxd.blank, h0, h1, h2, h3, h4, h5, h6, h7, h8, h9, h10, h11]

@[simp ↓] theorem takePost_blank {W : Part → Bool} (h : HeldPost) (s : State) (h0 : W .signals = true) (h1 : W (.com .tsu .pgEvent) = true) (h2 : W (.com .tsu .ic) = true) (h3 : W .steps = true) (h4 : W .tallies = true) (h5 : W (.com .tsu .ports) = true) (h6 : W .huddles = true) (h7 : W .cue = true) (h8 : W .member = true) (h9 : W .keyPort = true) (h10 : W (.com .tsu .tk) = true) (h11 : W .bays = true) :
    (takePost h s).blank W = s.blank W := by simp [takePost, Com.blank, Tsu.blank, Dxd.blank, h0, h1, h2, h3, h4, h5, h6, h7, h8, h9, h10, h11]

@[simp ↓] theorem drainPort_blank {W : Part → Bool} (a : Nat) (a1 : State) (h0 : W .signals = true) (h1 : W (.com .tsu .pgEvent) = true) (h2 : W (.com .tsu .ic) = true) (h3 : W .steps = true) (h4 : W .tallies = true) (h5 : W (.com .tsu .ports) = true) (h6 : W .huddles = true) (h7 : W .cue = true) (h8 : W .member = true) (h9 : W .keyPort = true) (h10 : W (.com .tsu .tk) = true) (h11 : W .bays = true) :
    (drainPort a a1).blank W = a1.blank W := by
  induction a generalizing a1 with
  | zero => rfl
  | succ n ih =>
    unfold drainPort
    (repeat' split) <;> simp (maxDischargeDepth := 12) [ih, Com.blank, Tsu.blank, Dxd.blank, h0, h1, h2, h3, h4, h5, h6, h7, h8, h9, h10, h11]

@[simp ↓] theorem recheckAll_blank {W : Part → Bool} (s : State) (h0 : W .steps = true) (h1 : W .tallies = true) (h2 : W (.com .tsu .ports) = true) (h3 : W .huddles = true) (h4 : W .cue = true) (h5 : W (.com .tsu .pgEvent) = true) (h6 : W (.com .tsu .ic) = true) (h7 : W .signals = true) (h8 : W .member = true) (h9 : W .keyPort = true) (h10 : W (.com .tsu .tk) = true) (h11 : W .bays = true) :
    (recheckAll s).blank W = s.blank W := by simp [recheckAll, Com.blank, Tsu.blank, Dxd.blank, h0, h1, h2, h3, h4, h5, h6, h7, h8, h9, h10, h11]

@[simp ↓] theorem newGeneration_blank {W : Part → Bool} (gen : Nat) (s : State) (h0 : W (.com .tsu .pgEvent) = true) (h1 : W (.com .tsu .ic) = true) (h2 : W .signals = true) :
    (newGeneration gen s).blank W = s.blank W := by simp [newGeneration, Com.blank, Tsu.blank, Dxd.blank, h0, h1, h2]

@[simp ↓] theorem streamDepart_blank {W : Part → Bool} (st : Nat) (s : State) (h0 : W .signals = true) :
    (streamDepart st s).blank W = s.blank W := by simp [streamDepart, Com.blank, Tsu.blank, Dxd.blank, h0]

@[simp ↓] theorem streamArrive_blank {W : Part → Bool} (st : Nat) (tag : Nat) (s : State) (h0 : W .steps = true) (h1 : W .tallies = true) (h2 : W (.com .tsu .ports) = true) (h3 : W .huddles = true) (h4 : W .cue = true) (h5 : W (.com .tsu .pgEvent) = true) (h6 : W (.com .tsu .ic) = true) (h7 : W .signals = true) (h8 : W .member = true) (h9 : W .keyPort = true) (h10 : W (.com .tsu .tk) = true) (h11 : W .bays = true) :
    (streamArrive st tag s).blank W = s.blank W := by simp [streamArrive, Com.blank, Tsu.blank, Dxd.blank, h0, h1, h2, h3, h4, h5, h6, h7, h8, h9, h10, h11]

@[simp ↓] theorem cwaitLater_blank {W : Part → Bool} (th : Thread) (c : Nat) (r : Nat) (need : Nat) (s : State) (h0 : W .cue = true) (h1 : W (.com .tsu .pgEvent) = true) (h2 : W (.com .tsu .ic) = true) (h3 : W .steps = true) (h4 : W .tallies = true) (h5 : W (.com .tsu .ports) = true) (h6 : W .huddles = true) (h7 : W .signals = true) (h8 : W .member = true) (h9 : W .keyPort = true) (h10 : W (.com .tsu .tk) = true) (h11 : W .bays = true) :
    (cwaitLater th c r need s).blank W = s.blank W := by simp [cwaitLater, Com.blank, Tsu.blank, Dxd.blank, h0, h1, h2, h3, h4, h5, h6, h7, h8, h9, h10, h11]

@[simp ↓] theorem applyReq_blank {W : Part → Bool} (q : CellReq) (s : State) (h0 : W .signals = true) (h1 : W .cue = true) (h2 : W .steps = true) (h3 : W .tallies = true) (h4 : W (.com .tsu .ports) = true) (h5 : W .huddles = true) (h6 : W (.com .tsu .pgEvent) = true) (h7 : W (.com .tsu .ic) = true) (h8 : W .member = true) (h9 : W .keyPort = true) (h10 : W (.com .tsu .tk) = true) (h11 : W .bays = true) (h12 : W (.com .tsu .rsp) = true) :
    (applyReq q s).blank W = s.blank W := by
  unfold applyReq
  (repeat' split) <;> simp [Com.blank, Tsu.blank, Dxd.blank, h0, h1, h2, h3, h4, h5, h6, h7, h8, h9, h10, h11, h12]

@[simp ↓] theorem windowDo_blank {W : Part → Bool} (q : CellReq) (s : State) (h0 : W .signals = true) (h1 : W .cue = true) (h2 : W .steps = true) (h3 : W .tallies = true) (h4 : W (.com .tsu .ports) = true) (h5 : W .huddles = true) (h6 : W (.com .tsu .pgEvent) = true) (h7 : W (.com .tsu .ic) = true) (h8 : W .member = true) (h9 : W .keyPort = true) (h10 : W (.com .tsu .tk) = true) (h11 : W .bays = true) (h12 : W (.com .tsu .rsp) = true) :
    (windowDo q s).blank W = s.blank W := by simp [windowDo, Com.blank, Tsu.blank, Dxd.blank, h0, h1, h2, h3, h4, h5, h6, h7, h8, h9, h10, h11, h12]

@[simp ↓] theorem releaseReqs_blank {W : Part → Bool} (s : State) (h0 : W .signals = true) (h1 : W .cue = true) (h2 : W .steps = true) (h3 : W .tallies = true) (h4 : W (.com .tsu .ports) = true) (h5 : W .huddles = true) (h6 : W (.com .tsu .pgEvent) = true) (h7 : W (.com .tsu .ic) = true) (h8 : W .member = true) (h9 : W .keyPort = true) (h10 : W (.com .tsu .tk) = true) (h11 : W .bays = true) (h12 : W (.com .tsu .rsp) = true) :
    (releaseReqs s).blank W = s.blank W := by simp [releaseReqs, Com.blank, Tsu.blank, Dxd.blank, h0, h1, h2, h3, h4, h5, h6, h7, h8, h9, h10, h11, h12]

end Sys2Proof.Machine
end

