-- ==== Sys2Proof/Laws/FramePosts.lean ====
section
/-!
SUPPORT. What the operations of Machine/Posts.lean can change.
-/

namespace Sys2Proof.Machine

@[simp ↓] theorem cellCommand_blank {W : Part → Bool} (c : Nat) (ok : Bool) (q : CellReq) (s : State) (h0 : W .signals = true) (h1 : W .cue = true) (h2 : W .steps = true) (h3 : W .tallies = true) (h4 : W (.com .tsu .ports) = true) (h5 : W .huddles = true) (h6 : W (.com .tsu .pgEvent) = true) (h7 : W (.com .tsu .ic) = true) (h8 : W .member = true) (h9 : W .keyPort = true) (h10 : W (.com .tsu .tk) = true) (h11 : W .bays = true) (h12 : W (.com .tsu .rsp) = true) :
    (cellCommand c ok q s).blank W = s.blank W := by simp [cellCommand, Com.blank, Tsu.blank, Dxd.blank, h0, h1, h2, h3, h4, h5, h6, h7, h8, h9, h10, h11, h12]

@[simp ↓] theorem windowOther_blank {W : Part → Bool} (rq : Nat) (off : Nat) (bytes : Nat) (wr : Bool) (v : Word) (s : State) (h0 : W .signals = true) (h1 : W .cue = true) (h2 : W .steps = true) (h3 : W .tallies = true) (h4 : W (.com .tsu .ports) = true) (h5 : W .huddles = true) (h6 : W (.com .tsu .pgEvent) = true) (h7 : W (.com .tsu .ic) = true) (h8 : W .member = true) (h9 : W .keyPort = true) (h10 : W (.com .tsu .tk) = true) (h11 : W .bays = true) (h12 : W (.com .tsu .rsp) = true) :
    (windowOther rq off bytes wr v s).blank W = s.blank W := by simp [windowOther, Com.blank, Tsu.blank, Dxd.blank, h0, h1, h2, h3, h4, h5, h6, h7, h8, h9, h10, h11, h12]

@[simp ↓] theorem dmaPost_blank {W : Part → Bool} (c : Nat) (n : Nat) (targeted : Bool) (r : Nat) (streamEn : Bool) (st : Nat) (s : State) (h0 : W .signals = true) (h1 : W (.com .tsu .pgEvent) = true) (h2 : W (.com .tsu .ic) = true) (h3 : W .cue = true) (h4 : W .steps = true) (h5 : W .tallies = true) (h6 : W (.com .tsu .ports) = true) (h7 : W .huddles = true) (h8 : W .member = true) (h9 : W .keyPort = true) (h10 : W (.com .tsu .tk) = true) (h11 : W .bays = true) (h12 : W (.com .tsu .rsp) = true) :
    (dmaPost c n targeted r streamEn st s).blank W = s.blank W := by simp [dmaPost, Com.blank, Tsu.blank, Dxd.blank, h0, h1, h2, h3, h4, h5, h6, h7, h8, h9, h10, h11, h12]

@[simp ↓] theorem rpostWrite_blank {W : Part → Bool} (v : Word) (s : State) (h0 : W .signals = true) (h1 : W (.com .tsu .pgEvent) = true) (h2 : W (.com .tsu .ic) = true) :
    (rpostWrite v s).blank W = s.blank W := by simp [rpostWrite, Com.blank, Tsu.blank, Dxd.blank, h0, h1, h2]

@[simp ↓] theorem remoteReceive_blank {W : Part → Bool} (l : List Byte) (s : State) (h0 : W .signals = true) (h1 : W (.com .tsu .pgEvent) = true) (h2 : W (.com .tsu .ic) = true) (h3 : W .steps = true) (h4 : W .tallies = true) (h5 : W (.com .tsu .ports) = true) (h6 : W .huddles = true) (h7 : W .cue = true) (h8 : W .member = true) (h9 : W .keyPort = true) (h10 : W (.com .tsu .tk) = true) (h11 : W .bays = true) :
    (remoteReceive l s).blank W = s.blank W := by simp [remoteReceive, Com.blank, Tsu.blank, Dxd.blank, h0, h1, h2, h3, h4, h5, h6, h7, h8, h9, h10, h11]

@[simp ↓] theorem departReport_blank {W : Part → Bool} (st : Nat) (s : State) (h0 : W .signals = true) :
    (departReport st s).blank W = s.blank W := by simp [departReport, Com.blank, Tsu.blank, Dxd.blank, h0]

@[simp ↓] theorem arrivalReport_blank {W : Part → Bool} (st : Nat) (tag : Nat) (s : State) (h0 : W .signals = true) (h1 : W .steps = true) (h2 : W .tallies = true) (h3 : W (.com .tsu .ports) = true) (h4 : W .huddles = true) (h5 : W .cue = true) (h6 : W (.com .tsu .pgEvent) = true) (h7 : W (.com .tsu .ic) = true) (h8 : W .member = true) (h9 : W .keyPort = true) (h10 : W (.com .tsu .tk) = true) (h11 : W .bays = true) :
    (arrivalReport st tag s).blank W = s.blank W := by simp [arrivalReport, Com.blank, Tsu.blank, Dxd.blank, h0, h1, h2, h3, h4, h5, h6, h7, h8, h9, h10, h11]

@[simp ↓] theorem orphanPost_blank {W : Part → Bool} (s : State) (h0 : W .steps = true) (h1 : W .tallies = true) (h2 : W (.com .tsu .ports) = true) (h3 : W .huddles = true) (h4 : W .cue = true) (h5 : W (.com .tsu .pgEvent) = true) (h6 : W (.com .tsu .ic) = true) (h7 : W .signals = true) (h8 : W .member = true) (h9 : W .keyPort = true) (h10 : W (.com .tsu .tk) = true) (h11 : W .bays = true) :
    (orphanPost s).blank W = s.blank W := by simp [orphanPost, Com.blank, Tsu.blank, Dxd.blank, h0, h1, h2, h3, h4, h5, h6, h7, h8, h9, h10, h11]

@[simp ↓] theorem ctxWrite_blank {W : Part → Bool} (v : Word) (s : State) (h0 : W (.com .tsu .regs) = true) (h1 : W .signals = true) :
    (ctxWrite v s).blank W = s.blank W := by simp [ctxWrite, Com.blank, Tsu.blank, Dxd.blank, h0, h1]

@[simp ↓] theorem clearCells_blank {W : Part → Bool} (s : State) (h0 : W .signals = true) :
    (clearCells s).blank W = s.blank W := by simp [clearCells, Com.blank, Tsu.blank, Dxd.blank, h0]

@[simp ↓] theorem loadCells_blank {W : Part → Bool} (img : List CtxCell) (s : State) (h0 : W .signals = true) :
    (loadCells img s).blank W = s.blank W := by simp [loadCells, Com.blank, Tsu.blank, Dxd.blank, h0]

@[simp ↓] theorem ctxDone_blank {W : Part → Bool} (img : List CtxCell) (s : State) (h0 : W .signals = true) (h1 : W .cue = true) (h2 : W .steps = true) (h3 : W .tallies = true) (h4 : W (.com .tsu .ports) = true) (h5 : W .huddles = true) (h6 : W (.com .tsu .pgEvent) = true) (h7 : W (.com .tsu .ic) = true) (h8 : W .member = true) (h9 : W .keyPort = true) (h10 : W (.com .tsu .tk) = true) (h11 : W .bays = true) (h12 : W (.com .tsu .rsp) = true) :
    (ctxDone img s).blank W = s.blank W := by simp [ctxDone, Com.blank, Tsu.blank, Dxd.blank, h0, h1, h2, h3, h4, h5, h6, h7, h8, h9, h10, h11, h12]

@[simp ↓] theorem clearSgErrors_blank {W : Part → Bool} (s : State) (h0 : W .signals = true) :
    (clearSgErrors s).blank W = s.blank W := by simp [clearSgErrors, Com.blank, Tsu.blank, Dxd.blank, h0]

end Sys2Proof.Machine
end

