-- ==== Sys2Proof/Laws/FrameKeyPort.lean ====
section
/-!
SUPPORT. What the operations of Machine/KeyPort.lean can change.
-/

namespace Sys2Proof.Machine

@[simp ↓] theorem kpRespond_blank {W : Part → Bool} (ch : Nat) (code : Nat) (s : State) (h0 : W .keyPort = true) (h1 : W (.com .tsu .pgEvent) = true) (h2 : W (.com .tsu .ic) = true) :
    (kpRespond ch code s).blank W = s.blank W := by simp [kpRespond, Com.blank, Tsu.blank, Dxd.blank, h0, h1, h2]

@[simp ↓] theorem kpRequest_blank {W : Part → Bool} (ch : Nat) (code : Nat) (s : State) (h0 : W .keyPort = true) (h1 : W (.com .tsu .pgEvent) = true) (h2 : W (.com .tsu .ic) = true) :
    (kpRequest ch code s).blank W = s.blank W := by simp [kpRequest, Com.blank, Tsu.blank, Dxd.blank, h0, h1, h2]

@[simp ↓] theorem kpDeferred_blank {W : Part → Bool} (s : State) (h0 : W .keyPort = true) (h1 : W (.com .tsu .pgEvent) = true) (h2 : W (.com .tsu .ic) = true) :
    (kpDeferred s).blank W = s.blank W := by simp [kpDeferred, Com.blank, Tsu.blank, Dxd.blank, h0, h1, h2]

@[simp ↓] theorem kpClassWrite_blank {W : Part → Bool} (v : Word) (s : State) (h0 : W .keyPort = true) :
    (kpClassWrite v s).blank W = s.blank W := by simp [kpClassWrite, Com.blank, Tsu.blank, Dxd.blank, h0]

@[simp ↓] theorem clearKpErrors_blank {W : Part → Bool} (s : State) (h0 : W .keyPort = true) :
    (clearKpErrors s).blank W = s.blank W := by simp [clearKpErrors, Com.blank, Tsu.blank, Dxd.blank, h0]

end Sys2Proof.Machine
end

