-- ==== Sys2Proof/Laws/FrameTallyBase.lean ====
section
/-!
SUPPORT. What the operations of Machine/TallyBase.lean can change.
-/

namespace Sys2Proof.Machine

@[simp ↓] theorem modLane_blank {W : Part → Bool} (n : Nat) (f : Lane → Lane) (s : State) (h0 : W .tallies = true) :
    (modLane n f s).blank W = s.blank W := by simp [modLane, Com.blank, Tsu.blank, Dxd.blank, h0]

@[simp ↓] theorem startLanes_blank {W : Part → Bool} (s : State) (h0 : W .tallies = true) :
    (startLanes s).blank W = s.blank W := by simp [startLanes, Com.blank, Tsu.blank, Dxd.blank, h0]

@[simp ↓] theorem feedWindow_blank {W : Part → Bool} (lane : Nat) (bs : List Byte) (units : Nat) (s : State) (h0 : W .tallies = true) :
    (feedWindow lane bs units s).blank W = s.blank W := by
  unfold feedWindow
  (repeat' split) <;> simp [Com.blank, Tsu.blank, Dxd.blank, h0]

@[simp ↓] theorem laneUnit_blank {W : Part → Bool} (lane : Nat) (bs : List Byte) (units : Nat) (s : State) (h0 : W .tallies = true) (h1 : W (.com .tsu .pgEvent) = true) (h2 : W (.com .tsu .ic) = true) :
    (laneUnit lane bs units s).blank W = s.blank W := by
  unfold laneUnit
  (repeat' split) <;> simp [Com.blank, Tsu.blank, Dxd.blank, h0, h1, h2]

@[simp ↓] theorem openWindows_blank {W : Part → Bool} (c : CurStep) (k : Nat) (live : Bool) (first : Nat) (count : Nat) (mask : Nat) (s : State) (h0 : W (.com .tsu .pgEvent) = true) (h1 : W (.com .tsu .ic) = true) (h2 : W .cue = true) (h3 : W .tallies = true) :
    (openWindows c k live first count mask s).blank W = s.blank W := by simp [openWindows, Com.blank, Tsu.blank, Dxd.blank, h0, h1, h2, h3]

@[simp ↓] theorem sendAll_blank {W : Part → Bool} (l : List Payload) (s : State) (h0 : W (.com .tsu .ports) = true) :
    (sendAll l s).blank W = s.blank W := by simp [sendAll, Com.blank, Tsu.blank, Dxd.blank, h0]

@[simp ↓] theorem ringKeep_blank {W : Part → Bool} (x : RingRec) (s : State) (h0 : W (.com .tsu .pgEvent) = true) (h1 : W (.com .tsu .ic) = true) (h2 : W .tallies = true) :
    (ringKeep x s).2.blank W = s.blank W := by
  unfold ringKeep
  dsimp only
  (repeat' split) <;> simp [Com.blank, Tsu.blank, Dxd.blank, h0, h1, h2]

@[simp ↓] theorem closeWindow.raiseUnsent_blank {W : Part → Bool} (s : State) (h0 : W .tallies = true) :
    (closeWindow.raiseUnsent s).blank W = s.blank W := by simp [closeWindow.raiseUnsent, Com.blank, Tsu.blank, Dxd.blank, h0]

@[simp ↓] theorem closeWindow_blank {W : Part → Bool} (r : StepRec) (lane : Nat) (w : Nat) (temp : Int) (waiting : Nat) (s : State) (h0 : W (.com .tsu .pgEvent) = true) (h1 : W (.com .tsu .ic) = true) (h2 : W .tallies = true) :
    (closeWindow r lane w temp waiting s).2.blank W = s.blank W := by
  unfold closeWindow
  dsimp only
  (repeat' split) <;> simp (maxDischargeDepth := 12) [Com.blank, Tsu.blank, Dxd.blank, h0, h1, h2]

@[simp ↓] theorem noteClosed_blank {W : Part → Bool} (lane : Nat) (w : Nat) (s : State) (h0 : W .tallies = true) :
    (noteClosed lane w s).blank W = s.blank W := by simp [noteClosed, Com.blank, Tsu.blank, Dxd.blank, h0]

@[simp ↓] theorem sealStep_blank {W : Part → Bool} (r : StepRec) (s : State) (h0 : W (.com .tsu .pgEvent) = true) (h1 : W (.com .tsu .ic) = true) (h2 : W .tallies = true) (h3 : W (.com .tsu .ports) = true) :
    (sealStep r s).blank W = s.blank W := by simp [sealStep, Com.blank, Tsu.blank, Dxd.blank, h0, h1, h2, h3]

end Sys2Proof.Machine
end

