-- ==== Sys2Proof/Laws/FrameTallies.lean ====
section
/-!
SUPPORT. What the operations of Machine/Tallies.lean can change.
-/

namespace Sys2Proof.Machine

@[simp ↓] theorem tapUnit_blank {W : Part → Bool} (tap : Nat) (flow : Nat) (outbound : Bool) (bytes : List Byte) (s : State) (h0 : W .tallies = true) (h1 : W (.com .tsu .pgEvent) = true) (h2 : W (.com .tsu .ic) = true) :
    (tapUnit tap flow outbound bytes s).blank W = s.blank W := by simp [tapUnit, Com.blank, Tsu.blank, Dxd.blank, h0, h1, h2]

@[simp ↓] theorem feedStore_blank {W : Part → Bool} (rq : Nat) (n : Nat) (v : Word) (s : State) (h0 : W (.com .tsu .pgEvent) = true) (h1 : W (.com .tsu .ic) = true) (h2 : W .tallies = true) :
    (feedStore rq n v s).blank W = s.blank W := by simp [feedStore, Com.blank, Tsu.blank, Dxd.blank, h0, h1, h2]

@[simp ↓] theorem windowCloseCmd_blank {W : Part → Bool} (lane : Nat) (s : State) (h0 : W (.com .tsu .pgEvent) = true) (h1 : W (.com .tsu .ic) = true) (h2 : W .tallies = true) (h3 : W (.com .tsu .ports) = true) :
    (windowCloseCmd lane s).blank W = s.blank W := by
  unfold windowCloseCmd
  (repeat' split) <;> simp [State.blank, Com.blank, Tsu.blank, Dxd.blank, h0, h1, h2, h3]

@[simp ↓] theorem sendFrames_blank {W : Part → Bool} (fs : List Frame) (s : State) (h0 : W (.com .tsu .ports) = true) :
    (sendFrames fs s).blank W = s.blank W := by simp [sendFrames, Com.blank, Tsu.blank, Dxd.blank, h0]

@[simp ↓] theorem queueRoom_blank {W : Part → Bool} (s : State) (h0 : W .tallies = true) (h1 : W (.com .tsu .ports) = true) :
    (queueRoom s).blank W = s.blank W := by
  unfold queueRoom
  (repeat' split) <;> simp [Com.blank, Tsu.blank, Dxd.blank, h0, h1]

@[simp ↓] theorem clearTlErrors_tsu_blank {W : Part → Bool} (s : State) (h0 : W .tallies = true) :
    (clearTlErrors .tsu s).blank W = s.blank W := by simp [clearTlErrors, Com.blank, Tsu.blank, Dxd.blank, h0]

@[simp ↓] theorem clearTlErrors_dxd_blank {W : Part → Bool} (s : State) (h0 : W .scores = true) :
    (clearTlErrors .dxd s).blank W = s.blank W := by simp [clearTlErrors, Com.blank, Tsu.blank, Dxd.blank, h0]

end Sys2Proof.Machine
end

