-- ==== Sys2Proof/Laws/FrameStockroom.lean ====
section
/-!
SUPPORT. What the operations of Machine/Stockroom.lean can change.
-/

namespace Sys2Proof.Machine

@[simp ↓] theorem modStPort_blank {W : Part → Bool} (p : Nat) (f : StPort → StPort) (s : State) (h0 : W .stock = true) :
    (modStPort p f s).blank W = s.blank W := by simp [modStPort, Com.blank, Tsu.blank, Dxd.blank, h0]

@[simp ↓] theorem emptyLedger_blank {W : Part → Bool} (s : State) (h0 : W .stock = true) :
    (emptyLedger s).blank W = s.blank W := by simp [emptyLedger, Com.blank, Tsu.blank, Dxd.blank, h0]

@[simp ↓] theorem reqRefused_blank {W : Part → Bool} (s : State) (h0 : W (.com .tsu .pgEvent) = true) (h1 : W (.com .tsu .ic) = true) (h2 : W .stock = true) :
    (reqRefused s).blank W = s.blank W := by simp [reqRefused, Com.blank, Tsu.blank, Dxd.blank, h0, h1, h2]

@[simp ↓] theorem stockRequest_blank {W : Part → Bool} (p : Nat) (w : Nat) (s : State) (h0 : W (.com .tsu .pgEvent) = true) (h1 : W (.com .tsu .ic) = true) (h2 : W .stock = true) :
    (stockRequest p w s).blank W = s.blank W := by simp [stockRequest, Com.blank, Tsu.blank, Dxd.blank, h0, h1, h2]

@[simp ↓] theorem stockRelease_blank {W : Part → Bool} (p : Nat) (s : State) (h0 : W .stock = true) :
    (stockRelease p s).blank W = s.blank W := by simp [stockRelease, Com.blank, Tsu.blank, Dxd.blank, h0]

@[simp ↓] theorem darkFailure_blank {W : Part → Bool} (s : State) (h0 : W .steps = true) (h1 : W .tallies = true) (h2 : W (.com .tsu .ports) = true) (h3 : W .huddles = true) (h4 : W .cue = true) (h5 : W (.com .tsu .pgEvent) = true) (h6 : W (.com .tsu .ic) = true) (h7 : W .signals = true) (h8 : W .member = true) (h9 : W .keyPort = true) (h10 : W (.com .tsu .tk) = true) (h11 : W .bays = true) :
    (darkFailure s).blank W = s.blank W := by simp [darkFailure, Com.blank, Tsu.blank, Dxd.blank, h0, h1, h2, h3, h4, h5, h6, h7, h8, h9, h10, h11]

@[simp ↓] theorem losePhase_blank {W : Part → Bool} (p : Nat) (s : State) (h0 : W (.com .tsu .pgEvent) = true) (h1 : W (.com .tsu .ic) = true) (h2 : W .stock = true) (h3 : W .bays = true) (h4 : W .keyPort = true) (h5 : W .steps = true) (h6 : W .tallies = true) (h7 : W (.com .tsu .ports) = true) (h8 : W .huddles = true) (h9 : W .cue = true) (h10 : W .signals = true) (h11 : W .member = true) (h12 : W (.com .tsu .tk) = true) :
    (losePhase p s).blank W = s.blank W := by simp [losePhase, Com.blank, Tsu.blank, Dxd.blank, h0, h1, h2, h3, h4, h5, h6, h7, h8, h9, h10, h11, h12]

@[simp ↓] theorem samplePhases_blank {W : Part → Bool} (phases : Nat) (s : State) (h0 : W .stock = true) :
    (samplePhases phases s).blank W = s.blank W := by simp [samplePhases, Com.blank, Tsu.blank, Dxd.blank, h0]

@[simp ↓] theorem losePhases_blank {W : Part → Bool} (s : State) (h0 : W (.com .tsu .pgEvent) = true) (h1 : W (.com .tsu .ic) = true) (h2 : W .stock = true) (h3 : W .bays = true) (h4 : W .keyPort = true) (h5 : W .steps = true) (h6 : W .tallies = true) (h7 : W (.com .tsu .ports) = true) (h8 : W .huddles = true) (h9 : W .cue = true) (h10 : W .signals = true) (h11 : W .member = true) (h12 : W (.com .tsu .tk) = true) :
    (losePhases s).blank W = s.blank W := by simp [losePhases, Com.blank, Tsu.blank, Dxd.blank, h0, h1, h2, h3, h4, h5, h6, h7, h8, h9, h10, h11, h12]

@[simp ↓] theorem setLeave_blank {W : Part → Bool} (r : StepRec) (l : Nat) (s : State) (h0 : W .steps = true) :
    (setLeave r l s).blank W = s.blank W := by simp [setLeave, Com.blank, Tsu.blank, Dxd.blank, h0]

@[simp ↓] theorem takeRelease_blank {W : Part → Bool} (p : Nat) (s : State) (h0 : W .stock = true) :
    (takeRelease p s).blank W = s.blank W := by simp [takeRelease, Com.blank, Tsu.blank, Dxd.blank, h0]

@[simp ↓] theorem takeRel_blank {W : Part → Bool} (q : LeaveReq) (s : State) (h0 : W .steps = true) :
    (takeRel q s).blank W = s.blank W := by
  unfold takeRel
  (repeat' split) <;> simp [Com.blank, Tsu.blank, Dxd.blank, h0]

@[simp ↓] theorem takeRels_blank {W : Part → Bool} (s : State) (h0 : W .steps = true) (h1 : W .stock = true) :
    (takeRels s).blank W = s.blank W := by simp [takeRels, Com.blank, Tsu.blank, Dxd.blank, h0, h1]

@[simp ↓] theorem takeReleases_blank {W : Part → Bool} (s : State) (h0 : W .steps = true) (h1 : W .stock = true) :
    (takeReleases s).blank W = s.blank W := by simp [takeReleases, Com.blank, Tsu.blank, Dxd.blank, h0, h1]

@[simp ↓] theorem takeLeave_blank {W : Part → Bool} (q : LeaveReq) (s : State) (h0 : W .steps = true) (h1 : W (.com .tsu .pgEvent) = true) (h2 : W (.com .tsu .ic) = true) (h3 : W .stock = true) :
    (takeLeave q s).blank W = s.blank W := by
  unfold takeLeave
  (repeat' split) <;> simp [Com.blank, Tsu.blank, Dxd.blank, h0, h1, h2, h3]

@[simp ↓] theorem takeLeaves_blank {W : Part → Bool} (s : State) (h0 : W .steps = true) (h1 : W (.com .tsu .pgEvent) = true) (h2 : W (.com .tsu .ic) = true) (h3 : W .stock = true) :
    (takeLeaves s).blank W = s.blank W := by simp [takeLeaves, Com.blank, Tsu.blank, Dxd.blank, h0, h1, h2, h3]

@[simp ↓] theorem takeRequests_blank {W : Part → Bool} (s : State) (h0 : W .stock = true) :
    (takeRequests s).blank W = s.blank W := by
  unfold takeRequests
  dsimp only
  (repeat' split) <;> first
    | (simp (maxDischargeDepth := 12) [Com.blank, Tsu.blank, Dxd.blank, h0]; done)
    | (exfalso; simp_all; done)
    | (refine (foldl_blank _ _ _ ?_).trans ?_
       · intro s a
         (repeat' split) <;> simp (maxDischargeDepth := 12) [Com.blank, Tsu.blank, Dxd.blank, h0]
       · simp (maxDischargeDepth := 12) [Com.blank, Tsu.blank, Dxd.blank, h0])

@[simp ↓] theorem refuseRequests_blank {W : Part → Bool} (c : Nat) (rise : Nat) (s : State) (h0 : W (.com .tsu .pgEvent) = true) (h1 : W (.com .tsu .ic) = true) (h2 : W .stock = true) :
    (refuseRequests c rise s).blank W = s.blank W := by simp [refuseRequests, Com.blank, Tsu.blank, Dxd.blank, h0, h1, h2]

@[simp ↓] theorem grantStage_blank {W : Part → Bool} (c : Nat) (rise : Nat) (serving : Bool) (droop : Bool) (s : State) (h0 : W .stock = true) :
    (grantStage c rise serving droop s).blank W = s.blank W := by simp [grantStage, Com.blank, Tsu.blank, Dxd.blank, h0]

@[simp ↓] theorem noteOver_blank {W : Part → Bool} (s : State) (h0 : W (.com .tsu .pgEvent) = true) (h1 : W (.com .tsu .ic) = true) (h2 : W .stock = true) :
    (noteOver s).blank W = s.blank W := by simp [noteOver, Com.blank, Tsu.blank, Dxd.blank, h0, h1, h2]

@[simp ↓] theorem sampleDrop_blank {W : Part → Bool} (vsense : Nat) (s : State) (h0 : W .stock = true) :
    (sampleDrop vsense s).blank W = s.blank W := by simp [sampleDrop, Com.blank, Tsu.blank, Dxd.blank, h0]

@[simp ↓] theorem setDroop_blank {W : Part → Bool} (b : Bool) (s : State) (h0 : W (.com .tsu .pgEvent) = true) (h1 : W (.com .tsu .ic) = true) (h2 : W .stock = true) :
    (setDroop b s).blank W = s.blank W := by simp [setDroop, Com.blank, Tsu.blank, Dxd.blank, h0, h1, h2]

@[simp ↓] theorem grantTick_blank {W : Part → Bool} (droop : Bool) (vsense : Nat) (phases : Nat) (s : State) (h0 : W .stock = true) (h1 : W (.com .tsu .pgEvent) = true) (h2 : W (.com .tsu .ic) = true) (h3 : W .bays = true) (h4 : W .keyPort = true) (h5 : W .steps = true) (h6 : W .tallies = true) (h7 : W (.com .tsu .ports) = true) (h8 : W .huddles = true) (h9 : W .cue = true) (h10 : W .signals = true) (h11 : W .member = true) (h12 : W (.com .tsu .tk) = true) :
    (grantTick droop vsense phases s).blank W = s.blank W := by simp [grantTick, Com.blank, Tsu.blank, Dxd.blank, h0, h1, h2, h3, h4, h5, h6, h7, h8, h9, h10, h11, h12]

@[simp ↓] theorem assertDroop_blank {W : Part → Bool} (s : State) (h0 : W (.com .tsu .pgEvent) = true) (h1 : W (.com .tsu .ic) = true) (h2 : W .stock = true) :
    (assertDroop s).blank W = s.blank W := by simp [assertDroop, Com.blank, Tsu.blank, Dxd.blank, h0, h1, h2]

@[simp ↓] theorem bumpSuspect_blank {W : Part → Bool} (s : State) (h0 : W (.com .tsu .pgEvent) = true) (h1 : W (.com .tsu .ic) = true) (h2 : W .stock = true) :
    (bumpSuspect s).blank W = s.blank W := by simp [bumpSuspect, Com.blank, Tsu.blank, Dxd.blank, h0, h1, h2]

@[simp ↓] theorem stockReport_blank {W : Part → Bool} (s : State) (h0 : W (.com .tsu .ports) = true) (h1 : W .stock = true) :
    (stockReport s).blank W = s.blank W := by
  unfold stockReport
  dsimp only
  (repeat' split) <;> first
    | (simp (maxDischargeDepth := 12) [Com.blank, Tsu.blank, Dxd.blank, h0, h1]; done)
    | (exfalso; simp_all; done)
    | (refine (foldl_blank _ _ _ ?_).trans ?_
       · intro s a
         (repeat' split) <;> simp (maxDischargeDepth := 12) [Com.blank, Tsu.blank, Dxd.blank, h0, h1]
       · simp (maxDischargeDepth := 12) [Com.blank, Tsu.blank, Dxd.blank, h0, h1])

@[simp ↓] theorem monWrite_blank {W : Part → Bool} (v : Word) (s : State) (h0 : W (.com .tsu .regs) = true) (h1 : W .stock = true) :
    (monWrite v s).blank W = s.blank W := by simp [monWrite, Com.blank, Tsu.blank, Dxd.blank, h0, h1]

@[simp ↓] theorem clearStCounts_blank {W : Part → Bool} (s : State) (h0 : W .stock = true) :
    (clearStCounts s).blank W = s.blank W := by simp [clearStCounts, Com.blank, Tsu.blank, Dxd.blank, h0]

end Sys2Proof.Machine
end

