-- ==== Sys2Proof/Laws/FrameThreads.lean ====
section
/-!
SUPPORT. What the operations of Machine/Threads.lean can change.
-/

namespace Sys2Proof.Machine

@[simp ↓] theorem cueNext_blank {W : Part → Bool} (th : Thread) (s : State) (h0 : W .cue = true) :
    (cueNext th s).blank W = s.blank W := by simp [cueNext, Com.blank, Tsu.blank, Dxd.blank, h0]

@[simp ↓] theorem leadLate_blank {W : Part → Bool} (s : State) (h0 : W (.com .tsu .pgEvent) = true) (h1 : W (.com .tsu .ic) = true) (h2 : W .cue = true) :
    (leadLate s).blank W = s.blank W := by simp [leadLate, Com.blank, Tsu.blank, Dxd.blank, h0, h1, h2]

@[simp ↓] theorem modRec_blank {W : Part → Bool} (r : StepRec) (f : StepRec → StepRec) (s : State) (h0 : W .steps = true) :
    (modRec r f s).blank W = s.blank W := by simp [modRec, Com.blank, Tsu.blank, Dxd.blank, h0]

@[simp ↓] theorem bindStep_blank {W : Part → Bool} (pd : Nat) (r : StepRec) (s : State) (h0 : W .steps = true) (h1 : W .cue = true) (h2 : W (.com .tsu .pgEvent) = true) (h3 : W (.com .tsu .ic) = true) :
    (bindStep pd r s).blank W = s.blank W := by simp [bindStep, Com.blank, Tsu.blank, Dxd.blank, h0, h1, h2, h3]

@[simp ↓] theorem pokeArm_blank {W : Part → Bool} (s : State) (h0 : W .cue = true) (h1 : W .steps = true) (h2 : W (.com .tsu .pgEvent) = true) (h3 : W (.com .tsu .ic) = true) :
    (pokeArm s).blank W = s.blank W := by
  unfold pokeArm
  (repeat' split) <;> simp [Com.blank, Tsu.blank, Dxd.blank, h0, h1, h2, h3]

@[simp ↓] theorem returnStep_blank {W : Part → Bool} (pd : Nat) (r : StepRec) (s : State) (h0 : W .steps = true) (h1 : W .cue = true) :
    (returnStep pd r s).blank W = s.blank W := by simp [returnStep, Com.blank, Tsu.blank, Dxd.blank, h0, h1]

@[simp ↓] theorem pokeKick_blank {W : Part → Bool} (s : State) (h0 : W .cue = true) (h1 : W .steps = true) :
    (pokeKick s).blank W = s.blank W := by
  unfold pokeKick
  (repeat' split) <;> simp [Com.blank, Tsu.blank, Dxd.blank, h0, h1]

@[simp ↓] theorem sendHuddle_blank {W : Part → Bool} (f : CensusUpF) (s : State) (h0 : W .huddles = true) (h1 : W (.com .tsu .ports) = true) :
    (sendHuddle f s).blank W = s.blank W := by simp [sendHuddle, Com.blank, Tsu.blank, Dxd.blank, h0, h1]

@[simp ↓] theorem enterHuddle_blank {W : Part → Bool} (slot : Nat) (fp : Word) (c : CurStep) (s : State) (h0 : W .huddles = true) (h1 : W (.com .tsu .ports) = true) :
    (enterHuddle slot fp c s).blank W = s.blank W := by simp [enterHuddle, Com.blank, Tsu.blank, Dxd.blank, h0, h1]

@[simp ↓] theorem pokeCredit_blank {W : Part → Bool} (s : State) (h0 : W .cue = true) (h1 : W .huddles = true) (h2 : W (.com .tsu .ports) = true) :
    (pokeCredit s).blank W = s.blank W := by
  unfold pokeCredit
  (repeat' split) <;> simp [Com.blank, Tsu.blank, Dxd.blank, h0, h1, h2]

@[simp ↓] theorem pokeHawait_blank {W : Part → Bool} (s : State) (h0 : W .cue = true) (h1 : W (.com .tsu .pgEvent) = true) (h2 : W (.com .tsu .ic) = true) (h3 : W .steps = true) (h4 : W .tallies = true) (h5 : W (.com .tsu .ports) = true) (h6 : W .huddles = true) (h7 : W .signals = true) (h8 : W .member = true) (h9 : W .keyPort = true) (h10 : W (.com .tsu .tk) = true) (h11 : W .bays = true) :
    (pokeHawait s).blank W = s.blank W := by
  unfold pokeHawait
  (repeat' split) <;> simp [Com.blank, Tsu.blank, Dxd.blank, h0, h1, h2, h3, h4, h5, h6, h7, h8, h9, h10, h11]

@[simp ↓] theorem targetReached_blank {W : Part → Bool} (th : Thread) (s : State) (h0 : W .cue = true) :
    (targetReached th s).blank W = s.blank W := by
  unfold targetReached
  (repeat' split) <;> simp [Com.blank, Tsu.blank, Dxd.blank, h0]

@[simp ↓] theorem applyHeld_blank {W : Part → Bool} (s : State) (x : Thread × HeldEv) (h0 : W (.com .tsu .pgEvent) = true) (h1 : W (.com .tsu .ic) = true) (h2 : W .cue = true) (h3 : W .signals = true) (h4 : W .huddles = true) (h5 : W .steps = true) (h6 : W .tallies = true) (h7 : W (.com .tsu .ports) = true) (h8 : W .member = true) (h9 : W .keyPort = true) (h10 : W (.com .tsu .tk) = true) (h11 : W .bays = true) :
    (applyHeld s x).blank W = s.blank W := by
  unfold applyHeld
  (repeat' split) <;> simp [Com.blank, Tsu.blank, Dxd.blank, h0, h1, h2, h3, h4, h5, h6, h7, h8, h9, h10, h11]

@[simp ↓] theorem releaseThreads_blank {W : Part → Bool} (s : State) (h0 : W (.com .tsu .pgEvent) = true) (h1 : W (.com .tsu .ic) = true) (h2 : W .cue = true) (h3 : W .signals = true) (h4 : W .huddles = true) (h5 : W .steps = true) (h6 : W .tallies = true) (h7 : W (.com .tsu .ports) = true) (h8 : W .member = true) (h9 : W .keyPort = true) (h10 : W (.com .tsu .tk) = true) (h11 : W .bays = true) :
    (releaseThreads s).blank W = s.blank W := by simp [releaseThreads, Com.blank, Tsu.blank, Dxd.blank, h0, h1, h2, h3, h4, h5, h6, h7, h8, h9, h10, h11]

@[simp ↓] theorem pokeThreads_blank {W : Part → Bool} (s : State) (h0 : W .cue = true) (h1 : W .huddles = true) (h2 : W (.com .tsu .ports) = true) (h3 : W (.com .tsu .pgEvent) = true) (h4 : W (.com .tsu .ic) = true) (h5 : W .steps = true) (h6 : W .tallies = true) (h7 : W .signals = true) (h8 : W .member = true) (h9 : W .keyPort = true) (h10 : W (.com .tsu .tk) = true) (h11 : W .bays = true) :
    (pokeThreads s).blank W = s.blank W := by simp [pokeThreads, Com.blank, Tsu.blank, Dxd.blank, h0, h1, h2, h3, h4, h5, h6, h7, h8, h9, h10, h11]

end Sys2Proof.Machine
end

