-- ==== Sys2Proof/Laws/FrameBistBase.lean ====
section
/-!
SUPPORT. What the operations of Machine/BistBase.lean can change.
-/

namespace Sys2Proof.Machine

@[simp ↓] theorem bistRefuse_tsu_blank {W : Part → Bool} (slice : Nat) (reason : Nat) (s : State) (h0 : W (.com .tsu .pgEvent) = true) (h1 : W (.com .tsu .ic) = true) (h2 : W (.com .tsu .bt) = true) :
    (bistRefuse .tsu slice reason s).blank W = s.blank W := by simp [bistRefuse, Com.blank, Tsu.blank, Dxd.blank, h0, h1, h2]

@[simp ↓] theorem bistRefuse_dxd_blank {W : Part → Bool} (slice : Nat) (reason : Nat) (s : State) (h0 : W (.com .dxd .pgEvent) = true) (h1 : W (.com .dxd .ic) = true) (h2 : W (.com .dxd .bt) = true) :
    (bistRefuse .dxd slice reason s).blank W = s.blank W := by simp [bistRefuse, Com.blank, Tsu.blank, Dxd.blank, h0, h1, h2]

@[simp ↓] theorem bistAccept_blank {W : Part → Bool} (slice : Nat) (compare : Bool) (by_ : Option (Thread × Nat)) (s : State) (h0 : W (.com .tsu .bt) = true) :
    (bistAccept slice compare by_ s).blank W = s.blank W := by simp [bistAccept, Com.blank, Tsu.blank, Dxd.blank, h0]

@[simp ↓] theorem bistRequest_tsu_blank {W : Part → Bool} (slice : Nat) (compare : Bool) (s : State) (h0 : W (.com .tsu .pgEvent) = true) (h1 : W (.com .tsu .ic) = true) (h2 : W (.com .tsu .bt) = true) :
    (bistRequest .tsu slice compare s).blank W = s.blank W := by
  unfold bistRequest
  (repeat' split) <;> simp [Com.blank, Tsu.blank, Dxd.blank, h0, h1, h2]

@[simp ↓] theorem bistRequest_dxd_blank {W : Part → Bool} (slice : Nat) (compare : Bool) (s : State) (h0 : W (.com .dxd .pgEvent) = true) (h1 : W (.com .dxd .ic) = true) (h2 : W (.com .dxd .bt) = true) (h3 : W (.com .tsu .bt) = true) :
    (bistRequest .dxd slice compare s).blank W = s.blank W := by
  unfold bistRequest
  (repeat' split) <;> simp [Com.blank, Tsu.blank, Dxd.blank, h0, h1, h2, h3]

@[simp ↓] theorem btRunWrite_tsu_blank {W : Part → Bool} (v : Word) (s : State) (h0 : W (.com .tsu .regs) = true) (h1 : W (.com .tsu .pgEvent) = true) (h2 : W (.com .tsu .ic) = true) (h3 : W (.com .tsu .bt) = true) :
    (btRunWrite .tsu v s).blank W = s.blank W := by simp [btRunWrite, Com.blank, Tsu.blank, Dxd.blank, h0, h1, h2, h3]

@[simp ↓] theorem btRunWrite_dxd_blank {W : Part → Bool} (v : Word) (s : State) (h0 : W (.com .dxd .regs) = true) (h1 : W (.com .dxd .pgEvent) = true) (h2 : W (.com .dxd .ic) = true) (h3 : W (.com .dxd .bt) = true) (h4 : W (.com .tsu .bt) = true) :
    (btRunWrite .dxd v s).blank W = s.blank W := by simp [btRunWrite, Com.blank, Tsu.blank, Dxd.blank, h0, h1, h2, h3, h4]

@[simp ↓] theorem modWin_blank {W : Part → Bool} (f : SliceWin → SliceWin) (s : State) (h0 : W (.com .tsu .bt) = true) :
    (modWin f s).blank W = s.blank W := by simp [modWin, Com.blank, Tsu.blank, Dxd.blank, h0]

@[simp ↓] theorem bistIsolate_blank {W : Part → Bool} (s : State) (h0 : W (.com .tsu .bt) = true) (h1 : W .member = true) (h2 : W (.com .tsu .coreA) = true) (h3 : W (.com .tsu .coreB) = true) (h4 : W (.com .tsu .tk) = true) (h5 : W (.com .tsu .pgEvent) = true) (h6 : W (.com .tsu .ic) = true) (h7 : W (.com .tsu .msets) = true) (h8 : W (.com .tsu .hfits) = true) (h9 : W (.com .tsu .ports) = true) (h10 : W .huddles = true) :
    (bistIsolate s).blank W = s.blank W := by
  unfold bistIsolate
  (repeat' split) <;> simp [Com.blank, Tsu.blank, Dxd.blank, h0, h1, h2, h3, h4, h5, h6, h7, h8, h9, h10]

@[simp ↓] theorem bistMismatch_blank {W : Part → Bool} (s : State) (h0 : W .steps = true) (h1 : W .tallies = true) (h2 : W (.com .tsu .ports) = true) (h3 : W .huddles = true) (h4 : W .cue = true) (h5 : W (.com .tsu .pgEvent) = true) (h6 : W (.com .tsu .ic) = true) (h7 : W .signals = true) (h8 : W .member = true) (h9 : W .keyPort = true) (h10 : W (.com .tsu .tk) = true) (h11 : W .bays = true) (h12 : W (.com .tsu .bt) = true) :
    (bistMismatch s).blank W = s.blank W := by simp [bistMismatch, Com.blank, Tsu.blank, Dxd.blank, h0, h1, h2, h3, h4, h5, h6, h7, h8, h9, h10, h11, h12]

@[simp ↓] theorem bistLatch_blank {W : Part → Bool} (outs : List Word) (s : State) (h0 : W (.com .tsu .bt) = true) (h1 : W .steps = true) (h2 : W .tallies = true) (h3 : W (.com .tsu .ports) = true) (h4 : W .huddles = true) (h5 : W .cue = true) (h6 : W (.com .tsu .pgEvent) = true) (h7 : W (.com .tsu .ic) = true) (h8 : W .signals = true) (h9 : W .member = true) (h10 : W .keyPort = true) (h11 : W (.com .tsu .tk) = true) (h12 : W .bays = true) :
    (bistLatch outs s).blank W = s.blank W := by
  unfold bistLatch
  (repeat' split) <;> simp [Com.blank, Tsu.blank, Dxd.blank, h0, h1, h2, h3, h4, h5, h6, h7, h8, h9, h10, h11, h12]

@[simp ↓] theorem restoreCore_blank {W : Part → Bool} (c : Nat) (mismatch : Bool) (s : State) (h0 : W .member = true) (h1 : W (.com .tsu .coreA) = true) (h2 : W (.com .tsu .coreB) = true) (h3 : W (.com .tsu .tk) = true) (h4 : W (.com .tsu .pgEvent) = true) (h5 : W (.com .tsu .ic) = true) (h6 : W (.com .tsu .msets) = true) (h7 : W (.com .tsu .hfits) = true) (h8 : W (.com .tsu .ports) = true) (h9 : W .huddles = true) :
    (restoreCore c mismatch s).blank W = s.blank W := by simp [restoreCore, Com.blank, Tsu.blank, Dxd.blank, h0, h1, h2, h3, h4, h5, h6, h7, h8, h9]

@[simp ↓] theorem bistRestore_blank {W : Part → Bool} (s : State) (h0 : W .member = true) (h1 : W (.com .tsu .coreA) = true) (h2 : W (.com .tsu .coreB) = true) (h3 : W (.com .tsu .tk) = true) (h4 : W (.com .tsu .pgEvent) = true) (h5 : W (.com .tsu .ic) = true) (h6 : W (.com .tsu .msets) = true) (h7 : W (.com .tsu .hfits) = true) (h8 : W (.com .tsu .ports) = true) (h9 : W .huddles = true) (h10 : W (.com .tsu .bt) = true) :
    (bistRestore s).blank W = s.blank W := by
  unfold bistRestore
  (repeat' split) <;> simp [Com.blank, Tsu.blank, Dxd.blank, h0, h1, h2, h3, h4, h5, h6, h7, h8, h9, h10]

@[simp ↓] theorem bistResume_blank {W : Part → Bool} (by_ : Option (Thread × Nat)) (result : Nat) (s : State) (h0 : W .cue = true) :
    (bistResume by_ result s).blank W = s.blank W := by
  unfold bistResume
  (repeat' split) <;> simp [Com.blank, Tsu.blank, Dxd.blank, h0]

@[simp ↓] theorem releaseUnits_blank {W : Part → Bool} (w : SliceWin) (s : State) (h0 : W .stock = true) (h1 : W (.com .tsu .pgEvent) = true) (h2 : W (.com .tsu .ic) = true) (h3 : W .bays = true) (h4 : W .signals = true) (h5 : W .cue = true) (h6 : W .steps = true) (h7 : W .tallies = true) (h8 : W (.com .tsu .ports) = true) (h9 : W .huddles = true) (h10 : W .member = true) (h11 : W .keyPort = true) (h12 : W (.com .tsu .tk) = true) (h13 : W (.com .tsu .rsp) = true) :
    (releaseUnits w s).blank W = s.blank W := by
  unfold releaseUnits
  (repeat' split) <;> simp [State.blank, Com.blank, Tsu.blank, Dxd.blank, h0, h1, h2, h3, h4, h5, h6, h7, h8, h9, h10, h11, h12, h13]

@[simp ↓] theorem releaseSlice_blank {W : Part → Bool} (outcome : Nat) (reason : Nat) (s : State) (h0 : W (.com .tsu .bt) = true) (h1 : W .cue = true) (h2 : W .huddles = true) (h3 : W (.com .tsu .ports) = true) (h4 : W (.com .tsu .pgEvent) = true) (h5 : W (.com .tsu .ic) = true) (h6 : W .steps = true) (h7 : W .tallies = true) (h8 : W .signals = true) (h9 : W .member = true) (h10 : W .keyPort = true) (h11 : W (.com .tsu .tk) = true) (h12 : W .bays = true) (h13 : W .stock = true) (h14 : W (.com .tsu .rsp) = true) :
    (releaseSlice outcome reason s).blank W = s.blank W := by
  unfold releaseSlice
  (repeat' split) <;> simp [State.blank, Com.blank, Tsu.blank, Dxd.blank, h0, h1, h2, h3, h4, h5, h6, h7, h8, h9, h10, h11, h12, h13, h14]

@[simp ↓] theorem bistTwinLost_blank {W : Part → Bool} (s : State) (h0 : W .member = true) (h1 : W (.com .tsu .coreA) = true) (h2 : W (.com .tsu .coreB) = true) (h3 : W (.com .tsu .tk) = true) (h4 : W (.com .tsu .pgEvent) = true) (h5 : W (.com .tsu .ic) = true) (h6 : W (.com .tsu .msets) = true) (h7 : W (.com .tsu .hfits) = true) (h8 : W (.com .tsu .ports) = true) (h9 : W .huddles = true) (h10 : W (.com .tsu .bt) = true) (h11 : W .cue = true) (h12 : W .steps = true) (h13 : W .tallies = true) (h14 : W .signals = true) (h15 : W .keyPort = true) (h16 : W .bays = true) (h17 : W .stock = true) (h18 : W (.com .tsu .rsp) = true) :
    (bistTwinLost s).blank W = s.blank W := by
  unfold bistTwinLost
  (repeat' split) <;> simp [Com.blank, Tsu.blank, Dxd.blank, h0, h1, h2, h3, h4, h5, h6, h7, h8, h9, h10, h11, h12, h13, h14, h15, h16, h17, h18]

@[simp ↓] theorem openGate_tsu_blank {W : Part → Bool} (s : State) (h0 : W (.com .tsu .bt) = true) :
    (openGate .tsu s).blank W = s.blank W := by simp [openGate, Com.blank, Tsu.blank, Dxd.blank, h0]

@[simp ↓] theorem openGate_dxd_blank {W : Part → Bool} (s : State) (h0 : W (.com .dxd .bt) = true) :
    (openGate .dxd s).blank W = s.blank W := by simp [openGate, Com.blank, Tsu.blank, Dxd.blank, h0]

@[simp ↓] theorem ageCtlWrite_tsu_blank {W : Part → Bool} (v : Word) (s : State) (h0 : W (.com .tsu .regs) = true) (h1 : W (.com .tsu .bt) = true) :
    (ageCtlWrite .tsu v s).blank W = s.blank W := by simp [ageCtlWrite, Com.blank, Tsu.blank, Dxd.blank, h0, h1]

@[simp ↓] theorem ageCtlWrite_dxd_blank {W : Part → Bool} (v : Word) (s : State) (h0 : W (.com .dxd .regs) = true) (h1 : W (.com .dxd .bt) = true) :
    (ageCtlWrite .dxd v s).blank W = s.blank W := by simp [ageCtlWrite, Com.blank, Tsu.blank, Dxd.blank, h0, h1]

@[simp ↓] theorem gateStart_tsu_blank {W : Part → Bool} (s : State) (h0 : W (.com .tsu .bt) = true) :
    (gateStart .tsu s).blank W = s.blank W := by simp [gateStart, Com.blank, Tsu.blank, Dxd.blank, h0]

@[simp ↓] theorem gateStart_dxd_blank {W : Part → Bool} (s : State) (h0 : W (.com .dxd .bt) = true) :
    (gateStart .dxd s).blank W = s.blank W := by simp [gateStart, Com.blank, Tsu.blank, Dxd.blank, h0]

@[simp ↓] theorem gateEnd_dxd_blank {W : Part → Bool} (counts : List OscPair) (s : State) (h0 : W (.com .dxd .bt) = true) (h1 : W (.com .dxd .pgEvent) = true) (h2 : W (.com .dxd .ic) = true) :
    (gateEnd .dxd counts s).blank W = s.blank W := by
  unfold gateEnd
  dsimp only
  (repeat' split) <;> first
    | (simp (maxDischargeDepth := 12) [Com.blank, Tsu.blank, Dxd.blank, h0, h1, h2]; done)
    | (exfalso; simp_all; done)
    | (refine (foldl_blank _ _ _ ?_).trans ?_
       · intro s a
         (repeat' split) <;> simp (maxDischargeDepth := 12) [Com.blank, Tsu.blank, Dxd.blank, h0, h1, h2]
       · simp (maxDischargeDepth := 12) [Com.blank, Tsu.blank, Dxd.blank, h0, h1, h2])

@[simp ↓] theorem gateEnd_tsu_blank {W : Part → Bool} (counts : List OscPair) (s : State) (h0 : W (.com .tsu .bt) = true) (h1 : W (.com .tsu .pgEvent) = true) (h2 : W (.com .tsu .ic) = true) (h3 : W (.com .tsu .ports) = true) :
    (gateEnd .tsu counts s).blank W = s.blank W := by
  unfold gateEnd
  (repeat' split) <;> simp [Com.blank, Tsu.blank, Dxd.blank, h0, h1, h2, h3]

@[simp ↓] theorem latchBase_blank {W : Part → Bool} (s : State) (h0 : W (.com .tsu .bt) = true) :
    (latchBase s).blank W = s.blank W := by simp [latchBase, Com.blank, Tsu.blank, Dxd.blank, h0]

@[simp ↓] theorem keepFreqs_blank {W : Part → Bool} (s : State) (h0 : W .bays = true) :
    (keepFreqs s).blank W = s.blank W := by simp [keepFreqs, Com.blank, Tsu.blank, Dxd.blank, h0]

@[simp ↓] theorem replanEntry_blank {W : Part → Bool} (i : Nat) (s : State) (h0 : W (.com .tsu .regs) = true) (h1 : W (.com .tsu .pgEvent) = true) (h2 : W (.com .tsu .ic) = true) :
    (replanEntry i s).blank W = s.blank W := by simp [replanEntry, Com.blank, Tsu.blank, Dxd.blank, h0, h1, h2]

@[simp ↓] theorem replanWrite_dxd_blank {W : Part → Bool} (v : Word) (s : State) :
    (replanWrite .dxd v s).blank W = s.blank W := by simp [replanWrite, Com.blank, Tsu.blank, Dxd.blank]

@[simp ↓] theorem replanWrite_tsu_blank {W : Part → Bool} (v : Word) (s : State) (h0 : W (.com .tsu .pgEvent) = true) (h1 : W (.com .tsu .ic) = true) (h2 : W (.com .tsu .bt) = true) (h3 : W (.com .tsu .regs) = true) (h4 : W .bays = true) :
    (replanWrite .tsu v s).blank W = s.blank W := by simp [replanWrite, Com.blank, Tsu.blank, Dxd.blank, h0, h1, h2, h3, h4]

@[simp ↓] theorem modTa_dxd_blank {W : Part → Bool} (f : TestAccess → TestAccess) (s : State) (h0 : W (.com .dxd .ta) = true) :
    (modTa .dxd f s).blank W = s.blank W := by simp [modTa, Com.blank, Tsu.blank, Dxd.blank, h0]

@[simp ↓] theorem modTa_tsu_blank {W : Part → Bool} (f : TestAccess → TestAccess) (s : State) (h0 : W (.com .tsu .ta) = true) :
    (modTa .tsu f s).blank W = s.blank W := by simp [modTa, Com.blank, Tsu.blank, Dxd.blank, h0]

@[simp ↓] theorem closeAbort_tsu_blank {W : Part → Bool} (s : State) (h0 : W (.com .tsu .pgEvent) = true) (h1 : W (.com .tsu .ic) = true) (h2 : W (.com .tsu .ta) = true) :
    (closeAbort .tsu s).blank W = s.blank W := by simp [closeAbort, Com.blank, Tsu.blank, Dxd.blank, h0, h1, h2]

@[simp ↓] theorem closeAbort_dxd_blank {W : Part → Bool} (s : State) (h0 : W (.com .dxd .pgEvent) = true) (h1 : W (.com .dxd .ic) = true) (h2 : W (.com .dxd .ta) = true) :
    (closeAbort .dxd s).blank W = s.blank W := by simp [closeAbort, Com.blank, Tsu.blank, Dxd.blank, h0, h1, h2]

@[simp ↓] theorem fuAccessWrite_tsu_blank {W : Part → Bool} (v : Word) (s : State) (h0 : W (.com .tsu .pgEvent) = true) (h1 : W (.com .tsu .ic) = true) (h2 : W (.com .tsu .ta) = true) :
    (fuAccessWrite .tsu v s).blank W = s.blank W := by
  unfold fuAccessWrite
  dsimp only
  (repeat' split) <;> simp [Com.blank, Tsu.blank, Dxd.blank, h0, h1, h2]

@[simp ↓] theorem fuAccessWrite_dxd_blank {W : Part → Bool} (v : Word) (s : State) (h0 : W (.com .dxd .pgEvent) = true) (h1 : W (.com .dxd .ic) = true) (h2 : W (.com .dxd .ta) = true) :
    (fuAccessWrite .dxd v s).blank W = s.blank W := by
  unfold fuAccessWrite
  dsimp only
  (repeat' split) <;> simp [Com.blank, Tsu.blank, Dxd.blank, h0, h1, h2]

@[simp ↓] theorem fuseBlown_dxd_blank {W : Part → Bool} (s : State) (h0 : W (.com .dxd .pgEvent) = true) (h1 : W (.com .dxd .ic) = true) (h2 : W (.com .dxd .ta) = true) (h3 : W (.com .dxd .fuse) = true) :
    (fuseBlown .dxd s).blank W = s.blank W := by simp [fuseBlown, Com.blank, Tsu.blank, Dxd.blank, h0, h1, h2, h3]

@[simp ↓] theorem fuseBlown_tsu_blank {W : Part → Bool} (s : State) (h0 : W (.com .tsu .pgEvent) = true) (h1 : W (.com .tsu .ic) = true) (h2 : W (.com .tsu .ta) = true) (h3 : W (.com .tsu .fuse) = true) :
    (fuseBlown .tsu s).blank W = s.blank W := by simp [fuseBlown, Com.blank, Tsu.blank, Dxd.blank, h0, h1, h2, h3]

@[simp ↓] theorem clearBtCounts_tsu_blank {W : Part → Bool} (s : State) (h0 : W (.com .tsu .bt) = true) :
    (clearBtCounts .tsu s).blank W = s.blank W := by simp [clearBtCounts, Com.blank, Tsu.blank, Dxd.blank, h0]

@[simp ↓] theorem clearBtCounts_dxd_blank {W : Part → Bool} (s : State) (h0 : W (.com .dxd .bt) = true) :
    (clearBtCounts .dxd s).blank W = s.blank W := by simp [clearBtCounts, Com.blank, Tsu.blank, Dxd.blank, h0]

@[simp ↓] theorem clearCanary_dxd_blank {W : Part → Bool} (b : Nat) (s : State) (h0 : W (.com .dxd .bt) = true) :
    (clearCanary .dxd b s).blank W = s.blank W := by simp [clearCanary, Com.blank, Tsu.blank, Dxd.blank, h0]

@[simp ↓] theorem clearCanary_tsu_blank {W : Part → Bool} (b : Nat) (s : State) (h0 : W (.com .tsu .bt) = true) :
    (clearCanary .tsu b s).blank W = s.blank W := by simp [clearCanary, Com.blank, Tsu.blank, Dxd.blank, h0]

end Sys2Proof.Machine
end

