-- ==== Sys2Proof/Laws/FrameCueBase.lean ====
section
/-!
SUPPORT. What the operations of Machine/CueBase.lean can change.
-/

namespace Sys2Proof.Machine

@[simp ↓] theorem cueFault_blank {W : Part → Bool} (th : Thread) (code : Nat) (s : State) (h0 : W .cue = true) (h1 : W (.com .tsu .pgEvent) = true) (h2 : W (.com .tsu .ic) = true) (h3 : W .steps = true) (h4 : W .tallies = true) (h5 : W (.com .tsu .ports) = true) (h6 : W .huddles = true) (h7 : W .signals = true) (h8 : W .member = true) (h9 : W .keyPort = true) (h10 : W (.com .tsu .tk) = true) (h11 : W .bays = true) :
    (cueFault th code s).blank W = s.blank W := by simp [cueFault, Com.blank, Tsu.blank, Dxd.blank, h0, h1, h2, h3, h4, h5, h6, h7, h8, h9, h10, h11]

@[simp ↓] theorem noteEcc_blank {W : Part → Bool} (e : Ecc) (pc : Nat) (s : State) (h0 : W (.com .tsu .pgEvent) = true) (h1 : W (.com .tsu .ic) = true) (h2 : W .cue = true) :
    (noteEcc e pc s).blank W = s.blank W := by
  unfold noteEcc
  (repeat' split) <;> simp [Com.blank, Tsu.blank, Dxd.blank, h0, h1, h2]

@[simp ↓] theorem issue_blank {W : Part → Bool} (ops : Nat → Bool) (body : Cue → State → State) (th : Thread) (e : Ecc) (s : State) (hf : ∀ c s, (body c s).blank W = s.blank W) (h0 : W .cue = true) (h1 : W (.com .tsu .pgEvent) = true) (h2 : W (.com .tsu .ic) = true) (h3 : W .steps = true) (h4 : W .tallies = true) (h5 : W (.com .tsu .ports) = true) (h6 : W .huddles = true) (h7 : W .signals = true) (h8 : W .member = true) (h9 : W .keyPort = true) (h10 : W (.com .tsu .tk) = true) (h11 : W .bays = true) :
    (issue ops body th e s).blank W = s.blank W := by
  unfold issue
  dsimp only
  (repeat' split) <;> simp [Com.blank, Tsu.blank, Dxd.blank, hf, h0, h1, h2, h3, h4, h5, h6, h7, h8, h9, h10, h11]

@[simp ↓] theorem waitLate_blank {W : Part → Bool} (s : State) (h0 : W (.com .tsu .pgEvent) = true) (h1 : W (.com .tsu .ic) = true) (h2 : W .cue = true) :
    (waitLate s).blank W = s.blank W := by simp [waitLate, Com.blank, Tsu.blank, Dxd.blank, h0, h1, h2]

@[simp ↓] theorem kickLate_blank {W : Part → Bool} (s : State) (h0 : W (.com .tsu .pgEvent) = true) (h1 : W (.com .tsu .ic) = true) (h2 : W .cue = true) :
    (kickLate s).blank W = s.blank W := by simp [kickLate, Com.blank, Tsu.blank, Dxd.blank, h0, h1, h2]

@[simp ↓] theorem waitUntil_blank {W : Part → Bool} (th : Thread) (target : Nat) (s : State) (h0 : W .cue = true) (h1 : W (.com .tsu .pgEvent) = true) (h2 : W (.com .tsu .ic) = true) :
    (waitUntil th target s).blank W = s.blank W := by simp [waitUntil, Com.blank, Tsu.blank, Dxd.blank, h0, h1, h2]

@[simp ↓] theorem stepDone_blank {W : Part → Bool} (r : StepRec) (s : State) (h0 : W .cue = true) (h1 : W .steps = true) (h2 : W (.com .tsu .ports) = true) (h3 : W .huddles = true) (h4 : W (.com .tsu .pgEvent) = true) (h5 : W (.com .tsu .ic) = true) (h6 : W .bays = true) (h7 : W .member = true) (h8 : W .tallies = true) :
    (stepDone r s).blank W = s.blank W := by simp [stepDone, Com.blank, Tsu.blank, Dxd.blank, h0, h1, h2, h3, h4, h5, h6, h7, h8]

end Sys2Proof.Machine
end

