-- ==== Sys2Proof/Laws/FrameCue.lean ====
section
/-!
SUPPORT. What the operations of Machine/Cue.lean can change.
-/

namespace Sys2Proof.Machine

@[simp ↓] theorem nopBody_blank {W : Part → Bool} (th : Thread) (c : Cue) (s : State) (h0 : W .cue = true) :
    (nopBody th c s).blank W = s.blank W := by
  unfold nopBody
  (repeat' split) <;> simp [Com.blank, Tsu.blank, Dxd.blank, h0]

@[simp ↓] theorem haltBody_blank {W : Part → Bool} (th : Thread) (c : Cue) (s : State) (h0 : W (.com .tsu .pgEvent) = true) (h1 : W (.com .tsu .ic) = true) (h2 : W .cue = true) :
    (haltBody th c s).blank W = s.blank W := by
  unfold haltBody
  (repeat' split) <;> simp [Com.blank, Tsu.blank, Dxd.blank, h0, h1, h2]

@[simp ↓] theorem doneBody_blank {W : Part → Bool} (th : Thread) (c : Cue) (s : State) (h0 : W .cue = true) (h1 : W .steps = true) (h2 : W (.com .tsu .ports) = true) (h3 : W .huddles = true) (h4 : W (.com .tsu .pgEvent) = true) (h5 : W (.com .tsu .ic) = true) (h6 : W .bays = true) (h7 : W .member = true) (h8 : W .tallies = true) (h9 : W .signals = true) (h10 : W .keyPort = true) (h11 : W (.com .tsu .tk) = true) :
    (doneBody th c s).blank W = s.blank W := by
  unfold doneBody
  (repeat' split) <;> simp [State.blank, Com.blank, Tsu.blank, Dxd.blank, h0, h1, h2, h3, h4, h5, h6, h7, h8, h9, h10, h11]

@[simp ↓] theorem passOver_blank {W : Part → Bool} (s : State) (h0 : W (.com .tsu .pgEvent) = true) (h1 : W (.com .tsu .ic) = true) (h2 : W .cue = true) :
    (passOver s).blank W = s.blank W := by simp [passOver, Com.blank, Tsu.blank, Dxd.blank, h0, h1, h2]

@[simp ↓] theorem armBody_blank {W : Part → Bool} (th : Thread) (c : Cue) (s : State) (h0 : W .cue = true) (h1 : W (.com .tsu .pgEvent) = true) (h2 : W (.com .tsu .ic) = true) (h3 : W .steps = true) :
    (armBody th c s).blank W = s.blank W := by
  unfold armBody
  dsimp only
  (repeat' split) <;> simp [Com.blank, Tsu.blank, Dxd.blank, h0, h1, h2, h3]

@[simp ↓] theorem kickBody_blank {W : Part → Bool} (th : Thread) (c : Cue) (s : State) (h0 : W .cue = true) (h1 : W (.com .tsu .pgEvent) = true) (h2 : W (.com .tsu .ic) = true) (h3 : W .steps = true) :
    (kickBody th c s).blank W = s.blank W := by
  unfold kickBody
  dsimp only
  (repeat' split) <;> simp [Com.blank, Tsu.blank, Dxd.blank, h0, h1, h2, h3]

@[simp ↓] theorem calloffBody_blank {W : Part → Bool} (th : Thread) (c : Cue) (s : State) (h0 : W .cue = true) :
    (calloffBody th c s).blank W = s.blank W := by
  unfold calloffBody
  (repeat' split) <;> simp [Com.blank, Tsu.blank, Dxd.blank, h0]

@[simp ↓] theorem waitkBody_blank {W : Part → Bool} (th : Thread) (c : Cue) (s : State) (h0 : W .cue = true) (h1 : W (.com .tsu .pgEvent) = true) (h2 : W (.com .tsu .ic) = true) (h3 : W .steps = true) (h4 : W .tallies = true) (h5 : W (.com .tsu .ports) = true) (h6 : W .huddles = true) (h7 : W .signals = true) (h8 : W .member = true) (h9 : W .keyPort = true) (h10 : W (.com .tsu .tk) = true) (h11 : W .bays = true) :
    (waitkBody th c s).blank W = s.blank W := by
  unfold waitkBody
  (repeat' split) <;> simp [Com.blank, Tsu.blank, Dxd.blank, h0, h1, h2, h3, h4, h5, h6, h7, h8, h9, h10, h11]

@[simp ↓] theorem waitnBody_blank {W : Part → Bool} (th : Thread) (c : Cue) (s : State) (h0 : W .cue = true) (h1 : W (.com .tsu .pgEvent) = true) (h2 : W (.com .tsu .ic) = true) (h3 : W .steps = true) (h4 : W .tallies = true) (h5 : W (.com .tsu .ports) = true) (h6 : W .huddles = true) (h7 : W .signals = true) (h8 : W .member = true) (h9 : W .keyPort = true) (h10 : W (.com .tsu .tk) = true) (h11 : W .bays = true) :
    (waitnBody th c s).blank W = s.blank W := by
  unfold waitnBody
  (repeat' split) <;> simp [Com.blank, Tsu.blank, Dxd.blank, h0, h1, h2, h3, h4, h5, h6, h7, h8, h9, h10, h11]

@[simp ↓] theorem waitrBody_blank {W : Part → Bool} (th : Thread) (c : Cue) (s : State) (h0 : W .cue = true) (h1 : W (.com .tsu .pgEvent) = true) (h2 : W (.com .tsu .ic) = true) (h3 : W .steps = true) (h4 : W .tallies = true) (h5 : W (.com .tsu .ports) = true) (h6 : W .huddles = true) (h7 : W .signals = true) (h8 : W .member = true) (h9 : W .keyPort = true) (h10 : W (.com .tsu .tk) = true) (h11 : W .bays = true) :
    (waitrBody th c s).blank W = s.blank W := by
  unfold waitrBody
  (repeat' split) <;> simp [Com.blank, Tsu.blank, Dxd.blank, h0, h1, h2, h3, h4, h5, h6, h7, h8, h9, h10, h11]

@[simp ↓] theorem hentBody_blank {W : Part → Bool} (th : Thread) (c : Cue) (s : State) (h0 : W .cue = true) (h1 : W (.com .tsu .pgEvent) = true) (h2 : W (.com .tsu .ic) = true) (h3 : W .steps = true) (h4 : W .tallies = true) (h5 : W (.com .tsu .ports) = true) (h6 : W .huddles = true) (h7 : W .signals = true) (h8 : W .member = true) (h9 : W .keyPort = true) (h10 : W (.com .tsu .tk) = true) (h11 : W .bays = true) :
    (hentBody th c s).blank W = s.blank W := by
  unfold hentBody
  (repeat' split) <;> simp [Com.blank, Tsu.blank, Dxd.blank, h0, h1, h2, h3, h4, h5, h6, h7, h8, h9, h10, h11]

@[simp ↓] theorem hawaitBody_blank {W : Part → Bool} (th : Thread) (c : Cue) (s : State) (h0 : W .cue = true) (h1 : W (.com .tsu .pgEvent) = true) (h2 : W (.com .tsu .ic) = true) (h3 : W .steps = true) (h4 : W .tallies = true) (h5 : W (.com .tsu .ports) = true) (h6 : W .huddles = true) (h7 : W .signals = true) (h8 : W .member = true) (h9 : W .keyPort = true) (h10 : W (.com .tsu .tk) = true) (h11 : W .bays = true) :
    (hawaitBody th c s).blank W = s.blank W := by
  unfold hawaitBody
  (repeat' split) <;> simp [Com.blank, Tsu.blank, Dxd.blank, h0, h1, h2, h3, h4, h5, h6, h7, h8, h9, h10, h11]

@[simp ↓] theorem postBody_blank {W : Part → Bool} (th : Thread) (c : Cue) (s : State) (h0 : W .signals = true) (h1 : W .cue = true) (h2 : W .steps = true) (h3 : W .tallies = true) (h4 : W (.com .tsu .ports) = true) (h5 : W .huddles = true) (h6 : W (.com .tsu .pgEvent) = true) (h7 : W (.com .tsu .ic) = true) (h8 : W .member = true) (h9 : W .keyPort = true) (h10 : W (.com .tsu .tk) = true) (h11 : W .bays = true) :
    (postBody th c s).blank W = s.blank W := by
  unfold postBody
  (repeat' split) <;> simp [Com.blank, Tsu.blank, Dxd.blank, h0, h1, h2, h3, h4, h5, h6, h7, h8, h9, h10, h11]

@[simp ↓] theorem posttBody_blank {W : Part → Bool} (th : Thread) (c : Cue) (s : State) (h0 : W .signals = true) (h1 : W .cue = true) (h2 : W .steps = true) (h3 : W .tallies = true) (h4 : W (.com .tsu .ports) = true) (h5 : W .huddles = true) (h6 : W (.com .tsu .pgEvent) = true) (h7 : W (.com .tsu .ic) = true) (h8 : W .member = true) (h9 : W .keyPort = true) (h10 : W (.com .tsu .tk) = true) (h11 : W .bays = true) :
    (posttBody th c s).blank W = s.blank W := by
  unfold posttBody
  (repeat' split) <;> simp [Com.blank, Tsu.blank, Dxd.blank, h0, h1, h2, h3, h4, h5, h6, h7, h8, h9, h10, h11]

@[simp ↓] theorem cwaitBody_blank {W : Part → Bool} (th : Thread) (c : Cue) (s : State) (h0 : W .cue = true) (h1 : W (.com .tsu .pgEvent) = true) (h2 : W (.com .tsu .ic) = true) (h3 : W .steps = true) (h4 : W .tallies = true) (h5 : W (.com .tsu .ports) = true) (h6 : W .huddles = true) (h7 : W .signals = true) (h8 : W .member = true) (h9 : W .keyPort = true) (h10 : W (.com .tsu .tk) = true) (h11 : W .bays = true) :
    (cwaitBody th c s).blank W = s.blank W := by
  unfold cwaitBody
  (repeat' split) <;> simp [Com.blank, Tsu.blank, Dxd.blank, h0, h1, h2, h3, h4, h5, h6, h7, h8, h9, h10, h11]

@[simp ↓] theorem cresetBody_blank {W : Part → Bool} (th : Thread) (c : Cue) (s : State) (h0 : W .signals = true) (h1 : W .cue = true) (h2 : W .steps = true) (h3 : W .tallies = true) (h4 : W (.com .tsu .ports) = true) (h5 : W .huddles = true) (h6 : W (.com .tsu .pgEvent) = true) (h7 : W (.com .tsu .ic) = true) (h8 : W .member = true) (h9 : W .keyPort = true) (h10 : W (.com .tsu .tk) = true) (h11 : W .bays = true) :
    (cresetBody th c s).blank W = s.blank W := by
  unfold cresetBody
  (repeat' split) <;> simp [Com.blank, Tsu.blank, Dxd.blank, h0, h1, h2, h3, h4, h5, h6, h7, h8, h9, h10, h11]

@[simp ↓] theorem queueLeave_blank {W : Part → Bool} (th : Thread) (step : Nat) (w : Option Nat) (s : State) (h0 : W .stock = true) (h1 : W .cue = true) :
    (queueLeave th step w s).blank W = s.blank W := by simp [queueLeave, Com.blank, Tsu.blank, Dxd.blank, h0, h1]

@[simp ↓] theorem resvBody_blank {W : Part → Bool} (th : Thread) (c : Cue) (s : State) (h0 : W .cue = true) (h1 : W (.com .tsu .pgEvent) = true) (h2 : W (.com .tsu .ic) = true) (h3 : W .steps = true) (h4 : W .tallies = true) (h5 : W (.com .tsu .ports) = true) (h6 : W .huddles = true) (h7 : W .signals = true) (h8 : W .member = true) (h9 : W .keyPort = true) (h10 : W (.com .tsu .tk) = true) (h11 : W .bays = true) (h12 : W .stock = true) :
    (resvBody th c s).blank W = s.blank W := by
  unfold resvBody
  (repeat' split) <;> simp [Com.blank, Tsu.blank, Dxd.blank, h0, h1, h2, h3, h4, h5, h6, h7, h8, h9, h10, h11, h12]

@[simp ↓] theorem relsBody_blank {W : Part → Bool} (th : Thread) (c : Cue) (s : State) (h0 : W .cue = true) (h1 : W (.com .tsu .pgEvent) = true) (h2 : W (.com .tsu .ic) = true) (h3 : W .steps = true) (h4 : W .tallies = true) (h5 : W (.com .tsu .ports) = true) (h6 : W .huddles = true) (h7 : W .signals = true) (h8 : W .member = true) (h9 : W .keyPort = true) (h10 : W (.com .tsu .tk) = true) (h11 : W .bays = true) (h12 : W .stock = true) :
    (relsBody th c s).blank W = s.blank W := by
  unfold relsBody
  (repeat' split) <;> simp [Com.blank, Tsu.blank, Dxd.blank, h0, h1, h2, h3, h4, h5, h6, h7, h8, h9, h10, h11, h12]

@[simp ↓] theorem baypBody_blank {W : Part → Bool} (th : Thread) (c : Cue) (s : State) (h0 : W .cue = true) (h1 : W (.com .tsu .pgEvent) = true) (h2 : W (.com .tsu .ic) = true) (h3 : W .steps = true) (h4 : W .tallies = true) (h5 : W (.com .tsu .ports) = true) (h6 : W .huddles = true) (h7 : W .signals = true) (h8 : W .member = true) (h9 : W .keyPort = true) (h10 : W (.com .tsu .tk) = true) (h11 : W .bays = true) (h12 : W (.com .tsu .regs) = true) :
    (baypBody th c s).blank W = s.blank W := by
  unfold baypBody
  (repeat' split) <;> simp [Com.blank, Tsu.blank, Dxd.blank, h0, h1, h2, h3, h4, h5, h6, h7, h8, h9, h10, h11, h12]

@[simp ↓] theorem bistBody_blank {W : Part → Bool} (th : Thread) (c : Cue) (s : State) (h0 : W .cue = true) (h1 : W (.com .tsu .pgEvent) = true) (h2 : W (.com .tsu .ic) = true) (h3 : W .steps = true) (h4 : W .tallies = true) (h5 : W (.com .tsu .ports) = true) (h6 : W .huddles = true) (h7 : W .signals = true) (h8 : W .member = true) (h9 : W .keyPort = true) (h10 : W (.com .tsu .tk) = true) (h11 : W .bays = true) (h12 : W (.com .tsu .bt) = true) :
    (bistBody th c s).blank W = s.blank W := by
  unfold bistBody
  dsimp only
  (repeat' split) <;> simp [Com.blank, Tsu.blank, Dxd.blank, h0, h1, h2, h3, h4, h5, h6, h7, h8, h9, h10, h11, h12]

@[simp ↓] theorem probeBody_blank {W : Part → Bool} (th : Thread) (c : Cue) (s : State) (h0 : W .cue = true) (h1 : W (.com .tsu .pgEvent) = true) (h2 : W (.com .tsu .ic) = true) (h3 : W .steps = true) (h4 : W .tallies = true) (h5 : W (.com .tsu .ports) = true) (h6 : W .huddles = true) (h7 : W .signals = true) (h8 : W .member = true) (h9 : W .keyPort = true) (h10 : W (.com .tsu .tk) = true) (h11 : W .bays = true) :
    (probeBody th c s).blank W = s.blank W := by
  unfold probeBody
  (repeat' split) <;> simp [Com.blank, Tsu.blank, Dxd.blank, h0, h1, h2, h3, h4, h5, h6, h7, h8, h9, h10, h11]

@[simp ↓] theorem setNext_blank {W : Part → Bool} (th : Thread) (pd : BitVec 4) (v : Word) (s : State) (h0 : W .cue = true) :
    (setNext th pd v s).blank W = s.blank W := by simp [setNext, Com.blank, Tsu.blank, Dxd.blank, h0]

@[simp ↓] theorem branch_blank {W : Part → Bool} (th : Thread) (c : Bool) (t : BitVec 12) (s : State) (h0 : W .cue = true) :
    (branch th c t s).blank W = s.blank W := by simp [branch, Com.blank, Tsu.blank, Dxd.blank, h0]

@[simp ↓] theorem liBody_blank {W : Part → Bool} (th : Thread) (c : Cue) (s : State) (h0 : W .cue = true) :
    (liBody th c s).blank W = s.blank W := by
  unfold liBody
  (repeat' split) <;> simp [Com.blank, Tsu.blank, Dxd.blank, h0]

@[simp ↓] theorem lisBody_blank {W : Part → Bool} (th : Thread) (c : Cue) (s : State) (h0 : W .cue = true) :
    (lisBody th c s).blank W = s.blank W := by
  unfold lisBody
  (repeat' split) <;> simp [Com.blank, Tsu.blank, Dxd.blank, h0]

@[simp ↓] theorem movBody_blank {W : Part → Bool} (th : Thread) (c : Cue) (s : State) (h0 : W .cue = true) :
    (movBody th c s).blank W = s.blank W := by
  unfold movBody
  (repeat' split) <;> simp [Com.blank, Tsu.blank, Dxd.blank, h0]

@[simp ↓] theorem addBody_blank {W : Part → Bool} (th : Thread) (c : Cue) (s : State) (h0 : W .cue = true) :
    (addBody th c s).blank W = s.blank W := by
  unfold addBody
  (repeat' split) <;> simp [Com.blank, Tsu.blank, Dxd.blank, h0]

@[simp ↓] theorem subBody_blank {W : Part → Bool} (th : Thread) (c : Cue) (s : State) (h0 : W .cue = true) :
    (subBody th c s).blank W = s.blank W := by
  unfold subBody
  (repeat' split) <;> simp [Com.blank, Tsu.blank, Dxd.blank, h0]

@[simp ↓] theorem addiBody_blank {W : Part → Bool} (th : Thread) (c : Cue) (s : State) (h0 : W .cue = true) :
    (addiBody th c s).blank W = s.blank W := by
  unfold addiBody
  (repeat' split) <;> simp [Com.blank, Tsu.blank, Dxd.blank, h0]

@[simp ↓] theorem andBody_blank {W : Part → Bool} (th : Thread) (c : Cue) (s : State) (h0 : W .cue = true) :
    (andBody th c s).blank W = s.blank W := by
  unfold andBody
  (repeat' split) <;> simp [Com.blank, Tsu.blank, Dxd.blank, h0]

@[simp ↓] theorem orBody_blank {W : Part → Bool} (th : Thread) (c : Cue) (s : State) (h0 : W .cue = true) :
    (orBody th c s).blank W = s.blank W := by
  unfold orBody
  (repeat' split) <;> simp [Com.blank, Tsu.blank, Dxd.blank, h0]

@[simp ↓] theorem xorBody_blank {W : Part → Bool} (th : Thread) (c : Cue) (s : State) (h0 : W .cue = true) :
    (xorBody th c s).blank W = s.blank W := by
  unfold xorBody
  (repeat' split) <;> simp [Com.blank, Tsu.blank, Dxd.blank, h0]

@[simp ↓] theorem shlBody_blank {W : Part → Bool} (th : Thread) (c : Cue) (s : State) (h0 : W .cue = true) :
    (shlBody th c s).blank W = s.blank W := by
  unfold shlBody
  (repeat' split) <;> simp [Com.blank, Tsu.blank, Dxd.blank, h0]

@[simp ↓] theorem shrBody_blank {W : Part → Bool} (th : Thread) (c : Cue) (s : State) (h0 : W .cue = true) :
    (shrBody th c s).blank W = s.blank W := by
  unfold shrBody
  (repeat' split) <;> simp [Com.blank, Tsu.blank, Dxd.blank, h0]

@[simp ↓] theorem getBody_blank {W : Part → Bool} (th : Thread) (c : Cue) (s : State) (h0 : W .cue = true) (h1 : W (.com .tsu .pgEvent) = true) (h2 : W (.com .tsu .ic) = true) (h3 : W .steps = true) (h4 : W .tallies = true) (h5 : W (.com .tsu .ports) = true) (h6 : W .huddles = true) (h7 : W .signals = true) (h8 : W .member = true) (h9 : W .keyPort = true) (h10 : W (.com .tsu .tk) = true) (h11 : W .bays = true) :
    (getBody th c s).blank W = s.blank W := by
  unfold getBody
  (repeat' split) <;> simp [Com.blank, Tsu.blank, Dxd.blank, h0, h1, h2, h3, h4, h5, h6, h7, h8, h9, h10, h11]

@[simp ↓] theorem bBody_blank {W : Part → Bool} (th : Thread) (c : Cue) (s : State) (h0 : W .cue = true) :
    (bBody th c s).blank W = s.blank W := by
  unfold bBody
  (repeat' split) <;> simp [Com.blank, Tsu.blank, Dxd.blank, h0]

@[simp ↓] theorem beqBody_blank {W : Part → Bool} (th : Thread) (c : Cue) (s : State) (h0 : W .cue = true) :
    (beqBody th c s).blank W = s.blank W := by
  unfold beqBody
  (repeat' split) <;> simp [Com.blank, Tsu.blank, Dxd.blank, h0]

@[simp ↓] theorem bneBody_blank {W : Part → Bool} (th : Thread) (c : Cue) (s : State) (h0 : W .cue = true) :
    (bneBody th c s).blank W = s.blank W := by
  unfold bneBody
  (repeat' split) <;> simp [Com.blank, Tsu.blank, Dxd.blank, h0]

@[simp ↓] theorem bltBody_blank {W : Part → Bool} (th : Thread) (c : Cue) (s : State) (h0 : W .cue = true) :
    (bltBody th c s).blank W = s.blank W := by
  unfold bltBody
  (repeat' split) <;> simp [Com.blank, Tsu.blank, Dxd.blank, h0]

@[simp ↓] theorem bltuBody_blank {W : Part → Bool} (th : Thread) (c : Cue) (s : State) (h0 : W .cue = true) :
    (bltuBody th c s).blank W = s.blank W := by
  unfold bltuBody
  (repeat' split) <;> simp [Com.blank, Tsu.blank, Dxd.blank, h0]

@[simp ↓] theorem bzBody_blank {W : Part → Bool} (th : Thread) (c : Cue) (s : State) (h0 : W .cue = true) :
    (bzBody th c s).blank W = s.blank W := by
  unfold bzBody
  (repeat' split) <;> simp [Com.blank, Tsu.blank, Dxd.blank, h0]

@[simp ↓] theorem bnzBody_blank {W : Part → Bool} (th : Thread) (c : Cue) (s : State) (h0 : W .cue = true) :
    (bnzBody th c s).blank W = s.blank W := by
  unfold bnzBody
  (repeat' split) <;> simp [Com.blank, Tsu.blank, Dxd.blank, h0]

@[simp ↓] theorem loopBody_blank {W : Part → Bool} (th : Thread) (c : Cue) (s : State) (h0 : W .cue = true) :
    (loopBody th c s).blank W = s.blank W := by
  unfold loopBody
  (repeat' split) <;> simp [Com.blank, Tsu.blank, Dxd.blank, h0]

@[simp ↓] theorem cuStart_blank {W : Part → Bool} (s : State) (h0 : W .cue = true) :
    (cuStart s).blank W = s.blank W := by simp [cuStart, Com.blank, Tsu.blank, Dxd.blank, h0]

@[simp ↓] theorem stopThreads_blank {W : Part → Bool} (s : State) (h0 : W .cue = true) (h1 : W .signals = true) (h2 : W .huddles = true) :
    (stopThreads s).blank W = s.blank W := by simp [stopThreads, Com.blank, Tsu.blank, Dxd.blank, h0, h1, h2]

@[simp ↓] theorem cuStop_blank {W : Part → Bool} (s : State) (h0 : W .cue = true) (h1 : W .signals = true) (h2 : W .huddles = true) (h3 : W (.com .tsu .pgEvent) = true) (h4 : W (.com .tsu .ic) = true) (h5 : W .steps = true) (h6 : W .tallies = true) (h7 : W (.com .tsu .ports) = true) (h8 : W .member = true) (h9 : W .keyPort = true) (h10 : W (.com .tsu .tk) = true) (h11 : W .bays = true) :
    (cuStop s).blank W = s.blank W := by simp [cuStop, Com.blank, Tsu.blank, Dxd.blank, h0, h1, h2, h3, h4, h5, h6, h7, h8, h9, h10, h11]

@[simp ↓] theorem cuCtlWrite_blank {W : Part → Bool} (v : Word) (s : State) (h0 : W (.com .tsu .regs) = true) (h1 : W .cue = true) (h2 : W .signals = true) (h3 : W .huddles = true) (h4 : W (.com .tsu .pgEvent) = true) (h5 : W (.com .tsu .ic) = true) (h6 : W .steps = true) (h7 : W .tallies = true) (h8 : W (.com .tsu .ports) = true) (h9 : W .member = true) (h10 : W .keyPort = true) (h11 : W (.com .tsu .tk) = true) (h12 : W .bays = true) :
    (cuCtlWrite v s).blank W = s.blank W := by simp [cuCtlWrite, Com.blank, Tsu.blank, Dxd.blank, h0, h1, h2, h3, h4, h5, h6, h7, h8, h9, h10, h11, h12]

@[simp ↓] theorem pbAdvance_blank {W : Part → Bool} (s : State) (h0 : W .cue = true) :
    (pbAdvance s).blank W = s.blank W := by simp [pbAdvance, Com.blank, Tsu.blank, Dxd.blank, h0]

@[simp ↓] theorem pbDataStore_blank {W : Part → Bool} (v : Word) (s : State) (h0 : W (.com .tsu .pgEvent) = true) (h1 : W (.com .tsu .ic) = true) (h2 : W .cue = true) :
    (pbDataStore v s).blank W = s.blank W := by simp [pbDataStore, Com.blank, Tsu.blank, Dxd.blank, h0, h1, h2]

@[simp ↓] theorem pbCheckDone_blank {W : Part → Bool} (s : State) (h0 : W (.com .tsu .pgEvent) = true) (h1 : W (.com .tsu .ic) = true) (h2 : W .cue = true) :
    (pbCheckDone s).blank W = s.blank W := by simp [pbCheckDone, Com.blank, Tsu.blank, Dxd.blank, h0, h1, h2]

@[simp ↓] theorem clearPbEcc_blank {W : Part → Bool} (s : State) (h0 : W .cue = true) :
    (clearPbEcc s).blank W = s.blank W := by simp [clearPbEcc, Com.blank, Tsu.blank, Dxd.blank, h0]

@[simp ↓] theorem clearCuLate_blank {W : Part → Bool} (s : State) (h0 : W .cue = true) :
    (clearCuLate s).blank W = s.blank W := by simp [clearCuLate, Com.blank, Tsu.blank, Dxd.blank, h0]

@[simp ↓] theorem stepTarget_blank {W : Part → Bool} (th : Thread) (s : State) (h0 : W .cue = true) (h1 : W (.com .tsu .pgEvent) = true) (h2 : W (.com .tsu .ic) = true) (h3 : W .steps = true) (h4 : W .tallies = true) (h5 : W (.com .tsu .ports) = true) (h6 : W .huddles = true) (h7 : W .signals = true) (h8 : W .member = true) (h9 : W .keyPort = true) (h10 : W (.com .tsu .tk) = true) (h11 : W .bays = true) :
    (stepTarget th s).blank W = s.blank W := by
  unfold stepTarget
  (repeat' split) <;> simp [Com.blank, Tsu.blank, Dxd.blank, h0, h1, h2, h3, h4, h5, h6, h7, h8, h9, h10, h11]

@[simp ↓] theorem originStep_tsu_blank {W : Part → Bool} (s : State) (h0 : W (.com .tsu .msets) = true) (h1 : W (.com .tsu .hfits) = true) (h2 : W (.com .tsu .pgEvent) = true) (h3 : W (.com .tsu .ic) = true) (h4 : W (.com .tsu .tk) = true) (h5 : W .cue = true) (h6 : W .steps = true) (h7 : W .tallies = true) (h8 : W (.com .tsu .ports) = true) (h9 : W .huddles = true) (h10 : W .signals = true) (h11 : W .member = true) (h12 : W .keyPort = true) (h13 : W .bays = true) :
    (originStep .tsu s).blank W = s.blank W := by
  unfold originStep
  dsimp only
  split <;> (try split) <;> simp (maxDischargeDepth := 12) [moveSets, Com.blank, Tsu.blank, Dxd.blank, h0, h1, h2, h3, h4, h5, h6, h7, h8, h9, h10, h11, h12, h13]

@[simp ↓] theorem originStep_dxd_blank {W : Part → Bool} (s : State) (h0 : W (.com .dxd .msets) = true) (h1 : W (.com .dxd .hfits) = true) (h2 : W (.com .dxd .pgEvent) = true) (h3 : W (.com .dxd .ic) = true) (h4 : W (.com .dxd .tk) = true) (h5 : W .refs = true) (h6 : W .outs = true) :
    (originStep .dxd s).blank W = s.blank W := by
  unfold originStep
  dsimp only
  split <;> (try split) <;> simp (maxDischargeDepth := 12) [moveSets, Com.blank, Tsu.blank, Dxd.blank, h0, h1, h2, h3, h4, h5, h6]

end Sys2Proof.Machine
end

