-- ==== Sys2Proof/Laws/FrameCensusBase.lean ====
section
/-!
SUPPORT. What the operations of Machine/CensusBase.lean can change.
-/

namespace Sys2Proof.Machine

@[simp ↓] theorem startProbe_blank {W : Part → Bool} (ep : Nat) (p : Nat) (s : State) (h0 : W (.com .dxd .ports) = true) :
    (startProbe ep p s).blank W = s.blank W := by simp [startProbe, Com.blank, Tsu.blank, Dxd.blank, h0]

@[simp ↓] theorem probeMissing_blank {W : Part → Bool} (ep : Nat) (f : CallOffF) (s : State) (h0 : W (.com .dxd .ports) = true) :
    (probeMissing ep f s).blank W = s.blank W := by
  unfold probeMissing
  (repeat' split) <;> simp [Com.blank, Tsu.blank, Dxd.blank, h0]

end Sys2Proof.Machine
end

