-- ==== Sys2Proof/Laws/FrameSteps.lean ====
section
/-!
SUPPORT. What the operations of Machine/Steps.lean can change.
-/

namespace Sys2Proof.Machine

@[simp ↓] theorem newArming_blank {W : Part → Bool} (ep : Nat) (f : ArmF) (s : State) (h0 : W .member = true) (h1 : W (.com .tsu .ic) = true) (h2 : W .steps = true) (h3 : W .cue = true) (h4 : W (.com .tsu .pgEvent) = true) (h5 : W (.com .tsu .ports) = true) (h6 : W .huddles = true) :
    (newArming ep f s).blank W = s.blank W := by
  unfold newArming
  dsimp only
  (repeat' split) <;> first
    | (simp (maxDischargeDepth := 12) [Com.blank, Tsu.blank, Dxd.blank, h0, h1, h2, h3, h4, h5, h6]; done)
    | (exfalso; simp_all; done)
    | (refine (foldl_blank _ _ _ ?_).trans ?_
       · intro s a
         (repeat' split) <;> simp (maxDischargeDepth := 12) [Com.blank, Tsu.blank, Dxd.blank, h0, h1, h2, h3, h4, h5, h6]
       · simp (maxDischargeDepth := 12) [Com.blank, Tsu.blank, Dxd.blank, h0, h1, h2, h3, h4, h5, h6])

@[simp ↓] theorem reTime_blank {W : Part → Bool} (f : ArmF) (r : StepRec) (s : State) (h0 : W (.com .tsu .pgEvent) = true) (h1 : W (.com .tsu .ic) = true) (h2 : W .bays = true) (h3 : W .cue = true) (h4 : W .steps = true) :
    (reTime f r s).blank W = s.blank W := by simp [reTime, Com.blank, Tsu.blank, Dxd.blank, h0, h1, h2, h3, h4]

@[simp ↓] theorem armAtTsu_blank {W : Part → Bool} (ep : Nat) (f : ArmF) (s : State) (h0 : W .member = true) (h1 : W (.com .tsu .ic) = true) (h2 : W .steps = true) (h3 : W .cue = true) (h4 : W (.com .tsu .pgEvent) = true) (h5 : W (.com .tsu .ports) = true) (h6 : W .huddles = true) (h7 : W .bays = true) :
    (armAtTsu ep f s).blank W = s.blank W := by
  unfold armAtTsu
  (repeat' split) <;> simp [Com.blank, Tsu.blank, Dxd.blank, h0, h1, h2, h3, h4, h5, h6, h7]

@[simp ↓] theorem armTake_dxd_blank {W : Part → Bool} (p : Nat) (ep : Nat) (f : ArmF) (a : State) (h0 : W (.com .dxd .oseq) = true) (h1 : W .kicks = true) (h2 : W (.com .dxd .ports) = true) :
    (armTake .dxd p ep f a).blank W = a.blank W := by simp [armTake, Com.blank, Tsu.blank, Dxd.blank, h0, h1, h2]

@[simp ↓] theorem armTake_tsu_blank {W : Part → Bool} (p : Nat) (ep : Nat) (f : ArmF) (a : State) (h0 : W (.com .tsu .oseq) = true) (h1 : W .member = true) (h2 : W (.com .tsu .ic) = true) (h3 : W .steps = true) (h4 : W .cue = true) (h5 : W (.com .tsu .pgEvent) = true) (h6 : W (.com .tsu .ports) = true) (h7 : W .huddles = true) (h8 : W .bays = true) :
    (armTake .tsu p ep f a).blank W = a.blank W := by simp [armTake, Com.blank, Tsu.blank, Dxd.blank, h0, h1, h2, h3, h4, h5, h6, h7, h8]

@[simp ↓] theorem armReceive_dxd_blank {W : Part → Bool} (p : Nat) (h : LinkHdr) (ep : Nat) (f : ArmF) (s : State) (h0 : W (.com .dxd .ports) = true) (h1 : W (.com .dxd .oseq) = true) (h2 : W .kicks = true) :
    (armReceive .dxd p h ep f s).blank W = s.blank W := by simp [armReceive, Com.blank, Tsu.blank, Dxd.blank, h0, h1, h2]

@[simp ↓] theorem armReceive_tsu_blank {W : Part → Bool} (p : Nat) (h : LinkHdr) (ep : Nat) (f : ArmF) (s : State) (h0 : W (.com .tsu .ports) = true) (h1 : W (.com .tsu .oseq) = true) (h2 : W .member = true) (h3 : W (.com .tsu .ic) = true) (h4 : W .steps = true) (h5 : W .cue = true) (h6 : W (.com .tsu .pgEvent) = true) (h7 : W .huddles = true) (h8 : W .bays = true) :
    (armReceive .tsu p h ep f s).blank W = s.blank W := by simp [armReceive, Com.blank, Tsu.blank, Dxd.blank, h0, h1, h2, h3, h4, h5, h6, h7, h8]

@[simp ↓] theorem modNamed_blank {W : Part → Bool} (f : CensusDnF) (p : StepRec → Bool) (g : StepRec → StepRec) (s : State) (h0 : W .steps = true) :
    (modNamed f p g s).blank W = s.blank W := by simp [modNamed, Com.blank, Tsu.blank, Dxd.blank, h0]

@[simp ↓] theorem dropOwnEntry_blank {W : Part → Bool} (f : CensusDnF) (s : State) (h0 : W .huddles = true) :
    (dropOwnEntry f s).blank W = s.blank W := by simp [dropOwnEntry, Com.blank, Tsu.blank, Dxd.blank, h0]

@[simp ↓] theorem huddleEndsNow_blank {W : Part → Bool} (f : CensusDnF) (s : State) (h0 : W .huddles = true) (h1 : W (.com .tsu .pgEvent) = true) (h2 : W (.com .tsu .ic) = true) (h3 : W .cue = true) (h4 : W (.com .tsu .ports) = true) (h5 : W .steps = true) (h6 : W .tallies = true) (h7 : W .signals = true) (h8 : W .member = true) (h9 : W .keyPort = true) (h10 : W (.com .tsu .tk) = true) (h11 : W .bays = true) :
    (huddleEndsNow f s).blank W = s.blank W := by
  unfold huddleEndsNow
  dsimp only
  (repeat' split) <;> simp [Com.blank, Tsu.blank, Dxd.blank, h0, h1, h2, h3, h4, h5, h6, h7, h8, h9, h10, h11]

@[simp ↓] theorem huddleEnds_blank {W : Part → Bool} (f : CensusDnF) (s : State) (h0 : W .huddles = true) (h1 : W (.com .tsu .pgEvent) = true) (h2 : W (.com .tsu .ic) = true) (h3 : W .cue = true) (h4 : W (.com .tsu .ports) = true) (h5 : W .steps = true) (h6 : W .tallies = true) (h7 : W .signals = true) (h8 : W .member = true) (h9 : W .keyPort = true) (h10 : W (.com .tsu .tk) = true) (h11 : W .bays = true) :
    (huddleEnds f s).blank W = s.blank W := by simp [huddleEnds, Com.blank, Tsu.blank, Dxd.blank, h0, h1, h2, h3, h4, h5, h6, h7, h8, h9, h10, h11]

@[simp ↓] theorem releaseHuddles_blank {W : Part → Bool} (s : State) (h0 : W .huddles = true) (h1 : W (.com .tsu .pgEvent) = true) (h2 : W (.com .tsu .ic) = true) (h3 : W .cue = true) (h4 : W (.com .tsu .ports) = true) (h5 : W .steps = true) (h6 : W .tallies = true) (h7 : W .signals = true) (h8 : W .member = true) (h9 : W .keyPort = true) (h10 : W (.com .tsu .tk) = true) (h11 : W .bays = true) :
    (releaseHuddles s).blank W = s.blank W := by simp [releaseHuddles, Com.blank, Tsu.blank, Dxd.blank, h0, h1, h2, h3, h4, h5, h6, h7, h8, h9, h10, h11]

@[simp ↓] theorem censusDnAtTsu_blank {W : Part → Bool} (f : CensusDnF) (s : State) (h0 : W .huddles = true) (h1 : W (.com .tsu .pgEvent) = true) (h2 : W (.com .tsu .ic) = true) (h3 : W .cue = true) (h4 : W (.com .tsu .ports) = true) (h5 : W .steps = true) (h6 : W .tallies = true) (h7 : W .signals = true) (h8 : W .member = true) (h9 : W .keyPort = true) (h10 : W (.com .tsu .tk) = true) (h11 : W .bays = true) :
    (censusDnAtTsu f s).blank W = s.blank W := by simp [censusDnAtTsu, Com.blank, Tsu.blank, Dxd.blank, h0, h1, h2, h3, h4, h5, h6, h7, h8, h9, h10, h11]

@[simp ↓] theorem copyCommit_blank {W : Part → Bool} (ep : Nat) (f : CensusDnF) (s : State) (h0 : W .ledger = true) :
    (copyCommit ep f s).blank W = s.blank W := by simp [copyCommit, Com.blank, Tsu.blank, Dxd.blank, h0]

@[simp ↓] theorem noteRelease_blank {W : Part → Bool} (ep : Nat) (f : CensusDnF) (s : State) (h0 : W .referee = true) :
    (noteRelease ep f s).blank W = s.blank W := by simp [noteRelease, Com.blank, Tsu.blank, Dxd.blank, h0]

@[simp ↓] theorem censusDnAtDxd_blank {W : Part → Bool} (p : Nat) (ep : Nat) (f : CensusDnF) (s : State) (h0 : W .referee = true) (h1 : W .ledger = true) (h2 : W .kicks = true) (h3 : W .census = true) (h4 : W (.com .dxd .ports) = true) :
    (censusDnAtDxd p ep f s).blank W = s.blank W := by simp [censusDnAtDxd, Com.blank, Tsu.blank, Dxd.blank, h0, h1, h2, h3, h4]

@[simp ↓] theorem censusDnTake_dxd_blank {W : Part → Bool} (p : Nat) (ep : Nat) (f : CensusDnF) (a : State) (h0 : W (.com .dxd .seen) = true) (h1 : W .referee = true) (h2 : W .ledger = true) (h3 : W .kicks = true) (h4 : W .census = true) (h5 : W (.com .dxd .ports) = true) :
    (censusDnTake .dxd p ep f a).blank W = a.blank W := by simp [censusDnTake, Com.blank, Tsu.blank, Dxd.blank, h0, h1, h2, h3, h4, h5]

@[simp ↓] theorem censusDnTake_tsu_blank {W : Part → Bool} (p : Nat) (ep : Nat) (f : CensusDnF) (a : State) (h0 : W (.com .tsu .seen) = true) (h1 : W .huddles = true) (h2 : W (.com .tsu .pgEvent) = true) (h3 : W (.com .tsu .ic) = true) (h4 : W .cue = true) (h5 : W (.com .tsu .ports) = true) (h6 : W .steps = true) (h7 : W .tallies = true) (h8 : W .signals = true) (h9 : W .member = true) (h10 : W .keyPort = true) (h11 : W (.com .tsu .tk) = true) (h12 : W .bays = true) :
    (censusDnTake .tsu p ep f a).blank W = a.blank W := by simp [censusDnTake, Com.blank, Tsu.blank, Dxd.blank, h0, h1, h2, h3, h4, h5, h6, h7, h8, h9, h10, h11, h12]

@[simp ↓] theorem censusDnReceive_tsu_blank {W : Part → Bool} (p : Nat) (h : LinkHdr) (ep : Nat) (f : CensusDnF) (s : State) (h0 : W (.com .tsu .ports) = true) (h1 : W (.com .tsu .seen) = true) (h2 : W .huddles = true) (h3 : W (.com .tsu .pgEvent) = true) (h4 : W (.com .tsu .ic) = true) (h5 : W .cue = true) (h6 : W .steps = true) (h7 : W .tallies = true) (h8 : W .signals = true) (h9 : W .member = true) (h10 : W .keyPort = true) (h11 : W (.com .tsu .tk) = true) (h12 : W .bays = true) :
    (censusDnReceive .tsu p h ep f s).blank W = s.blank W := by simp [censusDnReceive, Com.blank, Tsu.blank, Dxd.blank, h0, h1, h2, h3, h4, h5, h6, h7, h8, h9, h10, h11, h12]

@[simp ↓] theorem censusDnReceive_dxd_blank {W : Part → Bool} (p : Nat) (h : LinkHdr) (ep : Nat) (f : CensusDnF) (s : State) (h0 : W (.com .dxd .ports) = true) (h1 : W (.com .dxd .seen) = true) (h2 : W .referee = true) (h3 : W .ledger = true) (h4 : W .kicks = true) (h5 : W .census = true) :
    (censusDnReceive .dxd p h ep f s).blank W = s.blank W := by simp [censusDnReceive, Com.blank, Tsu.blank, Dxd.blank, h0, h1, h2, h3, h4, h5]

@[simp ↓] theorem kickoffDecision_blank {W : Part → Bool} (s : State) (h0 : W .steps = true) (h1 : W (.com .tsu .ic) = true) :
    (kickoffDecision s).blank W = s.blank W := by
  unfold kickoffDecision
  dsimp only
  (repeat' split) <;> simp [Com.blank, Tsu.blank, Dxd.blank, h0, h1]

@[simp ↓] theorem lateAtTsu_blank {W : Part → Bool} (r : StepRec) (s : State) (h0 : W .member = true) (h1 : W (.com .tsu .ic) = true) :
    (lateAtTsu r s).blank W = s.blank W := by simp [lateAtTsu, Com.blank, Tsu.blank, Dxd.blank, h0, h1]

@[simp ↓] theorem fireStrobe_blank {W : Part → Bool} (k : Nat) (rets : List BayReading) (s : State) (h0 : W .kickPins = true) (h1 : W .bays = true) :
    (fireStrobe k rets s).blank W = s.blank W := by simp [fireStrobe, Com.blank, Tsu.blank, Dxd.blank, h0, h1]

@[simp ↓] theorem kickFalls_blank {W : Part → Bool} (s : State) (h0 : W .kickPins = true) :
    (kickFalls s).blank W = s.blank W := by simp [kickFalls, Com.blank, Tsu.blank, Dxd.blank, h0]

@[simp ↓] theorem makeCurrent_blank {W : Part → Bool} (r : StepRec) (s : State) (h0 : W .steps = true) (h1 : W .member = true) (h2 : W .huddles = true) (h3 : W .keyPort = true) :
    (makeCurrent r s).blank W = s.blank W := by simp [makeCurrent, Com.blank, Tsu.blank, Dxd.blank, h0, h1, h2, h3]

@[simp ↓] theorem fireKick_blank {W : Part → Bool} (r : StepRec) (rets : List BayReading) (s : State) (h0 : W .member = true) (h1 : W .bays = true) (h2 : W (.com .tsu .pgEvent) = true) (h3 : W (.com .tsu .ic) = true) (h4 : W .steps = true) (h5 : W .huddles = true) (h6 : W .keyPort = true) (h7 : W .tallies = true) (h8 : W .kickPins = true) (h9 : W .signals = true) (h10 : W .cue = true) (h11 : W (.com .tsu .ports) = true) (h12 : W (.com .tsu .tk) = true) :
    (fireKick r rets s).blank W = s.blank W := by
  unfold fireKick
  (repeat' split) <;> simp [State.blank, Com.blank, Tsu.blank, Dxd.blank, h0, h1, h2, h3, h4, h5, h6, h7, h8, h9, h10, h11, h12]

@[simp ↓] theorem failKick_blank {W : Part → Bool} (r : StepRec) (s : State) (h0 : W (.com .tsu .ic) = true) (h1 : W .cue = true) (h2 : W (.com .tsu .pgEvent) = true) (h3 : W .signals = true) (h4 : W .huddles = true) (h5 : W .steps = true) (h6 : W .tallies = true) (h7 : W (.com .tsu .ports) = true) (h8 : W .member = true) (h9 : W .keyPort = true) (h10 : W (.com .tsu .tk) = true) (h11 : W .bays = true) :
    (failKick r s).blank W = s.blank W := by simp [failKick, Com.blank, Tsu.blank, Dxd.blank, h0, h1, h2, h3, h4, h5, h6, h7, h8, h9, h10, h11]

@[simp ↓] theorem kickoffTsu_blank {W : Part → Bool} (rets : List BayReading) (s : State) (h0 : W .member = true) (h1 : W .bays = true) (h2 : W (.com .tsu .pgEvent) = true) (h3 : W (.com .tsu .ic) = true) (h4 : W .steps = true) (h5 : W .huddles = true) (h6 : W .keyPort = true) (h7 : W .tallies = true) (h8 : W .kickPins = true) (h9 : W .signals = true) (h10 : W .cue = true) (h11 : W (.com .tsu .ports) = true) (h12 : W (.com .tsu .tk) = true) :
    (kickoffTsu rets s).blank W = s.blank W := by
  unfold kickoffTsu
  (repeat' split) <;> simp [Com.blank, Tsu.blank, Dxd.blank, h0, h1, h2, h3, h4, h5, h6, h7, h8, h9, h10, h11, h12]

@[simp ↓] theorem rootKick_blank {W : Part → Bool} (j : Nat) (r : RStep) (s : State) (h0 : W .referee = true) :
    (rootKick j r s).blank W = s.blank W := by
  unfold rootKick
  (repeat' split) <;> simp [Com.blank, Tsu.blank, Dxd.blank, h0]

@[simp ↓] theorem kickoffDxd_blank {W : Part → Bool} (j : Nat) (s : State) (h0 : W .referee = true) :
    (kickoffDxd j s).blank W = s.blank W := by
  unfold kickoffDxd
  (repeat' split) <;> simp [Com.blank, Tsu.blank, Dxd.blank, h0]

@[simp ↓] theorem callOffAtTsu_blank {W : Part → Bool} (f : CallOffF) (s : State) (h0 : W .member = true) (h1 : W .bays = true) (h2 : W (.com .tsu .pgEvent) = true) (h3 : W (.com .tsu .ic) = true) (h4 : W .steps = true) (h5 : W .huddles = true) (h6 : W .keyPort = true) (h7 : W .tallies = true) (h8 : W .kickPins = true) (h9 : W .signals = true) (h10 : W .cue = true) (h11 : W (.com .tsu .ports) = true) (h12 : W (.com .tsu .tk) = true) :
    (callOffAtTsu f s).blank W = s.blank W := by
  unfold callOffAtTsu
  (repeat' split) <;> simp [Com.blank, Tsu.blank, Dxd.blank, h0, h1, h2, h3, h4, h5, h6, h7, h8, h9, h10, h11, h12]

@[simp ↓] theorem shadowCallOff_blank {W : Part → Bool} (ep : Nat) (f : CallOffF) (s : State) (h0 : W .referee = true) :
    (shadowCallOff ep f s).blank W = s.blank W := by simp [shadowCallOff, Com.blank, Tsu.blank, Dxd.blank, h0]

@[simp ↓] theorem callOffAtDxd_blank {W : Part → Bool} (p : Nat) (ep : Nat) (f : CallOffF) (s : State) (h0 : W .kicks = true) (h1 : W (.com .dxd .ports) = true) (h2 : W .referee = true) (h3 : W .scores = true) (h4 : W .census = true) :
    (callOffAtDxd p ep f s).blank W = s.blank W := by simp [callOffAtDxd, Com.blank, Tsu.blank, Dxd.blank, h0, h1, h2, h3, h4]

@[simp ↓] theorem callOffTake_tsu_blank {W : Part → Bool} (p : Nat) (ep : Nat) (f : CallOffF) (a : State) (h0 : W (.com .tsu .oseq) = true) (h1 : W .member = true) (h2 : W .bays = true) (h3 : W (.com .tsu .pgEvent) = true) (h4 : W (.com .tsu .ic) = true) (h5 : W .steps = true) (h6 : W .huddles = true) (h7 : W .keyPort = true) (h8 : W .tallies = true) (h9 : W .kickPins = true) (h10 : W .signals = true) (h11 : W .cue = true) (h12 : W (.com .tsu .ports) = true) (h13 : W (.com .tsu .tk) = true) :
    (callOffTake .tsu p ep f a).blank W = a.blank W := by simp [callOffTake, Com.blank, Tsu.blank, Dxd.blank, h0, h1, h2, h3, h4, h5, h6, h7, h8, h9, h10, h11, h12, h13]

@[simp ↓] theorem callOffTake_dxd_blank {W : Part → Bool} (p : Nat) (ep : Nat) (f : CallOffF) (a : State) (h0 : W (.com .dxd .oseq) = true) (h1 : W .kicks = true) (h2 : W (.com .dxd .ports) = true) (h3 : W .referee = true) (h4 : W .scores = true) (h5 : W .census = true) :
    (callOffTake .dxd p ep f a).blank W = a.blank W := by simp [callOffTake, Com.blank, Tsu.blank, Dxd.blank, h0, h1, h2, h3, h4, h5]

@[simp ↓] theorem callOffReceive_tsu_blank {W : Part → Bool} (p : Nat) (h : LinkHdr) (ep : Nat) (f : CallOffF) (s : State) (h0 : W (.com .tsu .ports) = true) (h1 : W (.com .tsu .oseq) = true) (h2 : W .member = true) (h3 : W .bays = true) (h4 : W (.com .tsu .pgEvent) = true) (h5 : W (.com .tsu .ic) = true) (h6 : W .steps = true) (h7 : W .huddles = true) (h8 : W .keyPort = true) (h9 : W .tallies = true) (h10 : W .kickPins = true) (h11 : W .signals = true) (h12 : W .cue = true) (h13 : W (.com .tsu .tk) = true) :
    (callOffReceive .tsu p h ep f s).blank W = s.blank W := by simp [callOffReceive, Com.blank, Tsu.blank, Dxd.blank, h0, h1, h2, h3, h4, h5, h6, h7, h8, h9, h10, h11, h12, h13]

@[simp ↓] theorem callOffReceive_dxd_blank {W : Part → Bool} (p : Nat) (h : LinkHdr) (ep : Nat) (f : CallOffF) (s : State) (h0 : W (.com .dxd .ports) = true) (h1 : W (.com .dxd .oseq) = true) (h2 : W .kicks = true) (h3 : W .referee = true) (h4 : W .scores = true) (h5 : W .census = true) :
    (callOffReceive .dxd p h ep f s).blank W = s.blank W := by simp [callOffReceive, Com.blank, Tsu.blank, Dxd.blank, h0, h1, h2, h3, h4, h5]

end Sys2Proof.Machine
end

