-- ==== Sys2Proof/Laws/FrameRootSteps.lean ====
section
/-!
SUPPORT. What the operations of Machine/RootSteps.lean can change.
-/

namespace Sys2Proof.Machine

@[simp ↓] theorem queueArm_blank {W : Part → Bool} (ep : Nat) (r : RStep) (s : State) (h0 : W (.com .dxd .pgEvent) = true) (h1 : W (.com .dxd .ic) = true) (h2 : W .referee = true) (h3 : W .ledger = true) (h4 : W (.com .dxd .ports) = true) (h5 : W .kicks = true) :
    (queueArm ep r s).blank W = s.blank W := by
  unfold queueArm
  (repeat' split) <;> simp [State.blank, Com.blank, Tsu.blank, Dxd.blank, h0, h1, h2, h3, h4, h5]

@[simp ↓] theorem stopJob_blank {W : Part → Bool} (j : Nat) (reason : Nat) (result : Nat) (s : State) (h0 : W .referee = true) (h1 : W (.com .dxd .pgEvent) = true) (h2 : W (.com .dxd .ic) = true) (h3 : W .ledger = true) (h4 : W .kicks = true) (h5 : W .scores = true) (h6 : W .census = true) (h7 : W (.com .dxd .ports) = true) :
    (stopJob j reason result s).blank W = s.blank W := by
  unfold stopJob
  (repeat' split) <;> simp [State.blank, Com.blank, Tsu.blank, Dxd.blank, h0, h1, h2, h3, h4, h5, h6, h7]

@[simp ↓] theorem armSend_blank {W : Part → Bool} (j : Nat) (s : State) (h0 : W .referee = true) (h1 : W (.com .dxd .pgEvent) = true) (h2 : W (.com .dxd .ic) = true) (h3 : W .ledger = true) (h4 : W .kicks = true) (h5 : W .scores = true) (h6 : W .census = true) (h7 : W (.com .dxd .ports) = true) :
    (armSend j s).blank W = s.blank W := by
  unfold armSend
  (repeat' split) <;> simp [State.blank, Com.blank, Tsu.blank, Dxd.blank, h0, h1, h2, h3, h4, h5, h6, h7]

@[simp ↓] theorem slipStep_blank {W : Part → Bool} (j : Nat) (b : Job) (m : Nat) (s : State) (h0 : W (.com .dxd .pgEvent) = true) (h1 : W (.com .dxd .ic) = true) (h2 : W .referee = true) (h3 : W .ledger = true) (h4 : W (.com .dxd .ports) = true) (h5 : W .kicks = true) :
    (slipStep j b m s).blank W = s.blank W := by
  unfold slipStep
  (repeat' split) <;> simp [State.blank, Com.blank, Tsu.blank, Dxd.blank, h0, h1, h2, h3, h4, h5]

@[simp ↓] theorem deadlineCheck_blank {W : Part → Bool} (j : Nat) (step : Nat) (s : State) (h0 : W .referee = true) (h1 : W (.com .dxd .pgEvent) = true) (h2 : W (.com .dxd .ic) = true) (h3 : W .ledger = true) (h4 : W .kicks = true) (h5 : W .scores = true) (h6 : W .census = true) (h7 : W (.com .dxd .ports) = true) (h8 : W (.com .dxd .regs) = true) :
    (deadlineCheck j step s).blank W = s.blank W := by
  unfold deadlineCheck
  dsimp only
  (repeat' split) <;> simp [Com.blank, Tsu.blank, Dxd.blank, h0, h1, h2, h3, h4, h5, h6, h7, h8]

@[simp ↓] theorem sendProbe_blank {W : Part → Bool} (ep : Nat) (die : Nat) (s : State) (h0 : W (.com .dxd .pgEvent) = true) (h1 : W (.com .dxd .ic) = true) (h2 : W .referee = true) (h3 : W .ledger = true) (h4 : W (.com .dxd .ports) = true) :
    (sendProbe ep die s).blank W = s.blank W := by simp [sendProbe, Com.blank, Tsu.blank, Dxd.blank, h0, h1, h2, h3, h4]

@[simp ↓] theorem stepTimeout_blank {W : Part → Bool} (j : Nat) (step : Nat) (s : State) (h0 : W (.com .dxd .pgEvent) = true) (h1 : W (.com .dxd .ic) = true) (h2 : W .referee = true) (h3 : W .ledger = true) (h4 : W (.com .dxd .ports) = true) (h5 : W .scores = true) (h6 : W (.com .dxd .regs) = true) (h7 : W .census = true) (h8 : W .kicks = true) :
    (stepTimeout j step s).blank W = s.blank W := by
  unfold stepTimeout
  (repeat' split) <;> simp [Com.blank, Tsu.blank, Dxd.blank, h0, h1, h2, h3, h4, h5, h6, h7, h8]

@[simp ↓] theorem recoveryWaitEnd_blank {W : Part → Bool} (j : Nat) (s : State) (h0 : W .referee = true) (h1 : W (.com .dxd .pgEvent) = true) (h2 : W (.com .dxd .ic) = true) (h3 : W .ledger = true) (h4 : W (.com .dxd .ports) = true) (h5 : W .scores = true) (h6 : W (.com .dxd .regs) = true) (h7 : W .census = true) (h8 : W .kicks = true) :
    (recoveryWaitEnd j s).blank W = s.blank W := by
  unfold recoveryWaitEnd
  (repeat' split) <;> simp [State.blank, Com.blank, Tsu.blank, Dxd.blank, h0, h1, h2, h3, h4, h5, h6, h7, h8]

@[simp ↓] theorem deferredBench_blank {W : Part → Bool} (j : Nat) (s : State) (h0 : W .referee = true) (h1 : W (.com .dxd .pgEvent) = true) (h2 : W (.com .dxd .ic) = true) (h3 : W .ledger = true) (h4 : W (.com .dxd .ports) = true) (h5 : W .scores = true) (h6 : W (.com .dxd .regs) = true) (h7 : W .census = true) (h8 : W .kicks = true) :
    (deferredBench j s).blank W = s.blank W := by
  unfold deferredBench
  (repeat' split) <;> simp [State.blank, Com.blank, Tsu.blank, Dxd.blank, h0, h1, h2, h3, h4, h5, h6, h7, h8]

@[simp ↓] theorem replayArm_blank {W : Part → Bool} (j : Nat) (s : State) (h0 : W (.com .dxd .pgEvent) = true) (h1 : W (.com .dxd .ic) = true) (h2 : W .referee = true) (h3 : W .ledger = true) (h4 : W .kicks = true) (h5 : W .scores = true) (h6 : W .census = true) (h7 : W (.com .dxd .ports) = true) :
    (replayArm j s).blank W = s.blank W := by
  unfold replayArm
  (repeat' split) <;> simp [State.blank, Com.blank, Tsu.blank, Dxd.blank, h0, h1, h2, h3, h4, h5, h6, h7]

end Sys2Proof.Machine
end

