-- ==== Sys2Proof/Laws/FrameCensus.lean ====
section
/-!
SUPPORT. What the operations of Machine/Census.lean can change.
-/

namespace Sys2Proof.Machine

@[simp ↓] theorem modCensus_blank {W : Part → Bool} (i : CensusId) (f : Census → Census) (s : State) (h0 : W .census = true) :
    (modCensus i f s).blank W = s.blank W := by simp [modCensus, Com.blank, Tsu.blank, Dxd.blank, h0]

@[simp ↓] theorem openCensus_blank {W : Part → Bool} (i : CensusId) (s : State) (h0 : W .census = true) :
    (openCensus i s).blank W = s.blank W := by simp [openCensus, Com.blank, Tsu.blank, Dxd.blank, h0]

@[simp ↓] theorem putEntry_blank {W : Part → Bool} (i : CensusId) (e : Entry) (s : State) (h0 : W .census = true) :
    (putEntry i e s).blank W = s.blank W := by simp [putEntry, Com.blank, Tsu.blank, Dxd.blank, h0]

@[simp ↓] theorem judgeMisfit_blank {W : Part → Bool} (i : CensusId) (p : Nat) (count : Nat) (die : Nat) (s : State) (h0 : W (.com .dxd .pgEvent) = true) (h1 : W (.com .dxd .ic) = true) (h2 : W .census = true) :
    (judgeMisfit i p count die s).blank W = s.blank W := by simp [judgeMisfit, Com.blank, Tsu.blank, Dxd.blank, h0, h1, h2]

@[simp ↓] theorem reportUp_blank {W : Part → Bool} (i : CensusId) (count : Nat) (die : Nat) (s : State) (h0 : W (.com .dxd .ports) = true) :
    (reportUp i count die s).blank W = s.blank W := by simp [reportUp, Com.blank, Tsu.blank, Dxd.blank, h0]

@[simp ↓] theorem judgeAll_blank {W : Part → Bool} (i : CensusId) (s : State) (h0 : W (.com .dxd .pgEvent) = true) (h1 : W (.com .dxd .ic) = true) (h2 : W .census = true) (h3 : W (.com .dxd .ports) = true) :
    (judgeAll i s).blank W = s.blank W := by
  unfold judgeAll
  split
  · rfl
  · refine foldl_blank _ _ _ ?_
    intro s e
    dsimp only
    (repeat' split) <;> simp (maxDischargeDepth := 12) [Com.blank, Tsu.blank, Dxd.blank, h0, h1, h2, h3]

@[simp ↓] theorem resolveArm_blank {W : Part → Bool} (i : CensusId) (total : Nat) (s : State) (h0 : W .referee = true) (h1 : W (.com .dxd .pgEvent) = true) (h2 : W (.com .dxd .ic) = true) (h3 : W (.com .dxd .ports) = true) (h4 : W .ledger = true) (h5 : W .census = true) (h6 : W .kicks = true) :
    (resolveArm i total s).blank W = s.blank W := by
  unfold resolveArm
  (repeat' split) <;> simp [State.blank, Com.blank, Tsu.blank, Dxd.blank, h0, h1, h2, h3, h4, h5, h6]

@[simp ↓] theorem sendResolved_blank {W : Part → Bool} (ep : Nat) (f : CensusDnF) (s : State) (h0 : W (.com .dxd .seen) = true) (h1 : W (.com .dxd .ports) = true) :
    (sendResolved ep f s).blank W = s.blank W := by simp [sendResolved, Com.blank, Tsu.blank, Dxd.blank, h0, h1]

@[simp ↓] theorem resolveDone_blank {W : Part → Bool} (i : CensusId) (total : Nat) (s : State) (h0 : W .referee = true) (h1 : W .census = true) (h2 : W (.com .dxd .seen) = true) (h3 : W (.com .dxd .ports) = true) :
    (resolveDone i total s).blank W = s.blank W := by simp [resolveDone, Com.blank, Tsu.blank, Dxd.blank, h0, h1, h2, h3]

@[simp ↓] theorem misfitJob_blank {W : Part → Bool} (ep : Nat) (s : State) (h0 : W .referee = true) (h1 : W (.com .dxd .pgEvent) = true) (h2 : W (.com .dxd .ic) = true) (h3 : W .ledger = true) (h4 : W .kicks = true) (h5 : W .scores = true) (h6 : W .census = true) (h7 : W (.com .dxd .ports) = true) :
    (misfitJob ep s).blank W = s.blank W := by
  unfold misfitJob
  (repeat' split) <;> simp [State.blank, Com.blank, Tsu.blank, Dxd.blank, h0, h1, h2, h3, h4, h5, h6, h7]

@[simp ↓] theorem resolveHuddle_blank {W : Part → Bool} (i : CensusId) (total : Nat) (s : State) (h0 : W .census = true) (h1 : W (.com .dxd .seen) = true) (h2 : W (.com .dxd .ports) = true) (h3 : W .referee = true) (h4 : W (.com .dxd .pgEvent) = true) (h5 : W (.com .dxd .ic) = true) (h6 : W .ledger = true) (h7 : W .kicks = true) (h8 : W .scores = true) :
    (resolveHuddle i total s).blank W = s.blank W := by
  unfold resolveHuddle
  (repeat' split) <;> simp [Com.blank, Tsu.blank, Dxd.blank, h0, h1, h2, h3, h4, h5, h6, h7, h8]

@[simp ↓] theorem sendSubtree_blank {W : Part → Bool} (i : CensusId) (c : Census) (s : State) (h0 : W (.com .dxd .pgEvent) = true) (h1 : W (.com .dxd .ic) = true) (h2 : W .census = true) (h3 : W (.com .dxd .ports) = true) :
    (sendSubtree i c s).blank W = s.blank W := by
  unfold sendSubtree
  dsimp only
  (repeat' split) <;> first
    | (simp (maxDischargeDepth := 12) [Com.blank, Tsu.blank, Dxd.blank, h0, h1, h2, h3]; done)
    | (exfalso; simp_all; done)
    | (refine (foldl_blank _ _ _ ?_).trans ?_
       · intro s a
         (repeat' split) <;> simp (maxDischargeDepth := 12) [Com.blank, Tsu.blank, Dxd.blank, h0, h1, h2, h3]
       · simp (maxDischargeDepth := 12) [Com.blank, Tsu.blank, Dxd.blank, h0, h1, h2, h3])

@[simp ↓] theorem completeCensus_blank {W : Part → Bool} (i : CensusId) (s : State) (h0 : W (.com .dxd .pgEvent) = true) (h1 : W (.com .dxd .ic) = true) (h2 : W .census = true) (h3 : W (.com .dxd .ports) = true) (h4 : W .referee = true) (h5 : W .ledger = true) (h6 : W .kicks = true) (h7 : W (.com .dxd .seen) = true) (h8 : W .scores = true) :
    (completeCensus i s).blank W = s.blank W := by
  unfold completeCensus
  (repeat' split) <;> simp [Com.blank, Tsu.blank, Dxd.blank, h0, h1, h2, h3, h4, h5, h6, h7, h8]

@[simp ↓] theorem passReport_blank {W : Part → Bool} (p : Option Nat) (ep : Nat) (f : CensusUpF) (s : State) (h0 : W .referee = true) (h1 : W (.com .dxd .pgEvent) = true) (h2 : W (.com .dxd .ic) = true) (h3 : W .ledger = true) (h4 : W .kicks = true) (h5 : W .scores = true) (h6 : W .census = true) (h7 : W (.com .dxd .ports) = true) :
    (passReport p ep f s).blank W = s.blank W := by simp [passReport, Com.blank, Tsu.blank, Dxd.blank, h0, h1, h2, h3, h4, h5, h6, h7]

@[simp ↓] theorem takeEarly_blank {W : Part → Bool} (i : CensusId) (s : State) (h0 : W .census = true) (h1 : W .referee = true) (h2 : W (.com .dxd .pgEvent) = true) (h3 : W (.com .dxd .ic) = true) (h4 : W .ledger = true) (h5 : W .kicks = true) (h6 : W .scores = true) (h7 : W (.com .dxd .ports) = true) :
    (takeEarly i s).blank W = s.blank W := by
  unfold takeEarly
  (repeat' split) <;> simp [Com.blank, Tsu.blank, Dxd.blank, h0, h1, h2, h3, h4, h5, h6, h7]

@[simp ↓] theorem entryReceive_blank {W : Part → Bool} (p : Nat) (ep : Nat) (f : CensusUpF) (s : State) (h0 : W .census = true) (h1 : W (.com .dxd .pgEvent) = true) (h2 : W (.com .dxd .ic) = true) (h3 : W (.com .dxd .ports) = true) (h4 : W .referee = true) (h5 : W .ledger = true) (h6 : W .kicks = true) (h7 : W (.com .dxd .seen) = true) (h8 : W .scores = true) :
    (entryReceive p ep f s).blank W = s.blank W := by
  unfold entryReceive
  dsimp only
  (repeat' split) <;> simp [Com.blank, Tsu.blank, Dxd.blank, h0, h1, h2, h3, h4, h5, h6, h7, h8]

@[simp ↓] theorem reportReceive_blank {W : Part → Bool} (p : Nat) (ep : Nat) (f : CensusUpF) (s : State) (h0 : W .census = true) (h1 : W .referee = true) (h2 : W (.com .dxd .pgEvent) = true) (h3 : W (.com .dxd .ic) = true) (h4 : W .ledger = true) (h5 : W .kicks = true) (h6 : W .scores = true) (h7 : W (.com .dxd .ports) = true) :
    (reportReceive p ep f s).blank W = s.blank W := by
  unfold reportReceive
  dsimp only
  (repeat' split) <;> simp [Com.blank, Tsu.blank, Dxd.blank, h0, h1, h2, h3, h4, h5, h6, h7]

@[simp ↓] theorem passEarly_blank {W : Part → Bool} (s : State) (h0 : W .referee = true) (h1 : W (.com .dxd .pgEvent) = true) (h2 : W (.com .dxd .ic) = true) (h3 : W .ledger = true) (h4 : W .kicks = true) (h5 : W .scores = true) (h6 : W .census = true) (h7 : W (.com .dxd .ports) = true) :
    (passEarly s).blank W = s.blank W := by simp [passEarly, Com.blank, Tsu.blank, Dxd.blank, h0, h1, h2, h3, h4, h5, h6, h7]

@[simp ↓] theorem censusUpTake_blank {W : Part → Bool} (p : Nat) (ep : Nat) (f : CensusUpF) (s : State) (h0 : W .census = true) (h1 : W .referee = true) (h2 : W (.com .dxd .pgEvent) = true) (h3 : W (.com .dxd .ic) = true) (h4 : W .ledger = true) (h5 : W .kicks = true) (h6 : W .scores = true) (h7 : W (.com .dxd .ports) = true) (h8 : W (.com .dxd .seen) = true) :
    (censusUpTake p ep f s).blank W = s.blank W := by simp [censusUpTake, Com.blank, Tsu.blank, Dxd.blank, h0, h1, h2, h3, h4, h5, h6, h7, h8]

@[simp ↓] theorem censusUpReceive_blank {W : Part → Bool} (p : Nat) (h : LinkHdr) (ep : Nat) (f : CensusUpF) (s : State) (h0 : W (.com .dxd .ports) = true) (h1 : W .census = true) (h2 : W .referee = true) (h3 : W (.com .dxd .pgEvent) = true) (h4 : W (.com .dxd .ic) = true) (h5 : W .ledger = true) (h6 : W .kicks = true) (h7 : W .scores = true) (h8 : W (.com .dxd .seen) = true) :
    (censusUpReceive p h ep f s).blank W = s.blank W := by simp [censusUpReceive, Com.blank, Tsu.blank, Dxd.blank, h0, h1, h2, h3, h4, h5, h6, h7, h8]

@[simp ↓] theorem sendWaiting_blank {W : Part → Bool} (a : Nat) (a1 : State) (h0 : W (.com .dxd .pgEvent) = true) (h1 : W (.com .dxd .ic) = true) (h2 : W .census = true) (h3 : W (.com .dxd .ports) = true) :
    (sendWaiting a a1).blank W = a1.blank W := by
  induction a generalizing a1 with
  | zero => rfl
  | succ n ih =>
    unfold sendWaiting
    (repeat' split) <;> simp (maxDischargeDepth := 12) [ih, Com.blank, Tsu.blank, Dxd.blank, h0, h1, h2, h3]

@[simp ↓] theorem resendEntries_blank {W : Part → Bool} (old : Nat → Nat) (s : State) (h0 : W (.com .tsu .ports) = true) (h1 : W .huddles = true) :
    (resendEntries old s).blank W = s.blank W := by simp [resendEntries, Com.blank, Tsu.blank, Dxd.blank, h0, h1]

@[simp ↓] theorem resendSubtree_blank {W : Part → Bool} (s : State) (c : Census) (h0 : W (.com .dxd .ports) = true) (h1 : W (.com .dxd .pgEvent) = true) (h2 : W (.com .dxd .ic) = true) (h3 : W .census = true) (h4 : W .referee = true) (h5 : W .ledger = true) (h6 : W .kicks = true) (h7 : W (.com .dxd .seen) = true) (h8 : W .scores = true) :
    (resendSubtree s c).blank W = s.blank W := by simp [resendSubtree, Com.blank, Tsu.blank, Dxd.blank, h0, h1, h2, h3, h4, h5, h6, h7, h8]

@[simp ↓] theorem censusTreeChange_tsu_blank {W : Part → Bool} (s : State) (h0 : W (.com .tsu .ports) = true) (h1 : W .huddles = true) (h2 : W (.com .tsu .censusTree) = true) :
    (censusTreeChange .tsu s).blank W = s.blank W := by simp [censusTreeChange, Com.blank, Tsu.blank, Dxd.blank, h0, h1, h2]

@[simp ↓] theorem censusTreeChange_dxd_blank {W : Part → Bool} (s : State) (h0 : W .census = true) (h1 : W (.com .dxd .censusTree) = true) (h2 : W (.com .dxd .ports) = true) (h3 : W (.com .dxd .pgEvent) = true) (h4 : W (.com .dxd .ic) = true) (h5 : W .referee = true) (h6 : W .ledger = true) (h7 : W .kicks = true) (h8 : W (.com .dxd .seen) = true) (h9 : W .scores = true) :
    (censusTreeChange .dxd s).blank W = s.blank W := by simp [censusTreeChange, Com.blank, Tsu.blank, Dxd.blank, h0, h1, h2, h3, h4, h5, h6, h7, h8, h9]

@[simp ↓] theorem treeNoticeSend_blank {W : Part → Bool} (s : State) (h0 : W .referee = true) (h1 : W (.com .dxd .ports) = true) :
    (treeNoticeSend s).blank W = s.blank W := by
  unfold treeNoticeSend
  dsimp only
  (repeat' split) <;> first
    | (simp (maxDischargeDepth := 12) [Com.blank, Tsu.blank, Dxd.blank, h0, h1]; done)
    | (exfalso; simp_all; done)
    | (refine (foldl_blank _ _ _ ?_).trans ?_
       · intro s a
         (repeat' split) <;> simp (maxDischargeDepth := 12) [Com.blank, Tsu.blank, Dxd.blank, h0, h1]
       · simp (maxDischargeDepth := 12) [Com.blank, Tsu.blank, Dxd.blank, h0, h1])

@[simp ↓] theorem noteNotice_blank {W : Part → Bool} (side : Nat) (sender : Nat) (s : State) (h0 : W .referee = true) :
    (noteNotice side sender s).blank W = s.blank W := by simp [noteNotice, Com.blank, Tsu.blank, Dxd.blank, h0]

@[simp ↓] theorem clearPeak_blank {W : Part → Bool} (s : State) (h0 : W .census = true) :
    (clearPeak s).blank W = s.blank W := by simp [clearPeak, Com.blank, Tsu.blank, Dxd.blank, h0]

end Sys2Proof.Machine
end

