-- ==== Sys2Proof/Laws/FrameScores.lean ====
section
/-!
SUPPORT. What the operations of Machine/Scores.lean can change.
-/

namespace Sys2Proof.Machine

@[simp ↓] theorem putCombo_blank {W : Part → Bool} (c : Combine) (s : State) (h0 : W .scores = true) :
    (putCombo c s).blank W = s.blank W := by simp [putCombo, Com.blank, Tsu.blank, Dxd.blank, h0]

@[simp ↓] theorem closeCombo_blank {W : Part → Bool} (c : Combine) (s : State) (h0 : W .scores = true) :
    (closeCombo c s).blank W = s.blank W := by simp [closeCombo, Com.blank, Tsu.blank, Dxd.blank, h0]

@[simp ↓] theorem sendValue_blank {W : Part → Bool} (c : Combine) (v : List Byte) (s : State) (h0 : W (.com .dxd .ports) = true) (h1 : W .scores = true) :
    (sendValue c v s).blank W = s.blank W := by simp [sendValue, Com.blank, Tsu.blank, Dxd.blank, h0, h1]

@[simp ↓] theorem packageDone_blank {W : Part → Bool} (v : Served) (c : Combine) (s : State) (h0 : W (.com .dxd .ports) = true) (h1 : W .scores = true) :
    (packageDone v c s).blank W = s.blank W := by
  unfold packageDone
  dsimp only
  (repeat' split) <;> first
    | (simp (maxDischargeDepth := 12) [Com.blank, Tsu.blank, Dxd.blank, h0, h1]; done)
    | (exfalso; simp_all; done)
    | (refine (foldl_blank _ _ _ ?_).trans ?_
       · intro s a
         (repeat' split) <;> simp (maxDischargeDepth := 12) [Com.blank, Tsu.blank, Dxd.blank, h0, h1]
       · simp (maxDischargeDepth := 12) [Com.blank, Tsu.blank, Dxd.blank, h0, h1])

@[simp ↓] theorem scoreFromLane_blank {W : Part → Bool} (p : Nat) (v : Served) (c : Combine) (s : State) (h0 : W (.com .dxd .ports) = true) (h1 : W .scores = true) (h2 : W (.com .dxd .pgEvent) = true) (h3 : W (.com .dxd .ic) = true) :
    (scoreFromLane p v c s).blank W = s.blank W := by
  unfold scoreFromLane
  (repeat' split) <;> simp [Com.blank, Tsu.blank, Dxd.blank, h0, h1, h2, h3]

@[simp ↓] theorem sumDone_blank {W : Part → Bool} (v : Served) (c : Combine) (s : State) (h0 : W (.com .dxd .ports) = true) (h1 : W .scores = true) (h2 : W .referee = true) (h3 : W (.com .dxd .pgEvent) = true) (h4 : W (.com .dxd .ic) = true) (h5 : W .ledger = true) (h6 : W .kicks = true) :
    (sumDone v c s).blank W = s.blank W := by
  unfold sumDone
  dsimp only
  (repeat' split) <;> simp [Com.blank, Tsu.blank, Dxd.blank, h0, h1, h2, h3, h4, h5, h6]

@[simp ↓] theorem scoreFromChild_blank {W : Part → Bool} (p : Nat) (v : Served) (c : Combine) (s : State) (h0 : W (.com .dxd .ports) = true) (h1 : W .scores = true) (h2 : W .referee = true) (h3 : W (.com .dxd .pgEvent) = true) (h4 : W (.com .dxd .ic) = true) (h5 : W .ledger = true) (h6 : W .kicks = true) :
    (scoreFromChild p v c s).blank W = s.blank W := by
  unfold scoreFromChild
  (repeat' split) <;> simp [Com.blank, Tsu.blank, Dxd.blank, h0, h1, h2, h3, h4, h5, h6]

@[simp ↓] theorem scoreTake_blank {W : Part → Bool} (p : Nat) (ep : Nat) (f : ScoreF) (s : State) (h0 : W .scores = true) (h1 : W (.com .dxd .ports) = true) (h2 : W (.com .dxd .pgEvent) = true) (h3 : W (.com .dxd .ic) = true) (h4 : W .referee = true) (h5 : W .ledger = true) (h6 : W .kicks = true) :
    (scoreTake p ep f s).blank W = s.blank W := by
  unfold scoreTake
  (repeat' split) <;> simp [Com.blank, Tsu.blank, Dxd.blank, h0, h1, h2, h3, h4, h5, h6]

@[simp ↓] theorem scoreReceive_blank {W : Part → Bool} (p : Nat) (h : LinkHdr) (ep : Nat) (f : ScoreF) (s : State) (h0 : W (.com .dxd .ports) = true) (h1 : W (.com .dxd .seen) = true) (h2 : W .scores = true) (h3 : W (.com .dxd .pgEvent) = true) (h4 : W (.com .dxd .ic) = true) (h5 : W .referee = true) (h6 : W .ledger = true) (h7 : W .kicks = true) :
    (scoreReceive p h ep f s).blank W = s.blank W := by
  unfold scoreReceive
  refine recvRetained_dxd_blank _ _ _ _ _ ?_ h0
  intro s
  (repeat' split) <;> simp (maxDischargeDepth := 12) [Com.blank, Tsu.blank, Dxd.blank, h0, h1, h2, h3, h4, h5, h6, h7]

@[simp ↓] theorem lsCfgWrite_blank {W : Part → Bool} (e : Nat) (v : Word) (s : State) (h0 : W (.com .dxd .regs) = true) (h1 : W .scores = true) (h2 : W (.com .dxd .pgEvent) = true) (h3 : W (.com .dxd .ic) = true) :
    (lsCfgWrite e v s).blank W = s.blank W := by simp [lsCfgWrite, Com.blank, Tsu.blank, Dxd.blank, h0, h1, h2, h3]

@[simp ↓] theorem lsPairValid_blank {W : Part → Bool} (rq : Nat) (e : Nat) (v : Word) (s : State) (h0 : W (.com .dxd .badAccess) = true) (h1 : W (.com .dxd .barLow) = true) (h2 : W (.com .dxd .barCap) = true) (h3 : W (.com .dxd .bt) = true) (h4 : W (.com .dxd .lockRefused) = true) (h5 : W (.com .dxd .regs) = true) (h6 : W .scores = true) (h7 : W (.com .dxd .pgEvent) = true) (h8 : W (.com .dxd .ic) = true) :
    (lsPairValid rq e v s).blank W = s.blank W := by simp [lsPairValid, Com.blank, Tsu.blank, Dxd.blank, h0, h1, h2, h3, h4, h5, h6, h7, h8]

@[simp ↓] theorem lsKeep_blank {W : Part → Bool} (ep : Nat) (step : Nat) (f : TallyF) (s : State) (h0 : W .scores = true) :
    (lsKeep ep step f s).blank W = s.blank W := by
  unfold lsKeep
  (repeat' split) <;> simp [Com.blank, Tsu.blank, Dxd.blank, h0]

@[simp ↓] theorem lsDiverged_blank {W : Part → Bool} (e : Nat) (step : Nat) (q : Nat × Nat × Nat) (s : State) (h0 : W .scores = true) :
    (lsDiverged e step q s).blank W = s.blank W := by simp [lsDiverged, Com.blank, Tsu.blank, Dxd.blank, h0]

@[simp ↓] theorem noteCompared_blank {W : Part → Bool} (step : Nat) (s : State) (h0 : W .scores = true) :
    (noteCompared step s).blank W = s.blank W := by simp [noteCompared, Com.blank, Tsu.blank, Dxd.blank, h0]

@[simp ↓] theorem lsDecide_blank {W : Part → Bool} (e : Nat) (step : Nat) (s : State) (h0 : W .scores = true) (h1 : W (.com .dxd .pgEvent) = true) (h2 : W (.com .dxd .ic) = true) (h3 : W .referee = true) (h4 : W .ledger = true) (h5 : W .kicks = true) (h6 : W (.com .dxd .ports) = true) (h7 : W (.com .dxd .regs) = true) (h8 : W .census = true) :
    (lsDecide e step s).blank W = s.blank W := by
  unfold lsDecide
  (repeat' split) <;> simp [State.blank, Com.blank, Tsu.blank, Dxd.blank, h0, h1, h2, h3, h4, h5, h6, h7, h8]

@[simp ↓] theorem lsRecord_blank {W : Part → Bool} (ep : Nat) (f : TallyF) (s : State) (h0 : W .scores = true) (h1 : W (.com .dxd .pgEvent) = true) (h2 : W (.com .dxd .ic) = true) (h3 : W .referee = true) (h4 : W .ledger = true) (h5 : W .kicks = true) (h6 : W (.com .dxd .ports) = true) (h7 : W (.com .dxd .regs) = true) (h8 : W .census = true) :
    (lsRecord ep f s).blank W = s.blank W := by
  unfold lsRecord
  dsimp only
  (repeat' split) <;> simp [Com.blank, Tsu.blank, Dxd.blank, h0, h1, h2, h3, h4, h5, h6, h7, h8]

@[simp ↓] theorem clearLsCounts_blank {W : Part → Bool} (s : State) (h0 : W .scores = true) :
    (clearLsCounts s).blank W = s.blank W := by simp [clearLsCounts, Com.blank, Tsu.blank, Dxd.blank, h0]

@[simp ↓] theorem takeReport_blank {W : Part → Bool} (ep : Nat) (f : TallyF) (s : State) (h0 : W (.com .dxd .pgEvent) = true) (h1 : W (.com .dxd .ic) = true) (h2 : W .referee = true) (h3 : W .ledger = true) (h4 : W (.com .dxd .ports) = true) (h5 : W .scores = true) (h6 : W (.com .dxd .regs) = true) (h7 : W .census = true) (h8 : W .kicks = true) :
    (takeReport ep f s).blank W = s.blank W := by
  unfold takeReport
  (repeat' split) <;> simp [State.blank, Com.blank, Tsu.blank, Dxd.blank, h0, h1, h2, h3, h4, h5, h6, h7, h8]

@[simp ↓] theorem tallyTake_blank {W : Part → Bool} (p : Nat) (ep : Nat) (f : TallyF) (s : State) (h0 : W (.com .dxd .pgEvent) = true) (h1 : W (.com .dxd .ic) = true) (h2 : W (.com .dxd .ports) = true) (h3 : W .referee = true) (h4 : W .ledger = true) (h5 : W .scores = true) (h6 : W (.com .dxd .regs) = true) (h7 : W .census = true) (h8 : W .kicks = true) :
    (tallyTake p ep f s).blank W = s.blank W := by simp [tallyTake, Com.blank, Tsu.blank, Dxd.blank, h0, h1, h2, h3, h4, h5, h6, h7, h8]

@[simp ↓] theorem tallyReceive_blank {W : Part → Bool} (p : Nat) (h : LinkHdr) (ep : Nat) (f : TallyF) (s : State) (h0 : W (.com .dxd .ports) = true) (h1 : W (.com .dxd .pgEvent) = true) (h2 : W (.com .dxd .ic) = true) (h3 : W .referee = true) (h4 : W .ledger = true) (h5 : W .scores = true) (h6 : W (.com .dxd .regs) = true) (h7 : W .census = true) (h8 : W .kicks = true) (h9 : W (.com .dxd .seen) = true) :
    (tallyReceive p h ep f s).blank W = s.blank W := by simp (maxDischargeDepth := 12) [tallyReceive, Com.blank, Tsu.blank, Dxd.blank, h0, h1, h2, h3, h4, h5, h6, h7, h8, h9]

end Sys2Proof.Machine
end

