-- ==== Sys2Proof/Laws/FrameMembership.lean ====
section
/-!
SUPPORT. What the operations of Machine/Membership.lean can change.
-/

namespace Sys2Proof.Machine

@[simp ↓] theorem beginImage_blank {W : Part → Bool} (again : Option Nat) (img : List Byte) (s : State) (h0 : W .keyPort = true) (h1 : W (.com .tsu .boot) = true) :
    (beginImage again img s).blank W = s.blank W := by simp [beginImage, Com.blank, Tsu.blank, Dxd.blank, h0, h1]

@[simp ↓] theorem nextHeld_blank {W : Part → Bool} (s : State) (h0 : W .keyPort = true) (h1 : W (.com .tsu .boot) = true) :
    (nextHeld s).blank W = s.blank W := by
  unfold nextHeld
  dsimp only
  (repeat' split) <;> simp [Com.blank, Tsu.blank, Dxd.blank, h0, h1]

@[simp ↓] theorem fenceTsu_blank {W : Part → Bool} (s : State) (h0 : W .member = true) (h1 : W (.com .tsu .tk) = true) (h2 : W (.com .tsu .pgEvent) = true) (h3 : W (.com .tsu .ic) = true) :
    (fenceTsu s).blank W = s.blank W := by simp [fenceTsu, Com.blank, Tsu.blank, Dxd.blank, h0, h1, h2, h3]

@[simp ↓] theorem leaveSideline_blank {W : Part → Bool} (s : State) (h0 : W (.com .tsu .tk) = true) (h1 : W (.com .tsu .pgEvent) = true) (h2 : W (.com .tsu .ic) = true) :
    (leaveSideline s).blank W = s.blank W := by simp [leaveSideline, Com.blank, Tsu.blank, Dxd.blank, h0, h1, h2]

@[simp ↓] theorem benchAtTsu_blank {W : Part → Bool} (ep : Nat) (f : BenchF) (s : State) (h0 : W (.com .tsu .pgEvent) = true) (h1 : W (.com .tsu .ic) = true) (h2 : W .bays = true) (h3 : W .member = true) (h4 : W .steps = true) (h5 : W .tallies = true) (h6 : W (.com .tsu .ports) = true) (h7 : W .huddles = true) (h8 : W .cue = true) (h9 : W .signals = true) (h10 : W .keyPort = true) (h11 : W (.com .tsu .tk) = true) (h12 : W (.com .tsu .boot) = true) :
    (benchAtTsu ep f s).blank W = s.blank W := by simp [benchAtTsu, Com.blank, Tsu.blank, Dxd.blank, h0, h1, h2, h3, h4, h5, h6, h7, h8, h9, h10, h11, h12]

@[simp ↓] theorem holdPorts_blank {W : Part → Bool} (s : State) (h0 : W (.com .dxd .tk) = true) (h1 : W .refs = true) (h2 : W .ptp = true) (h3 : W (.com .dxd .pgEvent) = true) (h4 : W (.com .dxd .ic) = true) (h5 : W .hold = true) (h6 : W (.com .dxd .coreA) = true) (h7 : W (.com .dxd .coreB) = true) (h8 : W (.com .dxd .hfits) = true) (h9 : W (.com .dxd .msets) = true) (h10 : W .attic = true) (h11 : W (.com .dxd .ports) = true) :
    (holdPorts s).blank W = s.blank W := by simp [holdPorts, Com.blank, Tsu.blank, Dxd.blank, h0, h1, h2, h3, h4, h5, h6, h7, h8, h9, h10, h11]

@[simp ↓] theorem fenceDxd_blank {W : Part → Bool} (s : State) (h0 : W (.com .dxd .tk) = true) (h1 : W .referee = true) (h2 : W .refs = true) (h3 : W .ptp = true) (h4 : W (.com .dxd .pgEvent) = true) (h5 : W (.com .dxd .ic) = true) (h6 : W .hold = true) (h7 : W (.com .dxd .coreA) = true) (h8 : W (.com .dxd .coreB) = true) (h9 : W (.com .dxd .hfits) = true) (h10 : W (.com .dxd .msets) = true) (h11 : W .attic = true) (h12 : W (.com .dxd .ports) = true) :
    (fenceDxd s).blank W = s.blank W := by simp [fenceDxd, Com.blank, Tsu.blank, Dxd.blank, h0, h1, h2, h3, h4, h5, h6, h7, h8, h9, h10, h11, h12]

@[simp ↓] theorem noteBenchHere_blank {W : Part → Bool} (f : BenchF) (s : State) (h0 : W (.com .dxd .pgEvent) = true) (h1 : W (.com .dxd .ic) = true) (h2 : W .referee = true) :
    (noteBenchHere f s).blank W = s.blank W := by simp [noteBenchHere, Com.blank, Tsu.blank, Dxd.blank, h0, h1, h2]

@[simp ↓] theorem passEpoch_blank {W : Part → Bool} (ep : Nat) (f : BenchF) (s : State) (h0 : W .kicks = true) (h1 : W .scores = true) (h2 : W .census = true) (h3 : W .referee = true) :
    (passEpoch ep f s).blank W = s.blank W := by
  unfold passEpoch
  dsimp only
  (repeat' split) <;> simp [Com.blank, Tsu.blank, Dxd.blank, h0, h1, h2, h3]

@[simp ↓] theorem probeDie_blank {W : Part → Bool} (ep : Nat) (f : BenchF) (s : State) (h0 : W (.com .dxd .ports) = true) (h1 : W (.com .dxd .pgEvent) = true) (h2 : W (.com .dxd .ic) = true) (h3 : W .referee = true) :
    (probeDie ep f s).blank W = s.blank W := by
  unfold probeDie
  (repeat' split) <;> simp [Com.blank, Tsu.blank, Dxd.blank, h0, h1, h2, h3]

@[simp ↓] theorem benchAtDxd_blank {W : Part → Bool} (p : Nat) (ep : Nat) (f : BenchF) (s : State) (h0 : W (.com .dxd .ports) = true) (h1 : W (.com .dxd .tk) = true) (h2 : W .referee = true) (h3 : W .refs = true) (h4 : W .ptp = true) (h5 : W (.com .dxd .pgEvent) = true) (h6 : W (.com .dxd .ic) = true) (h7 : W .hold = true) (h8 : W (.com .dxd .coreA) = true) (h9 : W (.com .dxd .coreB) = true) (h10 : W (.com .dxd .hfits) = true) (h11 : W (.com .dxd .msets) = true) (h12 : W .attic = true) (h13 : W .kicks = true) (h14 : W .scores = true) (h15 : W .census = true) :
    (benchAtDxd p ep f s).blank W = s.blank W := by
  unfold benchAtDxd
  (repeat' split) <;> simp [Com.blank, Tsu.blank, Dxd.blank, h0, h1, h2, h3, h4, h5, h6, h7, h8, h9, h10, h11, h12, h13, h14, h15]

@[simp ↓] theorem benchTake_dxd_blank {W : Part → Bool} (p : Nat) (ep : Nat) (f : BenchF) (a : State) (h0 : W (.com .dxd .oseq) = true) (h1 : W (.com .dxd .ports) = true) (h2 : W (.com .dxd .tk) = true) (h3 : W .referee = true) (h4 : W .refs = true) (h5 : W .ptp = true) (h6 : W (.com .dxd .pgEvent) = true) (h7 : W (.com .dxd .ic) = true) (h8 : W .hold = true) (h9 : W (.com .dxd .coreA) = true) (h10 : W (.com .dxd .coreB) = true) (h11 : W (.com .dxd .hfits) = true) (h12 : W (.com .dxd .msets) = true) (h13 : W .attic = true) (h14 : W .kicks = true) (h15 : W .scores = true) (h16 : W .census = true) :
    (benchTake .dxd p ep f a).blank W = a.blank W := by simp [benchTake, Com.blank, Tsu.blank, Dxd.blank, h0, h1, h2, h3, h4, h5, h6, h7, h8, h9, h10, h11, h12, h13, h14, h15, h16]

@[simp ↓] theorem benchTake_tsu_blank {W : Part → Bool} (p : Nat) (ep : Nat) (f : BenchF) (a : State) (h0 : W (.com .tsu .oseq) = true) (h1 : W (.com .tsu .pgEvent) = true) (h2 : W (.com .tsu .ic) = true) (h3 : W .bays = true) (h4 : W .member = true) (h5 : W .steps = true) (h6 : W .tallies = true) (h7 : W (.com .tsu .ports) = true) (h8 : W .huddles = true) (h9 : W .cue = true) (h10 : W .signals = true) (h11 : W .keyPort = true) (h12 : W (.com .tsu .tk) = true) (h13 : W (.com .tsu .boot) = true) :
    (benchTake .tsu p ep f a).blank W = a.blank W := by simp [benchTake, Com.blank, Tsu.blank, Dxd.blank, h0, h1, h2, h3, h4, h5, h6, h7, h8, h9, h10, h11, h12, h13]

@[simp ↓] theorem benchReceive_tsu_blank {W : Part → Bool} (p : Nat) (h : LinkHdr) (ep : Nat) (f : BenchF) (s : State) (h0 : W (.com .tsu .ports) = true) (h1 : W (.com .tsu .oseq) = true) (h2 : W (.com .tsu .pgEvent) = true) (h3 : W (.com .tsu .ic) = true) (h4 : W .bays = true) (h5 : W .member = true) (h6 : W .steps = true) (h7 : W .tallies = true) (h8 : W .huddles = true) (h9 : W .cue = true) (h10 : W .signals = true) (h11 : W .keyPort = true) (h12 : W (.com .tsu .tk) = true) (h13 : W (.com .tsu .boot) = true) :
    (benchReceive .tsu p h ep f s).blank W = s.blank W := by simp [benchReceive, Com.blank, Tsu.blank, Dxd.blank, h0, h1, h2, h3, h4, h5, h6, h7, h8, h9, h10, h11, h12, h13]

@[simp ↓] theorem benchReceive_dxd_blank {W : Part → Bool} (p : Nat) (h : LinkHdr) (ep : Nat) (f : BenchF) (s : State) (h0 : W (.com .dxd .ports) = true) (h1 : W (.com .dxd .oseq) = true) (h2 : W (.com .dxd .tk) = true) (h3 : W .referee = true) (h4 : W .refs = true) (h5 : W .ptp = true) (h6 : W (.com .dxd .pgEvent) = true) (h7 : W (.com .dxd .ic) = true) (h8 : W .hold = true) (h9 : W (.com .dxd .coreA) = true) (h10 : W (.com .dxd .coreB) = true) (h11 : W (.com .dxd .hfits) = true) (h12 : W (.com .dxd .msets) = true) (h13 : W .attic = true) (h14 : W .kicks = true) (h15 : W .scores = true) (h16 : W .census = true) :
    (benchReceive .dxd p h ep f s).blank W = s.blank W := by simp [benchReceive, Com.blank, Tsu.blank, Dxd.blank, h0, h1, h2, h3, h4, h5, h6, h7, h8, h9, h10, h11, h12, h13, h14, h15, h16]

@[simp ↓] theorem dropWaiters_blank {W : Part → Bool} (s : State) (h0 : W .cue = true) (h1 : W (.com .tsu .pgEvent) = true) (h2 : W (.com .tsu .ic) = true) (h3 : W .signals = true) (h4 : W .huddles = true) :
    (dropWaiters s).blank W = s.blank W := by simp [dropWaiters, Com.blank, Tsu.blank, Dxd.blank, h0, h1, h2, h3, h4]

@[simp ↓] theorem joinEpoch_blank {W : Part → Bool} (e : Nat) (s : State) (h0 : W .member = true) (h1 : W .steps = true) (h2 : W .tallies = true) (h3 : W (.com .tsu .ports) = true) (h4 : W .huddles = true) (h5 : W .cue = true) (h6 : W (.com .tsu .pgEvent) = true) (h7 : W (.com .tsu .ic) = true) (h8 : W .signals = true) (h9 : W .keyPort = true) (h10 : W (.com .tsu .tk) = true) (h11 : W .bays = true) (h12 : W .stock = true) :
    (joinEpoch e s).blank W = s.blank W := by simp [joinEpoch, Com.blank, Tsu.blank, Dxd.blank, h0, h1, h2, h3, h4, h5, h6, h7, h8, h9, h10, h11, h12]

@[simp ↓] theorem epochJoin_blank {W : Part → Bool} (s : State) (h0 : W .member = true) (h1 : W .steps = true) (h2 : W .tallies = true) (h3 : W (.com .tsu .ports) = true) (h4 : W .huddles = true) (h5 : W .cue = true) (h6 : W (.com .tsu .pgEvent) = true) (h7 : W (.com .tsu .ic) = true) (h8 : W .signals = true) (h9 : W .keyPort = true) (h10 : W (.com .tsu .tk) = true) (h11 : W .bays = true) (h12 : W .stock = true) :
    (epochJoin s).blank W = s.blank W := by
  unfold epochJoin
  (repeat' split) <;> simp [Com.blank, Tsu.blank, Dxd.blank, h0, h1, h2, h3, h4, h5, h6, h7, h8, h9, h10, h11, h12]

@[simp ↓] theorem sourcelessFence_blank {W : Part → Bool} (s : State) (h0 : W .steps = true) (h1 : W .tallies = true) (h2 : W (.com .tsu .ports) = true) (h3 : W .huddles = true) (h4 : W .cue = true) (h5 : W (.com .tsu .pgEvent) = true) (h6 : W (.com .tsu .ic) = true) (h7 : W .signals = true) (h8 : W .member = true) (h9 : W .keyPort = true) (h10 : W (.com .tsu .tk) = true) (h11 : W .bays = true) :
    (sourcelessFence s).blank W = s.blank W := by
  unfold sourcelessFence
  (repeat' split) <;> simp [Com.blank, Tsu.blank, Dxd.blank, h0, h1, h2, h3, h4, h5, h6, h7, h8, h9, h10, h11]

@[simp ↓] theorem probeSend_blank {W : Part → Bool} (p : Nat) (s : State) (h0 : W (.com .dxd .ports) = true) :
    (probeSend p s).blank W = s.blank W := by
  unfold probeSend
  (repeat' split) <;> simp [Com.blank, Tsu.blank, Dxd.blank, h0]

@[simp ↓] theorem probeEnd_blank {W : Part → Bool} (p : Nat) (s : State) (h0 : W (.com .dxd .ports) = true) (h1 : W (.com .dxd .pgEvent) = true) (h2 : W (.com .dxd .ic) = true) (h3 : W .referee = true) (h4 : W .ledger = true) (h5 : W .scores = true) (h6 : W (.com .dxd .regs) = true) (h7 : W .census = true) (h8 : W .kicks = true) :
    (probeEnd p s).blank W = s.blank W := by
  unfold probeEnd
  (repeat' split) <;> simp [State.blank, Com.blank, Tsu.blank, Dxd.blank, h0, h1, h2, h3, h4, h5, h6, h7, h8]

@[simp ↓] theorem admitDeadline_blank {W : Part → Bool} (p : Nat) (s : State) (h0 : W .census = true) (h1 : W (.com .dxd .pgEvent) = true) (h2 : W (.com .dxd .ic) = true) (h3 : W .referee = true) (h4 : W .ledger = true) (h5 : W (.com .dxd .ports) = true) (h6 : W .scores = true) (h7 : W (.com .dxd .regs) = true) (h8 : W .kicks = true) :
    (admitDeadline p s).blank W = s.blank W := by
  unfold admitDeadline
  (repeat' split) <;> simp [State.blank, Com.blank, Tsu.blank, Dxd.blank, h0, h1, h2, h3, h4, h5, h6, h7, h8]

@[simp ↓] theorem pairTimeout_blank {W : Part → Bool} (s : State) (h0 : W .referee = true) :
    (pairTimeout s).blank W = s.blank W := by simp [pairTimeout, Com.blank, Tsu.blank, Dxd.blank, h0]

@[simp ↓] theorem darkEngine_blank {W : Part → Bool} (ep : Nat) (f : StockF) (s : State) (h0 : W .referee = true) (h1 : W (.com .dxd .pgEvent) = true) (h2 : W (.com .dxd .ic) = true) (h3 : W .ledger = true) (h4 : W (.com .dxd .ports) = true) (h5 : W .scores = true) (h6 : W (.com .dxd .regs) = true) (h7 : W .census = true) (h8 : W .kicks = true) :
    (darkEngine ep f s).blank W = s.blank W := by
  unfold darkEngine
  (repeat' split) <;> simp [State.blank, Com.blank, Tsu.blank, Dxd.blank, h0, h1, h2, h3, h4, h5, h6, h7, h8]

@[simp ↓] theorem stockReceive_blank {W : Part → Bool} (p : Nat) (h : LinkHdr) (ep : Nat) (f : StockF) (s : State) (h0 : W (.com .dxd .ports) = true) (h1 : W .referee = true) (h2 : W (.com .dxd .pgEvent) = true) (h3 : W (.com .dxd .ic) = true) (h4 : W .ledger = true) (h5 : W .scores = true) (h6 : W (.com .dxd .regs) = true) (h7 : W .census = true) (h8 : W .kicks = true) :
    (stockReceive p h ep f s).blank W = s.blank W := by
  unfold stockReceive
  (repeat' split) <;> simp [State.blank, Com.blank, Tsu.blank, Dxd.blank, h0, h1, h2, h3, h4, h5, h6, h7, h8]

end Sys2Proof.Machine
end

