-- ==== Sys2Proof/Laws/FrameInbox.lean ====
section
/-!
SUPPORT. What the operations of Machine/Inbox.lean can change.
-/

namespace Sys2Proof.Machine

@[simp ↓] theorem takeControl_blank {W : Part → Bool} (p : Nat) (fr : Frame) (s : State) (h0 : W (.com .dxd .oseq) = true) (h1 : W .kicks = true) (h2 : W (.com .dxd .ports) = true) (h3 : W .census = true) (h4 : W .referee = true) (h5 : W (.com .dxd .pgEvent) = true) (h6 : W (.com .dxd .ic) = true) (h7 : W .ledger = true) (h8 : W .scores = true) (h9 : W (.com .dxd .seen) = true) (h10 : W (.com .dxd .tk) = true) (h11 : W .refs = true) (h12 : W .ptp = true) (h13 : W .hold = true) (h14 : W (.com .dxd .coreA) = true) (h15 : W (.com .dxd .coreB) = true) (h16 : W (.com .dxd .hfits) = true) (h17 : W (.com .dxd .msets) = true) (h18 : W .attic = true) (h19 : W .outs = true) :
    (takeControl p fr s).blank W = s.blank W := by
  unfold takeControl
  (repeat' split) <;> simp [Com.blank, Tsu.blank, Dxd.blank, h0, h1, h2, h3, h4, h5, h6, h7, h8, h9, h10, h11, h12, h13, h14, h15, h16, h17, h18, h19]

@[simp ↓] theorem drainInput_blank {W : Part → Bool} (p : Nat) (a : Nat) (a2 : State) (h0 : W (.com .dxd .ports) = true) (h1 : W (.com .dxd .oseq) = true) (h2 : W .kicks = true) (h3 : W .census = true) (h4 : W .referee = true) (h5 : W (.com .dxd .pgEvent) = true) (h6 : W (.com .dxd .ic) = true) (h7 : W .ledger = true) (h8 : W .scores = true) (h9 : W (.com .dxd .seen) = true) (h10 : W (.com .dxd .tk) = true) (h11 : W .refs = true) (h12 : W .ptp = true) (h13 : W .hold = true) (h14 : W (.com .dxd .coreA) = true) (h15 : W (.com .dxd .coreB) = true) (h16 : W (.com .dxd .hfits) = true) (h17 : W (.com .dxd .msets) = true) (h18 : W .attic = true) (h19 : W .outs = true) :
    (drainInput p a a2).blank W = a2.blank W := by
  induction a generalizing a2 with
  | zero => rfl
  | succ n ih =>
    unfold drainInput
    (repeat' split) <;> simp (maxDischargeDepth := 12) [ih, Com.blank, Tsu.blank, Dxd.blank, h0, h1, h2, h3, h4, h5, h6, h7, h8, h9, h10, h11, h12, h13, h14, h15, h16, h17, h18, h19]

@[simp ↓] theorem drainInputs_blank {W : Part → Bool} (s : State) (h0 : W (.com .dxd .ports) = true) (h1 : W (.com .dxd .oseq) = true) (h2 : W .kicks = true) (h3 : W .census = true) (h4 : W .referee = true) (h5 : W (.com .dxd .pgEvent) = true) (h6 : W (.com .dxd .ic) = true) (h7 : W .ledger = true) (h8 : W .scores = true) (h9 : W (.com .dxd .seen) = true) (h10 : W (.com .dxd .tk) = true) (h11 : W .refs = true) (h12 : W .ptp = true) (h13 : W .hold = true) (h14 : W (.com .dxd .coreA) = true) (h15 : W (.com .dxd .coreB) = true) (h16 : W (.com .dxd .hfits) = true) (h17 : W (.com .dxd .msets) = true) (h18 : W .attic = true) (h19 : W .outs = true) :
    (drainInputs s).blank W = s.blank W := by simp [drainInputs, Com.blank, Tsu.blank, Dxd.blank, h0, h1, h2, h3, h4, h5, h6, h7, h8, h9, h10, h11, h12, h13, h14, h15, h16, h17, h18, h19]

end Sys2Proof.Machine
end

