-- ==== Sys2Proof/Laws/FrameJobsBase.lean ====
section
/-!
SUPPORT. What the operations of Machine/JobsBase.lean can change.
-/

namespace Sys2Proof.Machine

@[simp ↓] theorem noteRange_blank {W : Part → Bool} (result : Nat) (b : List Byte) (s : State) (h0 : W (.com .dxd .pgEvent) = true) (h1 : W (.com .dxd .ic) = true) :
    (noteRange result b s).blank W = s.blank W := by simp [noteRange, Com.blank, Tsu.blank, Dxd.blank, h0, h1]

@[simp ↓] theorem sendJobImage_blank {W : Part → Bool} (b : Job) (s : State) (h0 : W .referee = true) (h1 : W (.com .dxd .pgEvent) = true) (h2 : W (.com .dxd .ic) = true) (h3 : W (.com .dxd .ports) = true) (h4 : W .ledger = true) :
    (sendJobImage b s).blank W = s.blank W := by simp [sendJobImage, Com.blank, Tsu.blank, Dxd.blank, h0, h1, h2, h3, h4]

end Sys2Proof.Machine
end

