-- ==== Sys2Proof/Laws/FrameJobs.lean ====
section
/-!
SUPPORT. What the operations of Machine/Jobs.lean can change.
-/

namespace Sys2Proof.Machine

@[simp ↓] theorem atReferee_blank {W : Part → Bool} (f : State → State) (s : State) (hf : ∀ s, (f s).blank W = s.blank W) :
    (atReferee f s).blank W = s.blank W := by simp [atReferee, Com.blank, Tsu.blank, Dxd.blank, hf]

@[simp ↓] theorem fileComplaint_blank {W : Part → Bool} (die : Nat) (s : State) (h0 : W (.com .dxd .pgEvent) = true) (h1 : W (.com .dxd .ic) = true) (h2 : W .referee = true) (h3 : W .ledger = true) (h4 : W (.com .dxd .ports) = true) :
    (fileComplaint die s).blank W = s.blank W := by
  unfold fileComplaint
  (repeat' split) <;> simp [State.blank, Com.blank, Tsu.blank, Dxd.blank, h0, h1, h2, h3, h4]

@[simp ↓] theorem complaintWrite_blank {W : Part → Bool} (v : Word) (s : State) (h0 : W (.com .dxd .regs) = true) (h1 : W (.com .dxd .pgEvent) = true) (h2 : W (.com .dxd .ic) = true) (h3 : W .referee = true) (h4 : W .ledger = true) (h5 : W (.com .dxd .ports) = true) :
    (complaintWrite v s).blank W = s.blank W := by
  unfold complaintWrite
  (repeat' split) <;> simp [State.blank, Com.blank, Tsu.blank, Dxd.blank, h0, h1, h2, h3, h4, h5]

@[simp ↓] theorem complaintTimeout_blank {W : Part → Bool} (s : State) (h0 : W (.com .dxd .pgEvent) = true) (h1 : W (.com .dxd .ic) = true) (h2 : W .referee = true) :
    (complaintTimeout s).blank W = s.blank W := by simp [complaintTimeout, Com.blank, Tsu.blank, Dxd.blank, h0, h1, h2]

@[simp ↓] theorem commitDurable_blank {W : Part → Bool} (c : LedgerRec) (s : State) (h0 : W .referee = true) (h1 : W (.com .dxd .pgEvent) = true) (h2 : W (.com .dxd .ic) = true) (h3 : W .scores = true) (h4 : W .ledger = true) (h5 : W .kicks = true) (h6 : W .census = true) (h7 : W (.com .dxd .ports) = true) :
    (commitDurable c s).blank W = s.blank W := by
  unfold commitDurable
  dsimp only
  (repeat' split) <;> simp [Com.blank, Tsu.blank, Dxd.blank, h0, h1, h2, h3, h4, h5, h6, h7]

@[simp ↓] theorem clearUnpaired_blank {W : Part → Bool} (s : State) (h0 : W .referee = true) :
    (clearUnpaired s).blank W = s.blank W := by simp [clearUnpaired, Com.blank, Tsu.blank, Dxd.blank, h0]

@[simp ↓] theorem putJob_blank {W : Part → Bool} (b : Job) (s : State) (h0 : W .referee = true) :
    (putJob b s).blank W = s.blank W := by simp [putJob, Com.blank, Tsu.blank, Dxd.blank, h0]

@[simp ↓] theorem acceptJob_blank {W : Part → Bool} (b : Job) (s : State) (h0 : W .census = true) (h1 : W .referee = true) (h2 : W (.com .dxd .pgEvent) = true) (h3 : W (.com .dxd .ic) = true) (h4 : W .ledger = true) (h5 : W (.com .dxd .ports) = true) (h6 : W .scores = true) :
    (acceptJob b s).blank W = s.blank W := by
  unfold acceptJob
  (repeat' split) <;> simp [State.blank, Com.blank, Tsu.blank, Dxd.blank, h0, h1, h2, h3, h4, h5, h6]

@[simp ↓] theorem submitJob_blank {W : Part → Bool} (off : Nat) (s : State) (h0 : W (.com .dxd .pgEvent) = true) (h1 : W (.com .dxd .ic) = true) (h2 : W .referee = true) (h3 : W .census = true) (h4 : W .ledger = true) (h5 : W (.com .dxd .ports) = true) (h6 : W .scores = true) :
    (submitJob off s).blank W = s.blank W := by
  unfold submitJob
  (repeat' split) <;> simp [State.blank, Com.blank, Tsu.blank, Dxd.blank, h0, h1, h2, h3, h4, h5, h6]

@[simp ↓] theorem resumeJob_blank {W : Part → Bool} (off : Nat) (s : State) (h0 : W .referee = true) (h1 : W (.com .dxd .pgEvent) = true) (h2 : W (.com .dxd .ic) = true) (h3 : W .ledger = true) (h4 : W (.com .dxd .ports) = true) (h5 : W .scores = true) (h6 : W (.com .dxd .regs) = true) (h7 : W .census = true) (h8 : W .kicks = true) :
    (resumeJob off s).blank W = s.blank W := by
  unfold resumeJob
  dsimp only
  (repeat' split) <;> simp [Com.blank, Tsu.blank, Dxd.blank, h0, h1, h2, h3, h4, h5, h6, h7, h8]

@[simp ↓] theorem operatorBench_blank {W : Part → Bool} (die : Nat) (s : State) (h0 : W .referee = true) (h1 : W (.com .dxd .pgEvent) = true) (h2 : W (.com .dxd .ic) = true) (h3 : W .ledger = true) (h4 : W (.com .dxd .ports) = true) (h5 : W .scores = true) (h6 : W (.com .dxd .regs) = true) (h7 : W .census = true) (h8 : W .kicks = true) :
    (operatorBench die s).blank W = s.blank W := by
  unfold operatorBench
  (repeat' split) <;> simp [State.blank, Com.blank, Tsu.blank, Dxd.blank, h0, h1, h2, h3, h4, h5, h6, h7, h8]

@[simp ↓] theorem jobCmdWrite_blank {W : Part → Bool} (v : Word) (s : State) (h0 : W (.com .dxd .pgEvent) = true) (h1 : W (.com .dxd .ic) = true) (h2 : W .referee = true) (h3 : W .census = true) (h4 : W .ledger = true) (h5 : W (.com .dxd .ports) = true) (h6 : W .scores = true) (h7 : W (.com .dxd .regs) = true) (h8 : W .kicks = true) :
    (jobCmdWrite v s).blank W = s.blank W := by
  unfold jobCmdWrite
  (repeat' split) <;> simp [Com.blank, Tsu.blank, Dxd.blank, h0, h1, h2, h3, h4, h5, h6, h7, h8]

@[simp ↓] theorem closingRenew_blank {W : Part → Bool} (b : Job) (s : State) (h0 : W (.com .dxd .pgEvent) = true) (h1 : W (.com .dxd .ic) = true) (h2 : W .referee = true) (h3 : W .ledger = true) (h4 : W (.com .dxd .ports) = true) (h5 : W .scores = true) (h6 : W .census = true) (h7 : W .kicks = true) :
    (closingRenew b s).blank W = s.blank W := by
  unfold closingRenew
  (repeat' split) <;> simp [State.blank, Com.blank, Tsu.blank, Dxd.blank, h0, h1, h2, h3, h4, h5, h6, h7]

@[simp ↓] theorem jobEnd_blank {W : Part → Bool} (j : Nat) (s : State) (h0 : W (.com .dxd .pgEvent) = true) (h1 : W (.com .dxd .ic) = true) (h2 : W .referee = true) (h3 : W .ledger = true) (h4 : W (.com .dxd .ports) = true) (h5 : W .scores = true) (h6 : W .census = true) (h7 : W .kicks = true) :
    (jobEnd j s).blank W = s.blank W := by
  unfold jobEnd
  (repeat' split) <;> simp [State.blank, Com.blank, Tsu.blank, Dxd.blank, h0, h1, h2, h3, h4, h5, h6, h7]

@[simp ↓] theorem spareWrite_blank {W : Part → Bool} (v : Word) (s : State) (h0 : W .referee = true) (h1 : W (.com .dxd .pgEvent) = true) (h2 : W (.com .dxd .ic) = true) (h3 : W (.com .dxd .ports) = true) (h4 : W .ledger = true) :
    (spareWrite v s).blank W = s.blank W := by simp (maxDischargeDepth := 12) [spareWrite, Com.blank, Tsu.blank, Dxd.blank, h0, h1, h2, h3, h4]

@[simp ↓] theorem retryRecords_blank {W : Part → Bool} (s : State) (h0 : W (.com .dxd .pgEvent) = true) (h1 : W (.com .dxd .ic) = true) (h2 : W .referee = true) (h3 : W .ledger = true) (h4 : W .kicks = true) (h5 : W (.com .dxd .ports) = true) (h6 : W .census = true) (h7 : W (.com .dxd .seen) = true) (h8 : W .scores = true) :
    (retryRecords s).blank W = s.blank W := by simp [retryRecords, Com.blank, Tsu.blank, Dxd.blank, h0, h1, h2, h3, h4, h5, h6, h7, h8]

@[simp ↓] theorem exportedWrite_blank {W : Part → Bool} (v : Word) (s : State) (h0 : W .ledger = true) (h1 : W (.com .dxd .pgEvent) = true) (h2 : W (.com .dxd .ic) = true) (h3 : W .referee = true) (h4 : W .kicks = true) (h5 : W (.com .dxd .ports) = true) (h6 : W .census = true) (h7 : W (.com .dxd .seen) = true) (h8 : W .scores = true) :
    (exportedWrite v s).blank W = s.blank W := by simp [exportedWrite, Com.blank, Tsu.blank, Dxd.blank, h0, h1, h2, h3, h4, h5, h6, h7, h8]

@[simp ↓] theorem ckptMark_blank {W : Part → Bool} (j : Nat) (step : Nat) (s : State) (h0 : W .referee = true) :
    (ckptMark j step s).blank W = s.blank W := by
  unfold ckptMark
  (repeat' split) <;> simp [Com.blank, Tsu.blank, Dxd.blank, h0]

@[simp ↓] theorem ckptSaved_blank {W : Part → Bool} (j : Nat) (step : Nat) (s : State) (h0 : W (.com .dxd .pgEvent) = true) (h1 : W (.com .dxd .ic) = true) (h2 : W .referee = true) (h3 : W .ledger = true) :
    (ckptSaved j step s).blank W = s.blank W := by
  unfold ckptSaved
  (repeat' split) <;> simp [Com.blank, Tsu.blank, Dxd.blank, h0, h1, h2, h3]

@[simp ↓] theorem ckptWrite_blank {W : Part → Bool} (v : Word) (s : State) (h0 : W (.com .dxd .pgEvent) = true) (h1 : W (.com .dxd .ic) = true) (h2 : W .referee = true) (h3 : W .ledger = true) :
    (ckptWrite v s).blank W = s.blank W := by simp [ckptWrite, Com.blank, Tsu.blank, Dxd.blank, h0, h1, h2, h3]

end Sys2Proof.Machine
end

