-- ==== Sys2Proof/Laws/FrameShadow.lean ====
section
/-!
SUPPORT. What the operations of Machine/Shadow.lean can change.
-/

namespace Sys2Proof.Machine

@[simp ↓] theorem mirrorStart_blank {W : Part → Bool} (c : JobCopy) (s : State) (h0 : W .census = true) (h1 : W .referee = true) :
    (mirrorStart c s).blank W = s.blank W := by simp [mirrorStart, Com.blank, Tsu.blank, Dxd.blank, h0, h1]

@[simp ↓] theorem modEpochJob_blank {W : Part → Bool} (ep : Nat) (f : Job → Job) (s : State) (h0 : W .referee = true) :
    (modEpochJob ep f s).blank W = s.blank W := by simp [modEpochJob, Com.blank, Tsu.blank, Dxd.blank, h0]

@[simp ↓] theorem mirrorEpoch_blank {W : Part → Bool} (r : LedgerRec) (s : State) (h0 : W .referee = true) :
    (mirrorEpoch r s).blank W = s.blank W := by
  unfold mirrorEpoch
  dsimp only
  (repeat' split) <;> simp [Com.blank, Tsu.blank, Dxd.blank, h0]

@[simp ↓] theorem mirrorCommit_blank {W : Part → Bool} (r : LedgerRec) (s : State) (h0 : W .referee = true) (h1 : W .scores = true) :
    (mirrorCommit r s).blank W = s.blank W := by simp [mirrorCommit, Com.blank, Tsu.blank, Dxd.blank, h0, h1]

@[simp ↓] theorem mirrorEnd_blank {W : Part → Bool} (r : LedgerRec) (s : State) (h0 : W .referee = true) :
    (mirrorEnd r s).blank W = s.blank W := by simp [mirrorEnd, Com.blank, Tsu.blank, Dxd.blank, h0]

@[simp ↓] theorem mirrorRecord_blank {W : Part → Bool} (js : List JobCopy) (r : LedgerRec) (s : State) (h0 : W .census = true) (h1 : W .referee = true) (h2 : W .scores = true) :
    (mirrorRecord js r s).blank W = s.blank W := by
  unfold mirrorRecord
  (repeat' split) <;> simp [Com.blank, Tsu.blank, Dxd.blank, h0, h1, h2]

@[simp ↓] theorem shadowRecord_blank {W : Part → Bool} (js : List JobCopy) (r : LedgerRec) (s : State) (h0 : W .census = true) (h1 : W .referee = true) (h2 : W .scores = true) (h3 : W .ledger = true) :
    (shadowRecord js r s).blank W = s.blank W := by simp [shadowRecord, Com.blank, Tsu.blank, Dxd.blank, h0, h1, h2, h3]

@[simp ↓] theorem recordDurable_blank {W : Part → Bool} (seq : Nat) (s : State) (h0 : W .ledger = true) (h1 : W .referee = true) (h2 : W (.com .dxd .pgEvent) = true) (h3 : W (.com .dxd .ic) = true) (h4 : W .scores = true) (h5 : W .kicks = true) (h6 : W .census = true) (h7 : W (.com .dxd .ports) = true) :
    (recordDurable seq s).blank W = s.blank W := by
  unfold recordDurable
  (repeat' split) <;> simp [Com.blank, Tsu.blank, Dxd.blank, h0, h1, h2, h3, h4, h5, h6, h7]

@[simp ↓] theorem resumeBench_blank {W : Part → Bool} (b : Job) (s : State) (h0 : W (.com .dxd .pgEvent) = true) (h1 : W (.com .dxd .ic) = true) (h2 : W .referee = true) (h3 : W .ledger = true) (h4 : W (.com .dxd .ports) = true) (h5 : W .kicks = true) (h6 : W .scores = true) (h7 : W .census = true) :
    (resumeBench b s).blank W = s.blank W := by
  unfold resumeBench
  (repeat' split) <;> simp [Com.blank, Tsu.blank, Dxd.blank, h0, h1, h2, h3, h4, h5, h6, h7]

@[simp ↓] theorem resumeJobs_blank {W : Part → Bool} (s : State) (h0 : W (.com .dxd .pgEvent) = true) (h1 : W (.com .dxd .ic) = true) (h2 : W .referee = true) (h3 : W .ledger = true) (h4 : W (.com .dxd .ports) = true) (h5 : W .kicks = true) (h6 : W .scores = true) (h7 : W .census = true) :
    (resumeJobs s).blank W = s.blank W := by
  unfold resumeJobs
  dsimp only
  (repeat' split) <;> first
    | (simp (maxDischargeDepth := 12) [Com.blank, Tsu.blank, Dxd.blank, h0, h1, h2, h3, h4, h5, h6, h7]; done)
    | (exfalso; simp_all; done)
    | (refine (foldl_blank _ _ _ ?_).trans ?_
       · intro s a
         (repeat' split) <;> simp (maxDischargeDepth := 12) [Com.blank, Tsu.blank, Dxd.blank, h0, h1, h2, h3, h4, h5, h6, h7]
       · simp (maxDischargeDepth := 12) [Com.blank, Tsu.blank, Dxd.blank, h0, h1, h2, h3, h4, h5, h6, h7])

@[simp ↓] theorem rootTakeover_blank {W : Part → Bool} (s : State) (h0 : W (.com .dxd .pgEvent) = true) (h1 : W (.com .dxd .ic) = true) (h2 : W .ledger = true) (h3 : W .referee = true) (h4 : W (.com .dxd .ports) = true) (h5 : W .kicks = true) (h6 : W .scores = true) (h7 : W .census = true) (h8 : W (.com .dxd .tk) = true) (h9 : W .refs = true) (h10 : W .ptp = true) (h11 : W .hold = true) (h12 : W (.com .dxd .coreA) = true) (h13 : W (.com .dxd .coreB) = true) (h14 : W (.com .dxd .hfits) = true) (h15 : W (.com .dxd .msets) = true) (h16 : W .attic = true) :
    (rootTakeover s).blank W = s.blank W := by simp [rootTakeover, Com.blank, Tsu.blank, Dxd.blank, h0, h1, h2, h3, h4, h5, h6, h7, h8, h9, h10, h11, h12, h13, h14, h15, h16]

@[simp ↓] theorem copyJobs_blank {W : Part → Bool} (recs : List LedgerRec) (js : List JobCopy) (s : State) (h0 : W .referee = true) (h1 : W .census = true) (h2 : W .scores = true) :
    (copyJobs recs js s).blank W = s.blank W := by simp [copyJobs, Com.blank, Tsu.blank, Dxd.blank, h0, h1, h2]

@[simp ↓] theorem adoptLog_blank {W : Part → Bool} (recs : List LedgerRec) (s : State) (h0 : W .referee = true) (h1 : W .ledger = true) :
    (adoptLog recs s).blank W = s.blank W := by simp [adoptLog, Com.blank, Tsu.blank, Dxd.blank, h0, h1]

@[simp ↓] theorem ledgerCopied_blank {W : Part → Bool} (recs : List LedgerRec) (js : List JobCopy) (s : State) (h0 : W .ledger = true) (h1 : W .referee = true) (h2 : W .census = true) (h3 : W .scores = true) :
    (ledgerCopied recs js s).blank W = s.blank W := by simp [ledgerCopied, Com.blank, Tsu.blank, Dxd.blank, h0, h1, h2, h3]

end Sys2Proof.Machine
end

