-- ==== Sys2Proof/Laws/FrameInterrupts.lean ====
section
/-!
SUPPORT. What the operations of Machine/Interrupts.lean can change.
-/

namespace Sys2Proof.Machine

@[simp ↓] theorem modIcSrc_tsu_blank {W : Part → Bool} (n : Nat) (f : IcSrc → IcSrc) (s : State) (h0 : W (.com .tsu .ic) = true) :
    (modIcSrc .tsu n f s).blank W = s.blank W := by simp [modIcSrc, Com.blank, Tsu.blank, Dxd.blank, h0]

@[simp ↓] theorem modIcSrc_dxd_blank {W : Part → Bool} (n : Nat) (f : IcSrc → IcSrc) (s : State) (h0 : W (.com .dxd .ic) = true) :
    (modIcSrc .dxd n f s).blank W = s.blank W := by simp [modIcSrc, Com.blank, Tsu.blank, Dxd.blank, h0]

@[simp ↓] theorem sourceRaise_dxd_blank {W : Part → Bool} (n : Nat) (s : State) (h0 : W (.com .dxd .ic) = true) :
    (sourceRaise .dxd n s).blank W = s.blank W := by simp [sourceRaise, Com.blank, Tsu.blank, Dxd.blank, h0]

@[simp ↓] theorem sourceRaise_tsu_blank {W : Part → Bool} (n : Nat) (s : State) (h0 : W (.com .tsu .ic) = true) :
    (sourceRaise .tsu n s).blank W = s.blank W := by simp [sourceRaise, Com.blank, Tsu.blank, Dxd.blank, h0]

@[simp ↓] theorem sourceFall_tsu_blank {W : Part → Bool} (n : Nat) (s : State) (h0 : W (.com .tsu .ic) = true) :
    (sourceFall .tsu n s).blank W = s.blank W := by simp [sourceFall, Com.blank, Tsu.blank, Dxd.blank, h0]

@[simp ↓] theorem sourceFall_dxd_blank {W : Part → Bool} (n : Nat) (s : State) (h0 : W (.com .dxd .ic) = true) :
    (sourceFall .dxd n s).blank W = s.blank W := by simp [sourceFall, Com.blank, Tsu.blank, Dxd.blank, h0]

@[simp ↓] theorem coalesceTimeout_tsu_blank {W : Part → Bool} (n : Nat) (s : State) (h0 : W (.com .tsu .ic) = true) :
    (coalesceTimeout .tsu n s).blank W = s.blank W := by simp [coalesceTimeout, Com.blank, Tsu.blank, Dxd.blank, h0]

@[simp ↓] theorem coalesceTimeout_dxd_blank {W : Part → Bool} (n : Nat) (s : State) (h0 : W (.com .dxd .ic) = true) :
    (coalesceTimeout .dxd n s).blank W = s.blank W := by simp [coalesceTimeout, Com.blank, Tsu.blank, Dxd.blank, h0]

@[simp ↓] theorem claimEffect_tsu_blank {W : Part → Bool} (t : Nat) (s : State) (h0 : W (.com .tsu .ic) = true) :
    (claimEffect .tsu t s).blank W = s.blank W := by
  unfold claimEffect
  (repeat' split) <;> simp [Com.blank, Tsu.blank, Dxd.blank, h0]

@[simp ↓] theorem claimEffect_dxd_blank {W : Part → Bool} (t : Nat) (s : State) (h0 : W (.com .dxd .ic) = true) :
    (claimEffect .dxd t s).blank W = s.blank W := by
  unfold claimEffect
  (repeat' split) <;> simp [Com.blank, Tsu.blank, Dxd.blank, h0]

@[simp ↓] theorem icClaim_tsu_blank {W : Part → Bool} (rq : Nat) (t : Nat) (s : State) (h0 : W (.com .tsu .bt) = true) (h1 : W (.com .tsu .rsp) = true) (h2 : W (.com .tsu .ic) = true) :
    (icClaim .tsu rq t s).blank W = s.blank W := by simp [icClaim, Com.blank, Tsu.blank, Dxd.blank, h0, h1, h2]

@[simp ↓] theorem icClaim_dxd_blank {W : Part → Bool} (rq : Nat) (t : Nat) (s : State) (h0 : W (.com .dxd .badAccess) = true) (h1 : W (.com .dxd .barLow) = true) (h2 : W (.com .dxd .barCap) = true) (h3 : W (.com .dxd .bt) = true) (h4 : W (.com .dxd .rsp) = true) (h5 : W (.com .dxd .ic) = true) :
    (icClaim .dxd rq t s).blank W = s.blank W := by simp [icClaim, Com.blank, Tsu.blank, Dxd.blank, h0, h1, h2, h3, h4, h5]

@[simp ↓] theorem completeWrite_tsu_blank {W : Part → Bool} (t : Nat) (v : Word) (s : State) (h0 : W (.com .tsu .ic) = true) (h1 : W (.com .tsu .pgEvent) = true) :
    (completeWrite .tsu t v s).blank W = s.blank W := by simp [completeWrite, Com.blank, Tsu.blank, Dxd.blank, h0, h1]

@[simp ↓] theorem completeWrite_dxd_blank {W : Part → Bool} (t : Nat) (v : Word) (s : State) (h0 : W (.com .dxd .ic) = true) (h1 : W (.com .dxd .pgEvent) = true) :
    (completeWrite .dxd t v s).blank W = s.blank W := by simp [completeWrite, Com.blank, Tsu.blank, Dxd.blank, h0, h1]

@[simp ↓] theorem icComplete_dxd_blank {W : Part → Bool} (rq : Nat) (t : Nat) (v : Word) (s : State) (h0 : W (.com .dxd .badAccess) = true) (h1 : W (.com .dxd .barLow) = true) (h2 : W (.com .dxd .barCap) = true) (h3 : W (.com .dxd .bt) = true) (h4 : W (.com .dxd .lockRefused) = true) (h5 : W (.com .dxd .ic) = true) (h6 : W (.com .dxd .pgEvent) = true) :
    (icComplete .dxd rq t v s).blank W = s.blank W := by simp [icComplete, Com.blank, Tsu.blank, Dxd.blank, h0, h1, h2, h3, h4, h5, h6]

@[simp ↓] theorem icComplete_tsu_blank {W : Part → Bool} (rq : Nat) (t : Nat) (v : Word) (s : State) (h0 : W (.com .tsu .bt) = true) (h1 : W (.com .tsu .lockRefused) = true) (h2 : W (.com .tsu .ic) = true) (h3 : W (.com .tsu .pgEvent) = true) :
    (icComplete .tsu rq t v s).blank W = s.blank W := by simp [icComplete, Com.blank, Tsu.blank, Dxd.blank, h0, h1, h2, h3]

@[simp ↓] theorem srcCfgWrite_dxd_blank {W : Part → Bool} (n : Nat) (v : Word) (s : State) (h0 : W (.com .dxd .ic) = true) (h1 : W (.com .dxd .pgEvent) = true) :
    (srcCfgWrite .dxd n v s).blank W = s.blank W := by simp [srcCfgWrite, Com.blank, Tsu.blank, Dxd.blank, h0, h1]

@[simp ↓] theorem srcCfgWrite_tsu_blank {W : Part → Bool} (n : Nat) (v : Word) (s : State) (h0 : W (.com .tsu .ic) = true) (h1 : W (.com .tsu .pgEvent) = true) :
    (srcCfgWrite .tsu n v s).blank W = s.blank W := by simp [srcCfgWrite, Com.blank, Tsu.blank, Dxd.blank, h0, h1]

@[simp ↓] theorem icSourceCfg_tsu_blank {W : Part → Bool} (rq : Nat) (n : Nat) (v : Word) (s : State) (h0 : W (.com .tsu .bt) = true) (h1 : W (.com .tsu .lockRefused) = true) (h2 : W (.com .tsu .ic) = true) (h3 : W (.com .tsu .pgEvent) = true) :
    (icSourceCfg .tsu rq n v s).blank W = s.blank W := by simp [icSourceCfg, Com.blank, Tsu.blank, Dxd.blank, h0, h1, h2, h3]

@[simp ↓] theorem icSourceCfg_dxd_blank {W : Part → Bool} (rq : Nat) (n : Nat) (v : Word) (s : State) (h0 : W (.com .dxd .badAccess) = true) (h1 : W (.com .dxd .barLow) = true) (h2 : W (.com .dxd .barCap) = true) (h3 : W (.com .dxd .bt) = true) (h4 : W (.com .dxd .lockRefused) = true) (h5 : W (.com .dxd .ic) = true) (h6 : W (.com .dxd .pgEvent) = true) :
    (icSourceCfg .dxd rq n v s).blank W = s.blank W := by simp [icSourceCfg, Com.blank, Tsu.blank, Dxd.blank, h0, h1, h2, h3, h4, h5, h6]

@[simp ↓] theorem targetCtlWrite_tsu_blank {W : Part → Bool} (t : Nat) (v : Word) (s : State) (h0 : W (.com .tsu .ic) = true) :
    (targetCtlWrite .tsu t v s).blank W = s.blank W := by simp [targetCtlWrite, Com.blank, Tsu.blank, Dxd.blank, h0]

@[simp ↓] theorem targetCtlWrite_dxd_blank {W : Part → Bool} (t : Nat) (v : Word) (s : State) (h0 : W (.com .dxd .ic) = true) :
    (targetCtlWrite .dxd t v s).blank W = s.blank W := by simp [targetCtlWrite, Com.blank, Tsu.blank, Dxd.blank, h0]

@[simp ↓] theorem sleepWrite_tsu_blank {W : Part → Bool} (s : State) (h0 : W (.com .tsu .pgEvent) = true) (h1 : W (.com .tsu .ic) = true) :
    (sleepWrite .tsu s).blank W = s.blank W := by simp [sleepWrite, Com.blank, Tsu.blank, Dxd.blank, h0, h1]

@[simp ↓] theorem sleepWrite_dxd_blank {W : Part → Bool} (s : State) (h0 : W (.com .dxd .pgEvent) = true) (h1 : W (.com .dxd .ic) = true) :
    (sleepWrite .dxd s).blank W = s.blank W := by simp [sleepWrite, Com.blank, Tsu.blank, Dxd.blank, h0, h1]

@[simp ↓] theorem icCtlWrite_tsu_blank {W : Part → Bool} (v : Word) (s : State) (h0 : W (.com .tsu .ic) = true) (h1 : W (.com .tsu .pgEvent) = true) :
    (icCtlWrite .tsu v s).blank W = s.blank W := by simp [icCtlWrite, Com.blank, Tsu.blank, Dxd.blank, h0, h1]

@[simp ↓] theorem icCtlWrite_dxd_blank {W : Part → Bool} (v : Word) (s : State) (h0 : W (.com .dxd .ic) = true) (h1 : W (.com .dxd .pgEvent) = true) :
    (icCtlWrite .dxd v s).blank W = s.blank W := by simp [icCtlWrite, Com.blank, Tsu.blank, Dxd.blank, h0, h1]

@[simp ↓] theorem watchedRise_tsu_blank {W : Part → Bool} (n : Nat) (timingOn : Bool) (s : State) (h0 : W (.com .tsu .ic) = true) :
    (watchedRise .tsu n timingOn s).blank W = s.blank W := by simp [watchedRise, Com.blank, Tsu.blank, Dxd.blank, h0]

@[simp ↓] theorem watchedRise_dxd_blank {W : Part → Bool} (n : Nat) (timingOn : Bool) (s : State) (h0 : W (.com .dxd .ic) = true) :
    (watchedRise .dxd n timingOn s).blank W = s.blank W := by simp [watchedRise, Com.blank, Tsu.blank, Dxd.blank, h0]

@[simp ↓] theorem icWake_tsu_blank {W : Part → Bool} (s : State) (h0 : W (.com .tsu .pgEvent) = true) (h1 : W (.com .tsu .ic) = true) :
    (icWake .tsu s).blank W = s.blank W := by simp [icWake, Com.blank, Tsu.blank, Dxd.blank, h0, h1]

@[simp ↓] theorem icWake_dxd_blank {W : Part → Bool} (s : State) (h0 : W (.com .dxd .pgEvent) = true) (h1 : W (.com .dxd .ic) = true) :
    (icWake .dxd s).blank W = s.blank W := by simp [icWake, Com.blank, Tsu.blank, Dxd.blank, h0, h1]

@[simp ↓] theorem icLocalWrite_tsu_blank {W : Part → Bool} (v : Word) (s : State) (h0 : W (.com .tsu .ic) = true) :
    (icLocalWrite .tsu v s).blank W = s.blank W := by simp [icLocalWrite, Com.blank, Tsu.blank, Dxd.blank, h0]

@[simp ↓] theorem icLocalWrite_dxd_blank {W : Part → Bool} (v : Word) (s : State) :
    (icLocalWrite .dxd v s).blank W = s.blank W := by simp [icLocalWrite, Com.blank, Tsu.blank, Dxd.blank]

@[simp ↓] theorem clearStray_tsu_blank {W : Part → Bool} (s : State) (h0 : W (.com .tsu .ic) = true) :
    (clearStray .tsu s).blank W = s.blank W := by simp [clearStray, Com.blank, Tsu.blank, Dxd.blank, h0]

@[simp ↓] theorem clearStray_dxd_blank {W : Part → Bool} (s : State) (h0 : W (.com .dxd .ic) = true) :
    (clearStray .dxd s).blank W = s.blank W := by simp [clearStray, Com.blank, Tsu.blank, Dxd.blank, h0]

end Sys2Proof.Machine
end

