-- ==== Sys2Proof/Laws/FrameBoot.lean ====
section
/-!
SUPPORT. What the operations of Machine/Boot.lean can change.
-/

namespace Sys2Proof.Machine

@[simp ↓] theorem warmReset_dxd_blank {W : Part → Bool} (s : State) (h0 : W (.com .dxd .boot) = true) (h1 : W (.com .dxd .up) = true) (h2 : W (.com .dxd .beats) = true) (h3 : W (.com .dxd .tk) = true) (h4 : W (.com .dxd .coreA) = true) (h5 : W (.com .dxd .coreB) = true) (h6 : W (.com .dxd .ports) = true) (h7 : W (.com .dxd .chans) = true) (h8 : W (.com .dxd .msets) = true) (h9 : W (.com .dxd .hfits) = true) (h10 : W (.com .dxd .regs) = true) (h11 : W (.com .dxd .pgEvent) = true) (h12 : W (.com .dxd .pgEn) = true) (h13 : W (.com .dxd .badAccess) = true) (h14 : W (.com .dxd .lockRefused) = true) (h15 : W (.com .dxd .lockKey) = true) (h16 : W (.com .dxd .ic) = true) (h17 : W (.com .dxd .bt) = true) (h18 : W (.com .dxd .ta) = true) (h19 : W (.com .dxd .barCap) = true) (h20 : W (.com .dxd .barLow) = true) (h21 : W (.com .dxd .rsp) = true) (h22 : W (.com .dxd .oseq) = true) (h23 : W (.com .dxd .seen) = true) (h24 : W (.com .dxd .censusTree) = true) (h25 : W .straps = true) (h26 : W .refs = true) (h27 : W .hold = true) (h28 : W .outs = true) (h29 : W .ptp = true) (h30 : W .kicks = true) (h31 : W .strobe = true) (h32 : W .census = true) (h33 : W .scores = true) (h34 : W .ledger = true) (h35 : W .referee = true) (h36 : W .attic = true) (h37 : W .ownOff = true) (h38 : W .twinOff = true) (h39 : W .subsystem = true) :
    (warmReset .dxd s).blank W = s.blank W := by simp (maxDischargeDepth := 12) [warmReset, freshCom, freshDxd, Com.blank, Tsu.blank, Dxd.blank, h0, h1, h2, h3, h4, h5, h6, h7, h8, h9, h10, h11, h12, h13, h14, h15, h16, h17, h18, h19, h20, h21, h22, h23, h24, h25, h26, h27, h28, h29, h30, h31, h32, h33, h34, h35, h36, h37, h38, h39]

@[simp ↓] theorem warmReset_tsu_blank {W : Part → Bool} (s : State) (h0 : W (.com .tsu .boot) = true) (h1 : W (.com .tsu .up) = true) (h2 : W (.com .tsu .beats) = true) (h3 : W (.com .tsu .tk) = true) (h4 : W (.com .tsu .coreA) = true) (h5 : W (.com .tsu .coreB) = true) (h6 : W (.com .tsu .ports) = true) (h7 : W (.com .tsu .chans) = true) (h8 : W (.com .tsu .msets) = true) (h9 : W (.com .tsu .hfits) = true) (h10 : W (.com .tsu .regs) = true) (h11 : W (.com .tsu .pgEvent) = true) (h12 : W (.com .tsu .pgEn) = true) (h13 : W (.com .tsu .badAccess) = true) (h14 : W (.com .tsu .lockRefused) = true) (h15 : W (.com .tsu .lockKey) = true) (h16 : W (.com .tsu .ic) = true) (h17 : W (.com .tsu .bt) = true) (h18 : W (.com .tsu .ta) = true) (h19 : W (.com .tsu .barCap) = true) (h20 : W (.com .tsu .barLow) = true) (h21 : W (.com .tsu .rsp) = true) (h22 : W (.com .tsu .oseq) = true) (h23 : W (.com .tsu .seen) = true) (h24 : W (.com .tsu .censusTree) = true) (h25 : W .stock = true) (h26 : W .steps = true) (h27 : W .member = true) (h28 : W .cue = true) (h29 : W .signals = true) (h30 : W .huddles = true) (h31 : W .keyPort = true) (h32 : W .tallies = true) (h33 : W .bays = true) (h34 : W .kickPins = true) :
    (warmReset .tsu s).blank W = s.blank W := by simp (maxDischargeDepth := 12) [warmReset, freshCom, freshDxd, Com.blank, Tsu.blank, Dxd.blank, h0, h1, h2, h3, h4, h5, h6, h7, h8, h9, h10, h11, h12, h13, h14, h15, h16, h17, h18, h19, h20, h21, h22, h23, h24, h25, h26, h27, h28, h29, h30, h31, h32, h33, h34]

@[simp ↓] theorem laneDown_blank {W : Part → Bool} (p : Nat) (s : State) (h0 : W (.com .tsu .ports) = true) :
    (laneDown p s).blank W = s.blank W := by simp [laneDown, Com.blank, Tsu.blank, Dxd.blank, h0]

@[simp ↓] theorem enterCellar_tsu_blank {W : Part → Bool} (reason : Nat) (s : State) (h0 : W .steps = true) (h1 : W .tallies = true) (h2 : W (.com .tsu .ports) = true) (h3 : W .huddles = true) (h4 : W .cue = true) (h5 : W (.com .tsu .pgEvent) = true) (h6 : W (.com .tsu .ic) = true) (h7 : W .signals = true) (h8 : W .member = true) (h9 : W (.com .tsu .tk) = true) (h10 : W (.com .tsu .coreA) = true) (h11 : W (.com .tsu .coreB) = true) (h12 : W (.com .tsu .chans) = true) (h13 : W (.com .tsu .msets) = true) (h14 : W (.com .tsu .hfits) = true) (h15 : W (.com .tsu .regs) = true) (h16 : W (.com .tsu .pgEn) = true) (h17 : W (.com .tsu .lockKey) = true) (h18 : W (.com .tsu .bt) = true) (h19 : W (.com .tsu .oseq) = true) (h20 : W (.com .tsu .seen) = true) (h21 : W (.com .tsu .censusTree) = true) (h22 : W (.com .tsu .boot) = true) (h23 : W .stock = true) (h24 : W .keyPort = true) (h25 : W .bays = true) (h26 : W .kickPins = true) :
    (enterCellar .tsu reason s).blank W = s.blank W := by simp (maxDischargeDepth := 12) [enterCellar, cellarCom, Com.blank, Tsu.blank, Dxd.blank, h0, h1, h2, h3, h4, h5, h6, h7, h8, h9, h10, h11, h12, h13, h14, h15, h16, h17, h18, h19, h20, h21, h22, h23, h24, h25, h26]

@[simp ↓] theorem enterCellar_dxd_blank {W : Part → Bool} (reason : Nat) (s : State) (h0 : W (.com .dxd .pgEvent) = true) (h1 : W (.com .dxd .ic) = true) (h2 : W .hold = true) (h3 : W (.com .dxd .tk) = true) (h4 : W (.com .dxd .coreA) = true) (h5 : W (.com .dxd .coreB) = true) (h6 : W (.com .dxd .chans) = true) (h7 : W (.com .dxd .msets) = true) (h8 : W (.com .dxd .hfits) = true) (h9 : W (.com .dxd .regs) = true) (h10 : W (.com .dxd .pgEn) = true) (h11 : W (.com .dxd .lockKey) = true) (h12 : W (.com .dxd .bt) = true) (h13 : W (.com .dxd .oseq) = true) (h14 : W (.com .dxd .seen) = true) (h15 : W (.com .dxd .censusTree) = true) (h16 : W (.com .dxd .boot) = true) (h17 : W .refs = true) (h18 : W .outs = true) (h19 : W .ptp = true) (h20 : W .kicks = true) (h21 : W .strobe = true) (h22 : W .census = true) (h23 : W .scores = true) (h24 : W .referee = true) (h25 : W .ownOff = true) (h26 : W .twinOff = true) (h27 : W .subsystem = true) (h28 : W .attic = true) (h29 : W (.com .dxd .ports) = true) :
    (enterCellar .dxd reason s).blank W = s.blank W := by simp (maxDischargeDepth := 12) [enterCellar, cellarCom, Com.blank, Tsu.blank, Dxd.blank, h0, h1, h2, h3, h4, h5, h6, h7, h8, h9, h10, h11, h12, h13, h14, h15, h16, h17, h18, h19, h20, h21, h22, h23, h24, h25, h26, h27, h28, h29]

@[simp ↓] theorem failStart_dxd_blank {W : Part → Bool} (reason : Nat) (s : State) (h0 : W (.com .dxd .pgEvent) = true) (h1 : W (.com .dxd .ic) = true) (h2 : W (.com .dxd .boot) = true) (h3 : W (.com .dxd .up) = true) (h4 : W (.com .dxd .beats) = true) (h5 : W (.com .dxd .tk) = true) (h6 : W (.com .dxd .coreA) = true) (h7 : W (.com .dxd .coreB) = true) (h8 : W (.com .dxd .ports) = true) (h9 : W (.com .dxd .chans) = true) (h10 : W (.com .dxd .msets) = true) (h11 : W (.com .dxd .hfits) = true) (h12 : W (.com .dxd .regs) = true) (h13 : W (.com .dxd .pgEn) = true) (h14 : W (.com .dxd .badAccess) = true) (h15 : W (.com .dxd .lockRefused) = true) (h16 : W (.com .dxd .lockKey) = true) (h17 : W (.com .dxd .bt) = true) (h18 : W (.com .dxd .ta) = true) (h19 : W (.com .dxd .barCap) = true) (h20 : W (.com .dxd .barLow) = true) (h21 : W (.com .dxd .rsp) = true) (h22 : W (.com .dxd .oseq) = true) (h23 : W (.com .dxd .seen) = true) (h24 : W (.com .dxd .censusTree) = true) (h25 : W .straps = true) (h26 : W .refs = true) (h27 : W .hold = true) (h28 : W .outs = true) (h29 : W .ptp = true) (h30 : W .kicks = true) (h31 : W .strobe = true) (h32 : W .census = true) (h33 : W .scores = true) (h34 : W .ledger = true) (h35 : W .referee = true) (h36 : W .attic = true) (h37 : W .ownOff = true) (h38 : W .twinOff = true) (h39 : W .subsystem = true) :
    (failStart .dxd reason s).blank W = s.blank W := by simp [failStart, Com.blank, Tsu.blank, Dxd.blank, h0, h1, h2, h3, h4, h5, h6, h7, h8, h9, h10, h11, h12, h13, h14, h15, h16, h17, h18, h19, h20, h21, h22, h23, h24, h25, h26, h27, h28, h29, h30, h31, h32, h33, h34, h35, h36, h37, h38, h39]

@[simp ↓] theorem failStart_tsu_blank {W : Part → Bool} (reason : Nat) (s : State) (h0 : W (.com .tsu .pgEvent) = true) (h1 : W (.com .tsu .ic) = true) (h2 : W (.com .tsu .boot) = true) (h3 : W (.com .tsu .up) = true) (h4 : W (.com .tsu .beats) = true) (h5 : W (.com .tsu .tk) = true) (h6 : W (.com .tsu .coreA) = true) (h7 : W (.com .tsu .coreB) = true) (h8 : W (.com .tsu .ports) = true) (h9 : W (.com .tsu .chans) = true) (h10 : W (.com .tsu .msets) = true) (h11 : W (.com .tsu .hfits) = true) (h12 : W (.com .tsu .regs) = true) (h13 : W (.com .tsu .pgEn) = true) (h14 : W (.com .tsu .badAccess) = true) (h15 : W (.com .tsu .lockRefused) = true) (h16 : W (.com .tsu .lockKey) = true) (h17 : W (.com .tsu .bt) = true) (h18 : W (.com .tsu .ta) = true) (h19 : W (.com .tsu .barCap) = true) (h20 : W (.com .tsu .barLow) = true) (h21 : W (.com .tsu .rsp) = true) (h22 : W (.com .tsu .oseq) = true) (h23 : W (.com .tsu .seen) = true) (h24 : W (.com .tsu .censusTree) = true) (h25 : W .stock = true) (h26 : W .steps = true) (h27 : W .member = true) (h28 : W .cue = true) (h29 : W .signals = true) (h30 : W .huddles = true) (h31 : W .keyPort = true) (h32 : W .tallies = true) (h33 : W .bays = true) (h34 : W .kickPins = true) :
    (failStart .tsu reason s).blank W = s.blank W := by simp [failStart, Com.blank, Tsu.blank, Dxd.blank, h0, h1, h2, h3, h4, h5, h6, h7, h8, h9, h10, h11, h12, h13, h14, h15, h16, h17, h18, h19, h20, h21, h22, h23, h24, h25, h26, h27, h28, h29, h30, h31, h32, h33, h34]

@[simp ↓] theorem powerOn_dxd_blank {W : Part → Bool} (pins : Pins) (s : State) (h0 : W (.com .dxd .boot) = true) (h1 : W (.com .dxd .up) = true) (h2 : W (.com .dxd .beats) = true) (h3 : W (.com .dxd .tk) = true) (h4 : W (.com .dxd .coreA) = true) (h5 : W (.com .dxd .coreB) = true) (h6 : W (.com .dxd .ports) = true) (h7 : W (.com .dxd .chans) = true) (h8 : W (.com .dxd .msets) = true) (h9 : W (.com .dxd .hfits) = true) (h10 : W (.com .dxd .regs) = true) (h11 : W (.com .dxd .pgEvent) = true) (h12 : W (.com .dxd .pgEn) = true) (h13 : W (.com .dxd .badAccess) = true) (h14 : W (.com .dxd .lockRefused) = true) (h15 : W (.com .dxd .lockKey) = true) (h16 : W (.com .dxd .ic) = true) (h17 : W (.com .dxd .bt) = true) (h18 : W (.com .dxd .ta) = true) (h19 : W (.com .dxd .barCap) = true) (h20 : W (.com .dxd .barLow) = true) (h21 : W (.com .dxd .rsp) = true) (h22 : W (.com .dxd .oseq) = true) (h23 : W (.com .dxd .seen) = true) (h24 : W (.com .dxd .censusTree) = true) (h25 : W .straps = true) (h26 : W .refs = true) (h27 : W .hold = true) (h28 : W .outs = true) (h29 : W .ptp = true) (h30 : W .kicks = true) (h31 : W .strobe = true) (h32 : W .census = true) (h33 : W .scores = true) (h34 : W .ledger = true) (h35 : W .referee = true) (h36 : W .attic = true) (h37 : W .ownOff = true) (h38 : W .twinOff = true) (h39 : W .subsystem = true) :
    (powerOn .dxd pins s).blank W = s.blank W := by
  unfold powerOn
  dsimp only
  split <;> simp (maxDischargeDepth := 12) [freshCom, freshDxd, Com.blank, Tsu.blank, Dxd.blank, h0, h1, h2, h3, h4, h5, h6, h7, h8, h9, h10, h11, h12, h13, h14, h15, h16, h17, h18, h19, h20, h21, h22, h23, h24, h25, h26, h27, h28, h29, h30, h31, h32, h33, h34, h35, h36, h37, h38, h39]

@[simp ↓] theorem powerOn_tsu_blank {W : Part → Bool} (pins : Pins) (s : State) (h0 : W .stock = true) (h1 : W (.com .tsu .boot) = true) (h2 : W (.com .tsu .up) = true) (h3 : W (.com .tsu .beats) = true) (h4 : W (.com .tsu .tk) = true) (h5 : W (.com .tsu .coreA) = true) (h6 : W (.com .tsu .coreB) = true) (h7 : W (.com .tsu .ports) = true) (h8 : W (.com .tsu .chans) = true) (h9 : W (.com .tsu .msets) = true) (h10 : W (.com .tsu .hfits) = true) (h11 : W (.com .tsu .regs) = true) (h12 : W (.com .tsu .pgEvent) = true) (h13 : W (.com .tsu .pgEn) = true) (h14 : W (.com .tsu .badAccess) = true) (h15 : W (.com .tsu .lockRefused) = true) (h16 : W (.com .tsu .lockKey) = true) (h17 : W (.com .tsu .ic) = true) (h18 : W (.com .tsu .bt) = true) (h19 : W (.com .tsu .ta) = true) (h20 : W (.com .tsu .barCap) = true) (h21 : W (.com .tsu .barLow) = true) (h22 : W (.com .tsu .rsp) = true) (h23 : W (.com .tsu .oseq) = true) (h24 : W (.com .tsu .seen) = true) (h25 : W (.com .tsu .censusTree) = true) (h26 : W .steps = true) (h27 : W .member = true) (h28 : W .cue = true) (h29 : W .signals = true) (h30 : W .huddles = true) (h31 : W .keyPort = true) (h32 : W .tallies = true) (h33 : W .bays = true) (h34 : W .kickPins = true) :
    (powerOn .tsu pins s).blank W = s.blank W := by simp (maxDischargeDepth := 12) [powerOn, freshCom, freshDxd, Com.blank, Tsu.blank, Dxd.blank, h0, h1, h2, h3, h4, h5, h6, h7, h8, h9, h10, h11, h12, h13, h14, h15, h16, h17, h18, h19, h20, h21, h22, h23, h24, h25, h26, h27, h28, h29, h30, h31, h32, h33, h34]

@[simp ↓] theorem fuseReadDone_tsu_blank {W : Part → Bool} (crcOk : Bool) (s : State) (h0 : W (.com .tsu .boot) = true) (h1 : W (.com .tsu .pgEvent) = true) (h2 : W (.com .tsu .ic) = true) (h3 : W (.com .tsu .up) = true) (h4 : W (.com .tsu .beats) = true) (h5 : W (.com .tsu .tk) = true) (h6 : W (.com .tsu .coreA) = true) (h7 : W (.com .tsu .coreB) = true) (h8 : W (.com .tsu .ports) = true) (h9 : W (.com .tsu .chans) = true) (h10 : W (.com .tsu .msets) = true) (h11 : W (.com .tsu .hfits) = true) (h12 : W (.com .tsu .regs) = true) (h13 : W (.com .tsu .pgEn) = true) (h14 : W (.com .tsu .badAccess) = true) (h15 : W (.com .tsu .lockRefused) = true) (h16 : W (.com .tsu .lockKey) = true) (h17 : W (.com .tsu .bt) = true) (h18 : W (.com .tsu .ta) = true) (h19 : W (.com .tsu .barCap) = true) (h20 : W (.com .tsu .barLow) = true) (h21 : W (.com .tsu .rsp) = true) (h22 : W (.com .tsu .oseq) = true) (h23 : W (.com .tsu .seen) = true) (h24 : W (.com .tsu .censusTree) = true) (h25 : W .stock = true) (h26 : W .steps = true) (h27 : W .member = true) (h28 : W .cue = true) (h29 : W .signals = true) (h30 : W .huddles = true) (h31 : W .keyPort = true) (h32 : W .tallies = true) (h33 : W .bays = true) (h34 : W .kickPins = true) :
    (fuseReadDone .tsu crcOk s).blank W = s.blank W := by simp [fuseReadDone, Com.blank, Tsu.blank, Dxd.blank, h0, h1, h2, h3, h4, h5, h6, h7, h8, h9, h10, h11, h12, h13, h14, h15, h16, h17, h18, h19, h20, h21, h22, h23, h24, h25, h26, h27, h28, h29, h30, h31, h32, h33, h34]

@[simp ↓] theorem fuseReadDone_dxd_blank {W : Part → Bool} (crcOk : Bool) (s : State) (h0 : W (.com .dxd .boot) = true) (h1 : W (.com .dxd .pgEvent) = true) (h2 : W (.com .dxd .ic) = true) (h3 : W (.com .dxd .up) = true) (h4 : W (.com .dxd .beats) = true) (h5 : W (.com .dxd .tk) = true) (h6 : W (.com .dxd .coreA) = true) (h7 : W (.com .dxd .coreB) = true) (h8 : W (.com .dxd .ports) = true) (h9 : W (.com .dxd .chans) = true) (h10 : W (.com .dxd .msets) = true) (h11 : W (.com .dxd .hfits) = true) (h12 : W (.com .dxd .regs) = true) (h13 : W (.com .dxd .pgEn) = true) (h14 : W (.com .dxd .badAccess) = true) (h15 : W (.com .dxd .lockRefused) = true) (h16 : W (.com .dxd .lockKey) = true) (h17 : W (.com .dxd .bt) = true) (h18 : W (.com .dxd .ta) = true) (h19 : W (.com .dxd .barCap) = true) (h20 : W (.com .dxd .barLow) = true) (h21 : W (.com .dxd .rsp) = true) (h22 : W (.com .dxd .oseq) = true) (h23 : W (.com .dxd .seen) = true) (h24 : W (.com .dxd .censusTree) = true) (h25 : W .straps = true) (h26 : W .refs = true) (h27 : W .hold = true) (h28 : W .outs = true) (h29 : W .ptp = true) (h30 : W .kicks = true) (h31 : W .strobe = true) (h32 : W .census = true) (h33 : W .scores = true) (h34 : W .ledger = true) (h35 : W .referee = true) (h36 : W .attic = true) (h37 : W .ownOff = true) (h38 : W .twinOff = true) (h39 : W .subsystem = true) :
    (fuseReadDone .dxd crcOk s).blank W = s.blank W := by simp [fuseReadDone, Com.blank, Tsu.blank, Dxd.blank, h0, h1, h2, h3, h4, h5, h6, h7, h8, h9, h10, h11, h12, h13, h14, h15, h16, h17, h18, h19, h20, h21, h22, h23, h24, h25, h26, h27, h28, h29, h30, h31, h32, h33, h34, h35, h36, h37, h38, h39]

@[simp ↓] theorem lbistDone_tsu_blank {W : Part → Bool} (sig : Word) (s : State) (h0 : W (.com .tsu .pgEvent) = true) (h1 : W (.com .tsu .ic) = true) (h2 : W (.com .tsu .boot) = true) (h3 : W (.com .tsu .up) = true) (h4 : W (.com .tsu .beats) = true) (h5 : W (.com .tsu .tk) = true) (h6 : W (.com .tsu .coreA) = true) (h7 : W (.com .tsu .coreB) = true) (h8 : W (.com .tsu .ports) = true) (h9 : W (.com .tsu .chans) = true) (h10 : W (.com .tsu .msets) = true) (h11 : W (.com .tsu .hfits) = true) (h12 : W (.com .tsu .regs) = true) (h13 : W (.com .tsu .pgEn) = true) (h14 : W (.com .tsu .badAccess) = true) (h15 : W (.com .tsu .lockRefused) = true) (h16 : W (.com .tsu .lockKey) = true) (h17 : W (.com .tsu .bt) = true) (h18 : W (.com .tsu .ta) = true) (h19 : W (.com .tsu .barCap) = true) (h20 : W (.com .tsu .barLow) = true) (h21 : W (.com .tsu .rsp) = true) (h22 : W (.com .tsu .oseq) = true) (h23 : W (.com .tsu .seen) = true) (h24 : W (.com .tsu .censusTree) = true) (h25 : W .stock = true) (h26 : W .steps = true) (h27 : W .member = true) (h28 : W .cue = true) (h29 : W .signals = true) (h30 : W .huddles = true) (h31 : W .keyPort = true) (h32 : W .tallies = true) (h33 : W .bays = true) (h34 : W .kickPins = true) :
    (lbistDone .tsu sig s).blank W = s.blank W := by simp [lbistDone, Com.blank, Tsu.blank, Dxd.blank, h0, h1, h2, h3, h4, h5, h6, h7, h8, h9, h10, h11, h12, h13, h14, h15, h16, h17, h18, h19, h20, h21, h22, h23, h24, h25, h26, h27, h28, h29, h30, h31, h32, h33, h34]

@[simp ↓] theorem lbistDone_dxd_blank {W : Part → Bool} (sig : Word) (s : State) (h0 : W (.com .dxd .bt) = true) (h1 : W (.com .dxd .pgEvent) = true) (h2 : W (.com .dxd .ic) = true) (h3 : W (.com .dxd .boot) = true) (h4 : W (.com .dxd .up) = true) (h5 : W (.com .dxd .beats) = true) (h6 : W (.com .dxd .tk) = true) (h7 : W (.com .dxd .coreA) = true) (h8 : W (.com .dxd .coreB) = true) (h9 : W (.com .dxd .ports) = true) (h10 : W (.com .dxd .chans) = true) (h11 : W (.com .dxd .msets) = true) (h12 : W (.com .dxd .hfits) = true) (h13 : W (.com .dxd .regs) = true) (h14 : W (.com .dxd .pgEn) = true) (h15 : W (.com .dxd .badAccess) = true) (h16 : W (.com .dxd .lockRefused) = true) (h17 : W (.com .dxd .lockKey) = true) (h18 : W (.com .dxd .ta) = true) (h19 : W (.com .dxd .barCap) = true) (h20 : W (.com .dxd .barLow) = true) (h21 : W (.com .dxd .rsp) = true) (h22 : W (.com .dxd .oseq) = true) (h23 : W (.com .dxd .seen) = true) (h24 : W (.com .dxd .censusTree) = true) (h25 : W .straps = true) (h26 : W .refs = true) (h27 : W .hold = true) (h28 : W .outs = true) (h29 : W .ptp = true) (h30 : W .kicks = true) (h31 : W .strobe = true) (h32 : W .census = true) (h33 : W .scores = true) (h34 : W .ledger = true) (h35 : W .referee = true) (h36 : W .attic = true) (h37 : W .ownOff = true) (h38 : W .twinOff = true) (h39 : W .subsystem = true) :
    (lbistDone .dxd sig s).blank W = s.blank W := by simp [lbistDone, Com.blank, Tsu.blank, Dxd.blank, h0, h1, h2, h3, h4, h5, h6, h7, h8, h9, h10, h11, h12, h13, h14, h15, h16, h17, h18, h19, h20, h21, h22, h23, h24, h25, h26, h27, h28, h29, h30, h31, h32, h33, h34, h35, h36, h37, h38, h39]

@[simp ↓] theorem flashLoadDone_blank {W : Part → Bool} (ok0 : Bool) (ok1 : Bool) (fw : FwEntry) (atticOk : Bool) (s : State) (h0 : W (.com .dxd .pgEvent) = true) (h1 : W (.com .dxd .ic) = true) (h2 : W (.com .dxd .boot) = true) (h3 : W (.com .dxd .up) = true) (h4 : W (.com .dxd .beats) = true) (h5 : W (.com .dxd .tk) = true) (h6 : W (.com .dxd .coreA) = true) (h7 : W (.com .dxd .coreB) = true) (h8 : W (.com .dxd .ports) = true) (h9 : W (.com .dxd .chans) = true) (h10 : W (.com .dxd .msets) = true) (h11 : W (.com .dxd .hfits) = true) (h12 : W (.com .dxd .regs) = true) (h13 : W (.com .dxd .pgEn) = true) (h14 : W (.com .dxd .badAccess) = true) (h15 : W (.com .dxd .lockRefused) = true) (h16 : W (.com .dxd .lockKey) = true) (h17 : W (.com .dxd .bt) = true) (h18 : W (.com .dxd .ta) = true) (h19 : W (.com .dxd .barCap) = true) (h20 : W (.com .dxd .barLow) = true) (h21 : W (.com .dxd .rsp) = true) (h22 : W (.com .dxd .oseq) = true) (h23 : W (.com .dxd .seen) = true) (h24 : W (.com .dxd .censusTree) = true) (h25 : W .straps = true) (h26 : W .refs = true) (h27 : W .hold = true) (h28 : W .outs = true) (h29 : W .ptp = true) (h30 : W .kicks = true) (h31 : W .strobe = true) (h32 : W .census = true) (h33 : W .scores = true) (h34 : W .ledger = true) (h35 : W .referee = true) (h36 : W .attic = true) (h37 : W .ownOff = true) (h38 : W .twinOff = true) (h39 : W .subsystem = true) :
    (flashLoadDone ok0 ok1 fw atticOk s).blank W = s.blank W := by simp [flashLoadDone, Com.blank, Tsu.blank, Dxd.blank, h0, h1, h2, h3, h4, h5, h6, h7, h8, h9, h10, h11, h12, h13, h14, h15, h16, h17, h18, h19, h20, h21, h22, h23, h24, h25, h26, h27, h28, h29, h30, h31, h32, h33, h34, h35, h36, h37, h38, h39]

@[simp ↓] theorem startReady_tsu_blank {W : Part → Bool} (s : State) (h0 : W (.com .tsu .pgEvent) = true) (h1 : W (.com .tsu .ic) = true) (h2 : W (.com .tsu .boot) = true) :
    (startReady .tsu s).blank W = s.blank W := by simp [startReady, Com.blank, Tsu.blank, Dxd.blank, h0, h1, h2]

@[simp ↓] theorem startReady_dxd_blank {W : Part → Bool} (s : State) (h0 : W (.com .dxd .pgEvent) = true) (h1 : W (.com .dxd .ic) = true) (h2 : W (.com .dxd .boot) = true) :
    (startReady .dxd s).blank W = s.blank W := by simp [startReady, Com.blank, Tsu.blank, Dxd.blank, h0, h1, h2]

@[simp ↓] theorem startTimeout_dxd_blank {W : Part → Bool} (s : State) (h0 : W (.com .dxd .pgEvent) = true) (h1 : W (.com .dxd .ic) = true) (h2 : W (.com .dxd .boot) = true) (h3 : W (.com .dxd .up) = true) (h4 : W (.com .dxd .beats) = true) (h5 : W (.com .dxd .tk) = true) (h6 : W (.com .dxd .coreA) = true) (h7 : W (.com .dxd .coreB) = true) (h8 : W (.com .dxd .ports) = true) (h9 : W (.com .dxd .chans) = true) (h10 : W (.com .dxd .msets) = true) (h11 : W (.com .dxd .hfits) = true) (h12 : W (.com .dxd .regs) = true) (h13 : W (.com .dxd .pgEn) = true) (h14 : W (.com .dxd .badAccess) = true) (h15 : W (.com .dxd .lockRefused) = true) (h16 : W (.com .dxd .lockKey) = true) (h17 : W (.com .dxd .bt) = true) (h18 : W (.com .dxd .ta) = true) (h19 : W (.com .dxd .barCap) = true) (h20 : W (.com .dxd .barLow) = true) (h21 : W (.com .dxd .rsp) = true) (h22 : W (.com .dxd .oseq) = true) (h23 : W (.com .dxd .seen) = true) (h24 : W (.com .dxd .censusTree) = true) (h25 : W .straps = true) (h26 : W .refs = true) (h27 : W .hold = true) (h28 : W .outs = true) (h29 : W .ptp = true) (h30 : W .kicks = true) (h31 : W .strobe = true) (h32 : W .census = true) (h33 : W .scores = true) (h34 : W .ledger = true) (h35 : W .referee = true) (h36 : W .attic = true) (h37 : W .ownOff = true) (h38 : W .twinOff = true) (h39 : W .subsystem = true) :
    (startTimeout .dxd s).blank W = s.blank W := by simp [startTimeout, Com.blank, Tsu.blank, Dxd.blank, h0, h1, h2, h3, h4, h5, h6, h7, h8, h9, h10, h11, h12, h13, h14, h15, h16, h17, h18, h19, h20, h21, h22, h23, h24, h25, h26, h27, h28, h29, h30, h31, h32, h33, h34, h35, h36, h37, h38, h39]

@[simp ↓] theorem startTimeout_tsu_blank {W : Part → Bool} (s : State) (h0 : W (.com .tsu .pgEvent) = true) (h1 : W (.com .tsu .ic) = true) (h2 : W (.com .tsu .boot) = true) (h3 : W (.com .tsu .up) = true) (h4 : W (.com .tsu .beats) = true) (h5 : W (.com .tsu .tk) = true) (h6 : W (.com .tsu .coreA) = true) (h7 : W (.com .tsu .coreB) = true) (h8 : W (.com .tsu .ports) = true) (h9 : W (.com .tsu .chans) = true) (h10 : W (.com .tsu .msets) = true) (h11 : W (.com .tsu .hfits) = true) (h12 : W (.com .tsu .regs) = true) (h13 : W (.com .tsu .pgEn) = true) (h14 : W (.com .tsu .badAccess) = true) (h15 : W (.com .tsu .lockRefused) = true) (h16 : W (.com .tsu .lockKey) = true) (h17 : W (.com .tsu .bt) = true) (h18 : W (.com .tsu .ta) = true) (h19 : W (.com .tsu .barCap) = true) (h20 : W (.com .tsu .barLow) = true) (h21 : W (.com .tsu .rsp) = true) (h22 : W (.com .tsu .oseq) = true) (h23 : W (.com .tsu .seen) = true) (h24 : W (.com .tsu .censusTree) = true) (h25 : W .stock = true) (h26 : W .steps = true) (h27 : W .member = true) (h28 : W .cue = true) (h29 : W .signals = true) (h30 : W .huddles = true) (h31 : W .keyPort = true) (h32 : W .tallies = true) (h33 : W .bays = true) (h34 : W .kickPins = true) :
    (startTimeout .tsu s).blank W = s.blank W := by simp [startTimeout, Com.blank, Tsu.blank, Dxd.blank, h0, h1, h2, h3, h4, h5, h6, h7, h8, h9, h10, h11, h12, h13, h14, h15, h16, h17, h18, h19, h20, h21, h22, h23, h24, h25, h26, h27, h28, h29, h30, h31, h32, h33, h34]

@[simp ↓] theorem rootStarts_blank {W : Part → Bool} (s : State) (h0 : W .referee = true) :
    (rootStarts s).blank W = s.blank W := by simp [rootStarts, Com.blank, Tsu.blank, Dxd.blank, h0]

@[simp ↓] theorem dxdReady_blank {W : Part → Bool} (s : State) (h0 : W .referee = true) (h1 : W (.com .dxd .pgEvent) = true) (h2 : W (.com .dxd .ic) = true) (h3 : W (.com .dxd .boot) = true) :
    (dxdReady s).blank W = s.blank W := by simp [dxdReady, Com.blank, Tsu.blank, Dxd.blank, h0, h1, h2, h3]

@[simp ↓] theorem restart_tsu_blank {W : Part → Bool} (s : State) (h0 : W (.com .tsu .boot) = true) (h1 : W (.com .tsu .up) = true) (h2 : W (.com .tsu .beats) = true) (h3 : W (.com .tsu .tk) = true) (h4 : W (.com .tsu .coreA) = true) (h5 : W (.com .tsu .coreB) = true) (h6 : W (.com .tsu .ports) = true) (h7 : W (.com .tsu .chans) = true) (h8 : W (.com .tsu .msets) = true) (h9 : W (.com .tsu .hfits) = true) (h10 : W (.com .tsu .regs) = true) (h11 : W (.com .tsu .pgEvent) = true) (h12 : W (.com .tsu .pgEn) = true) (h13 : W (.com .tsu .badAccess) = true) (h14 : W (.com .tsu .lockRefused) = true) (h15 : W (.com .tsu .lockKey) = true) (h16 : W (.com .tsu .ic) = true) (h17 : W (.com .tsu .bt) = true) (h18 : W (.com .tsu .ta) = true) (h19 : W (.com .tsu .barCap) = true) (h20 : W (.com .tsu .barLow) = true) (h21 : W (.com .tsu .rsp) = true) (h22 : W (.com .tsu .oseq) = true) (h23 : W (.com .tsu .seen) = true) (h24 : W (.com .tsu .censusTree) = true) (h25 : W .stock = true) (h26 : W .steps = true) (h27 : W .member = true) (h28 : W .cue = true) (h29 : W .signals = true) (h30 : W .huddles = true) (h31 : W .keyPort = true) (h32 : W .tallies = true) (h33 : W .bays = true) (h34 : W .kickPins = true) :
    (restart .tsu s).blank W = s.blank W := by simp [restart, Com.blank, Tsu.blank, Dxd.blank, h0, h1, h2, h3, h4, h5, h6, h7, h8, h9, h10, h11, h12, h13, h14, h15, h16, h17, h18, h19, h20, h21, h22, h23, h24, h25, h26, h27, h28, h29, h30, h31, h32, h33, h34]

@[simp ↓] theorem restart_dxd_blank {W : Part → Bool} (s : State) (h0 : W (.com .dxd .boot) = true) (h1 : W (.com .dxd .up) = true) (h2 : W (.com .dxd .beats) = true) (h3 : W (.com .dxd .tk) = true) (h4 : W (.com .dxd .coreA) = true) (h5 : W (.com .dxd .coreB) = true) (h6 : W (.com .dxd .ports) = true) (h7 : W (.com .dxd .chans) = true) (h8 : W (.com .dxd .msets) = true) (h9 : W (.com .dxd .hfits) = true) (h10 : W (.com .dxd .regs) = true) (h11 : W (.com .dxd .pgEvent) = true) (h12 : W (.com .dxd .pgEn) = true) (h13 : W (.com .dxd .badAccess) = true) (h14 : W (.com .dxd .lockRefused) = true) (h15 : W (.com .dxd .lockKey) = true) (h16 : W (.com .dxd .ic) = true) (h17 : W (.com .dxd .bt) = true) (h18 : W (.com .dxd .ta) = true) (h19 : W (.com .dxd .barCap) = true) (h20 : W (.com .dxd .barLow) = true) (h21 : W (.com .dxd .rsp) = true) (h22 : W (.com .dxd .oseq) = true) (h23 : W (.com .dxd .seen) = true) (h24 : W (.com .dxd .censusTree) = true) (h25 : W .straps = true) (h26 : W .refs = true) (h27 : W .hold = true) (h28 : W .outs = true) (h29 : W .ptp = true) (h30 : W .kicks = true) (h31 : W .strobe = true) (h32 : W .census = true) (h33 : W .scores = true) (h34 : W .ledger = true) (h35 : W .referee = true) (h36 : W .attic = true) (h37 : W .ownOff = true) (h38 : W .twinOff = true) (h39 : W .subsystem = true) :
    (restart .dxd s).blank W = s.blank W := by simp [restart, Com.blank, Tsu.blank, Dxd.blank, h0, h1, h2, h3, h4, h5, h6, h7, h8, h9, h10, h11, h12, h13, h14, h15, h16, h17, h18, h19, h20, h21, h22, h23, h24, h25, h26, h27, h28, h29, h30, h31, h32, h33, h34, h35, h36, h37, h38, h39]

@[simp ↓] theorem boCtlWrite_dxd_blank {W : Part → Bool} (v : Word) (s : State) (h0 : W (.com .dxd .pgEvent) = true) (h1 : W (.com .dxd .ic) = true) (h2 : W .hold = true) (h3 : W (.com .dxd .tk) = true) (h4 : W (.com .dxd .coreA) = true) (h5 : W (.com .dxd .coreB) = true) (h6 : W (.com .dxd .chans) = true) (h7 : W (.com .dxd .msets) = true) (h8 : W (.com .dxd .hfits) = true) (h9 : W (.com .dxd .regs) = true) (h10 : W (.com .dxd .pgEn) = true) (h11 : W (.com .dxd .lockKey) = true) (h12 : W (.com .dxd .bt) = true) (h13 : W (.com .dxd .oseq) = true) (h14 : W (.com .dxd .seen) = true) (h15 : W (.com .dxd .censusTree) = true) (h16 : W (.com .dxd .boot) = true) (h17 : W .refs = true) (h18 : W .outs = true) (h19 : W .ptp = true) (h20 : W .kicks = true) (h21 : W .strobe = true) (h22 : W .census = true) (h23 : W .scores = true) (h24 : W .referee = true) (h25 : W .ownOff = true) (h26 : W .twinOff = true) (h27 : W .subsystem = true) (h28 : W .attic = true) (h29 : W (.com .dxd .ports) = true) (h30 : W (.com .dxd .up) = true) (h31 : W (.com .dxd .beats) = true) (h32 : W (.com .dxd .badAccess) = true) (h33 : W (.com .dxd .lockRefused) = true) (h34 : W (.com .dxd .ta) = true) (h35 : W (.com .dxd .barCap) = true) (h36 : W (.com .dxd .barLow) = true) (h37 : W (.com .dxd .rsp) = true) (h38 : W .straps = true) (h39 : W .ledger = true) :
    (boCtlWrite .dxd v s).blank W = s.blank W := by simp [boCtlWrite, Com.blank, Tsu.blank, Dxd.blank, h0, h1, h2, h3, h4, h5, h6, h7, h8, h9, h10, h11, h12, h13, h14, h15, h16, h17, h18, h19, h20, h21, h22, h23, h24, h25, h26, h27, h28, h29, h30, h31, h32, h33, h34, h35, h36, h37, h38, h39]

@[simp ↓] theorem boCtlWrite_tsu_blank {W : Part → Bool} (v : Word) (s : State) (h0 : W .steps = true) (h1 : W .tallies = true) (h2 : W (.com .tsu .ports) = true) (h3 : W .huddles = true) (h4 : W .cue = true) (h5 : W (.com .tsu .pgEvent) = true) (h6 : W (.com .tsu .ic) = true) (h7 : W .signals = true) (h8 : W .member = true) (h9 : W (.com .tsu .tk) = true) (h10 : W (.com .tsu .coreA) = true) (h11 : W (.com .tsu .coreB) = true) (h12 : W (.com .tsu .chans) = true) (h13 : W (.com .tsu .msets) = true) (h14 : W (.com .tsu .hfits) = true) (h15 : W (.com .tsu .regs) = true) (h16 : W (.com .tsu .pgEn) = true) (h17 : W (.com .tsu .lockKey) = true) (h18 : W (.com .tsu .bt) = true) (h19 : W (.com .tsu .oseq) = true) (h20 : W (.com .tsu .seen) = true) (h21 : W (.com .tsu .censusTree) = true) (h22 : W (.com .tsu .boot) = true) (h23 : W .stock = true) (h24 : W .keyPort = true) (h25 : W .bays = true) (h26 : W .kickPins = true) (h27 : W (.com .tsu .up) = true) (h28 : W (.com .tsu .beats) = true) (h29 : W (.com .tsu .badAccess) = true) (h30 : W (.com .tsu .lockRefused) = true) (h31 : W (.com .tsu .ta) = true) (h32 : W (.com .tsu .barCap) = true) (h33 : W (.com .tsu .barLow) = true) (h34 : W (.com .tsu .rsp) = true) :
    (boCtlWrite .tsu v s).blank W = s.blank W := by simp [boCtlWrite, Com.blank, Tsu.blank, Dxd.blank, h0, h1, h2, h3, h4, h5, h6, h7, h8, h9, h10, h11, h12, h13, h14, h15, h16, h17, h18, h19, h20, h21, h22, h23, h24, h25, h26, h27, h28, h29, h30, h31, h32, h33, h34]

@[simp ↓] theorem clearBoCounts_dxd_blank {W : Part → Bool} (s : State) (h0 : W (.com .dxd .boot) = true) :
    (clearBoCounts .dxd s).blank W = s.blank W := by simp [clearBoCounts, Com.blank, Tsu.blank, Dxd.blank, h0]

@[simp ↓] theorem clearBoCounts_tsu_blank {W : Part → Bool} (s : State) (h0 : W (.com .tsu .boot) = true) :
    (clearBoCounts .tsu s).blank W = s.blank W := by simp [clearBoCounts, Com.blank, Tsu.blank, Dxd.blank, h0]

end Sys2Proof.Machine
end

