-- ==== Sys2Proof/Laws/FrameRegsBase.lean ====
section
/-!
SUPPORT. What the operations of Machine/RegsBase.lean can change.
-/

namespace Sys2Proof.Machine

@[simp ↓] theorem rwReg_dxd_store_blank {W : Part → Bool} (a : Nat) (mask : Word) (v_ : Word) (s_ : State) (h0 : W (.com .dxd .regs) = true) :
    ((rwReg .dxd a mask).store v_ s_).blank W = s_.blank W := by simp [rwReg, noReg, roReg, rcReg, fxReg, rwReg, Com.blank, Tsu.blank, Dxd.blank, h0]

@[simp ↓] theorem rwReg_dxd_effect_blank {W : Part → Bool} (a : Nat) (mask : Word) (s_ : State) (h0 : W (.com .dxd .regs) = true) :
    ((rwReg .dxd a mask).effect s_).blank W = s_.blank W := by simp [rwReg, noReg, roReg, rcReg, fxReg, rwReg, Com.blank, Tsu.blank, Dxd.blank, h0]

@[simp ↓] theorem rwReg_tsu_store_blank {W : Part → Bool} (a : Nat) (mask : Word) (v_ : Word) (s_ : State) (h0 : W (.com .tsu .regs) = true) :
    ((rwReg .tsu a mask).store v_ s_).blank W = s_.blank W := by simp [rwReg, noReg, roReg, rcReg, fxReg, rwReg, Com.blank, Tsu.blank, Dxd.blank, h0]

@[simp ↓] theorem rwReg_tsu_effect_blank {W : Part → Bool} (a : Nat) (mask : Word) (s_ : State) (h0 : W (.com .tsu .regs) = true) :
    ((rwReg .tsu a mask).effect s_).blank W = s_.blank W := by simp [rwReg, noReg, roReg, rcReg, fxReg, rwReg, Com.blank, Tsu.blank, Dxd.blank, h0]

@[simp ↓] theorem clearPgStatus_tsu_blank {W : Part → Bool} (pg : Nat) (s : State) (h0 : W (.com .tsu .badAccess) = true) (h1 : W (.com .tsu .lockRefused) = true) :
    (clearPgStatus .tsu pg s).blank W = s.blank W := by simp [clearPgStatus, Com.blank, Tsu.blank, Dxd.blank, h0, h1]

@[simp ↓] theorem clearPgStatus_dxd_blank {W : Part → Bool} (pg : Nat) (s : State) (h0 : W (.com .dxd .badAccess) = true) (h1 : W (.com .dxd .lockRefused) = true) :
    (clearPgStatus .dxd pg s).blank W = s.blank W := by simp [clearPgStatus, Com.blank, Tsu.blank, Dxd.blank, h0, h1]

@[simp ↓] theorem pgControlStore_tsu_blank {W : Part → Bool} (pg : Nat) (v : Word) (s : State) (h0 : W (.com .tsu .pgEvent) = true) (h1 : W (.com .tsu .ic) = true) :
    (pgControlStore .tsu pg v s).blank W = s.blank W := by simp [pgControlStore, Com.blank, Tsu.blank, Dxd.blank, h0, h1]

@[simp ↓] theorem pgControlStore_dxd_blank {W : Part → Bool} (pg : Nat) (v : Word) (s : State) (h0 : W (.com .dxd .pgEvent) = true) (h1 : W (.com .dxd .ic) = true) :
    (pgControlStore .dxd pg v s).blank W = s.blank W := by simp [pgControlStore, Com.blank, Tsu.blank, Dxd.blank, h0, h1]

@[simp ↓] theorem pgEventStore_tsu_blank {W : Part → Bool} (pg : Nat) (v : Word) (s : State) (h0 : W (.com .tsu .pgEvent) = true) :
    (pgEventStore .tsu pg v s).blank W = s.blank W := by simp [pgEventStore, Com.blank, Tsu.blank, Dxd.blank, h0]

@[simp ↓] theorem pgEventStore_dxd_blank {W : Part → Bool} (pg : Nat) (v : Word) (s : State) (h0 : W (.com .dxd .pgEvent) = true) :
    (pgEventStore .dxd pg v s).blank W = s.blank W := by simp [pgEventStore, Com.blank, Tsu.blank, Dxd.blank, h0]

@[simp ↓] theorem pgEnStore_tsu_blank {W : Part → Bool} (pg : Nat) (v : Word) (s : State) (h0 : W (.com .tsu .pgEn) = true) (h1 : W (.com .tsu .ic) = true) :
    (pgEnStore .tsu pg v s).blank W = s.blank W := by simp [pgEnStore, Com.blank, Tsu.blank, Dxd.blank, h0, h1]

@[simp ↓] theorem pgEnStore_dxd_blank {W : Part → Bool} (pg : Nat) (v : Word) (s : State) (h0 : W (.com .dxd .pgEn) = true) (h1 : W (.com .dxd .ic) = true) :
    (pgEnStore .dxd pg v s).blank W = s.blank W := by simp [pgEnStore, Com.blank, Tsu.blank, Dxd.blank, h0, h1]

@[simp ↓] theorem countRefused_tsu_blank {W : Part → Bool} (pg : Nat) (s : State) (h0 : W (.com .tsu .lockRefused) = true) :
    (countRefused .tsu pg s).blank W = s.blank W := by simp [countRefused, Com.blank, Tsu.blank, Dxd.blank, h0]

@[simp ↓] theorem countRefused_dxd_blank {W : Part → Bool} (pg : Nat) (s : State) (h0 : W (.com .dxd .lockRefused) = true) :
    (countRefused .dxd pg s).blank W = s.blank W := by simp [countRefused, Com.blank, Tsu.blank, Dxd.blank, h0]

@[simp ↓] theorem setLock_dxd_blank {W : Part → Bool} (pg : Nat) (key : Nat) (s : State) (h0 : W (.com .dxd .lockKey) = true) :
    (setLock .dxd pg key s).blank W = s.blank W := by simp [setLock, Com.blank, Tsu.blank, Dxd.blank, h0]

@[simp ↓] theorem setLock_tsu_blank {W : Part → Bool} (pg : Nat) (key : Nat) (s : State) (h0 : W (.com .tsu .lockKey) = true) :
    (setLock .tsu pg key s).blank W = s.blank W := by simp [setLock, Com.blank, Tsu.blank, Dxd.blank, h0]

@[simp ↓] theorem pgLockStore_tsu_blank {W : Part → Bool} (pg : Nat) (v : Word) (s : State) (h0 : W (.com .tsu .lockRefused) = true) (h1 : W (.com .tsu .lockKey) = true) :
    (pgLockStore .tsu pg v s).blank W = s.blank W := by simp [pgLockStore, Com.blank, Tsu.blank, Dxd.blank, h0, h1]

@[simp ↓] theorem pgLockStore_dxd_blank {W : Part → Bool} (pg : Nat) (v : Word) (s : State) (h0 : W (.com .dxd .lockRefused) = true) (h1 : W (.com .dxd .lockKey) = true) :
    (pgLockStore .dxd pg v s).blank W = s.blank W := by simp [pgLockStore, Com.blank, Tsu.blank, Dxd.blank, h0, h1]

@[simp ↓] theorem headerReg_tsu_store_blank {W : Part → Bool} (pg : Nat) (off : Nat) (v_ : Word) (s_ : State) (h0 : W (.com .tsu .badAccess) = true) (h1 : W (.com .tsu .lockRefused) = true) (h2 : W (.com .tsu .pgEvent) = true) (h3 : W (.com .tsu .ic) = true) (h4 : W (.com .tsu .pgEn) = true) (h5 : W (.com .tsu .lockKey) = true) :
    ((headerReg .tsu pg off).store v_ s_).blank W = s_.blank W := by
  unfold headerReg
  (repeat' split) <;> simp (maxDischargeDepth := 12) [noReg, roReg, rcReg, fxReg, rwReg, Com.blank, Tsu.blank, Dxd.blank, h0, h1, h2, h3, h4, h5]

@[simp ↓] theorem headerReg_tsu_effect_blank {W : Part → Bool} (pg : Nat) (off : Nat) (s_ : State) (h0 : W (.com .tsu .badAccess) = true) (h1 : W (.com .tsu .lockRefused) = true) (h2 : W (.com .tsu .pgEvent) = true) (h3 : W (.com .tsu .ic) = true) (h4 : W (.com .tsu .pgEn) = true) (h5 : W (.com .tsu .lockKey) = true) :
    ((headerReg .tsu pg off).effect s_).blank W = s_.blank W := by
  unfold headerReg
  (repeat' split) <;> simp (maxDischargeDepth := 12) [noReg, roReg, rcReg, fxReg, rwReg, Com.blank, Tsu.blank, Dxd.blank, h0, h1, h2, h3, h4, h5]

@[simp ↓] theorem headerReg_dxd_store_blank {W : Part → Bool} (pg : Nat) (off : Nat) (v_ : Word) (s_ : State) (h0 : W (.com .dxd .badAccess) = true) (h1 : W (.com .dxd .lockRefused) = true) (h2 : W (.com .dxd .pgEvent) = true) (h3 : W (.com .dxd .ic) = true) (h4 : W (.com .dxd .pgEn) = true) (h5 : W (.com .dxd .lockKey) = true) :
    ((headerReg .dxd pg off).store v_ s_).blank W = s_.blank W := by
  unfold headerReg
  (repeat' split) <;> simp (maxDischargeDepth := 12) [noReg, roReg, rcReg, fxReg, rwReg, Com.blank, Tsu.blank, Dxd.blank, h0, h1, h2, h3, h4, h5]

@[simp ↓] theorem headerReg_dxd_effect_blank {W : Part → Bool} (pg : Nat) (off : Nat) (s_ : State) (h0 : W (.com .dxd .badAccess) = true) (h1 : W (.com .dxd .lockRefused) = true) (h2 : W (.com .dxd .pgEvent) = true) (h3 : W (.com .dxd .ic) = true) (h4 : W (.com .dxd .pgEn) = true) (h5 : W (.com .dxd .lockKey) = true) :
    ((headerReg .dxd pg off).effect s_).blank W = s_.blank W := by
  unfold headerReg
  (repeat' split) <;> simp (maxDischargeDepth := 12) [noReg, roReg, rcReg, fxReg, rwReg, Com.blank, Tsu.blank, Dxd.blank, h0, h1, h2, h3, h4, h5]

end Sys2Proof.Machine
end

