-- ==== Sys2Proof/Laws/FrameRegsTime.lean ====
section
/-!
SUPPORT. What the operations of Machine/RegsTime.lean can change.
-/

namespace Sys2Proof.Machine

@[simp ↓] theorem utcStore_blank {W : Part → Bool} (v : Word) (s : State) (h0 : W (.com .dxd .tk) = true) :
    (utcStore v s).blank W = s.blank W := by simp [utcStore, Com.blank, Tsu.blank, Dxd.blank, h0]

@[simp ↓] theorem tkReg_dxd_store_blank {W : Part → Bool} (rq : Nat) (off : Nat) (s : State) (v_ : Word) (s_ : State) (h0 : W (.com .dxd .tk) = true) (h1 : W (.com .dxd .regs) = true) (h2 : W .refs = true) (h3 : W .ptp = true) (h4 : W (.com .dxd .pgEvent) = true) (h5 : W (.com .dxd .ic) = true) (h6 : W .hold = true) (h7 : W (.com .dxd .coreA) = true) (h8 : W (.com .dxd .coreB) = true) (h9 : W (.com .dxd .hfits) = true) (h10 : W (.com .dxd .msets) = true) (h11 : W .attic = true) :
    ((tkReg .dxd rq off s).store v_ s_).blank W = s_.blank W := by
  unfold tkReg
  dsimp only
  (repeat' split) <;> simp (maxDischargeDepth := 12) [noReg, roReg, rcReg, fxReg, rwReg, Com.blank, Tsu.blank, Dxd.blank, h0, h1, h2, h3, h4, h5, h6, h7, h8, h9, h10, h11]

@[simp ↓] theorem tkReg_dxd_effect_blank {W : Part → Bool} (rq : Nat) (off : Nat) (s : State) (s_ : State) (h0 : W (.com .dxd .tk) = true) (h1 : W (.com .dxd .regs) = true) (h2 : W .refs = true) (h3 : W .ptp = true) (h4 : W (.com .dxd .pgEvent) = true) (h5 : W (.com .dxd .ic) = true) (h6 : W .hold = true) (h7 : W (.com .dxd .coreA) = true) (h8 : W (.com .dxd .coreB) = true) (h9 : W (.com .dxd .hfits) = true) (h10 : W (.com .dxd .msets) = true) (h11 : W .attic = true) :
    ((tkReg .dxd rq off s).effect s_).blank W = s_.blank W := by
  unfold tkReg
  (repeat' split) <;> simp (maxDischargeDepth := 12) [noReg, roReg, rcReg, fxReg, rwReg, Com.blank, Tsu.blank, Dxd.blank, h0, h1, h2, h3, h4, h5, h6, h7, h8, h9]

@[simp ↓] theorem tkReg_tsu_store_blank {W : Part → Bool} (rq : Nat) (off : Nat) (s : State) (v_ : Word) (s_ : State) (h0 : W (.com .tsu .tk) = true) (h1 : W (.com .dxd .tk) = true) (h2 : W (.com .tsu .regs) = true) (h3 : W .member = true) (h4 : W (.com .tsu .coreA) = true) (h5 : W (.com .tsu .coreB) = true) (h6 : W (.com .tsu .pgEvent) = true) (h7 : W (.com .tsu .ic) = true) (h8 : W (.com .tsu .msets) = true) (h9 : W (.com .tsu .hfits) = true) (h10 : W (.com .tsu .ports) = true) (h11 : W .huddles = true) (h12 : W (.com .dxd .pgEvent) = true) (h13 : W (.com .dxd .ic) = true) :
    ((tkReg .tsu rq off s).store v_ s_).blank W = s_.blank W := by
  unfold tkReg
  (repeat' split) <;> simp (maxDischargeDepth := 12) [noReg, roReg, rcReg, fxReg, rwReg, Com.blank, Tsu.blank, Dxd.blank, h0, h1, h2, h3, h4, h5, h6, h7, h8, h9, h10, h11, h12, h13]

@[simp ↓] theorem tkReg_tsu_effect_blank {W : Part → Bool} (rq : Nat) (off : Nat) (s : State) (s_ : State) (h0 : W (.com .tsu .tk) = true) (h1 : W (.com .dxd .tk) = true) (h2 : W (.com .tsu .regs) = true) (h3 : W .member = true) (h4 : W (.com .tsu .coreA) = true) (h5 : W (.com .tsu .coreB) = true) (h6 : W (.com .tsu .pgEvent) = true) (h7 : W (.com .tsu .ic) = true) (h8 : W (.com .tsu .msets) = true) (h9 : W (.com .tsu .hfits) = true) (h10 : W (.com .tsu .ports) = true) (h11 : W .huddles = true) (h12 : W (.com .dxd .pgEvent) = true) (h13 : W (.com .dxd .ic) = true) :
    ((tkReg .tsu rq off s).effect s_).blank W = s_.blank W := by
  unfold tkReg
  (repeat' split) <;> simp (maxDischargeDepth := 12) [noReg, roReg, rcReg, fxReg, rwReg, Com.blank, Tsu.blank, Dxd.blank, h0, h1, h2, h3, h4, h5, h6, h7, h8, h9, h10]

@[simp ↓] theorem alphaStore_dxd_blank {W : Part → Bool} (p : Nat) (v : Word) (s : State) (h0 : W (.com .dxd .ports) = true) :
    (alphaStore .dxd p v s).blank W = s.blank W := by simp [alphaStore, Com.blank, Tsu.blank, Dxd.blank, h0]

@[simp ↓] theorem alphaStore_tsu_blank {W : Part → Bool} (p : Nat) (v : Word) (s : State) (h0 : W (.com .tsu .ports) = true) :
    (alphaStore .tsu p v s).blank W = s.blank W := by simp [alphaStore, Com.blank, Tsu.blank, Dxd.blank, h0]

@[simp ↓] theorem portEventStore_dxd_blank {W : Part → Bool} (p : Nat) (v : Word) (s : State) (h0 : W (.com .dxd .ports) = true) :
    (portEventStore .dxd p v s).blank W = s.blank W := by simp [portEventStore, Com.blank, Tsu.blank, Dxd.blank, h0]

@[simp ↓] theorem portEventStore_tsu_blank {W : Part → Bool} (p : Nat) (v : Word) (s : State) (h0 : W (.com .tsu .ports) = true) :
    (portEventStore .tsu p v s).blank W = s.blank W := by simp [portEventStore, Com.blank, Tsu.blank, Dxd.blank, h0]

@[simp ↓] theorem clearPortErrors_tsu_blank {W : Part → Bool} (p : Nat) (a : State) (h0 : W (.com .tsu .ports) = true) :
    (clearPortErrors .tsu p a).blank W = a.blank W := by simp [clearPortErrors, Com.blank, Tsu.blank, Dxd.blank, h0]

@[simp ↓] theorem clearPortErrors_dxd_blank {W : Part → Bool} (p : Nat) (a : State) (h0 : W (.com .dxd .ports) = true) :
    (clearPortErrors .dxd p a).blank W = a.blank W := by simp [clearPortErrors, Com.blank, Tsu.blank, Dxd.blank, h0]

@[simp ↓] theorem portReg_tsu_store_blank {W : Part → Bool} (p : Nat) (o : Nat) (s : State) (v_ : Word) (s_ : State) (h0 : W (.com .tsu .ports) = true) (h1 : W .member = true) (h2 : W (.com .tsu .coreA) = true) (h3 : W (.com .tsu .coreB) = true) (h4 : W (.com .tsu .tk) = true) (h5 : W (.com .tsu .pgEvent) = true) (h6 : W (.com .tsu .ic) = true) (h7 : W (.com .tsu .msets) = true) (h8 : W (.com .tsu .hfits) = true) (h9 : W .huddles = true) :
    ((portReg .tsu p o s).store v_ s_).blank W = s_.blank W := by
  unfold portReg
  (repeat' split) <;> simp (maxDischargeDepth := 12) [noReg, roReg, rcReg, fxReg, rwReg, Com.blank, Tsu.blank, Dxd.blank, h0, h1, h2, h3, h4, h5, h6, h7, h8, h9]

@[simp ↓] theorem portReg_tsu_effect_blank {W : Part → Bool} (p : Nat) (o : Nat) (s : State) (s_ : State) (h0 : W (.com .tsu .ports) = true) (h1 : W .member = true) (h2 : W (.com .tsu .coreA) = true) (h3 : W (.com .tsu .coreB) = true) (h4 : W (.com .tsu .tk) = true) (h5 : W (.com .tsu .pgEvent) = true) (h6 : W (.com .tsu .ic) = true) (h7 : W (.com .tsu .msets) = true) (h8 : W (.com .tsu .hfits) = true) (h9 : W .huddles = true) :
    ((portReg .tsu p o s).effect s_).blank W = s_.blank W := by
  unfold portReg
  (repeat' split) <;> simp (maxDischargeDepth := 12) [noReg, roReg, rcReg, fxReg, rwReg, Com.blank, Tsu.blank, Dxd.blank, h0, h1, h2, h3, h4, h5, h6, h7]

@[simp ↓] theorem portReg_dxd_store_blank {W : Part → Bool} (p : Nat) (o : Nat) (s : State) (v_ : Word) (s_ : State) (h0 : W (.com .dxd .ports) = true) (h1 : W (.com .dxd .tk) = true) (h2 : W .refs = true) (h3 : W .ptp = true) (h4 : W (.com .dxd .pgEvent) = true) (h5 : W (.com .dxd .ic) = true) (h6 : W .hold = true) (h7 : W (.com .dxd .coreA) = true) (h8 : W (.com .dxd .coreB) = true) (h9 : W (.com .dxd .hfits) = true) (h10 : W (.com .dxd .msets) = true) (h11 : W .attic = true) (h12 : W .referee = true) (h13 : W .ledger = true) (h14 : W .scores = true) (h15 : W (.com .dxd .regs) = true) (h16 : W .census = true) (h17 : W .kicks = true) :
    ((portReg .dxd p o s).store v_ s_).blank W = s_.blank W := by
  unfold portReg
  (repeat' split) <;> simp (maxDischargeDepth := 12) [noReg, roReg, rcReg, fxReg, rwReg, Com.blank, Tsu.blank, Dxd.blank, h0, h1, h2, h3, h4, h5, h6, h7, h8, h9, h10, h11, h12, h13, h14, h15, h16, h17]

@[simp ↓] theorem portReg_dxd_effect_blank {W : Part → Bool} (p : Nat) (o : Nat) (s : State) (s_ : State) (h0 : W (.com .dxd .ports) = true) (h1 : W (.com .dxd .tk) = true) (h2 : W .refs = true) (h3 : W .ptp = true) (h4 : W (.com .dxd .pgEvent) = true) (h5 : W (.com .dxd .ic) = true) (h6 : W .hold = true) (h7 : W (.com .dxd .coreA) = true) (h8 : W (.com .dxd .coreB) = true) (h9 : W (.com .dxd .hfits) = true) (h10 : W (.com .dxd .msets) = true) (h11 : W .attic = true) (h12 : W .referee = true) (h13 : W .ledger = true) (h14 : W .scores = true) (h15 : W (.com .dxd .regs) = true) (h16 : W .census = true) (h17 : W .kicks = true) :
    ((portReg .dxd p o s).effect s_).blank W = s_.blank W := by
  unfold portReg
  (repeat' split) <;> simp (maxDischargeDepth := 12) [noReg, roReg, rcReg, fxReg, rwReg, Com.blank, Tsu.blank, Dxd.blank, h0, h1, h2, h3, h4, h5, h6, h7, h8, h9, h10, h11, h12, h13, h14, h15]

@[simp ↓] theorem portsReg_dxd_store_blank {W : Part → Bool} (pg : Nat) (off : Nat) (s : State) (v_ : Word) (s_ : State) (h0 : W (.com .dxd .ports) = true) (h1 : W (.com .dxd .tk) = true) (h2 : W .refs = true) (h3 : W .ptp = true) (h4 : W (.com .dxd .pgEvent) = true) (h5 : W (.com .dxd .ic) = true) (h6 : W .hold = true) (h7 : W (.com .dxd .coreA) = true) (h8 : W (.com .dxd .coreB) = true) (h9 : W (.com .dxd .hfits) = true) (h10 : W (.com .dxd .msets) = true) (h11 : W .attic = true) (h12 : W .referee = true) (h13 : W .ledger = true) (h14 : W .scores = true) (h15 : W (.com .dxd .regs) = true) (h16 : W .census = true) (h17 : W .kicks = true) :
    ((portsReg .dxd pg off s).store v_ s_).blank W = s_.blank W := by
  unfold portsReg
  dsimp only
  (repeat' split) <;> simp (maxDischargeDepth := 12) [noReg, roReg, rcReg, fxReg, rwReg, Com.blank, Tsu.blank, Dxd.blank, h0, h1, h2, h3, h4, h5, h6, h7, h8, h9, h10, h11, h12, h13, h14, h15, h16, h17]

@[simp ↓] theorem portsReg_dxd_effect_blank {W : Part → Bool} (pg : Nat) (off : Nat) (s : State) (s_ : State) (h0 : W (.com .dxd .ports) = true) (h1 : W (.com .dxd .tk) = true) (h2 : W .refs = true) (h3 : W .ptp = true) (h4 : W (.com .dxd .pgEvent) = true) (h5 : W (.com .dxd .ic) = true) (h6 : W .hold = true) (h7 : W (.com .dxd .coreA) = true) (h8 : W (.com .dxd .coreB) = true) (h9 : W (.com .dxd .hfits) = true) (h10 : W (.com .dxd .msets) = true) (h11 : W .attic = true) (h12 : W .referee = true) (h13 : W .ledger = true) (h14 : W .scores = true) (h15 : W (.com .dxd .regs) = true) (h16 : W .census = true) (h17 : W .kicks = true) :
    ((portsReg .dxd pg off s).effect s_).blank W = s_.blank W := by
  unfold portsReg
  dsimp only
  (repeat' split) <;> simp (maxDischargeDepth := 12) [noReg, roReg, rcReg, fxReg, rwReg, Com.blank, Tsu.blank, Dxd.blank, h0, h1, h2, h3, h4, h5, h6, h7, h8, h9, h10, h11, h12, h13, h14, h15, h16, h17]

@[simp ↓] theorem portsReg_tsu_store_blank {W : Part → Bool} (pg : Nat) (off : Nat) (s : State) (v_ : Word) (s_ : State) (h0 : W (.com .tsu .ports) = true) (h1 : W .member = true) (h2 : W (.com .tsu .coreA) = true) (h3 : W (.com .tsu .coreB) = true) (h4 : W (.com .tsu .tk) = true) (h5 : W (.com .tsu .pgEvent) = true) (h6 : W (.com .tsu .ic) = true) (h7 : W (.com .tsu .msets) = true) (h8 : W (.com .tsu .hfits) = true) (h9 : W .huddles = true) :
    ((portsReg .tsu pg off s).store v_ s_).blank W = s_.blank W := by
  unfold portsReg
  dsimp only
  (repeat' split) <;> simp (maxDischargeDepth := 12) [noReg, roReg, rcReg, fxReg, rwReg, Com.blank, Tsu.blank, Dxd.blank, h0, h1, h2, h3, h4, h5, h6, h7, h8, h9]

@[simp ↓] theorem portsReg_tsu_effect_blank {W : Part → Bool} (pg : Nat) (off : Nat) (s : State) (s_ : State) (h0 : W (.com .tsu .ports) = true) (h1 : W .member = true) (h2 : W (.com .tsu .coreA) = true) (h3 : W (.com .tsu .coreB) = true) (h4 : W (.com .tsu .tk) = true) (h5 : W (.com .tsu .pgEvent) = true) (h6 : W (.com .tsu .ic) = true) (h7 : W (.com .tsu .msets) = true) (h8 : W (.com .tsu .hfits) = true) (h9 : W .huddles = true) :
    ((portsReg .tsu pg off s).effect s_).blank W = s_.blank W := by
  unfold portsReg
  dsimp only
  (repeat' split) <;> simp (maxDischargeDepth := 12) [noReg, roReg, rcReg, fxReg, rwReg, Com.blank, Tsu.blank, Dxd.blank, h0, h1, h2, h3, h4, h5, h6, h7, h8, h9]

@[simp ↓] theorem setStore_tsu_blank {W : Part → Bool} (m : Nat) (a : Nat) (mask : Word) (v : Word) (s : State) (h0 : W (.com .tsu .regs) = true) :
    (setStore .tsu m a mask v s).blank W = s.blank W := by simp [setStore, Com.blank, Tsu.blank, Dxd.blank, h0]

@[simp ↓] theorem setStore_dxd_blank {W : Part → Bool} (m : Nat) (a : Nat) (mask : Word) (v : Word) (s : State) (h0 : W (.com .dxd .regs) = true) :
    (setStore .dxd m a mask v s).blank W = s.blank W := by simp [setStore, Com.blank, Tsu.blank, Dxd.blank, h0]

@[simp ↓] theorem setsReg_dxd_store_blank {W : Part → Bool} (off : Nat) (v_ : Word) (s_ : State) (h0 : W (.com .dxd .pgEvent) = true) (h1 : W (.com .dxd .ic) = true) (h2 : W (.com .dxd .msets) = true) (h3 : W (.com .dxd .regs) = true) :
    ((setsReg .dxd off).store v_ s_).blank W = s_.blank W := by
  unfold setsReg
  dsimp only
  (repeat' split) <;> simp (maxDischargeDepth := 12) [noReg, roReg, rcReg, fxReg, rwReg, Com.blank, Tsu.blank, Dxd.blank, h0, h1, h2, h3]

@[simp ↓] theorem setsReg_dxd_effect_blank {W : Part → Bool} (off : Nat) (s_ : State) (h0 : W (.com .dxd .pgEvent) = true) (h1 : W (.com .dxd .ic) = true) (h2 : W (.com .dxd .msets) = true) (h3 : W (.com .dxd .regs) = true) :
    ((setsReg .dxd off).effect s_).blank W = s_.blank W := by
  unfold setsReg
  dsimp only
  (repeat' split) <;> simp (maxDischargeDepth := 12) [noReg, roReg, rcReg, fxReg, rwReg, Com.blank, Tsu.blank, Dxd.blank, h0, h1, h2, h3]

@[simp ↓] theorem setsReg_tsu_store_blank {W : Part → Bool} (off : Nat) (v_ : Word) (s_ : State) (h0 : W (.com .tsu .pgEvent) = true) (h1 : W (.com .tsu .ic) = true) (h2 : W (.com .tsu .msets) = true) (h3 : W (.com .tsu .regs) = true) :
    ((setsReg .tsu off).store v_ s_).blank W = s_.blank W := by
  unfold setsReg
  dsimp only
  (repeat' split) <;> simp (maxDischargeDepth := 12) [noReg, roReg, rcReg, fxReg, rwReg, Com.blank, Tsu.blank, Dxd.blank, h0, h1, h2, h3]

@[simp ↓] theorem setsReg_tsu_effect_blank {W : Part → Bool} (off : Nat) (s_ : State) (h0 : W (.com .tsu .pgEvent) = true) (h1 : W (.com .tsu .ic) = true) (h2 : W (.com .tsu .msets) = true) (h3 : W (.com .tsu .regs) = true) :
    ((setsReg .tsu off).effect s_).blank W = s_.blank W := by
  unfold setsReg
  dsimp only
  (repeat' split) <;> simp (maxDischargeDepth := 12) [noReg, roReg, rcReg, fxReg, rwReg, Com.blank, Tsu.blank, Dxd.blank, h0, h1, h2, h3]

@[simp ↓] theorem chanRegDef_tsu_store_blank {W : Part → Bool} (ch : Nat) (s : State) (v_ : Word) (s_ : State) (h0 : W (.com .tsu .chans) = true) :
    ((chanRegDef .tsu ch s).store v_ s_).blank W = s_.blank W := by
  unfold chanRegDef
  (repeat' split) <;> simp (maxDischargeDepth := 12) [noReg, roReg, rcReg, fxReg, rwReg, Com.blank, Tsu.blank, Dxd.blank, h0]

@[simp ↓] theorem chanRegDef_tsu_effect_blank {W : Part → Bool} (ch : Nat) (s : State) (s_ : State) (h0 : W (.com .tsu .chans) = true) :
    ((chanRegDef .tsu ch s).effect s_).blank W = s_.blank W := by
  unfold chanRegDef
  (repeat' split) <;> simp (maxDischargeDepth := 12) [noReg, roReg, rcReg, fxReg, rwReg, Com.blank, Tsu.blank, Dxd.blank, h0]

@[simp ↓] theorem chanRegDef_dxd_store_blank {W : Part → Bool} (ch : Nat) (s : State) (v_ : Word) (s_ : State) (h0 : W (.com .dxd .chans) = true) :
    ((chanRegDef .dxd ch s).store v_ s_).blank W = s_.blank W := by
  unfold chanRegDef
  (repeat' split) <;> simp (maxDischargeDepth := 12) [noReg, roReg, rcReg, fxReg, rwReg, Com.blank, Tsu.blank, Dxd.blank, h0]

@[simp ↓] theorem chanRegDef_dxd_effect_blank {W : Part → Bool} (ch : Nat) (s : State) (s_ : State) (h0 : W (.com .dxd .chans) = true) :
    ((chanRegDef .dxd ch s).effect s_).blank W = s_.blank W := by
  unfold chanRegDef
  (repeat' split) <;> simp (maxDischargeDepth := 12) [noReg, roReg, rcReg, fxReg, rwReg, Com.blank, Tsu.blank, Dxd.blank, h0]

@[simp ↓] theorem tdReg_dxd_store_blank {W : Part → Bool} (pg : Nat) (off : Nat) (s : State) (v_ : Word) (s_ : State) (h0 : W (.com .dxd .chans) = true) (h1 : W (.com .dxd .pgEvent) = true) (h2 : W (.com .dxd .ic) = true) (h3 : W (.com .dxd .msets) = true) (h4 : W (.com .dxd .regs) = true) :
    ((tdReg .dxd pg off s).store v_ s_).blank W = s_.blank W := by
  unfold tdReg
  (repeat' split) <;> simp (maxDischargeDepth := 12) [noReg, roReg, rcReg, fxReg, rwReg, Com.blank, Tsu.blank, Dxd.blank, h0, h1, h2, h3, h4]

@[simp ↓] theorem tdReg_dxd_effect_blank {W : Part → Bool} (pg : Nat) (off : Nat) (s : State) (s_ : State) (h0 : W (.com .dxd .chans) = true) (h1 : W (.com .dxd .pgEvent) = true) (h2 : W (.com .dxd .ic) = true) (h3 : W (.com .dxd .msets) = true) (h4 : W (.com .dxd .regs) = true) :
    ((tdReg .dxd pg off s).effect s_).blank W = s_.blank W := by
  unfold tdReg
  (repeat' split) <;> simp (maxDischargeDepth := 12) [noReg, roReg, rcReg, fxReg, rwReg, Com.blank, Tsu.blank, Dxd.blank, h0, h1, h2, h3, h4]

@[simp ↓] theorem tdReg_tsu_store_blank {W : Part → Bool} (pg : Nat) (off : Nat) (s : State) (v_ : Word) (s_ : State) (h0 : W (.com .tsu .chans) = true) (h1 : W (.com .tsu .pgEvent) = true) (h2 : W (.com .tsu .ic) = true) (h3 : W (.com .tsu .msets) = true) (h4 : W (.com .tsu .regs) = true) :
    ((tdReg .tsu pg off s).store v_ s_).blank W = s_.blank W := by
  unfold tdReg
  (repeat' split) <;> simp (maxDischargeDepth := 12) [noReg, roReg, rcReg, fxReg, rwReg, Com.blank, Tsu.blank, Dxd.blank, h0, h1, h2, h3, h4]

@[simp ↓] theorem tdReg_tsu_effect_blank {W : Part → Bool} (pg : Nat) (off : Nat) (s : State) (s_ : State) (h0 : W (.com .tsu .chans) = true) (h1 : W (.com .tsu .pgEvent) = true) (h2 : W (.com .tsu .ic) = true) (h3 : W (.com .tsu .msets) = true) (h4 : W (.com .tsu .regs) = true) :
    ((tdReg .tsu pg off s).effect s_).blank W = s_.blank W := by
  unfold tdReg
  (repeat' split) <;> simp (maxDischargeDepth := 12) [noReg, roReg, rcReg, fxReg, rwReg, Com.blank, Tsu.blank, Dxd.blank, h0, h1, h2, h3, h4]

@[simp ↓] theorem bayReg_store_blank {W : Part → Bool} (b : Nat) (o : Nat) (s : State) (v_ : Word) (s_ : State) (h0 : W (.com .tsu .pgEvent) = true) (h1 : W (.com .tsu .ic) = true) (h2 : W (.com .tsu .regs) = true) (h3 : W .bays = true) :
    ((bayReg b o s).store v_ s_).blank W = s_.blank W := by
  unfold bayReg
  (repeat' split) <;> simp (maxDischargeDepth := 12) [noReg, roReg, rcReg, fxReg, rwReg, Com.blank, Tsu.blank, Dxd.blank, h0, h1, h2, h3]

@[simp ↓] theorem bayReg_effect_blank {W : Part → Bool} (b : Nat) (o : Nat) (s : State) (s_ : State) (h0 : W (.com .tsu .pgEvent) = true) (h1 : W (.com .tsu .ic) = true) (h2 : W (.com .tsu .regs) = true) (h3 : W .bays = true) :
    ((bayReg b o s).effect s_).blank W = s_.blank W := by
  unfold bayReg
  (repeat' split) <;> simp (maxDischargeDepth := 12) [noReg, roReg, rcReg, fxReg, rwReg, Com.blank, Tsu.blank, Dxd.blank, h0, h1, h2, h3]

@[simp ↓] theorem byReg_store_blank {W : Part → Bool} (off : Nat) (s : State) (v_ : Word) (s_ : State) (h0 : W (.com .tsu .regs) = true) (h1 : W (.com .tsu .pgEvent) = true) (h2 : W (.com .tsu .ic) = true) (h3 : W .bays = true) :
    ((byReg off s).store v_ s_).blank W = s_.blank W := by
  unfold byReg
  dsimp only
  (repeat' split) <;> simp (maxDischargeDepth := 12) [noReg, roReg, rcReg, fxReg, rwReg, Com.blank, Tsu.blank, Dxd.blank, h0, h1, h2, h3]

@[simp ↓] theorem byReg_effect_blank {W : Part → Bool} (off : Nat) (s : State) (s_ : State) (h0 : W (.com .tsu .regs) = true) (h1 : W (.com .tsu .pgEvent) = true) (h2 : W (.com .tsu .ic) = true) (h3 : W .bays = true) :
    ((byReg off s).effect s_).blank W = s_.blank W := by
  unfold byReg
  dsimp only
  (repeat' split) <;> simp (maxDischargeDepth := 12) [noReg, roReg, rcReg, fxReg, rwReg, Com.blank, Tsu.blank, Dxd.blank, h0, h1, h2, h3]

end Sys2Proof.Machine
end

