-- ==== Sys2Proof/Laws/FrameRegsTsu.lean ====
section
/-!
SUPPORT. What the operations of Machine/RegsTsu.lean can change.
-/

namespace Sys2Proof.Machine

@[simp ↓] theorem cuReg_store_blank {W : Part → Bool} (off : Nat) (v_ : Word) (s_ : State) (h0 : W (.com .tsu .regs) = true) (h1 : W .cue = true) (h2 : W .signals = true) (h3 : W .huddles = true) (h4 : W (.com .tsu .pgEvent) = true) (h5 : W (.com .tsu .ic) = true) (h6 : W .steps = true) (h7 : W .tallies = true) (h8 : W (.com .tsu .ports) = true) (h9 : W .member = true) (h10 : W .keyPort = true) (h11 : W (.com .tsu .tk) = true) (h12 : W .bays = true) :
    ((cuReg off).store v_ s_).blank W = s_.blank W := by
  unfold cuReg
  (repeat' split) <;> simp (maxDischargeDepth := 12) [noReg, roReg, rcReg, fxReg, rwReg, Com.blank, Tsu.blank, Dxd.blank, h0, h1, h2, h3, h4, h5, h6, h7, h8, h9, h10, h11, h12]

@[simp ↓] theorem cuReg_effect_blank {W : Part → Bool} (off : Nat) (s_ : State) (h0 : W (.com .tsu .regs) = true) (h1 : W .cue = true) (h2 : W .signals = true) (h3 : W .huddles = true) (h4 : W (.com .tsu .pgEvent) = true) (h5 : W (.com .tsu .ic) = true) (h6 : W .steps = true) (h7 : W .tallies = true) (h8 : W (.com .tsu .ports) = true) (h9 : W .member = true) (h10 : W .keyPort = true) (h11 : W (.com .tsu .tk) = true) (h12 : W .bays = true) :
    ((cuReg off).effect s_).blank W = s_.blank W := by
  unfold cuReg
  (repeat' split) <;> simp (maxDischargeDepth := 12) [noReg, roReg, rcReg, fxReg, rwReg, Com.blank, Tsu.blank, Dxd.blank, h0, h1, h2, h3, h4, h5, h6, h7, h8, h9, h10, h11]

@[simp ↓] theorem pbAddrStore_blank {W : Part → Bool} (v : Word) (s : State) (h0 : W .cue = true) :
    (pbAddrStore v s).blank W = s.blank W := by simp [pbAddrStore, Com.blank, Tsu.blank, Dxd.blank, h0]

@[simp ↓] theorem pbReg_store_blank {W : Part → Bool} (off : Nat) (v_ : Word) (s_ : State) (h0 : W .cue = true) (h1 : W (.com .tsu .pgEvent) = true) (h2 : W (.com .tsu .ic) = true) :
    ((pbReg off).store v_ s_).blank W = s_.blank W := by
  unfold pbReg
  (repeat' split) <;> simp (maxDischargeDepth := 12) [noReg, roReg, rcReg, fxReg, rwReg, Com.blank, Tsu.blank, Dxd.blank, h0, h1, h2]

@[simp ↓] theorem pbReg_effect_blank {W : Part → Bool} (off : Nat) (s_ : State) (h0 : W .cue = true) (h1 : W (.com .tsu .pgEvent) = true) (h2 : W (.com .tsu .ic) = true) :
    ((pbReg off).effect s_).blank W = s_.blank W := by
  unfold pbReg
  (repeat' split) <;> simp (maxDischargeDepth := 12) [noReg, roReg, rcReg, fxReg, rwReg, Com.blank, Tsu.blank, Dxd.blank, h0, h1, h2]

@[simp ↓] theorem sgReg_store_blank {W : Part → Bool} (off : Nat) (v_ : Word) (s_ : State) (h0 : W (.com .tsu .regs) = true) (h1 : W .signals = true) (h2 : W (.com .tsu .pgEvent) = true) (h3 : W (.com .tsu .ic) = true) :
    ((sgReg off).store v_ s_).blank W = s_.blank W := by
  unfold sgReg
  (repeat' split) <;> simp (maxDischargeDepth := 12) [noReg, roReg, rcReg, fxReg, rwReg, Com.blank, Tsu.blank, Dxd.blank, h0, h1, h2, h3]

@[simp ↓] theorem sgReg_effect_blank {W : Part → Bool} (off : Nat) (s_ : State) (h0 : W (.com .tsu .regs) = true) (h1 : W .signals = true) (h2 : W (.com .tsu .pgEvent) = true) (h3 : W (.com .tsu .ic) = true) :
    ((sgReg off).effect s_).blank W = s_.blank W := by
  unfold sgReg
  (repeat' split) <;> simp (maxDischargeDepth := 12) [noReg, roReg, rcReg, fxReg, rwReg, Com.blank, Tsu.blank, Dxd.blank, h0, h1, h2, h3]

@[simp ↓] theorem streamReg_store_blank {W : Part → Bool} (pg : Nat) (off : Nat) (v_ : Word) (s_ : State) (h0 : W .signals = true) :
    ((streamReg pg off).store v_ s_).blank W = s_.blank W := by
  unfold streamReg
  (repeat' split) <;> simp (maxDischargeDepth := 12) [noReg, roReg, rcReg, fxReg, rwReg, Com.blank, Tsu.blank, Dxd.blank, h0]

@[simp ↓] theorem streamReg_effect_blank {W : Part → Bool} (pg : Nat) (off : Nat) (s_ : State) (h0 : W .signals = true) :
    ((streamReg pg off).effect s_).blank W = s_.blank W := by
  unfold streamReg
  (repeat' split) <;> simp (maxDischargeDepth := 12) [noReg, roReg, rcReg, fxReg, rwReg, Com.blank, Tsu.blank, Dxd.blank, h0]

@[simp ↓] theorem hdReg_store_blank {W : Part → Bool} (off : Nat) (v_ : Word) (s_ : State)  :
    ((hdReg off).store v_ s_).blank W = s_.blank W := by
  unfold hdReg
  (repeat' split) <;> simp (maxDischargeDepth := 12) [noReg, roReg, rcReg, fxReg, rwReg, Com.blank, Tsu.blank, Dxd.blank]

@[simp ↓] theorem hdReg_effect_blank {W : Part → Bool} (off : Nat) (s_ : State)  :
    ((hdReg off).effect s_).blank W = s_.blank W := by
  unfold hdReg
  (repeat' split) <;> simp (maxDischargeDepth := 12) [noReg, roReg, rcReg, fxReg, rwReg, Com.blank, Tsu.blank, Dxd.blank]

@[simp ↓] theorem kpReg_store_blank {W : Part → Bool} (off : Nat) (v_ : Word) (s_ : State) (h0 : W .keyPort = true) :
    ((kpReg off).store v_ s_).blank W = s_.blank W := by
  unfold kpReg
  (repeat' split) <;> simp (maxDischargeDepth := 12) [noReg, roReg, rcReg, fxReg, rwReg, Com.blank, Tsu.blank, Dxd.blank, h0]

@[simp ↓] theorem kpReg_effect_blank {W : Part → Bool} (off : Nat) (s_ : State) (h0 : W .keyPort = true) :
    ((kpReg off).effect s_).blank W = s_.blank W := by
  unfold kpReg
  (repeat' split) <;> simp (maxDischargeDepth := 12) [noReg, roReg, rcReg, fxReg, rwReg, Com.blank, Tsu.blank, Dxd.blank, h0]

@[simp ↓] theorem tlReg_store_blank {W : Part → Bool} (rq : Nat) (off : Nat) (s : State) (v_ : Word) (s_ : State) (h0 : W .tallies = true) (h1 : W (.com .tsu .regs) = true) (h2 : W (.com .tsu .pgEvent) = true) (h3 : W (.com .tsu .ic) = true) :
    ((tlReg rq off s).store v_ s_).blank W = s_.blank W := by
  unfold tlReg
  (repeat' split) <;> simp (maxDischargeDepth := 12) [noReg, roReg, rcReg, fxReg, rwReg, Com.blank, Tsu.blank, Dxd.blank, h0, h1, h2, h3]

@[simp ↓] theorem tlReg_effect_blank {W : Part → Bool} (rq : Nat) (off : Nat) (s : State) (s_ : State) (h0 : W .tallies = true) (h1 : W (.com .tsu .regs) = true) (h2 : W (.com .tsu .pgEvent) = true) (h3 : W (.com .tsu .ic) = true) :
    ((tlReg rq off s).effect s_).blank W = s_.blank W := by
  unfold tlReg
  (repeat' split) <;> simp (maxDischargeDepth := 12) [noReg, roReg, rcReg, fxReg, rwReg, Com.blank, Tsu.blank, Dxd.blank, h0, h1, h2, h3]

@[simp ↓] theorem lsTsuReg_store_blank {W : Part → Bool} (off : Nat) (v_ : Word) (s_ : State) (h0 : W (.com .tsu .regs) = true) :
    ((lsTsuReg off).store v_ s_).blank W = s_.blank W := by
  unfold lsTsuReg
  (repeat' split) <;> simp (maxDischargeDepth := 12) [noReg, roReg, rcReg, fxReg, rwReg, Com.blank, Tsu.blank, Dxd.blank, h0]

@[simp ↓] theorem lsTsuReg_effect_blank {W : Part → Bool} (off : Nat) (s_ : State) (h0 : W (.com .tsu .regs) = true) :
    ((lsTsuReg off).effect s_).blank W = s_.blank W := by
  unfold lsTsuReg
  (repeat' split) <;> simp (maxDischargeDepth := 12) [noReg, roReg, rcReg, fxReg, rwReg, Com.blank, Tsu.blank, Dxd.blank, h0]

@[simp ↓] theorem stReg_store_blank {W : Part → Bool} (off : Nat) (v_ : Word) (s_ : State) (h0 : W (.com .tsu .regs) = true) (h1 : W .stock = true) :
    ((stReg off).store v_ s_).blank W = s_.blank W := by
  unfold stReg
  (repeat' split) <;> simp (maxDischargeDepth := 12) [noReg, roReg, rcReg, fxReg, rwReg, Com.blank, Tsu.blank, Dxd.blank, h0, h1]

@[simp ↓] theorem stReg_effect_blank {W : Part → Bool} (off : Nat) (s_ : State) (h0 : W (.com .tsu .regs) = true) (h1 : W .stock = true) :
    ((stReg off).effect s_).blank W = s_.blank W := by
  unfold stReg
  (repeat' split) <;> simp (maxDischargeDepth := 12) [noReg, roReg, rcReg, fxReg, rwReg, Com.blank, Tsu.blank, Dxd.blank, h0, h1]

end Sys2Proof.Machine
end

