-- ==== Sys2Proof/Laws/FrameRegsDxd.lean ====
section
/-!
SUPPORT. What the operations of Machine/RegsDxd.lean can change.
-/

namespace Sys2Proof.Machine

@[simp ↓] theorem rfReg_store_blank {W : Part → Bool} (off : Nat) (v_ : Word) (s_ : State) (h0 : W (.com .dxd .regs) = true) (h1 : W .refs = true) (h2 : W (.com .dxd .coreA) = true) (h3 : W (.com .dxd .coreB) = true) (h4 : W (.com .dxd .tk) = true) (h5 : W (.com .dxd .pgEvent) = true) (h6 : W (.com .dxd .ic) = true) (h7 : W .hold = true) (h8 : W (.com .dxd .hfits) = true) (h9 : W (.com .dxd .msets) = true) (h10 : W .ptp = true) (h11 : W .attic = true) :
    ((rfReg off).store v_ s_).blank W = s_.blank W := by
  unfold rfReg
  (repeat' split) <;> simp (maxDischargeDepth := 12) [noReg, roReg, rcReg, fxReg, rwReg, Com.blank, Tsu.blank, Dxd.blank, h0, h1, h2, h3, h4, h5, h6, h7, h8, h9, h10, h11]

@[simp ↓] theorem rfReg_effect_blank {W : Part → Bool} (off : Nat) (s_ : State) (h0 : W (.com .dxd .regs) = true) (h1 : W .refs = true) (h2 : W (.com .dxd .coreA) = true) (h3 : W (.com .dxd .coreB) = true) (h4 : W (.com .dxd .tk) = true) (h5 : W (.com .dxd .pgEvent) = true) (h6 : W (.com .dxd .ic) = true) (h7 : W .hold = true) (h8 : W (.com .dxd .hfits) = true) (h9 : W (.com .dxd .msets) = true) (h10 : W .ptp = true) (h11 : W .attic = true) :
    ((rfReg off).effect s_).blank W = s_.blank W := by
  unfold rfReg
  (repeat' split) <;> simp (maxDischargeDepth := 12) [noReg, roReg, rcReg, fxReg, rwReg, Com.blank, Tsu.blank, Dxd.blank, h0, h1, h2, h3, h4, h5, h6, h7, h8, h9]

@[simp ↓] theorem svHistoryStore_blank {W : Part → Bool} (v : Word) (s : State) (h0 : W .hold = true) :
    (svHistoryStore v s).blank W = s.blank W := by simp [svHistoryStore, Com.blank, Tsu.blank, Dxd.blank, h0]

@[simp ↓] theorem svReg_store_blank {W : Part → Bool} (off : Nat) (v_ : Word) (s_ : State) (h0 : W (.com .dxd .regs) = true) (h1 : W .refs = true) (h2 : W .hold = true) (h3 : W .attic = true) (h4 : W (.com .dxd .tk) = true) (h5 : W .ptp = true) (h6 : W (.com .dxd .pgEvent) = true) (h7 : W (.com .dxd .ic) = true) (h8 : W (.com .dxd .coreA) = true) (h9 : W (.com .dxd .coreB) = true) (h10 : W (.com .dxd .hfits) = true) (h11 : W (.com .dxd .msets) = true) :
    ((svReg off).store v_ s_).blank W = s_.blank W := by
  unfold svReg
  (repeat' split) <;> simp (maxDischargeDepth := 12) [noReg, roReg, rcReg, fxReg, rwReg, Com.blank, Tsu.blank, Dxd.blank, h0, h1, h2, h3, h4, h5, h6, h7, h8, h9, h10, h11]

@[simp ↓] theorem svReg_effect_blank {W : Part → Bool} (off : Nat) (s_ : State) (h0 : W (.com .dxd .regs) = true) (h1 : W .refs = true) (h2 : W .hold = true) (h3 : W .attic = true) (h4 : W (.com .dxd .tk) = true) (h5 : W .ptp = true) (h6 : W (.com .dxd .pgEvent) = true) (h7 : W (.com .dxd .ic) = true) (h8 : W (.com .dxd .coreA) = true) (h9 : W (.com .dxd .coreB) = true) (h10 : W (.com .dxd .hfits) = true) (h11 : W (.com .dxd .msets) = true) :
    ((svReg off).effect s_).blank W = s_.blank W := by
  unfold svReg
  (repeat' split) <;> simp (maxDischargeDepth := 12) [noReg, roReg, rcReg, fxReg, rwReg, Com.blank, Tsu.blank, Dxd.blank, h0, h1, h2, h3, h4, h5, h6, h7, h8, h9]

@[simp ↓] theorem opOutStore_blank {W : Part → Bool} (n : Nat) (v : Word) (s : State) (h0 : W .outs = true) (h1 : W (.com .dxd .regs) = true) :
    (opOutStore n v s).blank W = s.blank W := by simp [opOutStore, Com.blank, Tsu.blank, Dxd.blank, h0, h1]

@[simp ↓] theorem opReg_store_blank {W : Part → Bool} (off : Nat) (v_ : Word) (s_ : State) (h0 : W (.com .dxd .regs) = true) (h1 : W (.com .dxd .pgEvent) = true) (h2 : W (.com .dxd .ic) = true) (h3 : W .outs = true) (h4 : W .referee = true) (h5 : W .ledger = true) (h6 : W (.com .dxd .ports) = true) :
    ((opReg off).store v_ s_).blank W = s_.blank W := by
  unfold opReg
  (repeat' split) <;> simp (maxDischargeDepth := 12) [noReg, roReg, rcReg, fxReg, rwReg, Com.blank, Tsu.blank, Dxd.blank, h0, h1, h2, h3, h4, h5, h6]

@[simp ↓] theorem opReg_effect_blank {W : Part → Bool} (off : Nat) (s_ : State) (h0 : W (.com .dxd .regs) = true) (h1 : W (.com .dxd .pgEvent) = true) (h2 : W (.com .dxd .ic) = true) (h3 : W .outs = true) (h4 : W .referee = true) (h5 : W .ledger = true) (h6 : W (.com .dxd .ports) = true) :
    ((opReg off).effect s_).blank W = s_.blank W := by
  unfold opReg
  (repeat' split) <;> simp (maxDischargeDepth := 12) [noReg, roReg, rcReg, fxReg, rwReg, Com.blank, Tsu.blank, Dxd.blank, h0, h1, h2, h3, h4, h5, h6]

@[simp ↓] theorem ptReg_store_blank {W : Part → Bool} (off : Nat) (v_ : Word) (s_ : State) (h0 : W (.com .dxd .regs) = true) (h1 : W (.com .dxd .pgEvent) = true) (h2 : W (.com .dxd .ic) = true) (h3 : W .ptp = true) (h4 : W (.com .dxd .tk) = true) (h5 : W .refs = true) (h6 : W .hold = true) (h7 : W (.com .dxd .coreA) = true) (h8 : W (.com .dxd .coreB) = true) (h9 : W (.com .dxd .hfits) = true) (h10 : W (.com .dxd .msets) = true) (h11 : W .attic = true) :
    ((ptReg off).store v_ s_).blank W = s_.blank W := by
  unfold ptReg
  (repeat' split) <;> simp (maxDischargeDepth := 12) [noReg, roReg, rcReg, fxReg, rwReg, Com.blank, Tsu.blank, Dxd.blank, h0, h1, h2, h3, h4, h5, h6, h7, h8, h9, h10, h11]

@[simp ↓] theorem ptReg_effect_blank {W : Part → Bool} (off : Nat) (s_ : State) (h0 : W (.com .dxd .regs) = true) (h1 : W (.com .dxd .pgEvent) = true) (h2 : W (.com .dxd .ic) = true) (h3 : W .ptp = true) (h4 : W (.com .dxd .tk) = true) (h5 : W .refs = true) (h6 : W .hold = true) (h7 : W (.com .dxd .coreA) = true) (h8 : W (.com .dxd .coreB) = true) (h9 : W (.com .dxd .hfits) = true) (h10 : W (.com .dxd .msets) = true) (h11 : W .attic = true) :
    ((ptReg off).effect s_).blank W = s_.blank W := by
  unfold ptReg
  (repeat' split) <;> simp (maxDischargeDepth := 12) [noReg, roReg, rcReg, fxReg, rwReg, Com.blank, Tsu.blank, Dxd.blank, h0, h1, h2, h3, h4, h5, h6, h7, h8, h9, h10]

@[simp ↓] theorem csReg_store_blank {W : Part → Bool} (off : Nat) (v_ : Word) (s_ : State) (h0 : W .census = true) (h1 : W (.com .dxd .regs) = true) :
    ((csReg off).store v_ s_).blank W = s_.blank W := by
  unfold csReg
  (repeat' split) <;> simp (maxDischargeDepth := 12) [noReg, roReg, rcReg, fxReg, rwReg, Com.blank, Tsu.blank, Dxd.blank, h0, h1]

@[simp ↓] theorem csReg_effect_blank {W : Part → Bool} (off : Nat) (s_ : State) (h0 : W .census = true) (h1 : W (.com .dxd .regs) = true) :
    ((csReg off).effect s_).blank W = s_.blank W := by
  unfold csReg
  (repeat' split) <;> simp (maxDischargeDepth := 12) [noReg, roReg, rcReg, fxReg, rwReg, Com.blank, Tsu.blank, Dxd.blank, h0, h1]

@[simp ↓] theorem tlDxdReg_store_blank {W : Part → Bool} (off : Nat) (v_ : Word) (s_ : State) (h0 : W .scores = true) :
    ((tlDxdReg off).store v_ s_).blank W = s_.blank W := by
  unfold tlDxdReg
  (repeat' split) <;> simp (maxDischargeDepth := 12) [noReg, roReg, rcReg, fxReg, rwReg, Com.blank, Tsu.blank, Dxd.blank, h0]

@[simp ↓] theorem tlDxdReg_effect_blank {W : Part → Bool} (off : Nat) (s_ : State) (h0 : W .scores = true) :
    ((tlDxdReg off).effect s_).blank W = s_.blank W := by
  unfold tlDxdReg
  (repeat' split) <;> simp (maxDischargeDepth := 12) [noReg, roReg, rcReg, fxReg, rwReg, Com.blank, Tsu.blank, Dxd.blank, h0]

@[simp ↓] theorem lsDxdReg_store_blank {W : Part → Bool} (off : Nat) (v_ : Word) (s_ : State) (h0 : W (.com .dxd .regs) = true) (h1 : W .scores = true) (h2 : W (.com .dxd .pgEvent) = true) (h3 : W (.com .dxd .ic) = true) :
    ((lsDxdReg off).store v_ s_).blank W = s_.blank W := by
  unfold lsDxdReg
  (repeat' split) <;> simp (maxDischargeDepth := 12) [noReg, roReg, rcReg, fxReg, rwReg, Com.blank, Tsu.blank, Dxd.blank, h0, h1, h2, h3]

@[simp ↓] theorem lsDxdReg_effect_blank {W : Part → Bool} (off : Nat) (s_ : State) (h0 : W (.com .dxd .regs) = true) (h1 : W .scores = true) (h2 : W (.com .dxd .pgEvent) = true) (h3 : W (.com .dxd .ic) = true) :
    ((lsDxdReg off).effect s_).blank W = s_.blank W := by
  unfold lsDxdReg
  (repeat' split) <;> simp (maxDischargeDepth := 12) [noReg, roReg, rcReg, fxReg, rwReg, Com.blank, Tsu.blank, Dxd.blank, h0, h1, h2, h3]

@[simp ↓] theorem mbReg_store_blank {W : Part → Bool} (off : Nat) (v_ : Word) (s_ : State) (h0 : W .referee = true) (h1 : W (.com .dxd .regs) = true) (h2 : W (.com .dxd .pgEvent) = true) (h3 : W (.com .dxd .ic) = true) (h4 : W .census = true) (h5 : W .ledger = true) (h6 : W (.com .dxd .ports) = true) (h7 : W .scores = true) (h8 : W .kicks = true) :
    ((mbReg off).store v_ s_).blank W = s_.blank W := by
  unfold mbReg
  (repeat' split) <;> simp (maxDischargeDepth := 12) [noReg, roReg, rcReg, fxReg, rwReg, Com.blank, Tsu.blank, Dxd.blank, h0, h1, h2, h3, h4, h5, h6, h7, h8]

@[simp ↓] theorem mbReg_effect_blank {W : Part → Bool} (off : Nat) (s_ : State) (h0 : W .referee = true) (h1 : W (.com .dxd .regs) = true) (h2 : W (.com .dxd .pgEvent) = true) (h3 : W (.com .dxd .ic) = true) (h4 : W .census = true) (h5 : W .ledger = true) (h6 : W (.com .dxd .ports) = true) (h7 : W .scores = true) (h8 : W .kicks = true) :
    ((mbReg off).effect s_).blank W = s_.blank W := by
  unfold mbReg
  (repeat' split) <;> simp (maxDischargeDepth := 12) [noReg, roReg, rcReg, fxReg, rwReg, Com.blank, Tsu.blank, Dxd.blank, h0, h1, h2, h3, h4, h5, h6, h7, h8]

@[simp ↓] theorem lgReg_store_blank {W : Part → Bool} (off : Nat) (v_ : Word) (s_ : State) (h0 : W .ledger = true) (h1 : W (.com .dxd .pgEvent) = true) (h2 : W (.com .dxd .ic) = true) (h3 : W .referee = true) (h4 : W .kicks = true) (h5 : W (.com .dxd .ports) = true) (h6 : W .census = true) (h7 : W (.com .dxd .seen) = true) (h8 : W .scores = true) (h9 : W (.com .dxd .regs) = true) :
    ((lgReg off).store v_ s_).blank W = s_.blank W := by
  unfold lgReg
  (repeat' split) <;> simp (maxDischargeDepth := 12) [noReg, roReg, rcReg, fxReg, rwReg, Com.blank, Tsu.blank, Dxd.blank, h0, h1, h2, h3, h4, h5, h6, h7, h8, h9]

@[simp ↓] theorem lgReg_effect_blank {W : Part → Bool} (off : Nat) (s_ : State) (h0 : W .ledger = true) (h1 : W (.com .dxd .pgEvent) = true) (h2 : W (.com .dxd .ic) = true) (h3 : W .referee = true) (h4 : W .kicks = true) (h5 : W (.com .dxd .ports) = true) (h6 : W .census = true) (h7 : W (.com .dxd .seen) = true) (h8 : W .scores = true) (h9 : W (.com .dxd .regs) = true) :
    ((lgReg off).effect s_).blank W = s_.blank W := by
  unfold lgReg
  (repeat' split) <;> simp (maxDischargeDepth := 12) [noReg, roReg, rcReg, fxReg, rwReg, Com.blank, Tsu.blank, Dxd.blank, h0, h1, h2, h3, h4]

@[simp ↓] theorem atReg_store_blank {W : Part → Bool} (off : Nat) (v_ : Word) (s_ : State) (h0 : W .attic = true) (h1 : W (.com .dxd .pgEvent) = true) (h2 : W (.com .dxd .ic) = true) (h3 : W (.com .dxd .ports) = true) (h4 : W (.com .dxd .regs) = true) :
    ((atReg off).store v_ s_).blank W = s_.blank W := by
  unfold atReg
  (repeat' split) <;> simp (maxDischargeDepth := 12) [noReg, roReg, rcReg, fxReg, rwReg, Com.blank, Tsu.blank, Dxd.blank, h0, h1, h2, h3, h4]

@[simp ↓] theorem atReg_effect_blank {W : Part → Bool} (off : Nat) (s_ : State) (h0 : W .attic = true) (h1 : W (.com .dxd .pgEvent) = true) (h2 : W (.com .dxd .ic) = true) (h3 : W (.com .dxd .ports) = true) (h4 : W (.com .dxd .regs) = true) :
    ((atReg off).effect s_).blank W = s_.blank W := by
  unfold atReg
  (repeat' split) <;> simp (maxDischargeDepth := 12) [noReg, roReg, rcReg, fxReg, rwReg, Com.blank, Tsu.blank, Dxd.blank, h0, h1, h2, h3, h4]

end Sys2Proof.Machine
end

