-- ==== Sys2Proof/Laws/FrameRegsCom.lean ====
section
/-!
SUPPORT. What the operations of Machine/RegsCom.lean can change.
-/

namespace Sys2Proof.Machine

@[simp ↓] theorem icTargetReg_tsu_store_blank {W : Part → Bool} (t : Nat) (o : Nat) (v_ : Word) (s_ : State) (h0 : W (.com .tsu .ic) = true) (h1 : W (.com .tsu .pgEvent) = true) :
    ((icTargetReg .tsu t o).store v_ s_).blank W = s_.blank W := by
  unfold icTargetReg
  (repeat' split) <;> simp (maxDischargeDepth := 12) [noReg, roReg, rcReg, fxReg, rwReg, Com.blank, Tsu.blank, Dxd.blank, h0, h1]

@[simp ↓] theorem icTargetReg_tsu_effect_blank {W : Part → Bool} (t : Nat) (o : Nat) (s_ : State) (h0 : W (.com .tsu .ic) = true) (h1 : W (.com .tsu .pgEvent) = true) :
    ((icTargetReg .tsu t o).effect s_).blank W = s_.blank W := by
  unfold icTargetReg
  (repeat' split) <;> simp (maxDischargeDepth := 12) [noReg, roReg, rcReg, fxReg, rwReg, Com.blank, Tsu.blank, Dxd.blank, h0, h1]

@[simp ↓] theorem icTargetReg_dxd_store_blank {W : Part → Bool} (t : Nat) (o : Nat) (v_ : Word) (s_ : State) (h0 : W (.com .dxd .ic) = true) (h1 : W (.com .dxd .pgEvent) = true) :
    ((icTargetReg .dxd t o).store v_ s_).blank W = s_.blank W := by
  unfold icTargetReg
  (repeat' split) <;> simp (maxDischargeDepth := 12) [noReg, roReg, rcReg, fxReg, rwReg, Com.blank, Tsu.blank, Dxd.blank, h0, h1]

@[simp ↓] theorem icTargetReg_dxd_effect_blank {W : Part → Bool} (t : Nat) (o : Nat) (s_ : State) (h0 : W (.com .dxd .ic) = true) (h1 : W (.com .dxd .pgEvent) = true) :
    ((icTargetReg .dxd t o).effect s_).blank W = s_.blank W := by
  unfold icTargetReg
  (repeat' split) <;> simp (maxDischargeDepth := 12) [noReg, roReg, rcReg, fxReg, rwReg, Com.blank, Tsu.blank, Dxd.blank, h0, h1]

@[simp ↓] theorem icReg_dxd_store_blank {W : Part → Bool} (off : Nat) (s : State) (v_ : Word) (s_ : State) (h0 : W (.com .dxd .ic) = true) (h1 : W (.com .dxd .pgEvent) = true) :
    ((icReg .dxd off s).store v_ s_).blank W = s_.blank W := by
  unfold icReg
  (repeat' split) <;> simp (maxDischargeDepth := 12) [noReg, roReg, rcReg, fxReg, rwReg, Com.blank, Tsu.blank, Dxd.blank, h0, h1]

@[simp ↓] theorem icReg_dxd_effect_blank {W : Part → Bool} (off : Nat) (s : State) (s_ : State) (h0 : W (.com .dxd .ic) = true) (h1 : W (.com .dxd .pgEvent) = true) :
    ((icReg .dxd off s).effect s_).blank W = s_.blank W := by
  unfold icReg
  (repeat' split) <;> simp (maxDischargeDepth := 12) [noReg, roReg, rcReg, fxReg, rwReg, Com.blank, Tsu.blank, Dxd.blank, h0, h1]

@[simp ↓] theorem icReg_tsu_store_blank {W : Part → Bool} (off : Nat) (s : State) (v_ : Word) (s_ : State) (h0 : W (.com .tsu .ic) = true) (h1 : W (.com .tsu .pgEvent) = true) :
    ((icReg .tsu off s).store v_ s_).blank W = s_.blank W := by
  unfold icReg
  (repeat' split) <;> simp (maxDischargeDepth := 12) [noReg, roReg, rcReg, fxReg, rwReg, Com.blank, Tsu.blank, Dxd.blank, h0, h1]

@[simp ↓] theorem icReg_tsu_effect_blank {W : Part → Bool} (off : Nat) (s : State) (s_ : State) (h0 : W (.com .tsu .ic) = true) (h1 : W (.com .tsu .pgEvent) = true) :
    ((icReg .tsu off s).effect s_).blank W = s_.blank W := by
  unfold icReg
  (repeat' split) <;> simp (maxDischargeDepth := 12) [noReg, roReg, rcReg, fxReg, rwReg, Com.blank, Tsu.blank, Dxd.blank, h0, h1]

@[simp ↓] theorem btReg_tsu_store_blank {W : Part → Bool} (off : Nat) (v_ : Word) (s_ : State) (h0 : W (.com .tsu .regs) = true) (h1 : W (.com .tsu .pgEvent) = true) (h2 : W (.com .tsu .ic) = true) (h3 : W (.com .tsu .bt) = true) (h4 : W .bays = true) :
    ((btReg .tsu off).store v_ s_).blank W = s_.blank W := by
  unfold btReg
  (repeat' split) <;> simp (maxDischargeDepth := 12) [noReg, roReg, rcReg, fxReg, rwReg, Com.blank, Tsu.blank, Dxd.blank, h0, h1, h2, h3, h4]

@[simp ↓] theorem btReg_tsu_effect_blank {W : Part → Bool} (off : Nat) (s_ : State) (h0 : W (.com .tsu .regs) = true) (h1 : W (.com .tsu .pgEvent) = true) (h2 : W (.com .tsu .ic) = true) (h3 : W (.com .tsu .bt) = true) (h4 : W .bays = true) :
    ((btReg .tsu off).effect s_).blank W = s_.blank W := by
  unfold btReg
  (repeat' split) <;> simp (maxDischargeDepth := 12) [noReg, roReg, rcReg, fxReg, rwReg, Com.blank, Tsu.blank, Dxd.blank, h0, h1, h2, h3]

@[simp ↓] theorem btReg_dxd_store_blank {W : Part → Bool} (off : Nat) (v_ : Word) (s_ : State) (h0 : W (.com .dxd .regs) = true) (h1 : W (.com .dxd .pgEvent) = true) (h2 : W (.com .dxd .ic) = true) (h3 : W (.com .dxd .bt) = true) (h4 : W (.com .tsu .bt) = true) :
    ((btReg .dxd off).store v_ s_).blank W = s_.blank W := by
  unfold btReg
  (repeat' split) <;> simp (maxDischargeDepth := 12) [noReg, roReg, rcReg, fxReg, rwReg, Com.blank, Tsu.blank, Dxd.blank, h0, h1, h2, h3, h4]

@[simp ↓] theorem btReg_dxd_effect_blank {W : Part → Bool} (off : Nat) (s_ : State) (h0 : W (.com .dxd .regs) = true) (h1 : W (.com .dxd .pgEvent) = true) (h2 : W (.com .dxd .ic) = true) (h3 : W (.com .dxd .bt) = true) (h4 : W (.com .tsu .bt) = true) :
    ((btReg .dxd off).effect s_).blank W = s_.blank W := by
  unfold btReg
  (repeat' split) <;> simp (maxDischargeDepth := 12) [noReg, roReg, rcReg, fxReg, rwReg, Com.blank, Tsu.blank, Dxd.blank, h0, h1, h2, h3, h4]

@[simp ↓] theorem fuReg_tsu_store_blank {W : Part → Bool} (off : Nat) (v_ : Word) (s_ : State) (h0 : W (.com .tsu .pgEvent) = true) (h1 : W (.com .tsu .ic) = true) (h2 : W (.com .tsu .ta) = true) :
    ((fuReg .tsu off).store v_ s_).blank W = s_.blank W := by
  unfold fuReg
  (repeat' split) <;> simp (maxDischargeDepth := 12) [noReg, roReg, rcReg, fxReg, rwReg, Com.blank, Tsu.blank, Dxd.blank, h0, h1, h2]

@[simp ↓] theorem fuReg_tsu_effect_blank {W : Part → Bool} (off : Nat) (s_ : State) (h0 : W (.com .tsu .pgEvent) = true) (h1 : W (.com .tsu .ic) = true) (h2 : W (.com .tsu .ta) = true) :
    ((fuReg .tsu off).effect s_).blank W = s_.blank W := by
  unfold fuReg
  (repeat' split) <;> simp (maxDischargeDepth := 12) [noReg, roReg, rcReg, fxReg, rwReg, Com.blank, Tsu.blank, Dxd.blank, h0, h1, h2]

@[simp ↓] theorem fuReg_dxd_store_blank {W : Part → Bool} (off : Nat) (v_ : Word) (s_ : State) (h0 : W (.com .dxd .pgEvent) = true) (h1 : W (.com .dxd .ic) = true) (h2 : W (.com .dxd .ta) = true) :
    ((fuReg .dxd off).store v_ s_).blank W = s_.blank W := by
  unfold fuReg
  (repeat' split) <;> simp (maxDischargeDepth := 12) [noReg, roReg, rcReg, fxReg, rwReg, Com.blank, Tsu.blank, Dxd.blank, h0, h1, h2]

@[simp ↓] theorem fuReg_dxd_effect_blank {W : Part → Bool} (off : Nat) (s_ : State) (h0 : W (.com .dxd .pgEvent) = true) (h1 : W (.com .dxd .ic) = true) (h2 : W (.com .dxd .ta) = true) :
    ((fuReg .dxd off).effect s_).blank W = s_.blank W := by
  unfold fuReg
  (repeat' split) <;> simp (maxDischargeDepth := 12) [noReg, roReg, rcReg, fxReg, rwReg, Com.blank, Tsu.blank, Dxd.blank, h0, h1, h2]

@[simp ↓] theorem boReg_dxd_store_blank {W : Part → Bool} (off : Nat) (v_ : Word) (s_ : State) (h0 : W (.com .dxd .pgEvent) = true) (h1 : W (.com .dxd .ic) = true) (h2 : W .hold = true) (h3 : W (.com .dxd .tk) = true) (h4 : W (.com .dxd .coreA) = true) (h5 : W (.com .dxd .coreB) = true) (h6 : W (.com .dxd .chans) = true) (h7 : W (.com .dxd .msets) = true) (h8 : W (.com .dxd .hfits) = true) (h9 : W (.com .dxd .regs) = true) (h10 : W (.com .dxd .pgEn) = true) (h11 : W (.com .dxd .lockKey) = true) (h12 : W (.com .dxd .bt) = true) (h13 : W (.com .dxd .oseq) = true) (h14 : W (.com .dxd .seen) = true) (h15 : W (.com .dxd .censusTree) = true) (h16 : W (.com .dxd .boot) = true) (h17 : W .refs = true) (h18 : W .outs = true) (h19 : W .ptp = true) (h20 : W .kicks = true) (h21 : W .strobe = true) (h22 : W .census = true) (h23 : W .scores = true) (h24 : W .referee = true) (h25 : W .ownOff = true) (h26 : W .twinOff = true) (h27 : W .subsystem = true) (h28 : W .attic = true) (h29 : W (.com .dxd .ports) = true) (h30 : W (.com .dxd .up) = true) (h31 : W (.com .dxd .beats) = true) (h32 : W (.com .dxd .badAccess) = true) (h33 : W (.com .dxd .lockRefused) = true) (h34 : W (.com .dxd .ta) = true) (h35 : W (.com .dxd .barCap) = true) (h36 : W (.com .dxd .barLow) = true) (h37 : W (.com .dxd .rsp) = true) (h38 : W .straps = true) (h39 : W .ledger = true) :
    ((boReg .dxd off).store v_ s_).blank W = s_.blank W := by
  unfold boReg
  (repeat' split) <;> first
    | (exfalso; simp_all; done)
    | (simp (maxDischargeDepth := 12) [noReg, roReg, rcReg, fxReg, rwReg, Com.blank, Tsu.blank, Dxd.blank, h0, h1, h2, h3, h4, h5, h6, h7, h8, h9, h10, h11, h12, h13, h14, h15, h16, h17, h18, h19, h20, h21, h22, h23, h24, h25, h26, h27, h28, h29, h30, h31, h32, h33, h34, h35, h36, h37, h38, h39]; done)

@[simp ↓] theorem boReg_dxd_effect_blank {W : Part → Bool} (off : Nat) (s_ : State) (h0 : W (.com .dxd .pgEvent) = true) (h1 : W (.com .dxd .ic) = true) (h2 : W .hold = true) (h3 : W (.com .dxd .tk) = true) (h4 : W (.com .dxd .coreA) = true) (h5 : W (.com .dxd .coreB) = true) (h6 : W (.com .dxd .chans) = true) (h7 : W (.com .dxd .msets) = true) (h8 : W (.com .dxd .hfits) = true) (h9 : W (.com .dxd .regs) = true) (h10 : W (.com .dxd .pgEn) = true) (h11 : W (.com .dxd .lockKey) = true) (h12 : W (.com .dxd .bt) = true) (h13 : W (.com .dxd .oseq) = true) (h14 : W (.com .dxd .seen) = true) (h15 : W (.com .dxd .censusTree) = true) (h16 : W (.com .dxd .boot) = true) (h17 : W .refs = true) (h18 : W .outs = true) (h19 : W .ptp = true) (h20 : W .kicks = true) (h21 : W .strobe = true) (h22 : W .census = true) (h23 : W .scores = true) (h24 : W .referee = true) (h25 : W .ownOff = true) (h26 : W .twinOff = true) (h27 : W .subsystem = true) (h28 : W .attic = true) (h29 : W (.com .dxd .ports) = true) (h30 : W (.com .dxd .up) = true) (h31 : W (.com .dxd .beats) = true) (h32 : W (.com .dxd .badAccess) = true) (h33 : W (.com .dxd .lockRefused) = true) (h34 : W (.com .dxd .ta) = true) (h35 : W (.com .dxd .barCap) = true) (h36 : W (.com .dxd .barLow) = true) (h37 : W (.com .dxd .rsp) = true) (h38 : W .straps = true) (h39 : W .ledger = true) :
    ((boReg .dxd off).effect s_).blank W = s_.blank W := by
  unfold boReg
  (repeat' split) <;> simp (maxDischargeDepth := 12) [noReg, roReg, rcReg, fxReg, rwReg, Com.blank, Tsu.blank, Dxd.blank, h0, h1, h2, h3, h4, h5, h6, h7, h8, h9, h10, h11, h12, h13, h14, h15, h16, h17, h18, h19, h20, h21, h22, h23, h24, h25, h26, h27, h28, h29, h30, h31, h32, h33, h34, h35, h36]

@[simp ↓] theorem boReg_tsu_store_blank {W : Part → Bool} (off : Nat) (v_ : Word) (s_ : State) (h0 : W .steps = true) (h1 : W .tallies = true) (h2 : W (.com .tsu .ports) = true) (h3 : W .huddles = true) (h4 : W .cue = true) (h5 : W (.com .tsu .pgEvent) = true) (h6 : W (.com .tsu .ic) = true) (h7 : W .signals = true) (h8 : W .member = true) (h9 : W (.com .tsu .tk) = true) (h10 : W (.com .tsu .coreA) = true) (h11 : W (.com .tsu .coreB) = true) (h12 : W (.com .tsu .chans) = true) (h13 : W (.com .tsu .msets) = true) (h14 : W (.com .tsu .hfits) = true) (h15 : W (.com .tsu .regs) = true) (h16 : W (.com .tsu .pgEn) = true) (h17 : W (.com .tsu .lockKey) = true) (h18 : W (.com .tsu .bt) = true) (h19 : W (.com .tsu .oseq) = true) (h20 : W (.com .tsu .seen) = true) (h21 : W (.com .tsu .censusTree) = true) (h22 : W (.com .tsu .boot) = true) (h23 : W .stock = true) (h24 : W .keyPort = true) (h25 : W .bays = true) (h26 : W .kickPins = true) (h27 : W (.com .tsu .up) = true) (h28 : W (.com .tsu .beats) = true) (h29 : W (.com .tsu .badAccess) = true) (h30 : W (.com .tsu .lockRefused) = true) (h31 : W (.com .tsu .ta) = true) (h32 : W (.com .tsu .barCap) = true) (h33 : W (.com .tsu .barLow) = true) (h34 : W (.com .tsu .rsp) = true) :
    ((boReg .tsu off).store v_ s_).blank W = s_.blank W := by
  unfold boReg
  (repeat' split) <;> simp (maxDischargeDepth := 12) [noReg, roReg, rcReg, fxReg, rwReg, Com.blank, Tsu.blank, Dxd.blank, h0, h1, h2, h3, h4, h5, h6, h7, h8, h9, h10, h11, h12, h13, h14, h15, h16, h17, h18, h19, h20, h21, h22, h23, h24, h25, h26, h27, h28, h29, h30, h31, h32, h33, h34]

@[simp ↓] theorem boReg_tsu_effect_blank {W : Part → Bool} (off : Nat) (s_ : State) (h0 : W .steps = true) (h1 : W .tallies = true) (h2 : W (.com .tsu .ports) = true) (h3 : W .huddles = true) (h4 : W .cue = true) (h5 : W (.com .tsu .pgEvent) = true) (h6 : W (.com .tsu .ic) = true) (h7 : W .signals = true) (h8 : W .member = true) (h9 : W (.com .tsu .tk) = true) (h10 : W (.com .tsu .coreA) = true) (h11 : W (.com .tsu .coreB) = true) (h12 : W (.com .tsu .chans) = true) (h13 : W (.com .tsu .msets) = true) (h14 : W (.com .tsu .hfits) = true) (h15 : W (.com .tsu .regs) = true) (h16 : W (.com .tsu .pgEn) = true) (h17 : W (.com .tsu .lockKey) = true) (h18 : W (.com .tsu .bt) = true) (h19 : W (.com .tsu .oseq) = true) (h20 : W (.com .tsu .seen) = true) (h21 : W (.com .tsu .censusTree) = true) (h22 : W (.com .tsu .boot) = true) (h23 : W .stock = true) (h24 : W .keyPort = true) (h25 : W .bays = true) (h26 : W .kickPins = true) (h27 : W (.com .tsu .up) = true) (h28 : W (.com .tsu .beats) = true) (h29 : W (.com .tsu .badAccess) = true) (h30 : W (.com .tsu .lockRefused) = true) (h31 : W (.com .tsu .ta) = true) (h32 : W (.com .tsu .barCap) = true) (h33 : W (.com .tsu .barLow) = true) (h34 : W (.com .tsu .rsp) = true) :
    ((boReg .tsu off).effect s_).blank W = s_.blank W := by
  unfold boReg
  (repeat' split) <;> simp (maxDischargeDepth := 12) [noReg, roReg, rcReg, fxReg, rwReg, Com.blank, Tsu.blank, Dxd.blank, h0, h1, h2, h3, h4, h5, h6, h7, h8, h9, h10, h11, h12, h13, h14, h15, h16, h17, h18, h19, h20, h21, h22, h23, h24, h25, h26, h27, h28, h29, h30, h31, h32]

end Sys2Proof.Machine
end

