-- ==== Sys2Proof/Laws/FrameRegPages.lean ====
section
/-!
SUPPORT. What the operations of Machine/RegPages.lean can change.
-/

namespace Sys2Proof.Machine

@[simp ↓] theorem bodyReg_dxd_store_blank {W : Part → Bool} (rq : Nat) (pg : Nat) (off : Nat) (s : State) (v_ : Word) (s_ : State) (h0 : W (.com .dxd .tk) = true) (h1 : W (.com .dxd .regs) = true) (h2 : W .refs = true) (h3 : W .ptp = true) (h4 : W (.com .dxd .pgEvent) = true) (h5 : W (.com .dxd .ic) = true) (h6 : W .hold = true) (h7 : W (.com .dxd .coreA) = true) (h8 : W (.com .dxd .coreB) = true) (h9 : W (.com .dxd .hfits) = true) (h10 : W (.com .dxd .msets) = true) (h11 : W .attic = true) (h12 : W (.com .dxd .ports) = true) (h13 : W .referee = true) (h14 : W .ledger = true) (h15 : W .scores = true) (h16 : W .census = true) (h17 : W .kicks = true) (h18 : W (.com .dxd .chans) = true) (h19 : W (.com .tsu .regs) = true) (h20 : W (.com .tsu .pgEvent) = true) (h21 : W (.com .tsu .ic) = true) (h22 : W .bays = true) (h23 : W .cue = true) (h24 : W .signals = true) (h25 : W .huddles = true) (h26 : W .steps = true) (h27 : W .tallies = true) (h28 : W (.com .tsu .ports) = true) (h29 : W .member = true) (h30 : W .keyPort = true) (h31 : W (.com .tsu .tk) = true) (h32 : W .stock = true) (h33 : W (.com .dxd .bt) = true) (h34 : W (.com .tsu .bt) = true) (h35 : W (.com .dxd .pgEn) = true) (h36 : W (.com .dxd .lockKey) = true) (h37 : W (.com .dxd .oseq) = true) (h38 : W (.com .dxd .seen) = true) (h39 : W (.com .dxd .censusTree) = true) (h40 : W (.com .dxd .boot) = true) (h41 : W .outs = true) (h42 : W .strobe = true) (h43 : W .ownOff = true) (h44 : W .twinOff = true) (h45 : W .subsystem = true) (h46 : W (.com .dxd .up) = true) (h47 : W (.com .dxd .beats) = true) (h48 : W (.com .dxd .badAccess) = true) (h49 : W (.com .dxd .lockRefused) = true) (h50 : W (.com .dxd .ta) = true) (h51 : W (.com .dxd .barCap) = true) (h52 : W (.com .dxd .barLow) = true) (h53 : W (.com .dxd .rsp) = true) (h54 : W .straps = true) :
    ((bodyReg .dxd rq pg off s).store v_ s_).blank W = s_.blank W := by
  unfold bodyReg
  (repeat' split) <;> simp (maxDischargeDepth := 12) [noReg, roReg, rcReg, fxReg, rwReg, Com.blank, Tsu.blank, Dxd.blank, h0, h1, h2, h3, h4, h5, h6, h7, h8, h9, h10, h11, h12, h13, h14, h15, h16, h17, h18, h19, h20, h21, h22, h23, h24, h25, h26, h27, h28, h29, h30, h31, h32, h33, h34, h35, h36, h37, h38, h39, h40, h41, h42, h43, h44, h45, h46, h47, h48, h49, h50, h51, h52, h53, h54]

@[simp ↓] theorem bodyReg_dxd_effect_blank {W : Part → Bool} (rq : Nat) (pg : Nat) (off : Nat) (s : State) (s_ : State) (h0 : W (.com .dxd .tk) = true) (h1 : W (.com .dxd .regs) = true) (h2 : W .refs = true) (h3 : W .ptp = true) (h4 : W (.com .dxd .pgEvent) = true) (h5 : W (.com .dxd .ic) = true) (h6 : W .hold = true) (h7 : W (.com .dxd .coreA) = true) (h8 : W (.com .dxd .coreB) = true) (h9 : W (.com .dxd .hfits) = true) (h10 : W (.com .dxd .msets) = true) (h11 : W .attic = true) (h12 : W (.com .dxd .ports) = true) (h13 : W .referee = true) (h14 : W .ledger = true) (h15 : W .scores = true) (h16 : W .census = true) (h17 : W .kicks = true) (h18 : W (.com .dxd .chans) = true) (h19 : W (.com .tsu .regs) = true) (h20 : W (.com .tsu .pgEvent) = true) (h21 : W (.com .tsu .ic) = true) (h22 : W .bays = true) (h23 : W .cue = true) (h24 : W .signals = true) (h25 : W .huddles = true) (h26 : W .steps = true) (h27 : W .tallies = true) (h28 : W (.com .tsu .ports) = true) (h29 : W .member = true) (h30 : W .keyPort = true) (h31 : W (.com .tsu .tk) = true) (h32 : W .stock = true) (h33 : W (.com .dxd .bt) = true) (h34 : W (.com .tsu .bt) = true) (h35 : W (.com .dxd .pgEn) = true) (h36 : W (.com .dxd .lockKey) = true) (h37 : W (.com .dxd .oseq) = true) (h38 : W (.com .dxd .seen) = true) (h39 : W (.com .dxd .censusTree) = true) (h40 : W (.com .dxd .boot) = true) (h41 : W .outs = true) (h42 : W .strobe = true) (h43 : W .ownOff = true) (h44 : W .twinOff = true) (h45 : W .subsystem = true) (h46 : W (.com .dxd .up) = true) (h47 : W (.com .dxd .beats) = true) (h48 : W (.com .dxd .badAccess) = true) (h49 : W (.com .dxd .lockRefused) = true) (h50 : W (.com .dxd .ta) = true) (h51 : W (.com .dxd .barCap) = true) (h52 : W (.com .dxd .barLow) = true) (h53 : W (.com .dxd .rsp) = true) (h54 : W .straps = true) :
    ((bodyReg .dxd rq pg off s).effect s_).blank W = s_.blank W := by
  unfold bodyReg
  (repeat' split) <;> simp (maxDischargeDepth := 12) [noReg, roReg, rcReg, fxReg, rwReg, Com.blank, Tsu.blank, Dxd.blank, h0, h1, h2, h3, h4, h5, h6, h7, h8, h9, h10, h11, h12, h13, h14, h15, h16, h17, h18, h19, h20, h21, h22, h23, h24, h25, h26, h27, h28, h29, h30, h31, h32, h33, h34, h35, h36, h37, h38, h39, h40, h41, h42, h43, h44, h45, h46, h47, h48, h49, h50, h51, h52, h53, h54]

@[simp ↓] theorem bodyReg_tsu_store_blank {W : Part → Bool} (rq : Nat) (pg : Nat) (off : Nat) (s : State) (v_ : Word) (s_ : State) (h0 : W (.com .tsu .tk) = true) (h1 : W (.com .dxd .tk) = true) (h2 : W (.com .tsu .regs) = true) (h3 : W .member = true) (h4 : W (.com .tsu .coreA) = true) (h5 : W (.com .tsu .coreB) = true) (h6 : W (.com .tsu .pgEvent) = true) (h7 : W (.com .tsu .ic) = true) (h8 : W (.com .tsu .msets) = true) (h9 : W (.com .tsu .hfits) = true) (h10 : W (.com .tsu .ports) = true) (h11 : W .huddles = true) (h12 : W (.com .dxd .pgEvent) = true) (h13 : W (.com .dxd .ic) = true) (h14 : W (.com .tsu .chans) = true) (h15 : W .bays = true) (h16 : W .cue = true) (h17 : W .signals = true) (h18 : W .steps = true) (h19 : W .tallies = true) (h20 : W .keyPort = true) (h21 : W .scores = true) (h22 : W (.com .dxd .regs) = true) (h23 : W .stock = true) (h24 : W (.com .tsu .bt) = true) (h25 : W (.com .tsu .pgEn) = true) (h26 : W (.com .tsu .lockKey) = true) (h27 : W (.com .tsu .oseq) = true) (h28 : W (.com .tsu .seen) = true) (h29 : W (.com .tsu .censusTree) = true) (h30 : W (.com .tsu .boot) = true) (h31 : W .kickPins = true) (h32 : W (.com .tsu .up) = true) (h33 : W (.com .tsu .beats) = true) (h34 : W (.com .tsu .badAccess) = true) (h35 : W (.com .tsu .lockRefused) = true) (h36 : W (.com .tsu .ta) = true) (h37 : W (.com .tsu .barCap) = true) (h38 : W (.com .tsu .barLow) = true) (h39 : W (.com .tsu .rsp) = true) (h40 : W .refs = true) (h41 : W .hold = true) (h42 : W .attic = true) (h43 : W .ptp = true) (h44 : W (.com .dxd .coreA) = true) (h45 : W (.com .dxd .coreB) = true) (h46 : W (.com .dxd .hfits) = true) (h47 : W (.com .dxd .msets) = true) (h48 : W .outs = true) (h49 : W .referee = true) (h50 : W .ledger = true) (h51 : W (.com .dxd .ports) = true) (h52 : W .census = true) (h53 : W .kicks = true) (h54 : W (.com .dxd .seen) = true) :
    ((bodyReg .tsu rq pg off s).store v_ s_).blank W = s_.blank W := by
  unfold bodyReg
  (repeat' split) <;> simp (maxDischargeDepth := 12) [noReg, roReg, rcReg, fxReg, rwReg, Com.blank, Tsu.blank, Dxd.blank, h0, h1, h2, h3, h4, h5, h6, h7, h8, h9, h10, h11, h12, h13, h14, h15, h16, h17, h18, h19, h20, h21, h22, h23, h24, h25, h26, h27, h28, h29, h30, h31, h32, h33, h34, h35, h36, h37, h38, h39, h40, h41, h42, h43, h44, h45, h46, h47, h48, h49, h50, h51, h52, h53, h54]

@[simp ↓] theorem bodyReg_tsu_effect_blank {W : Part → Bool} (rq : Nat) (pg : Nat) (off : Nat) (s : State) (s_ : State) (h0 : W (.com .tsu .tk) = true) (h1 : W (.com .dxd .tk) = true) (h2 : W (.com .tsu .regs) = true) (h3 : W .member = true) (h4 : W (.com .tsu .coreA) = true) (h5 : W (.com .tsu .coreB) = true) (h6 : W (.com .tsu .pgEvent) = true) (h7 : W (.com .tsu .ic) = true) (h8 : W (.com .tsu .msets) = true) (h9 : W (.com .tsu .hfits) = true) (h10 : W (.com .tsu .ports) = true) (h11 : W .huddles = true) (h12 : W (.com .dxd .pgEvent) = true) (h13 : W (.com .dxd .ic) = true) (h14 : W (.com .tsu .chans) = true) (h15 : W .bays = true) (h16 : W .cue = true) (h17 : W .signals = true) (h18 : W .steps = true) (h19 : W .tallies = true) (h20 : W .keyPort = true) (h21 : W .scores = true) (h22 : W (.com .dxd .regs) = true) (h23 : W .stock = true) (h24 : W (.com .tsu .bt) = true) (h25 : W (.com .tsu .pgEn) = true) (h26 : W (.com .tsu .lockKey) = true) (h27 : W (.com .tsu .oseq) = true) (h28 : W (.com .tsu .seen) = true) (h29 : W (.com .tsu .censusTree) = true) (h30 : W (.com .tsu .boot) = true) (h31 : W .kickPins = true) (h32 : W (.com .tsu .up) = true) (h33 : W (.com .tsu .beats) = true) (h34 : W (.com .tsu .badAccess) = true) (h35 : W (.com .tsu .lockRefused) = true) (h36 : W (.com .tsu .ta) = true) (h37 : W (.com .tsu .barCap) = true) (h38 : W (.com .tsu .barLow) = true) (h39 : W (.com .tsu .rsp) = true) (h40 : W .refs = true) (h41 : W .hold = true) (h42 : W .attic = true) (h43 : W .ptp = true) (h44 : W (.com .dxd .coreA) = true) (h45 : W (.com .dxd .coreB) = true) (h46 : W (.com .dxd .hfits) = true) (h47 : W (.com .dxd .msets) = true) (h48 : W .outs = true) (h49 : W .referee = true) (h50 : W .ledger = true) (h51 : W (.com .dxd .ports) = true) (h52 : W .census = true) (h53 : W .kicks = true) (h54 : W (.com .dxd .seen) = true) :
    ((bodyReg .tsu rq pg off s).effect s_).blank W = s_.blank W := by
  unfold bodyReg
  (repeat' split) <;> simp (maxDischargeDepth := 12) [noReg, roReg, rcReg, fxReg, rwReg, Com.blank, Tsu.blank, Dxd.blank, h0, h1, h2, h3, h4, h5, h6, h7, h8, h9, h10, h11, h12, h13, h14, h15, h16, h17, h18, h19, h20, h21, h22, h23, h24, h25, h26, h27, h28, h29, h30, h31, h32, h33, h34, h35, h36, h37, h38, h39, h40, h41, h42, h43, h44, h45, h46, h47, h48, h49, h50, h51, h52, h53, h54]

@[simp ↓] theorem regAt_tsu_store_blank {W : Part → Bool} (rq : Nat) (pg : Nat) (off : Nat) (s : State) (v_ : Word) (s_ : State) (h0 : W (.com .tsu .badAccess) = true) (h1 : W (.com .tsu .lockRefused) = true) (h2 : W (.com .tsu .pgEvent) = true) (h3 : W (.com .tsu .ic) = true) (h4 : W (.com .tsu .pgEn) = true) (h5 : W (.com .tsu .lockKey) = true) (h6 : W (.com .tsu .tk) = true) (h7 : W (.com .dxd .tk) = true) (h8 : W (.com .tsu .regs) = true) (h9 : W .member = true) (h10 : W (.com .tsu .coreA) = true) (h11 : W (.com .tsu .coreB) = true) (h12 : W (.com .tsu .msets) = true) (h13 : W (.com .tsu .hfits) = true) (h14 : W (.com .tsu .ports) = true) (h15 : W .huddles = true) (h16 : W (.com .dxd .pgEvent) = true) (h17 : W (.com .dxd .ic) = true) (h18 : W (.com .tsu .chans) = true) (h19 : W .bays = true) (h20 : W .cue = true) (h21 : W .signals = true) (h22 : W .steps = true) (h23 : W .tallies = true) (h24 : W .keyPort = true) (h25 : W .scores = true) (h26 : W (.com .dxd .regs) = true) (h27 : W .stock = true) (h28 : W (.com .tsu .bt) = true) (h29 : W (.com .tsu .oseq) = true) (h30 : W (.com .tsu .seen) = true) (h31 : W (.com .tsu .censusTree) = true) (h32 : W (.com .tsu .boot) = true) (h33 : W .kickPins = true) (h34 : W (.com .tsu .up) = true) (h35 : W (.com .tsu .beats) = true) (h36 : W (.com .tsu .ta) = true) (h37 : W (.com .tsu .barCap) = true) (h38 : W (.com .tsu .barLow) = true) (h39 : W (.com .tsu .rsp) = true) (h40 : W .refs = true) (h41 : W .hold = true) (h42 : W .attic = true) (h43 : W .ptp = true) (h44 : W (.com .dxd .coreA) = true) (h45 : W (.com .dxd .coreB) = true) (h46 : W (.com .dxd .hfits) = true) (h47 : W (.com .dxd .msets) = true) (h48 : W .outs = true) (h49 : W .referee = true) (h50 : W .ledger = true) (h51 : W (.com .dxd .ports) = true) (h52 : W .census = true) (h53 : W .kicks = true) (h54 : W (.com .dxd .seen) = true) :
    ((regAt .tsu rq pg off s).store v_ s_).blank W = s_.blank W := by
  unfold regAt
  (repeat' split) <;> simp (maxDischargeDepth := 12) [noReg, roReg, rcReg, fxReg, rwReg, Com.blank, Tsu.blank, Dxd.blank, h0, h1, h2, h3, h4, h5, h6, h7, h8, h9, h10, h11, h12, h13, h14, h15, h16, h17, h18, h19, h20, h21, h22, h23, h24, h25, h26, h27, h28, h29, h30, h31, h32, h33, h34, h35, h36, h37, h38, h39, h40, h41, h42, h43, h44, h45, h46, h47, h48, h49, h50, h51, h52, h53, h54]

@[simp ↓] theorem regAt_tsu_effect_blank {W : Part → Bool} (rq : Nat) (pg : Nat) (off : Nat) (s : State) (s_ : State) (h0 : W (.com .tsu .badAccess) = true) (h1 : W (.com .tsu .lockRefused) = true) (h2 : W (.com .tsu .pgEvent) = true) (h3 : W (.com .tsu .ic) = true) (h4 : W (.com .tsu .pgEn) = true) (h5 : W (.com .tsu .lockKey) = true) (h6 : W (.com .tsu .tk) = true) (h7 : W (.com .dxd .tk) = true) (h8 : W (.com .tsu .regs) = true) (h9 : W .member = true) (h10 : W (.com .tsu .coreA) = true) (h11 : W (.com .tsu .coreB) = true) (h12 : W (.com .tsu .msets) = true) (h13 : W (.com .tsu .hfits) = true) (h14 : W (.com .tsu .ports) = true) (h15 : W .huddles = true) (h16 : W (.com .dxd .pgEvent) = true) (h17 : W (.com .dxd .ic) = true) (h18 : W (.com .tsu .chans) = true) (h19 : W .bays = true) (h20 : W .cue = true) (h21 : W .signals = true) (h22 : W .steps = true) (h23 : W .tallies = true) (h24 : W .keyPort = true) (h25 : W .scores = true) (h26 : W (.com .dxd .regs) = true) (h27 : W .stock = true) (h28 : W (.com .tsu .bt) = true) (h29 : W (.com .tsu .oseq) = true) (h30 : W (.com .tsu .seen) = true) (h31 : W (.com .tsu .censusTree) = true) (h32 : W (.com .tsu .boot) = true) (h33 : W .kickPins = true) (h34 : W (.com .tsu .up) = true) (h35 : W (.com .tsu .beats) = true) (h36 : W (.com .tsu .ta) = true) (h37 : W (.com .tsu .barCap) = true) (h38 : W (.com .tsu .barLow) = true) (h39 : W (.com .tsu .rsp) = true) (h40 : W .refs = true) (h41 : W .hold = true) (h42 : W .attic = true) (h43 : W .ptp = true) (h44 : W (.com .dxd .coreA) = true) (h45 : W (.com .dxd .coreB) = true) (h46 : W (.com .dxd .hfits) = true) (h47 : W (.com .dxd .msets) = true) (h48 : W .outs = true) (h49 : W .referee = true) (h50 : W .ledger = true) (h51 : W (.com .dxd .ports) = true) (h52 : W .census = true) (h53 : W .kicks = true) (h54 : W (.com .dxd .seen) = true) :
    ((regAt .tsu rq pg off s).effect s_).blank W = s_.blank W := by
  unfold regAt
  (repeat' split) <;> simp (maxDischargeDepth := 12) [noReg, roReg, rcReg, fxReg, rwReg, Com.blank, Tsu.blank, Dxd.blank, h0, h1, h2, h3, h4, h5, h6, h7, h8, h9, h10, h11, h12, h13, h14, h15, h16, h17, h18, h19, h20, h21, h22, h23, h24, h25, h26, h27, h28, h29, h30, h31, h32, h33, h34, h35, h36, h37, h38, h39, h40, h41, h42, h43, h44, h45, h46, h47, h48, h49, h50, h51, h52, h53, h54]

@[simp ↓] theorem regAt_dxd_store_blank {W : Part → Bool} (rq : Nat) (pg : Nat) (off : Nat) (s : State) (v_ : Word) (s_ : State) (h0 : W (.com .dxd .badAccess) = true) (h1 : W (.com .dxd .lockRefused) = true) (h2 : W (.com .dxd .pgEvent) = true) (h3 : W (.com .dxd .ic) = true) (h4 : W (.com .dxd .pgEn) = true) (h5 : W (.com .dxd .lockKey) = true) (h6 : W (.com .dxd .tk) = true) (h7 : W (.com .dxd .regs) = true) (h8 : W .refs = true) (h9 : W .ptp = true) (h10 : W .hold = true) (h11 : W (.com .dxd .coreA) = true) (h12 : W (.com .dxd .coreB) = true) (h13 : W (.com .dxd .hfits) = true) (h14 : W (.com .dxd .msets) = true) (h15 : W .attic = true) (h16 : W (.com .dxd .ports) = true) (h17 : W .referee = true) (h18 : W .ledger = true) (h19 : W .scores = true) (h20 : W .census = true) (h21 : W .kicks = true) (h22 : W (.com .dxd .chans) = true) (h23 : W (.com .tsu .regs) = true) (h24 : W (.com .tsu .pgEvent) = true) (h25 : W (.com .tsu .ic) = true) (h26 : W .bays = true) (h27 : W .cue = true) (h28 : W .signals = true) (h29 : W .huddles = true) (h30 : W .steps = true) (h31 : W .tallies = true) (h32 : W (.com .tsu .ports) = true) (h33 : W .member = true) (h34 : W .keyPort = true) (h35 : W (.com .tsu .tk) = true) (h36 : W .stock = true) (h37 : W (.com .dxd .bt) = true) (h38 : W (.com .tsu .bt) = true) (h39 : W (.com .dxd .oseq) = true) (h40 : W (.com .dxd .seen) = true) (h41 : W (.com .dxd .censusTree) = true) (h42 : W (.com .dxd .boot) = true) (h43 : W .outs = true) (h44 : W .strobe = true) (h45 : W .ownOff = true) (h46 : W .twinOff = true) (h47 : W .subsystem = true) (h48 : W (.com .dxd .up) = true) (h49 : W (.com .dxd .beats) = true) (h50 : W (.com .dxd .ta) = true) (h51 : W (.com .dxd .barCap) = true) (h52 : W (.com .dxd .barLow) = true) (h53 : W (.com .dxd .rsp) = true) (h54 : W .straps = true) :
    ((regAt .dxd rq pg off s).store v_ s_).blank W = s_.blank W := by
  unfold regAt
  (repeat' split) <;> simp (maxDischargeDepth := 12) [noReg, roReg, rcReg, fxReg, rwReg, Com.blank, Tsu.blank, Dxd.blank, h0, h1, h2, h3, h4, h5, h6, h7, h8, h9, h10, h11, h12, h13, h14, h15, h16, h17, h18, h19, h20, h21, h22, h23, h24, h25, h26, h27, h28, h29, h30, h31, h32, h33, h34, h35, h36, h37, h38, h39, h40, h41, h42, h43, h44, h45, h46, h47, h48, h49, h50, h51, h52, h53, h54]

@[simp ↓] theorem regAt_dxd_effect_blank {W : Part → Bool} (rq : Nat) (pg : Nat) (off : Nat) (s : State) (s_ : State) (h0 : W (.com .dxd .badAccess) = true) (h1 : W (.com .dxd .lockRefused) = true) (h2 : W (.com .dxd .pgEvent) = true) (h3 : W (.com .dxd .ic) = true) (h4 : W (.com .dxd .pgEn) = true) (h5 : W (.com .dxd .lockKey) = true) (h6 : W (.com .dxd .tk) = true) (h7 : W (.com .dxd .regs) = true) (h8 : W .refs = true) (h9 : W .ptp = true) (h10 : W .hold = true) (h11 : W (.com .dxd .coreA) = true) (h12 : W (.com .dxd .coreB) = true) (h13 : W (.com .dxd .hfits) = true) (h14 : W (.com .dxd .msets) = true) (h15 : W .attic = true) (h16 : W (.com .dxd .ports) = true) (h17 : W .referee = true) (h18 : W .ledger = true) (h19 : W .scores = true) (h20 : W .census = true) (h21 : W .kicks = true) (h22 : W (.com .dxd .chans) = true) (h23 : W (.com .tsu .regs) = true) (h24 : W (.com .tsu .pgEvent) = true) (h25 : W (.com .tsu .ic) = true) (h26 : W .bays = true) (h27 : W .cue = true) (h28 : W .signals = true) (h29 : W .huddles = true) (h30 : W .steps = true) (h31 : W .tallies = true) (h32 : W (.com .tsu .ports) = true) (h33 : W .member = true) (h34 : W .keyPort = true) (h35 : W (.com .tsu .tk) = true) (h36 : W .stock = true) (h37 : W (.com .dxd .bt) = true) (h38 : W (.com .tsu .bt) = true) (h39 : W (.com .dxd .oseq) = true) (h40 : W (.com .dxd .seen) = true) (h41 : W (.com .dxd .censusTree) = true) (h42 : W (.com .dxd .boot) = true) (h43 : W .outs = true) (h44 : W .strobe = true) (h45 : W .ownOff = true) (h46 : W .twinOff = true) (h47 : W .subsystem = true) (h48 : W (.com .dxd .up) = true) (h49 : W (.com .dxd .beats) = true) (h50 : W (.com .dxd .ta) = true) (h51 : W (.com .dxd .barCap) = true) (h52 : W (.com .dxd .barLow) = true) (h53 : W (.com .dxd .rsp) = true) (h54 : W .straps = true) :
    ((regAt .dxd rq pg off s).effect s_).blank W = s_.blank W := by
  unfold regAt
  (repeat' split) <;> simp (maxDischargeDepth := 12) [noReg, roReg, rcReg, fxReg, rwReg, Com.blank, Tsu.blank, Dxd.blank, h0, h1, h2, h3, h4, h5, h6, h7, h8, h9, h10, h11, h12, h13, h14, h15, h16, h17, h18, h19, h20, h21, h22, h23, h24, h25, h26, h27, h28, h29, h30, h31, h32, h33, h34, h35, h36, h37, h38, h39, h40, h41, h42, h43, h44, h45, h46, h47, h48, h49, h50, h51, h52, h53, h54]

@[simp ↓] theorem regReadNow_dxd_blank {W : Part → Bool} (rq : Nat) (a : Nat) (s : State) (h0 : W (.com .dxd .rsp) = true) (h1 : W (.com .dxd .badAccess) = true) (h2 : W (.com .dxd .lockRefused) = true) (h3 : W (.com .dxd .pgEvent) = true) (h4 : W (.com .dxd .ic) = true) (h5 : W (.com .dxd .pgEn) = true) (h6 : W (.com .dxd .lockKey) = true) (h7 : W (.com .dxd .tk) = true) (h8 : W (.com .dxd .regs) = true) (h9 : W .refs = true) (h10 : W .ptp = true) (h11 : W .hold = true) (h12 : W (.com .dxd .coreA) = true) (h13 : W (.com .dxd .coreB) = true) (h14 : W (.com .dxd .hfits) = true) (h15 : W (.com .dxd .msets) = true) (h16 : W .attic = true) (h17 : W (.com .dxd .ports) = true) (h18 : W .referee = true) (h19 : W .ledger = true) (h20 : W .scores = true) (h21 : W .census = true) (h22 : W .kicks = true) (h23 : W (.com .dxd .chans) = true) (h24 : W (.com .tsu .regs) = true) (h25 : W (.com .tsu .pgEvent) = true) (h26 : W (.com .tsu .ic) = true) (h27 : W .bays = true) (h28 : W .cue = true) (h29 : W .signals = true) (h30 : W .huddles = true) (h31 : W .steps = true) (h32 : W .tallies = true) (h33 : W (.com .tsu .ports) = true) (h34 : W .member = true) (h35 : W .keyPort = true) (h36 : W (.com .tsu .tk) = true) (h37 : W .stock = true) (h38 : W (.com .dxd .bt) = true) (h39 : W (.com .tsu .bt) = true) (h40 : W (.com .dxd .oseq) = true) (h41 : W (.com .dxd .seen) = true) (h42 : W (.com .dxd .censusTree) = true) (h43 : W (.com .dxd .boot) = true) (h44 : W .outs = true) (h45 : W .strobe = true) (h46 : W .ownOff = true) (h47 : W .twinOff = true) (h48 : W .subsystem = true) (h49 : W (.com .dxd .up) = true) (h50 : W (.com .dxd .beats) = true) (h51 : W (.com .dxd .ta) = true) (h52 : W (.com .dxd .barCap) = true) (h53 : W (.com .dxd .barLow) = true) (h54 : W .straps = true) :
    (regReadNow .dxd rq a s).blank W = s.blank W := by simp [regReadNow, Com.blank, Tsu.blank, Dxd.blank, h0, h1, h2, h3, h4, h5, h6, h7, h8, h9, h10, h11, h12, h13, h14, h15, h16, h17, h18, h19, h20, h21, h22, h23, h24, h25, h26, h27, h28, h29, h30, h31, h32, h33, h34, h35, h36, h37, h38, h39, h40, h41, h42, h43, h44, h45, h46, h47, h48, h49, h50, h51, h52, h53, h54]

@[simp ↓] theorem regReadNow_tsu_blank {W : Part → Bool} (rq : Nat) (a : Nat) (s : State) (h0 : W (.com .tsu .rsp) = true) (h1 : W (.com .tsu .badAccess) = true) (h2 : W (.com .tsu .lockRefused) = true) (h3 : W (.com .tsu .pgEvent) = true) (h4 : W (.com .tsu .ic) = true) (h5 : W (.com .tsu .pgEn) = true) (h6 : W (.com .tsu .lockKey) = true) (h7 : W (.com .tsu .tk) = true) (h8 : W (.com .dxd .tk) = true) (h9 : W (.com .tsu .regs) = true) (h10 : W .member = true) (h11 : W (.com .tsu .coreA) = true) (h12 : W (.com .tsu .coreB) = true) (h13 : W (.com .tsu .msets) = true) (h14 : W (.com .tsu .hfits) = true) (h15 : W (.com .tsu .ports) = true) (h16 : W .huddles = true) (h17 : W (.com .dxd .pgEvent) = true) (h18 : W (.com .dxd .ic) = true) (h19 : W (.com .tsu .chans) = true) (h20 : W .bays = true) (h21 : W .cue = true) (h22 : W .signals = true) (h23 : W .steps = true) (h24 : W .tallies = true) (h25 : W .keyPort = true) (h26 : W .scores = true) (h27 : W (.com .dxd .regs) = true) (h28 : W .stock = true) (h29 : W (.com .tsu .bt) = true) (h30 : W (.com .tsu .oseq) = true) (h31 : W (.com .tsu .seen) = true) (h32 : W (.com .tsu .censusTree) = true) (h33 : W (.com .tsu .boot) = true) (h34 : W .kickPins = true) (h35 : W (.com .tsu .up) = true) (h36 : W (.com .tsu .beats) = true) (h37 : W (.com .tsu .ta) = true) (h38 : W (.com .tsu .barCap) = true) (h39 : W (.com .tsu .barLow) = true) (h40 : W .refs = true) (h41 : W .hold = true) (h42 : W .attic = true) (h43 : W .ptp = true) (h44 : W (.com .dxd .coreA) = true) (h45 : W (.com .dxd .coreB) = true) (h46 : W (.com .dxd .hfits) = true) (h47 : W (.com .dxd .msets) = true) (h48 : W .outs = true) (h49 : W .referee = true) (h50 : W .ledger = true) (h51 : W (.com .dxd .ports) = true) (h52 : W .census = true) (h53 : W .kicks = true) (h54 : W (.com .dxd .seen) = true) :
    (regReadNow .tsu rq a s).blank W = s.blank W := by simp [regReadNow, Com.blank, Tsu.blank, Dxd.blank, h0, h1, h2, h3, h4, h5, h6, h7, h8, h9, h10, h11, h12, h13, h14, h15, h16, h17, h18, h19, h20, h21, h22, h23, h24, h25, h26, h27, h28, h29, h30, h31, h32, h33, h34, h35, h36, h37, h38, h39, h40, h41, h42, h43, h44, h45, h46, h47, h48, h49, h50, h51, h52, h53, h54]

@[simp ↓] theorem regRead_dxd_blank {W : Part → Bool} (rq : Nat) (a : Nat) (s : State) (h0 : W (.com .dxd .badAccess) = true) (h1 : W (.com .dxd .barLow) = true) (h2 : W (.com .dxd .barCap) = true) (h3 : W (.com .dxd .bt) = true) (h4 : W (.com .dxd .rsp) = true) (h5 : W (.com .dxd .lockRefused) = true) (h6 : W (.com .dxd .pgEvent) = true) (h7 : W (.com .dxd .ic) = true) (h8 : W (.com .dxd .pgEn) = true) (h9 : W (.com .dxd .lockKey) = true) (h10 : W (.com .dxd .tk) = true) (h11 : W (.com .dxd .regs) = true) (h12 : W .refs = true) (h13 : W .ptp = true) (h14 : W .hold = true) (h15 : W (.com .dxd .coreA) = true) (h16 : W (.com .dxd .coreB) = true) (h17 : W (.com .dxd .hfits) = true) (h18 : W (.com .dxd .msets) = true) (h19 : W .attic = true) (h20 : W (.com .dxd .ports) = true) (h21 : W .referee = true) (h22 : W .ledger = true) (h23 : W .scores = true) (h24 : W .census = true) (h25 : W .kicks = true) (h26 : W (.com .dxd .chans) = true) (h27 : W (.com .tsu .regs) = true) (h28 : W (.com .tsu .pgEvent) = true) (h29 : W (.com .tsu .ic) = true) (h30 : W .bays = true) (h31 : W .cue = true) (h32 : W .signals = true) (h33 : W .huddles = true) (h34 : W .steps = true) (h35 : W .tallies = true) (h36 : W (.com .tsu .ports) = true) (h37 : W .member = true) (h38 : W .keyPort = true) (h39 : W (.com .tsu .tk) = true) (h40 : W .stock = true) (h41 : W (.com .tsu .bt) = true) (h42 : W (.com .dxd .oseq) = true) (h43 : W (.com .dxd .seen) = true) (h44 : W (.com .dxd .censusTree) = true) (h45 : W (.com .dxd .boot) = true) (h46 : W .outs = true) (h47 : W .strobe = true) (h48 : W .ownOff = true) (h49 : W .twinOff = true) (h50 : W .subsystem = true) (h51 : W (.com .dxd .up) = true) (h52 : W (.com .dxd .beats) = true) (h53 : W (.com .dxd .ta) = true) (h54 : W .straps = true) :
    (regRead .dxd rq a s).blank W = s.blank W := by simp [regRead, Com.blank, Tsu.blank, Dxd.blank, h0, h1, h2, h3, h4, h5, h6, h7, h8, h9, h10, h11, h12, h13, h14, h15, h16, h17, h18, h19, h20, h21, h22, h23, h24, h25, h26, h27, h28, h29, h30, h31, h32, h33, h34, h35, h36, h37, h38, h39, h40, h41, h42, h43, h44, h45, h46, h47, h48, h49, h50, h51, h52, h53, h54]

@[simp ↓] theorem regRead_tsu_blank {W : Part → Bool} (rq : Nat) (a : Nat) (s : State) (h0 : W (.com .tsu .bt) = true) (h1 : W (.com .tsu .rsp) = true) (h2 : W (.com .tsu .badAccess) = true) (h3 : W (.com .tsu .lockRefused) = true) (h4 : W (.com .tsu .pgEvent) = true) (h5 : W (.com .tsu .ic) = true) (h6 : W (.com .tsu .pgEn) = true) (h7 : W (.com .tsu .lockKey) = true) (h8 : W (.com .tsu .tk) = true) (h9 : W (.com .dxd .tk) = true) (h10 : W (.com .tsu .regs) = true) (h11 : W .member = true) (h12 : W (.com .tsu .coreA) = true) (h13 : W (.com .tsu .coreB) = true) (h14 : W (.com .tsu .msets) = true) (h15 : W (.com .tsu .hfits) = true) (h16 : W (.com .tsu .ports) = true) (h17 : W .huddles = true) (h18 : W (.com .dxd .pgEvent) = true) (h19 : W (.com .dxd .ic) = true) (h20 : W (.com .tsu .chans) = true) (h21 : W .bays = true) (h22 : W .cue = true) (h23 : W .signals = true) (h24 : W .steps = true) (h25 : W .tallies = true) (h26 : W .keyPort = true) (h27 : W .scores = true) (h28 : W (.com .dxd .regs) = true) (h29 : W .stock = true) (h30 : W (.com .tsu .oseq) = true) (h31 : W (.com .tsu .seen) = true) (h32 : W (.com .tsu .censusTree) = true) (h33 : W (.com .tsu .boot) = true) (h34 : W .kickPins = true) (h35 : W (.com .tsu .up) = true) (h36 : W (.com .tsu .beats) = true) (h37 : W (.com .tsu .ta) = true) (h38 : W (.com .tsu .barCap) = true) (h39 : W (.com .tsu .barLow) = true) (h40 : W .refs = true) (h41 : W .hold = true) (h42 : W .attic = true) (h43 : W .ptp = true) (h44 : W (.com .dxd .coreA) = true) (h45 : W (.com .dxd .coreB) = true) (h46 : W (.com .dxd .hfits) = true) (h47 : W (.com .dxd .msets) = true) (h48 : W .outs = true) (h49 : W .referee = true) (h50 : W .ledger = true) (h51 : W (.com .dxd .ports) = true) (h52 : W .census = true) (h53 : W .kicks = true) (h54 : W (.com .dxd .seen) = true) :
    (regRead .tsu rq a s).blank W = s.blank W := by simp [regRead, Com.blank, Tsu.blank, Dxd.blank, h0, h1, h2, h3, h4, h5, h6, h7, h8, h9, h10, h11, h12, h13, h14, h15, h16, h17, h18, h19, h20, h21, h22, h23, h24, h25, h26, h27, h28, h29, h30, h31, h32, h33, h34, h35, h36, h37, h38, h39, h40, h41, h42, h43, h44, h45, h46, h47, h48, h49, h50, h51, h52, h53, h54]

@[simp ↓] theorem forceUnit_tsu_blank {W : Part → Bool} (a : Nat) (v : Word) (s : State) (h0 : W (.com .tsu .tk) = true) (h1 : W (.com .tsu .coreA) = true) (h2 : W (.com .tsu .coreB) = true) (h3 : W .cue = true) (h4 : W .stock = true) (h5 : W (.com .tsu .bt) = true) (h6 : W (.com .tsu .boot) = true) (h7 : W .bays = true) :
    (forceUnit .tsu a v s).blank W = s.blank W := by
  unfold forceUnit
  (repeat' split) <;> simp [Com.blank, Tsu.blank, Dxd.blank, h0, h1, h2, h3, h4, h5, h6, h7]

@[simp ↓] theorem forceUnit_dxd_blank {W : Part → Bool} (a : Nat) (v : Word) (s : State) (h0 : W (.com .dxd .tk) = true) (h1 : W .cue = true) (h2 : W .stock = true) (h3 : W (.com .dxd .bt) = true) (h4 : W (.com .dxd .boot) = true) (h5 : W .bays = true) :
    (forceUnit .dxd a v s).blank W = s.blank W := by
  unfold forceUnit
  dsimp only
  (repeat' split) <;> first
    | (simp (maxDischargeDepth := 12) [Com.blank, Tsu.blank, Dxd.blank, h0, h1, h2, h3, h4, h5]; done)
    | (exfalso; simp_all; done)
    | (refine (foldl_blank _ _ _ ?_).trans ?_
       · intro s a
         (repeat' split) <;> simp (maxDischargeDepth := 12) [Com.blank, Tsu.blank, Dxd.blank, h0, h1, h2, h3, h4, h5]
       · simp (maxDischargeDepth := 12) [Com.blank, Tsu.blank, Dxd.blank, h0, h1, h2, h3, h4, h5])

@[simp ↓] theorem forceRegister_tsu_blank {W : Part → Bool} (a : Nat) (live : Word) (v : Word) (s : State) (h0 : W (.com .tsu .tk) = true) (h1 : W (.com .tsu .coreA) = true) (h2 : W (.com .tsu .coreB) = true) (h3 : W .cue = true) (h4 : W .stock = true) (h5 : W (.com .tsu .bt) = true) (h6 : W (.com .tsu .boot) = true) (h7 : W .bays = true) (h8 : W (.com .tsu .ta) = true) :
    (forceRegister .tsu a live v s).blank W = s.blank W := by simp [forceRegister, Com.blank, Tsu.blank, Dxd.blank, h0, h1, h2, h3, h4, h5, h6, h7, h8]

@[simp ↓] theorem forceRegister_dxd_blank {W : Part → Bool} (a : Nat) (live : Word) (v : Word) (s : State) (h0 : W (.com .dxd .tk) = true) (h1 : W .cue = true) (h2 : W .stock = true) (h3 : W (.com .dxd .bt) = true) (h4 : W (.com .dxd .boot) = true) (h5 : W .bays = true) (h6 : W (.com .dxd .ta) = true) :
    (forceRegister .dxd a live v s).blank W = s.blank W := by simp [forceRegister, Com.blank, Tsu.blank, Dxd.blank, h0, h1, h2, h3, h4, h5, h6]

@[simp ↓] theorem regStore_tsu_blank {W : Part → Bool} (rq : Nat) (a : Nat) (v : Word) (s : State) (h0 : W (.com .tsu .badAccess) = true) (h1 : W (.com .tsu .lockRefused) = true) (h2 : W (.com .tsu .pgEvent) = true) (h3 : W (.com .tsu .ic) = true) (h4 : W (.com .tsu .pgEn) = true) (h5 : W (.com .tsu .lockKey) = true) (h6 : W (.com .tsu .tk) = true) (h7 : W (.com .dxd .tk) = true) (h8 : W (.com .tsu .regs) = true) (h9 : W .member = true) (h10 : W (.com .tsu .coreA) = true) (h11 : W (.com .tsu .coreB) = true) (h12 : W (.com .tsu .msets) = true) (h13 : W (.com .tsu .hfits) = true) (h14 : W (.com .tsu .ports) = true) (h15 : W .huddles = true) (h16 : W (.com .dxd .pgEvent) = true) (h17 : W (.com .dxd .ic) = true) (h18 : W (.com .tsu .chans) = true) (h19 : W .bays = true) (h20 : W .cue = true) (h21 : W .signals = true) (h22 : W .steps = true) (h23 : W .tallies = true) (h24 : W .keyPort = true) (h25 : W .scores = true) (h26 : W (.com .dxd .regs) = true) (h27 : W .stock = true) (h28 : W (.com .tsu .bt) = true) (h29 : W (.com .tsu .oseq) = true) (h30 : W (.com .tsu .seen) = true) (h31 : W (.com .tsu .censusTree) = true) (h32 : W (.com .tsu .boot) = true) (h33 : W .kickPins = true) (h34 : W (.com .tsu .up) = true) (h35 : W (.com .tsu .beats) = true) (h36 : W (.com .tsu .ta) = true) (h37 : W (.com .tsu .barCap) = true) (h38 : W (.com .tsu .barLow) = true) (h39 : W (.com .tsu .rsp) = true) (h40 : W .refs = true) (h41 : W .hold = true) (h42 : W .attic = true) (h43 : W .ptp = true) (h44 : W (.com .dxd .coreA) = true) (h45 : W (.com .dxd .coreB) = true) (h46 : W (.com .dxd .hfits) = true) (h47 : W (.com .dxd .msets) = true) (h48 : W .outs = true) (h49 : W .referee = true) (h50 : W .ledger = true) (h51 : W (.com .dxd .ports) = true) (h52 : W .census = true) (h53 : W .kicks = true) (h54 : W (.com .dxd .seen) = true) :
    (regStore .tsu rq a v s).blank W = s.blank W := by simp [regStore, Com.blank, Tsu.blank, Dxd.blank, h0, h1, h2, h3, h4, h5, h6, h7, h8, h9, h10, h11, h12, h13, h14, h15, h16, h17, h18, h19, h20, h21, h22, h23, h24, h25, h26, h27, h28, h29, h30, h31, h32, h33, h34, h35, h36, h37, h38, h39, h40, h41, h42, h43, h44, h45, h46, h47, h48, h49, h50, h51, h52, h53, h54]

@[simp ↓] theorem regStore_dxd_blank {W : Part → Bool} (rq : Nat) (a : Nat) (v : Word) (s : State) (h0 : W (.com .dxd .badAccess) = true) (h1 : W (.com .dxd .lockRefused) = true) (h2 : W (.com .dxd .pgEvent) = true) (h3 : W (.com .dxd .ic) = true) (h4 : W (.com .dxd .pgEn) = true) (h5 : W (.com .dxd .lockKey) = true) (h6 : W (.com .dxd .tk) = true) (h7 : W (.com .dxd .regs) = true) (h8 : W .refs = true) (h9 : W .ptp = true) (h10 : W .hold = true) (h11 : W (.com .dxd .coreA) = true) (h12 : W (.com .dxd .coreB) = true) (h13 : W (.com .dxd .hfits) = true) (h14 : W (.com .dxd .msets) = true) (h15 : W .attic = true) (h16 : W (.com .dxd .ports) = true) (h17 : W .referee = true) (h18 : W .ledger = true) (h19 : W .scores = true) (h20 : W .census = true) (h21 : W .kicks = true) (h22 : W (.com .dxd .chans) = true) (h23 : W (.com .tsu .regs) = true) (h24 : W (.com .tsu .pgEvent) = true) (h25 : W (.com .tsu .ic) = true) (h26 : W .bays = true) (h27 : W .cue = true) (h28 : W .signals = true) (h29 : W .huddles = true) (h30 : W .steps = true) (h31 : W .tallies = true) (h32 : W (.com .tsu .ports) = true) (h33 : W .member = true) (h34 : W .keyPort = true) (h35 : W (.com .tsu .tk) = true) (h36 : W .stock = true) (h37 : W (.com .dxd .bt) = true) (h38 : W (.com .tsu .bt) = true) (h39 : W (.com .dxd .oseq) = true) (h40 : W (.com .dxd .seen) = true) (h41 : W (.com .dxd .censusTree) = true) (h42 : W (.com .dxd .boot) = true) (h43 : W .outs = true) (h44 : W .strobe = true) (h45 : W .ownOff = true) (h46 : W .twinOff = true) (h47 : W .subsystem = true) (h48 : W (.com .dxd .up) = true) (h49 : W (.com .dxd .beats) = true) (h50 : W (.com .dxd .ta) = true) (h51 : W (.com .dxd .barCap) = true) (h52 : W (.com .dxd .barLow) = true) (h53 : W (.com .dxd .rsp) = true) (h54 : W .straps = true) :
    (regStore .dxd rq a v s).blank W = s.blank W := by simp [regStore, Com.blank, Tsu.blank, Dxd.blank, h0, h1, h2, h3, h4, h5, h6, h7, h8, h9, h10, h11, h12, h13, h14, h15, h16, h17, h18, h19, h20, h21, h22, h23, h24, h25, h26, h27, h28, h29, h30, h31, h32, h33, h34, h35, h36, h37, h38, h39, h40, h41, h42, h43, h44, h45, h46, h47, h48, h49, h50, h51, h52, h53, h54]

@[simp ↓] theorem regWriteNow_tsu_blank {W : Part → Bool} (rq : Nat) (a : Nat) (v : Word) (s : State) (h0 : W (.com .tsu .lockRefused) = true) (h1 : W (.com .tsu .badAccess) = true) (h2 : W (.com .tsu .pgEvent) = true) (h3 : W (.com .tsu .ic) = true) (h4 : W (.com .tsu .pgEn) = true) (h5 : W (.com .tsu .lockKey) = true) (h6 : W (.com .tsu .tk) = true) (h7 : W (.com .dxd .tk) = true) (h8 : W (.com .tsu .regs) = true) (h9 : W .member = true) (h10 : W (.com .tsu .coreA) = true) (h11 : W (.com .tsu .coreB) = true) (h12 : W (.com .tsu .msets) = true) (h13 : W (.com .tsu .hfits) = true) (h14 : W (.com .tsu .ports) = true) (h15 : W .huddles = true) (h16 : W (.com .dxd .pgEvent) = true) (h17 : W (.com .dxd .ic) = true) (h18 : W (.com .tsu .chans) = true) (h19 : W .bays = true) (h20 : W .cue = true) (h21 : W .signals = true) (h22 : W .steps = true) (h23 : W .tallies = true) (h24 : W .keyPort = true) (h25 : W .scores = true) (h26 : W (.com .dxd .regs) = true) (h27 : W .stock = true) (h28 : W (.com .tsu .bt) = true) (h29 : W (.com .tsu .oseq) = true) (h30 : W (.com .tsu .seen) = true) (h31 : W (.com .tsu .censusTree) = true) (h32 : W (.com .tsu .boot) = true) (h33 : W .kickPins = true) (h34 : W (.com .tsu .up) = true) (h35 : W (.com .tsu .beats) = true) (h36 : W (.com .tsu .ta) = true) (h37 : W (.com .tsu .barCap) = true) (h38 : W (.com .tsu .barLow) = true) (h39 : W (.com .tsu .rsp) = true) (h40 : W .refs = true) (h41 : W .hold = true) (h42 : W .attic = true) (h43 : W .ptp = true) (h44 : W (.com .dxd .coreA) = true) (h45 : W (.com .dxd .coreB) = true) (h46 : W (.com .dxd .hfits) = true) (h47 : W (.com .dxd .msets) = true) (h48 : W .outs = true) (h49 : W .referee = true) (h50 : W .ledger = true) (h51 : W (.com .dxd .ports) = true) (h52 : W .census = true) (h53 : W .kicks = true) (h54 : W (.com .dxd .seen) = true) :
    (regWriteNow .tsu rq a v s).blank W = s.blank W := by simp [regWriteNow, Com.blank, Tsu.blank, Dxd.blank, h0, h1, h2, h3, h4, h5, h6, h7, h8, h9, h10, h11, h12, h13, h14, h15, h16, h17, h18, h19, h20, h21, h22, h23, h24, h25, h26, h27, h28, h29, h30, h31, h32, h33, h34, h35, h36, h37, h38, h39, h40, h41, h42, h43, h44, h45, h46, h47, h48, h49, h50, h51, h52, h53, h54]

@[simp ↓] theorem regWriteNow_dxd_blank {W : Part → Bool} (rq : Nat) (a : Nat) (v : Word) (s : State) (h0 : W (.com .dxd .lockRefused) = true) (h1 : W (.com .dxd .badAccess) = true) (h2 : W (.com .dxd .pgEvent) = true) (h3 : W (.com .dxd .ic) = true) (h4 : W (.com .dxd .pgEn) = true) (h5 : W (.com .dxd .lockKey) = true) (h6 : W (.com .dxd .tk) = true) (h7 : W (.com .dxd .regs) = true) (h8 : W .refs = true) (h9 : W .ptp = true) (h10 : W .hold = true) (h11 : W (.com .dxd .coreA) = true) (h12 : W (.com .dxd .coreB) = true) (h13 : W (.com .dxd .hfits) = true) (h14 : W (.com .dxd .msets) = true) (h15 : W .attic = true) (h16 : W (.com .dxd .ports) = true) (h17 : W .referee = true) (h18 : W .ledger = true) (h19 : W .scores = true) (h20 : W .census = true) (h21 : W .kicks = true) (h22 : W (.com .dxd .chans) = true) (h23 : W (.com .tsu .regs) = true) (h24 : W (.com .tsu .pgEvent) = true) (h25 : W (.com .tsu .ic) = true) (h26 : W .bays = true) (h27 : W .cue = true) (h28 : W .signals = true) (h29 : W .huddles = true) (h30 : W .steps = true) (h31 : W .tallies = true) (h32 : W (.com .tsu .ports) = true) (h33 : W .member = true) (h34 : W .keyPort = true) (h35 : W (.com .tsu .tk) = true) (h36 : W .stock = true) (h37 : W (.com .dxd .bt) = true) (h38 : W (.com .tsu .bt) = true) (h39 : W (.com .dxd .oseq) = true) (h40 : W (.com .dxd .seen) = true) (h41 : W (.com .dxd .censusTree) = true) (h42 : W (.com .dxd .boot) = true) (h43 : W .outs = true) (h44 : W .strobe = true) (h45 : W .ownOff = true) (h46 : W .twinOff = true) (h47 : W .subsystem = true) (h48 : W (.com .dxd .up) = true) (h49 : W (.com .dxd .beats) = true) (h50 : W (.com .dxd .ta) = true) (h51 : W (.com .dxd .barCap) = true) (h52 : W (.com .dxd .barLow) = true) (h53 : W (.com .dxd .rsp) = true) (h54 : W .straps = true) :
    (regWriteNow .dxd rq a v s).blank W = s.blank W := by simp [regWriteNow, Com.blank, Tsu.blank, Dxd.blank, h0, h1, h2, h3, h4, h5, h6, h7, h8, h9, h10, h11, h12, h13, h14, h15, h16, h17, h18, h19, h20, h21, h22, h23, h24, h25, h26, h27, h28, h29, h30, h31, h32, h33, h34, h35, h36, h37, h38, h39, h40, h41, h42, h43, h44, h45, h46, h47, h48, h49, h50, h51, h52, h53, h54]

@[simp ↓] theorem badNow_tsu_blank {W : Part → Bool} (rq : Nat) (a : Nat) (wr : Bool) (s : State) (h0 : W (.com .tsu .badAccess) = true) (h1 : W (.com .tsu .rsp) = true) :
    (badNow .tsu rq a wr s).blank W = s.blank W := by simp [badNow, Com.blank, Tsu.blank, Dxd.blank, h0, h1]

@[simp ↓] theorem badNow_dxd_blank {W : Part → Bool} (rq : Nat) (a : Nat) (wr : Bool) (s : State) (h0 : W (.com .dxd .badAccess) = true) (h1 : W (.com .dxd .rsp) = true) :
    (badNow .dxd rq a wr s).blank W = s.blank W := by simp [badNow, Com.blank, Tsu.blank, Dxd.blank, h0, h1]

@[simp ↓] theorem regWrite_dxd_blank {W : Part → Bool} (rq : Nat) (a : Nat) (v : Word) (s : State) (h0 : W (.com .dxd .badAccess) = true) (h1 : W (.com .dxd .barLow) = true) (h2 : W (.com .dxd .barCap) = true) (h3 : W (.com .dxd .bt) = true) (h4 : W (.com .dxd .lockRefused) = true) (h5 : W (.com .dxd .pgEvent) = true) (h6 : W (.com .dxd .ic) = true) (h7 : W (.com .dxd .pgEn) = true) (h8 : W (.com .dxd .lockKey) = true) (h9 : W (.com .dxd .tk) = true) (h10 : W (.com .dxd .regs) = true) (h11 : W .refs = true) (h12 : W .ptp = true) (h13 : W .hold = true) (h14 : W (.com .dxd .coreA) = true) (h15 : W (.com .dxd .coreB) = true) (h16 : W (.com .dxd .hfits) = true) (h17 : W (.com .dxd .msets) = true) (h18 : W .attic = true) (h19 : W (.com .dxd .ports) = true) (h20 : W .referee = true) (h21 : W .ledger = true) (h22 : W .scores = true) (h23 : W .census = true) (h24 : W .kicks = true) (h25 : W (.com .dxd .chans) = true) (h26 : W (.com .tsu .regs) = true) (h27 : W (.com .tsu .pgEvent) = true) (h28 : W (.com .tsu .ic) = true) (h29 : W .bays = true) (h30 : W .cue = true) (h31 : W .signals = true) (h32 : W .huddles = true) (h33 : W .steps = true) (h34 : W .tallies = true) (h35 : W (.com .tsu .ports) = true) (h36 : W .member = true) (h37 : W .keyPort = true) (h38 : W (.com .tsu .tk) = true) (h39 : W .stock = true) (h40 : W (.com .tsu .bt) = true) (h41 : W (.com .dxd .oseq) = true) (h42 : W (.com .dxd .seen) = true) (h43 : W (.com .dxd .censusTree) = true) (h44 : W (.com .dxd .boot) = true) (h45 : W .outs = true) (h46 : W .strobe = true) (h47 : W .ownOff = true) (h48 : W .twinOff = true) (h49 : W .subsystem = true) (h50 : W (.com .dxd .up) = true) (h51 : W (.com .dxd .beats) = true) (h52 : W (.com .dxd .ta) = true) (h53 : W (.com .dxd .rsp) = true) (h54 : W .straps = true) :
    (regWrite .dxd rq a v s).blank W = s.blank W := by simp [regWrite, Com.blank, Tsu.blank, Dxd.blank, h0, h1, h2, h3, h4, h5, h6, h7, h8, h9, h10, h11, h12, h13, h14, h15, h16, h17, h18, h19, h20, h21, h22, h23, h24, h25, h26, h27, h28, h29, h30, h31, h32, h33, h34, h35, h36, h37, h38, h39, h40, h41, h42, h43, h44, h45, h46, h47, h48, h49, h50, h51, h52, h53, h54]

@[simp ↓] theorem regWrite_tsu_blank {W : Part → Bool} (rq : Nat) (a : Nat) (v : Word) (s : State) (h0 : W (.com .tsu .bt) = true) (h1 : W (.com .tsu .lockRefused) = true) (h2 : W (.com .tsu .badAccess) = true) (h3 : W (.com .tsu .pgEvent) = true) (h4 : W (.com .tsu .ic) = true) (h5 : W (.com .tsu .pgEn) = true) (h6 : W (.com .tsu .lockKey) = true) (h7 : W (.com .tsu .tk) = true) (h8 : W (.com .dxd .tk) = true) (h9 : W (.com .tsu .regs) = true) (h10 : W .member = true) (h11 : W (.com .tsu .coreA) = true) (h12 : W (.com .tsu .coreB) = true) (h13 : W (.com .tsu .msets) = true) (h14 : W (.com .tsu .hfits) = true) (h15 : W (.com .tsu .ports) = true) (h16 : W .huddles = true) (h17 : W (.com .dxd .pgEvent) = true) (h18 : W (.com .dxd .ic) = true) (h19 : W (.com .tsu .chans) = true) (h20 : W .bays = true) (h21 : W .cue = true) (h22 : W .signals = true) (h23 : W .steps = true) (h24 : W .tallies = true) (h25 : W .keyPort = true) (h26 : W .scores = true) (h27 : W (.com .dxd .regs) = true) (h28 : W .stock = true) (h29 : W (.com .tsu .oseq) = true) (h30 : W (.com .tsu .seen) = true) (h31 : W (.com .tsu .censusTree) = true) (h32 : W (.com .tsu .boot) = true) (h33 : W .kickPins = true) (h34 : W (.com .tsu .up) = true) (h35 : W (.com .tsu .beats) = true) (h36 : W (.com .tsu .ta) = true) (h37 : W (.com .tsu .barCap) = true) (h38 : W (.com .tsu .barLow) = true) (h39 : W (.com .tsu .rsp) = true) (h40 : W .refs = true) (h41 : W .hold = true) (h42 : W .attic = true) (h43 : W .ptp = true) (h44 : W (.com .dxd .coreA) = true) (h45 : W (.com .dxd .coreB) = true) (h46 : W (.com .dxd .hfits) = true) (h47 : W (.com .dxd .msets) = true) (h48 : W .outs = true) (h49 : W .referee = true) (h50 : W .ledger = true) (h51 : W (.com .dxd .ports) = true) (h52 : W .census = true) (h53 : W .kicks = true) (h54 : W (.com .dxd .seen) = true) :
    (regWrite .tsu rq a v s).blank W = s.blank W := by simp [regWrite, Com.blank, Tsu.blank, Dxd.blank, h0, h1, h2, h3, h4, h5, h6, h7, h8, h9, h10, h11, h12, h13, h14, h15, h16, h17, h18, h19, h20, h21, h22, h23, h24, h25, h26, h27, h28, h29, h30, h31, h32, h33, h34, h35, h36, h37, h38, h39, h40, h41, h42, h43, h44, h45, h46, h47, h48, h49, h50, h51, h52, h53, h54]

end Sys2Proof.Machine
end

