-- ==== Sys2Proof/Laws/FramePageCmds.lean ====
section
/-!
SUPPORT. What the operations of Machine/PageCmds.lean can change.
-/

namespace Sys2Proof.Machine

@[simp ↓] theorem badAccess_tsu_blank {W : Part → Bool} (rq : Nat) (addr : Nat) (bytes : Nat) (wr : Bool) (s : State) (h0 : W (.com .tsu .bt) = true) (h1 : W (.com .tsu .badAccess) = true) (h2 : W (.com .tsu .rsp) = true) :
    (badAccess .tsu rq addr bytes wr s).blank W = s.blank W := by simp [badAccess, Com.blank, Tsu.blank, Dxd.blank, h0, h1, h2]

@[simp ↓] theorem badAccess_dxd_blank {W : Part → Bool} (rq : Nat) (addr : Nat) (bytes : Nat) (wr : Bool) (s : State) (h0 : W (.com .dxd .badAccess) = true) (h1 : W (.com .dxd .barLow) = true) (h2 : W (.com .dxd .barCap) = true) (h3 : W (.com .dxd .bt) = true) (h4 : W (.com .dxd .rsp) = true) :
    (badAccess .dxd rq addr bytes wr s).blank W = s.blank W := by simp [badAccess, Com.blank, Tsu.blank, Dxd.blank, h0, h1, h2, h3, h4]

@[simp ↓] theorem overrideWrite_dxd_blank {W : Part → Bool} (a : Nat) (v : Word) (s : State) (h0 : W (.com .dxd .lockRefused) = true) (h1 : W (.com .dxd .badAccess) = true) (h2 : W (.com .dxd .pgEvent) = true) (h3 : W (.com .dxd .ic) = true) (h4 : W (.com .dxd .pgEn) = true) (h5 : W (.com .dxd .lockKey) = true) (h6 : W (.com .dxd .tk) = true) (h7 : W (.com .dxd .regs) = true) (h8 : W .refs = true) (h9 : W .ptp = true) (h10 : W .hold = true) (h11 : W (.com .dxd .coreA) = true) (h12 : W (.com .dxd .coreB) = true) (h13 : W (.com .dxd .hfits) = true) (h14 : W (.com .dxd .msets) = true) (h15 : W .attic = true) (h16 : W (.com .dxd .ports) = true) (h17 : W .referee = true) (h18 : W .ledger = true) (h19 : W .scores = true) (h20 : W .census = true) (h21 : W .kicks = true) (h22 : W (.com .dxd .chans) = true) (h23 : W (.com .tsu .regs) = true) (h24 : W (.com .tsu .pgEvent) = true) (h25 : W (.com .tsu .ic) = true) (h26 : W .bays = true) (h27 : W .cue = true) (h28 : W .signals = true) (h29 : W .huddles = true) (h30 : W .steps = true) (h31 : W .tallies = true) (h32 : W (.com .tsu .ports) = true) (h33 : W .member = true) (h34 : W .keyPort = true) (h35 : W (.com .tsu .tk) = true) (h36 : W .stock = true) (h37 : W (.com .dxd .bt) = true) (h38 : W (.com .tsu .bt) = true) (h39 : W (.com .dxd .oseq) = true) (h40 : W (.com .dxd .seen) = true) (h41 : W (.com .dxd .censusTree) = true) (h42 : W (.com .dxd .boot) = true) (h43 : W .outs = true) (h44 : W .strobe = true) (h45 : W .ownOff = true) (h46 : W .twinOff = true) (h47 : W .subsystem = true) (h48 : W (.com .dxd .up) = true) (h49 : W (.com .dxd .beats) = true) (h50 : W (.com .dxd .ta) = true) (h51 : W (.com .dxd .barCap) = true) (h52 : W (.com .dxd .barLow) = true) (h53 : W (.com .dxd .rsp) = true) (h54 : W .straps = true) :
    (overrideWrite .dxd a v s).blank W = s.blank W := by simp [overrideWrite, Com.blank, Tsu.blank, Dxd.blank, h0, h1, h2, h3, h4, h5, h6, h7, h8, h9, h10, h11, h12, h13, h14, h15, h16, h17, h18, h19, h20, h21, h22, h23, h24, h25, h26, h27, h28, h29, h30, h31, h32, h33, h34, h35, h36, h37, h38, h39, h40, h41, h42, h43, h44, h45, h46, h47, h48, h49, h50, h51, h52, h53, h54]

@[simp ↓] theorem overrideWrite_tsu_blank {W : Part → Bool} (a : Nat) (v : Word) (s : State) (h0 : W (.com .tsu .lockRefused) = true) (h1 : W (.com .tsu .badAccess) = true) (h2 : W (.com .tsu .pgEvent) = true) (h3 : W (.com .tsu .ic) = true) (h4 : W (.com .tsu .pgEn) = true) (h5 : W (.com .tsu .lockKey) = true) (h6 : W (.com .tsu .tk) = true) (h7 : W (.com .dxd .tk) = true) (h8 : W (.com .tsu .regs) = true) (h9 : W .member = true) (h10 : W (.com .tsu .coreA) = true) (h11 : W (.com .tsu .coreB) = true) (h12 : W (.com .tsu .msets) = true) (h13 : W (.com .tsu .hfits) = true) (h14 : W (.com .tsu .ports) = true) (h15 : W .huddles = true) (h16 : W (.com .dxd .pgEvent) = true) (h17 : W (.com .dxd .ic) = true) (h18 : W (.com .tsu .chans) = true) (h19 : W .bays = true) (h20 : W .cue = true) (h21 : W .signals = true) (h22 : W .steps = true) (h23 : W .tallies = true) (h24 : W .keyPort = true) (h25 : W .scores = true) (h26 : W (.com .dxd .regs) = true) (h27 : W .stock = true) (h28 : W (.com .tsu .bt) = true) (h29 : W (.com .tsu .oseq) = true) (h30 : W (.com .tsu .seen) = true) (h31 : W (.com .tsu .censusTree) = true) (h32 : W (.com .tsu .boot) = true) (h33 : W .kickPins = true) (h34 : W (.com .tsu .up) = true) (h35 : W (.com .tsu .beats) = true) (h36 : W (.com .tsu .ta) = true) (h37 : W (.com .tsu .barCap) = true) (h38 : W (.com .tsu .barLow) = true) (h39 : W (.com .tsu .rsp) = true) (h40 : W .refs = true) (h41 : W .hold = true) (h42 : W .attic = true) (h43 : W .ptp = true) (h44 : W (.com .dxd .coreA) = true) (h45 : W (.com .dxd .coreB) = true) (h46 : W (.com .dxd .hfits) = true) (h47 : W (.com .dxd .msets) = true) (h48 : W .outs = true) (h49 : W .referee = true) (h50 : W .ledger = true) (h51 : W (.com .dxd .ports) = true) (h52 : W .census = true) (h53 : W .kicks = true) (h54 : W (.com .dxd .seen) = true) :
    (overrideWrite .tsu a v s).blank W = s.blank W := by simp [overrideWrite, Com.blank, Tsu.blank, Dxd.blank, h0, h1, h2, h3, h4, h5, h6, h7, h8, h9, h10, h11, h12, h13, h14, h15, h16, h17, h18, h19, h20, h21, h22, h23, h24, h25, h26, h27, h28, h29, h30, h31, h32, h33, h34, h35, h36, h37, h38, h39, h40, h41, h42, h43, h44, h45, h46, h47, h48, h49, h50, h51, h52, h53, h54]

@[simp ↓] theorem jtag_dxd_blank {W : Part → Bool} (i : JtagIns) (s : State) (h0 : W (.com .dxd .ta) = true) (h1 : W (.com .dxd .lockRefused) = true) (h2 : W (.com .dxd .badAccess) = true) (h3 : W (.com .dxd .pgEvent) = true) (h4 : W (.com .dxd .ic) = true) (h5 : W (.com .dxd .pgEn) = true) (h6 : W (.com .dxd .lockKey) = true) (h7 : W (.com .dxd .tk) = true) (h8 : W (.com .dxd .regs) = true) (h9 : W .refs = true) (h10 : W .ptp = true) (h11 : W .hold = true) (h12 : W (.com .dxd .coreA) = true) (h13 : W (.com .dxd .coreB) = true) (h14 : W (.com .dxd .hfits) = true) (h15 : W (.com .dxd .msets) = true) (h16 : W .attic = true) (h17 : W (.com .dxd .ports) = true) (h18 : W .referee = true) (h19 : W .ledger = true) (h20 : W .scores = true) (h21 : W .census = true) (h22 : W .kicks = true) (h23 : W (.com .dxd .chans) = true) (h24 : W (.com .tsu .regs) = true) (h25 : W (.com .tsu .pgEvent) = true) (h26 : W (.com .tsu .ic) = true) (h27 : W .bays = true) (h28 : W .cue = true) (h29 : W .signals = true) (h30 : W .huddles = true) (h31 : W .steps = true) (h32 : W .tallies = true) (h33 : W (.com .tsu .ports) = true) (h34 : W .member = true) (h35 : W .keyPort = true) (h36 : W (.com .tsu .tk) = true) (h37 : W .stock = true) (h38 : W (.com .dxd .bt) = true) (h39 : W (.com .tsu .bt) = true) (h40 : W (.com .dxd .oseq) = true) (h41 : W (.com .dxd .seen) = true) (h42 : W (.com .dxd .censusTree) = true) (h43 : W (.com .dxd .boot) = true) (h44 : W .outs = true) (h45 : W .strobe = true) (h46 : W .ownOff = true) (h47 : W .twinOff = true) (h48 : W .subsystem = true) (h49 : W (.com .dxd .up) = true) (h50 : W (.com .dxd .beats) = true) (h51 : W (.com .dxd .barCap) = true) (h52 : W (.com .dxd .barLow) = true) (h53 : W (.com .dxd .rsp) = true) (h54 : W .straps = true) :
    (jtag .dxd i s).blank W = s.blank W := by
  unfold jtag
  (repeat' split) <;> simp [Com.blank, Tsu.blank, Dxd.blank, h0, h1, h2, h3, h4, h5, h6, h7, h8, h9, h10, h11, h12, h13, h14, h15, h16, h17, h18, h19, h20, h21, h22, h23, h24, h25, h26, h27, h28, h29, h30, h31, h32, h33, h34, h35, h36, h37, h38, h39, h40, h41, h42, h43, h44, h45, h46, h47, h48, h49, h50, h51, h52, h53, h54]

@[simp ↓] theorem jtag_tsu_blank {W : Part → Bool} (i : JtagIns) (s : State) (h0 : W (.com .tsu .ta) = true) (h1 : W (.com .tsu .lockRefused) = true) (h2 : W (.com .tsu .badAccess) = true) (h3 : W (.com .tsu .pgEvent) = true) (h4 : W (.com .tsu .ic) = true) (h5 : W (.com .tsu .pgEn) = true) (h6 : W (.com .tsu .lockKey) = true) (h7 : W (.com .tsu .tk) = true) (h8 : W (.com .dxd .tk) = true) (h9 : W (.com .tsu .regs) = true) (h10 : W .member = true) (h11 : W (.com .tsu .coreA) = true) (h12 : W (.com .tsu .coreB) = true) (h13 : W (.com .tsu .msets) = true) (h14 : W (.com .tsu .hfits) = true) (h15 : W (.com .tsu .ports) = true) (h16 : W .huddles = true) (h17 : W (.com .dxd .pgEvent) = true) (h18 : W (.com .dxd .ic) = true) (h19 : W (.com .tsu .chans) = true) (h20 : W .bays = true) (h21 : W .cue = true) (h22 : W .signals = true) (h23 : W .steps = true) (h24 : W .tallies = true) (h25 : W .keyPort = true) (h26 : W .scores = true) (h27 : W (.com .dxd .regs) = true) (h28 : W .stock = true) (h29 : W (.com .tsu .bt) = true) (h30 : W (.com .tsu .oseq) = true) (h31 : W (.com .tsu .seen) = true) (h32 : W (.com .tsu .censusTree) = true) (h33 : W (.com .tsu .boot) = true) (h34 : W .kickPins = true) (h35 : W (.com .tsu .up) = true) (h36 : W (.com .tsu .beats) = true) (h37 : W (.com .tsu .barCap) = true) (h38 : W (.com .tsu .barLow) = true) (h39 : W (.com .tsu .rsp) = true) (h40 : W .refs = true) (h41 : W .hold = true) (h42 : W .attic = true) (h43 : W .ptp = true) (h44 : W (.com .dxd .coreA) = true) (h45 : W (.com .dxd .coreB) = true) (h46 : W (.com .dxd .hfits) = true) (h47 : W (.com .dxd .msets) = true) (h48 : W .outs = true) (h49 : W .referee = true) (h50 : W .ledger = true) (h51 : W (.com .dxd .ports) = true) (h52 : W .census = true) (h53 : W .kicks = true) (h54 : W (.com .dxd .seen) = true) :
    (jtag .tsu i s).blank W = s.blank W := by
  unfold jtag
  (repeat' split) <;> simp [Com.blank, Tsu.blank, Dxd.blank, h0, h1, h2, h3, h4, h5, h6, h7, h8, h9, h10, h11, h12, h13, h14, h15, h16, h17, h18, h19, h20, h21, h22, h23, h24, h25, h26, h27, h28, h29, h30, h31, h32, h33, h34, h35, h36, h37, h38, h39, h40, h41, h42, h43, h44, h45, h46, h47, h48, h49, h50, h51, h52, h53, h54]

@[simp ↓] theorem barLowRead_blank {W : Part → Bool} (addr : Nat) (s : State) (h0 : W (.com .dxd .badAccess) = true) (h1 : W (.com .dxd .barLow) = true) (h2 : W (.com .dxd .barCap) = true) (h3 : W (.com .dxd .rsp) = true) (h4 : W (.com .dxd .lockRefused) = true) (h5 : W (.com .dxd .pgEvent) = true) (h6 : W (.com .dxd .ic) = true) (h7 : W (.com .dxd .pgEn) = true) (h8 : W (.com .dxd .lockKey) = true) (h9 : W (.com .dxd .tk) = true) (h10 : W (.com .dxd .regs) = true) (h11 : W .refs = true) (h12 : W .ptp = true) (h13 : W .hold = true) (h14 : W (.com .dxd .coreA) = true) (h15 : W (.com .dxd .coreB) = true) (h16 : W (.com .dxd .hfits) = true) (h17 : W (.com .dxd .msets) = true) (h18 : W .attic = true) (h19 : W (.com .dxd .ports) = true) (h20 : W .referee = true) (h21 : W .ledger = true) (h22 : W .scores = true) (h23 : W .census = true) (h24 : W .kicks = true) (h25 : W (.com .dxd .chans) = true) (h26 : W (.com .tsu .regs) = true) (h27 : W (.com .tsu .pgEvent) = true) (h28 : W (.com .tsu .ic) = true) (h29 : W .bays = true) (h30 : W .cue = true) (h31 : W .signals = true) (h32 : W .huddles = true) (h33 : W .steps = true) (h34 : W .tallies = true) (h35 : W (.com .tsu .ports) = true) (h36 : W .member = true) (h37 : W .keyPort = true) (h38 : W (.com .tsu .tk) = true) (h39 : W .stock = true) (h40 : W (.com .dxd .bt) = true) (h41 : W (.com .tsu .bt) = true) (h42 : W (.com .dxd .oseq) = true) (h43 : W (.com .dxd .seen) = true) (h44 : W (.com .dxd .censusTree) = true) (h45 : W (.com .dxd .boot) = true) (h46 : W .outs = true) (h47 : W .strobe = true) (h48 : W .ownOff = true) (h49 : W .twinOff = true) (h50 : W .subsystem = true) (h51 : W (.com .dxd .up) = true) (h52 : W (.com .dxd .beats) = true) (h53 : W (.com .dxd .ta) = true) (h54 : W .straps = true) :
    (barLowRead addr s).blank W = s.blank W := by simp [barLowRead, Com.blank, Tsu.blank, Dxd.blank, h0, h1, h2, h3, h4, h5, h6, h7, h8, h9, h10, h11, h12, h13, h14, h15, h16, h17, h18, h19, h20, h21, h22, h23, h24, h25, h26, h27, h28, h29, h30, h31, h32, h33, h34, h35, h36, h37, h38, h39, h40, h41, h42, h43, h44, h45, h46, h47, h48, h49, h50, h51, h52, h53, h54]

@[simp ↓] theorem barHighRead_blank {W : Part → Bool} (addr : Nat) (s : State) (h0 : W (.com .dxd .rsp) = true) (h1 : W (.com .dxd .badAccess) = true) (h2 : W (.com .dxd .barLow) = true) (h3 : W (.com .dxd .barCap) = true) :
    (barHighRead addr s).blank W = s.blank W := by simp [barHighRead, Com.blank, Tsu.blank, Dxd.blank, h0, h1, h2, h3]

@[simp ↓] theorem barLowWrite_blank {W : Part → Bool} (addr : Nat) (v : Nat) (s : State) (h0 : W (.com .dxd .badAccess) = true) (h1 : W (.com .dxd .barLow) = true) (h2 : W (.com .dxd .barCap) = true) :
    (barLowWrite addr v s).blank W = s.blank W := by simp [barLowWrite, Com.blank, Tsu.blank, Dxd.blank, h0, h1, h2]

@[simp ↓] theorem barHighWrite_blank {W : Part → Bool} (addr : Nat) (v : Nat) (s : State) (h0 : W (.com .dxd .badAccess) = true) (h1 : W (.com .dxd .barLow) = true) (h2 : W (.com .dxd .barCap) = true) (h3 : W (.com .dxd .bt) = true) (h4 : W (.com .dxd .lockRefused) = true) (h5 : W (.com .dxd .pgEvent) = true) (h6 : W (.com .dxd .ic) = true) (h7 : W (.com .dxd .pgEn) = true) (h8 : W (.com .dxd .lockKey) = true) (h9 : W (.com .dxd .tk) = true) (h10 : W (.com .dxd .regs) = true) (h11 : W .refs = true) (h12 : W .ptp = true) (h13 : W .hold = true) (h14 : W (.com .dxd .coreA) = true) (h15 : W (.com .dxd .coreB) = true) (h16 : W (.com .dxd .hfits) = true) (h17 : W (.com .dxd .msets) = true) (h18 : W .attic = true) (h19 : W (.com .dxd .ports) = true) (h20 : W .referee = true) (h21 : W .ledger = true) (h22 : W .scores = true) (h23 : W .census = true) (h24 : W .kicks = true) (h25 : W (.com .dxd .chans) = true) (h26 : W (.com .tsu .regs) = true) (h27 : W (.com .tsu .pgEvent) = true) (h28 : W (.com .tsu .ic) = true) (h29 : W .bays = true) (h30 : W .cue = true) (h31 : W .signals = true) (h32 : W .huddles = true) (h33 : W .steps = true) (h34 : W .tallies = true) (h35 : W (.com .tsu .ports) = true) (h36 : W .member = true) (h37 : W .keyPort = true) (h38 : W (.com .tsu .tk) = true) (h39 : W .stock = true) (h40 : W (.com .tsu .bt) = true) (h41 : W (.com .dxd .oseq) = true) (h42 : W (.com .dxd .seen) = true) (h43 : W (.com .dxd .censusTree) = true) (h44 : W (.com .dxd .boot) = true) (h45 : W .outs = true) (h46 : W .strobe = true) (h47 : W .ownOff = true) (h48 : W .twinOff = true) (h49 : W .subsystem = true) (h50 : W (.com .dxd .up) = true) (h51 : W (.com .dxd .beats) = true) (h52 : W (.com .dxd .ta) = true) (h53 : W (.com .dxd .rsp) = true) (h54 : W .straps = true) :
    (barHighWrite addr v s).blank W = s.blank W := by
  unfold barHighWrite
  (repeat' split) <;> simp [Com.blank, Tsu.blank, Dxd.blank, h0, h1, h2, h3, h4, h5, h6, h7, h8, h9, h10, h11, h12, h13, h14, h15, h16, h17, h18, h19, h20, h21, h22, h23, h24, h25, h26, h27, h28, h29, h30, h31, h32, h33, h34, h35, h36, h37, h38, h39, h40, h41, h42, h43, h44, h45, h46, h47, h48, h49, h50, h51, h52, h53, h54]

end Sys2Proof.Machine
end

