-- ==== Sys2Proof/Laws/FrameImagesTsu.lean ====
section
/-!
SUPPORT. What the operations of Machine/ImagesTsu.lean can change.
-/

namespace Sys2Proof.Machine

@[simp ↓] theorem addChunk_tsu_blank {W : Part → Bool} (f : ConfigF) (s : State) (h0 : W (.com .tsu .boot) = true) :
    (addChunk .tsu f s).blank W = s.blank W := by simp [addChunk, Com.blank, Tsu.blank, Dxd.blank, h0]

@[simp ↓] theorem addChunk_dxd_blank {W : Part → Bool} (f : ConfigF) (s : State) (h0 : W (.com .dxd .boot) = true) :
    (addChunk .dxd f s).blank W = s.blank W := by simp [addChunk, Com.blank, Tsu.blank, Dxd.blank, h0]

@[simp ↓] theorem dropChunks_dxd_blank {W : Part → Bool} (id : Nat) (s : State) (h0 : W (.com .dxd .boot) = true) :
    (dropChunks .dxd id s).blank W = s.blank W := by simp [dropChunks, Com.blank, Tsu.blank, Dxd.blank, h0]

@[simp ↓] theorem dropChunks_tsu_blank {W : Part → Bool} (id : Nat) (s : State) (h0 : W (.com .tsu .boot) = true) :
    (dropChunks .tsu id s).blank W = s.blank W := by simp [dropChunks, Com.blank, Tsu.blank, Dxd.blank, h0]

@[simp ↓] theorem takeBoot_blank {W : Part → Bool} (img : List Byte) (s : State) (h0 : W (.com .tsu .pgEvent) = true) (h1 : W (.com .tsu .ic) = true) (h2 : W (.com .tsu .boot) = true) (h3 : W (.com .tsu .up) = true) (h4 : W (.com .tsu .beats) = true) (h5 : W (.com .tsu .tk) = true) (h6 : W (.com .tsu .coreA) = true) (h7 : W (.com .tsu .coreB) = true) (h8 : W (.com .tsu .ports) = true) (h9 : W (.com .tsu .chans) = true) (h10 : W (.com .tsu .msets) = true) (h11 : W (.com .tsu .hfits) = true) (h12 : W (.com .tsu .regs) = true) (h13 : W (.com .tsu .pgEn) = true) (h14 : W (.com .tsu .badAccess) = true) (h15 : W (.com .tsu .lockRefused) = true) (h16 : W (.com .tsu .lockKey) = true) (h17 : W (.com .tsu .bt) = true) (h18 : W (.com .tsu .ta) = true) (h19 : W (.com .tsu .barCap) = true) (h20 : W (.com .tsu .barLow) = true) (h21 : W (.com .tsu .rsp) = true) (h22 : W (.com .tsu .oseq) = true) (h23 : W (.com .tsu .seen) = true) (h24 : W (.com .tsu .censusTree) = true) (h25 : W .stock = true) (h26 : W .steps = true) (h27 : W .member = true) (h28 : W .cue = true) (h29 : W .signals = true) (h30 : W .huddles = true) (h31 : W .keyPort = true) (h32 : W .tallies = true) (h33 : W .bays = true) (h34 : W .kickPins = true) :
    (takeBoot img s).blank W = s.blank W := by
  unfold takeBoot
  (repeat' split) <;> simp [Com.blank, Tsu.blank, Dxd.blank, h0, h1, h2, h3, h4, h5, h6, h7, h8, h9, h10, h11, h12, h13, h14, h15, h16, h17, h18, h19, h20, h21, h22, h23, h24, h25, h26, h27, h28, h29, h30, h31, h32, h33, h34]

@[simp ↓] theorem takeConfig_blank {W : Part → Bool} (cls : Nat) (img : List Byte) (s : State) (h0 : W .keyPort = true) (h1 : W (.com .tsu .boot) = true) :
    (takeConfig cls img s).blank W = s.blank W := by simp [takeConfig, Com.blank, Tsu.blank, Dxd.blank, h0, h1]

@[simp ↓] theorem tsuChunkNow_blank {W : Part → Bool} (f : ConfigF) (s : State) (h0 : W (.com .tsu .boot) = true) (h1 : W (.com .tsu .pgEvent) = true) (h2 : W (.com .tsu .ic) = true) (h3 : W (.com .tsu .up) = true) (h4 : W (.com .tsu .beats) = true) (h5 : W (.com .tsu .tk) = true) (h6 : W (.com .tsu .coreA) = true) (h7 : W (.com .tsu .coreB) = true) (h8 : W (.com .tsu .ports) = true) (h9 : W (.com .tsu .chans) = true) (h10 : W (.com .tsu .msets) = true) (h11 : W (.com .tsu .hfits) = true) (h12 : W (.com .tsu .regs) = true) (h13 : W (.com .tsu .pgEn) = true) (h14 : W (.com .tsu .badAccess) = true) (h15 : W (.com .tsu .lockRefused) = true) (h16 : W (.com .tsu .lockKey) = true) (h17 : W (.com .tsu .bt) = true) (h18 : W (.com .tsu .ta) = true) (h19 : W (.com .tsu .barCap) = true) (h20 : W (.com .tsu .barLow) = true) (h21 : W (.com .tsu .rsp) = true) (h22 : W (.com .tsu .oseq) = true) (h23 : W (.com .tsu .seen) = true) (h24 : W (.com .tsu .censusTree) = true) (h25 : W .stock = true) (h26 : W .steps = true) (h27 : W .member = true) (h28 : W .cue = true) (h29 : W .signals = true) (h30 : W .huddles = true) (h31 : W .keyPort = true) (h32 : W .tallies = true) (h33 : W .bays = true) (h34 : W .kickPins = true) :
    (tsuChunkNow f s).blank W = s.blank W := by
  unfold tsuChunkNow
  dsimp only
  (repeat' split) <;> simp [Com.blank, Tsu.blank, Dxd.blank, h0, h1, h2, h3, h4, h5, h6, h7, h8, h9, h10, h11, h12, h13, h14, h15, h16, h17, h18, h19, h20, h21, h22, h23, h24, h25, h26, h27, h28, h29, h30, h31, h32, h33, h34]

@[simp ↓] theorem tsuChunk_blank {W : Part → Bool} (f : ConfigF) (s : State) (h0 : W (.com .tsu .boot) = true) (h1 : W (.com .tsu .pgEvent) = true) (h2 : W (.com .tsu .ic) = true) (h3 : W (.com .tsu .up) = true) (h4 : W (.com .tsu .beats) = true) (h5 : W (.com .tsu .tk) = true) (h6 : W (.com .tsu .coreA) = true) (h7 : W (.com .tsu .coreB) = true) (h8 : W (.com .tsu .ports) = true) (h9 : W (.com .tsu .chans) = true) (h10 : W (.com .tsu .msets) = true) (h11 : W (.com .tsu .hfits) = true) (h12 : W (.com .tsu .regs) = true) (h13 : W (.com .tsu .pgEn) = true) (h14 : W (.com .tsu .badAccess) = true) (h15 : W (.com .tsu .lockRefused) = true) (h16 : W (.com .tsu .lockKey) = true) (h17 : W (.com .tsu .bt) = true) (h18 : W (.com .tsu .ta) = true) (h19 : W (.com .tsu .barCap) = true) (h20 : W (.com .tsu .barLow) = true) (h21 : W (.com .tsu .rsp) = true) (h22 : W (.com .tsu .oseq) = true) (h23 : W (.com .tsu .seen) = true) (h24 : W (.com .tsu .censusTree) = true) (h25 : W .stock = true) (h26 : W .steps = true) (h27 : W .member = true) (h28 : W .cue = true) (h29 : W .signals = true) (h30 : W .huddles = true) (h31 : W .keyPort = true) (h32 : W .tallies = true) (h33 : W .bays = true) (h34 : W .kickPins = true) :
    (tsuChunk f s).blank W = s.blank W := by simp [tsuChunk, Com.blank, Tsu.blank, Dxd.blank, h0, h1, h2, h3, h4, h5, h6, h7, h8, h9, h10, h11, h12, h13, h14, h15, h16, h17, h18, h19, h20, h21, h22, h23, h24, h25, h26, h27, h28, h29, h30, h31, h32, h33, h34]

@[simp ↓] theorem laneFallback_blank {W : Part → Bool} (s : State) (h0 : W (.com .tsu .pgEvent) = true) (h1 : W (.com .tsu .ic) = true) (h2 : W (.com .tsu .boot) = true) (h3 : W (.com .tsu .up) = true) (h4 : W (.com .tsu .beats) = true) (h5 : W (.com .tsu .tk) = true) (h6 : W (.com .tsu .coreA) = true) (h7 : W (.com .tsu .coreB) = true) (h8 : W (.com .tsu .ports) = true) (h9 : W (.com .tsu .chans) = true) (h10 : W (.com .tsu .msets) = true) (h11 : W (.com .tsu .hfits) = true) (h12 : W (.com .tsu .regs) = true) (h13 : W (.com .tsu .pgEn) = true) (h14 : W (.com .tsu .badAccess) = true) (h15 : W (.com .tsu .lockRefused) = true) (h16 : W (.com .tsu .lockKey) = true) (h17 : W (.com .tsu .bt) = true) (h18 : W (.com .tsu .ta) = true) (h19 : W (.com .tsu .barCap) = true) (h20 : W (.com .tsu .barLow) = true) (h21 : W (.com .tsu .rsp) = true) (h22 : W (.com .tsu .oseq) = true) (h23 : W (.com .tsu .seen) = true) (h24 : W (.com .tsu .censusTree) = true) (h25 : W .stock = true) (h26 : W .steps = true) (h27 : W .member = true) (h28 : W .cue = true) (h29 : W .signals = true) (h30 : W .huddles = true) (h31 : W .keyPort = true) (h32 : W .tallies = true) (h33 : W .bays = true) (h34 : W .kickPins = true) :
    (laneFallback s).blank W = s.blank W := by
  unfold laneFallback
  (repeat' split) <;> simp [Com.blank, Tsu.blank, Dxd.blank, h0, h1, h2, h3, h4, h5, h6, h7, h8, h9, h10, h11, h12, h13, h14, h15, h16, h17, h18, h19, h20, h21, h22, h23, h24, h25, h26, h27, h28, h29, h30, h31, h32, h33, h34]

@[simp ↓] theorem localImageDone_blank {W : Part → Bool} (img : List Byte) (s : State) (h0 : W (.com .tsu .pgEvent) = true) (h1 : W (.com .tsu .ic) = true) (h2 : W (.com .tsu .boot) = true) (h3 : W (.com .tsu .up) = true) (h4 : W (.com .tsu .beats) = true) (h5 : W (.com .tsu .tk) = true) (h6 : W (.com .tsu .coreA) = true) (h7 : W (.com .tsu .coreB) = true) (h8 : W (.com .tsu .ports) = true) (h9 : W (.com .tsu .chans) = true) (h10 : W (.com .tsu .msets) = true) (h11 : W (.com .tsu .hfits) = true) (h12 : W (.com .tsu .regs) = true) (h13 : W (.com .tsu .pgEn) = true) (h14 : W (.com .tsu .badAccess) = true) (h15 : W (.com .tsu .lockRefused) = true) (h16 : W (.com .tsu .lockKey) = true) (h17 : W (.com .tsu .bt) = true) (h18 : W (.com .tsu .ta) = true) (h19 : W (.com .tsu .barCap) = true) (h20 : W (.com .tsu .barLow) = true) (h21 : W (.com .tsu .rsp) = true) (h22 : W (.com .tsu .oseq) = true) (h23 : W (.com .tsu .seen) = true) (h24 : W (.com .tsu .censusTree) = true) (h25 : W .stock = true) (h26 : W .steps = true) (h27 : W .member = true) (h28 : W .cue = true) (h29 : W .signals = true) (h30 : W .huddles = true) (h31 : W .keyPort = true) (h32 : W .tallies = true) (h33 : W .bays = true) (h34 : W .kickPins = true) :
    (localImageDone img s).blank W = s.blank W := by simp [localImageDone, Com.blank, Tsu.blank, Dxd.blank, h0, h1, h2, h3, h4, h5, h6, h7, h8, h9, h10, h11, h12, h13, h14, h15, h16, h17, h18, h19, h20, h21, h22, h23, h24, h25, h26, h27, h28, h29, h30, h31, h32, h33, h34]

@[simp ↓] theorem preset_blank {W : Part → Bool} (e : List Byte) (s : State) (h0 : W (.com .tsu .badAccess) = true) (h1 : W (.com .tsu .lockRefused) = true) (h2 : W (.com .tsu .pgEvent) = true) (h3 : W (.com .tsu .ic) = true) (h4 : W (.com .tsu .pgEn) = true) (h5 : W (.com .tsu .lockKey) = true) (h6 : W (.com .tsu .tk) = true) (h7 : W (.com .dxd .tk) = true) (h8 : W (.com .tsu .regs) = true) (h9 : W .member = true) (h10 : W (.com .tsu .coreA) = true) (h11 : W (.com .tsu .coreB) = true) (h12 : W (.com .tsu .msets) = true) (h13 : W (.com .tsu .hfits) = true) (h14 : W (.com .tsu .ports) = true) (h15 : W .huddles = true) (h16 : W (.com .dxd .pgEvent) = true) (h17 : W (.com .dxd .ic) = true) (h18 : W (.com .tsu .chans) = true) (h19 : W .bays = true) (h20 : W .cue = true) (h21 : W .signals = true) (h22 : W .steps = true) (h23 : W .tallies = true) (h24 : W .keyPort = true) (h25 : W .scores = true) (h26 : W (.com .dxd .regs) = true) (h27 : W .stock = true) (h28 : W (.com .tsu .bt) = true) (h29 : W (.com .tsu .oseq) = true) (h30 : W (.com .tsu .seen) = true) (h31 : W (.com .tsu .censusTree) = true) (h32 : W (.com .tsu .boot) = true) (h33 : W .kickPins = true) (h34 : W (.com .tsu .up) = true) (h35 : W (.com .tsu .beats) = true) (h36 : W (.com .tsu .ta) = true) (h37 : W (.com .tsu .barCap) = true) (h38 : W (.com .tsu .barLow) = true) (h39 : W (.com .tsu .rsp) = true) (h40 : W .refs = true) (h41 : W .hold = true) (h42 : W .attic = true) (h43 : W .ptp = true) (h44 : W (.com .dxd .coreA) = true) (h45 : W (.com .dxd .coreB) = true) (h46 : W (.com .dxd .hfits) = true) (h47 : W (.com .dxd .msets) = true) (h48 : W .outs = true) (h49 : W .referee = true) (h50 : W .ledger = true) (h51 : W (.com .dxd .ports) = true) (h52 : W .census = true) (h53 : W .kicks = true) (h54 : W (.com .dxd .seen) = true) :
    (preset e s).1.blank W = s.blank W := by
  unfold preset
  (repeat' split) <;> simp [Com.blank, Tsu.blank, Dxd.blank, h0, h1, h2, h3, h4, h5, h6, h7, h8, h9, h10, h11, h12, h13, h14, h15, h16, h17, h18, h19, h20, h21, h22, h23, h24, h25, h26, h27, h28, h29, h30, h31, h32, h33, h34, h35, h36, h37, h38, h39, h40, h41, h42, h43, h44, h45, h46, h47, h48, h49, h50, h51, h52, h53, h54]

@[simp ↓] theorem presets_blank {W : Part → Bool} (b : List Byte) (s : State) (h0 : W (.com .tsu .badAccess) = true) (h1 : W (.com .tsu .lockRefused) = true) (h2 : W (.com .tsu .pgEvent) = true) (h3 : W (.com .tsu .ic) = true) (h4 : W (.com .tsu .pgEn) = true) (h5 : W (.com .tsu .lockKey) = true) (h6 : W (.com .tsu .tk) = true) (h7 : W (.com .dxd .tk) = true) (h8 : W (.com .tsu .regs) = true) (h9 : W .member = true) (h10 : W (.com .tsu .coreA) = true) (h11 : W (.com .tsu .coreB) = true) (h12 : W (.com .tsu .msets) = true) (h13 : W (.com .tsu .hfits) = true) (h14 : W (.com .tsu .ports) = true) (h15 : W .huddles = true) (h16 : W (.com .dxd .pgEvent) = true) (h17 : W (.com .dxd .ic) = true) (h18 : W (.com .tsu .chans) = true) (h19 : W .bays = true) (h20 : W .cue = true) (h21 : W .signals = true) (h22 : W .steps = true) (h23 : W .tallies = true) (h24 : W .keyPort = true) (h25 : W .scores = true) (h26 : W (.com .dxd .regs) = true) (h27 : W .stock = true) (h28 : W (.com .tsu .bt) = true) (h29 : W (.com .tsu .oseq) = true) (h30 : W (.com .tsu .seen) = true) (h31 : W (.com .tsu .censusTree) = true) (h32 : W (.com .tsu .boot) = true) (h33 : W .kickPins = true) (h34 : W (.com .tsu .up) = true) (h35 : W (.com .tsu .beats) = true) (h36 : W (.com .tsu .ta) = true) (h37 : W (.com .tsu .barCap) = true) (h38 : W (.com .tsu .barLow) = true) (h39 : W (.com .tsu .rsp) = true) (h40 : W .refs = true) (h41 : W .hold = true) (h42 : W .attic = true) (h43 : W .ptp = true) (h44 : W (.com .dxd .coreA) = true) (h45 : W (.com .dxd .coreB) = true) (h46 : W (.com .dxd .hfits) = true) (h47 : W (.com .dxd .msets) = true) (h48 : W .outs = true) (h49 : W .referee = true) (h50 : W .ledger = true) (h51 : W (.com .dxd .ports) = true) (h52 : W .census = true) (h53 : W .kicks = true) (h54 : W (.com .dxd .seen) = true) :
    (presets b s).1.blank W = s.blank W := by simp [presets, Com.blank, Tsu.blank, Dxd.blank, h0, h1, h2, h3, h4, h5, h6, h7, h8, h9, h10, h11, h12, h13, h14, h15, h16, h17, h18, h19, h20, h21, h22, h23, h24, h25, h26, h27, h28, h29, h30, h31, h32, h33, h34, h35, h36, h37, h38, h39, h40, h41, h42, h43, h44, h45, h46, h47, h48, h49, h50, h51, h52, h53, h54]

@[simp ↓] theorem playbookSection_blank {W : Part → Bool} (b : List Byte) (s : State) (h0 : W (.com .tsu .pgEvent) = true) (h1 : W (.com .tsu .ic) = true) (h2 : W (.com .tsu .boot) = true) (h3 : W .cue = true) :
    (playbookSection b s).blank W = s.blank W := by simp [playbookSection, Com.blank, Tsu.blank, Dxd.blank, h0, h1, h2, h3]

@[simp ↓] theorem goldenSection_blank {W : Part → Bool} (b : List Byte) (s : State) (h0 : W (.com .tsu .boot) = true) (h1 : W (.com .tsu .bt) = true) :
    (goldenSection b s).blank W = s.blank W := by simp [goldenSection, Com.blank, Tsu.blank, Dxd.blank, h0, h1]

@[simp ↓] theorem bayTablesSection_blank {W : Part → Bool} (b : List Byte) (s : State) (h0 : W (.com .tsu .regs) = true) (h1 : W (.com .tsu .pgEvent) = true) (h2 : W (.com .tsu .ic) = true) (h3 : W .bays = true) :
    (bayTablesSection b s).blank W = s.blank W := by simp [bayTablesSection, Com.blank, Tsu.blank, Dxd.blank, h0, h1, h2, h3]

@[simp ↓] theorem jobFields_blank {W : Part → Bool} (ep : Nat) (b : List Byte) (s : State) (h0 : W .keyPort = true) :
    (jobFields ep b s).blank W = s.blank W := by simp [jobFields, Com.blank, Tsu.blank, Dxd.blank, h0]

@[simp ↓] theorem jobLoaded_blank {W : Part → Bool} (s : State) (h0 : W (.com .tsu .pgEvent) = true) (h1 : W (.com .tsu .ic) = true) :
    (jobLoaded s).blank W = s.blank W := by simp [jobLoaded, Com.blank, Tsu.blank, Dxd.blank, h0, h1]

@[simp ↓] theorem jobSection_blank {W : Part → Bool} (b : List Byte) (s : State) (h0 : W .keyPort = true) (h1 : W .member = true) (h2 : W (.com .tsu .pgEvent) = true) (h3 : W (.com .tsu .ic) = true) :
    (jobSection b s).blank W = s.blank W := by simp [jobSection, Com.blank, Tsu.blank, Dxd.blank, h0, h1, h2, h3]

@[simp ↓] theorem jobAgain_blank {W : Part → Bool} (ep : Nat) (b : List Byte) (s : State) (h0 : W (.com .tsu .pgEvent) = true) (h1 : W (.com .tsu .ic) = true) (h2 : W .keyPort = true) :
    (jobAgain ep b s).blank W = s.blank W := by simp [jobAgain, Com.blank, Tsu.blank, Dxd.blank, h0, h1, h2]

@[simp ↓] theorem admitSection_blank {W : Part → Bool} (b : List Byte) (s : State) (h0 : W .keyPort = true) (h1 : W .member = true) (h2 : W (.com .tsu .pgEvent) = true) (h3 : W (.com .tsu .ic) = true) :
    (admitSection b s).blank W = s.blank W := by simp [admitSection, Com.blank, Tsu.blank, Dxd.blank, h0, h1, h2, h3]

@[simp ↓] theorem applySection_blank {W : Part → Bool} (again : Option Nat) (acc : State × Bool) (x : Nat × List Byte) (h0 : W (.com .tsu .badAccess) = true) (h1 : W (.com .tsu .lockRefused) = true) (h2 : W (.com .tsu .pgEvent) = true) (h3 : W (.com .tsu .ic) = true) (h4 : W (.com .tsu .pgEn) = true) (h5 : W (.com .tsu .lockKey) = true) (h6 : W (.com .tsu .tk) = true) (h7 : W (.com .dxd .tk) = true) (h8 : W (.com .tsu .regs) = true) (h9 : W .member = true) (h10 : W (.com .tsu .coreA) = true) (h11 : W (.com .tsu .coreB) = true) (h12 : W (.com .tsu .msets) = true) (h13 : W (.com .tsu .hfits) = true) (h14 : W (.com .tsu .ports) = true) (h15 : W .huddles = true) (h16 : W (.com .dxd .pgEvent) = true) (h17 : W (.com .dxd .ic) = true) (h18 : W (.com .tsu .chans) = true) (h19 : W .bays = true) (h20 : W .cue = true) (h21 : W .signals = true) (h22 : W .steps = true) (h23 : W .tallies = true) (h24 : W .keyPort = true) (h25 : W .scores = true) (h26 : W (.com .dxd .regs) = true) (h27 : W .stock = true) (h28 : W (.com .tsu .bt) = true) (h29 : W (.com .tsu .oseq) = true) (h30 : W (.com .tsu .seen) = true) (h31 : W (.com .tsu .censusTree) = true) (h32 : W (.com .tsu .boot) = true) (h33 : W .kickPins = true) (h34 : W (.com .tsu .up) = true) (h35 : W (.com .tsu .beats) = true) (h36 : W (.com .tsu .ta) = true) (h37 : W (.com .tsu .barCap) = true) (h38 : W (.com .tsu .barLow) = true) (h39 : W (.com .tsu .rsp) = true) (h40 : W .refs = true) (h41 : W .hold = true) (h42 : W .attic = true) (h43 : W .ptp = true) (h44 : W (.com .dxd .coreA) = true) (h45 : W (.com .dxd .coreB) = true) (h46 : W (.com .dxd .hfits) = true) (h47 : W (.com .dxd .msets) = true) (h48 : W .outs = true) (h49 : W .referee = true) (h50 : W .ledger = true) (h51 : W (.com .dxd .ports) = true) (h52 : W .census = true) (h53 : W .kicks = true) (h54 : W (.com .dxd .seen) = true) :
    (applySection again acc x).1.blank W = acc.1.blank W := by
  unfold applySection
  (repeat' split) <;> simp [Com.blank, Tsu.blank, Dxd.blank, h0, h1, h2, h3, h4, h5, h6, h7, h8, h9, h10, h11, h12, h13, h14, h15, h16, h17, h18, h19, h20, h21, h22, h23, h24, h25, h26, h27, h28, h29, h30, h31, h32, h33, h34, h35, h36, h37, h38, h39, h40, h41, h42, h43, h44, h45, h46, h47, h48, h49, h50, h51, h52, h53, h54]

@[simp ↓] theorem imageLoaded_blank {W : Part → Bool} (img : List Byte) (s : State) (h0 : W (.com .tsu .pgEvent) = true) (h1 : W (.com .tsu .ic) = true) (h2 : W (.com .tsu .boot) = true) :
    (imageLoaded img s).blank W = s.blank W := by simp [imageLoaded, Com.blank, Tsu.blank, Dxd.blank, h0, h1, h2]

@[simp ↓] theorem imageApplyDone_blank {W : Part → Bool} (s : State) (h0 : W (.com .tsu .badAccess) = true) (h1 : W (.com .tsu .lockRefused) = true) (h2 : W (.com .tsu .pgEvent) = true) (h3 : W (.com .tsu .ic) = true) (h4 : W (.com .tsu .pgEn) = true) (h5 : W (.com .tsu .lockKey) = true) (h6 : W (.com .tsu .tk) = true) (h7 : W (.com .dxd .tk) = true) (h8 : W (.com .tsu .regs) = true) (h9 : W .member = true) (h10 : W (.com .tsu .coreA) = true) (h11 : W (.com .tsu .coreB) = true) (h12 : W (.com .tsu .msets) = true) (h13 : W (.com .tsu .hfits) = true) (h14 : W (.com .tsu .ports) = true) (h15 : W .huddles = true) (h16 : W (.com .dxd .pgEvent) = true) (h17 : W (.com .dxd .ic) = true) (h18 : W (.com .tsu .chans) = true) (h19 : W .bays = true) (h20 : W .cue = true) (h21 : W .signals = true) (h22 : W .steps = true) (h23 : W .tallies = true) (h24 : W .keyPort = true) (h25 : W .scores = true) (h26 : W (.com .dxd .regs) = true) (h27 : W .stock = true) (h28 : W (.com .tsu .bt) = true) (h29 : W (.com .tsu .oseq) = true) (h30 : W (.com .tsu .seen) = true) (h31 : W (.com .tsu .censusTree) = true) (h32 : W (.com .tsu .boot) = true) (h33 : W .kickPins = true) (h34 : W (.com .tsu .up) = true) (h35 : W (.com .tsu .beats) = true) (h36 : W (.com .tsu .ta) = true) (h37 : W (.com .tsu .barCap) = true) (h38 : W (.com .tsu .barLow) = true) (h39 : W (.com .tsu .rsp) = true) (h40 : W .refs = true) (h41 : W .hold = true) (h42 : W .attic = true) (h43 : W .ptp = true) (h44 : W (.com .dxd .coreA) = true) (h45 : W (.com .dxd .coreB) = true) (h46 : W (.com .dxd .hfits) = true) (h47 : W (.com .dxd .msets) = true) (h48 : W .outs = true) (h49 : W .referee = true) (h50 : W .ledger = true) (h51 : W (.com .dxd .ports) = true) (h52 : W .census = true) (h53 : W .kicks = true) (h54 : W (.com .dxd .seen) = true) :
    (imageApplyDone s).blank W = s.blank W := by
  unfold imageApplyDone
  (repeat' split) <;> simp [Com.blank, Tsu.blank, Dxd.blank, h0, h1, h2, h3, h4, h5, h6, h7, h8, h9, h10, h11, h12, h13, h14, h15, h16, h17, h18, h19, h20, h21, h22, h23, h24, h25, h26, h27, h28, h29, h30, h31, h32, h33, h34, h35, h36, h37, h38, h39, h40, h41, h42, h43, h44, h45, h46, h47, h48, h49, h50, h51, h52, h53, h54]

@[simp ↓] theorem sectionDeferred_blank {W : Part → Bool} (s : State) (h0 : W (.com .tsu .pgEvent) = true) (h1 : W (.com .tsu .ic) = true) (h2 : W (.com .tsu .boot) = true) (h3 : W .cue = true) :
    (sectionDeferred s).blank W = s.blank W := by
  unfold sectionDeferred
  (repeat' split) <;> simp [Com.blank, Tsu.blank, Dxd.blank, h0, h1, h2, h3]

@[simp ↓] theorem tsuReadyEnter_blank {W : Part → Bool} (s : State) (h0 : W (.com .tsu .pgEvent) = true) (h1 : W (.com .tsu .ic) = true) (h2 : W (.com .tsu .boot) = true) (h3 : W (.com .tsu .hfits) = true) (h4 : W (.com .tsu .bt) = true) (h5 : W .bays = true) (h6 : W .keyPort = true) :
    (tsuReadyEnter s).blank W = s.blank W := by simp [tsuReadyEnter, Com.blank, Tsu.blank, Dxd.blank, h0, h1, h2, h3, h4, h5, h6]

@[simp ↓] theorem replayHeld_blank {W : Part → Bool} (l : List HeldAccess) (s : State) (h0 : W (.com .tsu .badAccess) = true) (h1 : W (.com .tsu .rsp) = true) (h2 : W (.com .tsu .bt) = true) (h3 : W (.com .tsu .lockRefused) = true) (h4 : W (.com .tsu .pgEvent) = true) (h5 : W (.com .tsu .ic) = true) (h6 : W (.com .tsu .pgEn) = true) (h7 : W (.com .tsu .lockKey) = true) (h8 : W (.com .tsu .tk) = true) (h9 : W (.com .dxd .tk) = true) (h10 : W (.com .tsu .regs) = true) (h11 : W .member = true) (h12 : W (.com .tsu .coreA) = true) (h13 : W (.com .tsu .coreB) = true) (h14 : W (.com .tsu .msets) = true) (h15 : W (.com .tsu .hfits) = true) (h16 : W (.com .tsu .ports) = true) (h17 : W .huddles = true) (h18 : W (.com .dxd .pgEvent) = true) (h19 : W (.com .dxd .ic) = true) (h20 : W (.com .tsu .chans) = true) (h21 : W .bays = true) (h22 : W .cue = true) (h23 : W .signals = true) (h24 : W .steps = true) (h25 : W .tallies = true) (h26 : W .keyPort = true) (h27 : W .scores = true) (h28 : W (.com .dxd .regs) = true) (h29 : W .stock = true) (h30 : W (.com .tsu .oseq) = true) (h31 : W (.com .tsu .seen) = true) (h32 : W (.com .tsu .censusTree) = true) (h33 : W (.com .tsu .boot) = true) (h34 : W .kickPins = true) (h35 : W (.com .tsu .up) = true) (h36 : W (.com .tsu .beats) = true) (h37 : W (.com .tsu .ta) = true) (h38 : W (.com .tsu .barCap) = true) (h39 : W (.com .tsu .barLow) = true) (h40 : W .refs = true) (h41 : W .hold = true) (h42 : W .attic = true) (h43 : W .ptp = true) (h44 : W (.com .dxd .coreA) = true) (h45 : W (.com .dxd .coreB) = true) (h46 : W (.com .dxd .hfits) = true) (h47 : W (.com .dxd .msets) = true) (h48 : W .outs = true) (h49 : W .referee = true) (h50 : W .ledger = true) (h51 : W (.com .dxd .ports) = true) (h52 : W .census = true) (h53 : W .kicks = true) (h54 : W (.com .dxd .seen) = true) :
    (replayHeld l s).blank W = s.blank W := by simp [replayHeld, Com.blank, Tsu.blank, Dxd.blank, h0, h1, h2, h3, h4, h5, h6, h7, h8, h9, h10, h11, h12, h13, h14, h15, h16, h17, h18, h19, h20, h21, h22, h23, h24, h25, h26, h27, h28, h29, h30, h31, h32, h33, h34, h35, h36, h37, h38, h39, h40, h41, h42, h43, h44, h45, h46, h47, h48, h49, h50, h51, h52, h53, h54]

@[simp ↓] theorem releaseChunks_blank {W : Part → Bool} (s : State) (h0 : W (.com .tsu .boot) = true) (h1 : W (.com .tsu .pgEvent) = true) (h2 : W (.com .tsu .ic) = true) (h3 : W (.com .tsu .up) = true) (h4 : W (.com .tsu .beats) = true) (h5 : W (.com .tsu .tk) = true) (h6 : W (.com .tsu .coreA) = true) (h7 : W (.com .tsu .coreB) = true) (h8 : W (.com .tsu .ports) = true) (h9 : W (.com .tsu .chans) = true) (h10 : W (.com .tsu .msets) = true) (h11 : W (.com .tsu .hfits) = true) (h12 : W (.com .tsu .regs) = true) (h13 : W (.com .tsu .pgEn) = true) (h14 : W (.com .tsu .badAccess) = true) (h15 : W (.com .tsu .lockRefused) = true) (h16 : W (.com .tsu .lockKey) = true) (h17 : W (.com .tsu .bt) = true) (h18 : W (.com .tsu .ta) = true) (h19 : W (.com .tsu .barCap) = true) (h20 : W (.com .tsu .barLow) = true) (h21 : W (.com .tsu .rsp) = true) (h22 : W (.com .tsu .oseq) = true) (h23 : W (.com .tsu .seen) = true) (h24 : W (.com .tsu .censusTree) = true) (h25 : W .stock = true) (h26 : W .steps = true) (h27 : W .member = true) (h28 : W .cue = true) (h29 : W .signals = true) (h30 : W .huddles = true) (h31 : W .keyPort = true) (h32 : W .tallies = true) (h33 : W .bays = true) (h34 : W .kickPins = true) :
    (releaseChunks s).blank W = s.blank W := by simp [releaseChunks, Com.blank, Tsu.blank, Dxd.blank, h0, h1, h2, h3, h4, h5, h6, h7, h8, h9, h10, h11, h12, h13, h14, h15, h16, h17, h18, h19, h20, h21, h22, h23, h24, h25, h26, h27, h28, h29, h30, h31, h32, h33, h34]

@[simp ↓] theorem bistRelease_blank {W : Part → Bool} (s : State) (h0 : W (.com .tsu .boot) = true) (h1 : W (.com .tsu .pgEvent) = true) (h2 : W (.com .tsu .ic) = true) (h3 : W (.com .tsu .up) = true) (h4 : W (.com .tsu .beats) = true) (h5 : W (.com .tsu .tk) = true) (h6 : W (.com .tsu .coreA) = true) (h7 : W (.com .tsu .coreB) = true) (h8 : W (.com .tsu .ports) = true) (h9 : W (.com .tsu .chans) = true) (h10 : W (.com .tsu .msets) = true) (h11 : W (.com .tsu .hfits) = true) (h12 : W (.com .tsu .regs) = true) (h13 : W (.com .tsu .pgEn) = true) (h14 : W (.com .tsu .badAccess) = true) (h15 : W (.com .tsu .lockRefused) = true) (h16 : W (.com .tsu .lockKey) = true) (h17 : W (.com .tsu .bt) = true) (h18 : W (.com .tsu .ta) = true) (h19 : W (.com .tsu .barCap) = true) (h20 : W (.com .tsu .barLow) = true) (h21 : W (.com .tsu .rsp) = true) (h22 : W (.com .tsu .oseq) = true) (h23 : W (.com .tsu .seen) = true) (h24 : W (.com .tsu .censusTree) = true) (h25 : W .stock = true) (h26 : W .steps = true) (h27 : W .member = true) (h28 : W .cue = true) (h29 : W .signals = true) (h30 : W .huddles = true) (h31 : W .keyPort = true) (h32 : W .tallies = true) (h33 : W .bays = true) (h34 : W .kickPins = true) (h35 : W (.com .dxd .tk) = true) (h36 : W (.com .dxd .pgEvent) = true) (h37 : W (.com .dxd .ic) = true) (h38 : W .scores = true) (h39 : W (.com .dxd .regs) = true) (h40 : W .refs = true) (h41 : W .hold = true) (h42 : W .attic = true) (h43 : W .ptp = true) (h44 : W (.com .dxd .coreA) = true) (h45 : W (.com .dxd .coreB) = true) (h46 : W (.com .dxd .hfits) = true) (h47 : W (.com .dxd .msets) = true) (h48 : W .outs = true) (h49 : W .referee = true) (h50 : W .ledger = true) (h51 : W (.com .dxd .ports) = true) (h52 : W .census = true) (h53 : W .kicks = true) (h54 : W (.com .dxd .seen) = true) :
    (bistRelease s).blank W = s.blank W := by simp [bistRelease, Com.blank, Tsu.blank, Dxd.blank, h0, h1, h2, h3, h4, h5, h6, h7, h8, h9, h10, h11, h12, h13, h14, h15, h16, h17, h18, h19, h20, h21, h22, h23, h24, h25, h26, h27, h28, h29, h30, h31, h32, h33, h34, h35, h36, h37, h38, h39, h40, h41, h42, h43, h44, h45, h46, h47, h48, h49, h50, h51, h52, h53, h54]

end Sys2Proof.Machine
end

