-- ==== Sys2Proof/Laws/FrameImagesDxd.lean ====
section
/-!
SUPPORT. What the operations of Machine/ImagesDxd.lean can change.
-/

namespace Sys2Proof.Machine

@[simp ↓] theorem upsertServed_blank {W : Part → Bool} (ep : Nat) (f : Served → Served) (a : State) (h0 : W .census = true) :
    (upsertServed ep f a).blank W = a.blank W := by simp [upsertServed, Com.blank, Tsu.blank, Dxd.blank, h0]

@[simp ↓] theorem learnPort_blank {W : Part → Bool} (ep : Nat) (p : Nat) (a : State) (h0 : W .census = true) :
    (learnPort ep p a).blank W = a.blank W := by simp [learnPort, Com.blank, Tsu.blank, Dxd.blank, h0]

@[simp ↓] theorem passChunks_blank {W : Part → Bool} (p : Nat) (ep : Nat) (f : ConfigF) (l : List (Nat × List Byte)) (s0 : State) (h0 : W (.com .dxd .boot) = true) (h1 : W .census = true) (h2 : W (.com .dxd .ports) = true) :
    (passChunks p ep f l s0).blank W = s0.blank W := by simp [passChunks, Com.blank, Tsu.blank, Dxd.blank, h0, h1, h2]

@[simp ↓] theorem loadCensus_blank {W : Part → Bool} (ep : Nat) (secs : List (Nat × List Byte)) (s : State) (h0 : W .census = true) :
    (loadCensus ep secs s).blank W = s.blank W := by
  unfold loadCensus
  refine foldl_blank _ _ _ ?_
  intro s x
  (repeat' split) <;> simp (maxDischargeDepth := 12) [Com.blank, Tsu.blank, Dxd.blank, h0]

@[simp ↓] theorem imageToLanes_blank {W : Part → Bool} (ep : Nat) (img : List Byte) (lanes : List Nat) (s : State) (h0 : W (.com .dxd .ports) = true) :
    (imageToLanes ep img lanes s).blank W = s.blank W := by simp [imageToLanes, Com.blank, Tsu.blank, Dxd.blank, h0]

@[simp ↓] theorem setMembers305_blank {W : Part → Bool} (ep : Nat) (rank : Nat) (limit : Nat) (s : State) (h0 : W .census = true) :
    (setMembers305 ep rank limit s).blank W = s.blank W := by simp [setMembers305, Com.blank, Tsu.blank, Dxd.blank, h0]

@[simp ↓] theorem packageJob_blank {W : Part → Bool} (ep : Nat) (img : List Byte) (body : List Byte) (s : State) (h0 : W (.com .dxd .ports) = true) (h1 : W .census = true) :
    (packageJob ep img body s).blank W = s.blank W := by
  unfold packageJob
  dsimp only
  (repeat' split) <;> simp [Com.blank, Tsu.blank, Dxd.blank, h0, h1]

@[simp ↓] theorem packageAdmit_blank {W : Part → Bool} (img : List Byte) (body : List Byte) (s : State) (h0 : W (.com .dxd .ports) = true) (h1 : W .census = true) :
    (packageAdmit img body s).blank W = s.blank W := by simp [packageAdmit, Com.blank, Tsu.blank, Dxd.blank, h0, h1]

@[simp ↓] theorem reportOwnFw_blank {W : Part → Bool} (ep : Nat) (s : State) (h0 : W (.com .dxd .pgEvent) = true) (h1 : W (.com .dxd .ic) = true) (h2 : W .referee = true) (h3 : W .ledger = true) (h4 : W (.com .dxd .ports) = true) (h5 : W .scores = true) (h6 : W (.com .dxd .regs) = true) (h7 : W .census = true) (h8 : W .kicks = true) :
    (reportOwnFw ep s).blank W = s.blank W := by simp [reportOwnFw, Com.blank, Tsu.blank, Dxd.blank, h0, h1, h2, h3, h4, h5, h6, h7, h8]

@[simp ↓] theorem dxdImage_blank {W : Part → Bool} (ep : Nat) (img : List Byte) (s : State) (h0 : W (.com .dxd .pgEvent) = true) (h1 : W (.com .dxd .ic) = true) (h2 : W .referee = true) (h3 : W .ledger = true) (h4 : W (.com .dxd .ports) = true) (h5 : W .scores = true) (h6 : W (.com .dxd .regs) = true) (h7 : W .census = true) (h8 : W .kicks = true) (h9 : W .attic = true) :
    (dxdImage ep img s).blank W = s.blank W := by
  unfold dxdImage
  (repeat' split) <;> simp [Com.blank, Tsu.blank, Dxd.blank, h0, h1, h2, h3, h4, h5, h6, h7, h8, h9]

@[simp ↓] theorem dxdChunk_blank {W : Part → Bool} (p : Nat) (ep : Nat) (f : ConfigF) (s : State) (h0 : W (.com .dxd .boot) = true) (h1 : W .census = true) (h2 : W (.com .dxd .ports) = true) (h3 : W (.com .dxd .pgEvent) = true) (h4 : W (.com .dxd .ic) = true) (h5 : W .referee = true) (h6 : W .ledger = true) (h7 : W .scores = true) (h8 : W (.com .dxd .regs) = true) (h9 : W .kicks = true) (h10 : W .attic = true) :
    (dxdChunk p ep f s).blank W = s.blank W := by
  unfold dxdChunk
  dsimp only
  (repeat' split) <;> simp [Com.blank, Tsu.blank, Dxd.blank, h0, h1, h2, h3, h4, h5, h6, h7, h8, h9, h10]

@[simp ↓] theorem configReceive_dxd_blank {W : Part → Bool} (p : Nat) (h : LinkHdr) (ep : Nat) (f : ConfigF) (s : State) (h0 : W (.com .dxd .ports) = true) (h1 : W (.com .dxd .seen) = true) (h2 : W (.com .dxd .boot) = true) (h3 : W .census = true) (h4 : W (.com .dxd .pgEvent) = true) (h5 : W (.com .dxd .ic) = true) (h6 : W .referee = true) (h7 : W .ledger = true) (h8 : W .scores = true) (h9 : W (.com .dxd .regs) = true) (h10 : W .kicks = true) (h11 : W .attic = true) :
    (configReceive .dxd p h ep f s).blank W = s.blank W := by simp (maxDischargeDepth := 12) [configReceive, Com.blank, Tsu.blank, Dxd.blank, h0, h1, h2, h3, h4, h5, h6, h7, h8, h9, h10, h11]

@[simp ↓] theorem configReceive_tsu_blank {W : Part → Bool} (p : Nat) (h : LinkHdr) (ep : Nat) (f : ConfigF) (s : State) (h0 : W (.com .tsu .ports) = true) (h1 : W (.com .tsu .seen) = true) (h2 : W (.com .tsu .boot) = true) (h3 : W (.com .tsu .pgEvent) = true) (h4 : W (.com .tsu .ic) = true) (h5 : W (.com .tsu .up) = true) (h6 : W (.com .tsu .beats) = true) (h7 : W (.com .tsu .tk) = true) (h8 : W (.com .tsu .coreA) = true) (h9 : W (.com .tsu .coreB) = true) (h10 : W (.com .tsu .chans) = true) (h11 : W (.com .tsu .msets) = true) (h12 : W (.com .tsu .hfits) = true) (h13 : W (.com .tsu .regs) = true) (h14 : W (.com .tsu .pgEn) = true) (h15 : W (.com .tsu .badAccess) = true) (h16 : W (.com .tsu .lockRefused) = true) (h17 : W (.com .tsu .lockKey) = true) (h18 : W (.com .tsu .bt) = true) (h19 : W (.com .tsu .ta) = true) (h20 : W (.com .tsu .barCap) = true) (h21 : W (.com .tsu .barLow) = true) (h22 : W (.com .tsu .rsp) = true) (h23 : W (.com .tsu .oseq) = true) (h24 : W (.com .tsu .censusTree) = true) (h25 : W .stock = true) (h26 : W .steps = true) (h27 : W .member = true) (h28 : W .cue = true) (h29 : W .signals = true) (h30 : W .huddles = true) (h31 : W .keyPort = true) (h32 : W .tallies = true) (h33 : W .bays = true) (h34 : W .kickPins = true) :
    (configReceive .tsu p h ep f s).blank W = s.blank W := by simp (maxDischargeDepth := 12) [configReceive, Com.blank, Tsu.blank, Dxd.blank, h0, h1, h2, h3, h4, h5, h6, h7, h8, h9, h10, h11, h12, h13, h14, h15, h16, h17, h18, h19, h20, h21, h22, h23, h24, h25, h26, h27, h28, h29, h30, h31, h32, h33, h34]

end Sys2Proof.Machine
end

