-- ==== Sys2Proof/Laws/FrameParts.lean ====
section
/-!
SUPPORT. From a blanked equation to the equation of one part, of a device's common state or of one product's own state.
-/

namespace Sys2Proof.Machine

/-- Every part but `p`. -/
def but (p : Part) : Part → Bool := fun q => decide (q ≠ p)

theorem tc_fuse_eq {s t : State} (h : t.blank (but (.com .tsu .fuse)) = s.blank (but (.com .tsu .fuse))) : t.tc.fuse = s.tc.fuse := by
  have := congrArg (fun u => u.tc.fuse) h; simpa [State.blank, Com.blank, but] using this
theorem dc_fuse_eq {s t : State} (h : t.blank (but (.com .dxd .fuse)) = s.blank (but (.com .dxd .fuse))) : t.dc.fuse = s.dc.fuse := by
  have := congrArg (fun u => u.dc.fuse) h; simpa [State.blank, Com.blank, but] using this
theorem tc_boot_eq {s t : State} (h : t.blank (but (.com .tsu .boot)) = s.blank (but (.com .tsu .boot))) : t.tc.boot = s.tc.boot := by
  have := congrArg (fun u => u.tc.boot) h; simpa [State.blank, Com.blank, but] using this
theorem dc_boot_eq {s t : State} (h : t.blank (but (.com .dxd .boot)) = s.blank (but (.com .dxd .boot))) : t.dc.boot = s.dc.boot := by
  have := congrArg (fun u => u.dc.boot) h; simpa [State.blank, Com.blank, but] using this
theorem tc_up_eq {s t : State} (h : t.blank (but (.com .tsu .up)) = s.blank (but (.com .tsu .up))) : t.tc.up = s.tc.up := by
  have := congrArg (fun u => u.tc.up) h; simpa [State.blank, Com.blank, but] using this
theorem dc_up_eq {s t : State} (h : t.blank (but (.com .dxd .up)) = s.blank (but (.com .dxd .up))) : t.dc.up = s.dc.up := by
  have := congrArg (fun u => u.dc.up) h; simpa [State.blank, Com.blank, but] using this
theorem tc_beats_eq {s t : State} (h : t.blank (but (.com .tsu .beats)) = s.blank (but (.com .tsu .beats))) : t.tc.beats = s.tc.beats := by
  have := congrArg (fun u => u.tc.beats) h; simpa [State.blank, Com.blank, but] using this
theorem dc_beats_eq {s t : State} (h : t.blank (but (.com .dxd .beats)) = s.blank (but (.com .dxd .beats))) : t.dc.beats = s.dc.beats := by
  have := congrArg (fun u => u.dc.beats) h; simpa [State.blank, Com.blank, but] using this
theorem tc_tk_eq {s t : State} (h : t.blank (but (.com .tsu .tk)) = s.blank (but (.com .tsu .tk))) : t.tc.tk = s.tc.tk := by
  have := congrArg (fun u => u.tc.tk) h; simpa [State.blank, Com.blank, but] using this
theorem dc_tk_eq {s t : State} (h : t.blank (but (.com .dxd .tk)) = s.blank (but (.com .dxd .tk))) : t.dc.tk = s.dc.tk := by
  have := congrArg (fun u => u.dc.tk) h; simpa [State.blank, Com.blank, but] using this
theorem tc_coreA_eq {s t : State} (h : t.blank (but (.com .tsu .coreA)) = s.blank (but (.com .tsu .coreA))) : t.tc.coreA = s.tc.coreA := by
  have := congrArg (fun u => u.tc.coreA) h; simpa [State.blank, Com.blank, but] using this
theorem dc_coreA_eq {s t : State} (h : t.blank (but (.com .dxd .coreA)) = s.blank (but (.com .dxd .coreA))) : t.dc.coreA = s.dc.coreA := by
  have := congrArg (fun u => u.dc.coreA) h; simpa [State.blank, Com.blank, but] using this
theorem tc_coreB_eq {s t : State} (h : t.blank (but (.com .tsu .coreB)) = s.blank (but (.com .tsu .coreB))) : t.tc.coreB = s.tc.coreB := by
  have := congrArg (fun u => u.tc.coreB) h; simpa [State.blank, Com.blank, but] using this
theorem dc_coreB_eq {s t : State} (h : t.blank (but (.com .dxd .coreB)) = s.blank (but (.com .dxd .coreB))) : t.dc.coreB = s.dc.coreB := by
  have := congrArg (fun u => u.dc.coreB) h; simpa [State.blank, Com.blank, but] using this
theorem tc_ports_eq {s t : State} (h : t.blank (but (.com .tsu .ports)) = s.blank (but (.com .tsu .ports))) : t.tc.ports = s.tc.ports := by
  have := congrArg (fun u => u.tc.ports) h; simpa [State.blank, Com.blank, but] using this
theorem dc_ports_eq {s t : State} (h : t.blank (but (.com .dxd .ports)) = s.blank (but (.com .dxd .ports))) : t.dc.ports = s.dc.ports := by
  have := congrArg (fun u => u.dc.ports) h; simpa [State.blank, Com.blank, but] using this
theorem tc_chans_eq {s t : State} (h : t.blank (but (.com .tsu .chans)) = s.blank (but (.com .tsu .chans))) : t.tc.chans = s.tc.chans := by
  have := congrArg (fun u => u.tc.chans) h; simpa [State.blank, Com.blank, but] using this
theorem dc_chans_eq {s t : State} (h : t.blank (but (.com .dxd .chans)) = s.blank (but (.com .dxd .chans))) : t.dc.chans = s.dc.chans := by
  have := congrArg (fun u => u.dc.chans) h; simpa [State.blank, Com.blank, but] using this
theorem tc_msets_eq {s t : State} (h : t.blank (but (.com .tsu .msets)) = s.blank (but (.com .tsu .msets))) : t.tc.msets = s.tc.msets := by
  have := congrArg (fun u => u.tc.msets) h; simpa [State.blank, Com.blank, but] using this
theorem dc_msets_eq {s t : State} (h : t.blank (but (.com .dxd .msets)) = s.blank (but (.com .dxd .msets))) : t.dc.msets = s.dc.msets := by
  have := congrArg (fun u => u.dc.msets) h; simpa [State.blank, Com.blank, but] using this
theorem tc_hfits_eq {s t : State} (h : t.blank (but (.com .tsu .hfits)) = s.blank (but (.com .tsu .hfits))) : t.tc.hfits = s.tc.hfits := by
  have := congrArg (fun u => u.tc.hfits) h; simpa [State.blank, Com.blank, but] using this
theorem dc_hfits_eq {s t : State} (h : t.blank (but (.com .dxd .hfits)) = s.blank (but (.com .dxd .hfits))) : t.dc.hfits = s.dc.hfits := by
  have := congrArg (fun u => u.dc.hfits) h; simpa [State.blank, Com.blank, but] using this
theorem tc_regs_eq {s t : State} (h : t.blank (but (.com .tsu .regs)) = s.blank (but (.com .tsu .regs))) : t.tc.regs = s.tc.regs := by
  have := congrArg (fun u => u.tc.regs) h; simpa [State.blank, Com.blank, but] using this
theorem dc_regs_eq {s t : State} (h : t.blank (but (.com .dxd .regs)) = s.blank (but (.com .dxd .regs))) : t.dc.regs = s.dc.regs := by
  have := congrArg (fun u => u.dc.regs) h; simpa [State.blank, Com.blank, but] using this
theorem tc_pgEvent_eq {s t : State} (h : t.blank (but (.com .tsu .pgEvent)) = s.blank (but (.com .tsu .pgEvent))) : t.tc.pgEvent = s.tc.pgEvent := by
  have := congrArg (fun u => u.tc.pgEvent) h; simpa [State.blank, Com.blank, but] using this
theorem dc_pgEvent_eq {s t : State} (h : t.blank (but (.com .dxd .pgEvent)) = s.blank (but (.com .dxd .pgEvent))) : t.dc.pgEvent = s.dc.pgEvent := by
  have := congrArg (fun u => u.dc.pgEvent) h; simpa [State.blank, Com.blank, but] using this
theorem tc_pgEn_eq {s t : State} (h : t.blank (but (.com .tsu .pgEn)) = s.blank (but (.com .tsu .pgEn))) : t.tc.pgEn = s.tc.pgEn := by
  have := congrArg (fun u => u.tc.pgEn) h; simpa [State.blank, Com.blank, but] using this
theorem dc_pgEn_eq {s t : State} (h : t.blank (but (.com .dxd .pgEn)) = s.blank (but (.com .dxd .pgEn))) : t.dc.pgEn = s.dc.pgEn := by
  have := congrArg (fun u => u.dc.pgEn) h; simpa [State.blank, Com.blank, but] using this
theorem tc_badAccess_eq {s t : State} (h : t.blank (but (.com .tsu .badAccess)) = s.blank (but (.com .tsu .badAccess))) : t.tc.badAccess = s.tc.badAccess := by
  have := congrArg (fun u => u.tc.badAccess) h; simpa [State.blank, Com.blank, but] using this
theorem dc_badAccess_eq {s t : State} (h : t.blank (but (.com .dxd .badAccess)) = s.blank (but (.com .dxd .badAccess))) : t.dc.badAccess = s.dc.badAccess := by
  have := congrArg (fun u => u.dc.badAccess) h; simpa [State.blank, Com.blank, but] using this
theorem tc_lockRefused_eq {s t : State} (h : t.blank (but (.com .tsu .lockRefused)) = s.blank (but (.com .tsu .lockRefused))) : t.tc.lockRefused = s.tc.lockRefused := by
  have := congrArg (fun u => u.tc.lockRefused) h; simpa [State.blank, Com.blank, but] using this
theorem dc_lockRefused_eq {s t : State} (h : t.blank (but (.com .dxd .lockRefused)) = s.blank (but (.com .dxd .lockRefused))) : t.dc.lockRefused = s.dc.lockRefused := by
  have := congrArg (fun u => u.dc.lockRefused) h; simpa [State.blank, Com.blank, but] using this
theorem tc_lockKey_eq {s t : State} (h : t.blank (but (.com .tsu .lockKey)) = s.blank (but (.com .tsu .lockKey))) : t.tc.lockKey = s.tc.lockKey := by
  have := congrArg (fun u => u.tc.lockKey) h; simpa [State.blank, Com.blank, but] using this
theorem dc_lockKey_eq {s t : State} (h : t.blank (but (.com .dxd .lockKey)) = s.blank (but (.com .dxd .lockKey))) : t.dc.lockKey = s.dc.lockKey := by
  have := congrArg (fun u => u.dc.lockKey) h; simpa [State.blank, Com.blank, but] using this
theorem tc_ic_eq {s t : State} (h : t.blank (but (.com .tsu .ic)) = s.blank (but (.com .tsu .ic))) : t.tc.ic = s.tc.ic := by
  have := congrArg (fun u => u.tc.ic) h; simpa [State.blank, Com.blank, but] using this
theorem dc_ic_eq {s t : State} (h : t.blank (but (.com .dxd .ic)) = s.blank (but (.com .dxd .ic))) : t.dc.ic = s.dc.ic := by
  have := congrArg (fun u => u.dc.ic) h; simpa [State.blank, Com.blank, but] using this
theorem tc_bt_eq {s t : State} (h : t.blank (but (.com .tsu .bt)) = s.blank (but (.com .tsu .bt))) : t.tc.bt = s.tc.bt := by
  have := congrArg (fun u => u.tc.bt) h; simpa [State.blank, Com.blank, but] using this
theorem dc_bt_eq {s t : State} (h : t.blank (but (.com .dxd .bt)) = s.blank (but (.com .dxd .bt))) : t.dc.bt = s.dc.bt := by
  have := congrArg (fun u => u.dc.bt) h; simpa [State.blank, Com.blank, but] using this
theorem tc_ta_eq {s t : State} (h : t.blank (but (.com .tsu .ta)) = s.blank (but (.com .tsu .ta))) : t.tc.ta = s.tc.ta := by
  have := congrArg (fun u => u.tc.ta) h; simpa [State.blank, Com.blank, but] using this
theorem dc_ta_eq {s t : State} (h : t.blank (but (.com .dxd .ta)) = s.blank (but (.com .dxd .ta))) : t.dc.ta = s.dc.ta := by
  have := congrArg (fun u => u.dc.ta) h; simpa [State.blank, Com.blank, but] using this
theorem tc_barCap_eq {s t : State} (h : t.blank (but (.com .tsu .barCap)) = s.blank (but (.com .tsu .barCap))) : t.tc.barCap = s.tc.barCap := by
  have := congrArg (fun u => u.tc.barCap) h; simpa [State.blank, Com.blank, but] using this
theorem dc_barCap_eq {s t : State} (h : t.blank (but (.com .dxd .barCap)) = s.blank (but (.com .dxd .barCap))) : t.dc.barCap = s.dc.barCap := by
  have := congrArg (fun u => u.dc.barCap) h; simpa [State.blank, Com.blank, but] using this
theorem tc_barLow_eq {s t : State} (h : t.blank (but (.com .tsu .barLow)) = s.blank (but (.com .tsu .barLow))) : t.tc.barLow = s.tc.barLow := by
  have := congrArg (fun u => u.tc.barLow) h; simpa [State.blank, Com.blank, but] using this
theorem dc_barLow_eq {s t : State} (h : t.blank (but (.com .dxd .barLow)) = s.blank (but (.com .dxd .barLow))) : t.dc.barLow = s.dc.barLow := by
  have := congrArg (fun u => u.dc.barLow) h; simpa [State.blank, Com.blank, but] using this
theorem tc_rsp_eq {s t : State} (h : t.blank (but (.com .tsu .rsp)) = s.blank (but (.com .tsu .rsp))) : t.tc.rsp = s.tc.rsp := by
  have := congrArg (fun u => u.tc.rsp) h; simpa [State.blank, Com.blank, but] using this
theorem dc_rsp_eq {s t : State} (h : t.blank (but (.com .dxd .rsp)) = s.blank (but (.com .dxd .rsp))) : t.dc.rsp = s.dc.rsp := by
  have := congrArg (fun u => u.dc.rsp) h; simpa [State.blank, Com.blank, but] using this
theorem tc_oseq_eq {s t : State} (h : t.blank (but (.com .tsu .oseq)) = s.blank (but (.com .tsu .oseq))) : t.tc.oseq = s.tc.oseq := by
  have := congrArg (fun u => u.tc.oseq) h; simpa [State.blank, Com.blank, but] using this
theorem dc_oseq_eq {s t : State} (h : t.blank (but (.com .dxd .oseq)) = s.blank (but (.com .dxd .oseq))) : t.dc.oseq = s.dc.oseq := by
  have := congrArg (fun u => u.dc.oseq) h; simpa [State.blank, Com.blank, but] using this
theorem tc_seen_eq {s t : State} (h : t.blank (but (.com .tsu .seen)) = s.blank (but (.com .tsu .seen))) : t.tc.seen = s.tc.seen := by
  have := congrArg (fun u => u.tc.seen) h; simpa [State.blank, Com.blank, but] using this
theorem dc_seen_eq {s t : State} (h : t.blank (but (.com .dxd .seen)) = s.blank (but (.com .dxd .seen))) : t.dc.seen = s.dc.seen := by
  have := congrArg (fun u => u.dc.seen) h; simpa [State.blank, Com.blank, but] using this
theorem tc_censusTree_eq {s t : State} (h : t.blank (but (.com .tsu .censusTree)) = s.blank (but (.com .tsu .censusTree))) : t.tc.censusTree = s.tc.censusTree := by
  have := congrArg (fun u => u.tc.censusTree) h; simpa [State.blank, Com.blank, but] using this
theorem dc_censusTree_eq {s t : State} (h : t.blank (but (.com .dxd .censusTree)) = s.blank (but (.com .dxd .censusTree))) : t.dc.censusTree = s.dc.censusTree := by
  have := congrArg (fun u => u.dc.censusTree) h; simpa [State.blank, Com.blank, but] using this
theorem t_steps_eq {s t : State} (h : t.blank (but .steps) = s.blank (but .steps)) : t.t.steps = s.t.steps := by
  have := congrArg (fun u => u.t.steps) h; simpa [State.blank, Tsu.blank, but] using this
theorem t_mem_eq {s t : State} (h : t.blank (but .member) = s.blank (but .member)) : t.t.mem = s.t.mem := by
  have := congrArg (fun u => u.t.mem) h; simpa [State.blank, Tsu.blank, but] using this
theorem t_cue_eq {s t : State} (h : t.blank (but .cue) = s.blank (but .cue)) : t.t.cue = s.t.cue := by
  have := congrArg (fun u => u.t.cue) h; simpa [State.blank, Tsu.blank, but] using this
theorem t_sg_eq {s t : State} (h : t.blank (but .signals) = s.blank (but .signals)) : t.t.sg = s.t.sg := by
  have := congrArg (fun u => u.t.sg) h; simpa [State.blank, Tsu.blank, but] using this
theorem t_hd_eq {s t : State} (h : t.blank (but .huddles) = s.blank (but .huddles)) : t.t.hd = s.t.hd := by
  have := congrArg (fun u => u.t.hd) h; simpa [State.blank, Tsu.blank, but] using this
theorem t_kp_eq {s t : State} (h : t.blank (but .keyPort) = s.blank (but .keyPort)) : t.t.kp = s.t.kp := by
  have := congrArg (fun u => u.t.kp) h; simpa [State.blank, Tsu.blank, but] using this
theorem t_tl_eq {s t : State} (h : t.blank (but .tallies) = s.blank (but .tallies)) : t.t.tl = s.t.tl := by
  have := congrArg (fun u => u.t.tl) h; simpa [State.blank, Tsu.blank, but] using this
theorem t_by_eq {s t : State} (h : t.blank (but .bays) = s.blank (but .bays)) : t.t.by_ = s.t.by_ := by
  have := congrArg (fun u => u.t.by_) h; simpa [State.blank, Tsu.blank, but] using this
theorem t_st_eq {s t : State} (h : t.blank (but .stock) = s.blank (but .stock)) : t.t.st = s.t.st := by
  have := congrArg (fun u => u.t.st) h; simpa [State.blank, Tsu.blank, but] using this
theorem t_kick_eq {s t : State} (h : t.blank (but .kickPins) = s.blank (but .kickPins)) : t.t.kick = s.t.kick := by
  have := congrArg (fun u => u.t.kick) h; simpa [State.blank, Tsu.blank, but] using this
theorem x_straps_eq {s t : State} (h : t.blank (but .straps) = s.blank (but .straps)) : t.x.straps = s.x.straps := by
  have := congrArg (fun u => u.x.straps) h; simpa [State.blank, Dxd.blank, but] using this
theorem x_rf_eq {s t : State} (h : t.blank (but .refs) = s.blank (but .refs)) : t.x.rf = s.x.rf := by
  have := congrArg (fun u => u.x.rf) h; simpa [State.blank, Dxd.blank, but] using this
theorem x_hold_eq {s t : State} (h : t.blank (but .hold) = s.blank (but .hold)) : t.x.hold = s.x.hold := by
  have := congrArg (fun u => u.x.hold) h; simpa [State.blank, Dxd.blank, but] using this
theorem x_outs_eq {s t : State} (h : t.blank (but .outs) = s.blank (but .outs)) : t.x.outs = s.x.outs := by
  have := congrArg (fun u => u.x.outs) h; simpa [State.blank, Dxd.blank, but] using this
theorem x_pt_eq {s t : State} (h : t.blank (but .ptp) = s.blank (but .ptp)) : t.x.pt = s.x.pt := by
  have := congrArg (fun u => u.x.pt) h; simpa [State.blank, Dxd.blank, but] using this
theorem x_kicks_eq {s t : State} (h : t.blank (but .kicks) = s.blank (but .kicks)) : t.x.kicks = s.x.kicks := by
  have := congrArg (fun u => u.x.kicks) h; simpa [State.blank, Dxd.blank, but] using this
theorem x_strobeAt_eq {s t : State} (h : t.blank (but .strobe) = s.blank (but .strobe)) : t.x.strobeAt = s.x.strobeAt := by
  have := congrArg (fun u => u.x.strobeAt) h; simpa [State.blank, Dxd.blank, but] using this
theorem x_cs_eq {s t : State} (h : t.blank (but .census) = s.blank (but .census)) : t.x.cs = s.x.cs := by
  have := congrArg (fun u => u.x.cs) h; simpa [State.blank, Dxd.blank, but] using this
theorem x_tl_eq {s t : State} (h : t.blank (but .scores) = s.blank (but .scores)) : t.x.tl = s.x.tl := by
  have := congrArg (fun u => u.x.tl) h; simpa [State.blank, Dxd.blank, but] using this
theorem x_lg_eq {s t : State} (h : t.blank (but .ledger) = s.blank (but .ledger)) : t.x.lg = s.x.lg := by
  have := congrArg (fun u => u.x.lg) h; simpa [State.blank, Dxd.blank, but] using this
theorem x_rf2_eq {s t : State} (h : t.blank (but .referee) = s.blank (but .referee)) : t.x.rf2 = s.x.rf2 := by
  have := congrArg (fun u => u.x.rf2) h; simpa [State.blank, Dxd.blank, but] using this
theorem x_at_eq {s t : State} (h : t.blank (but .attic) = s.blank (but .attic)) : t.x.at_ = s.x.at_ := by
  have := congrArg (fun u => u.x.at_) h; simpa [State.blank, Dxd.blank, but] using this
theorem x_ownOff_eq {s t : State} (h : t.blank (but .ownOff) = s.blank (but .ownOff)) : t.x.ownOff = s.x.ownOff := by
  have := congrArg (fun u => u.x.ownOff) h; simpa [State.blank, Dxd.blank, but] using this
theorem x_twinOff_eq {s t : State} (h : t.blank (but .twinOff) = s.blank (but .twinOff)) : t.x.twinOff = s.x.twinOff := by
  have := congrArg (fun u => u.x.twinOff) h; simpa [State.blank, Dxd.blank, but] using this
theorem x_subsystem_eq {s t : State} (h : t.blank (but .subsystem) = s.blank (but .subsystem)) : t.x.subsystem = s.x.subsystem := by
  have := congrArg (fun u => u.x.subsystem) h; simpa [State.blank, Dxd.blank, but] using this
theorem pending_eq {s t : State} (h : t.blank (but .queue) = s.blank (but .queue)) : t.pending = s.pending := by
  have := congrArg (fun u => u.pending) h; simpa [State.blank, but] using this

/-- Every part but the common state of a device. -/
def butCom (d : Dev) : Part → Bool
  | .com e _ => decide (e ≠ d)
  | _ => true

/-- Every part but the TSU's own state. -/
def butTsu : Part → Bool
  | .steps | .member | .cue | .signals | .huddles | .keyPort | .tallies | .bays | .stock | .kickPins => false
  | _ => true

/-- Every part but the DX-D's own state. -/
def butDxd : Part → Bool
  | .straps | .refs | .hold | .outs | .ptp | .kicks | .strobe | .census | .scores | .ledger | .referee | .attic | .ownOff | .twinOff |
    .subsystem => false
  | _ => true

theorem tc_eq {s t : State} (h : t.blank (butCom .tsu) = s.blank (butCom .tsu)) : t.tc = s.tc := by
  have e (c : Com) : c.blank (fun p => butCom .tsu (.com .tsu p)) = c := by simp [Com.blank, butCom]
  have := congrArg (fun u => u.tc) h; simpa only [State.blank, e] using this
theorem dc_eq {s t : State} (h : t.blank (butCom .dxd) = s.blank (butCom .dxd)) : t.dc = s.dc := by
  have e (c : Com) : c.blank (fun p => butCom .dxd (.com .dxd p)) = c := by simp [Com.blank, butCom]
  have := congrArg (fun u => u.dc) h; simpa only [State.blank, e] using this
theorem t_eq {s t : State} (h : t.blank butTsu = s.blank butTsu) : t.t = s.t := by
  have e (c : Tsu) : c.blank butTsu = c := by simp [Tsu.blank, butTsu]
  have := congrArg (fun u => u.t) h; simpa only [State.blank, e] using this
theorem x_eq {s t : State} (h : t.blank butDxd = s.blank butDxd) : t.x = s.x := by
  have e (c : Dxd) : c.blank butDxd = c := by simp [Dxd.blank, butDxd]
  have := congrArg (fun u => u.x) h; simpa only [State.blank, e] using this

/-- A change within some parts leaves every other part alone. -/
theorem Only.blank_eq {W : List Part} {s t : State} (h : Only W s t) (V : Part → Bool) (hV : ∀ p ∈ W, V p = true) :
    t.blank V = s.blank V := by
  have hb (u : State) : (u.blank W.contains).blank V = u.blank V := by
    have hp (p : Part) (hc : W.contains p = true) : V p = true := hV p (by simpa using hc)
    simp only [State.blank, Com.blank, Tsu.blank, Dxd.blank, State.mk.injEq, Com.mk.injEq, Tsu.mk.injEq, Dxd.mk.injEq]
    refine ⟨⟨?_, ?_, ?_, ?_, ?_, ?_, ?_, ?_, ?_, ?_, ?_, ?_, ?_, ?_, ?_, ?_, ?_, ?_, ?_, ?_, ?_, ?_, ?_, ?_, ?_, ?_⟩,
      ⟨?_, ?_, ?_, ?_, ?_, ?_, ?_, ?_, ?_, ?_⟩,
      ⟨?_, ?_, ?_, ?_, ?_, ?_, ?_, ?_, ?_, ?_, ?_, ?_, ?_, ?_, ?_, ?_, ?_, ?_, ?_, ?_, ?_, ?_, ?_, ?_, ?_, ?_⟩,
      ⟨?_, ?_, ?_, ?_, ?_, ?_, ?_, ?_, ?_, ?_, ?_, ?_, ?_, ?_, ?_⟩, ?_⟩ <;>
    · split
      · rfl
      · rename_i hn
        split
        · rename_i hw; exact absurd (hp _ hw) hn
        · rfl
  have := congrArg (State.blank V) h
  rwa [hb, hb] at this

end Sys2Proof.Machine
end

