-- ==== Sys2Proof/Laws/Table.lean ====
section
/-!
SUPPORT. Sparse arrays: a read after a write, writes to other keys, and that every write keeps the canonical form.
-/

namespace Sys2Proof.Machine

theorem tabGet_tabErase {α : Type} (d : α) (t : List (Nat × α)) (k j : Nat) :
    tabGet d (tabErase t k) j = if j = k then d else tabGet d t j := by
  induction t with
  | nil => simp [tabErase, tabGet]
  | cons x t ih =>
    obtain ⟨i, v⟩ := x
    by_cases h : i = k
    · subst h; by_cases hj : j = i
      · subst hj; simp [tabErase, ih]
      · have : ¬i = j := fun e => hj e.symm
        simp [tabErase, tabGet, ih, hj, this]
    · by_cases hj : j = k
      · subst hj; simp [tabErase, tabGet, h, ih]
      · simp [tabErase, tabGet, h, ih, hj]

theorem tabErase_key {α : Type} (t : List (Nat × α)) (k : Nat) : ∀ x ∈ tabErase t k, x.1 ≠ k := by
  induction t with
  | nil => simp [tabErase]
  | cons x t ih =>
    obtain ⟨i, v⟩ := x
    by_cases h : i = k
    · simpa [tabErase, h] using ih
    · intro y hy
      rcases List.mem_cons.1 (by simpa [tabErase, h] using hy) with rfl | hy
      · exact h
      · exact ih y hy

theorem tabGet_tabInsert {α : Type} (d : α) (t : List (Nat × α)) (k j : Nat) (v : α) (h : ∀ x ∈ t, x.1 ≠ k) :
    tabGet d (tabInsert t k v) j = if j = k then v else tabGet d t j := by
  induction t with
  | nil =>
    by_cases hj : j = k
    · simp [tabInsert, tabGet, hj]
    · have : ¬k = j := fun e => hj e.symm
      simp [tabInsert, tabGet, hj, this]
  | cons x t ih =>
    obtain ⟨i, w⟩ := x
    have hi : i ≠ k := h (i, w) (by simp)
    have ih := ih (fun y hy => h y (by simp [hy]))
    by_cases hk : k < i
    · by_cases hj : j = k
      · subst hj; simp [tabInsert, tabGet, hk]
      · have : ¬k = j := fun e => hj e.symm
        simp [tabInsert, tabGet, hk, hj, this]
    · by_cases hj : j = k
      · subst hj; simp [tabInsert, tabGet, hk, hi, ih]
      · simp [tabInsert, tabGet, hk, ih, hj]

theorem tabGet_tabSet {α : Type} [DecidableEq α] (d : α) (t : List (Nat × α)) (k j : Nat) (v : α) :
    tabGet d (tabSet d t k v) j = if j = k then v else tabGet d t j := by
  unfold tabSet
  split
  · rename_i h; simp [tabGet_tabErase, h]
  · rw [tabGet_tabInsert _ _ _ _ _ (tabErase_key t k), tabGet_tabErase]
    split <;> rfl

theorem tabGet_tabErase_ne {α : Type} (d : α) (t : List (Nat × α)) (k j : Nat) (h : j ≠ k) :
    tabGet d (tabErase t k) j = tabGet d t j := by simp [tabGet_tabErase, h]

/-- Another key's value is unchanged, whatever default it is read with. -/
theorem tabGet_tabSet_ne {α : Type} [DecidableEq α] (d e : α) (t : List (Nat × α)) (k j : Nat) (v : α) (h : j ≠ k) :
    tabGet e (tabSet d t k v) j = tabGet e t j := by
  unfold tabSet
  split
  · exact tabGet_tabErase_ne e t k j h
  · rw [tabGet_tabInsert _ _ _ _ _ (tabErase_key t k), if_neg h, tabGet_tabErase_ne e t k j h]

@[simp] theorem tabGet_tabSet_same {α : Type} [DecidableEq α] (d : α) (t : List (Nat × α)) (k : Nat) (v : α) :
    tabGet d (tabSet d t k v) k = v := by simp [tabGet_tabSet]

@[simp] theorem tabGet_tabMod_same {α : Type} [DecidableEq α] (d : α) (t : List (Nat × α)) (k : Nat) (f : α → α) :
    tabGet d (tabMod d t k f) k = f (tabGet d t k) := by simp [tabMod]

theorem tabGet_tabMod_ne {α : Type} [DecidableEq α] (d : α) (t : List (Nat × α)) (k j : Nat) (f : α → α) (h : j ≠ k) :
    tabGet d (tabMod d t k f) j = tabGet d t j := by simp [tabMod, tabGet_tabSet, h]

theorem mem_tabErase {α : Type} (t : List (Nat × α)) (k : Nat) (x : Nat × α) (h : x ∈ tabErase t k) : x ∈ t := by
  induction t with
  | nil => simp [tabErase] at h
  | cons y t ih =>
    by_cases hk : y.1 = k
    · exact List.mem_cons_of_mem _ (ih (by simpa [tabErase, hk] using h))
    · rcases List.mem_cons.1 (by simpa [tabErase, hk] using h) with rfl | h
      · simp
      · exact List.mem_cons_of_mem _ (ih h)

theorem mem_tabInsert {α : Type} (t : List (Nat × α)) (k : Nat) (v : α) (x : Nat × α) (h : x ∈ tabInsert t k v) :
    x = (k, v) ∨ x ∈ t := by
  induction t with
  | nil => simpa [tabInsert] using h
  | cons y t ih =>
    by_cases hk : k < y.1
    · simpa [tabInsert, hk] using h
    · rcases List.mem_cons.1 (by simpa [tabInsert, hk] using h) with rfl | h
      · simp
      · rcases ih h with h | h <;> simp [h]

theorem tabErase_sorted {α : Type} (t : List (Nat × α)) (k : Nat) (h : t.Pairwise (fun a b => a.1 < b.1)) :
    (tabErase t k).Pairwise (fun a b => a.1 < b.1) := by
  induction t with
  | nil => simp [tabErase]
  | cons y t ih =>
    have hp := List.pairwise_cons.1 h
    by_cases hk : y.1 = k
    · simpa [tabErase, hk] using ih hp.2
    · have : tabErase (y :: t) k = y :: tabErase t k := by simp [tabErase, hk]
      rw [this, List.pairwise_cons]
      exact ⟨fun z hz => hp.1 z (mem_tabErase t k z hz), ih hp.2⟩

theorem tabInsert_sorted {α : Type} (t : List (Nat × α)) (k : Nat) (v : α) (h : t.Pairwise (fun a b => a.1 < b.1))
    (hk : ∀ x ∈ t, x.1 ≠ k) : (tabInsert t k v).Pairwise (fun a b => a.1 < b.1) := by
  induction t with
  | nil => simp [tabInsert]
  | cons y t ih =>
    have hp := List.pairwise_cons.1 h
    have hy : y.1 ≠ k := hk y (by simp)
    by_cases hlt : k < y.1
    · have e : tabInsert (y :: t) k v = (k, v) :: y :: t := by simp [tabInsert, hlt]
      rw [e, List.pairwise_cons]
      refine ⟨fun z hz => ?_, h⟩
      rcases List.mem_cons.1 hz with rfl | hz
      · exact hlt
      · exact Nat.lt_trans hlt (hp.1 z hz)
    · have e : tabInsert (y :: t) k v = y :: tabInsert t k v := by simp [tabInsert, hlt]
      rw [e, List.pairwise_cons]
      refine ⟨fun z hz => ?_, ih hp.2 (fun x hx => hk x (by simp [hx]))⟩
      rcases mem_tabInsert t k v z hz with rfl | hz
      · simp only; omega
      · exact hp.1 z hz

/-- A write keeps the canonical form. -/
theorem tabSet_wf {α : Type} [DecidableEq α] (d : α) (t : List (Nat × α)) (k : Nat) (v : α) (h : tabWf (fun _ => d) t) :
    tabWf (fun _ => d) (tabSet d t k v) := by
  unfold tabSet
  split
  · exact ⟨tabErase_sorted t k h.1, fun x hx => h.2 x (mem_tabErase t k x hx)⟩
  · rename_i hv
    refine ⟨tabInsert_sorted _ k v (tabErase_sorted t k h.1) (tabErase_key t k), fun x hx => ?_⟩
    rcases mem_tabInsert _ k v x hx with rfl | hx
    · exact hv
    · exact h.2 x (mem_tabErase t k x hx)

theorem tabMod_wf {α : Type} [DecidableEq α] (d : α) (t : List (Nat × α)) (k : Nat) (f : α → α) (h : tabWf (fun _ => d) t) :
    tabWf (fun _ => d) (tabMod d t k f) := tabSet_wf d t k _ h

/-! What an array holds after one key is changed. -/

theorem tabGet_mem {α : Type} (d : α) (t : List (Nat × α)) (k : Nat) : tabGet d t k = d ∨ (k, tabGet d t k) ∈ t := by
  induction t with
  | nil => exact .inl rfl
  | cons x t ih =>
    obtain ⟨j, v⟩ := x
    unfold tabGet
    split
    · rename_i h; exact .inr (by simp [h])
    · exact ih.imp id (List.mem_cons_of_mem _)

theorem mem_tabMod {α : Type} [DecidableEq α] (d : α) (t : List (Nat × α)) (k : Nat) (f : α → α) (x : Nat × α)
    (h : x ∈ tabMod d t k f) : x = (k, f (tabGet d t k)) ∨ x ∈ t := by
  unfold tabMod tabSet at h
  split at h
  · exact .inr (mem_tabErase t k x h)
  · exact (mem_tabInsert _ k _ x h).imp id (mem_tabErase t k x)

/-- A change of one key that keeps a list drawn from its value adds nothing to what all keys' lists hold together. -/
theorem flatMap_tabMod_subset {α β : Type} [DecidableEq α] (d : α) (g : α → List β) (t : List (Nat × α)) (k : Nat) (f : α → α)
    (hd : g d = []) (hf : ∀ v, g (f v) = g v) :
    (tabMod d t k f).flatMap (fun x => g x.2) ⊆ t.flatMap (fun x => g x.2) := by
  intro b hb
  obtain ⟨x, hx, hb⟩ := List.mem_flatMap.1 hb
  rcases mem_tabMod d t k f x hx with rfl | hx
  · rw [hf] at hb
    rcases tabGet_mem d t k with h | h
    · rw [h, hd] at hb; simp at hb
    · exact List.mem_flatMap.2 ⟨_, h, hb⟩
  · exact List.mem_flatMap.2 ⟨x, hx, hb⟩

/-! A list without its repeats. -/

@[simp] theorem mem_distinct {α : Type} [DecidableEq α] (l : List α) (a : α) : a ∈ distinct l ↔ a ∈ l := by
  induction l with
  | nil => simp [distinct]
  | cons b l ih =>
    unfold distinct
    split
    · rename_i h
      rw [ih, List.mem_cons]
      exact ⟨.inr, fun h2 => h2.elim (fun e => ih.1 (e ▸ h)) id⟩
    · simp [ih]

theorem distinct_nodup {α : Type} [DecidableEq α] (l : List α) : (distinct l).Nodup := by
  induction l with
  | nil => simp [distinct]
  | cons b l ih => unfold distinct; split <;> simp_all

theorem distinct_length_le {α : Type} [DecidableEq α] (l m : List α) (h : l ⊆ m) : (distinct l).length ≤ (distinct m).length :=
  ((distinct_nodup l).subperm (fun a ha => by simpa using h (by simpa using ha))).length_le

end Sys2Proof.Machine
end

