-- ==== Sys2Proof/Laws/State.lean ====
section
/-!
SUPPORT. What each change of one unit's state leaves in every other: one lemma per change and part, all true by definition.
-/

namespace Sys2Proof.Machine

@[simp] theorem com_tsu (s : State) : s.com .tsu = s.tc := rfl
@[simp] theorem com_dxd (s : State) : s.com .dxd = s.dc := rfl

@[simp] theorem modCom_tsu_tc (f : Com → Com) (s : State) : (modCom .tsu f s).tc = f s.tc := rfl
@[simp] theorem modCom_tsu_dc (f : Com → Com) (s : State) : (modCom .tsu f s).dc = s.dc := rfl
@[simp] theorem modCom_dxd_dc (f : Com → Com) (s : State) : (modCom .dxd f s).dc = f s.dc := rfl
@[simp] theorem modCom_dxd_tc (f : Com → Com) (s : State) : (modCom .dxd f s).tc = s.tc := rfl
@[simp] theorem modCom_t (d : Dev) (f : Com → Com) (s : State) : (modCom d f s).t = s.t := by cases d <;> rfl
@[simp] theorem modCom_x (d : Dev) (f : Com → Com) (s : State) : (modCom d f s).x = s.x := by cases d <;> rfl
@[simp] theorem modCom_pending (d : Dev) (f : Com → Com) (s : State) : (modCom d f s).pending = s.pending := by cases d <;> rfl
@[simp] theorem modCom_com (d : Dev) (f : Com → Com) (s : State) : (modCom d f s).com d = f (s.com d) := by cases d <;> rfl

@[simp] theorem modTk_tsu_tc (f : Time → Time) (s : State) : (modTk .tsu f s).tc = { s.tc with tk := f s.tc.tk } := rfl
@[simp] theorem modTk_tsu_dc (f : Time → Time) (s : State) : (modTk .tsu f s).dc = s.dc := rfl
@[simp] theorem modTk_dxd_dc (f : Time → Time) (s : State) : (modTk .dxd f s).dc = { s.dc with tk := f s.dc.tk } := rfl
@[simp] theorem modTk_dxd_tc (f : Time → Time) (s : State) : (modTk .dxd f s).tc = s.tc := rfl
@[simp] theorem modTk_t (d : Dev) (f : Time → Time) (s : State) : (modTk d f s).t = s.t := by cases d <;> rfl
@[simp] theorem modTk_x (d : Dev) (f : Time → Time) (s : State) : (modTk d f s).x = s.x := by cases d <;> rfl
@[simp] theorem modTk_pending (d : Dev) (f : Time → Time) (s : State) : (modTk d f s).pending = s.pending := by cases d <;> rfl
@[simp] theorem modTk_com (d : Dev) (f : Time → Time) (s : State) : (modTk d f s).com d = { s.com d with tk := f (s.com d).tk } := by
  cases d <;> rfl

@[simp] theorem modBoot_tsu_tc (f : Boot → Boot) (s : State) : (modBoot .tsu f s).tc = { s.tc with boot := f s.tc.boot } := rfl
@[simp] theorem modBoot_tsu_dc (f : Boot → Boot) (s : State) : (modBoot .tsu f s).dc = s.dc := rfl
@[simp] theorem modBoot_dxd_dc (f : Boot → Boot) (s : State) : (modBoot .dxd f s).dc = { s.dc with boot := f s.dc.boot } := rfl
@[simp] theorem modBoot_dxd_tc (f : Boot → Boot) (s : State) : (modBoot .dxd f s).tc = s.tc := rfl
@[simp] theorem modBoot_t (d : Dev) (f : Boot → Boot) (s : State) : (modBoot d f s).t = s.t := by cases d <;> rfl
@[simp] theorem modBoot_x (d : Dev) (f : Boot → Boot) (s : State) : (modBoot d f s).x = s.x := by cases d <;> rfl
@[simp] theorem modBoot_pending (d : Dev) (f : Boot → Boot) (s : State) : (modBoot d f s).pending = s.pending := by cases d <;> rfl
@[simp] theorem modBoot_com (d : Dev) (f : Boot → Boot) (s : State) : (modBoot d f s).com d = { s.com d with boot := f (s.com d).boot } := by
  cases d <;> rfl

@[simp] theorem modIc_tsu_tc (f : Ic → Ic) (s : State) : (modIc .tsu f s).tc = { s.tc with ic := f s.tc.ic } := rfl
@[simp] theorem modIc_tsu_dc (f : Ic → Ic) (s : State) : (modIc .tsu f s).dc = s.dc := rfl
@[simp] theorem modIc_dxd_dc (f : Ic → Ic) (s : State) : (modIc .dxd f s).dc = { s.dc with ic := f s.dc.ic } := rfl
@[simp] theorem modIc_dxd_tc (f : Ic → Ic) (s : State) : (modIc .dxd f s).tc = s.tc := rfl
@[simp] theorem modIc_t (d : Dev) (f : Ic → Ic) (s : State) : (modIc d f s).t = s.t := by cases d <;> rfl
@[simp] theorem modIc_x (d : Dev) (f : Ic → Ic) (s : State) : (modIc d f s).x = s.x := by cases d <;> rfl
@[simp] theorem modIc_pending (d : Dev) (f : Ic → Ic) (s : State) : (modIc d f s).pending = s.pending := by cases d <;> rfl
@[simp] theorem modIc_com (d : Dev) (f : Ic → Ic) (s : State) : (modIc d f s).com d = { s.com d with ic := f (s.com d).ic } := by
  cases d <;> rfl

@[simp] theorem modBt_tsu_tc (f : Bt → Bt) (s : State) : (modBt .tsu f s).tc = { s.tc with bt := f s.tc.bt } := rfl
@[simp] theorem modBt_tsu_dc (f : Bt → Bt) (s : State) : (modBt .tsu f s).dc = s.dc := rfl
@[simp] theorem modBt_dxd_dc (f : Bt → Bt) (s : State) : (modBt .dxd f s).dc = { s.dc with bt := f s.dc.bt } := rfl
@[simp] theorem modBt_dxd_tc (f : Bt → Bt) (s : State) : (modBt .dxd f s).tc = s.tc := rfl
@[simp] theorem modBt_t (d : Dev) (f : Bt → Bt) (s : State) : (modBt d f s).t = s.t := by cases d <;> rfl
@[simp] theorem modBt_x (d : Dev) (f : Bt → Bt) (s : State) : (modBt d f s).x = s.x := by cases d <;> rfl
@[simp] theorem modBt_pending (d : Dev) (f : Bt → Bt) (s : State) : (modBt d f s).pending = s.pending := by cases d <;> rfl
@[simp] theorem modBt_com (d : Dev) (f : Bt → Bt) (s : State) : (modBt d f s).com d = { s.com d with bt := f (s.com d).bt } := by
  cases d <;> rfl

@[simp] theorem modMem_t (f : Member → Member) (s : State) : (modMem f s).t = { s.t with mem := f s.t.mem } := rfl
@[simp] theorem modMem_tc (f : Member → Member) (s : State) : (modMem f s).tc = s.tc := rfl
@[simp] theorem modMem_dc (f : Member → Member) (s : State) : (modMem f s).dc = s.dc := rfl
@[simp] theorem modMem_x (f : Member → Member) (s : State) : (modMem f s).x = s.x := rfl
@[simp] theorem modMem_pending (f : Member → Member) (s : State) : (modMem f s).pending = s.pending := rfl
@[simp] theorem modMem_com (d : Dev) (f : Member → Member) (s : State) : (modMem f s).com d = s.com d := by cases d <;> rfl

@[simp] theorem modCue_t (f : Engine → Engine) (s : State) : (modCue f s).t = { s.t with cue := f s.t.cue } := rfl
@[simp] theorem modCue_tc (f : Engine → Engine) (s : State) : (modCue f s).tc = s.tc := rfl
@[simp] theorem modCue_dc (f : Engine → Engine) (s : State) : (modCue f s).dc = s.dc := rfl
@[simp] theorem modCue_x (f : Engine → Engine) (s : State) : (modCue f s).x = s.x := rfl
@[simp] theorem modCue_pending (f : Engine → Engine) (s : State) : (modCue f s).pending = s.pending := rfl
@[simp] theorem modCue_com (d : Dev) (f : Engine → Engine) (s : State) : (modCue f s).com d = s.com d := by cases d <;> rfl

@[simp] theorem modSg_t (f : Signals → Signals) (s : State) : (modSg f s).t = { s.t with sg := f s.t.sg } := rfl
@[simp] theorem modSg_tc (f : Signals → Signals) (s : State) : (modSg f s).tc = s.tc := rfl
@[simp] theorem modSg_dc (f : Signals → Signals) (s : State) : (modSg f s).dc = s.dc := rfl
@[simp] theorem modSg_x (f : Signals → Signals) (s : State) : (modSg f s).x = s.x := rfl
@[simp] theorem modSg_pending (f : Signals → Signals) (s : State) : (modSg f s).pending = s.pending := rfl
@[simp] theorem modSg_com (d : Dev) (f : Signals → Signals) (s : State) : (modSg f s).com d = s.com d := by cases d <;> rfl

@[simp] theorem modHd_t (f : Huddles → Huddles) (s : State) : (modHd f s).t = { s.t with hd := f s.t.hd } := rfl
@[simp] theorem modHd_tc (f : Huddles → Huddles) (s : State) : (modHd f s).tc = s.tc := rfl
@[simp] theorem modHd_dc (f : Huddles → Huddles) (s : State) : (modHd f s).dc = s.dc := rfl
@[simp] theorem modHd_x (f : Huddles → Huddles) (s : State) : (modHd f s).x = s.x := rfl
@[simp] theorem modHd_pending (f : Huddles → Huddles) (s : State) : (modHd f s).pending = s.pending := rfl
@[simp] theorem modHd_com (d : Dev) (f : Huddles → Huddles) (s : State) : (modHd f s).com d = s.com d := by cases d <;> rfl

@[simp] theorem modKp_t (f : KeyPort → KeyPort) (s : State) : (modKp f s).t = { s.t with kp := f s.t.kp } := rfl
@[simp] theorem modKp_tc (f : KeyPort → KeyPort) (s : State) : (modKp f s).tc = s.tc := rfl
@[simp] theorem modKp_dc (f : KeyPort → KeyPort) (s : State) : (modKp f s).dc = s.dc := rfl
@[simp] theorem modKp_x (f : KeyPort → KeyPort) (s : State) : (modKp f s).x = s.x := rfl
@[simp] theorem modKp_pending (f : KeyPort → KeyPort) (s : State) : (modKp f s).pending = s.pending := rfl
@[simp] theorem modKp_com (d : Dev) (f : KeyPort → KeyPort) (s : State) : (modKp f s).com d = s.com d := by cases d <;> rfl

@[simp] theorem modTl_t (f : Tallies → Tallies) (s : State) : (modTl f s).t = { s.t with tl := f s.t.tl } := rfl
@[simp] theorem modTl_tc (f : Tallies → Tallies) (s : State) : (modTl f s).tc = s.tc := rfl
@[simp] theorem modTl_dc (f : Tallies → Tallies) (s : State) : (modTl f s).dc = s.dc := rfl
@[simp] theorem modTl_x (f : Tallies → Tallies) (s : State) : (modTl f s).x = s.x := rfl
@[simp] theorem modTl_pending (f : Tallies → Tallies) (s : State) : (modTl f s).pending = s.pending := rfl
@[simp] theorem modTl_com (d : Dev) (f : Tallies → Tallies) (s : State) : (modTl f s).com d = s.com d := by cases d <;> rfl

@[simp] theorem modBy_t (f : Bays → Bays) (s : State) : (modBy f s).t = { s.t with by_ := f s.t.by_ } := rfl
@[simp] theorem modBy_tc (f : Bays → Bays) (s : State) : (modBy f s).tc = s.tc := rfl
@[simp] theorem modBy_dc (f : Bays → Bays) (s : State) : (modBy f s).dc = s.dc := rfl
@[simp] theorem modBy_x (f : Bays → Bays) (s : State) : (modBy f s).x = s.x := rfl
@[simp] theorem modBy_pending (f : Bays → Bays) (s : State) : (modBy f s).pending = s.pending := rfl
@[simp] theorem modBy_com (d : Dev) (f : Bays → Bays) (s : State) : (modBy f s).com d = s.com d := by cases d <;> rfl

@[simp] theorem modSt_t (f : Stock → Stock) (s : State) : (modSt f s).t = { s.t with st := f s.t.st } := rfl
@[simp] theorem modSt_tc (f : Stock → Stock) (s : State) : (modSt f s).tc = s.tc := rfl
@[simp] theorem modSt_dc (f : Stock → Stock) (s : State) : (modSt f s).dc = s.dc := rfl
@[simp] theorem modSt_x (f : Stock → Stock) (s : State) : (modSt f s).x = s.x := rfl
@[simp] theorem modSt_pending (f : Stock → Stock) (s : State) : (modSt f s).pending = s.pending := rfl
@[simp] theorem modSt_com (d : Dev) (f : Stock → Stock) (s : State) : (modSt f s).com d = s.com d := by cases d <;> rfl

@[simp] theorem modRf_x (f : Ref → Ref) (s : State) : (modRf f s).x = { s.x with rf := f s.x.rf } := rfl
@[simp] theorem modRf_tc (f : Ref → Ref) (s : State) : (modRf f s).tc = s.tc := rfl
@[simp] theorem modRf_dc (f : Ref → Ref) (s : State) : (modRf f s).dc = s.dc := rfl
@[simp] theorem modRf_t (f : Ref → Ref) (s : State) : (modRf f s).t = s.t := rfl
@[simp] theorem modRf_pending (f : Ref → Ref) (s : State) : (modRf f s).pending = s.pending := rfl
@[simp] theorem modRf_com (d : Dev) (f : Ref → Ref) (s : State) : (modRf f s).com d = s.com d := by cases d <;> rfl

@[simp] theorem modHold_x (f : Hold → Hold) (s : State) : (modHold f s).x = { s.x with hold := f s.x.hold } := rfl
@[simp] theorem modHold_tc (f : Hold → Hold) (s : State) : (modHold f s).tc = s.tc := rfl
@[simp] theorem modHold_dc (f : Hold → Hold) (s : State) : (modHold f s).dc = s.dc := rfl
@[simp] theorem modHold_t (f : Hold → Hold) (s : State) : (modHold f s).t = s.t := rfl
@[simp] theorem modHold_pending (f : Hold → Hold) (s : State) : (modHold f s).pending = s.pending := rfl
@[simp] theorem modHold_com (d : Dev) (f : Hold → Hold) (s : State) : (modHold f s).com d = s.com d := by cases d <;> rfl

@[simp] theorem modPt_x (f : Ptp → Ptp) (s : State) : (modPt f s).x = { s.x with pt := f s.x.pt } := rfl
@[simp] theorem modPt_tc (f : Ptp → Ptp) (s : State) : (modPt f s).tc = s.tc := rfl
@[simp] theorem modPt_dc (f : Ptp → Ptp) (s : State) : (modPt f s).dc = s.dc := rfl
@[simp] theorem modPt_t (f : Ptp → Ptp) (s : State) : (modPt f s).t = s.t := rfl
@[simp] theorem modPt_pending (f : Ptp → Ptp) (s : State) : (modPt f s).pending = s.pending := rfl
@[simp] theorem modPt_com (d : Dev) (f : Ptp → Ptp) (s : State) : (modPt f s).com d = s.com d := by cases d <;> rfl

@[simp] theorem modCs_x (f : CensusEng → CensusEng) (s : State) : (modCs f s).x = { s.x with cs := f s.x.cs } := rfl
@[simp] theorem modCs_tc (f : CensusEng → CensusEng) (s : State) : (modCs f s).tc = s.tc := rfl
@[simp] theorem modCs_dc (f : CensusEng → CensusEng) (s : State) : (modCs f s).dc = s.dc := rfl
@[simp] theorem modCs_t (f : CensusEng → CensusEng) (s : State) : (modCs f s).t = s.t := rfl
@[simp] theorem modCs_pending (f : CensusEng → CensusEng) (s : State) : (modCs f s).pending = s.pending := rfl
@[simp] theorem modCs_com (d : Dev) (f : CensusEng → CensusEng) (s : State) : (modCs f s).com d = s.com d := by cases d <;> rfl

@[simp] theorem modScores_x (f : Scores → Scores) (s : State) : (modScores f s).x = { s.x with tl := f s.x.tl } := rfl
@[simp] theorem modScores_tc (f : Scores → Scores) (s : State) : (modScores f s).tc = s.tc := rfl
@[simp] theorem modScores_dc (f : Scores → Scores) (s : State) : (modScores f s).dc = s.dc := rfl
@[simp] theorem modScores_t (f : Scores → Scores) (s : State) : (modScores f s).t = s.t := rfl
@[simp] theorem modScores_pending (f : Scores → Scores) (s : State) : (modScores f s).pending = s.pending := rfl
@[simp] theorem modScores_com (d : Dev) (f : Scores → Scores) (s : State) : (modScores f s).com d = s.com d := by cases d <;> rfl

@[simp] theorem modLg_x (f : Ledger → Ledger) (s : State) : (modLg f s).x = { s.x with lg := f s.x.lg } := rfl
@[simp] theorem modLg_tc (f : Ledger → Ledger) (s : State) : (modLg f s).tc = s.tc := rfl
@[simp] theorem modLg_dc (f : Ledger → Ledger) (s : State) : (modLg f s).dc = s.dc := rfl
@[simp] theorem modLg_t (f : Ledger → Ledger) (s : State) : (modLg f s).t = s.t := rfl
@[simp] theorem modLg_pending (f : Ledger → Ledger) (s : State) : (modLg f s).pending = s.pending := rfl
@[simp] theorem modLg_com (d : Dev) (f : Ledger → Ledger) (s : State) : (modLg f s).com d = s.com d := by cases d <;> rfl

@[simp] theorem modRef_x (f : Referee → Referee) (s : State) : (modRef f s).x = { s.x with rf2 := f s.x.rf2 } := rfl
@[simp] theorem modRef_tc (f : Referee → Referee) (s : State) : (modRef f s).tc = s.tc := rfl
@[simp] theorem modRef_dc (f : Referee → Referee) (s : State) : (modRef f s).dc = s.dc := rfl
@[simp] theorem modRef_t (f : Referee → Referee) (s : State) : (modRef f s).t = s.t := rfl
@[simp] theorem modRef_pending (f : Referee → Referee) (s : State) : (modRef f s).pending = s.pending := rfl
@[simp] theorem modRef_com (d : Dev) (f : Referee → Referee) (s : State) : (modRef f s).com d = s.com d := by cases d <;> rfl

@[simp] theorem modAt_x (f : Attic → Attic) (s : State) : (modAt f s).x = { s.x with at_ := f s.x.at_ } := rfl
@[simp] theorem modAt_tc (f : Attic → Attic) (s : State) : (modAt f s).tc = s.tc := rfl
@[simp] theorem modAt_dc (f : Attic → Attic) (s : State) : (modAt f s).dc = s.dc := rfl
@[simp] theorem modAt_t (f : Attic → Attic) (s : State) : (modAt f s).t = s.t := rfl
@[simp] theorem modAt_pending (f : Attic → Attic) (s : State) : (modAt f s).pending = s.pending := rfl
@[simp] theorem modAt_com (d : Dev) (f : Attic → Attic) (s : State) : (modAt f s).com d = s.com d := by cases d <;> rfl

@[simp] theorem modT_t (f : Tsu → Tsu) (s : State) : (modT f s).t = f s.t := rfl
@[simp] theorem modX_x (f : Dxd → Dxd) (s : State) : (modX f s).x = f s.x := rfl
@[simp] theorem modT_tc (f : Tsu → Tsu) (s : State) : (modT f s).tc = s.tc := rfl
@[simp] theorem modT_dc (f : Tsu → Tsu) (s : State) : (modT f s).dc = s.dc := rfl
@[simp] theorem modT_x (f : Tsu → Tsu) (s : State) : (modT f s).x = s.x := rfl
@[simp] theorem modT_pending (f : Tsu → Tsu) (s : State) : (modT f s).pending = s.pending := rfl
@[simp] theorem modX_tc (f : Dxd → Dxd) (s : State) : (modX f s).tc = s.tc := rfl
@[simp] theorem modX_dc (f : Dxd → Dxd) (s : State) : (modX f s).dc = s.dc := rfl
@[simp] theorem modX_t (f : Dxd → Dxd) (s : State) : (modX f s).t = s.t := rfl
@[simp] theorem modX_pending (f : Dxd → Dxd) (s : State) : (modX f s).pending = s.pending := rfl

/-! One port. -/

@[simp] theorem port_modPort_same (d : Dev) (p : Nat) (f : Port → Port) (s : State) :
    (modPort d p f s).port d p = f (s.port d p) := by cases d <;> simp [modPort, State.port]

theorem port_modPort_ne (d : Dev) (p q : Nat) (f : Port → Port) (s : State) (h : q ≠ p) :
    (modPort d p f s).port d q = s.port d q := by cases d <;> simp [modPort, State.port, tabGet_tabMod_ne _ _ _ _ _ h]

@[simp] theorem modPort_t (d : Dev) (p : Nat) (f : Port → Port) (s : State) : (modPort d p f s).t = s.t := by simp [modPort]
@[simp] theorem modPort_x (d : Dev) (p : Nat) (f : Port → Port) (s : State) : (modPort d p f s).x = s.x := by simp [modPort]
@[simp] theorem modPort_pending (d : Dev) (p : Nat) (f : Port → Port) (s : State) :
    (modPort d p f s).pending = s.pending := by simp [modPort]
@[simp] theorem modPort_com (d : Dev) (p : Nat) (f : Port → Port) (s : State) :
    (modPort d p f s).com d = { s.com d with ports := tabMod {} (s.com d).ports p f } := by simp [modPort]

/-! Registers. -/

@[simp] theorem setReg_t (d : Dev) (a : Nat) (m v : Word) (s : State) : (setReg d a m v s).t = s.t := by simp [setReg]
@[simp] theorem setReg_x (d : Dev) (a : Nat) (m v : Word) (s : State) : (setReg d a m v s).x = s.x := by simp [setReg]
@[simp] theorem setReg_pending (d : Dev) (a : Nat) (m v : Word) (s : State) : (setReg d a m v s).pending = s.pending := by
  simp [setReg]

theorem reg_setReg (d : Dev) (a b : Nat) (m v : Word) (s : State) :
    (setReg d a m v s).reg d b = if b = a then (v &&& m) ||| (s.reg d a &&& ~~~m) else s.reg d b := by
  by_cases h : b = a
  · cases d <;> simp [setReg, State.reg, h]
  · cases d <;> simp [setReg, State.reg, h, tabGet_tabSet_ne _ _ _ _ _ _ h]

end Sys2Proof.Machine
end

