-- ==== Sys2Proof/Laws/Access.lean ====
section
/-!
SUPPORT. What a raise, a response, a dropped half-write, a taken register access and an accepted frame do, once for all commands.
-/

namespace Sys2Proof.Machine

/-! Bits of a register. -/

theorem bit_or (a b : Word) (i : Nat) : bit (a ||| b) i = (bit a i || bit b i) := by
  simp only [bit, BitVec.toNat_or]
  have h (n : Nat) : (n / 2 ^ i % 2 == 1) = n.testBit i := by simp [Nat.testBit_eq_decide_div_mod_eq, beq_eq_decide]
  simp only [h, Nat.testBit_or]

theorem bit_bitW (i j : Nat) (h : i < 64) : bit (bitW i) j = decide (i = j) := by
  have h2 : (2 : Nat) ^ i < 2 ^ 64 := Nat.pow_lt_pow_right (by decide) h
  have h' (n : Nat) : (n / 2 ^ j % 2 == 1) = n.testBit j := by simp [Nat.testBit_eq_decide_div_mod_eq, beq_eq_decide]
  simp only [bit, bitW, BitVec.toNat_ofNat, Nat.mod_eq_of_lt h2, h', Nat.testBit_two_pow]

/-! Raises. -/

@[simp] theorem noteRaise_t (d : Dev) (n : Nat) (w : Bool) (s : State) : (noteRaise d n w s).t = s.t := by
  unfold noteRaise; split <;> simp
@[simp] theorem noteRaise_x (d : Dev) (n : Nat) (w : Bool) (s : State) : (noteRaise d n w s).x = s.x := by
  unfold noteRaise; split <;> simp
@[simp] theorem noteRaise_pending (d : Dev) (n : Nat) (w : Bool) (s : State) : (noteRaise d n w s).pending = s.pending := by
  unfold noteRaise; split <;> simp
theorem noteRaise_com (d : Dev) (n : Nat) (w : Bool) (s : State) :
    ∃ ic, (noteRaise d n w s).com d = { s.com d with ic := ic } := by
  unfold noteRaise; split
  · exact ⟨_, by simp [modIc_com]; rfl⟩
  · exact ⟨(s.com d).ic, rfl⟩
theorem noteRaise_tsu_dc (n : Nat) (w : Bool) (s : State) : (noteRaise .tsu n w s).dc = s.dc := by
  unfold noteRaise; split <;> simp
theorem noteRaise_dxd_tc (n : Nat) (w : Bool) (s : State) : (noteRaise .dxd n w s).tc = s.tc := by
  unfold noteRaise; split <;> simp

@[simp] theorem raiseMask_t (d : Dev) (pg : Nat) (m : Word) (s : State) : (raiseMask d pg m s).t = s.t := by
  unfold raiseMask; dsimp only; (repeat' split) <;> simp
@[simp] theorem raiseMask_x (d : Dev) (pg : Nat) (m : Word) (s : State) : (raiseMask d pg m s).x = s.x := by
  unfold raiseMask; dsimp only; (repeat' split) <;> simp
@[simp] theorem raiseMask_pending (d : Dev) (pg : Nat) (m : Word) (s : State) : (raiseMask d pg m s).pending = s.pending := by
  unfold raiseMask; dsimp only; (repeat' split) <;> simp

/-- A raise changes the events and the interrupt controller of its device, nothing else of it. -/
theorem raiseMask_com (d : Dev) (pg : Nat) (m : Word) (s : State) :
    ∃ ev ic, (raiseMask d pg m s).com d = { s.com d with pgEvent := ev, ic := ic } := by
  unfold raiseMask; dsimp only
  split
  · split
    · exact ⟨tabMod 0 (s.com d).pgEvent pg (· ||| m), (s.com d).ic, by simp⟩
    · obtain ⟨ic, h⟩ := noteRaise_com d pg (srcLevel d s pg)
        (modCom d (fun c => { c with pgEvent := tabMod 0 c.pgEvent pg (· ||| m) }) s)
      exact ⟨_, ic, by rw [h]; simp; rfl⟩
  · exact ⟨(s.com d).pgEvent, (s.com d).ic, rfl⟩

/-- A raise at one device changes nothing of the other. -/
theorem raiseMask_com_ne (d e : Dev) (pg : Nat) (m : Word) (s : State) (h : e ≠ d) :
    (raiseMask d pg m s).com e = s.com e := by
  cases d <;> cases e <;> simp_all <;> unfold raiseMask <;> dsimp only <;> (repeat' split) <;>
    simp [noteRaise_tsu_dc, noteRaise_dxd_tc]

@[simp] theorem raiseMask_com_fuse (d e : Dev) (pg : Nat) (m : Word) (s : State) :
    ((raiseMask d pg m s).com e).fuse = (s.com e).fuse := by
  by_cases h : e = d
  · subst h; obtain ⟨_, _, h⟩ := raiseMask_com e pg m s; rw [h]
  · rw [raiseMask_com_ne d e pg m s h]
@[simp] theorem raiseMask_tc_fuse (d : Dev) (pg : Nat) (m : Word) (s : State) : (raiseMask d pg m s).tc.fuse = s.tc.fuse :=
  raiseMask_com_fuse d .tsu pg m s
@[simp] theorem raiseMask_dc_fuse (d : Dev) (pg : Nat) (m : Word) (s : State) : (raiseMask d pg m s).dc.fuse = s.dc.fuse :=
  raiseMask_com_fuse d .dxd pg m s
@[simp] theorem raiseMask_com_boot (d e : Dev) (pg : Nat) (m : Word) (s : State) :
    ((raiseMask d pg m s).com e).boot = (s.com e).boot := by
  by_cases h : e = d
  · subst h; obtain ⟨_, _, h⟩ := raiseMask_com e pg m s; rw [h]
  · rw [raiseMask_com_ne d e pg m s h]
@[simp] theorem raiseMask_tc_boot (d : Dev) (pg : Nat) (m : Word) (s : State) : (raiseMask d pg m s).tc.boot = s.tc.boot :=
  raiseMask_com_boot d .tsu pg m s
@[simp] theorem raiseMask_dc_boot (d : Dev) (pg : Nat) (m : Word) (s : State) : (raiseMask d pg m s).dc.boot = s.dc.boot :=
  raiseMask_com_boot d .dxd pg m s
@[simp] theorem raiseMask_com_up (d e : Dev) (pg : Nat) (m : Word) (s : State) :
    ((raiseMask d pg m s).com e).up = (s.com e).up := by
  by_cases h : e = d
  · subst h; obtain ⟨_, _, h⟩ := raiseMask_com e pg m s; rw [h]
  · rw [raiseMask_com_ne d e pg m s h]
@[simp] theorem raiseMask_tc_up (d : Dev) (pg : Nat) (m : Word) (s : State) : (raiseMask d pg m s).tc.up = s.tc.up :=
  raiseMask_com_up d .tsu pg m s
@[simp] theorem raiseMask_dc_up (d : Dev) (pg : Nat) (m : Word) (s : State) : (raiseMask d pg m s).dc.up = s.dc.up :=
  raiseMask_com_up d .dxd pg m s
@[simp] theorem raiseMask_com_tk (d e : Dev) (pg : Nat) (m : Word) (s : State) :
    ((raiseMask d pg m s).com e).tk = (s.com e).tk := by
  by_cases h : e = d
  · subst h; obtain ⟨_, _, h⟩ := raiseMask_com e pg m s; rw [h]
  · rw [raiseMask_com_ne d e pg m s h]
@[simp] theorem raiseMask_tc_tk (d : Dev) (pg : Nat) (m : Word) (s : State) : (raiseMask d pg m s).tc.tk = s.tc.tk :=
  raiseMask_com_tk d .tsu pg m s
@[simp] theorem raiseMask_dc_tk (d : Dev) (pg : Nat) (m : Word) (s : State) : (raiseMask d pg m s).dc.tk = s.dc.tk :=
  raiseMask_com_tk d .dxd pg m s
@[simp] theorem raiseMask_com_coreA (d e : Dev) (pg : Nat) (m : Word) (s : State) :
    ((raiseMask d pg m s).com e).coreA = (s.com e).coreA := by
  by_cases h : e = d
  · subst h; obtain ⟨_, _, h⟩ := raiseMask_com e pg m s; rw [h]
  · rw [raiseMask_com_ne d e pg m s h]
@[simp] theorem raiseMask_tc_coreA (d : Dev) (pg : Nat) (m : Word) (s : State) : (raiseMask d pg m s).tc.coreA = s.tc.coreA :=
  raiseMask_com_coreA d .tsu pg m s
@[simp] theorem raiseMask_dc_coreA (d : Dev) (pg : Nat) (m : Word) (s : State) : (raiseMask d pg m s).dc.coreA = s.dc.coreA :=
  raiseMask_com_coreA d .dxd pg m s
@[simp] theorem raiseMask_com_coreB (d e : Dev) (pg : Nat) (m : Word) (s : State) :
    ((raiseMask d pg m s).com e).coreB = (s.com e).coreB := by
  by_cases h : e = d
  · subst h; obtain ⟨_, _, h⟩ := raiseMask_com e pg m s; rw [h]
  · rw [raiseMask_com_ne d e pg m s h]
@[simp] theorem raiseMask_tc_coreB (d : Dev) (pg : Nat) (m : Word) (s : State) : (raiseMask d pg m s).tc.coreB = s.tc.coreB :=
  raiseMask_com_coreB d .tsu pg m s
@[simp] theorem raiseMask_dc_coreB (d : Dev) (pg : Nat) (m : Word) (s : State) : (raiseMask d pg m s).dc.coreB = s.dc.coreB :=
  raiseMask_com_coreB d .dxd pg m s
@[simp] theorem raiseMask_com_ports (d e : Dev) (pg : Nat) (m : Word) (s : State) :
    ((raiseMask d pg m s).com e).ports = (s.com e).ports := by
  by_cases h : e = d
  · subst h; obtain ⟨_, _, h⟩ := raiseMask_com e pg m s; rw [h]
  · rw [raiseMask_com_ne d e pg m s h]
@[simp] theorem raiseMask_tc_ports (d : Dev) (pg : Nat) (m : Word) (s : State) : (raiseMask d pg m s).tc.ports = s.tc.ports :=
  raiseMask_com_ports d .tsu pg m s
@[simp] theorem raiseMask_dc_ports (d : Dev) (pg : Nat) (m : Word) (s : State) : (raiseMask d pg m s).dc.ports = s.dc.ports :=
  raiseMask_com_ports d .dxd pg m s
@[simp] theorem raiseMask_com_chans (d e : Dev) (pg : Nat) (m : Word) (s : State) :
    ((raiseMask d pg m s).com e).chans = (s.com e).chans := by
  by_cases h : e = d
  · subst h; obtain ⟨_, _, h⟩ := raiseMask_com e pg m s; rw [h]
  · rw [raiseMask_com_ne d e pg m s h]
@[simp] theorem raiseMask_tc_chans (d : Dev) (pg : Nat) (m : Word) (s : State) : (raiseMask d pg m s).tc.chans = s.tc.chans :=
  raiseMask_com_chans d .tsu pg m s
@[simp] theorem raiseMask_dc_chans (d : Dev) (pg : Nat) (m : Word) (s : State) : (raiseMask d pg m s).dc.chans = s.dc.chans :=
  raiseMask_com_chans d .dxd pg m s
@[simp] theorem raiseMask_com_msets (d e : Dev) (pg : Nat) (m : Word) (s : State) :
    ((raiseMask d pg m s).com e).msets = (s.com e).msets := by
  by_cases h : e = d
  · subst h; obtain ⟨_, _, h⟩ := raiseMask_com e pg m s; rw [h]
  · rw [raiseMask_com_ne d e pg m s h]
@[simp] theorem raiseMask_tc_msets (d : Dev) (pg : Nat) (m : Word) (s : State) : (raiseMask d pg m s).tc.msets = s.tc.msets :=
  raiseMask_com_msets d .tsu pg m s
@[simp] theorem raiseMask_dc_msets (d : Dev) (pg : Nat) (m : Word) (s : State) : (raiseMask d pg m s).dc.msets = s.dc.msets :=
  raiseMask_com_msets d .dxd pg m s
@[simp] theorem raiseMask_com_regs (d e : Dev) (pg : Nat) (m : Word) (s : State) :
    ((raiseMask d pg m s).com e).regs = (s.com e).regs := by
  by_cases h : e = d
  · subst h; obtain ⟨_, _, h⟩ := raiseMask_com e pg m s; rw [h]
  · rw [raiseMask_com_ne d e pg m s h]
@[simp] theorem raiseMask_tc_regs (d : Dev) (pg : Nat) (m : Word) (s : State) : (raiseMask d pg m s).tc.regs = s.tc.regs :=
  raiseMask_com_regs d .tsu pg m s
@[simp] theorem raiseMask_dc_regs (d : Dev) (pg : Nat) (m : Word) (s : State) : (raiseMask d pg m s).dc.regs = s.dc.regs :=
  raiseMask_com_regs d .dxd pg m s
@[simp] theorem raiseMask_com_pgEn (d e : Dev) (pg : Nat) (m : Word) (s : State) :
    ((raiseMask d pg m s).com e).pgEn = (s.com e).pgEn := by
  by_cases h : e = d
  · subst h; obtain ⟨_, _, h⟩ := raiseMask_com e pg m s; rw [h]
  · rw [raiseMask_com_ne d e pg m s h]
@[simp] theorem raiseMask_tc_pgEn (d : Dev) (pg : Nat) (m : Word) (s : State) : (raiseMask d pg m s).tc.pgEn = s.tc.pgEn :=
  raiseMask_com_pgEn d .tsu pg m s
@[simp] theorem raiseMask_dc_pgEn (d : Dev) (pg : Nat) (m : Word) (s : State) : (raiseMask d pg m s).dc.pgEn = s.dc.pgEn :=
  raiseMask_com_pgEn d .dxd pg m s
@[simp] theorem raiseMask_com_badAccess (d e : Dev) (pg : Nat) (m : Word) (s : State) :
    ((raiseMask d pg m s).com e).badAccess = (s.com e).badAccess := by
  by_cases h : e = d
  · subst h; obtain ⟨_, _, h⟩ := raiseMask_com e pg m s; rw [h]
  · rw [raiseMask_com_ne d e pg m s h]
@[simp] theorem raiseMask_tc_badAccess (d : Dev) (pg : Nat) (m : Word) (s : State) : (raiseMask d pg m s).tc.badAccess = s.tc.badAccess :=
  raiseMask_com_badAccess d .tsu pg m s
@[simp] theorem raiseMask_dc_badAccess (d : Dev) (pg : Nat) (m : Word) (s : State) : (raiseMask d pg m s).dc.badAccess = s.dc.badAccess :=
  raiseMask_com_badAccess d .dxd pg m s
@[simp] theorem raiseMask_com_lockRefused (d e : Dev) (pg : Nat) (m : Word) (s : State) :
    ((raiseMask d pg m s).com e).lockRefused = (s.com e).lockRefused := by
  by_cases h : e = d
  · subst h; obtain ⟨_, _, h⟩ := raiseMask_com e pg m s; rw [h]
  · rw [raiseMask_com_ne d e pg m s h]
@[simp] theorem raiseMask_tc_lockRefused (d : Dev) (pg : Nat) (m : Word) (s : State) : (raiseMask d pg m s).tc.lockRefused = s.tc.lockRefused :=
  raiseMask_com_lockRefused d .tsu pg m s
@[simp] theorem raiseMask_dc_lockRefused (d : Dev) (pg : Nat) (m : Word) (s : State) : (raiseMask d pg m s).dc.lockRefused = s.dc.lockRefused :=
  raiseMask_com_lockRefused d .dxd pg m s
@[simp] theorem raiseMask_com_lockKey (d e : Dev) (pg : Nat) (m : Word) (s : State) :
    ((raiseMask d pg m s).com e).lockKey = (s.com e).lockKey := by
  by_cases h : e = d
  · subst h; obtain ⟨_, _, h⟩ := raiseMask_com e pg m s; rw [h]
  · rw [raiseMask_com_ne d e pg m s h]
@[simp] theorem raiseMask_tc_lockKey (d : Dev) (pg : Nat) (m : Word) (s : State) : (raiseMask d pg m s).tc.lockKey = s.tc.lockKey :=
  raiseMask_com_lockKey d .tsu pg m s
@[simp] theorem raiseMask_dc_lockKey (d : Dev) (pg : Nat) (m : Word) (s : State) : (raiseMask d pg m s).dc.lockKey = s.dc.lockKey :=
  raiseMask_com_lockKey d .dxd pg m s
@[simp] theorem raiseMask_com_bt (d e : Dev) (pg : Nat) (m : Word) (s : State) :
    ((raiseMask d pg m s).com e).bt = (s.com e).bt := by
  by_cases h : e = d
  · subst h; obtain ⟨_, _, h⟩ := raiseMask_com e pg m s; rw [h]
  · rw [raiseMask_com_ne d e pg m s h]
@[simp] theorem raiseMask_tc_bt (d : Dev) (pg : Nat) (m : Word) (s : State) : (raiseMask d pg m s).tc.bt = s.tc.bt :=
  raiseMask_com_bt d .tsu pg m s
@[simp] theorem raiseMask_dc_bt (d : Dev) (pg : Nat) (m : Word) (s : State) : (raiseMask d pg m s).dc.bt = s.dc.bt :=
  raiseMask_com_bt d .dxd pg m s
@[simp] theorem raiseMask_com_ta (d e : Dev) (pg : Nat) (m : Word) (s : State) :
    ((raiseMask d pg m s).com e).ta = (s.com e).ta := by
  by_cases h : e = d
  · subst h; obtain ⟨_, _, h⟩ := raiseMask_com e pg m s; rw [h]
  · rw [raiseMask_com_ne d e pg m s h]
@[simp] theorem raiseMask_tc_ta (d : Dev) (pg : Nat) (m : Word) (s : State) : (raiseMask d pg m s).tc.ta = s.tc.ta :=
  raiseMask_com_ta d .tsu pg m s
@[simp] theorem raiseMask_dc_ta (d : Dev) (pg : Nat) (m : Word) (s : State) : (raiseMask d pg m s).dc.ta = s.dc.ta :=
  raiseMask_com_ta d .dxd pg m s
@[simp] theorem raiseMask_com_barCap (d e : Dev) (pg : Nat) (m : Word) (s : State) :
    ((raiseMask d pg m s).com e).barCap = (s.com e).barCap := by
  by_cases h : e = d
  · subst h; obtain ⟨_, _, h⟩ := raiseMask_com e pg m s; rw [h]
  · rw [raiseMask_com_ne d e pg m s h]
@[simp] theorem raiseMask_tc_barCap (d : Dev) (pg : Nat) (m : Word) (s : State) : (raiseMask d pg m s).tc.barCap = s.tc.barCap :=
  raiseMask_com_barCap d .tsu pg m s
@[simp] theorem raiseMask_dc_barCap (d : Dev) (pg : Nat) (m : Word) (s : State) : (raiseMask d pg m s).dc.barCap = s.dc.barCap :=
  raiseMask_com_barCap d .dxd pg m s
@[simp] theorem raiseMask_com_barLow (d e : Dev) (pg : Nat) (m : Word) (s : State) :
    ((raiseMask d pg m s).com e).barLow = (s.com e).barLow := by
  by_cases h : e = d
  · subst h; obtain ⟨_, _, h⟩ := raiseMask_com e pg m s; rw [h]
  · rw [raiseMask_com_ne d e pg m s h]
@[simp] theorem raiseMask_tc_barLow (d : Dev) (pg : Nat) (m : Word) (s : State) : (raiseMask d pg m s).tc.barLow = s.tc.barLow :=
  raiseMask_com_barLow d .tsu pg m s
@[simp] theorem raiseMask_dc_barLow (d : Dev) (pg : Nat) (m : Word) (s : State) : (raiseMask d pg m s).dc.barLow = s.dc.barLow :=
  raiseMask_com_barLow d .dxd pg m s
@[simp] theorem raiseMask_com_rsp (d e : Dev) (pg : Nat) (m : Word) (s : State) :
    ((raiseMask d pg m s).com e).rsp = (s.com e).rsp := by
  by_cases h : e = d
  · subst h; obtain ⟨_, _, h⟩ := raiseMask_com e pg m s; rw [h]
  · rw [raiseMask_com_ne d e pg m s h]
@[simp] theorem raiseMask_tc_rsp (d : Dev) (pg : Nat) (m : Word) (s : State) : (raiseMask d pg m s).tc.rsp = s.tc.rsp :=
  raiseMask_com_rsp d .tsu pg m s
@[simp] theorem raiseMask_dc_rsp (d : Dev) (pg : Nat) (m : Word) (s : State) : (raiseMask d pg m s).dc.rsp = s.dc.rsp :=
  raiseMask_com_rsp d .dxd pg m s
@[simp] theorem raiseMask_com_oseq (d e : Dev) (pg : Nat) (m : Word) (s : State) :
    ((raiseMask d pg m s).com e).oseq = (s.com e).oseq := by
  by_cases h : e = d
  · subst h; obtain ⟨_, _, h⟩ := raiseMask_com e pg m s; rw [h]
  · rw [raiseMask_com_ne d e pg m s h]
@[simp] theorem raiseMask_tc_oseq (d : Dev) (pg : Nat) (m : Word) (s : State) : (raiseMask d pg m s).tc.oseq = s.tc.oseq :=
  raiseMask_com_oseq d .tsu pg m s
@[simp] theorem raiseMask_dc_oseq (d : Dev) (pg : Nat) (m : Word) (s : State) : (raiseMask d pg m s).dc.oseq = s.dc.oseq :=
  raiseMask_com_oseq d .dxd pg m s
@[simp] theorem raiseMask_com_seen (d e : Dev) (pg : Nat) (m : Word) (s : State) :
    ((raiseMask d pg m s).com e).seen = (s.com e).seen := by
  by_cases h : e = d
  · subst h; obtain ⟨_, _, h⟩ := raiseMask_com e pg m s; rw [h]
  · rw [raiseMask_com_ne d e pg m s h]
@[simp] theorem raiseMask_tc_seen (d : Dev) (pg : Nat) (m : Word) (s : State) : (raiseMask d pg m s).tc.seen = s.tc.seen :=
  raiseMask_com_seen d .tsu pg m s
@[simp] theorem raiseMask_dc_seen (d : Dev) (pg : Nat) (m : Word) (s : State) : (raiseMask d pg m s).dc.seen = s.dc.seen :=
  raiseMask_com_seen d .dxd pg m s
@[simp] theorem raiseMask_com_censusTree (d e : Dev) (pg : Nat) (m : Word) (s : State) :
    ((raiseMask d pg m s).com e).censusTree = (s.com e).censusTree := by
  by_cases h : e = d
  · subst h; obtain ⟨_, _, h⟩ := raiseMask_com e pg m s; rw [h]
  · rw [raiseMask_com_ne d e pg m s h]
@[simp] theorem raiseMask_tc_censusTree (d : Dev) (pg : Nat) (m : Word) (s : State) : (raiseMask d pg m s).tc.censusTree = s.tc.censusTree :=
  raiseMask_com_censusTree d .tsu pg m s
@[simp] theorem raiseMask_dc_censusTree (d : Dev) (pg : Nat) (m : Word) (s : State) : (raiseMask d pg m s).dc.censusTree = s.dc.censusTree :=
  raiseMask_com_censusTree d .dxd pg m s

@[simp] theorem raise_t (d : Dev) (pg b : Nat) (s : State) : (raise d pg b s).t = s.t := raiseMask_t d pg _ s
@[simp] theorem raise_x (d : Dev) (pg b : Nat) (s : State) : (raise d pg b s).x = s.x := raiseMask_x d pg _ s
@[simp] theorem raise_pending (d : Dev) (pg b : Nat) (s : State) : (raise d pg b s).pending = s.pending :=
  raiseMask_pending d pg _ s
@[simp] theorem raise_com_fuse (d e : Dev) (pg b : Nat) (s : State) : ((raise d pg b s).com e).fuse = (s.com e).fuse :=
  raiseMask_com_fuse d e pg _ s
@[simp] theorem raise_tc_fuse (d : Dev) (pg b : Nat) (s : State) : (raise d pg b s).tc.fuse = s.tc.fuse :=
  raiseMask_com_fuse d .tsu pg _ s
@[simp] theorem raise_dc_fuse (d : Dev) (pg b : Nat) (s : State) : (raise d pg b s).dc.fuse = s.dc.fuse :=
  raiseMask_com_fuse d .dxd pg _ s
@[simp] theorem raise_com_boot (d e : Dev) (pg b : Nat) (s : State) : ((raise d pg b s).com e).boot = (s.com e).boot :=
  raiseMask_com_boot d e pg _ s
@[simp] theorem raise_tc_boot (d : Dev) (pg b : Nat) (s : State) : (raise d pg b s).tc.boot = s.tc.boot :=
  raiseMask_com_boot d .tsu pg _ s
@[simp] theorem raise_dc_boot (d : Dev) (pg b : Nat) (s : State) : (raise d pg b s).dc.boot = s.dc.boot :=
  raiseMask_com_boot d .dxd pg _ s
@[simp] theorem raise_com_up (d e : Dev) (pg b : Nat) (s : State) : ((raise d pg b s).com e).up = (s.com e).up :=
  raiseMask_com_up d e pg _ s
@[simp] theorem raise_tc_up (d : Dev) (pg b : Nat) (s : State) : (raise d pg b s).tc.up = s.tc.up :=
  raiseMask_com_up d .tsu pg _ s
@[simp] theorem raise_dc_up (d : Dev) (pg b : Nat) (s : State) : (raise d pg b s).dc.up = s.dc.up :=
  raiseMask_com_up d .dxd pg _ s
@[simp] theorem raise_com_tk (d e : Dev) (pg b : Nat) (s : State) : ((raise d pg b s).com e).tk = (s.com e).tk :=
  raiseMask_com_tk d e pg _ s
@[simp] theorem raise_tc_tk (d : Dev) (pg b : Nat) (s : State) : (raise d pg b s).tc.tk = s.tc.tk :=
  raiseMask_com_tk d .tsu pg _ s
@[simp] theorem raise_dc_tk (d : Dev) (pg b : Nat) (s : State) : (raise d pg b s).dc.tk = s.dc.tk :=
  raiseMask_com_tk d .dxd pg _ s
@[simp] theorem raise_com_coreA (d e : Dev) (pg b : Nat) (s : State) : ((raise d pg b s).com e).coreA = (s.com e).coreA :=
  raiseMask_com_coreA d e pg _ s
@[simp] theorem raise_tc_coreA (d : Dev) (pg b : Nat) (s : State) : (raise d pg b s).tc.coreA = s.tc.coreA :=
  raiseMask_com_coreA d .tsu pg _ s
@[simp] theorem raise_dc_coreA (d : Dev) (pg b : Nat) (s : State) : (raise d pg b s).dc.coreA = s.dc.coreA :=
  raiseMask_com_coreA d .dxd pg _ s
@[simp] theorem raise_com_coreB (d e : Dev) (pg b : Nat) (s : State) : ((raise d pg b s).com e).coreB = (s.com e).coreB :=
  raiseMask_com_coreB d e pg _ s
@[simp] theorem raise_tc_coreB (d : Dev) (pg b : Nat) (s : State) : (raise d pg b s).tc.coreB = s.tc.coreB :=
  raiseMask_com_coreB d .tsu pg _ s
@[simp] theorem raise_dc_coreB (d : Dev) (pg b : Nat) (s : State) : (raise d pg b s).dc.coreB = s.dc.coreB :=
  raiseMask_com_coreB d .dxd pg _ s
@[simp] theorem raise_com_ports (d e : Dev) (pg b : Nat) (s : State) : ((raise d pg b s).com e).ports = (s.com e).ports :=
  raiseMask_com_ports d e pg _ s
@[simp] theorem raise_tc_ports (d : Dev) (pg b : Nat) (s : State) : (raise d pg b s).tc.ports = s.tc.ports :=
  raiseMask_com_ports d .tsu pg _ s
@[simp] theorem raise_dc_ports (d : Dev) (pg b : Nat) (s : State) : (raise d pg b s).dc.ports = s.dc.ports :=
  raiseMask_com_ports d .dxd pg _ s
@[simp] theorem raise_com_chans (d e : Dev) (pg b : Nat) (s : State) : ((raise d pg b s).com e).chans = (s.com e).chans :=
  raiseMask_com_chans d e pg _ s
@[simp] theorem raise_tc_chans (d : Dev) (pg b : Nat) (s : State) : (raise d pg b s).tc.chans = s.tc.chans :=
  raiseMask_com_chans d .tsu pg _ s
@[simp] theorem raise_dc_chans (d : Dev) (pg b : Nat) (s : State) : (raise d pg b s).dc.chans = s.dc.chans :=
  raiseMask_com_chans d .dxd pg _ s
@[simp] theorem raise_com_msets (d e : Dev) (pg b : Nat) (s : State) : ((raise d pg b s).com e).msets = (s.com e).msets :=
  raiseMask_com_msets d e pg _ s
@[simp] theorem raise_tc_msets (d : Dev) (pg b : Nat) (s : State) : (raise d pg b s).tc.msets = s.tc.msets :=
  raiseMask_com_msets d .tsu pg _ s
@[simp] theorem raise_dc_msets (d : Dev) (pg b : Nat) (s : State) : (raise d pg b s).dc.msets = s.dc.msets :=
  raiseMask_com_msets d .dxd pg _ s
@[simp] theorem raise_com_regs (d e : Dev) (pg b : Nat) (s : State) : ((raise d pg b s).com e).regs = (s.com e).regs :=
  raiseMask_com_regs d e pg _ s
@[simp] theorem raise_tc_regs (d : Dev) (pg b : Nat) (s : State) : (raise d pg b s).tc.regs = s.tc.regs :=
  raiseMask_com_regs d .tsu pg _ s
@[simp] theorem raise_dc_regs (d : Dev) (pg b : Nat) (s : State) : (raise d pg b s).dc.regs = s.dc.regs :=
  raiseMask_com_regs d .dxd pg _ s
@[simp] theorem raise_com_pgEn (d e : Dev) (pg b : Nat) (s : State) : ((raise d pg b s).com e).pgEn = (s.com e).pgEn :=
  raiseMask_com_pgEn d e pg _ s
@[simp] theorem raise_tc_pgEn (d : Dev) (pg b : Nat) (s : State) : (raise d pg b s).tc.pgEn = s.tc.pgEn :=
  raiseMask_com_pgEn d .tsu pg _ s
@[simp] theorem raise_dc_pgEn (d : Dev) (pg b : Nat) (s : State) : (raise d pg b s).dc.pgEn = s.dc.pgEn :=
  raiseMask_com_pgEn d .dxd pg _ s
@[simp] theorem raise_com_badAccess (d e : Dev) (pg b : Nat) (s : State) : ((raise d pg b s).com e).badAccess = (s.com e).badAccess :=
  raiseMask_com_badAccess d e pg _ s
@[simp] theorem raise_tc_badAccess (d : Dev) (pg b : Nat) (s : State) : (raise d pg b s).tc.badAccess = s.tc.badAccess :=
  raiseMask_com_badAccess d .tsu pg _ s
@[simp] theorem raise_dc_badAccess (d : Dev) (pg b : Nat) (s : State) : (raise d pg b s).dc.badAccess = s.dc.badAccess :=
  raiseMask_com_badAccess d .dxd pg _ s
@[simp] theorem raise_com_lockRefused (d e : Dev) (pg b : Nat) (s : State) : ((raise d pg b s).com e).lockRefused = (s.com e).lockRefused :=
  raiseMask_com_lockRefused d e pg _ s
@[simp] theorem raise_tc_lockRefused (d : Dev) (pg b : Nat) (s : State) : (raise d pg b s).tc.lockRefused = s.tc.lockRefused :=
  raiseMask_com_lockRefused d .tsu pg _ s
@[simp] theorem raise_dc_lockRefused (d : Dev) (pg b : Nat) (s : State) : (raise d pg b s).dc.lockRefused = s.dc.lockRefused :=
  raiseMask_com_lockRefused d .dxd pg _ s
@[simp] theorem raise_com_lockKey (d e : Dev) (pg b : Nat) (s : State) : ((raise d pg b s).com e).lockKey = (s.com e).lockKey :=
  raiseMask_com_lockKey d e pg _ s
@[simp] theorem raise_tc_lockKey (d : Dev) (pg b : Nat) (s : State) : (raise d pg b s).tc.lockKey = s.tc.lockKey :=
  raiseMask_com_lockKey d .tsu pg _ s
@[simp] theorem raise_dc_lockKey (d : Dev) (pg b : Nat) (s : State) : (raise d pg b s).dc.lockKey = s.dc.lockKey :=
  raiseMask_com_lockKey d .dxd pg _ s
@[simp] theorem raise_com_bt (d e : Dev) (pg b : Nat) (s : State) : ((raise d pg b s).com e).bt = (s.com e).bt :=
  raiseMask_com_bt d e pg _ s
@[simp] theorem raise_tc_bt (d : Dev) (pg b : Nat) (s : State) : (raise d pg b s).tc.bt = s.tc.bt :=
  raiseMask_com_bt d .tsu pg _ s
@[simp] theorem raise_dc_bt (d : Dev) (pg b : Nat) (s : State) : (raise d pg b s).dc.bt = s.dc.bt :=
  raiseMask_com_bt d .dxd pg _ s
@[simp] theorem raise_com_ta (d e : Dev) (pg b : Nat) (s : State) : ((raise d pg b s).com e).ta = (s.com e).ta :=
  raiseMask_com_ta d e pg _ s
@[simp] theorem raise_tc_ta (d : Dev) (pg b : Nat) (s : State) : (raise d pg b s).tc.ta = s.tc.ta :=
  raiseMask_com_ta d .tsu pg _ s
@[simp] theorem raise_dc_ta (d : Dev) (pg b : Nat) (s : State) : (raise d pg b s).dc.ta = s.dc.ta :=
  raiseMask_com_ta d .dxd pg _ s
@[simp] theorem raise_com_barCap (d e : Dev) (pg b : Nat) (s : State) : ((raise d pg b s).com e).barCap = (s.com e).barCap :=
  raiseMask_com_barCap d e pg _ s
@[simp] theorem raise_tc_barCap (d : Dev) (pg b : Nat) (s : State) : (raise d pg b s).tc.barCap = s.tc.barCap :=
  raiseMask_com_barCap d .tsu pg _ s
@[simp] theorem raise_dc_barCap (d : Dev) (pg b : Nat) (s : State) : (raise d pg b s).dc.barCap = s.dc.barCap :=
  raiseMask_com_barCap d .dxd pg _ s
@[simp] theorem raise_com_barLow (d e : Dev) (pg b : Nat) (s : State) : ((raise d pg b s).com e).barLow = (s.com e).barLow :=
  raiseMask_com_barLow d e pg _ s
@[simp] theorem raise_tc_barLow (d : Dev) (pg b : Nat) (s : State) : (raise d pg b s).tc.barLow = s.tc.barLow :=
  raiseMask_com_barLow d .tsu pg _ s
@[simp] theorem raise_dc_barLow (d : Dev) (pg b : Nat) (s : State) : (raise d pg b s).dc.barLow = s.dc.barLow :=
  raiseMask_com_barLow d .dxd pg _ s
@[simp] theorem raise_com_rsp (d e : Dev) (pg b : Nat) (s : State) : ((raise d pg b s).com e).rsp = (s.com e).rsp :=
  raiseMask_com_rsp d e pg _ s
@[simp] theorem raise_tc_rsp (d : Dev) (pg b : Nat) (s : State) : (raise d pg b s).tc.rsp = s.tc.rsp :=
  raiseMask_com_rsp d .tsu pg _ s
@[simp] theorem raise_dc_rsp (d : Dev) (pg b : Nat) (s : State) : (raise d pg b s).dc.rsp = s.dc.rsp :=
  raiseMask_com_rsp d .dxd pg _ s
@[simp] theorem raise_com_oseq (d e : Dev) (pg b : Nat) (s : State) : ((raise d pg b s).com e).oseq = (s.com e).oseq :=
  raiseMask_com_oseq d e pg _ s
@[simp] theorem raise_tc_oseq (d : Dev) (pg b : Nat) (s : State) : (raise d pg b s).tc.oseq = s.tc.oseq :=
  raiseMask_com_oseq d .tsu pg _ s
@[simp] theorem raise_dc_oseq (d : Dev) (pg b : Nat) (s : State) : (raise d pg b s).dc.oseq = s.dc.oseq :=
  raiseMask_com_oseq d .dxd pg _ s
@[simp] theorem raise_com_seen (d e : Dev) (pg b : Nat) (s : State) : ((raise d pg b s).com e).seen = (s.com e).seen :=
  raiseMask_com_seen d e pg _ s
@[simp] theorem raise_tc_seen (d : Dev) (pg b : Nat) (s : State) : (raise d pg b s).tc.seen = s.tc.seen :=
  raiseMask_com_seen d .tsu pg _ s
@[simp] theorem raise_dc_seen (d : Dev) (pg b : Nat) (s : State) : (raise d pg b s).dc.seen = s.dc.seen :=
  raiseMask_com_seen d .dxd pg _ s
@[simp] theorem raise_com_censusTree (d e : Dev) (pg b : Nat) (s : State) : ((raise d pg b s).com e).censusTree = (s.com e).censusTree :=
  raiseMask_com_censusTree d e pg _ s
@[simp] theorem raise_tc_censusTree (d : Dev) (pg b : Nat) (s : State) : (raise d pg b s).tc.censusTree = s.tc.censusTree :=
  raiseMask_com_censusTree d .tsu pg _ s
@[simp] theorem raise_dc_censusTree (d : Dev) (pg b : Nat) (s : State) : (raise d pg b s).dc.censusTree = s.dc.censusTree :=
  raiseMask_com_censusTree d .dxd pg _ s
@[simp] theorem raise_tsu_dc (pg b : Nat) (s : State) : (raise .tsu pg b s).dc = s.dc :=
  raiseMask_com_ne .tsu .dxd pg _ s (by decide)
@[simp] theorem raise_dxd_tc (pg b : Nat) (s : State) : (raise .dxd pg b s).tc = s.tc :=
  raiseMask_com_ne .dxd .tsu pg _ s (by decide)

/-- The events of a page after a raise at an operative page. -/
theorem raiseMask_pgEvent (d : Dev) (pg qg : Nat) (m : Word) (s : State)
    (h : pageSt d s pg = .op ∧ pg ≠ 0x1E ∧ pg ≠ 0x24 ∧ ¬(0x20 ≤ pg ∧ pg ≤ 0x23)) :
    tabGet 0 ((raiseMask d pg m s).com d).pgEvent qg =
      if qg = pg then tabGet 0 (s.com d).pgEvent pg ||| m else tabGet 0 (s.com d).pgEvent qg := by
  unfold raiseMask; dsimp only
  rw [if_pos h]
  split
  · by_cases hq : qg = pg
    · subst hq; simp
    · simp [hq, tabGet_tabMod_ne _ _ _ _ _ hq]
  · obtain ⟨ic, hc⟩ := noteRaise_com d pg (srcLevel d s pg)
      (modCom d (fun c => { c with pgEvent := tabMod 0 c.pgEvent pg (· ||| m) }) s)
    rw [hc]
    by_cases hq : qg = pg
    · subst hq; simp
    · simp [hq, tabGet_tabMod_ne _ _ _ _ _ hq]

/-- A raise sets its bit. -/
theorem eventSet_raise (d : Dev) (pg b : Nat) (s : State)
    (h : pageSt d s pg = .op ∧ pg ≠ 0x1E ∧ pg ≠ 0x24 ∧ ¬(0x20 ≤ pg ∧ pg ≤ 0x23)) (hb : b < 64) :
    eventSet d pg b (raise d pg b s) := by
  unfold eventSet raise
  rw [raiseMask_pgEvent _ _ _ _ _ h, if_pos rfl, bit_or, bit_bitW _ _ hb]
  simp

/-- A raise clears no event. -/
theorem eventSet_raise_of (d e : Dev) (pg qg b c : Nat) (s : State) (h : eventSet e qg c s) : eventSet e qg c (raise d pg b s) := by
  by_cases hd : e = d
  · subst hd
    by_cases ho : pageSt e s pg = .op ∧ pg ≠ 0x1E ∧ pg ≠ 0x24 ∧ ¬(0x20 ≤ pg ∧ pg ≤ 0x23)
    · simp only [eventSet, raise, raiseMask_pgEvent _ _ _ _ _ ho] at h ⊢
      split
      · rename_i hq; subst hq; rw [bit_or, h]; rfl
      · exact h
    · unfold eventSet raise raiseMask
      rw [if_neg ho]
      exact h
  · simp only [eventSet, raise, raiseMask_com_ne _ _ _ _ _ hd] at h ⊢
    exact h

/-! Register accesses. -/

@[simp] theorem dropHalf_t (d : Dev) (rq : Nat) (s : State) : (dropHalf d rq s).t = s.t := by
  unfold dropHalf countBad; (repeat' split) <;> simp
@[simp] theorem dropHalf_x (d : Dev) (rq : Nat) (s : State) : (dropHalf d rq s).x = s.x := by
  unfold dropHalf countBad; (repeat' split) <;> simp
@[simp] theorem dropHalf_tc (d : Dev) (rq : Nat) (s : State) : (dropHalf d rq s).tc = s.tc := by
  unfold dropHalf countBad; (repeat' split) <;> simp
@[simp] theorem dropHalf_pending (d : Dev) (rq : Nat) (s : State) : (dropHalf d rq s).pending = s.pending := by
  unfold dropHalf countBad; (repeat' split) <;> simp
@[simp] theorem dropHalf_tsu (rq : Nat) (s : State) : dropHalf .tsu rq s = s := by simp [dropHalf]
@[simp] theorem dropHalf_dc_fuse (d : Dev) (rq : Nat) (s : State) : (dropHalf d rq s).dc.fuse = s.dc.fuse := by
  unfold dropHalf countBad; (repeat' split) <;> simp
@[simp] theorem dropHalf_com_fuse (d e : Dev) (rq : Nat) (s : State) : ((dropHalf d rq s).com e).fuse = (s.com e).fuse := by
  cases e <;> simp
@[simp] theorem dropHalf_dc_boot (d : Dev) (rq : Nat) (s : State) : (dropHalf d rq s).dc.boot = s.dc.boot := by
  unfold dropHalf countBad; (repeat' split) <;> simp
@[simp] theorem dropHalf_com_boot (d e : Dev) (rq : Nat) (s : State) : ((dropHalf d rq s).com e).boot = (s.com e).boot := by
  cases e <;> simp
@[simp] theorem dropHalf_dc_up (d : Dev) (rq : Nat) (s : State) : (dropHalf d rq s).dc.up = s.dc.up := by
  unfold dropHalf countBad; (repeat' split) <;> simp
@[simp] theorem dropHalf_com_up (d e : Dev) (rq : Nat) (s : State) : ((dropHalf d rq s).com e).up = (s.com e).up := by
  cases e <;> simp
@[simp] theorem dropHalf_dc_tk (d : Dev) (rq : Nat) (s : State) : (dropHalf d rq s).dc.tk = s.dc.tk := by
  unfold dropHalf countBad; (repeat' split) <;> simp
@[simp] theorem dropHalf_com_tk (d e : Dev) (rq : Nat) (s : State) : ((dropHalf d rq s).com e).tk = (s.com e).tk := by
  cases e <;> simp
@[simp] theorem dropHalf_dc_coreA (d : Dev) (rq : Nat) (s : State) : (dropHalf d rq s).dc.coreA = s.dc.coreA := by
  unfold dropHalf countBad; (repeat' split) <;> simp
@[simp] theorem dropHalf_com_coreA (d e : Dev) (rq : Nat) (s : State) : ((dropHalf d rq s).com e).coreA = (s.com e).coreA := by
  cases e <;> simp
@[simp] theorem dropHalf_dc_coreB (d : Dev) (rq : Nat) (s : State) : (dropHalf d rq s).dc.coreB = s.dc.coreB := by
  unfold dropHalf countBad; (repeat' split) <;> simp
@[simp] theorem dropHalf_com_coreB (d e : Dev) (rq : Nat) (s : State) : ((dropHalf d rq s).com e).coreB = (s.com e).coreB := by
  cases e <;> simp
@[simp] theorem dropHalf_dc_ports (d : Dev) (rq : Nat) (s : State) : (dropHalf d rq s).dc.ports = s.dc.ports := by
  unfold dropHalf countBad; (repeat' split) <;> simp
@[simp] theorem dropHalf_com_ports (d e : Dev) (rq : Nat) (s : State) : ((dropHalf d rq s).com e).ports = (s.com e).ports := by
  cases e <;> simp
@[simp] theorem dropHalf_dc_chans (d : Dev) (rq : Nat) (s : State) : (dropHalf d rq s).dc.chans = s.dc.chans := by
  unfold dropHalf countBad; (repeat' split) <;> simp
@[simp] theorem dropHalf_com_chans (d e : Dev) (rq : Nat) (s : State) : ((dropHalf d rq s).com e).chans = (s.com e).chans := by
  cases e <;> simp
@[simp] theorem dropHalf_dc_msets (d : Dev) (rq : Nat) (s : State) : (dropHalf d rq s).dc.msets = s.dc.msets := by
  unfold dropHalf countBad; (repeat' split) <;> simp
@[simp] theorem dropHalf_com_msets (d e : Dev) (rq : Nat) (s : State) : ((dropHalf d rq s).com e).msets = (s.com e).msets := by
  cases e <;> simp
@[simp] theorem dropHalf_dc_regs (d : Dev) (rq : Nat) (s : State) : (dropHalf d rq s).dc.regs = s.dc.regs := by
  unfold dropHalf countBad; (repeat' split) <;> simp
@[simp] theorem dropHalf_com_regs (d e : Dev) (rq : Nat) (s : State) : ((dropHalf d rq s).com e).regs = (s.com e).regs := by
  cases e <;> simp
@[simp] theorem dropHalf_dc_pgEvent (d : Dev) (rq : Nat) (s : State) : (dropHalf d rq s).dc.pgEvent = s.dc.pgEvent := by
  unfold dropHalf countBad; (repeat' split) <;> simp
@[simp] theorem dropHalf_com_pgEvent (d e : Dev) (rq : Nat) (s : State) : ((dropHalf d rq s).com e).pgEvent = (s.com e).pgEvent := by
  cases e <;> simp
@[simp] theorem dropHalf_dc_pgEn (d : Dev) (rq : Nat) (s : State) : (dropHalf d rq s).dc.pgEn = s.dc.pgEn := by
  unfold dropHalf countBad; (repeat' split) <;> simp
@[simp] theorem dropHalf_com_pgEn (d e : Dev) (rq : Nat) (s : State) : ((dropHalf d rq s).com e).pgEn = (s.com e).pgEn := by
  cases e <;> simp
@[simp] theorem dropHalf_dc_lockRefused (d : Dev) (rq : Nat) (s : State) : (dropHalf d rq s).dc.lockRefused = s.dc.lockRefused := by
  unfold dropHalf countBad; (repeat' split) <;> simp
@[simp] theorem dropHalf_com_lockRefused (d e : Dev) (rq : Nat) (s : State) : ((dropHalf d rq s).com e).lockRefused = (s.com e).lockRefused := by
  cases e <;> simp
@[simp] theorem dropHalf_dc_lockKey (d : Dev) (rq : Nat) (s : State) : (dropHalf d rq s).dc.lockKey = s.dc.lockKey := by
  unfold dropHalf countBad; (repeat' split) <;> simp
@[simp] theorem dropHalf_com_lockKey (d e : Dev) (rq : Nat) (s : State) : ((dropHalf d rq s).com e).lockKey = (s.com e).lockKey := by
  cases e <;> simp
@[simp] theorem dropHalf_dc_ic (d : Dev) (rq : Nat) (s : State) : (dropHalf d rq s).dc.ic = s.dc.ic := by
  unfold dropHalf countBad; (repeat' split) <;> simp
@[simp] theorem dropHalf_com_ic (d e : Dev) (rq : Nat) (s : State) : ((dropHalf d rq s).com e).ic = (s.com e).ic := by
  cases e <;> simp
@[simp] theorem dropHalf_dc_bt (d : Dev) (rq : Nat) (s : State) : (dropHalf d rq s).dc.bt = s.dc.bt := by
  unfold dropHalf countBad; (repeat' split) <;> simp
@[simp] theorem dropHalf_com_bt (d e : Dev) (rq : Nat) (s : State) : ((dropHalf d rq s).com e).bt = (s.com e).bt := by
  cases e <;> simp
@[simp] theorem dropHalf_dc_ta (d : Dev) (rq : Nat) (s : State) : (dropHalf d rq s).dc.ta = s.dc.ta := by
  unfold dropHalf countBad; (repeat' split) <;> simp
@[simp] theorem dropHalf_com_ta (d e : Dev) (rq : Nat) (s : State) : ((dropHalf d rq s).com e).ta = (s.com e).ta := by
  cases e <;> simp
@[simp] theorem dropHalf_dc_rsp (d : Dev) (rq : Nat) (s : State) : (dropHalf d rq s).dc.rsp = s.dc.rsp := by
  unfold dropHalf countBad; (repeat' split) <;> simp
@[simp] theorem dropHalf_com_rsp (d e : Dev) (rq : Nat) (s : State) : ((dropHalf d rq s).com e).rsp = (s.com e).rsp := by
  cases e <;> simp
@[simp] theorem dropHalf_dc_oseq (d : Dev) (rq : Nat) (s : State) : (dropHalf d rq s).dc.oseq = s.dc.oseq := by
  unfold dropHalf countBad; (repeat' split) <;> simp
@[simp] theorem dropHalf_com_oseq (d e : Dev) (rq : Nat) (s : State) : ((dropHalf d rq s).com e).oseq = (s.com e).oseq := by
  cases e <;> simp
@[simp] theorem dropHalf_dc_seen (d : Dev) (rq : Nat) (s : State) : (dropHalf d rq s).dc.seen = s.dc.seen := by
  unfold dropHalf countBad; (repeat' split) <;> simp
@[simp] theorem dropHalf_com_seen (d e : Dev) (rq : Nat) (s : State) : ((dropHalf d rq s).com e).seen = (s.com e).seen := by
  cases e <;> simp
@[simp] theorem dropHalf_dc_censusTree (d : Dev) (rq : Nat) (s : State) : (dropHalf d rq s).dc.censusTree = s.dc.censusTree := by
  unfold dropHalf countBad; (repeat' split) <;> simp
@[simp] theorem dropHalf_com_censusTree (d e : Dev) (rq : Nat) (s : State) : ((dropHalf d rq s).com e).censusTree = (s.com e).censusTree := by
  cases e <;> simp

@[simp] theorem pageSt_dropHalf (d e : Dev) (rq pg : Nat) (s : State) : pageSt e (dropHalf d rq s) pg = pageSt e s pg := by
  cases e <;> simp [pageSt]

@[simp] theorem isHeld_dropHalf (d e : Dev) (rq pg : Nat) (s : State) : isHeld e pg (dropHalf d rq s) = isHeld e pg s := by
  simp [isHeld]

/-- A write that is taken has the effect of its register. -/
theorem admitWrite_taken (d : Dev) (rq pg off : Nat) (v : Word) (f : State → State) (s : State) (h : WriteTaken d rq pg off s) :
    admitWrite d rq pg off v f s = f (dropHalf d rq s) := by
  obtain ⟨h0, h1, h2, h3, h4⟩ := h
  have hp : pageTakes d (dropHalf d rq s) pg off = true := by simpa [pageTakes] using h2
  have hc : ¬(inCellar d (dropHalf d rq s) && !cellarTakes pg off) = true := by
    intro hc
    simp only [inCellar, dropHalf_com_boot, Bool.and_eq_true, Bool.not_eq_true'] at hc
    have := h3 (by simpa [inCellar] using hc.1)
    simp [this] at hc
  have hl : ¬(tabGet 0 ((dropHalf d rq s).com d).lockKey pg ≠ 0 ∧ (off = 0x20 ∨ off = 0x30 ∨ 0x100 ≤ off)) := by
    simp only [dropHalf_com_lockKey]; tauto
  simp only [admitWrite, isHeld_dropHalf, h0, h1, applyWrite, hp]
  rw [if_neg (by simp), if_neg (by simp), if_neg (by simp), if_neg hc, if_neg hl]

/-- A read that is taken answers the value and then has its effect. -/
theorem admitRead_taken (d : Dev) (rq pg off : Nat) (v : State → Word) (f : State → State) (s : State) (h : ReadTaken d rq pg s) :
    admitRead d rq pg off v f s =
      f (respond d rq (shown d (pg * 4096 + off) (v (dropHalf d rq s)) (dropHalf d rq s)) (dropHalf d rq s)) := by
  simp [admitRead, applyRead, h.1, h.2.1, h.2.2]

@[simp] theorem shown_dropHalf (d e : Dev) (rq a : Nat) (v : Word) (s : State) : shown e a v (dropHalf d rq s) = shown e a v s := by
  simp [shown]

@[simp] theorem respond_t (d : Dev) (rq : Nat) (v : Word) (s : State) : (respond d rq v s).t = s.t := by simp [respond]
@[simp] theorem respond_x (d : Dev) (rq : Nat) (v : Word) (s : State) : (respond d rq v s).x = s.x := by simp [respond]
@[simp] theorem respond_pending (d : Dev) (rq : Nat) (v : Word) (s : State) : (respond d rq v s).pending = s.pending := by
  simp [respond]
@[simp] theorem respond_com (d : Dev) (rq : Nat) (v : Word) (s : State) :
    (respond d rq v s).com d = { s.com d with rsp := tabSet 0 (s.com d).rsp rq v } := by simp [respond]
@[simp] theorem respond_tsu_tc (rq : Nat) (v : Word) (s : State) :
    (respond .tsu rq v s).tc = { s.tc with rsp := tabSet 0 s.tc.rsp rq v } := rfl
@[simp] theorem respond_tsu_dc (rq : Nat) (v : Word) (s : State) : (respond .tsu rq v s).dc = s.dc := rfl
@[simp] theorem respond_dxd_dc (rq : Nat) (v : Word) (s : State) :
    (respond .dxd rq v s).dc = { s.dc with rsp := tabSet 0 s.dc.rsp rq v } := rfl
@[simp] theorem respond_dxd_tc (rq : Nat) (v : Word) (s : State) : (respond .dxd rq v s).tc = s.tc := rfl

@[simp] theorem response_respond (d : Dev) (rq : Nat) (v : Word) (s : State) : (respond d rq v s).response d rq = v := by
  simp [State.response]

/-! Accepted frames. -/

@[simp] theorem takeLink_t (d : Dev) (p : Nat) (h : LinkHdr) (s : State) : (takeLink d p h s).t = s.t := by simp [takeLink]
@[simp] theorem takeLink_x (d : Dev) (p : Nat) (h : LinkHdr) (s : State) : (takeLink d p h s).x = s.x := by simp [takeLink]
@[simp] theorem acceptSeq_t (d : Dev) (p q : Nat) (s : State) : (acceptSeq d p q s).t = s.t := by simp [acceptSeq]
@[simp] theorem acceptSeq_x (d : Dev) (p q : Nat) (s : State) : (acceptSeq d p q s).x = s.x := by simp [acceptSeq]

@[simp] theorem takeLink_seqRx (d : Dev) (p : Nat) (h : LinkHdr) (s : State) :
    ((takeLink d p h s).port d p).rel.seqRx = (s.port d p).rel.seqRx := by simp [takeLink]

/-- A change of a port that keeps what waits at it blocks no further input. -/
theorem inputBlocked_modPort (d : Dev) (p : Nat) (f : Port → Port) (s : State) (k : Nat)
    (hf : ∀ v, (f v).rel.ctlWait = v.rel.ctlWait) (h : inputBlocked (s.com d) k = false) :
    inputBlocked ((modPort d p f s).com d) k = false := by
  simp only [inputBlocked, modPort, modCom_com, List.any_eq_false] at h ⊢
  intro x hx
  rcases mem_tabMod _ _ _ _ x hx with rfl | hx
  · rw [hf]
    rcases tabGet_mem ({} : Port) (s.com d).ports p with h0 | h0
    · rw [h0]; simp
    · exact h _ h0
  · exact h x hx

/-- A change of a port that keeps what waits at it makes no receive buffer fuller. -/
theorem bufferFull_modPort (d : Dev) (p : Nat) (f : Port → Port) (s : State) (lane : Bool) (k : Nat) (ctl : Bool)
    (hc : ∀ v, (f v).rel.ctlWait = v.rel.ctlWait) (hb : ∀ v, (f v).rel.bulk = v.rel.bulk)
    (hr : ∀ v, (f v).rel.rxBuf = v.rel.rxBuf) (h : bufferFull lane (s.com d) k ctl = false) :
    bufferFull lane ((modPort d p f s).com d) k ctl = false := by
  suffices hl : waitingFrom ((modPort d p f s).com d) k ctl ≤ waitingFrom (s.com d) k ctl by
    simp only [bufferFull, decide_eq_false_iff_not, Nat.not_le] at h ⊢; omega
  cases ctl
  · refine distinct_length_le _ _ ?_
    simp only [modPort, modCom_com]
    exact flatMap_tabMod_subset ({} : Port) (fun q => q.rel.bulk.filter (fun e => e.src == some k)) _ p f rfl
      (fun v => by simp [hb])
  · have h1 : (tabGet {} ((modPort d p f s).com d).ports k).rel.rxBuf = (tabGet {} (s.com d).ports k).rel.rxBuf := by
      simp only [modPort, modCom_com]
      by_cases hk : k = p
      · subst hk; simp [hr]
      · rw [tabGet_tabMod_ne _ _ _ _ _ hk]
    have h2 : b2n (inputBlocked ((modPort d p f s).com d) k) ≤ b2n (inputBlocked (s.com d) k) := by
      cases hk : inputBlocked (s.com d) k
      · rw [inputBlocked_modPort d p f s k hc hk]
      · unfold b2n; split <;> decide
    simp only [waitingFrom, h1, if_true]; omega

/-- The state after the link has accepted a frame. -/
theorem recvRetained_accepts (d : Dev) (p : Nat) (h : LinkHdr) (fr : Frame) (f : State → State) (s : State)
    (ha : Accepts d p h fr s) : recvRetained d p h fr f s = f (acceptSeq d p h.seq (takeLink d p h s)) := by
  obtain ⟨h1, h2, h3, h4, h5⟩ := ha
  have hq : ¬(h.seq ≠ (((takeLink d p h s).port d p).rel.seqRx + 1) % 256) := by simpa using h2
  have hb : bufferFull (isLane d s p) ((takeLink d p h s).com d) p (payloadCls fr.payload == .control) = false :=
    bufferFull_modPort d p _ s _ p _ (fun _ => rfl) (fun _ => rfl) (fun _ => rfl) h3
  have ht : takesNow ((acceptSeq d p h.seq (takeLink d p h s)).com d) p (payloadCls fr.payload == .control) = true := by
    simp only [takesNow, Bool.or_eq_true, Bool.not_eq_true', Bool.and_eq_true] at h4 ⊢
    refine h4.imp id (fun ⟨a, b⟩ => ⟨?_, ?_⟩)
    · exact inputBlocked_modPort d p _ _ p (fun _ => rfl) (inputBlocked_modPort d p _ s p (fun _ => rfl) a)
    · simpa [acceptSeq, takeLink, modPort, modCom_com] using b
  have he : ¬(payloadChecked fr.payload && !epochOk d p fr.epoch fr.payload (acceptSeq d p h.seq (takeLink d p h s))) = true := by
    intro hc
    simp only [Bool.and_eq_true, Bool.not_eq_true'] at hc
    have h6 : epochOk d p fr.epoch fr.payload (acceptSeq d p h.seq (takeLink d p h s)) = epochOk d p fr.epoch fr.payload s := by
      simp [epochOk]
    rw [h6, h5 hc.1] at hc
    simp at hc
  unfold recvRetained
  rw [if_neg (by simp [h1])]
  dsimp only
  rw [if_neg hq, hb, if_neg (by decide), ht, if_pos rfl, takeFrame, if_neg he]

/-- The first copy of a message is acted on, and its identity is kept. -/
theorem bySeen_unseen (d : Dev) (i : SeenId) (f : State → State) (s : State) (h : Unseen d i s) :
    ∃ l, bySeen d i f s = f (modCom d (fun c => { c with seen := l }) s) := by
  refine ⟨(s.com d).seen.filter (fun x => decide ((s.com d).up ≤ x.2 + 1000000)) ++ [(i, (s.com d).up)], ?_⟩
  unfold bySeen
  dsimp only
  rw [if_neg]
  · cases d <;> rfl
  intro hc
  simp only [List.any_filter, List.any_eq_true, Bool.and_eq_true, decide_eq_true_eq, beq_iff_eq] at hc
  obtain ⟨x, hx, h1, h2⟩ := hc
  have := h x hx h2
  omega

end Sys2Proof.Machine
end

