-- ==== Sys2Proof/Tests/Slice0.lean ====
section
/-!
SUPPORT. The model's own tests: worked examples of the spec, ill-formed commands, and for every statement with hypotheses values
that meet them.
-/

namespace Sys2Proof.Tests

open Sys2Proof Sys2Proof.Machine

set_option synthInstance.maxHeartbeats 400000
set_option synthInstance.maxSize 4096
set_option Elab.async false

/-! Worked examples of the spec. -/

/-- The worked example of R38 across the wrap of BC[47:0] (02_hall_time.md). -/
theorem test_extend48_across_the_wrap : extend48 1767381378766208024 1000 = 1767381378766210024 := by decide +kernel

/-- The worked example of R124 (05_references_and_holdover.md): y = −3,270 ppt, and the nominal increment. -/
theorem test_nco_increment : ncoInc (-3270) = 450359961264373 ∧ ncoInc 0 = 450359962737050 := by decide +kernel

/-- Vector 1 of R262. -/
theorem test_dcg128_vector1 : dcg128 0 0 = 0x092E1C41283196C18463F5FD340B122B := by decide +kernel

/-- Vector 2 of R262. -/
theorem test_dcg128_vector2 :
    dcg128 0x00000001000000020000000300000004 0x00000000000100000002000000030004 = 0x79FF071BA2AF5C65D7D2E9A9DE76656F := by
  decide +kernel

/-- The example of R370: index 1,850, GAIN 256. -/
theorem test_replan_points :
    [2400, 2000, 1600, 800].map (replanFreq 1850 256) = [(2355, false), (1963, false), (1570, false), (800, true)] := by
  decide +kernel

/-- The stall example after R160: bay 13's periods of 96, 96, 96, 80 and 96 units, by hand through R158. -/
theorem test_slip_example :
    let x1 := (slip (some 96) none {}).1
    let x3 := (slip (some 96) none (slip (some 96) none x1).1).1
    let x4 := slip (some 80) none x3
    x1.slip = 32 ∧ x3.slip = 96 ∧ x3.stalls = 0 ∧ x4.1.slip = 48 ∧ x4.2 = true ∧ (slip (some 96) none x4.1).1.slip = 80 := by
  decide +kernel

/-- R96 by hand: an edge at the first clock edge after W has num = 0; one code unit of 8 below a span of 8,000 moves the stamp by
2048 · 8 / 40,000 of 2⁻⁸ ns, which rounds to 0; a second clock edge adds 1.6 ns, 410 units. -/
theorem test_stamp_conversion :
    stampOf 800 8800 0 5 1 100 = some (5 * 65536) ∧ stampOf 800 8800 0 5 2 100 = some (5 * 65536 + 410 * 256) ∧
      stampOf 800 8800 3 5 2 100 = some (5 * 65536 + 407 * 256) ∧ stampOf 800 8800 0 5 1 37 = none ∧
      stampOf 800 8800 0 5 2 1163 = none := by
  decide +kernel

/-- The two words that chapter 08 writes out after its playbook: calloff 0x027, 0x011 and resv p8, 640. -/
theorem test_playbook_words :
    decodeCue 0x06027011 = some (.calloff 0x027 0x011) ∧ decodeCue 0x20080280 = some (.resv 8 640) ∧
      encodeCue (.calloff 0x027 0x011) = 0x06027011 ∧ encodeCue (.resv 8 640) = 0x20080280 := by
  decide +kernel

/-- R328 by hand: with 10 W of room, 3 W are granted to rank 1, the 8 W of rank 2 do not fit, and rank 3 is not looked at. -/
theorem test_grant_pass_stops :
    let t := grantFrom 10 [1, 2, 3]
      { credit := 100000,
        port := [(1, { pending := true, req := 3 }), (2, { pending := true, req := 8 }), (3, { pending := true, req := 1 })] }
    t.g = 3 ∧ t.credit = 97000 ∧ (tabGet {} t.port 1).held = 3 ∧ (tabGet {} t.port 2).pending = true ∧
      (tabGet {} t.port 3).pending = true := by
  decide +kernel

/-- The example of R23: rank 9,320 at position 160. -/
theorem test_die_identifier : dieRank 0x246800A0 = 9320 ∧ 0x246800A0 % 256 = 160 := by decide +kernel

/-! Ill-formed commands: beside a well-formed command, the same with one operand that a check of WellFormed refuses. -/

/-- The first command of each pair is well formed and the second is not. -/
def refuses (l : List (Instr × Instr)) : Bool := l.all (fun x => wellFormed x.1 && !wellFormed x.2)

def pins0 : Pins := ⟨0, 0, 0, 0, 0, 0⟩
def fw0 : FwEntry := ⟨0xB0, 1, 0, 0⟩
def hd0 : LinkHdr := ⟨false, false, false, 0, 0⟩
def tf0 : TimeF := ⟨1000, 0, 0, 37, true, false, false, true, false, 0, 3, 2, 0, 0⟩
def hbf0 : HeartbeatF := ⟨0, 2, 4, false, false, false, false, false, false, false, 0, 0⟩
def train0 : TrainF := ⟨3, 0, 2, 0, false, false, false, 0xB0, 7, fw0⟩
def rec0 : LedgerRec := ⟨1, 0, 3, 5, 1, 0, [], false, false⟩
def msg0 : PtpMsg :=
  ⟨.sync, 0, 7, 99, 0, false, 0, 0, 99, 128, 128, 6, 0x21, 0, 0, 0x20, 37, true, true, true, true, ⟨false, 0, 0, 0, 0, false⟩⟩

/-- Port, channel, measurement set, bay, input, lane, slot and register numbers. -/
theorem test_refuses_numbers : refuses
    [(.portEnable .tsu 1 1, .portEnable .tsu 1 2), (.portEnable .dxd 1 193, .portEnable .dxd 1 194),
      (.tapTakeEffect .tsu 47, .tapTakeEffect .tsu 48), (.tapTakeEffect .dxd 259, .tapTakeEffect .dxd 260),
      (.interpolatorCalibration .tsu 0 3 0 0, .interpolatorCalibration .tsu 0 4 0 0),
      (.fitRunComplete .tsu 3, .fitRunComplete .tsu 4), (.fitRunComplete .dxd 15, .fitRunComplete .dxd 16),
      (.bayResume 15, .bayResume 16), (.ppsWindowEnd 1, .ppsWindowEnd 2), (.referenceFitComplete 4, .referenceFitComplete 5),
      (.referenceEdgeLoss 4, .referenceEdgeLoss 5), (.referenceInputsPresent 5, .referenceInputsPresent 6),
      (.enterLocked .tsu 1, .enterLocked .tsu 2), (.ptpMessageReceive 2 msg0 0, .ptpMessageReceive 3 msg0 0),
      (.bayMonitorReport 0 15 false 0, .bayMonitorReport 0 16 false 0), (.crossingDrained 15, .crossingDrained 16),
      (.byXcRead 1 31, .byXcRead 1 32), (.bayTableWrite 1 0 15 0, .bayTableWrite 1 0 16 0), (.jobEnd 15, .jobEnd 16),
      (.cellPostt 1 0 15, .cellPostt 1 0 16), (.cellPost 1 0xFFFF 1, .cellPost 1 0x10000 1),
      (.keyReservedRequest 0 8, .keyReservedRequest 0 7), (.probeWindowClose 15, .probeWindowClose 16),
      (.tlFeedWrite 1 3 0, .tlFeedWrite 1 4 0), (.stockRelease 63, .stockRelease 64), (.phaseLost 23, .phaseLost 24),
      (.icSourceRaise .tsu 255, .icSourceRaise .tsu 256), (.icClaim .tsu 1 7, .icClaim .tsu 1 8),
      (.pgStatusRead .tsu 1 63, .pgStatusRead .tsu 1 64), (.atDataRead 0xFFFF, .atDataRead 0x10000),
      (.departReport 511, .departReport 512), (.arrivalReport 0 0xFFFF, .arrivalReport 0 0x10000)] = true := by
  decide +kernel

/-- Values outside the range of their field. -/
theorem test_refuses_values : refuses
    [(.stockRequest 0 64, .stockRequest 0 65), (.stockRequest 0 1, .stockRequest 0 0), (.cellWait 1 0 0 1, .cellWait 1 0 0 0),
      (.cellAdd 1 0 (-2147483648), .cellAdd 1 0 (-2147483649)), (.cellAdd 1 0 2147483647, .cellAdd 1 0 2147483648),
      (.armDeadlineCheck 0 (2 ^ 48 - 1), .armDeadlineCheck 0 (2 ^ 48)), (.grantTick false 4095 0, .grantTick false 4096 0),
      (.grantTick false 0 (2 ^ 24 - 1), .grantTick false 0 (2 ^ 24)),
      (.dmaCompletionPost 0 1 false 15 false 0, .dmaCompletionPost 0 1 false 16 false 0),
      (.tallyTapUnit 255 0 false [], .tallyTapUnit 256 0 false []),
      (.tallyTapUnit 0 0xFFFF false [], .tallyTapUnit 0 0x10000 false []),
      (.remotePostReceive (List.replicate 32 0), .remotePostReceive (List.replicate 31 0)),
      (.ctxSwitchDone [⟨0, List.replicate 16 0⟩], .ctxSwitchDone [⟨0, List.replicate 15 0⟩]),
      (.bar0LowRead 0x3FFF8, .bar0LowRead 0x40000), (.bar0LowRead 8, .bar0LowRead 4), (.bar0HighRead 4, .bar0HighRead 8),
      (.bar0LowWrite 8 (2 ^ 32 - 1), .bar0LowWrite 8 (2 ^ 32)), (.bar0HighWrite 4 0, .bar0HighWrite 0 0),
      (.registerWrite .tsu 1 0x100 0, .registerWrite .tsu 1 0x104 0),
      (.badAccess .tsu 1 0x3FFFF 4 false, .badAccess .tsu 1 0x40000 4 false),
      (.bayPeriodReport [⟨15, 64⟩], .bayPeriodReport [⟨16, 64⟩]),
      (.unknownTypeFrame .tsu 0 hd0 6, .unknownTypeFrame .tsu 0 hd0 5),
      (.unknownTypeFrame .tsu 0 hd0 0x1F, .unknownTypeFrame .tsu 0 hd0 0x20)] = true := by
  decide +kernel

/-- Register writes without the bit, or with the bit, that makes the write another row. -/
theorem test_refuses_writes : refuses
    [(.boRestart .tsu 1 0x8000000000000000, .boRestart .tsu 1 0),
      (.boRestart .tsu 1 0x8000000000000000, .boRestart .tsu 1 0xC000000000000000),
      (.boForceCellar .tsu 1 0x4000000000000000, .boForceCellar .tsu 1 0),
      (.boReady 1 0x2000000000000000, .boReady 1 0xA000000000000000),
      (.atCommit 1 0x8000000000000000, .atCommit 1 0), (.atDrop 1 0x4000000000000000, .atDrop 1 0),
      (.atClearHistory 1 0x2000000000000000, .atClearHistory 1 0), (.atClearCal 1 0x1000000000000000, .atClearCal 1 0),
      (.retrain .tsu 1 0 3, .retrain .tsu 1 0 1), (.keeperForce .tsu 1 0x100000000, .keeperForce .tsu 1 0),
      (.measurementArm .tsu 1 0 0x8000000000000000, .measurementArm .tsu 1 0 0),
      (.measurementAbort .tsu 1 0 0x4000000000000000, .measurementAbort .tsu 1 0 0),
      (.svSave 1 1, .svSave 1 2), (.opAlignGo 1 0x8000000000000000, .opAlignGo 1 0),
      (.cuStart 1 0x8000000000000000, .cuStart 1 0xC000000000000000),
      (.cuStop 1 0x4000000000000000, .cuStop 1 0), (.sgCtxSwitch 1 0x8000000000000000, .sgCtxSwitch 1 0),
      (.kpAppliedWrite 1 0x4000000000000000, .kpAppliedWrite 1 0),
      (.lsPairValidWrite 1 0 0x8000000000000000, .lsPairValidWrite 1 0 0),
      (.mbComplaintGo 1 0x2000000000000000, .mbComplaintGo 1 0),
      (.jobSubmit 1 0x2000000000000000, .jobSubmit 1 0x4000000000000000),
      (.jobResume 1 0x4000000000000000, .jobResume 1 0), (.jobEndCommand 1 0x6000000000000000, .jobEndCommand 1 0),
      (.benchOperator 1 0x8000000000000000, .benchOperator 1 0), (.ckptMark 1 0x4000000000000000, .ckptMark 1 0),
      (.ckptSaved 1 0x8000000000000000, .ckptSaved 1 0), (.clearBump 1 0x8000000000000000, .clearBump 1 0),
      (.icSleep .tsu 1 2, .icSleep .tsu 1 1),
      (.btRunGo .tsu 1 0x8000000000000000, .btRunGo .tsu 1 0),
      (.ageingMeasure .tsu 1 0x8000000000000000, .ageingMeasure .tsu 1 0),
      (.btReplanGo .tsu 1 0x8000000000000000, .btReplanGo .tsu 1 0), (.fuAccessArm .tsu 1 1, .fuAccessArm .tsu 1 3),
      (.fuAccessGo .tsu 1 2 true, .fuAccessGo .tsu 1 1 true), (.eventTest .tsu 1 1 1, .eventTest .tsu 1 1 2)] = true := by
  decide +kernel

/-- Frames, messages and records with a field over its width. -/
theorem test_refuses_frames : refuses
    [(.powerOnReset .dxd pins0, .powerOnReset .dxd { pins0 with role := 4 }),
      (.fillFrameReceive .tsu 0 hd0, .fillFrameReceive .tsu 0 { hd0 with seq := 256 }),
      (.flashLoadDone true true fw0 true, .flashLoadDone true true { fw0 with build := 65536 } true),
      (.configReceive .tsu 0 hd0 0 ⟨0, 0, List.replicate 16 0⟩, .configReceive .tsu 0 hd0 0 ⟨0, 0, List.replicate 15 0⟩),
      (.trainFrameReceive .tsu 0 hd0 train0, .trainFrameReceive .tsu 0 hd0 { train0 with level := 256 }),
      (.delayProbeRequestReceive .tsu 0 hd0 ⟨false, false, 0, 0, 0⟩ 0, .delayProbeRequestReceive .tsu 0 hd0 ⟨false, false, 65536, 0, 0⟩ 0),
      (.heartbeatReceive .tsu 0 hd0 5 hbf0, .heartbeatReceive .tsu 0 hd0 5 { hbf0 with keeper := 4 }),
      (.heartbeatReceive .tsu 0 hd0 5 hbf0, .heartbeatReceive .tsu 0 hd0 (2 ^ 32) hbf0),
      (.timeFrameReceive .tsu 0 hd0 tf0 0 0, .timeFrameReceive .tsu 0 hd0 { tf0 with utcOffset := 32768 } 0 0),
      (.alignReceive 0 hd0 5 ⟨0, 0, 0⟩, .alignReceive 0 hd0 5 ⟨0, 2 ^ 48, 0⟩),
      (.armReceive .tsu 0 hd0 5 ⟨0, 0, 0, 0, false, false⟩, .armReceive .tsu 0 hd0 5 ⟨0, 0, 256, 0, false, false⟩),
      (.callOffReceive .tsu 0 hd0 5 ⟨0, 0, 0, 0⟩, .callOffReceive .tsu 0 hd0 5 ⟨2 ^ 32, 0, 0, 0⟩),
      (.censusUpReceive 0 hd0 5 ⟨0, 0, 0, 0, 0, 0⟩, .censusUpReceive 0 hd0 5 ⟨16, 0, 0, 0, 0, 0⟩),
      (.censusDnReceive .tsu 0 hd0 5 ⟨0, 0, 0, 0, 0, 0⟩, .censusDnReceive .tsu 0 hd0 5 ⟨0, 4096, 0, 0, 0, 0⟩),
      (.benchReceive .tsu 0 hd0 5 ⟨0, 0, 0, 0, 0, 0⟩, .benchReceive .tsu 0 hd0 5 ⟨0, 0, 256, 0, 0, 0⟩),
      (.scoreReceive 0 hd0 5 ⟨0, 0, 0, 0, List.replicate 16 0⟩, .scoreReceive 0 hd0 5 ⟨0, 0, 0, 0, []⟩),
      (.tallyReceive 0 hd0 5 ⟨0, 0, 0, 0, 0, 0, 0⟩, .tallyReceive 0 hd0 5 ⟨0, 2, 0, 0, 0, 0, 0⟩),
      (.stockReceive 0 hd0 5 ⟨0, 0, 0, 0, 0, 0, false, false, 0⟩, .stockReceive 0 hd0 5 ⟨0, 0, 0, 0, 0, 256, false, false, 0⟩),
      (.ptpMessageReceive 1 msg0 0, .ptpMessageReceive 1 { msg0 with domain := 256 } 0),
      (.ledgerRecordDurable rec0 [], .ledgerRecordDurable { rec0 with seq := 0 } []),
      (.ledgerRecordDurable rec0 [⟨5, 1, []⟩], .ledgerRecordDurable rec0 [⟨5, 16, []⟩])] = true := by
  decide +kernel

/-! States of the witnesses. -/

/-- A TIME frame of a locked parent. -/
def tf : TimeF := ⟨1000, 0, 0, 37, true, false, false, true, false, 0, 3, 2, 0, 0⟩
/-- A link header: the next SEQ after 0. -/
def hd1 : LinkHdr := ⟨false, false, false, 0, 1⟩
def pUp : Port := { st := 5, enable := true, lastTime := some tf }
/-- A TSU-C of epoch 5 and a root DX-D, both READY with hall time and with ports up. -/
def b0 : State :=
  { State.reset with
    tc := { boot := { stage := 6, applyDone := true }, up := 1000000000, beats := 1000000000, tk := { sec := 1000, htValid := true, state := 2, keeper := 0, everKept := true },
            coreA := { st := 2 }, coreB := { st := 2 }, ports := [(0, pUp), (1, pUp)] }
    t := { mem := { epoch := 5, die := 42, dieValid := true, gapOpen := false } }
    dc := { boot := { stage := 6, applyDone := true }, up := 1000000000, beats := 1000000000, tk := { sec := 1000, htValid := true, state := 2, keeper := 0, everKept := true },
            coreA := { st := 2, running := true }, ports := [(0, pUp), (1, pUp), (192, pUp), (193, pUp)] }
    x := { straps := { role := 2 } } }
/-- The same with a package DX-D. -/
def pk : State := { b0 with x := { b0.x with straps := { role := 0 } } }
/-- The same with a hall DX-D. -/
def hl : State := { b0 with x := { b0.x with straps := { role := 1 } } }
/-- The same with a change of one port. -/
def pq (d : Dev) (p : Nat) (f : Port → Port) (s : State) : State := modPort d p f s
/-- A port in this state. -/
def ps (d : Dev) (p n : Nat) (s : State) : State := modPort d p (fun q => { q with st := n }) s
/-- A TRAIN frame of a DX-D above lane 0. -/
def tr0 : TrainF := ⟨3, 0, 2, 0, false, false, false, 0xB0, 7, ⟨0xB0, 1, 0, 0⟩⟩
def job1 : Job :=
  { slot := 1, state := 2, result := 0, benched := 0, epoch := 5, job := 77, seedIndex := 3, seed := 9, mapClass := 0,
    engines := 1, ws := 0, digest := [], fp := [], ckptInterval := 0, groups := [], cold := false, engineMap := [0],
    wsMap := [], sched := { armLead := 20000, period := 100000, minPeriod := 50000, quantum := 1000, slip := 3, maxAttempt := 3, runAhead := 3, stepTimeout := 100000, lateWindow := 10 },
    gS := 0, gK := 0, period := 100000, late := 0, nextStep := 1, armFrom := 0, steps := [], committedTo := none,
    marks := [], pause := none, ending := none, stopArms := false }
/-- The acting root member, following a QUALIFIED source 0. -/
def rt : State :=
  modSrc 0 (fun r => { r with qual := 2, everQual := true })
    (modRf (fun r => { r with followed := 0 }) (modRef (fun r => { r with acting := true }) b0))
/-- The same with another source in this state. -/
def rs (n q : Nat) (s : State) : State := modSrc n (fun r => { r with qual := q, everQual := true }) s
def net1 : PtpNet := ⟨false, 0, 0, 0, 0, false⟩
def ptpM : PtpMsg :=
  ⟨.sync, 0, 7, 99, 0, false, 1000000000, 0, 99, 128, 128, 6, 0x21, 0, 0, 0x20, 37, true, true, true, true, net1⟩
/-- The root with its 1588 port linked: instance 1 SLAVE_ONLY, instance 2 MASTER_ONLY. -/
def rp : State :=
  modPt (fun p => { p with linkUp := true }) (setReg .dxd 0x12100 (BitVec.allOnes 64) 0x06000000 rt)
/-- A step record of step 3 with its kickoff at `k`. -/
def sr (st : StepSt) (k : Nat) : StepRec :=
  { step := 3, attempt := 0, epoch := 5, k := k, st := st, accepted := true, released := false, decision := none,
    missed := false, checkpoint := false, reorigin := false, leave := 0, leaveReturn := false, bound := false,
    inLead := false, returned := false }
/-- The TSU holds these steps. -/
def wr (l : List StepRec) (s : State) : State := modT (fun t => { t with steps := l }) s
/-- Thread `th` runs, and the instruction `i` stands at its PC. -/
def cu (th : Thread) (i : Cue) (s : State) : State :=
  modCue (fun e => setThr th (fun t => { t with st := 1 }) { e with store := [(0, encodeCue i)], p := [(0, 7), (1, 9), (8, 7), (9, 9)] }) s
/-- The run thread's current step is the launched step 3. -/
def rn (s : State) : State :=
  wr [sr .launched 999999999000] (modCue (fun e => { e with run := { e.run with cur := some ⟨5, 3, 0, 999999999000⟩, t := some 999999999000 } }) s)
/-- A thread's state with a change. -/
def tq (th : Thread) (f : Thr → Thr) (s : State) : State := modCue (setThr th f) s
/-- The acting root with this job. -/
def rj (b : Job) : State := modRef (fun r => { r with jobs := [b] }) rt
/-- A step at the root. -/
def rs1 (step k : Nat) : RStep :=
  { step := step, attempt := 0, k := k, epoch := 5, checkpoint := false, reorigin := false, sent := true, armDone := false,
    accepted := false, doneDone := false, launched := false, withdrawn := false, committed := false, hall := none,
    checked := false, committing := false }
def arm1 : ArmF := ⟨9, 3, 0, 1000000020000 % 2 ^ 48, false, false⟩
/-- The DX-D serves this epoch. -/
def sv (v : Served) (s : State) : State := modCs (fun c => { c with served := [v] }) s
def vp : Served := ⟨5, [0, 1], [(0, (false, 2)), (3, (true, 6))], true, [], [⟨0, 5, true, false⟩, ⟨1, 6, true, false⟩], 0⟩
/-- Cell 7 is this. -/
def cl (x : Cell) (s : State) : State := modSg (fun g => { g with cells := [(7, x)] }) s
/-- The TSU launched step 3 in its epoch and holds the posts. -/
def lm (s : State) : State := modMem (fun m => { m with launchedInEpoch := true, curStep := 3 }) s
def rp1 : RPost := ⟨42, 0, 5, 3, 0, false, 0, 8, 0, 0, 7, 2⟩
def kk : KnownKick := ⟨5, 3, 0, 1000000000000, true, false, false, true⟩
/-- The DX-D knows the kickoff of step 3. -/
def wk (s : State) : State := modX (fun x => { x with kicks := [kk] }) s
/-- Seven fragments of zeros from port 0. -/
def frags7 : List (Nat × Nat × List Byte) := (upTo 7).map (fun i => (0, i, List.replicate 16 0))
/-- The TSU is of this variant. -/
def kd (k : TsuKind) (s : State) : State := { s with tc := { s.tc with fuse := { s.tc.fuse with kind := k } } }
/-- A slice of the TSU stands isolated. -/
def iso (n : Nat) (s : State) : State := modBt .tsu (fun b => { b with win := some ⟨5, n, false, none, true, false, false, 0, 0, 0, 0, prpgSeed n⟩ }) s
/-- Job slot 1 is selected. -/
def sel (s : State) : State := setReg .dxd 0x14110 (BitVec.allOnes 64) 1 s
/-- A pause. -/
def pz : Pause := ⟨3, 1, 5, [], true, none, none, false, 0⟩
/-- The job pauses. -/
def jp (p : Pause) : Job := { job1 with state := 3, pause := some p }
/-- A schedule block: FIRST_STEP 0, kickoff, PERIOD. -/
def blk : List Byte := bytesBE 8 0 ++ bytesBE 8 1000000500000 ++ bytesBE 8 100000 ++ List.replicate 40 0
/-- A job descriptor of one engine in slot 0. -/
def desc : List Byte :=
  bytesBE 4 1 ++ bytesBE 4 7 ++ [0, 0] ++ bytesBE 2 0x700 ++ bytesBE 2 1 ++ bytesBE 2 0 ++ List.replicate 56 0 ++ blk ++
    [0x80] ++ List.replicate 2559 0
/-- Attic entries from an address. -/
def cells (a : Nat) : List Byte → List (Nat × Option Byte)
  | [] => []
  | b :: l => (a, some b) :: cells (a + 1) l
/-- The attic holds these bytes at 0x104000. -/
def att (l : List Byte) (s : State) : State := modX (fun x => { x with at_ := { x.at_ with bytes := cells 0x104000 l } }) s
/-- The interpolator 0 of a channel is calibrated. -/
def cb (d : Dev) (ch : Nat) (s : State) : State := modChan d ch (fun x => { x with units := [(0, { cal := some (0, 8192) })] }) s
/-- A complete fit of three stamps 100 ns apart under a key. -/
def ft (d : Dev) (key fnom : Nat) (s : State) : State :=
  modCom d (fun c => { c with hfits := [(key, some ⟨7, fnom, 1, { st := 2, n := 3, count := 3, fitD := 1, s0 := 76800, s1 := 128000 }⟩)] }) s
/-- The same, void. -/
def fv (d : Dev) (key : Nat) (s : State) : State :=
  modCom d (fun c => { c with hfits := [(key, some ⟨7, 10000000000, 1, { st := 2, n := 3, voidEdge := true }⟩)] }) s
/-- A page has an enabled event. -/
def lv (d : Dev) (n : Nat) (s : State) : State := modCom d (fun c => { c with pgEvent := [(n, 1)], pgEn := [(n, 1)] }) s
/-- The one source of the interrupt controller. -/
def si (d : Dev) (n : Nat) (i : IcSrc) (s : State) : State := modIc d (fun c => { c with src := [(n, i)] }) s
/-- The controller sleeps. -/
def sl (d : Dev) (s : State) : State := modIc d (fun c => { c with asleep := true }) s
def w0 (n : Nat) : SliceWin := ⟨999000000, n, true, none, true, false, false, 0, 0, 7, 0, prpgSeed n⟩
/-- The window of a slice test. -/
def sw (w : SliceWin) (s : State) : State := modBt .tsu (fun b => { b with win := some w }) s
/-- An image without sections. -/
def img0 (cls kind : Nat) : List Byte :=
  imgRecrc ([0, 0, 0, 1] ++ bytesBE 2 (cls * 4096) ++ bytesBE 1 kind ++ [0, 0xB0, 0, 0, 0, 0, 0, 0, 0] ++ bytesBE 4 64 ++
    List.replicate 44 0)
/-- The start is at this stage. -/
def sg (d : Dev) (n : Nat) (s : State) : State := modBoot d (fun b => { b with stage := n, applyDone := false, source := 1 }) s
/-- A DX-D strapped 0b11 in CELLAR. -/
def straps3 : State :=
  { b0 with
    x := { b0.x with straps := { role := 3 } }
    dc := { b0.dc with boot := { b0.dc.boot with stage := 7, cellarReason := 0xB } } }
/-- The TSU's field-mode fuse is closed, and these commands wait. -/
def shutPort (l : List Instr) : State :=
  { b0 with tc := { b0.tc with fuse := { b0.tc.fuse with fieldClosed := true } }, pending := l }

/-! Witnesses: values that meet the hypotheses of each clause of a statement. -/

/-- A word is not its successor. -/
theorem ne_succ (w : Word) : w ≠ w + 1 := by simp

/-- A property of every position of a 16-bit mask is one of positions 0 to 15. -/
theorem all_of_mask (m : BitVec 16) (P : Nat → Prop) (h : ∀ b < 16, P b) (b : Nat) (hb : m.toNat.testBit b = true) : P b := by
  refine h b (Nat.lt_of_not_le fun hc => ?_)
  have : m.toNat < 2 ^ b := Nat.lt_of_lt_of_le m.isLt (Nat.pow_le_pow_right (by decide) hc)
  simp [Nat.testBit_lt_two_pow this] at hb

/-- The attic bytes of a list from an address. -/
theorem tabGet_cells (l : List Byte) (a i : Nat) : tabGet none (cells a l) (a + i) = l[i]? := by
  induction l generalizing a i with
  | nil => rfl
  | cons b l ih =>
    cases i with
    | zero => simp [cells, tabGet]
    | succ i =>
      have h : a ≠ a + (i + 1) := by omega
      have e : a + (i + 1) = a + 1 + i := by omega
      rw [cells, tabGet, if_neg h, e, ih, List.getElem?_cons_succ]

theorem atticBytes_att (l : List Byte) (s : State) (n : Nat) (h : n ≤ l.length) :
    atticBytes (att l s) 0x104000 n = l.take n := by
  apply List.ext_getElem?
  intro i
  simp only [atticBytes, upTo, att, modX, List.getElem?_map, tabGet_cells, List.getElem?_take]
  by_cases hi : i < n
  · have : i < l.length := by omega
    simp [hi, List.getElem?_eq_getElem this]
  · simp [hi]

/-- A byte of a zero slot map. -/
theorem be_zeros (n k : Nat) : be (List.replicate n 0) k 1 = 0 := by
  simp only [be, sub, List.drop_replicate, List.take_replicate]
  rcases Nat.lt_or_ge k n with h | h
  · rw [show min 1 (n - k) = 1 by omega]; rfl
  · rw [show min 1 (n - k) = 0 by omega]; rfl

theorem mapSlots_zeros (n : Nat) : mapSlots (List.replicate n 0) = [] := by
  simp only [mapSlots, be_zeros, Nat.zero_testBit, List.filter_false]

/-- A slot map whose first byte is 0x80 holds slot 0 alone. -/
theorem mapSlots_first (n : Nat) : mapSlots (0x80 :: List.replicate n 0) = [0] := by
  have hp (i : Nat) : (be (0x80 :: List.replicate n 0) (i / 8) 1).testBit (7 - i % 8) = (i == 0) := by
    rcases Nat.eq_zero_or_pos (i / 8) with h | h
    · have h0 : be (0x80 :: List.replicate n 0) 0 1 = 128 := by simp only [be, sub, List.drop_zero, List.take_succ_cons, List.take_zero]; rfl
      have hi : i < 8 := by omega
      rw [h, h0]
      have : ∀ i < 8, (128 : Nat).testBit (7 - i % 8) = (i == 0) := by decide
      exact this i hi
    · obtain ⟨k, hk⟩ := Nat.exists_eq_succ_of_ne_zero (Nat.pos_iff_ne_zero.1 h)
      have hz : be (0x80 :: List.replicate n 0) (k + 1) 1 = 0 := be_zeros n k
      have hi : i ≠ 0 := by rintro rfl; simp at h
      rw [hk, hz, Nat.zero_testBit, beq_eq_false_iff_ne.2 hi]
  unfold mapSlots upTo
  rw [List.filter_congr (fun i _ => hp i), List.length_cons, Nat.mul_succ, Nat.add_succ, List.range_succ_eq_map]
  simp [List.filter_map]

theorem submit_desc : submitResult (att desc rt) 0x104000 = 0 := by
  have h : atticBytes (att desc rt) 0x104000 2696 = desc.take 2696 := atticBytes_att _ _ _ (by decide +kernel)
  have e : 2696 + 8 * be (desc.take 2696) 9 1 = 2696 := by decide +kernel
  have he : descEngines (desc.take 2696) = [0] := by
    rw [descEngines, show sub (desc.take 2696) 136 2048 = 0x80 :: List.replicate 2047 0 by decide +kernel, mapSlots_first]
  have hw : descWs (desc.take 2696) = [] := by
    rw [descWs, show sub (desc.take 2696) 2184 512 = List.replicate 512 0 by decide +kernel, mapSlots_zeros]
  unfold submitResult
  simp only [h, e, descOk, he, hw]
  decide +kernel

/-- Values that meet the hypotheses of each clause of `Obligations.FrontOfTheQueue`. -/
theorem witness_FrontOfTheQueue :
    (∃ (c : Instr) (rest : List Instr) (s : State), s.pending = c :: rest) ∧
    (∃ (s : State), s.pending = []) ∧
    (∃ (s : State), s.pending = [] ∧ (∀ x, x ∈ s.dc.ports → x.2.rel.rxBuf = []) ∧ s.x.cs.early = []) := by
  refine ⟨?_, ?_, ?_⟩
  · exact ⟨.coreSplit, [], { b0 with pending := [.coreSplit] }, by decide +kernel⟩
  · exact ⟨b0, by decide +kernel⟩
  · exact ⟨b0, by decide +kernel⟩

/-- Values that meet the hypotheses of each clause of `Obligations.ResetState`. -/
theorem witness_ResetState :
    (∃ (p : Nat), p < 2) ∧
    (∃ (x : Dev × Nat × Nat), x ∈ [(.tsu, 0x0130, 1000 * 2 ^ 16 + 160), (.tsu, 0x0138, 5 * 2 ^ 32), (.tsu, 0x2100,
      1000), (.tsu, 0x3100, 1024 * 2 ^ 32 + 10 * 2 ^ 12 + 1000), (.tsu, 0x3110, 256), (.tsu, 0x3200, 4096), (.tsu,
      0x3600, 2 ^ 63 + 800), (.tsu, 0x3608, 800), (.tsu, 0x4100, 2 ^ 45 + 2 ^ 13), (.tsu, 0xD100, 2 ^ 62), (.dxd,
      0xD118, 256 * 2 ^ 32 + 3600), (.dxd, 0x10120, 10000), (.dxd, 0x10140, 10000), (.dxd, 0x10148, 109951163), (.dxd,
      0x10150, 100), (.dxd, 0x10158, 10995), (.dxd, 0x10160, 10), (.dxd, 0x10168, 13421773), (.dxd, 0x10170,
      250000000), (.dxd, 0x10178, 68719476736000000), (.dxd, 0x11100, 8 * 2 ^ 16), (.dxd, 0x12100, 128 * 2 ^ 8 + 128),
      (.dxd, 0x14108, 1000000 * 2 ^ 32 + 2500 * 2 ^ 16 + 240), (.dxd, 0x1E100, 0x1FFFFF)]) := by
  refine ⟨?_, ?_⟩
  · exact ⟨0, by decide +kernel⟩
  · exact ⟨((.dxd, 0x10140, 10000)), by decide +kernel⟩

/-- Values that meet the hypotheses of each clause of `Obligations.CueEncoding`. -/
theorem witness_CueEncoding :
    (∃ (w : CueWord) (c : Cue), decodeCue w = some c) := by
  exact ⟨0x06027011, ((decodeCue 0x06027011).getD .halt), by decide +kernel⟩

/-- Values that meet the hypotheses of each clause of `Obligations.HallTimeRanges`. -/
theorem witness_HallTimeRanges :
    (∃ (s : State) (t : State), (∀ d, HtOk (s.com d).tk) ∧ step s = .next t) ∧
    (∃ (s : State), s.pending = []) := by
  refine ⟨?_, ?_⟩
  · exact ⟨(modTk .tsu (fun k => { k with ns := 999999999, frac := 65535 }) b0), _, (by rintro ⟨⟩ <;> decide +kernel),
    rfl⟩
  · exact ⟨b0, by decide +kernel⟩

/-- Values that meet the hypotheses of each clause of `Obligations.StrapsHold`: a power-on reset of the TSU, an idle beat, and a
warm reset of a DX-D strapped 0b11. -/
theorem witness_StrapsHold :
    (∃ (c : Instr) (s t : State), (∀ pins, c ≠ .powerOnReset .dxd pins) ∧ exec c s = .next t) ∧
    (∃ s t : State, s.pending = [] ∧ step s = .next t) ∧
    (∃ (c : Instr) (s t : State), (∀ pins, c ≠ .powerOnReset .dxd pins) ∧ exec c s = .next t ∧ s.x.straps.role = 3 ∧
      s.dc.boot.stage = 7) :=
  ⟨⟨.powerOnReset .tsu ⟨3, 1, 1, 0, 0, 0⟩, b0, _, (fun _ h => nomatch h), rfl⟩, ⟨b0, _, rfl, rfl⟩,
    ⟨.warmReset .dxd, straps3, _, (fun _ h => nomatch h), rfl, rfl, rfl⟩⟩

/-- Values that meet the hypotheses of each clause of `Obligations.FusesAndTestPort`. -/
theorem witness_FusesAndTestPort :
    (∃ s t : State, (∀ d, TestPortShut (s.com d)) ∧ step s = .next t) ∧ (∃ s t : State, step s = .next t) ∧
    (∃ (c : Instr) (s t : State) (d : Dev), exec c s = .next t ∧ c ≠ .fieldFuseBlown d) :=
  ⟨⟨shutPort [.jtagInstruction .tsu .idcode], _, (by rintro ⟨⟩ <;> decide +kernel), rfl⟩,
    ⟨shutPort [.fieldFuseBlown .dxd], _, rfl⟩, ⟨.fieldFuseBlown .tsu, b0, _, .dxd, rfl, (fun h => nomatch h)⟩⟩

/-- Values that meet the hypotheses of each clause of `Obligations.TimeFrames`. -/
theorem witness_TimeFrames :
    (∃ (p : Nat) (s : State) (d : Dev) (f : TimeF), portExists d s p = true ∧ (s.port d p).live = true ∧ (1000000000 ≤
      f.ns ∨ f.reserved ≠ 0)) ∧
    (∃ (p : Nat) (f : TimeF) (s : State), portExists .tsu s p = true ∧ (s.port .tsu p).st = 5 ∧ inCellar .tsu s =
      false ∧ f.ns < 1000000000 ∧ f.reserved = 0 ∧ (f.state = 1 ∨ f.state = 2 ∨ (f.level = 0 ∧ f.state = 3)) ∧
      s.tc.tk.htValid = false) ∧
    (∃ (p : Nat) (f : TimeF) (s : State), portExists .dxd s p = true ∧ (s.port .dxd p).st = 5 ∧ inCellar .dxd s =
      false ∧ f.ns < 1000000000 ∧ f.reserved = 0 ∧ (f.state = 1 ∨ f.state = 2 ∨ (f.level = 0 ∧ f.state = 3)) ∧
      s.dc.tk.htValid = false ∧ s.dc.tk.sideConflict = false ∧ s.x.hold.oscLost = false ∧ follows p (modPort .dxd p
      (fun q => { q with lastTime := some f }) s) = true) ∧
    (∃ (p : Nat) (f : TimeF) (s : State), portExists .tsu s p = true ∧ (s.port .tsu p).st = 5 ∧ inCellar .tsu s =
      false ∧ f.ns < 1000000000 ∧ f.reserved = 0 ∧ sofStamped .tsu p s = true ∧ (f.state = 1 ∨ f.state = 2 ∨ (f.level
      = 0 ∧ f.state = 3)) ∧ s.tc.tk.htValid = true ∧ (s.core .tsu p).st ≠ 3 ∧ (s.core .tsu p).off = false ∧ (s.core
      .tsu p).running = true) ∧
    (∃ (p : Nat) (f : TimeF) (s : State), portExists .dxd s p = true ∧ (s.port .dxd p).st = 5 ∧ inCellar .dxd s =
      false ∧ f.ns < 1000000000 ∧ f.reserved = 0 ∧ sofStamped .dxd p s = true ∧ (f.state = 1 ∨ f.state = 2 ∨ (f.level
      = 0 ∧ f.state = 3)) ∧ s.dc.tk.htValid = true ∧ s.x.straps.role ≠ 2 ∧ s.x.hold.oscLost = false ∧ s.x.rf.fresh =
      false ∧ follows p s = true) := by
  refine ⟨?_, ?_, ?_, ?_, ?_⟩
  · exact ⟨0, b0, .tsu, { tf with ns := 1000000000 }, by decide +kernel⟩
  · exact ⟨0, tf, (modTk .tsu (fun t => { t with htValid := false }) b0), by decide +kernel⟩
  · exact ⟨192, tf, (modTk .dxd (fun t => { t with htValid := false }) pk), by decide +kernel⟩
  · exact ⟨0, tf, (cb .tsu 0 (modCore .tsu 0 (fun c => { c with running := true }) b0)), by decide +kernel⟩
  · exact ⟨192, tf, (cb .dxd 192 pk), by decide +kernel⟩

/-- Values that meet the hypotheses of each clause of `Obligations.LockAndKeeper`. -/
theorem witness_LockAndKeeper :
    (∃ (c : Nat) (s : State), c < 2 ∧ (s.core .tsu c).st = 1 ∧ s.tc.tk.htValid = true ∧ isSource .tsu c s = true ∧ 64
      ≤ (s.core .tsu c).inBand) ∧
    (∃ (s : State), s.x.straps.role ≠ 2 ∧ s.dc.coreA.st = 1 ∧ s.dc.tk.htValid = true ∧ dxdChoice s ≠ 2 ∧ 64 ≤
      s.dc.coreA.inBand ∧ s.dc.tk.state ≠ 3 ∧ inCellar .dxd s = false ∧ s.dc.tk.sideline = false) ∧
    (∃ (c : Nat) (s : State), c < 2 ∧ (s.core .tsu c).st = 2 ∧ isSource .tsu c s = true ∧ 8 ≤ (s.core .tsu c).outBand)
      ∧
    (∃ (s : State), s.x.straps.role ≠ 2 ∧ s.dc.coreA.st = 2 ∧ dxdChoice s ≠ 2 ∧ 8 ≤ s.dc.coreA.outBand) ∧
    (∃ (s : State), 8 ≤ s.tc.tk.splitCount) ∧
    (∃ (s : State), reversionDue s = true ∧ s.tc.tk.force = none ∧ isSource .tsu 0 s = true ∧ isSource .tsu 1 s =
      true) ∧
    (∃ (rq : Nat) (s : State) (v : Word), WriteTaken .tsu rq 0x00 0x130 s ∧ (fld v 32 2 = 1 ∨ fld v 32 2 = 2) ∧
      (s.core .tsu (fld v 32 2 - 1)).st = 2 ∧ isSource .tsu (fld v 32 2 - 1) s = true ∧ s.tc.coreA.st ≠ 3 ∧
      s.tc.coreB.st ≠ 3) ∧
    (∃ (rq : Nat) (v : Word) (s : State), WriteTaken .tsu rq 0x00 0x130 s ∧ (fld v 32 2 = 1 ∨ fld v 32 2 = 2) ∧
      (s.core .tsu (fld v 32 2 - 1)).st ≠ 2) := by
  refine ⟨?_, ?_, ?_, ?_, ?_, ?_, ?_, ?_⟩
  · exact ⟨0, (modCore .tsu 0 (fun c => { c with st := 1, inBand := 64 }) b0), by decide +kernel⟩
  · exact ⟨(modCore .dxd 0 (fun c => { c with st := 1, inBand := 64 }) pk), by decide +kernel⟩
  · exact ⟨0, (modCore .tsu 0 (fun c => { c with outBand := 8 }) b0), by decide +kernel⟩
  · exact ⟨(modCore .dxd 0 (fun c => { c with outBand := 8, inBand := 3 }) pk), by decide +kernel⟩
  · exact ⟨(modTk .tsu (fun t => { t with splitCount := 8 }) b0), by decide +kernel⟩
  · exact ⟨(modTk .tsu (fun t => { t with keeper := 1 }) (modCore .tsu 0 (fun c => { c with lockedAt := some 0 })
    (modCom .tsu (fun c => { c with up := 2000000000 }) b0))), by decide +kernel⟩
  · exact ⟨1, b0, 0x200000000, by decide +kernel⟩
  · exact ⟨1, 0x200000000, (modCore .tsu 1 (fun c => { c with st := 1 }) b0), by decide +kernel⟩

/-- Values that meet the hypotheses of each clause of `Obligations.PullAndOrigin`. -/
theorem witness_PullAndOrigin :
    (∃ (d : Dev) (s : State), (s.com d).tk.pulling = true ∧ (s.com d).tk.r = 0) ∧
    (∃ (d : Dev) (rq : Nat) (s : State), ReadTaken d rq 0x00 s ∧ rq < 8) ∧
    (∃ (rq : Nat) (v : Word) (s : State), WriteTaken .dxd rq 0x00 0x140 s ∧ s.x.straps.role = 2 ∧ anyEpoch s = false ∧
      stepSecond s + 1 ≤ fld v 0 48 ∧ fld v 0 48 < stepSecond s + 2 ^ 31) ∧
    (∃ (rq : Nat) (s : State), WriteTaken .dxd rq 0x00 0x140 s ∧ s.x.straps.role = 2 ∧ anyEpoch s = true) ∧
    (∃ (d : Dev) (sec : Nat) (dlt : Int) (s : State), (s.com d).tk.stepPend = some (sec, dlt) ∧ sec + 1 ≤ (s.com
      d).tk.sec) := by
  refine ⟨?_, ?_, ?_, ?_, ?_⟩
  · exact ⟨.tsu, (modTk .tsu (fun t => { t with pulling := true }) b0), by decide +kernel⟩
  · exact ⟨.tsu, 7, (modTk .tsu (fun t => { t with ns := 17, frac := 3 }) b0), by decide +kernel⟩
  · exact ⟨1, 1002, (modMem (fun m => { m with epoch := 0 }) b0), by decide +kernel⟩
  · exact ⟨1, (modRef (fun r => { r with jobs := [job1] }) b0), by decide +kernel⟩
  · exact ⟨.tsu, 999, 3, (modTk .tsu (fun t => { t with stepPend := some (999, 3) }) b0), by decide +kernel⟩

/-- Values that meet the hypotheses of each clause of `Obligations.PortStates`. -/
theorem witness_PortStates :
    (∃ (d : Dev) (rq : Nat) (p : Nat) (s : State), PortWrite d rq p 0x20 s ∧ (s.port d p).st = 0 ∧ portsReleased d s =
      true) ∧
    (∃ (d : Dev) (rq : Nat) (s : State) (p : Nat), PortWrite d rq p 0x20 s ∧ ((s.port d p).st ≠ 0 ∨ portsReleased d s
      = false)) ∧
    (∃ (d : Dev) (rq : Nat) (p : Nat) (s : State), PortWrite d rq p 0x20 s ∧ (s.port d p).st ≠ 0 ∧ (s.port d p).live =
      false) ∧
    (∃ (d : Dev) (rq : Nat) (s : State) (p : Nat), PortWrite d rq p 0x20 s ∧ (s.port d p).live = true) ∧
    (∃ (d : Dev) (rq : Nat) (p : Nat) (v : Word) (s : State), PortWrite d rq p 0x20 s ∧ bit v 1 = true ∧ bit v 0 =
      true ∧ (s.port d p).st ≤ 1 ∧ ((s.port d p).st = 1 ∨ portsReleased d s = true)) ∧
    (∃ (d : Dev) (rq : Nat) (p : Nat) (s : State) (v : Word), PortWrite d rq p 0x20 s ∧ bit v 1 = true ∧ bit v 0 =
      true ∧ 2 ≤ (s.port d p).st) ∧
    (∃ (d : Dev) (rq : Nat) (p : Nat) (s : State) (v : Word), PortWrite d rq p 0x20 s ∧ bit v 1 = true ∧ bit v 0 =
      false) ∧
    (∃ (d : Dev) (p : Nat) (s : State), dwelt d p s = true ∧ (s.port d p).signal = true) ∧
    (∃ (d : Dev) (p : Nat) (s : State), portExists d s p = true) ∧
    (∃ (d : Dev) (s : State) (p : Nat), portExists d s p = true ∧ (s.port d p).st = 2) := by
  refine ⟨?_, ?_, ?_, ?_, ?_, ?_, ?_, ?_, ?_, ?_⟩
  · exact ⟨.tsu, 1, 0, (ps .tsu 0 0 b0), by decide +kernel⟩
  · exact ⟨.tsu, 1, b0, 1, by decide +kernel⟩
  · exact ⟨.tsu, 1, 0, (ps .tsu 0 1 b0), by decide +kernel⟩
  · exact ⟨.tsu, 1, b0, 1, by decide +kernel⟩
  · exact ⟨.tsu, 1, 0, 3, (ps .tsu 0 1 b0), by decide +kernel⟩
  · exact ⟨.tsu, 1, 0, b0, 3, by decide +kernel⟩
  · exact ⟨.tsu, 1, 0, b0, 2, by decide +kernel⟩
  · exact ⟨.tsu, 0, (pq .tsu 0 (fun q => { q with st := 1, downAt := 0 }) b0), by decide +kernel⟩
  · exact ⟨.tsu, 0, (pq .tsu 0 (fun q => { q with st := 1, downAt := 0, signal := false }) b0), by decide +kernel⟩
  · exact ⟨.tsu, (ps .tsu 1 2 b0), 1, by decide +kernel⟩

/-- Values that meet the hypotheses of each clause of `Obligations.PortTraining`. -/
theorem witness_PortTraining :
    (∃ (d : Dev) (p : Nat) (f : TrainF) (s : State), portExists d s p = true ∧ (s.port d p).st = 3 ∧ topologyBad d p f
      s = false ∧ sidesEqual d p f s = false) ∧
    (∃ (d : Dev) (p : Nat) (f : TrainF) (s : State), portExists d s p = true ∧ (s.port d p).st = 3 ∧ topologyBad d p f
      s = true) ∧
    (∃ (d : Dev) (p : Nat) (f : TrainF) (s : State), portExists d s p = true ∧ (s.port d p).st = 3 ∧ sidesEqual d p f
      s = true) ∧
    (∃ (d : Dev) (p : Nat) (s : State), portExists d s p = true ∧ (s.port d p).live = true) ∧
    (∃ (d : Dev) (p : Nat) (s : State), portExists d s p = true ∧ (s.port d p).st = 3 ∧ 8 ≤ (s.port d p).tr.count) ∧
    (∃ (d : Dev) (p : Nat) (s : State), portExists d s p = true ∧ (s.port d p).st = 3 ∧ (s.port d p).tr.ackSent = true
      ∧ 8 ≤ (s.port d p).tr.ackCount ∧ (s.port d p).tr.topologyError = false ∧ (s.port d p).tr.sideConflict = false)
      := by
  refine ⟨?_, ?_, ?_, ?_, ?_, ?_⟩
  · exact ⟨.tsu, 0, tr0, (pq .tsu 0 (fun q => { q with st := 3 }) b0), by decide +kernel⟩
  · exact ⟨.tsu, 0, { tr0 with level := 2 }, (pq .tsu 0 (fun q => { q with st := 3 }) b0), by decide +kernel⟩
  · exact ⟨.dxd, 192, { tr0 with level := 1 }, (pq .dxd 192 (fun q => { q with st := 3 }) b0), by decide +kernel⟩
  · exact ⟨.tsu, 0, b0, by decide +kernel⟩
  · exact ⟨.tsu, 0, (pq .tsu 0 (fun q => { q with st := 3, tr := { q.tr with count := 8 } }) b0), by decide +kernel⟩
  · exact ⟨.tsu, 0, (pq .tsu 0 (fun q => { q with st := 3, tr := { q.tr with ackSent := true, ackCount := 8 } }) b0),
    by decide +kernel⟩

/-- Values that meet the hypotheses of each clause of `Obligations.PortDelays`. -/
theorem witness_PortDelays :
    (∃ (d : Dev) (p : Nat) (s : State) (q : Port), s.port d p = q ∧ portExists d s p = true ∧ isOriginator d p = true
      ∧ ((q.st = 4 ∧ q.tr.downs.length < 64 ∧ q.tr.requests < 256 ∧ (q.tr.requests = 0 ∨ q.tr.lastReq + 2048 ≤ (s.com
      d).up)) ∨ (q.st = 5 ∧ q.tr.lastReq + 65536 ≤ (s.com d).up))) ∧
    (∃ (d : Dev) (p : Nat) (f : ProbeF) (s : State), portExists d s p = true ∧ (s.port d p).live = true ∧ f.reply =
      false ∧ sofStamped d p s = true ∧ (f.calDone = false ∨ (s.port d p).st = 5)) ∧
    (∃ (p : Nat) (f : ProbeF) (s : State), portExists .dxd s p = true ∧ p < 192 ∧ (s.port .dxd p).st = 4 ∧ f.reply =
      false ∧ f.calDone = true) ∧
    (∃ (d : Dev) (p : Nat) (f : ProbeF) (x : ProbeOut) (s : State), portExists d s p = true ∧ (s.port d p).live = true
      ∧ f.reply = true ∧ sofStamped d p s = true ∧ (s.port d p).tr.probes.find? (fun x => x.id == f.id && decide
      ((s.com d).up ≤ x.at_ + 16384)) = some x) ∧
    (∃ (d : Dev) (p : Nat) (s : State), portExists d s p = true) ∧
    (∃ (d : Dev) (p : Nat) (s : State), portExists d s p = true ∧ isOriginator d p = true ∧ (s.port d p).st = 4 ∧ 64 ≤
      (s.port d p).tr.downs.length ∧ (s.port d p).tr.calDoneSent = false ∧ (s.port d p).tr.lastReq + 2048 ≤ (s.com
      d).up) ∧
    (∃ (d : Dev) (p : Nat) (s : State), portExists d s p = true ∧ isOriginator d p = true ∧ (s.port d p).st = 4 ∧ 256
      ≤ (s.port d p).tr.requests ∧ (s.port d p).tr.downs.length < 64) ∧
    (∃ (d : Dev) (p : Nat) (s : State), portExists d s p = true ∧ isOriginator d p = true ∧ (s.port d p).st = 5 ∧
      (s.port d p).tr.lastSec ≠ (s.com d).tk.sec ∧ 1024 ≤ (s.port d p).tr.downs.length) ∧
    (∃ (d : Dev) (p : Nat) (s : State), portExists d s p = true ∧ isOriginator d p = true ∧ (s.port d p).st = 5 ∧
      (s.port d p).tr.lastSec ≠ (s.com d).tk.sec ∧ 0 < (s.port d p).tr.downs.length ∧ (s.port d p).tr.downs.length <
      1024) := by
  refine ⟨?_, ?_, ?_, ?_, ?_, ?_, ?_, ?_, ?_⟩
  · exact ⟨.tsu, 0, b0, ((b0).port .tsu 0), by decide +kernel⟩
  · exact ⟨.tsu, 0, ⟨false, false, 3, 0, 100⟩, (cb .tsu 0 b0), by decide +kernel⟩
  · exact ⟨0, ⟨false, true, 3, 0, 100⟩, (ps .dxd 0 4 pk), by decide +kernel⟩
  · exact ⟨.tsu, 0, ⟨true, false, 3, 40, 100⟩, ⟨3, 900000, 999999000⟩, (cb .tsu 0 (pq .tsu 0 (fun q =>
    { q with tr := { q.tr with probes := [⟨3, 900000, 999999000⟩] } }) b0)), by decide +kernel⟩
  · exact ⟨.tsu, 0, (pq .tsu 0 (fun q =>
    { q with tr := { q.tr with probes := [⟨3, 900000, 999983616⟩, ⟨4, 900000, 999983615⟩] } }) b0), by decide +kernel⟩
  · exact ⟨.tsu, 0, (pq .tsu 0 (fun q =>
    { q with st := 4, tr := { q.tr with downs := List.replicate 64 (5 : Int), ups := List.replicate 64 (6 : Int) } })
    b0), by decide +kernel⟩
  · exact ⟨.tsu, 0, (pq .tsu 0 (fun q => { q with st := 4, tr := { q.tr with requests := 256 } }) b0),
    by decide +kernel⟩
  · exact ⟨.tsu, 0, (pq .tsu 0 (fun q =>
    { q with applied := 300, tr := { q.tr with downs := List.replicate 1024 (5 : Int), ups := List.replicate 1024 (6 : Int) } })
    b0), by decide +kernel⟩
  · exact ⟨.tsu, 0, (pq .tsu 0 (fun q =>
    { q with tr := { q.tr with downs := [100, 103], ups := [7, 8], lastSec := 999 } }) b0), by decide +kernel⟩

/-- Values that meet the hypotheses of each clause of `Obligations.PortSlots`. -/
theorem witness_PortSlots :
    (∃ (d : Dev) (p : Nat) (s : State), slotStarts (isLane d s p) (s.com d).tk.bc = false) ∧
    (∃ (d : Dev) (p : Nat) (s : State), portExists d s p = true ∧ slotStarts (isLane d s p) (s.com d).tk.bc = true ∧
      ((s.port d p).st = 0 ∨ (d = .dxd ∧ s.x.hold.oscLost = true))) ∧
    (∃ (d : Dev) (p : Nat) (s : State), portExists d s p = true ∧ slotStarts (isLane d s p) (s.com d).tk.bc = true ∧
      (s.port d p).st ≠ 0 ∧ (d = .dxd → s.x.hold.oscLost = false) ∧ (s.port d p).live = false) ∧
    (∃ (p : Nat) (s : State), portExists .dxd s p = true ∧ slotStarts (isLane .dxd s p) s.dc.tk.bc = true ∧
      s.x.hold.oscLost = false ∧ sendsTime .dxd p s = true) ∧
    (∃ (d : Dev) (p : Nat) (n : Nat) (f : Frame) (rest : List (Nat × Frame)) (s : State), portExists d s p = true ∧
      slotStarts (isLane d s p) (s.com d).tk.bc = true ∧ (s.port d p).st = 5 ∧ (d = .dxd → s.x.hold.oscLost = false) ∧
      sendsTime d p s = false ∧ (s.port d p).tr.toAnswer = [] ∧ (s.port d p).rel.lq = [] ∧ (s.port d p).rel.resend =
      (n, f) :: rest ∧ (s.port d p).rel.holdCIn = false ∧ (s.port d p).rel.holdBIn = false) ∧
    (∃ (d : Dev) (p : Nat) (e : QFrame) (rest : List QFrame) (s : State), portExists d s p = true ∧ slotStarts (isLane
      d s p) (s.com d).tk.bc = true ∧ (s.port d p).st = 5 ∧ (d = .dxd → s.x.hold.oscLost = false) ∧ sendsTime d p s =
      false ∧ (s.port d p).tr.toAnswer = [] ∧ (s.port d p).rel.lq = [] ∧ (s.port d p).rel.resend = [] ∧ (s.port d
      p).rel.bulk = [] ∧ (s.port d p).rel.ctl = e :: rest ∧ (s.port d p).rel.holdCIn = false ∧ (s.port d
      p).rel.retained.length < (if isLane d s p then 16 else 64)) ∧
    (∃ (d : Dev) (p : Nat) (s : State), portExists d s p = true ∧ slotStarts (isLane d s p) (s.com d).tk.bc = true ∧
      (s.port d p).st = 5 ∧ (d = .dxd → s.x.hold.oscLost = false) ∧ sendsTime d p s = false ∧ (s.port d p).tr.toAnswer
      = [] ∧ (s.port d p).rel.lq = [] ∧ (s.port d p).rel.resend = [] ∧ (s.port d p).rel.bulk = [] ∧ (s.port d
      p).rel.ctl = []) := by
  refine ⟨?_, ?_, ?_, ?_, ?_, ?_, ?_⟩
  · exact ⟨.tsu, 0, (modTk .tsu (fun t => { t with ns := 64 }) b0), by decide +kernel⟩
  · exact ⟨.tsu, 0, (ps .tsu 0 0 b0), by decide +kernel⟩
  · exact ⟨.tsu, 0, (ps .tsu 0 3 b0), by decide +kernel⟩
  · exact ⟨0, b0, by decide +kernel⟩
  · exact ⟨.tsu, 0, 3, ⟨5, .fill⟩, [], (pq .tsu 0 (fun q =>
    { q with rel := { q.rel with resend := [(3, ⟨5, .fill⟩)] } }) b0), by decide +kernel⟩
  · exact ⟨.tsu, 0, ⟨⟨5, .fill⟩, none, 0⟩, [], (pq .tsu 0 (fun q =>
    { q with rel := { q.rel with ctl := [⟨⟨5, .fill⟩, none, 0⟩] } }) b0), by decide +kernel⟩
  · exact ⟨.tsu, 0, b0, by decide +kernel⟩

/-- Values that meet the hypotheses of each clause of `Obligations.PortLinkErrors`. -/
theorem witness_PortLinkErrors :
    (∃ (d : Dev) (p : Nat) (s : State), portExists d s p = true ∧ (s.port d p).live = true) ∧
    (∃ (d : Dev) (p : Nat) (s : State), portExists d s p = true ∧ (s.port d p).live = true) ∧
    (∃ (d : Dev) (p : Nat) (s : State), portExists d s p = true ∧ (s.port d p).st = 3) ∧
    (∃ (d : Dev) (p : Nat) (s : State) (ty : Nat), portExists d s p = true ∧ (s.port d p).live = true ∧ typeDefined ty
      = false) ∧
    (∃ (d : Dev) (p : Nat) (s : State), portExists d s p = true ∧ (s.port d p).live = true ∧ (s.port d p).rel.nakIn =
      true ∧ (s.port d p).rel.nakSince + 16384 ≤ (s.com d).up ∧ (s.port d p).rel.nakTries < 4) ∧
    (∃ (d : Dev) (p : Nat) (s : State), portExists d s p = true ∧ (s.port d p).live = true ∧ (s.port d p).rel.nakIn =
      true ∧ (s.port d p).rel.nakSince + 16384 ≤ (s.com d).up ∧ 4 ≤ (s.port d p).rel.nakTries) ∧
    (∃ (d : Dev) (rq : Nat) (s : State) (p : Nat), portExists d s p = true ∧ ReadTaken d rq (portPage d p).1 s) ∧
    (∃ (d : Dev) (q : Nat) (at_ : Nat) (s : State), (s.com d).oseq = some (q, at_)) := by
  refine ⟨?_, ?_, ?_, ?_, ?_, ?_, ?_, ?_⟩
  · exact ⟨.tsu, 0, (pq .tsu 0 (fun q =>
    { q with rel := { q.rel with retained := [(1, ⟨5, .fill⟩), (2, ⟨5, .fill⟩)] } }) b0), by decide +kernel⟩
  · exact ⟨.tsu, 0, b0, by decide +kernel⟩
  · exact ⟨.tsu, 0, (pq .tsu 0 (fun q => { q with st := 3, tr := { q.tr with count := 5, ackCount := 4 } }) b0),
    by decide +kernel⟩
  · exact ⟨.tsu, 0, b0, 0x3F, by decide +kernel⟩
  · exact ⟨.tsu, 0, (pq .tsu 0 (fun q =>
    { q with rel := { q.rel with nakIn := true, retained := [(1, ⟨5, .fill⟩)] } }) b0), by decide +kernel⟩
  · exact ⟨.tsu, 0, (pq .tsu 0 (fun q => { q with rel := { q.rel with nakIn := true, nakTries := 4 } }) b0),
    by decide +kernel⟩
  · exact ⟨.tsu, 1, (pq .tsu 1 (fun q => { q with crcErr := 3 }) b0), 1, by decide +kernel⟩
  · exact ⟨.tsu, 5, 0, (modCom .tsu (fun c => { c with oseq := some (5, 0) }) b0), by decide +kernel⟩

/-- Values that meet the hypotheses of each clause of `Obligations.PortLosses`. -/
theorem witness_PortLosses :
    (∃ (d : Dev) (p : Nat) (s : State), portExists d s p = true ∧ (s.port d p).live = true ∧ (s.port d p).hbSentAt ≠
      (s.com d).tk.bc / 10000 + 1) ∧
    (∃ (p : Nat) (s : State), portExists .tsu s p = true ∧ (s.port .tsu p).live = true) ∧
    (∃ (p : Nat) (s : State), portExists .dxd s p = true ∧ (s.port .dxd p).live = true) ∧
    (∃ (d : Dev) (p : Nat) (s : State), portExists d s p = true ∧ (s.port d p).live = true ∧ (s.port d p).hbFrom +
      80000 ≤ (s.com d).up) ∧
    (∃ (d : Dev) (p : Nat) (s : State), portExists d s p = true ∧ 2 ≤ (s.port d p).st) ∧
    (∃ (d : Dev) (p : Nat) (s : State), portExists d s p = true ∧ 2 ≤ (s.port d p).st ∧ 16 ≤ (s.port d p).crcAt.countP
      (fun c => decide ((s.com d).up < c + rateWindow (isLane d s p)))) ∧
    (∃ (d : Dev) (p : Nat) (s : State), portExists d s p = true ∧ (s.port d p).st = 1 ∧ (s.port d p).flapHold = false
      ∧ 8 ≤ flapCount (s.com d).up (s.port d p)) := by
  refine ⟨?_, ?_, ?_, ?_, ?_, ?_, ?_⟩
  · exact ⟨.tsu, 0, b0, by decide +kernel⟩
  · exact ⟨0, b0, by decide +kernel⟩
  · exact ⟨0, b0, by decide +kernel⟩
  · exact ⟨.tsu, 0, b0, by decide +kernel⟩
  · exact ⟨.tsu, 0, b0, by decide +kernel⟩
  · exact ⟨.tsu, 0, (pq .tsu 0 (fun q => { q with crcAt := List.replicate 16 1000000000 }) b0), by decide +kernel⟩
  · exact ⟨.tsu, 0, (pq .tsu 0 (fun q => { q with st := 1, flaps := List.replicate 8 999999999 }) b0),
    by decide +kernel⟩

/-- Values that meet the hypotheses of each clause of `Obligations.TdcChannels`. -/
theorem witness_TdcChannels :
    (∃ (d : Dev) (s : State) (ch : Nat) (w : Nat) (n : Nat), chanPresent d s ch = true ∧ pickUnit (unitCount d s ch)
      (10 * w + 16 * n) (s.chan d ch) = none) ∧
    (∃ (d : Dev) (ch : Nat) (w : Nat) (n : Nat) (c : Nat) (i : Nat) (c1 : Nat) (c2 : Nat) (s : State), chanPresent d s
      ch = true ∧ pickUnit (unitCount d s ch) (10 * w + 16 * n) (s.chan d ch) = some i ∧ (tabGet {} (s.chan d
      ch).units i).cal = some (c1, c2) ∧ stampOf c1 c2 (trimOf d ch s) w n c = none) ∧
    (∃ (d : Dev) (ch : Nat) (w : Nat) (n : Nat) (c : Nat) (i : Nat) (c1 : Nat) (c2 : Nat) (e : Nat) (s : State),
      chanPresent d s ch = true ∧ pickUnit (unitCount d s ch) (10 * w + 16 * n) (s.chan d ch) = some i ∧ (tabGet {}
      (s.chan d ch).units i).cal = some (c1, c2) ∧ stampOf c1 c2 (trimOf d ch s) w n c = some e) ∧
    (∃ (d : Dev) (s : State) (ch : Nat) (i : Nat), chanPresent d s ch = true ∧ i < unitCount d s ch) ∧
    (∃ (d : Dev) (ch : Nat) (s : State), chanPresent d s ch = true ∧ 16 ≤ (s.chan d ch).fails) ∧
    (∃ (d : Dev) (rq : Nat) (s : State) (ch : Nat), chanListed d ch = true ∧ chanGeneral d s ch = true ∧ WriteTaken d
      rq (chanReg d ch).1 (chanReg d ch).2 s) ∧
    (∃ (d : Dev) (rq : Nat) (s : State) (ch : Nat), chanListed d ch = true ∧ chanGeneral d s ch = false ∧ WriteTaken d
      rq (chanReg d ch).1 (chanReg d ch).2 s) ∧
    (∃ (d : Dev) (ch : Nat) (tap : Nat) (at_ : Nat) (s : State), (s.chan d ch).pend = some (tap, at_) ∧ at_ ≤ (s.com
      d).up) ∧
    (∃ (d : Dev) (rq : Nat) (ch : Nat) (s : State), chanListed d ch = true ∧ ReadTaken d rq (chanReg d ch).1 s) := by
  refine ⟨?_, ?_, ?_, ?_, ?_, ?_, ?_, ?_, ?_⟩
  · exact ⟨.tsu, b0, 0, 5, 3, by decide +kernel⟩
  · exact ⟨.tsu, 1, 5, 3, 4000, 0, 0, 8192, (cb .tsu 1 b0), by decide +kernel⟩
  · exact ⟨.tsu, 1, 1000, 3, 512, 0, 0, 8192, ((stampOf 0 8192 0 1000 3 512).getD 0), (cb .tsu 1 b0),
    by decide +kernel⟩
  · exact ⟨.tsu, b0, 1, 0, by decide +kernel⟩
  · exact ⟨.tsu, 1, (modChan .tsu 1 (fun x => { x with fails := 16 }) b0), by decide +kernel⟩
  · exact ⟨.tsu, 1, b0, 6, by decide +kernel⟩
  · exact ⟨.tsu, 1, b0, 1, by decide +kernel⟩
  · exact ⟨.tsu, 6, 0x200, 1000000000, (modChan .tsu 6 (fun x => { x with pend := some (0x200, 1000000000) }) b0),
    by decide +kernel⟩
  · exact ⟨.tsu, 1, 6, (modChan .tsu 6 (fun x => { x with missed := 3, invalid := 2 }) b0), by decide +kernel⟩

/-- Values that meet the hypotheses of each clause of `Obligations.Measurements`. -/
theorem witness_Measurements :
    (∃ (d : Dev) (rq : Nat) (m : Nat) (v : Word) (s : State), m < setCount d ∧ bit v 63 = true ∧ WriteTaken d rq 0x02
      (0x100 + 0x80 * m) s ∧ (s.mset d m).st ≠ 1 ∧ (s.mset d m).st ≠ 2 ∧ fld v 60 2 = 1 ∧ chanPresent d s (fld v 32 9)
      = true ∧ (∀ k, k ∈ enabledStops d m s → chanPresent d s (setStop d m k s).2 = true) ∧ 1 ≤ fld v 0 20 ∧ fld v 0
      20 ≤ 1000000 ∧ s.regF d (setBase m + 0x18) 0 48 ≠ 0 ∧ 3 ≤ (fitRun (fld v 0 20) (s.regF d (setBase m + 0x18) 0
      48) (prescale d (chanTap d s (fld v 32 9)))).1) ∧
    (∃ (d : Dev) (rq : Nat) (m : Nat) (v : Word) (s : State), m < setCount d ∧ bit v 63 = true ∧ WriteTaken d rq 0x02
      (0x100 + 0x80 * m) s ∧ (s.mset d m).st ≠ 1 ∧ (s.mset d m).st ≠ 2 ∧ fld v 60 2 = 0 ∧ chanPresent d s (fld v 32 9)
      = true ∧ enabledStops d m s ≠ [] ∧ (∀ k, k ∈ enabledStops d m s → chanPresent d s (setStop d m k s).2 = true)) ∧
    (∃ (d : Dev) (rq : Nat) (s : State) (m : Nat) (v : Word), m < setCount d ∧ bit v 63 = true ∧ WriteTaken d rq 0x02
      (0x100 + 0x80 * m) s ∧ (s.mset d m).st ≠ 1 ∧ (s.mset d m).st ≠ 2 ∧ (chanPresent d s (fld v 32 9) = false ∨ (∃ k,
      k ∈ enabledStops d m s ∧ chanPresent d s (setStop d m k s).2 = false))) ∧
    (∃ (d : Dev) (rq : Nat) (m : Nat) (v : Word) (s : State), m < setCount d ∧ bit v 62 = true ∧ WriteTaken d rq 0x02
      (0x100 + 0x80 * m) s ∧ ((s.mset d m).st = 1 ∨ (s.mset d m).st = 2)) ∧
    (∃ (d : Dev) (m : Nat) (s : State), m < setCount d ∧ setsHeld d s = false ∧ (s.mset d m).st = 1 ∧ (s.mset d m).w ≤
      (s.com d).tk.bc) ∧
    (∃ (d : Dev) (m : Nat) (s : State), m < setCount d ∧ setsHeld d s = false ∧ (s.mset d m).st = 2 ∧ (s.mset d m).n =
      0 ∧ (s.mset d m).w + 64000 ≤ (s.com d).tk.bc ∧ (s.mset d m).done < s.regF d (setBase m) 44 16) ∧
    (∃ (d : Dev) (m : Nat) (s : State), m < setCount d ∧ setsHeld d s = false ∧ (s.mset d m).st = 2 ∧ (s.mset d m).n =
      0 ∧ (s.mset d m).w + 64000 ≤ (s.com d).tk.bc ∧ s.regF d (setBase m) 44 16 ≤ (s.mset d m).done) ∧
    (∃ (d : Dev) (m : Nat) (x : MSet) (s : State), s.mset d m = x ∧ m < setCount d ∧ setsHeld d s = false ∧ x.st = 2 ∧
      x.n = 0 ∧ x.start.isSome = true ∧ (∀ k, k ∈ enabledStops d m s → (tabGet {} x.stops k).got.isSome = true) ∧
      x.done < s.regF d (setBase m) 44 16) ∧
    (∃ (d : Dev) (m : Nat) (x : MSet) (s : State), s.mset d m = x ∧ m < setCount d ∧ setsHeld d s = false ∧ x.st = 2 ∧
      x.n = 0 ∧ x.start.isSome = true ∧ (∀ k, k ∈ enabledStops d m s → (tabGet {} x.stops k).got.isSome = true) ∧
      s.regF d (setBase m) 44 16 ≤ x.done) ∧
    (∃ (d : Dev) (m : Nat) (x : MSet) (s : State), s.mset d m = x ∧ m < setCount d ∧ setsHeld d s = false ∧ x.st = 2 ∧
      0 < x.n ∧ x.n ≤ x.count ∧ x.voidEdge = false ∧ x.voidTime = false ∧ 0 < fitQ x.n x.s0 x.s1) ∧
    (∃ (d : Dev) (m : Nat) (x : MSet) (s : State), s.mset d m = x ∧ m < setCount d ∧ setsHeld d s = false ∧ x.st = 2 ∧
      0 < x.n ∧ (x.voidEdge = true ∨ x.voidTime = true)) := by
  refine ⟨?_, ?_, ?_, ?_, ?_, ?_, ?_, ?_, ?_, ?_, ?_⟩
  · exact ⟨.tsu, 1, 0, 0x90000000000003E8, (setReg .tsu 0x2118 (BitVec.allOnes 64) 10000000000 b0), by decide +kernel⟩
  · exact ⟨.tsu, 1, 3, 0x8000000000000000, (setReg .tsu 0x2288 (BitVec.allOnes 64) 0x8001 b0), by decide +kernel⟩
  · exact ⟨.tsu, 1, b0, 0, 0x9000000600000000, by decide +kernel⟩
  · exact ⟨.tsu, 1, 0, 0x4000000000000000, (modSet .tsu 0 (fun x => { x with st := 2 }) b0), by decide +kernel⟩
  · exact ⟨.tsu, 0, (modSet .tsu 0 (fun x => { x with st := 1, w := 1000000000000 }) b0), by decide +kernel⟩
  · exact ⟨.tsu, 0, (setReg .tsu 0x2100 (BitVec.allOnes 64) 0x100000000000 (modSet .tsu 0 (fun x =>
    { x with st := 2, w := 999999936000 }) b0)), by decide +kernel⟩
  · exact ⟨.tsu, 0, (modSet .tsu 0 (fun x => { x with st := 2, w := 999999936000 }) b0), by decide +kernel⟩
  · exact ⟨.tsu, 0, { st := 2, w := 1000000000000, start := some 512, stops := [(0, { got := some 2048 })] }, (setReg
    .tsu 0x2108 (BitVec.allOnes 64) 0x8001 (setReg .tsu 0x2100 (BitVec.allOnes 64) 0x100000000000 (modSet .tsu 0 (fun
    _ => { st := 2, w := 1000000000000, start := some 512, stops := [(0, { got := some 2048 })] }) b0))),
    by decide +kernel⟩
  · exact ⟨.tsu, 0, { st := 2, w := 1000000000000, start := some 512, stops := [(0, { got := some 2048 })] }, (setReg
    .tsu 0x2108 (BitVec.allOnes 64) 0x8001 (modSet .tsu 0 (fun _ =>
    { st := 2, w := 1000000000000, start := some 512, stops := [(0, { got := some 2048 })] }) b0)), by decide +kernel⟩
  · exact ⟨.tsu, 0, { st := 2, n := 3, fitD := 1, count := 3, s0 := 1000000, s1 := 2000000 }, (setReg .tsu 0x2118
    (BitVec.allOnes 64) 10000000000 (modSet .tsu 0 (fun _ =>
    { st := 2, n := 3, fitD := 1, count := 3, s0 := 1000000, s1 := 2000000 }) b0)), by decide +kernel⟩
  · exact ⟨.tsu, 0, { st := 2, n := 3, voidEdge := true }, (modSet .tsu 0 (fun _ =>
    { st := 2, n := 3, voidEdge := true }) b0), by decide +kernel⟩

/-- Values that meet the hypotheses of each clause of `Obligations.ReferenceInputs`. -/
theorem witness_ReferenceInputs :
    (∃ (s : State), s.dc.tk.bc % 1024 ≠ 0) ∧
    (∃ (s : State) (u : State), rootRuns s = true ∧ s.dc.tk.bc % 1024 = 0 ∧ dxdReselect s = u ∧ (u.x.rf.followed = 0 ∨
      u.x.rf.followed = 1) ∧ bit (u.reg .dxd 0x10100) 1 = false ∧ u.dc.tk.htValid = true ∧ u.x.rf.fresh = false) ∧
    (∃ (s : State) (u : State), rootRuns s = true ∧ s.dc.tk.bc % 1024 = 0 ∧ dxdReselect s = u ∧ 3 ≤ u.x.rf.followed ∧
      u.x.rf.followed ≤ 5 ∧ bit (u.reg .dxd 0x10100) 1 = false ∧ u.dc.tk.htValid = false ∧ u.dc.tk.sideConflict =
      false) ∧
    (∃ (n : Nat) (s : State), rootRuns s = true ∧ n < 2 ∧ s.dc.tk.htValid = true) ∧
    (∃ (n : Nat) (s : State), rootRuns s = true ∧ n < 2 ∧ (tabGet {} s.x.rf.src n).ppsSeen = true) ∧
    (∃ (n : Nat) (s : State), rootRuns s = true ∧ n < 2 ∧ (tabGet {} s.x.rf.src n).ppsSeen = false ∧ s.qual n = 2) ∧
    (∃ (n : Nat) (ppt : Int) (s : State), rootRuns s = true ∧ n < 5 ∧ n ≠ 2 ∧ s.qual n = 1 ∧ fitEnd .dxd (fitInput
      (inputOf n)) s = some (some ppt) ∧ ppt.natAbs ≤ freqLimitPpb s * 1000 ∧ (3 ≤ n ∨ ((tabGet {} s.x.rf.src
      n).q.isSome = true ∧ (tabGet {} s.x.rf.src n).secEdges = 1 ∧ (tabGet {} s.x.rf.src n).secBad = false))) ∧
    (∃ (n : Nat) (y : Option Int) (s : State), rootRuns s = true ∧ n < 5 ∧ n ≠ 2 ∧ s.qual n = 2 ∧ fitEnd .dxd
      (fitInput (inputOf n)) s = some y) ∧
    (∃ (n : Nat) (m : Nat) (s : State), rootRuns s = true ∧ n < 5 ∧ n ≠ 2 ∧ m < 5 ∧ m ≠ 2 ∧ inputOf m = inputOf n ∧
      (s.qual m = 1 ∨ s.qual m = 2)) ∧
    (∃ (n : Nat) (s : State), rootRuns s = true ∧ n ≤ 5 ∧ (n ≠ 2 ∨ s.x.pt.i1.state = 9) ∧ (s.qual n = 0 ∨ s.qual n =
      3)) ∧
    (∃ (s : State), s.x.pt.i1.state ≠ 9) ∧
    (∃ (s : State), s.x.hold.oscLost = false ∧ inCellar .dxd s = false ∧ s.hfit .dxd fitOsc = none) ∧
    (∃ (y : Option Int) (s : State), s.x.hold.oscLost = false ∧ inCellar .dxd s = false ∧ fitEnd .dxd fitOsc s = some
      y) := by
  refine ⟨?_, ?_, ?_, ?_, ?_, ?_, ?_, ?_, ?_, ?_, ?_, ?_, ?_⟩
  · exact ⟨(modTk .dxd (fun t => { t with ns := 1 }) rt), by decide +kernel⟩
  · exact ⟨rt, (dxdReselect rt), by decide +kernel⟩
  · exact ⟨(modTk .dxd (fun t => { t with htValid := false }) (modRf (fun r => { r with followed := 5 }) (rs 5 2
    rt))), (dxdReselect (modTk .dxd (fun t => { t with htValid := false }) (modRf (fun r => { r with followed := 5 })
    (rs 5 2 rt)))), by decide +kernel⟩
  · exact ⟨0, rt, by decide +kernel⟩
  · exact ⟨0, (modSrc 0 (fun r => { r with ppsSeen := true, misses := 1 }) rt), by decide +kernel⟩
  · exact ⟨0, rt, by decide +kernel⟩
  · exact ⟨1, 0, (ft .dxd (fitInput 1) 10000000000 (modSrc 1 (fun r =>
    { r with q := some 3, good := 7, secEdges := 1 }) (rs 1 1 rt))), by decide +kernel⟩
  · exact ⟨0, (some 0), (ft .dxd (fitInput 0) 10000000000 rt), by decide +kernel⟩
  · exact ⟨0, 0, rt, by decide +kernel⟩
  · exact ⟨0, (rs 0 3 rt), by decide +kernel⟩
  · exact ⟨b0, by decide +kernel⟩
  · exact ⟨b0, by decide +kernel⟩
  · exact ⟨((fitEnd .dxd fitOsc (ft .dxd 0x22 10000000000 rt)).getD none), (ft .dxd 0x22 10000000000 rt),
    by decide +kernel⟩

/-- Values that meet the hypotheses of each clause of `Obligations.SelectionAndHoldover`. -/
theorem witness_SelectionAndHoldover :
    (∃ (rq : Nat) (v : Word) (s : State), WriteTaken .dxd rq 0x1E 0x100 s ∧ s.x.straps.role = 2 ∧ s.x.rf2.acting =
      true ∧ s.x.rf.followed ≠ 0xE ∧ fld v 16 4 < 6 ∧ s.qual (fld v 16 4) = 2) ∧
    (∃ (rq : Nat) (v : Word) (s : State), WriteTaken .dxd rq 0x1E 0x100 s ∧ s.x.straps.role = 2 ∧ s.x.rf2.acting =
      true ∧ s.x.rf.followed < 6 ∧ fld v 16 4 < 6 ∧ s.qual (fld v 16 4) ≠ 2) ∧
    (∃ (rq : Nat) (n : Nat) (s : State), n < 2 ∧ WriteTaken .dxd rq 0x1E (0x120 + 0x10 * n) s ∧ s.x.straps.role = 2 ∧
      s.dc.tk.htValid = false) ∧
    (∃ (rq : Nat) (n : Nat) (s : State), n < 2 ∧ WriteTaken .dxd rq 0x1E (0x120 + 0x10 * n) s ∧ s.dc.tk.htValid =
      true) ∧
    (∃ (s : State), s.x.hold.nY ≠ 0 ∧ s.x.hold.meanSec ≠ s.dc.tk.sec ∧ s.x.hold.skip = false ∧ s.dc.coreA.st = 2 ∧
      s.x.hold.means.length ≤ 63) ∧
    (∃ (s : State), s.x.hold.avail = true ∧ s.dc.tk.state ≠ 3 ∧ s.x.hold.lastRecord + 64000000000 ≤ s.dc.up ∧ (∀ x,
      currentRecord s.x.at_ = some x → x.2.seq + 1 < 2 ^ 32)) ∧
    (∃ (rq : Nat) (v : Word) (s : State), bit v 0 = true ∧ WriteTaken .dxd rq 0x10 0x100 s ∧ s.x.straps.role ≠ 2 ∧ (∀
      x, currentRecord s.x.at_ = some x → x.2.seq + 1 < 2 ^ 32)) ∧
    (∃ (rq : Nat) (s : State) (v : Word), bit v 0 = true ∧ WriteTaken .dxd rq 0x10 0x100 s) ∧
    (∃ (rq : Nat) (v : Word) (s : State), bit v 1 = true ∧ WriteTaken .dxd rq 0x10 0x100 s ∧ s.x.straps.role = 2 ∧
      s.dc.tk.htValid = true ∧ inCellar .dxd s = false ∧ s.dc.tk.sideline = false) ∧
    (∃ (d : Dev) (c : Nat) (ppt : Int) (s : State), coreExists d c = true ∧ setsHeld d s = false ∧ (s.core d c).fit =
      true ∧ (s.com d).tk.htValid = true ∧ firstFit d c s = some (some ppt)) ∧
    (∃ (c : Nat) (s : State), coreExists .tsu c = true ∧ setsHeld .tsu s = false ∧ (s.core .tsu c).fit = true ∧
      s.tc.tk.htValid = true ∧ firstFit .tsu c s = some none) ∧
    (∃ (s : State), s.x.hold.oscLost = false) ∧
    (∃ (s : State), s.x.hold.oscLost = true) := by
  refine ⟨?_, ?_, ?_, ?_, ?_, ?_, ?_, ?_, ?_, ?_, ?_, ?_, ?_⟩
  · exact ⟨1, 0x10000, (rs 1 2 rt), by decide +kernel⟩
  · exact ⟨1, 0x40000, rt, by decide +kernel⟩
  · exact ⟨1, 0, (modTk .dxd (fun t => { t with htValid := false }) rt), by decide +kernel⟩
  · exact ⟨1, 1, rt, by decide +kernel⟩
  · exact ⟨(modHold (fun h => { h with nY := 4, sumY := -9, meanSec := 999, skip := false }) rt), by decide +kernel⟩
  · exact ⟨(modCom .dxd (fun c => { c with up := 64000000000 }) (modHold (fun h =>
    { h with avail := true, rate := 7 }) rt)), by decide +kernel⟩
  · exact ⟨1, 1, (modHold (fun h => { h with rate := 7 }) pk), by decide +kernel⟩
  · exact ⟨1, b0, 3, by decide +kernel⟩
  · exact ⟨1, 2, rt, by decide +kernel⟩
  · exact ⟨.dxd, 0, 0, (ft .dxd (fitFirst 0) 10000000000 (modCore .dxd 0 (fun c =>
    { c with fit := true, running := false }) rt)), by decide +kernel⟩
  · exact ⟨0, (fv .tsu (fitFirst 0) (modCore .tsu 0 (fun c => { c with fit := true, running := false }) b0)),
    by decide +kernel⟩
  · exact ⟨rt, by decide +kernel⟩
  · exact ⟨(modHold (fun h => { h with oscLost := true }) rt), by decide +kernel⟩

/-- Values that meet the hypotheses of each clause of `Obligations.OutputsAndPtp`. -/
theorem witness_OutputsAndPtp :
    (∃ (rq : Nat) (v : Word) (s : State), bit v 63 = true ∧ bit v 62 = false ∧ WriteTaken .dxd rq 0x11 0x110 s ∧
      s.dc.tk.htValid = true ∧ inWindow s.dc.tk.bc (s.reg .dxd 0x11108).toNat = true) ∧
    (∃ (rq : Nat) (v : Word) (s : State), bit v 63 = true ∧ WriteTaken .dxd rq 0x11 0x110 s ∧ inWindow s.dc.tk.bc
      (s.reg .dxd 0x11108).toNat = false) ∧
    (∃ (h : LinkHdr) (ep : Nat) (p : Nat) (f : AlignF) (s : State), Accepts .dxd p h ⟨ep, .align f⟩ s ∧ oseqNew .dxd
      f.oseq s = true ∧ s.dc.tk.htValid = true) ∧
    (∃ (n : Nat) (at_ : Nat) (s : State), n < 3 ∧ (tabGet {} s.x.outs n).pend = some at_ ∧ reached s.dc.tk.bc (at_ % 2
      ^ 48) = true) ∧
    (∃ (n : Nat) (s : State), ((tabGet {} s.x.outs n).aligned = false ∨ bit (s.reg .dxd 0x11100) n = false)) ∧
    (∃ (k : KnownKick) (s : State), k ∈ s.x.kicks ∧ k.strobed = false ∧ k.withdrawn = false ∧ k.k ≤ s.dc.tk.bc) ∧
    (∃ (m : PtpMsg) (stamp : Nat) (a : Nat × Int) (s : State), ptpRuns 2 s = true ∧ m.domain = s.regF .dxd 0x12100 16
      8 ∧ ptpRole 2 s = 1 ∧ m.kind = .delayReq ∧ netMatches 2 m s = true ∧ peerDelay s = false ∧ a = (m.seq, rxTime
      stamp s)) ∧
    (∃ (m : PtpMsg) (a : PtpMsg) (s : State), ptpRuns 1 s = true ∧ m.domain = s.regF .dxd 0x12100 16 8 ∧ ptpRole 1 s =
      2 ∧ m.kind = .sync ∧ netMatches 1 m s = true ∧ m.twoStep = false ∧ s.x.pt.i1.ann = some a ∧ a.source = m.source
      ∧ s.x.pt.i1.state = 8) ∧
    (∃ (m : PtpMsg) (a : PtpMsg) (s : State), ptpRuns 1 s = true ∧ m.domain = s.regF .dxd 0x12100 16 8 ∧ ptpRole 1 s =
      2 ∧ m.kind = .sync ∧ netMatches 1 m s = true ∧ m.twoStep = false ∧ s.x.pt.i1.ann = some a ∧ a.source = m.source
      ∧ s.x.pt.i1.state = 9) ∧
    (∃ (inst : Nat) (m : PtpMsg) (s : State), (ptpRuns inst s = false ∨ netMatches inst m s = false ∨ mechUses m.kind
      s = false)) ∧
    (∃ (m : PtpMsg) (s : State), ptpRuns 2 s = true ∧ ptpRole 2 s = 1 ∧ s.x.pt.i2.state = 6 ∧ m.kind = .sync ∧ bit
      (s.reg .dxd 0x12100) 28 = false) ∧
    (∃ (s : State), s.x.pt.i1.state = 8 ∧ s.x.pt.i1.annAt + announceTimeout s * intervalBeats (logAnnounce s) ≤
      s.dc.up ∧ s.x.straps.role = 2) ∧
    (∃ (s : State), s.x.pt.i1.state = 9 ∧ s.x.pt.i1.annAt + announceTimeout s * intervalBeats (logAnnounce s) ≤
      s.dc.up ∧ s.x.straps.role = 2) ∧
    (∃ (s : State), s.x.pt.i1.state = 9 ∧ s.dc.up < s.x.pt.i1.annAt + announceTimeout s * intervalBeats (logAnnounce
      s) ∧ s.x.pt.i1.syncAt + 3 * intervalBeats (logSync s) ≤ s.dc.up ∧ s.x.straps.role = 2) ∧
    (∃ (s : State) (t : State), PtpListens s ∧ step s = .next t) ∧
    (∃ (rq : Nat) (v : Word) (s : State), WriteTaken .dxd rq 0x12 0x100 s ∧ s.x.straps.role = 2 ∧ fld v 16 8 ≤ 127 ∧
      fld v 26 2 = 1 ∧ s.regF .dxd 0x12100 26 2 = 0 ∧ s.x.pt.i2.state = 3) ∧
    (∃ (rq : Nat) (s : State), ReadTaken .dxd rq 0x12 s) ∧
    (∃ (up : Bool) (s : State), s.x.straps.role = 2 ∧ s.x.pt.linkUp ≠ up) := by
  refine ⟨?_, ?_, ?_, ?_, ?_, ?_, ?_, ?_, ?_, ?_, ?_, ?_, ?_, ?_, ?_, ?_, ?_, ?_⟩
  · exact ⟨1, 0x8000000000000007, (setReg .dxd 0x11108 (BitVec.allOnes 64) 1000001000000 rt), by decide +kernel⟩
  · exact ⟨1, 0x8000000000000007, (setReg .dxd 0x11108 (BitVec.allOnes 64) 9223372036854775808 rt), by decide +kernel⟩
  · exact ⟨hd1, 5, 192, ⟨9, 1000001000000 % 2 ^ 48, 7⟩, pk, by decide +kernel⟩
  · exact ⟨1, 1000000000000, (modX (fun x => { x with outs := [(1, { pend := some 1000000000000 })] }) rt),
    by decide +kernel⟩
  · exact ⟨1, b0, by decide +kernel⟩
  · exact ⟨⟨5, 3, 0, 1000000000000, true, false, false, false⟩, (modX (fun x =>
    { x with kicks := [⟨5, 3, 0, 1000000000000, true, false, false, false⟩] }) pk), by decide +kernel⟩
  · exact
    ⟨{ ptpM with kind := .delayReq, domain := rp.regF .dxd 0x12100 16 8, net := netOf 2 .delayReq false (setReg .dxd 0x12100 (BitVec.allOnes 64) 0x04000000 rp) },
    77, ((7, rxTime 77 rp)), (setReg .dxd 0x12100 (BitVec.allOnes 64) 0x04000000 rp), by decide +kernel⟩
  · exact ⟨{ ptpM with kind := .sync, domain := rp.regF .dxd 0x12100 16 8, net := netOf 1 .sync false rp }, ptpM,
    (modInst 1 (fun i => { i with ann := some ptpM, state := 8 }) rp), by decide +kernel⟩
  · exact ⟨{ ptpM with kind := .sync, domain := rp.regF .dxd 0x12100 16 8, net := netOf 1 .sync false rp }, ptpM,
    (modInst 1 (fun i => { i with ann := some ptpM, state := 9, slaveFrom := 5, slaveSecs := 3 }) rp),
    by decide +kernel⟩
  · exact ⟨1, ptpM, rt, by decide +kernel⟩
  · exact ⟨ptpM, (modInst 2 (fun i => { i with state := 6 }) (setReg .dxd 0x12100 (BitVec.allOnes 64) 0x04000000 rp)),
    by decide +kernel⟩
  · exact ⟨(modCom .dxd (fun c => { c with up := 100000000000 }) (modInst 1 (fun i =>
    { i with state := 8, ann := some ptpM }) rp)), by decide +kernel⟩
  · exact ⟨(rs 2 2 (modCom .dxd (fun c => { c with up := 100000000000 }) (modInst 1 (fun i =>
    { i with state := 9, ann := some ptpM }) rp))), by decide +kernel⟩
  · exact ⟨(rs 2 2 (modCom .dxd (fun c => { c with up := 100000000000 }) (modInst 1 (fun i =>
    { i with state := 9, ann := some ptpM, annAt := 99999999999, slaveSecs := 3 }) rp))), by decide +kernel⟩
  · exact ⟨{ modInst 1 (fun i => { i with state := 9, ann := some ptpM }) rp with pending := [.ptpAnnounceTimeout] },
    _, by decide +kernel, rfl⟩
  · exact ⟨1, 0x04000000, (setReg .dxd 0x12100 (BitVec.allOnes 64) 0 rt), by decide +kernel⟩
  · exact ⟨1, (modPt (fun p => { p with txCheck := 9, i1 := { meanPath := -3 } }) rt), by decide +kernel⟩
  · exact ⟨true, rt, by decide +kernel⟩

/-- Values that meet the hypotheses of each clause of `Obligations.BayCorrections`. -/
theorem witness_BayCorrections :
    (∃ (s : State), s.tc.tk.bc % 1024 ≠ 0) ∧
    (∃ (s : State), s.tc.boot.stage = 6 ∧ s.tc.tk.bc % 1024 = 0) ∧
    (∃ (s : State), s.tc.boot.stage = 6 ∧ s.tc.tk.bc % 1024 = 0) ∧
    (∃ (b : Nat) (u0 : Nat) (du : Nat) (db : Nat) (s : State), bayServed s b = true ∧ incGate s b ≤ (s.bay b).gateN ∧
      (s.bay b).pendCorr = none ∧ (s.bay b).gateU = some u0 ∧ du = ((s.bay b).latchU + 2 ^ 54 - u0) % 2 ^ 54 ∧ du ≠ 0
      ∧ db = (s.bay b).latchB - (s.bay b).gateB) ∧
    (∃ (b : Nat) (y : Option Int) (s : State), bayExists s b = true ∧ setsHeld .tsu s = false ∧ fitEnd .tsu (fitBay b)
      s = some y) ∧
    (∃ (s : State) (b : Nat), bayExists s b = true ∧ (s.bay b).refLoss = false ∧ s.tc.fuse.kind ≠ .w) ∧
    (∃ (b : Nat) (s : State), bayExists s b = true) ∧
    (∃ (s : State) (b : Nat), bayExists s b = true ∧ (s.bay b).dead = false ∧ (s.bay b).stopped = false) ∧
    (∃ (b : Nat) (s : State), (s.bay b).stopped = true) ∧
    (∃ (s : State) (b : Nat) (n : Nat), bayExists s b = true ∧ (s.bay b).stopped = false ∧ ((bayAdaptive s b = true ∧
      64 ≤ n ∧ n ≤ 96) ∨ (bayAdaptive s b = false ∧ n = 64))) := by
  refine ⟨?_, ?_, ?_, ?_, ?_, ?_, ?_, ?_, ?_, ?_⟩
  · exact ⟨(modTk .tsu (fun t => { t with ns := 1 }) b0), by decide +kernel⟩
  · exact ⟨b0, by decide +kernel⟩
  · exact ⟨(setReg .tsu 0x6110 0xFFFF 0xFFFF b0), by decide +kernel⟩
  · exact ⟨0, 0, 64000, 1048576, (modBay 0 (fun y =>
    { y with gateN := 1024, gateU := some 0, latchU := 64000, latchB := 1048576, gateB := 0 }) b0), by decide +kernel⟩
  · exact ⟨0, none, (modCom .tsu (fun c =>
    { c with hfits := [(0, some ⟨0x10, 0, 1, { st := 2, n := 3, voidEdge := true }⟩)] }) b0), by decide +kernel⟩
  · exact ⟨b0, 15, by decide +kernel⟩
  · exact ⟨0, (modBay 0 (fun y => { y with refLoss := true }) b0), by decide +kernel⟩
  · exact ⟨b0, 0, by decide +kernel⟩
  · exact ⟨0, (modBay 0 (fun y => { y with stopped := true }) b0), by decide +kernel⟩
  · exact ⟨b0, 12, 96, by decide +kernel⟩

/-- Values that meet the hypotheses of each clause of `Obligations.BayChanges`. -/
theorem witness_BayChanges :
    (∃ (s : State) (b : Nat), bayExists s b = true) ∧
    (∃ (n : Nat) (a : Nat) (s : State), (s.baySet n).phase = 1 ∧ a ∈ (s.baySet n).members ∧ (s.bay a).dead = false) ∧
    (∃ (b : Nat) (n : Nat) (s : State), n = (changeOf s b).getD (baySetOf s b) ∧ bayServed s b = true ∧ (s.baySet
      n).phase = 2 ∧ (∀ a, a ∈ (s.baySet n).acked → a.1 ≠ b)) ∧
    (∃ (b : Nat) (s : State), bayServed s b = true ∧ (s.bay b).stopReq = true ∧ (s.baySet ((changeOf s b).getD
      (baySetOf s b))).phase ≠ 2) ∧
    (∃ (b : Nat) (n : Nat) (at_ : Nat) (x : BaySet) (s : State), n = (changeOf s b).getD (baySetOf s b) ∧ x = s.baySet
      n ∧ bayExists s b = true ∧ (s.bay b).dead = false ∧ (s.bay b).stopped = true ∧ x.phase = 2 ∧ (b, at_) ∈ x.acked)
      ∧
    (∃ (b : Nat) (x : BaySet) (s : State), x = s.baySet ((changeOf s b).getD (baySetOf s b)) ∧ bayExists s b = true ∧
      (s.bay b).dead = false ∧ x.phase = 2 ∧ (∀ a, a ∈ x.acked → a.1 ≠ b) ∧ x.since + 64 ≤ s.tc.up) ∧
    (∃ (rq : Nat) (s : State) (c : Nat) (v : Word), c < 32 ∧ WriteTaken .tsu rq 0x03 (0xE00 + 8 * c) s ∧ (bit v 63 =
      false ∨ baySetOf s (xcSender v) = baySetOf s (xcReceiver v))) ∧
    (∃ (rq : Nat) (c : Nat) (v : Word) (s : State), c < 32 ∧ WriteTaken .tsu rq 0x03 (0xE00 + 8 * c) s ∧ bit v 63 =
      true ∧ baySetOf s (xcSender v) ≠ baySetOf s (xcReceiver v)) ∧
    (∃ (rq : Nat) (s : State) (b : Nat) (v : Word), b < 16 ∧ WriteTaken .tsu rq 0x03 (0x200 + 0x40 * b) s ∧ bayExists
      s b = true ∧ (fld v 8 4 = baySetOf s b ∨ splitsCrossing s b (fld v 8 4) = false)) ∧
    (∃ (rq : Nat) (b : Nat) (v : Word) (s : State), b < 16 ∧ WriteTaken .tsu rq 0x03 (0x200 + 0x40 * b) s ∧ bayExists
      s b = true ∧ fld v 8 4 ≠ baySetOf s b ∧ splitsCrossing s b (fld v 8 4) = true) ∧
    (∃ (rq : Nat) (s : State) (b : Nat) (pt : Nat), b < 16 ∧ pt < 16 ∧ WriteTaken .tsu rq 0x03 (0x600 + 0x80 * b + 8 *
      pt) s ∧ bayExists s b = true) ∧
    (∃ (rq : Nat) (b : Nat) (s : State), b < 16 ∧ ReadTaken .tsu rq 0x03 s) ∧
    (∃ (rq : Nat) (c : Nat) (s : State), c < 32 ∧ ReadTaken .tsu rq 0x03 s) := by
  refine ⟨?_, ?_, ?_, ?_, ?_, ?_, ?_, ?_, ?_, ?_, ?_, ?_, ?_⟩
  · exact ⟨b0, 0, by decide +kernel⟩
  · exact ⟨0, 0, (modBaySet 0 (fun x => { x with phase := 1, point := 2, members := [0] }) b0), by decide +kernel⟩
  · exact ⟨0, 0, (modBaySet 0 (fun x => { x with phase := 2, members := [0] }) b0), by decide +kernel⟩
  · exact ⟨3, (modBay 3 (fun y => { y with stopReq := true }) b0), by decide +kernel⟩
  · exact ⟨0, 0, 5, { phase := 2, acked := [(0, 5)], point := 0 }, (modBay 0 (fun y =>
    { y with stopped := true, stopReq := true }) (modBaySet 0 (fun _ => { phase := 2, acked := [(0, 5)], point := 0 })
    b0)), by decide +kernel⟩
  · exact ⟨0, { phase := 2 }, (modBaySet 0 (fun _ => { phase := 2 }) b0), by decide +kernel⟩
  · exact ⟨1, b0, 31, 0x8010000000000000, by decide +kernel⟩
  · exact ⟨1, 0, 0x8010000000000000, (setReg .tsu 0x3200 (BitVec.allOnes 64) 0x1100 b0), by decide +kernel⟩
  · exact ⟨1, b0, 15, 0x0003, by decide +kernel⟩
  · exact ⟨1, 0, 0x0100, (setReg .tsu 0x3E00 (BitVec.allOnes 64) 0x8010000000000000 b0), by decide +kernel⟩
  · exact ⟨1, b0, 0, 15, by decide +kernel⟩
  · exact ⟨1, 0, (modBay 0 (fun y => { y with changes := 3, deferred := 2 }) b0), by decide +kernel⟩
  · exact ⟨1, 31, (modXing 31 (fun x => { x with stalls := 3, peak := 2, slip := -3 }) b0), by decide +kernel⟩

/-- Values that meet the hypotheses of each clause of `Obligations.ArmAndCallOff`. -/
theorem witness_ArmAndCallOff :
    (∃ (p : Nat) (h : LinkHdr) (ep : Nat) (s : State) (f : ArmF), Accepts .tsu p h ⟨ep, .arm f⟩ s ∧ oseqNew .tsu
      f.oseq s = true ∧ isNewArming f s = true ∧ armRefusal (extend48 s.tc.tk.bc f.kick) s = none ∧ (∀ pd,
      s.t.cue.lead.wait ≠ some (.arm pd))) ∧
    (∃ (p : Nat) (h : LinkHdr) (ep : Nat) (s : State) (f : ArmF) (n : Nat), Accepts .tsu p h ⟨ep, .arm f⟩ s ∧ oseqNew
      .tsu f.oseq s = true ∧ isNewArming f s = true ∧ armRefusal (extend48 s.tc.tk.bc f.kick) s = some n) ∧
    (∃ (p : Nat) (h : LinkHdr) (ep : Nat) (f : ArmF) (r : StepRec) (s : State), Accepts .tsu p h ⟨ep, .arm f⟩ s ∧
      oseqNew .tsu f.oseq s = true ∧ isNewArming f s = false ∧ retimed f s = some r ∧ s.tc.tk.bc + 1024 ≤ extend48
      s.tc.tk.bc f.kick) ∧
    (∃ (h : LinkHdr) (ep : Nat) (f : ArmF) (p : Nat) (s : State), Accepts .dxd p h ⟨ep, .arm f⟩ s ∧ oseqNew .dxd
      f.oseq s = true ∧ (∀ q, q ∈ s.x.kicks → q.is ep f.step f.attempt = true → s.dc.tk.bc + 512 ≤ q.k)) ∧
    (∃ (p : Nat) (h : LinkHdr) (ep : Nat) (f : CallOffF) (s : State), Accepts .tsu p h ⟨ep, .callOff f⟩ s ∧ oseqNew
      .tsu f.oseq s = true ∧ (∀ r, dueKick s = some r → r.decision ≠ some .fire ∨ r.missed = true ∨ r.step < f.step))
      ∧
    (∃ (p : Nat) (h : LinkHdr) (ep : Nat) (f : CallOffF) (r : StepRec) (s : State), Accepts .tsu p h ⟨ep, .callOff f⟩
      s ∧ oseqNew .tsu f.oseq s = true ∧ dueKick s = some r ∧ r.decision = some .fire ∧ r.missed = false ∧ f.step ≤
      r.step) ∧
    (∃ (h : LinkHdr) (ep : Nat) (f : CallOffF) (p : Nat) (s : State), Accepts .dxd p h ⟨ep, .callOff f⟩ s ∧ oseqNew
      .dxd f.oseq s = true) ∧
    (∃ (p : Nat) (h : LinkHdr) (ep : Nat) (f : CensusDnF) (s : State), Accepts .tsu p h ⟨ep, .censusDn f⟩ s ∧ Unseen
      .tsu (.censusDn ep f.kind f.slot f.step f.attempt f.outcome) s ∧ ((f.kind = 0 ∧ f.outcome = 1) ∨ (f.kind = 1 ∧
      f.outcome = 0))) ∧
    (∃ (p : Nat) (h : LinkHdr) (ep : Nat) (f : CensusDnF) (s : State), Accepts .tsu p h ⟨ep, .censusDn f⟩ s ∧ Unseen
      .tsu (.censusDn ep f.kind f.slot f.step f.attempt f.outcome) s ∧ f.kind ≠ 2 ∧ f.outcome = 2 ∧ s.t.steps.any (fun
      r => r.step == f.step && r.attempt == f.attempt && r.st == .done) = true) ∧
    (∃ (h : LinkHdr) (ep : Nat) (f : CensusDnF) (p : Nat) (s : State), Accepts .dxd p h ⟨ep, .censusDn f⟩ s ∧ Unseen
      .dxd (.censusDn ep f.kind f.slot f.step f.attempt f.outcome) s) := by
  refine ⟨?_, ?_, ?_, ?_, ?_, ?_, ?_, ?_, ?_, ?_⟩
  · exact ⟨0, hd1, 5, b0, arm1, by decide +kernel, by decide +kernel, by decide +kernel, by decide +kernel,
    (fun _ h => nomatch h)⟩
  · exact ⟨0, hd1, 5, b0, { arm1 with kick := 1000000001023 % 2 ^ 48 }, 2, by decide +kernel⟩
  · exact ⟨0, hd1, 5, { arm1 with kick := 1000000001024 % 2 ^ 48 }, (sr .armed 1000000000900), (wr [sr .armed
    1000000000900] (modMem (fun m => { m with attempts := [(3, 1)], expected := some 4 }) b0)), by decide +kernel⟩
  · exact ⟨hd1, 5, arm1, 192, (modCs (fun c => { c with served := [⟨5, [0, 1], [], true, [], [], 0⟩] }) pk),
    by decide +kernel⟩
  · exact ⟨0, hd1, 5, ⟨9, 3, 0, 1⟩, (wr [sr .armed 1000000000900] (modMem (fun m =>
    { m with attempts := [(3, 1)], expected := some 4 }) b0)), by decide +kernel⟩
  · exact ⟨0, hd1, 5, ⟨9, 2, 0, 1⟩, { sr .armed 999999999000 with decision := some .fire }, (wr
    [{ sr .armed 999999999000 with decision := some .fire }] b0), by decide +kernel⟩
  · exact ⟨hd1, 5, ⟨9, 2, 0, 1⟩, 192, (modCs (fun c => { c with served := [⟨5, [0, 1], [], true, [], [], 0⟩] }) pk),
    by decide +kernel⟩
  · exact ⟨0, hd1, 5, ⟨0, 3, 3, 0, 1, 4⟩, (wr [{ sr .armed 2000000000000 with accepted := false }] b0),
    by decide +kernel⟩
  · exact ⟨0, hd1, 5, ⟨1, 3, 3, 0, 2, 4⟩, (wr [sr .done 2000000000000] b0), by decide +kernel⟩
  · exact ⟨hd1, 5, ⟨1, 3, 3, 0, 2, 4⟩, 192, (modCs (fun c => { c with served := [⟨5, [0, 1], [], true, [], [], 0⟩] })
    pk), by decide +kernel⟩

/-- Values that meet the hypotheses of each clause of `Obligations.Kickoffs`. -/
theorem witness_Kickoffs :
    (∃ (r : StepRec) (s : State), lowestArmed s.t.steps = some r ∧ r.decision = none ∧ r.k ≤ s.tc.tk.bc + 512) ∧
    (∃ (r : StepRec) (s : State), dueKick s = some r ∧ r.decision = some .fire ∧ r.missed = false) ∧
    (∃ (r : StepRec) (s : State), dueKick s = some r ∧ (r.decision ≠ some .fire ∨ r.missed = true)) ∧
    (∃ (s : State), dueKick s = none) ∧
    (∃ (j : Nat) (b : Job) (s : State), s.job j = some b) := by
  refine ⟨?_, ?_, ?_, ?_, ?_⟩
  · exact ⟨(sr .armed 1000000000512), (wr [(sr .armed 1000000000512)] b0), by decide +kernel⟩
  · exact ⟨{ sr .armed 1000000000000 with decision := some .fire }, (modBay 0 (fun y => { y with lbcValid := true })
    (wr [{ sr .armed 1000000000000 with decision := some .fire }] b0)), by decide +kernel⟩
  · exact ⟨{ sr .armed 1000000000000 with decision := some .held, inLead := true }, (wr
    [{ sr .armed 1000000000000 with decision := some .held, inLead := true }] b0), by decide +kernel⟩
  · exact ⟨b0, by decide +kernel⟩
  · exact ⟨1, { job1 with steps := [rs1 1 1000000000000] }, (rj { job1 with steps := [rs1 1 1000000000000] }),
    by decide +kernel⟩

/-- Values that meet the hypotheses of each clause of `Obligations.RootSteps`. -/
theorem witness_RootSteps :
    (∃ (j : Nat) (b : Job) (s : State), s.job j = some b ∧ rootActs s = true ∧ armSendOk b s = true ∧ exhausted b
      b.nextStep = false) ∧
    (∃ (j : Nat) (b : Job) (s : State), s.job j = some b ∧ rootActs s = true ∧ armSendOk b s = true ∧ exhausted b
      b.nextStep = true) ∧
    (∃ (j : Nat) (b : Job) (s : State), s.job j = some b ∧ (rootActs s = false ∨ armSendOk b s = false)) ∧
    (∃ (j : Nat) (step : Nat) (r : RStep) (b : Job) (s : State), s.job j = some b ∧ rootActs s = true ∧ b.steps.find?
      (fun r => r.step == step && r.isArmed) = some r ∧ r.checked = false ∧ r.k ≤ s.dc.tk.bc + 10000 ∧ r.armDone =
      true ∧ prevDone b step = true) ∧
    (∃ (j : Nat) (step : Nat) (r : RStep) (b : Job) (s : State), s.job j = some b ∧ rootActs s = true ∧ b.steps.find?
      (fun r => r.step == step && r.isArmed) = some r ∧ r.checked = false ∧ r.k ≤ s.dc.tk.bc + 10000 ∧ r.armDone =
      false ∧ b.ending = none ∧ b.pause = none ∧ 1 ≤ b.state ∧ b.state ≤ 4) ∧
    (∃ (j : Nat) (step : Nat) (r : RStep) (b : Job) (s : State), s.job j = some b ∧ rootActs s = true ∧ b.ending =
      none ∧ b.pause = none ∧ 1 ≤ b.state ∧ b.state ≤ 4 ∧ r ∈ b.steps ∧ r.step = step ∧ r.launched = true ∧
      (r.doneDone = false ∨ r.hall = none) ∧ r.withdrawn = false ∧ r.committed = false ∧ r.k + b.sched.stepTimeout ≤
      s.dc.tk.bc) := by
  refine ⟨?_, ?_, ?_, ?_, ?_, ?_⟩
  · exact ⟨1, { job1 with nextStep := 0 }, (rj { job1 with nextStep := 0 }), by decide +kernel⟩
  · exact ⟨1, { job1 with nextStep := 0, steps := [{ rs1 0 999999950000 with withdrawn := true, attempt := 2 }] }, (rj
    { job1 with nextStep := 0, steps := [{ rs1 0 999999950000 with withdrawn := true, attempt := 2 }] }),
    by decide +kernel⟩
  · exact ⟨1, job1, (modRef (fun r => { r with acting := false }) (rj job1)), by decide +kernel⟩
  · exact ⟨1, 0, { rs1 0 1000000010000 with armDone := true },
    { job1 with steps := [{ rs1 0 1000000010000 with armDone := true }] }, (rj
    { job1 with steps := [{ rs1 0 1000000010000 with armDone := true }] }), by decide +kernel⟩
  · exact ⟨1, 0, (rs1 0 1000000010000), { job1 with steps := [rs1 0 1000000010000] }, (rj
    { job1 with steps := [rs1 0 1000000010000] }), by decide +kernel⟩
  · exact ⟨1, 0, { rs1 0 999999900000 with launched := true },
    { job1 with steps := [{ rs1 0 999999900000 with launched := true }] }, (rj
    { job1 with steps := [{ rs1 0 999999900000 with launched := true }] }), by decide +kernel⟩

/-- Values that meet the hypotheses of each clause of `Obligations.CueRegisters`. -/
theorem witness_CueRegisters :
    (∃ (th : Thread) (e : Ecc) (pd : BitVec 4) (imm : BitVec 16) (s : State), Issues th e (.li pd imm) s) ∧
    (∃ (th : Thread) (e : Ecc) (pd : BitVec 4) (k : BitVec 2) (imm : BitVec 16) (s : State), Issues th e (.lis pd k
      imm) s) ∧
    (∃ (th : Thread) (e : Ecc) (pd : BitVec 4) (pa : BitVec 4) (s : State), Issues th e (.mov pd pa) s) ∧
    (∃ (th : Thread) (e : Ecc) (pd : BitVec 4) (pa : BitVec 4) (pb : BitVec 4) (s : State), Issues th e (.add pd pa
      pb) s) ∧
    (∃ (th : Thread) (e : Ecc) (pd : BitVec 4) (pa : BitVec 4) (pb : BitVec 4) (s : State), Issues th e (.sub pd pa
      pb) s) ∧
    (∃ (th : Thread) (e : Ecc) (pd : BitVec 4) (pa : BitVec 4) (imm : BitVec 16) (s : State), Issues th e (.addi pd pa
      imm) s) ∧
    (∃ (th : Thread) (e : Ecc) (pd : BitVec 4) (pa : BitVec 4) (pb : BitVec 4) (s : State), Issues th e (.and pd pa
      pb) s) ∧
    (∃ (th : Thread) (e : Ecc) (pd : BitVec 4) (pa : BitVec 4) (pb : BitVec 4) (s : State), Issues th e (.or pd pa pb)
      s) ∧
    (∃ (th : Thread) (e : Ecc) (pd : BitVec 4) (pa : BitVec 4) (pb : BitVec 4) (s : State), Issues th e (.xor pd pa
      pb) s) ∧
    (∃ (th : Thread) (e : Ecc) (pd : BitVec 4) (pa : BitVec 4) (sh : BitVec 6) (s : State), Issues th e (.shl pd pa
      sh) s) ∧
    (∃ (th : Thread) (e : Ecc) (pd : BitVec 4) (pa : BitVec 4) (sh : BitVec 6) (s : State), Issues th e (.shr pd pa
      sh) s) ∧
    (∃ (th : Thread) (e : Ecc) (pd : BitVec 4) (src : BitVec 8) (s : State) (v : Word), Issues th e (.get pd src) s ∧
      getSource th src.toNat s = .ok v) ∧
    (∃ (th : Thread) (e : Ecc) (s : State), Issues th e .nop s) ∧
    (∃ (th : Thread) (e : Ecc) (lh : BitVec 12) (rh : BitVec 12) (s : State), Issues th e (.calloff lh rh) s) ∧
    (∃ (th : Thread) (e : Ecc) (tgt : BitVec 12) (s : State), Issues th e (.b tgt) s) ∧
    (∃ (th : Thread) (e : Ecc) (pa : BitVec 4) (pb : BitVec 4) (tgt : BitVec 12) (s : State), Issues th e (.beq pa pb
      tgt) s) ∧
    (∃ (th : Thread) (e : Ecc) (pa : BitVec 4) (pb : BitVec 4) (tgt : BitVec 12) (s : State), Issues th e (.bne pa pb
      tgt) s) ∧
    (∃ (th : Thread) (e : Ecc) (pa : BitVec 4) (pb : BitVec 4) (tgt : BitVec 12) (s : State), Issues th e (.blt pa pb
      tgt) s) ∧
    (∃ (th : Thread) (e : Ecc) (pa : BitVec 4) (pb : BitVec 4) (tgt : BitVec 12) (s : State), Issues th e (.bltu pa pb
      tgt) s) ∧
    (∃ (th : Thread) (e : Ecc) (pa : BitVec 4) (tgt : BitVec 12) (s : State), Issues th e (.bz pa tgt) s) ∧
    (∃ (th : Thread) (e : Ecc) (pa : BitVec 4) (tgt : BitVec 12) (s : State), Issues th e (.bnz pa tgt) s) ∧
    (∃ (th : Thread) (e : Ecc) (pa : BitVec 4) (tgt : BitVec 12) (s : State), Issues th e (.loop pa tgt) s) := by
  refine ⟨?_, ?_, ?_, ?_, ?_, ?_, ?_, ?_, ?_, ?_, ?_, ?_, ?_, ?_, ?_, ?_, ?_, ?_, ?_, ?_, ?_, ?_⟩
  · exact ⟨.run, .clean, 2, 0x8000, (cu .run (.li 2 0x8000) b0), by decide +kernel⟩
  · exact ⟨.run, .clean, 2, 3, 0x8000, (cu .run (.lis 2 3 0x8000) b0), by decide +kernel⟩
  · exact ⟨.run, .clean, 2, 1, (cu .run (.mov 2 1) b0), by decide +kernel⟩
  · exact ⟨.run, .clean, 2, 1, 0, (cu .run (.add 2 1 0) b0), by decide +kernel⟩
  · exact ⟨.run, .clean, 2, 0, 1, (cu .run (.sub 2 0 1) b0), by decide +kernel⟩
  · exact ⟨.run, .clean, 2, 1, 0xFFFF, (cu .run (.addi 2 1 0xFFFF) b0), by decide +kernel⟩
  · exact ⟨.run, .clean, 2, 1, 0, (cu .run (.and 2 1 0) b0), by decide +kernel⟩
  · exact ⟨.run, .clean, 2, 1, 0, (cu .run (.or 2 1 0) b0), by decide +kernel⟩
  · exact ⟨.run, .clean, 2, 1, 1, (cu .run (.xor 2 1 1) b0), by decide +kernel⟩
  · exact ⟨.run, .clean, 2, 1, 63, (cu .run (.shl 2 1 63) b0), by decide +kernel⟩
  · exact ⟨.run, .clean, 2, 1, 3, (cu .run (.shr 2 1 3) b0), by decide +kernel⟩
  · exact ⟨.run, .clean, 2, 4, (cu .run (.get 2 4) b0), (wd [(0, 1000000000000)]), by decide +kernel⟩
  · exact ⟨.run, .clean, (cu .run (.nop ) b0), by decide +kernel⟩
  · exact ⟨.run, .clean, 5, 6, (cu .run (.calloff 5 6) b0), by decide +kernel⟩
  · exact ⟨.run, .clean, 5, (cu .run (.b 5) b0), by decide +kernel⟩
  · exact ⟨.run, .clean, 1, 1, 5, (cu .run (.beq 1 1 5) b0), by decide +kernel⟩
  · exact ⟨.run, .clean, 1, 1, 5, (cu .run (.bne 1 1 5) b0), by decide +kernel⟩
  · exact ⟨.run, .clean, 0, 1, 5, (cu .run (.blt 0 1 5) b0), by decide +kernel⟩
  · exact ⟨.run, .clean, 0, 1, 5, (cu .run (.bltu 0 1 5) b0), by decide +kernel⟩
  · exact ⟨.run, .clean, 0, 5, (cu .run (.bz 0 5) b0), by decide +kernel⟩
  · exact ⟨.run, .clean, 0, 5, (cu .run (.bnz 0 5) b0), by decide +kernel⟩
  · exact ⟨.run, .clean, 0, 5, (cu .run (.loop 0 5) b0), by decide +kernel⟩

/-- Values that meet the hypotheses of each clause of `Obligations.CueSteps`. -/
theorem witness_CueSteps :
    (∃ (th : Thread) (e : Ecc) (s : State), Issues th e .halt s) ∧
    (∃ (e : Ecc) (r : StepRec) (s : State), Issues .run e .done s ∧ curRec .run s = some r ∧ r.launched = true) ∧
    (∃ (e : Ecc) (pd : BitVec 4) (r : StepRec) (s : State), Issues .lead e (.arm pd) s ∧ s.t.cue.passed = [] ∧
      bindable s = some r) ∧
    (∃ (e : Ecc) (pd : BitVec 4) (s : State), Issues .lead e (.arm pd) s ∧ s.t.cue.passed = [] ∧ bindable s = none) ∧
    (∃ (e : Ecc) (pd : BitVec 4) (r : StepRec) (s : State), Issues .run e (.kick pd) s ∧ unreturned s = some r) ∧
    (∃ (e : Ecc) (pd : BitVec 4) (s : State), Issues .run e (.kick pd) s ∧ unreturned s = none) ∧
    (∃ (th : Thread) (e : Ecc) (off : BitVec 24) (k : Nat) (s : State), Issues th e (.waitk off) s ∧ curKick th s =
      some k) ∧
    (∃ (th : Thread) (e : Ecc) (inc : BitVec 24) (n : Nat) (s : State), Issues th e (.waitn inc) s ∧ (getThr s.t.cue
      th).t = some n) ∧
    (∃ (th : Thread) (e : Ecc) (pa : BitVec 4) (s : State), Issues th e (.waitr pa) s ∧ inWindow s.tc.tk.bc (s.p
      pa.toNat).toNat = true) ∧
    (∃ (th : Thread) (n : Nat) (s : State), (getThr s.t.cue th).wait = some (.beat n) ∧ reached s.tc.tk.bc n = true ∧
      threadsHeld s = false) ∧
    (∃ (th : Thread) (n : Nat) (s : State), (getThr s.t.cue th).wait = some (.beat n) ∧ (reached s.tc.tk.bc n = false
      ∨ threadsHeld s = true)) := by
  refine ⟨?_, ?_, ?_, ?_, ?_, ?_, ?_, ?_, ?_, ?_, ?_⟩
  · exact ⟨.run, .clean, (cu .run .halt (rn b0)), by decide +kernel⟩
  · exact ⟨.clean, (sr .launched 999999999000), (cu .run .done (rn b0)), by decide +kernel⟩
  · exact ⟨.clean, 8, (sr .armed 2000000000000), (cu .lead (.arm 8) (wr [sr .armed 2000000000000] b0)),
    by decide +kernel⟩
  · exact ⟨.clean, 8, (cu .lead (.arm 8) (wr [{ sr .armed 2000000000000 with bound := true },
    { sr .done 5 with bound := true }] b0)), by decide +kernel⟩
  · exact ⟨.clean, 1, (sr .launched 999999999000), (cu .run (.kick 1) (wr [sr .launched 999999999000] b0)),
    by decide +kernel⟩
  · exact ⟨.clean, 1, (cu .run (.kick 1) (wr [sr .armed 2000000000000] b0)), by decide +kernel⟩
  · exact ⟨.run, .clean, 0xFFFFFF, 999999999000, (cu .run (.waitk 0xFFFFFF) (rn b0)), by decide +kernel⟩
  · exact ⟨.run, .clean, 2000, 999999999000, (cu .run (.waitn 2000) (rn b0)), by decide +kernel⟩
  · exact ⟨.run, .clean, 1, (cu .run (.waitr 1) b0), by decide +kernel⟩
  · exact ⟨.run, 1000000000000, (tq .run (fun t => { t with st := 2, wait := some (.beat 1000000000000) }) b0),
    by decide +kernel⟩
  · exact ⟨.run, 1000000000001, (tq .run (fun t => { t with st := 2, wait := some (.beat 1000000000001) }) b0),
    by decide +kernel⟩

/-- Values that meet the hypotheses of each clause of `Obligations.CueUnits`. -/
theorem witness_CueUnits :
    (∃ (e : Ecc) (pa : BitVec 4) (slot : BitVec 12) (k : CurStep) (s : State), Issues .run e (.hent pa slot) s ∧
      s.t.cue.run.cur = some k ∧ huddleOf slot.toNat k s = none ∧ runLaunched s = true ∧ creditsUsed s < 16) ∧
    (∃ (e : Ecc) (pa : BitVec 4) (slot : BitVec 12) (k : CurStep) (s : State), Issues .run e (.hent pa slot) s ∧
      s.t.cue.run.cur = some k ∧ huddleOf slot.toNat k s = none ∧ runLaunched s = true ∧ 16 ≤ creditsUsed s) ∧
    (∃ (e : Ecc) (pd : BitVec 4) (slot : BitVec 12) (k : CurStep) (h : Huddle) (n : Nat) (s : State), Issues .run e
      (.hawait pd slot) s ∧ s.t.cue.run.cur = some k ∧ huddleOf slot.toNat k s = some h ∧ h.out = some (1, n)) ∧
    (∃ (e : Ecc) (pd : BitVec 4) (slot : BitVec 12) (k : CurStep) (h : Huddle) (s : State), Issues .run e (.hawait pd
      slot) s ∧ s.t.cue.run.cur = some k ∧ huddleOf slot.toNat k s = some h ∧ h.out = none) ∧
    (∃ (th : Thread) (e : Ecc) (n1 : BitVec 4) (cell : BitVec 16) (x : Cell) (s : State), Issues th e (.post n1 cell)
      s ∧ x = s.cell cell.toNat ∧ countOk (x.count + (n1.toNat + 1)) = true) ∧
    (∃ (th : Thread) (e : Ecc) (r : BitVec 4) (cell : BitVec 16) (x : Cell) (s : State), Issues th e (.postt r cell) s
      ∧ x = s.cell cell.toNat ∧ tabGet 0 x.held r.toNat < 15) ∧
    (∃ (th : Thread) (e : Ecc) (r : BitVec 4) (n1 : BitVec 4) (cell : BitVec 16) (x : Cell) (w : List (Nat × Option
      Waiter)) (g : Nat) (s : State), Issues th e (.cwait r n1 cell) s ∧ x = s.cell cell.toNat ∧ hasWaiter s
      cell.toNat r.toNat = false ∧ w = tabSet none x.waiters r.toNat (some ⟨n1.toNat + 1, .thread th⟩) ∧ g = x.granted
      - (if x.granted.testBit r.toNat then 2 ^ r.toNat else 0)) ∧
    (∃ (th : Thread) (e : Ecc) (cell : BitVec 16) (x : Cell) (s : State), Issues th e (.creset cell) s ∧ x = s.cell
      cell.toNat) ∧
    (∃ (th : Thread) (e : Ecc) (ps : BitVec 4) (w : BitVec 12) (s : State), Issues th e (.resv ps w) s ∧ hasStock s =
      true ∧ w ≠ 0 ∧ leaveStepOk (s.p ps.toNat).toNat s = true ∧ s.t.st.leaveQ.length < 8) ∧
    (∃ (th : Thread) (e : Ecc) (ps : BitVec 4) (s : State), Issues th e (.rels ps) s ∧ hasStock s = true ∧ leaveStepOk
      (s.p ps.toNat).toNat s = true ∧ s.t.st.leaveQ.length < 8) ∧
    (∃ (th : Thread) (ps : BitVec 4) (w : BitVec 12) (s : State), Issues th .clean (.resv ps w) s ∧ hasStock s = true
      ∧ w ≠ 0 ∧ leaveStepOk (s.p ps.toNat).toNat s = true ∧ 8 ≤ s.t.st.leaveQ.length) ∧
    (∃ (th : Thread) (ps : BitVec 4) (s : State), Issues th .clean (.rels ps) s ∧ hasStock s = true ∧ leaveStepOk (s.p
      ps.toNat).toNat s = true ∧ 8 ≤ s.t.st.leaveQ.length) ∧
    (∃ (th : Thread) (e : Ecc) (ps : BitVec 4) (s : State), Issues th e (.rels ps) s ∧ hasStock s = false) ∧
    (∃ (th : Thread) (e : Ecc) (ps : BitVec 4) (w : BitVec 12) (s : State), Issues th e (.resv ps w) s ∧ hasStock s =
      false) ∧
    (∃ (th : Thread) (e : Ecc) (pt : BitVec 4) (mask : BitVec 16) (s : State), Issues th e (.bayp pt mask) s ∧
      s.tc.fuse.kind ≠ .w ∧ (∀ b, mask.toNat.testBit b = true → bayExists s b = true)) ∧
    (∃ (e : Ecc) (pd : BitVec 4) (pa : BitVec 4) (s : State), Issues .run e (.bist pd pa) s ∧ (s.p pa.toNat).toNat <
      12 ∧ (sliceChecks (s.p pa.toNat).toNat true s).find? (fun c => c.2) = none) ∧
    (∃ (e : Ecc) (pd : BitVec 4) (pa : BitVec 4) (n : Nat) (s : State), Issues .run e (.bist pd pa) s ∧ (s.p
      pa.toNat).toNat < 12 ∧ (sliceChecks (s.p pa.toNat).toNat true s).find? (fun c => c.2) = some (n, true)) ∧
    (∃ (th : Thread) (e : Ecc) (pa : BitVec 4) (pb : BitVec 4) (r : StepRec) (s : State), Issues th e (.probe pa pb) s
      ∧ fld (s.p pa.toNat) 0 24 + fld (s.p pa.toNat) 24 24 ≤ 2 ^ 24 ∧ curRec th s = some r ∧ (r.armed = true ∨
      r.launched = true) ∧ s.tc.tk.bc ≤ r.k ∧ 0 < fld (s.p pa.toNat) 24 24 ∧ (∃ l, l < 16 ∧ lanePresent s.tc.fuse.kind
      l = true ∧ bit (s.p pb.toNat) l = true)) ∧
    (∃ (th : Thread) (e : Ecc) (pa : BitVec 4) (pb : BitVec 4) (k : Nat) (n : Nat) (s : State), Issues th e (.probe pa
      pb) s ∧ fld (s.p pa.toNat) 0 24 + fld (s.p pa.toNat) 24 24 ≤ 2 ^ 24 ∧ curKick th s = some k ∧ k < s.tc.tk.bc ∧
      bit (s.p pb.toNat) 0 = true ∧ n = min (fld (s.p pa.toNat) 24 24) ((s.tc.tk.bc - k + 4095) / 4096 - fld (s.p
      pa.toNat) 0 24) ∧ 0 < n) := by
  refine ⟨?_, ?_, ?_, ?_, ?_, ?_, ?_, ?_, ?_, ?_, ?_, ?_, ?_, ?_, ?_, ?_, ?_, ?_, ?_⟩
  · exact ⟨.clean, 1, 4, ⟨5, 3, 0, 999999999000⟩, (cu .run (.hent 1 4) (rn b0)), by decide +kernel⟩
  · exact ⟨.clean, 1, 4, ⟨5, 3, 0, 999999999000⟩, (modHd (fun h =>
    { h with entered := List.replicate 16 ⟨5, 5, 3, 0, 0, none⟩ }) (cu .run (.hent 1 4) (rn b0))), by decide +kernel⟩
  · exact ⟨.clean, 1, 4, ⟨5, 3, 0, 999999999000⟩, ⟨4, 5, 3, 0, 0, some (1, 12)⟩, 12, (modHd (fun h =>
    { h with entered := [⟨4, 5, 3, 0, 0, some (1, 12)⟩] }) (cu .run (.hawait 1 4) (rn b0))), by decide +kernel⟩
  · exact ⟨.clean, 1, 4, ⟨5, 3, 0, 999999999000⟩, ⟨4, 5, 3, 0, 0, none⟩, (modHd (fun h =>
    { h with entered := [⟨4, 5, 3, 0, 0, none⟩] }) (cu .run (.hawait 1 4) (rn b0))), by decide +kernel⟩
  · exact ⟨.run, .clean, 15, 7, { waiters := [(2, some ⟨16, .fabric 9⟩)] }, (modSg (fun g =>
    { g with cells := [(7, { waiters := [(2, some ⟨16, .fabric 9⟩)] })] }) (cu .run (.post 15 7) b0)),
    by decide +kernel⟩
  · exact ⟨.run, .clean, 2, 7, { waiters := [(2, some ⟨1, .thread .lead⟩)] }, (tq .lead (fun t =>
    { t with st := 2, wait := some (.cwait 7 2) }) (modSg (fun g =>
    { g with cells := [(7, { waiters := [(2, some ⟨1, .thread .lead⟩)] })] }) (cu .run (.postt 2 7) b0))),
    by decide +kernel⟩
  · exact ⟨.run, .clean, 2, 0, 7, { count := 3 }, [(2, some ⟨1, .thread .run⟩)], 0, (modSg (fun g =>
    { g with cells := [(7, { count := 3 })] }) (cu .run (.cwait 2 0 7) b0)), by decide +kernel⟩
  · exact ⟨.run, .clean, 7, { count := 3, waiters := [(2, some ⟨16, .fabric 9⟩)] }, (modSg (fun g =>
    { g with cells := [(7, { count := 3, waiters := [(2, some ⟨16, .fabric 9⟩)] })] }) (cu .run (.creset 7) b0)),
    by decide +kernel⟩
  · exact ⟨.run, .clean, 1, 4, (tq .run (fun t => { t with cur := some ⟨5, 9, 0, 5⟩ }) (cu .run (.resv 1 4) b0)),
    by decide +kernel⟩
  · exact ⟨.run, .clean, 1, (tq .run (fun t => { t with cur := some ⟨5, 9, 0, 5⟩ }) (cu .run (.rels 1) b0)),
    by decide +kernel⟩
  · exact ⟨.run, 1, 4, (modSt (fun t => { t with leaveQ := List.replicate 8 ⟨9, none, .run, 7⟩ }) (tq .run (fun t =>
    { t with cur := some ⟨5, 9, 0, 5⟩ }) (cu .run (.resv 1 4) b0))), by decide +kernel⟩
  · exact ⟨.run, 1, (modSt (fun t => { t with leaveQ := List.replicate 8 ⟨9, none, .run, 7⟩ }) (tq .run (fun t =>
    { t with cur := some ⟨5, 9, 0, 5⟩ }) (cu .run (.rels 1) b0))), by decide +kernel⟩
  · exact ⟨.run, .clean, 1, (modCom .tsu (fun c => { c with fuse := { c.fuse with kind := .w } }) (cu .run (.rels 1)
    b0)), by decide +kernel⟩
  · exact ⟨.run, .clean, 1, 4, (modCom .tsu (fun c => { c with fuse := { c.fuse with kind := .w } }) (cu .run (.resv 1
    4) b0)), by decide +kernel⟩
  · exact ⟨.run, .clean, 3, 0xFFFF, (cu .run (.bayp 3 0xFFFF) b0), by decide +kernel, by decide +kernel,
    all_of_mask _ _ (by decide +kernel)⟩
  · exact ⟨.clean, 1, 0, (modBt .tsu (fun b => { b with goldenValid := true }) (modMem (fun m =>
    { m with gapOpen := true }) (cu .run (.bist 1 0) b0))), by decide +kernel⟩
  · exact ⟨.clean, 1, 0, 1, (cu .run (.bist 1 0) b0), by decide +kernel⟩
  · exact ⟨.run, .clean, 2, 3, (sr .launched 1000000001000), (modCue (fun e =>
    { e with p := [(2, 0x1000005), (3, 1)] }) (cu .run (.probe 2 3) (wr [sr .launched 1000000001000] (tq .run (fun t
    => { t with cur := some ⟨5, 3, 0, 1000000001000⟩ }) b0)))), by decide +kernel⟩
  · exact ⟨.run, .clean, 2, 3, 999999990000, 1, (modCue (fun e => { e with p := [(2, 0x1000000), (3, 1)] }) (cu .run
    (.probe 2 3) (tq .run (fun t => { t with cur := some ⟨5, 3, 0, 999999990000⟩ }) b0))), by decide +kernel⟩

/-- Values that meet the hypotheses of each clause of `Obligations.CuePages`. -/
theorem witness_CuePages :
    (∃ (rq : Nat) (s : State) (v : Word), WriteTaken .tsu rq 0x04 0x100 s ∧ bit v 62 = false ∧ bit v 63 = true ∧
      s.t.cue.run.alive = false ∧ s.t.cue.lead.alive = false) ∧
    (∃ (rq : Nat) (v : Word) (s : State), WriteTaken .tsu rq 0x04 0x100 s ∧ bit v 62 = false ∧ (s.t.cue.run.alive =
      true ∨ s.t.cue.lead.alive = true)) ∧
    (∃ (rq : Nat) (v : Word) (s : State), WriteTaken .tsu rq 0x04 0x100 s ∧ bit v 62 = true) ∧
    (∃ (rq : Nat) (s : State), WriteTaken .tsu rq 0x05 0x108 s ∧ s.t.cue.run.alive = false ∧ s.t.cue.lead.alive =
      false) ∧
    (∃ (rq : Nat) (s : State), WriteTaken .tsu rq 0x05 0x108 s ∧ (s.t.cue.run.alive = true ∨ s.t.cue.lead.alive =
      true)) ∧
    (∃ (rq : Nat) (s : State), ReadTaken .tsu rq 0x05 s) ∧
    (∃ (s : State), s.t.cue.pbBusy = true) ∧
    (∃ (s : State), s.t.cue.pbBusy = false) ∧
    (∃ (rq : Nat) (s : State), ReadTaken .tsu rq 0x05 s) ∧
    (∃ (rq : Nat) (s : State), ReadTaken .tsu rq 0x04 s) := by
  refine ⟨?_, ?_, ?_, ?_, ?_, ?_, ?_, ?_, ?_, ?_⟩
  · exact ⟨1, b0, 0xA000000500002007, by decide +kernel⟩
  · exact ⟨1, 0xA000000500002007, (cu .run .nop b0), by decide +kernel⟩
  · exact ⟨1, 0xE000000500002007, (cu .run .nop (rn b0)), by decide +kernel⟩
  · exact ⟨1, b0, by decide +kernel⟩
  · exact ⟨1, (cu .run .nop b0), by decide +kernel⟩
  · exact ⟨1, (cu .run .nop b0), by decide +kernel⟩
  · exact ⟨(modCue (fun e => { e with pbBusy := true }) b0), by decide +kernel⟩
  · exact ⟨b0, by decide +kernel⟩
  · exact ⟨1, (modCue (fun e => { e with corrected := 4 }) b0), by decide +kernel⟩
  · exact ⟨1, (modCue (fun e => { e with waitLate := 4 }) b0), by decide +kernel⟩

/-- Values that meet the hypotheses of each clause of `Obligations.CueFaults`. -/
theorem witness_CueFaults :
    (∃ (th : Thread) (n : Nat) (c : Instr) (s : State), (n, c) ∈ cueRows th .uncorrectable ∧ canIssue th s = true) ∧
    (∃ (th : Thread) (e : Ecc) (n : Nat) (c : Instr) (s : State), (n, c) ∈ cueRows th e ∧ e ≠ .uncorrectable ∧
      canIssue th s = true ∧ (cueOp (s.pbWord (getThr s.t.cue th).pc)).toNat = n ∧ decodeCue (s.pbWord (getThr s.t.cue
      th).pc) = none) ∧
    (∃ (th : Thread) (e : Ecc) (s : State), e ≠ .uncorrectable ∧ canIssue th s = true ∧ cueFields (cueOp (s.pbWord
      (getThr s.t.cue th).pc)) = none) ∧
    (∃ (th : Thread) (e : Ecc) (n : Nat) (c : Instr) (i : Cue) (s : State), (n, c) ∈ cueRows th e ∧ e ≠ .uncorrectable
      ∧ canIssue th s = true ∧ (cueOp (s.pbWord (getThr s.t.cue th).pc)).toNat = n ∧ decodeCue (s.pbWord (getThr
      s.t.cue th).pc) = some i ∧ threadOk th i = false) ∧
    (∃ (th : Thread) (e : Ecc) (n : Nat) (c : Instr) (p : BitVec 4) (i : Cue) (s : State), (n, c) ∈ cueRows th e ∧ e ≠
      .uncorrectable ∧ canIssue th s = true ∧ (cueOp (s.pbWord (getThr s.t.cue th).pc)).toNat = n ∧ decodeCue
      (s.pbWord (getThr s.t.cue th).pc) = some i ∧ threadOk th i = true ∧ p ∈ cueRegs i ∧ owns th p = false) ∧
    (∃ (e : Ecc) (s : State), Issues .run e .done s ∧ runLaunched s = false) ∧
    (∃ (th : Thread) (e : Ecc) (off : BitVec 24) (s : State), Issues th e (.waitk off) s ∧ (getThr s.t.cue th).cur =
      none) ∧
    (∃ (th : Thread) (e : Ecc) (inc : BitVec 24) (s : State), Issues th e (.waitn inc) s ∧ (getThr s.t.cue th).t =
      none) ∧
    (∃ (th : Thread) (e : Ecc) (pa : BitVec 4) (s : State), Issues th e (.waitr pa) s ∧ inWindow s.tc.tk.bc (s.p
      pa.toNat).toNat = false) ∧
    (∃ (e : Ecc) (pa : BitVec 4) (slot : BitVec 12) (k : CurStep) (h : Huddle) (s : State), Issues .run e (.hent pa
      slot) s ∧ s.t.cue.run.cur = some k ∧ huddleOf slot.toNat k s = some h) ∧
    (∃ (e : Ecc) (pa : BitVec 4) (slot : BitVec 12) (s : State), Issues .run e (.hent pa slot) s ∧ s.t.cue.run.cur =
      none) ∧
    (∃ (e : Ecc) (pd : BitVec 4) (slot : BitVec 12) (s : State), Issues .run e (.hawait pd slot) s ∧
      s.t.cue.run.cur.bind (fun k => huddleOf slot.toNat k s) = none) ∧
    (∃ (e : Ecc) (pd : BitVec 4) (slot : BitVec 12) (k : CurStep) (h : Huddle) (n : Nat) (s : State), Issues .run e
      (.hawait pd slot) s ∧ s.t.cue.run.cur = some k ∧ huddleOf slot.toNat k s = some h ∧ h.out = some (2, n)) ∧
    (∃ (th : Thread) (e : Ecc) (r : BitVec 4) (n1 : BitVec 4) (cell : BitVec 16) (s : State), Issues th e (.cwait r n1
      cell) s ∧ hasWaiter s cell.toNat r.toNat = true) ∧
    (∃ (th : Thread) (e : Ecc) (ps : BitVec 4) (w : BitVec 12) (s : State), Issues th e (.resv ps w) s ∧ hasStock s =
      true ∧ (w = 0 ∨ leaveStepOk (s.p ps.toNat).toNat s = false)) ∧
    (∃ (e : Ecc) (pd : BitVec 4) (pa : BitVec 4) (s : State), Issues .run e (.bist pd pa) s ∧ 12 ≤ (s.p
      pa.toNat).toNat) ∧
    (∃ (th : Thread) (e : Ecc) (pa : BitVec 4) (pb : BitVec 4) (s : State), Issues th e (.probe pa pb) s ∧ 2 ^ 24 <
      fld (s.p pa.toNat) 0 24 + fld (s.p pa.toNat) 24 24) ∧
    (∃ (th : Thread) (e : Ecc) (pd : BitVec 4) (src : BitVec 8) (n : Nat) (s : State), Issues th e (.get pd src) s ∧
      getSource th src.toNat s = .error n) := by
  refine ⟨?_, ?_, ?_, ?_, ?_, ?_, ?_, ?_, ?_, ?_, ?_, ?_, ?_, ?_, ?_, ?_, ?_, ?_⟩
  · exact ⟨.run, 1, (.nop .run .uncorrectable), (cu .run .nop (rn b0)), by decide +kernel⟩
  · exact ⟨.run, .clean, 1, (.nop .run .clean), (modCue (fun e => { e with store := [(0, 0x01000001)] }) (cu .run .nop
    b0)), by decide +kernel⟩
  · exact ⟨.run, .clean, (modCue (fun e => { e with store := [(0, 0xFF000000)] }) (cu .run .nop b0)),
    by decide +kernel⟩
  · exact ⟨.lead, .corrected, 3, (.doneInstruction .lead .corrected), .done, (cu .lead .done b0), by decide +kernel⟩
  · exact ⟨.run, .clean, 64, (.li .run .clean), 8, (.li 8 5), (cu .run (.li 8 5) b0), by decide +kernel⟩
  · exact ⟨.clean, (cu .run .done b0), by decide +kernel⟩
  · exact ⟨.run, .clean, 5, (cu .run (.waitk 5) b0), by decide +kernel⟩
  · exact ⟨.run, .clean, 5, (cu .run (.waitn 5) b0), by decide +kernel⟩
  · exact ⟨.run, .clean, 2, (modCue (fun e => { e with p := [(2, 0x8000000000000000)] }) (cu .run (.waitr 2) b0)),
    by decide +kernel⟩
  · exact ⟨.clean, 1, 4, ⟨5, 3, 0, 999999999000⟩, ⟨4, 5, 3, 0, 0, none⟩, (modHd (fun h =>
    { h with entered := [⟨4, 5, 3, 0, 0, none⟩] }) (cu .run (.hent 1 4) (rn b0))), by decide +kernel⟩
  · exact ⟨.clean, 1, 4, (cu .run (.hent 1 4) b0), by decide +kernel⟩
  · exact ⟨.clean, 1, 4, (cu .run (.hawait 1 4) (rn b0)), by decide +kernel⟩
  · exact ⟨.clean, 1, 4, ⟨5, 3, 0, 999999999000⟩, ⟨4, 5, 3, 0, 0, some (2, 12)⟩, 12, (modHd (fun h =>
    { h with entered := [⟨4, 5, 3, 0, 0, some (2, 12)⟩] }) (cu .run (.hawait 1 4) (rn b0))), by decide +kernel⟩
  · exact ⟨.run, .clean, 2, 1, 7, (modSg (fun g =>
    { g with cells := [(7, { waiters := [(2, some ⟨16, .fabric 9⟩)] })] }) (cu .run (.cwait 2 1 7) b0)),
    by decide +kernel⟩
  · exact ⟨.run, .clean, 1, 0, (cu .run (.resv 1 0) b0), by decide +kernel⟩
  · exact ⟨.clean, 1, 2, (modCue (fun e => { e with p := [(2, 12)] }) (cu .run (.bist 1 2) b0)), by decide +kernel⟩
  · exact ⟨.run, .clean, 2, 3, (modCue (fun e => { e with p := [(2, 0xFFFFFFFFFFFF)] }) (cu .run (.probe 2 3) b0)),
    by decide +kernel⟩
  · exact ⟨.run, .clean, 1, 9, 4, (cu .run (.get 1 9) b0), by decide +kernel⟩

/-- Values that meet the hypotheses of each clause of `Obligations.CellWindow`. -/
theorem witness_CellWindow :
    (∃ (s : State) (c : Nat) (n : Nat) (x : Cell), WindowOpen s ∧ c < 65536 ∧ 1 ≤ n ∧ n < 2 ^ 31 ∧ x = s.cell c ∧
      countOk (x.count + n) = true) ∧
    (∃ (c : Nat) (r : Nat) (x : Cell) (s : State), WindowOpen s ∧ c < 65536 ∧ r < 16 ∧ x = s.cell c ∧ tabGet 0 x.held
      r < 15) ∧
    (∃ (s : State) (c : Nat) (dlt : Int) (x : Cell), WindowOpen s ∧ c < 65536 ∧ countOk dlt = true ∧ x = s.cell c ∧
      countOk (x.count + dlt) = true) ∧
    (∃ (c : Nat) (n : Nat) (s : State), WindowOpen s ∧ c < 65536 ∧ 1 ≤ n ∧ n < 2 ^ 31 ∧ countOk ((s.cell c).count + n)
      = false) ∧
    (∃ (c : Nat) (r : Nat) (s : State), WindowOpen s ∧ c < 65536 ∧ r < 16 ∧ 15 ≤ tabGet 0 (s.cell c).held r) ∧
    (∃ (rq : Nat) (c : Nat) (r : Nat) (need : Nat) (x : Cell) (w : List (Nat × Option Waiter)) (g : Nat) (s : State),
      WindowOpen s ∧ c < 65536 ∧ r < 16 ∧ 1 ≤ need ∧ need < 65536 ∧ hasWaiter s c r = false ∧ x = s.cell c ∧ w =
      tabSet none x.waiters r (some ⟨need, .fabric rq⟩) ∧ g = x.granted - (if x.granted.testBit r then 2 ^ r else 0))
      ∧
    (∃ (c : Nat) (r : Nat) (need : Nat) (s : State), WindowOpen s ∧ c < 65536 ∧ r < 16 ∧ 1 ≤ need ∧ need < 65536 ∧
      hasWaiter s c r = true) ∧
    (∃ (c : Nat) (x : Cell) (s : State), WindowOpen s ∧ c < 65536 ∧ x = s.cell c) ∧
    (∃ (c : Nat) (s : State), WindowOpen s ∧ c < 65536) ∧
    (∃ (off : Nat) (bytes : Nat) (s : State), tsuUnits s = true ∧ windowWaits s = true ∧ off < 2 ^ 20 ∧ (bytes ≠ 8 ∨
      off % 8 ≠ 0)) ∧
    (∃ (v : Word) (s : State) (off : Nat) (bytes : Nat) (wr : Bool), WindowOpen s ∧ off < 2 ^ 20 ∧ (bytes ≠ 8 ∨ off %
      8 ≠ 0 ∨ (off % 16 = 0 ∧ wr = true ∧ commandOk v = false))) ∧
    (∃ (off : Nat) (s : State), WindowOpen s ∧ off < 2 ^ 20 ∧ off % 16 = 8) ∧
    (∃ (c : Nat) (n : Nat) (s : State), tsuUnits s = true ∧ windowWaits s = true ∧ c < 65536 ∧ 1 ≤ n ∧ n < 2 ^ 31) ∧
    (∃ (c : Nat) (s : State), tsuUnits s = true ∧ windowWaits s = true ∧ c < 65536) ∧
    (∃ (s : State), tsuUnits s = false) := by
  refine ⟨?_, ?_, ?_, ?_, ?_, ?_, ?_, ?_, ?_, ?_, ?_, ?_, ?_, ?_, ?_⟩
  · exact ⟨b0, 7, 2147483647, {}, by decide +kernel⟩
  · exact ⟨7, 2, { waiters := [(2, some ⟨1, .thread .lead⟩)], held := [(2, 14)] }, (tq .lead (fun t =>
    { t with st := 2, wait := some (.cwait 7 2) }) (cl
    { waiters := [(2, some ⟨1, .thread .lead⟩)], held := [(2, 14)] } b0)), by decide +kernel⟩
  · exact ⟨b0, 7, -2147483648, {}, by decide +kernel⟩
  · exact ⟨7, 1, (cl { count := 2147483647 } b0), by decide +kernel⟩
  · exact ⟨7, 15, (cl { held := [(15, 15)] } b0), by decide +kernel⟩
  · exact ⟨1, 7, 15, 65535, { count := 70000 }, [(15, some ⟨65535, .fabric 1⟩)], 0, (cl { count := 70000 } b0),
    by decide +kernel⟩
  · exact ⟨7, 3, 1, (cl { waiters := [(3, some ⟨1, .fabric 2⟩)] } b0), by decide +kernel⟩
  · exact ⟨7, { count := 4, held := [(1, 2)], waiters := [(3, some ⟨1, .fabric 2⟩)] }, (cl
    { count := 4, held := [(1, 2)], waiters := [(3, some ⟨1, .fabric 2⟩)] } b0), by decide +kernel⟩
  · exact ⟨7, (cl { count := -4, held := [(1, 2)], waiters := [(3, some ⟨1, .fabric 2⟩)] } b0), by decide +kernel⟩
  · exact ⟨112, 4, (iso 5 b0), by decide +kernel⟩
  · exact ⟨0, b0, 112, 4, false, by decide +kernel⟩
  · exact ⟨120, (cl { granted := 8 } b0), by decide +kernel⟩
  · exact ⟨7, 1, (modSg (fun g => { g with ctxBusy := true }) b0), by decide +kernel⟩
  · exact ⟨7, (modSg (fun g => { g with ctxBusy := true }) b0), by decide +kernel⟩
  · exact ⟨(modBoot .tsu (fun b => { b with stage := 1 }) b0), by decide +kernel⟩

/-- Values that meet the hypotheses of each clause of `Obligations.RemotePosts`. -/
theorem witness_RemotePosts :
    (∃ (rq : Nat) (v : Word) (r : StepRec) (s : State), WriteTaken .tsu rq 0x06 0x120 s ∧ (bit v 63 = true ∨ fld v 32
      16 ≠ 0) ∧ launchedStep s = some r) ∧
    (∃ (rq : Nat) (s : State) (v : Word), WriteTaken .tsu rq 0x06 0x120 s ∧ (bit v 63 = true ∨ fld v 32 16 ≠ 0) ∧
      launchedStep s = none) ∧
    (∃ (rq : Nat) (s : State) (v : Word), WriteTaken .tsu rq 0x06 0x120 s ∧ bit v 63 = false ∧ fld v 32 16 = 0) ∧
    (∃ (s : State) (c : Nat) (n : Nat) (x : Cell), tsuUnits s = true ∧ sliceIsolated s 5 = false ∧ c < 65536 ∧ 1 ≤ n ∧
      x = s.cell c ∧ countOk (x.count + n) = true) ∧
    (∃ (c : Nat) (r : Nat) (x : Cell) (s : State), tsuUnits s = true ∧ sliceIsolated s 5 = false ∧ c < 65536 ∧ r < 16
      ∧ x = s.cell c ∧ tabGet 0 x.held r < 15) ∧
    (∃ (c : Nat) (n : Nat) (tg : Bool) (r : Nat) (st : Nat) (q : StepRec) (s : State), tsuUnits s = true ∧
      sliceIsolated s 6 = false ∧ c < 65536 ∧ st < 512 ∧ (if tg = true then r < 16 else 1 ≤ n ∧ n < 65536) ∧
      launchedStep s = some q) ∧
    (∃ (l : List Byte) (s : State), postCrcOk l = false ∧ tsuUnits s = true ∧ portClosed s = false ∧ s.t.sg.port = []
      ∧ s.t.sg.bullpen = []) ∧
    (∃ (l : List Byte) (p : RPost) (s : State), postCrcOk l = true ∧ p = readPost l ∧ tsuUnits s = true ∧ portClosed s
      = false ∧ s.t.sg.port = [] ∧ s.t.sg.bullpen = [] ∧ postVerdict s ⟨p, s.tc.up, true⟩ = .stale) ∧
    (∃ (l : List Byte) (p : RPost) (s : State), postCrcOk l = true ∧ p = readPost l ∧ tsuUnits s = true ∧ portClosed s
      = false ∧ s.t.sg.port = [] ∧ s.t.sg.bullpen = [] ∧ postVerdict s ⟨p, s.tc.up, true⟩ = .mismatch) ∧
    (∃ (l : List Byte) (p : RPost) (s : State), postCrcOk l = true ∧ p = readPost l ∧ tsuUnits s = true ∧ portClosed s
      = false ∧ s.t.sg.port = [] ∧ postVerdict s ⟨p, s.tc.up, true⟩ = .hold) ∧
    (∃ (l : List Byte) (p : RPost) (s : State), postCrcOk l = true ∧ p = readPost l ∧ tsuUnits s = true ∧ portClosed s
      = false ∧ s.t.sg.port = [] ∧ s.t.sg.bullpen = [] ∧ sliceIsolated s 5 = true ∧ s.t.sg.waitingReqs = [] ∧
      p.targeted = false ∧ postVerdict s ⟨p, s.tc.up, true⟩ = .apply) ∧
    (∃ (l : List Byte) (p : RPost) (x : Cell) (s : State), postCrcOk l = true ∧ p = readPost l ∧ tsuUnits s = true ∧
      portClosed s = false ∧ sliceIsolated s 5 = false ∧ s.t.sg.port = [] ∧ s.t.sg.bullpen = [] ∧ postVerdict s ⟨p,
      s.tc.up, true⟩ = .apply ∧ x = s.cell p.cell ∧ p.targeted = false ∧ countOk (x.count + p.n) = true) ∧
    (∃ (s : State), tsuUnits s = true ∧ (portClosed s = true ∨ s.t.sg.port ≠ [])) ∧
    (∃ (p : RPost), p.dest < 2 ^ 32 ∧ p.source < 2 ^ 32 ∧ p.epoch < 2 ^ 32 ∧ p.step16 < 65536 ∧ p.attempt < 256 ∧
      p.rank < 16 ∧ p.stream < 512 ∧ p.seq < 256 ∧ p.mark < 2 ^ 24 ∧ p.cell < 65536 ∧ p.n < 65536) ∧
    (∃ (st : Nat) (s : State), tsuUnits s = true ∧ st < 512 ∧ sliceIsolated s 6 = true) ∧
    (∃ (s : State) (st : Nat), tsuUnits s = true ∧ st < 512 ∧ sliceIsolated s 6 = false) ∧
    (∃ (s : State) (st : Nat) (tag : Nat), tsuUnits s = true ∧ st < 512 ∧ sliceIsolated s 6 = false ∧ tag = ownTag s ∧
      s.t.sg.bullpen = [] ∧ s.t.sg.port = []) ∧
    (∃ (st : Nat) (tag : Nat) (h : HeldPost) (i : StreamIn) (s : State), tsuUnits s = true ∧ st < 512 ∧ tag = ownTag s
      ∧ s.t.sg.bullpen = [h] ∧ s.t.sg.port = [] ∧ sliceIsolated s 5 = false ∧ sliceIsolated s 6 = false ∧ i =
      { s.sIn st with arrived := ((s.sIn st).arrived + 1) % 2 ^ 24 } ∧ h.crcOk = true ∧ h.post.epoch = s.t.mem.epoch ∧
      s.t.mem.epoch ≠ 0 ∧ s.t.mem.launchedInEpoch = true ∧ h.post.step16 = s.t.mem.curStep % 65536 ∧ s.t.mem.curStep <
      2 ^ 48 ∧ h.post.attempt = s.t.mem.curAttempt ∧ h.post.stream = st ∧ h.post.source = i.source ∧ h.post.seq =
      i.next ∧ h.post.mark = i.arrived ∧ h.post.targeted = false ∧ countOk ((s.cell h.post.cell).count + h.post.n) =
      true) ∧
    (∃ (s : State) (tag : Nat), sliceIsolated s 6 = false ∧ tag ≠ ownTag s) ∧
    (∃ (s : State), orphanDue s = true) ∧
    (∃ (s : State), orphanDue s = false) := by
  refine ⟨?_, ?_, ?_, ?_, ?_, ?_, ?_, ?_, ?_, ?_, ?_, ?_, ?_, ?_, ?_, ?_, ?_, ?_, ?_, ?_, ?_⟩
  · exact ⟨1, 0x0020000200000007, (sr .launched 999999999000), (rn b0), by decide +kernel⟩
  · exact ⟨1, b0, 0x8020000000000007, by decide +kernel⟩
  · exact ⟨1, b0, 7, by decide +kernel⟩
  · exact ⟨b0, 7, 2, {}, by decide +kernel⟩
  · exact ⟨7, 3, { waiters := [(3, some ⟨1, .fabric 2⟩)] }, (cl { waiters := [(3, some ⟨1, .fabric 2⟩)] } b0),
    by decide +kernel⟩
  · exact ⟨7, 65535, false, 0, 511, (sr .launched 999999999000), (rn b0), by decide +kernel⟩
  · exact ⟨((postRecord rp1).set 0 1), (lm b0), by decide +kernel⟩
  · exact ⟨(postRecord { rp1 with epoch := 4 }), { rp1 with epoch := 4 }, (lm b0), by decide +kernel⟩
  · exact ⟨(postRecord { rp1 with source := 1 }), { rp1 with source := 1 }, (lm b0), by decide +kernel⟩
  · exact ⟨(postRecord { rp1 with seq := 1 }), { rp1 with seq := 1 }, (lm b0), by decide +kernel⟩
  · exact ⟨(postRecord rp1), rp1, (iso 5 (lm b0)), by decide +kernel⟩
  · exact ⟨(postRecord rp1), rp1, { waiters := [(3, some ⟨2, .fabric 2⟩)] }, (cl
    { waiters := [(3, some ⟨2, .fabric 2⟩)] } (lm b0)), by decide +kernel⟩
  · exact ⟨(modSg (fun g => { g with port := [⟨rp1, 0, true⟩] }) (lm b0)), by decide +kernel⟩
  · exact ⟨rp1, by decide +kernel⟩
  · exact ⟨7, (iso 6 b0), by decide +kernel⟩
  · exact ⟨b0, 511, by decide +kernel⟩
  · exact ⟨b0, 8, 80, by decide +kernel⟩
  · exact ⟨8, 80, ⟨{ rp1 with mark := 1 }, 0, true⟩, { arrived := 1 }, (modSg (fun g =>
    { g with bullpen := [⟨{ rp1 with mark := 1 }, 0, true⟩] }) (lm b0)), by decide +kernel⟩
  · exact ⟨b0, 81, by decide +kernel⟩
  · exact ⟨(modSg (fun g => { g with bullpen := [⟨{ rp1 with mark := 1 }, 0, true⟩] }) (lm b0)), by decide +kernel⟩
  · exact ⟨(modSg (fun g => { g with bullpen := [⟨{ rp1 with mark := 1 }, 999900001, true⟩] }) (lm b0)),
    by decide +kernel⟩

/-- Values that meet the hypotheses of each clause of `Obligations.ContextSwitch`. -/
theorem witness_ContextSwitch :
    (∃ (rq : Nat) (v : Word) (s : State), WriteTaken .tsu rq 0x06 0x100 s ∧ bit v 63 = true ∧ s.t.sg.ctxBusy = false ∧
      (s.t.cue.run.alive = true ∨ s.t.cue.lead.alive = true ∨ anyWaiter s = true ∨ s.t.sg.bullpen ≠ [])) ∧
    (∃ (rq : Nat) (s : State) (v : Word), WriteTaken .tsu rq 0x06 0x100 s ∧ bit v 63 = true ∧ s.t.sg.ctxBusy = false ∧
      s.t.cue.run.alive = false ∧ s.t.cue.lead.alive = false ∧ anyWaiter s = false ∧ s.t.sg.bullpen = []) ∧
    (∃ (rq : Nat) (s : State) (v : Word), WriteTaken .tsu rq 0x06 0x100 s ∧ (bit v 63 = false ∨ s.t.sg.ctxBusy =
      true)) ∧
    (∃ (img : List CtxCell) (base : Nat) (s : State), base = (s.reg .tsu 0x6110).toNat ∧ s.t.sg.ctxBusy = true ∧
      s.t.sg.waitingReqs = [] ∧ s.t.sg.compact = true ∧ s.t.sg.ctxLoad = true ∧ (∀ i, i ∈ img → base ≤ i.addr ∧ i.addr
      < base + 2 ^ 20 ∧ i.addr % 16 = 0) ∧ (img.map (·.addr)).Nodup) ∧
    (∃ (x : Cell), countOk x.count = true) ∧
    (∃ (s : State), s.t.sg.ctxBusy = true ∧ s.t.sg.waitingReqs = [] ∧ (s.t.sg.compact = false ∨ s.t.sg.ctxLoad =
      false)) ∧
    (∃ (s : State), s.t.sg.ctxBusy = false) ∧
    (∃ (rq : Nat) (s : State), ReadTaken .tsu rq 0x06 s) := by
  refine ⟨?_, ?_, ?_, ?_, ?_, ?_, ?_, ?_⟩
  · exact ⟨1, 0x8000000000000003, (cl { waiters := [(3, some ⟨2, .fabric 2⟩)] } b0), by decide +kernel⟩
  · exact ⟨1, b0, 0x8000000000000003, by decide +kernel⟩
  · exact ⟨1, b0, 3, by decide +kernel⟩
  · exact ⟨[⟨48, bytesBE 4 (2 ^ 32 - 5) ++ List.replicate 8 0x12 ++ bytesBE 4 0⟩, ⟨64, []⟩], 0, (cl { count := 5 }
    (modSg (fun g => { g with ctxBusy := true, compact := true, ctxLoad := true, ctxSave := true }) b0)),
    by decide +kernel⟩
  · exact ⟨{ count := -5, held := [(1, 3)] }, by decide +kernel⟩
  · exact ⟨(modSg (fun g => { g with ctxBusy := true, ctxSave := true }) (cl { count := 5, granted := 8 } b0)),
    by decide +kernel⟩
  · exact ⟨b0, by decide +kernel⟩
  · exact ⟨1, (modSg (fun g => { g with stalePost := 3 }) b0), by decide +kernel⟩

/-- Values that meet the hypotheses of each clause of `Obligations.CensusEntries`. -/
theorem witness_CensusEntries :
    (∃ (h : LinkHdr) (ep : Nat) (p : Nat) (f : CensusUpF) (i : CensusId) (es : List Entry) (s : State), Accepts .dxd p
      h ⟨ep, .censusUp f⟩ s ∧ f.kind < 2 ∧ i = ⟨f.kind, f.slot, f.step, f.attempt, ep⟩ ∧ es = withEntry i ⟨p, f.count,
      f.fp⟩ s ∧ NoEarly i s ∧ (∀ g, groupOf s ep 0 = some g → g.2 = 0 ∨ (censusWith i es).total < g.2)) ∧
    (∃ (h : LinkHdr) (ep : Nat) (p : Nat) (f : CensusUpF) (i : CensusId) (es : List Entry) (g : Bool × Nat) (s :
      State), Accepts .dxd p h ⟨ep, .censusUp f⟩ s ∧ f.kind < 2 ∧ i = ⟨f.kind, f.slot, f.step, f.attempt, ep⟩ ∧ es =
      withEntry i ⟨p, f.count, f.fp⟩ s ∧ NoEarly i s ∧ groupOf s ep 0 = some g ∧ g.2 ≠ 0 ∧ g.2 ≤ (censusWith i
      es).total ∧ rootActs s = false ∧ (s.census i).map (·.sent) ≠ some true) ∧
    (∃ (h : LinkHdr) (ep : Nat) (p : Nat) (f : CensusUpF) (i : CensusId) (es : List Entry) (g : Bool × Nat) (r :
      RStep) (s : State), Accepts .dxd p h ⟨ep, .censusUp f⟩ s ∧ f.kind = 0 ∧ i = ⟨0, f.slot, f.step, f.attempt, ep⟩ ∧
      es = withEntry i ⟨p, f.count, f.fp⟩ s ∧ NoEarly i s ∧ groupOf s ep 0 = some g ∧ g.2 ≠ 0 ∧ g.2 ≤ (censusWith i
      es).total ∧ rootActs s = true ∧ s.rstep ep f.step f.attempt = some r ∧ r.withdrawn = false ∧ r.accepted = false
      ∧ s.dc.tk.bc + 10000 ≤ r.k ∧ 0 < ledgerFree s.x.lg) ∧
    (∃ (h : LinkHdr) (ep : Nat) (p : Nat) (f : CensusUpF) (i : CensusId) (es : List Entry) (g : Bool × Nat) (r :
      RStep) (s : State), Accepts .dxd p h ⟨ep, .censusUp f⟩ s ∧ f.kind = 0 ∧ i = ⟨0, f.slot, f.step, f.attempt, ep⟩ ∧
      es = withEntry i ⟨p, f.count, f.fp⟩ s ∧ NoEarly i s ∧ groupOf s ep 0 = some g ∧ g.2 ≠ 0 ∧ g.2 ≤ (censusWith i
      es).total ∧ rootActs s = true ∧ s.rstep ep f.step f.attempt = some r ∧ (r.withdrawn = true ∨ (r.accepted = false
      ∧ r.k < s.dc.tk.bc + 10000))) ∧
    (∃ (h : LinkHdr) (ep : Nat) (p : Nat) (f : CensusUpF) (i : CensusId) (es : List Entry) (g : Bool × Nat) (r :
      RStep) (s : State), Accepts .dxd p h ⟨ep, .censusUp f⟩ s ∧ f.kind = 1 ∧ i = ⟨1, f.slot, f.step, f.attempt, ep⟩ ∧
      es = withEntry i ⟨p, f.count, f.fp⟩ s ∧ NoEarly i s ∧ groupOf s ep 0 = some g ∧ g.2 ≠ 0 ∧ g.2 ≤ (censusWith i
      es).total ∧ rootActs s = true ∧ s.rstep ep f.step f.attempt = some r ∧ Unseen .dxd (.censusDn ep 1 f.slot f.step
      f.attempt 0) s) ∧
    (∃ (h : LinkHdr) (ep : Nat) (p : Nat) (f : CensusUpF) (i : CensusId) (es : List Entry) (g : Bool × Nat) (s :
      State), Accepts .dxd p h ⟨ep, .censusUp f⟩ s ∧ f.kind = 2 ∧ i = ⟨2, f.slot, f.step, f.attempt, ep⟩ ∧
      s.x.straps.role ≠ 0 ∧ es = withEntry i ⟨p, f.count, f.fp⟩ s ∧ NoEarly i s ∧ (∀ e, e ∈ es → e.fp = f.fp) ∧
      groupOf s ep (fpGroup f.fp) = some g ∧ g.2 ≠ 0 ∧ g.2 ≤ (censusWith i es).total ∧ g.1 = true ∧ ((s.census i).map
      (·.misfits)).getD [] = [] ∧ Unseen .dxd (.censusDn ep 2 f.slot f.step f.attempt 0) s) ∧
    (∃ (h : LinkHdr) (ep : Nat) (p : Nat) (f : CensusUpF) (i : CensusId) (es : List Entry) (g : Bool × Nat) (s :
      State), Accepts .dxd p h ⟨ep, .censusUp f⟩ s ∧ f.kind = 2 ∧ i = ⟨2, f.slot, f.step, f.attempt, ep⟩ ∧
      s.x.straps.role = 1 ∧ es = withEntry i ⟨p, f.count, f.fp⟩ s ∧ NoEarly i s ∧ (∀ e, e ∈ es → e.fp = f.fp) ∧
      groupOf s ep (fpGroup f.fp) = some g ∧ g.2 ≠ 0 ∧ g.2 ≤ (censusWith i es).total ∧ g.1 = false ∧ (s.census i).map
      (·.sent) ≠ some true) ∧
    (∃ (h : LinkHdr) (ep : Nat) (p : Nat) (f : CensusUpF) (i : CensusId) (es : List Entry) (c : Census) (o : Census)
      (g : Bool × Nat) (s : State), Accepts .dxd p h ⟨ep, .censusUp f⟩ s ∧ f.kind = 2 ∧ i = ⟨2, f.slot, f.step,
      f.attempt, ep⟩ ∧ s.x.straps.role = 1 ∧ es = withEntry i ⟨p, f.count, f.fp⟩ s ∧ NoEarly i s ∧ c = censusWith i es
      ∧ s.census i = some o ∧ o.judged = [] ∧ groupOf s ep (fpGroup c.reference) = some g ∧ g.2 ≠ 0 ∧ g.2 ≤ c.total ∧
      g.1 = true ∧ f.fp ≠ c.reference ∧ Unseen .dxd (.censusDn ep 2 f.slot f.step f.attempt 3) s) ∧
    (∃ (h : LinkHdr) (ep : Nat) (p : Nat) (f : CensusUpF) (b : Job) (s : State), Accepts .dxd p h ⟨ep, .censusUp f⟩ s
      ∧ f.kind = 3 ∧ rootActs s = true ∧ someLca s ep = false ∧ s.census ⟨2, f.slot, f.step, f.attempt, ep⟩ = none ∧
      jobOfEpoch s ep = some b ∧ s.job b.slot = some b ∧ b.ending = none ∧ b.state ≠ 5 ∧ b.state ≠ 0) ∧
    (∃ (h : LinkHdr) (ep : Nat) (p : Nat) (f : CensusUpF) (s : State), Accepts .dxd p h ⟨ep, .censusUp f⟩ s ∧ f.kind =
      3 ∧ rootActs s = false ∧ s.census ⟨2, f.slot, f.step, f.attempt, ep⟩ = none ∧ (someLca s ep = false ∨ (unnamed f
      = true ∧ dxdLevel s = 2))) ∧
    (∃ (h : LinkHdr) (ep : Nat) (p : Nat) (f : CensusUpF) (i : CensusId) (s : State), Accepts .dxd p h ⟨ep, .censusUp
      f⟩ s ∧ f.kind = 3 ∧ i = ⟨2, f.slot, f.step, f.attempt, ep⟩ ∧ s.census i = none ∧ someLca s ep = true ∧ (unnamed
      f = false ∨ dxdLevel s ≠ 2)) ∧
    (∃ (h : LinkHdr) (ep : Nat) (p : Nat) (n : Nat) (f : CensusUpF) (i : CensusId) (c : Census) (s : State), Accepts
      .dxd p h ⟨ep, .censusUp f⟩ s ∧ f.kind = 3 ∧ i = ⟨2, f.slot, f.step, f.attempt, ep⟩ ∧ s.census i = some c ∧
      c.entries ≠ [] ∧ censusGroup s c = some (true, n)) := by
  refine ⟨?_, ?_, ?_, ?_, ?_, ?_, ?_, ?_, ?_, ?_, ?_, ?_⟩
  · exact ⟨hd1, 5, 0, ⟨0, 3, 3, 0, 1, 0⟩, ⟨0, 3, 3, 0, 5⟩, [⟨0, 1, 0⟩], (sv vp pk), by unfold NoEarly; decide +kernel⟩
  · exact ⟨hd1, 5, 0, ⟨0, 3, 3, 0, 2, 0⟩, ⟨0, 3, 3, 0, 5⟩, [⟨0, 2, 0⟩], ((false, 2)), (sv vp pk),
    by unfold NoEarly; decide +kernel⟩
  · exact ⟨hd1, 5, 0, ⟨0, 3, 3, 0, 2, 0⟩, ⟨0, 3, 3, 0, 5⟩, [⟨0, 2, 0⟩], ((false, 2)), (rs1 3 1000000010000), (sv vp
    (rj { job1 with steps := [rs1 3 1000000010000] })), by unfold NoEarly; decide +kernel⟩
  · exact ⟨hd1, 5, 0, ⟨0, 3, 3, 0, 2, 0⟩, ⟨0, 3, 3, 0, 5⟩, [⟨0, 2, 0⟩], ((false, 2)), (rs1 3 1000000009999), (sv vp
    (rj { job1 with steps := [rs1 3 1000000009999] })), by unfold NoEarly; decide +kernel⟩
  · exact ⟨hd1, 5, 0, ⟨1, 3, 3, 0, 2, 0⟩, ⟨1, 3, 3, 0, 5⟩, [⟨0, 2, 0⟩], ((false, 2)), (rs1 3 999999999999), (sv vp (rj
    { job1 with steps := [rs1 3 999999999999] })), by unfold NoEarly; decide +kernel⟩
  · exact ⟨hd1, 5, 0, ⟨2, 4, 3, 0, 6, 0x30000⟩, ⟨2, 4, 3, 0, 5⟩, [⟨0, 6, 0x30000⟩], ((true, 6)), (sv vp hl),
    by unfold NoEarly; decide +kernel⟩
  · exact ⟨hd1, 5, 0, ⟨2, 4, 3, 0, 2, 0⟩, ⟨2, 4, 3, 0, 5⟩, [⟨0, 2, 0⟩], ((false, 2)), (sv vp hl),
    by unfold NoEarly; decide +kernel⟩
  · exact ⟨hd1, 5, 1, ⟨2, 4, 3, 0, 1, 0x30001⟩, ⟨2, 4, 3, 0, 5⟩, [⟨0, 5, 0x30000⟩, ⟨1, 1, 0x30001⟩], (censusWith ⟨2,
    4, 3, 0, 5⟩ [⟨0, 5, 0x30000⟩, ⟨1, 1, 0x30001⟩]), ⟨⟨2, 4, 3, 0, 5⟩, [⟨0, 5, 0x30000⟩], [], [], false, false⟩,
    ((true, 6)), (modCs (fun c => { c with open_ := [⟨⟨2, 4, 3, 0, 5⟩, [⟨0, 5, 0x30000⟩], [], [], false, false⟩] })
    (sv vp hl)), by unfold NoEarly; decide +kernel⟩
  · exact ⟨hd1, 5, 1, ⟨3, 4, 3, 0, 1, 0xFFFFFFFF00030001⟩, { job1 with steps := [rs1 3 1000000010000] }, (sv
    { vp with groups := [(0, (false, 2)), (3, (false, 6))] } (rj { job1 with steps := [rs1 3 1000000010000] })),
    by decide +kernel⟩
  · exact ⟨hd1, 5, 1, ⟨3, 4, 3, 0, 1, 0x30001⟩, (sv { vp with groups := [(0, (false, 2)), (3, (false, 6))] } hl),
    by decide +kernel⟩
  · exact ⟨hd1, 5, 1, ⟨3, 4, 3, 0, 1, 0x30001⟩, ⟨2, 4, 3, 0, 5⟩, (sv vp hl), by decide +kernel⟩
  · exact ⟨hd1, 5, 1, 6, ⟨3, 4, 3, 0, 1, 0x30001⟩, ⟨2, 4, 3, 0, 5⟩, ⟨⟨2, 4, 3, 0, 5⟩, [⟨0, 5, 0x30000⟩], [], [],
    false, false⟩, (modCs (fun c => { c with open_ := [⟨⟨2, 4, 3, 0, 5⟩, [⟨0, 5, 0x30000⟩], [], [], false, false⟩] })
    (sv vp hl)), by decide +kernel⟩

/-- Values that meet the hypotheses of each clause of `Obligations.CensusTrees`. -/
theorem witness_CensusTrees :
    (∃ (c : Census) (s : State), firstWaiting s = some c ∧ s.x.cs.credits ≠ 0 ∧ c.sent = false ∧ c.id.kind = 2) ∧
    (∃ (s : State), (firstWaiting s = none ∨ s.x.cs.credits = 0)) ∧
    (∃ (s : State), tsuTree s ≠ s.tc.censusTree ∧ s.t.hd.census.Pairwise (fun a b => sameCensusUp (tsuFrame (.censusUp
      a) s) (tsuFrame (.censusUp b) s) = false)) ∧
    (∃ (s : State), tsuTree s = s.tc.censusTree) ∧
    (∃ (s : State), dxdTree s ≠ s.dc.censusTree ∧ gained s.dc.censusTree (dxdTree s) s = []) ∧
    (∃ (c : Census) (s : State), dxdTree s ≠ s.dc.censusTree ∧ gained s.dc.censusTree (dxdTree s) s = [c] ∧ c.sent =
      true) ∧
    (∃ (s : State), dxdTree s = s.dc.censusTree) ∧
    (∃ (s : State), noticeCause s = true ∧ (∀ n, s.x.rf2.noticeAt = some n → n + 1000000 ≤ s.dc.up)) ∧
    (∃ (n : Nat) (s : State), noticeCause s = true ∧ s.x.rf2.noticeAt = some n ∧ s.dc.up < n + 1000000) ∧
    (∃ (s : State), noticeCause s = false) ∧
    (∃ (rq : Nat) (s : State), ReadTaken .dxd rq 0x13 s) := by
  refine ⟨?_, ?_, ?_, ?_, ?_, ?_, ?_, ?_, ?_, ?_, ?_⟩
  · exact ⟨⟨⟨2, 4, 3, 0, 5⟩, [⟨0, 5, 0x30000⟩], [], [], false, true⟩, (modCs (fun c =>
    { c with open_ := [⟨⟨2, 4, 3, 0, 5⟩, [⟨0, 5, 0x30000⟩], [], [], false, true⟩] }) (sv vp hl)), by decide +kernel⟩
  · exact ⟨hl, by decide +kernel⟩
  · exact ⟨(modHd (fun h => { h with census := [⟨2, 3, 4, 0, 1, 7⟩, ⟨0, 3, 3, 0, 1, 0⟩] }) (pq .tsu 0 (fun q =>
    { q with lastTime := some { tf with censusTree := 1 } }) b0)), by decide +kernel⟩
  · exact ⟨b0, by decide +kernel⟩
  · exact ⟨(modCs (fun c => { c with open_ := [⟨⟨2, 4, 3, 0, 5⟩, [⟨0, 5, 0x30000⟩], [], [], false, true⟩] }) (pq .dxd
    192 (fun q => { q with lastTime := some { tf with censusTree := 2 } }) (sv vp hl))), by decide +kernel⟩
  · exact ⟨⟨⟨2, 5, 3, 0, 5⟩, [⟨0, 5, 0x30000⟩], [], [], true, true⟩, (modCs (fun c =>
    { c with open_ := [⟨⟨2, 5, 3, 0, 5⟩, [⟨0, 5, 0x30000⟩], [], [], true, true⟩] }) (pq .dxd 192 (fun q =>
    { q with lastTime := some { tf with censusTree := 1 } }) (sv vp hl))), by decide +kernel⟩
  · exact ⟨hl, by decide +kernel⟩
  · exact ⟨(ps .dxd 192 1 (sv vp pk)), by decide +kernel⟩
  · exact ⟨999000001, (modRef (fun r => { r with noticeAt := some 999000001 }) (ps .dxd 192 1 (sv vp pk))),
    by decide +kernel⟩
  · exact ⟨(modRef (fun r => { r with noticeAt := some 999000001 }) (sv vp pk)), by decide +kernel⟩
  · exact ⟨1, (modCs (fun c => { c with peak := 7 }) (sv vp pk)), by decide +kernel⟩

/-- Values that meet the hypotheses of each clause of `Obligations.KeyPortAnswers`. -/
theorem witness_KeyPortAnswers :
    (∃ (s : State) (code : Nat) (c : Instr) (d : Nat) (v : Bool) (ch : Nat), tsuUnits s = true ∧ kpWaits s = false ∧
      (code, c, d, v) ∈ [(0, Instr.keySeedHi ch, s.t.kp.seed.toNat / 2 ^ 64, s.t.kp.jobValid), (1, .keySeedLo ch,
      s.t.kp.seed.toNat % 2 ^ 64, s.t.kp.jobValid), (2, .keyStep ch, s.t.kp.curStep, s.t.kp.curValid), (3, .keyCtrBase
      ch, s.t.kp.curStep * 2 ^ 16, s.t.kp.curValid), (4, .keySeedIndex ch, s.t.kp.seedIndex, s.t.kp.jobValid), (5,
      .keyDie ch, s.t.mem.die, s.t.kp.jobValid), (6, .keyJob ch, b2n s.t.kp.jobValid * 2 ^ 63 + s.t.kp.mapClass * 2 ^
      32 + s.t.kp.ws * 2 ^ 16 + s.t.kp.engines, s.t.kp.jobValid), (7, .keyKept ch, s.t.kp.kept, s.t.kp.jobValid)]) ∧
    (∃ (code : Nat) (c : Instr) (ch : Nat) (s : State), tsuUnits s = true ∧ kpWaits s = true ∧ (code, c) ∈ [(0,
      Instr.keySeedHi ch), (1, .keySeedLo ch), (2, .keyStep ch), (3, .keyCtrBase ch), (4, .keySeedIndex ch), (5,
      .keyDie ch), (6, .keyJob ch), (7, .keyKept ch), (8, .keyReservedRequest ch 8)]) ∧
    (∃ (s : State) (code : Nat), tsuUnits s = true ∧ kpWaits s = false ∧ 8 ≤ code ∧ code < 16) ∧
    (∃ (s : State), kpWaits s = false ∧ (s.t.kp.waiting.map (·.1)).Nodup) ∧
    (∃ (s : State), kpWaits s = true) ∧
    (∃ (rq : Nat) (s : State), WriteTaken .tsu rq 0x08 0x118 s) ∧
    (∃ (rq : Nat) (s : State), ReadTaken .tsu rq 0x08 s) := by
  refine ⟨?_, ?_, ?_, ?_, ?_, ?_, ?_⟩
  · exact ⟨b0, 0, (.keySeedHi 3), ((b0).t.kp.seed.toNat / 2 ^ 64), (b0).t.kp.jobValid, 3, by decide +kernel⟩
  · exact ⟨0, (.keySeedHi 3), 3, (modKp (fun k => { k with loading := true }) b0), by decide +kernel⟩
  · exact ⟨b0, 15, by decide +kernel⟩
  · exact ⟨(modKp (fun k => { k with waiting := [(3, 0), (4, 8)] }) b0), by decide +kernel⟩
  · exact ⟨(modKp (fun k => { k with loading := true }) b0), by decide +kernel⟩
  · exact ⟨1, b0, by decide +kernel⟩
  · exact ⟨1, (modKp (fun k => { k with bad := 4 }) b0), by decide +kernel⟩

/-- Values that meet the hypotheses of each clause of `Obligations.TallyLanes`. -/
theorem witness_TallyLanes :
    (∃ (tap : Nat) (r : StepRec) (s : State), tsuUnits s = true ∧ tapCode s.tc.fuse.kind tap = true ∧ launchedStep s =
      some r ∧ lsEnable s = false) ∧
    (∃ (s : State) (tap : Nat), (feedLanes s.tc.fuse.kind = true ∨ tapCode s.tc.fuse.kind tap = false)) ∧
    (∃ (rq : Nat) (n : Nat) (r : StepRec) (s : State), n < 4 ∧ WriteTaken .tsu rq 0x09 (0x180 + 8 * n) s ∧ feedLanes
      s.tc.fuse.kind = true ∧ laneOwner (s.lane n) = rq ∧ laneEnabled (s.lane n) = true ∧ launchedStep s = some r) ∧
    (∃ (rq : Nat) (n : Nat) (s : State), n < 4 ∧ WriteTaken .tsu rq 0x09 (0x180 + 8 * n) s ∧ feedLanes s.tc.fuse.kind
      = true ∧ laneOwner (s.lane n) = rq ∧ laneEnabled (s.lane n) = true ∧ launchedStep s = none) ∧
    (∃ (rq : Nat) (s : State) (n : Nat), n < 4 ∧ WriteTaken .tsu rq 0x09 (0x180 + 8 * n) s ∧ feedLanes s.tc.fuse.kind
      = true ∧ laneOwner (s.lane n) ≠ rq) ∧
    (∃ (lane : Nat) (r : StepRec) (w : Nat) (x : Window) (s : State), windowDue s lane = some (r, w) ∧ (lsFreeze s =
      false ∨ s.t.tl.ringHeld ≠ 1024) ∧ x = (s.t.tl.windows.find? (fun y => y.lane == lane && y.w == w)).getD ⟨lane,
      w, [], 0⟩) ∧
    (∃ (s : State) (lane : Nat), windowDue s lane = none) ∧
    (∃ (i : Nat) (fs : List Frame) (rest : List (Nat × List Frame)) (s : State), s.t.tl.closingWait = (i, fs) :: rest
      ∧ tallyWaiting s + 2 ≤ 64) ∧
    (∃ (s : State), (s.t.tl.closingWait = [] ∨ 64 < tallyWaiting s + 2)) ∧
    (∃ (rq : Nat) (s : State), ReadTaken .tsu rq 0x09 s) ∧
    (∃ (rq : Nat) (s : State), ReadTaken .dxd rq 0x09 s) := by
  refine ⟨?_, ?_, ?_, ?_, ?_, ?_, ?_, ?_, ?_, ?_, ?_⟩
  · exact ⟨3, (sr .launched 999999999000), (modTl (fun t =>
    { t with lanes := [(9, { cfg := wd [(63, 1), (48, 3), (32, 9)] })] }) (modCom .tsu (fun c =>
    { c with fuse := { c.fuse with kind := .e } }) (rn b0))), by decide +kernel⟩
  · exact ⟨b0, 3, by decide +kernel⟩
  · exact ⟨1, 3, (sr .launched 999999999000), (modTl (fun t =>
    { t with lanes := [(3, { cfg := wd [(63, 1), (16, 1)] })] }) (rn b0)), by decide +kernel⟩
  · exact ⟨1, 3, (modTl (fun t => { t with lanes := [(3, { cfg := wd [(63, 1), (16, 1)] })] }) b0), by decide +kernel⟩
  · exact ⟨1, b0, 3, by decide +kernel⟩
  · exact ⟨0, (sr .launched 999999900000), 2, ⟨0, 2, [1, 2], 1⟩, (modTl (fun t =>
    { t with lsCtl := wd [(63, 1)], probes := [⟨3, 0, 2, 5, [0]⟩], windows := [⟨0, 2, [1, 2], 1⟩] }) (wr [sr .launched
    999999900000] b0)), by decide +kernel⟩
  · exact ⟨b0, 0, by decide +kernel⟩
  · exact ⟨3, [⟨5, .fill⟩], [], (modTl (fun t => { t with closingWait := [(3, [⟨5, .fill⟩])] }) b0),
    by decide +kernel⟩
  · exact ⟨b0, by decide +kernel⟩
  · exact ⟨1, (modTl (fun t => { t with overrun := 3 }) b0), by decide +kernel⟩
  · exact ⟨1, (modScores (fun t => { t with corrupt := 3 }) b0), by decide +kernel⟩

/-- Values that meet the hypotheses of each clause of `Obligations.Scores`. -/
theorem witness_Scores :
    (∃ (p : Nat) (h : LinkHdr) (ep : Nat) (f : ScoreF) (v : Served) (step : Nat) (c : Combine) (s : State), Accepts
      .dxd p h ⟨ep, .score f⟩ s ∧ s.x.straps.role = 0 ∧ f.kind = 0 ∧ s.served ep = some v ∧ scoreStep s ep f.attempt
      f.step16 = some step ∧ c = s.combo ep step f.attempt ∧ c.vals.all (fun x => x.1 != p) = true ∧ c.frags.all (fun
      x => x.1 != p || x.2.1 != f.fragment) = true ∧ p ∉ c.corrupt ∧ fragBytes
      { c with frags := c.frags ++ [(p, f.fragment, f.data)] } p 8 = none) ∧
    (∃ (p : Nat) (h : LinkHdr) (ep : Nat) (f : ScoreF) (v : Served) (step : Nat) (c : Combine) (card : List Byte) (die
      : Nat) (s : State), Accepts .dxd p h ⟨ep, .score f⟩ s ∧ s.x.straps.role = 0 ∧ f.kind = 0 ∧ s.served ep = some v
      ∧ scoreStep s ep f.attempt f.step16 = some step ∧ c = s.combo ep step f.attempt ∧ c.vals.all (fun x => x.1 != p)
      = true ∧ c.frags.all (fun x => x.1 != p || x.2.1 != f.fragment) = true ∧ p ∉ c.corrupt ∧ fragBytes
      { c with frags := c.frags ++ [(p, f.fragment, f.data)] } p 8 = some card ∧ laneDie v p = some die ∧ sub card 96
      32 ≠ combinedOf die card) ∧
    (∃ (p : Nat) (h : LinkHdr) (ep : Nat) (f : ScoreF) (v : Served) (step : Nat) (c : Combine) (card : List Byte) (die
      : Nat) (vals : List (Nat × Nat)) (s : State), Accepts .dxd p h ⟨ep, .score f⟩ s ∧ s.x.straps.role = 0 ∧ f.kind =
      0 ∧ s.served ep = some v ∧ scoreStep s ep f.attempt f.step16 = some step ∧ c = s.combo ep step f.attempt ∧
      c.vals.all (fun x => x.1 != p) = true ∧ c.frags.all (fun x => x.1 != p || x.2.1 != f.fragment) = true ∧ p ∉
      c.corrupt ∧ fragBytes { c with frags := c.frags ++ [(p, f.fragment, f.data)] } p 8 = some card ∧ laneDie v p =
      some die ∧ sub card 96 32 = combinedOf die card ∧ vals = c.vals ++ [(p, natBE (sub card 96 32))]) ∧
    (∃ (p : Nat) (h : LinkHdr) (ep : Nat) (f : ScoreF) (v : Served) (step : Nat) (c : Combine) (b : List Byte) (vals :
      List (Nat × Nat)) (s : State), Accepts .dxd p h ⟨ep, .score f⟩ s ∧ s.x.straps.role = 1 ∧ f.kind = 1 ∧ s.served
      ep = some v ∧ p ∈ v.ports ∧ p < 192 ∧ scoreStep s ep f.attempt f.step16 = some step ∧ c = s.combo ep step
      f.attempt ∧ c.vals.all (fun x => x.1 != p) = true ∧ c.frags.all (fun x => x.1 != p || x.2.1 != f.fragment) =
      true ∧ p ∉ c.corrupt ∧ fragBytes { c with frags := c.frags ++ [(p, f.fragment, f.data)] } p 2 = some b ∧ vals =
      c.vals ++ [(p, natBE b)]) ∧
    (∃ (p : Nat) (h : LinkHdr) (ep : Nat) (f : ScoreF) (v : Served) (step : Nat) (c : Combine) (b : List Byte) (vals :
      List (Nat × Nat)) (j : Job) (r : RStep) (s : State), Accepts .dxd p h ⟨ep, .score f⟩ s ∧ rootActs s = true ∧
      f.kind = 1 ∧ s.served ep = some v ∧ p ∈ v.ports ∧ p < 192 ∧ scoreStep s ep f.attempt f.step16 = some step ∧
      Unseen .dxd (.score ep f.kind f.fragment step f.attempt p) s ∧ c = s.combo ep step f.attempt ∧ c.vals.all (fun x
      => x.1 != p) = true ∧ c.frags.all (fun x => x.1 != p || x.2.1 != f.fragment) = true ∧ p ∉ c.corrupt ∧ fragBytes
      { c with frags := c.frags ++ [(p, f.fragment, f.data)] } p 2 = some b ∧ vals = c.vals ++ [(p, natBE b)] ∧ (∀ q,
      q ∈ v.ports → vals.any (fun x => x.1 == q) = true) ∧ jobOfEpoch s ep = some j ∧ s.rstep ep step f.attempt = some
      r ∧ r.accepted = true) ∧
    (∃ (h : LinkHdr) (ep : Nat) (p : Nat) (f : ScoreF) (v : Served) (step : Nat) (s : State), Accepts .dxd p h ⟨ep,
      .score f⟩ s ∧ f.kind = 1 ∧ s.served ep = some v ∧ (p ∉ v.ports ∨ 192 ≤ p) ∧ Unseen .dxd (.score ep f.kind
      f.fragment step f.attempt p) s ∧ scoreStep s ep f.attempt f.step16 = some step) ∧
    (∃ (p : Nat) (h : LinkHdr) (ep : Nat) (f : ScoreF) (s : State), Accepts .dxd p h ⟨ep, .score f⟩ s ∧ scoreStep s ep
      f.attempt f.step16 = none) := by
  refine ⟨?_, ?_, ?_, ?_, ?_, ?_, ?_⟩
  · exact ⟨0, hd1, 5, ⟨7, 0, 0, 3, List.replicate 16 0⟩, vp, 3, ⟨5, 3, 0, [], [], [], false⟩, (wk (sv vp pk)),
    by decide +kernel⟩
  · exact ⟨0, hd1, 5, ⟨7, 0, 0, 3, List.replicate 16 0⟩, vp, 3, ⟨5, 3, 0, frags7, [], [], false⟩, (List.replicate 128
    0), 5, (modScores (fun t => { t with combos := [⟨5, 3, 0, frags7, [], [], false⟩] }) (wk (sv vp pk))),
    by decide +kernel⟩
  · exact ⟨0, hd1, 5, ⟨7, 0, 0, 3, sub (combinedOf 5 (List.replicate 96 0)) 16 16⟩, vp, 3, ⟨5, 3, 0, frags7.map (fun f
    => if f.2.1 = 6 then (0, 6, sub (combinedOf 5 (List.replicate 96 0)) 0 16) else f), [], [], false⟩,
    (List.replicate 96 0 ++ combinedOf 5 (List.replicate 96 0)), 5, [(0, natBE (combinedOf 5 (List.replicate 96 0)))],
    (modScores (fun t =>
    { t with combos := [⟨5, 3, 0, frags7.map (fun f => if f.2.1 = 6 then (0, 6, sub (combinedOf 5 (List.replicate 96 0)) 0 16) else f), [], [], false⟩] })
    (wk (sv vp pk))), by decide +kernel⟩
  · exact ⟨0, hd1, 5, ⟨1, 1, 0, 3, List.replicate 16 0⟩, vp, 3, ⟨5, 3, 0, [(0, 0, List.replicate 16 0)], [], [],
    false⟩, (List.replicate 32 0), [(0, 0)], (modScores (fun t =>
    { t with combos := [⟨5, 3, 0, [(0, 0, List.replicate 16 0)], [], [], false⟩] }) (wk (sv vp hl))),
    by decide +kernel⟩
  · exact ⟨0, hd1, 5, ⟨1, 1, 0, 3, List.replicate 16 0⟩, { vp with ports := [0] }, 3, ⟨5, 3, 0, [(0, 0, List.replicate
    16 0)], [], [], false⟩, (List.replicate 32 0), [(0, 0)],
    { job1 with steps := [{ rs1 3 999999999999 with accepted := true, launched := true }] },
    { rs1 3 999999999999 with accepted := true, launched := true }, (modScores (fun t =>
    { t with combos := [⟨5, 3, 0, [(0, 0, List.replicate 16 0)], [], [], false⟩] }) (wk (sv { vp with ports := [0] }
    (rj { job1 with steps := [{ rs1 3 999999999999 with accepted := true, launched := true }] })))),
    by decide +kernel⟩
  · exact ⟨hd1, 5, 193, ⟨1, 1, 0, 3, List.replicate 16 0⟩, vp, 3, (wk (sv vp hl)), by decide +kernel⟩
  · exact ⟨0, hd1, 5, ⟨1, 1, 0, 3, List.replicate 16 0⟩, (sv vp hl), by decide +kernel⟩

/-- Values that meet the hypotheses of each clause of `Obligations.LockStep`. -/
theorem witness_LockStep :
    (∃ (p : Nat) (h : LinkHdr) (ep : Nat) (f : TallyF) (s : State), Accepts .dxd p h ⟨ep, .tally f⟩ s ∧ rootActs s =
      false ∧ Unseen .dxd (.tally ep f.die f.lane f.window f.half f.step16 f.attempt) s) ∧
    (∃ (p : Nat) (h : LinkHdr) (ep : Nat) (f : TallyF) (s : State), Accepts .dxd p h ⟨ep, .tally f⟩ s ∧ rootActs s =
      true ∧ f.lane = 0xF ∧ f.window = 0xFFFFFD) ∧
    (∃ (p : Nat) (h : LinkHdr) (ep : Nat) (f : TallyF) (r : Report) (b : Job) (s : State), Accepts .dxd p h ⟨ep,
      .tally f⟩ s ∧ rootActs s = true ∧ f.lane = 0xF ∧ f.window = 0xFFFFFE ∧ r = ⟨f.tally / 2 ^ 48 % 256, f.die,
      f.tally / 2 ^ 56, f.tally % 2 ^ 32, ep, s.dc.up⟩ ∧ needsPair r = true ∧ jobOfEpoch s ep = some b ∧ (∀ q, q ∈
      s.x.rf2.reports → s.dc.up ≤ q.at_ + 1000000 → pairs r q = false ∧ ¬(q.kind = r.kind ∧ q.target = r.target ∧
      q.reason = r.reason ∧ q.sender = r.sender ∧ q.epoch = r.epoch)) ∧ (r.kind, r.target) ∉ s.x.rf2.benchedDevs ∧
      (s.x.rf2.complaint ≠ 1 ∨ s.x.rf2.complaintDie ≠ r.target)) ∧
    (∃ (p : Nat) (h : LinkHdr) (ep : Nat) (f : TallyF) (s : State), Accepts .dxd p h ⟨ep, .tally f⟩ s ∧ rootActs s =
      true ∧ f.lane ≠ 0xF ∧ lsPlaces s ep f.die = []) ∧
    (∃ (p : Nat) (h : LinkHdr) (ep : Nat) (f : TallyF) (b : Job) (r : RStep) (e : Nat) (n : Nat) (i : Nat) (s : State)
      (k : State), Accepts .dxd p h ⟨ep, .tally f⟩ s ∧ rootActs s = true ∧ f.lane ≠ 0xF ∧ Unseen .dxd (.tally ep f.die
      f.lane f.window f.half f.step16 f.attempt) s ∧ jobOfEpoch s ep = some b ∧ b.steps.find? (fun r => r.attempt ==
      f.attempt && r.step % 65536 == f.step16 && r.epoch == ep && !r.withdrawn) = some r ∧ lsPlaces s ep f.die = [(e,
      n, i)] ∧ k = lsKeep ep r.step f s ∧ s.x.tl.recs.length < 65536 ∧ lsComplete k e r.step = false) ∧
    (∃ (p : Nat) (h : LinkHdr) (ep : Nat) (f : TallyF) (b : Job) (r : RStep) (e : Nat) (n : Nat) (i : Nat) (s : State)
      (k : State), Accepts .dxd p h ⟨ep, .tally f⟩ s ∧ rootActs s = true ∧ f.lane ≠ 0xF ∧ Unseen .dxd (.tally ep f.die
      f.lane f.window f.half f.step16 f.attempt) s ∧ jobOfEpoch s ep = some b ∧ b.steps.find? (fun r => r.attempt ==
      f.attempt && r.step % 65536 == f.step16 && r.epoch == ep && !r.withdrawn) = some r ∧ lsPlaces s ep f.die = [(e,
      n, i)] ∧ k = lsKeep ep r.step f s ∧ lsComplete k e r.step = true ∧ (s.lsEnt e).valid = true ∧ r.step ∉ (s.lsEnt
      e).done) ∧
    (∃ (rq : Nat) (e : Nat) (v : Word) (s : State), e < 8 ∧ WriteTaken .dxd rq 0x0A (0x118 + 0x20 * e) s ∧ bit v 63 =
      true) ∧
    (∃ (rq : Nat) (e : Nat) (v : Word) (s : State), e < 8 ∧ WriteTaken .dxd rq 0x0A (0x118 + 0x20 * e) s ∧ bit v 63 =
      false) ∧
    (∃ (rq : Nat) (s : State), ReadTaken .dxd rq 0x0A s) := by
  refine ⟨?_, ?_, ?_, ?_, ?_, ?_, ?_, ?_, ?_⟩
  · exact ⟨0, hd1, 5, ⟨5, 0, 1, 2, 3, 0, 99⟩, (sv vp hl), by decide +kernel⟩
  · exact ⟨0, hd1, 5, ⟨5, 0, 0xF, 0xFFFFFD, 3, 0, 2 ^ 56⟩, (sv vp rt), by decide +kernel⟩
  · exact ⟨0, hd1, 5, ⟨5, 0, 0xF, 0xFFFFFE, 3, 0, 2 ^ 56 + 77⟩, ⟨0, 5, 1, 77, 5, 1000000000⟩, job1, (sv vp (rj job1)),
    by decide +kernel⟩
  · exact ⟨0, hd1, 5, ⟨5, 0, 1, 2, 3, 0, 99⟩, (sv vp (rj job1)), by decide +kernel⟩
  · exact ⟨0, hd1, 5, ⟨5, 0, 0, 2, 3, 0, 99⟩, { job1 with steps := [rs1 3 999999999999] }, (rs1 3 999999999999), 0, 0,
    0, (modEnt 0 (fun x => { x with valid := true }) (setReg .dxd 0xA118 (BitVec.allOnes 64) 1 (setReg .dxd 0xA108
    (BitVec.allOnes 64) 0x600000010 (setReg .dxd 0xA100 (BitVec.allOnes 64) 0x500000010 (sv vp (rj
    { job1 with steps := [rs1 3 999999999999] })))))), (lsKeep 5 3 ⟨5, 0, 0, 2, 3, 0, 99⟩ (modEnt 0 (fun x =>
    { x with valid := true }) (setReg .dxd 0xA118 (BitVec.allOnes 64) 1 (setReg .dxd 0xA108 (BitVec.allOnes 64)
    0x600000010 (setReg .dxd 0xA100 (BitVec.allOnes 64) 0x500000010 (sv vp (rj
    { job1 with steps := [rs1 3 999999999999] }))))))), by decide +kernel⟩
  · exact ⟨0, hd1, 5, ⟨5, 0, 0, 2, 3, 0, 99⟩, { job1 with steps := [rs1 3 999999999999] }, (rs1 3 999999999999), 0, 0,
    0, (modEnt 0 (fun x => { x with valid := true }) (setReg .dxd 0xA108 (BitVec.allOnes 64) 0x600000010 (setReg .dxd
    0xA100 (BitVec.allOnes 64) 0x500000010 (sv vp (rj { job1 with steps := [rs1 3 999999999999] }))))), (lsKeep 5 3
    ⟨5, 0, 0, 2, 3, 0, 99⟩ (modEnt 0 (fun x => { x with valid := true }) (setReg .dxd 0xA108 (BitVec.allOnes 64)
    0x600000010 (setReg .dxd 0xA100 (BitVec.allOnes 64) 0x500000010 (sv vp (rj
    { job1 with steps := [rs1 3 999999999999] })))))), by decide +kernel⟩
  · exact ⟨1, 7, 0x8000000000000001, rt, by decide +kernel⟩
  · exact ⟨1, 7, 1, (modEnt 7 (fun x => { x with valid := true }) rt), by decide +kernel⟩
  · exact ⟨1, (modScores (fun t => { t with skew := 3 }) rt), by decide +kernel⟩

/-- Values that meet the hypotheses of each clause of `Obligations.BenchAndJoin`. -/
theorem witness_BenchAndJoin :
    (∃ (p : Nat) (h : LinkHdr) (ep : Nat) (f : BenchF) (s : State), Accepts .tsu p h ⟨ep, .bench f⟩ s ∧ oseqNew .tsu
      f.oseq s = true ∧ f.kind ≠ 1 ∧ f.newEpoch ≠ ep ∧ s.t.mem.epoch ≠ 0 ∧ closesEpoch f = false ∧ (f.reason = 0 ∨
      ofReplaced f s.t.mem.die = false)) ∧
    (∃ (p : Nat) (h : LinkHdr) (ep : Nat) (f : BenchF) (s : State), Accepts .tsu p h ⟨ep, .bench f⟩ s ∧ oseqNew .tsu
      f.oseq s = true ∧ f.kind ≠ 1 ∧ f.newEpoch ≠ ep ∧ s.t.mem.epoch ≠ 0 ∧ fencesTsu f s.t.mem.die = true) ∧
    (∃ (p : Nat) (h : LinkHdr) (ep : Nat) (s : State) (f : BenchF), Accepts .tsu p h ⟨ep, .bench f⟩ s ∧ oseqNew .tsu
      f.oseq s = true ∧ f.kind ≠ 1 ∧ f.newEpoch ≠ ep ∧ s.t.mem.epoch ≠ 0 ∧ (closesEpoch f = true ∨ (f.reason ≠ 0 ∧
      ofReplaced f s.t.mem.die = true ∧ fencesTsu f s.t.mem.die = false))) ∧
    (∃ (p : Nat) (h : LinkHdr) (ep : Nat) (s : State) (f : BenchF), Accepts .tsu p h ⟨ep, .bench f⟩ s ∧ oseqNew .tsu
      f.oseq s = true ∧ (f.kind = 1 ∨ f.newEpoch = ep ∨ s.t.mem.epoch = 0)) ∧
    (∃ (h : LinkHdr) (ep : Nat) (p : Nat) (f : BenchF) (s : State), Accepts .dxd p h ⟨ep, .bench f⟩ s ∧ oseqNew .dxd
      f.oseq s = true ∧ f.kind ≠ 1 ∧ f.reason ≠ 0xB ∧ f.newEpoch ≠ ep) ∧
    (∃ (h : LinkHdr) (ep : Nat) (p : Nat) (f : BenchF) (v : Served) (m : LaneMember) (s : State), Accepts .dxd p h
      ⟨ep, .bench f⟩ s ∧ oseqNew .dxd f.oseq s = true ∧ f.kind ≠ 1 ∧ f.reason = 0xB ∧ s.x.straps.role = 0 ∧ s.served
      ep = some v ∧ v.members.find? (fun m => m.die == f.target) = some m ∧ (s.port .dxd m.port).probe = none) ∧
    (∃ (h : LinkHdr) (ep : Nat) (p : Nat) (f : BenchF) (s : State), Accepts .dxd p h ⟨ep, .bench f⟩ s ∧ oseqNew .dxd
      f.oseq s = true ∧ f.kind = 1 ∧ f.target = selfTarget s) ∧
    (∃ (h : LinkHdr) (ep : Nat) (p : Nat) (q : Nat) (f : BenchF) (s : State), Accepts .dxd p h ⟨ep, .bench f⟩ s ∧
      oseqNew .dxd f.oseq s = true ∧ f.kind = 1 ∧ f.target ≠ selfTarget s ∧ portToward s f.target = some q ∧ (s.port
      .dxd q).st = 5) ∧
    (∃ (e : Nat) (s : State), s.t.mem.nextEpoch = some e ∧ joinOk e s = true) ∧
    (∃ (s : State), (∀ e, s.t.mem.nextEpoch = some e → joinOk e s = false)) ∧
    (∃ (n : Nat) (s : State), s.t.mem.sourceless = some n ∧ s.t.mem.epoch ≠ 0 ∧ n + 10000 ≤ s.tc.up) ∧
    (∃ (s : State), (s.t.mem.sourceless = none ∨ s.t.mem.epoch = 0)) := by
  refine ⟨?_, ?_, ?_, ?_, ?_, ?_, ?_, ?_, ?_, ?_, ?_, ?_⟩
  · exact ⟨0, hd1, 5, ⟨9, 6, 0, 65536, 1, 0⟩, (modKp (fun k => { k with jobValid := true, loadedEpoch := 5 }) (wr [sr
    .armed 1000000009000] b0)), by decide +kernel⟩
  · exact ⟨0, hd1, 5, ⟨9, 6, 0, 42, 1, 0⟩, (wr [sr .armed 1000000009000] b0), by decide +kernel⟩
  · exact ⟨0, hd1, 5, b0, ⟨9, 6, 0, 0xFFFFFFFF, 0, 0⟩, by decide +kernel⟩
  · exact ⟨0, hd1, 5, b0, ⟨9, 0, 1, 77, 1, 0⟩, by decide +kernel⟩
  · exact ⟨hd1, 5, 192, ⟨9, 6, 0, 5, 1, 0⟩, (wk (sv vp pk)), by decide +kernel⟩
  · exact ⟨hd1, 5, 192, ⟨9, 5, 0, 5, 0xB, 0⟩, vp, ⟨0, 5, true, false⟩, (sv vp pk), by decide +kernel⟩
  · exact ⟨hd1, 5, 192, ⟨9, 0, 1, selfTarget hl, 1, 0⟩, (sv vp hl), by decide +kernel⟩
  · exact ⟨hd1, 5, 192, 1, ⟨9, 0, 1, dxdTarget 2 0 false 1, 1, 0⟩, (sv vp hl), by decide +kernel⟩
  · exact ⟨6, (cl { count := 5, waiters := [(3, some ⟨2, .fabric 2⟩)] } (modKp (fun k =>
    { k with fits := true, applied := true, jobValid := true, loadedEpoch := 6, engines := 513 }) (modMem (fun m =>
    { m with epoch := 0, nextEpoch := some 6 }) b0))), by decide +kernel⟩
  · exact ⟨b0, by decide +kernel⟩
  · exact ⟨5, (wr [sr .armed 1000000009000] (modMem (fun m => { m with sourceless := some 5 }) b0)),
    by decide +kernel⟩
  · exact ⟨b0, by decide +kernel⟩

/-- Values that meet the hypotheses of each clause of `Obligations.ProbesAndReports`. -/
theorem witness_ProbesAndReports :
    (∃ (p : Nat) (m : MemberProbe) (s : State), (s.port .dxd p).probe = some m ∧ m.sent < 8 ∧ m.from_ + 10000 * m.sent
      ≤ s.dc.up ∧ (s.port .dxd p).live = false) ∧
    (∃ (p : Nat) (m : MemberProbe) (s : State), (s.port .dxd p).probe = some m ∧ m.sent < 8 ∧ m.from_ + 10000 * m.sent
      ≤ s.dc.up ∧ (s.port .dxd p).live = true) ∧
    (∃ (p : Nat) (s : State), (∀ m, (s.port .dxd p).probe = some m → 8 ≤ m.sent ∨ s.dc.up < m.from_ + 10000 * m.sent))
      ∧
    (∃ (p : Nat) (m : MemberProbe) (s : State), (s.port .dxd p).probe = some m ∧ m.from_ + 80000 ≤ s.dc.up ∧ 4 ≤
      m.answered ∧ m.lateOk = true) ∧
    (∃ (p : Nat) (ep : Nat) (m : MemberProbe) (x : LaneMember) (s : State), (s.port .dxd p).probe = some m ∧ m.from_ +
      80000 ≤ s.dc.up ∧ (m.answered < 4 ∨ m.lateOk = false) ∧ laneMember s p = some (ep, x) ∧ ep ≠ 0 ∧ s.x.straps.role
      = 0) ∧
    (∃ (p : Nat) (m : MemberProbe) (s : State), (s.port .dxd p).probe = some m ∧ s.dc.up < m.from_ + 80000) ∧
    (∃ (p : Nat) (v : Served) (m : LaneMember) (s : State), s.x.cs.served.find? (fun v => v.members.any (fun m =>
      m.port == p)) = some v ∧ v.members.find? (fun m => m.port == p) = some m ∧ s.x.straps.role = 0 ∧ m.joined =
      false ∧ m.reported = false ∧ v.deadline ≤ s.dc.up ∧ v.epoch ≠ 0) ∧
    (∃ (p : Nat) (v : Served) (m : LaneMember) (s : State), s.x.cs.served.find? (fun v => v.members.any (fun m =>
      m.port == p)) = some v ∧ v.members.find? (fun m => m.port == p) = some m ∧ (m.joined = true ∨ m.reported = true
      ∨ s.dc.up < v.deadline)) ∧
    (∃ (p : Nat) (h : LinkHdr) (ep : Nat) (f : StockF) (s : State), Accepts .dxd p h ⟨ep, .stock f⟩ s ∧
      s.x.straps.role ≠ 2) ∧
    (∃ (p : Nat) (h : LinkHdr) (ep : Nat) (f : StockF) (s : State), Accepts .dxd p h ⟨ep, .stock f⟩ s ∧ rootActs s =
      true ∧ (f.kind ≠ 0 ∨ f.phases < 3)) ∧
    (∃ (p : Nat) (h : LinkHdr) (ep : Nat) (f : StockF) (b : Job) (s : State), Accepts .dxd p h ⟨ep, .stock f⟩ s ∧
      rootActs s = true ∧ f.kind = 0 ∧ 3 ≤ f.phases ∧ ep ≠ 0 ∧ jobOfDie s f.die ep = some b ∧ jobOfDie s (dieClass
      f.die * 2 ^ 30 + dieRank f.die * 2 ^ 16) b.epoch = some b ∧ s.job b.slot = some b ∧ b.pause = none ∧ b.steps =
      [] ∧ findSpare s b (dieClass f.die == 1) = none ∧ b.stays = false ∧ ledgerRoom 1 s = true ∧ s.x.rf2.lastEpoch <
      0xFFFFFFFF ∧ dieClass (dieClass f.die * 2 ^ 30 + dieRank f.die * 2 ^ 16) = dieClass f.die) ∧
    (∃ (rq : Nat) (v : Word) (b : Job) (s : State), WriteTaken .dxd rq 0x14 0x138 s ∧ rootActs s = true ∧ bit v 61 =
      true ∧ dieOk (fld v 0 32) = true ∧ jobOfDie s (fld v 0 32) 0 = some b ∧ s.x.rf2.complaint ≠ 1 ∧ ledgerRoom 0 s =
      true) ∧
    (∃ (rq : Nat) (s : State), WriteTaken .dxd rq 0x14 0x138 s ∧ rootActs s = false) ∧
    (∃ (p : Nat) (h : LinkHdr) (ep : Nat) (f : TallyF) (r : Report) (v : Job) (s : State), Accepts .dxd p h ⟨ep,
      .tally f⟩ s ∧ rootActs s = true ∧ f.lane = 0xF ∧ f.window = 0xFFFFFE ∧ r = ⟨f.tally / 2 ^ 48 % 256, f.die,
      f.tally / 2 ^ 56, f.tally % 2 ^ 32, ep, s.dc.up⟩ ∧ r.kind = 0 ∧ r.reason = 5 ∧ s.x.rf2.complaint = 1 ∧
      s.x.rf2.complaintDie = r.target ∧ jobOfEpoch s ep = some v ∧ ep ≠ 0) ∧
    (∃ (s : State), s.x.rf2.complaint = 1 ∧ s.x.rf2.complaintAt + 200000 ≤ s.dc.up ∧ beingBenched s.x.rf2.complaintDie
      s = false) ∧
    (∃ (s : State), (s.x.rf2.complaint ≠ 1 ∨ s.dc.up < s.x.rf2.complaintAt + 200000 ∨ beingBenched
      s.x.rf2.complaintDie s = true)) := by
  refine ⟨?_, ?_, ?_, ?_, ?_, ?_, ?_, ?_, ?_, ?_, ?_, ?_, ?_, ?_, ?_, ?_⟩
  · exact ⟨0, ⟨5, 5, 7, 2, 0, true⟩, (pq .dxd 0 (fun q => { q with st := 1, probe := some ⟨5, 5, 7, 2, 0, true⟩ })
    pk), by decide +kernel⟩
  · exact ⟨0, ⟨5, 5, 7, 2, 0, true⟩, (pq .dxd 0 (fun q => { q with probe := some ⟨5, 5, 7, 2, 0, true⟩ }) pk),
    by decide +kernel⟩
  · exact ⟨0, b0, by decide +kernel⟩
  · exact ⟨0, ⟨5, 5, 8, 4, 0, true⟩, (pq .dxd 0 (fun q => { q with probe := some ⟨5, 5, 8, 4, 0, true⟩ }) pk),
    by decide +kernel⟩
  · exact ⟨0, 5, ⟨5, 5, 8, 3, 0, true⟩, ⟨0, 5, true, false⟩, (pq .dxd 0 (fun q =>
    { q with probe := some ⟨5, 5, 8, 3, 0, true⟩ }) (sv vp pk)), by decide +kernel⟩
  · exact ⟨0, ⟨999920001, 5, 8, 3, 0, true⟩, (pq .dxd 0 (fun q =>
    { q with probe := some ⟨999920001, 5, 8, 3, 0, true⟩ }) pk), by decide +kernel⟩
  · exact ⟨1, { vp with members := [⟨0, 5, true, false⟩, ⟨1, 6, false, false⟩], deadline := 1000000000 }, ⟨1, 6,
    false, false⟩, (sv { vp with members := [⟨0, 5, true, false⟩, ⟨1, 6, false, false⟩], deadline := 1000000000 } pk),
    by decide +kernel⟩
  · exact ⟨0, vp, ⟨0, 5, true, false⟩, (sv vp pk), by decide +kernel⟩
  · exact ⟨0, hd1, 5, ⟨5, 0, 100, 50, 60, 0, false, false, 0⟩, (sv vp hl), by decide +kernel⟩
  · exact ⟨0, hd1, 5, ⟨5, 0, 100, 50, 60, 0, false, false, 0⟩, (sv vp rt), by decide +kernel⟩
  · exact ⟨0, hd1, 5, ⟨5, 0, 100, 50, 60, 3, false, false, 0⟩, job1, (sv vp (rj job1)), by decide +kernel⟩
  · exact ⟨1, 0x2000000000000005, job1, (rj job1), by decide +kernel⟩
  · exact ⟨1, pk, by decide +kernel⟩
  · exact ⟨0, hd1, 5, ⟨0x30001, 0, 0xF, 0xFFFFFE, 0, 0, 5 * 2 ^ 56 + 42⟩, ⟨0, 0x30001, 5, 42, 5, 1000000000⟩, job1,
    (sv vp (modRef (fun r => { r with complaint := 1, complaintDie := 0x30001 }) (rj job1))), by decide +kernel⟩
  · exact ⟨(modRef (fun r => { r with complaint := 1, complaintAt := 999800000 }) rt), by decide +kernel⟩
  · exact ⟨b0, by decide +kernel⟩

/-- Values that meet the hypotheses of each clause of `Obligations.Recovery`. -/
theorem witness_Recovery :
    (∃ (j : Nat) (b : Job) (p : Pause) (s : State), s.job j = some b ∧ b.pause = some p ∧ rootActs s = true ∧
      p.waiting = true ∧ p.callAt + 200000 ≤ s.dc.tk.bc ∧ p.targets = [] ∧ p.reason ≠ 3 ∧ launchedUnder b p = false) ∧
    (∃ (j : Nat) (b : Job) (p : Pause) (s : State), s.job j = some b ∧ b.pause = some p ∧ rootActs s = true ∧
      p.waiting = true ∧ p.callAt + 200000 ≤ s.dc.tk.bc ∧ p.targets = [] ∧ (p.reason = 3 ∨ launchedUnder b p = true) ∧
      b.state = 3 ∧ (∀ r, r ∈ b.steps → r.isArmed = false) ∧ s.x.rf2.lastEpoch < 0xFFFFFFFF ∧ ledgerRoom 1 s = true) ∧
    (∃ (j : Nat) (b : Job) (p : Pause) (s : State), s.job j = some b ∧ b.pause = some p ∧ (p.waiting = false ∨
      s.dc.tk.bc < p.callAt + 200000)) ∧
    (∃ (j : Nat) (n : Nat) (b : Job) (p : Pause) (s : State), s.job j = some b ∧ b.pause = some p ∧ rootActs s = true
      ∧ p.deferTo = some n ∧ n ≤ s.dc.tk.bc ∧ (∀ r, r ∈ b.steps → r.isArmed = false) ∧ b.state = 3 ∧ p.targets = [(0,
      0, 0)] ∧ s.x.rf2.lastEpoch < 0xFFFFFFFF ∧ ledgerRoom 1 s = true) ∧
    (∃ (j : Nat) (b : Job) (p : Pause) (s : State), s.job j = some b ∧ b.pause = some p ∧ (∀ n, p.deferTo = some n →
      s.dc.tk.bc < n)) ∧
    (∃ (j : Nat) (r : Nat) (a : Nat) (b : Job) (p : Pause) (s : State), s.job j = some b ∧ b.pause = some p ∧
      replayPoint b p = some (r, a) ∧ rootActs s = true ∧ b.state = 3 ∧ b.ending = none ∧ a ≤ s.dc.tk.bc ∧ exhausted b
      r = false ∧ (b.stopArms = false ∨ nextAttempt b r ≠ 0) ∧ ledgerRoom 1 s = true) ∧
    (∃ (j : Nat) (r : Nat) (a : Nat) (b : Job) (p : Pause) (s : State), s.job j = some b ∧ b.pause = some p ∧
      replayPoint b p = some (r, a) ∧ rootActs s = true ∧ b.state = 3 ∧ b.ending = none ∧ a ≤ s.dc.tk.bc ∧ exhausted b
      r = true ∧ (b.stopArms = false ∨ nextAttempt b r ≠ 0)) ∧
    (∃ (j : Nat) (r : Nat) (a : Nat) (b : Job) (p : Pause) (s : State), s.job j = some b ∧ b.pause = some p ∧
      replayPoint b p = some (r, a) ∧ rootActs s = true ∧ b.state = 3 ∧ b.ending = none ∧ a ≤ s.dc.tk.bc ∧ b.stopArms
      = true ∧ nextAttempt b r = 0) ∧
    (∃ (j : Nat) (b : Job) (p : Pause) (s : State), s.job j = some b ∧ b.pause = some p ∧ b.state = 4) ∧
    (∃ (j : Nat) (b : Job) (p : Pause) (s : State), s.job j = some b ∧ b.pause = some p ∧ replayPoint b p = none) :=
      by
  refine ⟨?_, ?_, ?_, ?_, ?_, ?_, ?_, ?_, ?_, ?_⟩
  · exact ⟨1, (jp { pz with reason := 1 }), { pz with reason := 1 }, (rj (jp { pz with reason := 1 })),
    by decide +kernel⟩
  · exact ⟨1, (jp pz), pz, (rj (jp pz)), by decide +kernel⟩
  · exact ⟨1, (jp { pz with waiting := false }), { pz with waiting := false }, (rj (jp { pz with waiting := false })),
    by decide +kernel⟩
  · exact ⟨1, 1000000000000, (jp { pz with waiting := false, targets := [(0, 0, 0)], deferTo := some 1000000000000 }),
    { pz with waiting := false, targets := [(0, 0, 0)], deferTo := some 1000000000000 }, (rj (jp
    { pz with waiting := false, targets := [(0, 0, 0)], deferTo := some 1000000000000 })), by decide +kernel⟩
  · exact ⟨1, (jp pz), pz, (rj (jp pz)), by decide +kernel⟩
  · exact ⟨1, 3, 999999900000,
    { jp { pz with waiting := false, benchAt := some 999998900000, lead := 1000000 } with committedTo := some 2, steps := [{ rs1 3 999999700000 with withdrawn := true, attempt := 1 }] },
    { pz with waiting := false, benchAt := some 999998900000, lead := 1000000 }, (rj
    { jp { pz with waiting := false, benchAt := some 999998900000, lead := 1000000 } with committedTo := some 2, steps := [{ rs1 3 999999700000 with withdrawn := true, attempt := 1 }] }),
    by decide +kernel⟩
  · exact ⟨1, 3, 999999900000,
    { jp { pz with waiting := false, benchAt := some 999998900000, lead := 1000000 } with committedTo := some 2, steps := [{ rs1 3 999999700000 with withdrawn := true, attempt := 2 }] },
    { pz with waiting := false, benchAt := some 999998900000, lead := 1000000 }, (rj
    { jp { pz with waiting := false, benchAt := some 999998900000, lead := 1000000 } with committedTo := some 2, steps := [{ rs1 3 999999700000 with withdrawn := true, attempt := 2 }] }),
    by decide +kernel⟩
  · exact ⟨1, 3, 999999900000,
    { jp { pz with waiting := false, benchAt := some 999998900000, lead := 1000000 } with committedTo := some 2, stopArms := true, steps := [] },
    { pz with waiting := false, benchAt := some 999998900000, lead := 1000000 }, (rj
    { jp { pz with waiting := false, benchAt := some 999998900000, lead := 1000000 } with committedTo := some 2, stopArms := true, steps := [] }),
    by decide +kernel⟩
  · exact ⟨1, { jp pz with state := 4 }, pz, (rj { jp pz with state := 4 }), by decide +kernel⟩
  · exact ⟨1, (jp pz), pz, (rj (jp pz)), by decide +kernel⟩

/-- Values that meet the hypotheses of each clause of `Obligations.JobCommands`. -/
theorem witness_JobCommands :
    (∃ (rq : Nat) (s : State), WriteTaken .dxd rq 0x14 0x118 s ∧ rootActs s = false) ∧
    (∃ (rq : Nat) (v : Word) (s : State) (d : List Byte), WriteTaken .dxd rq 0x14 0x118 s ∧ rootActs s = true ∧ fld v
      61 3 = 1 ∧ (∀ b, s.job (jobSel s) = some b → b.state = 0 ∨ b.state = 5) ∧ s.x.rf2.lastEpoch < 0xFFFFFFFF ∧
      submitResult s (fld v 0 32) = 0 ∧ 3 ≤ ledgerFree s.x.lg ∧ d = atticBytes s (fld v 0 32) (2696 + 8 * be
      (atticBytes s (fld v 0 32) 10) 9 1)) ∧
    (∃ (rq : Nat) (v : Word) (r : Nat) (s : State), WriteTaken .dxd rq 0x14 0x118 s ∧ rootActs s = true ∧ fld v 61 3 =
      1 ∧ (∀ b, s.job (jobSel s) = some b → b.state = 0 ∨ b.state = 5) ∧ s.x.rf2.lastEpoch < 0xFFFFFFFF ∧ submitResult
      s (fld v 0 32) = r ∧ r ≠ 0) ∧
    (∃ (rq : Nat) (v : Word) (b : Job) (s : State), WriteTaken .dxd rq 0x14 0x118 s ∧ rootActs s = true ∧ fld v 61 3 =
      1 ∧ s.job (jobSel s) = some b ∧ 1 ≤ b.state ∧ b.state ≤ 4) ∧
    (∃ (rq : Nat) (v : Word) (b : Job) (s : State), WriteTaken .dxd rq 0x14 0x118 s ∧ rootActs s = true ∧ fld v 61 3 =
      2 ∧ s.job (jobSel s) = some b ∧ b.state = 4 ∧ b.result ≠ 0xB ∧ b.ending = none ∧ b.pause = none ∧ b.stopArms =
      false) ∧
    (∃ (rq : Nat) (v : Word) (b : Job) (s : State), WriteTaken .dxd rq 0x14 0x118 s ∧ rootActs s = true ∧ fld v 61 3 =
      2 ∧ s.job (jobSel s) = some b ∧ b.state = 4 ∧ b.result ≠ 0xB ∧ b.ending = none ∧ b.pause = none ∧ b.stopArms =
      true) ∧
    (∃ (rq : Nat) (v : Word) (b : Job) (s : State), WriteTaken .dxd rq 0x14 0x118 s ∧ fld v 61 3 = 2 ∧ s.job (jobSel
      s) = some b ∧ (b.state ≠ 4 ∨ b.result = 0xB)) ∧
    (∃ (rq : Nat) (v : Word) (b : Job) (s : State), WriteTaken .dxd rq 0x14 0x118 s ∧ rootActs s = true ∧ fld v 61 3 =
      3 ∧ s.job (jobSel s) = some b ∧ 1 ≤ b.state ∧ b.state ≤ 4 ∧ b.ending = none) ∧
    (∃ (rq : Nat) (v : Word) (i : Nat) (e : Spare) (b : Job) (s : State), WriteTaken .dxd rq 0x14 0x118 s ∧ rootActs s
      = true ∧ fld v 61 3 = 4 ∧ dieOk (fld v 0 32) = true ∧ s.job (jobSel s) = some b ∧ b.slot = jobSel s ∧ (slotOf b
      (dieClass (fld v 0 32)) (dieRank (fld v 0 32))).isSome = true ∧ b.pause = none ∧ b.steps = [] ∧ b.stays = false
      ∧ ledgerRoom 1 s = true ∧ findSpare s b (dieClass (fld v 0 32) == 1) = some (i, e) ∧ s.x.rf2.lastEpoch <
      0xFFFFFFFF) ∧
    (∃ (rq : Nat) (v : Word) (b : Job) (s : State), WriteTaken .dxd rq 0x14 0x118 s ∧ fld v 61 3 = 4 ∧ s.job (jobSel
      s) = some b ∧ slotOf b (dieClass (fld v 0 32)) (dieRank (fld v 0 32)) = none) ∧
    (∃ (rq : Nat) (v : Word) (s : State), WriteTaken .dxd rq 0x14 0x118 s ∧ fld v 61 3 = 4 ∧ dieOk (fld v 0 32) =
      false) ∧
    (∃ (j : Nat) (r : Nat) (b : Job) (s : State), s.job j = some b ∧ b.ending = some r ∧ rootActs s = true ∧ b.state ≠
      0 ∧ b.state ≠ 5 ∧ (∀ x, x ∈ b.steps → stepSettled s b x = true) ∧ s.x.rf2.lastEpoch < 0xFFFFFFFF ∧ ledgerRoom 2
      s = true) ∧
    (∃ (j : Nat) (b : Job) (s : State), s.job j = some b ∧ (b.ending = none ∨ (∃ x, x ∈ b.steps ∧ stepSettled s b x =
      false))) ∧
    (∃ (s : State), ledgerRoom 2 s = false) ∧
    (∃ (rq : Nat) (s : State), WriteTaken .dxd rq 0x14 0x150 s ∧ rootActs s = true) ∧
    (∃ (rq : Nat) (s : State), ReadTaken .dxd rq 0x14 s) := by
  refine ⟨?_, ?_, ?_, ?_, ?_, ?_, ?_, ?_, ?_, ?_, ?_, ?_, ?_, ?_, ?_, ?_⟩
  · exact ⟨1, pk, by decide +kernel⟩
  · exact ⟨1, 0x2000000000104000, (att desc rt), _, by decide +kernel, by decide +kernel, by decide +kernel,
    by decide +kernel, by decide +kernel, submit_desc, by decide +kernel, rfl⟩
  · exact ⟨1, 0x2000000000000000, 2, rt, by decide +kernel⟩
  · exact ⟨1, 0x2000000000000000, job1, (sel (rj job1)), by decide +kernel⟩
  · exact ⟨1, 0x4000000000000000, { job1 with state := 4, result := 3 }, (sel (rj
    { job1 with state := 4, result := 3 })), by decide +kernel⟩
  · exact ⟨1, 0x4000000000000000, { job1 with state := 4, result := 7, stopArms := true }, (sel (rj
    { job1 with state := 4, result := 7, stopArms := true })), by decide +kernel⟩
  · exact ⟨1, 0x4000000000000000, job1, (sel (rj job1)), by decide +kernel⟩
  · exact ⟨1, 0x6000000000000000, { job1 with pause := some pz, state := 3, steps := [rs1 2 1000000090000] }, (sel (rj
    { job1 with pause := some pz, state := 3, steps := [rs1 2 1000000090000] })), by decide +kernel⟩
  · exact ⟨1, 0x8000000000000000, 0, { valid := true, slot := 7 }, job1, (sel (modRef (fun r =>
    { r with spares := [(0, { valid := true, slot := 7 })] }) (rj job1))), by decide +kernel⟩
  · exact ⟨1, 0x8000000000050000, job1, (sel (rj job1)), by decide +kernel⟩
  · exact ⟨1, 0x80000000000000C8, (rj job1), by decide +kernel⟩
  · exact ⟨1, 8, { job1 with ending := some 8, steps := [{ rs1 2 999999900000 with withdrawn := true }] }, (sv vp (rj
    { job1 with ending := some 8, steps := [{ rs1 2 999999900000 with withdrawn := true }] })), by decide +kernel⟩
  · exact ⟨1, job1, (rj job1), by decide +kernel⟩
  · exact ⟨(modLg (fun l => { l with recs := List.replicate 16384 ⟨5, 0, 3, 5, 4, 0, [], false, true⟩ }) (rj
    { job1 with ending := some 8 })), by decide +kernel⟩
  · exact ⟨1, (modRef (fun r => { r with benchedSlots := [(true, 7), (false, 7)] }) rt), by decide +kernel⟩
  · exact ⟨1, (modRef (fun r => { r with unpaired := 3, lastEpoch := 9 }) (rj job1)), by decide +kernel⟩

/-- Values that meet the hypotheses of each clause of `Obligations.LedgerCommands`. -/
theorem witness_LedgerCommands :
    (∃ (a : LedgerRec) (n : Nat) (c : LedgerRec) (b : Job) (s : State), rootActs s = true ∧ a.seq = n ∧
      s.x.lg.open_.head? = some n ∧ s.x.lg.recs.find? (fun r => r.seq == n) = some c ∧ c.ty = 6 ∧ c.step < 2 ^ 48 - 1
      ∧ s.job b.slot = some b ∧ s.x.rf2.jobs.find? (fun b => b.steps.any (fun r => r.step == c.step && r.attempt ==
      c.attempt && r.epoch == c.epoch && r.committing)) = some b) ∧
    (∃ (a : LedgerRec) (n : Nat) (c : LedgerRec) (m : LedgerMsg) (s : State), rootActs s = true ∧ a.seq = n ∧
      s.x.lg.open_.head? = some n ∧ s.x.lg.recs.find? (fun r => r.seq == n) = some c ∧ c.ty ≠ 6 ∧ s.x.lg.msgs = [m] ∧
      (∀ o, o ∈ s.x.lg.open_.drop 1 → 0 < serial 32 o m.seq) ∧ (∀ e, m.frame.payload ≠ .bench e)) ∧
    (∃ (a : LedgerRec) (n : Nat) (c : LedgerRec) (e : BenchF) (m : LedgerMsg) (b : Job) (p : Pause) (s : State),
      rootActs s = true ∧ a.seq = n ∧ s.x.lg.open_.head? = some n ∧ s.x.lg.recs.find? (fun r => r.seq == n) = some c ∧
      c.ty ≠ 6 ∧ s.x.lg.msgs = [m] ∧ (∀ o, o ∈ s.x.lg.open_.drop 1 → 0 < serial 32 o m.seq) ∧ m.frame.payload = .bench
      e ∧ e.kind ≠ 1 ∧ e.newEpoch ≠ m.frame.epoch ∧ s.job b.slot = some b ∧ b.epoch = e.newEpoch ∧ b.pause = some p) ∧
    (∃ (a : LedgerRec) (s : State), rootActs s = true ∧ s.x.lg.open_.head? ≠ some a.seq) ∧
    (∃ (a : LedgerRec) (s : State), rootShadow s = true ∧ a.solo = false ∧ a.seq = s.x.lg.next ∧ (pairPort s).isSome =
      true) ∧
    (∃ (s : State), s.x.straps.role ≠ 2) ∧
    (∃ (s : State), s.x.straps.role = 2 ∧ (pairPort s).isSome = true ∧ s.x.rf2.acting = false) ∧
    (∃ (s : State), s.x.straps.role = 2 ∧ (pairPort s).isSome = true ∧ s.x.rf2.acting = true ∧ (s.x.rf2.jobs ≠ [] ∨
      s.x.lg.open_ ≠ [])) ∧
    (∃ (s : State), s.x.straps.role = 2 ∧ (pairPort s).isSome = true ∧ s.x.rf2.acting = true ∧ s.x.rf2.jobs = [] ∧
      s.x.lg.open_ = []) ∧
    (∃ (s : State), (s.x.straps.role ≠ 2 ∨ pairPort s = none)) ∧
    (∃ (s : State), s.x.straps.role = 2 ∧ inCellar .dxd s = false ∧ pairLost s = true ∧ s.x.rf2.acting = false ∧
      s.x.rf2.jobs = [] ∧ 0 < ledgerFree s.x.lg) ∧
    (∃ (s : State), s.x.straps.role = 2 ∧ inCellar .dxd s = false ∧ pairLost s = true ∧ s.x.rf2.acting = false) ∧
    (∃ (s : State), (s.x.straps.role ≠ 2 ∨ pairLost s = false ∨ (s.x.rf2.acting = true ∧ s.x.lg.solo = true))) ∧
    (∃ (rq : Nat) (s : State), WriteTaken .dxd rq 0x15 0x108 s) ∧
    (∃ (rq : Nat) (v : Word) (b : Job) (s : State), WriteTaken .dxd rq 0x15 0x158 s ∧ rootActs s = true ∧ bit v 63 =
      false ∧ bit v 62 = true ∧ s.job (fld v 48 4) = some b ∧ nextAttempt b (fld v 0 48) = 0 ∧ b.nextStep ≤ fld v 0
      48) ∧
    (∃ (rq : Nat) (v : Word) (b : Job) (s : State), WriteTaken .dxd rq 0x15 0x158 s ∧ bit v 63 = false ∧ s.job (fld v
      48 4) = some b ∧ (nextAttempt b (fld v 0 48) ≠ 0 ∨ fld v 0 48 < b.nextStep)) ∧
    (∃ (rq : Nat) (v : Word) (b : Job) (s : State), WriteTaken .dxd rq 0x15 0x158 s ∧ rootActs s = true ∧ bit v 63 =
      true ∧ bit v 62 = false ∧ s.job (fld v 48 4) = some b ∧ b.state ≠ 0 ∧ 0 < ledgerFree s.x.lg) := by
  refine ⟨?_, ?_, ?_, ?_, ?_, ?_, ?_, ?_, ?_, ?_, ?_, ?_, ?_, ?_, ?_, ?_, ?_⟩
  · exact ⟨⟨6, 0, 3, 5, 4, 0, [], false, true⟩, 4, ⟨6, 0, 3, 5, 4, 0, [], false, true⟩,
    { job1 with steps := [{ rs1 3 999999990000 with committing := true, accepted := true }] }, (modLg (fun l =>
    { l with recs := [⟨6, 0, 3, 5, 4, 0, [], false, true⟩], open_ := [4, 5] }) (rj
    { job1 with steps := [{ rs1 3 999999990000 with committing := true, accepted := true }] })), by decide +kernel⟩
  · exact ⟨⟨5, 0, 3, 5, 4, 0, [], false, true⟩, 4, ⟨5, 0, 3, 5, 4, 0, [], false, true⟩, ⟨4, ⟨5, .arm arm1⟩, [0, 1,
    7]⟩, (modLg (fun l =>
    { l with recs := [⟨5, 0, 3, 5, 4, 0, [], false, true⟩], open_ := [4, 5], msgs := [⟨4, ⟨5, .arm arm1⟩, [0, 1, 7]⟩] })
    rt), by decide +kernel, by decide +kernel, by decide +kernel, by decide +kernel, by decide +kernel,
    by decide +kernel, by decide +kernel, (fun _ h => nomatch h)⟩
  · exact ⟨⟨2, 0, 0, 5, 4, 0, [], false, true⟩, 4, ⟨2, 0, 0, 5, 4, 0, [], false, true⟩, ⟨9, 5, 0, 42, 1, 500⟩, ⟨4, ⟨4,
    .bench ⟨9, 5, 0, 42, 1, 500⟩⟩, [0, 1]⟩, (jp pz), pz, (modLg (fun l =>
    { l with recs := [⟨2, 0, 0, 5, 4, 0, [], false, true⟩], open_ := [4], msgs := [⟨4, ⟨4, .bench ⟨9, 5, 0, 42, 1, 500⟩⟩, [0, 1]⟩] })
    (rj (jp pz))), by decide +kernel⟩
  · exact ⟨⟨6, 0, 3, 5, 4, 0, [], false, true⟩, (modLg (fun l => { l with open_ := [3, 4] }) rt), by decide +kernel⟩
  · exact ⟨⟨5, 0, 3, 5, 1, 0, [], false, true⟩, (modLg (fun l => { l with next := 1 }) (modRef (fun r =>
    { r with jobs := [{ job1 with steps := [rs1 3 999999990000] }] }) b0)), by decide +kernel⟩
  · exact ⟨pk, by decide +kernel⟩
  · exact ⟨b0, by decide +kernel⟩
  · exact ⟨(modLg (fun l => { l with solo := true }) (rj job1)), by decide +kernel⟩
  · exact ⟨(modLg (fun l => { l with solo := true }) rt), by decide +kernel⟩
  · exact ⟨pk, by decide +kernel⟩
  · exact ⟨(modLg (fun l =>
    { l with recs := [⟨3, 0, 0, 0, 1, 4095, [], false, false⟩, ⟨2, 0, 0, 7, 2, 0, [], false, false⟩] }) (pq .dxd 192
    (fun q => { q with st := 1, downReason := 2 }) (pq .dxd 193 (fun q => { q with st := 1, downReason := 2 }) b0))),
    by decide +kernel⟩
  · exact ⟨(modLg (fun l =>
    { l with recs := [⟨3, 0, 0, 0, 1, 4095, [], false, false⟩, ⟨2, 0, 0, 7, 2, 0, [], false, false⟩] }) (pq .dxd 192
    (fun q => { q with st := 1, downReason := 2 }) (pq .dxd 193 (fun q => { q with st := 1, downReason := 2 }) b0))),
    by decide +kernel⟩
  · exact ⟨b0, by decide +kernel⟩
  · exact ⟨1, b0, by decide +kernel⟩
  · exact ⟨1, 0x4001000000000007, job1, (rj job1), by decide +kernel⟩
  · exact ⟨1, 0x4001000000000000, job1, (rj job1), by decide +kernel⟩
  · exact ⟨1, 0x8001000000000007, job1, (rj job1), by decide +kernel⟩

/-- Values that meet the hypotheses of each clause of `Obligations.StockTick`. -/
theorem witness_StockTick :
    (∃ (s : State), tickDue s = false) ∧
    (∃ (s : State), tickDue s = true) ∧
    (∃ (p : Nat) (s : State) (c : Nat) (n : Nat), tickDue s = true ∧ sliceIsolated s 9 = false ∧ s.tc.fuse.kind = .m ∧
      s.t.st.dark = false ∧ s.tc.tk.sideline = false ∧ s.t.st.leaveQ = [] ∧ launchedStep s = none ∧ p < 64 ∧ (s.stPort
      p).pending = true ∧ (s.stPort p).newReq = none ∧ (s.stPort p).newRel = [] ∧ (∀ q, q < 64 → q ≠ p → (s.stPort
      q).pending = false ∧ (s.stPort q).newReq = none ∧ (s.stPort q).newRel = []) ∧ c = effEnvelope (stEnvelope s)
      (lostCount s.t.st.lost) ∧ n = min (s.t.st.credit + 64 * stRise s) (1000 * stRise s) ∧ (s.stPort p).req ≤ stRise
      s ∧ s.t.st.g + (s.stPort p).req ≤ c ∧ 1000 * (s.stPort p).req ≤ n) ∧
    (∃ (p : Nat) (s : State), tickDue s = true ∧ sliceIsolated s 9 = false ∧ s.tc.fuse.kind = .m ∧ s.tc.tk.sideline =
      true ∧ p < 64 ∧ (s.stPort p).pending = true ∧ (s.stPort p).newReq = none ∧ (s.stPort p).newRel = []) ∧
    (∃ (p : Nat) (s : State), tickDue s = true ∧ sliceIsolated s 9 = false ∧ s.tc.fuse.kind = .m ∧ s.tc.tk.sideline =
      false ∧ p < 64 ∧ (s.stPort p).pending = true ∧ (s.stPort p).newReq = none ∧ (s.stPort p).newRel = [] ∧ stRise s
      < (s.stPort p).req) ∧
    (∃ (p : Nat) (w : Nat) (a : Nat) (s : State), tickDue s = true ∧ sliceIsolated s 9 = false ∧ s.tc.fuse.kind = .m ∧
      s.t.st.leaveQ = [] ∧ launchedStep s = none ∧ p < 64 ∧ (s.stPort p).newReq = some (w, a) ∧ a + 8 ≤ s.tc.up ∧ w ≤
      stRise s ∧ w ≤ effEnvelope (stEnvelope s) (lostCount s.t.st.lost)) ∧
    (∃ (p : Nat) (a : Nat) (s : State), tickDue s = true ∧ sliceIsolated s 9 = false ∧ p < 64 ∧ a ∈ (s.stPort
      p).newRel ∧ a + 8 ≤ s.tc.up ∧ (s.stPort p).pending = false ∧ (s.stPort p).newReq = none) ∧
    (∃ (r : StepRec) (w : Nat) (th : Thread) (n : Nat) (th' : Thread) (n' : Nat) (s : State) (e : Nat), tickDue s =
      true ∧ sliceIsolated s 9 = false ∧ s.tc.fuse.kind = .m ∧ s.t.st.leaveQ = [⟨r.step, some w, th, n⟩, ⟨r.step,
      none, th', n'⟩] ∧ s.t.steps = [r] ∧ (r.armed = true ∨ r.launched = true) ∧ e = effEnvelope (stEnvelope s)
      (lostCount s.t.st.lost)) ∧
    (∃ (r : StepRec) (w : Nat) (th : Thread) (n : Nat) (s : State) (e : Nat), tickDue s = true ∧ sliceIsolated s 9 =
      false ∧ s.tc.fuse.kind = .m ∧ s.t.st.leaveQ = [⟨r.step, some w, th, n⟩] ∧ leaveRec s r.step = some r ∧ (r.armed
      = true ∨ r.launched = true) ∧ r.leaveReturn = false ∧ e = effEnvelope (stEnvelope s) (lostCount s.t.st.lost)) :=
      by
  refine ⟨?_, ?_, ?_, ?_, ?_, ?_, ?_, ?_, ?_⟩
  · exact ⟨(modTk .tsu (fun t => { t with ns := 1 }) b0), by decide +kernel⟩
  · exact ⟨b0, by decide +kernel⟩
  · exact ⟨63, (modStPort 63 (fun x => { x with pending := true, req := 5, held := 2, wait := 3 }) (modSt (fun t =>
    { t with g := 20, credit := 64000 }) (kd .m b0))), (effEnvelope (stEnvelope (modStPort 63 (fun x =>
    { x with pending := true, req := 5, held := 2, wait := 3 }) (modSt (fun t => { t with g := 20, credit := 64000 })
    (kd .m b0)))) (lostCount (modStPort 63 (fun x => { x with pending := true, req := 5, held := 2, wait := 3 })
    (modSt (fun t => { t with g := 20, credit := 64000 }) (kd .m b0))).t.st.lost)), (min ((modStPort 63 (fun x =>
    { x with pending := true, req := 5, held := 2, wait := 3 }) (modSt (fun t => { t with g := 20, credit := 64000 })
    (kd .m b0))).t.st.credit + 64 * stRise (modStPort 63 (fun x =>
    { x with pending := true, req := 5, held := 2, wait := 3 }) (modSt (fun t => { t with g := 20, credit := 64000 })
    (kd .m b0)))) (1000 * stRise (modStPort 63 (fun x => { x with pending := true, req := 5, held := 2, wait := 3 })
    (modSt (fun t => { t with g := 20, credit := 64000 }) (kd .m b0))))), by decide +kernel⟩
  · exact ⟨63, (modTk .tsu (fun t => { t with sideline := true }) (modStPort 63 (fun x =>
    { x with pending := true, req := 65 }) (kd .m b0))), by decide +kernel⟩
  · exact ⟨0, (modStPort 0 (fun x => { x with pending := true, req := 65 }) (kd .m b0)), by decide +kernel⟩
  · exact ⟨3, 5, 999999992, (modStPort 3 (fun x => { x with newReq := some (5, 999999992) }) (kd .m b0)),
    by decide +kernel⟩
  · exact ⟨63, 999999992, (modStPort 63 (fun x => { x with newRel := [999999992, 999999999], held := 7 }) b0),
    by decide +kernel⟩
  · exact ⟨(sr .armed 1000000009000), 500, .lead, 3, .run, 9, (modSt (fun t =>
    { t with leaveQ := [⟨3, some 500, .lead, 3⟩, ⟨3, none, .run, 9⟩] }) (wr [sr .armed 1000000009000] (kd .m b0))),
    (effEnvelope (stEnvelope (modSt (fun t => { t with leaveQ := [⟨3, some 500, .lead, 3⟩, ⟨3, none, .run, 9⟩] }) (wr
    [sr .armed 1000000009000] (kd .m b0)))) (lostCount (modSt (fun t =>
    { t with leaveQ := [⟨3, some 500, .lead, 3⟩, ⟨3, none, .run, 9⟩] }) (wr [sr .armed 1000000009000] (kd .m
    b0))).t.st.lost)), by decide +kernel⟩
  · exact ⟨(sr .armed 1000000009000), 500, .run, 5, (modSt (fun t => { t with leaveQ := [⟨3, some 500, .run, 5⟩] })
    (wr [sr .armed 1000000009000] (kd .m b0))), (effEnvelope (stEnvelope (modSt (fun t =>
    { t with leaveQ := [⟨3, some 500, .run, 5⟩] }) (wr [sr .armed 1000000009000] (kd .m b0)))) (lostCount (modSt (fun
    t => { t with leaveQ := [⟨3, some 500, .run, 5⟩] }) (wr [sr .armed 1000000009000] (kd .m b0))).t.st.lost)),
    by decide +kernel⟩

/-- Values that meet the hypotheses of each clause of `Obligations.Stockroom`. -/
theorem witness_Stockroom :
    (∃ (s : State) (p : Nat) (w : Nat), hasStock s = true ∧ p < 64 ∧ 1 ≤ w ∧ w ≤ 64 ∧ (s.stPort p).pending = false ∧
      (s.stPort p).newReq = none) ∧
    (∃ (p : Nat) (w : Nat) (s : State), hasStock s = true ∧ p < 64 ∧ 1 ≤ w ∧ w ≤ 64 ∧ ((s.stPort p).pending = true ∨
      (s.stPort p).newReq ≠ none)) ∧
    (∃ (p : Nat) (s : State), hasStock s = true ∧ p < 64) ∧
    (∃ (s : State), hasStock s = false) ∧
    (∃ (s : State), hasStock s = true) ∧
    (∃ (s : State), hasStock s = false) ∧
    (∃ (s : State), hasStock s = true ∧ bumpTicks s ≤ s.t.st.abnormal ∧ s.t.st.bump = false) ∧
    (∃ (s : State), (hasStock s = false ∨ s.t.st.abnormal < bumpTicks s ∨ s.t.st.bump = true)) ∧
    (∃ (p : Nat) (n : Nat) (s : State), hasStock s = true ∧ phaseDue s p = true ∧ n = lostCount (s.t.st.lost + 2 ^ p)
      ∧ n < 3) ∧
    (∃ (p : Nat) (s : State), hasStock s = true ∧ phaseDue s p = true ∧ 3 ≤ lostCount (s.t.st.lost + 2 ^ p) ∧
      s.t.st.dark = false) ∧
    (∃ (s : State) (p : Nat), phaseDue s p = false) ∧
    (∃ (s : State), hasStock s = true ∧ (s.t.st.stockDue = true ∨ (s.tc.tk.bc % 1048576 = 0 ∧ s.t.st.reported ≠
      s.tc.tk.bc / 1048576 + 1))) ∧
    (∃ (s : State), s.t.st.stockDue = false ∧ (s.tc.tk.bc % 1048576 ≠ 0 ∨ s.t.st.reported = s.tc.tk.bc / 1048576 + 1))
      ∧
    (∃ (rq : Nat) (s : State), WriteTaken .tsu rq 0x0B 0x120 s) ∧
    (∃ (rq : Nat) (s : State), ReadTaken .tsu rq 0x0B s) := by
  refine ⟨?_, ?_, ?_, ?_, ?_, ?_, ?_, ?_, ?_, ?_, ?_, ?_, ?_, ?_, ?_⟩
  · exact ⟨b0, 63, 64, by decide +kernel⟩
  · exact ⟨0, 1, (modStPort 0 (fun x => { x with pending := true }) b0), by decide +kernel⟩
  · exact ⟨63, (modStPort 63 (fun x => { x with newRel := [7] }) b0), by decide +kernel⟩
  · exact ⟨(kd .e b0), by decide +kernel⟩
  · exact ⟨b0, by decide +kernel⟩
  · exact ⟨(kd .w b0), by decide +kernel⟩
  · exact ⟨(modSt (fun t => { t with abnormal := 70000 }) b0), by decide +kernel⟩
  · exact ⟨b0, by decide +kernel⟩
  · exact ⟨23, 1, (modSt (fun t => { t with zeros := [(23, 65535)] }) b0), by decide +kernel⟩
  · exact ⟨0, (wr [sr .armed 1000000009000] (modSt (fun t => { t with zeros := [(0, 65535)], lost := 6 }) b0)),
    by decide +kernel⟩
  · exact ⟨b0, 24, by decide +kernel⟩
  · exact ⟨(modSt (fun t => { t with g := 7, stockDue := true }) b0), by decide +kernel⟩
  · exact ⟨b0, by decide +kernel⟩
  · exact ⟨1, (modSt (fun t => { t with abnormal := 70000, bump := true }) b0), by decide +kernel⟩
  · exact ⟨1, (modSt (fun t => { t with reqRefused := 3, peak := 9 }) b0), by decide +kernel⟩

/-- Values that meet the hypotheses of each clause of `Obligations.InterruptSources`. -/
theorem witness_InterruptSources :
    (∃ (d : Dev) (n : Nat) (s : State), srcPresent d s n = true ∧ (s.com d).ic.asleep = false ∧ (s.icSrc d n).st = 0 ∧
      (s.icSrc d n).enable = true ∧ srcLevel d s n = true) ∧
    (∃ (d : Dev) (n : Nat) (s : State), srcPresent d s n = true ∧ (s.com d).ic.asleep = false ∧ (s.icSrc d n).st = 1)
      ∧
    (∃ (d : Dev) (n : Nat) (s : State), srcPresent d s n = true ∧ (s.com d).ic.asleep = false ∧ (s.icSrc d n).st = 3)
      ∧
    (∃ (d : Dev) (n : Nat) (s : State), (srcPresent d s n = false ∨ (s.com d).ic.asleep = true)) ∧
    (∃ (d : Dev) (s : State), (s.com d).ic.asleep = true) ∧
    (∃ (d : Dev) (n : Nat) (s : State), (s.com d).ic.asleep = false ∧ srcLevel d s n = false ∧ ((s.icSrc d n).st = 1 ∨
      (s.icSrc d n).st = 2)) ∧
    (∃ (d : Dev) (n : Nat) (s : State), (s.com d).ic.asleep = false ∧ (srcLevel d s n = true ∨ ((s.icSrc d n).st ≠ 1 ∧
      (s.icSrc d n).st ≠ 2))) ∧
    (∃ (d : Dev) (n : Nat) (s : State), (s.com d).ic.asleep = false ∧ (s.icSrc d n).st = 1 ∧ (s.icSrc d n).time ≠ 0 ∧
      (s.icSrc d n).from_ + (s.icSrc d n).time ≤ (s.com d).beats) ∧
    (∃ (d : Dev) (n : Nat) (s : State), ((s.icSrc d n).st ≠ 1 ∨ (s.icSrc d n).time = 0 ∨ (s.com d).beats < (s.icSrc d
      n).from_ + (s.icSrc d n).time)) ∧
    (∃ (d : Dev) (rq : Nat) (k : Nat) (n : Nat) (s : State), ReadTaken d rq 0x0C s ∧ k < 8 ∧ claimable d k s = some n
      ∧ tabWf (fun _ => ({} : IcSrc)) (s.com d).ic.src) ∧
    (∃ (d : Dev) (rq : Nat) (k : Nat) (s : State), ReadTaken d rq 0x0C s ∧ k < 8 ∧ claimable d k s = none) ∧
    (∃ (d : Dev) (rq : Nat) (k : Nat) (n : Nat) (v : Word) (s : State), WriteTaken d rq 0x0C (0x210 + 0x40 * k) s ∧ k
      < 8 ∧ n = fld v 0 8 ∧ srcPresent d s n = true ∧ ((s.icSrc d n).st = 3 ∨ (s.icSrc d n).st = 4) ∧ (s.icSrc d
      n).by_ = k) ∧
    (∃ (d : Dev) (rq : Nat) (k : Nat) (n : Nat) (v : Word) (s : State), WriteTaken d rq 0x0C (0x210 + 0x40 * k) s ∧ k
      < 8 ∧ n = fld v 0 8 ∧ (srcPresent d s n = false ∨ ((s.icSrc d n).st ≠ 3 ∧ (s.icSrc d n).st ≠ 4) ∨ (s.icSrc d
      n).by_ ≠ k)) := by
  refine ⟨?_, ?_, ?_, ?_, ?_, ?_, ?_, ?_, ?_, ?_, ?_, ?_, ?_⟩
  · exact ⟨.tsu, 13, (si .tsu 13 { enable := true, raised := 1 } (lv .tsu 13 b0)), by decide +kernel⟩
  · exact ⟨.tsu, 13, (si .tsu 13 { enable := true, st := 1, rc := 2, raised := 1, count := 4 } (b0)),
    by decide +kernel⟩
  · exact ⟨.tsu, 13, (si .tsu 13 { enable := true, st := 3, edge := true } (b0)), by decide +kernel⟩
  · exact ⟨.tsu, 13, (sl .tsu b0), by decide +kernel⟩
  · exact ⟨.tsu, (sl .tsu b0), by decide +kernel⟩
  · exact ⟨.tsu, 13, (si .tsu 13 { enable := true, st := 2, rc := 2 } (b0)), by decide +kernel⟩
  · exact ⟨.tsu, 13, (si .tsu 13 { enable := true, st := 2 } (lv .tsu 13 b0)), by decide +kernel⟩
  · exact ⟨.tsu, 13, (si .tsu 13 { enable := true, st := 1, time := 5, from_ := 999999995 } (b0)), by decide +kernel⟩
  · exact ⟨.tsu, 13, (si .tsu 13 { enable := true, st := 1, time := 5, from_ := 999999996 } (b0)), by decide +kernel⟩
  · exact ⟨.tsu, 1, 2, 13, (modIc .tsu (fun c => { c with deliver := true, tEnable := [(2, true)] }) (si .tsu 13
    { enable := true, st := 2, target := 2 } (lv .tsu 13 b0))), by decide +kernel⟩
  · exact ⟨.tsu, 1, 2, (modIc .tsu (fun c => { c with deliver := true, tEnable := [(2, true)] }) (si .tsu 13
    { enable := true, st := 2, target := 1 } (lv .tsu 13 b0))), by decide +kernel⟩
  · exact ⟨.tsu, 1, 2, 13, 13, (si .tsu 13 { enable := true, st := 4, by_ := 2 } (b0)), by decide +kernel⟩
  · exact ⟨.tsu, 1, 2, 13, 13, (si .tsu 13 { enable := true, st := 3, by_ := 1 } (b0)), by decide +kernel⟩

/-- Values that meet the hypotheses of each clause of `Obligations.InterruptControl`. -/
theorem witness_InterruptControl :
    (∃ (d : Dev) (rq : Nat) (n : Nat) (i : IcSrc) (s : State), WriteTaken d rq 0x0C (0x800 + 8 * n) s ∧ n < 256 ∧
      srcPresent d s n = true ∧ i = s.icSrc d n) ∧
    (∃ (d : Dev) (rq : Nat) (s : State) (n : Nat), srcPresent d s n = false ∧ WriteTaken d rq 0x0C (0x800 + 8 * n) s ∧
      n < 256) ∧
    (∃ (d : Dev) (rq : Nat) (s : State) (v : Word), WriteTaken d rq 0x0C 0x100 s ∧ bit v 1 = false) ∧
    (∃ (d : Dev) (rq : Nat) (s : State) (v : Word), WriteTaken d rq 0x0C 0x100 s ∧ bit v 1 = true ∧ (s.com
      d).ic.asleep = false ∧ (s.com d).ic.src.all (fun x => x.2.st == 0 || x.2.st == 1) = true) ∧
    (∃ (d : Dev) (rq : Nat) (v : Word) (s : State), WriteTaken d rq 0x0C 0x100 s ∧ bit v 1 = true ∧ (s.com
      d).ic.asleep = false ∧ (∃ x, x ∈ (s.com d).ic.src ∧ (x.2.st = 2 ∨ x.2.st = 3 ∨ x.2.st = 4))) ∧
    (∃ (d : Dev) (n : Nat) (s : State), (s.com d).ic.asleep = true ∧ (s.icSrc d n).watch = true ∧ (s.icSrc d n).edge =
      true) ∧
    (∃ (d : Dev) (n : Nat) (s : State), ((s.com d).ic.asleep = false ∨ (s.icSrc d n).watch = false ∨ (s.icSrc d
      n).edge = false)) ∧
    (∃ (d : Dev) (s : State), (s.com d).ic.asleep = true ∧ tabWf (fun _ => ({} : IcSrc)) (s.com d).ic.src) ∧
    (∃ (d : Dev) (s : State), (s.com d).ic.asleep = false) ∧
    (∃ (c : Ic) (k : Nat), k < 4 ∧ icOutput c (k + 4) = true ∧ tabGet false c.out (k + 4) = false) ∧
    (∃ (rq : Nat) (s : State), WriteTaken .tsu rq 0x0C 0x118 s) ∧
    (∃ (d : Dev) (rq : Nat) (s : State), ReadTaken d rq 0x0C s) := by
  refine ⟨?_, ?_, ?_, ?_, ?_, ?_, ?_, ?_, ?_, ?_, ?_, ?_⟩
  · exact ⟨.tsu, 1, 13, {}, (lv .tsu 13 b0), by decide +kernel⟩
  · exact ⟨.tsu, 1, b0, 30, by decide +kernel⟩
  · exact ⟨.tsu, 1, b0, 1, by decide +kernel⟩
  · exact ⟨.tsu, 1, b0, 3, by decide +kernel⟩
  · exact ⟨.tsu, 1, 3, (si .tsu 13 { enable := true, st := 2 } (b0)), by decide +kernel⟩
  · exact ⟨.tsu, 13, (sl .tsu (si .tsu 13 { watch := true, edge := true } (b0))), by decide +kernel⟩
  · exact ⟨.tsu, 13, (sl .tsu (si .tsu 13 { watch := true } (b0))), by decide +kernel⟩
  · exact ⟨.tsu, (modIc .tsu (fun c => { c with asleep := true, recorded := [(13, some {})] }) (si .tsu 13
    { enable := true } (lv .tsu 13 b0))), by decide +kernel⟩
  · exact ⟨.tsu, b0, by decide +kernel⟩
  · exact
    ⟨{ deliver := true, tEnable := [(5, true)], src := [(13, { enable := true, st := 2, target := 5 })], msixTable := [(1, { masked := false })] },
    1, by decide +kernel⟩
  · exact ⟨1, (modIc .tsu (fun c => { c with local_ := 7 }) b0), by decide +kernel⟩
  · exact ⟨.tsu, 1, (modIc .tsu (fun c => { c with stray := 7 }) b0), by decide +kernel⟩

/-- Values that meet the hypotheses of each clause of `Obligations.SliceRequests`. -/
theorem witness_SliceRequests :
    (∃ (rq : Nat) (v : Word) (s : State), WriteTaken .tsu rq 0x0D 0x100 s ∧ bit v 63 = true ∧ (sliceChecks (fld v 0 4)
      (bit v 62) s).find? (fun c => c.2) = none) ∧
    (∃ (rq : Nat) (s : State) (v : Word) (r : Nat), WriteTaken .tsu rq 0x0D 0x100 s ∧ bit v 63 = true ∧ (sliceChecks
      (fld v 0 4) (bit v 62) s).find? (fun c => c.2) = some (r, true)) ∧
    (∃ (rq : Nat) (v : Word) (s : State), WriteTaken .tsu rq 0x0D 0x100 s ∧ inCellar .tsu s = true ∧ s.t.mem.epoch = 0
      ∧ s.tc.bt.win = none ∧ bit v 63 = true ∧ bit v 62 = false ∧ slicePresent s.tc.fuse.kind (fld v 0 4) = true ∧ 4 <
      fld v 0 4) ∧
    (∃ (rq : Nat) (s : State) (v : Word), WriteTaken .dxd rq 0x0D 0x100 s ∧ bit v 63 = true) ∧
    (∃ (rq : Nat) (s : State) (d : Dev) (v : Word), WriteTaken d rq 0x0D 0x100 s ∧ bit v 63 = false) ∧
    (∃ (d : Dev) (rq : Nat) (s : State), ReadTaken d rq 0x0D s) := by
  refine ⟨?_, ?_, ?_, ?_, ?_, ?_⟩
  · exact ⟨1, 0xC000000000000001, (modBt .tsu (fun b => { b with goldenValid := true }) (modMem (fun m =>
    { m with gapOpen := true }) b0)), by decide +kernel⟩
  · exact ⟨1, b0, 0x8000000000000001, 1, by decide +kernel⟩
  · exact ⟨1, 0x8000000000000009, (modMem (fun m => { m with epoch := 0 }) (modBoot .tsu (fun b =>
    { b with stage := 7 }) b0)), by decide +kernel⟩
  · exact ⟨1, b0, 0x8000000000000003, by decide +kernel⟩
  · exact ⟨1, b0, .dxd, 0x4000000000000005, by decide +kernel⟩
  · exact ⟨.tsu, 1, (modBt .tsu (fun b => { b with passes := 3, refusals := 2 }) b0), by decide +kernel⟩

/-- Values that meet the hypotheses of each clause of `Obligations.SliceWindow`. -/
theorem witness_SliceWindow :
    (∃ (w : SliceWin) (s : State), s.tc.bt.win = some w ∧ w.isolated = false ∧ w.start + 16 ≤ s.tc.up) ∧
    (∃ (s : State), (∀ w, s.tc.bt.win = some w → w.isolated = true ∨ s.tc.up < w.start + 16)) ∧
    (∃ (outs : List Word) (w : SliceWin) (s : State) (g : Word), s.tc.bt.win = some w ∧ w.isolated = true ∧ w.latched
      = false ∧ w.start + 1616 ≤ s.tc.up ∧ g = misr (sliceOuts s.tc.boot.xmasks w.slice outs) ∧ (w.compare = false ∨ g
      = tabGet 0 s.tc.bt.golden w.slice)) ∧
    (∃ (outs : List Word) (w : SliceWin) (g : Word) (s : State), s.tc.bt.win = some w ∧ w.isolated = true ∧ w.latched
      = false ∧ w.start + 1616 ≤ s.tc.up ∧ g = misr (sliceOuts s.tc.boot.xmasks w.slice outs) ∧ w.compare = true ∧ g ≠
      tabGet 0 s.tc.bt.golden w.slice) ∧
    (∃ (s : State), (∀ w, s.tc.bt.win = some w → w.isolated = false ∨ w.latched = true ∨ s.tc.up < w.start + 1616)) ∧
    (∃ (w : SliceWin) (s : State), s.tc.bt.win = some w ∧ w.slice < 2 ∧ w.latched = true ∧ w.restored = false ∧
      w.start + 1800 ≤ s.tc.up) ∧
    (∃ (s : State), (∀ w, s.tc.bt.win = some w → 2 ≤ w.slice ∨ w.latched = false ∨ w.restored = true ∨ s.tc.up <
      w.start + 1800)) ∧
    (∃ (w : SliceWin) (s : State), s.tc.bt.win = some w ∧ w.latched = true ∧ (w.restored = true ∨ 2 ≤ w.slice) ∧
      w.start + 2000 ≤ s.tc.up ∧ s.tc.bt.held = [] ∧ s.t.hd.heldUp = [] ∧ s.t.hd.heldDn = [] ∧ s.tc.boot.heldChunks =
      []) ∧
    (∃ (rq : Nat) (w : SliceWin) (s : State), s.tc.bt.win = some w ∧ w.latched = true ∧ w.slice = 11 ∧ w.start + 2000
      ≤ s.tc.up ∧ w.by_ = none ∧ s.tc.bt.held = [⟨rq, 0xF108, false, 0, false⟩] ∧ s.tc.boot.heldChunks = []) ∧
    (∃ (s : State), (∀ w, s.tc.bt.win = some w → w.latched = false ∨ (w.restored = false ∧ w.slice < 2) ∨ s.tc.up <
      w.start + 2000)) ∧
    (∃ (w : SliceWin) (s : State), s.tc.bt.win = some w ∧ w.slice < 2 ∧ isSource .tsu (1 - w.slice) s = false ∧
      w.isolated = true ∧ w.latched = false ∧ w.by_ = none ∧ s.t.sg.waitingReqs = [] ∧ s.t.cue.held = []) ∧
    (∃ (w : SliceWin) (s : State), s.tc.bt.win = some w ∧ w.slice < 2 ∧ isSource .tsu (1 - w.slice) s = false ∧
      w.isolated = true ∧ w.latched = true ∧ w.restored = false) ∧
    (∃ (s : State), (∀ w, s.tc.bt.win = some w → 2 ≤ w.slice ∨ isSource .tsu (1 - w.slice) s = true ∨ w.isolated =
      false)) := by
  refine ⟨?_, ?_, ?_, ?_, ?_, ?_, ?_, ?_, ?_, ?_, ?_, ?_, ?_⟩
  · exact ⟨{ w0 5 with isolated := false }, (sw { w0 5 with isolated := false } b0), by decide +kernel⟩
  · exact ⟨b0, by decide +kernel⟩
  · exact ⟨[1], { w0 5 with compare := false }, (sw { w0 5 with compare := false } b0), (misr (sliceOuts [] 5 [1])),
    rfl, rfl, rfl, by decide +kernel, rfl, .inl rfl⟩
  · exact ⟨[1], (w0 5), (misr (sliceOuts [] 5 [1])), (modBt .tsu (fun b =>
    { b with golden := [(5, misr (sliceOuts [] 5 [1]) + 1)] }) (sw (w0 5) b0)), rfl, rfl, rfl, by decide +kernel, rfl,
    rfl, (ne_succ _)⟩
  · exact ⟨b0, by decide +kernel⟩
  · exact ⟨{ w0 0 with latched := true, outcome := 1 }, (modCore .tsu 0 (fun c => { c with st := 3 }) (sw
    { w0 0 with latched := true, outcome := 1 } b0)), by decide +kernel⟩
  · exact ⟨b0, by decide +kernel⟩
  · exact ⟨{ w0 5 with latched := true, outcome := 1 }, (sw { w0 5 with latched := true, outcome := 1 } b0),
    by decide +kernel⟩
  · exact ⟨1, { w0 11 with latched := true, outcome := 1 }, (modBt .tsu (fun b =>
    { b with held := [⟨1, 0xF108, false, 0, false⟩] }) (sw { w0 11 with latched := true, outcome := 1 } b0)),
    by decide +kernel⟩
  · exact ⟨b0, by decide +kernel⟩
  · exact ⟨(w0 0), (modCore .tsu 0 (fun c => { c with st := 3 }) (ps .tsu 1 1 (sw (w0 0) b0))), by decide +kernel⟩
  · exact ⟨{ w0 0 with latched := true, outcome := 2 }, (modCore .tsu 0 (fun c => { c with st := 3 }) (ps .tsu 1 1 (sw
    { w0 0 with latched := true, outcome := 2 } b0))), by decide +kernel⟩
  · exact ⟨b0, by decide +kernel⟩

/-- Values that meet the hypotheses of each clause of `Obligations.AgeingAndReplan`. -/
theorem witness_AgeingAndReplan :
    (∃ (d : Dev) (rq : Nat) (s : State), WriteTaken d rq 0x0D 0x118 s) ∧
    (∃ (d : Dev) (n : Nat) (s : State), (s.com d).tk.htValid = true ∧ s.regF d 0xD118 0 32 = n ∧ n ≠ 0 ∧ (s.com
      d).tk.sec % n = 0 ∧ (s.com d).bt.lastPeriodic ≠ (s.com d).tk.sec + 1) ∧
    (∃ (d : Dev) (s : State), ((s.com d).tk.htValid = false ∨ s.regF d 0xD118 0 32 = 0 ∨ (s.com d).tk.sec % s.regF d
      0xD118 0 32 ≠ 0)) ∧
    (∃ (d : Dev) (g : Nat) (s : State), (s.com d).bt.gate = some g ∧ g + 1000000 ≤ (s.com d).beats) ∧
    (∃ (d : Dev) (s : State), (∀ g, (s.com d).bt.gate = some g → (s.com d).beats < g + 1000000)) ∧
    (∃ (rq : Nat) (v : Word) (b : Nat) (p : Nat) (w : BitVec 64) (n : Nat) (s : State), WriteTaken .tsu rq 0x0D 0x128
      s ∧ bit v 63 = true ∧ noEpoch s = true ∧ s.t.steps = [] ∧ bayExists s b = true ∧ p < 16 ∧ s.tc.bt.baseValid =
      true ∧ w = BitVec.ofNat 64 (tabGet 0 s.tc.bt.base (16 * b + p)) ∧ bit w 63 = true ∧ n = fld w 0 12 * (1000000 -
      min (s.tc.bt.index * 10 * s.regF .tsu 0xD118 32 16 / 256) 1000000) / 1000000) ∧
    (∃ (rq : Nat) (v : Word) (s : State), WriteTaken .tsu rq 0x0D 0x128 s ∧ bit v 63 = true ∧ noEpoch s = true ∧
      s.t.steps = [] ∧ s.tc.fuse.kind ≠ .w ∧ s.tc.bt.baseValid = false) ∧
    (∃ (rq : Nat) (s : State) (v : Word), WriteTaken .tsu rq 0x0D 0x128 s ∧ bit v 63 = true ∧ (noEpoch s = false ∨
      s.t.steps ≠ [])) ∧
    (∃ (rq : Nat) (s : State) (v : Word), WriteTaken .tsu rq 0x0D 0x128 s ∧ bit v 63 = false) ∧
    (∃ (rq : Nat) (s : State), WriteTaken .dxd rq 0x0D 0x128 s) ∧
    (∃ (rq : Nat) (b : Nat) (s : State), ReadTaken .tsu rq 0x0D s ∧ bayExists s b = true) ∧
    (∃ (rq : Nat) (s : State) (b : Nat), ReadTaken .dxd rq 0x0D s ∧ b < 16) := by
  refine ⟨?_, ?_, ?_, ?_, ?_, ?_, ?_, ?_, ?_, ?_, ?_, ?_⟩
  · exact ⟨.tsu, 1, b0, by decide +kernel⟩
  · exact ⟨.tsu, 100, (setReg .tsu 0xD118 (BitVec.allOnes 64) 100 b0), by decide +kernel⟩
  · exact ⟨.tsu, (setReg .tsu 0xD118 (BitVec.allOnes 64) 0 b0), by decide +kernel⟩
  · exact ⟨.tsu, 999000000, (modBt .tsu (fun b => { b with gate := some 999000000 }) b0), by decide +kernel⟩
  · exact ⟨.tsu, b0, by decide +kernel⟩
  · exact ⟨1, (wd [(63, 1)]), 1, 0, 0x8000000000000384, 891, (modBt .tsu (fun b =>
    { b with baseValid := true, base := [(16, 0x8000000000000384)], index := 1000 }) (modMem (fun m =>
    { m with epoch := 0 }) b0)), by decide +kernel⟩
  · exact ⟨1, (wd [(63, 1)]), (modMem (fun m => { m with epoch := 0 }) b0), by decide +kernel⟩
  · exact ⟨1, b0, (wd [(63, 1)]), by decide +kernel⟩
  · exact ⟨1, b0, 5, by decide +kernel⟩
  · exact ⟨1, b0, by decide +kernel⟩
  · exact ⟨1, 1, (modBt .tsu (fun t => { t with low := [(1, 7)], margin := [(1, 9)] }) b0), by decide +kernel⟩
  · exact ⟨1, b0, 15, by decide +kernel⟩

/-- Values that meet the hypotheses of each clause of `Obligations.FieldFuseAndTestPort`. -/
theorem witness_FieldFuseAndTestPort :
    (∃ (d : Dev) (rq : Nat) (s : State) (v : Word), WriteTaken d rq 0x0F 0x110 s ∧ (s.com d).fuse.fieldClosed = false
      ∧ (s.com d).ta.blowing = none ∧ (s.com d).ta.armed = none ∧ bit v 0 = true ∧ bit v 1 = false ∧ fld v 8 8 = 0xC1)
      ∧
    (∃ (d : Dev) (rq : Nat) (s : State) (v : Word), WriteTaken d rq 0x0F 0x110 s ∧ (s.com d).fuse.fieldClosed = false
      ∧ (s.com d).ta.blowing = none ∧ ((s.com d).ta.armed.isSome = true ∨ bit v 1 = true ∨ fld v 8 8 ≠ 0xC1) ∧ ((s.com
      d).ta.armed.isSome = true ∨ bit v 0 = true ∨ bit v 1 = true) ∧ ((s.com d).ta.vpp = false ∨ bit v 1 = false ∨ bit
      v 0 = true ∨ fld v 8 8 ≠ 0x5E)) ∧
    (∃ (d : Dev) (rq : Nat) (a : Nat) (v : Word) (s : State), WriteTaken d rq 0x0F 0x110 s ∧ (s.com
      d).fuse.fieldClosed = false ∧ (s.com d).ta.blowing = none ∧ (s.com d).ta.armed = some a ∧ bit v 1 = true ∧ bit v
      0 = false ∧ fld v 8 8 = 0x5E ∧ (s.com d).up ≤ a + 1000) ∧
    (∃ (d : Dev) (rq : Nat) (a : Nat) (v : Word) (s : State), WriteTaken d rq 0x0F 0x110 s ∧ (s.com
      d).fuse.fieldClosed = false ∧ (s.com d).ta.blowing = none ∧ (s.com d).ta.armed = some a ∧ bit v 1 = true ∧ bit v
      0 = false ∧ fld v 8 8 = 0x5E ∧ (s.com d).up ≤ a + 1000 ∧ (s.com d).ta.vpp = true ∧ (s.com d).ta.overrideOn =
      false) ∧
    (∃ (rq : Nat) (d : Dev) (a : Nat) (vpp : Bool) (v : Word) (s : State), WriteTaken d rq 0x0F 0x110 s ∧ (s.com
      d).fuse.fieldClosed = false ∧ (s.com d).ta.blowing = none ∧ (s.com d).ta.armed = some a ∧ (bit v 1 = false ∨ bit
      v 0 = true ∨ fld v 8 8 ≠ 0x5E ∨ a + 1000 < (s.com d).up ∨ vpp = false)) ∧
    (∃ (d : Dev) (rq : Nat) (s : State), WriteTaken d rq 0x0F 0x110 s ∧ ((s.com d).fuse.fieldClosed = true ∨ (s.com
      d).ta.blowing.isSome = true)) ∧
    (∃ (d : Dev) (rq : Nat) (v : Word) (s : State), WriteTaken d rq 0x0F 0x110 s ∧ ((s.com d).fuse.fieldClosed = true
      ∨ (s.com d).ta.blowing.isSome = true) ∧ (bit v 1 = false ∨ (s.com d).ta.vpp = true)) ∧
    (∃ (s : State), sliceIsolated s 11 = true) ∧
    (∃ (d : Dev) (s : State), (s.com d).ta.blowing.isSome = true ∧ (d = .dxd ∨ sliceIsolated s 11 = false)) ∧
    (∃ (d : Dev) (s : State), (s.com d).ta.blowing = none) ∧
    (∃ (i : JtagIns) (n : Nat), (i, n) ∈ [(JtagIns.idcode, 1), (.bypass, 0)]) ∧
    (∃ (d : Dev) (i : JtagIns) (s : State), (s.com d).fuse.fieldClosed = true ∧ i ≠ .idcode) ∧
    (∃ (d : Dev) (s : State) (i : JtagIns) (x : TestAccess), (s.com d).fuse.fieldClosed = false ∧ (i, x) ∈
      [(JtagIns.otherPublic, { (s.com d).ta with ins := 2 }), (.scanDump,
      { (s.com d).ta with ins := 3, scan := some (Config.scanWord (d == .tsu) (s.com d).up) }), (.overrideOn,
      { (s.com d).ta with ins := 4, overrideOn := true }), (.overrideOff,
      { (s.com d).ta with ins := 4, overrideOn := false, ovr := [] })]) ∧
    (∃ (d : Dev) (m : Word) (a : Nat) (s : State), (s.com d).fuse.fieldClosed = false ∧ (s.com d).ta.overrideOn = true
      ∧ inCellar d s = false ∧ pageTakes d s (a / 4096) (a % 4096) = true ∧ tabGet 0 (s.com d).lockKey (a / 4096) = 0
      ∧ a ≠ 0xE100 ∧ m = (regAt d 0 (a / 4096) (a % 4096) s).mask) ∧
    (∃ (d : Dev) (s : State), (s.com d).fuse.fieldClosed = false ∧ (s.com d).ta.overrideOn = false) := by
  refine ⟨?_, ?_, ?_, ?_, ?_, ?_, ?_, ?_, ?_, ?_, ?_, ?_, ?_, ?_, ?_⟩
  · exact ⟨.tsu, 1, b0, 0xC101, by decide +kernel⟩
  · exact ⟨.tsu, 1, b0, 0xC201, by decide +kernel⟩
  · exact ⟨.tsu, 1, 999999500, 0x5E02, (modTa .tsu (fun t => { t with armed := some 999999500 }) b0),
    by decide +kernel⟩
  · exact ⟨.tsu, 1, 999999500, 0x5E02, (modTa .tsu (fun t => { t with armed := some 999999500, vpp := true }) b0),
    by decide +kernel⟩
  · exact ⟨1, .dxd, 999998000, true, 0x5E02, (modTa .dxd (fun t => { t with armed := some 999998000 }) b0),
    by decide +kernel⟩
  · exact ⟨.tsu, 1, (modCom .tsu (fun c => { c with fuse := { c.fuse with fieldClosed := true } }) b0),
    by decide +kernel⟩
  · exact ⟨.tsu, 1, 0x5E02, (modTa .tsu (fun t => { t with vpp := true }) (modCom .tsu (fun c =>
    { c with fuse := { c.fuse with fieldClosed := true } }) b0)), by decide +kernel⟩
  · exact ⟨(iso 11 b0), by decide +kernel⟩
  · exact ⟨.tsu, (modTa .tsu (fun t => { t with blowing := some 5, ins := 4, overrideOn := true, ovr := [(256, 7)] })
    b0), by decide +kernel⟩
  · exact ⟨.tsu, b0, by decide +kernel⟩
  · exact ⟨JtagIns.idcode, 1, by decide +kernel⟩
  · exact ⟨.tsu, .scanDump, (modTa .tsu (fun t => { t with ins := 1 }) (modCom .tsu (fun c =>
    { c with fuse := { c.fuse with fieldClosed := true } }) b0)), by decide +kernel⟩
  · exact ⟨.tsu, b0, JtagIns.otherPublic, { ((b0).com (.tsu)).ta with ins := 2 }, by decide +kernel⟩
  · exact ⟨.tsu, 0, 0x110, (modTa .tsu (fun t =>
    { t with overrideOn := true, ovr := [(0x108, 1), (0x110, 2), (0x118, 3)] }) b0), by decide +kernel⟩
  · exact ⟨.tsu, b0, by decide +kernel⟩

/-- Values that meet the hypotheses of each clause of `Obligations.ResetAndCellar`. -/
theorem witness_ResetAndCellar :
    (∃ (pins : Pins), pins.role % 4 ≠ 3) ∧
    (∃ (pins : Pins), pins.role % 4 = 3) ∧
    (∃ (d : Dev) (s : State), inCellar d s = false) ∧
    (∃ (d : Dev) (s : State), inCellar d s = true) ∧
    (∃ (d : Dev) (rq : Nat) (s : State) (v : Word), WriteTaken d rq 0x0E 0x100 s ∧ bit v 63 = true ∧ bit v 62 = false
      ∧ (d = .dxd → s.x.straps.role ≠ 3)) ∧
    (∃ (d : Dev) (rq : Nat) (s : State) (v : Word), WriteTaken d rq 0x0E 0x100 s ∧ bit v 62 = true) := by
  refine ⟨?_, ?_, ?_, ?_, ?_, ?_⟩
  · exact ⟨⟨2, 1, 0, 1, 99, 3⟩, by decide +kernel⟩
  · exact ⟨⟨3, 1, 0, 1, 99, 3⟩, by decide +kernel⟩
  · exact ⟨.tsu, b0, by decide +kernel⟩
  · exact ⟨.tsu, (modBoot .tsu (fun b => { b with stage := 7 }) b0), by decide +kernel⟩
  · exact ⟨.tsu, 1, b0, (wd [(63, 1)]), by decide +kernel⟩
  · exact ⟨.tsu, 1, b0, (wd [(62, 1)]), by decide +kernel⟩

/-- Values that meet the hypotheses of each clause of `Obligations.StartStages`. -/
theorem witness_StartStages :
    (∃ (d : Dev) (s : State), (s.com d).boot.stage = 0) ∧
    (∃ (d : Dev) (s : State), (s.com d).boot.stage = 0 ∧ (s.com d).boot.fails < 2) ∧
    (∃ (d : Dev) (s : State), (s.com d).boot.stage = 0 ∧ 2 ≤ (s.com d).boot.fails) ∧
    (∃ (s : State), s.tc.boot.stage = 1) ∧
    (∃ (s : State), s.dc.boot.stage = 1) ∧
    (∃ (d : Dev) (sig : Word) (s : State), (s.com d).boot.stage = 1 ∧ sig ≠ (s.com d).fuse.resetSig ∧ (s.com
      d).boot.fails < 2) ∧
    (∃ (ok0 : Bool) (ok1 : Bool) (s : State), s.dc.boot.stage = 3 ∧ s.dc.boot.applyDone = false ∧ (ok0 || ok1) = true)
      ∧
    (∃ (d : Dev) (s : State), startLate d s = true ∧ (s.com d).boot.fails < 2) ∧
    (∃ (rq : Nat) (v : Word) (s : State), WriteTaken .dxd rq 0x0E 0x100 s ∧ bit v 61 = true ∧ bit v 62 = false ∧ bit v
      63 = false ∧ s.dc.boot.stage = 3 ∧ s.dc.boot.applyDone = true) ∧
    (∃ (s : State), s.tc.boot.stage = 5 ∧ s.tc.boot.applyDone = true ∧ (s.tc.coreA.st = 2 ∨ s.tc.coreB.st = 2)) ∧
    (∃ (d : Dev) (rq : Nat) (s : State), ReadTaken d rq 0x0E s) := by
  refine ⟨?_, ?_, ?_, ?_, ?_, ?_, ?_, ?_, ?_, ?_, ?_⟩
  · exact ⟨.tsu, (sg .tsu 0 b0), by decide +kernel⟩
  · exact ⟨.tsu, (sg .tsu 0 b0), by decide +kernel⟩
  · exact ⟨.tsu, (modBoot .tsu (fun b => { b with fails := 2 }) (sg .tsu 0 b0)), by decide +kernel⟩
  · exact ⟨(sg .tsu 1 b0), by decide +kernel⟩
  · exact ⟨(sg .dxd 1 b0), by decide +kernel⟩
  · exact ⟨.tsu, 77, (sg .tsu 1 b0), by decide +kernel⟩
  · exact ⟨false, true, (sg .dxd 3 b0), by decide +kernel⟩
  · exact ⟨.tsu, (modBoot .tsu (fun b => { b with firstUp := some 0, startTimeout := 500 }) (sg .tsu 2 b0)),
    by decide +kernel⟩
  · exact ⟨1, (wd [(61, 1)]), (modBoot .dxd (fun b => { b with stage := 3 }) b0), by decide +kernel⟩
  · exact ⟨(modBoot .tsu (fun b => { b with stage := 5 }) b0), by decide +kernel⟩
  · exact ⟨.tsu, 1, (modBoot .tsu (fun b => { b with starts := 4, localFails := 2 }) b0), by decide +kernel⟩

/-- Values that meet the hypotheses of each clause of `Obligations.ImageCommands`. -/
theorem witness_ImageCommands :
    (∃ (p : Nat) (h : LinkHdr) (ep : Nat) (f : ConfigF) (s : State), Accepts .tsu p h ⟨ep, .config f⟩ s ∧ Unseen .tsu
      (.config f.image f.chunk) s ∧ f.image / 4096 = 0 ∧ s.tc.boot.stage ≠ 6 ∧ s.tc.boot.image = none ∧
      s.tc.boot.applyDone = false ∧ sliceIsolated s 11 = false ∧ assembled (tabSet [] (heldChunks .tsu f.image s)
      f.chunk ((f.data ++ List.replicate 16 0).take 16)) = none) ∧
    (∃ (p : Nat) (h : LinkHdr) (ep : Nat) (f : ConfigF) (s : State), Accepts .tsu p h ⟨ep, .config f⟩ s ∧ Unseen .tsu
      (.config f.image f.chunk) s ∧ sliceIsolated s 11 = true) ∧
    (∃ (h : LinkHdr) (ep : Nat) (f : ConfigF) (p : Nat) (s : State), p < 192 ∧ Accepts .dxd p h ⟨ep, .config f⟩ s) ∧
    (∃ (h : LinkHdr) (ep : Nat) (f : ConfigF) (p : Nat) (s : State), 192 ≤ p ∧ Accepts .dxd p h ⟨ep, .config f⟩ s ∧
      Unseen .dxd (.config f.image f.chunk) s ∧ s.x.straps.role = 0 ∧ assembled (tabSet [] (heldChunks .dxd f.image s)
      f.chunk ((f.data ++ List.replicate 16 0).take 16)) = none) ∧
    (∃ (img : List Byte) (s : State), s.tc.boot.source = 1 ∧ 2 ≤ s.tc.boot.stage ∧ s.tc.boot.stage < 6 ∧
      s.tc.boot.localFail = false ∧ s.tc.boot.image = none ∧ s.tc.boot.applyDone = false ∧ imgClass img = 0 ∧
      imgLength img = img.length ∧ imageReject (fuKind .tsu s) 0 img = none) ∧
    (∃ (img : List Byte) (s : State), s.tc.boot.source = 1 ∧ 2 ≤ s.tc.boot.stage ∧ s.tc.boot.stage < 6 ∧
      s.tc.boot.localFail = false ∧ s.tc.boot.image = none ∧ s.tc.boot.applyDone = false ∧ ((imageReject (fuKind .tsu
      s) 0 img).isSome = true ∨ imgLength img ≠ img.length) ∧ (∀ x, x ∈ s.tc.boot.chunks → x.1 / 4096 = 0 → assembled
      x.2 = none)) ∧
    (∃ (x : List Byte) (img : List Byte) (id : Nat) (l : List (Nat × List Byte)) (s : State), s.tc.boot.source = 1 ∧ 2
      ≤ s.tc.boot.stage ∧ s.tc.boot.stage < 6 ∧ s.tc.boot.localFail = false ∧ s.tc.boot.image = none ∧
      s.tc.boot.applyDone = false ∧ (imageReject (fuKind .tsu s) 0 img).isSome = true ∧ s.tc.boot.chunks = [(id, l)] ∧
      id / 4096 = 0 ∧ assembled l = some x ∧ imageReject (fuKind .tsu s) 0 x = none) ∧
    (∃ (s : State), sliceIsolated s 11 = true) ∧
    (∃ (img : List Byte) (u : State) (s : State), sliceIsolated s 11 = false ∧ s.tc.boot.image = some img ∧
      ((imgSections img).getD []).foldl (applySection s.tc.boot.applying) (s, true) = (u, true) ∧ u.tc.boot.image =
      some img ∧ imgClass img = 0 ∧ u.tc.boot.stage = 4) ∧
    (∃ (img : List Byte) (u : State) (s : State), sliceIsolated s 11 = false ∧ s.tc.boot.image = some img ∧
      ((imgSections img).getD []).foldl (applySection s.tc.boot.applying) (s, true) = (u, true) ∧ u.tc.boot.image =
      some img ∧ imgClass img = 1 ∧ u.tc.boot.stage = 6 ∧ u.tc.boot.heldJob = none ∧ u.tc.boot.heldAdmit = none ∧
      u.tc.boot.again = none) ∧
    (∃ (b : List Byte) (s : State), s.tc.boot.deferred = some b ∧ threadsRun s = false ∧ sliceIsolated s 11 = false)
      := by
  refine ⟨?_, ?_, ?_, ?_, ?_, ?_, ?_, ?_, ?_, ?_, ?_⟩
  · exact ⟨0, hd1, 5, ⟨7, 3, List.replicate 16 1⟩, (sg .tsu 3 b0), by decide +kernel⟩
  · exact ⟨0, hd1, 5, ⟨7, 3, List.replicate 16 1⟩, (iso 11 (sg .tsu 3 b0)), by decide +kernel⟩
  · exact ⟨hd1, 5, ⟨7, 3, List.replicate 16 1⟩, 0, pk, by decide +kernel⟩
  · exact ⟨hd1, 5, ⟨0x3007, 0, List.replicate 16 1⟩, 192, pk, by decide +kernel⟩
  · exact ⟨(img0 0 0xF), (sg .tsu 3 b0), by decide +kernel⟩
  · exact ⟨(img0 1 0xF), (sg .tsu 3 b0), by decide +kernel⟩
  · exact ⟨(img0 0 0xF), (img0 1 0xF), 7, [(0, (img0 0 0xF).take 16), (1, ((img0 0 0xF).drop 16).take 16), (2, ((img0
    0 0xF).drop 32).take 16), (3, (img0 0 0xF).drop 48)], (modBoot .tsu (fun b =>
    { b with chunks := [(7, [(0, (img0 0 0xF).take 16), (1, ((img0 0 0xF).drop 16).take 16), (2, ((img0 0 0xF).drop 32).take 16), (3, (img0 0 0xF).drop 48)])] })
    (sg .tsu 3 b0)), by decide +kernel⟩
  · exact ⟨(modBoot .tsu (fun b => { b with image := some (img0 0 0xF) }) (sg .tsu 4 (iso 11 b0))), by decide +kernel⟩
  · exact ⟨(img0 0 0xF), (modBoot .tsu (fun b => { b with image := some (img0 0 0xF) }) (sg .tsu 4 b0)), (modBoot .tsu
    (fun b => { b with image := some (img0 0 0xF) }) (sg .tsu 4 b0)), by decide +kernel⟩
  · exact ⟨(img0 1 0xF), (modBoot .tsu (fun b => { b with image := some (img0 1 0xF) }) (b0)), (modBoot .tsu (fun b =>
    { b with image := some (img0 1 0xF) }) (b0)), by decide +kernel⟩
  · exact ⟨(bytesBE 4 0x06027011), (modBoot .tsu (fun b => { b with deferred := some (bytesBE 4 0x06027011) }) b0),
    by decide +kernel⟩

/-- Values that meet the hypotheses of each clause of `Obligations.AtticCommands`. -/
theorem witness_AtticCommands :
    (∃ (rq : Nat) (v : Word) (s : State), WriteTaken .dxd rq 0x16 0x118 s ∧ bit v 63 = true ∧ bit v 62 = false ∧ bit v
      61 = false ∧ bit v 60 = false) ∧
    (∃ (rq : Nat) (v : Word) (s : State), WriteTaken .dxd rq 0x16 0x118 s ∧ bit v 62 = true ∧ bit v 63 = false ∧ bit v
      61 = false ∧ bit v 60 = false) ∧
    (∃ (rq : Nat) (s : State) (v : Word), WriteTaken .dxd rq 0x16 0x118 s ∧ bit v 61 = true ∧ bit v 63 = false ∧ bit v
      62 = false ∧ bit v 60 = false) ∧
    (∃ (rq : Nat) (v : Word) (s : State), WriteTaken .dxd rq 0x16 0x118 s ∧ bit v 60 = true ∧ bit v 63 = false ∧ bit v
      62 = false ∧ bit v 61 = false) ∧
    (∃ (rq : Nat) (s : State), ReadTaken .dxd rq 0x16 s) ∧
    (∃ (rq : Nat) (s : State), WriteTaken .dxd rq 0x16 0x110 s ∧ 0x101000 ≤ s.x.at_.offset ∧ s.x.at_.offset % 8 = 0) ∧
    (∃ (rq : Nat) (s : State), WriteTaken .dxd rq 0x16 0x110 s ∧ s.x.at_.offset < 0x101000) ∧
    (∃ (rq : Nat) (s : State), WriteTaken .dxd rq 0x16 0x110 s ∧ 0x104000 ≤ s.x.at_.offset) := by
  refine ⟨?_, ?_, ?_, ?_, ?_, ?_, ?_, ?_⟩
  · exact ⟨1, (wd [(63, 1)]), (att [1, 2] (modAt (fun t => { t with offset := 0x104000 }) b0)), by decide +kernel⟩
  · exact ⟨1, (wd [(62, 1), (0, 5)]), (modAt (fun t => { t with dir := [⟨5, 0, 64, 0x150000⟩, ⟨6, 0, 64, 0x160000⟩] })
    b0), by decide +kernel⟩
  · exact ⟨1, b0, (wd [(61, 1)]), by decide +kernel⟩
  · exact ⟨1, (wd [(60, 1)]), (modAt (fun t => { t with bytes := [(0x101000, some 7), (0x104000, some 8)] }) b0),
    by decide +kernel⟩
  · exact ⟨1, (modAt (fun t => { t with offset := 0x140000 }) b0), by decide +kernel⟩
  · exact ⟨1, (modAt (fun t => { t with offset := 0x101008, links := [(0, some (5, 3, 7))] }) b0), by decide +kernel⟩
  · exact ⟨1, (modAt (fun t => { t with offset := 0x100FF8 }) b0), by decide +kernel⟩
  · exact ⟨1, (modAt (fun t => { t with offset := 0x140000 }) b0), by decide +kernel⟩

/-- Values that meet the hypotheses of each clause of `Obligations.PageHeaders`. -/
theorem witness_PageHeaders :
    (∃ (d : Dev) (rq : Nat) (s : State) (pg : Nat) (v : Word) (k : Nat), WriteTaken d rq pg 0x38 s ∧ (s.com
      d).ta.overrideOn = false ∧ tabGet 0 (s.com d).lockKey pg = 0 ∧ bit v 16 = true ∧ k = fld v 0 16 ∧ k ≠ 0) ∧
    (∃ (d : Dev) (rq : Nat) (pg : Nat) (v : Word) (s : State), WriteTaken d rq pg 0x38 s ∧ (s.com d).ta.overrideOn =
      false ∧ tabGet 0 (s.com d).lockKey pg ≠ 0 ∧ bit v 16 = false ∧ fld v 0 16 = tabGet 0 (s.com d).lockKey pg) ∧
    (∃ (d : Dev) (rq : Nat) (pg : Nat) (k : Nat) (v : Word) (s : State), WriteTaken d rq pg 0x38 s ∧ (s.com
      d).ta.overrideOn = false ∧ k = tabGet 0 (s.com d).lockKey pg ∧ ((k = 0 ∧ bit v 16 = true ∧ fld v 0 16 = 0) ∨ (k
      ≠ 0 ∧ (bit v 16 = true ∨ fld v 0 16 ≠ k)))) ∧
    (∃ (d : Dev) (rq : Nat) (s : State) (pg : Nat) (v : Word), WriteTaken d rq pg 0x38 s ∧ (s.com d).ta.overrideOn =
      false ∧ tabGet 0 (s.com d).lockKey pg = 0 ∧ bit v 16 = false) ∧
    (∃ (d : Dev) (rq : Nat) (pg : Nat) (s : State), WriteTaken d rq pg 0x28 s ∧ (s.com d).ta.overrideOn = false) ∧
    (∃ (d : Dev) (rq : Nat) (pg : Nat) (s : State), WriteTaken d rq pg 0x30 s ∧ (s.com d).ta.overrideOn = false) ∧
    (∃ (d : Dev) (rq : Nat) (s : State) (pg : Nat) (v : Word), WriteTaken d rq pg 0x20 s ∧ (s.com d).ta.overrideOn =
      false ∧ bit v 0 = true ∧ pageSt d s pg = .op) ∧
    (∃ (d : Dev) (rq : Nat) (s : State) (pg : Nat) (v : Word), WriteTaken d rq pg 0x20 s ∧ (s.com d).ta.overrideOn =
      false ∧ (bit v 0 = false ∨ pageSt d s pg ≠ .op)) ∧
    (∃ (d : Dev) (rq : Nat) (pg : Nat) (s : State), ReadTaken d rq pg s ∧ s.dc.barLow = none) := by
  refine ⟨?_, ?_, ?_, ?_, ?_, ?_, ?_, ?_, ?_⟩
  · exact ⟨.tsu, 1, b0, 13, 0x10009, 9, by decide +kernel⟩
  · exact ⟨.tsu, 1, 13, 9, (modCom .tsu (fun c => { c with lockKey := [(13, 9)] }) b0), by decide +kernel⟩
  · exact ⟨.tsu, 1, 13, 9, 8, (modCom .tsu (fun c => { c with lockKey := [(13, 9)] }) b0), by decide +kernel⟩
  · exact ⟨.tsu, 1, b0, 13, 9, by decide +kernel⟩
  · exact ⟨.tsu, 1, 13, (lv .tsu 13 b0), by decide +kernel⟩
  · exact ⟨.tsu, 1, 13, (modCom .tsu (fun c => { c with pgEvent := [(13, 1)] }) b0), by decide +kernel⟩
  · exact ⟨.tsu, 1, b0, 13, 1, by decide +kernel⟩
  · exact ⟨.tsu, 1, b0, 13, 0, by decide +kernel⟩
  · exact ⟨.tsu, 1, 13, (lv .tsu 13 b0), by decide +kernel⟩

/-- Values that meet the hypotheses of each clause of `Obligations.RegisterAccesses`. -/
theorem witness_RegisterAccesses :
    (∃ (rq : Nat) (s : State) (d : Dev) (a : Nat) (m : Word), (d, a, m) ∈ [(Dev.tsu, 0x3100, (0xFFFFFFFFFFFF : Word)),
      (.tsu, 0x3110, 0xFFFF), (.tsu, 0x4140, BitVec.allOnes 64), (.tsu, 0x6108, 0xFFFFFFFFFFFFF000), (.tsu, 0x9280,
      0xF), (.tsu, 0xA110, 0x3FF), (.tsu, 0xB138, 0x3F), (.dxd, 0x1E110, 0xFFFFFFFFFF00), (.dxd, 0x1E118,
      0x80000000FFFFFFFF), (.dxd, 0x10120, 0xFFFFF), (.dxd, 0x10148, 0xFFFFFFFFFFFFFFFF), (.dxd, 0x11108,
      BitVec.allOnes 64), (.dxd, 0x12110, BitVec.allOnes 64), (.dxd, 0x15110, 0xFFFFFFFF), (.dxd, 0x16128, 0x3F)] ∧
      WriteTaken d rq (a / 4096) (a % 4096) s ∧ (s.com d).ta.overrideOn = false) ∧
    (∃ (rq : Nat) (s : State) (a : Nat) (d : Dev), (s.com d).ta.overrideOn = false ∧ a ∈ [0xD108, 0xD120, 0xF100,
      0xF108, 0xF118] ∧ WriteTaken d rq (a / 4096) (a % 4096) s) ∧
    (∃ (d : Dev) (rq : Nat) (s : State) (a : Nat), reaches d rq s = true ∧ isHeld d (a / 4096) s = false ∧ (pageTakes
      d s (a / 4096) (a % 4096) = false ∨ (inCellar d s = true ∧ cellarTakes (a / 4096) (a % 4096) = false))) ∧
    (∃ (d : Dev) (rq : Nat) (a : Nat) (s : State), reaches d rq s = true ∧ isHeld d (a / 4096) s = false ∧ pageTakes d
      s (a / 4096) (a % 4096) = true ∧ inCellar d s = false ∧ tabGet 0 (s.com d).lockKey (a / 4096) ≠ 0 ∧ (a % 4096 =
      0x20 ∨ a % 4096 = 0x30 ∨ 0x100 ≤ a % 4096)) ∧
    (∃ (a : Nat) (s : State), isHeld .tsu (a / 4096) s = true) ∧
    (∃ (a : Nat) (n : Nat) (s : State), isHeld .tsu (a / 4096) s = true ∧ (n ≠ 8 ∨ a % 8 ≠ 0)) ∧
    (∃ (s : State) (rq : Nat), reaches .dxd rq s = false) ∧
    (∃ (d : Dev) (rq : Nat) (s : State) (a : Nat) (n : Nat), reaches d rq s = true ∧ isHeld d (a / 4096) s = false ∧
      (n ≠ 8 ∨ a % 8 ≠ 0) ∧ (d = .tsu ∨ rq ≠ 4 ∨ n ≠ 4 ∨ a % 4 ≠ 0) ∧ s.dc.barLow = none) ∧
    (∃ (a : Nat), a % 8 = 0) ∧
    (∃ (a : Nat), a % 4 = 0) := by
  refine ⟨?_, ?_, ?_, ?_, ?_, ?_, ?_, ?_, ?_, ?_⟩
  · exact ⟨1, b0, Dev.tsu, 0x3100, ((0xFFFFFFFFFFFF : Word)), by decide +kernel⟩
  · exact ⟨1, b0, 0xD108, .tsu, by decide +kernel⟩
  · exact ⟨.tsu, 1, b0, 0x1F100, by decide +kernel⟩
  · exact ⟨.tsu, 1, 0x3100, (modCom .tsu (fun c => { c with lockKey := [(3, 9)] }) b0), by decide +kernel⟩
  · exact ⟨0x3100, (iso 4 b0), by decide +kernel⟩
  · exact ⟨0x3100, 4, (iso 4 b0), by decide +kernel⟩
  · exact ⟨b0, 4, by decide +kernel⟩
  · exact ⟨.tsu, 1, b0, 0x3100, 4, by decide +kernel⟩
  · exact ⟨0x3100, by decide +kernel⟩
  · exact ⟨0x14104, by decide +kernel⟩

/-- Values that meet the hypotheses of each clause of `Obligations.Bar0Halves`. -/
theorem witness_Bar0Halves :
    (∃ (a : Nat) (s : State), s.x.straps.role = 0 ∧ a % 8 = 0 ∧ a < 0x40000 ∧ s.dc.barLow = none) ∧
    (∃ (s : State), s.x.straps.role = 0 ∧ s.dc.barLow = none ∧ s.dc.ta.ovr = []) ∧
    (∃ (a : Nat) (w : Word) (s : State), s.x.straps.role = 0 ∧ a % 8 = 0 ∧ a + 4 < 0x40000 ∧ s.dc.barCap = some (a,
      w)) ∧
    (∃ (a : Nat) (s : State), s.x.straps.role = 0 ∧ a % 8 = 0 ∧ a + 4 < 0x40000 ∧ (∀ x, s.dc.barCap = some x → x.1 ≠
      a)) ∧
    (∃ (a : Nat) (s : State), s.x.straps.role = 0 ∧ a % 8 = 0 ∧ a < 0x40000) ∧
    (∃ (a : Nat) (w : Nat) (s : State), s.x.straps.role = 0 ∧ a % 8 = 0 ∧ a + 4 < 0x40000 ∧ s.dc.barLow = some (a, w))
      ∧
    (∃ (a : Nat) (s : State), s.x.straps.role = 0 ∧ a % 8 = 0 ∧ a + 4 < 0x40000 ∧ s.dc.barLow = none) ∧
    (∃ (a : Nat) (b : Nat) (w : Nat) (s : State), s.x.straps.role = 0 ∧ a % 8 = 0 ∧ a + 4 < 0x40000 ∧ s.dc.barLow =
      some (b, w) ∧ b ≠ a ∧ b / 4096 ≠ a / 4096 ∧ (pageSt .dxd s (b / 4096) = .op ∨ pageSt .dxd s (b / 4096) =
      .dormant)) ∧
    (∃ (s : State), s.x.straps.role ≠ 0) := by
  refine ⟨?_, ?_, ?_, ?_, ?_, ?_, ?_, ?_, ?_⟩
  · exact ⟨0x14100, pk, by decide +kernel⟩
  · exact ⟨(modBoot .dxd (fun b => { b with starts := 4 }) pk), by decide +kernel⟩
  · exact ⟨0x14100, 0x100000002, (modCom .dxd (fun c => { c with barCap := some (0x14100, 0x100000002) }) pk),
    by decide +kernel⟩
  · exact ⟨0x14108, (modCom .dxd (fun c => { c with barCap := some (0x14100, 0x100000002) }) pk), by decide +kernel⟩
  · exact ⟨0x14108, pk, by decide +kernel⟩
  · exact ⟨0x14108, 5, (modCom .dxd (fun c => { c with barLow := some (0x14108, 5) }) pk), by decide +kernel⟩
  · exact ⟨0x14108, pk, by decide +kernel⟩
  · exact ⟨0x15108, 0x14108, 5, (modCom .dxd (fun c => { c with barLow := some (0x14108, 5) }) pk), by decide +kernel⟩
  · exact ⟨b0, by decide +kernel⟩

end Sys2Proof.Tests
end

section
/-!
PROOFS. Two statements that a register override breaks: the straps' CELLAR (O5) and the read of LS_COUNTS (O40).
-/

namespace Sys2Proof.Machine

/-- Page BO is operative in every device. -/
theorem pageSt_boot (d : Dev) (s : State) : pageSt d s 0x0E = .op := by
  cases d
  · simp [pageSt, pageStTsu]
  · simp [pageSt, pageStDxd]

/-- A register override that writes BO_STATUS forces the start (R371, log 52): STAGE becomes what is written, in CELLAR too. -/
theorem exec_overrideWrite_boStatus (v : Word) (s : State) (hf : s.dc.fuse.fieldClosed = false)
    (ho : s.dc.ta.overrideOn = true) (hl : tabGet 0 s.dc.lockKey 0x0E = 0) :
    ∃ t, exec (.jtagInstruction .dxd (.overrideWrite 0xE108 v)) s = .next t ∧ t.dc.boot.stage = fld v 60 4 := by
  refine ⟨_, rfl, ?_⟩
  simp [jtag, hf, ho, overrideWrite, regWriteNow, applyWrite, pageTakes, pageSt_boot, cellarTakes, modTa, hl, regStore, regAt,
    bodyReg, boReg, roReg, forceRegister, forceUnit]

/-- Refutes O5: a DX-D strapped 0b11 that stands in CELLAR leaves it when a register override writes STAGE 0 into BO_STATUS
(R371), and no power-on reset has come. -/
theorem not_strapsHold : ¬ Obligations.StrapsHold := by
  unfold Obligations.StrapsHold
  rintro ⟨-, -, -, hcellar⟩
  let s : State := { State.reset with
    x := { straps := { role := 3 } },
    dc := { State.reset.dc with boot := { source := 2, stage := 7, cellarReason := 0xB }, ta := { overrideOn := true } } }
  obtain ⟨t, ht, hstage⟩ := exec_overrideWrite_boStatus 0 s rfl rfl rfl
  have h7 : t.dc.boot.stage = 7 := hcellar _ s t (by simp) ht rfl rfl
  rw [h7] at hstage
  exact absurd hstage (by decide)

/-- A read of LS_COUNTS answers what the register shows: where a register override has written it, what that wrote (R371). -/
theorem exec_lsCountsRead_response (rq : Nat) (s : State) (h : ReadTaken .dxd rq 0x0A s) :
    ∃ t, exec (.lsCountsRead rq) s = .next t ∧
      t.response .dxd rq = shown .dxd 0xA208 (lsCounts (dropHalf .dxd rq s)) s := by
  refine ⟨_, rfl, ?_⟩
  rw [admitRead_taken _ _ _ _ _ _ _ h]
  simp [clearLsCounts, State.response]

/-- Refutes O40: at a root DX-D whose LS_COUNTS a register override has written with 1, a read answers 1 while every count of
the lock-step is 0 (R371, R291). -/
theorem not_lockStep : ¬ Obligations.LockStep := by
  unfold Obligations.LockStep
  rintro ⟨-, -, -, -, -, -, -, -, hread⟩
  let s : State := { State.reset with
    x := { straps := { role := 2 } },
    dc := { State.reset.dc with ta := { overrideOn := true, ovr := [(0xA208, 1, 0)] } } }
  have hs : ReadTaken .dxd 1 0x0A s := by decide
  obtain ⟨t, ht, hshown⟩ := exec_lsCountsRead_response 1 s hs
  obtain ⟨u, hu, hcounts, -⟩ := hread 1 s hs
  rw [ht] at hu
  obtain rfl : t = u := by injection hu
  rw [hshown] at hcounts
  exact absurd hcounts (by decide)

end Sys2Proof.Machine
end

section
/-!
PROOFS. What composes: the frames of two changes, one port and the others, and a port's event.
-/

namespace Sys2Proof.Machine

/-! Frames. -/

theorem Only.trans {W : List Part} {s t u : State} (h : Only W s t) (h' : Only W t u) : Only W s u := Eq.trans h' h

/-- A change of one port changes the ports alone. -/
theorem only_modPort (d : Dev) (p : Nat) (f : Port → Port) (s : State) : Only [.com d .ports] s (modPort d p f s) := by
  cases d
  · exact modPort_tsu_blank p f s (by decide)
  · exact modPort_dxd_blank p f s (by decide)

/-! One port and the others. -/

theorem OtherPorts.trans {d : Dev} {p : Nat} {s t u : State} (h : OtherPorts d p s t) (h' : OtherPorts d p t u) :
    OtherPorts d p s u := fun q hq => (h' q hq).trans (h q hq)

theorem otherPorts_modPort (d : Dev) (p : Nat) (f : Port → Port) (s : State) : OtherPorts d p s (modPort d p f s) :=
  fun q hq => port_modPort_ne d p q f s hq

theorem otherPorts_of_ports_eq {d : Dev} {s t : State} (p : Nat) (h : (t.com d).ports = (s.com d).ports) :
    OtherPorts d p s t := fun q _ => by simp only [State.port, h]

@[simp] theorem port_raise (d e : Dev) (pg b p : Nat) (s : State) : (raise d pg b s).port e p = s.port e p := by
  simp [State.port]

@[simp] theorem port_modTk (d : Dev) (f : Time → Time) (p : Nat) (s : State) : (modTk d f s).port d p = s.port d p := by
  simp [State.port]

/-- An event of a port sets its bit of EVENT, and nothing else of the port (R91). -/
@[simp] theorem port_portEvent_same (d : Dev) (p b : Nat) (s : State) :
    (portEvent d p b s).port d p = { s.port d p with event := (s.port d p).event ||| bitW b } := by
  unfold portEvent; dsimp only; split <;> simp

theorem otherPorts_portEvent (d : Dev) (p b : Nat) (s : State) : OtherPorts d p s (portEvent d p b s) := by
  intro q hq
  unfold portEvent; dsimp only; split <;> simp [port_modPort_ne d p q _ s hq]

@[simp] theorem portEvent_tk (d : Dev) (p b : Nat) (s : State) : ((portEvent d p b s).com d).tk = (s.com d).tk := by
  unfold portEvent; dsimp only; split <;> simp

@[simp] theorem portEvent_t (d : Dev) (p b : Nat) (s : State) : (portEvent d p b s).t = s.t := by
  unfold portEvent; dsimp only; split <;> simp

theorem bit_or_bitW (w : Word) (i : Nat) (h : i < 64) : bit (w ||| bitW i) i = true := by
  simp [bit_or, bit_bitW i i h]

theorem bit_or_of_left (w v : Word) (i : Nat) (h : bit w i = true) : bit (w ||| v) i = true := by
  simp [bit_or, h]

end Sys2Proof.Machine
end

section
/-!
PROOFS. Reselection (R44, R48) leaves every port as it is, but for the census entries that a TSU has held and sends once it
is LOCKED.
-/

namespace Sys2Proof.Machine

/-- Every port of the device keeps all but what waits to leave on it. -/
def LinksKept (d : Dev) (s t : State) : Prop := ∀ p, ∃ r, t.port d p = { s.port d p with rel := r }

theorem linksKept_of_ports_eq {d : Dev} {s t : State} (h : (t.com d).ports = (s.com d).ports) : LinksKept d s t :=
  fun p => ⟨(s.port d p).rel, by simp only [State.port, h]⟩

theorem LinksKept.trans {d : Dev} {s t u : State} (h : LinksKept d s t) (h' : LinksKept d t u) : LinksKept d s u := by
  intro p
  obtain ⟨r, hr⟩ := h p
  obtain ⟨r', hr'⟩ := h' p
  exact ⟨r', by rw [hr', hr]⟩

/-- A frame that is queued changes only what waits on its port (R84, R85). -/
theorem linksKept_enqueue (d : Dev) (p : Nat) (src : Option Nat) (f : Frame) (s : State) :
    LinksKept d s (enqueue d p src f s) := by
  intro q
  unfold enqueue
  by_cases hq : q = p
  · subst hq
    rw [port_modPort_same]
    dsimp only
    split
    · split
      · exact ⟨_, rfl⟩
      · split <;> exact ⟨_, rfl⟩
    · exact ⟨_, rfl⟩
    · exact ⟨_, rfl⟩
    · exact ⟨_, rfl⟩
  · exact ⟨(s.port d q).rel, by rw [port_modPort_ne d p q _ s hq]⟩

theorem linksKept_answerCensus (c : CensusUpF) (s : State) : LinksKept .tsu s (answerCensus c s) := by
  unfold answerCensus
  split
  · exact linksKept_enqueue _ _ _ _ _
  · exact linksKept_of_ports_eq (by simp)

theorem linksKept_foldl_answerCensus (l : List CensusUpF) (s : State) :
    LinksKept .tsu s (l.foldl (fun s c => answerCensus c s) s) := by
  induction l generalizing s with
  | nil => exact linksKept_of_ports_eq rfl
  | cons c l ih => exact (linksKept_answerCensus c s).trans (ih _)

theorem linksKept_sendHeld (s : State) : LinksKept .tsu s (sendHeld s) := by
  unfold sendHeld
  split
  · refine LinksKept.trans (t := modHd (fun h => { h with held := [] }) s) (linksKept_of_ports_eq (by simp)) ?_
    exact linksKept_foldl_answerCensus _ _
  · exact linksKept_of_ports_eq rfl

/-- With no entry held nothing is queued. -/
theorem sendHeld_ports_of_none (s : State) (h : s.t.hd.held = []) : (sendHeld s).tc.ports = s.tc.ports := by
  unfold sendHeld
  split <;> simp [h]

/-- A TSU's reselection sends the entries held, after steps that touch neither a port nor an entry. -/
theorem tsuReselect_eq_sendHeld (s : State) :
    ∃ u, tsuReselect s = sendHeld u ∧ u.tc.ports = s.tc.ports ∧ u.t.hd = s.t.hd :=
  ⟨_, rfl, tc_ports_eq (by simp [but]), t_hd_eq (by simp [but])⟩

theorem dxdReselect_ports (s : State) : (dxdReselect s).dc.ports = s.dc.ports :=
  dc_ports_eq (by simp [but])

theorem linksKept_reselect (d : Dev) (s : State) : LinksKept d s (reselect d s) := by
  cases d
  case tsu =>
    obtain ⟨u, hu, hports, -⟩ := tsuReselect_eq_sendHeld s
    simp only [reselect, hu]
    exact (linksKept_of_ports_eq (by simpa using hports)).trans (linksKept_sendHeld u)
  case dxd => exact linksKept_of_ports_eq (by simpa only [reselect, com_dxd] using dxdReselect_ports s)

theorem reselect_ports_of_none_held (d : Dev) (s : State) (h : d = .tsu → s.t.hd.held = []) :
    ((reselect d s).com d).ports = (s.com d).ports := by
  cases d
  case tsu =>
    obtain ⟨u, hu, hports, hhd⟩ := tsuReselect_eq_sendHeld s
    simp only [reselect, hu, com_tsu]
    exact (sendHeld_ports_of_none u (by rw [hhd, h rfl])).trans hports
  case dxd => simpa only [reselect, com_dxd] using dxdReselect_ports s

end Sys2Proof.Machine
end

section
/-!
PROOFS. Training (R18, R19, R76, R77): O12.
-/

namespace Sys2Proof.Machine

@[simp] theorem topologyBad_takeLink (d : Dev) (p : Nat) (h : LinkHdr) (f : TrainF) (s : State) :
    topologyBad d p f (takeLink d p h s) = topologyBad d p f s := by
  cases d <;> simp [topologyBad, strappedAlike, levelOk, ownLevel, ownSide, dxdLevel, isPair]

@[simp] theorem sidesEqual_takeLink (d : Dev) (p : Nat) (h : LinkHdr) (f : TrainF) (s : State) :
    sidesEqual d p f (takeLink d p h s) = sidesEqual d p f s := by
  cases d <;> simp [sidesEqual, strappedAlike, ownLevel, ownSide, dxdLevel, isPair]

/-- A TRAIN frame in TRAIN is counted. -/
theorem trainReceive_of_training (d : Dev) (p : Nat) (h : LinkHdr) (f : TrainF) (s : State) (he : portExists d s p = true)
    (hst : (s.port d p).st = 3) : trainReceive d p h f s = trainCount d p f (takeLink d p h s) := by
  simp [trainReceive, he, hst]

/-- A TRAIN frame in CAL or UP takes the port back to TRAIN. -/
theorem trainReceive_of_live (d : Dev) (p : Nat) (h : LinkHdr) (f : TrainF) (s : State) (he : portExists d s p = true)
    (hl : (s.port d p).live = true) : trainReceive d p h f s =
      reselect d (portEvent d p 1 (modPort d p (fun q => { q.closed with st := 3, downReason := 5, tr := {} }) s)) := by
  have h3 : (s.port d p).st ≠ 3 := by
    intro h3
    simp [Port.live, h3] at hl
  simp [trainReceive, he, h3, hl]

/-- What `trainCount` notes of a frame at its port, before any event. -/
def trainNoted (bad eq : Bool) (f : TrainF) (q : Port) : Port :=
  { q with
    peerPort := f.port, peerKind := f.kind, peerLevel := f.level, peerSide := f.side, peerFw := f.fw,
    tr := { q.tr with
      ref := some f,
      count := if bad || eq then 0 else if (match q.tr.ref with
        | some r => trainAgrees r f
        | none => false) then q.tr.count + 1 else 1,
      ackCount := if f.ack then q.tr.ackCount + 1 else 0,
      topologyError := bad, sideConflict := eq } }

/-- A frame that passes both checks counts on where it agrees with the one before it. -/
theorem trainNoted_count (f : TrainF) (q : Port) : (trainNoted false false f q).tr.count =
    if q.tr.ref.any (fun r => trainAgrees r f) then q.tr.count + 1 else 1 := by
  cases h : q.tr.ref <;> simp [trainNoted, h]

/-- Counting a TRAIN frame: the port notes it, and each failed check has its event (R18, R19, R77). -/
theorem trainCount_eq (d : Dev) (p : Nat) (f : TrainF) (s : State) :
    trainCount d p f s =
      let s1 := modPort d p (trainNoted (topologyBad d p f s) (sidesEqual d p f s) f) s
      let s2 := if topologyBad d p f s then portEvent d p 5 s1 else s1
      if sidesEqual d p f s then portEvent d p 4 (modTk d (fun t => { t with sideConflict := true }) s2) else s2 := rfl

/-- What a counted frame leaves at its port: the port after `trainNoted`, with the events of the failed checks. -/
theorem port_trainCount (d : Dev) (p : Nat) (f : TrainF) (s : State) :
    ∃ ev, (trainCount d p f s).port d p =
        { trainNoted (topologyBad d p f s) (sidesEqual d p f s) f (s.port d p) with event := ev } ∧
      (topologyBad d p f s = true → bit ev 5 = true) ∧ (sidesEqual d p f s = true → bit ev 4 = true) := by
  rw [trainCount_eq]
  cases hb : topologyBad d p f s <;> cases hs : sidesEqual d p f s
  · exact ⟨(s.port d p).event, by simp [trainNoted], by simp, by simp⟩
  · exact ⟨_, by simp; rfl, by simp, fun _ => bit_or_bitW _ 4 (by decide)⟩
  · exact ⟨_, by simp; rfl, fun _ => bit_or_bitW _ 5 (by decide), by simp⟩
  · exact ⟨_, by simp; rfl, fun _ => bit_or_of_left _ _ 5 (bit_or_bitW _ 5 (by decide)),
      fun _ => bit_or_bitW _ 4 (by decide)⟩

theorem otherPorts_trainCount (d : Dev) (p : Nat) (f : TrainF) (s : State) : OtherPorts d p s (trainCount d p f s) := by
  have htk : ∀ s' : State, OtherPorts d p s' (modTk d (fun t => { t with sideConflict := true }) s') :=
    fun s' q _ => port_modTk d _ q s'
  rw [trainCount_eq]
  dsimp only
  have h1 := otherPorts_modPort d p (trainNoted (topologyBad d p f s) (sidesEqual d p f s) f) s
  split <;> split
  · exact ((h1.trans (otherPorts_portEvent d p 5 _)).trans (htk _)).trans (otherPorts_portEvent d p 4 _)
  · exact (h1.trans (htk _)).trans (otherPorts_portEvent d p 4 _)
  · exact h1.trans (otherPorts_portEvent d p 5 _)
  · exact h1

theorem otherPorts_takeLink (d : Dev) (p : Nat) (h : LinkHdr) (s : State) : OtherPorts d p s (takeLink d p h s) :=
  otherPorts_modPort d p _ s

/-- A frame's link fields change the port's reliable delivery alone. -/
theorem port_takeLink (d : Dev) (p : Nat) (h : LinkHdr) (s : State) :
    ∃ r, (takeLink d p h s).port d p = { s.port d p with rel := r } :=
  ⟨_, port_modPort_same d p _ s⟩

/-- Equal sides hold the device in COLD (R19). -/
theorem trainCount_sideConflict (d : Dev) (p : Nat) (f : TrainF) (s : State) (h : sidesEqual d p f s = true) :
    ((trainCount d p f s).com d).tk.sideConflict = true := by
  simp [trainCount_eq, h]

/-- What a TRAIN frame that is counted may change. -/
theorem only_trainCount_takeLink (d : Dev) (p : Nat) (h : LinkHdr) (f : TrainF) (s : State) :
    Only [.com d .tk, .com d .ports, .com d .pgEvent, .com d .ic] s (trainCount d p f (takeLink d p h s)) := by
  cases d
  · exact (trainCount_tsu_blank p f _ (by decide) (by decide) (by decide) (by decide)).trans
      (takeLink_tsu_blank p h s (by decide))
  · exact (trainCount_dxd_blank p f _ (by decide) (by decide) (by decide) (by decide)).trans
      (takeLink_dxd_blank p h s (by decide))

/-- A frame that agrees with both checks changes the ports alone. -/
theorem trainCount_of_agreed (d : Dev) (p : Nat) (f : TrainF) (s : State) (hb : topologyBad d p f s = false)
    (hs : sidesEqual d p f s = false) : trainCount d p f s = modPort d p (trainNoted false false f) s := by
  simp [trainCount_eq, hb, hs]

/-- A port that a TRAIN frame takes back from CAL or UP (R77). -/
theorem port_trainReceive_of_live (d : Dev) (p : Nat) (h : LinkHdr) (f : TrainF) (s : State) (he : portExists d s p = true)
    (hl : (s.port d p).live = true) :
    ∃ r, (trainReceive d p h f s).port d p =
      { (s.port d p).closed with st := 3, downReason := 5, tr := {}, event := (s.port d p).event ||| bitW 1, rel := r } := by
  rw [trainReceive_of_live d p h f s he hl]
  obtain ⟨r, hr⟩ := linksKept_reselect d
    (portEvent d p 1 (modPort d p (fun q => { q.closed with st := 3, downReason := 5, tr := {} }) s)) p
  exact ⟨r, by rw [hr]; simp [Port.closed]⟩

theorem otherPorts_trainReceive_of_live (d : Dev) (p : Nat) (h : LinkHdr) (f : TrainF) (s : State)
    (he : portExists d s p = true) (hl : (s.port d p).live = true) (hn : d = .tsu → s.t.hd.held = []) :
    OtherPorts d p s (trainReceive d p h f s) := by
  rw [trainReceive_of_live d p h f s he hl]
  refine .trans (.trans (otherPorts_modPort d p _ s) (otherPorts_portEvent d p 1 _))
    (otherPorts_of_ports_eq p (reselect_ports_of_none_held d _ fun hd => ?_))
  simpa using hn hd

/-- Settles O12: each clause from what a TRAIN frame leaves at its port, by `port_trainCount` in TRAIN and by
`port_trainReceive_of_live` in CAL and UP. -/
theorem portTraining : Obligations.PortTraining := by
  unfold Obligations.PortTraining
  refine ⟨?agreed, ?badLevel, ?equalSides, ?live, ?ackSet, ?complete⟩
  case agreed =>
    intro d p h f s he hst hb hs
    refine ⟨_, rfl, ?_⟩
    rw [trainReceive_of_training d p h f s he hst, trainCount_of_agreed _ _ _ _ (by simpa using hb) (by simpa using hs)]
    obtain ⟨r, hr⟩ := port_takeLink d p h s
    rw [port_modPort_same, trainNoted_count, hr]
    refine ⟨hst, rfl, rfl, rfl, rfl, rfl, rfl, rfl, rfl, rfl, rfl, ?_, ?_⟩
    · exact (otherPorts_takeLink d p h s).trans (otherPorts_modPort d p _ _)
    · exact (only_modPort d p _ s).trans (only_modPort d p _ _)
  case badLevel =>
    intro d p h f s he hst hb
    refine ⟨_, rfl, ?_⟩
    rw [trainReceive_of_training d p h f s he hst]
    obtain ⟨r, hr⟩ := port_takeLink d p h s
    obtain ⟨ev, hp, h5, -⟩ := port_trainCount d p f (takeLink d p h s)
    rw [topologyBad_takeLink, hb, hr] at hp
    rw [topologyBad_takeLink] at h5
    refine ⟨by simp [hp, trainNoted, hst], by simp [hp, trainNoted], by simp [hp, trainNoted], by simp [hp, h5 hb], ?_,
      only_trainCount_takeLink d p h f s⟩
    exact (otherPorts_takeLink d p h s).trans (otherPorts_trainCount d p f _)
  case equalSides =>
    intro d p h f s he hst hs
    refine ⟨_, rfl, ?_⟩
    rw [trainReceive_of_training d p h f s he hst]
    obtain ⟨r, hr⟩ := port_takeLink d p h s
    obtain ⟨ev, hp, -, h4⟩ := port_trainCount d p f (takeLink d p h s)
    rw [sidesEqual_takeLink, hs, hr] at hp
    rw [sidesEqual_takeLink] at h4
    refine ⟨by simp [hp, trainNoted, hst], by simp [hp, trainNoted], by simp [hp, trainNoted], by simp [hp, h4 hs],
      trainCount_sideConflict d p f _ (by simpa using hs), ?_, only_trainCount_takeLink d p h f s⟩
    exact (otherPorts_takeLink d p h s).trans (otherPorts_trainCount d p f _)
  case live =>
    intro d p h f s he hl
    refine ⟨_, rfl, ?_⟩
    obtain ⟨r, hr⟩ := port_trainReceive_of_live d p h f s he hl
    refine ⟨by rw [hr], by rw [hr], by rw [hr], ?_, by rw [hr]; rfl, otherPorts_trainReceive_of_live d p h f s he hl, ?_⟩
    · rw [hr]
      exact bit_or_bitW _ 1 (by decide)
    · cases d
      · apply trainReceive_tsu_blank <;> decide
      · apply trainReceive_dxd_blank <;> decide
  case ackSet =>
    intro d p s he hst hc
    refine ⟨_, rfl, ?_⟩
    rw [trainAckSet, if_pos ⟨he, hst, hc⟩]
    exact ⟨port_modPort_same d p _ s, otherPorts_modPort d p _ s, only_modPort d p _ s⟩
  case complete =>
    intro d p s he hst hack hcount htop hside
    refine ⟨_, rfl, ?_⟩
    have hall : portExists d s p ∧ (s.port d p).st = 3 ∧ (s.port d p).tr.ackSent ∧ 8 ≤ (s.port d p).tr.ackCount ∧
        !(s.port d p).tr.topologyError ∧ !(s.port d p).tr.sideConflict :=
      ⟨he, hst, hack, hcount, by simp [htop], by simp [hside]⟩
    rw [trainComplete, if_pos hall]
    simp only [port_modPort_same, true_and]
    exact ⟨otherPorts_modPort d p _ s, only_modPort d p _ s⟩

end Sys2Proof.Machine
end

section
/-!
PROOFS. What a port sends in its slot (R24, R66, R77, R82 to R86): O14.
-/

namespace Sys2Proof.Machine

/-! What the sender reads of the device does not depend on a port. -/

@[simp] theorem isLane_modPort (d e : Dev) (p q : Nat) (f : Port → Port) (s : State) :
    isLane d (modPort e q f s) p = isLane d s p := by
  cases d <;> simp [isLane]

@[simp] theorem ownEpoch_modPort (d e : Dev) (q : Nat) (f : Port → Port) (s : State) :
    ownEpoch d (modPort e q f s) = ownEpoch d s := by
  cases d <;> simp [ownEpoch, lowestEpoch]

/-! A frame on the wire. -/

@[simp] theorem port_transmit (d : Dev) (p n : Nat) (f : Frame) (s : State) :
    (transmit d p n f s).port d p = { s.port d p with wire := some ⟨linkFields d p n s, f⟩ } :=
  port_modPort_same d p _ s

@[simp] theorem port_transmitPlain (d : Dev) (p : Nat) (pl : Payload) (s : State) :
    (transmitPlain d p pl s).port d p =
      { s.port d p with wire := some ⟨linkFields d p (s.port d p).rel.seqTx s, ⟨ownEpoch d s, pl⟩⟩ } :=
  port_transmit d p _ _ s

/-- A frame with the next SEQ is retained (R82). -/
theorem port_transmitNew (d : Dev) (p : Nat) (f : Frame) (s : State) :
    ∃ h, h.seq = ((s.port d p).rel.seqTx + 1) % 256 ∧
      (transmitNew d p f s).port d p = { s.port d p with
        wire := some ⟨h, f⟩,
        rel := { (s.port d p).rel with
          seqTx := ((s.port d p).rel.seqTx + 1) % 256,
          retained := (s.port d p).rel.retained ++ [(((s.port d p).rel.seqTx + 1) % 256, f)] } } :=
  ⟨_, rfl, (port_transmit d p _ f _).trans (by rw [port_modPort_same])⟩

theorem otherPorts_transmit (d : Dev) (p n : Nat) (f : Frame) (s : State) : OtherPorts d p s (transmit d p n f s) :=
  otherPorts_modPort d p _ s

theorem otherPorts_transmitPlain (d : Dev) (p : Nat) (pl : Payload) (s : State) :
    OtherPorts d p s (transmitPlain d p pl s) := otherPorts_transmit d p _ _ s

theorem otherPorts_transmitNew (d : Dev) (p : Nat) (f : Frame) (s : State) : OtherPorts d p s (transmitNew d p f s) :=
  (otherPorts_modPort d p _ s).trans (otherPorts_transmit d p _ f _)

/-! The slot. -/

/-- A slot begins, and its port counts the slots since its last L frame. -/
def slotCounted (d : Dev) (p : Nat) (s : State) : State :=
  modPort d p (fun q => { q with rel := { q.rel with sinceL := min 64 (q.rel.sinceL + 1) } }) s

@[simp] theorem port_slotCounted (d : Dev) (p : Nat) (s : State) :
    (slotCounted d p s).port d p = { s.port d p with rel := { (s.port d p).rel with
      sinceL := min 64 ((s.port d p).rel.sinceL + 1) } } := port_modPort_same d p _ s

@[simp] theorem ownEpoch_slotCounted (d : Dev) (p : Nat) (s : State) : ownEpoch d (slotCounted d p s) = ownEpoch d s :=
  ownEpoch_modPort d d p _ s

@[simp] theorem isLane_slotCounted (d : Dev) (p q : Nat) (s : State) : isLane d (slotCounted d p s) q = isLane d s q :=
  isLane_modPort d d q p _ s

theorem otherPorts_slotCounted (d : Dev) (p : Nat) (s : State) : OtherPorts d p s (slotCounted d p s) :=
  otherPorts_modPort d p _ s

theorem only_frameSlot (d : Dev) (p : Nat) (s : State) : Only [.com d .ports] s (frameSlot d p s) := by
  cases d
  · exact frameSlot_tsu_blank p s (by decide)
  · exact frameSlot_dxd_blank p s (by decide)

/-! What is sent, by the port's state and queues. -/

section
variable (d : Dev) (p : Nat) (s : State)

theorem frameSlot_of_no_slot (h : slotStarts (isLane d s p) (s.com d).tk.bc = false) : frameSlot d p s = s := by
  simp [frameSlot, h]

variable (he : portExists d s p = true) (hs : slotStarts (isLane d s p) (s.com d).tk.bc = true)
include he hs

theorem frameSlot_of_quiet (h : (s.port d p).st = 0 ∨ (d = .dxd ∧ s.x.hold.oscLost = true)) :
    frameSlot d p s = modPort d p (fun q => { q with wire := none }) s := by
  simp only [frameSlot, he, hs, h]
  simp

variable (ho : d = .dxd → s.x.hold.oscLost = false)
include ho

theorem frameSlot_of_training (h0 : (s.port d p).st ≠ 0) (hl : (s.port d p).live = false) :
    frameSlot d p s = transmitPlain d p (.train (trainFrame d p s)) (slotCounted d p s) := by
  have hq : ¬ ((s.port d p).st = 0 ∨ (d = .dxd ∧ s.x.hold.oscLost = true)) := by simpa [h0] using ho
  simp only [frameSlot, he, hs, if_neg hq, hl]
  rfl

theorem frameSlot_of_time (ht : sendsTime d p s = true) :
    frameSlot d p s = transmitPlain d p (.time (timeFrame s)) (slotCounted d p s) := by
  have hl : (s.port d p).live = true := by
    simp only [sendsTime, Bool.and_eq_true] at ht
    obtain ⟨⟨⟨hd, -⟩, hl⟩, -⟩ := ht
    simpa [eq_of_beq hd] using hl
  have h0 : (s.port d p).st ≠ 0 := by
    intro h0
    simp [Port.live, h0] at hl
  have hq : ¬ ((s.port d p).st = 0 ∨ (d = .dxd ∧ s.x.hold.oscLost = true)) := by simpa [h0] using ho
  simp only [frameSlot, he, hs, if_neg hq, hl, ht]
  rfl

theorem frameSlot_of_up (hst : (s.port d p).st = 5) (ht : sendsTime d p s = false) (ha : (s.port d p).tr.toAnswer = [])
    (hlq : (s.port d p).rel.lq = []) : frameSlot d p s = sendRetained d p (slotCounted d p s) := by
  have hq : ¬ ((s.port d p).st = 0 ∨ (d = .dxd ∧ s.x.hold.oscLost = true)) := by simpa [hst] using ho
  have hl : (s.port d p).live = true := by simp [Port.live, hst]
  simp only [frameSlot, he, hs, if_neg hq, hl, ht, ha, hlq]
  simp [slotCounted, hst]

end

section
variable (d : Dev) (p : Nat) (s : State)

/-- A resend goes before everything else (R83, R85). -/
theorem sendRetained_of_resend (n : Nat) (f : Frame) (rest : List (Nat × Frame))
    (hr : (s.port d p).rel.resend = (n, f) :: rest) (hc : (s.port d p).rel.holdCIn = false)
    (hb : (s.port d p).rel.holdBIn = false) : sendRetained d p s =
      transmit d p n f (modPort d p (fun q => { q with rel := { q.rel with resend := rest } }) s) := by
  simp [sendRetained, hr, hc, hb]

theorem sendRetained_of_control (e : QFrame) (rest : List QFrame) (hr : (s.port d p).rel.resend = [])
    (hb : (s.port d p).rel.bulk = []) (hq : (s.port d p).rel.ctl = e :: rest) (hc : (s.port d p).rel.holdCIn = false)
    (hroom : (s.port d p).rel.retained.length < (if isLane d s p then 16 else 64)) : sendRetained d p s =
      transmitNew d p e.f (modPort d p (fun q =>
        { q with rel := pullCtl (isLane d s p) { q.rel with ctl := q.rel.ctl.drop 1 } }) s) := by
  simp [sendRetained, hr, hb, hq, hc, hroom]

/-- With nothing to send it sends FILL (R86). -/
theorem sendRetained_of_empty (hr : (s.port d p).rel.resend = []) (hb : (s.port d p).rel.bulk = [])
    (hq : (s.port d p).rel.ctl = []) : sendRetained d p s = transmitPlain d p .fill s := by
  simp [sendRetained, hr, hb, hq]

end

/-- Settles O14: what `frameSlot` sends in each state of the port, and that it changes its own port alone. -/
theorem portSlots : Obligations.PortSlots := by
  unfold Obligations.PortSlots
  refine ⟨?noSlot, ?quiet, ?training, ?time, ?resend, ?control, ?fill⟩
  case noSlot =>
    intro d p s h
    exact congrArg Host.Outcome.next (frameSlot_of_no_slot d p s h)
  case quiet =>
    intro d p s he hs h
    refine ⟨_, rfl, ?_, ?_, only_frameSlot d p s⟩ <;> rw [frameSlot_of_quiet d p s he hs h]
    · exact port_modPort_same d p _ s
    · exact otherPorts_modPort d p _ s
  case training =>
    intro d p s he hs h0 ho hl
    refine ⟨_, rfl, ?_, ?_, ?_, only_frameSlot d p s⟩ <;> rw [frameSlot_of_training d p s he hs ho h0 hl]
    · rw [port_transmitPlain, ownEpoch_slotCounted]
      exact ⟨_, rfl, by simp [linkFields]⟩
    · simp
    · exact (otherPorts_slotCounted d p s).trans (otherPorts_transmitPlain d p _ _)
  case time =>
    intro p s he hs ho ht
    refine ⟨_, rfl, ?_, ?_, ?_, ?_, only_frameSlot .dxd p s⟩ <;>
      rw [frameSlot_of_time .dxd p s he hs (fun _ => ho) ht]
    · rw [port_transmitPlain, ownEpoch_slotCounted]
      exact ⟨_, rfl⟩
    · simp
    · simp
    · exact (otherPorts_slotCounted .dxd p s).trans (otherPorts_transmitPlain .dxd p _ _)
  case resend =>
    intro d p n f rest s he hs hst ho ht ha hlq hr hc hb
    refine ⟨_, rfl, ?_, ?_, ?_, ?_, ?_, only_frameSlot d p s⟩ <;>
      rw [frameSlot_of_up d p s he hs ho hst ht ha hlq,
        sendRetained_of_resend d p _ n f rest (by simpa) (by simpa) (by simpa)]
    · rw [port_transmit]
      exact ⟨_, rfl, rfl⟩
    · simp
    · simp
    · simp
    · exact ((otherPorts_slotCounted d p s).trans (otherPorts_modPort d p _ _)).trans (otherPorts_transmit d p _ _ _)
  case control =>
    intro d p e rest s he hs hst ho ht ha hlq hr hb hq hc hroom
    have heq := (frameSlot_of_up d p s he hs ho hst ht ha hlq).trans
      (sendRetained_of_control d p _ e rest (by simpa) (by simpa) (by simpa) (by simpa) (by simpa))
    obtain ⟨h, hseq, hp⟩ := port_transmitNew d p e.f (modPort d p (fun q =>
      { q with rel := pullCtl (isLane d (slotCounted d p s) p) { q.rel with ctl := q.rel.ctl.drop 1 } }) (slotCounted d p s))
    rw [← heq] at hp
    simp only [port_modPort_same, port_slotCounted, pullCtl] at hseq hp
    refine ⟨_, rfl, ⟨h, by rw [hp], hseq⟩, ?_, ?_, ?_, ?_, only_frameSlot d p s⟩
    · rw [hp]
      simp [hq]
    · rw [hp]
    · rw [hp]
    · rw [heq]
      exact ((otherPorts_slotCounted d p s).trans (otherPorts_modPort d p _ _)).trans (otherPorts_transmitNew d p _ _)
  case fill =>
    intro d p s he hs hst ho ht ha hlq hr hb hq
    refine ⟨_, rfl, ?_, ?_, ?_, only_frameSlot d p s⟩ <;>
      rw [frameSlot_of_up d p s he hs ho hst ht ha hlq, sendRetained_of_empty d p _ (by simpa) (by simpa) (by simpa)]
    · rw [port_transmitPlain, ownEpoch_slotCounted]
      exact ⟨_, rfl, by simp [linkFields]⟩
    · simp
    · exact (otherPorts_slotCounted d p s).trans (otherPorts_transmitPlain d p _ _)

end Sys2Proof.Machine
end

section
/-!
PROOFS. The entry of CELLAR (R388) and what it leaves: BO_STATUS, the time state, the withdrawal's interrupt and the kept
job fields.
-/

namespace Sys2Proof.Machine

/-! The local interrupt sources of a TSU. -/

@[simp] theorem noteRaise_tsu_local (n : Nat) (was : Bool) (s : State) :
    (noteRaise .tsu n was s).tc.ic.local_ = s.tc.ic.local_ := by
  unfold noteRaise
  split <;> simp

@[simp] theorem raiseMask_tsu_local (pg : Nat) (m : Word) (s : State) :
    (raiseMask .tsu pg m s).tc.ic.local_ = s.tc.ic.local_ := by
  unfold raiseMask
  dsimp only
  split
  · split <;> simp
  · rfl

@[simp] theorem raise_tsu_local (pg b : Nat) (s : State) : (raise .tsu pg b s).tc.ic.local_ = s.tc.ic.local_ :=
  raiseMask_tsu_local pg _ s

/-- A local source that is raised stands in the controller. -/
theorem bit_raiseLocal (i : Nat) (h : i < 64) (s : State) : bit (raiseLocal i s).tc.ic.local_ i = true := by
  simp [raiseLocal, bit_or_bitW _ i h]

/-! Withdrawal. -/

/-- A fold whose steps keep what was found has found something once one element always gives something. -/
theorem isSome_foldl {α β : Type} (f : Option α → β → Option α)
    (hkeep : ∀ o x, o.isSome = true → (f o x).isSome = true) (l : List β) (o : Option α) (h : o.isSome = true ∨ ∃ x ∈ l, ∀ o, (f o x).isSome = true) :
    (l.foldl f o).isSome = true := by
  induction l generalizing o with
  | nil => simpa using h
  | cons x l ih =>
    refine ih (f o x) ?_
    rcases h with ho | ⟨y, hy, hf⟩
    · exact .inl (hkeep o x ho)
    · rcases List.mem_cons.mp hy with rfl | hl
      · exact .inl (hf o)
      · exact .inr ⟨y, hl, hf⟩

/-- A step that the predicate takes gives a lowest one. -/
theorem lowestOf_isSome (p : StepRec → Bool) (s : State) (r : StepRec) (hr : r ∈ s.t.steps) (ha : r.active = true)
    (hp : p r = true) : (lowestOf p s).isSome = true := by
  refine isSome_foldl _ (fun o x ho => ?_) _ _ (.inr ⟨r, hr, fun o => by simp [ha, hp]⟩)
  split
  · rfl
  · exact ho

/-- A withdrawal that calls off an armed step raises the call-off (R188). -/
theorem withdrawSet_local (p : StepRec → Bool) (s : State) (r : StepRec) (hr : r ∈ s.t.steps) (ha : r.armed = true)
    (hp : p r = true) : bit (withdrawSet p s).tc.ic.local_ 4 = true := by
  have hact : r.active = true := by
    simp only [StepRec.armed] at ha
    simp [StepRec.active, ha]
  obtain ⟨l, hl⟩ := Option.isSome_iff_exists.mp (lowestOf_isSome p s r hr hact hp)
  have hoffs : ((s.t.steps.filter (fun r => r.active && p r)).any (·.armed)) = true :=
    List.any_eq_true.mpr ⟨r, List.mem_filter.mpr ⟨hr, by simp [hact, hp]⟩, ha⟩
  simp only [withdrawSet, hl, withdraw, modMem_t, hoffs, if_true]
  exact bit_raiseLocal 4 (by decide) _

/-! The time state of a DX-D. -/

@[simp] theorem setTimeState_state (d : Dev) (n : Nat) (s : State) : ((setTimeState d n s).com d).tk.state = n := by
  unfold setTimeState
  split
  case isTrue h => exact h
  case isFalse => simp

theorem showDxdState_state (s : State) : (showDxdState s).dc.tk.state = dxdTimeState s :=
  setTimeState_state .dxd _ _

/-- A DX-D's reselection ends with its time state, and BO_STATUS stays. -/
theorem dxdReselect_eq_showDxdState (s : State) : ∃ u, dxdReselect s = showDxdState u ∧ u.dc.boot = s.dc.boot :=
  ⟨_, rfl, dc_boot_eq (by simp [but])⟩

/-- In CELLAR the time state is 5 (R44). -/
theorem dxdReselect_state_of_inCellar (s : State) (h : inCellar .dxd s = true) : (dxdReselect s).dc.tk.state = 5 := by
  obtain ⟨u, hu, hb⟩ := dxdReselect_eq_showDxdState s
  have hc : inCellar .dxd u = true := by simpa [inCellar, hb] using h
  simp [hu, showDxdState_state, dxdTimeState, hc]

theorem holdPorts_eq_dxdReselect (s : State) : ∃ u, holdPorts s = dxdReselect u ∧ u.dc.boot = s.dc.boot :=
  ⟨_, rfl, dc_boot_eq (by simp [but])⟩

theorem holdPorts_boot (s : State) : (holdPorts s).dc.boot = s.dc.boot := dc_boot_eq (by simp [but])

theorem holdPorts_state_of_inCellar (s : State) (h : inCellar .dxd s = true) : (holdPorts s).dc.tk.state = 5 := by
  obtain ⟨u, hu, hb⟩ := holdPorts_eq_dxdReselect s
  rw [hu]
  exact dxdReselect_state_of_inCellar u (by simpa [inCellar, hb] using h)

/-! What a lane that leaves IDLE and the emptied ledger of the stockroom keep. -/

@[simp] theorem laneDown_boot (p : Nat) (s : State) : (laneDown p s).tc.boot = s.tc.boot := rfl
@[simp] theorem laneDown_tk (p : Nat) (s : State) : (laneDown p s).tc.tk = s.tc.tk := rfl
@[simp] theorem laneDown_ic (p : Nat) (s : State) : (laneDown p s).tc.ic = s.tc.ic := rfl
@[simp] theorem laneDown_t (p : Nat) (s : State) : (laneDown p s).t = s.t := rfl
@[simp] theorem emptyLedger_tc (s : State) : (emptyLedger s).tc = s.tc := rfl
@[simp] theorem emptyLedger_steps (s : State) : (emptyLedger s).t.steps = s.t.steps := rfl
@[simp] theorem emptyLedger_kp (s : State) : (emptyLedger s).t.kp = s.t.kp := rfl

/-! The entry of CELLAR. -/

theorem enterCellar_stage (d : Dev) (reason : Nat) (s : State) :
    ((enterCellar d reason s).com d).boot.stage = 7 ∧ ((enterCellar d reason s).com d).boot.cellarReason = reason := by
  cases d
  · simp [enterCellar, cellarCom]
  · simp [enterCellar, holdPorts_boot, cellarCom]

theorem enterCellar_fuse (d : Dev) (reason : Nat) (s : State) :
    ((enterCellar d reason s).com d).fuse = (s.com d).fuse := by
  cases d
  · exact tc_fuse_eq (by apply enterCellar_tsu_blank <;> decide)
  · exact dc_fuse_eq (by apply enterCellar_dxd_blank <;> decide)

theorem enterCellar_state (d : Dev) (reason : Nat) (s : State) : ((enterCellar d reason s).com d).tk.state = 5 := by
  cases d
  · simp [enterCellar, cellarCom]
  · simp only [enterCellar, com_dxd, raise_dc_tk]
    exact holdPorts_state_of_inCellar _ (by simp [inCellar, cellarCom])

/-- CELLAR_ENTRY is raised (R388). -/
theorem eventSet_enterCellar (d : Dev) (reason : Nat) (s : State) : eventSet d 0x0E 0 (enterCellar d reason s) :=
  eventSet_raise d 0x0E 0 _ ⟨pageSt_boot d _, by decide⟩ (by decide)

/-- The steps that were armed are called off (R187). -/
theorem enterCellar_local (reason : Nat) (s : State) (r : StepRec) (hr : r ∈ s.t.steps) (ha : r.armed = true) :
    bit (enterCellar .tsu reason s).tc.ic.local_ 4 = true := by
  have h := withdrawSet_local (fun r => r.armed || r.launched) s r hr ha (by simp [ha])
  simpa [enterCellar, cellarCom] using h

/-- Of the job nothing is current, and its seed and fields stay (R265). -/
theorem enterCellar_tsu_t (reason : Nat) (s : State) : (enterCellar .tsu reason s).t.steps = [] ∧
    (enterCellar .tsu reason s).t.kp = cellarKp s.t.kp := by
  simp [enterCellar]

end Sys2Proof.Machine
end

section
/-!
PROOFS. Resets (R16, R377, R387, R389, R407): O54.
-/

namespace Sys2Proof.Machine

/-! What a reset leaves. -/

/-- A TSU whose own state is as made has, with its stockroom's ledger emptied, the full credit and nothing else. -/
theorem emptyLedger_of_fresh (s : State) (h : s.t = {}) :
    (emptyLedger s).t = { st := { credit := 1000 * stRise (emptyLedger s) } } := by
  simp [emptyLedger, modSt, stRise, State.regF, State.reg, h]

/-- A warm reset keeps the sticky start bits (R377). -/
def warmBoot (b : Boot) : Boot :=
  { fails := b.fails, reason := b.reason, cellarReason := b.cellarReason, startTimeout := b.startTimeout, warm := true,
    source := b.source, localTie := b.localTie, localAddr := b.localTie }

theorem warmReset_com (d : Dev) (s : State) : (warmReset d s).com d =
    freshCom d (s.com d) (warmBoot (s.com d).boot) (warmIc (s.com d).ic) (s.com d).tk.sideConflict := by
  cases d <;> rfl

theorem warmReset_tsu_t (s : State) :
    (warmReset .tsu s).t = { st := { credit := 1000 * stRise (warmReset .tsu s) } } := emptyLedger_of_fresh _ rfl

theorem warmReset_dxd_x (s : State) : (warmReset .dxd s).x = freshDxd s.x s.x.straps s.x.hold.history := rfl

/-- RESTART clears FAILS and takes a warm reset, unless the straps are invalid (R389). -/
theorem restart_of_strapped (d : Dev) (s : State) (h : d = .dxd → s.x.straps.role ≠ 3) :
    restart d s = warmReset d (modBoot d (fun b => { b with fails := 0 }) s) := by
  refine if_neg ?_
  rintro ⟨rfl, hr⟩
  exact h rfl hr

theorem powerOn_of_strapped (pins : Pins) (s : State) (h : pins.role % 4 ≠ 3) : powerOn .dxd pins s =
    { modCom .dxd (fun c => freshCom .dxd c { source := 2 } {} false) s with
      x := freshDxd s.x { s.x.straps with role := pins.role % 4, side := pins.side % 2, level := pins.level % 2 } 0 } :=
  if_neg h

/-- Invalid straps lead to CELLAR at once (R17). -/
theorem powerOn_of_invalid (pins : Pins) (s : State) (h : pins.role % 4 = 3) :
    ∃ u, powerOn .dxd pins s = enterCellar .dxd 0xB u := ⟨_, if_pos h⟩

theorem boCtlWrite_of_restart (d : Dev) (v : Word) (s : State) (h : bit v 63 = true) (h' : bit v 62 = false) :
    boCtlWrite d v s = restart d s := by
  simp [boCtlWrite, h, h']

theorem boCtlWrite_of_forceCellar (d : Dev) (v : Word) (s : State) (h : bit v 62 = true) :
    boCtlWrite d v s = enterCellar d 0xC s := if_pos h

/-- Settles O54: the resets by the equations of what they leave, CELLAR by the lemmas about its entry. -/
theorem resetAndCellar : Obligations.ResetAndCellar := by
  unfold Obligations.ResetAndCellar
  refine ⟨?powerOnTsu, ?powerOnDxd, ?invalidStraps, ?warm, ?warmInCellar, ?restart, ?forceCellar⟩
  case powerOnTsu =>
    intro pins s
    refine ⟨_, rfl, rfl, rfl, rfl, rfl, rfl, rfl, rfl, rfl, rfl, rfl, rfl, rfl, rfl, emptyLedger_of_fresh _ rfl, rfl, ?_⟩
    apply powerOn_tsu_blank <;> decide
  case powerOnDxd =>
    intro pins s h
    refine ⟨_, rfl, ?_⟩
    rw [powerOn_of_strapped pins s h]
    refine ⟨rfl, rfl, rfl, rfl, rfl, rfl, rfl, rfl, rfl, rfl, rfl, rfl, rfl, rfl, rfl, rfl, rfl, rfl, ?_⟩
    rw [← powerOn_of_strapped pins s h]
    apply powerOn_dxd_blank <;> decide
  case invalidStraps =>
    intro pins s h
    obtain ⟨u, hu⟩ := powerOn_of_invalid pins s h
    obtain ⟨hstage, hreason⟩ := enterCellar_stage .dxd 0xB u
    have hevent := eventSet_enterCellar .dxd 0xB u
    rw [← hu] at hstage hreason hevent
    refine ⟨_, rfl, hstage, hreason, hevent, ?_⟩
    apply powerOn_dxd_blank <;> decide
  case warm =>
    intro d s hc
    refine ⟨warmReset d s, by simp [exec, execWarmReset, hc], ?_⟩
    rw [warmReset_com]
    refine ⟨rfl, rfl, rfl, rfl, rfl, rfl, rfl, rfl, rfl, rfl, rfl, rfl, rfl, rfl, rfl, rfl, ?_, ?_, ?_⟩
    · rintro rfl
      exact warmReset_tsu_t s
    · rintro rfl
      rw [warmReset_dxd_x]
      exact ⟨rfl, rfl, rfl, rfl, rfl⟩
    · cases d
      · apply warmReset_tsu_blank <;> decide
      · apply warmReset_dxd_blank <;> decide
  case warmInCellar =>
    intro d s hc
    simp [exec, execWarmReset, hc]
  case restart =>
    intro d rq v s hw h63 h62 hr
    refine ⟨_, rfl, ?_⟩
    rw [admitWrite_taken _ _ _ _ _ _ _ hw, boCtlWrite_of_restart _ _ _ h63 h62,
      restart_of_strapped _ _ (by simpa using hr), warmReset_com]
    refine ⟨rfl, by simp [freshCom, warmBoot], rfl, by simp [freshCom], rfl, ?_, ?_⟩
    · rintro rfl
      exact warmReset_tsu_t _
    · rw [← restart_of_strapped _ _ (by simpa using hr)]
      cases d
      · rw [dropHalf_tsu]
        apply restart_tsu_blank <;> decide
      · refine Only.trans (t := dropHalf .dxd rq s) ?_ ?_
        · apply dropHalf_dxd_blank <;> decide
        · apply restart_dxd_blank <;> decide
  case forceCellar =>
    intro d rq v s hw h62
    refine ⟨_, rfl, ?_⟩
    rw [admitWrite_taken _ _ _ _ _ _ _ hw, boCtlWrite_of_forceCellar _ _ _ h62]
    obtain ⟨hstage, hreason⟩ := enterCellar_stage d 0xC (dropHalf d rq s)
    refine ⟨hstage, hreason, ?_, enterCellar_state d 0xC _, eventSet_enterCellar d 0xC _, ?_, ?_, ?_⟩
    · rw [enterCellar_fuse, dropHalf_com_fuse]
    · rintro rfl ⟨r, hr, ha⟩
      exact enterCellar_local 0xC _ r (by simpa using hr) ha
    · rintro rfl
      obtain ⟨hsteps, hkp⟩ := enterCellar_tsu_t 0xC s
      rw [dropHalf_tsu, hkp]
      exact ⟨hsteps, rfl, rfl, rfl, rfl⟩
    · cases d
      · rw [dropHalf_tsu]
        apply enterCellar_tsu_blank <;> decide
      · refine Only.trans (t := dropHalf .dxd rq s) ?_ ?_
        · apply dropHalf_dxd_blank <;> decide
        · apply enterCellar_dxd_blank <;> decide

end Sys2Proof.Machine
end

section
/-!
PROOFS. What the two invariants of every step watch (R35, R113): the hall time of both devices, the states and masters of the 1588
instances; and what keeps them through a change of the state or an operation that takes one as its argument. An operation that moves neither
has a `watch_` equation, one that may has a `good_` lemma. `com_tsu` and `com_dxd` stay out of simp here: a device read by its
variable and the same one read by its field would make two decisions of one.
-/

namespace Sys2Proof.Machine

/-- The fields of hall time that R35 bounds. -/
def clockOf (k : Time) : Nat × Nat × Nat := (k.sec, k.ns, k.frac)

/-- What R113 says of a 1588 port: its state and its announced master. -/
def masterOf (i : PtpInst) : Nat × Option PtpMsg := (i.state, i.ann)

/-- What the two invariants of every step speak of: the hall time of each device and the masters of the 1588 instances. -/
structure Watch where
  tsu : Nat × Nat × Nat
  dxd : Nat × Nat × Nat
  i1 : Nat × Option PtpMsg
  i2 : Nat × Option PtpMsg

/-- The parts that hold nothing of it. -/
def unwatched (p : Part) : Bool := decide (p ≠ .com .tsu .tk ∧ p ≠ .com .dxd .tk ∧ p ≠ .ptp)

def watchOf (s : State) : Watch := ⟨clockOf s.tc.tk, clockOf s.dc.tk, masterOf s.x.pt.i1, masterOf s.x.pt.i2⟩

/-- The watched values, read from the state with every other part blanked, so that the frame laws of an operation apply. -/
@[simp] abbrev watch (s : State) : Watch := watchOf (s.blank unwatched)

theorem watch_eq (s : State) : watch s = watchOf s := rfl

/-- The ranges of R35. -/
def InRange (c : Nat × Nat × Nat) : Prop := c.1 < 2 ^ 48 ∧ c.2.1 < 1000000000 ∧ c.2.2 < 65536

/-- A port that listens has no announced master (R113). -/
def Listens (i : Nat × Option PtpMsg) : Prop := i.1 = 1 ∨ i.1 = 4 → i.2 = none

/-- The two invariants of every step, each where it is assumed. -/
def Good (P Q : Prop) (w : Watch) : Prop := (P → InRange w.tsu ∧ InRange w.dxd) ∧ (Q → Listens w.i1 ∧ Listens w.i2)

theorem good_iff (P Q : Prop) (s : State) : Good P Q (watch s) ↔ (P → ∀ d, HtOk (s.com d).tk) ∧ (Q → PtpListens s) := by
  have hd : (∀ d, HtOk (s.com d).tk) ↔ HtOk s.tc.tk ∧ HtOk s.dc.tk :=
    ⟨fun h => ⟨h .tsu, h .dxd⟩, fun h d => by cases d; exacts [h.1, h.2]⟩
  have hp : PtpListens s ↔ Listens (masterOf s.x.pt.i1) ∧ Listens (masterOf s.x.pt.i2) := by
    simp [PtpListens, Listens, masterOf]
  rw [hd, hp]
  exact Iff.rfl

/-- `State.blank_ite`, for a choice that simp meets after it has unfolded an operation. -/
@[simp] theorem blank_choice {W : Part → Bool} (c : Prop) [Decidable c] (s t : State) :
    (if c then s else t).blank W = if c then s.blank W else t.blank W := State.blank_ite c s t

@[simp] theorem watchOf_ite (c : Prop) [Decidable c] (s t : State) :
    watchOf (if c then s else t) = if c then watchOf s else watchOf t := by split <;> rfl

@[simp] theorem good_ite {P Q : Prop} (c : Prop) [Decidable c] (v w : Watch) (hv : Good P Q v) (hw : Good P Q w) :
    Good P Q (if c then v else w) := by split <;> assumption

/-- A choice keeps the invariants where both branches do. -/
theorem good_choice {P Q : Prop} (c : Prop) [Decidable c] {s t : State} (hs : Good P Q (watch s)) (ht : Good P Q (watch t)) :
    Good P Q (watch (if c then s else t)) := by split <;> assumption

theorem watch_choice {w : Watch} (c : Prop) [Decidable c] {s t : State} (hs : watch s = w) (ht : watch t = w) :
    watch (if c then s else t) = w := by split <;> assumption

@[simp] theorem watch_foldl {α : Type} (f : State → α → State) (l : List α) (s : State) (h : ∀ s x, watch (f s x) = watch s) :
    watch (l.foldl f s) = watch s := by
  induction l generalizing s with
  | nil => rfl
  | cons x l ih => rw [List.foldl_cons, ih, h]

@[simp] theorem good_foldl {P Q : Prop} {α : Type} (f : State → α → State) (l : List α) (s : State)
    (h : ∀ s x, Good P Q (watch s) → Good P Q (watch (f s x))) (hs : Good P Q (watch s)) :
    Good P Q (watch (l.foldl f s)) := by
  induction l generalizing s with
  | nil => exact hs
  | cons x l ih => exact ih _ (h s x hs)

@[simp] theorem watch_modTk (d : Dev) (f : Time → Time) (s : State)
    (h : ∀ t, (f t).sec = t.sec ∧ (f t).ns = t.ns ∧ (f t).frac = t.frac) : watch (modTk d f s) = watch s := by
  cases d <;> simp only [watch_eq, watchOf, clockOf, modTk_tsu_tc, modTk_tsu_dc, modTk_dxd_tc, modTk_dxd_dc, modTk_x, h]

@[simp] theorem watch_modCom (d : Dev) (f : Com → Com) (s : State)
    (h : ∀ c, (f c).tk.sec = c.tk.sec ∧ (f c).tk.ns = c.tk.ns ∧ (f c).tk.frac = c.tk.frac) :
    watch (modCom d f s) = watch s := by
  cases d <;>
    simp only [watch_eq, watchOf, clockOf, modCom_tsu_tc, modCom_tsu_dc, modCom_dxd_tc, modCom_dxd_dc, modCom_x, h]

@[simp] theorem watch_modPt (f : Ptp → Ptp) (s : State)
    (h : ∀ p, (f p).i1.state = p.i1.state ∧ (f p).i1.ann = p.i1.ann ∧ (f p).i2.state = p.i2.state ∧
      (f p).i2.ann = p.i2.ann) : watch (modPt f s) = watch s := by
  simp only [watch_eq, watchOf, masterOf, modPt_tc, modPt_dc, modPt_x, h]

theorem htOk_zero {k : Time} (h : k.sec = 0 ∧ k.ns = 0 ∧ k.frac = 0) : HtOk k := by
  obtain ⟨hs, hn, hf⟩ := h
  simp [HtOk, hs, hn, hf]

/-- HT moved by frac LSBs is in its ranges (R35). -/
theorem htOk_addLsb (k : Time) (n : Int) : HtOk (k.addLsb n) := by
  simp only [HtOk, Time.addLsb]
  have hpos : (0 : Int) < ((2 ^ 48 : Nat) : Int) * 1000000000 * 65536 := by norm_num
  have hlt := Int.emod_lt_of_pos (((k.sec * 1000000000 + k.ns : Nat) : Int) * 65536 + (k.frac : Nat) + n) hpos
  norm_num at hlt ⊢
  omega

/-- A device's hall time changes, into one that is in its ranges. -/
theorem good_modCom {P Q : Prop} (d : Dev) (f : Com → Com) (s : State) (h : ∀ c, HtOk c.tk → HtOk (f c).tk)
    (hs : Good P Q (watch s)) : Good P Q (watch (modCom d f s)) := by
  rw [good_iff] at hs ⊢
  refine ⟨fun ha e => ?_, fun hb => by simpa [PtpListens] using hs.2 hb⟩
  have he := hs.1 ha e
  cases d <;> cases e
  · exact h _ he
  · exact he
  · exact he
  · exact h _ he

theorem good_modTk {P Q : Prop} (d : Dev) (f : Time → Time) (s : State) (h : ∀ t, HtOk t → HtOk (f t))
    (hs : Good P Q (watch s)) : Good P Q (watch (modTk d f s)) := good_modCom d _ s (fun c => h c.tk) hs

/-! Operations that take a change of the state as an argument. -/

@[simp] theorem good_applyWrite {P Q : Prop} (d : Dev) (pg off : Nat) (f : State → State) (s : State)
    (hf : ∀ s, Good P Q (watch s) → Good P Q (watch (f s))) (hs : Good P Q (watch s)) :
    Good P Q (watch (applyWrite d pg off f s)) := by
  unfold applyWrite
  split
  · exact hs
  · split
    · exact hs
    · split
      · exact good_modCom d _ s (fun _ => id) hs
      · exact hf _ hs

section
variable {P Q : Prop} (d : Dev) (f : State → State) (s : State)
  (hf : ∀ s, Good P Q (watch s) → Good P Q (watch (f s))) (hs : Good P Q (watch s))
include hf hs

@[simp] theorem good_admitWrite (rq pg off : Nat) (v : Word) : Good P Q (watch (admitWrite d rq pg off v f s)) := by
  have hdrop : Good P Q (watch (dropHalf d rq s)) := by cases d <;> simpa [unwatched] using hs
  unfold admitWrite
  dsimp only
  split
  · exact hs
  · split
    · cases d <;> simpa [unwatched] using hdrop
    · exact good_applyWrite d pg off f _ hf hdrop

@[simp] theorem good_applyRead (rq pg : Nat) (v : Word) : Good P Q (watch (applyRead d rq pg v f s)) := by
  have hresp : ∀ w, Good P Q (watch (respond d rq w s)) := fun w => by cases d <;> simpa [unwatched] using hs
  unfold applyRead
  split
  · exact hf _ (hresp v)
  · exact hresp 0

@[simp] theorem good_admitRead (rq pg off : Nat) (v : State → Word) : Good P Q (watch (admitRead d rq pg off v f s)) := by
  have hdrop : Good P Q (watch (dropHalf d rq s)) := by cases d <;> simpa [unwatched] using hs
  unfold admitRead
  dsimp only
  split
  · exact hs
  · split
    · cases d <;> simpa [unwatched] using hdrop
    · exact good_applyRead d f _ hf hdrop rq pg _

@[simp] theorem good_takeFrame (p : Nat) (fr : Frame) : Good P Q (watch (takeFrame d p fr f s)) := by
  unfold takeFrame
  split
  · cases d <;> simpa [unwatched] using hs
  · exact hf _ hs

@[simp] theorem good_recvRetained (p : Nat) (h : LinkHdr) (fr : Frame) : Good P Q (watch (recvRetained d p h fr f s)) := by
  unfold recvRetained
  dsimp only
  (repeat' split)
  case isFalse.isFalse.isFalse.isTrue =>
    refine good_takeFrame d f _ hf ?_ p fr
    cases d <;> simpa [unwatched] using hs
  all_goals cases d <;> simpa [unwatched] using hs

end

/-- Two states that hold the same clocks and masters, or new ones that are good. -/
theorem good_of {P Q : Prop} {s t : State} (hs : Good P Q (watch s))
    (hk : ∀ d, (t.com d).tk = (s.com d).tk ∨ HtOk (t.com d).tk) (hp : t.x.pt = s.x.pt ∨ PtpListens t) :
    Good P Q (watch t) := by
  rw [good_iff] at hs ⊢
  obtain ⟨ht, hl⟩ := hs
  refine ⟨fun hP d => (hk d).elim (fun h => h ▸ ht hP d) id, fun hQ => hp.elim (fun h => ?_) id⟩
  rw [PtpListens, h]
  exact hl hQ

section
variable (d : Dev) (f : State → State) (s : State) (hf : ∀ s, watch (f s) = watch s)
include hf

@[simp] theorem watch_takeFrame (p : Nat) (fr : Frame) : watch (takeFrame d p fr f s) = watch s := by
  unfold takeFrame
  split
  · cases d <;> simp [unwatched]
  · exact hf s

@[simp] theorem watch_recvRetained (p : Nat) (h : LinkHdr) (fr : Frame) : watch (recvRetained d p h fr f s) = watch s := by
  unfold recvRetained
  dsimp only
  (repeat' split)
  case isFalse.isFalse.isFalse.isTrue =>
    rw [watch_takeFrame d f _ hf]
    cases d <;> simp [unwatched]
  all_goals cases d <;> simp [unwatched]

@[simp] theorem watch_bySeen (i : SeenId) : watch (bySeen d i f s) = watch s := by
  unfold bySeen
  dsimp only
  split
  · rfl
  · rw [hf]
    cases d <;> simp

@[simp] theorem watch_byOseq (q : Nat) : watch (byOseq d q f s) = watch s := by
  unfold byOseq
  split
  · rw [hf]
    cases d <;> simp [unwatched]
  · rfl

end

@[simp] theorem watch_cellDo (q : CellReq) (f : State → State) (s : State) (hf : ∀ s, watch (f s) = watch s) :
    watch (cellDo q f s) = watch s := by
  unfold cellDo
  split
  · simp [unwatched]
  · exact hf s

end Sys2Proof.Machine
end

section
/-!
PROOFS. Hall time, its servo and the ports keep the watched values or move HT within its ranges (R36 to R62, R85 to R90).
-/

namespace Sys2Proof.Machine

@[simp] theorem watch_setTimeState (d : Dev) (n : Nat) (s : State) :
    watch (setTimeState d n s) = watch s := by cases d <;> simp [setTimeState, unwatched, -com_tsu, -com_dxd]

@[simp] theorem watch_setRootHoldover (d : Dev) (b : Bool) (s : State) :
    watch (setRootHoldover d b s) = watch s := by cases d <;> simp [setRootHoldover, unwatched, -com_tsu, -com_dxd]

@[simp] theorem watch_setTrace (d : Dev) (tr : Bool) (ol : Bool) (s : State) :
    watch (setTrace d tr ol s) = watch s := by cases d <;> simp [setTrace, unwatched, -com_tsu, -com_dxd]

@[simp] theorem watch_startPull (d : Dev) (r : Int) (s : State) :
    watch (startPull d r s) = watch s := by cases d <;> simp [startPull, unwatched, -com_tsu, -com_dxd]

@[simp] theorem watch_dropForce (s : State) :
    watch (dropForce s) = watch s := by
  unfold dropForce
  (repeat' split) <;> simp [-com_tsu, -com_dxd]

@[simp] theorem watch_tsuReselect (s : State) :
    watch (tsuReselect s) = watch s := by simp [tsuReselect, unwatched, -com_tsu, -com_dxd]

@[simp] theorem watch_follow (n : Nat) (viaList : Bool) (s : State) :
    watch (follow n viaList s) = watch s := by simp [follow, unwatched, -com_tsu, -com_dxd]

@[simp] theorem watch_leaveTwin (s : State) :
    watch (leaveTwin s) = watch s := by
  unfold leaveTwin
  (repeat' split) <;> simp [unwatched, -com_tsu, -com_dxd]

@[simp] theorem watch_sourceLost (n : Nat) (s : State) :
    watch (sourceLost n s) = watch s := by
  unfold sourceLost
  dsimp only
  (repeat' split) <;> simp [unwatched, -com_tsu, -com_dxd]

/-- The selection changes what is followed, never HT (R114, R115): each of its five stages in turn. -/
@[simp] theorem watch_rootSelect (s : State) : watch (rootSelect s) = watch s := by
  unfold rootSelect
  refine watch_choice _ rfl ?_
  extract_lets s1 s2 s3 s4
  have h1 : watch s1 = watch s := watch_choice _ (watch_choice _ rfl (by simp [unwatched])) (watch_sourceLost _ s)
  have h2 : watch s2 = watch s := watch_choice _ ((watch_follow _ _ s1).trans h1) h1
  have h3 : watch s3 = watch s := by
    refine watch_choice _ h2 (watch_choice _ ?_ (watch_choice _ h2 ?_)) <;> simp [h2, unwatched]
  have h4 : watch s4 = watch s := watch_choice _ (by simp [h3, unwatched]) h3
  refine watch_choice _ ?_ h4
  split
  · exact (watch_follow _ _ s4).trans h4
  · exact h4

@[simp] theorem watch_dropForceDxd (s : State) :
    watch (dropForceDxd s) = watch s := by
  unfold dropForceDxd
  (repeat' split) <;> simp [-com_tsu, -com_dxd]

@[simp] theorem watch_showDxdState (s : State) :
    watch (showDxdState s) = watch s := by simp [showDxdState, unwatched, -com_tsu, -com_dxd]

@[simp] theorem watch_dxdReselect (s : State) :
    watch (dxdReselect s) = watch s := by simp [dxdReselect, unwatched, -com_tsu, -com_dxd]

@[simp] theorem watch_reselect (d : Dev) (s : State) :
    watch (reselect d s) = watch s := by cases d <;> simp [reselect, unwatched, -com_tsu, -com_dxd]

@[simp] theorem good_loadHt {P Q : Prop} (d : Dev) (lsb : Int) (s : State) (hs : Good P Q (watch s)) :
    Good P Q (watch (loadHt d lsb s)) := by
  have h0 : Good P Q (watch (modTk d (fun t => { (t.load lsb) with nco := 0, delta := 0 }) s)) :=
    good_modTk d _ s (fun t _ => htOk_addLsb _ lsb) hs
  cases d
  · unfold loadHt
    simpa [unwatched] using h0
  · unfold loadHt
    dsimp only
    (repeat' split) <;> simpa [loadHt.noRecord, unwatched] using h0

@[simp] theorem good_tickTime {P Q : Prop} (d : Dev) (s : State) (hs : Good P Q (watch s)) :
    Good P Q (watch (tickTime d s)) := good_modCom d _ s (fun c _ => htOk_addLsb c.tk _) hs

@[simp] theorem watch_portDown (d : Dev) (p : Nat) (reason : Nat) (s : State) :
    watch (portDown d p reason s) = watch s := by cases d <;> simp [portDown, unwatched, -com_tsu, -com_dxd]

@[simp] theorem watch_portIdle (d : Dev) (p : Nat) (s : State) :
    watch (portIdle d p s) = watch s := by cases d <;> simp [portIdle, unwatched, -com_tsu, -com_dxd]

@[simp] theorem watch_portControl (d : Dev) (p : Nat) (v : Word) (s : State) :
    watch (portControl d p v s) = watch s := by cases d <;> simp [portControl, unwatched, -com_tsu, -com_dxd]

@[simp] theorem watch_trainCount (d : Dev) (p : Nat) (f : TrainF) (s : State) :
    watch (trainCount d p f s) = watch s := by cases d <;> simp [trainCount, unwatched, -com_tsu, -com_dxd]

@[simp] theorem good_portEnable {P Q : Prop} (d : Dev) (rq : Nat) (p : Nat) (s : State) (hs : Good P Q (watch s)) :
    Good P Q (watch (portEnable d rq p s)) := by cases d <;> simp [portEnable, hs, unwatched, -com_tsu, -com_dxd]

@[simp] theorem good_portDisable {P Q : Prop} (d : Dev) (rq : Nat) (p : Nat) (s : State) (hs : Good P Q (watch s)) :
    Good P Q (watch (portDisable d rq p s)) := by cases d <;> simp [portDisable, hs, unwatched, -com_tsu, -com_dxd]

@[simp] theorem good_retrain {P Q : Prop} (d : Dev) (rq : Nat) (p : Nat) (v : Word) (s : State) (hs : Good P Q (watch s)) :
    Good P Q (watch (retrain d rq p v s)) := by cases d <;> simp [retrain, hs, unwatched, -com_tsu, -com_dxd]

@[simp] theorem watch_trainReceive (d : Dev) (p : Nat) (h : LinkHdr) (f : TrainF) (s : State) :
    watch (trainReceive d p h f s) = watch s := by cases d <;> simp [trainReceive, unwatched, -com_tsu, -com_dxd]

@[simp] theorem watch_calFail (d : Dev) (p : Nat) (s : State) :
    watch (calFail d p s) = watch s := by cases d <;> simp [calFail, unwatched, -com_tsu, -com_dxd]

@[simp] theorem watch_nakTimeout (d : Dev) (p : Nat) (s : State) :
    watch (nakTimeout d p s) = watch s := by cases d <;> simp [nakTimeout, unwatched, -com_tsu, -com_dxd]

@[simp] theorem watch_clearSplit (d : Dev) (p : Nat) (period : Nat) (s : State) :
    watch (clearSplit d p period s) = watch s := by cases d <;> simp [clearSplit, -com_tsu, -com_dxd]

@[simp] theorem watch_heartbeatSend (d : Dev) (p : Nat) (s : State) :
    watch (heartbeatSend d p s) = watch s := by cases d <;> simp [heartbeatSend, unwatched, -com_tsu, -com_dxd]

@[simp] theorem watch_heartbeatReceive (d : Dev) (p : Nat) (h : LinkHdr) (ep : Nat) (f : HeartbeatF) (s : State) :
    watch (heartbeatReceive d p h ep f s) = watch s := by cases d <;> simp [heartbeatReceive, unwatched, -com_tsu, -com_dxd]

@[simp] theorem watch_peerFailed (d : Dev) (p : Nat) (s : State) :
    watch (peerFailed d p s) = watch s := by cases d <;> simp [peerFailed, unwatched, -com_tsu, -com_dxd]

@[simp] theorem watch_portLoss (d : Dev) (p : Nat) (cause : LossCause) (s : State) :
    watch (portLoss d p cause s) = watch s := by
  unfold portLoss
  cases d <;> (repeat' split) <;> simp [unwatched, -com_tsu, -com_dxd]

@[simp] theorem watch_errorRate (d : Dev) (p : Nat) (s : State) :
    watch (errorRate d p s) = watch s := by cases d <;> simp [errorRate, unwatched, -com_tsu, -com_dxd]

@[simp] theorem watch_copyTime (d : Dev) (f : TimeF) (s : State) :
    watch (copyTime d f s) = watch s := by cases d <;> simp [copyTime, unwatched, -com_tsu, -com_dxd]

@[simp] theorem watch_coreDiff (diff : Int) (s : State) :
    watch (coreDiff diff s) = watch s := by
  unfold coreDiff
  dsimp only
  (repeat' split) <;> simp [-com_tsu, -com_dxd]

@[simp] theorem good_timeTsu {P Q : Prop} (p : Nat) (f : TimeF) (rx : Nat) (diff : Int) (s : State) (hs : Good P Q (watch s)) :
    Good P Q (watch (timeTsu p f rx diff s)) := by
  unfold timeTsu
  dsimp only
  (repeat' split) <;> simp [hs, unwatched, -com_tsu, -com_dxd]

@[simp] theorem watch_takeResidual (r : Int) (s : State) :
    watch (takeResidual r s) = watch s := by simp [takeResidual, unwatched, -com_tsu, -com_dxd]

@[simp] theorem watch_referenceSwitch (r : Int) (s : State) :
    watch (referenceSwitch r s) = watch s := by simp [referenceSwitch, unwatched, -com_tsu, -com_dxd]

theorem watch_modX (f : Dxd → Dxd) (s : State) (h : ∀ x, (f x).pt = x.pt) : watch (modX f s) = watch s := by
  simp only [watch_eq, watchOf, modX_tc, modX_dc, modX_x, h]

@[simp] theorem good_timeDxd {P Q : Prop} (p : Nat) (f : TimeF) (rx : Nat) (s : State) (hs : Good P Q (watch s)) :
    Good P Q (watch (timeDxd p f rx s)) := by
  have h0 (off : Int) : Good P Q (watch (modX (fun x => if (!sofStamped .dxd p s) = true then x else
      if p = parentPort s then { x with ownOff := some off } else if p = twinPort s then { x with twinOff := some off } else x) s)) := by
    rw [watch_modX]
    · exact hs
    · intro x; (repeat' split) <;> rfl
  unfold timeDxd
  dsimp only
  have := h0 (timeOffset .dxd p f rx s)
  generalize modX _ s = s0 at *
  (repeat' split) <;> simp [unwatched, *, -com_tsu, -com_dxd]

@[simp] theorem good_timeReceive {P Q : Prop} (d : Dev) (p : Nat) (h : LinkHdr) (f : TimeF) (rx : Nat) (diff : Int) (s : State) (hs : Good P Q (watch s)) :
    Good P Q (watch (timeReceive d p h f rx diff s)) := by
  unfold timeReceive
  dsimp only
  cases d <;> (repeat' split) <;> simp [hs, unwatched, -com_tsu, -com_dxd]

@[simp] theorem watch_enterLocked (d : Dev) (c : Nat) (s : State) :
    watch (enterLocked d c s) = watch s := by cases d <;> simp [enterLocked, unwatched, -com_tsu, -com_dxd]

@[simp] theorem watch_leaveLocked (d : Dev) (c : Nat) (s : State) :
    watch (leaveLocked d c s) = watch s := by cases d <;> simp [leaveLocked, unwatched, -com_tsu, -com_dxd]

@[simp] theorem watch_coreSplit (s : State) :
    watch (coreSplit s) = watch s := by simp [coreSplit, unwatched, -com_tsu, -com_dxd]

@[simp] theorem watch_keeperReversion (s : State) :
    watch (keeperReversion s) = watch s := by simp [keeperReversion, unwatched, -com_tsu, -com_dxd]

@[simp] theorem watch_keeperCtl (d : Dev) (v : Word) (s : State) :
    watch (keeperCtl d v s) = watch s := by cases d <;> simp [keeperCtl, unwatched, -com_tsu, -com_dxd]

@[simp] theorem good_keeperForce {P Q : Prop} (d : Dev) (rq : Nat) (v : Word) (s : State) (hs : Good P Q (watch s)) :
    Good P Q (watch (keeperForce d rq v s)) := by cases d <;> simp [keeperForce, hs, unwatched, -com_tsu, -com_dxd]

@[simp] theorem watch_becomeTraceable (s : State) :
    watch (becomeTraceable s) = watch s := by simp [becomeTraceable, unwatched, -com_tsu, -com_dxd]

@[simp] theorem watch_pullComplete (d : Dev) (s : State) :
    watch (pullComplete d s) = watch s := by cases d <;> simp [pullComplete, unwatched, -com_tsu, -com_dxd]

@[simp] theorem watch_takeSnap (d : Dev) (rq : Nat) (s : State) :
    watch (takeSnap d rq s) = watch s := by cases d <;> simp [takeSnap, -com_tsu, -com_dxd]

@[simp] theorem good_nowSecRead {P Q : Prop} (d : Dev) (rq : Nat) (s : State) (hs : Good P Q (watch s)) :
    Good P Q (watch (nowSecRead d rq s)) := by cases d <;> simp [nowSecRead, hs, unwatched, -com_tsu, -com_dxd]

@[simp] theorem watch_originStepTo (target : Nat) (s : State) : watch (originStepTo target s) = watch s := by
  simp [originStepTo, pendStep, unwatched, -com_tsu, -com_dxd]

@[simp] theorem watch_originSetWrite (v : Word) (s : State) :
    watch (originSetWrite v s) = watch s := by simp [originSetWrite, unwatched, -com_tsu, -com_dxd]

@[simp] theorem good_tkOriginSet {P Q : Prop} (rq : Nat) (v : Word) (s : State) (hs : Good P Q (watch s)) :
    Good P Q (watch (tkOriginSet rq v s)) := by simp [tkOriginSet, hs, unwatched, -com_tsu, -com_dxd]

@[simp] theorem watch_qualified (n : Nat) (s : State) :
    watch (qualified n s) = watch s := by simp [qualified, unwatched, -com_tsu, -com_dxd]

@[simp] theorem watch_lost (n : Nat) (s : State) :
    watch (lost n s) = watch s := by simp [lost, -com_tsu, -com_dxd]

@[simp] theorem good_rootLoad {P Q : Prop} (traceable : Bool) (lsb : Int) (s : State) (hs : Good P Q (watch s)) :
    Good P Q (watch (rootLoad traceable lsb s)) := by simp [rootLoad, hs, unwatched, -com_tsu, -com_dxd]

@[simp] theorem watch_originCheck (total : Int) (s : State) :
    watch (originCheck total s) = watch s := by simp [originCheck, unwatched, -com_tsu, -com_dxd]

@[simp] theorem watch_firstSample (r : Int) (total : Int) (s : State) :
    watch (firstSample r total s) = watch s := by simp [firstSample, unwatched, -com_tsu, -com_dxd]

@[simp] theorem watch_sampleInput (n : Nat) (stamp : Nat) (s : State) :
    watch (sampleInput n stamp s) = watch s := by simp [sampleInput, unwatched, -com_tsu, -com_dxd]

@[simp] theorem watch_sampleLocal (s : State) :
    watch (sampleLocal s) = watch s := by simp [sampleLocal, unwatched, -com_tsu, -com_dxd]

@[simp] theorem good_referenceSample {P Q : Prop} (stamp : Nat) (s : State) (hs : Good P Q (watch s)) :
    Good P Q (watch (referenceSample stamp s)) := by
  have h1 : Good P Q (watch (dxdReselect s)) := by simpa using hs
  unfold referenceSample
  dsimp only
  generalize dxdReselect s = u at h1 ⊢
  split
  · exact hs
  · (repeat' split) <;> simp [h1, -watch]

@[simp] theorem good_ppsEdge {P Q : Prop} (n : Nat) (stamp : Nat) (stamp10 : Nat) (s : State) (hs : Good P Q (watch s)) :
    Good P Q (watch (ppsEdge n stamp stamp10 s)) := by
  unfold ppsEdge
  dsimp only
  (repeat' split) <;> simp [hs, unwatched, -com_tsu, -com_dxd]

@[simp] theorem watch_ppsWindowEnd (n : Nat) (s : State) :
    watch (ppsWindowEnd n s) = watch s := by simp [ppsWindowEnd, unwatched, -com_tsu, -com_dxd]

@[simp] theorem watch_judgeFit (ppt : Option Int) (n : Nat) (s : State) :
    watch (judgeFit ppt n s) = watch s := by simp [judgeFit, unwatched, -com_tsu, -com_dxd]

@[simp] theorem watch_fitComplete (n : Nat) (s : State) :
    watch (fitComplete n s) = watch s := by
  unfold fitComplete
  dsimp only
  (repeat' split) <;> simp [unwatched, -com_tsu, -com_dxd]

@[simp] theorem watch_loseEdges (n : Nat) (s : State) :
    watch (loseEdges n s) = watch s := by simp [loseEdges, unwatched, -com_tsu, -com_dxd]

@[simp] theorem watch_edgeLoss (n : Nat) (s : State) :
    watch (edgeLoss n s) = watch s := by simp [edgeLoss, unwatched, -com_tsu, -com_dxd]

@[simp] theorem watch_inputsPresent (n : Nat) (s : State) :
    watch (inputsPresent n s) = watch s := by simp [inputsPresent, unwatched, -com_tsu, -com_dxd]

@[simp] theorem watch_rfSel (v : Word) (s : State) :
    watch (rfSel v s) = watch s := by simp [rfSel, unwatched, -com_tsu, -com_dxd]

@[simp] theorem good_rfSelWrite {P Q : Prop} (rq : Nat) (v : Word) (s : State) (hs : Good P Q (watch s)) :
    Good P Q (watch (rfSelWrite rq v s)) := by simp [rfSelWrite, hs, unwatched, -com_tsu, -com_dxd]

@[simp] theorem watch_svCtl (v : Word) (s : State) :
    watch (svCtl v s) = watch s := by simp [svCtl, unwatched, -com_tsu, -com_dxd]

@[simp] theorem good_svSave {P Q : Prop} (rq : Nat) (v : Word) (s : State) (hs : Good P Q (watch s)) :
    Good P Q (watch (svSave rq v s)) := by simp [svSave, hs, unwatched, -com_tsu, -com_dxd]

@[simp] theorem good_svForceHoldover {P Q : Prop} (rq : Nat) (v : Word) (s : State) (hs : Good P Q (watch s)) :
    Good P Q (watch (svForceHoldover rq v s)) := by simp [svForceHoldover, hs, unwatched, -com_tsu, -com_dxd]

@[simp] theorem good_oscLoss {P Q : Prop} (s : State) (hs : Good P Q (watch s)) :
    Good P Q (watch (oscLoss s)) := by
  have h0 : ∀ u, Good P Q (watch u) → Good P Q (watch (modTk .dxd (fun t => { t with
      htValid := false, r := 0, rPart := 0, pulling := false, freqOnly := false, stepPend := none, originSet := none,
      stepped := none, sec := 0, ns := 0, frac := 0, nco := 0 }) u)) :=
    fun u hu => good_modTk .dxd _ u (fun t _ => by simp [HtOk]) hu
  unfold oscLoss
  split
  · exact hs
  · simp [h0, hs, unwatched, -com_tsu, -com_dxd]

@[simp] theorem watch_oscReturn (s : State) :
    watch (oscReturn s) = watch s := by simp [oscReturn, unwatched, -com_tsu, -com_dxd]

end Sys2Proof.Machine
end

section
/-!
PROOFS. The 1588 port: a port takes a master only where it does not listen, and gives it up where it goes back (R113, R136, R142).
-/

namespace Sys2Proof.Machine

/-- A change of one 1588 port's state and master. -/
def Watch.modInst (inst : Nat) (g : Nat × Option PtpMsg → Nat × Option PtpMsg) (w : Watch) : Watch :=
  if inst = 1 then { w with i1 := g w.i1 } else { w with i2 := g w.i2 }

theorem Watch.modInst_modInst (inst : Nat) (g h : Nat × Option PtpMsg → Nat × Option PtpMsg) (w : Watch) :
    (w.modInst inst g).modInst inst h = w.modInst inst (fun i => h (g i)) := by
  unfold Watch.modInst
  split <;> rfl

theorem good_watchModInst {P Q : Prop} (inst : Nat) (g : Nat × Option PtpMsg → Nat × Option PtpMsg) (s : State)
    (hg : Listens (masterOf (ptpInst inst s)) → Listens (g (masterOf (ptpInst inst s)))) (hs : Good P Q (watch s)) :
    Good P Q ((watch s).modInst inst g) := by
  obtain ⟨ht, hp⟩ := hs
  unfold Watch.modInst
  unfold ptpInst at hg
  split at hg
  case isTrue h => exact if_pos h ▸ ⟨ht, fun hb => ⟨hg (hp hb).1, (hp hb).2⟩⟩
  case isFalse h => exact if_neg h ▸ ⟨ht, fun hb => ⟨(hp hb).1, hg (hp hb).2⟩⟩

theorem watch_modInst_eq (inst : Nat) (f : PtpInst → PtpInst) (g : Nat × Option PtpMsg → Nat × Option PtpMsg) (s : State)
    (h : ∀ i, masterOf (f i) = g (masterOf i)) : watch (modInst inst f s) = (watch s).modInst inst g := by
  rw [watch_eq, watch_eq]
  unfold Watch.modInst modInst
  split <;> simp [watchOf, h]

@[simp] theorem watch_modInst (inst : Nat) (f : PtpInst → PtpInst) (s : State)
    (h : ∀ i, (f i).state = i.state ∧ (f i).ann = i.ann) : watch (modInst inst f s) = watch s := by
  rw [watch_modInst_eq inst f id s (fun i => by simp [masterOf, h])]
  unfold Watch.modInst
  split <;> rfl

/-- portState alone changes; leaving SLAVE touches no master (R113, R142). -/
theorem watch_ptpState (inst n : Nat) (s : State) :
    watch (ptpState inst n s) = (watch s).modInst inst (fun i => (n, i.2)) := by
  unfold ptpState
  dsimp only
  split
  case isTrue h =>
    rw [watch_eq]
    unfold Watch.modInst
    split <;> simp_all [watchOf, masterOf, ptpInst]
  case isFalse =>
    rw [← watch_modInst_eq inst (fun i => { i with state := n, slaveFrom := s.dc.up, slaveSecs := 0 }) _ s (fun _ => rfl)]
    split <;> simp [unwatched]

theorem good_ptpState {P Q : Prop} (inst n : Nat) (s : State) (hn : n ≠ 1 ∧ n ≠ 4) (hs : Good P Q (watch s)) :
    Good P Q (watch (ptpState inst n s)) := by
  rw [watch_ptpState]
  exact good_watchModInst _ _ _ (fun _ h => by simp [hn] at h) hs

/-- A port that takes a master in INITIALIZING or LISTENING goes on to UNCALIBRATED (R136). -/
theorem good_of_announced {P Q : Prop} (inst : Nat) (m : PtpMsg) (s u : State) (hs : Good P Q (watch s))
    (hu : watch u = (watch s).modInst inst (fun i => (i.1, some m))) :
    Good P Q (watch (if (ptpInst inst s).state = stInit ∨ (ptpInst inst s).state = stListening then
      ptpState inst stUncal u else u)) := by
  split
  case isTrue =>
    rw [watch_ptpState, hu, Watch.modInst_modInst]
    exact good_watchModInst _ _ _ (fun _ h => by simp [stUncal] at h) hs
  case isFalse h =>
    rw [hu]
    exact good_watchModInst _ _ _ (fun _ h1 => absurd h1 h) hs

@[simp] theorem good_ptpAnnounce {P Q : Prop} (inst : Nat) (m : PtpMsg) (s : State) (hs : Good P Q (watch s)) :
    Good P Q (watch (ptpAnnounce inst m s)) := by
  unfold ptpAnnounce
  refine good_choice _ hs (good_of_announced inst m s _ hs ?_)
  split
  · have hh : ∀ u, watch (history 14 u) = watch u := fun u => by simp [unwatched]
    rw [hh, watch_lost]
    exact watch_modInst_eq _ _ _ _ (fun _ => rfl)
  · exact watch_modInst_eq _ _ _ _ (fun _ => rfl)

@[simp] theorem good_ptpSample {P Q : Prop} (off : Int) (s : State) (hs : Good P Q (watch s)) :
    Good P Q (watch (ptpSample off s)) := by
  unfold ptpSample
  (repeat' split) <;> simp [hs, unwatched, -com_tsu, -com_dxd]

theorem masters_choice {c : PtpInst → Prop} [DecidablePred c] {f g : PtpInst → PtpInst} (inst : Nat) (s : State)
    (hf : ∀ i, (f i).state = i.state ∧ (f i).ann = i.ann) (hg : ∀ i, (g i).state = i.state ∧ (g i).ann = i.ann) :
    watch (modInst inst (fun i => if c i then f i else g i) s) = watch s :=
  watch_modInst _ _ _ (fun i => by by_cases hc : c i <;> simp [hc, hf, hg])

/-- A Sync in SLAVE counts seconds and may qualify the PTP source; states and masters stay (R112). -/
@[simp] theorem watch_slaveSecond (inst : Nat) (s : State) : watch (slaveSecond inst s) = watch s := by
  have hbegin : ∀ u, watch (beginQualify 2 u) = watch u := fun u => by simp [unwatched]
  unfold slaveSecond
  split
  · exact masters_choice inst s (fun _ => ⟨rfl, rfl⟩) (fun _ => ⟨rfl, rfl⟩)
  · dsimp only
    split
    · rw [watch_qualified, hbegin]
      exact masters_choice inst s (fun _ => ⟨rfl, rfl⟩) (fun _ => ⟨rfl, rfl⟩)
    · rw [hbegin]
      exact masters_choice inst s (fun _ => ⟨rfl, rfl⟩) (fun _ => ⟨rfl, rfl⟩)

@[simp] theorem good_ptpSync {P Q : Prop} (inst : Nat) (t1 t2 : Int) (s : State) (hs : Good P Q (watch s)) :
    Good P Q (watch (ptpSync inst t1 t2 s)) := by
  have hslave : ∀ u, Good P Q (watch u) → Good P Q (watch (if (ptpInst inst s).state = stUncal then
      ptpState inst stSlave u else u)) := fun u hu => good_choice _ (good_ptpState inst stSlave u (by decide) hu) hu
  have hoff : ∀ u, watch (modInst inst (fun i => { i with
      t1 := t1, t2 := t2, waitFu := none, offset := t2 - t1 - (ptpInst inst s).meanPath }) u) = watch u :=
    fun u => watch_modInst _ _ _ (fun _ => ⟨rfl, rfl⟩)
  have hfirst : Good P Q (watch (if inst = 1 ∧ s.dc.coreA.fit ∧ s.x.hold.syncFirst.isNone then
      modHold (fun h => { h with syncFirst := some (t1, t2, s.dc.up) }) s else s)) :=
    good_choice _ (by simpa [unwatched] using hs) hs
  have h2 := hslave _ (by rw [hoff]; exact hfirst)
  unfold ptpSync
  refine good_choice _ (good_choice _ ?_ ?_) h2
  · exact good_ptpSample _ _ (by rw [watch_slaveSecond]; exact h2)
  · rw [watch_slaveSecond]
    exact h2

@[simp] theorem watch_ptpPath (inst : Nat) (d2 : Int) (s : State) : watch (ptpPath inst d2 s) = watch s :=
  watch_modInst inst (fun i => { i with meanPath := d2 / 2 }) s (fun _ => ⟨rfl, rfl⟩)

@[simp] theorem good_ptpHandle {P Q : Prop} (inst : Nat) (role : Nat) (m : PtpMsg) (stamp : Nat) (s : State) (hs : Good P Q (watch s)) :
    Good P Q (watch (ptpHandle inst role m stamp s)) := by
  unfold ptpHandle
  dsimp only
  (repeat' split) <;> simp [hs, unwatched, -com_tsu, -com_dxd]

@[simp] theorem good_ptpReceive {P Q : Prop} (inst : Nat) (m : PtpMsg) (stamp : Nat) (s : State) (hs : Good P Q (watch s)) :
    Good P Q (watch (ptpReceive inst m stamp s)) := by simp [ptpReceive, hs, -com_tsu, -com_dxd]

@[simp] theorem watch_txCheck (t : Int) (stamp : Int) (s : State) :
    watch (txCheck t stamp s) = watch s := by simp [txCheck, -com_tsu, -com_dxd]

@[simp] theorem watch_ptpSend (inst : Nat) (m : PtpMsg) (t : Nat) (stamp : Nat) (s : State) :
    watch (ptpSend inst m t stamp s) = watch s := by
  unfold ptpSend
  (repeat' split) <;> simp [-com_tsu, -com_dxd]

@[simp] theorem good_ptpTransmit {P Q : Prop} (inst : Nat) (m : PtpMsg) (t stamp : Nat) (s : State)
    (hs : Good P Q (watch s)) : Good P Q (watch (ptpTransmit inst m t stamp s)) := by
  unfold ptpTransmit
  refine good_choice _ ?_ hs
  rw [watch_ptpSend]
  refine good_choice _ (good_ptpState _ _ _ (by decide) hs) ?_
  split
  case isTrue h =>
    rw [watch_ptpState]
    exact good_watchModInst _ _ _ (fun hl _ => hl (.inl h.2)) hs
  case isFalse => exact hs

@[simp] theorem good_ptpTimeout {P Q : Prop} (s : State) (hs : Good P Q (watch s)) :
    Good P Q (watch (ptpTimeout s)) := by
  unfold ptpTimeout
  refine good_choice _ hs (good_choice _ ?_ (good_choice _ ?_ hs))
  · rw [watch_ptpState, watch_modInst_eq 1 _ (fun i => (i.1, none)) _ (fun _ => rfl), Watch.modInst_modInst]
    exact good_watchModInst _ _ _ (fun _ _ => rfl) hs
  · simpa using hs

@[simp] theorem good_ptpRestart {P Q : Prop} (inst : Nat) (s : State) (hs : Good P Q (watch s)) :
    Good P Q (watch (ptpRestart inst s)) := by
  unfold ptpRestart
  rw [watch_modInst_eq inst _ (fun i => (i.1, none)) _ (fun _ => rfl), watch_ptpState, Watch.modInst_modInst]
  exact good_watchModInst _ _ _ (fun _ _ => rfl) hs

@[simp] theorem good_ptCtl {P Q : Prop} (v : Word) (s : State) (hs : Good P Q (watch s)) :
    Good P Q (watch (ptCtl v s)) := by
  have hset : ∀ mask, Good P Q (watch (setReg .dxd 0x12100 mask v s)) := fun mask => by simpa [unwatched] using hs
  have hone : ∀ (c : Bool) inst u, Good P Q (watch u) → Good P Q (watch (if c then ptpRestart inst u else u)) :=
    fun c inst u hu => good_choice _ (good_ptpRestart inst u hu) hu
  unfold ptCtl
  exact good_choice _ hs (hone _ 2 _ (hone _ 1 _ (hset _)))

@[simp] theorem good_ptCtlWrite {P Q : Prop} (rq : Nat) (v : Word) (s : State) (hs : Good P Q (watch s)) :
    Good P Q (watch (ptCtlWrite rq v s)) := good_admitWrite .dxd _ s (good_ptCtl v) hs rq _ _ v

@[simp] theorem good_ptPathRead {P Q : Prop} (rq : Nat) (s : State) (hs : Good P Q (watch s)) :
    Good P Q (watch (ptPathRead rq s)) := by simp [ptPathRead, hs, unwatched, -com_tsu, -com_dxd]

@[simp] theorem watch_ptpLink (up : Bool) (s : State) :
    watch (ptpLink up s) = watch s := by simp [ptpLink, unwatched, -com_tsu, -com_dxd]

end Sys2Proof.Machine
end

section
/-!
PROOFS. Failures of a TSU, bays, cells, the grant clock and the cueing unit keep the watched values.
-/

namespace Sys2Proof.Machine

@[simp] theorem watch_enterSideline (s : State) :
    watch (enterSideline s) = watch s := by simp [enterSideline, unwatched, -com_tsu, -com_dxd]

@[simp] theorem watch_ownFailure (s : State) :
    watch (ownFailure s) = watch s := by simp [ownFailure, unwatched, -com_tsu, -com_dxd]

@[simp] theorem watch_bayDies (b : Nat) (s : State) :
    watch (bayDies b s) = watch s := by
  unfold bayDies
  (repeat' split) <;> simp [unwatched, -com_tsu, -com_dxd]

@[simp] theorem watch_incGateEnd (b : Nat) (s : State) :
    watch (incGateEnd b s) = watch s := by
  unfold incGateEnd
  dsimp only
  (repeat' split) <;> simp [unwatched, -com_tsu, -com_dxd]

@[simp] theorem watch_bayNoEdge (b : Nat) (s : State) :
    watch (bayNoEdge b s) = watch s := by simp [bayNoEdge, unwatched, -com_tsu, -com_dxd]

@[simp] theorem watch_changeTimeout (b : Nat) (s : State) :
    watch (changeTimeout b s) = watch s := by simp [changeTimeout, unwatched, -com_tsu, -com_dxd]

@[simp] theorem watch_threadFault (th : Thread) (code : Nat) (word : Nat) (pc : Nat) (s : State) :
    watch (threadFault th code word pc s) = watch s := by simp [threadFault, unwatched, -com_tsu, -com_dxd]

@[simp] theorem watch_waitFault (th : Thread) (code : Nat) (s : State) :
    watch (waitFault th code s) = watch s := by simp [waitFault, unwatched, -com_tsu, -com_dxd]

@[simp] theorem watch_applyCell (c : Nat) (x : Option Cell) (s : State) :
    watch (applyCell c x s) = watch s := by
  unfold applyCell
  (repeat' split) <;> simp [unwatched, -com_tsu, -com_dxd]

@[simp] theorem watch_cellAdd (c : Nat) (d : Int) (s : State) :
    watch (cellAdd c d s) = watch s := by simp [cellAdd, unwatched, -com_tsu, -com_dxd]

@[simp] theorem watch_cellPostt (c : Nat) (r : Nat) (s : State) :
    watch (cellPostt c r s) = watch s := by simp [cellPostt, unwatched, -com_tsu, -com_dxd]

@[simp] theorem watch_cellReset (c : Nat) (s : State) :
    watch (cellReset c s) = watch s := by simp [cellReset, unwatched, -com_tsu, -com_dxd]

@[simp] theorem watch_cellRegister (c : Nat) (r : Nat) (need : Nat) (o : WOwner) (s : State) :
    watch (cellRegister c r need o s) = watch s := by simp [cellRegister, unwatched, -com_tsu, -com_dxd]

@[simp] theorem watch_cellWait (rq : Nat) (c : Nat) (r : Nat) (need : Nat) (s : State) :
    watch (cellWait rq c r need s) = watch s := by simp [cellWait, unwatched, -com_tsu, -com_dxd]

@[simp] theorem watch_actPost (v : PostV) (p : RPost) (s : State) :
    watch (actPost v p s) = watch s := by
  unfold actPost
  (repeat' split) <;> simp [unwatched, -com_tsu, -com_dxd]

@[simp] theorem watch_recheck (n : Nat) (s : State) : watch (recheck n s) = watch s := by
  induction n generalizing s with
  | zero => rfl
  | succ n ih =>
    unfold recheck
    split
    · rfl
    · rw [ih, watch_actPost]
      simp [unwatched]

@[simp] theorem watch_takePost (h : HeldPost) (s : State) :
    watch (takePost h s) = watch s := by simp [takePost, unwatched, -com_tsu, -com_dxd]

@[simp] theorem watch_drainPort (n : Nat) (s : State) : watch (drainPort n s) = watch s := by
  induction n generalizing s with
  | zero => rfl
  | succ n ih =>
    unfold drainPort
    split
    · split
      · rfl
      · rw [ih, watch_takePost]
        simp [unwatched]
    · rfl

@[simp] theorem watch_recheckAll (s : State) :
    watch (recheckAll s) = watch s := by simp [recheckAll, unwatched, -com_tsu, -com_dxd]

@[simp] theorem watch_streamArrive (st : Nat) (tag : Nat) (s : State) :
    watch (streamArrive st tag s) = watch s := by simp [streamArrive, unwatched, -com_tsu, -com_dxd]

@[simp] theorem watch_cwaitLater (th : Thread) (c : Nat) (r : Nat) (need : Nat) (s : State) :
    watch (cwaitLater th c r need s) = watch s := by simp [cwaitLater, unwatched, -com_tsu, -com_dxd]

@[simp] theorem watch_applyReq (q : CellReq) (s : State) :
    watch (applyReq q s) = watch s := by
  unfold applyReq
  (repeat' split) <;> simp [unwatched, -com_tsu, -com_dxd]

@[simp] theorem watch_windowDo (q : CellReq) (s : State) :
    watch (windowDo q s) = watch s := by simp [windowDo, unwatched, -com_tsu, -com_dxd]

@[simp] theorem watch_releaseReqs (s : State) :
    watch (releaseReqs s) = watch s := by simp [releaseReqs, unwatched, -com_tsu, -com_dxd]

@[simp] theorem watch_cellCommand (c : Nat) (ok : Bool) (q : CellReq) (s : State) :
    watch (cellCommand c ok q s) = watch s := by simp [cellCommand, unwatched, -com_tsu, -com_dxd]

@[simp] theorem watch_windowOther (rq : Nat) (off : Nat) (bytes : Nat) (wr : Bool) (v : Word) (s : State) :
    watch (windowOther rq off bytes wr v s) = watch s := by simp [windowOther, unwatched, -com_tsu, -com_dxd]

@[simp] theorem watch_dmaPost (c : Nat) (n : Nat) (targeted : Bool) (r : Nat) (streamEn : Bool) (st : Nat) (s : State) :
    watch (dmaPost c n targeted r streamEn st s) = watch s := by simp [dmaPost, unwatched, -com_tsu, -com_dxd]

@[simp] theorem watch_remoteReceive (l : List Byte) (s : State) :
    watch (remoteReceive l s) = watch s := by simp [remoteReceive, unwatched, -com_tsu, -com_dxd]

@[simp] theorem watch_arrivalReport (st : Nat) (tag : Nat) (s : State) :
    watch (arrivalReport st tag s) = watch s := by simp [arrivalReport, unwatched, -com_tsu, -com_dxd]

@[simp] theorem watch_orphanPost (s : State) :
    watch (orphanPost s) = watch s := by simp [orphanPost, unwatched, -com_tsu, -com_dxd]

@[simp] theorem watch_ctxDone (img : List CtxCell) (s : State) :
    watch (ctxDone img s) = watch s := by simp [ctxDone, unwatched, -com_tsu, -com_dxd]

@[simp] theorem watch_darkFailure (s : State) :
    watch (darkFailure s) = watch s := by simp [darkFailure, unwatched, -com_tsu, -com_dxd]

@[simp] theorem watch_losePhase (p : Nat) (s : State) :
    watch (losePhase p s) = watch s := by simp [losePhase, unwatched, -com_tsu, -com_dxd]

@[simp] theorem watch_losePhases (s : State) :
    watch (losePhases s) = watch s := by simp [losePhases, unwatched, -com_tsu, -com_dxd]

@[simp] theorem watch_grantTick (droop : Bool) (vsense : Nat) (phases : Nat) (s : State) :
    watch (grantTick droop vsense phases s) = watch s := by simp [grantTick, unwatched, -com_tsu, -com_dxd]

@[simp] theorem watch_pokeHawait (s : State) :
    watch (pokeHawait s) = watch s := by
  unfold pokeHawait
  (repeat' split) <;> simp [unwatched, -com_tsu, -com_dxd]

@[simp] theorem watch_applyHeld (s : State) (x : Thread × HeldEv) :
    watch (applyHeld s x) = watch s := by
  unfold applyHeld
  (repeat' split) <;> simp [unwatched, -com_tsu, -com_dxd]

@[simp] theorem watch_releaseThreads (s : State) :
    watch (releaseThreads s) = watch s := by simp [releaseThreads, unwatched, -com_tsu, -com_dxd]

@[simp] theorem watch_pokeThreads (s : State) :
    watch (pokeThreads s) = watch s := by simp [pokeThreads, unwatched, -com_tsu, -com_dxd]

@[simp] theorem watch_bistIsolate (s : State) :
    watch (bistIsolate s) = watch s := by
  unfold bistIsolate
  (repeat' split) <;> simp [unwatched, -com_tsu, -com_dxd]

@[simp] theorem watch_bistMismatch (s : State) :
    watch (bistMismatch s) = watch s := by simp [bistMismatch, unwatched, -com_tsu, -com_dxd]

@[simp] theorem watch_bistLatch (outs : List Word) (s : State) :
    watch (bistLatch outs s) = watch s := by
  unfold bistLatch
  (repeat' split) <;> simp [unwatched, -com_tsu, -com_dxd]

@[simp] theorem watch_restoreCore (c : Nat) (mismatch : Bool) (s : State) :
    watch (restoreCore c mismatch s) = watch s := by simp [restoreCore, unwatched, -com_tsu, -com_dxd]

@[simp] theorem watch_bistRestore (s : State) :
    watch (bistRestore s) = watch s := by
  unfold bistRestore
  (repeat' split) <;> simp [unwatched, -com_tsu, -com_dxd]

@[simp] theorem watch_releaseUnits (w : SliceWin) (s : State) :
    watch (releaseUnits w s) = watch s := by simp [releaseUnits, unwatched, -com_tsu, -com_dxd]

@[simp] theorem watch_releaseSlice (outcome : Nat) (reason : Nat) (s : State) :
    watch (releaseSlice outcome reason s) = watch s := by
  unfold releaseSlice
  (repeat' split) <;> simp [unwatched, -com_tsu, -com_dxd]

@[simp] theorem watch_bistTwinLost (s : State) :
    watch (bistTwinLost s) = watch s := by
  unfold bistTwinLost
  (repeat' split) <;> simp [unwatched, -com_tsu, -com_dxd]

@[simp] theorem watch_cueFault (th : Thread) (code : Nat) (s : State) :
    watch (cueFault th code s) = watch s := by simp [cueFault, unwatched, -com_tsu, -com_dxd]

@[simp] theorem watch_issue (ops : Nat → Bool) (body : Cue → State → State) (th : Thread) (e : Ecc) (s : State)
    (hf : ∀ c s, watch (body c s) = watch s) : watch (issue ops body th e s) = watch s := by
  unfold issue
  dsimp only
  (repeat' split) <;> simp [hf, unwatched, -com_tsu, -com_dxd]

@[simp] theorem watch_doneBody (th : Thread) (c : Cue) (s : State) :
    watch (doneBody th c s) = watch s := by
  unfold doneBody
  (repeat' split) <;> simp [unwatched, -com_tsu, -com_dxd]

@[simp] theorem watch_waitkBody (th : Thread) (c : Cue) (s : State) :
    watch (waitkBody th c s) = watch s := by
  unfold waitkBody
  (repeat' split) <;> simp [unwatched, -com_tsu, -com_dxd]

@[simp] theorem watch_waitnBody (th : Thread) (c : Cue) (s : State) :
    watch (waitnBody th c s) = watch s := by
  unfold waitnBody
  (repeat' split) <;> simp [unwatched, -com_tsu, -com_dxd]

@[simp] theorem watch_waitrBody (th : Thread) (c : Cue) (s : State) :
    watch (waitrBody th c s) = watch s := by
  unfold waitrBody
  (repeat' split) <;> simp [unwatched, -com_tsu, -com_dxd]

@[simp] theorem watch_hentBody (th : Thread) (c : Cue) (s : State) :
    watch (hentBody th c s) = watch s := by
  unfold hentBody
  (repeat' split) <;> simp [unwatched, -com_tsu, -com_dxd]

@[simp] theorem watch_hawaitBody (th : Thread) (c : Cue) (s : State) :
    watch (hawaitBody th c s) = watch s := by
  unfold hawaitBody
  (repeat' split) <;> simp [unwatched, -com_tsu, -com_dxd]

@[simp] theorem watch_postBody (th : Thread) (c : Cue) (s : State) :
    watch (postBody th c s) = watch s := by
  unfold postBody
  (repeat' split) <;> simp [unwatched, -com_tsu, -com_dxd]

@[simp] theorem watch_posttBody (th : Thread) (c : Cue) (s : State) :
    watch (posttBody th c s) = watch s := by
  unfold posttBody
  (repeat' split) <;> simp [unwatched, -com_tsu, -com_dxd]

@[simp] theorem watch_cwaitBody (th : Thread) (c : Cue) (s : State) :
    watch (cwaitBody th c s) = watch s := by
  unfold cwaitBody
  (repeat' split) <;> simp [unwatched, -com_tsu, -com_dxd]

@[simp] theorem watch_cresetBody (th : Thread) (c : Cue) (s : State) :
    watch (cresetBody th c s) = watch s := by
  unfold cresetBody
  (repeat' split) <;> simp [unwatched, -com_tsu, -com_dxd]

@[simp] theorem watch_resvBody (th : Thread) (c : Cue) (s : State) :
    watch (resvBody th c s) = watch s := by
  unfold resvBody
  (repeat' split) <;> simp [unwatched, -com_tsu, -com_dxd]

@[simp] theorem watch_relsBody (th : Thread) (c : Cue) (s : State) :
    watch (relsBody th c s) = watch s := by
  unfold relsBody
  (repeat' split) <;> simp [unwatched, -com_tsu, -com_dxd]

@[simp] theorem watch_baypBody (th : Thread) (c : Cue) (s : State) :
    watch (baypBody th c s) = watch s := by
  unfold baypBody
  (repeat' split) <;> simp [unwatched, -com_tsu, -com_dxd]

@[simp] theorem watch_bistBody (th : Thread) (c : Cue) (s : State) :
    watch (bistBody th c s) = watch s := by
  unfold bistBody
  dsimp only
  (repeat' split) <;> simp [unwatched, -com_tsu, -com_dxd]

@[simp] theorem watch_probeBody (th : Thread) (c : Cue) (s : State) :
    watch (probeBody th c s) = watch s := by
  unfold probeBody
  (repeat' split) <;> simp [unwatched, -com_tsu, -com_dxd]

@[simp] theorem watch_getBody (th : Thread) (c : Cue) (s : State) :
    watch (getBody th c s) = watch s := by
  unfold getBody
  (repeat' split) <;> simp [unwatched, -com_tsu, -com_dxd]

@[simp] theorem watch_cuStop (s : State) :
    watch (cuStop s) = watch s := by simp [cuStop, unwatched, -com_tsu, -com_dxd]

@[simp] theorem watch_cuCtlWrite (v : Word) (s : State) :
    watch (cuCtlWrite v s) = watch s := by simp [cuCtlWrite, unwatched, -com_tsu, -com_dxd]

@[simp] theorem watch_stepTarget (th : Thread) (s : State) :
    watch (stepTarget th s) = watch s := by
  unfold stepTarget
  (repeat' split) <;> simp [unwatched, -com_tsu, -com_dxd]

end Sys2Proof.Machine
end

section
/-!
PROOFS. The origin step moves the second within its range (R73); trees, kickoffs and membership keep the watched values.
-/

namespace Sys2Proof.Machine

/-- The second moves modulo 2^48, the rest of HT stays (R73). -/
theorem htOk_moveSecond (dlt : Int) (t : Time) (h : HtOk t) : HtOk (moveSecond dlt t) := by
  obtain ⟨-, hns, hfrac⟩ := h
  have hsec : ux 48 ((t.sec : Int) + dlt) < 2 ^ 48 := by
    unfold ux
    omega
  unfold moveSecond
  dsimp only
  split <;> exact ⟨hsec, hns, hfrac⟩

@[simp] theorem good_originStep {P Q : Prop} (d : Dev) (s : State) (hs : Good P Q (watch s)) :
    Good P Q (watch (originStep d s)) := by
  have hsecond : ∀ dlt, Good P Q (watch (modTk d (moveSecond dlt) s)) :=
    fun dlt => good_modTk d _ s (fun t => htOk_moveSecond dlt t) hs
  have hsets : ∀ dlt u, watch (modCom d (moveSets dlt) u) = watch u :=
    fun dlt u => watch_modCom d _ u (fun _ => ⟨rfl, rfl, rfl⟩)
  have hraise : ∀ u, watch (raiseTime d 7 u) = watch u := fun u => by cases d <;> simp [unwatched]
  have hbase : ∀ dlt, Good P Q (watch (modCom d (moveSets dlt) (raiseTime d 7 (modTk d (moveSecond dlt) s)))) :=
    fun dlt => by rw [hsets, hraise]; exact hsecond dlt
  unfold originStep
  split
  · refine good_choice _ ?_ hs
    rename_i dlt _
    have := hbase dlt
    generalize modCom d _ _ = u at this ⊢
    cases d
    · simpa using this
    · dsimp only
      split <;> simpa [unwatched, Dxd.blank] using this
  · exact hs

@[simp] theorem watch_huddleEndsNow (f : CensusDnF) (s : State) :
    watch (huddleEndsNow f s) = watch s := by
  unfold huddleEndsNow
  dsimp only
  (repeat' split) <;> simp [unwatched, -com_tsu, -com_dxd]

@[simp] theorem watch_huddleEnds (f : CensusDnF) (s : State) :
    watch (huddleEnds f s) = watch s := by simp [huddleEnds, unwatched, -com_tsu, -com_dxd]

@[simp] theorem watch_releaseHuddles (s : State) :
    watch (releaseHuddles s) = watch s := by simp [releaseHuddles, unwatched, -com_tsu, -com_dxd]

@[simp] theorem watch_censusDnAtTsu (f : CensusDnF) (s : State) :
    watch (censusDnAtTsu f s) = watch s := by simp [censusDnAtTsu, unwatched, -com_tsu, -com_dxd]

@[simp] theorem watch_censusDnTake (d : Dev) (p : Nat) (ep : Nat) (f : CensusDnF) (a : State) :
    watch (censusDnTake d p ep f a) = watch a := by cases d <;> simp [censusDnTake, unwatched, -com_tsu, -com_dxd]

@[simp] theorem watch_censusDnReceive (d : Dev) (p : Nat) (h : LinkHdr) (ep : Nat) (f : CensusDnF) (s : State) :
    watch (censusDnReceive d p h ep f s) = watch s := by cases d <;> simp [censusDnReceive, unwatched, -com_tsu, -com_dxd]

@[simp] theorem watch_fireKick (r : StepRec) (rets : List BayReading) (s : State) :
    watch (fireKick r rets s) = watch s := by simp [fireKick, unwatched, -com_tsu, -com_dxd]

@[simp] theorem watch_failKick (r : StepRec) (s : State) :
    watch (failKick r s) = watch s := by simp [failKick, unwatched, -com_tsu, -com_dxd]

@[simp] theorem watch_kickoffTsu (rets : List BayReading) (s : State) :
    watch (kickoffTsu rets s) = watch s := by
  unfold kickoffTsu
  (repeat' split) <;> simp [unwatched, -com_tsu, -com_dxd]

@[simp] theorem watch_callOffAtTsu (f : CallOffF) (s : State) :
    watch (callOffAtTsu f s) = watch s := by
  unfold callOffAtTsu
  (repeat' split) <;> simp [unwatched, -com_tsu, -com_dxd]

@[simp] theorem watch_callOffTake (d : Dev) (p : Nat) (ep : Nat) (f : CallOffF) (a : State) :
    watch (callOffTake d p ep f a) = watch a := by cases d <;> simp [callOffTake, unwatched, -com_tsu, -com_dxd]

@[simp] theorem watch_callOffReceive (d : Dev) (p : Nat) (h : LinkHdr) (ep : Nat) (f : CallOffF) (s : State) :
    watch (callOffReceive d p h ep f s) = watch s := by cases d <;> simp [callOffReceive, unwatched, -com_tsu, -com_dxd]

@[simp] theorem watch_fenceTsu (s : State) :
    watch (fenceTsu s) = watch s := by
  unfold fenceTsu
  simp [unwatched, -com_tsu, -com_dxd]

@[simp] theorem watch_leaveSideline (s : State) :
    watch (leaveSideline s) = watch s := by simp [leaveSideline, unwatched, -com_tsu, -com_dxd]

@[simp] theorem watch_benchAtTsu (ep : Nat) (f : BenchF) (s : State) :
    watch (benchAtTsu ep f s) = watch s := by simp [benchAtTsu, unwatched, -com_tsu, -com_dxd]

@[simp] theorem watch_holdPorts (s : State) :
    watch (holdPorts s) = watch s := by simp [holdPorts, unwatched, -com_tsu, -com_dxd]

@[simp] theorem watch_fenceDxd (s : State) :
    watch (fenceDxd s) = watch s := by simp [fenceDxd, unwatched, -com_tsu, -com_dxd]

@[simp] theorem watch_benchAtDxd (p : Nat) (ep : Nat) (f : BenchF) (s : State) :
    watch (benchAtDxd p ep f s) = watch s := by
  unfold benchAtDxd
  (repeat' split) <;> simp [unwatched, -com_tsu, -com_dxd]

@[simp] theorem watch_benchTake (d : Dev) (p : Nat) (ep : Nat) (f : BenchF) (a : State) :
    watch (benchTake d p ep f a) = watch a := by cases d <;> simp [benchTake, unwatched, -com_tsu, -com_dxd]

@[simp] theorem watch_benchReceive (d : Dev) (p : Nat) (h : LinkHdr) (ep : Nat) (f : BenchF) (s : State) :
    watch (benchReceive d p h ep f s) = watch s := by cases d <;> simp [benchReceive, unwatched, -com_tsu, -com_dxd]

@[simp] theorem watch_joinEpoch (e : Nat) (s : State) :
    watch (joinEpoch e s) = watch s := by simp [joinEpoch, unwatched, -com_tsu, -com_dxd]

@[simp] theorem watch_epochJoin (s : State) :
    watch (epochJoin s) = watch s := by
  unfold epochJoin
  (repeat' split) <;> simp [unwatched, -com_tsu, -com_dxd]

@[simp] theorem watch_sourcelessFence (s : State) :
    watch (sourcelessFence s) = watch s := by
  unfold sourcelessFence
  (repeat' split) <;> simp [unwatched, -com_tsu, -com_dxd]

@[simp] theorem watch_takeControl (p : Nat) (fr : Frame) (s : State) :
    watch (takeControl p fr s) = watch s := by
  unfold takeControl
  (repeat' split) <;> simp [unwatched, -com_tsu, -com_dxd]

@[simp] theorem watch_drainInput (p n : Nat) (s : State) : watch (drainInput p n s) = watch s := by
  induction n generalizing s with
  | zero => rfl
  | succ n ih =>
    unfold drainInput
    split
    · split
      · rfl
      · rw [ih, watch_takeFrame _ _ _ (fun u => watch_takeControl p _ u)]
        simp [unwatched]
    · rfl

@[simp] theorem watch_drainInputs (s : State) :
    watch (drainInputs s) = watch s := by simp [drainInputs, unwatched, -com_tsu, -com_dxd]

end Sys2Proof.Machine
end

section
/-!
PROOFS. Resets and the stages of the start: HT begins at 0 and no 1588 port has a master (R377 to R390).
-/

namespace Sys2Proof.Machine

@[simp] theorem good_rootTakeover {P Q : Prop} (s : State) (hs : Good P Q (watch s)) :
    Good P Q (watch (rootTakeover s)) := by simp [rootTakeover, hs, unwatched, -com_tsu, -com_dxd]

@[simp] theorem good_warmReset {P Q : Prop} (d : Dev) (s : State) (hs : Good P Q (watch s)) :
    Good P Q (watch (warmReset d s)) := by
  refine good_of hs (fun e => ?_) ?_
  · cases d <;> cases e
    · exact .inr (htOk_zero ⟨rfl, rfl, rfl⟩)
    · exact .inl rfl
    · exact .inl rfl
    · exact .inr (htOk_zero ⟨rfl, rfl, rfl⟩)
  · cases d
    · exact .inl rfl
    · exact .inr (by simp [PtpListens, warmReset, freshDxd])

@[simp] theorem good_enterCellar {P Q : Prop} (d : Dev) (reason : Nat) (s : State) (hs : Good P Q (watch s)) :
    Good P Q (watch (enterCellar d reason s)) := by
  have hcellar : ∀ k : Com, HtOk (cellarCom k).tk := fun k => htOk_zero ⟨rfl, rfl, rfl⟩
  cases d
  · refine good_of hs (fun e => ?_) (.inl (x_pt_eq (by apply enterCellar_tsu_blank <;> decide)))
    cases e
    · exact .inr (htOk_zero (by simp [enterCellar, cellarCom]))
    · exact .inl (dc_tk_eq (by apply enterCellar_tsu_blank <;> decide))
  · unfold enterCellar
    have hraise : ∀ u, watch (raise .dxd 0x0E 0 u) = watch u := fun u => by simp [unwatched]
    have hhist : (if s.dc.tk.state = 2 then history 15 s else s).tc = s.tc := by
      split
      · simp [history]
      · rfl
    rw [hraise, watch_holdPorts]
    refine good_of hs (fun e => ?_) (.inr (by simp [PtpListens]))
    cases e
    · exact .inl (by simp [hhist])
    · exact .inr (hcellar _)

@[simp] theorem good_failStart {P Q : Prop} (d : Dev) (reason : Nat) (s : State) (hs : Good P Q (watch s)) :
    Good P Q (watch (failStart d reason s)) := by
  unfold failStart
  dsimp only
  cases d <;> (repeat' split) <;> simp [hs, unwatched, -com_tsu, -com_dxd]

@[simp] theorem good_powerOn {P Q : Prop} (d : Dev) (pins : Pins) (s : State) (hs : Good P Q (watch s)) :
    Good P Q (watch (powerOn d pins s)) := by
  cases d
  · refine good_of hs (fun e => ?_) (.inl rfl)
    cases e
    · exact .inr (htOk_zero ⟨rfl, rfl, rfl⟩)
    · exact .inl rfl
  · unfold powerOn
    have h2 : ∀ (b : Boot) (st : Straps), Good P Q (watch { modCom .dxd (fun c => freshCom .dxd c b {} false) s with
        x := freshDxd s.x st 0 }) := fun b st => by
      refine good_of hs (fun e => ?_) (.inr (by simp [PtpListens, freshDxd]))
      cases e
      · exact .inl rfl
      · exact .inr (htOk_zero ⟨rfl, rfl, rfl⟩)
    exact good_choice _ (good_enterCellar .dxd 0xB _ (h2 _ _)) (h2 _ _)

@[simp] theorem good_fuseReadDone {P Q : Prop} (d : Dev) (crcOk : Bool) (s : State) (hs : Good P Q (watch s)) :
    Good P Q (watch (fuseReadDone d crcOk s)) := by
  unfold fuseReadDone
  cases d <;> (repeat' split) <;> simp [hs, unwatched, -com_tsu, -com_dxd]

@[simp] theorem good_lbistDone {P Q : Prop} (d : Dev) (sig : Word) (s : State) (hs : Good P Q (watch s)) :
    Good P Q (watch (lbistDone d sig s)) := by
  unfold lbistDone
  dsimp only
  cases d <;> (repeat' split) <;> simp [hs, unwatched, -com_tsu, -com_dxd]

@[simp] theorem good_flashLoadDone {P Q : Prop} (ok0 ok1 : Bool) (fw : FwEntry) (atticOk : Bool) (s : State)
    (hs : Good P Q (watch s)) : Good P Q (watch (flashLoadDone ok0 ok1 fw atticOk s)) := by
  unfold flashLoadDone
  refine good_choice _ hs (good_choice _ (good_failStart _ _ _ hs) (good_choice _ (good_failStart _ _ _ hs) ?_))
  simpa [unwatched, Dxd.blank] using hs

@[simp] theorem good_startTimeout {P Q : Prop} (d : Dev) (s : State) (hs : Good P Q (watch s)) :
    Good P Q (watch (startTimeout d s)) := by cases d <;> simp [startTimeout, hs, unwatched, -com_tsu, -com_dxd]

@[simp] theorem good_restart {P Q : Prop} (d : Dev) (s : State) (hs : Good P Q (watch s)) :
    Good P Q (watch (restart d s)) := by
  have hwarm : ∀ f : Boot → Boot, Good P Q (watch (warmReset d (modBoot d f s))) :=
    fun f => good_warmReset d _ (by cases d <;> simpa [unwatched] using hs)
  exact good_choice _ (good_enterCellar .dxd _ _ (hwarm _)) (hwarm _)

@[simp] theorem good_boCtlWrite {P Q : Prop} (d : Dev) (v : Word) (s : State) (hs : Good P Q (watch s)) :
    Good P Q (watch (boCtlWrite d v s)) := by
  unfold boCtlWrite
  cases d <;> (repeat' split) <;> simp [hs, unwatched, -com_tsu, -com_dxd]

end Sys2Proof.Machine
end

section
/-!
PROOFS. Registers: what each write stores and each read changes keeps both invariants.
-/

namespace Sys2Proof.Machine

@[simp] theorem watch_utcStore (v : Word) (s : State) :
    watch (utcStore v s) = watch s := by simp [utcStore, -com_tsu, -com_dxd]

@[simp] theorem watch_tkReg_store (d : Dev) (rq : Nat) (off : Nat) (s : State) (v_ : Word) (s_ : State) :
    watch ((tkReg d rq off s).store v_ s_) = watch s_ := by
  unfold tkReg
  dsimp only
  cases d <;> (repeat' split) <;> simp [noReg, roReg, rcReg, fxReg, unwatched, -com_tsu, -com_dxd]

@[simp] theorem watch_tkReg_effect (d : Dev) (rq : Nat) (off : Nat) (s : State) (s_ : State) :
    watch ((tkReg d rq off s).effect s_) = watch s_ := by
  unfold tkReg
  cases d <;> (repeat' split) <;> simp [noReg, roReg, rcReg, fxReg, -com_tsu, -com_dxd]

@[simp] theorem watch_portReg_store (d : Dev) (p : Nat) (o : Nat) (s : State) (v_ : Word) (s_ : State) :
    watch ((portReg d p o s).store v_ s_) = watch s_ := by
  unfold portReg
  cases d <;> (repeat' split) <;> simp [noReg, roReg, rcReg, fxReg, unwatched, -com_tsu, -com_dxd]

@[simp] theorem watch_portReg_effect (d : Dev) (p : Nat) (o : Nat) (s : State) (s_ : State) :
    watch ((portReg d p o s).effect s_) = watch s_ := by
  unfold portReg
  cases d <;> (repeat' split) <;> simp [noReg, roReg, rcReg, fxReg, unwatched, -com_tsu, -com_dxd]

@[simp] theorem watch_portsReg_store (d : Dev) (pg : Nat) (off : Nat) (s : State) (v_ : Word) (s_ : State) :
    watch ((portsReg d pg off s).store v_ s_) = watch s_ := by
  unfold portsReg
  dsimp only
  cases d <;> (repeat' split) <;> simp [noReg, unwatched, -com_tsu, -com_dxd]

@[simp] theorem watch_portsReg_effect (d : Dev) (pg : Nat) (off : Nat) (s : State) (s_ : State) :
    watch ((portsReg d pg off s).effect s_) = watch s_ := by
  unfold portsReg
  dsimp only
  cases d <;> (repeat' split) <;> simp [noReg, unwatched, -com_tsu, -com_dxd]

@[simp] theorem watch_cuReg_store (off : Nat) (v_ : Word) (s_ : State) :
    watch ((cuReg off).store v_ s_) = watch s_ := by
  unfold cuReg
  (repeat' split) <;> simp [noReg, roReg, rcReg, fxReg, unwatched, -com_tsu, -com_dxd]

@[simp] theorem watch_cuReg_effect (off : Nat) (s_ : State) :
    watch ((cuReg off).effect s_) = watch s_ := by
  unfold cuReg
  (repeat' split) <;> simp [noReg, roReg, rcReg, fxReg, unwatched, -com_tsu, -com_dxd]

@[simp] theorem watch_rfReg_store (off : Nat) (v_ : Word) (s_ : State) :
    watch ((rfReg off).store v_ s_) = watch s_ := by
  unfold rfReg
  (repeat' split) <;> simp [noReg, roReg, fxReg, unwatched, -com_tsu, -com_dxd]

@[simp] theorem watch_rfReg_effect (off : Nat) (s_ : State) :
    watch ((rfReg off).effect s_) = watch s_ := by
  unfold rfReg
  (repeat' split) <;> simp [noReg, roReg, fxReg, unwatched, -com_tsu, -com_dxd]

@[simp] theorem watch_svReg_store (off : Nat) (v_ : Word) (s_ : State) :
    watch ((svReg off).store v_ s_) = watch s_ := by
  unfold svReg
  (repeat' split) <;> simp [noReg, roReg, fxReg, unwatched, -com_tsu, -com_dxd]

@[simp] theorem watch_svReg_effect (off : Nat) (s_ : State) :
    watch ((svReg off).effect s_) = watch s_ := by
  unfold svReg
  (repeat' split) <;> simp [noReg, roReg, fxReg, unwatched, -com_tsu, -com_dxd]

@[simp] theorem good_ptReg_store {P Q : Prop} (off : Nat) (v_ : Word) (s_ : State) (hs : Good P Q (watch s_)) :
    Good P Q (watch ((ptReg off).store v_ s_)) := by
  unfold ptReg
  (repeat' split) <;> simp [noReg, roReg, rcReg, fxReg, hs, unwatched, -com_tsu, -com_dxd]

@[simp] theorem watch_ptReg_effect (off : Nat) (s_ : State) :
    watch ((ptReg off).effect s_) = watch s_ := by
  unfold ptReg
  (repeat' split) <;> simp [noReg, roReg, rcReg, fxReg, unwatched, -com_tsu, -com_dxd]

@[simp] theorem good_boReg_store {P Q : Prop} (d : Dev) (off : Nat) (v_ : Word) (s_ : State) (hs : Good P Q (watch s_)) :
    Good P Q (watch ((boReg d off).store v_ s_)) := by
  unfold boReg
  cases d <;> (repeat' split) <;> simp [noReg, roReg, rcReg, fxReg, hs, unwatched, -com_tsu, -com_dxd]

@[simp] theorem watch_boReg_effect (d : Dev) (off : Nat) (s_ : State) :
    watch ((boReg d off).effect s_) = watch s_ := by
  unfold boReg
  cases d <;> (repeat' split) <;> simp [noReg, roReg, rcReg, fxReg, unwatched, -com_tsu, -com_dxd]

@[simp] theorem good_bodyReg_store {P Q : Prop} (d : Dev) (rq : Nat) (pg : Nat) (off : Nat) (s : State) (v_ : Word) (s_ : State) (hs : Good P Q (watch s_)) :
    Good P Q (watch ((bodyReg d rq pg off s).store v_ s_)) := by
  unfold bodyReg
  cases d <;> (repeat' split) <;> simp [noReg, hs, unwatched, -com_tsu, -com_dxd]

@[simp] theorem watch_bodyReg_effect (d : Dev) (rq : Nat) (pg : Nat) (off : Nat) (s : State) (s_ : State) :
    watch ((bodyReg d rq pg off s).effect s_) = watch s_ := by
  unfold bodyReg
  cases d <;> (repeat' split) <;> simp [noReg, unwatched, -com_tsu, -com_dxd]

@[simp] theorem good_regAt_store {P Q : Prop} (d : Dev) (rq : Nat) (pg : Nat) (off : Nat) (s : State) (v_ : Word) (s_ : State) (hs : Good P Q (watch s_)) :
    Good P Q (watch ((regAt d rq pg off s).store v_ s_)) := by
  unfold regAt
  cases d <;> (repeat' split) <;> simp [noReg, hs, unwatched, -com_tsu, -com_dxd]

@[simp] theorem watch_regAt_effect (d : Dev) (rq : Nat) (pg : Nat) (off : Nat) (s : State) (s_ : State) :
    watch ((regAt d rq pg off s).effect s_) = watch s_ := by
  unfold regAt
  cases d <;> (repeat' split) <;> simp [noReg, unwatched, -com_tsu, -com_dxd]

@[simp] theorem good_regReadNow {P Q : Prop} (d : Dev) (rq : Nat) (a : Nat) (s : State) (hs : Good P Q (watch s)) :
    Good P Q (watch (regReadNow d rq a s)) := by cases d <;> simp [regReadNow, hs, unwatched, -com_tsu, -com_dxd]

@[simp] theorem good_regRead {P Q : Prop} (d : Dev) (rq : Nat) (a : Nat) (s : State) (hs : Good P Q (watch s)) :
    Good P Q (watch (regRead d rq a s)) := by
  unfold regRead
  cases d <;> (repeat' split) <;> simp [hs, unwatched, -com_tsu, -com_dxd]

@[simp] theorem watch_forceUnit (d : Dev) (a : Nat) (v : Word) (s : State) :
    watch (forceUnit d a v s) = watch s := by
  unfold forceUnit
  cases d <;> (repeat' split) <;> simp [unwatched, -com_tsu, -com_dxd]

@[simp] theorem watch_forceRegister (d : Dev) (a : Nat) (live : Word) (v : Word) (s : State) :
    watch (forceRegister d a live v s) = watch s := by cases d <;> simp [forceRegister, unwatched, -com_tsu, -com_dxd]

@[simp] theorem good_regStore {P Q : Prop} (d : Dev) (rq : Nat) (a : Nat) (v : Word) (s : State) (hs : Good P Q (watch s)) :
    Good P Q (watch (regStore d rq a v s)) := by cases d <;> simp [regStore, hs, unwatched, -com_tsu, -com_dxd]

@[simp] theorem good_regWriteNow {P Q : Prop} (d : Dev) (rq a : Nat) (v : Word) (s : State) (hs : Good P Q (watch s)) :
    Good P Q (watch (regWriteNow d rq a v s)) :=
  good_applyWrite d _ _ _ s (good_regStore d rq a v) hs

@[simp] theorem good_regWrite {P Q : Prop} (d : Dev) (rq a : Nat) (v : Word) (s : State) (hs : Good P Q (watch s)) :
    Good P Q (watch (regWrite d rq a v s)) :=
  good_admitWrite d _ s (good_regStore d rq a v) hs rq _ _ v

@[simp] theorem good_overrideWrite {P Q : Prop} (d : Dev) (a : Nat) (v : Word) (s : State) (hs : Good P Q (watch s)) :
    Good P Q (watch (overrideWrite d a v s)) := by cases d <;> simp [overrideWrite, hs, unwatched, -com_tsu, -com_dxd]

@[simp] theorem good_jtag {P Q : Prop} (d : Dev) (i : JtagIns) (s : State) (hs : Good P Q (watch s)) :
    Good P Q (watch (jtag d i s)) := by
  unfold jtag
  dsimp only
  cases d <;> (repeat' split) <;> simp [hs, unwatched, -com_tsu, -com_dxd]

end Sys2Proof.Machine
end

section
/-!
PROOFS. BAR0 halves, images and what waits for them keep both invariants.
-/

namespace Sys2Proof.Machine

@[simp] theorem good_barLowRead {P Q : Prop} (addr : Nat) (s : State) (hs : Good P Q (watch s)) :
    Good P Q (watch (barLowRead addr s)) := by
  have hread := good_regReadNow .dxd 4 addr (dropHalf .dxd 4 s) (by simpa [unwatched] using hs)
  unfold barLowRead
  refine good_choice _ ?_ hs
  exact hread

@[simp] theorem good_barHighWrite {P Q : Prop} (addr v : Nat) (s : State) (hs : Good P Q (watch s)) :
    Good P Q (watch (barHighWrite addr v s)) := by
  have hbad : Good P Q (watch (countBad .dxd (addr / 4096) (dropHalf .dxd 4 s))) := by simpa [unwatched] using hs
  unfold barHighWrite
  refine good_choice _ ?_ hs
  split
  · exact good_choice _ (good_regWrite _ _ _ _ _ hs) hbad
  · exact hbad

@[simp] theorem good_takeBoot {P Q : Prop} (img : List Byte) (s : State) (hs : Good P Q (watch s)) :
    Good P Q (watch (takeBoot img s)) := by
  unfold takeBoot
  refine good_choice _ hs ?_
  split
  · exact good_failStart _ _ _ hs
  · simpa [unwatched] using hs

@[simp] theorem good_tsuChunkNow {P Q : Prop} (f : ConfigF) (s : State) (hs : Good P Q (watch s)) :
    Good P Q (watch (tsuChunkNow f s)) := by
  unfold tsuChunkNow
  dsimp only
  (repeat' split) <;> simp [hs, unwatched, -com_tsu, -com_dxd]

@[simp] theorem good_tsuChunk {P Q : Prop} (f : ConfigF) (s : State) (hs : Good P Q (watch s)) :
    Good P Q (watch (tsuChunk f s)) := by simp [tsuChunk, hs, unwatched, -com_tsu, -com_dxd]

@[simp] theorem good_laneFallback {P Q : Prop} (s : State) (hs : Good P Q (watch s)) :
    Good P Q (watch (laneFallback s)) := by
  unfold laneFallback
  (repeat' split) <;> simp [hs, unwatched, -com_tsu, -com_dxd]

@[simp] theorem good_localImageDone {P Q : Prop} (img : List Byte) (s : State) (hs : Good P Q (watch s)) :
    Good P Q (watch (localImageDone img s)) := by
  unfold localImageDone
  dsimp only
  (repeat' split) <;> simp [hs, unwatched, -com_tsu, -com_dxd]

@[simp] theorem good_preset {P Q : Prop} (e : List Byte) (s : State) (hs : Good P Q (watch s)) :
    Good P Q (watch (preset e s).1) := by
  unfold preset
  (repeat' split) <;> simp [hs, unwatched, -com_tsu, -com_dxd]

/-- `good_foldl` over a state and the flag that goes with it. -/
theorem good_foldl_fst {P Q : Prop} {α : Type} (f : State × Bool → α → State × Bool) (l : List α) (a : State × Bool)
    (h : ∀ a x, Good P Q (watch a.1) → Good P Q (watch (f a x).1)) (ha : Good P Q (watch a.1)) :
    Good P Q (watch (l.foldl f a).1) := by
  induction l generalizing a with
  | nil => exact ha
  | cons x l ih => exact ih _ (h a x ha)

@[simp] theorem good_presets {P Q : Prop} (b : List Byte) (s : State) (hs : Good P Q (watch s)) :
    Good P Q (watch (presets b s).1) := by
  refine good_foldl_fst _ _ _ (fun a i ha => ?_) hs
  split
  · exact good_preset _ _ ha
  · exact ha

@[simp] theorem good_applySection {P Q : Prop} (again : Option Nat) (acc : State × Bool) (x : Nat × List Byte) (hs : Good P Q (watch acc.1)) :
    Good P Q (watch (applySection again acc x).1) := by
  unfold applySection
  (repeat' split) <;> simp [hs, unwatched, -com_tsu, -com_dxd]

@[simp] theorem good_imageApplyDone {P Q : Prop} (s : State) (hs : Good P Q (watch s)) :
    Good P Q (watch (imageApplyDone s)) := by
  unfold imageApplyDone
  split
  · exact hs
  · exact hs
  · rename_i img _ _
    have hr := good_foldl_fst (applySection s.tc.boot.applying) ((imgSections img).getD []) (s, true)
      (fun a x => good_applySection _ a x) hs
    generalize List.foldl _ _ _ = r at hr ⊢
    refine good_choice _ hr ?_
    (repeat' split) <;> simp [hr, unwatched, -com_tsu, -com_dxd]

@[simp] theorem good_replayHeld {P Q : Prop} (l : List HeldAccess) (s : State) (hs : Good P Q (watch s)) :
    Good P Q (watch (replayHeld l s)) :=
  good_foldl _ l s (fun u a hu => good_choice _ (by cases a.write <;> simp [hu, unwatched])
    (good_choice _ (good_regWrite _ _ _ _ u hu) (good_regRead _ _ _ u hu))) hs

@[simp] theorem good_releaseChunks {P Q : Prop} (s : State) (hs : Good P Q (watch s)) :
    Good P Q (watch (releaseChunks s)) :=
  good_foldl _ _ _ (fun u f hu => good_tsuChunkNow f u hu) (by simpa [unwatched] using hs)

@[simp] theorem good_bistRelease {P Q : Prop} (s : State) (hs : Good P Q (watch s)) :
    Good P Q (watch (bistRelease s)) := by
  unfold bistRelease
  (repeat' split) <;> simp [hs, unwatched, -com_tsu, -com_dxd]

theorem good_bySeen {P Q : Prop} (d : Dev) (i : SeenId) (f : State → State) (s : State)
    (hf : ∀ s, Good P Q (watch s) → Good P Q (watch (f s))) (hs : Good P Q (watch s)) :
    Good P Q (watch (bySeen d i f s)) := by
  unfold bySeen
  dsimp only
  refine good_choice _ hs (hf _ ?_)
  cases d <;> simpa [unwatched] using hs

@[simp] theorem good_configReceive {P Q : Prop} (d : Dev) (p : Nat) (h : LinkHdr) (ep : Nat) (f : ConfigF) (s : State)
    (hs : Good P Q (watch s)) : Good P Q (watch (configReceive d p h ep f s)) := by
  refine good_recvRetained d _ s (good_bySeen d _ _ · ?_) hs p h _
  intro u hu
  cases d
  · exact good_tsuChunk f u hu
  · simpa [unwatched] using hu

end Sys2Proof.Machine
end

section
/-!
PROOFS. Every command and every beat keep both invariants; hall time stays in its ranges (O4).
-/

namespace Sys2Proof.Machine

/-- Whatever state an outcome leads to is good. -/
def Keeps (P Q : Prop) (o : Host.Outcome State Fault Refusal) : Prop := ∀ t, o = .next t → Good P Q (watch t)

theorem keeps_next {P Q : Prop} {t : State} (ht : Good P Q (watch t)) : Keeps P Q (.next t) := by
  rintro _ ⟨⟩
  exact ht

theorem exec_keeps {P Q : Prop} (c : Instr) (s : State) (hs : Good P Q (watch s)) : Keeps P Q (exec c s) := by
  cases c
  case boRestart d rq v | boForceCellar d rq v =>
    exact keeps_next (good_admitWrite d _ s (good_boCtlWrite d v) hs rq _ _ v)
  case boReady rq v =>
    exact keeps_next (good_admitWrite .dxd _ s (good_boCtlWrite .dxd v) hs rq _ _ v)
  all_goals
    refine keeps_next ?_
    try cases ‹Dev›
  all_goals simp [hs, unwatched, -com_tsu, -com_dxd]

/-- A beat keeps both (R35, R113). -/
theorem good_tick {P Q : Prop} (s : State) (hs : Good P Q (watch s)) : Good P Q (watch s.tick) := by
  have htime := good_tickTime .dxd _ (good_tickTime .tsu s hs)
  unfold State.tick
  generalize tickTime .dxd (tickTime .tsu s) = u at htime ⊢
  simpa [unwatched] using htime

theorem step_keeps {P Q : Prop} (s : State) (hs : Good P Q (watch s)) : Keeps P Q (step s) := by
  unfold step
  split
  · exact keeps_next (good_tick s hs)
  · exact exec_keeps _ _ hs

/-- HT moves modulo the 2^48 seconds that it counts (R35). -/
theorem htCount_addLsb (k : Time) (n : Int) :
    (htCount (k.addLsb n) : Int) = ((htCount k : Int) + n) % ((2 ^ 48 * 1000000000 * 65536 : Nat) : Int) := by
  have hpos : (0 : Int) ≤ ((htCount k : Int) + n) % ((2 ^ 48 * 1000000000 * 65536 : Nat) : Int) :=
    Int.emod_nonneg _ (by norm_num)
  have hlsb : ((k.sec * 1000000000 + k.ns : Nat) : Int) * 65536 + (k.frac : Nat) + n = (htCount k : Int) + n := by
    simp [htCount]
  have hparts : ∀ m : Nat, (m / 65536000000000 * 1000000000 + m / 65536 % 1000000000) * 65536 + m % 65536 = m := by
    omega
  simp only [Time.addLsb, hlsb]
  rw [htCount, hparts]
  exact Int.toNat_of_nonneg hpos

/-- With no residual left a beat moves the TSU's HT by its rate alone (R35, R62). -/
theorem tick_tc_tk (s : State) (hr : s.tc.tk.r = 0) :
    s.tick.tc.tk = { s.tc.tk.addLsb (ncoStep s.tc.tk.nco (presentedY .tsu s)).1 with
      nco := (ncoStep s.tc.tk.nco (presentedY .tsu s)).2, delta := s.tc.tk.delta + coreDrift .tsu s } := by
  have hrest : s.tick.tc.tk = (tickTime .tsu s).tc.tk := tc_tk_eq (by simp [State.tick, but])
  rw [hrest]
  simp [tickTime, hr, Time.addLsb]

/-- Settles O4: one invariant, `Good`, that a beat and every command keep; the carries are those of one count of LSBs. -/
theorem hallTimeRanges : Obligations.HallTimeRanges := by
  unfold Obligations.HallTimeRanges
  refine ⟨fun s t hs ht => ?_, fun k n => ⟨htOk_addLsb k n, htCount_addLsb k n⟩, fun s hp => ⟨s.tick, ?_, tick_tc_tk s⟩⟩
  · have hgood : Good True False (watch t) := step_keeps s ((good_iff _ _ s).mpr ⟨fun _ => hs, False.elim⟩) t ht
    exact ((good_iff _ _ t).mp hgood).1 trivial
  · unfold step
    rw [hp]

/-- Every step keeps what R113 says of a port that listens. -/
theorem ptpListens_step (s t : State) (hs : PtpListens s) (ht : step s = .next t) : PtpListens t := by
  have hgood : Good False True (watch t) := step_keeps s ((good_iff _ _ s).mpr ⟨False.elim, fun _ => hs⟩) t ht
  exact ((good_iff _ _ t).mp hgood).2 trivial

end Sys2Proof.Machine
end
section
/-!
PROOFS. Pulls, the time registers and the origin step (O10).
-/

namespace Sys2Proof.Machine

/-- Page TK is operative in every device. -/
theorem pageSt_time (d : Dev) (s : State) : pageSt d s 0x00 = .op := by
  cases d
  · simp [pageSt, pageStTsu]
  · simp [pageSt, pageStDxd]

/-- A raise of page TK shows (R342). -/
theorem eventSet_raiseTk (d : Dev) (b : Nat) (s : State) (hb : b < 64) : eventSet d 0x00 b (raise d 0x00 b s) :=
  eventSet_raise d 0x00 b s ⟨pageSt_time d s, by decide⟩ hb

/-- Events are those of the device's PG_EVENT registers. -/
theorem eventSet_congr {d : Dev} {pg b : Nat} {s t : State} (h : (t.com d).pgEvent = (s.com d).pgEvent) :
    eventSet d pg b t ↔ eventSet d pg b s := by
  rw [eventSet, eventSet, h]

theorem eventSet_history (b pg c : Nat) (s : State) (h : eventSet .dxd pg c s) : eventSet .dxd pg c (history b s) :=
  eventSet_raise_of .dxd .dxd 0x10 pg b c _ h

theorem eventSet_setTrace (d : Dev) (tr ol : Bool) (pg c : Nat) (s : State) (h : eventSet d pg c s) :
    eventSet d pg c (setTrace d tr ol s) := by
  unfold setTrace
  split
  · exact h
  · refine eventSet_raise_of d d 0x00 pg 1 c _ ?_
    exact (eventSet_congr (by simp)).mpr h

theorem eventSet_becomeTraceable (pg c : Nat) (s : State) (h : eventSet .dxd pg c s) :
    eventSet .dxd pg c (becomeTraceable s) := by
  unfold becomeTraceable
  split
  · exact eventSet_setTrace .dxd _ _ pg c s h
  · exact h

/-- The history keeps what it is told (R114). -/
theorem history_history (b : Nat) (s : State) (hb : b < 64) : bit (history b s).x.hold.history b = true := by
  simp [history, bit_or, bit_bitW _ _ hb]

theorem becomeTraceable_tk (s : State) :
    (becomeTraceable s).dc.tk.sec = s.dc.tk.sec ∧ (becomeTraceable s).dc.tk.ns = s.dc.tk.ns ∧
      (becomeTraceable s).dc.tk.pulling = s.dc.tk.pulling ∧ (becomeTraceable s).x.hold = s.x.hold := by
  unfold becomeTraceable setTrace
  (repeat' split) <;> simp

theorem pullComplete_done (d : Dev) (s : State) (hp : (s.com d).tk.pulling = true) (hr : (s.com d).tk.r = 0) :
    ((pullComplete d s).com d).tk.pulling = false ∧ eventSet d 0x00 4 (pullComplete d s) ∧
      (d = .dxd → bit (pullComplete d s).x.hold.history 11 = true) ∧
      ((pullComplete d s).com d).tk.sec = (s.com d).tk.sec ∧ ((pullComplete d s).com d).tk.ns = (s.com d).tk.ns := by
  have hraise := eventSet_raiseTk d 4 (modTk d (fun t => { t with pulling := false }) s) (by decide)
  unfold pullComplete
  rw [if_pos ⟨hp, hr⟩]
  cases d
  · exact ⟨by simp, hraise, nofun, by simp, by simp⟩
  · obtain ⟨hsec, hns, hpull, hhold⟩ :=
      becomeTraceable_tk (history 11 (raise .dxd 0x00 4 (modTk .dxd (fun t => { t with pulling := false }) s)))
    dsimp only [com_dxd]
    rw [hsec, hns, hpull, hhold]
    exact ⟨by simp [history], eventSet_becomeTraceable _ _ _ (eventSet_history _ _ _ _ hraise),
      fun _ => history_history _ _ (by decide), by simp [history], by simp [history]⟩

theorem pullComplete_only (d : Dev) (s : State) :
    Only (pick d [.com .tsu .tk, .com .tsu .pgEvent, .com .tsu .ic]
      [.com .dxd .tk, .com .dxd .pgEvent, .com .dxd .ic, .hold]) s (pullComplete d s) := by
  cases d
  · apply pullComplete_tsu_blank <;> decide
  · apply pullComplete_dxd_blank <;> decide

/-- The snapshot of one requester is taken, the others stay (R62). -/
theorem takeSnap_snap (d : Dev) (rq : Nat) (s : State) (h : rq < 8) :
    tabGet none ((takeSnap d rq s).com d).tk.snap rq = some ((s.com d).tk.ns, (s.com d).tk.frac) ∧
      ∀ q, q ≠ rq → tabGet none ((takeSnap d rq s).com d).tk.snap q = tabGet none (s.com d).tk.snap q := by
  simp only [takeSnap, if_pos h, modTk_com]
  exact ⟨by simp, fun q hq => tabGet_tabSet_ne _ _ _ _ _ _ hq⟩

theorem takeSnap_response (d : Dev) (rq q : Nat) (s : State) : (takeSnap d rq s).response d q = s.response d q := by
  unfold takeSnap
  split
  · simp [State.response]
  · rfl

theorem nowSecRead_taken (d : Dev) (rq : Nat) (s : State) (h : ReadTaken d rq 0x00 s) :
    nowSecRead d rq s = takeSnap d rq (respond d rq (shown d 0x100 (wd [(0, (s.com d).tk.sec)]) s) (dropHalf d rq s)) := by
  rw [nowSecRead, admitRead_taken _ _ _ _ _ _ _ h]
  simp

theorem nowSecRead_only (d : Dev) (rq : Nat) (s : State) (h : ReadTaken d rq 0x00 s) :
    Only (pick d [.com .tsu .tk, .com .tsu .rsp]
      [.com .dxd .tk, .com .dxd .badAccess, .com .dxd .barCap, .com .dxd .barLow, .com .dxd .rsp]) s (nowSecRead d rq s) := by
  rw [nowSecRead_taken d rq s h]
  cases d <;> simp [Only, pick]

/-- The step that is announced is taken whole where one STEP_DELTA reaches the target (R73). -/
theorem pendStep_reached (sec target : Nat) (k : Time) (h : sec + 1 ≤ target) (hlt : target < sec + 2 ^ 31) :
    pendStep sec target k = { k with stepPend := some (sec, (target : Int) - (sec + 1)), originSet := none } := by
  have hclamp : clampI ((target : Int) - (sec + 1)) (-(2 ^ 31 - 1 : Nat)) (2 ^ 31 - 1 : Nat) = (target : Int) - (sec + 1) := by
    unfold clampI
    omega
  simp only [pendStep, hclamp, if_pos]

theorem tkOriginSet_taken (rq : Nat) (v : Word) (s : State) (h : WriteTaken .dxd rq 0x00 0x140 s) (hr : s.x.straps.role = 2) :
    tkOriginSet rq v s = originStepTo (fld v 0 48) (dropHalf .dxd rq s) := by
  rw [tkOriginSet, admitWrite_taken _ _ _ _ _ _ _ h, originSetWrite, if_pos (by simpa using hr)]

@[simp] theorem anyEpoch_dropHalf (d : Dev) (rq : Nat) (s : State) : anyEpoch (dropHalf d rq s) = anyEpoch s := by
  simp [anyEpoch]

@[simp] theorem stepSecond_dropHalf (d : Dev) (rq : Nat) (s : State) : stepSecond (dropHalf d rq s) = stepSecond s := by
  simp [stepSecond]

theorem tkOriginSet_announced (rq : Nat) (v : Word) (s : State) (h : WriteTaken .dxd rq 0x00 0x140 s)
    (hr : s.x.straps.role = 2) (he : anyEpoch s = false) (hlo : stepSecond s + 1 ≤ fld v 0 48)
    (hhi : fld v 0 48 < stepSecond s + 2 ^ 31) :
    tkOriginSet rq v s = modTk .dxd (fun k => { k with
      stepPend := some (stepSecond s, (fld v 0 48 : Int) - (stepSecond s + 1)), originSet := none }) (dropHalf .dxd rq s) := by
  rw [tkOriginSet_taken rq v s h hr, originStepTo, if_neg (by simp [he]), stepSecond_dropHalf]
  congr 1
  exact funext fun k => pendStep_reached _ _ k hlo hhi

theorem tkOriginSet_refused (rq : Nat) (v : Word) (s : State) (h : WriteTaken .dxd rq 0x00 0x140 s)
    (hr : s.x.straps.role = 2) (he : anyEpoch s = true) : tkOriginSet rq v s = raise .dxd 0x00 8 (dropHalf .dxd rq s) := by
  rw [tkOriginSet_taken rq v s h hr, originStepTo, if_pos (by simp [he])]

/-! The step itself (R43, R73). -/

theorem dropWaiter_tc (th : Thread) (w : Option WaitOn) (s : State) : (dropWaiter th w s).tc = s.tc := by
  unfold dropWaiter
  (repeat' split) <;> simp

theorem haltInStep_tc_tk (th : Thread) (s : State) : (haltInStep th s).tc.tk = s.tc.tk := by
  unfold haltInStep raiseIf
  split <;> simp

theorem eventSet_haltInStep (th : Thread) (b : Nat) (s : State) (h : eventSet .tsu 0x00 b s) :
    eventSet .tsu 0x00 b (haltInStep th s) := by
  unfold haltInStep raiseIf
  split
  · exact eventSet_raise_of _ _ _ _ _ _ _ h
  · exact h

/-- A wait for a beat that HT has left is no own failure (R210), so it leaves hall time and its events alone. -/
theorem waitFault_beat (th : Thread) (b : Nat) (s : State) (h : eventSet .tsu 0x00 b s) :
    (waitFault th 7 s).tc.tk = s.tc.tk ∧ eventSet .tsu 0x00 b (waitFault th 7 s) := by
  unfold waitFault threadFault
  split
  · exact ⟨by simp [holdEvent], (eventSet_congr (by simp [holdEvent])).mpr h⟩
  · rw [if_neg (by simp)]
    refine ⟨by simp [haltInStep_tc_tk, dropWaiter_tc], eventSet_raise_of _ _ _ _ _ _ _ ?_⟩
    refine (eventSet_congr (s := haltInStep th (dropWaiter th (getThr s.t.cue th).wait s)) (by simp)).mpr ?_
    exact eventSet_haltInStep _ _ _ ((eventSet_congr (by simp [dropWaiter_tc])).mpr h)

theorem stepTarget_keeps (th : Thread) (b : Nat) (s : State) (h : eventSet .tsu 0x00 b s) :
    (stepTarget th s).tc.tk = s.tc.tk ∧ eventSet .tsu 0x00 b (stepTarget th s) := by
  unfold stepTarget
  split
  · exact waitFault_beat th b s h
  · exact ⟨rfl, h⟩

theorem moveRefs_dc (dlt : Int) (s : State) : (moveRefs dlt s).dc = s.dc := by
  simp only [moveRefs, List.foldl_cons, List.foldl_nil]
  (repeat' split) <;> rfl

/-- Where a step is due: the second moves, TIME_STEPPED is raised, and what a device's own units do then keeps both (R43). -/
theorem originStep_due (d : Dev) (sec : Nat) (dlt : Int) (s : State) (hp : (s.com d).tk.stepPend = some (sec, dlt))
    (hdue : sec + 1 ≤ (s.com d).tk.sec) :
    (∃ b, ((originStep d s).com d).tk = { moveSecond dlt (s.com d).tk with freqOnly := b }) ∧
      eventSet d 0x00 7 (originStep d s) := by
  have hraise : eventSet d 0x00 7 (modCom d (moveSets dlt) (raiseTime d 7 (modTk d (moveSecond dlt) s))) :=
    (eventSet_congr (s := raiseTime d 7 (modTk d (moveSecond dlt) s)) (by simp [moveSets])).mpr
      (eventSet_raiseTk d 7 _ (by decide))
  have htk : ((modCom d (moveSets dlt) (raiseTime d 7 (modTk d (moveSecond dlt) s))).com d).tk =
      moveSecond dlt (s.com d).tk := by simp [moveSets, raiseTime, voidFits]
  unfold originStep
  rw [hp]
  dsimp only
  rw [if_pos hdue]
  generalize modCom d (moveSets dlt) _ = u at hraise htk ⊢
  cases d
  · obtain ⟨hrun, herun⟩ := stepTarget_keeps .run 7 u hraise
    obtain ⟨hlead, helead⟩ := stepTarget_keeps .lead 7 _ herun
    dsimp only [com_tsu] at htk ⊢
    exact ⟨⟨(moveSecond dlt s.tc.tk).freqOnly, by rw [hlead, hrun, htk]⟩, helead⟩
  · dsimp only [com_dxd] at htk ⊢
    split
    · exact ⟨⟨false, by simp [moveRefs_dc, htk]⟩, (eventSet_congr (by simp [moveRefs_dc])).mpr hraise⟩
    · exact ⟨⟨(moveSecond dlt s.dc.tk).freqOnly, by simp [moveRefs_dc, htk]⟩,
        (eventSet_congr (by simp [moveRefs_dc])).mpr hraise⟩

theorem moveSecond_fields (dlt : Int) (k : Time) :
    (moveSecond dlt k).sec = ux 48 ((k.sec : Int) + dlt) ∧ (moveSecond dlt k).ns = k.ns ∧
      (moveSecond dlt k).frac = k.frac ∧ (moveSecond dlt k).r = k.r ∧
      (k.originSet = none → (moveSecond dlt k).stepPend = none) := by
  unfold moveSecond
  dsimp only
  split
  case h_1 n hn => exact ⟨rfl, rfl, rfl, rfl, fun h => by simp [h] at hn⟩
  case h_2 => exact ⟨rfl, rfl, rfl, rfl, fun _ => rfl⟩

theorem originStep_only (d : Dev) (s : State) :
    Only (pick d [.com .tsu .tk, .com .tsu .ports, .com .tsu .msets, .com .tsu .pgEvent, .com .tsu .ic, .com .tsu .hfits,
      .steps, .member, .cue, .signals, .huddles, .keyPort, .tallies, .bays] [.com .dxd .tk, .com .dxd .msets,
      .com .dxd .pgEvent, .com .dxd .ic, .com .dxd .hfits, .refs, .outs]) s (originStep d s) := by
  cases d
  · apply originStep_tsu_blank <;> decide
  · apply originStep_dxd_blank <;> decide

/-- Settles O10: each command's equation where it is taken, and its fields. -/
theorem pullAndOrigin : Obligations.PullAndOrigin := by
  unfold Obligations.PullAndOrigin
  refine ⟨fun d s hp hr => ⟨_, rfl, ?_⟩, fun d rq s h hrq => ⟨_, rfl, ?_⟩, fun rq v s h hr he hlo hhi => ⟨_, rfl, ?_⟩,
    fun rq v s h hr he => ⟨_, rfl, ?_⟩, fun d sec dlt s hp hdue => ⟨_, rfl, ?_⟩⟩
  · obtain ⟨hpull, hev, hhist, hsec, hns⟩ := pullComplete_done d s hp hr
    exact ⟨hpull, hev, hhist, hsec, hns, pullComplete_only d s⟩
  · have honly := nowSecRead_only d rq s h
    rw [nowSecRead_taken d rq s h] at honly ⊢
    obtain ⟨hown, hothers⟩ := takeSnap_snap d rq
      (respond d rq (shown d 0x100 (wd [(0, (s.com d).tk.sec)]) s) (dropHalf d rq s)) hrq
    refine ⟨by rw [takeSnap_response, response_respond], ?_, fun q hq => ?_, honly⟩
    · rw [hown]
      simp
    · rw [hothers q hq]
      simp
  · rw [tkOriginSet_announced rq v s h hr he hlo hhi]
    exact ⟨by simp, by simp, by simp, by simp [Only]⟩
  · rw [tkOriginSet_refused rq v s h hr he]
    exact ⟨by simp, eventSet_raiseTk _ _ _ (by decide), by simp [Only]⟩
  · obtain ⟨⟨b, htk⟩, hev⟩ := originStep_due d sec dlt s hp hdue
    obtain ⟨hsec, hns, hfrac, hr, hpend⟩ := moveSecond_fields dlt (s.com d).tk
    rw [htk]
    exact ⟨hsec, hns, hfrac, hr, hpend, hev, originStep_only d s⟩

end Sys2Proof.Machine
end
section
/-!
PROOFS. What a DX-D's reports and benches leave of its ports: all but what waits to leave on them (R294, R295). As for hall time,
the frame laws of an operation apply once every other part is blanked.
-/

namespace Sys2Proof.Machine

/-- The parts that hold no port of the DX-D. -/
def portless (p : Part) : Bool := decide (p ≠ .com .dxd .ports)

/-- The DX-D's ports but for what waits to leave on them. -/
def linksOf (s : State) (p : Nat) : Port := { s.port .dxd p with rel := {} }

/-- `linksOf`, read from the state with every other part blanked. -/
@[simp] abbrev dxdLinks (s : State) : Nat → Port := linksOf (s.blank portless)

theorem dxdLinks_eq (s : State) : dxdLinks s = linksOf s := rfl

theorem linksKept_of_dxdLinks {s t : State} (h : dxdLinks t = dxdLinks s) : LinksKept .dxd s t := by
  intro p
  have hp : linksOf t p = linksOf s p := congrFun h p
  refine ⟨(t.port .dxd p).rel, ?_⟩
  unfold linksOf at hp
  generalize t.port .dxd p = a at hp ⊢
  generalize s.port .dxd p = b at hp ⊢
  cases a
  cases b
  simpa using hp

theorem dxdLinks_of_linksKept {s t : State} (h : LinksKept .dxd s t) : dxdLinks t = dxdLinks s := by
  funext p
  obtain ⟨r, hr⟩ := h p
  exact congrArg (fun q : Port => { q with rel := {} }) hr

@[simp] theorem linksOf_ite (c : Prop) [Decidable c] (s t : State) :
    linksOf (if c then s else t) = if c then linksOf s else linksOf t := by split <;> rfl

theorem dxdLinks_foldl {α : Type} (f : State → α → State) (l : List α) (s : State) (h : ∀ s x, dxdLinks (f s x) = dxdLinks s) :
    dxdLinks (l.foldl f s) = dxdLinks s := by
  induction l generalizing s with
  | nil => rfl
  | cons x l ih => rw [List.foldl_cons, ih, h]

@[simp] theorem dxdLinks_enqueue (p : Nat) (src : Option Nat) (f : Frame) (s : State) :
    dxdLinks (enqueue .dxd p src f s) = dxdLinks s := dxdLinks_of_linksKept (linksKept_enqueue .dxd p src f s)

@[simp] theorem dxdLinks_sendTwin (f : Frame) (s : State) : dxdLinks (sendTwin f s) = dxdLinks s := by
  unfold sendTwin
  split
  · exact dxdLinks_enqueue _ _ _ _
  · rfl

@[simp] theorem dxdLinks_enqueueAll (ps : List Nat) (src : Option Nat) (f : Frame) (s : State) :
    dxdLinks (enqueueAll .dxd ps src f s) = dxdLinks s := dxdLinks_foldl _ _ _ (fun u p => dxdLinks_enqueue p src f u)

@[simp] theorem dxdLinks_sendMsg (m : LedgerMsg) (s : State) : dxdLinks (sendMsg m s) = dxdLinks s := by
  unfold sendMsg
  rw [← dxdLinks_enqueueAll (m.ports.filter (fun p => (s.port .dxd p).st == 5)) none m.frame s, ← dxdLinks_sendTwin m.frame]
  simp [portless]

@[simp] theorem dxdLinks_flushMsgs (n : Nat) (s : State) : dxdLinks (flushMsgs n s) = dxdLinks s := by
  induction n generalizing s with
  | zero => rfl
  | succ n ih =>
    unfold flushMsgs
    split
    · split
      · rw [ih, dxdLinks_sendMsg]
        simp [portless]
      · rfl
    · rfl

@[simp] theorem dxdLinks_flushLedger (s : State) : dxdLinks (flushLedger s) = dxdLinks s := dxdLinks_flushMsgs _ s

@[simp] theorem dxdLinks_afterLedger (e : Nat) (f : Frame) (s : State) : dxdLinks (afterLedger e f s) = dxdLinks s := by
  rw [afterLedger, dxdLinks_flushLedger]
  simp [portless]

@[simp] theorem dxdLinks_imageAfterLedger (ps : List Nat) (fs : List Frame) (s : State) :
    dxdLinks (imageAfterLedger ps fs s) = dxdLinks s := by
  rw [imageAfterLedger, dxdLinks_flushLedger]
  exact dxdLinks_foldl _ _ _ (fun u f => by simp [portless])

@[simp] theorem dxdLinks_sendAdmission (b : Job) (ne : Nat) (cr : Nat × Nat) (s : State) :
    dxdLinks (sendAdmission b ne cr s) = dxdLinks s := dxdLinks_imageAfterLedger _ _ _

@[simp] theorem dxdLinks_sendCensusImages (b : Job) (s : State) : dxdLinks (sendCensusImages b s) = dxdLinks s := by
  unfold sendCensusImages
  refine dxdLinks_foldl _ _ _ (fun u n => ?_)
  dsimp only
  split
  · exact dxdLinks_imageAfterLedger _ _ _
  · rfl

@[simp] theorem dxdLinks_sendBench (j : Nat) (t : Nat × Nat × Nat) (s : State) : dxdLinks (sendBench j t s) = dxdLinks s := by
  unfold sendBench
  dsimp only
  (repeat' split) <;> simp [portless, -com_tsu, -com_dxd]

@[simp] theorem dxdLinks_benchTargets (j n : Nat) (s : State) : dxdLinks (benchTargets j n s) = dxdLinks s := by
  induction n generalizing s with
  | zero => rfl
  | succ n ih =>
    unfold benchTargets
    (repeat' split)
    · rfl
    · rfl
    · rw [ih, dxdLinks_sendBench]
    · rfl

@[simp] theorem dxdLinks_benchOrDefer (j : Nat) (s : State) : dxdLinks (benchOrDefer j s) = dxdLinks s := by
  unfold benchOrDefer
  dsimp only
  (repeat' split) <;> simp [portless, -com_tsu, -com_dxd]

@[simp] theorem dxdLinks_commitSteps (j : Nat) (s : State) : dxdLinks (commitSteps j s) = dxdLinks s := by
  unfold commitSteps
  split
  · rfl
  · refine dxdLinks_foldl _ _ _ (fun u r => ?_)
    dsimp only
    (repeat' split) <;> simp [portless, -com_tsu, -com_dxd]

@[simp] theorem dxdLinks_sendCallOff (j reason : Nat) (s : State) : dxdLinks (sendCallOff j reason s) = dxdLinks s := by
  unfold sendCallOff
  dsimp only
  (repeat' split) <;> simp [portless, -com_tsu, -com_dxd]

@[simp] theorem dxdLinks_pauseJob (j reason : Nat) (l : List (Nat × Nat × Nat)) (w : Bool) (s : State) :
    dxdLinks (pauseJob j reason l w s) = dxdLinks s := by
  unfold pauseJob
  dsimp only
  (repeat' split) <;> simp [portless, -com_tsu, -com_dxd]

@[simp] theorem dxdLinks_benchMember (kind target reason e : Nat) (s : State) :
    dxdLinks (benchMember kind target reason e s) = dxdLinks s := by
  unfold benchMember
  split
  · exact dxdLinks_pauseJob _ _ _ _ _
  · rfl

@[simp] theorem dxdLinks_benchDxd (target reason : Nat) (s : State) : dxdLinks (benchDxd target reason s) = dxdLinks s := by
  unfold benchDxd
  dsimp only
  split <;> simp [portless, -com_tsu, -com_dxd]

@[simp] theorem dxdLinks_rootReport (r : Report) (s : State) : dxdLinks (rootReport r s) = dxdLinks s := by
  unfold rootReport
  dsimp only
  (repeat' split) <;> simp [portless, -com_tsu, -com_dxd]

@[simp] theorem dxdLinks_fenceReport (kind target reason e : Nat) (s : State) :
    dxdLinks (fenceReport kind target reason e s) = dxdLinks s := by
  unfold fenceReport
  (repeat' split) <;> simp [portless, -com_tsu, -com_dxd]

@[simp] theorem dxdLinks_portEvidence (p : Nat) (hb : Bool) (s : State) : dxdLinks (portEvidence p hb s) = dxdLinks s := by
  unfold portEvidence
  dsimp only
  (repeat' split) <;> simp

@[simp] theorem dxdLinks_heartbeatEvidence (p e : Nat) (f : HeartbeatF) (s : State) :
    dxdLinks (heartbeatEvidence p e f s) = dxdLinks s := by
  unfold heartbeatEvidence
  dsimp only
  (repeat' split) <;> simp

end Sys2Proof.Machine
end

section
/-!
PROOFS. Heartbeats and the loss of a link (O16).
-/

namespace Sys2Proof.Machine

/-! Heartbeats (R87, R178). -/

theorem port_clearSplit (d : Dev) (p period q : Nat) (s : State) : (clearSplit d p period s).port d q = s.port d q := by
  unfold clearSplit
  dsimp only
  split <;> simp

theorem clearSplit_t (d : Dev) (p period : Nat) (s : State) : (clearSplit d p period s).t = s.t := by
  unfold clearSplit
  dsimp only
  split <;> simp

theorem freeRecords_port (q : Nat) (s : State) : (freeRecords s).port .tsu q = s.port .tsu q := rfl

theorem mem_freeRecords_steps (r : StepRec) (s : State) :
    r ∈ (freeRecords s).t.steps ↔ r ∈ s.t.steps ∧ r.active = true := List.mem_filter

/-- A heartbeat waits with the frames that are sent once. -/
theorem enqueue_heartbeat (d : Dev) (p e : Nat) (f : HeartbeatF) (s : State) :
    enqueue d p none ⟨e, .heartbeat f⟩ s =
      modPort d p (fun q => { q with rel := { q.rel with lq := q.rel.lq ++ [⟨e, .heartbeat f⟩] } }) s := rfl

/-- The port of a heartbeat, and the rest of a device that sends one. -/
def heartbeatQueued (d : Dev) (p : Nat) (s : State) : State :=
  let period := (s.com d).tk.bc / 10000 + 1
  clearSplit d p period (modPort d p (fun q => { q with
    hbSentAt := period, hbCount := (q.hbCount + 1) % 65536 })
    (enqueue d p none ⟨ownEpoch d s, .heartbeat (heartbeatFrame d (s.port d p).hbCount s)⟩ s))

theorem heartbeatSend_due (d : Dev) (p : Nat) (s : State) (he : portExists d s p = true) (hl : (s.port d p).live = true)
    (hs : (s.port d p).hbSentAt ≠ (s.com d).tk.bc / 10000 + 1) :
    heartbeatSend d p s = if d = .tsu then freeRecords (heartbeatQueued d p s) else heartbeatQueued d p s := by
  rw [heartbeatSend]
  dsimp only
  rw [if_pos (by simp [he, hl, hs])]
  rfl

theorem port_heartbeatSend (d : Dev) (p q : Nat) (s : State) (he : portExists d s p = true) (hl : (s.port d p).live = true)
    (hs : (s.port d p).hbSentAt ≠ (s.com d).tk.bc / 10000 + 1) :
    (heartbeatSend d p s).port d q = (heartbeatQueued d p s).port d q := by
  rw [heartbeatSend_due d p s he hl hs]
  cases d
  · exact freeRecords_port q _
  · rfl

theorem port_heartbeatQueued (d : Dev) (p : Nat) (s : State) :
    (heartbeatQueued d p s).port d p = { s.port d p with
      hbSentAt := (s.com d).tk.bc / 10000 + 1, hbCount := ((s.port d p).hbCount + 1) % 65536,
      rel := { (s.port d p).rel with lq := (s.port d p).rel.lq ++
        [⟨ownEpoch d s, .heartbeat (heartbeatFrame d (s.port d p).hbCount s)⟩] } } := by
  simp [heartbeatQueued, port_clearSplit, enqueue_heartbeat]

theorem otherPorts_heartbeatQueued (d : Dev) (p : Nat) (s : State) : OtherPorts d p s (heartbeatQueued d p s) := by
  intro q hq
  simp [heartbeatQueued, port_clearSplit, enqueue_heartbeat, port_modPort_ne d p q _ _ hq]

/-- The port after a heartbeat that it takes. -/
def heartbeatTaken (d : Dev) (p : Nat) (h : LinkHdr) (e : Nat) (f : HeartbeatF) (s : State) : State :=
  modPort d p (fun q => { q with
    hbMissed := 0, hbFrom := (s.com d).up, peerHb := some (f, e), probe := q.probe.map (probeBeat e f) })
    (takeLink d p h s)

theorem heartbeatReceive_tsu (p : Nat) (h : LinkHdr) (e : Nat) (f : HeartbeatF) (s : State)
    (he : portExists .tsu s p = true) (hl : (s.port .tsu p).live = true) :
    heartbeatReceive .tsu p h e f s = heartbeatTaken .tsu p h e f s := by
  simp [heartbeatReceive, heartbeatTaken, he, hl]

/-- What a DX-D makes of a heartbeat leaves the links as they are. -/
theorem linksKept_heartbeatReceive_dxd (p : Nat) (h : LinkHdr) (e : Nat) (f : HeartbeatF) (s : State)
    (he : portExists .dxd s p = true) (hl : (s.port .dxd p).live = true) :
    LinksKept .dxd (heartbeatTaken .dxd p h e f s) (heartbeatReceive .dxd p h e f s) := by
  have hjoin : ∀ u, LinksKept .dxd u (heartbeatEvidence p e f (noteJoined p e f u)) := fun u =>
    linksKept_of_dxdLinks (by rw [dxdLinks_heartbeatEvidence]; simp [portless])
  unfold heartbeatReceive
  dsimp only
  rw [if_neg (by simp [he, hl])]
  change LinksKept _ (heartbeatTaken .dxd p h e f s) _
  split
  · exact linksKept_reselect .dxd _
  · split
    · exact hjoin _
    · exact linksKept_of_ports_eq rfl

theorem port_heartbeatTaken (d : Dev) (p : Nat) (h : LinkHdr) (e : Nat) (f : HeartbeatF) (s : State) :
    ∃ r, (heartbeatTaken d p h e f s).port d p = { s.port d p with
      hbMissed := 0, hbFrom := (s.com d).up, peerHb := some (f, e), probe := (s.port d p).probe.map (probeBeat e f),
      rel := r } := by
  obtain ⟨r, hr⟩ := port_takeLink d p h s
  exact ⟨r, by rw [heartbeatTaken, port_modPort_same, hr]⟩

/-! A port goes DOWN (R76, R88). -/

/-- A port that goes DOWN with a reason, its missed heartbeats frozen. -/
def downOf (reason up : Nat) (q : Port) : Port :=
  { (q.toDown up) with downReason := reason, hbMissed := hbMissedNow up q }

/-- What follows the loss of a live link: reselection and the evidence, which leave the links as they are. -/
theorem portDown_of_live (d : Dev) (p reason : Nat) (s : State) (h2 : 2 ≤ (s.port d p).st) (hl : (s.port d p).live = true) :
    LinksKept d (portEvent d p 1 (modPort d p (downOf reason (s.com d).up) s)) (portDown d p reason s) := by
  unfold portDown
  dsimp only
  rw [if_neg (by omega), if_pos hl]
  refine (linksKept_reselect d _).trans ?_
  split
  case isTrue h =>
    obtain ⟨rfl, -⟩ := h
    exact linksKept_of_dxdLinks (dxdLinks_portEvidence _ _ _)
  case isFalse => exact linksKept_of_ports_eq rfl

theorem portDown_of_dead (d : Dev) (p reason : Nat) (s : State) (h2 : 2 ≤ (s.port d p).st) (hl : (s.port d p).live = false) :
    portDown d p reason s = modPort d p (downOf reason (s.com d).up) s := by
  unfold portDown
  dsimp only
  rw [if_neg (by omega), if_neg (by simp [hl])]
  rfl

theorem port_portDown (d : Dev) (p reason : Nat) (s : State) (h2 : 2 ≤ (s.port d p).st) :
    ∃ r, (portDown d p reason s).port d p = { downOf reason (s.com d).up (s.port d p) with
      event := if (s.port d p).live then (s.port d p).event ||| bitW 1 else (s.port d p).event, rel := r } := by
  cases hl : (s.port d p).live
  · exact ⟨_, by rw [portDown_of_dead d p reason s h2 hl, port_modPort_same]; rfl⟩
  · obtain ⟨r, hr⟩ := portDown_of_live d p reason s h2 hl p
    exact ⟨r, by rw [hr, port_portEvent_same, port_modPort_same]; rfl⟩

/-- A loss for another reason than the link's own or its heartbeats gives no evidence (R293). -/
theorem portDown_without_evidence (d : Dev) (p reason : Nat) (s : State) (h2 : 2 ≤ (s.port d p).st)
    (hr : reason ≠ 1 ∧ reason ≠ 2 ∧ reason ≠ 3) : portDown d p reason s =
      if (s.port d p).live then reselect d (portEvent d p 1 (modPort d p (downOf reason (s.com d).up) s))
      else modPort d p (downOf reason (s.com d).up) s := by
  cases hl : (s.port d p).live
  · exact portDown_of_dead d p reason s h2 hl
  · unfold portDown
    dsimp only
    rw [if_neg (by omega), if_pos hl, if_neg (by simp [hr])]
    rfl

theorem otherPorts_portDown (d : Dev) (p reason : Nat) (s : State) (h2 : 2 ≤ (s.port d p).st)
    (hr : reason ≠ 1 ∧ reason ≠ 2 ∧ reason ≠ 3) (hn : d = .tsu → s.t.hd.held = []) :
    OtherPorts d p s (portDown d p reason s) := by
  rw [portDown_without_evidence d p reason s h2 hr]
  split
  · refine .trans (.trans (otherPorts_modPort d p _ s) (otherPorts_portEvent d p 1 _))
      (otherPorts_of_ports_eq p (reselect_ports_of_none_held d _ fun hd => ?_))
    simpa using hn hd
  · exact otherPorts_modPort d p _ s

/-- What the loss of a link without evidence changes at a DX-D. -/
theorem only_portDown_dxd (p reason : Nat) (s : State) (h2 : 2 ≤ (s.port .dxd p).st)
    (hr : reason ≠ 1 ∧ reason ≠ 2 ∧ reason ≠ 3) : Only [.com .dxd .tk, .com .dxd .coreA, .com .dxd .coreB, .com .dxd .ports,
      .com .dxd .msets, .com .dxd .pgEvent, .com .dxd .ic, .com .dxd .hfits, .refs, .hold, .ptp, .attic] s
      (portDown .dxd p reason s) := by
  rw [portDown_without_evidence .dxd p reason s h2 hr]
  split <;> simp [Only]

@[simp] theorem portEvent_up (d : Dev) (p b : Nat) (s : State) : ((portEvent d p b s).com d).up = (s.com d).up := by
  unfold portEvent
  dsimp only
  split <;> simp

/-- A port that raises an event of its own and then goes DOWN (R87, R89). -/
theorem port_portDown_after_event (d : Dev) (p reason b : Nat) (f : Port → Port) (s : State) (h2 : 2 ≤ (f (s.port d p)).st) :
    ∃ r, (portDown d p reason (portEvent d p b (modPort d p f s))).port d p =
      { downOf reason (s.com d).up (f (s.port d p)) with
        event := if (f (s.port d p)).live then (f (s.port d p)).event ||| bitW b ||| bitW 1
          else (f (s.port d p)).event ||| bitW b,
        rel := r } := by
  have hp : (portEvent d p b (modPort d p f s)).port d p =
      { f (s.port d p) with event := (f (s.port d p)).event ||| bitW b } := by simp
  obtain ⟨r, hr⟩ := port_portDown d p reason (portEvent d p b (modPort d p f s)) (by rw [hp]; exact h2)
  refine ⟨r, ?_⟩
  rw [hr, hp]
  simp [downOf, Port.toDown, Port.closed, hbMissedNow, Port.live]

/-- Settles O16: each clause from the port that a heartbeat leaves, and from the port that goes DOWN. -/
theorem portLosses : Obligations.PortLosses := by
  unfold Obligations.PortLosses
  refine ⟨?sent, ?receivedTsu, ?receivedDxd, ?missed, ?lost, ?rate, ?flap⟩
  case sent =>
    intro d p s he hl hs
    refine ⟨_, rfl, ?_⟩
    have hp := (port_heartbeatSend d p p s he hl hs).trans (port_heartbeatQueued d p s)
    refine ⟨by rw [hp], by rw [hp], by rw [hp], ?_, fun q hq => ?_, ?_⟩
    · rintro rfl r
      rw [heartbeatSend_due .tsu p s he hl hs, if_pos rfl, mem_freeRecords_steps]
      simp [heartbeatQueued, clearSplit_t, enqueue_heartbeat]
    · rw [port_heartbeatSend d p q s he hl hs, otherPorts_heartbeatQueued d p s q hq]
    · cases d
      · apply heartbeatSend_tsu_blank <;> decide
      · apply heartbeatSend_dxd_blank <;> decide
  case receivedTsu =>
    intro p h e f s he hl
    refine ⟨_, rfl, ?_⟩
    rw [heartbeatReceive_tsu p h e f s he hl]
    obtain ⟨r, hr⟩ := port_heartbeatTaken .tsu p h e f s
    refine ⟨by rw [hr], by rw [hr]; rfl, by rw [hr], by rw [hr], ?_, ?_⟩
    · exact (otherPorts_takeLink .tsu p h s).trans (otherPorts_modPort .tsu p _ _)
    · exact (only_modPort .tsu p _ s).trans (only_modPort .tsu p _ _)
  case receivedDxd =>
    intro p h e f s he hl
    refine ⟨_, rfl, ?_⟩
    obtain ⟨r, hr⟩ := port_heartbeatTaken .dxd p h e f s
    obtain ⟨r', hr'⟩ := linksKept_heartbeatReceive_dxd p h e f s he hl p
    rw [hr] at hr'
    exact ⟨by rw [hr'], by rw [hr']; rfl, by rw [hr'], by rw [hr'], by apply heartbeatReceive_dxd_blank <;> decide⟩
  case missed =>
    intro d p s he hl hlate
    have h2 : 2 ≤ (s.port d p).st := by
      simp [Port.live] at hl
      omega
    have hall : min 8 (((s.com d).up - (s.port d p).hbFrom) / 10000) = 8 := by omega
    refine ⟨_, rfl, ?_⟩
    obtain ⟨r, hr⟩ := port_portDown_after_event d p 3 3 (fun q => { q with hbMissed := 8 }) s h2
    have hlive : Port.live { s.port d p with hbMissed := 8 } = true := hl
    rw [hlive, if_pos rfl] at hr
    refine ⟨?_, ?_, ?_, ?_, ?_, ?_⟩
    case refine_6 =>
      cases d
      · apply peerFailed_tsu_blank <;> decide
      · apply peerFailed_dxd_blank <;> decide
    all_goals
      unfold peerFailed
      dsimp only
      rw [if_pos (by simp [he, hl, hlate]), hr]
    · rfl
    · rfl
    · simpa [downOf, hbMissedNow, hlive] using hall
    · exact bit_or_of_left _ _ 3 (bit_or_bitW _ 3 (by decide))
    · exact bit_or_bitW _ 1 (by decide)
  case lost =>
    intro d p cause s he h2
    refine ⟨_, rfl, ?_⟩
    have hframe : Only (pick d [.com .tsu .tk, .com .tsu .coreA, .com .tsu .coreB, .com .tsu .ports, .com .tsu .msets,
        .com .tsu .pgEvent, .com .tsu .ic, .com .tsu .hfits, .member, .huddles] [.com .dxd .tk, .com .dxd .coreA,
        .com .dxd .coreB, .com .dxd .ports, .com .dxd .msets, .com .dxd .regs, .com .dxd .pgEvent, .com .dxd .ic,
        .com .dxd .hfits, .refs, .hold, .ptp, .kicks, .census, .scores, .ledger, .referee, .attic]) s (portLoss d p cause s) := by
      cases d
      · apply portLoss_tsu_blank <;> decide
      · apply portLoss_dxd_blank <;> decide
    cases cause
    case signal =>
      have hloss : portLoss d p .signal s = portDown d p 1 (modPort d p (fun q => { q with signal := false }) s) := by
        simp [portLoss, he]
      obtain ⟨r, hr⟩ := port_portDown d p 1 (modPort d p (fun q => { q with signal := false }) s) (by simpa using h2)
      rw [← hloss, port_modPort_same] at hr
      refine ⟨by rw [hr]; rfl, by rw [hr]; rfl, ?_, by rw [hr]; rfl, by rw [hr]; rfl, fun hl => ?_, hframe⟩
      · rw [hr]
        simp [downOf, Port.toDown]
      · have hlive : Port.live { s.port d p with signal := false } = true := hl
        rw [hr]
        simp only [hlive, if_true]
        exact bit_or_bitW _ 1 (by decide)
    case alignment =>
      have hloss : portLoss d p .alignment s = portDown d p 2 s := by simp [portLoss, he]
      obtain ⟨r, hr⟩ := port_portDown d p 2 s h2
      rw [← hloss] at hr
      refine ⟨by rw [hr]; rfl, by rw [hr]; rfl, by rw [hr]; rfl, by rw [hr]; rfl, by rw [hr]; rfl, fun hl => ?_, hframe⟩
      rw [hr]
      simp only [hl, if_true]
      exact bit_or_bitW _ 1 (by decide)
  case rate =>
    intro d p s he h2 hcrc
    refine ⟨_, rfl, ?_⟩
    have hrate : errorRate d p s = portDown d p 4 (portEvent d p 2 (modPort d p (fun q => { q with crcAt := [] }) s)) := by
      unfold errorRate
      dsimp only
      rw [if_pos (by simp [he, h2, hcrc])]
    obtain ⟨r, hr⟩ := port_portDown_after_event d p 4 2 (fun q => { q with crcAt := [] }) s h2
    rw [← hrate] at hr
    refine ⟨by rw [hr]; rfl, by rw [hr]; rfl, ?_, by rw [hr]; rfl, fun hn => ?_, ?_⟩
    · rw [hr]
      dsimp only
      split
      · exact bit_or_of_left _ _ 2 (bit_or_bitW _ 2 (by decide))
      · exact bit_or_bitW _ 2 (by decide)
    · rw [hrate]
      refine .trans (.trans (otherPorts_modPort d p _ s) (otherPorts_portEvent d p 2 _))
        (otherPorts_portDown d p 4 _ (by simpa using h2) (by decide) fun hd => ?_)
      simpa using hn hd
    · cases d
      · apply errorRate_tsu_blank <;> decide
      · rw [hrate]
        exact Only.trans (t := portEvent .dxd p 2 (modPort .dxd p (fun q => { q with crcAt := [] }) s))
          (by simp [Only, pick]) (only_portDown_dxd p 4 _ (by simpa using h2) (by decide))
  case flap =>
    intro d p s he h1 hf h8
    refine ⟨_, rfl, ?_⟩
    have hflap : linkFlap d p s = portEvent d p 7 (modPort d p (fun q => { q with flapHold := true, downReason := 9 }) s) := by
      unfold linkFlap
      dsimp only
      rw [if_pos (by simp [he, h1, hf, h8])]
    refine ⟨by rw [hflap]; simpa using h1, by rw [hflap]; simp, by rw [hflap]; simp, ?_, ?_, ?_⟩
    · rw [hflap, port_portEvent_same]
      exact bit_or_bitW _ 7 (by decide)
    · rw [hflap]
      exact (otherPorts_modPort d p _ s).trans (otherPorts_portEvent d p 7 _)
    · cases d
      · apply linkFlap_tsu_blank <;> decide
      · apply linkFlap_dxd_blank <;> decide

end Sys2Proof.Machine
end
section
/-!
PROOFS. What the DX-D's selection (R114, R115, R125) leaves as it is, whatever it chooses: every source but the twin's, the last
phase error, what HT is said to be, the history, and the oscillator's own fit. As for hall time, the frame laws apply once every
other part is blanked.
-/

namespace Sys2Proof.Machine

/-- The parts that hold nothing of it. -/
def unchosen (p : Part) : Bool :=
  decide (p ≠ .refs ∧ p ≠ .hold ∧ p ≠ .com .dxd .tk ∧ p ≠ .com .dxd .coreA ∧ p ≠ .com .dxd .hfits)

/-- The oscillator's own fit runs (R105). -/
def oscFitted (s : State) : Bool := (s.hfit .dxd fitOsc).any (fun g => g.ch == 198)

/-- What a selection keeps of the state before it. -/
structure Chosen (s t : State) : Prop where
  src : ∀ n, n ≠ 0xE → tabGet {} t.x.rf.src n = tabGet {} s.x.rf.src n
  phase : t.dc.coreA.e = s.dc.coreA.e
  valid : t.dc.tk.htValid = s.dc.tk.htValid
  traceable : t.dc.tk.traceable = s.dc.tk.traceable
  originLocal : t.dc.tk.originLocal = s.dc.tk.originLocal
  utc : t.dc.tk.utcOffset = s.dc.tk.utcOffset
  history : ∀ b, bit s.x.hold.history b = true → bit t.x.hold.history b = true
  oscFit : oscFitted s = true → oscFitted t = true

/-- `Chosen`, of a state with every other part blanked. -/
@[simp] abbrev Chose (s t : State) : Prop := Chosen s (t.blank unchosen)

theorem chose_iff (s t : State) : Chose s t ↔ Chosen s t := by
  constructor <;> exact fun ⟨h1, h2, h3, h4, h5, hu, h6, h7⟩ => ⟨h1, h2, h3, h4, h5, hu, h6, h7⟩

theorem chose_refl (s : State) : Chose s s := (chose_iff s s).mpr ⟨fun _ _ => rfl, rfl, rfl, rfl, rfl, rfl, fun _ h => h, id⟩

theorem Chosen.trans {s t u : State} (h : Chosen s t) (h' : Chosen t u) : Chosen s u :=
  ⟨fun n hn => (h'.src n hn).trans (h.src n hn), h'.phase.trans h.phase, h'.valid.trans h.valid,
    h'.traceable.trans h.traceable, h'.originLocal.trans h.originLocal, h'.utc.trans h.utc, fun b hb => h'.history b (h.history b hb),
    fun ho => h'.oscFit (h.oscFit ho)⟩

theorem chose_choice {r s t : State} (c : Prop) [Decidable c] (hs : Chose r s) (ht : Chose r t) :
    Chose r (if c then s else t) := by split <;> assumption

@[simp] theorem chosen_ite {r s t : State} (c : Prop) [Decidable c] (hs : Chosen r s) (ht : Chosen r t) :
    Chosen r (if c then s else t) := by split <;> assumption

/-- A look-up in a table whose entries are changed one by one. -/
theorem tabGet_map_option {α β : Type} (g : Option α → Option β) (hg : g none = none) (l : List (Nat × Option α)) (k : Nat) :
    tabGet none (l.map (fun x => (x.1, g x.2))) k = g (tabGet none l k) := by
  induction l with
  | nil => exact hg.symm
  | cons x l ih =>
    simp only [List.map_cons, tabGet]
    split
    · rfl
    · exact ih

/-- A run that is marked where it has begun (R104). -/
def voidedRun (x : MSet) : MSet :=
  if x.st = 2 ∧ 0 < x.n ∧ 0 < x.count ∧ x.count < x.n then { x with voidTime := true } else x

section
variable {r s : State} (hs : Chose r s)
include hs

@[simp] theorem chose_modTk (f : Time → Time)
    (hf : ∀ k, (f k).htValid = k.htValid ∧ (f k).traceable = k.traceable ∧ (f k).originLocal = k.originLocal ∧
      (f k).utcOffset = k.utcOffset) :
    Chose r (modTk .dxd f s) := by
  obtain ⟨h1, h2, h3, h4, h5, hu, h6, h7⟩ := (chose_iff r s).mp hs
  obtain ⟨f1, f2, f3, f4⟩ := hf s.dc.tk
  exact (chose_iff _ _).mpr ⟨h1, h2, f1.trans h3, f2.trans h4, f3.trans h5, f4.trans hu, h6, h7⟩

@[simp] theorem chose_modCore (f : Core → Core) (hf : ∀ k, (f k).e = k.e) : Chose r (modCore .dxd 0 f s) := by
  obtain ⟨h1, h2, h3, h4, h5, hu, h6, h7⟩ := (chose_iff r s).mp hs
  exact (chose_iff _ _).mpr ⟨h1, (hf _).trans h2, h3, h4, h5, hu, h6, h7⟩

@[simp] theorem chose_modRf (f : Ref → Ref) (hf : ∀ k, (f k).src = k.src) : Chose r (modRf f s) := by
  obtain ⟨h1, h2, h3, h4, h5, hu, h6, h7⟩ := (chose_iff r s).mp hs
  exact (chose_iff _ _).mpr ⟨fun n hn => by rw [← h1 n hn, modRf_x, hf], h2, h3, h4, h5, hu, h6, h7⟩

@[simp] theorem chose_modTwin (f : RefSrc → RefSrc) : Chose r (modSrc 0xE f s) := by
  obtain ⟨h1, h2, h3, h4, h5, hu, h6, h7⟩ := (chose_iff r s).mp hs
  refine (chose_iff _ _).mpr ⟨fun n hn => ?_, h2, h3, h4, h5, hu, h6, h7⟩
  rw [← h1 n hn]
  exact tabGet_tabMod_ne _ _ _ _ _ hn

@[simp] theorem chose_modHold (f : Hold → Hold) (hf : ∀ k b, bit k.history b = true → bit (f k).history b = true) :
    Chose r (modHold f s) := by
  obtain ⟨h1, h2, h3, h4, h5, hu, h6, h7⟩ := (chose_iff r s).mp hs
  exact (chose_iff _ _).mpr ⟨h1, h2, h3, h4, h5, hu, fun b hb => hf _ b (h6 b hb), h7⟩

@[simp] theorem chose_history (b : Nat) : Chose r (history b s) := by
  have h := chose_modHold hs (fun k => { k with history := k.history ||| bitW b }) (fun k c hc => bit_or_of_left _ _ c hc)
  simpa [history, unchosen] using h

@[simp] theorem chose_startFit (k ch fnom e ms w : Nat) (hk : k ≠ fitOsc) : Chose r (startFit .dxd k ch fnom e ms w s) := by
  obtain ⟨h1, h2, h3, h4, h5, hu, h6, h7⟩ := (chose_iff r s).mp hs
  refine (chose_iff _ _).mpr ⟨h1, h2, h3, h4, h5, hu, h6, fun ho => ?_⟩
  have := h7 ho
  simpa [oscFitted, State.hfit, startFit, tabGet_tabSet_ne _ _ _ _ _ _ hk.symm] using this

@[simp] theorem chose_dropFit (k : Nat) (hk : k ≠ fitOsc) : Chose r (dropFit .dxd k s) := by
  obtain ⟨h1, h2, h3, h4, h5, hu, h6, h7⟩ := (chose_iff r s).mp hs
  refine (chose_iff _ _).mpr ⟨h1, h2, h3, h4, h5, hu, h6, fun ho => ?_⟩
  have := h7 ho
  simpa [oscFitted, State.hfit, dropFit, tabGet_tabSet_ne _ _ _ _ _ _ hk.symm] using this

omit hs in
theorem voidFits_hfits : (voidFits .dxd s).dc.hfits =
    s.dc.hfits.map (fun x => (x.1, x.2.map (fun f => { f with run := voidedRun f.run }))) := rfl

/-- A change of hall time marks the fits that run, whatever their channel (R104). -/
@[simp] theorem chose_voidFits : Chose r (voidFits .dxd s) := by
  obtain ⟨h1, h2, h3, h4, h5, hu, h6, h7⟩ := (chose_iff r s).mp hs
  refine (chose_iff _ _).mpr ⟨h1, h2, h3, h4, h5, hu, h6, fun ho => ?_⟩
  have hmap := tabGet_map_option (Option.map (fun f : HwFit => { f with run := voidedRun f.run })) rfl s.dc.hfits fitOsc
  have hosc := h7 ho
  simp only [oscFitted, State.hfit, com_dxd] at hosc ⊢
  rw [voidFits_hfits, hmap, Option.any_map]
  exact hosc

@[simp] theorem chose_raiseTime (b : Nat) : Chose r (raiseTime .dxd b s) := by
  have h := chose_voidFits hs
  simpa [raiseTime, unchosen] using h

@[simp] theorem chose_startFirstFit : Chose r (startFirstFit .dxd 0 s) := by
  have hk : fitFirst 0 ≠ fitOsc := by decide
  unfold startFirstFit
  dsimp only
  refine chose_choice _ ?_ (chose_choice _ ?_ (chose_choice _ ?_ ?_)) <;> simp [hs, hk, -com_tsu, -com_dxd]

@[simp] theorem chose_follow (n : Nat) (viaList : Bool) : Chose r (follow n viaList s) := by
  unfold follow
  refine chose_choice _ hs ?_
  extract_lets s1 s2 s3 s4
  have h1 : Chose r s1 := chose_modRf hs _ (by exact fun _ => rfl)
  have h2 : Chose r s2 := chose_modCore (chose_modTk h1 _ (by exact fun _ => ⟨rfl, rfl, rfl, rfl⟩)) _ (by exact fun _ => rfl)
  have h3 : Chose r s3 := chose_choice _ (chose_history h2 8) h2
  have h4 : Chose r s4 := chose_choice _ (chose_startFirstFit h3) h3
  exact chose_choice _ (chose_history (chose_raiseTime h4 3) 7) h4

@[simp] theorem chose_leaveTwin : Chose r (leaveTwin s) := by
  unfold leaveTwin
  split <;> exact chose_follow hs _ _

/-- The twin is lost: it alone changes among the sources. -/
theorem chose_twinLost : Chose r (sourceLost 0xE s) := by
  have hmarked : ∀ f, Chose r (history 5 (modSrc 0xE f s)) := fun f => chose_history (chose_modTwin hs f) 5
  unfold sourceLost
  refine chose_choice _ hs (chose_choice _ (hmarked _) ?_)
  exact chose_leaveTwin (chose_history (hmarked _) 6)

theorem chose_rootSelect : Chose r (rootSelect s) := by
  unfold rootSelect
  refine chose_choice _ hs ?_
  extract_lets s1 s2 s3 s4
  have h1 : Chose r s1 := chose_choice _ (chose_choice _ hs (chose_modTwin hs _)) (chose_twinLost hs)
  have h2 : Chose r s2 := chose_choice _ (chose_follow h1 _ _) h1
  have h3 : Chose r s3 := chose_choice _ h2 (chose_choice _ (chose_leaveTwin h2) (chose_choice _ h2
    (chose_leaveTwin (chose_history h2 6))))
  have h4 : Chose r s4 := chose_choice _ (chose_follow (chose_modRf h3 _ (by exact fun _ => rfl)) _ _) h3
  refine chose_choice _ ?_ h4
  split
  · exact chose_follow h4 _ _
  · exact h4

theorem chose_dropForceDxd : Chose r (dropForceDxd s) := by
  unfold dropForceDxd
  split
  · exact chose_choice _ hs (chose_modTk hs _ (by exact fun _ => ⟨rfl, rfl, rfl, rfl⟩))
  · exact hs

theorem chose_startPull (x : Int) : Chose r (startPull .dxd x s) := by
  have hpull := chose_modTk hs (fun k => { k with r := x, rPart := 0, pulling := x != 0 }) (by exact fun _ => ⟨rfl, rfl, rfl, rfl⟩)
  refine chose_choice _ (chose_modHold ?_ _ (fun k b hb => bit_or_of_left _ _ b hb)) hpull
  simpa [unchosen] using hpull

theorem chose_setRootHoldover (b : Bool) : Chose r (setRootHoldover .dxd b s) := by
  have hshown := chose_modTk hs (fun k => { k with rootHoldover := b }) (by exact fun _ => ⟨rfl, rfl, rfl, rfl⟩)
  refine chose_choice _ hs ?_
  simpa [unchosen] using hshown

theorem chose_setTimeState (n : Nat) : Chose r (setTimeState .dxd n s) := by
  have hshown := chose_modTk hs (fun k => { k with state := n }) (by exact fun _ => ⟨rfl, rfl, rfl, rfl⟩)
  refine chose_choice _ hs ?_
  simpa [unchosen] using hshown

theorem chose_showDxdState : Chose r (showDxdState s) :=
  chose_setTimeState (chose_choice _ (chose_history (chose_modHold hs _ (by exact fun _ _ => id)) 15) hs) _

theorem chose_enterHoldover : Chose r (enterHoldover s) := by
  unfold enterHoldover
  extract_lets h y pick s1
  have h1 : Chose r s1 := chose_modCore hs _ (by exact fun _ => rfl)
  refine chose_history ?_ 9
  have h2 : Chose r (modHold (fun h => { h with src := pick.2 }) s1) := chose_modHold h1 _ (by exact fun _ _ => id)
  refine chose_modHold ?_ _ (by exact fun _ _ => id)
  simpa [unchosen] using h2

/-- A selection of the DX-D keeps what `Chosen` says. -/
theorem chose_dxdReselect : Chose r (dxdReselect s) := by
  unfold dxdReselect
  extract_lets s0 k n s2 again off s3 s4 s1 st was s5 s6
  have h0 : Chose r s0 := chose_dropForceDxd (chose_rootSelect hs)
  have h2 : Chose r s2 := chose_modTk h0 _ (by exact fun _ => ⟨rfl, rfl, rfl, rfl⟩)
  have h3 : Chose r s3 := chose_choice _ (chose_history h2 7)
    (chose_choice _ (chose_modRf (chose_history h2 7) _ (by exact fun _ => rfl)) (chose_startPull (chose_history h2 7) off))
  have h4 : Chose r s4 := chose_modCore h3 _ (by exact fun _ => rfl)
  have h1 : Chose r s1 := chose_choice _ h0
    (chose_choice _ h0 (chose_raiseTime (chose_choice _ (chose_history h4 6) h4) 3))
  have h5 : Chose r s5 := chose_choice _ (chose_enterHoldover h1) (chose_choice _ (chose_modCore h1 _ (by exact fun _ => rfl)) h1)
  have h6 : Chose r s6 := chose_choice _ (chose_setRootHoldover h5 _) (chose_choice _ (chose_setRootHoldover h5 _) h5)
  exact chose_showDxdState h6

end

end Sys2Proof.Machine
end

section
/-!
PROOFS. References: samples, qualification and loss (O19).
-/

namespace Sys2Proof.Machine

/-! A device's hall time that an operation does not move. -/

theorem dxd_clock_of_watch {s t : State} (h : watch t = watch s) :
    t.dc.tk.sec = s.dc.tk.sec ∧ t.dc.tk.ns = s.dc.tk.ns ∧ t.dc.tk.frac = s.dc.tk.frac := by
  have hclock : clockOf t.dc.tk = clockOf s.dc.tk := congrArg Watch.dxd h
  simpa [clockOf] using hclock

theorem chosen_dxdReselect (s : State) : Chosen s (dxdReselect s) := (chose_iff _ _).mp (chose_dxdReselect (chose_refl s))

/-! Samples (R110, R116). -/

@[simp] theorem core_modCore_same (d : Dev) (c : Nat) (f : Core → Core) (s : State) :
    (modCore d c f s).core d c = f (s.core d c) := by
  unfold State.core modCore
  split <;> simp

@[simp] theorem core_history (d : Dev) (b c : Nat) (s : State) : (history b s).core d c = s.core d c := by
  simp [State.core, history]

/-- What one sample makes of its core (R45, R121, R122). -/
def sampled (e : Int) (kp ki limit out : Nat) (k : Core) : Core :=
  if k.running then
    { lockCount limit out e k with acc := (servo k.acc e kp ki).1, y := (servo k.acc e kp ki).2.1 }
  else lockCount limit out e k

theorem core_servoSample (d : Dev) (c : Nat) (e : Int) (kp ki limit out : Nat) (s : State) :
    (servoSample d c e kp ki limit out s).core d c = sampled e kp ki limit out (s.core d c) := by
  have hk : (modCore d c (fun k => if k.running then
      { lockCount limit out e k with acc := (servo (s.core d c).acc e kp ki).1, y := (servo (s.core d c).acc e kp ki).2.1 }
      else lockCount limit out e k) s).core d c = sampled e kp ki limit out (s.core d c) := core_modCore_same d c _ s
  unfold servoSample
  dsimp only
  split
  · rw [core_history, hk]
  · exact hk

theorem sampled_phase (e : Int) (kp ki limit out : Nat) (k : Core) : (sampled e kp ki limit out k).e = e := by
  unfold sampled
  split <;> rfl

theorem holdAccum_coreA (s : State) : (holdAccum s).dc.coreA = s.dc.coreA := by
  unfold holdAccum
  split <;> simp

theorem rootServo_phase (e : Int) (s : State) : (rootServo e s).dc.coreA.e = e := by
  unfold rootServo
  rw [holdAccum_coreA]
  exact (congrArg Core.e (core_servoSample .dxd 0 e _ _ _ _ _)).trans (sampled_phase _ _ _ _ _ _)

/-- A sample of a 10 MHz input that the root already follows. -/
theorem sampleInput_followed (n stamp : Nat) (s : State) (hn : n = 0 ∨ n = 1) (hf : s.x.rf.fresh = false) :
    sampleInput n stamp s = rootServo (wrap100 ((stamp : Int) - inputDelay n s) - s.dc.tk.r) s := by
  have hi : inputOf n = n := by rcases hn with rfl | rfl <;> rfl
  have h3 : ¬ 3 ≤ n := by omega
  simp [sampleInput, hf, hi, h3]

/-- HT is loaded, and only its rate and its record say more (R43, R47, R116). -/
theorem loadHt_dxd_tk (lsb : Int) (s : State) :
    (loadHt .dxd lsb s).dc.tk = { s.dc.tk.load lsb with nco := 0, delta := 0 } := by
  have hmoved : ∀ dlt, (moveRefs dlt (modTk .dxd (fun k => { k.load lsb with nco := 0, delta := 0 }) s)).dc.tk =
      { s.dc.tk.load lsb with nco := 0, delta := 0 } := fun dlt => by rw [moveRefs_dc]; rfl
  have hnone : ∀ u, (loadHt.noRecord u).dc.tk = u.dc.tk := fun u => dc_tk_eq (by simp [but])
  have hrecord : ∀ f g u, (modHold f (modCore .dxd 0 g u)).dc.tk = u.dc.tk := fun f g u => dc_tk_eq (by simp [but])
  unfold loadHt
  dsimp only
  (repeat' split)
  · rw [hrecord, hmoved]
  · rw [hnone, hmoved]
  · rw [hnone, hmoved]

theorem setTrace_tk (d : Dev) (tr ol : Bool) (s : State) :
    ((setTrace d tr ol s).com d).tk = { (s.com d).tk with traceable := tr, originLocal := ol } := by
  unfold setTrace
  split
  case isTrue h =>
    obtain ⟨htr, hol⟩ := h
    simp [← htr, ← hol]
  case isFalse => simp

/-- A load of whole seconds. -/
theorem load_seconds (k : Time) (n : Nat) : (k.load ((n : Int) * secLsb)).sec = n % 2 ^ 48 ∧
    (k.load ((n : Int) * secLsb)).ns = 0 ∧ (k.load ((n : Int) * secLsb)).frac = 0 := by
  simp only [Time.load, Time.addLsb, secLsb]
  omega

/-- The root's first load under a local origin (R43, R116). -/
theorem rootLoad_local (n : Nat) (s : State) (hc : s.dc.tk.sideConflict = false) :
    (rootLoad false ((n : Int) * secLsb) s).dc.tk.htValid = true ∧
      (rootLoad false ((n : Int) * secLsb) s).dc.tk.sec = n % 2 ^ 48 ∧
      (rootLoad false ((n : Int) * secLsb) s).dc.tk.ns = 0 ∧ (rootLoad false ((n : Int) * secLsb) s).dc.tk.frac = 0 ∧
      (rootLoad false ((n : Int) * secLsb) s).dc.tk.originLocal = true ∧
      (rootLoad false ((n : Int) * secLsb) s).dc.tk.traceable = false := by
  have htk := setTrace_tk .dxd false true (loadHt .dxd ((n : Int) * secLsb) s)
  simp only [com_dxd, loadHt_dxd_tk] at htk
  obtain ⟨hsec, hns, hfrac⟩ := load_seconds s.dc.tk n
  have hload : rootLoad false ((n : Int) * secLsb) s =
      dxdReselect (setTrace .dxd false true (loadHt .dxd ((n : Int) * secLsb) s)) := by simp [rootLoad, hc]
  rw [hload]
  generalize setTrace .dxd false true _ = u at htk ⊢
  obtain ⟨-, -, hvalid, htrace, hlocal, -, -, -⟩ := chosen_dxdReselect u
  obtain ⟨usec, uns, ufrac⟩ := dxd_clock_of_watch (watch_dxdReselect u)
  rw [hvalid, htrace, hlocal, usec, uns, ufrac, htk]
  exact ⟨rfl, hsec, hns, hfrac, rfl, rfl⟩

/-! Sources (R112, R113). -/

@[simp] theorem src_modSrc_same (n : Nat) (f : RefSrc → RefSrc) (s : State) :
    tabGet {} (modSrc n f s).x.rf.src n = f (tabGet {} s.x.rf.src n) := tabGet_tabMod_same _ _ _ _

theorem src_modSrc_ne (n j : Nat) (f : RefSrc → RefSrc) (s : State) (h : j ≠ n) :
    tabGet {} (modSrc n f s).x.rf.src j = tabGet {} s.x.rf.src j := tabGet_tabMod_ne _ _ _ _ _ h

@[simp] theorem history_rf (b : Nat) (s : State) : (history b s).x.rf = s.x.rf := by simp [history]

theorem history_keeps (b c : Nat) (s : State) (h : bit s.x.hold.history c = true) :
    bit (history b s).x.hold.history c = true := by
  simpa [history] using bit_or_of_left _ _ c h

/-- What the loss of a source leaves of the others, of the history, and of the registers. -/
structure SourcesKept (n : Nat) (s t : State) : Prop where
  src : ∀ j, j ≠ 0xE → j ≠ n → tabGet {} t.x.rf.src j = tabGet {} s.x.rf.src j
  history : ∀ b, bit s.x.hold.history b = true → bit t.x.hold.history b = true

theorem SourcesKept.trans {n : Nat} {s t u : State} (h : SourcesKept n s t) (h' : SourcesKept n t u) : SourcesKept n s u :=
  ⟨fun j hj hn => (h'.src j hj hn).trans (h.src j hj hn), fun b hb => h'.history b (h.history b hb)⟩

theorem Chosen.sourcesKept {n : Nat} {s t : State} (h : Chosen s t) : SourcesKept n s t :=
  ⟨fun j hj _ => h.src j hj, h.history⟩

theorem sourcesKept_modSrc (n : Nat) (f : RefSrc → RefSrc) (s : State) : SourcesKept n s (modSrc n f s) :=
  ⟨fun j _ hj => src_modSrc_ne n j f s hj, fun _ h => h⟩

theorem sourcesKept_history (n b : Nat) (s : State) : SourcesKept n s (history b s) :=
  ⟨fun _ _ _ => by rw [history_rf], fun c h => history_keeps b c s h⟩

/-- A source that is lost shows LOST and its bit of the history; the device may follow another (R113, R114). -/
theorem sourceLost_qualified (n : Nat) (s : State) (hn : n < 0xE) (hq : s.qual n = 2) :
    tabGet {} (sourceLost n s).x.rf.src n = { tabGet {} s.x.rf.src n with qual := 3, good := 0, misses := 0 } ∧
      bit (sourceLost n s).x.hold.history n = true ∧ SourcesKept n s (sourceLost n s) := by
  have hne : n ≠ 0xE := by omega
  have hmark : ∀ s0 : State, s0.x.rf = s.x.rf → s0.x.hold = s.x.hold → ∀ t,
      Chosen (history n (modSrc n (fun r => { r with qual := 3, good := 0, misses := 0 }) s0)) t →
      tabGet {} t.x.rf.src n = { tabGet {} s.x.rf.src n with qual := 3, good := 0, misses := 0 } ∧
        bit t.x.hold.history n = true ∧ SourcesKept n s t := by
    intro s0 hrf hhold t ht
    refine ⟨?_, ht.history n (history_history n _ (by omega)), ?_⟩
    · rw [ht.src n hne, history_rf, src_modSrc_same, hrf]
    · have h0 : SourcesKept n s s0 := ⟨fun j _ _ => by rw [hrf], fun b hb => by rw [hhold]; exact hb⟩
      exact ((h0.trans (sourcesKept_modSrc n _ s0)).trans (sourcesKept_history n n _)).trans ht.sourcesKept
  unfold sourceLost
  rw [if_neg (by simp [hq])]
  extract_lets s0 s1
  have hs1 : s1 = history n (modSrc n (fun r => { r with qual := 3, good := 0, misses := 0 }) s0) := by
    simp only [s1, if_neg hne]
  have hrf : s0.x.rf = s.x.rf := by
    simp only [s0]
    split <;> simp
  have hhold : s0.x.hold = s.x.hold := by
    simp only [s0]
    split <;> simp
  rw [if_neg hne]
  refine hmark s0 hrf hhold _ ?_
  rw [← hs1]
  have h1 := chose_refl s1
  refine (chose_iff _ _).mp (chose_choice _ h1 ?_)
  split
  · exact chose_follow h1 _ _
  · exact chose_follow h1 _ _

theorem sourcesKept_sourceLost (n : Nat) (s : State) (hn : n < 0xE) : SourcesKept n s (sourceLost n s) := by
  by_cases hq : s.qual n = 2
  · exact (sourceLost_qualified n s hn hq).2.2
  · unfold sourceLost
    rw [if_pos hq]
    exact ⟨fun _ _ _ => rfl, fun _ h => h⟩

/-- A 10 MHz input carries source `n` and one other, in one of the two orders (R109). -/
theorem inputCodes_pair (n : Nat) (s : State) (hn : n < 5) (h2 : n ≠ 2) :
    ∃ m, m ≠ n ∧ m < 5 ∧ (inputCodes (inputOf n) s = [n, m] ∨ inputCodes (inputOf n) s = [m, n]) := by
  have hcodes : inputCodes (inputOf n) s = [inputOf n, 3 + inputOf n] ∨ inputCodes (inputOf n) s = [3 + inputOf n, inputOf n] := by
    unfold inputCodes
    split
    · exact .inl rfl
    · exact .inr rfl
  have hcases : n = 0 ∨ n = 1 ∨ n = 3 ∨ n = 4 := by omega
  rcases hcases with rfl | rfl | rfl | rfl
  · exact ⟨3, by decide, by decide, hcodes⟩
  · exact ⟨4, by decide, by decide, hcodes⟩
  · exact ⟨0, by decide, by decide, hcodes.symm⟩
  · exact ⟨1, by decide, by decide, hcodes.symm⟩

theorem sourcesKept_refl (n : Nat) (s : State) : SourcesKept n s s := ⟨fun _ _ _ => rfl, fun _ h => h⟩

theorem sourcesKept_choice {n : Nat} {r s t : State} (c : Prop) [Decidable c] (hs : SourcesKept n r s) (ht : SourcesKept n r t) :
    SourcesKept n r (if c then s else t) := by split <;> assumption

theorem sourcesKept_judgeFit (ppt : Option Int) (n : Nat) (s : State) (hn : n < 0xE) : SourcesKept n s (judgeFit ppt n s) := by
  have hsrc := fun f u => sourcesKept_modSrc n f u
  unfold judgeFit markQualified
  extract_lets q inside src s1
  refine sourcesKept_choice _ (sourcesKept_choice _ (sourcesKept_refl n s) ?_)
    (sourcesKept_choice _ (sourcesKept_choice _ (sourcesKept_choice _ ?_ (hsrc _ s)) (hsrc _ s)) (sourcesKept_refl n s))
  · exact (sourcesKept_history n 12 s).trans (sourcesKept_sourceLost n _ hn)
  · exact (hsrc _ s).trans (hsrc _ _)

theorem judgeFit_reg (ppt : Option Int) (n a : Nat) (s : State) : (judgeFit ppt n s).reg .dxd a = s.reg .dxd a := by
  have hregs : (judgeFit ppt n s).dc.regs = s.dc.regs := dc_regs_eq (by simp [but])
  have hfuse : (judgeFit ppt n s).tc.fuse = s.tc.fuse := tc_fuse_eq (by simp [but])
  simp only [State.reg, com_dxd, hregs, hfuse]

/-- A fold over both sources of an input judges each once; the other's turn leaves a source as it is. -/
theorem judged_pair (n : Nat) (ppt : Option Int) (s : State) (hn : n < 5) (h2 : n ≠ 2) :
    ∃ u, tabGet {} u.x.rf.src n = tabGet {} s.x.rf.src n ∧ (∀ a, u.reg .dxd a = s.reg .dxd a) ∧
      tabGet {} ((inputCodes (inputOf n) s).foldl (fun s c => judgeFit ppt c s) s).x.rf.src n =
        tabGet {} (judgeFit ppt n u).x.rf.src n ∧
      ∀ b, bit (judgeFit ppt n u).x.hold.history b = true →
        bit ((inputCodes (inputOf n) s).foldl (fun s c => judgeFit ppt c s) s).x.hold.history b = true := by
  obtain ⟨m, hm, hm5, hcodes⟩ := inputCodes_pair n s hn h2
  rcases hcodes with h | h <;> rw [h] <;> simp only [List.foldl_cons, List.foldl_nil]
  · have hother := sourcesKept_judgeFit ppt m (judgeFit ppt n s) (by omega)
    exact ⟨s, rfl, fun _ => rfl, hother.src n (by omega) hm.symm, hother.history⟩
  · have hother := sourcesKept_judgeFit ppt m s (by omega)
    exact ⟨judgeFit ppt m s, hother.src n (by omega) hm.symm, fun a => judgeFit_reg ppt m a s, rfl, fun _ h => h⟩

/-- A good second counts, and the last of QUAL qualifies its source (R112). -/
theorem judgeFit_good (n : Nat) (ppt : Int) (s : State) (hq : s.qual n = 1) (hin : ppt.natAbs ≤ freqLimitPpb s * 1000)
    (hedge : 3 ≤ n ∨ ((tabGet {} s.x.rf.src n).q.isSome = true ∧ (tabGet {} s.x.rf.src n).secEdges = 1 ∧
      (tabGet {} s.x.rf.src n).secBad = false)) :
    (tabGet {} (judgeFit (some ppt) n s).x.rf.src n).good = (tabGet {} s.x.rf.src n).good + 1 ∧
      (judgeFit (some ppt) n s).qual n = if qualSeconds s ≤ (tabGet {} s.x.rf.src n).good + 1 then 2 else 1 := by
  have hgood : (3 ≤ n || ((tabGet {} s.x.rf.src n).q.isSome && (tabGet {} s.x.rf.src n).secEdges == 1 &&
      !(tabGet {} s.x.rf.src n).secBad)) = true := by
    rcases hedge with h | ⟨hq', he, hb⟩
    · simp [h]
    · simp [hq', he, hb]
  unfold judgeFit
  dsimp only
  rw [if_neg (by omega), if_pos hq, if_pos (by simp [hin, hgood])]
  split
  · exact ⟨by simp [markQualified], by simp [State.qual, markQualified]⟩
  · exact ⟨by simp, by simpa [State.qual] using hq⟩

theorem judgeFit_inside (n : Nat) (y : Option Int) (s : State) (hq : s.qual n = 2)
    (hin : ∀ ppt, y = some ppt → ppt.natAbs ≤ freqLimitPpb s * 1000) : judgeFit y n s = s := by
  unfold judgeFit
  dsimp only
  rw [if_pos hq]
  cases y with
  | none => simp
  | some ppt => simp [hin ppt rfl]

theorem judgeFit_outside (n : Nat) (ppt : Int) (s : State) (hq : s.qual n = 2) (hout : freqLimitPpb s * 1000 < ppt.natAbs) :
    judgeFit (some ppt) n s = sourceLost n (history 12 s) := by
  unfold judgeFit
  dsimp only
  rw [if_pos hq, if_neg (by simp; omega)]

/-! Lost edges (R113). -/

theorem lost_qualified (n : Nat) (s : State) (hn : n < 0xE) (hq : s.qual n = 2) :
    tabGet {} (lost n s).x.rf.src n = { tabGet {} s.x.rf.src n with qual := 3, good := 0, misses := 0 } ∧
      bit (lost n s).x.hold.history n = true ∧ SourcesKept n s (lost n s) := by
  obtain ⟨hsrc, hhist, hkept⟩ := sourceLost_qualified n s hn hq
  have hsel := chosen_dxdReselect (sourceLost n s)
  unfold lost
  exact ⟨(hsel.src n (by omega)).trans hsrc, hsel.history n hhist, hkept.trans hsel.sourcesKept⟩

theorem sourcesKept_loseEdges (n : Nat) (s : State) (hn : n < 0xE) : SourcesKept n s (loseEdges n s) := by
  unfold loseEdges
  split
  case isTrue hq => exact (lost_qualified n s hn hq).2.2
  case isFalse => exact sourcesKept_choice _ (sourcesKept_modSrc n _ s) (sourcesKept_refl n s)

theorem loseEdges_src (n : Nat) (s : State) (hn : n < 0xE) (hq : s.qual n = 1 ∨ s.qual n = 2) :
    (loseEdges n s).qual n = (if s.qual n = 1 ∧ (tabGet {} s.x.rf.src n).everQual = false then 0 else 3) ∧
      (tabGet {} (loseEdges n s).x.rf.src n).good = 0 := by
  unfold loseEdges
  rcases hq with hq | hq
  · rw [if_neg (by omega), if_pos hq]
    have hq' : (tabGet {} s.x.rf.src n).qual = 1 := hq
    cases he : (tabGet {} s.x.rf.src n).everQual <;> simp [State.qual, he, hq']
  · rw [if_pos hq]
    obtain ⟨hsrc, -, -⟩ := lost_qualified n s hn hq
    rw [if_neg (by omega), State.qual, hsrc]
    exact ⟨rfl, rfl⟩

/-- Both sources of an input lose their edges; the other's turn leaves a source as it is. -/
theorem loseEdges_pair (n : Nat) (s : State) (hn : n < 5) (h2 : n ≠ 2) :
    ∃ u, tabGet {} u.x.rf.src n = tabGet {} s.x.rf.src n ∧
      tabGet {} ((inputCodes (inputOf n) s).foldl (fun s c => loseEdges c s) s).x.rf.src n =
        tabGet {} (loseEdges n u).x.rf.src n := by
  obtain ⟨m, hm, hm5, hcodes⟩ := inputCodes_pair n s hn h2
  rcases hcodes with h | h <;> rw [h] <;> simp only [List.foldl_cons, List.foldl_nil]
  · exact ⟨s, rfl, (sourcesKept_loseEdges m (loseEdges n s) (by omega)).src n (by omega) hm.symm⟩
  · exact ⟨loseEdges m s, (sourcesKept_loseEdges m s (by omega)).src n (by omega) hm.symm, rfl⟩

/-! Fits and inputs (R105, R112). -/

theorem fitComplete_input (n : Nat) (y : Option Int) (s : State) (hr : rootRuns s = true) (hn : n < 5) (h2 : n ≠ 2)
    (hy : fitEnd .dxd (fitInput (inputOf n)) s = some y) :
    fitComplete n s = dxdReselect (startInputFit (inputOf n) (modSrc (inputOf n) (fun r => { r with
      secEdges := 0, secBad := false }) ((inputCodes (inputOf n) s).foldl (fun s c => judgeFit y c s) s))) := by
  unfold fitComplete
  rw [if_neg (by omega), if_neg (by simp [hr, h2]; omega)]
  dsimp only
  rw [hy]

/-- What a fit leaves of its source is what its judgement left, but for the edges it counts next. -/
theorem fitComplete_src (n : Nat) (y : Option Int) (s : State) (hr : rootRuns s = true) (hn : n < 5) (h2 : n ≠ 2)
    (hy : fitEnd .dxd (fitInput (inputOf n)) s = some y) :
    ∃ u, tabGet {} u.x.rf.src n = tabGet {} s.x.rf.src n ∧ (∀ a, u.reg .dxd a = s.reg .dxd a) ∧
      (tabGet {} (fitComplete n s).x.rf.src n).good = (tabGet {} (judgeFit y n u).x.rf.src n).good ∧
      (fitComplete n s).qual n = (judgeFit y n u).qual n ∧
      ∀ b, bit (judgeFit y n u).x.hold.history b = true → bit (fitComplete n s).x.hold.history b = true := by
  obtain ⟨u, husrc, huregs, hfold, hhist⟩ := judged_pair n y s hn h2
  refine ⟨u, husrc, huregs, ?_⟩
  rw [fitComplete_input n y s hr hn h2 hy]
  generalize (inputCodes (inputOf n) s).foldl (fun s c => judgeFit y c s) s = v at hfold hhist ⊢
  have hsel := chosen_dxdReselect (startInputFit (inputOf n) (modSrc (inputOf n) (fun r => { r with
    secEdges := 0, secBad := false }) v))
  have hmark : ∃ e b, tabGet {} (modSrc (inputOf n) (fun r => { r with secEdges := 0, secBad := false }) v).x.rf.src n =
      { tabGet {} v.x.rf.src n with secEdges := e, secBad := b } := by
    by_cases hi : n = inputOf n
    · rw [← hi]
      exact ⟨0, false, src_modSrc_same n _ v⟩
    · exact ⟨_, _, src_modSrc_ne _ n _ v hi⟩
  obtain ⟨e, b, hmark⟩ := hmark
  have hsrc := (hsel.src n (by omega)).trans hmark
  unfold State.qual
  rw [hsrc, hfold]
  exact ⟨rfl, rfl, fun c hc => hsel.history c (hhist c hc)⟩

theorem beginQualify_absent (n : Nat) (s : State) (hq : s.qual n = 0 ∨ s.qual n = 3) :
    beginQualify n s = modSrc n (fun r => { r with
      qual := 1, good := 0, q := none, misses := 0, edges := 0, secEdges := 0, secBad := false }) s := if_pos hq

theorem sourcesKept_beginQualify (n : Nat) (s : State) : SourcesKept n s (beginQualify n s) :=
  sourcesKept_choice _ (sourcesKept_modSrc n _ s) (sourcesKept_refl n s)

/-- The parts that a selection of the DX-D may change, and what the references do before it. -/
def selectionParts : List Part := [.com .dxd .tk, .com .dxd .coreA, .com .dxd .coreB, .com .dxd .msets, .com .dxd .pgEvent,
  .com .dxd .ic, .com .dxd .hfits, .refs, .hold, .ptp, .attic]

theorem ppsWindowEnd_missed (n : Nat) (s : State) (hr : rootRuns s = true) (hn : n < 2)
    (hs : (tabGet {} s.x.rf.src n).ppsSeen = false) (hq : s.qual n = 2) : ppsWindowEnd n s =
      if 2 ≤ (tabGet {} s.x.rf.src n).misses + 1 then
        lost n (history 13 (modSrc n (fun r => { r with misses := r.misses + 1 }) s))
      else history 13 (modSrc n (fun r => { r with misses := r.misses + 1 }) s) := by
  have hq' : (tabGet {} s.x.rf.src n).qual = 2 := hq
  unfold ppsWindowEnd
  rw [if_neg (by simp [hr]; omega)]
  dsimp only
  rw [if_neg (by simp [hs]), if_pos hq']

theorem todEdge_qual (up : Nat) (r : RefSrc) : (todEdge up r).qual = r.qual := by
  unfold todEdge
  (repeat' split) <;> rfl

/-- An edge of 1PPS, HT loaded: its source notes it (R110, R111). -/
theorem ppsEdge_loaded (n stamp stamp10 : Nat) (s : State) (hr : rootRuns s = true) (hn : n < 2) (hv : s.dc.tk.htValid = true) :
    ∃ f, ppsEdge n stamp stamp10 s = modSrc n f s ∧
      (∀ r, (f r).p = wrapSec ((stamp : Int) - inputDelay n s)) ∧ (∀ r, (f r).q = some ((stamp : Int) - stamp10)) ∧
      (∀ r, (f r).ppsSeen = decide (((stamp : Int) - stamp10).natAbs ≤ (ppsWindow s).natAbs)) ∧
      ∀ r, (f r).qual = r.qual := by
  unfold ppsEdge
  rw [if_neg (by simp [hr]; omega)]
  extract_lets raw p q win src inside steady s1
  rw [if_neg (by simp [s1, modSrc, hv])]
  exact ⟨_, rfl, fun _ => rfl, fun _ => rfl, fun _ => rfl, fun r => todEdge_qual _ r⟩

theorem qualified_qual (n : Nat) (s : State) (hn : n ≠ 0xE) : (qualified n s).qual n = 2 := by
  have hsel := (chosen_dxdReselect (markQualified n s)).src n hn
  unfold State.qual qualified
  rw [hsel]
  simp [markQualified]

/-- LOCAL is qualified at once (R113). -/
theorem inputsPresent_local (s : State) (hr : rootRuns s = true) (hq : s.qual 5 = 0 ∨ s.qual 5 = 3) :
    ∃ u, inputsPresent 5 s = qualified 5 u ∧ u.x.rf = s.x.rf := by
  unfold inputsPresent
  rw [if_pos rfl]
  extract_lets s1
  have hrf : s1.x.rf = s.x.rf := by
    simp only [s1]
    split <;> simp [startOscFit, startFit]
  have hruns : rootRuns s1 = true := by
    rw [← hr]
    simp only [s1]
    split
    · rfl
    · simp [startOscFit, startFit, rootRuns, inCellar]
  exact ⟨s1, if_pos ⟨hruns, by simpa only [State.qual, hrf] using hq⟩, hrf⟩

/-- Another source's inputs make it QUALIFYING (R112, R113). -/
theorem inputsPresent_source (n : Nat) (s : State) (hr : rootRuns s = true) (hn : n < 5) (h9 : n ≠ 2 ∨ s.x.pt.i1.state = 9)
    (hq : s.qual n = 0 ∨ s.qual n = 3) :
    tabGet {} (inputsPresent n s).x.rf.src n = { tabGet {} s.x.rf.src n with
      qual := 1, good := 0, q := none, misses := 0, edges := 0, secEdges := 0, secBad := false } ∧
      Only [.refs, .com .dxd .hfits] s (inputsPresent n s) := by
  have hbegin : tabGet {} (beginQualify n s).x.rf.src n = { tabGet {} s.x.rf.src n with
      qual := 1, good := 0, q := none, misses := 0, edges := 0, secEdges := 0, secBad := false } := by
    rw [beginQualify_absent n s hq]
    exact src_modSrc_same n _ s
  have hframe : Only [.refs, .com .dxd .hfits] s (inputsPresent n s) := by
    unfold inputsPresent
    dsimp only
    rw [if_neg (by omega)]
    (repeat' split) <;> simp [Only]
  refine ⟨?_, hframe⟩
  unfold inputsPresent
  rw [if_neg (by omega), if_neg (by simp [hr])]
  by_cases h2 : n = 2
  · subst h2
    rw [if_pos rfl, if_pos (by simpa using h9)]
    exact hbegin
  · rw [if_neg h2, if_pos hn]
    extract_lets i s1
    have hs1 : tabGet {} s1.x.rf.src n = tabGet {} (beginQualify n s).x.rf.src n := by
      simp only [s1]
      by_cases hlow : n < 2
      · have hi : i = n := by
          have hcases : n = 0 ∨ n = 1 := by omega
          rcases hcases with rfl | rfl <;> rfl
        rw [if_pos hlow]
        exact (sourcesKept_beginQualify (3 + i) _).src n (by omega) (by omega)
      · have hi : 3 + i = n := by
          have hcases : n = 3 ∨ n = 4 := by omega
          rcases hcases with rfl | rfl <;> rfl
        rw [if_neg hlow, hi]
    split
    · exact hs1.trans hbegin
    · exact hs1.trans hbegin

/-- Settles O19: samples by the phase error that the selection keeps, sources by what their loss and their judgement leave. -/
theorem referenceInputs : Obligations.ReferenceInputs := by
  unfold Obligations.ReferenceInputs
  refine ⟨?off, ?input, ?local_, ?edge, ?seen, ?missed, ?good, ?judged, ?lost, ?present, ?noPtp, ?osc, ?oscEnd⟩
  case off =>
    intro stamp s h
    simp [exec, execReferenceSample, referenceSample, h]
  case input =>
    intro stamp s u hr hbc hu hf hon hv hfresh
    refine ⟨_, rfl, ?_⟩
    have hn : u.x.rf.followed = 0 ∨ u.x.rf.followed = 1 := hf
    have hsample : referenceSample stamp s = dxdReselect (rootServo
        (wrap100 ((stamp : Int) - inputDelay u.x.rf.followed u) - u.dc.tk.r) u) := by
      rw [← sampleInput_followed _ stamp u hn hfresh]
      simp [referenceSample, hr, hbc, hu, hon, hn, hv]
    have hframe : Only [.com .dxd .tk, .com .dxd .coreA, .com .dxd .coreB, .com .dxd .msets, .com .dxd .regs,
        .com .dxd .pgEvent, .com .dxd .ic, .com .dxd .hfits, .refs, .hold, .ptp, .attic] s (referenceSample stamp s) := by
      apply referenceSample_blank <;> decide
    rw [hsample] at hframe ⊢
    have hsel := chosen_dxdReselect (rootServo (wrap100 ((stamp : Int) - inputDelay u.x.rf.followed u) - u.dc.tk.r) u)
    have hw : watch (rootServo (wrap100 ((stamp : Int) - inputDelay u.x.rf.followed u) - u.dc.tk.r) u) = watch u := by
      simp [unwatched]
    obtain ⟨hsec, hns, hfrac⟩ := dxd_clock_of_watch ((watch_dxdReselect _).trans hw)
    exact ⟨hsel.phase.trans (rootServo_phase _ _), hsec, hns, hfrac, hframe⟩
  case local_ =>
    intro stamp s u hr hbc hu h3 h5 hon hv hc
    refine ⟨_, rfl, ?_⟩
    have hload : referenceSample stamp s = rootLoad false ((localSec u : Int) * secLsb) u := by
      have hn : u.x.rf.followed = 3 ∨ u.x.rf.followed = 4 ∨ u.x.rf.followed = 5 := by omega
      rcases hn with hn | hn | hn <;> simp [referenceSample, hr, hbc, hu, hon, hn, hv]
    have hframe : Only [.com .dxd .tk, .com .dxd .coreA, .com .dxd .coreB, .com .dxd .msets, .com .dxd .regs,
        .com .dxd .pgEvent, .com .dxd .ic, .com .dxd .hfits, .refs, .hold, .ptp, .attic] s (referenceSample stamp s) := by
      apply referenceSample_blank <;> decide
    obtain ⟨hvalid, hsec, hns, hfrac, hlocal, htrace⟩ := rootLoad_local (localSec u) u hc
    rw [hload] at hframe ⊢
    exact ⟨hvalid, hsec, hns, hfrac, hlocal, htrace, hframe⟩
  case edge =>
    intro n stamp stamp10 s hr hn hv
    refine ⟨_, rfl, ?_⟩
    obtain ⟨f, hf, hp, hq, hseen, hqual⟩ := ppsEdge_loaded n stamp stamp10 s hr hn hv
    rw [hf]
    simp only [src_modSrc_same, hp, hq, hseen, hqual]
    exact ⟨trivial, trivial, trivial, trivial, fun j hj => src_modSrc_ne n j _ s hj, by simp [Only]⟩
  case seen =>
    intro n s hr hn hs
    refine ⟨_, rfl, ?_⟩
    have hend : ppsWindowEnd n s = modSrc n (fun r => { r with ppsSeen := false, misses := 0 }) s := by
      have h2 : ¬ 2 ≤ n := by omega
      simp [ppsWindowEnd, hr, h2, hs]
    rw [hend]
    exact ⟨src_modSrc_same n _ s, fun j hj => src_modSrc_ne n j _ s hj, by simp [Only]⟩
  case missed =>
    intro n s hr hn hs hq
    refine ⟨_, rfl, ?_⟩
    have hframe : Only selectionParts s (ppsWindowEnd n s) := by apply ppsWindowEnd_blank <;> decide
    have hend := ppsWindowEnd_missed n s hr hn hs hq
    rw [hend] at hframe ⊢
    generalize hu : history 13 (modSrc n (fun r => { r with misses := r.misses + 1 }) s) = u at hframe ⊢
    have husrc : tabGet {} u.x.rf.src n = { tabGet {} s.x.rf.src n with misses := (tabGet {} s.x.rf.src n).misses + 1 } := by
      rw [← hu, history_rf, src_modSrc_same]
    have hu13 : bit u.x.hold.history 13 = true := hu ▸ history_history 13 _ (by decide)
    have huq : u.qual n = 2 := by rw [State.qual, husrc]; exact hq
    by_cases hm : (tabGet {} s.x.rf.src n).misses = 0
    · rw [if_neg (by omega)] at hframe ⊢
      refine ⟨hu13, fun _ => ⟨huq, ?_⟩, fun h1 => by omega, hframe⟩
      rw [husrc]
      simp [hm]
    · rw [if_pos (by omega)] at hframe ⊢
      obtain ⟨hsrc, hn', hkept⟩ := lost_qualified n u (by omega) huq
      refine ⟨hkept.history 13 hu13, fun h0 => absurd h0 hm, fun _ => ⟨?_, hn'⟩, hframe⟩
      rw [State.qual, hsrc]
  case good =>
    intro n ppt s hr hn h2 hq hy hin hedge
    refine ⟨_, rfl, ?_⟩
    obtain ⟨u, husrc, hureg, hgood, hqual, -⟩ := fitComplete_src n (some ppt) s hr hn h2 hy
    have hfreq : freqLimitPpb u = freqLimitPpb s := by simp [freqLimitPpb, State.regF, hureg]
    have hsecs : qualSeconds u = qualSeconds s := by simp [qualSeconds, State.regF, hureg]
    obtain ⟨hjg, hjq⟩ := judgeFit_good n ppt u (by rw [State.qual, husrc]; exact hq) (by rw [hfreq]; exact hin)
      (by rw [husrc]; exact hedge)
    rw [husrc] at hjg hjq
    rw [hsecs] at hjq
    exact ⟨hgood.trans hjg, hqual.trans hjq, by apply fitComplete_blank <;> decide⟩
  case judged =>
    intro n y s hr hn h2 hq hy
    refine ⟨_, rfl, ?_⟩
    obtain ⟨u, husrc, hureg, -, hqual, hhist⟩ := fitComplete_src n y s hr hn h2 hy
    have hfreq : freqLimitPpb u = freqLimitPpb s := by simp [freqLimitPpb, State.regF, hureg]
    have huq : u.qual n = 2 := by rw [State.qual, husrc]; exact hq
    refine ⟨fun hin => ?_, fun ppt hppt hout => ?_, by apply fitComplete_blank <;> decide⟩
    · rw [hqual, judgeFit_inside n y u huq (by rw [hfreq]; exact hin), huq]
    · subst hppt
      have hnoted : (history 12 u).qual n = 2 := by rw [State.qual, history_rf]; exact huq
      obtain ⟨hsrc, -, hkept⟩ := sourceLost_qualified n (history 12 u) (by omega) hnoted
      have hj := judgeFit_outside n ppt u huq (by rw [hfreq]; exact hout)
      rw [hqual, hj, State.qual, hsrc]
      refine ⟨rfl, hhist 12 ?_⟩
      rw [hj]
      exact hkept.history 12 (history_history 12 u (by decide))
  case lost =>
    intro n m s hr hn h2 hm hm2 him hq
    refine ⟨_, rfl, ?_⟩
    have hloss : edgeLoss n s = dropFit .dxd (fitInput (inputOf n))
        ((inputCodes (inputOf n) s).foldl (fun s c => loseEdges c s) s) := by
      unfold edgeLoss
      rw [if_neg (by simp [hr, h2]; omega)]
    obtain ⟨u, husrc, hfold⟩ := loseEdges_pair m s hm hm2
    rw [him] at hfold
    have hq' : u.qual m = 1 ∨ u.qual m = 2 := by rw [State.qual, husrc]; exact hq
    obtain ⟨hqual, hgood⟩ := loseEdges_src m u (by omega) hq'
    have hframe : Only selectionParts s (edgeLoss n s) := by apply edgeLoss_blank <;> decide
    rw [hloss] at hframe ⊢
    have huq : u.qual m = s.qual m := by rw [State.qual, husrc]; rfl
    rw [huq, husrc] at hqual
    have hsrc : tabGet {} (dropFit .dxd (fitInput (inputOf n))
        ((inputCodes (inputOf n) s).foldl (fun s c => loseEdges c s) s)).x.rf.src m =
        tabGet {} (loseEdges m u).x.rf.src m := hfold
    rw [State.qual, hsrc]
    exact ⟨hqual, hgood, by simp [State.hfit, dropFit], hframe⟩
  case present =>
    intro n s hr hn h9 hq
    refine ⟨_, rfl, ?_⟩
    have hframe : Only selectionParts s (inputsPresent n s) := by apply inputsPresent_blank <;> decide
    by_cases h5 : n = 5
    · subst h5
      refine ⟨?_, fun h => absurd h (by decide), hframe⟩
      obtain ⟨u, hu, hrf⟩ := inputsPresent_local s hr hq
      rw [hu]
      exact qualified_qual 5 u (by decide)
    · obtain ⟨hsrc, hless⟩ := inputsPresent_source n s hr (by omega) h9 hq
      rw [State.qual, hsrc, if_neg h5]
      exact ⟨rfl, fun _ => ⟨rfl, hless⟩, hframe⟩
  case noPtp =>
    intro s h
    simp [exec, execReferenceInputsPresent, inputsPresent, h]
  case osc =>
    intro s ho hc hf
    refine ⟨_, rfl, ?_⟩
    have hfit : oscFitted (startOscFit s) = true := by simp [oscFitted, State.hfit, startOscFit, startFit, newFit]
    have hpresent : inputsPresent 5 s = if rootRuns (startOscFit s) ∧ ((startOscFit s).qual 5 = 0 ∨ (startOscFit s).qual 5 = 3)
        then qualified 5 (startOscFit s) else startOscFit s := by simp [inputsPresent, ho, hc, hf]
    refine ⟨?_, by apply inputsPresent_blank <;> decide⟩
    change oscFitted (inputsPresent 5 s) = true
    rw [hpresent]
    split
    · exact (chosen_dxdReselect (markQualified 5 (startOscFit s))).oscFit hfit
    · exact hfit
  case oscEnd =>
    intro y s ho hc hy
    refine ⟨_, rfl, ?_⟩
    have hend : fitComplete 5 s = startOscFit (modHold (fun h => { h with oscPpt := y }) s) := by
      simp [fitComplete, ho, hc, oscFitEnd, hy]
    rw [hend]
    exact ⟨by simp [startOscFit, startFit], by simp [startOscFit, startFit, State.hfit],
      by simp [startOscFit, startFit], by simp [Only]⟩

end Sys2Proof.Machine
end
section
/-!
PROOFS. What a TSU's reselection (R44, R48) leaves as it is: what HT is said to be, and what its cores measured and drive; and the
census entries that it holds until it is LOCKED.
-/

namespace Sys2Proof.Machine

/-- What HT is said to be (R42, R46). -/
def flagsOf (k : Time) : Bool × Int × Bool × Bool × Bool :=
  (k.htValid, k.utcOffset, k.traceable, k.originLocal, k.rootHoldover)

/-- What a core measured and drives, and how it runs. -/
def driveOf (k : Core) : Int × Int × Int × Bool := (k.e, k.acc, k.y, k.fit)

/-- What a TSU's reselection leaves of its time and of both cores. -/
structure Timed where
  flags : Bool × Int × Bool × Bool × Bool
  a : Int × Int × Int × Bool
  b : Int × Int × Int × Bool

/-- The parts that hold nothing of it. -/
def untimed (p : Part) : Bool := decide (p ≠ .com .tsu .tk ∧ p ≠ .com .tsu .coreA ∧ p ≠ .com .tsu .coreB)

def timedOf (s : State) : Timed := ⟨flagsOf s.tc.tk, driveOf s.tc.coreA, driveOf s.tc.coreB⟩

/-- `timedOf`, read from the state with every other part blanked. -/
@[simp] abbrev timed (s : State) : Timed := timedOf (s.blank untimed)

theorem timed_eq (s : State) : timed s = timedOf s := rfl

@[simp] theorem timedOf_ite (c : Prop) [Decidable c] (s t : State) :
    timedOf (if c then s else t) = if c then timedOf s else timedOf t := by split <;> rfl

@[simp] theorem timed_modTk (f : Time → Time) (s : State) (hf : ∀ k, flagsOf (f k) = flagsOf k) :
    timed (modTk .tsu f s) = timed s := by
  rw [timed_eq, timed_eq]
  simp [timedOf, hf]

@[simp] theorem timed_modCore (c : Nat) (f : Core → Core) (s : State) (hf : ∀ k, driveOf (f k) = driveOf k) :
    timed (modCore .tsu c f s) = timed s := by
  unfold modCore
  rw [timed_eq, timed_eq]
  split <;> simp [timedOf, hf]

theorem timed_coreFollow (c : Nat) (s : State) : timed (coreFollow c s) = timed s := by
  unfold coreFollow
  dsimp only
  (repeat' split)
  · rfl
  · exact timed_modCore c _ s (fun _ => rfl)
  · rfl
  · rfl
  · exact timed_modCore c _ s (fun _ => rfl)

theorem timed_dropForce (s : State) : timed (dropForce s) = timed s := by
  unfold dropForce
  (repeat' split)
  · rfl
  · exact timed_modTk _ s (fun _ => rfl)
  · rfl

theorem timed_setTimeState (n : Nat) (s : State) : timed (setTimeState .tsu n s) = timed s := by
  have hshown : timed (modTk .tsu (fun k => { k with state := n }) s) = timed s := timed_modTk _ s (fun _ => rfl)
  unfold setTimeState
  split
  · rfl
  · rw [← hshown]
    simp [untimed]

theorem timed_tsuReselect (s : State) : timed (tsuReselect s) = timed s := by
  have hsend : ∀ u, timed (sendHeld u) = timed u := fun u => by simp [untimed]
  have hnote : ∀ u, timed (noteSourceless u) = timed u := fun u => by simp [untimed]
  have hraise : ∀ u, timed (raiseTime .tsu 3 u) = timed u := fun u => by simp [untimed]
  unfold tsuReselect
  extract_lets s1 s2 k n apart r s3
  have h2 : timed s2 = timed s := by
    rw [timed_dropForce, hnote, timed_coreFollow, timed_coreFollow]
  have h3 : timed s3 = timed s := by
    simp only [s3]
    split
    · exact h2
    · exact (hraise _).trans ((timed_modTk _ s2 (by exact fun _ => rfl)).trans h2)
  rw [hsend, timed_setTimeState, h3]

theorem flags_of_timed {s t : State} (h : timed t = timed s) : flagsOf t.tc.tk = flagsOf s.tc.tk := congrArg Timed.flags h

theorem drive_of_timed {s t : State} (h : timed t = timed s) (c : Nat) :
    driveOf (t.core .tsu c) = driveOf (s.core .tsu c) := by
  unfold State.core
  split
  · exact congrArg Timed.a h
  · exact congrArg Timed.b h

theorem tsu_clock_of_watch {s t : State} (h : watch t = watch s) :
    t.tc.tk.sec = s.tc.tk.sec ∧ t.tc.tk.ns = s.tc.tk.ns ∧ t.tc.tk.frac = s.tc.tk.frac := by
  have hclock : clockOf t.tc.tk = clockOf s.tc.tk := congrArg Watch.tsu h
  simpa [clockOf] using hclock

/-- A TSU's reselection moves no HT and changes nothing of what HT is said to be. -/
theorem tsuReselect_time (s : State) :
    (tsuReselect s).tc.tk.sec = s.tc.tk.sec ∧ (tsuReselect s).tc.tk.ns = s.tc.tk.ns ∧
      (tsuReselect s).tc.tk.frac = s.tc.tk.frac ∧ (tsuReselect s).tc.tk.htValid = s.tc.tk.htValid ∧
      (tsuReselect s).tc.tk.utcOffset = s.tc.tk.utcOffset ∧ (tsuReselect s).tc.tk.traceable = s.tc.tk.traceable ∧
      (tsuReselect s).tc.tk.originLocal = s.tc.tk.originLocal ∧
      (tsuReselect s).tc.tk.rootHoldover = s.tc.tk.rootHoldover := by
  obtain ⟨hsec, hns, hfrac⟩ := tsu_clock_of_watch (watch_tsuReselect s)
  have hflags := flags_of_timed (timed_tsuReselect s)
  simp only [flagsOf, Prod.mk.injEq] at hflags
  exact ⟨hsec, hns, hfrac, hflags⟩

theorem core_tsu_zero (s : State) : s.core .tsu 0 = s.tc.coreA := rfl

theorem core_tsu_one (s : State) : s.core .tsu 1 = s.tc.coreB := rfl

theorem tsuReselect_core (c : Nat) (s : State) :
    ((tsuReselect s).core .tsu c).e = (s.core .tsu c).e ∧ ((tsuReselect s).core .tsu c).acc = (s.core .tsu c).acc ∧
      ((tsuReselect s).core .tsu c).y = (s.core .tsu c).y ∧ ((tsuReselect s).core .tsu c).fit = (s.core .tsu c).fit := by
  have hdrive := drive_of_timed (timed_tsuReselect s) c
  simpa only [driveOf, Prod.mk.injEq] using hdrive

/-! Census entries held until LOCKED (R44, log 99). -/

theorem answerCensus_locked (c : CensusUpF) (s : State) (h : s.tc.tk.state = 2) :
    (answerCensus c s).t.hd = s.t.hd ∧ (answerCensus c s).tc.tk.state = 2 := by
  unfold answerCensus
  rw [if_pos h]
  exact ⟨rfl, h⟩

theorem foldl_answerCensus_locked (l : List CensusUpF) (s : State) (h : s.tc.tk.state = 2) :
    (l.foldl (fun s c => answerCensus c s) s).t.hd = s.t.hd := by
  induction l generalizing s with
  | nil => rfl
  | cons c l ih =>
    obtain ⟨hhd, hst⟩ := answerCensus_locked c s h
    rw [List.foldl_cons, ih _ hst, hhd]

theorem sendHeld_tk (s : State) : (sendHeld s).tc.tk = s.tc.tk := tc_tk_eq (by simp [but])

/-- A LOCKED TSU holds no entry. -/
theorem sendHeld_held (s : State) (h : (sendHeld s).tc.tk.state = 2) : (sendHeld s).t.hd.held = [] := by
  rw [sendHeld_tk] at h
  unfold sendHeld
  rw [if_pos h, foldl_answerCensus_locked _ _ (by simpa using h)]
  rfl

theorem tsuReselect_held (s : State) (h : (tsuReselect s).tc.tk.state = 2) : (tsuReselect s).t.hd.held = [] := by
  obtain ⟨u, hu, -, -⟩ := tsuReselect_eq_sendHeld s
  rw [hu] at h ⊢
  exact sendHeld_held u h

/-- A source is one by its port alone (R44). -/
theorem isSource_of_linksKept {d : Dev} {s t : State} (p : Nat) (h : LinksKept d s t) : isSource d p t = isSource d p s := by
  obtain ⟨r, hr⟩ := h p
  unfold isSource
  rw [hr]

end Sys2Proof.Machine
end

section
/-!
PROOFS. TIME frames (O8).
-/

namespace Sys2Proof.Machine

/-! Flags and offset of an accepted frame (R42, R46). -/

/-- What a device says of HT once it has copied a frame. -/
def copied (f : TimeF) (k : Time) : Time :=
  { k with
    utcOffset := f.utcOffset, utcValid := f.utcValid,
    stepPend := if f.stepPending ∧ k.stepped ≠ some (f.sec, f.stepDelta) then some (f.sec, f.stepDelta) else k.stepPend,
    stepped := if f.stepPending then k.stepped else none,
    traceable := f.traceable, originLocal := f.originLocal, rootHoldover := f.rootHoldover }

theorem setRootHoldover_tk (d : Dev) (b : Bool) (s : State) :
    ((setRootHoldover d b s).com d).tk = { (s.com d).tk with rootHoldover := b } := by
  unfold setRootHoldover
  split
  case isTrue h => simp [← h]
  case isFalse => simp

theorem copyTime_tk (d : Dev) (f : TimeF) (s : State) : ((copyTime d f s).com d).tk = copied f (s.com d).tk := by
  simp [copyTime, setRootHoldover_tk, setTrace_tk, copied]

theorem copyTime_core (d : Dev) (f : TimeF) (c : Nat) (s : State) : (copyTime d f s).core d c = s.core d c := by
  have ha : ((copyTime d f s).com d).coreA = (s.com d).coreA := by
    unfold copyTime setRootHoldover setTrace
    dsimp only
    (repeat' split) <;> simp
  have hb : ((copyTime d f s).com d).coreB = (s.com d).coreB := by
    unfold copyTime setRootHoldover setTrace
    dsimp only
    (repeat' split) <;> simp
  simp only [State.core, ha, hb]

theorem copyTime_ports (d : Dev) (f : TimeF) (s : State) : ((copyTime d f s).com d).ports = (s.com d).ports := by
  unfold copyTime setRootHoldover setTrace
  dsimp only
  (repeat' split) <;> simp

theorem loadHt_tsu_tk (lsb : Int) (s : State) :
    (loadHt .tsu lsb s).tc.tk = { s.tc.tk.load lsb with nco := 0, delta := 0 } := rfl

theorem loadHt_tsu_fit (lsb : Int) (s : State) :
    (loadHt .tsu lsb s).tc.coreA.fit = true ∧ (loadHt .tsu lsb s).tc.coreB.fit = true := ⟨rfl, rfl⟩

/-! A frame that is accepted (R36, R72). -/

/-- The device with the frame noted at its port. -/
def timeNoted (d : Dev) (p : Nat) (h : LinkHdr) (f : TimeF) (s : State) : State :=
  modPort d p (fun q => { q with lastTime := some f }) (takeLink d p h s)

/-- What a device makes of a frame from a source. -/
def timeTaken (d : Dev) (p : Nat) (f : TimeF) (rx : Nat) (diff : Int) (s : State) : State :=
  match d with
  | .tsu => timeTsu p f rx diff s
  | .dxd => timeDxd p f rx s

section
variable (d : Dev) (p : Nat) (h : LinkHdr) (f : TimeF) (s : State)

theorem port_timeNoted : ∃ r, (timeNoted d p h f s).port d p = { s.port d p with lastTime := some f, rel := r } := by
  obtain ⟨r, hr⟩ := port_takeLink d p h s
  exact ⟨r, by rw [timeNoted, port_modPort_same, hr]⟩

theorem otherPorts_timeNoted : OtherPorts d p s (timeNoted d p h f s) :=
  (otherPorts_takeLink d p h s).trans (otherPorts_modPort d p _ _)

@[simp] theorem timeNoted_tk (e : Dev) : ((timeNoted d p h f s).com e).tk = (s.com e).tk := by
  cases d <;> cases e <;> rfl

@[simp] theorem timeNoted_core (e : Dev) (c : Nat) : (timeNoted d p h f s).core e c = s.core e c := by
  cases d <;> cases e <;> rfl

@[simp] theorem timeNoted_t : (timeNoted d p h f s).t = s.t := by cases d <;> rfl

@[simp] theorem timeNoted_x : (timeNoted d p h f s).x = s.x := by cases d <;> rfl

@[simp] theorem inCellar_timeNoted (e : Dev) : inCellar e (timeNoted d p h f s) = inCellar e s := by
  cases d <;> cases e <;> rfl

@[simp] theorem sofStamped_timeNoted : sofStamped d p (timeNoted d p h f s) = sofStamped d p s := by cases d <;> rfl

@[simp] theorem rxDelay_timeNoted : rxDelay d p (timeNoted d p h f s) = rxDelay d p s := by
  obtain ⟨r, hr⟩ := port_timeNoted d p h f s
  unfold rxDelay
  rw [hr]
  cases d
  · simp [isPair]
  · simp [isPair]

@[simp] theorem timeOffset_timeNoted (rx : Nat) : timeOffset d p f rx (timeNoted d p h f s) = timeOffset d p f rx s := by
  simp [timeOffset]

@[simp] theorem timeLoad_timeNoted : timeLoad d p f (timeNoted d p h f s) = timeLoad d p f s := by
  simp [timeLoad]

/-- The sender of the frame is a source (R44). -/
theorem isSource_timeNoted (hst : (s.port d p).st = 5) (hf : f.state = 1 ∨ f.state = 2 ∨ (f.level = 0 ∧ f.state = 3)) :
    isSource d p (timeNoted d p h f s) = true := by
  obtain ⟨r, hr⟩ := port_timeNoted d p h f s
  unfold isSource
  rw [hr]
  simpa [hst, or_assoc] using hf

theorem timeReceive_corrupt (rx : Nat) (diff : Int) (he : portExists d s p = true) (hl : (s.port d p).live = true)
    (hbad : 1000000000 ≤ f.ns ∨ f.reserved ≠ 0) : timeReceive d p h f rx diff s = crcError d p s := by
  simp only [timeReceive, he, hl, hbad]
  simp

theorem timeReceive_source (rx : Nat) (diff : Int) (he : portExists d s p = true) (hst : (s.port d p).st = 5)
    (hc : inCellar d s = false) (hns : f.ns < 1000000000) (hres : f.reserved = 0)
    (hf : f.state = 1 ∨ f.state = 2 ∨ (f.level = 0 ∧ f.state = 3)) : timeReceive d p h f rx diff s =
      reselect d (timeTaken d p f rx diff (timeNoted d p h f s)) := by
  have hlive : (s.port d p).live = true := by simp [Port.live, hst]
  have hok : ¬(1000000000 ≤ f.ns ∨ f.reserved ≠ 0) := by omega
  have hsrc := isSource_timeNoted d p h f s hst hf
  unfold timeReceive
  dsimp only
  rw [if_neg (by simp [he, hlive]), if_neg hok, if_neg (by simp [hst, hc])]
  change (if (!isSource d p (timeNoted d p h f s)) = true then _ else _) = _
  rw [if_neg (by simp [hsrc])]
  cases d <;> rfl

end

/-! At a TSU. -/

theorem sampled_running (e : Int) (kp ki limit out : Nat) (k : Core) (h : k.running = true) :
    (sampled e kp ki limit out k).acc = (servo k.acc e kp ki).1 ∧
      (sampled e kp ki limit out k).y = (servo k.acc e kp ki).2.1 := by
  rw [sampled, if_pos h]
  exact ⟨rfl, rfl⟩

theorem timeTsu_cold (p : Nat) (f : TimeF) (rx : Nat) (diff : Int) (s : State) (hv : s.tc.tk.htValid = false)
    (hc : inCellar .tsu s = false) :
    timeTsu p f rx diff s = copyTime .tsu f (loadHt .tsu (timeLoad .tsu p f s) s) := by
  simp [timeTsu, hv, hc]

/-- The sample of a lane's core (R121). -/
def laneSampled (p : Nat) (f : TimeF) (rx : Nat) (diff : Int) (s : State) : State :=
  coreDiff diff (servoSample .tsu p (timeOffset .tsu p f rx s) treeKp treeKi 25 50 (feedFit .tsu (fitFirst p) (some rx) s))

theorem timeTsu_sample (p : Nat) (f : TimeF) (rx : Nat) (diff : Int) (s : State) (hv : s.tc.tk.htValid = true)
    (h3 : (s.core .tsu p).st ≠ 3) (ho : (s.core .tsu p).off = false) (hseen : sofStamped .tsu p s = true) :
    timeTsu p f rx diff s = if s.tc.tk.keeper = p ∨ s.tc.tk.keeper = 2 then copyTime .tsu f (laneSampled p f rx diff s)
      else laneSampled p f rx diff s := by
  have hrun : ¬((s.core .tsu p).st = 3 ∨ (s.core .tsu p).off = true ∨ (!sofStamped .tsu p s) = true) := by
    simp [h3, ho, hseen]
  unfold timeTsu
  dsimp only
  rw [if_neg (by simp [hv]), if_neg hrun, hseen]
  rfl

theorem laneSampled_core (p : Nat) (f : TimeF) (rx : Nat) (diff : Int) (s : State) :
    (laneSampled p f rx diff s).core .tsu p =
      sampled (timeOffset .tsu p f rx s) treeKp treeKi 25 50 (s.core .tsu p) := by
  have hdiff : ∀ u, (coreDiff diff u).core .tsu p = u.core .tsu p := fun u => rfl
  rw [laneSampled, hdiff, core_servoSample]
  rfl

theorem laneSampled_flags (p : Nat) (f : TimeF) (rx : Nat) (diff : Int) (s : State) :
    (laneSampled p f rx diff s).tc.tk.htValid = s.tc.tk.htValid := by
  have hdiff : ∀ u, (coreDiff diff u).tc.tk.htValid = u.tc.tk.htValid := by
    intro u
    unfold coreDiff
    dsimp only [modTk_tsu_tc]
    split <;> rfl
  have htk : ∀ u v : State, u.blank (but (.com .tsu .tk)) = v.blank (but (.com .tsu .tk)) → u.tc.tk = v.tc.tk := fun _ _ => tc_tk_eq
  rw [laneSampled, hdiff, htk _ s (by simp [but])]

theorem timeTsu_ports (p : Nat) (f : TimeF) (rx : Nat) (diff : Int) (s : State) :
    (timeTsu p f rx diff s).tc.ports = s.tc.ports := tc_ports_eq (by simp [but])

theorem timeTsu_hd (p : Nat) (f : TimeF) (rx : Nat) (diff : Int) (s : State) :
    (timeTsu p f rx diff s).t.hd = s.t.hd := t_hd_eq (by simp [but])

/-- What a TSU's links, ports and held entries are after a frame from a source. -/
theorem tsu_links_after_time (p : Nat) (h : LinkHdr) (f : TimeF) (rx : Nat) (diff : Int) (s : State) :
    LinksKept .tsu (timeNoted .tsu p h f s) (tsuReselect (timeTsu p f rx diff (timeNoted .tsu p h f s))) ∧
      (s.t.hd.held = [] → OtherPorts .tsu p s (tsuReselect (timeTsu p f rx diff (timeNoted .tsu p h f s)))) := by
  have hports := timeTsu_ports p f rx diff (timeNoted .tsu p h f s)
  have hhd := timeTsu_hd p f rx diff (timeNoted .tsu p h f s)
  refine ⟨(linksKept_of_ports_eq (d := .tsu) hports).trans (linksKept_reselect .tsu _), fun hn => ?_⟩
  refine (otherPorts_timeNoted .tsu p h f s).trans ((otherPorts_of_ports_eq (d := .tsu) p hports).trans
    (otherPorts_of_ports_eq p (reselect_ports_of_none_held .tsu _ fun _ => ?_)))
  rw [hhd, timeNoted_t]
  exact hn

/-! At a DX-D. -/

/-- Which port a DX-D follows depends on its links alone, and on what it knows of HT (R44, R119). -/
theorem follows_congr {s t : State} (p : Nat) (hx : t.x.straps = s.x.straps ∧ t.x.rf = s.x.rf)
    (htk : t.dc.tk = s.dc.tk) (hreg : t.reg .dxd 0x10100 = s.reg .dxd 0x10100) (hl : LinksKept .dxd s t) :
    follows p t = follows p s := by
  obtain ⟨hstraps, hrf⟩ := hx
  have hsrc : ∀ q, isSource .dxd q t = isSource .dxd q s := fun q => isSource_of_linksKept q hl
  have hhb : ∀ q, (t.port .dxd q).peerHb = (s.port .dxd q).peerHb := fun q => by
    obtain ⟨r, hr⟩ := hl q
    rw [hr]
  have hpar : parentPort t = parentPort s := by rw [parentPort, parentPort, hstraps]
  have htwin : twinPort t = twinPort s := by rw [twinPort, twinPort, hstraps]
  have horph : twinOrphan t = twinOrphan s := by simp only [twinOrphan, htwin, hhb, hstraps]
  have hchoice : dxdChoice t = dxdChoice s := by simp only [dxdChoice, hsrc, hpar, htwin, horph, htk, hstraps]
  simp only [follows, hstraps, hrf, hreg, htk, hchoice, hpar, htwin, isPair]

/-- While HT is valid a tree DX-D follows the port that its keeper names (R48). -/
theorem follows_of_valid {s t : State} (p : Nat) (hx : t.x.straps = s.x.straps) (htk : t.dc.tk = s.dc.tk)
    (hv : s.dc.tk.htValid = true) (hr : s.x.straps.role ≠ 2) : follows p t = follows p s := by
  simp [follows, htk, hv, hr, hx, parentPort, twinPort]

/-- The offset of the frame's port is kept for a change of the source (R49). -/
def offsetNoted (p : Nat) (off : Int) (seen : Bool) (s : State) : State :=
  modX (fun x => if !seen then x
    else if p = parentPort s then { x with ownOff := some off }
    else if p = twinPort s then { x with twinOff := some off } else x) s

section
variable (p : Nat) (off : Int) (seen : Bool) (s : State)

theorem offsetNoted_dc : (offsetNoted p off seen s).dc = s.dc := rfl

theorem offsetNoted_x : (offsetNoted p off seen s).x.straps = s.x.straps ∧ (offsetNoted p off seen s).x.rf = s.x.rf ∧
    (offsetNoted p off seen s).x.hold = s.x.hold := by
  unfold offsetNoted
  simp only [modX_x]
  (repeat' split) <;> exact ⟨rfl, rfl, rfl⟩

theorem offsetNoted_own (hs : seen = true) (hp : p = parentPort s) : (offsetNoted p off seen s).x.ownOff = some off := by
  simp [offsetNoted, hs, hp]

end

/-- The state in which a DX-D weighs a frame: the frame and its offset are noted. -/
def timeWeighed (p : Nat) (h : LinkHdr) (f : TimeF) (rx : Nat) (s : State) : State :=
  offsetNoted p (timeOffset .dxd p f rx s) (sofStamped .dxd p s) (timeNoted .dxd p h f s)

section
variable (p : Nat) (h : LinkHdr) (f : TimeF) (rx : Nat) (s : State)

theorem timeWeighed_x : (timeWeighed p h f rx s).x.straps = s.x.straps ∧ (timeWeighed p h f rx s).x.rf = s.x.rf ∧
    (timeWeighed p h f rx s).x.hold = s.x.hold := offsetNoted_x _ _ _ _

theorem timeWeighed_tk : (timeWeighed p h f rx s).dc.tk = s.dc.tk := rfl

theorem timeWeighed_boot : (timeWeighed p h f rx s).dc.boot = s.dc.boot := rfl

theorem timeWeighed_ports : (timeWeighed p h f rx s).dc.ports = (timeNoted .dxd p h f s).dc.ports := rfl

theorem timeDxd_timeNoted (hf : follows p (timeWeighed p h f rx s) = true) (ho : s.x.hold.oscLost = false)
    (hc : inCellar .dxd s = false) : timeDxd p f rx (timeNoted .dxd p h f s) =
      if !s.dc.tk.htValid then
        (if s.dc.tk.sideConflict then timeWeighed p h f rx s
         else copyTime .dxd f (loadHt .dxd (timeLoad .dxd p f (timeWeighed p h f rx s)) (timeWeighed p h f rx s)))
      else if !sofStamped .dxd p s then copyTime .dxd f (feedFit .dxd (fitFirst 0) none (timeWeighed p h f rx s))
      else
        let sf := feedFit .dxd (fitFirst 0) (some rx) (timeWeighed p h f rx s)
        let off := timeOffset .dxd p f rx s
        let s1 := if !sf.x.rf.fresh then sf
          else if sf.x.straps.role = 2 then referenceSwitch off sf
          else startPull .dxd off (modRf (fun r => { r with fresh := false, retake := false }) sf)
        copyTime .dxd f (holdAccum (servoSample .dxd 0 (off - s1.dc.tk.r) (svTree s1).1 (svTree s1).2 25 50
          (modHold (fun h => { h with profile := 3 }) s1))) := by
  obtain ⟨-, -, hhold⟩ := timeWeighed_x p h f rx s
  have ho' : (timeWeighed p h f rx s).x.hold.oscLost = false := by rw [hhold]; exact ho
  have hc' : inCellar .dxd (timeWeighed p h f rx s) = false := hc
  unfold timeDxd
  rw [timeOffset_timeNoted, sofStamped_timeNoted]
  extract_lets off seen s0 sf s1 g s2
  have hs0 : s0 = timeWeighed p h f rx s := rfl
  rw [hs0, if_neg (by simp [hf]), if_neg (by simp [ho', hc']), timeWeighed_tk]
  rfl

theorem timeLoad_timeWeighed : timeLoad .dxd p f (timeWeighed p h f rx s) = timeLoad .dxd p f s := by
  obtain ⟨hstraps, -, -⟩ := timeWeighed_x p h f rx s
  rw [← timeLoad_timeNoted .dxd p h f s]
  simp only [timeLoad, rxDelay, isPair, hstraps, timeNoted_x]
  rfl

end

/-- What a DX-D's ports are after a frame from a source. -/
theorem dxd_ports_after_time (p : Nat) (h : LinkHdr) (f : TimeF) (rx : Nat) (s : State) :
    (dxdReselect (timeDxd p f rx (timeNoted .dxd p h f s))).dc.ports = (timeNoted .dxd p h f s).dc.ports :=
  dc_ports_eq (by simp [but])

/-- A sample of the source that a DX-D follows already (R121). -/
def treeSampled (p : Nat) (h : LinkHdr) (f : TimeF) (rx : Nat) (s : State) : State :=
  let sf := feedFit .dxd (fitFirst 0) (some rx) (timeWeighed p h f rx s)
  holdAccum (servoSample .dxd 0 (timeOffset .dxd p f rx s - s.dc.tk.r) (svTree sf).1 (svTree sf).2 25 50
    (modHold (fun h => { h with profile := 3 }) sf))

theorem treeSampled_tk (p : Nat) (h : LinkHdr) (f : TimeF) (rx : Nat) (s : State) :
    (treeSampled p h f rx s).dc.tk = s.dc.tk := by
  rw [← timeWeighed_tk p h f rx s]
  exact dc_tk_eq (by simp [but, treeSampled])

theorem watch_treeSampled (p : Nat) (h : LinkHdr) (f : TimeF) (rx : Nat) (s : State) :
    watch (treeSampled p h f rx s) = watch s := by
  have hnoted : watch (timeNoted .dxd p h f s) = watch s := by simp [timeNoted, unwatched]
  have hweighed : watch (timeWeighed p h f rx s) = watch (timeNoted .dxd p h f s) :=
    watch_modX _ _ (fun x => by (repeat' split) <;> rfl)
  rw [← hnoted, ← hweighed]
  simp [treeSampled, unwatched]

/-- Nothing after the offset is noted touches it. -/
theorem ownOff_sampled (p : Nat) (h : LinkHdr) (f : TimeF) (rx : Nat) (s : State) :
    (dxdReselect (copyTime .dxd f (treeSampled p h f rx s))).x.ownOff = (timeWeighed p h f rx s).x.ownOff :=
  x_ownOff_eq (by simp [but, treeSampled])

theorem follows_timeWeighed (p : Nat) (h : LinkHdr) (f : TimeF) (rx : Nat) (s : State) :
    follows p (timeWeighed p h f rx s) = follows p (modPort .dxd p (fun q => { q with lastTime := some f }) s) := by
  obtain ⟨hstraps, hrf, -⟩ := timeWeighed_x p h f rx s
  refine follows_congr p ⟨hstraps.trans rfl, hrf.trans rfl⟩ rfl rfl fun q => ?_
  change ∃ r, (timeNoted .dxd p h f s).port .dxd q = _
  by_cases hq : q = p
  · subst hq
    obtain ⟨r, hr⟩ := port_timeNoted .dxd q h f s
    exact ⟨r, by rw [hr, port_modPort_same]⟩
  · exact ⟨(s.port .dxd q).rel, by rw [otherPorts_timeNoted .dxd p h f s q hq, port_modPort_ne _ _ _ _ _ hq]⟩

theorem timeDxd_sample (p : Nat) (h : LinkHdr) (f : TimeF) (rx : Nat) (s : State)
    (hf : follows p (timeWeighed p h f rx s) = true) (ho : s.x.hold.oscLost = false) (hc : inCellar .dxd s = false)
    (hv : s.dc.tk.htValid = true) (hseen : sofStamped .dxd p s = true) (hfresh : s.x.rf.fresh = false) :
    timeDxd p f rx (timeNoted .dxd p h f s) = copyTime .dxd f (treeSampled p h f rx s) := by
  obtain ⟨-, hrf, -⟩ := timeWeighed_x p h f rx s
  have hfresh' : (feedFit .dxd (fitFirst 0) (some rx) (timeWeighed p h f rx s)).x.rf.fresh = false := by
    change (timeWeighed p h f rx s).x.rf.fresh = false
    rw [hrf]
    exact hfresh
  rw [timeDxd_timeNoted p h f rx s hf ho hc, if_neg (by simp [hv]), if_neg (by simp [hseen])]
  dsimp only
  rw [if_pos (by simp [hfresh'])]
  rfl

theorem treeSampled_phase (p : Nat) (h : LinkHdr) (f : TimeF) (rx : Nat) (s : State) :
    (treeSampled p h f rx s).dc.coreA.e = timeOffset .dxd p f rx s - s.dc.tk.r := by
  unfold treeSampled
  dsimp only
  rw [holdAccum_coreA]
  exact (congrArg Core.e (core_servoSample .dxd 0 _ _ _ _ _ _)).trans (sampled_phase _ _ _ _ _ _)

/-- The load of R47 at a TSU. -/
theorem timeTsu_timeNoted_cold (p : Nat) (h : LinkHdr) (f : TimeF) (rx : Nat) (diff : Int) (s : State)
    (hv : s.tc.tk.htValid = false) (hc : inCellar .tsu s = false) :
    (timeTsu p f rx diff (timeNoted .tsu p h f s)).tc.tk =
        copied f { s.tc.tk.load (timeLoad .tsu p f s) with nco := 0, delta := 0 } ∧
      ((timeTsu p f rx diff (timeNoted .tsu p h f s)).core .tsu 0).fit = true ∧
      ((timeTsu p f rx diff (timeNoted .tsu p h f s)).core .tsu 1).fit = true := by
  rw [timeTsu_cold p f rx diff (timeNoted .tsu p h f s) hv (by simpa using hc), timeLoad_timeNoted]
  exact ⟨copyTime_tk .tsu f _, congrArg Core.fit (copyTime_core .tsu f 0 _), congrArg Core.fit (copyTime_core .tsu f 1 _)⟩

/-- The sample of R121 at a TSU. -/
theorem timeTsu_timeNoted_sample (p : Nat) (h : LinkHdr) (f : TimeF) (rx : Nat) (diff : Int) (s : State)
    (hv : s.tc.tk.htValid = true) (h3 : (s.core .tsu p).st ≠ 3) (ho : (s.core .tsu p).off = false)
    (hseen : sofStamped .tsu p s = true) :
    (timeTsu p f rx diff (timeNoted .tsu p h f s)).core .tsu p =
        sampled (timeOffset .tsu p f rx s) treeKp treeKi 25 50 (s.core .tsu p) ∧
      watch (timeTsu p f rx diff (timeNoted .tsu p h f s)) = watch s ∧
      (timeTsu p f rx diff (timeNoted .tsu p h f s)).tc.tk.htValid = true := by
  have hcore := laneSampled_core p f rx diff (timeNoted .tsu p h f s)
  have hvalid := laneSampled_flags p f rx diff (timeNoted .tsu p h f s)
  have hwatch : watch (laneSampled p f rx diff (timeNoted .tsu p h f s)) = watch s := by
    simp [laneSampled, timeNoted, unwatched]
  rw [timeOffset_timeNoted, timeNoted_core] at hcore
  rw [timeTsu_sample p f rx diff (timeNoted .tsu p h f s) hv (by simpa using h3) (by simpa using ho) (by simpa using hseen)]
  split
  · refine ⟨(copyTime_core .tsu f p _).trans hcore, (watch_copyTime .tsu f _).trans hwatch, ?_⟩
    exact (congrArg Time.htValid (copyTime_tk .tsu f _)).trans (hvalid.trans hv)
  · exact ⟨hcore, hwatch, hvalid.trans hv⟩

/-- Settles O8: a corrupt frame by definition, the load of R47 and the sample of R121 from what the reselection after them
keeps. -/
theorem timeFrames : Obligations.TimeFrames := by
  unfold Obligations.TimeFrames
  refine ⟨?corrupt, ?coldTsu, ?coldDxd, ?sampleTsu, ?sampleDxd⟩
  case corrupt =>
    intro d p h f rx diff s he hl hbad
    exact congrArg Host.Outcome.next (timeReceive_corrupt d p h f s rx diff he hl hbad)
  case coldTsu =>
    intro p h f rx diff s he hst hc hns hres hf hv
    refine ⟨_, rfl, ?_⟩
    have hframe : Only [.com .tsu .tk, .com .tsu .coreA, .com .tsu .coreB, .com .tsu .ports, .com .tsu .msets,
        .com .tsu .pgEvent, .com .tsu .ic, .com .tsu .hfits, .member, .huddles] s (timeReceive .tsu p h f rx diff s) := by
      apply timeReceive_tsu_blank <;> decide
    rw [timeReceive_source .tsu p h f s rx diff he hst hc hns hres hf] at hframe ⊢
    dsimp only [reselect, timeTaken] at hframe ⊢
    obtain ⟨hlinks, hports⟩ := tsu_links_after_time p h f rx diff s
    obtain ⟨htk, hfitA, hfitB⟩ := timeTsu_timeNoted_cold p h f rx diff s hv hc
    have hheld := tsuReselect_held (timeTsu p f rx diff (timeNoted .tsu p h f s))
    have hsrc := (isSource_of_linksKept p hlinks).trans (isSource_timeNoted .tsu p h f s hst hf)
    generalize timeTsu p f rx diff (timeNoted .tsu p h f s) = v at *
    obtain ⟨hsec, hnss, hfrac, hvalid, hutc, htrace, horigin, hroot⟩ := tsuReselect_time v
    obtain ⟨-, -, -, ha⟩ := tsuReselect_core 0 v
    obtain ⟨-, -, -, hb⟩ := tsuReselect_core 1 v
    rw [hfitA, core_tsu_zero] at ha
    rw [hfitB, core_tsu_one] at hb
    rw [hsec, hnss, hfrac, hvalid, hutc, htrace, horigin, hroot, htk]
    exact ⟨rfl, rfl, rfl, rfl, rfl, rfl, rfl, rfl, ha, hb, hsrc, hheld, hports, hframe⟩
  case coldDxd =>
    intro p h f rx diff s he hst hc hns hres hf hv hside ho hfol
    refine ⟨_, rfl, ?_⟩
    have hframe : Only [.com .dxd .tk, .com .dxd .coreA, .com .dxd .coreB, .com .dxd .ports, .com .dxd .msets,
        .com .dxd .regs, .com .dxd .pgEvent, .com .dxd .ic, .com .dxd .hfits, .refs, .hold, .ptp, .attic, .ownOff,
        .twinOff] s (timeReceive .dxd p h f rx diff s) := by
      apply timeReceive_dxd_blank <;> decide
    rw [timeReceive_source .dxd p h f s rx diff he hst hc hns hres hf] at hframe ⊢
    dsimp only [reselect, timeTaken] at hframe ⊢
    have hports := dxd_ports_after_time p h f rx s
    have hfol' : follows p (timeWeighed p h f rx s) = true := (follows_timeWeighed p h f rx s).trans hfol
    have htk : (timeDxd p f rx (timeNoted .dxd p h f s)).dc.tk =
        copied f { s.dc.tk.load (timeLoad .dxd p f s) with nco := 0, delta := 0 } := by
      rw [timeDxd_timeNoted p h f rx s hfol' ho hc, if_pos (by simp [hv]), if_neg (by simp [hside]), timeLoad_timeWeighed]
      exact (copyTime_tk .dxd f _).trans (congrArg (copied f) (loadHt_dxd_tk _ _))
    have hsel := chosen_dxdReselect (timeDxd p f rx (timeNoted .dxd p h f s))
    obtain ⟨hsec, hnss, hfrac⟩ := dxd_clock_of_watch (watch_dxdReselect (timeDxd p f rx (timeNoted .dxd p h f s)))
    obtain ⟨r, hr⟩ := port_timeNoted .dxd p h f s
    have hport : ∀ q, (dxdReselect (timeDxd p f rx (timeNoted .dxd p h f s))).port .dxd q =
        (timeNoted .dxd p h f s).port .dxd q := fun q => by simp only [State.port, com_dxd, hports]
    rw [hsec, hnss, hfrac, hsel.valid, hsel.utc, htk, hport, hr]
    exact ⟨rfl, rfl, rfl, rfl, rfl, rfl, fun q hq => (hport q).trans (otherPorts_timeNoted .dxd p h f s q hq), hframe⟩
  case sampleTsu =>
    intro p h f rx diff s he hst hc hns hres hseen hf hv h3 hoff hrun
    refine ⟨_, rfl, ?_⟩
    have hframe : Only [.com .tsu .tk, .com .tsu .coreA, .com .tsu .coreB, .com .tsu .ports, .com .tsu .msets,
        .com .tsu .pgEvent, .com .tsu .ic, .com .tsu .hfits, .member, .huddles] s (timeReceive .tsu p h f rx diff s) := by
      apply timeReceive_tsu_blank <;> decide
    rw [timeReceive_source .tsu p h f s rx diff he hst hc hns hres hf] at hframe ⊢
    dsimp only [reselect, timeTaken] at hframe ⊢
    obtain ⟨-, hports⟩ := tsu_links_after_time p h f rx diff s
    obtain ⟨hcore, hwatch, hvalid'⟩ := timeTsu_timeNoted_sample p h f rx diff s hv h3 hoff hseen
    have hheld := tsuReselect_held (timeTsu p f rx diff (timeNoted .tsu p h f s))
    obtain ⟨hacc, hy⟩ := sampled_running (timeOffset .tsu p f rx s) treeKp treeKi 25 50 (s.core .tsu p) hrun
    generalize timeTsu p f rx diff (timeNoted .tsu p h f s) = v at *
    obtain ⟨he', hacc', hy', -⟩ := tsuReselect_core p v
    obtain ⟨-, -, -, hvalid, -⟩ := tsuReselect_time v
    obtain ⟨hsec, hnss, hfrac⟩ := tsu_clock_of_watch ((watch_tsuReselect v).trans hwatch)
    rw [he', hacc', hy', hcore, hacc, hy, sampled_phase, hsec, hnss, hfrac, hvalid, hvalid']
    exact ⟨rfl, rfl, rfl, rfl, rfl, rfl, rfl, hheld, hports, hframe⟩
  case sampleDxd =>
    intro p h f rx diff s he hst hc hns hres hseen hf hv hr ho hfresh hfol
    refine ⟨_, rfl, ?_⟩
    have hframe : Only [.com .dxd .tk, .com .dxd .coreA, .com .dxd .coreB, .com .dxd .ports, .com .dxd .msets,
        .com .dxd .regs, .com .dxd .pgEvent, .com .dxd .ic, .com .dxd .hfits, .refs, .hold, .ptp, .attic, .ownOff,
        .twinOff] s (timeReceive .dxd p h f rx diff s) := by
      apply timeReceive_dxd_blank <;> decide
    rw [timeReceive_source .dxd p h f s rx diff he hst hc hns hres hf] at hframe ⊢
    dsimp only [reselect, timeTaken] at hframe ⊢
    obtain ⟨hstraps, -, -⟩ := timeWeighed_x p h f rx s
    have hfol' : follows p (timeWeighed p h f rx s) = true :=
      (follows_of_valid p hstraps (timeWeighed_tk p h f rx s) hv hr).trans hfol
    have hports := dxd_ports_after_time p h f rx s
    have hport : ∀ q, (dxdReselect (timeDxd p f rx (timeNoted .dxd p h f s))).port .dxd q =
        (timeNoted .dxd p h f s).port .dxd q := fun q => by simp only [State.port, com_dxd, hports]
    have hsample := timeDxd_sample p h f rx s hfol' ho hc hv hseen hfresh
    have hphase : (timeDxd p f rx (timeNoted .dxd p h f s)).dc.coreA.e = timeOffset .dxd p f rx s - s.dc.tk.r := by
      rw [hsample]
      exact (congrArg Core.e (copyTime_core .dxd f 0 _)).trans (treeSampled_phase p h f rx s)
    have hwatch : watch (timeDxd p f rx (timeNoted .dxd p h f s)) = watch s := by
      rw [hsample, watch_copyTime, watch_treeSampled]
    have hvalid : (timeDxd p f rx (timeNoted .dxd p h f s)).dc.tk.htValid = true := by
      rw [hsample]
      exact (congrArg Time.htValid (copyTime_tk .dxd f _)).trans ((congrArg Time.htValid (treeSampled_tk p h f rx s)).trans hv)
    have hown : p = parentPort s →
        (dxdReselect (timeDxd p f rx (timeNoted .dxd p h f s))).x.ownOff = some (timeOffset .dxd p f rx s) := by
      intro hp
      rw [hsample, ownOff_sampled]
      exact offsetNoted_own p _ _ _ hseen hp
    have hsel := chosen_dxdReselect (timeDxd p f rx (timeNoted .dxd p h f s))
    obtain ⟨hsec, hnss, hfrac⟩ := dxd_clock_of_watch
      ((watch_dxdReselect (timeDxd p f rx (timeNoted .dxd p h f s))).trans hwatch)
    rw [hsel.phase, hphase, hsec, hnss, hfrac, hsel.valid, hvalid]
    exact ⟨rfl, hown, rfl, rfl, rfl, rfl, fun q hq => (hport q).trans (otherPorts_timeNoted .dxd p h f s q hq), hframe⟩

end Sys2Proof.Machine
end
section
/-!
PROOFS. What a selection, a sample and a load of the DX-D leave as it is: the 1588 port, the state of the PTP source, and every
event that is set (O21). The frame laws do the rest of it once every other part is blanked.
-/

namespace Sys2Proof.Machine

/-- The parts that hold nothing of it. -/
def unported (p : Part) : Bool := decide (p ≠ .ptp ∧ p ≠ .refs ∧ p ≠ .com .dxd .pgEvent)

/-- What a selection keeps of the 1588 port. -/
structure PortKept (r s : State) : Prop where
  pt : s.x.pt = r.x.pt
  qual : s.qual 2 = r.qual 2
  events : ∀ pg b, eventSet .dxd pg b r → eventSet .dxd pg b s

theorem portKept_refl (s : State) : PortKept s s := ⟨rfl, rfl, fun _ _ h => h⟩

theorem PortKept.trans {r s u : State} (h : PortKept r s) (h' : PortKept s u) : PortKept r u :=
  ⟨h'.pt.trans h.pt, h'.qual.trans h.qual, fun pg b hb => h'.events pg b (h.events pg b hb)⟩

theorem portKept_choice {r s u : State} (c : Prop) [Decidable c] (hs : PortKept r s) (hu : PortKept r u) :
    PortKept r (if c then s else u) := by split <;> assumption

section
variable {r s : State} (hs : PortKept r s)
include hs

/-- An operation of other parts keeps it. -/
theorem portKept_of_frame {u : State} (h : u.blank unported = s.blank unported) : PortKept r u := by
  have hpt : u.x.pt = s.x.pt := congrArg (·.x.pt) h
  have hsrc : u.qual 2 = s.qual 2 := congrArg (·.qual 2) h
  have hev : u.dc.pgEvent = s.dc.pgEvent := congrArg (·.dc.pgEvent) h
  exact ⟨hpt.trans hs.pt, hsrc.trans hs.qual, fun pg b hb => (eventSet_congr (d := .dxd) hev).mpr (hs.events pg b hb)⟩

theorem portKept_raise (pg b : Nat) : PortKept r (raise .dxd pg b s) := by
  have hx : (raise .dxd pg b s).x = s.x := by simp
  refine ⟨?_, ?_, fun pg' b' hb => eventSet_raise_of .dxd .dxd pg pg' b b' _ (hs.events pg' b' hb)⟩
  · rw [hx, hs.pt]
  · rw [State.qual, hx]; exact hs.qual

theorem portKept_modRf (f : Ref → Ref) (hf : ∀ k, (f k).src = k.src) : PortKept r (modRf f s) :=
  ⟨hs.pt, (congrArg (fun l => (tabGet {} l 2).qual) (hf s.x.rf)).trans hs.qual, hs.events⟩

/-- A change of a source that leaves PTP's qualification as it is. -/
theorem portKept_modSrc (n : Nat) (f : RefSrc → RefSrc) (hf : n = 2 → ∀ k, (f k).qual = k.qual) : PortKept r (modSrc n f s) := by
  refine ⟨hs.pt, Eq.trans ?_ hs.qual, hs.events⟩
  by_cases hn : n = 2
  · subst hn
    exact (congrArg RefSrc.qual (src_modSrc_same 2 f s)).trans (hf rfl _)
  · exact congrArg RefSrc.qual (src_modSrc_ne n 2 f s (Ne.symm hn))

theorem portKept_modTk (f : Time → Time) : PortKept r (modTk .dxd f s) :=
  portKept_of_frame hs (by simp [unported, -com_tsu, -com_dxd])

theorem portKept_modCore (f : Core → Core) : PortKept r (modCore .dxd 0 f s) :=
  portKept_of_frame hs (by simp [unported, -com_tsu, -com_dxd])

theorem portKept_modHold (f : Hold → Hold) : PortKept r (modHold f s) :=
  portKept_of_frame hs (by simp [unported, -com_tsu, -com_dxd])

theorem portKept_modCom (f : Com → Com) (hf : ∀ c, (f c).pgEvent = c.pgEvent) : PortKept r (modCom .dxd f s) :=
  ⟨hs.pt, hs.qual, fun pg b hb => (eventSet_congr (d := .dxd) (s := s) (t := modCom .dxd f s) (hf s.dc)).mpr (hs.events pg b hb)⟩

theorem portKept_startFirstFit : PortKept r (startFirstFit .dxd 0 s) :=
  portKept_of_frame hs (by simp [unported, -com_tsu, -com_dxd])

theorem portKept_history (b : Nat) : PortKept r (history b s) :=
  portKept_raise (portKept_of_frame hs (by simp [unported, -com_tsu, -com_dxd])) 0x10 b

theorem portKept_raiseTime (b : Nat) : PortKept r (raiseTime .dxd b s) :=
  portKept_raise (portKept_of_frame hs (by simp [unported, -com_tsu, -com_dxd])) 0x00 b

theorem portKept_follow (n : Nat) (viaList : Bool) : PortKept r (follow n viaList s) := by
  unfold follow
  refine portKept_choice _ hs ?_
  extract_lets s1 s2 s3 s4
  have h1 : PortKept r s1 := portKept_modRf hs _ (by exact fun _ => rfl)
  have h2 : PortKept r s2 := portKept_modCore (portKept_modTk h1 _) _
  have h3 : PortKept r s3 := portKept_choice _ (portKept_history h2 8) h2
  have h4 : PortKept r s4 := portKept_choice _ (portKept_startFirstFit h3) h3
  exact portKept_choice _ (portKept_history (portKept_raiseTime h4 3) 7) h4

theorem portKept_leaveTwin : PortKept r (leaveTwin s) := by
  unfold leaveTwin
  split <;> exact portKept_follow hs _ _

theorem portKept_twinLost : PortKept r (sourceLost 0xE s) := by
  have hmarked : ∀ f, PortKept r (history 5 (modSrc 0xE f s)) := fun f =>
    portKept_history (portKept_modSrc hs 0xE f (fun h => absurd h (by decide))) 5
  unfold sourceLost
  exact portKept_choice _ hs (portKept_choice _ (hmarked _) (portKept_leaveTwin (portKept_history (hmarked _) 6)))

theorem portKept_rootSelect : PortKept r (rootSelect s) := by
  unfold rootSelect
  refine portKept_choice _ hs ?_
  extract_lets s1 s2 s3 s4
  have h1 : PortKept r s1 := portKept_choice _
    (portKept_choice _ hs (portKept_modSrc hs 0xE _ (fun h => absurd h (by decide)))) (portKept_twinLost hs)
  have h2 : PortKept r s2 := portKept_choice _ (portKept_follow h1 _ _) h1
  have h3 : PortKept r s3 := portKept_choice _ h2 (portKept_choice _ (portKept_leaveTwin h2) (portKept_choice _ h2
    (portKept_leaveTwin (portKept_history h2 6))))
  have h4 : PortKept r s4 := portKept_choice _ (portKept_follow (portKept_modRf h3 _ (by exact fun _ => rfl)) _ _) h3
  refine portKept_choice _ ?_ h4
  split
  · exact portKept_follow h4 _ _
  · exact h4

theorem portKept_startPull (x : Int) : PortKept r (startPull .dxd x s) := by
  have hpull := portKept_modTk hs (fun k => { k with r := x, rPart := 0, pulling := x != 0 })
  exact portKept_choice _ (portKept_modHold (portKept_raise hpull 0x10 10) _) hpull

theorem portKept_setRootHoldover (b : Bool) : PortKept r (setRootHoldover .dxd b s) :=
  portKept_choice _ hs (portKept_raise (portKept_modTk hs _) 0x00 2)

theorem portKept_setTimeState (n : Nat) : PortKept r (setTimeState .dxd n s) :=
  portKept_choice _ hs (portKept_raise (portKept_modTk hs _) 0x00 0)

theorem portKept_setTrace (a b : Bool) : PortKept r (setTrace .dxd a b s) :=
  portKept_choice _ hs (portKept_raise (portKept_modTk hs _) 0x00 1)

theorem portKept_showDxdState : PortKept r (showDxdState s) :=
  portKept_setTimeState (portKept_choice _ (portKept_history (portKept_modHold hs _) 15) hs) _

theorem portKept_enterHoldover : PortKept r (enterHoldover s) :=
  portKept_history (portKept_of_frame hs (by simp [unported, -com_tsu, -com_dxd])) 9

/-- A selection keeps it: of the sources the twin alone is lost in one. -/
theorem portKept_dxdReselect : PortKept r (dxdReselect s) := by
  unfold dxdReselect
  extract_lets s0 k n s2 again off s3 s4 s1 st was s5 s6
  have h0 : PortKept r s0 := portKept_of_frame (portKept_rootSelect hs) (by simp [s0, unported, -com_tsu, -com_dxd])
  have h2 : PortKept r s2 := portKept_modTk h0 _
  have h3 : PortKept r s3 := portKept_choice _ (portKept_history h2 7) (portKept_choice _
    (portKept_modRf (portKept_history h2 7) _ (by exact fun _ => rfl)) (portKept_startPull (portKept_history h2 7) off))
  have h4 : PortKept r s4 := portKept_modCore h3 _
  have h1 : PortKept r s1 := portKept_choice _ h0
    (portKept_choice _ h0 (portKept_raiseTime (portKept_choice _ (portKept_history h4 6) h4) 3))
  have h5 : PortKept r s5 := portKept_choice _ (portKept_enterHoldover h1)
    (portKept_choice _ (portKept_modCore h1 _) h1)
  have h6 : PortKept r s6 := portKept_choice _ (portKept_setRootHoldover h5 _) (portKept_choice _ (portKept_setRootHoldover h5 _) h5)
  exact portKept_showDxdState h6

/-! Samples and loads. -/

theorem portKept_servoSample (e : Int) (kp ki limit out : Nat) : PortKept r (servoSample .dxd 0 e kp ki limit out s)  :=
  portKept_choice _ (portKept_history (portKept_modCore hs _) 16) (portKept_modCore hs _)

theorem portKept_holdAccum : PortKept r (holdAccum s) :=
  portKept_of_frame hs (by simp [unported, -com_tsu, -com_dxd])

theorem portKept_rootServo (e : Int) : PortKept r (rootServo e s) := by
  exact portKept_holdAccum (portKept_servoSample (portKept_modHold hs _) e _ _ _ _)

theorem portKept_moveRefs (dlt : Int) : PortKept r (moveRefs dlt s) := by
  have hmoved : ∀ k : RefSrc, (k.moved dlt).qual = k.qual := fun _ => rfl
  have hone : ∀ n (u : State), PortKept r u →
      PortKept r (if (tabGet {} u.x.rf.src n).q.isSome then modSrc n (·.moved dlt) u else u) := fun n u hu =>
    portKept_choice _ (portKept_modSrc hu n _ (fun _ => hmoved)) hu
  exact hone 1 _ (hone 0 _ hs)

theorem portKept_noRecord : PortKept r (loadHt.noRecord s) := by
  unfold loadHt.noRecord
  exact portKept_startFirstFit (portKept_history (portKept_modHold (portKept_modCore
    (portKept_modCom hs _ (by exact fun _ => rfl)) _) _) 17)

theorem portKept_loadHt (lsb : Int) : PortKept r (loadHt .dxd lsb s) := by
  have h1 := portKept_moveRefs (portKept_modTk hs (fun t => { (t.load lsb) with nco := 0, delta := 0 }))
  unfold loadHt
  dsimp only
  split
  · exact portKept_choice _ (portKept_modHold (portKept_modCore (h1 _) _) _) (portKept_noRecord (h1 _))
  · exact portKept_noRecord (h1 _)

theorem portKept_rootLoad (a : Bool) (lsb : Int) : PortKept r (rootLoad a lsb s) :=
  portKept_choice _ hs (portKept_dxdReselect (portKept_setTrace (portKept_loadHt hs lsb) _ _))

theorem portKept_becomeTraceable : PortKept r (becomeTraceable s) :=
  portKept_choice _ (portKept_setTrace hs _ _) hs

theorem portKept_originCheck (total : Int) : PortKept r (originCheck total s) := by
  have hfreq := portKept_modTk hs (fun t => { t with freqOnly := true })
  unfold originCheck originStepTo
  exact portKept_choice _ hs (portKept_choice _ (portKept_raise hfreq _ _) (portKept_choice _ hfreq
    (portKept_choice _ (portKept_raise hfreq _ _) (portKept_modTk hfreq _))))

theorem portKept_takeResidual (x : Int) : PortKept r (takeResidual x s) :=
  portKept_choice _ (portKept_history (portKept_modTk hs _) 18) (portKept_startPull hs x)

theorem portKept_referenceSwitch (x : Int) : PortKept r (referenceSwitch x s) := by
  have h1 := portKept_takeResidual (portKept_modRf hs (fun f => { f with fresh := false, retake := false }) (by exact fun _ => rfl)) x
  exact portKept_choice _ h1 (portKept_raiseTime (portKept_history h1 7) 3)

theorem portKept_firstSample (x total : Int) : PortKept r (firstSample x total s) := by
  have h1 := portKept_originCheck (portKept_referenceSwitch hs x) total
  exact portKept_choice _ (portKept_becomeTraceable h1) h1

/-- A sample of PTP keeps the port it came from (R110, R116). -/
theorem portKept_ptpSample (off : Int) : PortKept r (ptpSample off s) := by
  unfold ptpSample
  refine portKept_choice _ hs (portKept_choice _ (portKept_choice _ (portKept_rootLoad hs _ _) (portKept_rootLoad hs _ _)) ?_)
  exact portKept_dxdReselect (portKept_rootServo (portKept_choice _ (portKept_firstSample hs _ _) hs) _)

end

end Sys2Proof.Machine
end
section
/-!
PROOFS. The outputs and the step strobe (O21).
-/

namespace Sys2Proof.Machine

/-- An output of the DX-D, R132. -/
def outPin (s : State) (n : Nat) : OutPin := tabGet {} s.x.outs n

theorem outPin_modOut_same (n : Nat) (f : OutPin → OutPin) (s : State) : outPin (modOut n f s) n = f (outPin s n) :=
  tabGet_tabMod_same _ _ _ _

theorem outPin_modOut_ne (n j : Nat) (f : OutPin → OutPin) (s : State) (h : j ≠ n) : outPin (modOut n f s) j = outPin s j :=
  tabGet_tabMod_ne _ _ _ _ _ h

theorem outPin_raise (pg b n : Nat) (s : State) : outPin (raise .dxd pg b s) n = outPin s n := by simp [outPin]

/-- Page OP is operative in every DX-D. -/
theorem eventSet_raiseOutput (b : Nat) (s : State) (hb : b < 64) : eventSet .dxd 0x11 b (raise .dxd 0x11 b s) :=
  eventSet_raise .dxd 0x11 b s ⟨by simp [pageSt, pageStDxd], by decide⟩ hb

/-- What one pass over the three outputs makes of output `n`: `P` holds until its turn, `Q` from then on. -/
theorem outputs_pass {step : State → Nat → State} {n : Nat} (hn : n < 3) (P Q : State → Prop)
    (hbefore : ∀ k u, k ≠ n → P u → P (step u k)) (hturn : ∀ u, P u → Q (step u n))
    (hafter : ∀ k u, k ≠ n → Q u → Q (step u k)) (s : State) (hs : P s) : Q ((upTo 3).foldl step s) := by
  have hlist : (upTo 3).foldl step s = step (step (step s 0) 1) 2 := rfl
  rw [hlist]
  have hcases : n = 0 ∨ n = 1 ∨ n = 2 := by omega
  rcases hcases with rfl | rfl | rfl
  · exact hafter 2 _ (by decide) (hafter 1 _ (by decide) (hturn _ hs))
  · exact hafter 2 _ (by decide) (hturn _ (hbefore 0 _ (by decide) hs))
  · exact hturn _ (hbefore 1 _ (by decide) (hbefore 0 _ (by decide) hs))

/-! Alignments (R133). -/

theorem outPin_storeAlign (at_ outputs n : Nat) (hn : n < 3) (s : State) (hv : s.dc.tk.htValid = true) :
    outPin (storeAlign at_ outputs s) n =
      if outputs / 2 ^ n % 2 = 1 then { outPin s n with pend := some at_ } else outPin s n := by
  unfold storeAlign
  rw [if_neg (by simp [hv])]
  refine outputs_pass hn (fun u => outPin u n = outPin s n) (fun u => outPin u n =
    if outputs / 2 ^ n % 2 = 1 then { outPin s n with pend := some at_ } else outPin s n) ?_ ?_ ?_ s rfl
  · intro k u hk hu
    split
    · exact (outPin_modOut_ne k n _ u hk.symm).trans hu
    · exact hu
  · intro u hu
    split
    · rw [outPin_modOut_same, hu]
    · exact hu
  · intro k u hk hu
    dsimp only
    split
    · exact (outPin_modOut_ne k n _ u hk.symm).trans hu
    · exact hu

/-- One output at its beat (R133). -/
def realign (s : State) (n : Nat) : State :=
  match (outPin s n).pend with
  | some t =>
    if reached s.dc.tk.bc (t % 2 ^ 48) then
      raise .dxd 0x11 n (modOut n (fun o => { o with
        pend := none, aligned := true, alignedAt := s.dc.tk.bc, delayWritten := false,
        delay := sx 32 (s.regF .dxd (0x11120 + 8 * n) 0 32) }) s)
    else s
  | none => s

theorem outputAlignment_eq (s : State) : outputAlignment s = (upTo 3).foldl realign s := rfl

theorem realign_kept (k : Nat) (s : State) : (realign s k).dc.tk = s.dc.tk ∧ ∀ a, (realign s k).reg .dxd a = s.reg .dxd a := by
  unfold realign
  (repeat' split) <;> simp [modOut, State.reg]

theorem outPin_realign_ne (k n : Nat) (s : State) (h : n ≠ k) : outPin (realign s k) n = outPin s n := by
  unfold realign
  (repeat' split)
  · rw [outPin_raise, outPin_modOut_ne _ _ _ _ h]
  · rfl
  · rfl

theorem eventSet_realign (k pg b : Nat) (s : State) (h : eventSet .dxd pg b s) : eventSet .dxd pg b (realign s k) := by
  unfold realign
  (repeat' split)
  · exact eventSet_raise_of .dxd .dxd 0x11 pg k b _ h
  · exact h
  · exact h

/-- An output whose beat has come is re-phased and takes its written DELAY. -/
theorem outputAlignment_due (n at_ : Nat) (s : State) (hn : n < 3) (hp : (outPin s n).pend = some at_)
    (hr : reached s.dc.tk.bc (at_ % 2 ^ 48) = true) :
    outPin (outputAlignment s) n = { outPin s n with
      pend := none, aligned := true, alignedAt := s.dc.tk.bc, delayWritten := false,
      delay := sx 32 (s.regF .dxd (0x11120 + 8 * n) 0 32) } ∧ eventSet .dxd 0x11 n (outputAlignment s) := by
  rw [outputAlignment_eq]
  refine outputs_pass hn (fun u => outPin u n = outPin s n ∧ u.dc.tk = s.dc.tk ∧ ∀ a, u.reg .dxd a = s.reg .dxd a)
    (fun u => outPin u n = { outPin s n with
      pend := none, aligned := true, alignedAt := s.dc.tk.bc, delayWritten := false,
      delay := sx 32 (s.regF .dxd (0x11120 + 8 * n) 0 32) } ∧ eventSet .dxd 0x11 n u) ?_ ?_ ?_ s ⟨rfl, rfl, fun _ => rfl⟩
  · intro k u hk ⟨hpin, htk, hregs⟩
    obtain ⟨htk', hregs'⟩ := realign_kept k u
    exact ⟨(outPin_realign_ne k n u hk.symm).trans hpin, htk'.trans htk, fun a => (hregs' a).trans (hregs a)⟩
  · intro u ⟨hpin, htk, hregs⟩
    have hreg : u.regF .dxd (0x11120 + 8 * n) 0 32 = s.regF .dxd (0x11120 + 8 * n) 0 32 := by
      rw [State.regF, State.regF, hregs]
    unfold realign
    rw [hpin, hp]
    dsimp only
    rw [htk, if_pos hr, outPin_raise, outPin_modOut_same, hpin, hreg]
    exact ⟨rfl, eventSet_raiseOutput n _ (by omega)⟩
  · intro k u hk ⟨hpin, hev⟩
    exact ⟨(outPin_realign_ne k n u hk.symm).trans hpin, eventSet_realign k _ _ u hev⟩

/-! The measured error (R134). -/

/-- MISALIGNED of an output with a mean of `e`. -/
def offAlign (e : Int) (o : OutPin) : Bool := decide (65536 < (e + o.delay).natAbs) || o.delayWritten

/-- One output measured. -/
def measured (e : Int) (o : OutPin) : OutPin := { o with error := satS 32 (e + o.delay), misaligned := offAlign e o }

/-- One output at the end of its second. -/
def measureOutput (es : List Int) (s : State) (n : Nat) : State :=
  let o := outPin s n
  let s1 := modOut n (fun o' => { o' with
    error := satS 32 (es.getD n 0 + o.delay), misaligned := offAlign (es.getD n 0) o }) s
  if offAlign (es.getD n 0) o && !o.misaligned then raise .dxd 0x11 (3 + n) s1 else s1

theorem errorMeasure_eq (es : List Int) (s : State) : errorMeasure es s = (upTo 3).foldl (measureOutput es) s := rfl

theorem outPin_measureOutput_same (es : List Int) (n : Nat) (s : State) :
    outPin (measureOutput es s n) n = measured (es.getD n 0) (outPin s n) := by
  unfold measureOutput
  dsimp only
  split
  · rw [outPin_raise, outPin_modOut_same]
    rfl
  · rw [outPin_modOut_same]
    rfl

theorem outPin_measureOutput_ne (es : List Int) (k n : Nat) (s : State) (h : n ≠ k) :
    outPin (measureOutput es s k) n = outPin s n := by
  unfold measureOutput
  dsimp only
  split
  · rw [outPin_raise, outPin_modOut_ne _ _ _ _ h]
  · rw [outPin_modOut_ne _ _ _ _ h]

theorem eventSet_measureOutput (es : List Int) (k pg b : Nat) (s : State) (h : eventSet .dxd pg b s) :
    eventSet .dxd pg b (measureOutput es s k) := by
  unfold measureOutput
  dsimp only
  split
  · exact eventSet_raise_of .dxd .dxd 0x11 pg (3 + k) b _ h
  · exact h

/-- The error of an output, and the event where it has just become MISALIGNED. -/
theorem errorMeasure_output (es : List Int) (n : Nat) (s : State) (hn : n < 3) :
    outPin (errorMeasure es s) n = measured (es.getD n 0) (outPin s n) ∧
      (offAlign (es.getD n 0) (outPin s n) = true → (outPin s n).misaligned = false →
        eventSet .dxd 0x11 (3 + n) (errorMeasure es s)) := by
  rw [errorMeasure_eq]
  refine outputs_pass hn (fun u => outPin u n = outPin s n)
    (fun u => outPin u n = measured (es.getD n 0) (outPin s n) ∧
      (offAlign (es.getD n 0) (outPin s n) = true → (outPin s n).misaligned = false → eventSet .dxd 0x11 (3 + n) u))
    ?_ ?_ ?_ s rfl
  · exact fun k u hk hu => (outPin_measureOutput_ne es k n u hk.symm).trans hu
  · intro u hu
    refine ⟨(outPin_measureOutput_same es n u).trans (by rw [hu]), fun hm hw => ?_⟩
    unfold measureOutput
    dsimp only
    rw [hu, hm, hw, if_pos (by decide)]
    exact eventSet_raiseOutput _ _ (by omega)
  · exact fun k u hk hu => ⟨(outPin_measureOutput_ne es k n u hk.symm).trans hu.1,
      fun hm hw => eventSet_measureOutput es k _ _ u (hu.2 hm hw)⟩

/-! Accepted ALIGN frames (R71, R133). -/

theorem enqueue_seqRx (d : Dev) (p : Nat) (src : Option Nat) (f : Frame) (s : State) (q : Nat) :
    ((enqueue d p src f s).port d q).rel.seqRx = (s.port d q).rel.seqRx := by
  unfold enqueue
  dsimp only
  by_cases hq : q = p
  · subst hq
    rw [port_modPort_same]
    (repeat' split) <;> rfl
  · rw [port_modPort_ne _ _ _ _ _ hq]

theorem enqueueAll_seqRx (d : Dev) (ps : List Nat) (src : Option Nat) (f : Frame) (s : State) (q : Nat) :
    ((enqueueAll d ps src f s).port d q).rel.seqRx = (s.port d q).rel.seqRx := by
  unfold enqueueAll
  induction ps generalizing s with
  | nil => rfl
  | cons p ps ih => rw [List.foldl_cons, ih, enqueue_seqRx]

/-- The strobe marks what is due (R132, R182). -/
theorem stepStrobe_due (k : KnownKick) (s : State) (hk : k ∈ s.x.kicks) (hst : k.strobed = false) (hw : k.withdrawn = false)
    (hb : k.k ≤ s.dc.tk.bc) :
    { k with strobed := true } ∈ (stepStrobe s).x.kicks ∧ (stepStrobe s).x.strobeAt = s.dc.tk.bc ∧
      (stepStrobe s).x.kicks.length = s.x.kicks.length := by
  have hdue : (!k.strobed && !k.withdrawn && decide (k.k ≤ s.dc.tk.bc)) = true := by simp [hst, hw, hb]
  unfold stepStrobe
  dsimp only
  rw [if_pos (List.any_eq_true.mpr ⟨k, hk, hdue⟩)]
  refine ⟨List.mem_map.mpr ⟨k, hk, ?_⟩, rfl, List.length_map _⟩
  rw [if_pos hdue]

/-- An output that is not enabled or has not been aligned is low (R132). -/
theorem outputHigh_idle (n : Nat) (s : State) (h : (outPin s n).aligned = false ∨ bit (s.reg .dxd 0x11100) n = false) :
    outputHigh n s = false := by
  unfold outputHigh
  dsimp only
  rcases h with h | h
  · rw [outPin] at h
    rw [h, Bool.false_and, Bool.false_and]
  · rw [h, Bool.and_false, Bool.false_and]

/-- An accepted ALIGN frame of a new message: the state after it (R71, R133). -/
theorem alignReceive_new (p : Nat) (h : LinkHdr) (ep : Nat) (f : AlignF) (s : State) (ha : Accepts .dxd p h ⟨ep, .align f⟩ s)
    (hq : oseqNew .dxd f.oseq s = true) :
    ∃ ps, alignReceive p h ep f s = enqueueAll .dxd ps (some p) ⟨ep, .align f⟩
      (storeAlign (extend48 s.dc.tk.bc f.at48) f.outputs (oseqTake .dxd f.oseq (acceptSeq .dxd p h.seq (takeLink .dxd p h s)))) := by
  have hq' : oseqNew .dxd f.oseq (acceptSeq .dxd p h.seq (takeLink .dxd p h s)) = true := by
    have : (acceptSeq .dxd p h.seq (takeLink .dxd p h s)).dc.oseq = s.dc.oseq := rfl
    rwa [oseqNew, com_dxd, this]
  have htk : (oseqTake .dxd f.oseq (acceptSeq .dxd p h.seq (takeLink .dxd p h s))).dc.tk = s.dc.tk := rfl
  refine ⟨alignPorts (oseqTake .dxd f.oseq (acceptSeq .dxd p h.seq (takeLink .dxd p h s))), ?_⟩
  unfold alignReceive
  rw [recvRetained_accepts .dxd p h _ _ s ha, alignTake, byOseq, if_pos hq', htk]

theorem alignReceive_taken (p : Nat) (h : LinkHdr) (ep : Nat) (f : AlignF) (s : State) (ha : Accepts .dxd p h ⟨ep, .align f⟩ s)
    (hq : oseqNew .dxd f.oseq s = true) (hv : s.dc.tk.htValid = true) :
    (alignReceive p h ep f s).dc.oseq = some (f.oseq, s.dc.up) ∧
      (∀ n, n < 3 → f.outputs / 2 ^ n % 2 = 1 →
        (outPin (alignReceive p h ep f s) n).pend = some (extend48 s.dc.tk.bc f.at48)) ∧
      ((alignReceive p h ep f s).port .dxd p).rel.seqRx = h.seq := by
  obtain ⟨ps, heq⟩ := alignReceive_new p h ep f s ha hq
  rw [heq]
  generalize hu : oseqTake .dxd f.oseq (acceptSeq .dxd p h.seq (takeLink .dxd p h s)) = u
  have hup : u.dc.oseq = some (f.oseq, s.dc.up) := by rw [← hu]; rfl
  have htk : u.dc.tk = s.dc.tk := by rw [← hu]; rfl
  have hseq : (u.port .dxd p).rel.seqRx = h.seq := by
    have hport : u.port .dxd p = (acceptSeq .dxd p h.seq (takeLink .dxd p h s)).port .dxd p := by rw [← hu]; rfl
    rw [hport, acceptSeq, port_modPort_same]
  refine ⟨?_, fun n hn ho => ?_, ?_⟩
  · exact (dc_oseq_eq (by simp [but])).trans hup
  · have hout : ∀ v : State, outPin (enqueueAll .dxd ps (some p) ⟨ep, .align f⟩ v) n = outPin v n := fun v => by
      have houts : (enqueueAll .dxd ps (some p) ⟨ep, .align f⟩ v).x.outs = v.x.outs := x_outs_eq (by simp [but])
      rw [outPin, houts, outPin]
    rw [hout, outPin_storeAlign _ _ n hn u (by rw [htk]; exact hv), if_pos ho]
  · have hports : (storeAlign (extend48 s.dc.tk.bc f.at48) f.outputs u).dc.ports = u.dc.ports := dc_ports_eq (by simp [but])
    rw [enqueueAll_seqRx, ← hseq, State.port, State.port, com_dxd, hports, com_dxd]

/-! Writes of OP_ALIGN.GO (R133). -/

theorem opAlignGo_taken (rq : Nat) (v : Word) (s : State) (hgo : bit v 63 = true) (hw : WriteTaken .dxd rq 0x11 0x110 s) :
    opAlignGo rq v s = opAlign v (dropHalf .dxd rq s) := by
  rw [opAlignGo, if_pos hgo, admitWrite_taken .dxd rq 0x11 0x110 v _ s hw]

theorem opAlign_within (v : Word) (s : State) (hgo : bit v 63 = true) (hown : bit v 62 = false)
    (hin : inWindow s.dc.tk.bc (s.reg .dxd 0x11108).toNat = true) :
    opAlign v s = storeAlign (s.reg .dxd 0x11108).toNat (fld v 0 3) s := by
  unfold opAlign
  dsimp only
  rw [if_neg (by simp [hgo]), if_neg (by simp [hin]), if_neg (by simp [hown])]

theorem opAlign_late (v : Word) (s : State) (hgo : bit v 63 = true)
    (hout : inWindow s.dc.tk.bc (s.reg .dxd 0x11108).toNat = false) : opAlign v s = raise .dxd 0x00 6 s := by
  unfold opAlign
  dsimp only
  rw [if_neg (by simp [hgo]), if_pos (by simp [hout])]

end Sys2Proof.Machine
end
section
/-!
PROOFS. The 1588 port (O21).
-/

namespace Sys2Proof.Machine

/-! Port states (R142). -/

/-- Page PT is operative in the root role. -/
theorem eventSet_raisePort (b : Nat) (s : State) (hr : s.x.straps.role = 2) (hb : b < 64) :
    eventSet .dxd 0x12 b (raise .dxd 0x12 b s) :=
  eventSet_raise .dxd 0x12 b s ⟨by simp [pageSt, pageStDxd, hr], by decide⟩ hb

/-- The state that a port enters, and since when. -/
def entered (n up : Nat) (i : PtpInst) : PtpInst := { i with state := n, slaveFrom := up, slaveSecs := 0 }

/-- A port that enters a state from another one but SLAVE. -/
theorem ptpState_entered (inst n : Nat) (s : State) (hn : (ptpInst inst s).state ≠ n) (hs : inst ≠ 1 ∨ (ptpInst inst s).state ≠ 9) :
    ptpState inst n s = raise .dxd 0x12 (inst - 1) (modInst inst (entered n s.dc.up) s) := by
  have hleft : ¬(inst = 1 ∧ (ptpInst inst s).state = stSlave) := by
    rintro ⟨h1, h9⟩
    rcases hs with h | h
    · exact h h1
    · exact h h9
  unfold ptpState
  dsimp only
  rw [if_neg hn, if_neg hleft]
  rfl

/-- Port 1 leaves SLAVE, and the PTP source loses its input (R109, R113). -/
theorem ptpState_left (n : Nat) (s : State) (h9 : s.x.pt.i1.state = 9) (hn : n ≠ 9) :
    ptpState 1 n s = loseEdges 2 (raise .dxd 0x12 0 (modInst 1 (entered n s.dc.up) s)) := by
  have hwas : (ptpInst 1 s).state = 9 := h9
  unfold ptpState
  dsimp only
  rw [if_neg (by rw [hwas]; exact Ne.symm hn), if_pos ⟨rfl, hwas⟩]
  rfl

theorem pt_raise (pg b : Nat) (s : State) : (raise .dxd pg b s).x.pt = s.x.pt := by simp

theorem qual_raise (pg b n : Nat) (s : State) : (raise .dxd pg b s).qual n = s.qual n := by simp [State.qual]

/-- The PTP source is lost and the count of seconds of port 1 starts again (R113). -/
def sourceMarkedLost (s : State) : State :=
  modSrc 2 (fun r => { r with qual := 3, good := 0, misses := 0 })
    (modPt (fun t => { t with i1 := { t.i1 with slaveSecs := 0 } }) s)

theorem sourceLost_portKept (s : State) (h2 : s.qual 2 = 2) : PortKept (sourceMarkedLost s) (sourceLost 2 s) := by
  have h1 : PortKept (sourceMarkedLost s) (history 2 (sourceMarkedLost s)) := portKept_history (portKept_refl _) 2
  unfold sourceLost
  dsimp only
  rw [if_neg (not_not.mpr h2), if_pos rfl, if_neg (show (2 : Nat) ≠ 0xE by decide)]
  refine portKept_choice _ h1 ?_
  rw [if_neg (show (2 : Nat) ≠ 0xE by decide)]
  split <;> exact portKept_follow h1 _ _

theorem lost_portKept (s : State) (h2 : s.qual 2 = 2) : PortKept (sourceMarkedLost s) (lost 2 s) := by
  rw [lost]
  exact portKept_dxdReselect (sourceLost_portKept s h2)

/-- The PTP source loses its input: at most the count of seconds of port 1 changes. -/
theorem loseEdges_port (s : State) :
    (∃ k, (k = 0 ∨ k = s.x.pt.i1.slaveSecs) ∧
      (loseEdges 2 s).x.pt = { s.x.pt with i1 := { s.x.pt.i1 with slaveSecs := k } }) ∧
      ∀ pg b, eventSet .dxd pg b s → eventSet .dxd pg b (loseEdges 2 s) := by
  unfold loseEdges
  split
  case isTrue h =>
    have hkept := lost_portKept s h
    exact ⟨⟨0, .inl rfl, hkept.pt⟩, fun pg b hb => hkept.events pg b hb⟩
  case isFalse h =>
    refine ⟨⟨s.x.pt.i1.slaveSecs, .inr rfl, ?_⟩, fun pg b hb => ?_⟩
    · split <;> rfl
    · split <;> exact hb

/-! Seconds of SLAVE (R112). -/

theorem modInst_congr {f g : PtpInst → PtpInst} {s : State} (h : f s.x.pt.i1 = g s.x.pt.i1) : modInst 1 f s = modInst 1 g s :=
  congrArg (fun i => modPt (fun t => { t with i1 := i }) s) h

theorem beginQualify_port (n : Nat) (s : State) :
    (beginQualify n s).x.pt = s.x.pt ∧ ∀ pg b, eventSet .dxd pg b s → eventSet .dxd pg b (beginQualify n s) := by
  unfold beginQualify
  split <;> exact ⟨rfl, fun _ _ h => h⟩

theorem qualified_port (n : Nat) (s : State) :
    (qualified n s).x.pt = s.x.pt ∧ ∀ pg b, eventSet .dxd pg b s → eventSet .dxd pg b (qualified n s) := by
  have hkept := portKept_dxdReselect (portKept_refl (markQualified n s))
  rw [qualified]
  exact ⟨hkept.pt, fun pg b h => hkept.events pg b h⟩

/-- A second of SLAVE changes the counts of its port, and the source's qualification. -/
theorem slaveSecond_port (s : State) :
    (∃ a b, (slaveSecond 1 s).x.pt = { s.x.pt with i1 := { s.x.pt.i1 with syncAt := s.dc.up, slaveFrom := a, slaveSecs := b } }) ∧
      ∀ pg b, eventSet .dxd pg b s → eventSet .dxd pg b (slaveSecond 1 s) := by
  unfold slaveSecond
  extract_lets i up k full s1 s2
  have h1 : ∃ a b, s1.x.pt = { s.x.pt with i1 := { s.x.pt.i1 with syncAt := s.dc.up, slaveFrom := a, slaveSecs := b } } := by
    have hpt : s1.x.pt = { s.x.pt with i1 := if k ≤ i.slaveSecs ∨ full = true
        then { s.x.pt.i1 with syncAt := up, slaveSecs := max s.x.pt.i1.slaveSecs (k + 1) }
        else { s.x.pt.i1 with syncAt := up, slaveFrom := up, slaveSecs := 1 } } := rfl
    rw [hpt]
    split
    · exact ⟨s.x.pt.i1.slaveFrom, _, rfl⟩
    · exact ⟨up, 1, rfl⟩
  have hev1 : ∀ pg b, eventSet .dxd pg b s → eventSet .dxd pg b s1 := fun _ _ h => h
  obtain ⟨hpt2, hev2⟩ := beginQualify_port 2 s1
  obtain ⟨hpt3, hev3⟩ := qualified_port 2 s2
  rw [if_neg (by decide)]
  split
  · exact ⟨by rw [hpt3, hpt2]; exact h1, fun pg b h => hev3 pg b (hev2 pg b (hev1 pg b h))⟩
  · exact ⟨by rw [hpt2]; exact h1, fun pg b h => hev2 pg b (hev1 pg b h)⟩

/-- QUAL of a source is at least a second. -/
theorem qualSeconds_pos (s : State) : 0 < qualSeconds s := by
  unfold qualSeconds orOne
  split <;> omega

/-- The first Sync of SLAVE: its second counts, and the source is QUALIFYING from then on (R112). -/
theorem slaveSecond_first (s : State) (hfrom : s.x.pt.i1.slaveFrom = s.dc.up) (hsecs : s.x.pt.i1.slaveSecs = 0) :
    slaveSecond 1 s = beginQualify 2 (modInst 1 (fun i => { i with syncAt := s.dc.up, slaveSecs := 1 }) s) := by
  have hk : (s.dc.up - (ptpInst 1 s).slaveFrom) / 1000000000 = 0 := by
    have : (ptpInst 1 s).slaveFrom = s.dc.up := hfrom
    simp [this]
  have hs : (ptpInst 1 s).slaveSecs = 0 := hsecs
  have hpos := qualSeconds_pos s
  unfold slaveSecond
  dsimp only
  rw [hk, hs, if_neg (show ¬(1 : Nat) ≠ 1 by decide)]
  have hfull : decide (qualSeconds s ≤ 0 ∧ qualSeconds s ≤ 0) = false := by simp; omega
  rw [hfull, if_neg (by simp)]
  refine congrArg (beginQualify 2) (modInst_congr ?_)
  rw [if_pos (.inl (Nat.zero_le _)), hsecs]
  rfl

theorem beginQualify_qual (n : Nat) (s : State) :
    (beginQualify n s).qual n = if s.qual n = 0 ∨ s.qual n = 3 then 1 else s.qual n := by
  unfold beginQualify
  split
  · exact congrArg RefSrc.qual (src_modSrc_same n _ s)
  · rfl

/-! Complete Syncs (R112, R138). -/

/-- A port that has both stamps of a Sync. -/
def stamped (t1 t2 : Int) (i : PtpInst) : PtpInst := { i with t1 := t1, t2 := t2, waitFu := none, offset := t2 - t1 - i.meanPath }

/-- Port 1 notes a Sync, the first one of a fit apart. -/
def syncNoted (t1 t2 : Int) (s : State) : State :=
  modInst 1 (fun i => { i with t1 := t1, t2 := t2, waitFu := none, offset := t2 - t1 - (ptpInst 1 s).meanPath })
    (if s.dc.coreA.fit = true ∧ s.x.hold.syncFirst.isNone = true then
    modHold (fun h => { h with syncFirst := some (t1, t2, s.dc.up) }) s else s)

theorem syncNoted_keeps (t1 t2 : Int) (s : State) :
    (syncNoted t1 t2 s).x.pt = { s.x.pt with i1 := stamped t1 t2 s.x.pt.i1 } ∧ (syncNoted t1 t2 s).dc = s.dc ∧
      (syncNoted t1 t2 s).x.rf = s.x.rf ∧ (syncNoted t1 t2 s).x.straps = s.x.straps := by
  unfold syncNoted
  split <;> exact ⟨rfl, rfl, rfl, rfl⟩

theorem ptpSync_eq (t1 t2 : Int) (s : State) :
    ptpSync 1 t1 t2 s =
      let s2 := if (ptpInst 1 s).state = stUncal then ptpState 1 stSlave (syncNoted t1 t2 s) else syncNoted t1 t2 s
      if (ptpInst 1 s2).state = stSlave then ptpSample (t2 - t1 - (ptpInst 1 s).meanPath) (slaveSecond 1 s2) else s2 := by
  unfold ptpSync syncNoted
  simp only [true_and, if_true]

/-- The first Sync of the announced master takes port 1 to SLAVE (R112, R142). -/
theorem ptpSync_uncalibrated (t1 t2 : Int) (s : State) (h8 : s.x.pt.i1.state = 8) (hr : s.x.straps.role = 2) :
    (ptpSync 1 t1 t2 s).x.pt = { s.x.pt with i1 := { stamped t1 t2 s.x.pt.i1 with
        state := 9, slaveFrom := s.dc.up, syncAt := s.dc.up, slaveSecs := 1 } } ∧
      eventSet .dxd 0x12 0 (ptpSync 1 t1 t2 s) ∧
      (ptpSync 1 t1 t2 s).qual 2 = if s.qual 2 = 0 ∨ s.qual 2 = 3 then 1 else s.qual 2 := by
  obtain ⟨hpt, hdc, hrf, hstraps⟩ := syncNoted_keeps t1 t2 s
  have hstate : (ptpInst 1 (syncNoted t1 t2 s)).state = 8 := by
    rw [ptpInst, if_pos rfl, hpt]
    exact h8
  have henter := ptpState_entered 1 9 (syncNoted t1 t2 s) (by rw [hstate]; decide) (.inr (by rw [hstate]; decide))
  generalize hu : raise .dxd 0x12 (1 - 1) (modInst 1 (entered 9 (syncNoted t1 t2 s).dc.up) (syncNoted t1 t2 s)) = u at henter
  have hupt : u.x.pt = { s.x.pt with i1 := entered 9 s.dc.up (stamped t1 t2 s.x.pt.i1) } := by
    have : (modInst 1 (entered 9 (syncNoted t1 t2 s).dc.up) (syncNoted t1 t2 s)).x.pt =
        { (syncNoted t1 t2 s).x.pt with i1 := entered 9 (syncNoted t1 t2 s).dc.up (syncNoted t1 t2 s).x.pt.i1 } := rfl
    rw [← hu, pt_raise, this, hpt, hdc]
  have hup : u.dc.up = s.dc.up := by
    rw [← hu, ← hdc]
    exact dc_up_eq (by simp [but])
  have hqual : u.qual 2 = s.qual 2 := by
    rw [← hu, qual_raise]
    exact congrArg (fun l : Ref => (tabGet {} l.src 2).qual) hrf
  have hev : eventSet .dxd 0x12 0 u := by
    rw [← hu]
    exact eventSet_raisePort 0 _ (by exact (congrArg Straps.role hstraps).trans hr) (by decide)
  have hslave : (ptpInst 1 u).state = 9 := by rw [ptpInst, if_pos rfl, hupt]; rfl
  have hsecond := slaveSecond_first u (by rw [hupt, hup]; rfl) (by rw [hupt]; rfl)
  rw [ptpSync_eq]
  dsimp only
  rw [if_pos (show (ptpInst 1 s).state = stUncal from h8), show stSlave = 9 from rfl, henter, if_pos hslave, hsecond]
  generalize hw : modInst 1 (fun i => { i with syncAt := u.dc.up, slaveSecs := 1 }) u = w
  have hwpt : w.x.pt = { u.x.pt with i1 := { u.x.pt.i1 with syncAt := u.dc.up, slaveSecs := 1 } } := by rw [← hw]; rfl
  have hwqual : w.qual 2 = s.qual 2 := by rw [← hw]; exact hqual
  have hwev : eventSet .dxd 0x12 0 w := by rw [← hw]; exact hev
  obtain ⟨hbpt, hbev⟩ := beginQualify_port 2 w
  have hkept := portKept_ptpSample (portKept_refl (beginQualify 2 w)) (t2 - t1 - (ptpInst 1 s).meanPath)
  refine ⟨?_, hkept.events _ _ (hbev _ _ hwev), ?_⟩
  · rw [hkept.pt, hbpt, hwpt, hupt, hup]
    rfl
  · rw [hkept.qual, beginQualify_qual, hwqual]

/-- A Sync in SLAVE (R112). -/
theorem ptpSync_slave (t1 t2 : Int) (s : State) (h9 : s.x.pt.i1.state = 9) :
    ∃ a b, (ptpSync 1 t1 t2 s).x.pt = { s.x.pt with i1 := { stamped t1 t2 s.x.pt.i1 with
        syncAt := s.dc.up, slaveFrom := a, slaveSecs := b } } := by
  obtain ⟨hpt, hdc, -, -⟩ := syncNoted_keeps t1 t2 s
  rw [ptpSync_eq]
  dsimp only
  have hslave : (ptpInst 1 (syncNoted t1 t2 s)).state = stSlave := by rw [ptpInst, if_pos rfl, hpt]; exact h9
  have huncal : ¬(ptpInst 1 s).state = stUncal := by rw [ptpInst, if_pos rfl, h9]; decide
  rw [if_neg huncal, if_pos hslave]
  obtain ⟨⟨a, b, hsec⟩, -⟩ := slaveSecond_port (syncNoted t1 t2 s)
  have hkept := portKept_ptpSample (portKept_refl (slaveSecond 1 (syncNoted t1 t2 s))) (t2 - t1 - (ptpInst 1 s).meanPath)
  exact ⟨a, b, by rw [hkept.pt, hsec, hpt, hdc]⟩

/-! Messages received and sent (R136, R138). -/

/-- A message that port 1 or 2 listens for. -/
theorem ptpReceive_heard (inst : Nat) (m : PtpMsg) (stamp : Nat) (s : State) (hr : ptpRuns inst s = true)
    (hd : m.domain = s.regF .dxd 0x12100 16 8) (hn : netMatches inst m s = true) (hm : mechUses m.kind s = true) :
    ptpReceive inst m stamp s = ptpHandle inst (ptpRole inst s) m stamp s := by
  rw [ptpReceive, hr, hn, hm, hd, if_pos (by simp)]

theorem ptpReceive_unheard (inst : Nat) (m : PtpMsg) (stamp : Nat) (s : State)
    (h : ptpRuns inst s = false ∨ netMatches inst m s = false ∨ mechUses m.kind s = false) : ptpReceive inst m stamp s = s := by
  rw [ptpReceive, if_neg]
  rcases h with h | h | h <;> simp [h]

theorem ptpRuns_role {inst : Nat} {s : State} (h : ptpRuns inst s = true) : s.x.straps.role = 2 := by
  simp only [ptpRuns, Bool.and_eq_true, beq_iff_eq] at h
  exact h.1.1.1.1

/-- A one-step Sync of the announced master at port 1 (R138). -/
theorem ptpReceive_oneStepSync (m a : PtpMsg) (stamp : Nat) (s : State) (hr : ptpRuns 1 s = true)
    (hd : m.domain = s.regF .dxd 0x12100 16 8) (hrole : ptpRole 1 s = 2) (hk : m.kind = .sync)
    (hn : netMatches 1 m s = true) (htwo : m.twoStep = false) (ha : s.x.pt.i1.ann = some a) (hs : a.source = m.source) :
    ptpReceive 1 m stamp s = ptpSync 1 (nsLsb m.ts + m.correction) (rxTime stamp s) s := by
  have hann : (ptpInst 1 s).ann = some a := ha
  rw [ptpReceive_heard 1 m stamp s hr hd hn (by rw [hk]; rfl)]
  unfold ptpHandle
  simp only [hk, hann, hs, hrole, htwo]
  simp

/-- A one-step Sync leaves with its departure time (R138). -/
theorem ptpTransmit_oneStepSync (m : PtpMsg) (tm stamp : Nat) (s : State) (hr : ptpRuns 2 s = true) (hrole : ptpRole 2 s = 1)
    (h6 : s.x.pt.i2.state = 6) (hk : m.kind = .sync) (htwo : bit (s.reg .dxd 0x12100) 28 = false) :
    ptpTransmit 2 m tm stamp s = txCheck (txTime tm s) stamp (modInst 2 (fun i => { i with
      txStamp := stamp,
      sent := some { m with
        domain := s.regF .dxd 0x12100 16 8, source := portIdentity 2 s, twoStep := false, net := netOf 2 .sync true s,
        ts := nsOf (txTime tm s), correction := m.correction + fracOf (txTime tm s) } }) s) := by
  have hmaster : (ptpInst 2 s).state = stMaster := h6
  have hmech : mechUses m.kind s = true := by rw [hk]; rfl
  have hsoon : reqTooSoon 2 m.kind s = false := by rw [hk]; rfl
  unfold ptpTransmit
  dsimp only
  rw [hr, hmech, hsoon, if_pos (by decide), if_neg (by simp [hmaster]), if_neg (by simp [hrole])]
  simp only [ptpSend, hk, htwo]
  simp

/-! Announces and Syncs that stay away (R113). -/

theorem ptpTimeout_announce (s : State) (h : s.x.pt.i1.state = 8 ∨ s.x.pt.i1.state = 9)
    (hlate : s.x.pt.i1.annAt + announceTimeout s * intervalBeats (logAnnounce s) ≤ s.dc.up) :
    ptpTimeout s = ptpState 1 4 (modInst 1 (fun i => { i with ann := none }) s) := by
  unfold ptpTimeout
  dsimp only
  rw [if_neg, if_pos hlate]
  · rfl
  · rintro ⟨hslave, huncal⟩
    exact h.elim huncal hslave

theorem ptpTimeout_sync (s : State) (h : s.x.pt.i1.state = 9)
    (hann : s.dc.up < s.x.pt.i1.annAt + announceTimeout s * intervalBeats (logAnnounce s))
    (hlate : s.x.pt.i1.syncAt + 3 * intervalBeats (logSync s) ≤ s.dc.up) :
    ptpTimeout s = loseEdges 2 (modInst 1 (fun i => { i with slaveFrom := s.dc.up, slaveSecs := 0 }) s) := by
  unfold ptpTimeout
  dsimp only
  rw [if_neg, if_neg (Nat.not_le.mpr hann), if_pos hlate]
  exact fun hst => hst.1 h

/-! Restarts under PT_CTL (R136). -/

theorem fld_congr {v w : Word} {lo n : Nat} (h : ∀ i, i < n → v.toNat.testBit (lo + i) = w.toNat.testBit (lo + i)) :
    fld v lo n = fld w lo n := by
  refine Nat.eq_of_testBit_eq fun i => ?_
  simp only [fld, Nat.testBit_mod_two_pow, Nat.testBit_div_two_pow]
  by_cases hi : i < n
  · rw [Nat.add_comm i lo, h i hi]
  · simp [hi]

theorem testBit_of_fld {v w : Word} {lo n : Nat} (h : fld v lo n = fld w lo n) (i : Nat) (hi : i < n) :
    v.toNat.testBit (lo + i) = w.toNat.testBit (lo + i) := by
  have hbit := congrArg (Nat.testBit · i) h
  simpa [fld, Nat.testBit_mod_two_pow, Nat.testBit_div_two_pow, hi, Nat.add_comm] using hbit

/-- Two words that differ in a field have a difference there. -/
theorem fld_xor_ne_zero {v w : Word} {lo n : Nat} (h : fld v lo n ≠ fld w lo n) : fld (v ^^^ w) lo n ≠ 0 := by
  intro h0
  refine h (fld_congr fun i hi => ?_)
  have hz : fld (v ^^^ w) lo n = fld 0 lo n := by rw [h0]; simp [fld]
  have hbit := testBit_of_fld hz i hi
  simpa using hbit

/-- A field that a write's mask covers is the one written. -/
theorem fld_masked {v w m : Word} {lo n : Nat} (h : ∀ i, i < n → m.toNat.testBit (lo + i) = true) :
    fld ((v &&& m) ||| (w &&& ~~~m)) lo n = fld v lo n := by
  refine fld_congr fun i hi => ?_
  have hm := h i hi
  have hlt : lo + i < 64 := by
    by_contra hge
    rw [Nat.testBit_lt_two_pow (lt_of_lt_of_le m.isLt (Nat.pow_le_pow_right (by decide) (Nat.not_lt.mp hge)))] at hm
    exact absurd hm (by decide)
  have hm' : m[lo + i] = true := hm
  have hgoal : ((v &&& m) ||| (w &&& ~~~m)).getLsbD (lo + i) = v.getLsbD (lo + i) := by
    simp [hm', hlt]
  exact hgoal

/-- The writable bits of PT_CTL, with a DOMAIN of at most 127 (R136). -/
def ptCtlMask : Word := wd [(48, 0xFFF), (36, 0xFFF), (24, 0xFF), (16, 0xFF), (0, 0xFFFF)]

/-- The port as a restart finds and leaves it. -/
def restarted (i : PtpInst) : PtpInst := { state := i.state, sent := i.sent }

theorem ptpRestart_eq (inst : Nat) (s : State) :
    ptpRestart inst s = modInst inst restarted (ptpState inst (if ptpRole inst s = 0 then stDisabled else stInit) s) := rfl

/-- A change of state of port 1 changes nothing of the other one. -/
theorem ptpState_other (n : Nat) (s : State) : (ptpState 1 n s).x.pt.i2 = s.x.pt.i2 := by
  unfold ptpState
  dsimp only
  split
  · rfl
  · have h2 : ∀ f, (raise .dxd 0x12 (1 - 1) (modInst 1 f s)).x.pt.i2 = s.x.pt.i2 := fun f => by rw [pt_raise]; rfl
    split
    · obtain ⟨⟨k, -, hpt⟩, -⟩ := loseEdges_port (raise .dxd 0x12 (1 - 1) (modInst 1 (entered n s.dc.up) s))
      exact (congrArg Ptp.i2 hpt).trans (h2 _)
    · exact h2 _

theorem ptpRestart_one (s : State) : (ptpRestart 1 s).x.pt.i2 = s.x.pt.i2 := by
  rw [ptpRestart_eq]
  exact ptpState_other _ s

/-- Port 2, out of DISABLED into a role, knows nothing of what it knew. -/
theorem ptpRestart_two (s : State) (hrole : ptpRole 2 s = 1) (h3 : s.x.pt.i2.state = 3) :
    (ptpRestart 2 s).x.pt.i2.state = 1 ∧ (ptpRestart 2 s).x.pt.i2.ann = none := by
  have hne : (ptpInst 2 s).state ≠ 1 := by rw [ptpInst, if_neg (by decide), h3]; decide
  have hpt : ∀ u : State, (modInst 2 restarted u).x.pt.i2 = restarted u.x.pt.i2 := fun _ => rfl
  rw [ptpRestart_eq, hpt, hrole, if_neg (by decide), show stInit = 1 from rfl, ptpState_entered 2 1 s hne (.inl (by decide)),
    pt_raise]
  exact ⟨rfl, rfl⟩

theorem ptpRestart_regs (inst : Nat) (s : State) (a : Nat) : (ptpRestart inst s).reg .dxd a = s.reg .dxd a := by
  have hregs : (ptpRestart inst s).dc.regs = s.dc.regs := dc_regs_eq (by simp [but])
  have hkind : (ptpRestart inst s).tc.fuse = s.tc.fuse := tc_fuse_eq (by simp [but])
  rw [State.reg, State.reg, com_dxd, hregs, hkind]
  rfl

/-- A write that changes ROLE_2 restarts port 2, after port 1 where that one restarts too. -/
theorem ptCtl_role (v : Word) (s : State) (hr : s.x.straps.role = 2) (hdom : fld v 16 8 ≤ 127)
    (hrole : fld v 26 2 ≠ s.regF .dxd 0x12100 26 2) :
    ∃ u, ptCtl v s = ptpRestart 2 u ∧ u.x.pt.i2 = s.x.pt.i2 ∧
      u.reg .dxd 0x12100 = (v &&& ptCtlMask) ||| (s.reg .dxd 0x12100 &&& ~~~ptCtlMask) := by
  have hnew : (setReg .dxd 0x12100 ptCtlMask v s).reg .dxd 0x12100 =
      (v &&& ptCtlMask) ||| (s.reg .dxd 0x12100 &&& ~~~ptCtlMask) := by rw [reg_setReg, if_pos rfl]
  have hfield : fld ((setReg .dxd 0x12100 ptCtlMask v s).reg .dxd 0x12100) 26 2 = fld v 26 2 := by
    rw [hnew, fld_masked (by decide)]
  have hdif := fld_xor_ne_zero (v := s.reg .dxd 0x12100) (w := (setReg .dxd 0x12100 ptCtlMask v s).reg .dxd 0x12100)
    (lo := 26) (n := 2) (by rw [hfield]; exact Ne.symm hrole)
  unfold ptCtl
  rw [if_neg (not_not.mpr hr), if_pos hdom]
  extract_lets old mask s1 dif common s2
  have hdif' : fld dif 26 2 ≠ 0 := hdif
  rw [if_pos (by rw [bne_iff_ne.mpr hdif', Bool.or_true])]
  refine ⟨s2, rfl, ?_, ?_⟩
  · have hi2 : ∀ c : Bool, (if c then ptpRestart 1 s1 else s1).x.pt.i2 = s1.x.pt.i2 := by
      intro c
      split
      · exact ptpRestart_one s1
      · rfl
    exact hi2 _
  · have hreg : ∀ c : Bool, (if c then ptpRestart 1 s1 else s1).reg .dxd 0x12100 = s1.reg .dxd 0x12100 := by
      intro c
      split
      · exact ptpRestart_regs 1 s1 _
      · rfl
    exact (hreg _).trans hnew

theorem ptCtl_fields (v : Word) (s : State) (hr : s.x.straps.role = 2) (hdom : fld v 16 8 ≤ 127) (hone : fld v 26 2 = 1)
    (hzero : s.regF .dxd 0x12100 26 2 = 0) (h3 : s.x.pt.i2.state = 3) :
    (ptCtl v s).regF .dxd 0x12100 26 2 = 1 ∧ (ptCtl v s).regF .dxd 0x12100 16 8 = fld v 16 8 ∧
      (ptCtl v s).x.pt.i2.state = 1 ∧ (ptCtl v s).x.pt.i2.ann = none := by
  obtain ⟨u, heq, hi2, hreg⟩ := ptCtl_role v s hr hdom (by rw [hone, hzero]; decide)
  have h26 : u.regF .dxd 0x12100 26 2 = 1 := by rw [State.regF, hreg, fld_masked (by decide), hone]
  have h16 : u.regF .dxd 0x12100 16 8 = fld v 16 8 := by rw [State.regF, hreg, fld_masked (by decide)]
  have hrole : ptpRole 2 u = 1 := by
    have h26' : u.regF .dxd 0x12100 (if 2 = 1 then 24 else 26) 2 = 1 := h26
    unfold ptpRole
    dsimp only
    rw [h26', if_neg (by decide)]
  obtain ⟨hstate, hann⟩ := ptpRestart_two u hrole (by rw [hi2]; exact h3)
  rw [heq]
  refine ⟨?_, ?_, hstate, hann⟩
  · rw [State.regF, ptpRestart_regs]; exact h26
  · rw [State.regF, ptpRestart_regs]; exact h16

end Sys2Proof.Machine
end
section
/-!
PROOFS. Outputs, the step strobe and the 1588 port (O21).
-/

namespace Sys2Proof.Machine

/-- OP_ALIGN.GO within the window of R38: stored for the selected outputs. -/
theorem opAlignGo_within (rq : Nat) (v : Word) (s : State) (hgo : bit v 63 = true) (hown : bit v 62 = false)
    (hw : WriteTaken .dxd rq 0x11 0x110 s) (hv : s.dc.tk.htValid = true)
    (hin : inWindow s.dc.tk.bc (s.reg .dxd 0x11108).toNat = true) :
    (∀ n, n < 3 → outPin (opAlignGo rq v s) n = (if fld v 0 3 / 2 ^ n % 2 = 1 then
        { outPin s n with pend := some (s.reg .dxd 0x11108).toNat } else outPin s n)) ∧
      Only [.com .dxd .badAccess, .com .dxd .barCap, .com .dxd .barLow, .outs] s (opAlignGo rq v s) := by
  have htk : (dropHalf .dxd rq s).dc.tk = s.dc.tk := by simp
  have hreg : (dropHalf .dxd rq s).reg .dxd 0x11108 = s.reg .dxd 0x11108 := by simp [State.reg]
  rw [opAlignGo_taken rq v s hgo hw, opAlign_within v _ hgo hown (by rw [htk, hreg]; exact hin), hreg]
  refine ⟨fun n hn => ?_, ?_⟩
  · rw [outPin_storeAlign _ _ n hn _ (by rw [htk]; exact hv)]
    simp [outPin]
  · simp [Only, -com_dxd]

/-- OP_ALIGN.GO outside that window: a late target. -/
theorem opAlignGo_late (rq : Nat) (v : Word) (s : State) (hgo : bit v 63 = true) (hw : WriteTaken .dxd rq 0x11 0x110 s)
    (hout : inWindow s.dc.tk.bc (s.reg .dxd 0x11108).toNat = false) :
    (opAlignGo rq v s).x.outs = s.x.outs ∧ eventSet .dxd 0x00 6 (opAlignGo rq v s) ∧ Only [.com .dxd .pgEvent,
      .com .dxd .badAccess, .com .dxd .ic, .com .dxd .barCap, .com .dxd .barLow] s (opAlignGo rq v s) := by
  have htk : (dropHalf .dxd rq s).dc.tk = s.dc.tk := by simp
  have hreg : (dropHalf .dxd rq s).reg .dxd 0x11108 = s.reg .dxd 0x11108 := by simp [State.reg]
  rw [opAlignGo_taken rq v s hgo hw, opAlign_late v _ hgo (by rw [htk, hreg]; exact hout)]
  exact ⟨by simp, eventSet_raiseTk .dxd 6 _ (by decide), by simp [Only, -com_dxd]⟩

/-- The PTP source is lost with its input where it was QUALIFIED (R113). -/
theorem loseEdges_qualified (s : State) (h2 : s.qual 2 = 2) : (loseEdges 2 s).qual 2 = 3 := by
  obtain ⟨hqual, -⟩ := loseEdges_src 2 s (by decide) (.inr h2)
  rw [hqual, if_neg (by omega)]

/-- A QUALIFYING PTP source falls back to what it has ever been (R113). -/
theorem loseEdges_qualifying (s : State) (h1 : s.qual 2 = 1) :
    (loseEdges 2 s).qual 2 = if (tabGet {} s.x.rf.src 2).everQual = true then 3 else 0 := by
  obtain ⟨hqual, -⟩ := loseEdges_src 2 s (by decide) (.inl h1)
  rw [hqual, h1]
  cases (tabGet {} s.x.rf.src 2).everQual <;> rfl

/-- Port 1 has left SLAVE for want of Announces. -/
def leftSlave (s : State) : State :=
  raise .dxd 0x12 0 (modInst 1 (entered 4 s.dc.up) (modInst 1 (fun i => { i with ann := none }) s))

theorem ptpTimeout_slave (s : State) (h9 : s.x.pt.i1.state = 9)
    (hlate : s.x.pt.i1.annAt + announceTimeout s * intervalBeats (logAnnounce s) ≤ s.dc.up) :
    ptpTimeout s = loseEdges 2 (leftSlave s) := by
  have h9' : (modInst 1 (fun i => { i with ann := none }) s).x.pt.i1.state = 9 := h9
  rw [ptpTimeout_announce s (.inr h9) hlate, ptpState_left 4 _ h9' (by decide)]
  rfl

theorem leftSlave_port (s : State) (hr : s.x.straps.role = 2) :
    (loseEdges 2 (leftSlave s)).x.pt.i1.state = 4 ∧ (loseEdges 2 (leftSlave s)).x.pt.i1.ann = none ∧
      (loseEdges 2 (leftSlave s)).x.pt.i2 = s.x.pt.i2 ∧
      (s.qual 2 = 2 → (loseEdges 2 (leftSlave s)).qual 2 = 3) ∧
      (s.qual 2 = 1 → (loseEdges 2 (leftSlave s)).qual 2 = if (tabGet {} s.x.rf.src 2).everQual = true then 3 else 0) ∧
      eventSet .dxd 0x12 0 (loseEdges 2 (leftSlave s)) := by
  have hpt : (leftSlave s).x.pt = { s.x.pt with i1 := entered 4 s.dc.up { s.x.pt.i1 with ann := none } } := pt_raise _ _ _
  have hrf : (leftSlave s).x.rf = s.x.rf := by
    have hx : (leftSlave s).x = (modInst 1 (entered 4 s.dc.up) (modInst 1 (fun i => { i with ann := none }) s)).x := raise_x _ _ _ _
    rw [hx]
    rfl
  have hqual : (leftSlave s).qual 2 = s.qual 2 := by rw [State.qual, hrf, State.qual]
  have hev : eventSet .dxd 0x12 0 (leftSlave s) := eventSet_raisePort 0 _ hr (by decide)
  obtain ⟨⟨k, -, hlose⟩, hkeep⟩ := loseEdges_port (leftSlave s)
  rw [hlose, hpt]
  refine ⟨rfl, rfl, rfl, fun h2 => loseEdges_qualified _ (hqual.trans h2), fun h1 => ?_, hkeep _ _ hev⟩
  rw [loseEdges_qualifying _ (hqual.trans h1), hrf]

/-- Settles O21: the outputs one pass at a time, the 1588 port through what a sample and a selection leave of it. -/
theorem outputsAndPtp : Obligations.OutputsAndPtp := by
  unfold Obligations.OutputsAndPtp
  refine ⟨?within, ?late, ?frame, ?beat, ?error, ?low, ?strobe, ?delayReq, ?syncUncal, ?syncSlave, ?unheard, ?transmit,
    ?annUncal, ?annSlave, ?syncLost, ?listensReset, ptpListens_step, ?ctl, ?path, ?link⟩
  case within =>
    intro rq v s hgo hown hw hv hin
    exact ⟨_, rfl, opAlignGo_within rq v s hgo hown hw hv hin⟩
  case late =>
    intro rq v s hgo hw hout
    exact ⟨_, rfl, opAlignGo_late rq v s hgo hw hout⟩
  case frame =>
    intro p h ep f s ha hq hv
    obtain ⟨hoseq, houts, hseq⟩ := alignReceive_taken p h ep f s ha hq hv
    exact ⟨_, rfl, hoseq, houts, hseq, by apply alignReceive_blank <;> decide⟩
  case beat =>
    intro n at_ s hn hp hr
    obtain ⟨hpin, hev⟩ := outputAlignment_due n at_ s hn hp hr
    have hpin' : tabGet {} (outputAlignment s).x.outs n = _ := hpin
    refine ⟨_, rfl, ?_⟩
    rw [hpin']
    exact ⟨rfl, rfl, rfl, rfl, hev, by apply outputAlignment_blank <;> decide⟩
  case error =>
    intro e0 e1 e2 s
    refine ⟨_, rfl, fun n hn => ?_, by apply errorMeasure_blank <;> decide⟩
    obtain ⟨hpin, hev⟩ := errorMeasure_output [e0, e1, e2] n s hn
    have hpin' : tabGet {} (errorMeasure [e0, e1, e2] s).x.outs n = _ := hpin
    rw [hpin']
    exact ⟨rfl, rfl, hev⟩
  case low => exact fun n s h => outputHigh_idle n s h
  case strobe =>
    intro k s hk hst hw hb
    obtain ⟨hmem, hat, hlen⟩ := stepStrobe_due k s hk hst hw hb
    exact ⟨_, rfl, hmem, hat, hlen, by apply stepStrobe_blank <;> decide⟩
  case delayReq =>
    intro m stamp a s hr hd hrole hk hn hp ha
    have heq : ptpReceive 2 m stamp s = modInst 2 (fun i => { i with rxReq := some a }) s := by
      rw [ptpReceive_heard 2 m stamp s hr hd hn (by rw [hk, mechUses, hp]; rfl), hrole, ha]
      simp [ptpHandle, hk]
    refine ⟨_, rfl, ?_⟩
    rw [heq]
    exact ⟨rfl, rfl, rfl, by simp [Only]⟩
  case syncUncal =>
    intro m stamp a s hr hd hrole hk hn htwo ha hs h8
    have hframe : Only [.com .dxd .tk, .com .dxd .coreA, .com .dxd .coreB, .com .dxd .msets, .com .dxd .regs,
        .com .dxd .pgEvent, .com .dxd .ic, .com .dxd .hfits, .refs, .hold, .ptp, .attic] s (ptpReceive 1 m stamp s) := by
      apply ptpReceive_blank <;> decide
    refine ⟨_, rfl, ?_⟩
    rw [ptpReceive_oneStepSync m a stamp s hr hd hrole hk hn htwo ha hs] at hframe ⊢
    obtain ⟨hpt, hev, hqual⟩ := ptpSync_uncalibrated (nsLsb m.ts + m.correction) (rxTime stamp s) s h8 (ptpRuns_role hr)
    rw [hpt]
    exact ⟨rfl, rfl, rfl, rfl, rfl, rfl, hev, hqual, rfl, hframe⟩
  case syncSlave =>
    intro m stamp a s hr hd hrole hk hn htwo ha hs h9
    have hframe : Only [.com .dxd .tk, .com .dxd .coreA, .com .dxd .coreB, .com .dxd .msets, .com .dxd .regs,
        .com .dxd .pgEvent, .com .dxd .ic, .com .dxd .hfits, .refs, .hold, .ptp, .attic] s (ptpReceive 1 m stamp s) := by
      apply ptpReceive_blank <;> decide
    refine ⟨_, rfl, ?_⟩
    rw [ptpReceive_oneStepSync m a stamp s hr hd hrole hk hn htwo ha hs] at hframe ⊢
    obtain ⟨x, y, hpt⟩ := ptpSync_slave (nsLsb m.ts + m.correction) (rxTime stamp s) s h9
    rw [hpt]
    exact ⟨rfl, rfl, rfl, h9, rfl, ha, rfl, hframe⟩
  case unheard => exact fun inst m stamp s h => congrArg _ (ptpReceive_unheard inst m stamp s h)
  case transmit =>
    intro m tm stamp s hr hrole h6 hk htwo
    refine ⟨_, rfl, ?_⟩
    rw [ptpTransmit_oneStepSync m tm stamp s hr hrole h6 hk htwo]
    exact ⟨rfl, rfl, rfl, rfl, rfl, rfl, by simp [Only]⟩
  case annUncal =>
    intro s h8 hlate hr
    have hframe : Only [.com .dxd .pgEvent, .com .dxd .ic, .ptp] s
        (raise .dxd 0x12 0 (modInst 1 (entered 4 s.dc.up) (modInst 1 (fun i => { i with ann := none }) s))) := by
      simp [Only, -com_dxd]
    have hstate : (ptpInst 1 (modInst 1 (fun i => { i with ann := none }) s)).state = 8 := h8
    refine ⟨_, rfl, ?_⟩
    rw [ptpTimeout_announce s (.inl h8) hlate,
      ptpState_entered 1 4 _ (by rw [hstate]; decide) (.inr (by rw [hstate]; decide)), pt_raise]
    exact ⟨rfl, rfl, rfl, eventSet_raisePort 0 _ hr (by decide), hframe⟩
  case annSlave =>
    intro s h9 hlate hr
    have hframe : Only [.com .dxd .tk, .com .dxd .coreA, .com .dxd .coreB, .com .dxd .msets, .com .dxd .pgEvent,
        .com .dxd .ic, .com .dxd .hfits, .refs, .hold, .ptp, .attic] s (ptpTimeout s) := by
      apply ptpTimeout_blank <;> decide
    refine ⟨_, rfl, ?_⟩
    rw [ptpTimeout_slave s h9 hlate] at hframe ⊢
    obtain ⟨hstate, hann, hi2, hqual, hlost, hev⟩ := leftSlave_port s hr
    exact ⟨hstate, hann, hqual, hlost, hi2, hev, hframe⟩
  case syncLost =>
    intro s h9 hann hlate _
    have hframe : Only [.com .dxd .tk, .com .dxd .coreA, .com .dxd .coreB, .com .dxd .msets, .com .dxd .pgEvent,
        .com .dxd .ic, .com .dxd .hfits, .refs, .hold, .ptp, .attic] s (ptpTimeout s) := by
      apply ptpTimeout_blank <;> decide
    refine ⟨_, rfl, ?_⟩
    rw [ptpTimeout_sync s h9 hann hlate] at hframe ⊢
    generalize hu : modInst 1 (fun i => { i with slaveFrom := s.dc.up, slaveSecs := 0 }) s = u at hframe ⊢
    have hupt : u.x.pt = { s.x.pt with i1 := { s.x.pt.i1 with slaveFrom := s.dc.up, slaveSecs := 0 } } := by rw [← hu]; rfl
    have huqual : u.qual 2 = s.qual 2 := by rw [← hu]; rfl
    obtain ⟨⟨k, hk, hpt⟩, -⟩ := loseEdges_port u
    have hk0 : k = 0 := by
      rcases hk with hk | hk
      · exact hk
      · rw [hk, hupt]
    rw [hpt, hupt, hk0]
    exact ⟨h9, rfl, rfl, fun h2 => loseEdges_qualified u (huqual.trans h2), rfl, hframe⟩
  case listensReset =>
    intro i hi _
    have hreset : i = State.reset.x.pt.i1 ∨ i = State.reset.x.pt.i2 := by simpa using hi
    rcases hreset with rfl | rfl <;> rfl
  case ctl =>
    intro rq v s hw hr hdom hone hzero h3
    have hframe : Only [.com .dxd .tk, .com .dxd .coreA, .com .dxd .coreB, .com .dxd .msets, .com .dxd .regs,
        .com .dxd .pgEvent, .com .dxd .badAccess, .com .dxd .lockRefused, .com .dxd .ic, .com .dxd .bt, .com .dxd .barCap,
        .com .dxd .barLow, .com .dxd .hfits, .refs, .hold, .ptp, .attic] s (ptCtlWrite rq v s) := by
      apply ptCtlWrite_blank <;> decide
    have hreg : (dropHalf .dxd rq s).reg .dxd 0x12100 = s.reg .dxd 0x12100 := by simp [State.reg]
    refine ⟨_, rfl, ?_⟩
    rw [ptCtlWrite, admitWrite_taken .dxd rq 0x12 0x100 v _ s hw] at hframe ⊢
    obtain ⟨h26, h16, hstate, hann⟩ := ptCtl_fields v (dropHalf .dxd rq s) (by simpa using hr) hdom hone
      (by rw [State.regF, hreg]; exact hzero) (by simpa using h3)
    exact ⟨h26, h16, hstate, hann, hframe⟩
  case path =>
    intro rq s hw
    have hx : (dropHalf .dxd rq s).x = s.x := by simp
    refine ⟨_, rfl, ?_⟩
    rw [ptPathRead, admitRead_taken .dxd rq 0x12 0x138 _ _ s hw]
    refine ⟨?_, ?_, by simp [Only, -com_dxd]⟩
    · rw [shown_dropHalf, ptPathWord, hx]
      exact response_respond .dxd rq _ _
    · exact congrArg (fun x : Dxd => { x.pt with txCheck := 0 }) ((respond_x .dxd rq _ _).trans hx)
  case link =>
    intro up s hr hne
    have heq : ptpLink up s = raise .dxd 0x12 2 (modPt (fun p => { p with linkUp := up }) s) := by
      rw [ptpLink, if_neg]
      rintro (h | h)
      · exact h hr
      · exact hne h
    have hframe : Only [.com .dxd .pgEvent, .com .dxd .ic, .ptp] s
        (raise .dxd 0x12 2 (modPt (fun p => { p with linkUp := up }) s)) := by simp [Only, -com_dxd]
    refine ⟨_, rfl, ?_⟩
    rw [heq, pt_raise]
    exact ⟨rfl, eventSet_raisePort 2 _ hr (by decide), hframe⟩

end Sys2Proof.Machine
end
section
/-!
PROOFS. What a bay's death (R150, R156) and a gap between steps (R155, R160) leave as they are: every bay but for its counts of
changes, and every event that is set (O22). The frame laws do the rest of it once every other part is blanked.
-/

namespace Sys2Proof.Machine

/-- The parts that hold nothing of it. -/
def unbayed (p : Part) : Bool := decide (p ≠ .bays ∧ p ≠ .com .tsu .pgEvent)

/-- A bay but for its counts of changes and of skipped re-centres. -/
def bayCore (y : Bay) : Bay := { y with changes := 0, urgentChanges := 0, recentresSkipped := 0 }

/-- What a death and a gap keep of the bays. -/
structure BaysKept (r s : State) : Prop where
  core : ∀ j, bayCore (s.bay j) = bayCore (r.bay j)
  events : ∀ pg b, eventSet .tsu pg b r → eventSet .tsu pg b s

theorem baysKept_refl (s : State) : BaysKept s s := ⟨fun _ => rfl, fun _ _ h => h⟩

theorem bay_modBay_same (b : Nat) (f : Bay → Bay) (s : State) : (modBay b f s).bay b = f (s.bay b) :=
  tabGet_tabMod_same _ _ _ _

theorem bay_modBay_ne (b j : Nat) (f : Bay → Bay) (s : State) (h : j ≠ b) : (modBay b f s).bay j = s.bay j :=
  tabGet_tabMod_ne _ _ _ _ _ h

theorem baysKept_choice {r s u : State} (c : Prop) [Decidable c] (hs : BaysKept r s) (hu : BaysKept r u) :
    BaysKept r (if c then s else u) := by split <;> assumption

theorem baysKept_foldl {r : State} {α : Type} (f : State → α → State) (l : List α)
    (hf : ∀ u x, BaysKept r u → BaysKept r (f u x)) {s : State} (hs : BaysKept r s) : BaysKept r (l.foldl f s) := by
  induction l generalizing s with
  | nil => exact hs
  | cons x l ih => exact ih (hf s x hs)

section
variable {r s : State} (hs : BaysKept r s)
include hs

/-- An operation of other parts keeps it. -/
theorem baysKept_of_frame {u : State} (h : u.blank unbayed = s.blank unbayed) : BaysKept r u := by
  have hbay : ∀ j, u.bay j = s.bay j := fun j => congrArg (·.bay j) h
  have hev : u.tc.pgEvent = s.tc.pgEvent := congrArg (·.tc.pgEvent) h
  exact ⟨fun j => by rw [hbay, hs.core], fun pg b hb => (eventSet_congr (d := .tsu) hev).mpr (hs.events pg b hb)⟩

theorem baysKept_raise (pg b : Nat) : BaysKept r (raise .tsu pg b s) := by
  have ht : (raise .tsu pg b s).t = s.t := by simp
  refine ⟨fun j => ?_, fun pg' b' hb => eventSet_raise_of .tsu .tsu pg pg' b b' _ (hs.events pg' b' hb)⟩
  rw [State.bay, ht]
  exact hs.core j

/-- A change of a bay's counts alone. -/
theorem baysKept_count (b : Nat) (f : Bay → Bay) (hf : ∀ y, bayCore (f y) = bayCore y) : BaysKept r (modBay b f s) := by
  refine ⟨fun j => Eq.trans ?_ (hs.core j), hs.events⟩
  by_cases hj : j = b
  · subst hj
    rw [bay_modBay_same, hf]
  · rw [bay_modBay_ne _ _ _ _ hj]

/-- A change of the bay sets or of the crossings. -/
theorem baysKept_modBy (f : Bays → Bays) (hf : ∀ y, (f y).bay = y.bay) : BaysKept r (modBy f s) :=
  ⟨fun j => (congrArg (fun l => bayCore (tabGet {} l j)) (hf s.t.by_)).trans (hs.core j), hs.events⟩

theorem baysKept_recentre (c : Nat) : BaysKept r (recentre c s) := by
  unfold recentre modXing
  exact baysKept_modBy hs _ (by exact fun _ => rfl)

theorem baysKept_modBaySet (n : Nat) (f : BaySet → BaySet) : BaysKept r (modBaySet n f s) :=
  baysKept_modBy hs _ (by exact fun _ => rfl)

theorem baysKept_startChange (n p : Nat) : BaysKept r (startChange n p s) := by
  have h1 := baysKept_modBaySet hs n (fun _ => { phase := 1, point := p, since := s.tc.up, members := setMembers s n })
  refine baysKept_choice _ (baysKept_raise (baysKept_foldl _ _ (fun u b hu => ?_) h1) 0x03 48) h1
  exact baysKept_count hu b _ (by exact fun _ => rfl)

theorem baysKept_tryChange (n : Nat) : BaysKept r (tryChange n s) := by
  unfold tryChange
  refine baysKept_choice _ hs ?_
  split
  · exact baysKept_choice _ hs (baysKept_raise hs 0x03 51)
  · exact baysKept_choice _ (baysKept_modBaySet hs n _) (baysKept_choice _ (baysKept_startChange hs n _)
      (baysKept_choice _ (baysKept_choice _ (baysKept_startChange hs n _) (baysKept_modBaySet hs n _)) (baysKept_modBaySet hs n _)))

theorem baysKept_tryChanges : BaysKept r (tryChanges s) :=
  baysKept_choice _ hs (baysKept_foldl _ _ (fun _ n hu => baysKept_choice _ hu (baysKept_tryChange hu n)) hs)

theorem baysKept_recentreGap : BaysKept r (recentreGap s) := by
  unfold recentreGap
  refine baysKept_choice _ hs (baysKept_choice _ (baysKept_foldl _ _ (fun u c hu => baysKept_recentre hu c) hs)
    (baysKept_raise (baysKept_foldl _ _ (fun u b hu => ?_) hs) 0x03 53))
  exact baysKept_choice _ (baysKept_count hu b _ (by exact fun _ => rfl)) hu

/-- The gap in which pending changes and re-centres are made. -/
theorem baysKept_useGap : BaysKept r (useGap s) := baysKept_tryChanges (baysKept_recentreGap hs)

theorem baysKept_finishChange (n : Nat) : BaysKept r (finishChange n s) := by
  unfold finishChange
  refine baysKept_choice _ ?_ hs
  refine baysKept_tryChanges (baysKept_modBaySet (baysKept_foldl _ _ (fun u b hu => ?_)
    (baysKept_foldl _ _ (fun u c hu => ?_) hs)) n _)
  · exact baysKept_raise (baysKept_count hu b _ (by exact fun _ => rfl)) 0x03 b
  · exact baysKept_choice _ (baysKept_recentre hu c) hu

theorem baysKept_goHandler (th : Thread) : BaysKept r (goHandler th s) :=
  baysKept_choice _ hs (baysKept_raise (baysKept_of_frame hs (by simp [unbayed, -com_tsu, -com_dxd])) 0x04 4)

theorem baysKept_takeHandler (th : Thread) : BaysKept r (takeHandler th s) :=
  baysKept_choice _ (baysKept_of_frame hs (by simp [unbayed, -com_tsu, -com_dxd])) (baysKept_goHandler hs th)

theorem baysKept_withdraw (p : StepRec → Bool) (e : Option Nat) : BaysKept r (withdraw p e s) := by
  unfold withdraw
  extract_lets ws fails offs lead runCur s1 s2 s3 s4 s5 s6
  have h1 : BaysKept r s1 := ⟨hs.core, hs.events⟩
  have h3 : BaysKept r s3 := baysKept_of_frame h1 (by simp [s3, s2, unbayed, -com_tsu, -com_dxd])
  have h4 : BaysKept r s4 := baysKept_choice _ (baysKept_takeHandler h3 _) h3
  have h5 : BaysKept r s5 := baysKept_choice _ (baysKept_takeHandler h4 _) h4
  have hlocal : ∀ n u, BaysKept r u → BaysKept r (raiseLocal n u) := fun n u hu =>
    baysKept_of_frame hu (by simp [unbayed, -com_tsu, -com_dxd])
  have h6 : BaysKept r s6 := baysKept_choice _ (hlocal 0 _ h5) h5
  exact baysKept_choice _ (hlocal 4 _ h6) h6

theorem baysKept_withdrawSet (p : StepRec → Bool) : BaysKept r (withdrawSet p s) := by
  unfold withdrawSet
  split
  · exact baysKept_withdraw (baysKept_of_frame hs (by simp [unbayed, -com_tsu, -com_dxd])) p _
  · exact hs

theorem baysKept_enterSideline : BaysKept r (enterSideline s) := by
  unfold enterSideline
  refine baysKept_choice _ hs ?_
  extract_lets s1 s2
  have h2 : BaysKept r s2 := baysKept_of_frame (baysKept_withdrawSet hs (fun r => r.armed || r.launched))
    (by simp [s2, s1, unbayed, -com_tsu, -com_dxd])
  refine baysKept_useGap ?_
  have hstate : ∀ n u, BaysKept r u → BaysKept r (setTimeState .tsu n u) := fun n u hu =>
    baysKept_choice _ hu (baysKept_raise (baysKept_of_frame hu (by simp [unbayed, -com_tsu, -com_dxd])) 0x00 0)
  exact hstate _ _ (baysKept_of_frame h2 (by simp [unbayed, -com_tsu, -com_dxd]))

theorem baysKept_ownFailure : BaysKept r (ownFailure s) :=
  baysKept_choice _ hs (baysKept_enterSideline (baysKept_of_frame hs (by simp [unbayed, -com_tsu, -com_dxd])))

theorem baysKept_keepBayFit (b : Nat) : BaysKept r (keepBayFit b s) :=
  baysKept_of_frame hs (by simp [unbayed, -com_tsu, -com_dxd])

end

/-- A bay as its death leaves it (R150). -/
def died (y : Bay) : Bay := { y with dead := true, lbcValid := false, stopped := false, pendCorr := none }

/-- A bay that dies is marked and raises its event; whatever follows from it keeps both. -/
theorem bayDies_kept (b : Nat) (s : State) (he : bayExists s b = true) (hd : (s.bay b).dead = false) :
    BaysKept (raise .tsu 0x03 (32 + b) (modBay b died s)) (bayDies b s) := by
  unfold bayDies
  rw [if_neg (by simp [he, hd])]
  refine baysKept_ownFailure ?_
  have h2 := baysKept_keepBayFit (baysKept_refl (raise .tsu 0x03 (32 + b) (modBay b died s))) b
  split
  · exact baysKept_finishChange h2 _
  · exact h2

end Sys2Proof.Machine
end
section
/-!
PROOFS. Corrections, gates and periods of bays (O22).
-/

namespace Sys2Proof.Machine

/-! Passes over bays, readings and crossings. -/

theorem foldl_keeps {α β : Type} {step : β → α → β} {l : List α} (P : β → Prop) (h : ∀ u k, k ∈ l → P u → P (step u k))
    {s : β} (hs : P s) : P (l.foldl step s) := by
  induction l generalizing s with
  | nil => exact hs
  | cons k l ih => exact ih (fun u j hj => h u j (List.mem_cons_of_mem _ hj)) (h s k List.mem_cons_self hs)

/-- In a pass over distinct things `P` holds until the turn of `n`, and `Q` from then on. -/
theorem foldl_turn {α β : Type} {step : β → α → β} {l : List α} (hl : l.Nodup) {n : α} (hn : n ∈ l) (P Q : β → Prop)
    (hbefore : ∀ u k, k ≠ n → P u → P (step u k)) (hturn : ∀ u, P u → Q (step u n))
    (hafter : ∀ u k, k ≠ n → Q u → Q (step u k)) {s : β} (hs : P s) : Q (l.foldl step s) := by
  induction l generalizing s with
  | nil => exact absurd hn List.not_mem_nil
  | cons k l ih =>
    obtain ⟨hk, hl'⟩ := List.nodup_cons.mp hl
    by_cases hkn : k = n
    · subst hkn
      exact foldl_keeps Q (fun u j hj => hafter u j (fun h => hk (h ▸ hj))) (hturn s hs)
    · exact ih hl' ((List.mem_cons.mp hn).resolve_left (Ne.symm hkn)) (hbefore s k hkn hs)

/-! Corrections (R57, R59). -/

/-- A bay that is sent the correction B = `bc`. -/
def corrected (bc : Nat) (hold : Bool) (y : Bay) : Bay :=
  { y with
    pendCorr := some bc, corr := some bc, gateN := y.gateN + 1,
    inc := if hold then y.inc else y.incNext.getD y.inc, incNext := if hold then y.incNext else none }

theorem correctBay_eq (bc b : Nat) (s : State) : correctBay bc b s = modBay b (corrected bc (sliceIsolated s 4)) s := by
  unfold correctBay
  refine congrArg (fun f => modBay b f s) (funext fun y => ?_)
  cases hi : y.incNext <;> cases sliceIsolated s 4 <;> simp [corrected, hi]

/-- The bays that are sent a correction. -/
def servedBays (s : State) : List Nat := (allBays s).filter (bayServed s)

theorem mem_allBays {s : State} {b : Nat} : b ∈ allBays s ↔ bayExists s b = true := by
  simp [allBays, upTo, bayExists]

theorem mem_servedBays {s : State} {b : Nat} : b ∈ servedBays s ↔ bayServed s b = true := by
  rw [servedBays, List.mem_filter, mem_allBays]
  refine ⟨And.right, fun h => ⟨?_, h⟩⟩
  simp only [bayServed, Bool.and_eq_true] at h
  exact h.1.1

theorem nodup_allBays (s : State) : (allBays s).Nodup := List.nodup_range

theorem nodup_servedBays (s : State) : (servedBays s).Nodup := (nodup_allBays s).filter _

/-- The correction of every bay that is served. -/
def correctBays (s : State) : State := (servedBays s).foldl (fun u b => correctBay s.tc.tk.bc b u) s

theorem bay_correctBay_ne (bc b j : Nat) (s : State) (h : j ≠ b) : (correctBay bc b s).bay j = s.bay j :=
  bay_modBay_ne b j _ s h

theorem bay_correctBays (b : Nat) (s : State) :
    (correctBays s).bay b =
      if bayServed s b then corrected s.tc.tk.bc (sliceIsolated s 4) (s.bay b) else s.bay b := by
  unfold correctBays
  split
  case isTrue h =>
    refine foldl_turn (nodup_servedBays s) (mem_servedBays.mpr h) (fun u : State => u.bay b = s.bay b ∧ u.tc = s.tc)
      (fun u : State => u.bay b = corrected s.tc.tk.bc (sliceIsolated s 4) (s.bay b)) ?_ ?_ ?_ ⟨rfl, rfl⟩
    · exact fun u k hk hu => ⟨(bay_correctBay_ne _ k b u hk.symm).trans hu.1, hu.2⟩
    · intro u hu
      rw [correctBay_eq, bay_modBay_same, hu.1, sliceIsolated, hu.2]
      rfl
    · exact fun u k hk hu => (bay_correctBay_ne _ k b u hk.symm).trans hu
  case isFalse h =>
    refine foldl_keeps (fun u : State => u.bay b = s.bay b) (fun u k hk hu => ?_) rfl
    exact (bay_correctBay_ne _ k b u (fun hb => h (mem_servedBays.mp (hb ▸ hk)))).trans hu

/-! Return delays (R148). -/

/-- A bay with one more sample of its return delay. -/
def pathSampled (y : Bay) (v : Nat) : Bay :=
  if y.pathN + 1 = 64 then { y with path := (y.pathSum + v) / 128 % 2 ^ 24, pathSum := 0, pathN := 0 }
  else { y with pathSum := y.pathSum + v, pathN := y.pathN + 1 }

/-- A bay but for its return delay. -/
def pathless (y : Bay) : Bay := { y with path := 0, pathSum := 0, pathN := 0 }

theorem pathless_pathSampled (y : Bay) (v : Nat) : pathless (pathSampled y v) = pathless y := by
  unfold pathSampled
  split <;> rfl

theorem bay_pathSamples (l : List BayReading) (b : Nat) (s : State) :
    (l.foldl (fun u r => pathSample r u) s).bay b =
      (l.filter (fun r => r.bay == b)).foldl (fun y r => pathSampled y r.value) (s.bay b) := by
  induction l generalizing s with
  | nil => rfl
  | cons r l ih =>
    rw [List.foldl_cons, ih, List.filter_cons]
    by_cases hr : r.bay = b
    · have hbay : (pathSample r s).bay b = pathSampled (s.bay b) r.value := by
        rw [← hr]
        exact bay_modBay_same _ _ _
      rw [if_pos (by simp [hr]), List.foldl_cons, hbay]
    · rw [if_neg (by simp [hr])]
      exact congrArg (List.foldl _ · _) (bay_modBay_ne r.bay b _ s (Ne.symm hr))

theorem pathless_pathSamples (l : List BayReading) (y : Bay) :
    pathless (l.foldl (fun y r => pathSampled y r.value) y) = pathless y :=
  foldl_keeps (fun z => pathless z = pathless y) (fun z r _ hz => (pathless_pathSampled z r.value).trans hz) rfl

/-! Canary codes (R369). -/

theorem canarySample_t (r : BayReading) (s : State) : (canarySample r s).t = s.t := by
  unfold canarySample
  dsimp only
  split
  · exact (raise_t _ _ _ _).trans rfl
  · rfl

theorem canarySample_bt (r : BayReading) (s : State) :
    (canarySample r s).tc.bt = { s.tc.bt with
      margin := tabSet 0 s.tc.bt.margin r.bay (r.value % 256),
      low := tabSet 255 s.tc.bt.low r.bay (min (tabGet 255 s.tc.bt.low r.bay) (r.value % 256)) } := by
  have hbt : ∀ u, (raise .tsu 0x0D 3 u).tc.bt = u.tc.bt := fun u => tc_bt_eq (by simp [but, -com_tsu])
  unfold canarySample
  dsimp only
  split
  · exact (hbt _).trans rfl
  · rfl

theorem canarySamples_t (l : List BayReading) (s : State) : (l.foldl (fun u r => canarySample r u) s).t = s.t :=
  foldl_keeps (fun u : State => u.t = s.t) (fun u r _ hu => (canarySample_t r u).trans hu) rfl

theorem margin_canarySamples (l : List BayReading) (b : Nat) (s : State) :
    tabGet 0 (l.foldl (fun u r => canarySample r u) s).tc.bt.margin b =
        (l.filter (fun r => r.bay == b)).foldl (fun _ r => r.value % 256) (tabGet 0 s.tc.bt.margin b) ∧
      tabGet 255 (l.foldl (fun u r => canarySample r u) s).tc.bt.low b =
        (l.filter (fun r => r.bay == b)).foldl (fun m r => min m (r.value % 256)) (tabGet 255 s.tc.bt.low b) := by
  induction l generalizing s with
  | nil => exact ⟨rfl, rfl⟩
  | cons r l ih =>
    obtain ⟨hm, hl⟩ := ih (canarySample r s)
    rw [List.foldl_cons, hm, hl, List.filter_cons, canarySample_bt]
    by_cases hr : r.bay = b
    · subst hr
      simp
    · rw [if_neg (by simp [hr])]
      exact ⟨congrArg (List.foldl _ · _) (tabGet_tabSet_ne _ _ _ _ _ _ (Ne.symm hr)),
        congrArg (List.foldl _ · _) (tabGet_tabSet_ne _ _ _ _ _ _ (Ne.symm hr))⟩

/-- Page BT is operative in every TSU. -/
theorem eventSet_raiseTest (b : Nat) (s : State) (hb : b < 64) : eventSet .tsu 0x0D b (raise .tsu 0x0D b s) :=
  eventSet_raise .tsu 0x0D b s ⟨by simp [pageSt, pageStTsu], by decide⟩ hb

theorem eventSet_canarySample (r : BayReading) (pg b : Nat) (s : State) (h : eventSet .tsu pg b s) :
    eventSet .tsu pg b (canarySample r s) := by
  unfold canarySample
  dsimp only
  split
  · exact eventSet_raise_of .tsu .tsu 0x0D pg 3 b _ h
  · exact h

/-- What a canary's code is compared with. -/
def canaryLow (r : BayReading) (s : State) : Prop :=
  bayAdaptive s r.bay = false ∧ r.value % 256 < ptMargin s r.bay (s.bay r.bay).cur

/-- A reading below the margin of a bay that is not adaptive raises CANARY_LOW. -/
theorem eventSet_canarySamples (l : List BayReading) (r : BayReading) (hr : r ∈ l) (s : State) (hlow : canaryLow r s) :
    eventSet .tsu 0x0D 3 (l.foldl (fun u r => canarySample r u) s) := by
  induction l generalizing s with
  | nil => exact absurd hr List.not_mem_nil
  | cons x l ih =>
    rcases List.mem_cons.mp hr with rfl | hr
    · rw [List.foldl_cons]
      refine foldl_keeps (fun u => eventSet .tsu 0x0D 3 u) (fun u x _ hu => eventSet_canarySample x _ _ u hu) ?_
      unfold canarySample
      rw [if_pos ⟨by simp [hlow.1], hlow.2⟩]
      exact eventSet_raiseTest 3 _ (by decide)
    · refine ih hr (canarySample x s) ?_
      have hfuse : (canarySample x s).tc.fuse = s.tc.fuse := tc_fuse_eq (by simp [but, -com_tsu])
      have hregs : (canarySample x s).tc.regs = s.tc.regs := tc_regs_eq (by simp [but, -com_tsu])
      obtain ⟨hadaptive, hval⟩ := hlow
      refine ⟨?_, ?_⟩
      · rw [bayAdaptive, hfuse]
        exact hadaptive
      · rw [ptMargin, ptWord, State.reg, com_tsu, hfuse, hregs, State.bay, canarySample_t]
        exact hval

/-! The correction of R57, as a whole. -/

theorem bayCorrection_ready (rets canary : List BayReading) (s : State) (h6 : s.tc.boot.stage = 6) (hbc : s.tc.tk.bc % 1024 = 0) :
    bayCorrection rets canary s =
      (canary.filter (fun r => (servedBays s).contains r.bay)).foldl (fun u r => canarySample r u)
        ((rets.filter (fun r => (servedBays s).contains r.bay)).foldl (fun u r => pathSample r u) (correctBays s)) := by
  unfold bayCorrection
  dsimp only
  rw [if_neg (by simp [tsuReady, h6, hbc])]
  rfl

/-- The readings of one bay that is served. -/
theorem served_readings (l : List BayReading) (b : Nat) (s : State) (hb : bayServed s b = true) :
    (l.filter (fun r => (servedBays s).contains r.bay)).filter (fun r => r.bay == b) = l.filter (fun r => r.bay == b) := by
  rw [List.filter_filter]
  refine List.filter_congr fun r _ => ?_
  by_cases hr : r.bay = b
  · simp [hr, mem_servedBays.mpr hb]
  · simp [hr]

theorem unserved_readings (l : List BayReading) (b : Nat) (s : State) (hb : ¬bayServed s b = true) :
    (l.filter (fun r => (servedBays s).contains r.bay)).filter (fun r => r.bay == b) = [] := by
  rw [List.filter_filter, List.filter_eq_nil_iff]
  intro r _ hr
  simp only [Bool.and_eq_true, beq_iff_eq, List.contains_iff_mem] at hr
  exact hb (mem_servedBays.mp (hr.1 ▸ hr.2))

/-- Every bay after a correction. -/
theorem bay_bayCorrection (rets canary : List BayReading) (s : State) (h6 : s.tc.boot.stage = 6) (hbc : s.tc.tk.bc % 1024 = 0)
    (b : Nat) :
    (bayCorrection rets canary s).bay b =
      if bayServed s b then
        (rets.filter (fun r => r.bay == b)).foldl (fun y r => pathSampled y r.value)
          (corrected s.tc.tk.bc (sliceIsolated s 4) (s.bay b))
      else s.bay b := by
  rw [bayCorrection_ready rets canary s h6 hbc, State.bay, canarySamples_t]
  refine (bay_pathSamples _ b _).trans ?_
  rw [bay_correctBays]
  split
  case isTrue h => rw [served_readings rets b s h]
  case isFalse h => rw [unserved_readings rets b s h]; rfl

theorem pathSamples_tc (l : List BayReading) (s : State) : (l.foldl (fun u r => pathSample r u) s).tc = s.tc :=
  foldl_keeps (step := fun u r => pathSample r u) (fun u : State => u.tc = s.tc) (fun _ _ _ hu => hu) rfl

theorem correctBays_tc (s : State) : (correctBays s).tc = s.tc :=
  foldl_keeps (step := fun u b => correctBay s.tc.tk.bc b u) (fun u : State => u.tc = s.tc) (fun _ _ _ hu => hu) rfl

/-- The canaries after a correction. -/
theorem canary_bayCorrection (rets canary : List BayReading) (s : State) (h6 : s.tc.boot.stage = 6)
    (hbc : s.tc.tk.bc % 1024 = 0) (b : Nat) (hb : bayServed s b = true) :
    tabGet 0 (bayCorrection rets canary s).tc.bt.margin b =
        (canary.filter (fun r => r.bay == b)).foldl (fun _ r => r.value % 256) (tabGet 0 s.tc.bt.margin b) ∧
      tabGet 255 (bayCorrection rets canary s).tc.bt.low b =
        (canary.filter (fun r => r.bay == b)).foldl (fun m r => min m (r.value % 256)) (tabGet 255 s.tc.bt.low b) := by
  obtain ⟨hm, hl⟩ := margin_canarySamples (canary.filter (fun r => (servedBays s).contains r.bay)) b
    ((rets.filter (fun r => (servedBays s).contains r.bay)).foldl (fun u r => pathSample r u) (correctBays s))
  rw [bayCorrection_ready rets canary s h6 hbc, hm, hl, served_readings canary b s hb, pathSamples_tc, correctBays_tc]
  exact ⟨rfl, rfl⟩

theorem cur_of_pathless {y z : Bay} (h : pathless y = pathless z) : y.cur = z.cur := by
  have : (pathless y).cur = (pathless z).cur := congrArg Bay.cur h
  exact this

theorem canaryLow_bayCorrection (rets canary : List BayReading) (s : State) (h6 : s.tc.boot.stage = 6)
    (hbc : s.tc.tk.bc % 1024 = 0) (r : BayReading) (hr : r ∈ canary) (hb : bayServed s r.bay = true) (hlow : canaryLow r s) :
    eventSet .tsu 0x0D 3 (bayCorrection rets canary s) := by
  rw [bayCorrection_ready rets canary s h6 hbc]
  refine eventSet_canarySamples _ r (List.mem_filter.mpr ⟨hr, by simp [mem_servedBays.mpr hb]⟩) _ ?_
  generalize hu : (rets.filter (fun r => (servedBays s).contains r.bay)).foldl (fun u r => pathSample r u) (correctBays s) = u
  have htc : u.tc = s.tc := by rw [← hu, pathSamples_tc, correctBays_tc]
  have hcur : (u.bay r.bay).cur = (s.bay r.bay).cur := by
    rw [← hu, bay_pathSamples, cur_of_pathless (pathless_pathSamples _ _), bay_correctBays, if_pos hb]
    rfl
  obtain ⟨hadaptive, hval⟩ := hlow
  refine ⟨?_, ?_⟩
  · rw [bayAdaptive, htc]
    exact hadaptive
  · rw [ptMargin, ptWord, State.reg, com_tsu, htc, hcur]
    exact hval

end Sys2Proof.Machine
end
section
/-!
PROOFS. Gates, deaths and periods of bays (O22).
-/

namespace Sys2Proof.Machine

/-- Page BY is operative in every TSU that has a bay. -/
theorem eventSet_raiseBay (b c : Nat) (s : State) (he : bayExists s c = true) (hb : b < 64) :
    eventSet .tsu 0x03 b (raise .tsu 0x03 b s) := by
  have hkind : s.tc.fuse.kind ≠ .w := by
    intro hw
    rw [bayExists, hw] at he
    simp [bayCount] at he
  exact eventSet_raise .tsu 0x03 b s ⟨by simp [pageSt, pageStTsu, hkind], by decide⟩ hb

theorem bay_lt_of_exists {b : Nat} {s : State} (he : bayExists s b = true) : b < 16 := by
  simp only [bayExists, decide_eq_true_eq] at he
  refine lt_of_lt_of_le he ?_
  cases s.tc.fuse.kind <;> decide

/-! Deaths (R150). -/

/-- A field of a bay that is none of its counts, after its death. -/
theorem bayDies_bay (b : Nat) (s : State) (he : bayExists s b = true) (hd : (s.bay b).dead = false) :
    bayCore ((bayDies b s).bay b) = bayCore (died (s.bay b)) := by
  rw [(bayDies_kept b s he hd).core b]
  have ht : (raise .tsu 0x03 (32 + b) (modBay b died s)).t = (modBay b died s).t := raise_t _ _ _ _
  rw [State.bay, ht]
  exact congrArg bayCore (bay_modBay_same b died s)

theorem bayDies_event (b : Nat) (s : State) (he : bayExists s b = true) (hd : (s.bay b).dead = false) :
    eventSet .tsu 0x03 (32 + b) (bayDies b s) := by
  have hb := bay_lt_of_exists he
  exact (bayDies_kept b s he hd).events _ _ (eventSet_raiseBay (32 + b) b _ he (by omega))

/-- A member that fails leaves the line (R48). -/
theorem ownFailure_sideline (s : State) (he : s.t.mem.epoch ≠ 0) : (ownFailure s).tc.tk.sideline = true := by
  have hgap : ∀ u, (useGap u).tc.tk = u.tc.tk := fun u => tc_tk_eq (by simp [but, -com_tsu])
  have hraise : ∀ u, (raise .tsu 0x00 0 u).tc.tk = u.tc.tk := fun u => tc_tk_eq (by simp [but, -com_tsu])
  have hstate : ∀ n u, (setTimeState .tsu n u).tc.tk.sideline = u.tc.tk.sideline := by
    intro n u
    unfold setTimeState
    split
    · rfl
    · rw [hraise]
      rfl
  have hlocal : ∀ n u, (raiseLocal n u).tc.tk = u.tc.tk := fun n u => tc_tk_eq (by simp [but, -com_tsu])
  unfold ownFailure
  rw [if_neg he]
  unfold enterSideline
  split
  · assumption
  · dsimp only
    rw [hgap, hstate, hlocal]
    rfl

theorem bayDies_sideline (b : Nat) (s : State) (he : bayExists s b = true) (hd : (s.bay b).dead = false)
    (hep : s.t.mem.epoch ≠ 0) : (bayDies b s).tc.tk.sideline = true := by
  have hfinish : ∀ n u, (finishChange n u).t.mem = u.t.mem := fun n u => t_mem_eq (by simp [but, -com_tsu])
  have hmem : (keepBayFit b (raise .tsu 0x03 (32 + b) (modBay b died s))).t.mem = s.t.mem := t_mem_eq (by simp [but, -com_tsu])
  unfold bayDies
  rw [if_neg (by simp [he, hd])]
  refine ownFailure_sideline _ ?_
  split
  · rw [hfinish]
    exact (congrArg Member.epoch hmem).trans_ne hep
  · exact (congrArg Member.epoch hmem).trans_ne hep

/-! Gates (R146). -/

/-- A bay at the end of a gate of `db` beats of BC and `du` units. -/
def gateEnded (db du : Nat) (y : Bay) : Bay :=
  { y with incNext := some ((2 ^ 30 * db + du / 2) / du % 2 ^ 32), gateB := y.latchB, gateU := some y.latchU, gateN := 0 }

/-- The rate of a gate is off by more than the tolerance of BY_CFG (R150). -/
abbrev rateOff (b db du : Nat) (s : State) : Prop :=
  orOne (s.regF .tsu 0x3100 0 12) * (64 * db * bayMhz s b) <
    ((du * 1000 : Nat) - (64 * db * bayMhz s b : Nat) : Int).natAbs * 1000000

/-- A gate ends. -/
theorem incGateEnd_ends (b : Nat) (s : State) (hs : bayServed s b = true) (hn : incGate s b ≤ (s.bay b).gateN)
    (hp : (s.bay b).pendCorr = none) (u0 du db : Nat) (hu : (s.bay b).gateU = some u0)
    (hdu : du = ((s.bay b).latchU + 2 ^ 54 - u0) % 2 ^ 54) (h0 : du ≠ 0) (hdb : db = (s.bay b).latchB - (s.bay b).gateB) :
    (rateOff b db du s → incGateEnd b s = bayDies b (modBay b (gateEnded db du) s)) ∧
      (¬rateOff b db du s → incGateEnd b s = modBay b (gateEnded db du) s) := by
  have hgate : modBay b (fun _ => gateEnded db du (s.bay b)) s = modBay b (gateEnded db du) s := rfl
  unfold incGateEnd
  dsimp only
  rw [if_neg (by simp [hs, hn, hp]), hu]
  dsimp only
  rw [← hdu, ← hdb, if_neg h0]
  constructor
  · intro hoff
    rw [if_pos (decide_eq_true hoff), ← hgate]
    rfl
  · intro hoff
    rw [if_neg (by simpa [rateOff] using hoff), ← hgate]
    rfl

/-! Edges and periods (R145, R58). -/

/-- An edge that takes a pending correction, forward or as a debt. -/
theorem bayEdge_corrected (n c : Nat) (y : Bay) (h : y.pendCorr = some c) :
    (bayEdge n y).lbcValid = true ∧ (bayEdge n y).pendCorr = none ∧ (bayEdge n y).latchB = c ∧ (bayEdge n y).latchU = y.u ∧
      (y.lbc ≤ c % 2 ^ 64 * 2 ^ 24 → (bayEdge n y).lbc = c % 2 ^ 64 * 2 ^ 24 ∧ (bayEdge n y).debt = 0) ∧
      (c % 2 ^ 64 * 2 ^ 24 < y.lbc → (bayEdge n y).lbc = y.lbc ∧ (bayEdge n y).debt = y.lbc - c % 2 ^ 64 * 2 ^ 24) := by
  unfold bayEdge applyCorrection
  rw [h]
  dsimp only
  split
  case isTrue hle => exact ⟨rfl, rfl, rfl, rfl, fun _ => ⟨rfl, rfl⟩, fun hlt => absurd hle (Nat.not_le.mpr hlt)⟩
  case isFalse hle => exact ⟨rfl, rfl, rfl, rfl, fun h' => absurd h' hle, fun _ => ⟨rfl, rfl⟩⟩

/-- Any other edge adds INC less the debt. -/
theorem bayEdge_step (n : Nat) (y : Bay) (h : y.pendCorr = none) :
    (y.inc * n / 64 ≤ y.debt → (bayEdge n y).lbc = y.lbc ∧ (bayEdge n y).debt = y.debt - y.inc * n / 64) ∧
      (y.debt < y.inc * n / 64 → (bayEdge n y).lbc = (y.lbc + y.inc * n / 64 - y.debt) % 2 ^ 88 ∧ (bayEdge n y).debt = 0) := by
  unfold bayEdge
  rw [h]
  dsimp only
  split
  case isTrue hle => exact ⟨fun _ => ⟨rfl, rfl⟩, fun hlt => absurd hle (Nat.not_le.mpr hlt)⟩
  case isFalse hle => exact ⟨fun h' => absurd h' hle, fun _ => ⟨rfl, rfl⟩⟩

/-- An edge leaves the counts to the period that it begins. -/
theorem bayEdge_counts (n : Nat) (y : Bay) :
    (bayEdge n y).edges = y.edges ∧ (bayEdge n y).u = y.u ∧ (bayEdge n y).units = y.units := by
  have hcorr : ∀ c z, (applyCorrection c z).edges = z.edges ∧ (applyCorrection c z).u = z.u ∧
      (applyCorrection c z).units = z.units := by
    intro c z
    unfold applyCorrection
    dsimp only
    split <;> exact ⟨rfl, rfl, rfl⟩
  unfold bayEdge
  split
  · exact hcorr _ _
  · dsimp only
    split <;> exact ⟨rfl, rfl, rfl⟩

/-- A lone report of a bay. -/
theorem reportOf_one (b n : Nat) (s : State) (he : bayExists s b = true) (hs : (s.bay b).stopped = false)
    (hn : (bayAdaptive s b = true ∧ 64 ≤ n ∧ n ≤ 96) ∨ (bayAdaptive s b = false ∧ n = 64)) (j : Nat) :
    reportOf [⟨b, n⟩] s j = if j = b then some n else none := by
  by_cases hj : j = b
  · subst hj
    have hlen : (if bayAdaptive s j then decide (64 ≤ n ∧ n ≤ 96) else n == 64) = true := by
      rcases hn with ⟨ha, h1, h2⟩ | ⟨ha, h1⟩
      · simp [ha, h1, h2]
      · simp [ha, h1]
    have hall : (bayExists s j && !(s.bay j).stopped && (if bayAdaptive s j then decide (64 ≤ n ∧ n ≤ 96) else n == 64)) = true := by
      rw [he, hs, hlen]
      rfl
    rw [reportOf, List.find?_cons_of_pos (by simp), if_pos rfl]
    exact if_pos hall
  · rw [reportOf, List.find?_cons_of_neg (by simp [Ne.symm hj]), if_neg hj]
    rfl

/-- One bay's part of a moment at which periods begin. -/
def beginPeriod (rep : Nat → Option Nat) (s : State) (b : Nat) : State :=
  match rep b with
  | some n => modBay b (fun y => countPeriod n (bayEdge n y)) s
  | none => s

/-- One crossing's part of it; `s0` is the state before. -/
def crossPeriod (rep : Nat → Option Nat) (s0 s : State) (c : Nat) : State :=
  let x := s.xing c
  if xcValid x.cfg && !xingHeld x s0 && ((rep (xcReceiver x.cfg)).isSome || (rep (xcSender x.cfg)).isSome) then
    let r := slip (rep (xcReceiver x.cfg)) (rep (xcSender x.cfg)) x
    raiseIf r.2 .tsu 0x03 52 (modXing c (fun _ => r.1) s)
  else s

theorem periodReport_eq (rs : List BayReading) (s : State) :
    periodReport rs s = (upTo 32).foldl (crossPeriod (reportOf rs s) s) ((allBays s).foldl (beginPeriod (reportOf rs s)) s) := rfl

theorem xing_modXing_same (c : Nat) (f : Xing → Xing) (s : State) : (modXing c f s).xing c = f (s.xing c) :=
  tabGet_tabMod_same _ _ _ _

theorem xing_modXing_ne (c j : Nat) (f : Xing → Xing) (s : State) (h : j ≠ c) : (modXing c f s).xing j = s.xing j :=
  tabGet_tabMod_ne _ _ _ _ _ h

theorem raiseIf_t (c : Bool) (pg b : Nat) (s : State) : (raiseIf c .tsu pg b s).t = s.t := by
  unfold raiseIf
  split
  · exact raise_t _ _ _ _
  · rfl

theorem eventSet_raiseIf (c : Bool) (pg b pg' b' : Nat) (s : State) (h : eventSet .tsu pg' b' s) :
    eventSet .tsu pg' b' (raiseIf c .tsu pg b s) := by
  unfold raiseIf
  split
  · exact eventSet_raise_of .tsu .tsu pg pg' b b' _ h
  · exact h

theorem crossPeriod_bay (rep : Nat → Option Nat) (s0 s : State) (c j : Nat) : (crossPeriod rep s0 s c).bay j = s.bay j := by
  unfold crossPeriod
  dsimp only
  split
  · rw [State.bay, raiseIf_t]
    rfl
  · rfl

theorem crossPeriod_fuse (rep : Nat → Option Nat) (s0 s : State) (c : Nat) : (crossPeriod rep s0 s c).tc.fuse = s.tc.fuse := by
  unfold crossPeriod
  dsimp only
  split
  · unfold raiseIf
    split
    · exact (tc_fuse_eq (by simp [but, -com_tsu])).trans rfl
    · rfl
  · rfl

theorem crossPeriod_xing_ne (rep : Nat → Option Nat) (s0 s : State) (c j : Nat) (h : j ≠ c) :
    (crossPeriod rep s0 s c).xing j = s.xing j := by
  unfold crossPeriod
  dsimp only
  split
  · rw [State.xing, raiseIf_t]
    exact xing_modXing_ne c j _ s h
  · rfl

theorem eventSet_crossPeriod (rep : Nat → Option Nat) (s0 s : State) (c pg b : Nat) (h : eventSet .tsu pg b s) :
    eventSet .tsu pg b (crossPeriod rep s0 s c) := by
  unfold crossPeriod
  dsimp only
  split
  · exact eventSet_raiseIf _ 0x03 52 pg b _ h
  · exact h

theorem beginPeriod_bay_ne (rep : Nat → Option Nat) (s : State) (b j : Nat) (h : j ≠ b) :
    (beginPeriod rep s b).bay j = s.bay j := by
  unfold beginPeriod
  split
  · exact bay_modBay_ne b j _ s h
  · rfl

theorem beginPeriod_xing (rep : Nat → Option Nat) (s : State) (b c : Nat) : (beginPeriod rep s b).xing c = s.xing c := by
  unfold beginPeriod
  split <;> rfl

theorem beginPeriod_tc (rep : Nat → Option Nat) (s : State) (b : Nat) : (beginPeriod rep s b).tc = s.tc := by
  unfold beginPeriod
  split <;> rfl

/-- The crossings move once every bay has begun its period. -/
theorem beginPeriods_keep (rep : Nat → Option Nat) (s : State) :
    (∀ c, ((allBays s).foldl (beginPeriod rep) s).xing c = s.xing c) ∧
      ((allBays s).foldl (beginPeriod rep) s).tc = s.tc :=
  foldl_keeps (step := beginPeriod rep) (fun u : State => (∀ c, u.xing c = s.xing c) ∧ u.tc = s.tc)
    (fun u b _ hu => ⟨fun c => (beginPeriod_xing rep u b c).trans (hu.1 c), (beginPeriod_tc rep u b).trans hu.2⟩)
    ⟨fun _ => rfl, rfl⟩

theorem bay_periodReport (rs : List BayReading) (s : State) (j : Nat) :
    (periodReport rs s).bay j = ((allBays s).foldl (beginPeriod (reportOf rs s)) s).bay j := by
  rw [periodReport_eq]
  exact foldl_keeps (step := crossPeriod (reportOf rs s) s)
    (fun u : State => u.bay j = ((allBays s).foldl (beginPeriod (reportOf rs s)) s).bay j)
    (fun u c _ hu => (crossPeriod_bay _ _ u c j).trans hu) rfl

/-- The bay that reports a period counts it. -/
theorem bay_periodReport_some (rs : List BayReading) (s : State) (b n : Nat) (he : bayExists s b = true)
    (hr : reportOf rs s b = some n) : (periodReport rs s).bay b = countPeriod n (bayEdge n (s.bay b)) := by
  rw [bay_periodReport]
  refine foldl_turn (step := beginPeriod (reportOf rs s)) (nodup_allBays s) (mem_allBays.mpr he)
    (fun u : State => u.bay b = s.bay b) (fun u : State => u.bay b = countPeriod n (bayEdge n (s.bay b))) ?_ ?_ ?_ rfl
  · exact fun u k hk hu => (beginPeriod_bay_ne _ u k b hk.symm).trans hu
  · intro u hu
    unfold beginPeriod
    rw [hr]
    dsimp only
    rw [bay_modBay_same, hu]
  · exact fun u k hk hu => (beginPeriod_bay_ne _ u k b hk.symm).trans hu

theorem bay_periodReport_none (rs : List BayReading) (s : State) (j : Nat) (hr : reportOf rs s j = none) :
    (periodReport rs s).bay j = s.bay j := by
  rw [bay_periodReport]
  refine foldl_keeps (step := beginPeriod (reportOf rs s)) (fun u : State => u.bay j = s.bay j) (fun u k _ hu => ?_) rfl
  by_cases hk : j = k
  · subst hk
    unfold beginPeriod
    rw [hr]
    exact hu
  · exact (beginPeriod_bay_ne _ u k j hk).trans hu

/-- A crossing that is not held, at a period of one of its bays (R158). -/
theorem xing_periodReport_moves (rs : List BayReading) (s : State) (c b : Nat) (hc : c < 32) (he : bayExists s b = true)
    (hv : xcValid (s.xing c).cfg = true) (hh : xingHeld (s.xing c) s = false)
    (hr : ((reportOf rs s (xcReceiver (s.xing c).cfg)).isSome || (reportOf rs s (xcSender (s.xing c).cfg)).isSome) = true)
    (r : Xing × Bool)
    (hslip : r = slip (reportOf rs s (xcReceiver (s.xing c).cfg)) (reportOf rs s (xcSender (s.xing c).cfg)) (s.xing c)) :
    (periodReport rs s).xing c = r.1 ∧ (r.2 = true → eventSet .tsu 0x03 52 (periodReport rs s)) := by
  obtain ⟨hxing, htc⟩ := beginPeriods_keep (reportOf rs s) s
  rw [periodReport_eq]
  refine foldl_turn (step := crossPeriod (reportOf rs s) s) (l := upTo 32) List.nodup_range (List.mem_range.mpr hc)
    (fun u : State => u.xing c = s.xing c ∧ u.tc.fuse = s.tc.fuse)
    (fun u : State => u.xing c = r.1 ∧ (r.2 = true → eventSet .tsu 0x03 52 u)) ?_ ?_ ?_ ⟨hxing c, by rw [htc]⟩
  · exact fun u k hk hu => ⟨(crossPeriod_xing_ne _ _ u k c hk.symm).trans hu.1, (crossPeriod_fuse _ _ u k).trans hu.2⟩
  · intro u ⟨hu, hfuse⟩
    unfold crossPeriod
    dsimp only
    rw [hu, if_pos (by rw [hv, hh, hr]; rfl), ← hslip]
    refine ⟨?_, fun hstall => ?_⟩
    · rw [State.xing, raiseIf_t]
      exact xing_modXing_same c _ u
    · rw [raiseIf, if_pos hstall]
      exact eventSet_raiseBay 52 b _ (by rw [← he, bayExists, bayExists, ← hfuse]; rfl) (by decide)
  · exact fun u k hk hu => ⟨(crossPeriod_xing_ne _ _ u k c hk.symm).trans hu.1,
      fun hstall => eventSet_crossPeriod _ _ u k _ _ (hu.2 hstall)⟩

/-- A crossing that is held, not valid, or of other bays stays. -/
theorem xing_periodReport_stays (rs : List BayReading) (s : State) (c : Nat)
    (h : (xcValid (s.xing c).cfg && !xingHeld (s.xing c) s &&
      ((reportOf rs s (xcReceiver (s.xing c).cfg)).isSome || (reportOf rs s (xcSender (s.xing c).cfg)).isSome)) = false) :
    (periodReport rs s).xing c = s.xing c := by
  rw [periodReport_eq]
  refine foldl_keeps (step := crossPeriod (reportOf rs s) s) (fun u : State => u.xing c = s.xing c) (fun u k _ hu => ?_)
    ((beginPeriods_keep (reportOf rs s) s).1 c)
  by_cases hk : c = k
  · subst hk
    unfold crossPeriod
    dsimp only
    rw [hu, if_neg (by rw [h]; decide)]
    exact hu
  · exact (crossPeriod_xing_ne _ _ u k c hk).trans hu

end Sys2Proof.Machine
end
section
/-!
PROOFS. Corrections, gates, loss and death of a bay (O22).
-/

namespace Sys2Proof.Machine

/-- A served bay after a correction, whatever the samples. -/
theorem bayCorrection_served (rets canary : List BayReading) (s : State) (h6 : s.tc.boot.stage = 6)
    (hbc : s.tc.tk.bc % 1024 = 0) (b : Nat) (hb : bayServed s b = true) :
    pathless ((bayCorrection rets canary s).bay b) = pathless (corrected s.tc.tk.bc (sliceIsolated s 4) (s.bay b)) := by
  rw [bay_bayCorrection rets canary s h6 hbc b, if_pos hb, pathless_pathSamples]

/-- The one return delay of a bay goes to the mean of 64 (R148). -/
theorem bayCorrection_path (rets canary : List BayReading) (s : State) (h6 : s.tc.boot.stage = 6)
    (hbc : s.tc.tk.bc % 1024 = 0) (b v : Nat) (hb : bayServed s b = true) (hr : rets.filter (fun r => r.bay == b) = [⟨b, v⟩]) :
    ((s.bay b).pathN = 63 → ((bayCorrection rets canary s).bay b).path = ((s.bay b).pathSum + v) / 128 % 2 ^ 24 ∧
      ((bayCorrection rets canary s).bay b).pathN = 0 ∧ ((bayCorrection rets canary s).bay b).pathSum = 0) ∧
    ((s.bay b).pathN ≠ 63 → ((bayCorrection rets canary s).bay b).path = (s.bay b).path ∧
      ((bayCorrection rets canary s).bay b).pathN = (s.bay b).pathN + 1 ∧
      ((bayCorrection rets canary s).bay b).pathSum = (s.bay b).pathSum + v) := by
  have hbay : (bayCorrection rets canary s).bay b =
      pathSampled (corrected s.tc.tk.bc (sliceIsolated s 4) (s.bay b)) v := by
    rw [bay_bayCorrection rets canary s h6 hbc b, if_pos hb, hr]
    rfl
  have hn : (corrected s.tc.tk.bc (sliceIsolated s 4) (s.bay b)).pathN = (s.bay b).pathN := rfl
  rw [hbay]
  unfold pathSampled
  constructor
  · intro h63
    rw [if_pos (by rw [hn, h63])]
    exact ⟨rfl, rfl, rfl⟩
  · intro h63
    rw [if_neg (by rw [hn]; omega)]
    exact ⟨rfl, rfl, rfl⟩

/-- A fit that has ended is shown and the next one begins (R147). -/
theorem bayFitEnd_complete (b : Nat) (y : Option Int) (s : State) (he : bayExists s b = true) (hheld : setsHeld .tsu s = false)
    (hfit : fitEnd .tsu (fitBay b) s = some y) :
    (bayFitEnd b s).bay b = { s.bay b with fit := y.getD (s.bay b).fit } ∧ OtherBays b s (bayFitEnd b s) ∧
      ∃ g, (bayFitEnd b s).hfit .tsu (fitBay b) = some (newFit (0x10 + b) (bayMhz s b * 10 ^ 9) 1024 g (nextMult s.tc.tk.bc)) := by
  have hstart : ∀ w u, (startBayFit b w u).hfit .tsu (fitBay b) =
      some (newFit (0x10 + b) (bayMhz u b * 10 ^ 9) 1024 (max 1 (min 1000000 (u.regF .tsu 0x3100 12 20))) (nextMult w)) :=
    fun w u => by
      simp [State.hfit, startBayFit, startFit]
  unfold bayFitEnd
  rw [if_neg (by rw [he, hheld]; decide), hfit]
  cases y with
  | none => exact ⟨rfl, fun _ _ => rfl, _, hstart _ _⟩
  | some ppt =>
    have hbay : (modBay b (fun y => { y with fit := ppt }) s).bay b = { s.bay b with fit := ppt } := bay_modBay_same _ _ _
    have hmhz : bayMhz (modBay b (fun y => { y with fit := ppt }) s) b = bayMhz s b := by
      rw [bayMhz, hbay]
      rfl
    have hnext := hstart s.tc.tk.bc (modBay b (fun y => { y with fit := ppt }) s)
    rw [hmhz] at hnext
    exact ⟨hbay, fun j hj => bay_modBay_ne b j _ s hj, _, hnext⟩

/-- Settles O22: the passes over bays and crossings one turn at a time, and a death through what it leaves of the bays. -/
theorem bayCorrections : Obligations.BayCorrections := by
  unfold Obligations.BayCorrections
  refine ⟨?between, ?unsampled, ?sampled, ?gate, ?fit, ?refLoss, ?refLossEnd, ?noEdge, ?stopped, ?period⟩
  case between =>
    intro rets canary s h
    have heq : bayCorrection rets canary s = s := if_pos (by simp [h])
    exact congrArg Host.Outcome.next heq
  case unsampled =>
    intro s h6 hbc
    refine ⟨_, rfl, fun b hb => ?_, fun b hb => ?_, ?_⟩
    · refine (bay_bayCorrection [] [] s h6 hbc b).trans ?_
      rw [if_pos hb]
      rfl
    · refine (bay_bayCorrection [] [] s h6 hbc b).trans ?_
      rw [if_neg (by rw [hb]; decide)]
    · rw [bayCorrection_ready [] [] s h6 hbc]
      simp [Only, correctBays]
  case sampled =>
    intro rets canary s h6 hbc
    refine ⟨_, rfl, fun b hb => ?_, fun b hb => ?_, by apply bayCorrection_blank <;> decide⟩
    · have hbay := bayCorrection_served rets canary s h6 hbc b hb
      have hpath := bayCorrection_path rets canary s h6 hbc b
      obtain ⟨hmargin, hlow⟩ := canary_bayCorrection rets canary s h6 hbc b hb
      refine ⟨?_, ?_, ?_, ?_, fun v hr => hpath v hb hr, fun hr => ?_, fun v hr => ?_, fun hr => ?_⟩
      · exact congrArg Bay.pendCorr hbay
      · exact congrArg Bay.corr hbay
      · exact congrArg Bay.gateN hbay
      · exact (congrArg Bay.lbc hbay).trans rfl
      · have hsame := bay_bayCorrection rets canary s h6 hbc b
        rw [if_pos hb, hr] at hsame
        rw [hsame]
        exact ⟨rfl, rfl, rfl⟩
      · rw [hmargin, hlow, hr]
        refine ⟨rfl, rfl, fun ha hv => ?_⟩
        have hmem : (⟨b, v⟩ : BayReading) ∈ canary := (List.mem_filter.mp (hr ▸ List.mem_singleton_self _)).1
        exact canaryLow_bayCorrection rets canary s h6 hbc ⟨b, v⟩ hmem hb ⟨ha, hv⟩
      · rw [hmargin, hlow, hr]
        exact ⟨rfl, rfl⟩
    · refine (bay_bayCorrection rets canary s h6 hbc b).trans ?_
      rw [if_neg (by rw [hb]; decide)]
  case gate =>
    intro b s hs hn hp u0 du db hu hdu h0 hdb
    have hframe : Only [.com .tsu .tk, .com .tsu .ports, .com .tsu .pgEvent, .com .tsu .ic, .com .tsu .hfits, .steps, .member,
        .cue, .signals, .huddles, .keyPort, .tallies, .bays] s (incGateEnd b s) := by apply incGateEnd_blank <;> decide
    obtain ⟨hoff, hin⟩ := incGateEnd_ends b s hs hn hp u0 du db hu hdu h0 hdb
    obtain ⟨⟨he, hd⟩, -⟩ : (bayExists s b = true ∧ (s.bay b).dead = false) ∧ (s.bay b).stopped = false := by
      simpa [bayServed] using hs
    have hgate : (modBay b (gateEnded db du) s).bay b = gateEnded db du (s.bay b) := bay_modBay_same _ _ _
    refine ⟨_, rfl, ?_⟩
    by_cases h : rateOff b db du s
    · rw [hoff h] at hframe ⊢
      have hd' : ((modBay b (gateEnded db du) s).bay b).dead = false := by rw [hgate]; exact hd
      have hbay := bayDies_bay b (modBay b (gateEnded db du) s) he hd'
      rw [hgate] at hbay
      refine ⟨congrArg Bay.incNext hbay, congrArg Bay.gateB hbay, congrArg Bay.gateU hbay, congrArg Bay.gateN hbay,
        fun hle => absurd h (Nat.not_lt.mpr hle), fun _ => ⟨congrArg Bay.dead hbay, bayDies_event b _ he hd'⟩, hframe⟩
    · rw [hin h] at hframe ⊢
      rw [hgate]
      exact ⟨rfl, rfl, rfl, rfl, fun _ => ⟨hd, fun j hj => bay_modBay_ne b j _ s hj, by simp [Only]⟩, fun hlt => absurd hlt h,
        hframe⟩
  case fit =>
    intro b y s he hheld hfit
    obtain ⟨hbay, hother, hfits⟩ := bayFitEnd_complete b y s he hheld hfit
    exact ⟨_, rfl, hbay, hfits, hother, by apply bayFitEnd_blank <;> decide⟩
  case refLoss =>
    intro b s he hl _
    have heq : bayRefLoss b s = raise .tsu 0x03 (16 + b) (modBay b (fun y => { y with refLoss := true }) s) :=
      if_neg (by rw [he, hl]; decide)
    have hframe : Only [.com .tsu .pgEvent, .com .tsu .ic, .bays] s (bayRefLoss b s) := by apply bayRefLoss_blank <;> decide
    have hlt := bay_lt_of_exists he
    refine ⟨_, rfl, ?_⟩
    rw [heq] at hframe ⊢
    have hbay : ∀ j, (raise .tsu 0x03 (16 + b) (modBay b (fun y => { y with refLoss := true }) s)).bay j =
        (modBay b (fun y => { y with refLoss := true }) s).bay j := fun j => by rw [State.bay, raise_t, State.bay]
    exact ⟨(hbay b).trans (bay_modBay_same _ _ _), eventSet_raiseBay (16 + b) b _ he (by omega),
      fun j hj => (hbay j).trans (bay_modBay_ne b j _ s hj), hframe⟩
  case refLossEnd =>
    intro b s he
    have heq : bayRefLossEnd b s = modBay b (fun y => { y with refLoss := false }) s := if_pos he
    refine ⟨_, rfl, ?_⟩
    rw [heq]
    exact ⟨bay_modBay_same _ _ _, fun j hj => bay_modBay_ne b j _ s hj, by simp [Only]⟩
  case noEdge =>
    intro b s he hd hs
    have heq : bayNoEdge b s = bayDies b s := if_neg (by rw [hs]; decide)
    refine ⟨_, rfl, ?_⟩
    rw [heq]
    have hbay := bayDies_bay b s he hd
    exact ⟨congrArg Bay.dead hbay, congrArg Bay.lbcValid hbay, bayDies_event b s he hd, bayDies_sideline b s he hd,
      by apply bayDies_blank <;> decide⟩
  case stopped => exact fun b s hs => congrArg _ (if_pos hs)
  case period =>
    intro b n s he hs hn
    have hrep := reportOf_one b n s he hs hn
    have hbay := bay_periodReport_some [⟨b, n⟩] s b n he (by rw [hrep, if_pos rfl])
    obtain ⟨hedges, hu, hunits⟩ := bayEdge_counts n (s.bay b)
    refine ⟨_, rfl, ?_⟩
    have hframe : Only [.com .tsu .pgEvent, .com .tsu .ic, .bays] s (periodReport [⟨b, n⟩] s) := by
      apply periodReport_blank <;> decide
    refine ⟨?_, ?_, ?_, fun c hc => ?_, fun hc step hstep => ?_, fun c hc r hr hof hv hh => ?_, fun c hc => ?_, fun j hj => ?_, hframe⟩
    · rw [hbay, countPeriod, hedges]
    · rw [hbay, countPeriod, hu]
    · rw [hbay, countPeriod, hunits]
    · rw [hbay]
      exact bayEdge_corrected n c (s.bay b) hc
    · rw [hbay, hstep]
      exact bayEdge_step n (s.bay b) hc
    · refine xing_periodReport_moves [⟨b, n⟩] s c b hc he hv hh ?_ r ?_
      · rw [hrep, hrep]
        rcases hof with h | h <;> simp [h]
      · rw [hr, hrep, hrep]
    · refine xing_periodReport_stays [⟨b, n⟩] s c ?_
      rw [hrep, hrep]
      rcases hc with h | h | ⟨h1, h2⟩
      · simp [h]
      · simp [h]
      · simp [h1, h2]
    · exact bay_periodReport_none [⟨b, n⟩] s j (by rw [hrep, if_neg hj])

end Sys2Proof.Machine
end

section
/-!
PROOFS. Frames through a register access, and what a port's own queries read of the state.
-/

namespace Sys2Proof.Machine

/-- A change within some parts is one within more of them. -/
theorem Only.mono {W V : List Part} {s t : State} (h : Only W s t) (hV : ∀ p ∈ W, V.contains p = true) : Only V s t :=
  h.blank_eq V.contains hV

/-- An access that is taken may end a held half access of the PCIe requester first (R403). -/
theorem only_of_dropHalf {d : Dev} {rq : Nat} {s t : State} {W : List Part} (h : Only W (dropHalf d rq s) t)
    (hW : d = .dxd → ∀ p ∈ [Part.com .dxd .badAccess, .com .dxd .barCap, .com .dxd .barLow], W.contains p = true) :
    Only W s t := by
  cases d
  · rwa [dropHalf_tsu] at h
  · refine Only.trans (Only.mono (W := [.com .dxd .badAccess, .com .dxd .barCap, .com .dxd .barLow]) ?_ (hW rfl)) h
    apply dropHalf_dxd_blank <;> decide

@[simp] theorem port_dropHalf (d e : Dev) (rq p : Nat) (s : State) : (dropHalf d rq s).port e p = s.port e p := by
  rw [State.port, dropHalf_com_ports, State.port]

theorem portExists_of_straps {d : Dev} {p : Nat} {s t : State} (h : t.x.straps = s.x.straps) :
    portExists d t p = portExists d s p := by
  have hu : usedPorts t = usedPorts s := by simp only [usedPorts, h]
  cases d
  · rfl
  · simp only [portExists, hu]

@[simp] theorem portExists_dropHalf (d e : Dev) (rq p : Nat) (s : State) :
    portExists e (dropHalf d rq s) p = portExists e s p := portExists_of_straps (by simp)

@[simp] theorem portExists_modPort (d e : Dev) (p q : Nat) (f : Port → Port) (s : State) :
    portExists e (modPort d q f s) p = portExists e s p := portExists_of_straps (by simp)

@[simp] theorem isPair_modPort (d e : Dev) (p q : Nat) (f : Port → Port) (s : State) :
    isPair e (modPort d q f s) p = isPair e s p := by
  cases e <;> simp [isPair]

@[simp] theorem portsReleased_dropHalf (d e : Dev) (rq : Nat) (s : State) :
    portsReleased e (dropHalf d rq s) = portsReleased e s := by
  simp [portsReleased]

/-- A port that carries a link has its registers. -/
theorem portShown_of_exists {d : Dev} {p : Nat} {s : State} (h : portExists d s p = true) : portShown d s p = true := by
  cases d
  · exact h
  · simp only [portShown, decide_eq_true_eq]
    rcases of_decide_eq_true h with h | h | h
    · exact .inl h
    · exact .inr (.inl h)
    · refine .inr (.inr ?_)
      unfold usedPorts at h
      split at h <;> simp_all <;> (try split at h) <;> omega

end Sys2Proof.Machine
end

section
/-!
PROOFS. The states of a port (R75, R76, R90): O11.
-/

namespace Sys2Proof.Machine

/-! A write of CONTROL that is taken. -/

theorem portEnable_taken (d : Dev) (rq p : Nat) (s : State) (h : PortWrite d rq p 0x20 s) :
    portEnable d rq p s = portControl d p 1 (dropHalf d rq s) := by
  rw [portEnable, if_pos (portShown_of_exists h.1), admitWrite_taken _ _ _ _ _ _ _ h.2]

theorem portDisable_taken (d : Dev) (rq p : Nat) (s : State) (h : PortWrite d rq p 0x20 s) :
    portDisable d rq p s = portControl d p 0 (dropHalf d rq s) := by
  rw [portDisable, if_pos (portShown_of_exists h.1), admitWrite_taken _ _ _ _ _ _ _ h.2]

theorem retrain_taken (d : Dev) (rq p : Nat) (v : Word) (s : State) (h : PortWrite d rq p 0x20 s) (hv : bit v 1 = true) :
    retrain d rq p v s = portControl d p v (dropHalf d rq s) := by
  rw [retrain, if_pos ⟨portShown_of_exists h.1, hv⟩, admitWrite_taken _ _ _ _ _ _ _ h.2]

/-! ENABLE is set (R76). -/

/-- What ENABLE makes of a port: IDLE becomes DOWN once the port logic is released. -/
def enabledPort (released : Bool) (up : Nat) (q : Port) : Port :=
  if q.st = 0 ∧ released = true then { q.toDown up with enable := true } else { q with enable := true }

/-- The port of a write with ENABLE, before what RETRAIN asks for. -/
def enabled (d : Dev) (p : Nat) (s : State) : State :=
  let s1 := modPort d p (fun q => { q with enable := true }) s
  if (s.port d p).st = 0 then (if portsReleased d s then modPort d p (·.toDown (s.com d).up) s1 else s1) else s1

theorem port_enabled (d : Dev) (p : Nat) (s : State) :
    (enabled d p s).port d p = enabledPort (portsReleased d s) (s.com d).up (s.port d p) := by
  unfold enabled enabledPort
  dsimp only
  by_cases hst : (s.port d p).st = 0 <;> by_cases hr : portsReleased d s = true <;>
    simp [hst, hr, Port.toDown, Port.closed]

theorem otherPorts_enabled (d : Dev) (p : Nat) (s : State) : OtherPorts d p s (enabled d p s) := by
  have h1 := otherPorts_modPort d p (fun q => { q with enable := true }) s
  unfold enabled
  dsimp only
  split
  · split
    · exact h1.trans (otherPorts_modPort d p _ _)
    · exact h1
  · exact h1

theorem only_enabled (d : Dev) (p : Nat) (s : State) : Only [.com d .ports] s (enabled d p s) := by
  have h1 := only_modPort d p (fun q => { q with enable := true }) s
  unfold enabled
  dsimp only
  split
  · split
    · exact h1.trans (only_modPort d p _ _)
    · exact h1
  · exact h1

theorem enabled_t (d : Dev) (p : Nat) (s : State) : (enabled d p s).t = s.t := by
  unfold enabled
  dsimp only
  (repeat' split) <;> simp

theorem enabled_up (d : Dev) (p : Nat) (s : State) : ((enabled d p s).com d).up = (s.com d).up := by
  unfold enabled
  dsimp only
  (repeat' split) <;> simp

/-- ENABLE changes nothing else of a port that is active. -/
theorem port_enabled_of_active (d : Dev) (p : Nat) (s : State) (h : (s.port d p).st ≠ 0) :
    (enabled d p s).port d p = { s.port d p with enable := true } := by
  rw [port_enabled, enabledPort, if_neg (by simp [h])]

/-! The branches of a write of CONTROL (R76, R90). -/

section
variable (d : Dev) (p : Nat) (v : Word) (s : State) (he : portExists d s p = true)
include he

theorem portControl_enable (h0 : bit v 0 = true) (h1 : bit v 1 = false) : portControl d p v s = enabled d p s := by
  simp only [portControl, he, h0, h1]
  rfl

theorem portControl_retrain (h0 : bit v 0 = true) (h1 : bit v 1 = true) : portControl d p v s =
    modPort d p (fun q => { q with flaps := [], flapHold := false })
      (if (s.port d p).st ≤ 1 then
        modPort d p (fun q => { q with downReason := 6, downAt := (s.com d).up }) (enabled d p s)
      else portDown d p 6 (enabled d p s)) := by
  simp only [portControl, he, h0, h1]
  rfl

theorem portControl_disable (h0 : bit v 0 = false) : portControl d p v s =
    if (s.port d p).st = 0 then modPort d p (fun q => { q with enable := false }) s else portIdle d p s := by
  simp only [portControl, he, h0]
  rfl

end

/-! ENABLE is cleared (R76). -/

/-- The port that a write without ENABLE leaves in IDLE. -/
def idledPort (q : Port) : Port := { q.closed with st := 0, enable := false }

theorem portIdle_of_dead (d : Dev) (p : Nat) (s : State) (hl : (s.port d p).live = false) :
    portIdle d p s = modPort d p idledPort s := by
  simp only [portIdle, hl]
  rfl

theorem portIdle_of_live (d : Dev) (p : Nat) (s : State) (hl : (s.port d p).live = true) :
    portIdle d p s = reselect d (portEvent d p 1 (modPort d p idledPort s)) := by
  simp only [portIdle, hl]
  rfl

theorem port_portIdle (d : Dev) (p : Nat) (s : State) :
    ∃ r, (portIdle d p s).port d p = { idledPort (s.port d p) with
      event := if (s.port d p).live then (s.port d p).event ||| bitW 1 else (s.port d p).event, rel := r } := by
  cases hl : (s.port d p).live
  · exact ⟨_, by rw [portIdle_of_dead d p s hl, port_modPort_same]; rfl⟩
  · obtain ⟨r, hr⟩ := linksKept_reselect d (portEvent d p 1 (modPort d p idledPort s)) p
    exact ⟨r, by rw [portIdle_of_live d p s hl, hr, port_portEvent_same, port_modPort_same]; rfl⟩

theorem otherPorts_portIdle (d : Dev) (p : Nat) (s : State) (hn : d = .tsu → s.t.hd.held = []) :
    OtherPorts d p s (portIdle d p s) := by
  cases hl : (s.port d p).live
  · rw [portIdle_of_dead d p s hl]
    exact otherPorts_modPort d p _ s
  · rw [portIdle_of_live d p s hl]
    refine .trans (.trans (otherPorts_modPort d p _ s) (otherPorts_portEvent d p 1 _))
      (otherPorts_of_ports_eq p (reselect_ports_of_none_held d _ fun hd => ?_))
    simpa using hn hd

/-- What the loss of a port that was live changes. -/
def lossParts (d : Dev) : List Part :=
  pick d [.com .tsu .tk, .com .tsu .coreA, .com .tsu .coreB, .com .tsu .ports, .com .tsu .msets, .com .tsu .pgEvent,
    .com .tsu .ic, .com .tsu .hfits, .member, .huddles] [.com .dxd .tk, .com .dxd .coreA, .com .dxd .coreB,
    .com .dxd .ports, .com .dxd .msets, .com .dxd .pgEvent, .com .dxd .ic, .com .dxd .hfits, .refs, .hold, .ptp, .attic]

theorem only_portIdle (d : Dev) (p : Nat) (s : State) : Only (lossParts d) s (portIdle d p s) := by
  cases d
  · apply portIdle_tsu_blank <;> decide
  · apply portIdle_dxd_blank <;> decide

/-- A loss that gives no evidence changes no more than that. -/
theorem only_portDown (d : Dev) (p reason : Nat) (s : State) (h2 : 2 ≤ (s.port d p).st)
    (hr : reason ≠ 1 ∧ reason ≠ 2 ∧ reason ≠ 3) : Only (lossParts d) s (portDown d p reason s) := by
  cases d
  · apply portDown_tsu_blank <;> decide
  · exact only_portDown_dxd p reason s h2 hr

/-! The parts that a write of CONTROL may change. -/

theorem only_control_write {d : Dev} {rq : Nat} {s t : State} (h : Only [.com d .ports] (dropHalf d rq s) t) :
    Only (pick d [.com .tsu .ports] [.com .dxd .ports, .com .dxd .badAccess, .com .dxd .barCap, .com .dxd .barLow]) s t := by
  cases d <;> exact only_of_dropHalf (h.mono (by decide)) (by decide)

theorem only_control_loss {d : Dev} {rq : Nat} {s t : State} (h : Only (lossParts d) (dropHalf d rq s) t) :
    Only (pick d [.com .tsu .tk, .com .tsu .coreA, .com .tsu .coreB, .com .tsu .ports, .com .tsu .msets, .com .tsu .pgEvent,
      .com .tsu .ic, .com .tsu .hfits, .member, .huddles] [.com .dxd .tk, .com .dxd .coreA, .com .dxd .coreB,
      .com .dxd .ports, .com .dxd .msets, .com .dxd .pgEvent, .com .dxd .badAccess, .com .dxd .ic, .com .dxd .barCap,
      .com .dxd .barLow, .com .dxd .hfits, .refs, .hold, .ptp, .attic]) s t := by
  cases d <;> exact only_of_dropHalf (h.mono (by decide)) (by decide)

theorem OtherPorts.of_dropHalf {d : Dev} {rq p : Nat} {s t : State} (h : OtherPorts d p (dropHalf d rq s) t) :
    OtherPorts d p s t := fun q hq => (h q hq).trans (port_dropHalf d d rq q s)

/-- The signal decides nothing about a dwell. -/
@[simp] theorem dwelt_signal (d : Dev) (p : Nat) (b : Bool) (s : State) :
    dwelt d p (modPort d p (fun q => { q with signal := b }) s) = dwelt d p s := by
  unfold dwelt
  dsimp only
  rw [port_modPort_same, portExists_modPort]
  cases d <;> rfl

/-- Settles O11: each write of CONTROL by its branch of `portControl`, and what that leaves of the port. -/
theorem portStates : Obligations.PortStates := by
  unfold Obligations.PortStates
  refine ⟨?enableIdle, ?enable, ?disable, ?disableLive, ?retrainDown, ?retrainActive, ?retrainDisable, ?dwelt, ?signal,
    ?aligned⟩
  case enableIdle =>
    intro d rq p s hw hst hr
    refine ⟨_, rfl, ?_⟩
    rw [portEnable_taken d rq p s hw, portControl_enable d p 1 _ (by simpa using hw.1) (by decide) (by decide)]
    refine ⟨?_, .of_dropHalf (otherPorts_enabled d p _), only_control_write (only_enabled d p _)⟩
    rw [port_enabled]
    simp [enabledPort, hst, hr]
  case enable =>
    intro d rq p s hw hst
    refine ⟨_, rfl, ?_⟩
    rw [portEnable_taken d rq p s hw, portControl_enable d p 1 _ (by simpa using hw.1) (by decide) (by decide)]
    refine ⟨?_, .of_dropHalf (otherPorts_enabled d p _), only_control_write (only_enabled d p _)⟩
    rw [port_enabled, enabledPort, if_neg]
    · simp
    · rcases hst with h | h <;> simp [h]
  case disable =>
    intro d rq p s hw hst hl
    refine ⟨_, rfl, ?_⟩
    rw [portDisable_taken d rq p s hw, portControl_disable d p 0 _ (by simpa using hw.1) (by decide),
      if_neg (by simpa using hst), portIdle_of_dead d p _ (by simpa using hl)]
    exact ⟨by simp [idledPort], .of_dropHalf (otherPorts_modPort d p _ _), only_control_write (only_modPort d p _ _)⟩
  case disableLive =>
    intro d rq p s hw hl
    refine ⟨_, rfl, ?_⟩
    have hst : (s.port d p).st ≠ 0 := by
      intro h
      simp [Port.live, h] at hl
    rw [portDisable_taken d rq p s hw, portControl_disable d p 0 _ (by simpa using hw.1) (by decide),
      if_neg (by simpa using hst)]
    obtain ⟨r, hp⟩ := port_portIdle d p (dropHalf d rq s)
    rw [port_dropHalf, hl] at hp
    refine ⟨by rw [hp]; rfl, by rw [hp]; rfl, by rw [hp]; rfl, by rw [hp]; rfl, fun hn => ?_,
      only_control_loss (only_portIdle d p _)⟩
    exact .of_dropHalf (otherPorts_portIdle d p _ (by simpa using hn))
  case retrainDown =>
    intro d rq p v s hw h1 h0 hst hr
    refine ⟨_, rfl, ?_⟩
    rw [retrain_taken d rq p v s hw h1, portControl_retrain d p v _ (by simpa using hw.1) h0 h1,
      if_pos (by simpa using hst)]
    have hen : enabledPort (portsReleased d s) (s.com d).up (s.port d p) =
        { enabledPort (portsReleased d s) (s.com d).up (s.port d p) with st := 1, enable := true } := by
      unfold enabledPort
      split
      · simp [Port.toDown]
      · have : (s.port d p).st = 1 := by
          rcases hr with h | h
          · exact h
          · simp_all; omega
        simp [← this]
    simp only [port_modPort_same, port_enabled, portsReleased_dropHalf, dropHalf_com_up, port_dropHalf, true_and]
    rw [hen]
    refine ⟨rfl, rfl, .of_dropHalf (rq := rq) ?_, only_control_write (rq := rq) ?_⟩
    · exact ((otherPorts_enabled d p _).trans (otherPorts_modPort d p _ _)).trans (otherPorts_modPort d p _ _)
    · exact ((only_enabled d p _).trans (only_modPort d p _ _)).trans (only_modPort d p _ _)
  case retrainActive =>
    intro d rq p v s hw h1 h0 hst
    refine ⟨_, rfl, ?_⟩
    rw [retrain_taken d rq p v s hw h1, portControl_retrain d p v _ (by simpa using hw.1) h0 h1,
      if_neg (by rw [port_dropHalf]; omega)]
    have hq : (enabled d p (dropHalf d rq s)).port d p = { s.port d p with enable := true } := by
      rw [port_enabled_of_active d p _ (by rw [port_dropHalf]; omega), port_dropHalf]
    have h2 : 2 ≤ ((enabled d p (dropHalf d rq s)).port d p).st := by rw [hq]; exact hst
    have hup : ((enabled d p (dropHalf d rq s)).com d).up = (s.com d).up := by rw [enabled_up, dropHalf_com_up]
    have hother := otherPorts_enabled d p (dropHalf d rq s)
    have honly := only_enabled d p (dropHalf d rq s)
    have ht := enabled_t d p (dropHalf d rq s)
    generalize enabled d p (dropHalf d rq s) = u at hq h2 hup hother honly ht ⊢
    obtain ⟨r, hp⟩ := port_portDown d p 6 u h2
    rw [port_modPort_same, hp, hup]
    refine ⟨rfl, rfl, rfl, rfl, rfl, rfl, fun hn => .of_dropHalf (rq := rq) ?_, only_control_loss (rq := rq) ?_⟩
    · refine (hother.trans (otherPorts_portDown d p 6 u h2 (by decide) ?_)).trans (otherPorts_modPort d p _ _)
      simpa [ht] using hn
    · have hports : ∀ {u v}, Only [.com d .ports] u v → Only (lossParts d) u v := fun h => h.mono (by cases d <;> decide)
      exact ((hports honly).trans (only_portDown d p 6 u h2 (by decide))).trans (hports (only_modPort d p _ _))
  case retrainDisable =>
    intro d rq p v s hw h1 h0
    refine ⟨_, rfl, ?_⟩
    rw [retrain_taken d rq p v s hw h1, portControl_disable d p v _ (by simpa using hw.1) h0]
    by_cases hst : (s.port d p).st = 0
    · rw [if_pos (by simpa using hst)]
      refine ⟨by simpa using hst, by simp, by simp, by simp, fun hl => ?_, fun _ => .of_dropHalf (otherPorts_modPort d p _ _),
        only_control_loss ((only_modPort d p _ _).mono (by cases d <;> decide))⟩
      simp [Port.live, hst] at hl
    · rw [if_neg (by simpa using hst)]
      obtain ⟨r, hp⟩ := port_portIdle d p (dropHalf d rq s)
      rw [port_dropHalf] at hp
      refine ⟨by rw [hp]; rfl, by rw [hp]; rfl, by rw [hp]; rfl, by rw [hp]; rfl, fun hl => ?_, fun hn => ?_,
        only_control_loss (only_portIdle d p _)⟩
      · rw [hp, if_pos hl]
        exact bit_or_bitW _ 1 (by decide)
      · exact .of_dropHalf (otherPorts_portIdle d p _ (by simpa using hn))
  case dwelt =>
    intro d p s hd hs
    refine ⟨_, rfl, ?_⟩
    rw [downDwellEnd, if_pos (by simp [hd, hs])]
    exact ⟨port_modPort_same d p _ s, otherPorts_modPort d p _ s, only_modPort d p _ s⟩
  case signal =>
    intro d p s he
    refine ⟨_, rfl, ?_⟩
    rw [signalPresent, if_pos he, downDwellEnd]
    have hother := otherPorts_modPort d p (fun q => { q with signal := true }) s
    have honly := only_modPort d p (fun q => { q with signal := true }) s
    cases hd : dwelt d p s
    · rw [if_neg (by simp [hd])]
      exact ⟨by simp, hother, honly⟩
    · rw [if_pos (by simp [hd])]
      exact ⟨by simp, hother.trans (otherPorts_modPort d p _ _), honly.trans (only_modPort d p _ _)⟩
  case aligned =>
    intro d p s he hst
    refine ⟨_, rfl, ?_⟩
    rw [alignmentAcquired, if_pos ⟨he, hst⟩]
    exact ⟨port_modPort_same d p _ s, otherPorts_modPort d p _ s, only_modPort d p _ s⟩

end Sys2Proof.Machine
end

section
/-!
PROOFS. Link fields and frame errors (R69, R71, R82, R83, R91): O15.
-/

namespace Sys2Proof.Machine

/-! One port and its errors. -/

/-- What a taken frame's link fields make of the port's retained frames (R82, R83). -/
theorem takeLink_rel (d : Dev) (p : Nat) (h : LinkHdr) (s : State) :
    (∀ x, x ∈ ((takeLink d p h s).port d p).rel.retained ↔ x ∈ (s.port d p).rel.retained ∧ serial 8 h.ack x.1 < 0) ∧
      ((takeLink d p h s).port d p).rel.holdCIn = h.holdC ∧ ((takeLink d p h s).port d p).rel.holdBIn = h.holdB ∧
      ((takeLink d p h s).port d p).rel.nakIn = h.nak ∧
      (h.nak = true → (s.port d p).rel.nakIn = false →
        ((takeLink d p h s).port d p).rel.resend = ((takeLink d p h s).port d p).rel.retained) := by
  unfold takeLink
  dsimp only
  rw [port_modPort_same]
  exact ⟨fun x => by simp, rfl, rfl, rfl, fun hn hs => by simp [hn, hs]⟩

/-- A frame that fails its CRC is counted; in TRAIN it ends a run (R83). -/
def crcCounted (up window : Nat) (q : Port) : Port :=
  { q with
    crcErr := sat16 (q.crcErr + 1), crcAt := up :: q.crcAt.filter (fun t => decide (up < t + window)),
    tr := if q.st = 3 then { q.tr with count := 0, ackCount := 0 } else q.tr }

theorem crcError_eq (d : Dev) (p : Nat) (s : State) (he : portExists d s p = true) (h3 : 3 ≤ (s.port d p).st) :
    crcError d p s =
      let s1 := modPort d p (crcCounted (s.com d).up (rateWindow (isLane d s p))) s
      if (s.port d p).live then setNak d p s1 else s1 := by
  unfold crcError
  dsimp only
  rw [if_neg (by simp [he]; omega)]
  rfl

/-- NAK is set and its episode counted once (R83, R91). -/
def naked (q : Port) : Port :=
  if q.rel.nakOut then q else { q with nakSent := sat16 (q.nakSent + 1), rel := { q.rel with nakOut := true } }

theorem setNak_eq (d : Dev) (p : Nat) (s : State) : setNak d p s = modPort d p naked s := rfl

theorem naked_fields (q : Port) : (naked q).crcErr = q.crcErr ∧ (naked q).rel.nakOut = true ∧
    (naked q).nakSent = (if q.rel.nakOut then q.nakSent else sat16 (q.nakSent + 1)) ∧ (naked q).rel.seqRx = q.rel.seqRx ∧
    (naked q).st = q.st := by
  unfold naked
  cases h : q.rel.nakOut <;> simp [h]

theorem live_ge {q : Port} (h : q.live = true) : 4 ≤ q.st := by
  simp only [Port.live, Bool.or_eq_true, beq_iff_eq] at h
  omega

/-- An unanswered NAK at its timeout (R83). -/
theorem nakTimeout_due (d : Dev) (p : Nat) (s : State) (he : portExists d s p = true) (hl : (s.port d p).live = true)
    (hn : (s.port d p).rel.nakIn = true) (ht : (s.port d p).rel.nakSince + 16384 ≤ (s.com d).up) :
    nakTimeout d p s = if 4 ≤ (s.port d p).rel.nakTries then portDown d p 8 s
      else modPort d p (fun q => { q with rel := { q.rel with
        resend := q.rel.retained, nakTries := q.rel.nakTries + 1, nakSince := (s.com d).up } }) s := by
  unfold nakTimeout
  dsimp only
  rw [if_pos (by simp [he, hl, hn, ht])]

/-- The counts that a read of ERRORS clears (R91). -/
def errorsCleared (q : Port) : Port := { q with crcErr := 0, nakSent := 0, epochDrop := 0, unknownType := 0 }

theorem portErrorsRead_taken (d : Dev) (rq p : Nat) (s : State) (he : portExists d s p = true)
    (hr : ReadTaken d rq (portPage d p).1 s) :
    portErrorsRead d rq p s = modPort d p errorsCleared (respond d rq
      (shown d ((portPage d p).1 * 4096 + (portBase d p % 4096 + 0x18)) (portErrors (s.port d p)) s) (dropHalf d rq s)) := by
  rw [portErrorsRead, if_pos he, admitRead_taken _ _ _ _ _ _ _ hr, port_dropHalf, shown_dropHalf]
  rfl

@[simp] theorem port_respond (d e : Dev) (rq p : Nat) (v : Word) (s : State) :
    (respond e rq v s).port d p = s.port d p := by
  cases d <;> cases e <;> rfl

@[simp] theorem response_modPort (d : Dev) (rq p : Nat) (f : Port → Port) (s : State) :
    (modPort d p f s).response d rq = s.response d rq := by
  simp [State.response]

/-- Settles O15: each clause from what the command makes of its port. -/
theorem portLinkErrors : Obligations.PortLinkErrors := by
  unfold Obligations.PortLinkErrors
  refine ⟨?fill, ?crc, ?crcTraining, ?unknown, ?resend, ?replayFail, ?errors, ?forget⟩
  case fill =>
    intro d p h s he hl
    refine ⟨_, rfl, ?_⟩
    rw [fillReceive, if_pos (by simp [he, hl])]
    obtain ⟨hret, hc, hb, hn, hres⟩ := takeLink_rel d p h s
    obtain ⟨r, hr⟩ := port_takeLink d p h s
    exact ⟨hret, hc, hb, hn, hres, by rw [hr], takeLink_seqRx d p h s, otherPorts_takeLink d p h s, only_modPort d p _ s⟩
  case crc =>
    intro d p s he hl
    have h4 := live_ge hl
    refine ⟨_, rfl, ?_⟩
    rw [crcError_eq d p s he (by omega)]
    dsimp only
    rw [if_pos hl, setNak_eq, port_modPort_same, port_modPort_same]
    obtain ⟨hcrc, hout, hsent, hseq, hst⟩ := naked_fields (crcCounted (s.com d).up (rateWindow (isLane d s p)) (s.port d p))
    refine ⟨hcrc, hout, hsent, hseq, hst, ?_, ?_⟩
    · exact (otherPorts_modPort d p _ s).trans (otherPorts_modPort d p _ _)
    · exact (only_modPort d p _ s).trans (only_modPort d p _ _)
  case crcTraining =>
    intro d p s he h3
    have hl : (s.port d p).live = false := by simp [Port.live, h3]
    refine ⟨_, rfl, ?_⟩
    rw [crcError_eq d p s he (by omega)]
    dsimp only
    rw [if_neg (by simp [hl]), port_modPort_same]
    exact ⟨rfl, by simp [crcCounted, h3], by simp [crcCounted, h3], rfl, otherPorts_modPort d p _ s, only_modPort d p _ s⟩
  case unknown =>
    intro d p h ty s he hl ht
    refine ⟨_, rfl, ?_⟩
    rw [unknownType, if_pos (by simp [he, hl, ht])]
    exact ⟨port_modPort_same d p _ s, otherPorts_modPort d p _ s, only_modPort d p _ s⟩
  case resend =>
    intro d p s he hl hn ht h4
    refine ⟨_, rfl, ?_⟩
    rw [nakTimeout_due d p s he hl hn ht, if_neg (by omega), port_modPort_same]
    exact ⟨rfl, rfl, rfl, rfl, rfl, otherPorts_modPort d p _ s, only_modPort d p _ s⟩
  case replayFail =>
    intro d p s he hl hn ht h4
    have h2 : 2 ≤ (s.port d p).st := le_trans (by decide) (live_ge hl)
    refine ⟨_, rfl, ?_⟩
    rw [nakTimeout_due d p s he hl hn ht, if_pos h4]
    obtain ⟨r, hr⟩ := port_portDown d p 8 s h2
    rw [hl, if_pos rfl] at hr
    refine ⟨by rw [hr]; rfl, by rw [hr]; rfl, ?_, otherPorts_portDown d p 8 s h2 (by decide),
      only_portDown d p 8 s h2 (by decide)⟩
    rw [hr]
    exact bit_or_bitW _ 1 (by decide)
  case errors =>
    intro d rq p s he hr
    refine ⟨_, rfl, ?_⟩
    rw [portErrorsRead_taken d rq p s he hr]
    refine ⟨by simp, by simp [errorsCleared], fun q hq => by simp [port_modPort_ne d p q _ _ hq], ?_⟩
    cases d <;> simp [Only, pick]
  case forget =>
    intro d q at_ s h
    refine ⟨_, rfl, ?_, ?_⟩
    · simp [oseqForget, h]
    · cases d <;> simp [Only]

end Sys2Proof.Machine
end

section
/-!
PROOFS. A port enters UP (R76, R379): its own port, and no other.
-/

namespace Sys2Proof.Machine

theorem otherPorts_enqueue (d : Dev) (p : Nat) (src : Option Nat) (f : Frame) (s : State) :
    OtherPorts d p s (enqueue d p src f s) := otherPorts_modPort d p _ s

@[simp] theorem port_modBoot (d : Dev) (f : Boot → Boot) (p : Nat) (s : State) : (modBoot d f s).port d p = s.port d p := by
  simp [State.port]

@[simp] theorem portEvent_x (d : Dev) (p b : Nat) (s : State) : (portEvent d p b s).x = s.x := by
  unfold portEvent; dsimp only; split <;> simp

theorem splitReferee_ports (s : State) : (splitReferee s).dc.ports = s.dc.ports := dc_ports_eq (by simp [but])

/-- The frames of an image on one port. -/
theorem foldl_enqueue_keeps (d : Dev) (p : Nat) (fs : List Frame) (s : State) :
    LinksKept d s (fs.foldl (fun u f => enqueue d p none f u) s) ∧
      OtherPorts d p s (fs.foldl (fun u f => enqueue d p none f u) s) := by
  refine foldl_keeps (fun u => LinksKept d s u ∧ OtherPorts d p s u) (fun u f _ hu => ?_)
    ⟨linksKept_of_ports_eq rfl, fun _ _ => rfl⟩
  exact ⟨hu.1.trans (linksKept_enqueue d p none f u), hu.2.trans (otherPorts_enqueue d p none f u)⟩

/-- The boot image for a lane changes its port alone: what waits to leave, and the version sent (R379). -/
theorem bootToLane_port (p : Nat) (s : State) :
    (∃ r fw, (bootToLane p s).port .dxd p = { s.port .dxd p with rel := r, bootFw := fw }) ∧
      OtherPorts .dxd p s (bootToLane p s) := by
  have hsame : (∃ r fw, s.port .dxd p = { s.port .dxd p with rel := r, bootFw := fw }) ∧ OtherPorts .dxd p s s :=
    ⟨⟨_, _, rfl⟩, fun _ _ => rfl⟩
  unfold bootToLane
  split
  · split
    · obtain ⟨hlinks, hothers⟩ := foldl_enqueue_keeps .dxd p _
        (modPort .dxd p (fun q => { q with bootFw := some (cachedFw s q.peerKind) }) s)
      obtain ⟨r, hr⟩ := hlinks p
      exact ⟨⟨r, _, hr.trans (by rw [port_modPort_same])⟩, (otherPorts_modPort .dxd p _ s).trans hothers⟩
    · exact hsame
  · exact hsame

/-- What entering UP makes of a port, before the boot image. -/
def raisedPort (sec : Nat) (q : Port) : Port :=
  { q with
    st := 5, rel := { q.rel with resend := q.rel.retained },
    tr := { q.tr with downs := [], ups := [], lastSec := sec, excursion := false } }

theorem portUp_port (d : Dev) (p : Nat) (s : State) :
    (∃ r fw, (portUp d p s).port d p = { raisedPort (s.com d).tk.sec (s.port d p) with
      event := (s.port d p).event ||| bitW 0, rel := r, bootFw := fw }) ∧ OtherPorts d p s (portUp d p s) := by
  unfold portUp
  dsimp only
  generalize hs1 : modPort d p _ s = s1
  generalize hs2 : modBoot d _ s1 = s2
  have hp : (portEvent d p 0 s2).port d p =
      { raisedPort (s.com d).tk.sec (s.port d p) with event := (s.port d p).event ||| bitW 0 } := by
    rw [port_portEvent_same, ← hs2, port_modBoot, ← hs1, port_modPort_same]
    rfl
  have ho : OtherPorts d p s (portEvent d p 0 s2) := by
    refine .trans (.trans (t := s1) ?_ (u := s2) ?_) (otherPorts_portEvent d p 0 s2)
    · rw [← hs1]
      exact otherPorts_modPort d p _ s
    · rw [← hs2]
      exact fun q _ => port_modBoot d _ q s1
  generalize portEvent d p 0 s2 = s3 at hp ho
  cases d
  case tsu => exact ⟨⟨_, _, hp⟩, ho⟩
  case dxd =>
    dsimp only
    split
    · have hsplit : ∀ q, (splitReferee s3).port .dxd q = s3.port .dxd q := fun q => by
        rw [State.port, com_dxd, splitReferee_ports]
        rfl
      exact ⟨⟨_, _, (hsplit p).trans hp⟩, ho.trans fun q _ => hsplit q⟩
    · obtain ⟨⟨r, fw, hr⟩, hboot⟩ := bootToLane_port p s3
      exact ⟨⟨r, fw, by rw [hr, hp]⟩, ho.trans hboot⟩

end Sys2Proof.Machine
end

section
/-!
PROOFS. Delay probes, calibration and the move of a delay (R76, R78, R79, R81, R392): O13.
-/

namespace Sys2Proof.Machine

/-! Requests and replies. -/

/-- A request that leaves waits with the frames that are sent once (R78). -/
theorem port_queueRequest (d : Dev) (p : Nat) (done : Bool) (s : State) :
    (queueRequest d p done s).port d p = { s.port d p with
      rel := { (s.port d p).rel with lq := (s.port d p).rel.lq ++
        [⟨0, .probe ⟨false, done, (s.port d p).tr.nextId, 0, (s.port d p).applied⟩⟩] },
      tr := { (s.port d p).tr with
        requests := (s.port d p).tr.requests + 1, lastReq := (s.com d).up,
        nextId := ((s.port d p).tr.nextId + 1) % 0xFF00 } } := by
  unfold queueRequest enqueue
  rw [port_modPort_same, port_modPort_same]
  rfl

theorem otherPorts_queueRequest (d : Dev) (p : Nat) (done : Bool) (s : State) :
    OtherPorts d p s (queueRequest d p done s) :=
  (otherPorts_enqueue d p none _ s).trans (otherPorts_modPort d p _ _)

theorem only_queueRequest (d : Dev) (p : Nat) (done : Bool) (s : State) :
    Only [.com d .ports] s (queueRequest d p done s) := by
  cases d
  · exact queueRequest_tsu_blank p done s (by decide)
  · exact queueRequest_dxd_blank p done s (by decide)

/-- A request is due: in CAL while results are wanted, in UP once in 65,536 beats (R78, R81). -/
theorem requestSend_due (d : Dev) (p : Nat) (s : State) (he : portExists d s p = true) (ho : isOriginator d p = true)
    (h : ((s.port d p).st = 4 ∧ (s.port d p).tr.downs.length < 64 ∧ (s.port d p).tr.requests < 256 ∧
        ((s.port d p).tr.requests = 0 ∨ (s.port d p).tr.lastReq + 2048 ≤ (s.com d).up)) ∨
      ((s.port d p).st = 5 ∧ (s.port d p).tr.lastReq + 65536 ≤ (s.com d).up)) :
    requestSend d p s = queueRequest d p false s := by
  unfold requestSend
  dsimp only
  rw [if_neg (by simp [he, ho])]
  rcases h with ⟨h4, hdue⟩ | ⟨h5, hdue⟩
  · rw [if_pos h4, if_pos hdue]
  · rw [if_neg (by omega), if_pos h5, if_pos hdue]

/-- A request that is taken: it waits for its answer, and the answering end shows its APPLIED (R78). -/
def requestTaken (d : Dev) (p : Nat) (h : LinkHdr) (f : ProbeF) (t2 : Nat) (s : State) : State :=
  let s0 := takeLink d p h s
  let s1 := if sofStamped d p s then
      modPort d p (fun q => { q with tr := { q.tr with toAnswer := q.tr.toAnswer ++ [(f, t2)] } }) s0 else s0
  if isOriginator d p || 0xFF00 ≤ f.id then s1 else modPort d p (fun q => { q with applied := f.result }) s1

theorem requestReceive_taken (d : Dev) (p : Nat) (h : LinkHdr) (f : ProbeF) (t2 : Nat) (s : State)
    (he : portExists d s p = true) (hl : (s.port d p).live = true) (hr : f.reply = false)
    (hc : f.calDone = false ∨ (s.port d p).st = 5) : requestReceive d p h f t2 s = requestTaken d p h f t2 s := by
  unfold requestReceive
  dsimp only
  rw [if_neg (by simp [he, hl, hr]), if_neg (by rcases hc with h | h <;> simp [h])]
  rfl

/-- The CAL_DONE that ends the calibration of a downstream port of a DX-D (R78). -/
theorem requestReceive_calDone (p : Nat) (h : LinkHdr) (f : ProbeF) (t2 : Nat) (s : State)
    (he : portExists .dxd s p = true) (hp : p < 192) (h4 : (s.port .dxd p).st = 4) (hr : f.reply = false)
    (hc : f.calDone = true) : requestReceive .dxd p h f t2 s = portUp .dxd p (requestTaken .dxd p h f t2 s) := by
  have hpair : isPair .dxd s p = false := by
    simp only [isPair, decide_eq_false_iff_not]
    omega
  have horig : isOriginator .dxd p = false := by simp [isOriginator, hp]
  unfold requestReceive
  dsimp only
  rw [if_neg (by simp [he, Port.live, h4, hr]), if_pos (by simp [hc, h4]), if_neg (by simp [hpair]),
    if_neg (by simp [horig])]
  rfl

theorem port_requestTaken (d : Dev) (p : Nat) (h : LinkHdr) (f : ProbeF) (t2 : Nat) (s : State) :
    ∃ r, (requestTaken d p h f t2 s).port d p = { s.port d p with
      tr := if sofStamped d p s then { (s.port d p).tr with toAnswer := (s.port d p).tr.toAnswer ++ [(f, t2)] }
        else (s.port d p).tr,
      applied := if isOriginator d p = true ∨ 0xFF00 ≤ f.id then (s.port d p).applied else f.result,
      rel := r } := by
  obtain ⟨r, hr⟩ := port_takeLink d p h s
  refine ⟨r, ?_⟩
  unfold requestTaken
  dsimp only
  by_cases hs : sofStamped d p s = true <;> by_cases ho : isOriginator d p = true ∨ 0xFF00 ≤ f.id <;> simp [hs, ho, hr]

theorem otherPorts_requestTaken (d : Dev) (p : Nat) (h : LinkHdr) (f : ProbeF) (t2 : Nat) (s : State) :
    OtherPorts d p s (requestTaken d p h f t2 s) := by
  intro q hq
  have h0 := otherPorts_takeLink d p h s q hq
  unfold requestTaken
  dsimp only
  (repeat' split) <;> simp [port_modPort_ne d p q _ _ hq, h0]

theorem only_requestTaken (d : Dev) (p : Nat) (h : LinkHdr) (f : ProbeF) (t2 : Nat) (s : State) :
    Only [.com d .ports] s (requestTaken d p h f t2 s) := by
  have h0 : Only [.com d .ports] s (takeLink d p h s) := only_modPort d p _ s
  unfold requestTaken
  dsimp only
  split <;> split
  · exact h0.trans (only_modPort d p _ _)
  · exact h0
  · exact (h0.trans (only_modPort d p _ _)).trans (only_modPort d p _ _)
  · exact h0.trans (only_modPort d p _ _)

/-- A reply in time gives its port one delay pair (R79). -/
def replyTaken (x : ProbeOut) (r : Int × Int) (q : Port) : Port :=
  { q with tr := { q.tr with
      probes := q.tr.probes.filter (fun y => !(y == x)), downs := q.tr.downs ++ [r.1], ups := q.tr.ups ++ [r.2] } }

theorem replyReceive_in_time (d : Dev) (p : Nat) (h : LinkHdr) (f : ProbeF) (t4 : Nat) (x : ProbeOut) (s : State)
    (he : portExists d s p = true) (hl : (s.port d p).live = true) (hr : f.reply = true) (hs : sofStamped d p s = true)
    (hx : (s.port d p).tr.probes.find? (fun x => x.id == f.id && decide ((s.com d).up ≤ x.at_ + 16384)) = some x) :
    replyReceive d p h f t4 s =
      modPort d p (replyTaken x (delaysOf (s.port d p).alpha x.t1 t4 f.turnaround)) (takeLink d p h s) := by
  unfold replyReceive
  dsimp only
  rw [if_neg (by simp [he, hl, hr]), hx]
  dsimp only
  rw [if_neg (by simp [hs])]
  rfl

/-! The end of a calibration (R78). -/

/-- The delays that the results of a calibration give. -/
def calibrated (q : Port) : Port :=
  { q with
    applied := u32Of (meanTrunc q.tr.downs), appliedUp := u32Of (meanTrunc q.tr.ups),
    tr := { q.tr with calDoneSent := true } }

theorem calComplete_due (d : Dev) (p : Nat) (s : State) (he : portExists d s p = true) (ho : isOriginator d p = true)
    (h4 : (s.port d p).st = 4) (hn : 64 ≤ (s.port d p).tr.downs.length) (hs : (s.port d p).tr.calDoneSent = false)
    (ht : (s.port d p).tr.lastReq + 2048 ≤ (s.com d).up) : calComplete d p s =
      let s2 := queueRequest d p true (modPort d p calibrated s)
      if isPair d s p = true ∧ (s.port d p).tr.calDoneRcvd = false then s2 else portUp d p s2 := by
  unfold calComplete
  dsimp only
  rw [if_pos ⟨he, ho, h4, hn, by simp [hs], ht⟩]
  simp only [Bool.not_eq_true']
  rfl

theorem calFail_due (d : Dev) (p : Nat) (s : State) (he : portExists d s p = true) (ho : isOriginator d p = true)
    (h4 : (s.port d p).st = 4) (hq : 256 ≤ (s.port d p).tr.requests) (hn : (s.port d p).tr.downs.length < 64) :
    calFail d p s = portDown d p 7 s := if_pos ⟨he, ho, h4, hq, hn⟩

/-! The move of a delay (R81, R392). -/

/-- A port after a second with these results: a full second moves its delays toward the means. -/
def delaysMoved (sec : Nat) (full far : Bool) (q : Port) : Port :=
  { q with
    mean := u32Of (meanTrunc q.tr.downs),
    applied := if full then moveApplied q.applied (meanTrunc q.tr.downs) else q.applied,
    appliedUp := if full then moveApplied q.appliedUp (meanTrunc q.tr.ups) else q.appliedUp,
    tr := { q.tr with downs := [], ups := [], lastSec := sec, excursion := far } }

/-- What a second with results leaves of its port and of the attic's link record. -/
theorem delayUpdate_moved (d : Dev) (p : Nat) (s : State) (he : portExists d s p = true) (ho : isOriginator d p = true)
    (h5 : (s.port d p).st = 5) (hsec : (s.port d p).tr.lastSec ≠ (s.com d).tk.sec)
    (hn : 0 < (s.port d p).tr.downs.length) :
    (∃ far ev, (delayUpdate d p s).port d p =
      { delaysMoved (s.com d).tk.sec (decide (1024 ≤ (s.port d p).tr.downs.length)) far (s.port d p) with event := ev }) ∧
      (d = .dxd → tabGet none (delayUpdate d p s).x.at_.links p =
        some ((s.port d p).alpha, ((delayUpdate d p s).port d p).applied, (s.com d).tk.sec)) ∧
      OtherPorts d p s (delayUpdate d p s) := by
  have hne : (s.port d p).tr.downs.isEmpty = false := by
    cases h : (s.port d p).tr.downs <;> simp_all
  unfold delayUpdate
  dsimp only
  rw [if_neg (by simp [he, ho, h5, hsec]), if_neg (by simp [hne])]
  generalize decide (10 * 65536 < _ * 1000) = far
  generalize hs1 : modPort d p _ s = s1
  generalize hs2 : (if d = .dxd then modAt _ s1 else s1) = s2
  have hport : ∀ q, s2.port d q = s1.port d q := fun q => by
    rw [← hs2]
    split <;> rfl
  have hp : s2.port d p =
      delaysMoved (s.com d).tk.sec (decide (1024 ≤ (s.port d p).tr.downs.length)) far (s.port d p) := by
    rw [hport, ← hs1, port_modPort_same]
    rfl
  have hother : OtherPorts d p s s2 := fun q hq => by rw [hport, ← hs1, port_modPort_ne d p q _ s hq]
  have hlink : d = .dxd → tabGet none s2.x.at_.links p =
      some ((s.port d p).alpha, (s2.port d p).applied, (s.com d).tk.sec) := fun hd => by
    rw [hp, ← hs2, if_pos hd]
    simp [delaysMoved]
  split
  · refine ⟨⟨far, _, by rw [port_portEvent_same, hp]⟩, fun hd => ?_, hother.trans (otherPorts_portEvent d p 6 s2)⟩
    rw [port_portEvent_same, portEvent_x]
    exact hlink hd
  · exact ⟨⟨far, _, hp⟩, hlink, hother⟩

theorem only_delayUpdate (d : Dev) (p : Nat) (s : State) :
    Only (pick d [.com .tsu .ports, .com .tsu .pgEvent, .com .tsu .ic] [.com .dxd .ports, .com .dxd .pgEvent, .com .dxd .ic,
      .attic]) s (delayUpdate d p s) := by
  cases d
  · apply delayUpdate_tsu_blank <;> decide
  · apply delayUpdate_dxd_blank <;> decide

/-- Settles O13: each command by its branch, and what that leaves of its port. -/
theorem portDelays : Obligations.PortDelays := by
  unfold Obligations.PortDelays
  refine ⟨?send, ?request, ?calDone, ?reply, ?timeout, ?complete, ?fail, ?move, ?short⟩
  case send =>
    rintro d p q s rfl he ho hdue
    refine ⟨_, rfl, ?_⟩
    rw [requestSend_due d p s he ho hdue, port_queueRequest]
    exact ⟨rfl, rfl, rfl, rfl, rfl, rfl, otherPorts_queueRequest d p false s, only_queueRequest d p false s⟩
  case request =>
    intro d p h f t2 s he hl hr hs hc
    refine ⟨_, rfl, ?_⟩
    rw [requestReceive_taken d p h f t2 s he hl hr hc]
    obtain ⟨r, hp⟩ := port_requestTaken d p h f t2 s
    rw [if_pos hs] at hp
    exact ⟨by rw [hp], by rw [hp], by rw [hp], otherPorts_requestTaken d p h f t2 s, only_requestTaken d p h f t2 s⟩
  case calDone =>
    intro p h f t2 s he hp h4 hr hc
    refine ⟨_, rfl, ?_, ?_, ?_, by apply requestReceive_dxd_blank <;> decide⟩ <;>
      rw [requestReceive_calDone p h f t2 s he hp h4 hr hc] <;>
      obtain ⟨⟨r, fw, hup⟩, hother⟩ := portUp_port .dxd p (requestTaken .dxd p h f t2 s)
    · rw [hup]
      rfl
    · rw [hup]
      exact bit_or_bitW _ 0 (by decide)
    · exact (otherPorts_requestTaken .dxd p h f t2 s).trans hother
  case reply =>
    intro d p h f t4 x s he hl hr hs hx
    refine ⟨_, rfl, ?_⟩
    rw [replyReceive_in_time d p h f t4 x s he hl hr hs hx, port_modPort_same]
    obtain ⟨r, hp⟩ := port_takeLink d p h s
    rw [hp]
    exact ⟨rfl, rfl, rfl, rfl, (otherPorts_takeLink d p h s).trans (otherPorts_modPort d p _ _),
      (only_modPort d p _ s).trans (only_modPort d p _ _)⟩
  case timeout =>
    intro d p s he
    refine ⟨_, rfl, ?_⟩
    rw [probeTimeout, if_pos he, port_modPort_same]
    exact ⟨rfl, rfl, rfl, otherPorts_modPort d p _ s, only_modPort d p _ s⟩
  case complete =>
    intro d p s he ho h4 hn hs ht
    have hframe : Only (pick d [.com .tsu .boot, .com .tsu .ports, .com .tsu .pgEvent, .com .tsu .ic]
        [.com .dxd .boot, .com .dxd .ports, .com .dxd .pgEvent, .com .dxd .ic, .referee]) s (calComplete d p s) := by
      cases d
      · apply calComplete_tsu_blank <;> decide
      · apply calComplete_dxd_blank <;> decide
    refine ⟨_, rfl, ?_⟩
    rw [calComplete_due d p s he ho h4 hn hs ht] at hframe ⊢
    have hq := port_queueRequest d p true (modPort d p calibrated s)
    rw [port_modPort_same] at hq
    have hother := (otherPorts_modPort d p calibrated s).trans (otherPorts_queueRequest d p true _)
    dsimp only at hframe ⊢
    split at hframe
    · rename_i hpair
      rw [if_pos hpair, if_pos hpair, hq]
      exact ⟨rfl, rfl, rfl, h4, hother, hframe⟩
    · rename_i hpair
      obtain ⟨⟨r, fw, hup⟩, hothers⟩ := portUp_port d p (queueRequest d p true (modPort d p calibrated s))
      rw [hq] at hup
      rw [if_neg hpair, if_neg hpair, hup]
      exact ⟨rfl, rfl, rfl, rfl, hother.trans hothers, hframe⟩
  case fail =>
    intro d p s he ho h4 hq hn
    have h2 : 2 ≤ (s.port d p).st := by omega
    refine ⟨_, rfl, ?_⟩
    rw [calFail_due d p s he ho h4 hq hn]
    obtain ⟨r, hr⟩ := port_portDown d p 7 s h2
    rw [if_pos (by simp [Port.live, h4])] at hr
    refine ⟨by rw [hr]; rfl, by rw [hr]; rfl, ?_, otherPorts_portDown d p 7 s h2 (by decide),
      only_portDown d p 7 s h2 (by decide)⟩
    rw [hr]
    exact bit_or_bitW _ 1 (by decide)
  case move =>
    intro d p s he ho h5 hsec hn
    obtain ⟨⟨far, ev, hp⟩, hlink, hother⟩ := delayUpdate_moved d p s he ho h5 hsec (by omega)
    rw [decide_eq_true hn] at hp
    exact ⟨_, rfl, by rw [hp]; rfl, by rw [hp]; rfl, by rw [hp]; rfl, by rw [hp]; rfl, by rw [hp]; rfl, hlink, hother,
      only_delayUpdate d p s⟩
  case short =>
    intro d p s he ho h5 hsec hpos hn
    obtain ⟨⟨far, ev, hp⟩, -, hother⟩ := delayUpdate_moved d p s he ho h5 hsec hpos
    rw [decide_eq_false (by omega)] at hp
    exact ⟨_, rfl, by rw [hp]; rfl, by rw [hp]; rfl, by rw [hp]; rfl, by rw [hp]; rfl, hother, only_delayUpdate d p s⟩

end Sys2Proof.Machine
end

section
/-!
PROOFS. What waits to leave on the ports of a DX-D, and what an accepted frame leaves of its state (R27, R74, R84).
-/

namespace Sys2Proof.Machine

/-! Lists changed in their first match. -/

theorem any_listModify_same {α : Type} {p q : α → Bool} {f : α → α} {l : List α} (h : l.any p = true)
    (hf : ∀ a, q (f a) = true) : (listModify p f l).any q = true := by
  induction l with
  | nil => simp at h
  | cons a l ih =>
    unfold listModify
    by_cases ha : p a = true
    · rw [if_pos ha, List.any_cons, hf, Bool.true_or]
    · rw [if_neg ha, List.any_cons, ih (by simpa [ha] using h), Bool.or_true]

/-- A test that the change does not touch. -/
theorem any_listModify {α : Type} {p q : α → Bool} {f : α → α} (l : List α) (hf : ∀ a, p a = true → q (f a) = q a) :
    (listModify p f l).any q = l.any q := by
  induction l with
  | nil => rfl
  | cons a l ih =>
    unfold listModify
    by_cases ha : p a = true
    · rw [if_pos ha, List.any_cons, List.any_cons, hf a ha]
    · rw [if_neg ha, List.any_cons, List.any_cons, ih]

/-- What a change of the matches leaves of the others. -/
theorem any_listModify_keeps {α : Type} {p q : α → Bool} {f : α → α} {l : List α} (h : l.any q = true)
    (hf : ∀ a, p a = true → q a = false) : (listModify p f l).any q = true := by
  induction l with
  | nil => simp at h
  | cons a l ih =>
    unfold listModify
    by_cases ha : p a = true
    · rw [if_pos ha, List.any_cons, Bool.or_eq_true]
      rw [List.any_cons, hf a ha, Bool.false_or] at h
      exact .inr h
    · rw [if_neg ha, List.any_cons, Bool.or_eq_true]
      rw [List.any_cons, Bool.or_eq_true] at h
      exact h.imp_right ih

theorem find?_listModify_same {α : Type} {p : α → Bool} {f : α → α} (l : List α) (hf : ∀ a, p a = true → p (f a) = true) :
    (listModify p f l).find? p = (l.find? p).map f := by
  induction l with
  | nil => rfl
  | cons a l ih =>
    unfold listModify
    by_cases ha : p a = true
    · rw [if_pos ha, List.find?_cons_of_pos (hf a ha), List.find?_cons_of_pos ha, Option.map_some]
    · rw [if_neg ha, List.find?_cons_of_neg ha, List.find?_cons_of_neg ha, ih]

theorem find?_listModify_ne {α : Type} {p q : α → Bool} {f : α → α} (l : List α)
    (hf : ∀ a, p a = true → q a = false ∧ q (f a) = false) : (listModify p f l).find? q = l.find? q := by
  induction l with
  | nil => rfl
  | cons a l ih =>
    unfold listModify
    by_cases ha : p a = true
    · obtain ⟨h1, h2⟩ := hf a ha
      rw [if_pos ha, List.find?_cons_of_neg (by simp [h2]), List.find?_cons_of_neg (by simp [h1])]
    · rw [if_neg ha, List.find?_cons, List.find?_cons, ih]

theorem map_listModify {α β : Type} {p : α → Bool} {f : α → α} {g : α → β} (l : List α)
    (hf : ∀ a, p a = true → g (f a) = g a) : (listModify p f l).map g = l.map g := by
  induction l with
  | nil => rfl
  | cons a l ih =>
    unfold listModify
    by_cases ha : p a = true
    · rw [if_pos ha, List.map_cons, List.map_cons, hf a ha]
    · rw [if_neg ha, List.map_cons, List.map_cons, ih]

/-! Frames that wait to leave. -/

theorem pullCtl_all (lane : Bool) (r : Reliable) :
    (pullCtl lane r).ctl ++ (pullCtl lane r).ctlWait = r.ctl ++ r.ctlWait := by
  simp [pullCtl, List.take_append_drop]

/-- The frame waits among what a port has to send. -/
def Reliable.holds (r : Reliable) (f : Frame) : Prop :=
  (r.ctl ++ r.ctlWait).any (fun e => e.f == f) = true ∨ r.bulk.any (fun e => e.f == f) = true ∨ f ∈ r.lq

theorem queued_iff (d : Dev) (p : Nat) (f : Frame) (s : State) : Queued d p f s ↔ (s.port d p).rel.holds f := Iff.rfl

/-- A frame that is queued waits to leave (R74, R84). -/
theorem queued_enqueue (d : Dev) (p : Nat) (src : Option Nat) (f : Frame) (s : State)
    (hc : payloadCls f.payload = .control ∨ payloadCls f.payload = .bulk) : Queued d p f (enqueue d p src f s) := by
  rw [queued_iff, enqueue, port_modPort_same]
  rcases hc with hc | hc <;> simp only [hc]
  · refine .inl ?_
    split_ifs with h1 h2
    · simp only [List.any_append, Bool.or_eq_true]
      exact .inl (any_listModify_same h1 fun _ => beq_self_eq_true f)
    · simp only [List.any_append, Bool.or_eq_true]
      exact .inr (any_listModify_same h2 fun _ => beq_self_eq_true f)
    · rw [pullCtl_all]
      simp
  · exact .inr (.inl (by simp))

/-- A frame that waits goes on waiting while others are queued, but for an entry of the same identity (R74). -/
theorem queued_enqueue_of (d : Dev) (p q : Nat) (src : Option Nat) (f g : Frame) (s : State) (h : Queued d q g s)
    (hg : sameCensusUp g f = false) : Queued d q g (enqueue d p src f s) := by
  by_cases hq : q = p
  · subst hq
    have hne : ∀ e : QFrame, sameCensusUp e.f f = true → (e.f == g) = false := fun e he => by
      refine beq_false_of_ne fun hef => ?_
      rw [hef, hg] at he
      exact absurd he (by decide)
    rw [queued_iff, enqueue, port_modPort_same]
    dsimp only
    split
    · split_ifs with h1 h2
      · refine h.imp_left fun hc => ?_
        rw [List.any_append, Bool.or_eq_true] at hc ⊢
        exact hc.imp_left fun hc => any_listModify_keeps hc hne
      · refine h.imp_left fun hc => ?_
        rw [List.any_append, Bool.or_eq_true] at hc ⊢
        exact hc.imp_right fun hc => any_listModify_keeps hc hne
      · refine h.imp_left fun hc => ?_
        rw [pullCtl_all, ← List.append_assoc, List.any_append, hc, Bool.true_or]
    · refine h.imp_right (Or.imp_left fun hb => ?_)
      rw [List.any_append, hb, Bool.true_or]
    · exact h.imp_right (Or.imp_right fun hl => List.mem_append_left _ hl)
    · exact h
  · rw [Queued, enqueue, port_modPort_ne _ _ _ _ _ hq]
    exact h

theorem queued_enqueueAll_of (d : Dev) (ps : List Nat) (q : Nat) (src : Option Nat) (f g : Frame) (s : State)
    (h : Queued d q g s) (hg : sameCensusUp g f = false) : Queued d q g (enqueueAll d ps src f s) :=
  foldl_keeps (Queued d q g) (fun u p _ hu => queued_enqueue_of d p q src f g u hu hg) h

/-- A frame that is queued on several ports waits on each. -/
theorem queued_enqueueAll (d : Dev) (ps : List Nat) (src : Option Nat) (f : Frame) (s : State)
    (hc : payloadCls f.payload = .control ∨ payloadCls f.payload = .bulk) (hs : sameCensusUp f f = false) (q : Nat)
    (hq : q ∈ ps) : Queued d q f (enqueueAll d ps src f s) := by
  induction ps generalizing s with
  | nil => simp at hq
  | cons p ps ih =>
    rcases List.mem_cons.mp hq with rfl | hq
    · exact queued_enqueueAll_of d ps q src f f _ (queued_enqueue d q src f s hc) hs
    · exact ih (enqueue d p src f s) hq

theorem queued_sendTwin_of (q : Nat) (f g : Frame) (s : State) (h : Queued .dxd q g s) (hg : sameCensusUp g f = false) :
    Queued .dxd q g (sendTwin f s) := by
  unfold sendTwin
  split
  · exact queued_enqueue_of _ _ _ _ _ _ _ h hg
  · exact h

/-! Queries that read the ports' states. -/

section
variable {s t : State} (hl : LinksKept .dxd s t)
include hl

theorem LinksKept.st (p : Nat) : (t.port .dxd p).st = (s.port .dxd p).st := by
  obtain ⟨r, hr⟩ := hl p
  rw [hr]

theorem LinksKept.upPort (hx : t.x.straps = s.x.straps) : upPort t = upPort s := by
  have htwin : twinPort t = twinPort s := by rw [twinPort, hx, twinPort]
  have hparent : parentPort t = parentPort s := by rw [parentPort, hx, parentPort]
  simp only [Machine.upPort, htwin, hparent, hx, hl.st]

theorem LinksKept.dnPorts (hx : t.x.cs.served = s.x.cs.served) (ep : Nat) : dnPorts t ep = dnPorts s ep := by
  simp only [Machine.dnPorts, epochPorts, hx, hl.st]

end

/-! What an accepted frame leaves of the state. -/

/-- The state after a frame of a DX-D's port is accepted. -/
def frameTaken (p : Nat) (h : LinkHdr) (s : State) : State := acceptSeq .dxd p h.seq (takeLink .dxd p h s)

@[simp] theorem frameTaken_x (p : Nat) (h : LinkHdr) (s : State) : (frameTaken p h s).x = s.x := by simp [frameTaken]
@[simp] theorem frameTaken_up (p : Nat) (h : LinkHdr) (s : State) : (frameTaken p h s).dc.up = s.dc.up := rfl
@[simp] theorem frameTaken_tk (p : Nat) (h : LinkHdr) (s : State) : (frameTaken p h s).dc.tk = s.dc.tk := rfl
@[simp] theorem frameTaken_seen (p : Nat) (h : LinkHdr) (s : State) : (frameTaken p h s).dc.seen = s.dc.seen := rfl

theorem otherPorts_frameTaken (p : Nat) (h : LinkHdr) (s : State) : OtherPorts .dxd p s (frameTaken p h s) :=
  (otherPorts_takeLink .dxd p h s).trans (otherPorts_modPort .dxd p _ _)

theorem only_frameTaken (p : Nat) (h : LinkHdr) (s : State) : Only [.com .dxd .ports] s (frameTaken p h s) :=
  (only_modPort .dxd p _ s).trans (only_modPort .dxd p _ _)

theorem linksKept_modRel (d : Dev) (p : Nat) (g : Port → Reliable) (s : State) :
    LinksKept d s (modPort d p (fun q => { q with rel := g q }) s) := by
  intro q
  by_cases hq : q = p
  · subst hq
    exact ⟨_, port_modPort_same d q _ s⟩
  · exact ⟨(s.port d q).rel, by rw [port_modPort_ne d p q _ s hq]⟩

theorem linksKept_frameTaken (p : Nat) (h : LinkHdr) (s : State) : LinksKept .dxd s (frameTaken p h s) :=
  (linksKept_modRel .dxd p _ s).trans (linksKept_modRel .dxd p _ _)

theorem unseen_congr {d : Dev} {i : SeenId} {s t : State} (h : Unseen d i s) (hs : (t.com d).seen = (s.com d).seen)
    (hu : (t.com d).up = (s.com d).up) : Unseen d i t := by
  rw [Unseen, hs, hu]
  exact h

end Sys2Proof.Machine
end

section
/-!
PROOFS. Census slots: what opening one, an entry and a resolution leave in them (R74, R233, R237, R245).
-/

namespace Sys2Proof.Machine

/-! Slots. -/

/-- The slot of an identity that no entry has reached. -/
def freshCensus (i : CensusId) : Census := ⟨i, [], [], [], false, false⟩

theorem census_congr {i : CensusId} {s t : State} (h : t.x.cs = s.x.cs) : t.census i = s.census i := by
  rw [State.census, h, State.census]

theorem census_id {i : CensusId} {c : Census} {s : State} (h : s.census i = some c) : c.id = i := by
  simpa using List.find?_some h

theorem census_modCensus_same (i : CensusId) (f : Census → Census) (s : State) (hf : ∀ c, (f c).id = c.id) :
    (modCensus i f s).census i = (s.census i).map f :=
  find?_listModify_same _ fun c hc => by rwa [hf]

theorem census_modCensus_ne (i j : CensusId) (f : Census → Census) (s : State) (hf : ∀ c, (f c).id = c.id) (h : j ≠ i) :
    (modCensus i f s).census j = s.census j := by
  refine find?_listModify_ne _ fun c hc => ?_
  have hne : (c.id == j) = false := beq_false_of_ne fun hj => h (hj.symm.trans (beq_iff_eq.mp hc))
  exact ⟨hne, by rwa [hf]⟩

theorem openCensus_new (i : CensusId) (s : State) (h : s.census i = none) :
    openCensus i s = modCs (fun c => { c with
      open_ := c.open_ ++ [freshCensus i], peak := max c.peak (c.open_.length + 1) }) s := by
  rw [openCensus, h, if_neg (by simp)]
  rfl

theorem openCensus_open (i : CensusId) (c : Census) (s : State) (h : s.census i = some c) : openCensus i s = s := by
  rw [openCensus, h, if_pos Option.isSome_some]

theorem census_openCensus_same (i : CensusId) (s : State) :
    (openCensus i s).census i = some ((s.census i).getD (freshCensus i)) := by
  cases h : s.census i with
  | some c => rw [openCensus_open i c s h, h, Option.getD_some]
  | none =>
    rw [openCensus_new i s h, Option.getD_none]
    rw [State.census] at h
    simp [State.census, List.find?_append, h, freshCensus]

theorem census_openCensus_ne (i j : CensusId) (s : State) (hj : j ≠ i) : (openCensus i s).census j = s.census j := by
  cases h : s.census i with
  | some c => rw [openCensus_open i c s h]
  | none =>
    have hfresh : ¬((freshCensus i).id == j) = true := fun hi => hj (beq_iff_eq.mp hi).symm
    rw [openCensus_new i s h, State.census, modCs_x, List.find?_append, List.find?_singleton, if_neg hfresh,
      Option.or_none, State.census]

/-- A test of a fresh slot that fails is not met by opening one. -/
theorem any_openCensus (i : CensusId) (q : Census → Bool) (s : State) (hq : q (freshCensus i) = false) :
    (openCensus i s).x.cs.open_.any q = s.x.cs.open_.any q := by
  cases h : s.census i with
  | some c => rw [openCensus_open i c s h]
  | none => rw [openCensus_new i s h]; simp [hq]

theorem census_freeCensus (i : CensusId) (s : State) : (freeCensus (fun c => c.id == i) s).census i = none := by
  simp [freeCensus, State.census]

/-! An entry. -/

/-- The slot of an identity after a child's entry. -/
def slotAfter (i : CensusId) (e : Entry) (s : State) : Census :=
  { (s.census i).getD (freshCensus i) with entries := withEntry i e s }

/-- The state after an accepted entry. -/
def entryTaken (p : Nat) (h : LinkHdr) (i : CensusId) (e : Entry) (s : State) : State :=
  putEntry i e (openCensus i (frameTaken p h s))

/-- An entry changes the slots in use and their peak alone. -/
theorem openCensus_x (i : CensusId) (s : State) :
    ∃ l n, (openCensus i s).x = { s.x with cs := { s.x.cs with open_ := l, peak := n } } := by
  unfold openCensus
  split
  · exact ⟨_, _, rfl⟩
  · exact ⟨_, _, rfl⟩

theorem entryTaken_x (p : Nat) (h : LinkHdr) (i : CensusId) (e : Entry) (s : State) :
    ∃ l n, (entryTaken p h i e s).x = { s.x with cs := { s.x.cs with open_ := l, peak := n } } := by
  obtain ⟨l, n, hx⟩ := openCensus_x i (frameTaken p h s)
  refine ⟨listModify (fun x => x.id == i) (fun c => { c with entries := (c.entries.filter (fun x => x.port != e.port)) ++ [e] })
    l, n, ?_⟩
  rw [entryTaken, putEntry, modCensus, modCs_x, hx, frameTaken_x]

theorem openCensus_dc (i : CensusId) (s : State) : (openCensus i s).dc = s.dc := by
  unfold openCensus
  split <;> rfl

theorem entryTaken_dc (p : Nat) (h : LinkHdr) (i : CensusId) (e : Entry) (s : State) :
    (entryTaken p h i e s).dc = (frameTaken p h s).dc := by
  rw [entryTaken, putEntry, modCensus, modCs_dc, openCensus_dc]

section
variable (p : Nat) (h : LinkHdr) (i : CensusId) (e : Entry) (s : State)

@[simp] theorem entryTaken_straps : (entryTaken p h i e s).x.straps = s.x.straps := by
  obtain ⟨l, n, hx⟩ := entryTaken_x p h i e s
  rw [hx]

@[simp] theorem entryTaken_referee : (entryTaken p h i e s).x.rf2 = s.x.rf2 := by
  obtain ⟨l, n, hx⟩ := entryTaken_x p h i e s
  rw [hx]

@[simp] theorem entryTaken_ledger : (entryTaken p h i e s).x.lg = s.x.lg := by
  obtain ⟨l, n, hx⟩ := entryTaken_x p h i e s
  rw [hx]

@[simp] theorem entryTaken_served : (entryTaken p h i e s).x.cs.served = s.x.cs.served := by
  obtain ⟨l, n, hx⟩ := entryTaken_x p h i e s
  rw [hx]

@[simp] theorem entryTaken_credits : (entryTaken p h i e s).x.cs.credits = s.x.cs.credits := by
  obtain ⟨l, n, hx⟩ := entryTaken_x p h i e s
  rw [hx]

@[simp] theorem entryTaken_early : (entryTaken p h i e s).x.cs.early = s.x.cs.early := by
  obtain ⟨l, n, hx⟩ := entryTaken_x p h i e s
  rw [hx]

@[simp] theorem entryTaken_tk : (entryTaken p h i e s).dc.tk = s.dc.tk := by
  rw [entryTaken_dc, frameTaken_tk]

theorem linksKept_entryTaken : LinksKept .dxd s (entryTaken p h i e s) :=
  (linksKept_frameTaken p h s).trans (linksKept_of_ports_eq (by rw [com_dxd, com_dxd, entryTaken_dc]))

theorem otherPorts_entryTaken : OtherPorts .dxd p s (entryTaken p h i e s) :=
  (otherPorts_frameTaken p h s).trans (otherPorts_of_ports_eq p (by rw [com_dxd, com_dxd, entryTaken_dc]))

theorem only_entryTaken : Only [.com .dxd .ports, .census] s (entryTaken p h i e s) := by
  refine Only.trans ((only_frameTaken p h s).mono (by decide)) ?_
  simp [entryTaken, Only]

@[simp] theorem upPort_entryTaken : upPort (entryTaken p h i e s) = upPort s :=
  (linksKept_entryTaken p h i e s).upPort (by simp)

@[simp] theorem dnPorts_entryTaken (ep : Nat) : dnPorts (entryTaken p h i e s) ep = dnPorts s ep :=
  (linksKept_entryTaken p h i e s).dnPorts (by simp) ep

@[simp] theorem rootActs_entryTaken : rootActs (entryTaken p h i e s) = rootActs s := by
  simp [rootActs]

@[simp] theorem groupOf_entryTaken (ep g : Nat) : groupOf (entryTaken p h i e s) ep g = groupOf s ep g := by
  simp [groupOf, State.served]

@[simp] theorem rstep_entryTaken (ep step attempt : Nat) :
    (entryTaken p h i e s).rstep ep step attempt = s.rstep ep step attempt := by
  simp [State.rstep]

theorem unseen_entryTaken {k : SeenId} (hk : Unseen .dxd k s) : Unseen .dxd k (entryTaken p h i e s) :=
  unseen_congr hk (by rw [com_dxd, com_dxd, entryTaken_dc, frameTaken_seen])
    (by rw [com_dxd, com_dxd, entryTaken_dc, frameTaken_up])

theorem census_frameTaken (j : CensusId) : (frameTaken p h s).census j = s.census j :=
  census_congr (by rw [frameTaken_x])

theorem census_entryTaken_same : (entryTaken p h i e s).census i = some (slotAfter i e s) := by
  rw [entryTaken, putEntry, census_modCensus_same i _ _ (fun _ => by rfl), census_openCensus_same, census_frameTaken,
    Option.map_some]
  cases hc : s.census i <;> simp [slotAfter, withEntry, entriesOf, hc, freshCensus]

theorem census_entryTaken_ne (j : CensusId) (hj : j ≠ i) : (entryTaken p h i e s).census j = s.census j := by
  rw [entryTaken, putEntry, census_modCensus_ne i j _ _ (fun _ => by rfl) hj, census_openCensus_ne _ _ _ hj, census_frameTaken]

/-- What a test of the waiting slots reads is not touched by an entry. -/
theorem any_entryTaken (q : Census → Bool) (hfresh : q (freshCensus i) = false)
    (hq : ∀ c l, q { c with entries := l } = q c) :
    (entryTaken p h i e s).x.cs.open_.any q = s.x.cs.open_.any q := by
  have hput : (entryTaken p h i e s).x.cs.open_.any q = (openCensus i (frameTaken p h s)).x.cs.open_.any q :=
    any_listModify _ fun c _ => hq c _
  rw [hput, any_openCensus i q _ hfresh, frameTaken_x]

end

@[simp] theorem slotAfter_id (i : CensusId) (e : Entry) (s : State) : (slotAfter i e s).id = i := by
  cases h : s.census i with
  | none => simp [slotAfter, h, freshCensus]
  | some c => simpa [slotAfter, h] using census_id h

theorem slotAfter_total (i : CensusId) (e : Entry) (s : State) :
    (slotAfter i e s).total = (censusWith i (withEntry i e s)).total := rfl

theorem slotAfter_reference (i : CensusId) (e : Entry) (s : State) :
    (slotAfter i e s).reference = (censusWith i (withEntry i e s)).reference := rfl

theorem slotAfter_sent {i : CensusId} {e : Entry} {s : State} (h : (s.census i).map (·.sent) ≠ some true) :
    (slotAfter i e s).sent = false := by
  cases hc : s.census i with
  | none => simp [slotAfter, hc, freshCensus]
  | some c => simpa [slotAfter, hc] using h

/-! The reports that came before the first entry (R241). -/

theorem takeEarly_none (i : CensusId) (s : State) (h : NoEarly i s) : takeEarly i s = s := by
  have hkeep : s.x.cs.early.filter (fun x => x.1 != i) = s.x.cs.early :=
    List.filter_eq_self.mpr fun x hx => by simpa using h x hx
  have hgone : s.x.cs.early.filter (fun x => x.1 == i) = [] :=
    List.filter_eq_nil_iff.mpr fun x hx => by simpa using h x hx
  have hcs : modCs (fun c => { c with early := c.early.filter (fun x => x.1 != i) }) s = s := by
    rw [modCs, modX, hkeep]
  have hid : ∀ l : List Census, listModify (fun x => x.id == i) (fun c => { c with misfits := c.misfits ++ [] }) l = l := by
    intro l
    induction l with
    | nil => rfl
    | cons c l ih => rw [listModify, ih, List.append_nil, ite_self]
  unfold takeEarly
  split
  · rfl
  · split
    · rfl
    · dsimp only
      rw [hgone, hcs, List.map_nil, List.map_nil, modCensus, modCs, modX, hid]
      split <;> rfl

/-- An accepted entry of an identity whose reports have not come before, at a DX-D that judges no single members. -/
theorem censusUpReceive_entry {p : Nat} {h : LinkHdr} {ep : Nat} {f : CensusUpF} {i : CensusId} {s : State}
    (ha : Accepts .dxd p h ⟨ep, .censusUp f⟩ s) (hk : f.kind < 3) (hr : f.kind = 2 → s.x.straps.role ≠ 0)
    (hi : i = ⟨f.kind, f.slot, f.step, f.attempt, ep⟩) (hn : NoEarly i s) :
    censusUpReceive p h ep f s = completeCensus i (entryTaken p h i ⟨p, f.count, f.fp⟩ s) := by
  have hmember : (f.kind == 2 && (frameTaken p h s).x.straps.role == 0) = false := by
    rw [frameTaken_x, Bool.and_eq_false_imp]
    exact fun h2 => beq_false_of_ne (hr (beq_iff_eq.mp h2))
  rw [censusUpReceive, recvRetained_accepts .dxd p h _ _ s ha, ← frameTaken, censusUpTake, if_neg (by omega), if_pos hk,
    entryReceive, hmember, Bool.false_and]
  dsimp only
  rw [if_neg (by decide), ← hi, ← entryTaken, takeEarly_none]
  simpa [NoEarly] using hn

/-! What completes (R237). -/

theorem censusGroup_huddle (c : Census) (s : State) (h : c.id.kind = 2) :
    censusGroup s c = groupOf s c.id.epoch (fpGroup c.reference) := by
  rw [censusGroup, if_pos h]

theorem censusGroup_step (c : Census) (s : State) (h : c.id.kind < 2) :
    censusGroup s c = (groupOf s c.id.epoch 0).map (fun g => (rootActs s, g.2)) := by
  rw [censusGroup, if_neg (by omega)]

theorem completeCensus_incomplete (i : CensusId) (c : Census) (s : State) (hc : s.census i = some c)
    (hg : ∀ g, censusGroup s c = some g → g.2 = 0 ∨ c.total < g.2) : completeCensus i s = s := by
  rw [completeCensus, hc]
  dsimp only
  split
  · rfl
  · next lca n hgn => rw [if_pos (hg _ hgn)]

/-- A complete census is resolved here or goes up; the misfits of a huddle are judged first. -/
def completed (i : CensusId) (lca : Bool) (c : Census) (s : State) : State :=
  let s1 := if i.kind = 2 then judgeAll i s else s
  if !lca then sendSubtree i c s1
  else if i.kind = 0 then resolveArm i c.total s1
  else if i.kind = 1 then resolveDone i c.total s1
  else resolveHuddle i c.total s1

theorem completeCensus_complete (i : CensusId) (c : Census) (g : Bool × Nat) (s : State) (hc : s.census i = some c)
    (hg : censusGroup s c = some g) (h0 : g.2 ≠ 0) (hn : g.2 ≤ c.total) : completeCensus i s = completed i g.1 c s := by
  rw [completeCensus, hc]
  dsimp only
  rw [hg]
  dsimp only
  rw [if_neg (by omega)]
  rfl

end Sys2Proof.Machine
end

section
/-!
PROOFS. What a complete census does: it goes up, is resolved, or has its misfits judged (R190, R233, R237, R240, R241).
-/

namespace Sys2Proof.Machine

@[simp] theorem enqueue_x (d : Dev) (p : Nat) (src : Option Nat) (f : Frame) (s : State) : (enqueue d p src f s).x = s.x := by
  simp [enqueue]

@[simp] theorem enqueueAll_x (d : Dev) (ps : List Nat) (src : Option Nat) (f : Frame) (s : State) :
    (enqueueAll d ps src f s).x = s.x :=
  foldl_keeps (fun u => u.x = s.x) (fun u p _ hu => (enqueue_x d p src f u).trans hu) rfl

@[simp] theorem sendTwin_x (f : Frame) (s : State) : (sendTwin f s).x = s.x := by
  unfold sendTwin
  split <;> simp

@[simp] theorem sendDown_x (f : Frame) (src : Option Nat) (s : State) : (sendDown f src s).x = s.x := enqueueAll_x ..

/-! A subtree's CENSUS_UP (R240). -/

/-- The slot once its subtree's CENSUS_UP has left. -/
def sentSlot (c : Census) : Census := { c with sent := true, waiting := false }

/-- A huddle waits for a credit, or behind one that waits and goes before it. -/
def waitsForCredit (i : CensusId) (s : State) : Prop :=
  i.kind = 2 ∧ s.x.straps.role ≠ 2 ∧
    (s.x.cs.credits = 0 ∨ s.x.cs.open_.any (fun w => w.waiting && w.id.before i) = true)

theorem sendSubtree_goes (i : CensusId) (c : Census) (s : State) (hc : c.sent = false) (hw : ¬waitsForCredit i s) :
    sendSubtree i c s = enqueue .dxd (upPort s) none (subtreeFrame i c) (modCensus i sentSlot
      (modCs (fun c => { c with credits := if i.kind = 2 then c.credits - 1 else c.credits }) s)) := by
  unfold waitsForCredit at hw
  rw [sendSubtree, if_neg (by simp [hc]), if_neg hw]
  rfl

theorem sendSubtree_waits (i : CensusId) (c : Census) (s : State) (hc : c.sent = false) (hw : waitsForCredit i s) :
    sendSubtree i c s = raiseIf (!s.x.cs.open_.any (·.waiting)) .dxd 0x13 0
      (modCensus i (fun c => { c with waiting := true }) s) := by
  unfold waitsForCredit at hw
  rw [sendSubtree, if_neg (by simp [hc]), if_pos hw]

theorem sendSubtree_sent (i : CensusId) (c : Census) (s : State) (hc : c.sent = false) (hw : ¬waitsForCredit i s) :
    (sendSubtree i c s).census i = (s.census i).map sentSlot ∧
      (sendSubtree i c s).x.cs.credits = (if i.kind = 2 then s.x.cs.credits - 1 else s.x.cs.credits) ∧
      Queued .dxd (upPort s) (subtreeFrame i c) (sendSubtree i c s) := by
  rw [sendSubtree_goes i c s hc hw]
  refine ⟨?_, ?_, queued_enqueue _ _ _ _ _ (.inl rfl)⟩
  · rw [census_congr (congrArg Dxd.cs (enqueue_x ..)), census_modCensus_same i sentSlot _ fun _ => rfl]
    rfl
  · simp [modCensus]

theorem only_sendSubtree_goes (i : CensusId) (c : Census) (s : State) (hc : c.sent = false) (hw : ¬waitsForCredit i s) :
    Only [.com .dxd .ports, .census] s (sendSubtree i c s) := by
  rw [sendSubtree_goes i c s hc hw]
  simp [Only]

theorem raiseIf_x (c : Bool) (d : Dev) (pg b : Nat) (s : State) : (raiseIf c d pg b s).x = s.x := by
  unfold raiseIf
  split <;> simp

theorem pageSt_census (s : State) : pageSt .dxd s 0x13 = .op := by simp [pageSt, pageStDxd]

theorem sendSubtree_waiting (i : CensusId) (c : Census) (s : State) (hc : c.sent = false) (hw : waitsForCredit i s) :
    (sendSubtree i c s).census i = (s.census i).map (fun c => { c with waiting := true }) ∧
      (sendSubtree i c s).x.cs.credits = s.x.cs.credits ∧
      (s.x.cs.open_.any (·.waiting) = false → eventSet .dxd 0x13 0 (sendSubtree i c s)) := by
  rw [sendSubtree_waits i c s hc hw]
  refine ⟨?_, ?_, fun hnone => ?_⟩
  · rw [census_congr (congrArg Dxd.cs (raiseIf_x ..)), census_modCensus_same i _ _ fun _ => by rfl]
  · simp [raiseIf_x, modCensus]
  · rw [hnone, raiseIf, if_pos (by decide)]
    exact eventSet_raise _ _ _ _ ⟨pageSt_census _, by decide⟩ (by decide)

/-! A resolution goes down the tree and to the twin (R237). -/

/-- A resolution that has not been seen waits on every port that leads to members of the epoch. -/
theorem sendResolved_sent (ep : Nat) (f : CensusDnF) (s : State)
    (h : Unseen .dxd (.censusDn ep f.kind f.slot f.step f.attempt f.outcome) s) :
    (sendResolved ep f s).x = s.x ∧
      ∀ q, q ∈ dnPorts s ep → Queued .dxd q ⟨ep, .censusDn f⟩ (sendResolved ep f s) := by
  obtain ⟨l, hl⟩ := bySeen_unseen .dxd (.censusDn ep f.kind f.slot f.step f.attempt f.outcome)
    (fun s => sendTwin ⟨ep, .censusDn f⟩ (sendDown ⟨ep, .censusDn f⟩ none s)) s h
  rw [sendResolved, hl]
  refine ⟨by simp, fun q hq => ?_⟩
  exact queued_sendTwin_of q _ _ _ (queued_enqueueAll .dxd _ none _ _ (.inl rfl) rfl q hq) rfl

theorem census_resolved (i : CensusId) (ep : Nat) (f : CensusDnF) (s : State)
    (h : Unseen .dxd (.censusDn ep f.kind f.slot f.step f.attempt f.outcome) s) (hs : s.census i = none) :
    (sendResolved ep f s).census i = none := by
  rw [census_congr (congrArg Dxd.cs (sendResolved_sent ep f s h).1), hs]

/-! The reference and the misfits (R237, R241). -/

/-- The entry whose fingerprint more members carried, ties to the lowest port. -/
def betterEntry (c : Census) (o : Option Entry) (e : Entry) : Option Entry :=
  match o with
  | none => some e
  | some b => if c.votes b.fp < c.votes e.fp ∨ (c.votes b.fp = c.votes e.fp ∧ e.port < b.port) then some e else o

theorem reference_eq (c : Census) : c.reference = ((c.entries.foldl (betterEntry c) none).map (·.fp)).getD 0 := rfl

/-- The reference is the fingerprint of some entry. -/
theorem reference_mem (c : Census) (h : c.entries ≠ []) : ∃ e ∈ c.entries, c.reference = e.fp := by
  obtain ⟨e, l, hel⟩ := List.exists_cons_of_ne_nil h
  have hbest : ∃ b ∈ c.entries, l.foldl (betterEntry c) (some e) = some b := by
    refine foldl_keeps (fun o => ∃ b ∈ c.entries, o = some b) (fun o x hx ho => ?_) ⟨e, by simp [hel], rfl⟩
    obtain ⟨b, hb, rfl⟩ := ho
    unfold betterEntry
    dsimp only
    split
    · exact ⟨x, by simp [hel, hx], rfl⟩
    · exact ⟨b, hb, rfl⟩
  obtain ⟨b, hb, hfold⟩ := hbest
  refine ⟨b, hb, ?_⟩
  rw [reference_eq, hel, List.foldl_cons, betterEntry, hfold, Option.map_some, Option.getD_some]

theorem withEntry_ne_nil (i : CensusId) (e : Entry) (s : State) : withEntry i e s ≠ [] := by simp [withEntry]

/-- Entries of one fingerprint have it as their reference. -/
theorem reference_of_all (c : Census) (fp : Nat) (h : c.entries ≠ []) (hfp : ∀ e ∈ c.entries, e.fp = fp) :
    c.reference = fp := by
  obtain ⟨e, he, hr⟩ := reference_mem c h
  rw [hr, hfp e he]

/-- No child is judged where all entries agree. -/
theorem judgeAll_agree (i : CensusId) (c : Census) (s : State) (hc : s.census i = some c)
    (hfp : ∀ e ∈ c.entries, e.fp = c.reference) : judgeAll i s = s := by
  rw [judgeAll, hc]
  dsimp only
  refine foldl_keeps (fun u => u = s) (fun u e he hu => ?_) rfl
  rw [if_pos (.inl (hfp e he)), hu]

/-! Resolutions. -/

theorem resolveHuddle_released (i : CensusId) (total : Nat) (c : Census) (s : State) (hc : s.census i = some c)
    (hm : c.misfits = []) : resolveHuddle i total s =
      sendResolved i.epoch ⟨2, i.slot, i.step, i.attempt, 0, total⟩ (freeCensus (fun c => c.id == i) s) := by
  rw [resolveHuddle, hc]
  dsimp only
  rw [hm, List.isEmpty_nil, if_pos rfl]

theorem resolveHuddle_misfit (i : CensusId) (total : Nat) (c : Census) (s : State) (hc : s.census i = some c)
    (hm : c.misfits ≠ []) (hroot : rootActs s = false) :
    resolveHuddle i total s = reportUp i (c.misfits.foldl (· + ·) 0) 0xFFFFFFFF
      (sendResolved i.epoch ⟨2, i.slot, i.step, i.attempt, 3, c.misfits.foldl (· + ·) 0⟩
        (freeCensus (fun c => c.id == i) s)) := by
  rw [resolveHuddle, hc]
  dsimp only
  rw [if_neg (by simpa using hm), if_neg (by simp [hroot])]

/-! A misfit is judged (R241). -/

theorem census_judgeMisfit (i : CensusId) (p n die : Nat) (s : State) :
    (judgeMisfit i p n die s).census i =
      (s.census i).map (fun c => { c with judged := c.judged ++ [p], misfits := c.misfits ++ [n] }) := by
  rw [judgeMisfit, census_congr (congrArg Dxd.cs (raise_x ..))]
  exact census_modCensus_same i _ s fun _ => rfl

theorem eventSet_judgeMisfit (i : CensusId) (p n die : Nat) (s : State) :
    eventSet .dxd 0x13 1 (judgeMisfit i p n die s) :=
  eventSet_raise _ _ _ _ ⟨pageSt_census _, by decide⟩ (by decide)

/-- What judging a huddle's misfits keeps: the epochs served here, the straps, the links, and what has been seen. -/
structure JudgeKeeps (s t : State) : Prop where
  served : t.x.cs.served = s.x.cs.served
  straps : t.x.straps = s.x.straps
  ports : t.dc.ports = s.dc.ports
  seen : t.dc.seen = s.dc.seen
  up : t.dc.up = s.dc.up

theorem JudgeKeeps.trans {s t u : State} (h : JudgeKeeps s t) (h' : JudgeKeeps t u) : JudgeKeeps s u :=
  ⟨h'.served.trans h.served, h'.straps.trans h.straps, h'.ports.trans h.ports, h'.seen.trans h.seen, h'.up.trans h.up⟩

theorem judgeKeeps_refl (s : State) : JudgeKeeps s s := ⟨rfl, rfl, rfl, rfl, rfl⟩

theorem judgeKeeps_judgeMisfit (i : CensusId) (p n die : Nat) (s : State) : JudgeKeeps s (judgeMisfit i p n die s) where
  served := by simp [judgeMisfit, modCensus]
  straps := by simp [judgeMisfit, modCensus]
  ports := dc_ports_eq (by simp [but])
  seen := dc_seen_eq (by simp [but])
  up := dc_up_eq (by simp [but])

theorem JudgeKeeps.groupOf {s t : State} (h : JudgeKeeps s t) (ep g : Nat) : groupOf t ep g = groupOf s ep g := by
  simp only [Machine.groupOf, State.served, h.served]

theorem JudgeKeeps.dnPorts {s t : State} (h : JudgeKeeps s t) (ep : Nat) : dnPorts t ep = dnPorts s ep :=
  LinksKept.dnPorts (linksKept_of_ports_eq (by rw [com_dxd, com_dxd, h.ports])) h.served ep

theorem JudgeKeeps.unseen {s t : State} (h : JudgeKeeps s t) {k : SeenId} (hk : Unseen .dxd k s) : Unseen .dxd k t :=
  unseen_congr hk h.seen h.up

/-- One entry at a lowest common ancestor: judged where it differs from the reference. -/
def judgeEntry (i : CensusId) (c : Census) (s : State) (e : Entry) : State :=
  if e.fp = c.reference ∨ c.judged.contains e.port then s
  else judgeMisfit i e.port (if s.x.straps.role = 0 then 1 else e.count) (reportDie s i.epoch e.port) s

theorem judgeKeeps_judgeEntry (i : CensusId) (c : Census) (s : State) (e : Entry) : JudgeKeeps s (judgeEntry i c s e) := by
  unfold judgeEntry
  split
  · exact judgeKeeps_refl s
  · exact judgeKeeps_judgeMisfit ..

theorem isSome_census_judgeEntry (i : CensusId) (c : Census) (s : State) (e : Entry) :
    ((judgeEntry i c s e).census i).isSome = (s.census i).isSome := by
  unfold judgeEntry
  split
  · rfl
  · rw [census_judgeMisfit, Option.isSome_map]

/-- Two passes that agree where an invariant of the second holds. -/
theorem foldl_congr_of {α β : Type} {f g : β → α → β} (P : β → Prop) (hfg : ∀ u x, P u → f u x = g u x)
    (hg : ∀ u x, P u → P (g u x)) (l : List α) (s : β) (hs : P s) : l.foldl f s = l.foldl g s := by
  induction l generalizing s with
  | nil => rfl
  | cons x l ih => rw [List.foldl_cons, List.foldl_cons, hfg s x hs, ih _ (hg s x hs)]

/-- At a lowest common ancestor no report goes up while the entries are judged. -/
theorem judgeAll_lca (i : CensusId) (c : Census) (n : Nat) (s : State) (hc : s.census i = some c)
    (hk : c.id.kind = 2) (hg : groupOf s c.id.epoch (fpGroup c.reference) = some (true, n)) :
    judgeAll i s = c.entries.foldl (judgeEntry i c) s := by
  rw [judgeAll, hc]
  refine foldl_congr_of (JudgeKeeps s) (fun u e hu => ?_) (fun u e hu => hu.trans (judgeKeeps_judgeEntry i c u e)) _ _
    (judgeKeeps_refl s)
  dsimp only
  rw [censusGroup_huddle c u hk, hu.groupOf, hg, judgeEntry]

/-- After the latest entry, which differs from the reference, the huddle has a misfit (R241). -/
theorem foldl_judgeEntry_misfit (i : CensusId) (c : Census) (l : List Entry) (e : Entry) (s : State)
    (hs : (s.census i).isSome = true) (he : e.fp ≠ c.reference) (hj : c.judged = []) :
    JudgeKeeps s ((l ++ [e]).foldl (judgeEntry i c) s) ∧
      eventSet .dxd 0x13 1 ((l ++ [e]).foldl (judgeEntry i c) s) ∧
      ∃ o, ((l ++ [e]).foldl (judgeEntry i c) s).census i = some o ∧ o.misfits ≠ [] := by
  rw [List.foldl_append, List.foldl_cons, List.foldl_nil]
  obtain ⟨hu, hsome⟩ : JudgeKeeps s (l.foldl (judgeEntry i c) s) ∧ ((l.foldl (judgeEntry i c) s).census i).isSome = true :=
    foldl_keeps (fun u => JudgeKeeps s u ∧ (u.census i).isSome = true)
      (fun u x _ hu => ⟨hu.1.trans (judgeKeeps_judgeEntry i c u x), by rw [isSome_census_judgeEntry, hu.2]⟩)
      ⟨judgeKeeps_refl s, hs⟩
  generalize l.foldl (judgeEntry i c) s = u at hu hsome
  obtain ⟨o, ho⟩ := Option.isSome_iff_exists.mp hsome
  refine ⟨hu.trans (judgeKeeps_judgeEntry i c u e), ?_⟩
  rw [judgeEntry, if_neg (by simp [he, hj])]
  refine ⟨eventSet_judgeMisfit .., ?_⟩
  rw [census_judgeMisfit, ho]
  exact ⟨_, rfl, by simp⟩

end Sys2Proof.Machine
end

section
/-!
PROOFS. The jobs and the ledger while messages leave: their steps and slots stay (R169, R306, R307, R310).
-/

namespace Sys2Proof.Machine

/-- What finds a step's record at the acting referee: slot, epoch, running or paused, steps. -/
def Job.key (b : Job) : Nat × Nat × Bool × List RStep := (b.slot, b.epoch, decide (1 ≤ b.state ∧ b.state ≤ 4), b.steps)

/-- Every job keeps its slot, its epoch and its steps, and goes on. -/
def JobsKept (s t : State) : Prop := t.x.rf2.jobs.map Job.key = s.x.rf2.jobs.map Job.key

theorem JobsKept.trans {s t u : State} (h : JobsKept s t) (h' : JobsKept t u) : JobsKept s u := Eq.trans h' h

theorem jobsKept_refl (s : State) : JobsKept s s := rfl

theorem jobsKept_of_referee_eq {s t : State} (h : t.x.rf2 = s.x.rf2) : JobsKept s t := by rw [JobsKept, h]

theorem jobsKept_map (g : Job → Job) (s t : State) (h : t.x.rf2.jobs = s.x.rf2.jobs.map g) (hg : ∀ b, (g b).key = b.key) :
    JobsKept s t := by
  rw [JobsKept, h, List.map_map]
  exact List.map_congr_left fun b _ => hg b

/-- The record of a step among jobs' keys. -/
def rstepOf (l : List (Nat × Nat × Bool × List RStep)) (ep step attempt : Nat) : Option RStep :=
  l.findSome? (fun k => if k.2.1 == ep && k.2.2.1 then
    k.2.2.2.find? (fun x => x.step == step && x.attempt == attempt && x.epoch == ep) else none)

theorem rstep_eq (s : State) (ep step attempt : Nat) :
    s.rstep ep step attempt = rstepOf (s.x.rf2.jobs.map Job.key) ep step attempt := by
  rw [rstepOf, List.findSome?_map]
  rfl

theorem JobsKept.rstep {s t : State} (h : JobsKept s t) (ep step attempt : Nat) :
    t.rstep ep step attempt = s.rstep ep step attempt := by
  rw [rstep_eq, rstep_eq, h]

/-- The slots of the jobs, in order. -/
def jobSlots (s : State) : List Nat := s.x.rf2.jobs.map (·.slot)

theorem JobsKept.slots {s t : State} (h : JobsKept s t) : jobSlots t = jobSlots s := by
  have := congrArg (List.map Prod.fst) h
  rwa [List.map_map, List.map_map] at this

theorem isSome_job (s : State) (j : Nat) : (s.job j).isSome = (jobSlots s).contains j := by
  rw [State.job, jobSlots, Bool.eq_iff_iff, List.find?_isSome, List.contains_iff_mem, List.mem_map]
  simp only [beq_iff_eq]

theorem jobsKept_pauseEvery (f : Job → Job) (hf : ∀ b, (f b).key = b.key) (s : State) : JobsKept s (pauseEvery f s) := by
  refine jobsKept_map (fun b => if 1 ≤ b.state ∧ b.state ≤ 4 then f { b with state := 4 } else b) s _ ?_ fun b => ?_
  · simp [pauseEvery, raiseIf_x]
  · split
    · next hb => rw [hf]; simp [Job.key, hb]
    · rfl

theorem jobsKept_ledgerWatch (s : State) : JobsKept s (ledgerWatch s) := by
  have hraise : JobsKept s (if ledgerFree s.x.lg < 256 then raise .dxd 0x15 1 s else s) :=
    jobsKept_of_referee_eq (by split <;> simp)
  unfold ledgerWatch
  dsimp only
  split
  · exact hraise.trans (jobsKept_pauseEvery _ (fun _ => by rfl) _)
  · exact hraise

theorem jobsKept_ledgerAppend (ty attempt step epoch value : Nat) (data : List Byte) (ckpt : Bool) (s : State) :
    JobsKept s (ledgerAppend ty attempt step epoch value data ckpt s) := by
  unfold ledgerAppend
  split
  · exact jobsKept_refl s
  · exact (jobsKept_of_referee_eq (by simp)).trans (jobsKept_ledgerWatch _)

theorem jobsKept_noteSent (f : Frame) (s : State) : JobsKept s (noteSent f s) := by
  unfold noteSent
  split
  · next b _ =>
    have hbench : JobsKept s (noteBench b.kind b.target b.reason s) := by
      refine congrArg (List.map Job.key) ?_
      unfold noteBench
      dsimp only
      split <;> simp
    refine hbench.trans ?_
    unfold replayFrom
    split
    · exact jobsKept_refl _
    · refine jobsKept_map (fun q => if q.epoch == b.newEpoch then
        { q with pause := q.pause.map (fun p =>
          { p with benchAt := some (noteBench b.kind b.target b.reason s).dc.tk.bc, lead := b.admitLead }) } else q) _ _
        rfl fun q => ?_
      split <;> rfl
  · exact jobsKept_refl s

theorem jobsKept_sendMsg (m : LedgerMsg) (s : State) : JobsKept s (sendMsg m s) :=
  (jobsKept_of_referee_eq (by simp)).trans (jobsKept_noteSent _ _)

theorem jobsKept_flushMsgs (n : Nat) (s : State) : JobsKept s (flushMsgs n s) := by
  induction n generalizing s with
  | zero => exact jobsKept_refl s
  | succ n ih =>
    unfold flushMsgs
    split
    · split
      · exact .trans (.trans (jobsKept_of_referee_eq (by simp)) (jobsKept_sendMsg _ _)) (ih _)
      · exact jobsKept_refl s
    · exact jobsKept_refl s

theorem jobsKept_afterLedger (ep : Nat) (f : Frame) (s : State) : JobsKept s (afterLedger ep f s) :=
  .trans (jobsKept_of_referee_eq (by simp [afterLedgerTo])) (jobsKept_flushMsgs _ _)

/-! Records (R306). -/

theorem recs_flushMsgs (n : Nat) (s : State) : (flushMsgs n s).x.lg.recs = s.x.lg.recs := by
  induction n generalizing s with
  | zero => rfl
  | succ n ih =>
    unfold flushMsgs
    split
    · split
      · have hsend : ∀ (m : LedgerMsg) (u : State), (sendMsg m u).x.lg = u.x.lg := fun m u => x_lg_eq (by simp [but])
        rw [ih, hsend]
        rfl
      · rfl
    · rfl

theorem recs_afterLedger (ep : Nat) (f : Frame) (s : State) : (afterLedger ep f s).x.lg.recs = s.x.lg.recs :=
  recs_flushMsgs _ _

/-- A record that has room is the last one. -/
theorem getLast_ledgerAppend (ty attempt step epoch value : Nat) (data : List Byte) (ckpt : Bool) (s : State)
    (h : 0 < ledgerFree s.x.lg) : (ledgerAppend ty attempt step epoch value data ckpt s).x.lg.recs.getLast? =
      some ⟨ty, attempt, step, epoch, s.x.lg.next, value, data, s.x.lg.solo, ckpt⟩ := by
  have hwatch : ∀ u : State, (ledgerWatch u).x.lg = u.x.lg := fun u => x_lg_eq (by simp [but])
  rw [ledgerAppend, if_neg (by omega), hwatch]
  simp

/-! The record of a step (R169). -/

/-- The first match, where every match is changed and stays one. -/
theorem find?_map_ite {α : Type} (p : α → Bool) (f : α → α) (l : List α) (hf : ∀ x, p x = true → p (f x) = true) :
    (l.map (fun x => if p x then f x else x)).find? p = (l.find? p).map f := by
  induction l with
  | nil => rfl
  | cons x l ih =>
    rw [List.map_cons]
    by_cases hx : p x = true
    · rw [if_pos hx, List.find?_cons_of_pos (hf x hx), List.find?_cons_of_pos hx, Option.map_some]
    · rw [if_neg hx, List.find?_cons_of_neg hx, List.find?_cons_of_neg hx, ih]

theorem rstep_modRStep (ep step attempt : Nat) (f : RStep → RStep) (s : State)
    (hf : ∀ x, (f x).step = x.step ∧ (f x).attempt = x.attempt ∧ (f x).epoch = x.epoch) :
    (modRStep ep step attempt f s).rstep ep step attempt = (s.rstep ep step attempt).map f := by
  rw [State.rstep, modRStep, modRef_x, List.findSome?_map, State.rstep, List.map_findSome?]
  refine congrArg (fun F => List.findSome? F s.x.rf2.jobs) (funext fun b => ?_)
  simp only [Function.comp_apply]
  by_cases hb : (b.epoch == ep && decide (1 ≤ b.state ∧ b.state ≤ 4)) = true
  · rw [if_pos hb, if_pos hb, if_pos hb]
    refine find?_map_ite _ f b.steps fun x hx => ?_
    obtain ⟨hstep, hattempt, hepoch⟩ := hf x
    rwa [hstep, hattempt, hepoch]
  · rw [if_neg hb, if_neg hb, Option.map_none]

/-! A job that stops (R164, R241). -/

theorem job_modJob (j : Nat) (f : Job → Job) (s : State) (hf : ∀ b, (f b).slot = b.slot) :
    (modJob j f s).job j = (s.job j).map f :=
  find?_listModify_same _ fun b hb => by rwa [hf]

theorem jobSlots_modJob (j : Nat) (f : Job → Job) (s : State) (hf : ∀ b, (f b).slot = b.slot) :
    jobSlots (modJob j f s) = jobSlots s :=
  map_listModify _ fun b _ => hf b

theorem jobSlots_takeOseq (s : State) : jobSlots (takeOseq s).2 = jobSlots s := by
  unfold takeOseq
  dsimp only
  split
  · exact (jobsKept_ledgerAppend ..).slots
  · rfl

theorem jobSlots_endSteps (ep step : Nat) (s : State) : jobSlots (endSteps ep step s) = jobSlots s := by
  have hrf : (endSteps ep step s).x.rf2 = s.x.rf2 := x_rf2_eq (by simp [but])
  rw [jobSlots, hrf, jobSlots]

theorem jobSlots_sendCallOff (j reason : Nat) (s : State) : jobSlots (sendCallOff j reason s) = jobSlots s := by
  unfold sendCallOff
  split
  · rfl
  · split
    · rfl
    · split
      · rfl
      · rw [jobSlots_modJob _ _ _ fun _ => by rfl, (jobsKept_afterLedger ..).slots, jobSlots_endSteps, jobSlots_takeOseq]

/-- A running or paused job that no reason ends yet stops: its ARMs, and its pause. -/
theorem job_stopJob (j reason result : Nat) (b : Job) (s : State) (hb : s.job j = some b) (he : b.ending = none)
    (h0 : b.state ≠ 0) (h5 : b.state ≠ 5) :
    ∃ c, (stopJob j reason result s).job j = some c ∧ c.ending = some result ∧ c.stopArms = true ∧ c.pause = none := by
  have hsome : ((sendCallOff j reason s).job j).isSome = true := by
    rw [isSome_job, jobSlots_sendCallOff, ← isSome_job, hb, Option.isSome_some]
  obtain ⟨c, hc⟩ := Option.isSome_iff_exists.mp hsome
  rw [stopJob, hb]
  dsimp only
  rw [if_neg (by simp [he, h0, h5]), job_modJob _ _ _ fun _ => by rfl, hc, Option.map_some]
  exact ⟨_, rfl, rfl, rfl, rfl⟩

end Sys2Proof.Machine
end

section
/-!
PROOFS. CENSUS_UP at a DX-D (R74, R190, R233, R235 to R237, R240, R241, R308): O35.
-/

namespace Sys2Proof.Machine

theorem entriesOf_census {i : CensusId} {c : Census} {s : State} (h : s.census i = some c) : entriesOf i s = c.entries := by
  rw [entriesOf, h, Option.map_some, Option.getD_some]

/-! Complete arm and done censuses at the acting referee (R190, R233, R308). -/

section
variable (i : CensusId) (total : Nat) (r : RStep) (s : State) (hr : s.rstep i.epoch i.step i.attempt = some r)
include hr

/-- An arm census that is withdrawn or too late is not resolved. -/
theorem resolveArm_ignored (h : r.withdrawn = true ∨ (r.accepted = false ∧ r.k < s.dc.tk.bc + 10000)) :
    resolveArm i total s = s := by
  rw [resolveArm, hr]
  dsimp only
  rcases h with hw | ⟨ha, hk⟩
  · rw [if_pos hw]
  · split
    · rfl
    · rw [if_neg (by simp [ha]), if_neg (by omega)]

/-- One in time is ACCEPTED: the step, the freed slot and its record. -/
theorem resolveArm_accepted (hw : r.withdrawn = false) (ha : r.accepted = false) (hk : s.dc.tk.bc + 10000 ≤ r.k)
    (hl : 0 < ledgerFree s.x.lg) :
    (resolveArm i total s).rstep i.epoch i.step i.attempt = some { r with armDone := true, accepted := true } ∧
      (resolveArm i total s).census i = none ∧
      ∃ q, (resolveArm i total s).x.lg.recs.getLast? = some q ∧ q.ty = 5 ∧ q.step = i.step ∧ q.attempt = i.attempt ∧
        q.epoch = i.epoch ∧ q.seq = s.x.lg.next := by
  rw [resolveArm, hr]
  dsimp only
  rw [if_neg (by simp [hw]), if_neg (by simp [ha]), if_pos ⟨hk, hl⟩]
  generalize hs1 : modRStep i.epoch i.step i.attempt (fun x => { x with armDone := true, accepted := true }) s = s1
  have hstep1 : s1.rstep i.epoch i.step i.attempt = some { r with armDone := true, accepted := true } := by
    rw [← hs1, rstep_modRStep _ _ _ _ _ fun _ => by exact ⟨rfl, rfl, rfl⟩, hr, Option.map_some]
  have hlg1 : s1.x.lg = s.x.lg := by rw [← hs1]; rfl
  have hlast := getLast_ledgerAppend 5 i.attempt i.step i.epoch 0 [] false s1 (by rwa [hlg1])
  have hstep2 := (jobsKept_ledgerAppend 5 i.attempt i.step i.epoch 0 [] false s1).rstep i.epoch i.step i.attempt
  generalize ledgerAppend 5 i.attempt i.step i.epoch 0 [] false s1 = s2 at hlast hstep2 ⊢
  generalize hs3 : noteOutcome i.epoch ⟨0, i.slot, i.step, i.attempt, 1, total⟩ (freeCensus (fun c => c.id == i) s2) = s3
  have hkept : JobsKept s2 s3 := jobsKept_of_referee_eq (by rw [← hs3]; rfl)
  have hcs3 : s3.census i = none := by rw [← hs3]; exact census_freeCensus i s2
  have hlg3 : s3.x.lg = s2.x.lg := by rw [← hs3]; rfl
  refine ⟨?_, ?_, ?_⟩
  · rw [(jobsKept_afterLedger ..).rstep, hkept.rstep, hstep2, hstep1]
  · have hcs : (afterLedger i.epoch ⟨i.epoch, .censusDn ⟨0, i.slot, i.step, i.attempt, 1, total⟩⟩ s3).x.cs = s3.x.cs :=
      x_cs_eq (by simp [but])
    rw [census_congr hcs, hcs3]
  · rw [recs_afterLedger, hlg3, hlast]
    exact ⟨_, rfl, rfl, rfl, rfl, rfl, by rw [hlg1]⟩

/-- A done census is RELEASED. -/
theorem resolveDone_released (h : Unseen .dxd (.censusDn i.epoch 1 i.slot i.step i.attempt 0) s) :
    (resolveDone i total s).rstep i.epoch i.step i.attempt = some { r with doneDone := true } ∧
      (resolveDone i total s).census i = none ∧
      ∀ q, q ∈ dnPorts s i.epoch →
        Queued .dxd q ⟨i.epoch, .censusDn ⟨1, i.slot, i.step, i.attempt, 0, total⟩⟩ (resolveDone i total s) := by
  rw [resolveDone]
  generalize hs1 : modRStep i.epoch i.step i.attempt (fun x => { x with doneDone := true })
    (freeCensus (fun c => c.id == i) s) = s1
  have hunseen : Unseen .dxd (.censusDn i.epoch 1 i.slot i.step i.attempt 0) s1 := by
    rw [← hs1]; exact unseen_congr h rfl rfl
  obtain ⟨hx, hq⟩ := sendResolved_sent i.epoch ⟨1, i.slot, i.step, i.attempt, 0, total⟩ s1 hunseen
  refine ⟨?_, ?_, fun q hdn => hq q ?_⟩
  · have hfree : JobsKept s (freeCensus (fun c => c.id == i) s) := jobsKept_of_referee_eq rfl
    rw [(jobsKept_of_referee_eq (congrArg Dxd.rf2 hx)).rstep, ← hs1, rstep_modRStep _ _ _ _ _ fun _ => by exact ⟨rfl, rfl, rfl⟩,
      hfree.rstep, hr, Option.map_some]
  · rw [census_congr (congrArg Dxd.cs hx), ← hs1]
    exact census_freeCensus i s
  · rwa [← hs1]

end

/-! A complete huddle at its lowest common ancestor (R237, R241). -/

/-- A huddle without misfits is RELEASED. -/
theorem resolveHuddle_sent (i : CensusId) (total : Nat) (c : Census) (s : State) (hc : s.census i = some c)
    (hm : c.misfits = []) (h : Unseen .dxd (.censusDn i.epoch 2 i.slot i.step i.attempt 0) s) :
    (resolveHuddle i total s).census i = none ∧
      (∀ q, q ∈ dnPorts s i.epoch →
        Queued .dxd q ⟨i.epoch, .censusDn ⟨2, i.slot, i.step, i.attempt, 0, total⟩⟩ (resolveHuddle i total s)) ∧
      Only [.com .dxd .ports, .com .dxd .seen, .census] s (resolveHuddle i total s) := by
  have hunseen : Unseen .dxd (.censusDn i.epoch 2 i.slot i.step i.attempt 0) (freeCensus (fun c => c.id == i) s) :=
    unseen_congr h rfl rfl
  rw [resolveHuddle_released i total c s hc hm]
  exact ⟨census_resolved i _ _ _ hunseen (census_freeCensus i s),
    (sendResolved_sent i.epoch ⟨2, i.slot, i.step, i.attempt, 0, total⟩ _ hunseen).2, by simp [Only]⟩

/-- One with misfits ends in MISFIT, and below the root the report goes up. -/
theorem resolveHuddle_ended (i : CensusId) (total : Nat) (c : Census) (s : State) (hc : s.census i = some c)
    (hm : c.misfits ≠ []) (hroot : rootActs s = false)
    (h : Unseen .dxd (.censusDn i.epoch 2 i.slot i.step i.attempt 3) s) :
    (resolveHuddle i total s).census i = none ∧ (resolveHuddle i total s).dc.pgEvent = s.dc.pgEvent ∧
      ∀ q, q ∈ dnPorts s i.epoch → Queued .dxd q
        ⟨i.epoch, .censusDn ⟨2, i.slot, i.step, i.attempt, 3, c.misfits.foldl (· + ·) 0⟩⟩ (resolveHuddle i total s) := by
  have hunseen : Unseen .dxd (.censusDn i.epoch 2 i.slot i.step i.attempt 3) (freeCensus (fun c => c.id == i) s) :=
    unseen_congr h rfl rfl
  rw [resolveHuddle_misfit i total c s hc hm hroot, reportUp]
  refine ⟨?_, dc_pgEvent_eq (by simp [but]), fun q hq => ?_⟩
  · rw [census_congr (congrArg Dxd.cs (enqueue_x ..))]
    exact census_resolved i _ _ _ hunseen (census_freeCensus i s)
  · exact queued_enqueue_of _ _ _ _ _ _ _ ((sendResolved_sent i.epoch
      ⟨2, i.slot, i.step, i.attempt, 3, c.misfits.foldl (· + ·) 0⟩ _ hunseen).2 q hq) rfl

/-! Reports (R241). -/

/-- An accepted report. -/
theorem censusUpReceive_report {p : Nat} {h : LinkHdr} {ep : Nat} {f : CensusUpF} {s : State}
    (ha : Accepts .dxd p h ⟨ep, .censusUp f⟩ s) (hk : f.kind = 3) :
    censusUpReceive p h ep f s = reportReceive p ep f (frameTaken p h s) := by
  rw [censusUpReceive, recvRetained_accepts .dxd p h _ _ s ha, ← frameTaken, censusUpTake, if_pos hk]

@[simp] theorem someLca_frameTaken (p : Nat) (h : LinkHdr) (s : State) (ep : Nat) :
    someLca (frameTaken p h s) ep = someLca s ep := by
  simp [someLca, State.served]

@[simp] theorem dxdLevel_frameTaken (p : Nat) (h : LinkHdr) (s : State) : dxdLevel (frameTaken p h s) = dxdLevel s := by
  simp [dxdLevel]

@[simp] theorem rootActs_frameTaken (p : Nat) (h : LinkHdr) (s : State) : rootActs (frameTaken p h s) = rootActs s := by
  simp [rootActs]

/-- A report that comes before any entry is passed on where no lowest common ancestor can be, or from one below. -/
theorem reportReceive_passed (p ep : Nat) (f : CensusUpF) (s : State)
    (hn : s.census ⟨2, f.slot, f.step, f.attempt, ep⟩ = none)
    (h : someLca s ep = false ∨ (unnamed f = true ∧ dxdLevel s = 2)) :
    reportReceive p ep f s = passReport (some p) ep f s := by
  rw [reportReceive, hn]
  dsimp only
  rw [if_pos (by rcases h with h | ⟨hf, hd⟩ <;> simp [*])]

/-- It is kept where the lowest common ancestor can be here. -/
theorem reportReceive_early (p ep : Nat) (f : CensusUpF) (s : State)
    (hn : s.census ⟨2, f.slot, f.step, f.attempt, ep⟩ = none) (hlca : someLca s ep = true)
    (h : unnamed f = false ∨ dxdLevel s ≠ 2) :
    reportReceive p ep f s = modCs (fun c => { c with
      early := c.early ++ [(⟨2, f.slot, f.step, f.attempt, ep⟩, s.dc.up, f)] }) s := by
  rw [reportReceive, hn]
  dsimp only
  rw [if_neg (by rcases h with h | h <;> simp [hlca, h])]

/-- The lowest common ancestor counts it among the huddle's misfits. -/
theorem reportReceive_kept (p ep : Nat) (f : CensusUpF) (c : Census) (n : Nat) (s : State)
    (hc : s.census ⟨2, f.slot, f.step, f.attempt, ep⟩ = some c) (hne : c.entries ≠ [])
    (hg : censusGroup s c = some (true, n)) :
    reportReceive p ep f s = modCensus ⟨2, f.slot, f.step, f.attempt, ep⟩
      (fun c => { c with misfits := c.misfits ++ [f.count] }) s := by
  rw [reportReceive, hc]
  dsimp only
  rw [if_neg (by simpa using hne), hg]
  rfl

/-- The acting referee stops the job of the epoch. -/
theorem passReport_root (p : Option Nat) (ep : Nat) (f : CensusUpF) (b : Job) (s : State) (hroot : rootActs s = true)
    (hb : jobOfEpoch s ep = some b) : passReport p ep f s = stopJob b.slot 4 6 s := by
  rw [jobOfEpoch] at hb
  rw [passReport, if_pos hroot, misfitJob, hroot, if_neg (by decide), hb]

/-! An entry that completes its census (R233, R235, R237). -/

section
variable {p : Nat} {h : LinkHdr} {ep : Nat} {f : CensusUpF} {i : CensusId} {s : State}
  (ha : Accepts .dxd p h ⟨ep, .censusUp f⟩ s) (hi : i = ⟨f.kind, f.slot, f.step, f.attempt, ep⟩) (hn : NoEarly i s)
include ha hi hn

theorem censusUpReceive_incomplete (hk : f.kind < 2)
    (hg : ∀ g, groupOf s ep 0 = some g → g.2 = 0 ∨ (censusWith i (withEntry i ⟨p, f.count, f.fp⟩ s)).total < g.2) :
    censusUpReceive p h ep f s = entryTaken p h i ⟨p, f.count, f.fp⟩ s := by
  rw [censusUpReceive_entry ha (by omega) (by omega) hi hn]
  refine completeCensus_incomplete i _ _ (census_entryTaken_same ..) fun g hgroup => ?_
  rw [censusGroup_step _ _ (by rw [slotAfter_id, hi]; exact hk), slotAfter_id, groupOf_entryTaken,
    Option.map_eq_some_iff] at hgroup
  obtain ⟨a, ha', rfl⟩ := hgroup
  exact hg a (by rw [hi] at ha'; exact ha')

theorem censusUpReceive_step {g : Bool × Nat} (hk : f.kind < 2) (hg : groupOf s ep 0 = some g) (h0 : g.2 ≠ 0)
    (hc : g.2 ≤ (censusWith i (withEntry i ⟨p, f.count, f.fp⟩ s)).total) :
    censusUpReceive p h ep f s =
      completed i (rootActs s) (slotAfter i ⟨p, f.count, f.fp⟩ s) (entryTaken p h i ⟨p, f.count, f.fp⟩ s) := by
  rw [censusUpReceive_entry ha (by omega) (by omega) hi hn]
  refine completeCensus_complete i _ (rootActs s, g.2) _ (census_entryTaken_same ..) ?_ h0 hc
  rw [censusGroup_step _ _ (by rw [slotAfter_id, hi]; exact hk), slotAfter_id, groupOf_entryTaken, rootActs_entryTaken,
    show i.epoch = ep by rw [hi], hg, Option.map_some]

theorem censusUpReceive_huddle {g : Bool × Nat} (hk : f.kind = 2) (hr : s.x.straps.role ≠ 0)
    (hg : groupOf s ep (fpGroup (censusWith i (withEntry i ⟨p, f.count, f.fp⟩ s)).reference) = some g) (h0 : g.2 ≠ 0)
    (hc : g.2 ≤ (censusWith i (withEntry i ⟨p, f.count, f.fp⟩ s)).total) :
    censusUpReceive p h ep f s =
      completed i g.1 (slotAfter i ⟨p, f.count, f.fp⟩ s) (entryTaken p h i ⟨p, f.count, f.fp⟩ s) := by
  rw [censusUpReceive_entry ha (by omega) (fun _ => hr) hi hn]
  refine completeCensus_complete i _ g _ (census_entryTaken_same ..) ?_ h0 hc
  rw [censusGroup_huddle _ _ (by rw [slotAfter_id, hi]; exact hk), slotAfter_id, groupOf_entryTaken,
    show i.epoch = ep by rw [hi]]
  exact hg

end

/-- The reference of entries of one fingerprint. -/
theorem reference_withEntry (i : CensusId) (p count fp : Nat) (s : State)
    (hfp : ∀ e, e ∈ withEntry i ⟨p, count, fp⟩ s → e.fp = fp) :
    (censusWith i (withEntry i ⟨p, count, fp⟩ s)).reference = fp :=
  reference_of_all _ fp (withEntry_ne_nil i ⟨p, count, fp⟩ s) hfp

theorem slotAfter_misfits (i : CensusId) (e : Entry) (s : State) :
    (slotAfter i e s).misfits = ((s.census i).map (·.misfits)).getD [] := by
  cases h : s.census i <;> simp [slotAfter, h, freshCensus]

theorem slotAfter_entries (i : CensusId) (p count fp : Nat) (s : State) : (slotAfter i ⟨p, count, fp⟩ s).entries =
    (entriesOf i s).filter (fun x => x.port != p) ++ [⟨p, count, fp⟩] := rfl

theorem slotAfter_judged {i : CensusId} {o : Census} {s : State} (e : Entry) (h : s.census i = some o) :
    (slotAfter i e s).judged = o.judged := by
  simp [slotAfter, h]

/-- What completes without judging. -/
theorem completed_step (i : CensusId) (lca : Bool) (c : Census) (s : State) (hk : i.kind < 2) :
    completed i lca c s = if !lca then sendSubtree i c s
      else if i.kind = 0 then resolveArm i c.total s else resolveDone i c.total s := by
  rcases (by omega : i.kind = 0 ∨ i.kind = 1) with h | h <;> simp [completed, h]

theorem completed_huddle (i : CensusId) (lca : Bool) (c : Census) (s : State) (hk : i.kind = 2) :
    completed i lca c s = if !lca then sendSubtree i c (judgeAll i s) else resolveHuddle i c.total (judgeAll i s) := by
  rw [completed, if_pos hk]
  rw [if_neg (by omega : ¬i.kind = 0), if_neg (by omega : ¬i.kind = 1)]

/-- Entries that agree: no child of the huddle is judged. -/
theorem judgeAll_entryTaken (h : LinkHdr) (i : CensusId) (p count fp : Nat) (s : State)
    (hfp : ∀ e, e ∈ withEntry i ⟨p, count, fp⟩ s → e.fp = fp) :
    judgeAll i (entryTaken p h i ⟨p, count, fp⟩ s) = entryTaken p h i ⟨p, count, fp⟩ s := by
  refine judgeAll_agree i _ _ (census_entryTaken_same ..) fun e he => ?_
  rw [slotAfter_reference, reference_withEntry i p count fp s hfp, hfp e he]

/-- Settles O35: each clause from what the entry leaves in its slot and what its completion does. -/
theorem censusEntries : Obligations.CensusEntries := by
  unfold Obligations.CensusEntries
  refine ⟨?incomplete, ?goesUp, ?accepted, ?ignored, ?released, ?huddle, ?credit, ?misfit, ?stopped, ?passed, ?early, ?kept⟩
  case incomplete =>
    intro p h ep f i es s ha hk hi hes hn hg
    subst hes
    refine ⟨_, rfl, ?_⟩
    rw [censusUpReceive_incomplete ha hi hn hk hg]
    exact ⟨entriesOf_census (census_entryTaken_same ..), by rw [census_entryTaken_same, Option.isSome_some],
      fun j hj => census_entryTaken_ne _ _ _ _ _ j hj, otherPorts_entryTaken p h i _ s,
      only_entryTaken p h i _ s⟩
  case goesUp =>
    intro p h ep f i es g s ha hk hi hes hn hg h0 hc hroot hsent
    subst hes
    have hik : i.kind < 2 := by rw [hi]; exact hk
    have hfresh : (slotAfter i ⟨p, f.count, f.fp⟩ s).sent = false := slotAfter_sent hsent
    have hw : ¬waitsForCredit i (entryTaken p h i ⟨p, f.count, f.fp⟩ s) := fun hw => absurd hw.1 (by omega)
    refine ⟨_, rfl, ?_⟩
    rw [censusUpReceive_step ha hi hn hk hg h0 hc, completed_step _ _ _ _ hik, hroot, if_pos (by decide)]
    obtain ⟨hslot, hcredits, hq⟩ := sendSubtree_sent i _ _ hfresh hw
    rw [census_entryTaken_same, Option.map_some] at hslot
    refine ⟨by rw [hslot]; rfl, entriesOf_census hslot, ?_, ?_, ?_⟩
    · rw [upPort_entryTaken, subtreeFrame, if_neg (by omega), hi] at hq
      rw [hi]
      exact hq
    · rw [hcredits, if_neg (by omega), entryTaken_credits]
    · exact (only_entryTaken ..).trans (only_sendSubtree_goes i _ _ hfresh hw)
  case accepted =>
    intro p h ep f i es g r s ha hk hi hes hn hg h0 hc hroot hr hw hacc htime hfree
    subst hes
    have hik : i.kind = 0 := by rw [hi]
    have honly := only_entryTaken p h i ⟨p, f.count, f.fp⟩ s
    refine ⟨_, rfl, ?_⟩
    rw [censusUpReceive_step ha (by rw [hk, hi]) hn (by omega) hg h0 hc, completed_step _ _ _ _ (by omega), hroot,
      if_neg (by decide), if_pos hik]
    subst hi
    obtain ⟨hstep, hslot, hrec⟩ := resolveArm_accepted ⟨0, f.slot, f.step, f.attempt, ep⟩ _ r _
      ((rstep_entryTaken ..).trans hr) hw hacc (by simpa using htime) (by simpa using hfree)
    refine ⟨hstep, hslot, by simpa using hrec, ?_⟩
    refine (honly.mono (by decide)).trans ?_
    apply resolveArm_blank <;> decide
  case ignored =>
    intro p h ep f i es g r s ha hk hi hes hn hg h0 hc hroot hr hlate
    subst hes
    have hik : i.kind = 0 := by rw [hi]
    have honly := only_entryTaken p h i ⟨p, f.count, f.fp⟩ s
    refine ⟨_, rfl, ?_⟩
    rw [censusUpReceive_step ha (by rw [hk, hi]) hn (by omega) hg h0 hc, completed_step _ _ _ _ (by omega), hroot,
      if_neg (by decide), if_pos hik]
    subst hi
    rw [resolveArm_ignored ⟨0, f.slot, f.step, f.attempt, ep⟩ _ r _ ((rstep_entryTaken ..).trans hr)
      (by simpa using hlate)]
    exact ⟨entriesOf_census (census_entryTaken_same ..), honly⟩
  case released =>
    intro p h ep f i es g r s ha hk hi hes hn hg h0 hc hroot hr hunseen
    subst hes
    have hik : i.kind = 1 := by rw [hi]
    have honly := only_entryTaken p h i ⟨p, f.count, f.fp⟩ s
    refine ⟨_, rfl, ?_⟩
    rw [censusUpReceive_step ha (by rw [hk, hi]) hn (by omega) hg h0 hc, completed_step _ _ _ _ (by omega), hroot,
      if_neg (by decide), if_neg (by omega)]
    subst hi
    obtain ⟨hstep, hslot, hq⟩ := resolveDone_released ⟨1, f.slot, f.step, f.attempt, ep⟩
      (slotAfter ⟨1, f.slot, f.step, f.attempt, ep⟩ ⟨p, f.count, f.fp⟩ s).total r _ ((rstep_entryTaken ..).trans hr)
      (unseen_entryTaken _ _ _ _ _ hunseen)
    refine ⟨hstep, hslot, by simpa [slotAfter_total] using hq, ?_⟩
    refine (honly.mono (by decide)).trans ?_
    apply resolveDone_blank <;> decide
  case huddle =>
    intro p h ep f i es g s ha hk hi hrole hes hn hfp hg h0 hc hlca hmis hunseen
    subst hes
    have hik : i.kind = 2 := by rw [hi]
    have honly := only_entryTaken p h i ⟨p, f.count, f.fp⟩ s
    refine ⟨_, rfl, ?_⟩
    rw [censusUpReceive_huddle ha (by rw [hk, hi]) hn hk hrole (by rw [reference_withEntry _ _ _ _ _ hfp]; exact hg) h0 hc,
      completed_huddle _ _ _ _ hik, hlca, if_neg (by decide), judgeAll_entryTaken _ _ _ _ _ _ hfp]
    have hnone : (slotAfter i ⟨p, f.count, f.fp⟩ s).misfits = [] := by rwa [slotAfter_misfits]
    subst hi
    obtain ⟨hslot, hq, hres⟩ := resolveHuddle_sent _
      (slotAfter ⟨2, f.slot, f.step, f.attempt, ep⟩ ⟨p, f.count, f.fp⟩ s).total _ _
      (census_entryTaken_same p h _ _ _) hnone (unseen_entryTaken _ _ _ _ _ hunseen)
    exact ⟨hslot, by simpa [slotAfter_total] using hq, (honly.mono (by decide)).trans hres⟩
  case credit =>
    intro p h ep f i es g s ha hk hi hrole hes hn hfp hg h0 hc hlca hsent
    subst hes
    have hik : i.kind = 2 := by rw [hi]
    have hfresh : (slotAfter i ⟨p, f.count, f.fp⟩ s).sent = false := slotAfter_sent hsent
    have hbefore := any_entryTaken p h i ⟨p, f.count, f.fp⟩ s (fun w => w.waiting && w.id.before i) rfl fun _ _ => rfl
    have hwaiting := any_entryTaken p h i ⟨p, f.count, f.fp⟩ s (·.waiting) rfl fun _ _ => rfl
    have honly := only_entryTaken p h i ⟨p, f.count, f.fp⟩ s
    refine ⟨_, rfl, ?_⟩
    rw [censusUpReceive_huddle ha (by rw [hk, hi]) hn hk (by omega)
      (by rw [reference_withEntry _ _ _ _ _ hfp]; exact hg) h0 hc, completed_huddle _ _ _ _ hik, hlca,
      if_pos (by decide), judgeAll_entryTaken _ _ _ _ _ _ hfp]
    refine ⟨fun hcredit hnone => ?_, fun hwait => ?_, (honly.mono (by decide)).trans ?_⟩
    · obtain ⟨hslot, hcredits, hq⟩ := sendSubtree_sent i _ (entryTaken p h i ⟨p, f.count, f.fp⟩ s) hfresh (by
        simp [waitsForCredit, hbefore, hnone, hcredit])
      rw [census_entryTaken_same, Option.map_some] at hslot
      rw [upPort_entryTaken, subtreeFrame, if_pos hik, slotAfter_reference, reference_withEntry _ _ _ _ _ hfp] at hq
      refine ⟨by rw [hcredits, if_pos hik, entryTaken_credits], by rw [hslot]; rfl, ?_⟩
      rw [hi] at hq ⊢
      exact hq
    · obtain ⟨hslot, hcredits, hev⟩ := sendSubtree_waiting i _ (entryTaken p h i ⟨p, f.count, f.fp⟩ s) hfresh
        ⟨hik, by simp [hrole], by simpa [hbefore] using hwait⟩
      rw [census_entryTaken_same, Option.map_some] at hslot
      exact ⟨by rw [hcredits, entryTaken_credits], by rw [hslot]; rfl, fun hn => hev (by rw [hwaiting, hn])⟩
    · apply sendSubtree_blank <;> decide
  case misfit =>
    intro p h ep f i es c o g s ha hk hi hrole hes hn hcw ho hj hg h0 hc hlca hfp hunseen
    subst hes hcw
    have hik : i.kind = 2 := by rw [hi]
    refine ⟨_, rfl, ?_⟩
    have honly : Only [.com .dxd .ports, .com .dxd .pgEvent, .com .dxd .ic, .com .dxd .seen, .kicks, .census, .scores,
        .ledger, .referee] s (censusUpReceive p h ep f s) := by
      apply censusUpReceive_blank <;> decide
    rw [censusUpReceive_huddle ha (by rw [hk, hi]) hn hk (by omega) hg h0 hc, completed_huddle _ _ _ _ hik, hlca,
      if_neg (by decide)] at honly ⊢
    obtain ⟨lca, n⟩ := g
    obtain rfl : lca = true := hlca
    have hjudge := judgeAll_lca i _ n _ (census_entryTaken_same p h i ⟨p, f.count, f.fp⟩ s) (by simp [hik])
      (by rw [slotAfter_id, groupOf_entryTaken, slotAfter_reference, show i.epoch = ep by rw [hi]]; exact hg)
    obtain ⟨hkeeps, hev, m, hm, hne⟩ := foldl_judgeEntry_misfit i (slotAfter i ⟨p, f.count, f.fp⟩ s)
      ((entriesOf i s).filter (fun x => x.port != p)) ⟨p, f.count, f.fp⟩ (entryTaken p h i ⟨p, f.count, f.fp⟩ s)
      (by rw [census_entryTaken_same]; rfl) hfp (by rw [slotAfter_judged _ ho, hj])
    rw [hjudge, slotAfter_entries] at honly ⊢
    generalize List.foldl _ _ _ = w at hkeeps hev hm honly ⊢
    subst hi
    obtain ⟨hslot, hpg, hq⟩ := resolveHuddle_ended _
      (slotAfter ⟨2, f.slot, f.step, f.attempt, ep⟩ ⟨p, f.count, f.fp⟩ s).total m w hm hne
      (by rw [rootActs, hkeeps.straps, entryTaken_straps, hrole]; rfl) (hkeeps.unseen (unseen_entryTaken _ _ _ _ _ hunseen))
    refine ⟨hslot, (eventSet_congr (by rw [com_dxd, com_dxd, hpg])).mpr hev, ⟨_, fun q hdn => hq q ?_⟩, honly⟩
    rwa [hkeeps.dnPorts, dnPorts_entryTaken]
  case stopped =>
    intro p h ep f b s ha hk hroot hlca hnone hb hjob hend h5 h0
    refine ⟨_, rfl, ?_, ?_⟩
    · rw [censusUpReceive_report ha hk, reportReceive_passed _ _ _ _ (by rwa [census_frameTaken])
        (by simp [hlca]), passReport_root _ _ _ b _ (by simpa using hroot) (by simpa [jobOfEpoch] using hb)]
      exact job_stopJob _ _ _ b _ (by simpa [State.job] using hjob) hend h0 h5
    · apply censusUpReceive_blank <;> decide
  case passed =>
    intro p h ep f s ha hk hroot hnone hpass
    refine ⟨_, rfl, ?_⟩
    rw [censusUpReceive_report ha hk, reportReceive_passed _ _ _ _ (by rwa [census_frameTaken]) (by simpa using hpass),
      passReport, if_neg (by simp [hroot])]
    refine ⟨?_, (only_frameTaken p h s).trans (by simp [Only])⟩
    rw [(linksKept_frameTaken p h s).upPort (by simp)]
    exact queued_enqueue _ _ _ _ _ (.inl rfl)
  case early =>
    intro p h ep f i s ha hk hi hnone hlca hnamed
    subst hi
    refine ⟨_, rfl, ?_⟩
    rw [censusUpReceive_report ha hk, reportReceive_early _ _ _ _ (by rwa [census_frameTaken]) (by simpa using hlca)
      (by simpa using hnamed)]
    refine ⟨by simp, (otherPorts_frameTaken p h s).trans (otherPorts_of_ports_eq p (by simp)), ?_⟩
    exact ((only_frameTaken p h s).mono (by decide)).trans (by simp [Only])
  case kept =>
    intro p h ep f i c n s ha hk hi hc hne hg
    subst hi
    refine ⟨_, rfl, ?_⟩
    rw [censusUpReceive_report ha hk, reportReceive_kept p ep f c n _ (by rwa [census_frameTaken]) hne
      (by rw [← hg]; simp [censusGroup, groupOf, State.served])]
    refine ⟨?_, (otherPorts_frameTaken p h s).trans (otherPorts_of_ports_eq p (by simp [modCensus])), ?_⟩
    · rw [census_modCensus_same _ _ _ fun _ => by rfl, census_frameTaken, hc, Option.map_some]
    · exact ((only_frameTaken p h s).mono (by decide)).trans (by simp [Only])

end Sys2Proof.Machine
end

section
/-!
PROOFS. The events and the hall scorecards that commits leave as they are (R183, R307, R310, R322).
-/

namespace Sys2Proof.Machine

/-- No event of a DX-D is cleared. -/
def EventsKept (s t : State) : Prop := ∀ pg b, eventSet .dxd pg b s → eventSet .dxd pg b t

theorem EventsKept.trans {s t u : State} (h : EventsKept s t) (h' : EventsKept t u) : EventsKept s u :=
  fun pg b hs => h' pg b (h pg b hs)

theorem eventsKept_refl (s : State) : EventsKept s s := fun _ _ h => h

theorem eventsKept_of_pgEvent_eq {s t : State} (h : t.dc.pgEvent = s.dc.pgEvent) : EventsKept s t :=
  fun _ _ hs => (eventSet_congr (by rw [com_dxd, com_dxd, h])).mpr hs

theorem eventsKept_raise (pg b : Nat) (s : State) : EventsKept s (raise .dxd pg b s) :=
  fun qg c hs => eventSet_raise_of .dxd .dxd pg qg b c s hs

theorem eventsKept_raiseIf (c : Bool) (pg b : Nat) (s : State) : EventsKept s (raiseIf c .dxd pg b s) := by
  unfold raiseIf
  split
  · exact eventsKept_raise pg b s
  · exact eventsKept_refl s

theorem eventsKept_pauseEvery (f : Job → Job) (s : State) : EventsKept s (pauseEvery f s) := by
  unfold pauseEvery
  exact .trans (eventsKept_of_pgEvent_eq (by simp)) (eventsKept_raiseIf _ _ _ _)

theorem eventsKept_ledgerWatch (s : State) : EventsKept s (ledgerWatch s) := by
  have hlow : EventsKept s (if ledgerFree s.x.lg < 256 then raise .dxd 0x15 1 s else s) := by
    split
    · exact eventsKept_raise _ _ s
    · exact eventsKept_refl s
  unfold ledgerWatch
  dsimp only
  split
  · exact hlow.trans (eventsKept_pauseEvery _ _)
  · exact hlow

theorem eventsKept_ledgerAppend (ty attempt step epoch value : Nat) (data : List Byte) (ckpt : Bool) (s : State) :
    EventsKept s (ledgerAppend ty attempt step epoch value data ckpt s) := by
  unfold ledgerAppend
  split
  · exact eventsKept_refl s
  · exact .trans (eventsKept_of_pgEvent_eq (by simp)) (eventsKept_ledgerWatch _)

theorem eventsKept_noteBench (kind target reason : Nat) (s : State) : EventsKept s (noteBench kind target reason s) := by
  have hsent : EventsKept s (raise .dxd 0x14 1 (modRef (fun r => { r with
      benchReason := reason, benchKind := kind, benchTarget := target }) s)) :=
    .trans (eventsKept_of_pgEvent_eq (by simp)) (eventsKept_raise _ _ _)
  unfold noteBench
  dsimp only
  split
  · exact hsent.trans (.trans (eventsKept_of_pgEvent_eq (by simp)) (eventsKept_raise _ _ _))
  · exact hsent

theorem eventsKept_sendMsg (m : LedgerMsg) (s : State) : EventsKept s (sendMsg m s) := by
  have hqueued : EventsKept s (sendTwin m.frame
      (enqueueAll .dxd (m.ports.filter (fun p => (s.port .dxd p).st == 5)) none m.frame s)) :=
    eventsKept_of_pgEvent_eq (dc_pgEvent_eq (by simp [but]))
  refine hqueued.trans ?_
  rw [sendMsg]
  unfold noteSent
  split
  · next b _ => exact (eventsKept_noteBench b.kind b.target b.reason _).trans (eventsKept_of_pgEvent_eq (dc_pgEvent_eq (by simp [but])))
  · exact eventsKept_refl _

theorem eventsKept_flushMsgs (n : Nat) (s : State) : EventsKept s (flushMsgs n s) := by
  induction n generalizing s with
  | zero => exact eventsKept_refl s
  | succ n ih =>
    unfold flushMsgs
    split
    · split
      · exact .trans (.trans (eventsKept_of_pgEvent_eq (by simp)) (eventsKept_sendMsg _ _)) (ih _)
      · exact eventsKept_refl s
    · exact eventsKept_refl s

theorem eventsKept_afterLedger (ep : Nat) (f : Frame) (s : State) : EventsKept s (afterLedger ep f s) :=
  .trans (eventsKept_of_pgEvent_eq (by simp [afterLedgerTo])) (eventsKept_flushMsgs _ _)

/-! The hall scorecards of the steps. -/

/-- What finds a step's hall scorecard at the acting referee. -/
def Job.hallKey (b : Job) : Nat × Bool × List (Nat × Nat × Nat × Option (List Byte)) :=
  (b.epoch, decide (1 ≤ b.state ∧ b.state ≤ 4), b.steps.map (fun x => (x.step, x.attempt, x.epoch, x.hall)))

/-- Every job keeps its epoch and its steps' hall scorecards, and goes on. -/
def HallsKept (s t : State) : Prop := t.x.rf2.jobs.map Job.hallKey = s.x.rf2.jobs.map Job.hallKey

theorem HallsKept.trans {s t u : State} (h : HallsKept s t) (h' : HallsKept t u) : HallsKept s u := Eq.trans h' h

theorem JobsKept.halls {s t : State} (h : JobsKept s t) : HallsKept s t := by
  have := congrArg (List.map fun k : Nat × Nat × Bool × List RStep =>
    (k.2.1, k.2.2.1, k.2.2.2.map (fun x => (x.step, x.attempt, x.epoch, x.hall)))) h
  rwa [List.map_map, List.map_map] at this

theorem hall_rstep (s : State) (ep step attempt : Nat) : (s.rstep ep step attempt).map (·.hall) =
    (s.x.rf2.jobs.map Job.hallKey).findSome? (fun k => if k.1 == ep && k.2.1 then
      (k.2.2.find? (fun x => x.1 == step && x.2.1 == attempt && x.2.2.1 == ep)).map (·.2.2.2) else none) := by
  rw [State.rstep, List.map_findSome?, List.findSome?_map]
  refine congrArg (fun F => List.findSome? F s.x.rf2.jobs) (funext fun b => ?_)
  simp only [Function.comp_apply, Job.hallKey, List.find?_map, Option.map_map]
  split <;> rfl

theorem HallsKept.rstep {s t : State} (h : HallsKept s t) (ep step attempt : Nat) :
    (t.rstep ep step attempt).map (·.hall) = (s.rstep ep step attempt).map (·.hall) := by
  rw [hall_rstep, hall_rstep, h]

theorem hallsKept_modJob (j : Nat) (f : Job → Job) (s : State) (hf : ∀ b, (f b).hallKey = b.hallKey) :
    HallsKept s (modJob j f s) :=
  map_listModify _ fun b _ => hf b

/-- The step of a job that commits. -/
def markCommitting (r : RStep) (b : Job) : Job :=
  { b with steps := b.steps.map (fun q =>
    if q.step == r.step && q.attempt == r.attempt then { q with committing := true } else q) }

theorem hallKey_markCommitting (r : RStep) (b : Job) : (markCommitting r b).hallKey = b.hallKey := by
  refine Prod.ext rfl (Prod.ext rfl ?_)
  rw [Job.hallKey, markCommitting, List.map_map]
  refine List.map_congr_left fun q _ => ?_
  rw [Function.comp_apply]
  split <;> rfl

/-- A commit at the acting referee: its record, its COMMITTED message and its mark (R183, R308). -/
def commitStep (j : Nat) (r : RStep) (h : List Byte) (s : State) : State :=
  let dn : CensusDnF := ⟨1, r.step % 8, r.step, r.attempt, 2, 0⟩
  modJob j (markCommitting r) (noteOutcome r.epoch dn (afterLedger r.epoch ⟨r.epoch, .censusDn dn⟩
    (ledgerAppend 6 r.attempt r.step r.epoch 0 h r.checkpoint s)))

theorem hallsKept_commitStep (j : Nat) (r : RStep) (h : List Byte) (s : State) : HallsKept s (commitStep j r h s) := by
  have hsent : HallsKept s (afterLedger r.epoch ⟨r.epoch, .censusDn ⟨1, r.step % 8, r.step, r.attempt, 2, 0⟩⟩
      (ledgerAppend 6 r.attempt r.step r.epoch 0 h r.checkpoint s)) :=
    ((jobsKept_ledgerAppend ..).trans (jobsKept_afterLedger ..)).halls
  exact hsent.trans (hallsKept_modJob j _ _ (hallKey_markCommitting r))

theorem eventsKept_commitStep (j : Nat) (r : RStep) (h : List Byte) (s : State) : EventsKept s (commitStep j r h s) := by
  have hsent : EventsKept s (afterLedger r.epoch ⟨r.epoch, .censusDn ⟨1, r.step % 8, r.step, r.attempt, 2, 0⟩⟩
      (ledgerAppend 6 r.attempt r.step r.epoch 0 h r.checkpoint s)) :=
    EventsKept.trans (eventsKept_ledgerAppend _ _ _ _ _ _ _ s) (eventsKept_afterLedger _ _ _)
  exact hsent.trans (eventsKept_of_pgEvent_eq rfl)

/-- Commits take no scorecard and no event away. -/
theorem commitSteps_keeps (j : Nat) (s : State) : HallsKept s (commitSteps j s) ∧ EventsKept s (commitSteps j s) := by
  unfold commitSteps
  split
  · exact ⟨rfl, eventsKept_refl s⟩
  · refine foldl_keeps (fun u => HallsKept s u ∧ EventsKept s u) (fun u r _ ⟨hh, he⟩ => ?_) ⟨rfl, eventsKept_refl s⟩
    dsimp only
    split
    · next h _ =>
      split
      · exact ⟨hh.trans (hallsKept_commitStep j r h u), he.trans (eventsKept_commitStep j r h u)⟩
      · exact ⟨hh, he⟩
    · exact ⟨hh, he⟩

end Sys2Proof.Machine
end

section
/-!
PROOFS. SCORE at a DX-D (R71, R277, R279 to R281, R289): O39.
-/

namespace Sys2Proof.Machine

/-! Combinations (R281). -/

theorem combo_is (s : State) (ep step attempt : Nat) :
    (s.combo ep step attempt).epoch = ep ∧ (s.combo ep step attempt).step = step ∧
      (s.combo ep step attempt).attempt = attempt := by
  rw [State.combo]
  cases h : s.x.tl.combos.find? (fun c => c.is ep step attempt) with
  | none => exact ⟨rfl, rfl, rfl⟩
  | some c => simpa [Combine.is, and_assoc] using List.find?_some h

theorem combo_putCombo (c : Combine) (s : State) : (putCombo c s).combo c.epoch c.step c.attempt = c := by
  have hgone : (s.x.tl.combos.filter (fun x => !x.is c.epoch c.step c.attempt)).find?
      (fun x => x.is c.epoch c.step c.attempt) = none := by
    simp [List.find?_eq_none]
  rw [State.combo, putCombo, modScores_x, List.find?_append, hgone, Option.none_or,
    List.find?_cons_of_pos (by simp [Combine.is]), Option.getD_some]

theorem combo_congr {s t : State} (h : t.x.tl.combos = s.x.tl.combos) (ep step attempt : Nat) :
    t.combo ep step attempt = s.combo ep step attempt := by
  rw [State.combo, h, State.combo]

/-- A fragment of a step that is armed here, which its port has not sent yet. -/
structure NewFragment (p ep : Nat) (f : ScoreF) (v : Served) (step : Nat) (c : Combine) (s : State) : Prop where
  served : s.served ep = some v
  armed : scoreStep s ep f.attempt f.step16 = some step
  combo : c = s.combo ep step f.attempt
  noValue : c.vals.all (fun x => x.1 != p) = true
  first : c.frags.all (fun x => x.1 != p || x.2.1 != f.fragment) = true
  sound : p ∉ c.corrupt

/-- The combination with the fragment. -/
def withFragment (p : Nat) (f : ScoreF) (c : Combine) : Combine := { c with frags := c.frags ++ [(p, f.fragment, f.data)] }

section
variable {p ep step : Nat} {f : ScoreF} {v : Served} {c : Combine} {s : State} (hf : NewFragment p ep f v step c s)
include hf

theorem NewFragment.congr {t : State} (hx : t.x = s.x) : NewFragment p ep f v step c t :=
  ⟨by rw [← hf.served]; simp only [State.served, hx], by rw [← hf.armed]; simp only [scoreStep, hx],
    by rw [hf.combo]; simp only [State.combo, hx], hf.noValue, hf.first, hf.sound⟩

theorem NewFragment.epoch_eq : c.epoch = ep := by rw [hf.combo]; exact (combo_is s ep step f.attempt).1
theorem NewFragment.step_eq : c.step = step := by rw [hf.combo]; exact (combo_is s ep step f.attempt).2.1
theorem NewFragment.attempt_eq : c.attempt = f.attempt := by rw [hf.combo]; exact (combo_is s ep step f.attempt).2.2

/-- What is put back for the step is its combination. -/
theorem NewFragment.combo_putCombo {c' : Combine} (u : State) (h : c'.epoch = c.epoch ∧ c'.step = c.step ∧ c'.attempt = c.attempt) :
    (putCombo c' u).combo ep step f.attempt = c' := by
  rw [← hf.epoch_eq, ← hf.step_eq, ← hf.attempt_eq, ← h.1, ← h.2.1, ← h.2.2, Machine.combo_putCombo]

theorem NewFragment.fresh : ¬(c.vals.any (fun x => x.1 == p) ∨ c.frags.any (fun x => x.1 == p && x.2.1 == f.fragment) ∨
    c.corrupt.contains p) := by
  have h1 := hf.noValue
  have h2 := hf.first
  have h3 := hf.sound
  simp only [List.all_eq_true, bne_iff_ne, Bool.or_eq_true] at h1 h2
  simp only [List.any_eq_true, beq_iff_eq, Bool.and_eq_true, List.contains_iff_mem, not_or, not_exists, not_and]
  exact ⟨h1, fun x hx hp => (h2 x hx).resolve_left (not_not_intro hp), h3⟩

/-- A member's fragment at a package DX-D. -/
theorem scoreTake_lane (hr : s.x.straps.role = 0) (hk : f.kind = 0) :
    scoreTake p ep f s = scoreFromLane p v (withFragment p f c) s := by
  rw [scoreTake, hf.served, hf.armed]
  dsimp only
  rw [if_neg (by omega), if_neg (by omega), ← hf.combo, if_neg hf.fresh, if_pos hr]
  rfl

/-- A child's fragment above the package level. -/
theorem scoreTake_child (hr : s.x.straps.role ≠ 0) (hk : f.kind = 1) (hp : p ∈ v.ports) (h192 : p < 192) :
    scoreTake p ep f s = scoreFromChild p v (withFragment p f c) s := by
  rw [scoreTake, hf.served, hf.armed]
  dsimp only
  rw [if_neg (by simp [hp, h192]), if_neg (by omega), ← hf.combo, if_neg hf.fresh, if_neg hr]
  rfl

end

/-! An accepted fragment (R71). -/

theorem scoreReceive_below {p : Nat} {h : LinkHdr} {ep : Nat} {f : ScoreF} {s : State}
    (ha : Accepts .dxd p h ⟨ep, .score f⟩ s) (hr : s.x.straps.role ≠ 2) :
    scoreReceive p h ep f s = scoreTake p ep f (frameTaken p h s) := by
  rw [scoreReceive, recvRetained_accepts .dxd p h _ _ s ha, ← frameTaken, if_neg (by rwa [frameTaken_x])]

theorem scoreStep_frameTaken (p : Nat) (h : LinkHdr) (s : State) (ep attempt s16 : Nat) :
    scoreStep (frameTaken p h s) ep attempt s16 = scoreStep s ep attempt s16 := by
  simp [scoreStep]

/-- A root member takes the first copy (R71). -/
theorem scoreReceive_root {p : Nat} {h : LinkHdr} {ep : Nat} {f : ScoreF} {step : Nat} {s : State}
    (ha : Accepts .dxd p h ⟨ep, .score f⟩ s) (hr : s.x.straps.role = 2)
    (hst : scoreStep s ep f.attempt f.step16 = some step)
    (hu : Unseen .dxd (.score ep f.kind f.fragment step f.attempt p) s) :
    ∃ l, scoreReceive p h ep f s = scoreTake p ep f (modCom .dxd (fun c => { c with seen := l }) (frameTaken p h s)) := by
  rw [scoreReceive, recvRetained_accepts .dxd p h _ _ s ha, ← frameTaken, if_pos (by rwa [frameTaken_x]),
    scoreStep_frameTaken, hst]
  exact bySeen_unseen _ _ _ _ (unseen_congr hu rfl rfl)

/-- An accepted fragment of an unseen copy is taken, with the link fields and the copies seen changed before. -/
theorem scoreReceive_taken {p : Nat} {h : LinkHdr} {ep : Nat} {f : ScoreF} {step : Nat} {s : State}
    (ha : Accepts .dxd p h ⟨ep, .score f⟩ s) (hst : scoreStep s ep f.attempt f.step16 = some step)
    (hu : Unseen .dxd (.score ep f.kind f.fragment step f.attempt p) s) :
    ∃ u, scoreReceive p h ep f s = scoreTake p ep f u ∧ u.x = s.x ∧ Only [.com .dxd .ports, .com .dxd .seen] s u := by
  have htaken : Only [.com .dxd .ports, .com .dxd .seen] s (frameTaken p h s) := (only_frameTaken p h s).mono (by decide)
  by_cases hr : s.x.straps.role = 2
  · obtain ⟨l, hl⟩ := scoreReceive_root ha hr hst hu
    exact ⟨_, hl, by simp, htaken.trans (by simp [Only, Com.blank])⟩
  · exact ⟨_, scoreReceive_below ha hr, by simp, htaken⟩

/-- A fragment of a step that is not armed here is dropped. -/
theorem scoreTake_unarmed (p ep : Nat) (f : ScoreF) (s : State) (hst : scoreStep s ep f.attempt f.step16 = none) :
    scoreTake p ep f s = s := by
  rw [scoreTake, hst]
  split
  · next h => exact absurd h (by simp)
  · rfl

theorem scoreReceive_unarmed {p : Nat} {h : LinkHdr} {ep : Nat} {f : ScoreF} {s : State}
    (ha : Accepts .dxd p h ⟨ep, .score f⟩ s) (hst : scoreStep s ep f.attempt f.step16 = none) :
    scoreReceive p h ep f s = frameTaken p h s := by
  have hst' : scoreStep (frameTaken p h s) ep f.attempt f.step16 = none := (scoreStep_frameTaken ..).trans hst
  rw [scoreReceive, recvRetained_accepts .dxd p h _ _ s ha, ← frameTaken, hst', scoreTake_unarmed p ep f _ hst']
  exact ite_self _

/-- A value from a port that serves no member is stray (R281). -/
theorem scoreTake_stray {p ep step : Nat} {f : ScoreF} {v : Served} {s : State} (hv : s.served ep = some v)
    (hst : scoreStep s ep f.attempt f.step16 = some step) (hk : f.kind = 1) (hp : p ∉ v.ports ∨ 192 ≤ p) :
    scoreTake p ep f s = modScores (fun t => { t with stray := sat16 (t.stray + 1) }) s := by
  rw [scoreTake, hv, hst]
  dsimp only
  rw [if_pos ⟨hk, by simpa [or_comm] using hp⟩]

/-! A value goes up (R279, R280). -/

/-- Both fragments of the value wait to leave. -/
theorem queued_sendValue (c : Combine) (v : List Byte) (s : State) (i : Nat) (hi : i < 2) :
    Queued .dxd (upPort s) ⟨c.epoch, .score ⟨i, 1, c.attempt, c.step % 65536, sub v (16 * i) 16⟩⟩ (sendValue c v s) := by
  have hup : ∀ q src f, upPort (enqueue .dxd q src f (closeCombo c s)) = upPort s := fun q src f =>
    (linksKept_enqueue .dxd q src f (closeCombo c s)).upPort (by simp [closeCombo])
  rw [sendValue, show upTo 2 = [0, 1] from rfl, List.foldl_cons, List.foldl_cons, List.foldl_nil, hup]
  rcases (by omega : i = 0 ∨ i = 1) with rfl | rfl
  · exact queued_enqueue_of _ _ _ _ _ _ _ (queued_enqueue _ _ _ _ _ (.inr rfl)) rfl
  · exact queued_enqueue _ _ _ _ _ (.inr rfl)

/-! What a package DX-D makes of a fragment (R277, R279, R289). -/

/-- The combination once a port's scorecard or value is complete. -/
def withoutFragments (p : Nat) (c : Combine) : Combine := { c with frags := c.frags.filter (fun f => f.1 != p) }

/-- The combination with a port's value. -/
def withValue (p n : Nat) (c : Combine) : Combine := { withoutFragments p c with vals := c.vals ++ [(p, n)] }

/-- The combination that holds no scorecard of a port, since its COMBINED is wrong. -/
def withCorrupt (p : Nat) (c : Combine) : Combine := { withoutFragments p c with corrupt := c.corrupt ++ [p] }

section
variable (p : Nat) (v : Served) (c : Combine) (s : State)

theorem scoreFromLane_partial (h : fragBytes c p 8 = none) : scoreFromLane p v c s = putCombo c s := by
  rw [scoreFromLane, h]

theorem scoreFromLane_corrupt {card : List Byte} {die : Nat} (h : fragBytes c p 8 = some card) (hd : laneDie v p = some die)
    (hc : sub card 96 32 ≠ combinedOf die card) : scoreFromLane p v c s =
      raise .dxd 0x09 0 (modScores (fun t => { t with corrupt := sat16 (t.corrupt + 1) })
        (putCombo (withCorrupt p c) s)) := by
  rw [scoreFromLane, h, hd]
  dsimp only
  rw [if_neg hc]
  rfl

theorem scoreFromLane_sound {card : List Byte} {die : Nat} (h : fragBytes c p 8 = some card) (hd : laneDie v p = some die)
    (hc : sub card 96 32 = combinedOf die card) : scoreFromLane p v c s =
      packageDone v (withValue p (natBE (sub card 96 32)) c) (putCombo (withValue p (natBE (sub card 96 32)) c) s) := by
  rw [scoreFromLane, h, hd]
  dsimp only
  rw [if_pos hc]
  rfl

theorem packageDone_waits (h : ∃ m, m ∈ v.members ∧ c.vals.all (fun x => x.1 != m.port) = true) : packageDone v c s = s := by
  obtain ⟨m, hm, hv⟩ := h
  rw [packageDone]
  dsimp only
  rw [if_pos]
  rw [Bool.or_eq_true, List.any_eq_true]
  exact .inr ⟨m.port, by simpa using ⟨m, hm, rfl⟩, by simpa [List.all_eq_not_any_not] using hv⟩

/-- The engine digest of a package whose members' scorecards are all held (R279). -/
def packageDigest (v : Served) (c : Combine) : List Byte :=
  engineDigest c.step ((v.members.head?.map (fun m => m.die / 256 * 256)).getD 0)
    (((v.members.map (·.port)).mergeSort (· ≤ ·)).map (fun q =>
      bytesBE 32 (((c.vals.find? (fun x => x.1 == q)).map (·.2)).getD 0)))

theorem packageDone_full (hne : v.members ≠ []) (h : ∀ m, m ∈ v.members → c.vals.any (fun x => x.1 == m.port) = true) :
    packageDone v c s = sendValue c (packageDigest v c) s := by
  rw [packageDone]
  dsimp only
  rw [if_neg]
  · rfl
  rw [Bool.or_eq_true, not_or, List.any_eq_true]
  refine ⟨by simpa [List.isEmpty_iff, ← List.length_eq_zero_iff] using hne, fun ⟨q, hq, hv⟩ => ?_⟩
  obtain ⟨m, hm, rfl⟩ := List.mem_map.mp ((List.mergeSort_perm _ _).mem_iff.mp hq)
  rw [h m hm] at hv
  exact absurd hv (by decide)

/-! What a DX-D above makes of a child's value (R280). -/

theorem scoreFromChild_whole {b : List Byte} (h : fragBytes c p 2 = some b) : scoreFromChild p v c s =
    sumDone v (withValue p (natBE b) c) (putCombo (withValue p (natBE b) c) s) := by
  rw [scoreFromChild, h]
  rfl

theorem sumDone_waits (h : ∃ q, q ∈ v.ports ∧ c.vals.all (fun x => x.1 != q) = true) : sumDone v c s = s := by
  obtain ⟨q, hq, hv⟩ := h
  rw [sumDone, if_pos]
  rw [Bool.or_eq_true, List.any_eq_true]
  exact .inr ⟨q, hq, by simpa [List.all_eq_not_any_not] using hv⟩

/-- The sum of the children's values (R280). -/
def childSum (c : Combine) : Nat := (c.vals.foldl (fun n x => n + x.2) 0) % 2 ^ 256

section
variable (hp : p ∈ v.ports) (h : ∀ q, q ∈ v.ports → c.vals.any (fun x => x.1 == q) = true)
include hp h

theorem noneMissing : ¬(v.ports.isEmpty || v.ports.any (fun p => !c.vals.any (fun x => x.1 == p))) = true := by
  rw [Bool.or_eq_true, not_or, List.any_eq_true]
  refine ⟨by simpa using List.ne_nil_of_mem hp, fun ⟨q, hq, hv⟩ => ?_⟩
  rw [h q hq] at hv
  exact absurd hv (by decide)

theorem sumDone_passed (hr : s.x.straps.role ≠ 2) : sumDone v c s = sendValue c (bytesBE 32 (childSum c)) s := by
  rw [sumDone, if_neg (noneMissing p v c hp h)]
  dsimp only
  rw [if_pos hr, childSum]

/-- The acting referee's hall scorecard of a step (R280). -/
def withHall (c : Combine) (card : List Byte) (s : State) : State :=
  modScores (fun t => { t with hallValid := true, hallStep := c.step, hall := card })
    (modRStep c.epoch c.step c.attempt (fun x => { x with hall := some card }) (closeCombo c s))

theorem sumDone_hall {j : Job} {r : RStep} (hroot : rootActs s = true) (hj : jobOfEpoch s c.epoch = some j)
    (hr : s.rstep c.epoch c.step c.attempt = some r) (hacc : r.accepted = true) : sumDone v c s =
      commitSteps j.slot (raise .dxd 0x09 1 (withHall c (hallCard c.step j.engines j.ws (childSum c)) s)) := by
  have hrole : s.x.straps.role = 2 := by
    rw [rootActs, Bool.and_eq_true, beq_iff_eq] at hroot
    exact hroot.1
  have hj' : (closeCombo c s).x.rf2.jobs.find? (fun b => b.epoch == c.epoch && decide (1 ≤ b.state ∧ b.state ≤ 4)) =
    some j := hj
  have hr' : (closeCombo c s).rstep c.epoch c.step c.attempt = some r := hr
  rw [sumDone, if_neg (noneMissing p v c hp h)]
  dsimp only
  rw [if_neg (by simp [hrole]), if_neg (by simp [hroot]), hj']
  dsimp only
  rw [hr']
  dsimp only
  rw [if_neg (by simp [hacc])]
  rfl

end

end

/-- Below the root a sum changes its combination and what waits to leave. -/
theorem only_sumDone_below (v : Served) (c : Combine) (s : State) (hr : s.x.straps.role ≠ 2) :
    Only [.com .dxd .ports, .scores] s (sumDone v c s) := by
  rw [sumDone]
  dsimp only
  rw [if_pos hr]
  split <;> simp [Only]

theorem upPort_putCombo (c : Combine) (p : Nat) (h : LinkHdr) (s : State) :
    upPort (putCombo c (frameTaken p h s)) = upPort s :=
  ((linksKept_frameTaken p h s).trans (linksKept_of_ports_eq (by simp [putCombo]))).upPort (by simp [putCombo])

section
variable {p ep step n : Nat} {f : ScoreF} {v : Served} {c : Combine} {s : State} (hf : NewFragment p ep f v step c s)
include hf

theorem NewFragment.withValue_epoch : (withValue p n (withFragment p f c)).epoch = ep := hf.epoch_eq
theorem NewFragment.withValue_step : (withValue p n (withFragment p f c)).step = step := hf.step_eq
theorem NewFragment.withValue_attempt : (withValue p n (withFragment p f c)).attempt = f.attempt := hf.attempt_eq

theorem NewFragment.packageDigest_withValue (w : Served) : packageDigest w (withValue p n (withFragment p f c)) =
    engineDigest step ((w.members.head?.map (fun m => m.die / 256 * 256)).getD 0)
      (((w.members.map (·.port)).mergeSort (· ≤ ·)).map (fun q =>
        bytesBE 32 ((((c.vals ++ [(p, n)]).find? (fun x => x.1 == q)).map (·.2)).getD 0))) := by
  rw [packageDigest, hf.withValue_step]
  rfl

end

/-- The hall scorecard stays with its step and in the page while the step commits. -/
theorem hall_committed (j : Nat) (c : Combine) (card : List Byte) (r : RStep) (s : State)
    (hr : s.rstep c.epoch c.step c.attempt = some r) :
    let t := commitSteps j (raise .dxd 0x09 1 (withHall c card s))
    t.x.tl.hallValid = true ∧ t.x.tl.hallStep = c.step ∧ t.x.tl.hall = card ∧
      (∃ q, t.rstep c.epoch c.step c.attempt = some q ∧ q.hall = some card) ∧ eventSet .dxd 0x09 1 t := by
  intro t
  obtain ⟨hhalls, hevents⟩ := commitSteps_keeps j (raise .dxd 0x09 1 (withHall c card s))
  have htl : t.x.tl = (withHall c card s).x.tl := by
    have h1 : t.x.tl = (raise .dxd 0x09 1 (withHall c card s)).x.tl := x_tl_eq (by simp [t, but])
    rw [h1, raise_x]
  have hwith : (withHall c card s).rstep c.epoch c.step c.attempt = some { r with hall := some card } := by
    have hstep := rstep_modRStep c.epoch c.step c.attempt (fun x => { x with hall := some card }) (closeCombo c s)
      fun _ => ⟨rfl, rfl, rfl⟩
    rwa [show (closeCombo c s).rstep c.epoch c.step c.attempt = some r from hr] at hstep
  have hraised : (raise .dxd 0x09 1 (withHall c card s)).rstep c.epoch c.step c.attempt =
      some { r with hall := some card } := by rw [State.rstep, raise_x]; exact hwith
  refine ⟨by rw [htl]; rfl, by rw [htl]; rfl, by rw [htl]; rfl, ?_, ?_⟩
  · have hkept := hhalls.rstep c.epoch c.step c.attempt
    rw [hraised, Option.map_some, Option.map_eq_some_iff] at hkept
    exact hkept
  · exact hevents _ _ (eventSet_raise .dxd 0x09 1 _ ⟨by simp [pageSt, pageStDxd], by decide⟩ (by decide))

/-- Settles O39: each clause from what the accepted fragment makes of its step's combination. -/
theorem scores : Obligations.Scores := by
  unfold Obligations.Scores
  refine ⟨?fragment, ?corrupt, ?package, ?child, ?hall, ?stray, ?unarmed⟩
  case fragment =>
    intro p h ep f v step c s ha hr hk hv hst hc hval hfirst hsound hnone
    have hf : NewFragment p ep f v step c s := ⟨hv, hst, hc, hval, hfirst, hsound⟩
    refine ⟨_, rfl, ?_⟩
    rw [scoreReceive_below ha (by omega), scoreTake_lane (hf.congr (frameTaken_x ..)) (by simpa using hr) hk,
      scoreFromLane_partial p v (withFragment p f c) _ hnone]
    exact ⟨hf.combo_putCombo (c' := withFragment p f c) _ ⟨rfl, rfl, rfl⟩, ((only_frameTaken p h s).mono (by decide)).trans (by simp [Only])⟩
  case corrupt =>
    intro p h ep f v step c card die s ha hr hk hv hst hc hval hfirst hsound hcard hdie hbad
    have hf : NewFragment p ep f v step c s := ⟨hv, hst, hc, hval, hfirst, hsound⟩
    refine ⟨_, rfl, ?_⟩
    rw [scoreReceive_below ha (by omega), scoreTake_lane (hf.congr (frameTaken_x ..)) (by simpa using hr) hk,
      scoreFromLane_corrupt p v (withFragment p f c) _ hcard hdie hbad]
    refine ⟨by simp [putCombo], eventSet_raise .dxd 0x09 0 _ ⟨by simp [pageSt, pageStDxd], by decide⟩ (by decide), ?_,
      ((only_frameTaken p h s).mono (by decide)).trans (by simp [Only])⟩
    rw [combo_congr (s := putCombo (withCorrupt p (withFragment p f c)) (frameTaken p h s)) (by rw [raise_x, modScores_x]),
      hf.combo_putCombo (c' := withCorrupt p (withFragment p f c)) _ ⟨rfl, rfl, rfl⟩]
    exact List.mem_append_right _ (List.mem_singleton_self p)
  case package =>
    intro p h ep f v step c card die vals s ha hr hk hv hst hc hval hfirst hsound hcard hdie hgood hvals
    have hf : NewFragment p ep f v step c s := ⟨hv, hst, hc, hval, hfirst, hsound⟩
    have hmember : v.members ≠ [] := fun hnil => by simp [laneDie, hnil] at hdie
    subst hvals
    refine ⟨_, rfl, ?_⟩
    rw [scoreReceive_below ha (by omega), scoreTake_lane (hf.congr (frameTaken_x ..)) (by simpa using hr) hk,
      scoreFromLane_sound p v (withFragment p f c) _ hcard hdie hgood]
    generalize natBE (sub card 96 32) = n
    have honly := (only_frameTaken p h s).mono (V := [.com .dxd .ports, .scores]) (by decide)
    refine ⟨fun hmiss => ?_, fun hfull i hi => ?_, honly.trans (by simp [Only])⟩
    · rw [packageDone_waits v (withValue p n (withFragment p f c)) _ hmiss]
      exact ⟨congrArg Combine.vals (hf.combo_putCombo (c' := withValue p n (withFragment p f c)) _ ⟨rfl, rfl, rfl⟩), honly.trans (by simp [Only])⟩
    · rw [packageDone_full v (withValue p n (withFragment p f c)) _ hmember hfull]
      have hq := queued_sendValue (withValue p n (withFragment p f c))
        (packageDigest v (withValue p n (withFragment p f c)))
        (putCombo (withValue p n (withFragment p f c)) (frameTaken p h s)) i hi
      rw [upPort_putCombo, hf.withValue_epoch, hf.withValue_step, hf.withValue_attempt, hf.packageDigest_withValue] at hq
      rw [hf.packageDigest_withValue]
      exact hq
  case child =>
    intro p h ep f v step c b vals s ha hr hk hv hp h192 hst hc hval hfirst hsound hb hvals
    have hf : NewFragment p ep f v step c s := ⟨hv, hst, hc, hval, hfirst, hsound⟩
    subst hvals
    refine ⟨_, rfl, ?_⟩
    rw [scoreReceive_below ha (by omega), scoreTake_child (hf.congr (frameTaken_x ..)) (by rw [frameTaken_x]; omega) hk hp
      h192, scoreFromChild_whole p v (withFragment p f c) _ hb]
    generalize natBE b = n
    have hrole : (putCombo (withValue p n (withFragment p f c)) (frameTaken p h s)).x.straps.role ≠ 2 := by
      simp [putCombo, hr]
    have honly := (only_frameTaken p h s).mono (V := [.com .dxd .ports, .scores]) (by decide)
    refine ⟨fun hmiss => ?_, fun hfull i hi => ?_, ?_⟩
    · rw [sumDone_waits v (withValue p n (withFragment p f c)) _ hmiss]
      exact congrArg Combine.vals (hf.combo_putCombo (c' := withValue p n (withFragment p f c)) _ ⟨rfl, rfl, rfl⟩)
    · rw [sumDone_passed p v (withValue p n (withFragment p f c)) _ hp hfull hrole]
      have hq := queued_sendValue (withValue p n (withFragment p f c))
        (bytesBE 32 (childSum (withValue p n (withFragment p f c))))
        (putCombo (withValue p n (withFragment p f c)) (frameTaken p h s)) i hi
      rw [upPort_putCombo, hf.withValue_epoch, hf.withValue_step, hf.withValue_attempt] at hq
      exact hq
    · exact (honly.trans (t := putCombo (withValue p n (withFragment p f c)) (frameTaken p h s))
        (by simp [Only])).trans (only_sumDone_below _ _ _ hrole)
  case hall =>
    intro p h ep f v step c b vals j r s ha hroot hk hv hp h192 hst hu hc hval hfirst hsound hb hvals hfull hj hr hacc
    have hf : NewFragment p ep f v step c s := ⟨hv, hst, hc, hval, hfirst, hsound⟩
    subst hvals
    have hrole : s.x.straps.role ≠ 0 := by
      rw [rootActs, Bool.and_eq_true, beq_iff_eq] at hroot
      omega
    have honly : Only [.com .dxd .ports, .com .dxd .pgEvent, .com .dxd .ic, .com .dxd .seen, .kicks, .scores, .ledger,
        .referee] s (scoreReceive p h ep f s) := by
      apply scoreReceive_blank <;> decide
    refine ⟨_, rfl, ?_⟩
    obtain ⟨u, hrecv, hx, -⟩ := scoreReceive_taken ha hst hu
    rw [hrecv, scoreTake_child (hf.congr hx) (by rwa [hx]) hk hp h192, scoreFromChild_whole p v (withFragment p f c) _ hb]
      at honly ⊢
    generalize natBE b = n at honly hfull ⊢
    have hrstep : (putCombo (withValue p n (withFragment p f c)) u).rstep c.epoch c.step c.attempt = some r := by
      rw [hf.epoch_eq, hf.step_eq, hf.attempt_eq, ← hr]
      simp only [State.rstep, putCombo, modScores_x, hx]
    rw [sumDone_hall (j := j) (r := r) p v (withValue p n (withFragment p f c)) _ hp hfull (by rw [← hroot]; simp only [rootActs, putCombo, modScores_x, hx])
      (by rw [← hj]; simp only [jobOfEpoch, putCombo, modScores_x, hx, hf.withValue_epoch]) hrstep hacc] at honly ⊢
    obtain ⟨hvalid, hstep, hcard, hq, hev⟩ := hall_committed j.slot (withValue p n (withFragment p f c))
      (hallCard (withValue p n (withFragment p f c)).step j.engines j.ws
        (childSum (withValue p n (withFragment p f c)))) r _ hrstep
    rw [hf.withValue_epoch, hf.withValue_step, hf.withValue_attempt] at hq
    refine ⟨hvalid, hstep.trans hf.withValue_step, ?_, ?_, hev, honly⟩
    · rw [hcard, hf.withValue_step]
      rfl
    · rw [hcard, hf.withValue_step]
      exact hq
  case stray =>
    intro p h ep f v step s ha hk hv hp hu hst
    refine ⟨_, rfl, ?_⟩
    obtain ⟨u, hrecv, hx, honly⟩ := scoreReceive_taken ha hst hu
    rw [hrecv, scoreTake_stray (v := v) (step := step) (by rw [← hv]; simp only [State.served, hx])
      (by rw [← hst]; simp only [scoreStep, hx]) hk hp]
    exact ⟨by rw [modScores_x, hx], (honly.mono (by decide)).trans (by simp [Only])⟩
  case unarmed =>
    intro p h ep f s ha hst
    refine ⟨_, rfl, ?_⟩
    rw [scoreReceive_unarmed ha hst]
    exact only_frameTaken p h s

end Sys2Proof.Machine
end

section
/-!
PROOFS. One measurement set and the others: what a change and the end of a set leave (R100, R106, R108).
-/

namespace Sys2Proof.Machine

@[simp] theorem mset_modSet_same (d : Dev) (m : Nat) (f : MSet → MSet) (s : State) :
    (modSet d m f s).mset d m = f (s.mset d m) := by
  simp [modSet, State.mset]

theorem mset_modSet_ne (d : Dev) (m j : Nat) (f : MSet → MSet) (s : State) (h : j ≠ m) :
    (modSet d m f s).mset d j = s.mset d j := by
  simp [modSet, State.mset, tabGet_tabMod_ne _ _ _ _ _ h]

@[simp] theorem mset_dropHalf (d e : Dev) (rq m : Nat) (s : State) : (dropHalf d rq s).mset e m = s.mset e m := by
  simp [State.mset]

theorem mset_of_msets_eq {d : Dev} {s t : State} (h : (t.com d).msets = (s.com d).msets) (m : Nat) :
    t.mset d m = s.mset d m := by
  simp only [State.mset, h]

/-- The set `m` becomes `x`; every other set is unchanged. -/
structure SetBecomes (d : Dev) (m : Nat) (x : MSet) (s t : State) : Prop where
  same : t.mset d m = x
  others : ∀ j, j ≠ m → t.mset d j = s.mset d j

theorem setBecomes_of_msets_eq {d : Dev} {s t : State} (m : Nat) (h : (t.com d).msets = (s.com d).msets) :
    SetBecomes d m (s.mset d m) s t :=
  ⟨mset_of_msets_eq h m, fun j _ => mset_of_msets_eq h j⟩

theorem setBecomes_modSet (d : Dev) (m : Nat) (f : MSet → MSet) (s : State) :
    SetBecomes d m (f (s.mset d m)) s (modSet d m f s) :=
  ⟨mset_modSet_same d m f s, fun j hj => mset_modSet_ne d m j f s hj⟩

theorem SetBecomes.trans {d : Dev} {m : Nat} {x y : MSet} {s t u : State} (h : SetBecomes d m x s t)
    (h' : SetBecomes d m y t u) : SetBecomes d m y s u :=
  ⟨h'.same, fun j hj => (h'.others j hj).trans (h.others j hj)⟩

theorem setBecomes_modSet_modSet {d : Dev} {m : Nat} {f g : MSet → MSet} {x : MSet} {s : State}
    (hx : g (f (s.mset d m)) = x) : SetBecomes d m x s (modSet d m g (modSet d m f s)) := by
  have h := setBecomes_modSet d m g (modSet d m f s)
  rw [mset_modSet_same, hx] at h
  exact (setBecomes_modSet d m f s).trans h

theorem only_modSet (d : Dev) (m : Nat) (f : MSet → MSet) (s : State) : Only [.com d .msets] s (modSet d m f s) := by
  cases d
  · exact modSet_tsu_blank m f s (by decide)
  · exact modSet_dxd_blank m f s (by decide)

/-- The parts that the end of a set may change. -/
abbrev endParts (d : Dev) : List Part := [.com d .msets, .com d .pgEvent, .com d .ic]

theorem only_modSet_endParts (d : Dev) (m : Nat) (f : MSet → MSet) (s : State) : Only (endParts d) s (modSet d m f s) :=
  (only_modSet d m f s).mono (by cases d <;> decide)

theorem only_endSet (d : Dev) (m err : Nat) (s : State) : Only (endParts d) s (endSet d m err s) := by
  cases d
  · apply endSet_tsu_blank <;> decide
  · apply endSet_dxd_blank <;> decide

theorem setBecomes_endSet (d : Dev) (m err : Nat) (s : State) :
    SetBecomes d m { s.mset d m with st := 3, error := err } s (endSet d m err s) := by
  have hmod := setBecomes_modSet d m (fun x => { x with st := 3, error := err }) s
  have hraise : ((endSet d m err s).com d).msets =
      ((modSet d m (fun x => { x with st := 3, error := err }) s).com d).msets := by
    unfold endSet
    dsimp only
    split <;> simp only [raise_com_msets]
  have hkept := setBecomes_of_msets_eq m hraise
  rw [hmod.same] at hkept
  exact hmod.trans hkept

theorem setBecomes_endSet_modSet (d : Dev) (m err : Nat) (f : MSet → MSet) (s : State) :
    SetBecomes d m { f (s.mset d m) with st := 3, error := err } s (endSet d m err (modSet d m f s)) := by
  have h := setBecomes_endSet d m err (modSet d m f s)
  rw [mset_modSet_same] at h
  exact (setBecomes_modSet d m f s).trans h

theorem only_endSet_modSet (d : Dev) (m err : Nat) (f : MSet → MSet) (s : State) :
    Only (endParts d) s (endSet d m err (modSet d m f s)) :=
  (only_modSet_endParts d m f s).trans (only_endSet d m err _)

theorem reg_endSet (d : Dev) (m err : Nat) (s : State) (a : Nat) : (endSet d m err s).reg d a = s.reg d a := by
  unfold endSet modSet
  dsimp only
  split <;> cases d <;> simp [State.reg]

/-- The events of interval measurement stand in a page that every device has. -/
theorem eventSet_raiseSet (d : Dev) (b : Nat) (s : State) (hb : b < 64) : eventSet d 0x02 b (raise d 0x02 b s) :=
  eventSet_raise d 0x02 b s ⟨by cases d <;> simp [pageSt, pageStTsu, pageStDxd], by decide⟩ hb

theorem setCount_le (d : Dev) : setCount d ≤ 16 := by cases d <;> decide

/-- A set that ends raises its event (R108). -/
theorem eventSet_endSet {d : Dev} {m : Nat} (err : Nat) (s : State) (hm : m < setCount d) :
    eventSet d 0x02 m (endSet d m err s) := by
  have hb : m < 64 := by have := setCount_le d; omega
  unfold endSet
  dsimp only
  split
  · exact eventSet_raiseSet d m _ hb
  · exact eventSet_raise_of d d 0x02 0x02 (16 + m) m _ (eventSet_raiseSet d m _ hb)

/-- A set that ends with an error raises the event of errors too (R108). -/
theorem eventSet_endSet_error {d : Dev} {m err : Nat} (s : State) (hm : m < setCount d) (he : err ≠ 0) :
    eventSet d 0x02 (16 + m) (endSet d m err s) := by
  have hb : 16 + m < 64 := by have := setCount_le d; omega
  unfold endSet
  dsimp only
  rw [if_neg he]
  exact eventSet_raiseSet d (16 + m) _ hb

end Sys2Proof.Machine
end

section
/-!
PROOFS. What a write of TD_Mm_CTL arms, and how a window and a run end (R100 to R106).
-/

namespace Sys2Proof.Machine

/-! The control of a set (R106). -/

/-- The writable fields of TD_Mm_CTL: CLASS, REPEATS, START and GATE_MS. -/
abbrev setCtlMask : Word := wd [(60, 3), (44, 0xFFFF), (32, 0x1FF), (0, 0xFFFFF)]

/-- The state as a write of `v` into TD_Mm_CTL by requester `rq` leaves it, before ARM acts. -/
def ctlWritten (d : Dev) (rq m : Nat) (v : Word) (s : State) : State := setReg d (setBase m) setCtlMask v (dropHalf d rq s)

theorem measurementArm_taken {d : Dev} {rq m : Nat} {v : Word} {s : State} (hm : m < setCount d) (hv : bit v 63 = true)
    (hw : WriteTaken d rq 0x02 (0x100 + 0x80 * m) s) (h1 : (s.mset d m).st ≠ 1) (h2 : (s.mset d m).st ≠ 2) :
    measurementArm d rq m v s = armSet d m (ctlWritten d rq m v s) := by
  rw [measurementArm, if_pos ⟨hm, hv⟩, admitWrite_taken _ _ _ _ _ _ _ hw, setCtl]
  dsimp only
  rw [mset_dropHalf, if_neg (by omega), if_pos hv]
  rfl

/-- ABORT ends a set that is armed or measures, whatever else is written with it. -/
theorem measurementAbort_taken {d : Dev} {rq m : Nat} {v : Word} {s : State} (hm : m < setCount d) (hv : bit v 62 = true)
    (hw : WriteTaken d rq 0x02 (0x100 + 0x80 * m) s) (hst : (s.mset d m).st = 1 ∨ (s.mset d m).st = 2) :
    measurementAbort d rq m v s = endSet d m 7 (dropHalf d rq s) := by
  rw [measurementAbort, if_pos ⟨hm, hv⟩, admitWrite_taken _ _ _ _ _ _ _ hw, setCtl]
  dsimp only
  rw [mset_dropHalf, if_pos hst, if_pos hv]

section
variable (d : Dev) (rq m : Nat) (v : Word) (s : State)

theorem reg_dropHalf (a : Nat) : (dropHalf d rq s).reg d a = s.reg d a := by
  simp [State.reg]

/-- The registers that hold a set's stops and F_NOM are not written with its control. -/
theorem reg_ctlWritten_ne {a : Nat} (h : a ≠ setBase m) : (ctlWritten d rq m v s).reg d a = s.reg d a := by
  rw [ctlWritten, reg_setReg, if_neg h, reg_dropHalf]

theorem regF_ctlWritten {lo n : Nat} (h : ∀ i, i < n → setCtlMask.toNat.testBit (lo + i) = true) :
    (ctlWritten d rq m v s).regF d (setBase m) lo n = fld v lo n := by
  rw [State.regF, ctlWritten, reg_setReg, if_pos rfl, fld_masked h]

theorem setStart_ctlWritten : setStart d m (ctlWritten d rq m v s) = fld v 32 9 :=
  regF_ctlWritten d rq m v s (by decide)

theorem setClass_ctlWritten : (ctlWritten d rq m v s).regF d (setBase m) 60 2 = fld v 60 2 :=
  regF_ctlWritten d rq m v s (by decide)

theorem setGate_ctlWritten : (ctlWritten d rq m v s).regF d (setBase m) 0 20 = fld v 0 20 :=
  regF_ctlWritten d rq m v s (by decide)

theorem setFnom_ctlWritten : (ctlWritten d rq m v s).regF d (setBase m + 0x18) 0 48 = s.regF d (setBase m + 0x18) 0 48 := by
  rw [State.regF, reg_ctlWritten_ne _ _ _ _ _ (by omega), State.regF]

theorem setStop_ctlWritten (k : Nat) : setStop d m k (ctlWritten d rq m v s) = setStop d m k s := by
  rw [setStop, reg_ctlWritten_ne _ _ _ _ _ (by omega), setStop]

theorem enabledStops_ctlWritten : enabledStops d m (ctlWritten d rq m v s) = enabledStops d m s := by
  simp only [enabledStops, setStop_ctlWritten]

theorem chanGeneral_ctlWritten (ch : Nat) : chanGeneral d (ctlWritten d rq m v s) ch = chanGeneral d s ch := by
  cases d <;> simp [chanGeneral, ctlWritten]

theorem chanFixed_ctlWritten (ch : Nat) : chanFixed d (ctlWritten d rq m v s) ch = chanFixed d s ch := by
  cases d
  · simp [chanFixed, ctlWritten, setReg]
  · simp only [chanFixed, chanGeneral_ctlWritten]

theorem chan_ctlWritten (ch : Nat) : (ctlWritten d rq m v s).chan d ch = s.chan d ch := by
  simp [State.chan, ctlWritten, setReg]

theorem chanPresent_ctlWritten (ch : Nat) : chanPresent d (ctlWritten d rq m v s) ch = chanPresent d s ch := by
  simp only [chanPresent, tapPresent, chanFixed_ctlWritten, chanGeneral_ctlWritten, chan_ctlWritten]

theorem chanTap_ctlWritten (ch : Nat) : chanTap d (ctlWritten d rq m v s) ch = chanTap d s ch := by
  simp only [chanTap, chanGeneral_ctlWritten, chan_ctlWritten]

theorem tk_ctlWritten : ((ctlWritten d rq m v s).com d).tk = (s.com d).tk := by
  simp [ctlWritten, setReg]

theorem mset_ctlWritten (j : Nat) : (ctlWritten d rq m v s).mset d j = s.mset d j := by
  simp [State.mset, ctlWritten, setReg]

theorem only_ctlWritten : Only [.com d .regs] (dropHalf d rq s) (ctlWritten d rq m v s) := by
  cases d
  · exact setReg_tsu_blank _ _ _ _ (by decide)
  · exact setReg_dxd_blank _ _ _ _ (by decide)

end

/-! ARM (R106). -/

section
variable {d : Dev} {m : Nat} {s : State}

/-- The start's channel and those of all enabled stops are present. -/
def ChannelsPresent (d : Dev) (m : Nat) (s : State) : Prop :=
  chanPresent d s (setStart d m s) = true ∧ ∀ k, k ∈ enabledStops d m s → chanPresent d s (setStop d m k s).2 = true

theorem channelsPresent_iff : ChannelsPresent d m s ↔ (!chanPresent d s (setStart d m s) ||
    (enabledStops d m s).any (fun k => !chanPresent d s (setStop d m k s).2)) = false := by
  simp [ChannelsPresent]

/-- A set is armed with its window at the second multiple of 1,024 to come. -/
def armedSet (n fitD : Nat) (s : State) (d : Dev) : MSet :=
  { st := 1, w := nextMult ((s.com d).tk.bc + 1024), n := n, fitD := fitD }

theorem armSet_absent (h : ¬ChannelsPresent d m s) : armSet d m s = endSet d m 2 (modSet d m (fun _ => {}) s) := by
  rw [channelsPresent_iff, Bool.not_eq_false] at h
  rw [armSet, if_pos h]

/-- A class F set with a good gate, an F_NOM and a run of at least three stamps is armed. -/
theorem setBecomes_armSet_fit (h : ChannelsPresent d m s) (hc : s.regF d (setBase m) 60 2 = 1)
    (hg : 1 ≤ s.regF d (setBase m) 0 20) (hg' : s.regF d (setBase m) 0 20 ≤ 1000000)
    (hf : s.regF d (setBase m + 0x18) 0 48 ≠ 0) {run : Nat × Nat} (hrun : fitRun (s.regF d (setBase m) 0 20)
      (s.regF d (setBase m + 0x18) 0 48) (prescale d (chanTap d s (setStart d m s))) = run) (h3 : 3 ≤ run.1) :
    SetBecomes d m (armedSet run.1 run.2 s d) s (armSet d m s) ∧ Only [.com d .msets] s (armSet d m s) := by
  rw [channelsPresent_iff] at h
  rw [armSet]
  dsimp only
  rw [if_neg (by simp [h]), if_neg (by omega), hrun, if_pos hc, if_neg (by omega)]
  exact ⟨setBecomes_modSet_modSet rfl, (only_modSet d m _ s).trans (only_modSet d m _ _)⟩

/-- A class D set with an enabled stop is armed. -/
theorem setBecomes_armSet_difference (h : ChannelsPresent d m s) (hc : s.regF d (setBase m) 60 2 = 0)
    (hstops : enabledStops d m s ≠ []) :
    SetBecomes d m (armedSet 0 0 s d) s (armSet d m s) ∧ Only [.com d .msets] s (armSet d m s) := by
  rw [channelsPresent_iff] at h
  rw [armSet]
  dsimp only
  rw [if_neg (by simp [h]), if_neg (by simp [hc, hstops]), if_neg (by omega)]
  exact ⟨setBecomes_modSet_modSet rfl, (only_modSet d m _ s).trans (only_modSet d m _ _)⟩

end

theorem channelsPresent_ctlWritten (d : Dev) (rq m : Nat) (v : Word) (s : State) :
    ChannelsPresent d m (ctlWritten d rq m v s) ↔ chanPresent d s (fld v 32 9) = true ∧
      ∀ k, k ∈ enabledStops d m s → chanPresent d s (setStop d m k s).2 = true := by
  simp only [ChannelsPresent, chanPresent_ctlWritten, setStart_ctlWritten, enabledStops_ctlWritten, setStop_ctlWritten]

/-- What is said of the sets after the control is written holds from the write on. -/
theorem SetBecomes.of_ctlWritten {d : Dev} {rq m : Nat} {v : Word} {x : MSet} {s t : State}
    (h : SetBecomes d m x (ctlWritten d rq m v s) t) : SetBecomes d m x s t :=
  ⟨h.same, fun j hj => (h.others j hj).trans (mset_ctlWritten d rq m v s j)⟩

theorem only_armed {d : Dev} {rq m : Nat} {v : Word} {s t : State} (h : Only [.com d .msets] (ctlWritten d rq m v s) t) :
    Only (pick d [.com .tsu .msets, .com .tsu .regs] [.com .dxd .msets, .com .dxd .regs, .com .dxd .badAccess,
      .com .dxd .barCap, .com .dxd .barLow]) s t := by
  have hctl := only_ctlWritten d rq m v s
  cases d <;> exact only_of_dropHalf ((hctl.mono (by decide)).trans (h.mono (by decide))) (by decide)

theorem only_armRefused {d : Dev} {rq m : Nat} {v : Word} {s t : State} (h : Only (endParts d) (ctlWritten d rq m v s) t) :
    Only (pick d [.com .tsu .msets, .com .tsu .regs, .com .tsu .pgEvent, .com .tsu .ic] [.com .dxd .msets,
      .com .dxd .regs, .com .dxd .pgEvent, .com .dxd .badAccess, .com .dxd .ic, .com .dxd .barCap, .com .dxd .barLow]) s
      t := by
  have hctl := only_ctlWritten d rq m v s
  cases d <;> exact only_of_dropHalf ((hctl.mono (by decide)).trans (h.mono (by decide))) (by decide)

theorem only_aborted {d : Dev} {rq : Nat} {s t : State} (h : Only (endParts d) (dropHalf d rq s) t) :
    Only (pick d [.com .tsu .msets, .com .tsu .pgEvent, .com .tsu .ic] [.com .dxd .msets, .com .dxd .pgEvent,
      .com .dxd .badAccess, .com .dxd .ic, .com .dxd .barCap, .com .dxd .barLow]) s t := by
  cases d <;> exact only_of_dropHalf (h.mono (by decide)) (by decide)

/-! Windows (R100, R101). -/

theorem windowOpen_due {d : Dev} {m : Nat} {s : State} (hm : m < setCount d) (hheld : setsHeld d s = false)
    (hst : (s.mset d m).st = 1) (hw : (s.mset d m).w ≤ (s.com d).tk.bc) :
    windowOpen d m s = modSet d m (fun x => { x with st := 2 }) s := by
  rw [windowOpen, if_pos ⟨hm, hst, hw, by simp [hheld]⟩]

/-- The repeat of a class D set that measures is over: it holds all its stamps, or its 64,000 beats have passed. -/
structure RepeatOver (d : Dev) (m : Nat) (s : State) : Prop where
  present : m < setCount d
  free : setsHeld d s = false
  measures : (s.mset d m).st = 2
  difference : (s.mset d m).n = 0
  closes : ((s.mset d m).start.isSome = true ∧
      ∀ k, k ∈ enabledStops d m s → (tabGet {} (s.mset d m).stops k).got.isSome = true) ∨
    (s.mset d m).w + 64000 ≤ (s.com d).tk.bc

/-- The set's repeat, closed. -/
def repeatClosed (d : Dev) (m : Nat) (s : State) : MSet := closeRepeat (enabledStops d m s) (s.mset d m)

@[simp] theorem done_repeatClosed (d : Dev) (m : Nat) (s : State) : (repeatClosed d m s).done = (s.mset d m).done + 1 := rfl

section
variable {d : Dev} {m : Nat} {s : State} (h : RepeatOver d m s)
include h

theorem RepeatOver.windowClose_eq : windowClose d m s =
    if (s.mset d m).done < s.regF d (setBase m) 44 16 then
      modSet d m (fun y => { y with st := 1, w := nextMult ((s.com d).tk.bc + 1) })
        (modSet d m (fun _ => repeatClosed d m s) s)
    else endSet d m (if (repeatClosed d m s).count = 0 then 3 else 0) (modSet d m (fun _ => repeatClosed d m s) s) := by
  obtain ⟨hm, hfree, hst, hn, hover⟩ := h
  rw [windowClose]
  dsimp only
  rw [if_pos ⟨hm, by simp [hfree], hst, hn, by simpa using hover⟩]
  change (if (repeatClosed d m s).done < _ then _ else _) = _
  simp only [done_repeatClosed, Nat.add_lt_add_iff_right]
  rfl

/-- While repeats are left, the set waits for the next window (log 35). -/
theorem RepeatOver.again (hmore : (s.mset d m).done < s.regF d (setBase m) 44 16) :
    SetBecomes d m { repeatClosed d m s with st := 1, w := nextMult ((s.com d).tk.bc + 1) } s (windowClose d m s) ∧
      Only [.com d .msets] s (windowClose d m s) := by
  rw [h.windowClose_eq, if_pos hmore]
  exact ⟨setBecomes_modSet_modSet rfl, (only_modSet d m _ s).trans (only_modSet d m _ _)⟩

/-- The last repeat ends the set, with error 3 where no repeat was valid. -/
theorem RepeatOver.last (hlast : s.regF d (setBase m) 44 16 ≤ (s.mset d m).done) :
    SetBecomes d m { repeatClosed d m s with st := 3, error := if (repeatClosed d m s).count = 0 then 3 else 0 } s
        (windowClose d m s) ∧
      eventSet d 0x02 m (windowClose d m s) ∧ Only (endParts d) s (windowClose d m s) := by
  rw [h.windowClose_eq, if_neg (Nat.not_lt.mpr hlast)]
  exact ⟨setBecomes_endSet_modSet d m _ (fun _ => repeatClosed d m s) s, eventSet_endSet _ _ h.present,
    only_endSet_modSet d m _ _ s⟩

end

/-! Runs (R103, R104). -/

section
variable {d : Dev} {m : Nat} {s : State} (hm : m < setCount d) (hfree : setsHeld d s = false) (hst : (s.mset d m).st = 2)
  (hn : 0 < (s.mset d m).n)
include hm hfree hst hn

theorem fitRunComplete_good (hall : (s.mset d m).n ≤ (s.mset d m).count) (hedge : (s.mset d m).voidEdge = false)
    (htime : (s.mset d m).voidTime = false) (hq : 0 < fitQ (s.mset d m).n (s.mset d m).s0 (s.mset d m).s1)
    {r : Int × Int} (hr : fitResult (s.mset d m).n (s.mset d m).fitD (prescale d (chanTap d s (setStart d m s)))
      (s.regF d (setBase m + 0x18) 0 48) (s.mset d m).s0 (s.mset d m).s1 = r) :
    fitRunComplete d m s = endSet d m 0 (modSet d m (fun x => { x with fitY := r.1, fitPpt := r.2 }) s) := by
  rw [fitRunComplete]
  dsimp only
  rw [if_pos ⟨hm, by simp [hfree], hst, hn, .inl hall⟩, if_neg (by simp [hedge, htime, hq]),
    if_neg (by simp [htime]), hr]

/-- A run that is void for an edge and for time shows the edge (log 102). -/
theorem fitRunComplete_void (hvoid : (s.mset d m).voidEdge = true ∨ (s.mset d m).voidTime = true) :
    fitRunComplete d m s = endSet d m (if (s.mset d m).voidEdge then 5 else 6) s := by
  rw [fitRunComplete]
  dsimp only
  rw [if_pos ⟨hm, by simp [hfree], hst, hn, .inr hvoid⟩]
  by_cases hedge : (s.mset d m).voidEdge = true
  · rw [if_pos (.inl hedge), if_pos hedge]
  · have htime := hvoid.resolve_left hedge
    rw [if_neg (by simp [hedge, htime]), if_pos htime, if_neg hedge]

end

/-- Settles O18: ARM by the class that it writes, ABORT, and each way in which a window or a run ends. -/
theorem measurements : Obligations.Measurements := by
  unfold Obligations.Measurements
  refine ⟨?armFit, ?armDifference, ?armAbsent, ?abort, ?opens, ?againAtTimeout, ?lastAtTimeout, ?againWithStamps,
    ?lastWithStamps, ?fitGood, ?fitVoid⟩
  case armFit =>
    intro d rq m v s hm hv hw h1 h2 hc hstart hstops hg hg' hf h3
    refine ⟨_, rfl, ?_⟩
    rw [measurementArm_taken hm hv hw h1 h2]
    obtain ⟨hset, honly⟩ := setBecomes_armSet_fit
      ((channelsPresent_ctlWritten d rq m v s).mpr ⟨hstart, hstops⟩) (by rw [setClass_ctlWritten, hc])
      (by rwa [setGate_ctlWritten]) (by rwa [setGate_ctlWritten])
      (by rwa [setFnom_ctlWritten]) (by rw [setGate_ctlWritten, setFnom_ctlWritten, setStart_ctlWritten, chanTap_ctlWritten])
      h3
    rw [hset.same, armedSet, tk_ctlWritten]
    exact ⟨rfl, rfl, rfl, rfl, rfl, hset.of_ctlWritten.others, only_armed honly⟩
  case armDifference =>
    intro d rq m v s hm hv hw h1 h2 hc hstart hen hstops
    refine ⟨_, rfl, ?_⟩
    rw [measurementArm_taken hm hv hw h1 h2]
    obtain ⟨hset, honly⟩ := setBecomes_armSet_difference
      ((channelsPresent_ctlWritten d rq m v s).mpr ⟨hstart, hstops⟩) (by rw [setClass_ctlWritten, hc])
      (by rwa [enabledStops_ctlWritten])
    rw [hset.same, armedSet, tk_ctlWritten]
    exact ⟨rfl, rfl, rfl, hset.of_ctlWritten.others, only_armed honly⟩
  case armAbsent =>
    intro d rq m v s hm hv hw h1 h2 habsent
    refine ⟨_, rfl, ?_⟩
    have hmissing : ¬ChannelsPresent d m (ctlWritten d rq m v s) := by
      rw [channelsPresent_ctlWritten]
      rintro ⟨hstart, hstops⟩
      rcases habsent with hno | ⟨k, hk, hno⟩
      · simp [hstart] at hno
      · simp [hstops k hk] at hno
    rw [measurementArm_taken hm hv hw h1 h2, armSet_absent hmissing]
    have hset := (setBecomes_endSet_modSet d m 2 (fun _ => {}) (ctlWritten d rq m v s)).of_ctlWritten
    refine ⟨by rw [hset.same], by rw [hset.same], eventSet_endSet 2 _ hm, hset.others,
      only_armRefused (only_endSet_modSet d m 2 _ _)⟩
  case abort =>
    intro d rq m v s hm hv hw hst
    refine ⟨_, rfl, ?_⟩
    rw [measurementAbort_taken hm hv hw hst]
    have hset := setBecomes_endSet d m 7 (dropHalf d rq s)
    exact ⟨by rw [hset.same, mset_dropHalf], eventSet_endSet 7 _ hm,
      fun a => by rw [reg_endSet, reg_dropHalf],
      fun j hj => (hset.others j hj).trans (mset_dropHalf ..), only_aborted (only_endSet d m 7 _)⟩
  case opens =>
    intro d m s hm hfree hst hw
    refine ⟨_, rfl, ?_⟩
    rw [windowOpen_due hm hfree hst hw]
    obtain ⟨hset, hothers⟩ := setBecomes_modSet d m (fun x => { x with st := 2 }) s
    exact ⟨hset, hothers, only_modSet d m _ s⟩
  case againAtTimeout =>
    intro d m s hm hfree hst hn hw hmore
    refine ⟨_, rfl, ?_⟩
    obtain ⟨⟨hset, hothers⟩, honly⟩ := RepeatOver.again ⟨hm, hfree, hst, hn, .inr hw⟩ hmore
    exact ⟨hset, by rw [hset]; rfl, hothers, honly⟩
  case lastAtTimeout =>
    intro d m s hm hfree hst hn hw hlast
    refine ⟨_, rfl, ?_⟩
    obtain ⟨⟨hset, hothers⟩, hevent, honly⟩ := RepeatOver.last ⟨hm, hfree, hst, hn, .inr hw⟩ hlast
    exact ⟨by rw [hset], by rw [hset]; rfl, by rw [hset], hevent, hothers, honly⟩
  case againWithStamps =>
    rintro d m x s rfl hm hfree hst hn hstart hstops hmore
    refine ⟨_, rfl, ?_⟩
    obtain ⟨⟨hset, hothers⟩, honly⟩ := RepeatOver.again ⟨hm, hfree, hst, hn, .inl ⟨hstart, hstops⟩⟩ hmore
    exact ⟨hset, by rw [hset]; rfl, hothers, honly⟩
  case lastWithStamps =>
    rintro d m x s rfl hm hfree hst hn hstart hstops hlast
    refine ⟨_, rfl, ?_⟩
    obtain ⟨⟨hset, hothers⟩, hevent, honly⟩ := RepeatOver.last ⟨hm, hfree, hst, hn, .inl ⟨hstart, hstops⟩⟩ hlast
    exact ⟨by rw [hset], by rw [hset]; rfl, by rw [hset], hevent, hothers, honly⟩
  case fitGood =>
    rintro d m x s rfl hm hfree hst hn hall hedge htime hq
    refine ⟨_, rfl, ?_⟩
    rw [fitRunComplete_good hm hfree hst hn hall hedge htime hq rfl]
    obtain ⟨hset, hothers⟩ := setBecomes_endSet_modSet d m 0 _ s
    exact ⟨by rw [hset], by rw [hset], by rw [hset], eventSet_endSet 0 _ hm, hothers, only_endSet_modSet d m 0 _ s⟩
  case fitVoid =>
    rintro d m x s rfl hm hfree hst hn hvoid
    refine ⟨_, rfl, ?_⟩
    rw [fitRunComplete_void hm hfree hst hn hvoid]
    obtain ⟨hset, hothers⟩ := setBecomes_endSet d m (if (s.mset d m).voidEdge then 5 else 6) s
    exact ⟨hset, eventSet_endSet_error s hm (by split <;> decide), hothers, only_endSet d m _ s⟩

end Sys2Proof.Machine
end

section
/-!
PROOFS. What a selection of the root follows, what it makes of hall time and of HOLDOVER (R114, R115, R126), and the loss of the
oscillator that it leaves as it is (R130).
-/

namespace Sys2Proof.Machine

/-! What the selector keeps. -/

/-- The selector marks or loses the twin, notes it in the history, follows a source and takes a waiting ACTIVE: what these keep, it
keeps (R114). -/
theorem rootSelect_keeps {P : State → Prop} (hsrc : ∀ f u, P u → P (modSrc 0xE f u)) (hhist : ∀ b u, P u → P (history b u))
    (hfollow : ∀ n v u, P u → P (follow n v u)) (htaken : ∀ u, P u → P (modRf (fun r => { r with pendingActive := false }) u))
    {s : State} (hs : P s) : P (rootSelect s) := by
  have hite : ∀ (c : Prop) [Decidable c] {u v : State}, P u → P v → P (if c then u else v) := by
    intro c _ u v hu hv
    split <;> assumption
  have hleave : ∀ u, P u → P (leaveTwin u) := by
    intro u hu
    unfold leaveTwin
    split <;> exact hfollow _ _ u hu
  have hlost : P (sourceLost 0xE s) :=
    hite _ hs (hite _ (hhist 5 _ (hsrc _ _ hs)) (hleave _ (hhist 6 _ (hhist 5 _ (hsrc _ _ hs)))))
  unfold rootSelect
  refine hite _ hs ?_
  extract_lets s1 s2 s3 s4
  have h1 : P s1 := hite _ (hite _ hs (hsrc _ s hs)) hlost
  have h2 : P s2 := hite _ (hfollow _ _ s1 h1) h1
  have h3 : P s3 := hite _ h2 (hite _ (hleave s2 h2) (hite _ h2 (hleave _ (hhist 6 s2 h2))))
  have h4 : P s4 := hite _ (hfollow _ _ _ (htaken s3 h3)) h3
  refine hite _ ?_ h4
  split
  · exact hfollow _ _ s4 h4
  · exact h4

/-- Of hall time only what names the source changes: FREQ_ONLY, the keeper and a FORCE. -/
def TimeKept (k l : Time) : Prop := ∃ o n f, l = { k with freqOnly := o, keeper := n, force := f }

theorem timeKept_refl (k : Time) : TimeKept k k := ⟨k.freqOnly, k.keeper, k.force, rfl⟩

theorem timeKept_follow {k : Time} (n : Nat) (viaList : Bool) (s : State) (h : TimeKept k s.dc.tk) :
    TimeKept k (follow n viaList s).dc.tk := by
  obtain ⟨o, m, f, h⟩ := h
  unfold follow
  split
  · exact ⟨o, m, f, h⟩
  · extract_lets s1 s2 s3 s4
    have h2 : TimeKept k s2.dc.tk := ⟨false, if n = 0xF then 2 else if n = 0xE then 1 else 0, f, by simp [s2, s1, modCore, h]⟩
    have h4 : s4.dc.tk = s2.dc.tk := dc_tk_eq (by simp [s4, s3, but])
    have hend : (if n = 0xF then history 7 (raiseTime .dxd 3 s4) else s4).dc.tk = s4.dc.tk := dc_tk_eq (by simp [but])
    rw [hend, h4]
    exact h2

theorem timeKept_rootSelect (s : State) : TimeKept s.dc.tk (rootSelect s).dc.tk := by
  refine rootSelect_keeps (P := fun u => TimeKept s.dc.tk u.dc.tk) (fun _ _ h => h) (fun b u h => ?_) timeKept_follow
    (fun _ h => h) (timeKept_refl _)
  rwa [dc_tk_eq (s := u) (t := history b u) (by simp [but])]

theorem timeKept_choice {k : Time} (c : Prop) [Decidable c] {s t : State} (hs : TimeKept k s.dc.tk) (ht : TimeKept k t.dc.tk) :
    TimeKept k (if c then s else t).dc.tk := by split <;> assumption

theorem timeKept_dropForceDxd {k : Time} {s : State} (h : TimeKept k s.dc.tk) : TimeKept k (dropForceDxd s).dc.tk := by
  obtain ⟨o, n, f, h⟩ := h
  unfold dropForceDxd
  split
  · exact timeKept_choice _ ⟨o, n, f, h⟩ ⟨o, n, none, by simp [h]⟩
  · exact ⟨o, n, f, h⟩

/-! What is followed (R114). -/

/-- The loss of a twin that is not followed changes nothing of the references but its own source. -/
theorem sourceLost_twin_rf (s : State) (h : s.x.rf.followed ≠ 0xE) :
    ∃ l, (sourceLost 0xE s).x.rf = { s.x.rf with src := l } := by
  unfold sourceLost
  split
  · exact ⟨s.x.rf.src, rfl⟩
  · extract_lets s0 s1
    have hs1 : s1.x.rf = (modSrc 0xE (fun r => { r with qual := 3, good := 0, misses := 0 }) s).x.rf := by
      simp [s1, s0]
    rw [if_pos (by rw [hs1]; exact h)]
    exact ⟨_, hs1⟩

theorem reg_of_kept {s t : State} (hregs : t.dc.regs = s.dc.regs) (hfuse : t.tc.fuse = s.tc.fuse) (a : Nat) :
    t.reg .dxd a = s.reg .dxd a := by
  simp only [State.reg, com_dxd, hregs, hfuse]

/-- A selection stays with a source that a root's acting member follows, where that is not its twin and no ACTIVE waits that has
become qualified (R114). -/
theorem rootSelect_stays (s : State) (hacting : s.x.rf2.acting = true) (htwin : s.x.rf.followed ≠ 0xE)
    (hnone : s.x.rf.followed ≠ 0xF) (hE : rfActive s ≠ 0xE) (hwaits : s.x.rf.pendingActive = true → s.qual (rfActive s) ≠ 2) :
    ∃ l, (rootSelect s).x.rf = { s.x.rf with src := l } := by
  unfold rootSelect
  split
  · exact ⟨s.x.rf.src, rfl⟩
  extract_lets s1 s2 s3 s4
  have hrf : ∃ l, s1.x.rf = { s.x.rf with src := l } := by
    simp only [s1]
    split
    · split
      · exact ⟨s.x.rf.src, rfl⟩
      · exact ⟨_, rfl⟩
    · exact sourceLost_twin_rf s htwin
  have hsel : Chose s s1 := chose_choice _ (chose_choice _ (chose_refl s) (chose_modTwin (chose_refl s) _))
    (chose_twinLost (chose_refl s))
  have hqual : s1.qual (rfActive s) = s.qual (rfActive s) := congrArg RefSrc.qual (((chose_iff s s1).mp hsel).src _ hE)
  have hacts : s1.x.rf2 = s.x.rf2 := x_rf2_eq (by simp [s1, but])
  have hactive : rfActive s1 = rfActive s := congrArg (fld · 16 4)
    (reg_of_kept (dc_regs_eq (by simp [s1, but])) (tc_fuse_eq (by simp [s1, but])) 0x1E100)
  obtain ⟨l, hrf⟩ := hrf
  have h2 : s2 = s1 := if_neg (by simp [hacts, hacting])
  have h3 : s3 = s1 := (if_pos (by rw [h2, hrf]; exact htwin)).trans h2
  have h4 : s4 = s1 := by
    refine (if_neg ?_).trans h3
    rintro ⟨hp, hq, -⟩
    rw [h3, hrf] at hp
    rw [h3, hactive, hqual] at hq
    exact hwaits hp hq
  rw [if_neg (by rw [h4, hrf]; exact fun h => hnone h.1), h4]
  exact ⟨l, hrf⟩

/-- What the root follows is chosen before its time state is shown. -/
theorem dxdReselect_rf_root (s : State) (hr : s.x.straps.role = 2) : (dxdReselect s).x.rf = (rootSelect s).x.rf := by
  unfold dxdReselect
  extract_lets s0 k n s2 again off s3 s4 s1 st was s5 s6
  have h0 : s0.x.straps.role = 2 := (congrArg Straps.role (x_straps_eq (by simp [s0, but]))).trans hr
  have h1 : s1 = s0 := if_pos (.inl h0)
  have hshown : (showDxdState s6).x.rf = s1.x.rf := x_rf_eq (by simp [s6, s5, but])
  rw [hshown, h1]
  exact x_rf_eq (by simp [s0, but])

theorem dxdReselect_reg (s : State) (a : Nat) : (dxdReselect s).reg .dxd a = s.reg .dxd a :=
  reg_of_kept (dc_regs_eq (by simp [but])) (tc_fuse_eq (by simp [but])) a

/-! HOLDOVER (R126). -/

theorem setTimeState_tk (d : Dev) (n : Nat) (s : State) :
    ((setTimeState d n s).com d).tk = { (s.com d).tk with state := n } := by
  unfold setTimeState
  split
  case isTrue h => simp [← h]
  case isFalse => simp

theorem showDxdState_tk (s : State) : (showDxdState s).dc.tk = { s.dc.tk with state := dxdTimeState s } := by
  have hnoted : ∀ (c : Prop) [Decidable c] (f : Hold → Hold), (if c then history 15 (modHold f s) else s).dc.tk = s.dc.tk :=
    fun _ _ _ => dc_tk_eq (by simp [but])
  exact (setTimeState_tk .dxd _ _).trans (by simp only [com_dxd, hnoted])

/-- A root that has HT and is held in HOLDOVER by FORCE_HOLDOVER, neither in CELLAR nor in SIDELINE. -/
structure Forced (s : State) : Prop where
  root : s.x.straps.role = 2
  forced : bit (s.reg .dxd 0x10100) 1 = true
  valid : s.dc.tk.htValid = true
  notCellar : inCellar .dxd s = false
  notSideline : s.dc.tk.sideline = false

/-- The parts that hold nothing of it but hall time. -/
def unforced (p : Part) : Bool :=
  decide (p ≠ .straps ∧ p ≠ .com .dxd .regs ∧ p ≠ .com .tsu .fuse ∧ p ≠ .com .dxd .boot)

section
variable {s t : State} (h : Forced s)
include h

theorem Forced.of_frame (hframe : t.blank unforced = s.blank unforced)
    (htk : t.dc.tk.htValid = s.dc.tk.htValid ∧ t.dc.tk.sideline = s.dc.tk.sideline) : Forced t := by
  have hstraps : t.x.straps = s.x.straps := congrArg (·.x.straps) hframe
  have hregs : t.dc.regs = s.dc.regs := congrArg (·.dc.regs) hframe
  have hfuse : t.tc.fuse = s.tc.fuse := congrArg (·.tc.fuse) hframe
  have hboot : t.dc.boot = s.dc.boot := congrArg (·.dc.boot) hframe
  exact ⟨by rw [hstraps]; exact h.root, by rw [reg_of_kept hregs hfuse]; exact h.forced, htk.1.trans h.valid,
    (congrArg (·.stage == 7) hboot).trans h.notCellar, htk.2.trans h.notSideline⟩

theorem Forced.timeState : dxdTimeState s = 3 := by
  simp [dxdTimeState, dxdHasSource, h.root, h.forced, h.valid, h.notCellar, h.notSideline]

end

/-- The root that FORCE_HOLDOVER holds shows HOLDOVER and ROOT_HOLDOVER, and HT goes on as it is. -/
theorem dxdReselect_forced (s : State) (h : Forced s) :
    ∃ k, TimeKept s.dc.tk k ∧ (dxdReselect s).dc.tk = { k with rootHoldover := true, state := 3 } := by
  unfold dxdReselect
  extract_lets s0 k n s2 again off s3 s4 s1 st was s5 s6
  have htk : TimeKept s.dc.tk s0.dc.tk := timeKept_dropForceDxd (timeKept_rootSelect s)
  have h0 : Forced s0 := by
    obtain ⟨o, n, f, htk⟩ := htk
    exact h.of_frame (by simp [s0, unforced, -com_tsu, -com_dxd]) (by rw [htk]; exact ⟨rfl, rfl⟩)
  have h1 : s1 = s0 := if_pos (.inl h0.root)
  have hst : st = 3 := by rw [← h0.timeState, ← h1]
  have h5 : s5.dc.tk = s0.dc.tk := by rw [← h1]; exact dc_tk_eq (by simp [s5, but])
  have hf5 : s5.blank unforced = s0.blank unforced := by rw [← h1]; simp [s5, unforced, -com_tsu, -com_dxd]
  have hrole : s5.x.straps.role = 2 := (h0.of_frame hf5 (by rw [h5]; exact ⟨rfl, rfl⟩)).root
  have h6 : s6 = setRootHoldover .dxd true s5 := if_pos ⟨hrole, hst⟩
  have hk : s6.dc.tk = { s0.dc.tk with rootHoldover := true } := by
    rw [h6, ← h5]
    exact setRootHoldover_tk .dxd true s5
  have hf6 : Forced s6 := h0.of_frame (by rw [h6, ← hf5]; simp [unforced, -com_tsu, -com_dxd]) (by rw [hk]; exact ⟨rfl, rfl⟩)
  exact ⟨s0.dc.tk, htk, by rw [showDxdState_tk, hf6.timeState, hk]⟩

/-! OSC_LOSS (R130): a selection leaves it as it is. -/

section
variable {b : Bool} {s t : State}

theorem oscLost_choice (c : Prop) [Decidable c] (hs : s.x.hold.oscLost = b) (ht : t.x.hold.oscLost = b) :
    (if c then s else t).x.hold.oscLost = b := by split <;> assumption

/-- An operation of other parts keeps it. -/
theorem oscLost_of_frame (h : t.blank (but .hold) = s.blank (but .hold)) (hs : s.x.hold.oscLost = b) :
    t.x.hold.oscLost = b := by rw [x_hold_eq h, hs]

variable (hs : s.x.hold.oscLost = b)
include hs

theorem oscLost_history (n : Nat) : (history n s).x.hold.oscLost = b := by simpa [history] using hs

theorem oscLost_raiseTime (n : Nat) : (raiseTime .dxd n s).x.hold.oscLost = b :=
  oscLost_of_frame (by simp [but]) hs

theorem oscLost_startFirstFit : (startFirstFit .dxd 0 s).x.hold.oscLost = b := by
  have hfit : ∀ k ch f e ms w, (startFit .dxd k ch f e ms w s).x.hold.oscLost = b := fun _ _ _ _ _ _ => hs
  unfold startFirstFit
  dsimp only
  exact oscLost_choice _ (hfit ..) (oscLost_choice _ hs (oscLost_choice _ (hfit ..) hs))

theorem oscLost_follow (n : Nat) (viaList : Bool) : (follow n viaList s).x.hold.oscLost = b := by
  unfold follow
  refine oscLost_choice _ hs ?_
  extract_lets s1 s2 s3 s4
  have h3 : s3.x.hold.oscLost = b := oscLost_choice _ (oscLost_history (s := s2) hs 8) hs
  have h4 : s4.x.hold.oscLost = b := oscLost_choice _ (oscLost_startFirstFit h3) h3
  exact oscLost_choice _ (oscLost_history (oscLost_raiseTime h4 3) 7) h4

theorem oscLost_rootSelect : (rootSelect s).x.hold.oscLost = b :=
  rootSelect_keeps (P := fun u => u.x.hold.oscLost = b) (fun _ _ h => h) (fun n _ h => oscLost_history h n)
    (fun n v _ h => oscLost_follow h n v) (fun _ h => h) hs

theorem oscLost_startPull (r : Int) : (startPull .dxd r s).x.hold.oscLost = b := by
  refine oscLost_choice _ ?_ hs
  simpa using hs

theorem oscLost_enterHoldover : (enterHoldover s).x.hold.oscLost = b :=
  oscLost_history (by exact hs) 9

theorem oscLost_showDxdState : (showDxdState s).x.hold.oscLost = b := by
  have hnoted : (if s.dc.tk.state = 2 ∧ dxdTimeState s ≠ 2 then history 15 (modHold (fun h => { h with skip := true }) s)
      else s).x.hold.oscLost = b :=
    oscLost_choice _ (oscLost_history (s := modHold (fun h => { h with skip := true }) s) hs 15) hs
  exact oscLost_of_frame (by simp [showDxdState, but]) hnoted

theorem oscLost_dxdReselect : (dxdReselect s).x.hold.oscLost = b := by
  unfold dxdReselect
  extract_lets s0 k n s2 again off s3 s4 s1 st was s5 s6
  have h0 : s0.x.hold.oscLost = b := oscLost_of_frame (by simp [s0, but]) (oscLost_rootSelect hs)
  have h2 : (history 7 s2).x.hold.oscLost = b := oscLost_history (s := s2) h0 7
  have h3 : s3.x.hold.oscLost = b := oscLost_choice _ h2 (oscLost_choice _ h2 (oscLost_startPull h2 off))
  have h4 : (if followedLost k s4 then history 6 s4 else s4).x.hold.oscLost = b :=
    oscLost_choice _ (oscLost_history (s := s4) h3 6) h3
  have h1 : s1.x.hold.oscLost = b := oscLost_choice _ h0 (oscLost_choice _ h0 (oscLost_raiseTime h4 3))
  have h5 : s5.x.hold.oscLost = b := oscLost_choice _ (oscLost_enterHoldover h1) (oscLost_choice _ h1 h1)
  exact oscLost_showDxdState (oscLost_of_frame (s := s5) (by simp [s6, but]) h5)

end

end Sys2Proof.Machine
end

section
/-!
PROOFS. The writes of RF_SEL and SV_CTL, the servo history records, and the ports of a DX-D whose oscillator stops (R114, R126,
R127, R130).
-/

namespace Sys2Proof.Machine

/-! RF_SEL (R114). -/

/-- The state as a write of `v` into RF_SEL leaves it, before ACTIVE is acted on. -/
def selWritten (v : Word) (s : State) : State :=
  modRf (fun r => { r with pendingActive := false }) (setReg .dxd 0x1E100 0x1FFFFF v s)

theorem reg_selWritten (v : Word) (s : State) :
    (selWritten v s).reg .dxd 0x1E100 = (v &&& 0x1FFFFF) ||| (s.reg .dxd 0x1E100 &&& ~~~0x1FFFFF) := by
  change (setReg .dxd 0x1E100 0x1FFFFF v s).reg .dxd 0x1E100 = _
  rw [reg_setReg, if_pos rfl]

theorem rfActive_selWritten (v : Word) (s : State) : rfActive (selWritten v s) = fld v 16 4 := by
  rw [rfActive, State.regF, reg_selWritten, fld_masked (by decide)]

theorem rf_selWritten (v : Word) (s : State) : (selWritten v s).x.rf = { s.x.rf with pendingActive := false } := by
  simp [selWritten]

theorem qual_selWritten (v : Word) (s : State) (n : Nat) : (selWritten v s).qual n = s.qual n := by
  rw [State.qual, rf_selWritten, State.qual]

section
variable {v : Word} {s : State} (hr : s.x.straps.role = 2) (htwin : s.x.rf.followed ≠ 0xE) (ha : fld v 16 4 < 6)
include hr htwin ha

/-- A qualified ACTIVE is followed at once. -/
theorem rfSel_qualified (hq : s.qual (fld v 16 4) = 2) : rfSel v s = dxdReselect (follow (fld v 16 4) false (selWritten v s)) := by
  unfold rfSel
  rw [if_neg (not_not.mpr hr)]
  extract_lets s1 a s2 s3
  have hq2 : s2.qual a = 2 := (qual_selWritten v s a).trans hq
  have h3 : s3 = follow a false s2 :=
    (if_neg htwin).trans ((if_neg (by omega)).trans (if_pos ⟨hq2, by omega⟩))
  rw [h3]
  rfl

/-- Another waits. -/
theorem rfSel_waiting (hq : s.qual (fld v 16 4) ≠ 2) :
    rfSel v s = dxdReselect (modRf (fun r => { r with pendingActive := true }) (selWritten v s)) := by
  unfold rfSel
  rw [if_neg (not_not.mpr hr)]
  extract_lets s1 a s2 s3
  have hq2 : s2.qual a ≠ 2 := fun h => hq ((qual_selWritten v s a).symm.trans h)
  have h3 : s3 = modRf (fun r => { r with pendingActive := true }) s2 :=
    (if_neg htwin).trans ((if_neg (by omega)).trans ((if_neg fun h => hq2 h.1).trans (if_pos ha)))
  rw [h3]
  rfl

end

/-- What is followed is what the choice says, and a waiting ACTIVE waits on. -/
theorem rf_follow (n : Nat) (viaList : Bool) (s : State) :
    (follow n viaList s).x.rf.followed = n ∧ (follow n viaList s).x.rf.pendingActive = s.x.rf.pendingActive := by
  unfold follow
  split
  case isTrue h => exact ⟨h, rfl⟩
  case isFalse =>
    extract_lets s1 s2 s3 s4
    have hrf : (if n = 0xF then history 7 (raiseTime .dxd 3 s4) else s4).x.rf = s1.x.rf :=
      x_rf_eq (by simp [s4, s3, s2, but])
    rw [hrf]
    exact ⟨rfl, rfl⟩

theorem follow_straps (n : Nat) (viaList : Bool) (s : State) : (follow n viaList s).x.straps = s.x.straps :=
  x_straps_eq (by simp [but])

theorem follow_referee (n : Nat) (viaList : Bool) (s : State) : (follow n viaList s).x.rf2 = s.x.rf2 :=
  x_rf2_eq (by simp [but])

theorem follow_reg (n : Nat) (viaList : Bool) (s : State) (a : Nat) : (follow n viaList s).reg .dxd a = s.reg .dxd a :=
  reg_of_kept (dc_regs_eq (by simp [but])) (tc_fuse_eq (by simp [but])) a

theorem follow_rfActive (n : Nat) (viaList : Bool) (s : State) : rfActive (follow n viaList s) = rfActive s :=
  congrArg (fld · 16 4) (follow_reg n viaList s 0x1E100)

/-- A selection leaves a source and a waiting ACTIVE as they are where nothing that R114 names has come. -/
theorem dxdReselect_stays {s : State} (hr : s.x.straps.role = 2) (hacting : s.x.rf2.acting = true) (hlow : s.x.rf.followed < 6)
    (ha : rfActive s < 6) (hwaits : s.x.rf.pendingActive = true → s.qual (rfActive s) ≠ 2) :
    (dxdReselect s).x.rf.followed = s.x.rf.followed ∧ (dxdReselect s).x.rf.pendingActive = s.x.rf.pendingActive := by
  obtain ⟨l, hl⟩ := rootSelect_stays s hacting (by omega) (by omega) (by omega) hwaits
  rw [dxdReselect_rf_root s hr, hl]
  exact ⟨rfl, rfl⟩

/-! Servo history records (R127). -/

/-- The record that stands, after one more slot has been seen. -/
def newerRecord (o : Option (Nat × HistRec)) (x : Nat × HistRec) : Option (Nat × HistRec) :=
  if x.2.valid then
    (match o with
     | some y => if y.2.seq < x.2.seq then some x else o
     | none => some x)
  else o

theorem currentRecord_eq_foldl (a : Attic) : currentRecord a = a.slots.foldl newerRecord none := rfl

/-- A valid record that is newer than the one before it stands. -/
theorem newerRecord_of_newest (o : Option (Nat × HistRec)) (x : Nat × HistRec) (hx : x.2.valid = true)
    (ho : ∀ y, o = some y → y.2.seq < x.2.seq) : newerRecord o x = some x := by
  unfold newerRecord
  rw [if_pos hx]
  cases o with
  | none => rfl
  | some y => exact if_pos (ho y rfl)

/-- One more slot leaves a record that is at least as new as each valid one seen. -/
theorem newerRecord_ge (o : Option (Nat × HistRec)) (x y : Nat × HistRec) (h : o = some y ∨ (x = y ∧ y.2.valid = true)) :
    ∃ z, newerRecord o x = some z ∧ y.2.seq ≤ z.2.seq := by
  unfold newerRecord
  rcases h with rfl | ⟨rfl, hy⟩
  · dsimp only
    split
    · split
      case isTrue hlt => exact ⟨x, rfl, hlt.le⟩
      case isFalse => exact ⟨y, rfl, le_rfl⟩
    · exact ⟨y, rfl, le_rfl⟩
  · rw [if_pos hy]
    cases o with
    | none => exact ⟨x, rfl, le_rfl⟩
    | some w =>
      dsimp only
      split
      case isTrue => exact ⟨x, rfl, le_rfl⟩
      case isFalse hge => exact ⟨w, rfl, Nat.not_lt.mp hge⟩

theorem foldl_newerRecord_ge (l : List (Nat × HistRec)) (o : Option (Nat × HistRec)) (y : Nat × HistRec)
    (h : o = some y ∨ (y ∈ l ∧ y.2.valid = true)) : ∃ z, l.foldl newerRecord o = some z ∧ y.2.seq ≤ z.2.seq := by
  induction l generalizing o y with
  | nil => exact ⟨y, h.resolve_right (by simp), le_rfl⟩
  | cons x l ih =>
    have hhead : (o = some y ∨ (x = y ∧ y.2.valid = true)) ∨ (y ∈ l ∧ y.2.valid = true) := by
      rcases h with ho | ⟨hy, hv⟩
      · exact .inl (.inl ho)
      · rcases List.mem_cons.mp hy with rfl | hl
        · exact .inl (.inr ⟨rfl, hv⟩)
        · exact .inr ⟨hl, hv⟩
    rcases hhead with hhead | htail
    · obtain ⟨z, hz, hle⟩ := newerRecord_ge o x y hhead
      obtain ⟨w, hw, hzw⟩ := ih (newerRecord o x) z (.inl hz)
      exact ⟨w, hw, hle.trans hzw⟩
    · exact ih _ y (.inr htail)

/-- The record that stands is one of the valid slots. -/
theorem foldl_newerRecord_mem (l : List (Nat × HistRec)) (o : Option (Nat × HistRec)) (z : Nat × HistRec)
    (h : l.foldl newerRecord o = some z) : o = some z ∨ (z ∈ l ∧ z.2.valid = true) := by
  induction l generalizing o with
  | nil => exact .inl h
  | cons x l ih =>
    rcases ih _ h with hx | ⟨hl, hv⟩
    · have hcases : newerRecord o x = o ∨ (newerRecord o x = some x ∧ x.2.valid = true) := by
        unfold newerRecord
        (repeat' split) <;> simp_all
      rcases hcases with ho | ⟨hsome, hv⟩
      · exact .inl (ho.symm.trans hx)
      · rw [hsome] at hx
        obtain rfl := Option.some.inj hx
        exact .inr ⟨List.mem_cons_self, hv⟩
    · exact .inr ⟨List.mem_cons_of_mem x hl, hv⟩

/-- A record's own CRC passes. -/
theorem valid_seal (r : HistRec) : r.seal.valid = true := beq_self_eq_true (crc32 r.body)

/-- A record that follows the one that stands stands in its place, whatever slot it has taken. -/
theorem currentRecord_append (a b : Attic) (keep : Nat × HistRec → Bool) (x : Nat × HistRec)
    (hslots : b.slots = a.slots.filter keep ++ [x]) (hx : x.2.valid = true)
    (hnewer : ∀ y, currentRecord a = some y → y.2.seq < x.2.seq) : currentRecord b = some x := by
  rw [currentRecord_eq_foldl, hslots, List.foldl_append]
  refine newerRecord_of_newest _ x hx fun z hz => ?_
  obtain ⟨hmem, hv⟩ := (foldl_newerRecord_mem _ none z hz).resolve_left (by simp)
  obtain ⟨y, hy, hle⟩ := foldl_newerRecord_ge a.slots none z (.inr ⟨List.mem_of_mem_filter hmem, hv⟩)
  exact lt_of_le_of_lt hle (hnewer y hy)

/-- The record that is written stands: its sequence follows the last one's (R127). -/
theorem currentRecord_writeRecord (rate : Int) (s : State)
    (hseq : ∀ x, currentRecord s.x.at_ = some x → x.2.seq + 1 < 2 ^ 32) :
    ∃ x, currentRecord (writeRecord rate s).x.at_ = some x ∧ x.2.seq = (currentRecord s.x.at_).elim 1 (·.2.seq + 1) ∧
      x.2.rate = rate ∧ x.2.sec = s.dc.tk.sec ∧ x.2.valid = true := by
  have hnext : (((currentRecord s.x.at_).map (·.2.seq)).getD 0 + 1) % 2 ^ 32 = (currentRecord s.x.at_).elim 1 (·.2.seq + 1) := by
    cases hcur : currentRecord s.x.at_ with
    | none => rfl
    | some y => exact Nat.mod_eq_of_lt (hseq y hcur)
  refine ⟨_, currentRecord_append s.x.at_ _ _ _ rfl (valid_seal _) fun y hy => ?_, hnext, rfl, rfl, valid_seal _⟩
  refine lt_of_lt_of_eq ?_ hnext.symm
  rw [hy]
  exact Nat.lt_succ_self _

@[simp] theorem writeRecord_lastRecord (rate : Int) (s : State) : (writeRecord rate s).x.hold.lastRecord = s.dc.up := rfl

@[simp] theorem writeRecord_bytes (rate : Int) (s : State) : (writeRecord rate s).x.at_.bytes = s.x.at_.bytes := rfl

/-! SV_CTL (R126, R127). -/

/-- The state as a write of `v` into SV_CTL leaves it, before the root selects: FORCE_HOLDOVER, and a record where SAVE is set. -/
def svWritten (v : Word) (s : State) : State :=
  if bit v 0 then writeRecord s.x.hold.rate (setReg .dxd 0x10100 2 v s) else setReg .dxd 0x10100 2 v s

theorem svCtl_below_root (v : Word) (s : State) (hr : s.x.straps.role ≠ 2) : svCtl v s = svWritten v s := by
  unfold svCtl
  extract_lets ends s0 s1 s2
  have hends : ends = false := by simp [ends, hr]
  have h1 : s1 = s0 := if_neg (by simp [hends])
  have h2 : s2 = svWritten v s := by
    simp only [s2, h1]
    rfl
  have hrole : s2.x.straps = s.x.straps := x_straps_eq (by simp [s2, h1, s0, but])
  rw [if_neg (by rw [hrole]; exact hr), h2]

theorem svCtl_forcing (v : Word) (s : State) (hr : s.x.straps.role = 2) (hv : bit v 1 = true) :
    svCtl v s = dxdReselect (svWritten v s) := by
  unfold svCtl
  extract_lets ends s0 s1 s2
  have hends : ends = false := by simp [ends, hv]
  have h1 : s1 = s0 := if_neg (by simp [hends])
  have h2 : s2 = svWritten v s := by
    simp only [s2, h1]
    rfl
  have hrole : s2.x.straps = s.x.straps := x_straps_eq (by simp [s2, h1, s0, but])
  rw [if_pos (by rw [hrole]; exact hr), h2]

/-- A bit that a write's mask covers is the one written. -/
theorem bit_masked {v w m : Word} {i : Nat} (h : m.toNat.testBit i = true) :
    bit ((v &&& m) ||| (w &&& ~~~m)) i = bit v i := by
  have hfld : fld ((v &&& m) ||| (w &&& ~~~m)) i 1 = fld v i 1 :=
    fld_masked fun j hj => by rw [Nat.lt_one_iff.mp hj]; exact h
  exact congrArg (· == 1) hfld

theorem forced_svCtl (v : Word) (s : State) : bit ((svCtl v s).reg .dxd 0x10100) 1 = bit v 1 := by
  unfold svCtl
  extract_lets ends s0 s1 s2
  have h0 : s0.reg .dxd 0x10100 = (v &&& 2) ||| (s.reg .dxd 0x10100 &&& ~~~2) := by
    simp only [s0]
    rw [reg_setReg, if_pos rfl]
  have hregs : ∀ (c : Bool) (u w : State), u.reg .dxd 0x10100 = s0.reg .dxd 0x10100 →
      w.reg .dxd 0x10100 = s0.reg .dxd 0x10100 → (if c then u else w).reg .dxd 0x10100 = s0.reg .dxd 0x10100 := by
    intro c u w hu hw
    cases c <;> assumption
  have h1 : s1.reg .dxd 0x10100 = s0.reg .dxd 0x10100 := hregs _ _ _ rfl rfl
  have h2 : s2.reg .dxd 0x10100 = s0.reg .dxd 0x10100 := hregs _ _ _ h1 h1
  have hend : (if s2.x.straps.role = 2 then dxdReselect s2 else s2).reg .dxd 0x10100 = s0.reg .dxd 0x10100 := by
    split
    · rw [dxdReselect_reg, h2]
    · exact h2
  rw [hend, h0, bit_masked (by decide)]

/-- The write of FORCE_HOLDOVER leaves all that HOLDOVER waits for, and HT. -/
theorem forced_svWritten {v : Word} {s : State} (hr : s.x.straps.role = 2) (hv : bit v 1 = true) (hvalid : s.dc.tk.htValid = true)
    (hlive : inCellar .dxd s = false) (hopen : s.dc.tk.sideline = false) :
    Forced (svWritten v s) ∧ (svWritten v s).dc.tk = s.dc.tk := by
  have h0 : Forced (setReg .dxd 0x10100 2 v s) := by
    refine ⟨by simpa using hr, ?_, hvalid, hlive, hopen⟩
    rw [reg_setReg, if_pos rfl, bit_masked (by decide), hv]
  unfold svWritten
  split
  · exact ⟨h0.of_frame (by simp [unforced, -com_tsu, -com_dxd]) ⟨rfl, rfl⟩, rfl⟩
  · exact ⟨h0, rfl⟩

/-! Holdover means (R125). -/

/-- The means once the second that ends has joined them, while they are fewer than 64: an integer each (log 33). -/
def meansAfter (h : Hold) : List Int := h.means ++ [h.sumY.tdiv h.nY]

/-- The second that ends joins the means, and sixty-four of them give the holdover rate. -/
theorem holdoverMeanUpdate_joins (s : State) (hn : s.x.hold.nY ≠ 0) (hsec : s.x.hold.meanSec ≠ s.dc.tk.sec)
    (hskip : s.x.hold.skip = false) (hlocked : s.dc.coreA.st = 2) (hlen : s.x.hold.means.length ≤ 63) :
    ∃ skip, (holdoverMeanUpdate .dxd s).x.hold = { s.x.hold with
      sumY := 0, nY := 0, skip := skip, meanSec := s.dc.tk.sec, means := meansAfter s.x.hold,
      avail := s.x.hold.avail || s.x.hold.means.length == 63,
      rate := if s.x.hold.means.length = 63 then ((meansAfter s.x.hold).foldl (· + ·) 0).tdiv 64 else s.x.hold.rate } := by
  rw [holdoverMeanUpdate]
  unfold meanUpdate
  extract_lets h keep runs
  have hkeep : keep = meansAfter s.x.hold := by
    have hdrop : h.means.length + 1 - 64 = 0 := by
      simp only [h]
      omega
    simp only [keep, hdrop, List.drop_zero]
    rfl
  have hcount : keep.length = 64 ↔ s.x.hold.means.length = 63 := by
    rw [hkeep]
    simp [meansAfter]
  rw [if_neg hsec]
  refine ⟨!runs, ?_⟩
  rw [modHold_x]
  dsimp only
  rw [if_neg (by simp [hskip, hn, hlocked])]
  by_cases h63 : s.x.hold.means.length = 63
  · rw [if_pos (hcount.mpr h63), hkeep]
    simp [h63, h]
  · rw [if_neg (mt hcount.mp h63), hkeep]
    simp [h63, h]

/-! A DX-D whose oscillator stops (R130). -/

/-- One port falls silent. -/
def silencePort (s : State) (p : Nat) : State :=
  let s1 := modPort .dxd p (fun q => { q.closed with st := 0, wire := none }) s
  if (s.port .dxd p).live then portEvent .dxd p 1 s1 else s1

theorem silencePorts_eq_foldl (s : State) : silencePorts s = (s.dc.ports.map (·.1)).foldl silencePort s := rfl

theorem port_silencePort_same (p : Nat) (s : State) :
    ((silencePort s p).port .dxd p).st = 0 ∧ ((silencePort s p).port .dxd p).wire = none := by
  unfold silencePort
  dsimp only
  split <;> simp

theorem port_silencePort_ne (p : Nat) (s : State) : OtherPorts .dxd p s (silencePort s p) := by
  have hclosed := otherPorts_modPort .dxd p (fun q => { q.closed with st := 0, wire := none }) s
  unfold silencePort
  dsimp only
  split
  · exact hclosed.trans (otherPorts_portEvent .dxd p 1 _)
  · exact hclosed

/-- Each port of the list is silent; another is as it was. -/
theorem port_foldl_silencePort (l : List Nat) (s : State) (p : Nat) :
    (((l.foldl silencePort s).port .dxd p).st = 0 ∧ ((l.foldl silencePort s).port .dxd p).wire = none) ∨
      (p ∉ l ∧ (l.foldl silencePort s).port .dxd p = s.port .dxd p) := by
  induction l generalizing s with
  | nil => exact .inr ⟨by simp, rfl⟩
  | cons x l ih =>
    rcases ih (silencePort s x) with hsilent | ⟨hl, hsame⟩
    · exact .inl hsilent
    · rw [List.foldl_cons, hsame]
      by_cases hx : p = x
      · subst hx
        exact .inl (port_silencePort_same p s)
      · exact .inr ⟨by simp [hx, hl], port_silencePort_ne x s p hx⟩

/-- Every port of the DX-D is silent: one that no table lists is closed at reset. -/
theorem port_silencePorts (s : State) (p : Nat) :
    ((silencePorts s).port .dxd p).st = 0 ∧ ((s.port .dxd p).st ≠ 0 → ((silencePorts s).port .dxd p).wire = none) := by
  rw [silencePorts_eq_foldl]
  rcases port_foldl_silencePort (s.dc.ports.map (·.1)) s p with ⟨hst, hwire⟩ | ⟨hl, hsame⟩
  · exact ⟨hst, fun _ => hwire⟩
  · have hreset : s.port .dxd p = {} := by
      refine (tabGet_mem {} s.dc.ports p).resolve_right fun hmem => hl ?_
      exact List.mem_map.mpr ⟨_, hmem, rfl⟩
    rw [hsame, hreset]
    exact ⟨rfl, fun h => absurd rfl h⟩

theorem port_of_ports_eq {s t : State} (h : t.dc.ports = s.dc.ports) (p : Nat) : t.port .dxd p = s.port .dxd p := by
  simp only [State.port, com_dxd, h]

/-- A look-up in a table whose entries are changed one by one, where the change leaves the default as it is. -/
theorem tabGet_map {α : Type} (g : α → α) (dflt : α) (hg : g dflt = dflt) (l : List (Nat × α)) (k : Nat) :
    tabGet dflt (l.map (fun x => (x.1, g x.2))) k = g (tabGet dflt l k) := by
  induction l with
  | nil => exact hg.symm
  | cons x l ih =>
    simp only [List.map_cons, tabGet]
    split
    · rfl
    · exact ih

/-- What an oscillator that runs again makes of a port: DOWN, where it is enabled and closed. -/
def reopened (up : Nat) (q : Port) : Port := if q.enable ∧ q.st = 0 then q.toDown up else q

theorem port_oscReturn (s : State) (ho : s.x.hold.oscLost = true) (p : Nat) :
    (oscReturn s).port .dxd p = reopened s.dc.up (s.port .dxd p) := by
  unfold oscReturn
  rw [if_neg (by simp [ho])]
  extract_lets s1 up
  have hports : ∀ u, (startOscFit (dxdReselect u)).dc.ports = u.dc.ports := fun u => by
    simp [startOscFit, startFit, dxdReselect_ports]
  rw [State.port, com_dxd, hports]
  exact tabGet_map (reopened s.dc.up) {} rfl s.dc.ports p

theorem st_reopened (up : Nat) (q : Port) : (reopened up q).st = if q.enable = true ∧ q.st = 0 then 1 else q.st := by
  unfold reopened
  split <;> rfl

/-- The state of a DX-D whose oscillator has stopped, before its hall time is reset: the loss is noted and every port is silent. -/
def oscStopped (s : State) : State := silencePorts (history 19 (modHold (fun h => { h with oscLost := true }) s))

theorem port_oscStopped (s : State) (p : Nat) :
    ((oscStopped s).port .dxd p).st = 0 ∧ ((s.port .dxd p).st ≠ 0 → ((oscStopped s).port .dxd p).wire = none) := by
  have hsilent := port_silencePorts (history 19 (modHold (fun h => { h with oscLost := true }) s)) p
  have hport : (history 19 (modHold (fun h => { h with oscLost := true }) s)).port .dxd p = s.port .dxd p :=
    port_of_ports_eq (dc_ports_eq (by simp [but])) p
  rwa [hport] at hsilent

theorem hold_oscStopped (s : State) :
    (oscStopped s).x.hold.oscLost = true ∧ bit (oscStopped s).x.hold.history 19 = true := by
  have hhold : (oscStopped s).x.hold = (history 19 (modHold (fun h => { h with oscLost := true }) s)).x.hold :=
    x_hold_eq (by simp [oscStopped, but])
  rw [hhold]
  exact ⟨oscLost_history (by exact rfl) 19, history_history 19 _ (by decide)⟩

/-- What is reset of hall time, and what is shown of it after that, touches neither the ports nor the loss. -/
theorem oscLoss_reset (s : State) (ho : s.x.hold.oscLost = false) : ∃ u, oscLoss s = showDxdState u ∧
    u.dc.ports = (oscStopped s).dc.ports ∧ u.x.hold = (oscStopped s).x.hold ∧
    u.dc.tk.htValid = false ∧ u.dc.tk.sec = 0 ∧ u.dc.tk.ns = 0 ∧ u.dc.tk.frac = 0 := by
  unfold oscLoss
  rw [if_neg (by simp [ho])]
  extract_lets s1 s2 s3 root s4 s5
  have htk : (dropFit .dxd fitOsc (dropFit .dxd (fitFirst 0) s5)).dc.tk = s3.dc.tk := dc_tk_eq (by simp [s5, s4, but])
  refine ⟨_, rfl, ?_, ?_, ?_⟩
  · exact dc_ports_eq (t := dropFit .dxd fitOsc (dropFit .dxd (fitFirst 0) s5)) (s := s2) (by simp [s5, s4, s3, but])
  · exact x_hold_eq (t := dropFit .dxd fitOsc (dropFit .dxd (fitFirst 0) s5)) (s := s2) (by simp [s5, s4, s3, but])
  · rw [htk]
    exact ⟨rfl, rfl, rfl, rfl⟩

theorem oscReturn_oscLost (s : State) (ho : s.x.hold.oscLost = true) : (oscReturn s).x.hold.oscLost = false := by
  have hfit : ∀ u, (startOscFit u).x = u.x := fun u => by simp [startOscFit, startFit]
  unfold oscReturn
  rw [if_neg (by simp [ho]), hfit]
  exact oscLost_dxdReselect (by simp)

end Sys2Proof.Machine
end

section
/-!
PROOFS. Selection, holdover and the oscillator (O20).
-/

namespace Sys2Proof.Machine

theorem rfSelWrite_taken {rq : Nat} {v : Word} {s : State} (hw : WriteTaken .dxd rq 0x1E 0x100 s) :
    rfSelWrite rq v s = rfSel v (dropHalf .dxd rq s) := admitWrite_taken _ _ _ _ _ _ _ hw

theorem rfTodWrite_taken {rq n : Nat} {v : Word} {s : State} (hn : n < 2)
    (hw : WriteTaken .dxd rq 0x1E (0x120 + 0x10 * n) s) : rfTodWrite rq n v s = rfTod n v (dropHalf .dxd rq s) :=
  (if_pos hn).trans (admitWrite_taken _ _ _ _ _ _ _ hw)

theorem svSave_taken {rq : Nat} {v : Word} {s : State} (hv : bit v 0 = true) (hw : WriteTaken .dxd rq 0x10 0x100 s) :
    svSave rq v s = svCtl v (dropHalf .dxd rq s) := (if_pos hv).trans (admitWrite_taken _ _ _ _ _ _ _ hw)

theorem svForceHoldover_taken {rq : Nat} {v : Word} {s : State} (hw : WriteTaken .dxd rq 0x10 0x100 s) :
    svForceHoldover rq v s = svCtl v (dropHalf .dxd rq s) := admitWrite_taken _ _ _ _ _ _ _ hw

@[simp] theorem qual_dropHalf (d : Dev) (rq n : Nat) (s : State) : (dropHalf d rq s).qual n = s.qual n := by
  simp [State.qual]

/-! RF_SEL. -/

section
variable {v : Word} {s : State} (hr : s.x.straps.role = 2) (hacting : s.x.rf2.acting = true) (ha : fld v 16 4 < 6)
include hr hacting ha

theorem rfSel_switches (htwin : s.x.rf.followed ≠ 0xE) (hq : s.qual (fld v 16 4) = 2) :
    (rfSel v s).x.rf.followed = fld v 16 4 ∧ (rfSel v s).x.rf.pendingActive = false ∧
      (rfSel v s).reg .dxd 0x1E100 = (v &&& 0x1FFFFF) ||| (s.reg .dxd 0x1E100 &&& ~~~0x1FFFFF) := by
  obtain ⟨hfollowed, hpending⟩ := rf_follow (fld v 16 4) false (selWritten v s)
  rw [rf_selWritten] at hpending
  obtain ⟨hf, hp⟩ := dxdReselect_stays (s := follow (fld v 16 4) false (selWritten v s))
    (by rw [follow_straps]; simpa [selWritten] using hr) (by rw [follow_referee]; simpa [selWritten] using hacting)
    (by rw [hfollowed]; exact ha) (by rw [follow_rfActive, rfActive_selWritten]; exact ha)
    (fun h => absurd (hpending.symm.trans h) Bool.false_ne_true)
  rw [rfSel_qualified hr htwin ha hq]
  exact ⟨hf.trans hfollowed, hp.trans hpending, by rw [dxdReselect_reg, follow_reg, reg_selWritten]⟩

theorem rfSel_waits (hlow : s.x.rf.followed < 6) (hq : s.qual (fld v 16 4) ≠ 2) :
    (rfSel v s).x.rf.followed = s.x.rf.followed ∧ (rfSel v s).x.rf.pendingActive = true := by
  rw [rfSel_waiting hr (by omega) ha hq]
  have hactive : rfActive (modRf (fun r => { r with pendingActive := true }) (selWritten v s)) = fld v 16 4 :=
    rfActive_selWritten v s
  exact dxdReselect_stays (by simpa [selWritten] using hr) (by simpa [selWritten] using hacting)
    (by simpa [selWritten] using hlow) (by rw [hactive]; exact ha)
    (fun _ => by rw [hactive]; simpa [State.qual, selWritten] using hq)

end

/-- Settles O20: RF_SEL and SV_CTL by what the selection after them keeps, a record by its sequence, and the oscillator's loss port
by port. -/
theorem selectionAndHoldover : Obligations.SelectionAndHoldover := by
  unfold Obligations.SelectionAndHoldover
  refine ⟨?switches, ?waits, ?tod, ?todLoaded, ?mean, ?meanTsu, ?record, ?save, ?saveForce, ?force, ?firstFit, ?firstVoid,
    ?stops, ?returns⟩
  case switches =>
    intro rq v s hw hr hacting htwin ha hq
    obtain ⟨hfollowed, hpending, hreg⟩ := rfSel_switches (s := dropHalf .dxd rq s) (by simpa using hr) (by simpa using hacting) ha
      (by simpa using htwin) (by simpa using hq)
    rw [← rfSelWrite_taken hw, reg_dropHalf] at hreg
    rw [← rfSelWrite_taken hw] at hfollowed hpending
    exact ⟨_, rfl, hfollowed, hpending, hreg, by apply rfSelWrite_blank <;> decide⟩
  case waits =>
    intro rq v s hw hr hacting hlow ha hq
    obtain ⟨hfollowed, hpending⟩ := rfSel_waits (s := dropHalf .dxd rq s) (by simpa using hr) (by simpa using hacting) ha
      (by simpa using hlow) (by simpa using hq)
    rw [← rfSelWrite_taken hw] at hfollowed hpending
    rw [dropHalf_x] at hfollowed
    exact ⟨_, rfl, hfollowed, hpending, by apply rfSelWrite_blank <;> decide⟩
  case tod =>
    intro rq n v s hn hw hr hv
    refine ⟨_, rfl, ?_⟩
    have hframe : Only [.com .dxd .badAccess, .com .dxd .barCap, .com .dxd .barLow] s (dropHalf .dxd rq s) := by
      apply dropHalf_dxd_blank <;> decide
    have htod : rfTod n v (dropHalf .dxd rq s) = modSrc n (fun r => { r with
        todValid := false, tod := fld v 0 48, todAt := s.dc.up + 1 }) (dropHalf .dxd rq s) := by
      simp [rfTod, hr, hv]
    rw [rfTodWrite_taken hn hw, htod, src_modSrc_same]
    refine ⟨rfl, rfl, rfl, fun j hj => ?_, ?_⟩
    · rw [src_modSrc_ne n j _ _ hj, dropHalf_x]
    · exact (hframe.mono (by decide)).trans (by simp [Only])
  case todLoaded =>
    intro rq n v s hn hw hv
    refine ⟨_, rfl, ?_⟩
    have htod : rfTod n v (dropHalf .dxd rq s) = dropHalf .dxd rq s := if_pos (.inr (by simpa using hv))
    rw [rfTodWrite_taken hn hw, htod]
    exact ⟨by rw [dropHalf_x], by apply dropHalf_dxd_blank <;> decide⟩
  case mean =>
    intro s hn hsec hskip hlocked hlen
    refine ⟨_, rfl, ?_⟩
    obtain ⟨skip, hhold⟩ := holdoverMeanUpdate_joins s hn hsec hskip hlocked hlen
    refine ⟨by rw [hhold]; rfl, by rw [hhold], by rw [hhold], by rw [hhold], fun hless => ?_, fun hlast => ?_,
      holdoverMeanUpdate_dxd_blank s (by decide)⟩
    · rw [hhold]
      simp [hless.ne]
    · rw [hhold]
      simp [hlast]
  case meanTsu =>
    exact fun s => rfl
  case record =>
    intro s havail hstate hdue hseq
    refine ⟨_, rfl, ?_⟩
    have hwrite : servoRecordWrite s = writeRecord s.x.hold.rate s := if_pos ⟨havail, hstate, hdue⟩
    rw [hwrite]
    exact ⟨writeRecord_lastRecord _ s, currentRecord_writeRecord _ s hseq, writeRecord_bytes _ s,
      writeRecord_blank _ s (by decide) (by decide)⟩
  case save =>
    intro rq v s hv hw hr hseq
    refine ⟨_, rfl, ?_⟩
    have hsave : svSave rq v s = writeRecord s.x.hold.rate (setReg .dxd 0x10100 2 v (dropHalf .dxd rq s)) := by
      rw [svSave_taken hv hw, svCtl_below_root _ _ (by simpa using hr), svWritten, if_pos hv, dropHalf_x]
    have hframe : Only [.com .dxd .badAccess, .com .dxd .barCap, .com .dxd .barLow] s (dropHalf .dxd rq s) := by
      apply dropHalf_dxd_blank <;> decide
    rw [hsave]
    obtain ⟨x, hx, -, hrate, hsec, -⟩ := currentRecord_writeRecord s.x.hold.rate (setReg .dxd 0x10100 2 v (dropHalf .dxd rq s))
      (by simpa using hseq)
    refine ⟨⟨x, hx, hrate, hsec.trans ?_⟩, ?_, (hframe.mono (by decide)).trans (by simp [Only])⟩
    · simp [setReg]
    · simp [setReg]
  case saveForce =>
    intro rq v s hv hw
    refine ⟨_, rfl, ?_, by apply svSave_blank <;> decide⟩
    rw [svSave_taken hv hw]
    exact forced_svCtl v _
  case force =>
    intro rq v s hv hw hr hvalid hlive hopen
    refine ⟨_, rfl, ?_⟩
    obtain ⟨hforced, htime⟩ := forced_svWritten (s := dropHalf .dxd rq s) (by simpa using hr) hv (by simpa using hvalid)
      (by simpa [inCellar] using hlive) (by simpa using hopen)
    obtain ⟨k, ⟨o, n, f, hk⟩, hsel⟩ := dxdReselect_forced _ hforced
    rw [← svCtl_forcing v _ (by simpa using hr) hv, ← svForceHoldover_taken hw] at hsel
    rw [htime, dropHalf_dc_tk] at hk
    refine ⟨?_, ?_, ?_, ?_, ?_, by apply svForceHoldover_blank <;> decide⟩
    · rw [svForceHoldover_taken hw, forced_svCtl, hv]
    all_goals rw [hsel, hk]
  case firstFit =>
    intro d c ppt s hc hfree hfit hvalid hend
    refine ⟨_, rfl, ?_⟩
    have hdone : firstFitComplete d c s = dropFit d (fitFirst c) (modCore d c (fun k => { k with
        fit := false, running := true, acc := ppt * (2 ^ 48 : Nat), y := ppt }) s) := by
      simp [firstFitComplete, hc, hfree, hfit, hvalid, hend]
    rw [hdone]
    refine ⟨?_, by simp [State.hfit, dropFit], ?_⟩
    · have hcore : ∀ u, (dropFit d (fitFirst c) u).core d c = u.core d c := fun u => by simp [State.core, dropFit]
      rw [hcore, core_modCore_same]
    · cases d <;> simp [Only]
  case firstVoid =>
    intro c s hc hfree hfit hvalid hend
    refine ⟨_, rfl, ?_⟩
    have hagain : firstFitComplete .tsu c s = startFit .tsu (fitFirst c) sofFit 976562500 1 1000 0 s := by
      simp [firstFitComplete, hc, hfree, hfit, hvalid, hend, startFirstFit]
    rw [hagain]
    exact ⟨by simp [State.hfit, startFit], by simp [Only]⟩
  case stops =>
    intro s ho
    refine ⟨_, rfl, ?_⟩
    have hframe : Only [.com .dxd .tk, .com .dxd .coreA, .com .dxd .coreB, .com .dxd .ports, .com .dxd .pgEvent, .com .dxd .ic,
        .com .dxd .hfits, .refs, .hold] s (oscLoss s) := by apply oscLoss_blank <;> decide
    obtain ⟨u, hu, hports, hhold, hvalid, hsec, hns, hfrac⟩ := oscLoss_reset s ho
    obtain ⟨hlost, hnoted⟩ := hold_oscStopped s
    rw [hu] at hframe ⊢
    rw [showDxdState_tk]
    refine ⟨oscLost_showDxdState (by rw [hhold, hlost]), hvalid, hsec, hns, hfrac, fun p => ?_, ?_, hframe⟩
    · have hp : (showDxdState u).port .dxd p = (oscStopped s).port .dxd p := 
        port_of_ports_eq (Eq.trans (dc_ports_eq (by simp [but])) hports) p
      rw [hp]
      exact port_oscStopped s p
    · exact ((chose_iff _ _).mp (chose_showDxdState (chose_refl u))).history 19 (by rw [hhold, hnoted])
  case returns =>
    intro s ho
    refine ⟨_, rfl, ?_, fun p => ?_, by apply oscReturn_blank <;> decide⟩
    · exact oscReturn_oscLost s ho
    · rw [port_oscReturn s ho, st_reopened]

end Sys2Proof.Machine
end

section
/-!
PROOFS. What an own failure, a remote post and a gap between steps leave of a launch: the step that the member and the key port
know as launched, and the local interrupt sources that stand (O25).
-/

namespace Sys2Proof.Machine

/-- The parts that hold nothing of it. -/
def unlaunched (p : Part) : Bool := decide (p ≠ .member ∧ p ≠ .keyPort ∧ p ≠ .com .tsu .ic)

/-- The launched and the current step of a member, its step gap, and the step of the key port. -/
structure LaunchMarks where
  lastLaunched : Nat
  lastAttempt : Nat
  launchedInEpoch : Bool
  curStep : Nat
  curAttempt : Nat
  curK : Nat
  gapOpen : Bool
  keyStep : Nat

def launchMarks (s : State) : LaunchMarks :=
  ⟨s.t.mem.lastLaunched, s.t.mem.lastAttempt, s.t.mem.launchedInEpoch, s.t.mem.curStep, s.t.mem.curAttempt, s.t.mem.curK,
    s.t.mem.gapOpen, s.t.kp.curStep⟩

/-- The launch stays, and no local source falls. -/
structure LaunchKept (r s : State) : Prop where
  marks : launchMarks s = launchMarks r
  locals : ∀ i, bit r.tc.ic.local_ i = true → bit s.tc.ic.local_ i = true

theorem launchKept_refl (s : State) : LaunchKept s s := ⟨rfl, fun _ h => h⟩

theorem LaunchKept.trans {r s u : State} (h : LaunchKept r s) (h' : LaunchKept s u) : LaunchKept r u :=
  ⟨h'.marks.trans h.marks, fun i hi => h'.locals i (h.locals i hi)⟩

theorem launchKept_choice {r s u : State} (c : Prop) [Decidable c] (hs : LaunchKept r s) (hu : LaunchKept r u) :
    LaunchKept r (if c then s else u) := by split <;> assumption

theorem launchKept_foldl {r : State} {α : Type} (f : State → α → State) (l : List α)
    (hf : ∀ u x, LaunchKept r u → LaunchKept r (f u x)) {s : State} (hs : LaunchKept r s) : LaunchKept r (l.foldl f s) :=
  foldl_keeps (LaunchKept r) (fun u x _ hu => hf u x hu) hs

section
variable {r s : State} (hs : LaunchKept r s)
include hs

/-- An operation of other parts keeps it. -/
theorem launchKept_of_frame {u : State} (h : u.blank unlaunched = s.blank unlaunched) : LaunchKept r u := by
  have hmarks : launchMarks (u.blank unlaunched) = launchMarks (s.blank unlaunched) := congrArg launchMarks h
  have hlocal : u.tc.ic.local_ = s.tc.ic.local_ := congrArg (·.tc.ic.local_) h
  exact ⟨hmarks.trans hs.marks, fun i hi => by rw [hlocal]; exact hs.locals i hi⟩

theorem launchKept_raise (pg b : Nat) : LaunchKept r (raise .tsu pg b s) := by
  refine ⟨Eq.trans ?_ hs.marks, fun i hi => ?_⟩
  · rw [launchMarks, raise_t]
    rfl
  · rw [raise_tsu_local]
    exact hs.locals i hi

theorem launchKept_raiseLocal (n : Nat) : LaunchKept r (raiseLocal n s) := by
  have ht : (raiseLocal n s).t = s.t := (noteRaise_t _ _ _ _).trans rfl
  have hlocal : (raiseLocal n s).tc.ic.local_ = s.tc.ic.local_ ||| bitW n := noteRaise_tsu_local _ _ _
  refine ⟨Eq.trans ?_ hs.marks, fun i hi => ?_⟩
  · rw [launchMarks, ht]
    rfl
  · rw [hlocal, bit_or, hs.locals i hi, Bool.true_or]

/-! Gaps (R144, R155, R160). -/

theorem launchKept_startChange (n p : Nat) : LaunchKept r (startChange n p s) :=
  launchKept_choice _ (launchKept_raise (launchKept_of_frame hs (by simp [unlaunched])) 0x03 48)
    (launchKept_of_frame hs (by simp [unlaunched]))

theorem launchKept_modBaySet (n : Nat) (f : BaySet → BaySet) : LaunchKept r (modBaySet n f s) :=
  launchKept_of_frame hs (by simp [unlaunched])

theorem launchKept_tryChange (n : Nat) : LaunchKept r (tryChange n s) := by
  unfold tryChange
  refine launchKept_choice _ hs ?_
  split
  · exact launchKept_choice _ hs (launchKept_raise hs 0x03 51)
  · refine launchKept_choice _ (launchKept_modBaySet hs n _) (launchKept_choice _ (launchKept_startChange hs n _) ?_)
    exact launchKept_choice _ (launchKept_choice _ (launchKept_startChange hs n _) (launchKept_modBaySet hs n _))
      (launchKept_modBaySet hs n _)

theorem launchKept_tryChanges : LaunchKept r (tryChanges s) :=
  launchKept_choice _ hs (launchKept_foldl _ _ (fun _ n hu => launchKept_choice _ hu (launchKept_tryChange hu n)) hs)

theorem launchKept_recentreGap : LaunchKept r (recentreGap s) :=
  launchKept_choice _ hs (launchKept_choice _ (launchKept_of_frame hs (by simp [unlaunched]))
    (launchKept_raise (launchKept_of_frame hs (by simp [unlaunched])) 0x03 53))

theorem launchKept_useGap : LaunchKept r (useGap s) := launchKept_tryChanges (launchKept_recentreGap hs)

/-! Withdrawals and own failures (R187, R188, R209, R293). -/

theorem launchKept_takeHandler (th : Thread) : LaunchKept r (takeHandler th s) :=
  launchKept_choice _ (launchKept_of_frame hs (by simp [unlaunched]))
    (launchKept_choice _ hs (launchKept_raise (launchKept_of_frame hs (by simp [unlaunched])) 0x04 4))

theorem launchKept_withdraw (p : StepRec → Bool) (e : Option Nat) : LaunchKept r (withdraw p e s) := by
  unfold withdraw
  extract_lets ws fails offs lead runCur s1 s2 s3 s4 s5 s6
  have h1 : LaunchKept r s1 := ⟨hs.marks, hs.locals⟩
  have h3 : LaunchKept r s3 := launchKept_of_frame h1 (by simp [s3, s2, unlaunched])
  have h4 : LaunchKept r s4 := launchKept_choice _ (launchKept_takeHandler h3 _) h3
  have h5 : LaunchKept r s5 := launchKept_choice _ (launchKept_takeHandler h4 _) h4
  have h6 : LaunchKept r s6 := launchKept_choice _ (launchKept_raiseLocal h5 0) h5
  exact launchKept_choice _ (launchKept_raiseLocal h6 4) h6

theorem launchKept_withdrawSet (p : StepRec → Bool) : LaunchKept r (withdrawSet p s) := by
  have hmem : ∀ e, LaunchKept r (modMem (fun m => { m with expected := e }) s) := fun _ => ⟨hs.marks, hs.locals⟩
  unfold withdrawSet
  split
  · exact launchKept_withdraw (hmem _) p _
  · exact hs

theorem launchKept_setTimeState (n : Nat) : LaunchKept r (setTimeState .tsu n s) :=
  launchKept_choice _ hs (launchKept_raise (launchKept_of_frame hs (by simp [unlaunched])) 0x00 0)

theorem launchKept_enterSideline : LaunchKept r (enterSideline s) := by
  unfold enterSideline
  refine launchKept_choice _ hs ?_
  extract_lets s1 s2
  have h1 : LaunchKept r s1 := launchKept_withdrawSet hs _
  have h2 : LaunchKept r s2 := ⟨h1.marks, h1.locals⟩
  exact launchKept_useGap (launchKept_setTimeState (launchKept_raiseLocal h2 7) _)

theorem launchKept_ownFailure : LaunchKept r (ownFailure s) :=
  launchKept_choice _ hs (launchKept_enterSideline ⟨hs.marks, hs.locals⟩)

/-! Remote posts (R219, R226 to R228). -/

theorem launchKept_applyCell (c : Nat) (x : Option Cell) : LaunchKept r (applyCell c x s) := by
  cases x with
  | some x => exact launchKept_of_frame hs (by simp [applyCell, unlaunched])
  | none => exact launchKept_ownFailure (launchKept_raise hs 0x06 5)

theorem launchKept_cellDo (q : CellReq) {f : State → State} (hf : LaunchKept r (f s)) : LaunchKept r (cellDo q f s) :=
  launchKept_choice _ (launchKept_of_frame hs (by simp [unlaunched])) hf

theorem launchKept_stalePost (n : Nat) : LaunchKept r (stalePost n s) :=
  launchKept_choice _ hs (launchKept_raise (launchKept_of_frame hs (by simp [unlaunched])) 0x06 2)

theorem launchKept_actPost (v : PostV) (p : RPost) : LaunchKept r (actPost v p s) := by
  cases v with
  | crc => exact launchKept_ownFailure (launchKept_of_frame hs (by simp [unlaunched]))
  | hold => exact hs
  | stale => exact launchKept_stalePost hs 1
  | mismatch => exact launchKept_ownFailure (launchKept_raise hs 0x06 3)
  | apply =>
    have hpost : LaunchKept r (if p.targeted then cellDo (.postt 0 p.cell p.rank) (cellPostt p.cell p.rank) s
        else cellDo (.post 0 p.cell p.n) (cellAdd p.cell p.n) s) :=
      launchKept_choice _ (launchKept_cellDo hs _ (launchKept_applyCell hs _ _))
        (launchKept_cellDo hs _ (launchKept_applyCell hs _ _))
    exact launchKept_of_frame hpost (modStreamIn_blank _ _ _ rfl)

theorem launchKept_recheck (n : Nat) : LaunchKept r (recheck n s) := by
  induction n generalizing s with
  | zero => exact hs
  | succ n ih =>
    unfold recheck
    split
    · exact hs
    · exact ih (launchKept_actPost (launchKept_of_frame hs (by simp [unlaunched])) _ _)

theorem launchKept_takePost (h : HeldPost) : LaunchKept r (takePost h s) := by
  refine launchKept_choice _ (launchKept_choice _ (launchKept_raise ?_ 0x06 0) ?_)
    (launchKept_recheck (launchKept_actPost hs _ _) _)
  all_goals exact launchKept_of_frame hs (by simp [unlaunched])

theorem launchKept_drainPort (n : Nat) : LaunchKept r (drainPort n s) := by
  induction n generalizing s with
  | zero => exact hs
  | succ n ih =>
    unfold drainPort
    split
    · exact launchKept_choice _ hs (ih (launchKept_takePost (launchKept_of_frame hs (by simp [unlaunched])) _))
    · exact hs

theorem launchKept_recheckAll : LaunchKept r (recheckAll s) :=
  launchKept_choice _ hs (launchKept_drainPort (launchKept_recheck hs _) _)

theorem launchKept_newGeneration (gen : Nat) : LaunchKept r (newGeneration gen s) :=
  launchKept_stalePost (launchKept_of_frame hs (by simp [unlaunched])) _

/-- The late count has registers of its own (R184). -/
theorem launchKept_lateAtTsu (q : StepRec) : LaunchKept r (lateAtTsu q s) :=
  have hmem : ∀ o : Grid × Bool × Bool, LaunchKept r (modMem (fun m => { m with
      gS := o.1.gS, gK := o.1.gK, period := o.1.period, late := o.1.late,
      lateFlag := o.2.2 || (o.2.1 && m.lateFlag) }) s) := fun _ => ⟨hs.marks, hs.locals⟩
  launchKept_choice _ (launchKept_raiseLocal (hmem _) 13) (hmem _)

end

end Sys2Proof.Machine
end

section
/-!
PROOFS. The decision at K - 512 and the kickoff (O25).
-/

namespace Sys2Proof.Machine

/-! The kickoff fires (R181). -/

/-- The strobe leaves all but its own pins and the bays. -/
theorem kick_fireStrobe (k : Nat) (rets : List BayReading) (s : State) :
    (fireStrobe k rets s).t.kick.at_ = k ∧ (fireStrobe k rets s).t.kick.out = (if s.tc.fuse.kind = .w then 1 else 0) ∧
      (fireStrobe k rets s).t.kick.since = s.tc.up := by
  have hkick : ∀ (p : BayReading → Bool) u,
      (rets.foldl (fun s r => if p r then pathSample r s else s) u).t.kick = u.t.kick :=
    fun p u => t_kick_eq (by simp [but])
  unfold fireStrobe
  dsimp only
  rw [hkick]
  exact ⟨rfl, rfl, rfl⟩

/-- The gap closes; the member's other registers stay (R144). -/
theorem mem_closeGap (s : State) : (closeGap s).t.mem = { s.t.mem with gapOpen := false } := by
  have hraise : ∀ b u, (raise .tsu 0x03 b u).t.mem = u.t.mem := fun b u => by rw [raise_t]
  have hset : ∀ n f u, (modBaySet n f u).t.mem = u.t.mem := fun _ _ _ => rfl
  have hstart : ∀ n p u, (startChange n p u).t.mem = u.t.mem := fun n p u => t_mem_eq (by simp [but])
  unfold closeGap
  dsimp only
  split
  · rfl
  · refine foldl_keeps (fun u : State => u.t.mem = { s.t.mem with gapOpen := false }) (fun u n _ hu => ?_) rfl
    (repeat' split)
    · exact hu
    · exact (hstart _ _ _).trans hu
    · exact (hset _ _ _).trans hu
    · exact hu
    · exact ((hraise _ _).trans (t_mem_eq (by simp [but]))).trans hu
    · exact hu

/-- The marks of a step that is launched. -/
def launchedMarks (r : StepRec) : LaunchMarks := ⟨r.step, r.attempt, true, r.step, r.attempt, r.k, false, r.step⟩

/-- The step is current and the gap is closed before what waits for the launch goes on. -/
theorem launchMarks_closeGap_makeCurrent (r : StepRec) (s : State) :
    launchMarks (closeGap (makeCurrent r s)) = launchedMarks r := by
  have hkp : (closeGap (makeCurrent r s)).t.kp = (makeCurrent r s).t.kp := t_kp_eq (by simp [but])
  rw [launchMarks, mem_closeGap, hkp]
  rfl

/-- A waiting kick returns without a change of the launch. -/
theorem launchKept_pokeKick {r s : State} (hs : LaunchKept r s) : LaunchKept r (pokeKick s) :=
  launchKept_of_frame hs (by apply pokeKick_blank <;> decide)

theorem fireKick_launched (r : StepRec) (rets : List BayReading) (s : State) :
    launchMarks (fireKick r rets s) = launchedMarks r ∧ bit (fireKick r rets s).tc.ic.local_ 1 = true := by
  unfold fireKick
  extract_lets s1 s2
  have h2 : LaunchKept s1 s2 := launchKept_choice _ (launchKept_newGeneration (launchKept_refl s1) _) (launchKept_refl s1)
  have hlate : LaunchKept s1 (raiseLocal 1 (lateAtTsu r s2)) := launchKept_raiseLocal (launchKept_lateAtTsu h2 r) 1
  have hend := launchKept_pokeKick (launchKept_recheckAll (launchKept_refl (raiseLocal 1 (lateAtTsu r s2))))
  exact ⟨(hlate.trans hend).marks.trans (launchMarks_closeGap_makeCurrent r _),
    hend.locals 1 (bit_raiseLocal 1 (by decide) _)⟩

theorem kick_fireKick (r : StepRec) (rets : List BayReading) (s : State) :
    (fireKick r rets s).t.kick = (fireStrobe r.k rets s).t.kick := by
  have hgen : ∀ g u, (newGeneration g u).t.kick = u.t.kick := fun g u => t_kick_eq (by simp [but])
  have hrest : ∀ u, (pokeKick (recheckAll (raiseLocal 1 (lateAtTsu r u)))).t.kick = u.t.kick :=
    fun u => t_kick_eq (by simp [but])
  have hfirst : (closeGap (makeCurrent r (startLanes (fireStrobe r.k rets s)))).t.kick = (fireStrobe r.k rets s).t.kick :=
    t_kick_eq (by simp [but])
  unfold fireKick
  dsimp only
  rw [hrest]
  split
  · rw [hgen, hfirst]
  · exact hfirst

/-! SIDELINE (R293). -/

/-- The entry into SIDELINE, at its last steps. -/
theorem enterSideline_eq (s : State) (h : s.tc.tk.sideline = false) :
    ∃ n u, enterSideline s = useGap (setTimeState .tsu n (raiseLocal 7 u)) ∧ u.tc.tk.sideline = true ∧
      u.t.kp.curValid = false := by
  unfold enterSideline
  rw [if_neg (by rw [h]; decide)]
  exact ⟨_, _, rfl, rfl, rfl⟩

theorem sideline_enterSideline (s : State) : (enterSideline s).tc.tk.sideline = true := by
  by_cases h : s.tc.tk.sideline = true
  · rw [enterSideline, if_pos h]
    exact h
  · obtain ⟨n, u, heq, hu, -⟩ := enterSideline_eq s (by simpa using h)
    have hgap : ∀ v, (useGap v).tc.tk = v.tc.tk := fun v => tc_tk_eq (by simp [but])
    have hlocal : (raiseLocal 7 u).tc.tk = u.tc.tk := tc_tk_eq (by simp [but])
    rw [heq, hgap, setTimeState]
    split
    · rw [hlocal, hu]
    · rw [raise_tc_tk, modTk_tsu_tc, hlocal, hu]

/-- An entry is announced, and the key port has no step (R265). -/
theorem enterSideline_entered (s : State) (h : s.tc.tk.sideline = false) :
    bit (enterSideline s).tc.ic.local_ 7 = true ∧ (enterSideline s).t.kp.curValid = false := by
  obtain ⟨n, u, heq, -, hkp⟩ := enterSideline_eq s h
  have hkept : LaunchKept (raiseLocal 7 u) (enterSideline s) := by
    rw [heq]
    exact launchKept_useGap (launchKept_setTimeState (launchKept_refl _) n)
  have hport : (useGap (setTimeState .tsu n (raiseLocal 7 u))).t.kp = u.t.kp := t_kp_eq (by simp [but])
  refine ⟨hkept.locals 7 (bit_raiseLocal 7 (by decide) u), ?_⟩
  rw [heq, hport, hkp]

/-- The kickoff that fails is an entry into SIDELINE. -/
theorem failKick_eq (r : StepRec) (s : State) :
    ∃ u, failKick r s = enterSideline u ∧ u.tc.tk = s.tc.tk ∧ LaunchKept s u := by
  unfold failKick
  extract_lets s1 s2
  have h1 : LaunchKept s s1 := launchKept_choice _ (launchKept_raiseLocal (launchKept_refl s) 11) (launchKept_refl s)
  have h2 : LaunchKept s s2 := launchKept_choice _ (launchKept_takeHandler h1 .lead) h1
  exact ⟨_, rfl, tc_tk_eq (by simp [s2, s1, but]), launchKept_of_frame h2 (by simp [unlaunched])⟩

/-! The root's kickoffs (R169, R172, R184). -/

/-- A step of a job whose beat has come. -/
def stepDue (bc : Nat) (r : RStep) : Bool := r.isArmed && decide (r.k ≤ bc)

/-- The step, launched where it is among those of `l` that are due. -/
def launchIn (bc : Nat) (l : List RStep) (x : RStep) : RStep :=
  if stepDue bc x && l.contains x then { x with launched := true } else x

theorem launchIn_cons_due (bc : Nat) (r : RStep) (l : List RStep) (hr : stepDue bc r = true) (x : RStep) :
    launchIn bc l (if x == r then { x with launched := true } else x) = launchIn bc (r :: l) x := by
  by_cases hx : x = r
  · subst hx
    have hl : stepDue bc { x with launched := true } = false := by simp [stepDue, RStep.isArmed]
    rw [if_pos (beq_self_eq_true x)]
    simp [launchIn, hl, hr]
  · rw [if_neg (by simpa using hx)]
    simp [launchIn, hx]

theorem launchIn_cons_not (bc : Nat) (r : RStep) (l : List RStep) (hr : stepDue bc r = false) (x : RStep) :
    launchIn bc l x = launchIn bc (r :: l) x := by
  by_cases hx : x = r
  · subst hx
    simp [launchIn, hr]
  · simp [launchIn, hx]

/-- A root kickoff launches its step in the job. -/
theorem job_rootKick (j : Nat) (r : RStep) (b : Job) (s : State) (hb : s.job j = some b) :
    ∃ c, (rootKick j r s).job j = some c ∧
      c.steps = b.steps.map (fun x => if x == r then { x with launched := true } else x) := by
  unfold rootKick
  rw [hb]
  dsimp only
  rw [job_modJob _ _ _ (by exact fun _ => rfl), hb]
  exact ⟨_, rfl, rfl⟩

theorem rootKick_dc (j : Nat) (r : RStep) (s : State) : (rootKick j r s).dc = s.dc := by
  unfold rootKick
  split <;> rfl

/-- One step's turn in the root's pass over a job. -/
def rootTurn (j : Nat) (s : State) (r : RStep) : State := if stepDue s.dc.tk.bc r then rootKick j r s else s

theorem kickoffDxd_eq (j : Nat) (b : Job) (s : State) (hb : s.job j = some b) :
    kickoffDxd j s = b.steps.foldl (rootTurn j) s := by
  unfold kickoffDxd
  rw [hb]
  rfl

/-- The pass over the steps `l` of a job. -/
theorem job_rootTurns (j : Nat) (l : List RStep) (b : Job) (s : State) (hb : s.job j = some b) :
    ∃ c, (l.foldl (rootTurn j) s).job j = some c ∧ c.steps = b.steps.map (launchIn s.dc.tk.bc l) := by
  induction l generalizing s b with
  | nil =>
    have hnil : launchIn s.dc.tk.bc [] = id := funext fun x => by simp [launchIn]
    exact ⟨b, hb, by rw [hnil, List.map_id]⟩
  | cons r l ih =>
    rw [List.foldl_cons, rootTurn]
    by_cases hr : stepDue s.dc.tk.bc r = true
    · obtain ⟨c, hc, hsteps⟩ := job_rootKick j r b s hb
      obtain ⟨d, hd, hdsteps⟩ := ih c (rootKick j r s) hc
      rw [if_pos hr]
      refine ⟨d, hd, ?_⟩
      rw [hdsteps, hsteps, rootKick_dc, List.map_map]
      exact List.map_congr_left fun x _ => launchIn_cons_due _ r l hr x
    · obtain ⟨c, hc, hsteps⟩ := ih b s hb
      rw [if_neg hr]
      refine ⟨c, hc, ?_⟩
      rw [hsteps]
      exact List.map_congr_left fun x _ => launchIn_cons_not _ r l (by simpa using hr) x

/-- Settles O25: the launch and its local source are kept by all that follows it, a kickoff that fails is an entry into SIDELINE,
and the root's steps are launched in one pass. -/
theorem kickoffs : Obligations.Kickoffs := by
  unfold Obligations.Kickoffs
  refine ⟨?decision, ?fires, ?fails, ?none, ?root⟩
  case decision =>
    intro r s hlow hnone hk
    have heq : kickoffDecision s = match decide512 r s with
        | .fire => modRec r (fun x => { x with decision := some (decide512 r s) }) s
        | .held => raiseLocal 10 (modRec r (fun x => { x with decision := some (decide512 r s) }) s)
        | .withheld => raiseLocal 12 (modRec r (fun x => { x with decision := some (decide512 r s) }) s) := by
      unfold kickoffDecision
      rw [hlow]
      exact if_neg (by simp [hnone, Nat.not_lt.mpr hk])
    have hlocal : ∀ i u, (raiseLocal i u).t.steps = u.t.steps := fun i u => t_steps_eq (by simp [but])
    have hframe : Only [.com .tsu .ic, .steps] s (kickoffDecision s) := by apply kickoffDecision_blank <;> decide
    refine ⟨_, rfl, ?_⟩
    rw [heq] at hframe ⊢
    cases ho : decide512 r s with
    | fire => exact ⟨rfl, nofun, nofun, fun _ => by simp [Only], by simpa [ho] using hframe⟩
    | held => exact ⟨hlocal _ _, fun _ => bit_raiseLocal 10 (by decide) _, nofun, nofun, by simpa [ho] using hframe⟩
    | withheld => exact ⟨hlocal _ _, nofun, fun _ => bit_raiseLocal 12 (by decide) _, nofun, by simpa [ho] using hframe⟩
  case fires =>
    intro j rets r s hdue hfire hmiss
    have heq : kickoffTsu rets s = fireKick r rets s := by
      unfold kickoffTsu
      rw [hdue]
      exact if_pos ⟨hfire, by simp [hmiss]⟩
    obtain ⟨hmarks, hlocal⟩ := fireKick_launched r rets s
    obtain ⟨hat, hout, hsince⟩ := kick_fireStrobe r.k rets s
    refine ⟨fireKick r rets s, congrArg Host.Outcome.next heq, ?_⟩
    rw [kick_fireKick]
    exact ⟨congrArg LaunchMarks.curStep hmarks, congrArg LaunchMarks.curAttempt hmarks, congrArg LaunchMarks.curK hmarks,
      congrArg LaunchMarks.lastLaunched hmarks, congrArg LaunchMarks.lastAttempt hmarks,
      congrArg LaunchMarks.launchedInEpoch hmarks, congrArg LaunchMarks.gapOpen hmarks, congrArg LaunchMarks.keyStep hmarks,
      hat, hout, hsince, hlocal, by apply fireKick_blank <;> decide⟩
  case fails =>
    intro j rets r s hdue hnot
    have heq : kickoffTsu rets s = failKick r s := by
      unfold kickoffTsu
      rw [hdue]
      refine if_neg fun h => ?_
      rcases hnot with hd | hm
      · exact hd h.1
      · simp [hm] at h
    obtain ⟨u, hu, htk, hkept⟩ := failKick_eq r s
    have hmarks : launchMarks (failKick r s) = launchMarks s := by
      rw [hu]
      exact (launchKept_enterSideline hkept).marks
    refine ⟨failKick r s, congrArg Host.Outcome.next heq, ?_, congrArg LaunchMarks.lastLaunched hmarks,
      congrArg LaunchMarks.curStep hmarks, t_kick_eq (by apply failKick_blank <;> decide), fun hside => ?_,
      by apply failKick_blank <;> decide⟩
    · rw [hu]
      exact sideline_enterSideline u
    · rw [hu]
      exact enterSideline_entered u (by rw [htk, hside])
  case none =>
    intro j rets s hdue
    have heq : kickoffTsu rets s = s := by
      unfold kickoffTsu
      rw [hdue]
    exact congrArg Host.Outcome.next heq
  case root =>
    intro j rets b s hb
    obtain ⟨c, hc, hsteps⟩ := job_rootTurns j b.steps b s hb
    rw [← kickoffDxd_eq j b s hb] at hc
    refine ⟨kickoffDxd j s, rfl, ⟨c, hc, by rw [hsteps, List.length_map], fun r hr ha hk => ?_, fun r hr hnot => ?_⟩,
      kickoffDxd_blank j s (by decide)⟩
    · rw [hsteps]
      refine List.mem_map.mpr ⟨r, hr, ?_⟩
      simp [launchIn, stepDue, ha, hk, hr]
    · rw [hsteps]
      refine List.mem_map.mpr ⟨r, hr, ?_⟩
      rcases hnot with ha | hk
      · simp [launchIn, stepDue, ha]
      · simp [launchIn, stepDue, Nat.not_le.mpr hk]

end Sys2Proof.Machine
end

section
/-!
PROOFS. What a change of a set that starts or ends leaves of the bays and the registers (O23).
-/

namespace Sys2Proof.Machine

/-! Registers of a TSU. -/

/-- A change elsewhere leaves every register as it is. -/
theorem reg_of_only {W : List Part} {s t : State} (h : Only W s t)
    (hW : ∀ p ∈ W, but (.com .tsu .regs) p = true ∧ but (.com .tsu .fuse) p = true) (a : Nat) :
    t.reg .tsu a = s.reg .tsu a := by
  have hregs : t.tc.regs = s.tc.regs := tc_regs_eq (h.blank_eq _ fun p hp => (hW p hp).1)
  have hfuse : t.tc.fuse = s.tc.fuse := tc_fuse_eq (h.blank_eq _ fun p hp => (hW p hp).2)
  simp only [State.reg, com_tsu, hregs, hfuse]

/-- A table is good or bad by its registers alone (R151). -/
theorem tableBad_congr {s t : State} (h : ∀ a, t.reg .tsu a = s.reg .tsu a) (b : Nat) : tableBad t b = tableBad s b := by
  have hword : ptWord t = ptWord s := funext fun b => funext fun p => h (ptAddr b p)
  unfold tableBad ptUsable ptValid ptFreq
  rw [hword]

/-- A register that a taken write reaches stands on an operative page. -/
theorem pageSt_of_writeTaken {d : Dev} {rq pg off : Nat} {s : State} (h : WriteTaken d rq pg off s) (hoff : 0x100 ≤ off) :
    pageSt d s pg = .op := by
  obtain ⟨-, -, htakes, -⟩ := h
  unfold pageTakes at htakes
  split at htakes
  · assumption
  · exact absurd (of_decide_eq_true htakes) (Nat.not_lt.mpr hoff)
  · exact absurd htakes (by decide)

theorem eventSet_raiseBays {rq off : Nat} {s : State} (h : WriteTaken .tsu rq 0x03 off s) (hoff : 0x100 ≤ off) (b : Nat)
    (hb : b < 64) : eventSet .tsu 0x03 b (raise .tsu 0x03 b s) :=
  eventSet_raise .tsu 0x03 b s ⟨pageSt_of_writeTaken h hoff, by decide⟩ hb

/-! Changes that start (R155). -/

/-- The bays stay, but for their counts of changes made mid-step. -/
def UrgentCounted (s t : State) : Prop := ∀ j, t.bay j = { s.bay j with urgentChanges := (t.bay j).urgentChanges }

theorem urgentCounted_refl (s : State) : UrgentCounted s s := fun _ => rfl

theorem UrgentCounted.trans {s t u : State} (h : UrgentCounted s t) (h' : UrgentCounted t u) : UrgentCounted s u := fun j => by
  rw [h' j, h j]

theorem urgentCounted_of_bays {s t u : State} (h : UrgentCounted s t) (hu : u.t.by_.bay = t.t.by_.bay) : UrgentCounted s u := by
  have hbay : ∀ j, u.bay j = t.bay j := fun j => congrArg (fun l => tabGet ({} : Bay) l j) hu
  intro j
  rw [hbay j]
  exact h j

theorem urgentCounted_raise (pg b : Nat) {s t : State} (h : UrgentCounted s t) : UrgentCounted s (raise .tsu pg b t) :=
  urgentCounted_of_bays h (by rw [raise_t])

theorem urgentCounted_choice {s t u : State} (c : Prop) [Decidable c] (ht : UrgentCounted s t) (hu : UrgentCounted s u) :
    UrgentCounted s (if c then t else u) := by split <;> assumption

theorem urgentCounted_count (b : Nat) (n : Bay → Nat) (s : State) :
    UrgentCounted s (modBay b (fun y => { y with urgentChanges := n y }) s) := by
  intro j
  by_cases hj : j = b
  · subst hj
    rw [bay_modBay_same]
  · rw [bay_modBay_ne _ _ _ _ hj]

theorem urgentCounted_startChange (n p : Nat) (s : State) : UrgentCounted s (startChange n p s) := by
  unfold startChange
  extract_lets mid up ms s1
  have h1 : UrgentCounted s s1 := urgentCounted_refl s
  refine urgentCounted_choice _ (urgentCounted_raise 0x03 48 ?_) h1
  exact foldl_keeps (UrgentCounted s) (fun u b _ hu => hu.trans (urgentCounted_count b _ u)) h1

theorem urgentCounted_tryChange (n : Nat) (s : State) : UrgentCounted s (tryChange n s) := by
  have hset : ∀ f, UrgentCounted s (modBaySet n f s) := fun _ => urgentCounted_refl s
  unfold tryChange
  refine urgentCounted_choice _ (urgentCounted_refl s) ?_
  split
  · exact urgentCounted_choice _ (urgentCounted_refl s) (urgentCounted_raise 0x03 51 (urgentCounted_refl s))
  · refine urgentCounted_choice _ (hset _) (urgentCounted_choice _ (urgentCounted_startChange n _ s) ?_)
    exact urgentCounted_choice _ (urgentCounted_choice _ (urgentCounted_startChange n _ s) (hset _)) (hset _)

/-! Changes that end (R156). -/

theorem baySet_modBaySet_same (n : Nat) (f : BaySet → BaySet) (s : State) : (modBaySet n f s).baySet n = f (s.baySet n) :=
  tabGet_tabMod_same _ _ _ _

theorem baySet_modBaySet_ne (n m : Nat) (f : BaySet → BaySet) (s : State) (h : m ≠ n) :
    (modBaySet n f s).baySet m = s.baySet m :=
  tabGet_tabMod_ne _ _ _ _ _ h

/-- A change waits for a live member that has not resumed. -/
theorem finishChange_waits (n a : Nat) (s : State) (hm : a ∈ (s.baySet n).members) (hd : (s.bay a).dead = false)
    (hr : a ∉ (s.baySet n).resumed) : finishChange n s = s := by
  refine if_neg fun h => hr ?_
  have hall := List.all_eq_true.mp h.2 a (List.mem_filter.mpr ⟨hm, by simp [hd]⟩)
  exact List.contains_iff_mem.mp hall

/-! Crossings that are empty: the new frequency and the stop request (R156). -/

/-- A bay's new frequency and stop request; its fit ends (R147). -/
def retune (p : Nat) (s : State) (b : Nat) : State :=
  dropFit .tsu (fitBay b) (modBay b (fun y => { y with freq := ptFreq s b p, stopReq := true }) s)

theorem bay_retune_ne (p b j : Nat) (s : State) (h : j ≠ b) : (retune p s b).bay j = s.bay j := bay_modBay_ne b j _ s h

theorem bay_retune_same (p b : Nat) (s : State) :
    (retune p s b).bay b = { s.bay b with freq := ptFreq s b p, stopReq := true } := bay_modBay_same b _ s

theorem ptFreq_retune (p b j q : Nat) (s : State) : ptFreq (retune p s b) j q = ptFreq s j q := rfl

theorem hfit_retune_same (p b : Nat) (s : State) : (retune p s b).hfit .tsu (fitBay b) = none := by
  simp [retune, dropFit, State.hfit]

/-- A fit that has ended does not come back. -/
theorem hfit_retune (p b k : Nat) (s : State) (h : s.hfit .tsu k = none) : (retune p s b).hfit .tsu k = none := by
  by_cases hk : k = fitBay b
  · rw [hk]
    exact hfit_retune_same p b s
  · have hne : (retune p s b).hfit .tsu k = s.hfit .tsu k := tabGet_tabSet_ne none none s.tc.hfits _ _ none hk
    rw [hne, h]

/-- A bay after its turn in a pass of new frequencies from `s` on. -/
structure Retuned (p b : Nat) (s u : State) : Prop where
  freq : (u.bay b).freq = ptFreq s b p
  stopReq : (u.bay b).stopReq = true
  cur : (u.bay b).cur = (s.bay b).cur
  fit : u.hfit .tsu (fitBay b) = none

/-- Every bay of the pass is served; none is undone by a later turn. -/
theorem retuned_foldl (p b : Nat) (l : List Nat) (s u : State) (hfreq : ptFreq u b p = ptFreq s b p)
    (hcur : (u.bay b).cur = (s.bay b).cur) (h : b ∈ l ∨ Retuned p b s u) : Retuned p b s (l.foldl (retune p) u) := by
  induction l generalizing u with
  | nil => exact h.resolve_left List.not_mem_nil
  | cons k l ih =>
    by_cases hk : b = k
    · subst hk
      have hbay := bay_retune_same p b u
      refine ih _ hfreq ((congrArg Bay.cur hbay).trans hcur) (.inr ⟨?_, congrArg Bay.stopReq hbay,
        (congrArg Bay.cur hbay).trans hcur, hfit_retune_same p b u⟩)
      exact (congrArg Bay.freq hbay).trans hfreq
    · have hbay := bay_retune_ne p k b u hk
      refine ih _ hfreq ((congrArg Bay.cur hbay).trans hcur) (h.imp (fun hb => (List.mem_cons.mp hb).resolve_left hk) ?_)
      rintro ⟨h1, h2, h3, h4⟩
      exact ⟨by rw [hbay, h1], by rw [hbay, h2], by rw [hbay, h3], hfit_retune p k _ u h4⟩

theorem bay_retunes (p b : Nat) (l : List Nat) (s : State) (hb : b ∉ l) : (l.foldl (retune p) s).bay b = s.bay b :=
  foldl_keeps (fun u : State => u.bay b = s.bay b)
    (fun u k hk hu => (bay_retune_ne p k b u fun h => hb (h ▸ hk)).trans hu) rfl

theorem baySet_retunes (p m : Nat) (l : List Nat) (s : State) : (l.foldl (retune p) s).baySet m = s.baySet m :=
  foldl_keeps (step := retune p) (fun u : State => u.baySet m = s.baySet m) (fun _ _ _ hu => hu) rfl

theorem dead_retunes (p b : Nat) (l : List Nat) (s : State) : ((l.foldl (retune p) s).bay b).dead = (s.bay b).dead := by
  refine foldl_keeps (step := retune p) (fun u : State => (u.bay b).dead = (s.bay b).dead) (fun u k _ hu => ?_) rfl
  by_cases hk : b = k
  · subst hk
    rw [bay_retune_same]
    exact hu
  · rw [bay_retune_ne p k b u hk]
    exact hu

/-- The set whose crossings are empty, with the bays that DARK has stopped meanwhile as acknowledged. -/
def setDrained (n : Nat) (s : State) : State :=
  modBaySet n (fun x => { x with
    phase := 2, since := s.tc.up, resumed := [],
    acked := (x.members.filter (fun b => (s.bay b).stopped)).map (fun b => (b, s.tc.up)) }) s

/-- The members of a set's change that are not dead. -/
def liveMembers (n : Nat) (s : State) : List Nat := (s.baySet n).members.filter (fun b => !(s.bay b).dead)

theorem mem_liveMembers {n b : Nat} {s : State} :
    b ∈ liveMembers n s ↔ b ∈ (s.baySet n).members ∧ (s.bay b).dead = false := by
  simp [liveMembers]

/-- With a live member the change goes on to its second phase. -/
theorem crossingDrained_eq (n a : Nat) (s : State) (hp : (s.baySet n).phase = 1) (ha : a ∈ liveMembers n s) :
    crossingDrained n s = (liveMembers n s).foldl (retune (s.baySet n).point) (setDrained n s) := by
  obtain ⟨hm, hd⟩ := mem_liveMembers.mp ha
  have hset := (baySet_retunes (s.baySet n).point n (liveMembers n s) (setDrained n s)).trans (baySet_modBaySet_same n _ s)
  have heq : crossingDrained n s = finishChange n ((liveMembers n s).foldl (retune (s.baySet n).point) (setDrained n s)) :=
    if_neg (by simp [hp])
  rw [heq]
  refine finishChange_waits n a _ ?_ ?_ ?_
  · rw [congrArg BaySet.members hset]
    exact hm
  · exact (dead_retunes _ a _ _).trans hd
  · rw [congrArg BaySet.resumed hset]
    exact List.not_mem_nil

end Sys2Proof.Machine
end

section
/-!
PROOFS. Monitor reports, changes of frequency and the configuration of the bays (O23).
-/

namespace Sys2Proof.Machine

/-! Monitor reports (R153). -/

/-- A bay with what its monitors report; the demand pins of an adaptive one are tied to 0 (R410). -/
def monitored (tied : Bool) (point : Nat) (urgent : Bool) (temp : Int) (y : Bay) : Bay :=
  { y with mon := if tied then 0 else point % 16, urgent := urgent && !tied, temp := temp }

theorem monitorReport_eq (b point : Nat) (urgent : Bool) (temp : Int) (s : State) (he : bayExists s b = true) :
    monitorReport b point urgent temp s =
      tryChange (baySetOf s b) (modBay b (monitored (bayAdaptive s b) point urgent temp) s) :=
  if_neg (by simp [he])

/-! Stops (R156). -/

def stoppedBay (b : Nat) (s : State) : State := modBay b (fun y => { y with stopped := true }) s

theorem stopAck_change (b n : Nat) (s : State) (hn : n = (changeOf s b).getD (baySetOf s b)) (hs : bayServed s b = true)
    (hp : (s.baySet n).phase = 2) (ha : ∀ a, a ∈ (s.baySet n).acked → a.1 ≠ b) :
    stopAck b s = modBaySet n (fun x => { x with acked := x.acked ++ [(b, s.tc.up)] }) (stoppedBay b s) := by
  have hnot : (!(s.baySet n).acked.any (fun a => a.1 == b)) = true := by simpa using ha
  subst hn
  exact (if_neg (by simp [hs])).trans (if_pos ⟨hp, hnot⟩)

theorem stopAck_dark (b : Nat) (s : State) (hs : bayServed s b = true) (hr : (s.bay b).stopReq = true)
    (hp : (s.baySet ((changeOf s b).getD (baySetOf s b))).phase ≠ 2) : stopAck b s = stoppedBay b s :=
  (if_neg (by simp [hs])).trans ((if_neg fun h => hp h.1).trans (if_pos hr))

theorem bay_modBaySet (n b : Nat) (f : BaySet → BaySet) (s : State) : (modBaySet n f s).bay b = s.bay b := rfl

/-! Resumes (R59, R156). -/

/-- A bay that runs again at the point of its set's change. -/
def resumedAt (bc mhz point : Nat) (dark : Bool) (y : Bay) : Bay :=
  immediateCorrection bc mhz { y with stopped := false, stopReq := dark, cur := point, mhz := none }

/-- The state in which a bay has resumed and its set may be done. -/
def afterResume (b n : Nat) (s : State) : State :=
  modBaySet n (fun x => { x with resumed := x.resumed ++ [b] }) (startBayFit b (s.tc.tk.bc + 1) (immediateSamples b
    (modBay b (resumedAt s.tc.tk.bc (ptFreq s b (s.baySet n).point) (s.baySet n).point s.t.st.dark) s)))

theorem bayResume_eq (b n at_ : Nat) (s : State) (hn : n = (changeOf s b).getD (baySetOf s b)) (he : bayExists s b = true)
    (hd : (s.bay b).dead = false) (hs : (s.bay b).stopped = true) (hp : (s.baySet n).phase = 2)
    (ha : (b, at_) ∈ (s.baySet n).acked) : bayResume b s = finishChange n (afterResume b n s) := by
  have hack : (s.baySet n).acked.any (fun a => a.1 == b) = true := List.any_eq_true.mpr ⟨_, ha, by simp⟩
  subst hn
  exact if_neg (by simp [he, hd, hs, hp, hack])

theorem immediateSamples_bay_ne (b j : Nat) (s : State) (h : j ≠ b) : (immediateSamples b s).bay j = s.bay j := by
  rw [immediateSamples, State.bay, canarySample_t]
  exact bay_modBay_ne b j _ s h

theorem immediateSamples_bay (b : Nat) (s : State) : pathless ((immediateSamples b s).bay b) = pathless (s.bay b) := by
  rw [immediateSamples, State.bay, canarySample_t]
  exact (congrArg pathless (bay_modBay_same b _ s)).trans (pathless_pathSampled (s.bay b) _)

theorem immediateSamples_baySet (b n : Nat) (s : State) : (immediateSamples b s).baySet n = s.baySet n := by
  rw [immediateSamples, State.baySet, canarySample_t]
  rfl

theorem immediateSamples_margin (b : Nat) (s : State) :
    tabGet 0 (immediateSamples b s).tc.bt.margin b = Config.canaryCode b s.tc.up % 256 := by
  rw [immediateSamples, canarySample_bt]
  exact tabGet_tabSet_same _ _ _ _

theorem afterResume_bay (b n : Nat) (s : State) : pathless ((afterResume b n s).bay b) =
    pathless (resumedAt s.tc.tk.bc (ptFreq s b (s.baySet n).point) (s.baySet n).point s.t.st.dark (s.bay b)) :=
  (immediateSamples_bay b _).trans (congrArg pathless (bay_modBay_same b _ s))

theorem afterResume_bay_ne (b n j : Nat) (s : State) (h : j ≠ b) : (afterResume b n s).bay j = s.bay j :=
  (immediateSamples_bay_ne b j _ h).trans (bay_modBay_ne b j _ s h)

theorem afterResume_baySet (b n : Nat) (s : State) :
    (afterResume b n s).baySet n = { s.baySet n with resumed := (s.baySet n).resumed ++ [b] } := by
  refine (baySet_modBaySet_same n _ _).trans ?_
  have hset : ∀ w u, (startBayFit b w u).baySet n = u.baySet n := fun _ _ => rfl
  rw [hset, immediateSamples_baySet]
  rfl

theorem afterResume_hfit (b n : Nat) (s : State) : ((afterResume b n s).hfit .tsu (fitBay b)).isSome = true := by
  simp [afterResume, modBaySet, startBayFit, startFit, State.hfit]

/-- The last step of a change leaves bays, fits and canaries. -/
theorem finishChange_hfit (n k : Nat) (s : State) : (finishChange n s).hfit .tsu k = s.hfit .tsu k := by
  have hfits : (finishChange n s).tc.hfits = s.tc.hfits := tc_hfits_eq (by apply finishChange_blank <;> decide)
  rw [State.hfit, com_tsu, hfits]
  rfl

theorem finishChange_bt (n : Nat) (s : State) : (finishChange n s).tc.bt = s.tc.bt :=
  tc_bt_eq (by apply finishChange_blank <;> decide)

/-- A bay that has resumed, but for its counts of changes and its return delay. -/
theorem bayResume_bay (b n : Nat) (s : State) :
    bayCore (pathless ((finishChange n (afterResume b n s)).bay b)) =
      bayCore (pathless (resumedAt s.tc.tk.bc (ptFreq s b (s.baySet n).point) (s.baySet n).point s.t.st.dark (s.bay b))) := by
  have hcore := (baysKept_finishChange (baysKept_refl (afterResume b n s)) n).core b
  exact (congrArg pathless hcore).trans (congrArg bayCore (afterResume_bay b n s))

/-- What a bay that has resumed shows. -/
theorem resumedAt_fields {bc mhz point : Nat} {dark : Bool} {y z : Bay}
    (h : bayCore (pathless z) = bayCore (pathless (resumedAt bc mhz point dark y))) :
    z.stopped = false ∧ z.stopReq = dark ∧ z.cur = point ∧ z.mhz = none ∧ z.inc = commandedInc mhz ∧ z.corr = some bc ∧
      z.pendCorr = some bc ∧ z.gateN = 0 ∧ z.gateB = bc :=
  ⟨congrArg Bay.stopped h, congrArg Bay.stopReq h, congrArg Bay.cur h, congrArg Bay.mhz h, congrArg Bay.inc h,
    congrArg Bay.corr h, congrArg Bay.pendCorr h, congrArg Bay.gateN h, congrArg Bay.gateB h⟩

/-! Members that are late (R156). -/

theorem changeTimeout_late (b : Nat) (x : BaySet) (s : State) (hx : x = s.baySet ((changeOf s b).getD (baySetOf s b)))
    (he : bayExists s b = true) (hp : x.phase = 2) (ha : ∀ a, a ∈ x.acked → a.1 ≠ b) (hl : x.since + 64 ≤ s.tc.up) :
    changeTimeout b s = bayDies b s := by
  have hnone : x.acked.find? (fun a => a.1 == b) = none := List.find?_eq_none.mpr (by simpa using ha)
  unfold changeTimeout
  dsimp only
  rw [← hx, hnone]
  exact if_pos (by simp [he, hp, hl])

/-! Crossings (R152). -/

theorem byXcWrite_taken (rq c : Nat) (v : Word) (s : State) (hc : c < 32) (hw : WriteTaken .tsu rq 0x03 (0xE00 + 8 * c) s) :
    byXcWrite rq c v s = xcStore c v s := by
  rw [byXcWrite, if_pos hc, admitWrite_taken _ _ _ _ _ _ _ hw, dropHalf_tsu]

/-- The state with a crossing's fields as written. -/
def xcWritten (c : Nat) (v : Word) (s : State) : State := setReg .tsu (0x3E00 + 8 * c) (wd [(63, 1), (52, 15), (48, 15)]) v s

theorem xcStore_written (c : Nat) (v : Word) (s : State)
    (h : bit v 63 = false ∨ baySetOf s (xcSender v) = baySetOf s (xcReceiver v)) :
    xcStore c v s = if noEpoch s then recentre c (xcWritten c v s) else xcWritten c v s := by
  refine if_neg fun hjoin => ?_
  rcases h with hv | hset
  · simp [hv] at hjoin
  · exact hjoin.2 hset

theorem reg_recentre (c a : Nat) (s : State) : (recentre c s).reg .tsu a = s.reg .tsu a :=
  reg_of_only (W := [.bays]) (by apply recentre_blank; decide) (by decide) a

/-- A re-centred crossing is empty and has the fields as written (R160). -/
theorem xing_recentre (c : Nat) (s : State) : ((recentre c s).xing c).cfg = s.reg .tsu (0x3E00 + 8 * c) ∧
    ((recentre c s).xing c).slip = 0 ∧ ((recentre c s).xing c).sndHold = 0 ∧ ((recentre c s).xing c).rcvSkip = 0 := by
  have hxing : (recentre c s).xing c = _ := xing_modXing_same c _ s
  rw [hxing]
  exact ⟨rfl, rfl, rfl, rfl⟩

/-! Bays and their tables (R151, R152). -/

theorem byBayCfgWrite_taken (rq b : Nat) (v : Word) (s : State) (hb : b < 16)
    (hw : WriteTaken .tsu rq 0x03 (0x200 + 0x40 * b) s) : byBayCfgWrite rq b v s = bayCfgStore b v s := by
  rw [byBayCfgWrite, if_pos hb, admitWrite_taken _ _ _ _ _ _ _ hw, dropHalf_tsu]

/-- The writable bits of BY_Bn_CFG; MON_EN is not one of an adaptive bay. -/
def bayCfgMask (adaptive : Bool) : Word := wd [(12, if adaptive then 0 else 1), (8, 15), (0, 15)]

theorem bayCfgMask_req (c : Bool) : ∀ i, i < 4 → (bayCfgMask c).toNat.testBit (0 + i) = true := by
  cases c <;> decide

theorem bayCfgMask_set (c : Bool) : ∀ i, i < 4 → (bayCfgMask c).toNat.testBit (8 + i) = true := by
  cases c <;> decide

def bayCfgWritten (b : Nat) (v : Word) (s : State) : State :=
  setReg .tsu (0x3200 + 0x40 * b) (bayCfgMask (bayAdaptive s b)) v s

theorem bayCfgStore_written (b : Nat) (v : Word) (s : State) (he : bayExists s b = true)
    (h : fld v 8 4 = baySetOf s b ∨ splitsCrossing s b (fld v 8 4) = false) :
    Only [.com .tsu .pgEvent, .com .tsu .ic, .bays] (bayCfgWritten b v s) (bayCfgStore b v s) := by
  have htry : ∀ n u, Only [.com .tsu .pgEvent, .com .tsu .ic, .bays] u (tryChange n u) := fun n u => by
    apply tryChange_blank <;> decide
  have heq : bayCfgStore b v s = if fld v 8 4 ≠ baySetOf s b then
      tryChange (baySetOf s b) (tryChange (fld v 8 4) (bayCfgWritten b v s))
      else tryChange (fld v 8 4) (bayCfgWritten b v s) := by
    refine (if_neg (by simp [he])).trans (if_neg fun hsplit => ?_)
    rcases h with hset | hno
    · exact hsplit.1 hset
    · rw [hno] at hsplit
      exact absurd hsplit.2 (by decide)
  rw [heq]
  split
  · exact (htry _ _).trans (htry _ _)
  · exact htry _ _

theorem bayTableWrite_taken (rq b p : Nat) (v : Word) (s : State) (hb : b < 16) (hp : p < 16)
    (hw : WriteTaken .tsu rq 0x03 (0x600 + 0x80 * b + 8 * p) s) : bayTableWrite rq b p v s = ptStore b p v s := by
  rw [bayTableWrite, if_pos ⟨hb, hp⟩, admitWrite_taken _ _ _ _ _ _ _ hw, dropHalf_tsu]

def ptMask : Word := wd [(63, 1), (32, 255), (24, 255), (0, 0xFFF)]

def ptWritten (b p : Nat) (v : Word) (s : State) : State := setReg .tsu (ptAddr b p) ptMask v s

theorem ptStore_eq (b p : Nat) (v : Word) (s : State) (he : bayExists s b = true) :
    ptStore b p v s = if tableBad (ptWritten b p v s) b then raise .tsu 0x03 51 (ptWritten b p v s)
      else tryChange (baySetOf (ptWritten b p v s) b) (ptWritten b p v s) :=
  if_neg (by simp [he])

theorem ptStore_only (b p : Nat) (v : Word) (s : State) (he : bayExists s b = true) :
    Only [.com .tsu .pgEvent, .com .tsu .ic, .bays] (ptWritten b p v s) (ptStore b p v s) := by
  rw [ptStore_eq b p v s he]
  split
  · apply raise_tsu_blank <;> decide
  · apply tryChange_blank <;> decide

/-- Settles O23: a set's change is followed bay by bay, and a taken write by its registers. -/
theorem bayChanges : Obligations.BayChanges := by
  unfold Obligations.BayChanges
  refine ⟨?monitor, ?drained, ?ack, ?ackDark, ?resume, ?late, ?crossing, ?joins, ?config, ?splits, ?table, ?counts, ?slips⟩
  case monitor =>
    intro b point urgent temp s he
    have heq := monitorReport_eq b point urgent temp s he
    have hbays : UrgentCounted (modBay b (monitored (bayAdaptive s b) point urgent temp) s)
        (monitorReport b point urgent temp s) := by
      rw [heq]
      exact urgentCounted_tryChange _ _
    refine ⟨_, rfl, ?_, fun j hj => ?_, by apply monitorReport_blank <;> decide⟩
    · refine (hbays b).trans ?_
      rw [bay_modBay_same]
      rfl
    · refine (hbays j).trans ?_
      rw [bay_modBay_ne _ _ _ _ hj]
  case drained =>
    intro n a s hp ham had
    have heq := crossingDrained_eq n a s hp (mem_liveMembers.mpr ⟨ham, had⟩)
    have hset : ∀ m, (crossingDrained n s).baySet m = (setDrained n s).baySet m := fun m => by rw [heq, baySet_retunes]
    have hsame := (hset n).trans (baySet_modBaySet_same n _ s)
    refine ⟨_, rfl, congrArg BaySet.phase hsame, congrArg BaySet.since hsame, congrArg BaySet.acked hsame,
      fun b hb hd => ?_, fun b hb => ?_, fun m hm => (hset m).trans (baySet_modBaySet_ne n m _ s hm), ?_⟩
    · have hbay := retuned_foldl (s.baySet n).point b (liveMembers n s) s (setDrained n s) rfl rfl
        (.inl (mem_liveMembers.mpr ⟨hb, hd⟩))
      rw [← heq] at hbay
      exact ⟨hbay.freq, hbay.stopReq, hbay.cur, hbay.fit⟩
    · have hnot : b ∉ liveMembers n s := fun h => by
        obtain ⟨hm, hd⟩ := mem_liveMembers.mp h
        rcases hb with hno | hdead
        · exact hno hm
        · simp [hd] at hdead
      rw [heq, bay_retunes _ b _ _ hnot]
      rfl
    · rw [heq]
      simp [Only, retune, setDrained]
  case ack =>
    intro b n s hn hs hp ha
    refine ⟨_, rfl, ?_⟩
    rw [stopAck_change b n s hn hs hp ha]
    exact ⟨(bay_modBaySet n b _ _).trans (bay_modBay_same b _ s), congrArg BaySet.acked (baySet_modBaySet_same n _ _),
      fun j hj => (bay_modBaySet n j _ _).trans (bay_modBay_ne b j _ s hj), by simp [Only, stoppedBay]⟩
  case ackDark =>
    intro b s hs hr hp
    refine ⟨_, rfl, ?_⟩
    rw [stopAck_dark b s hs hr hp]
    exact ⟨bay_modBay_same b _ s, fun _ => rfl, fun j hj => bay_modBay_ne b j _ s hj, by simp [Only, stoppedBay]⟩
  case resume =>
    intro b n x at_ s hn hx he hd hs hp ha
    subst hx
    have heq := bayResume_eq b n at_ s hn he hd hs hp ha
    have hframe : Only [.com .tsu .pgEvent, .com .tsu .ic, .com .tsu .bt, .com .tsu .hfits, .bays] s (bayResume b s) := by
      apply bayResume_blank <;> decide
    obtain ⟨hstop, hreq, hcur, hmhz, hinc, hcorr, hpend, hgateN, hgateB⟩ := resumedAt_fields (bayResume_bay b n s)
    refine ⟨_, rfl, ?_⟩
    rw [heq] at hframe ⊢
    refine ⟨hstop, hreq, hcur, hmhz, hinc, hcorr, hpend, hgateN, hgateB, ?_, ?_, ?_, hframe⟩
    · rw [finishChange_hfit]
      exact afterResume_hfit b n s
    · rw [finishChange_bt]
      exact immediateSamples_margin b _
    · rintro ⟨j, hj, hjd, hjb, hjr⟩
      have hset := afterResume_baySet b n s
      rw [finishChange_waits n j (afterResume b n s) (by rw [hset]; exact hj) (by rw [afterResume_bay_ne b n j s hjb, hjd])
        (by rw [hset]; simp [hjr, hjb]), hset]
      exact ⟨rfl, hp⟩
  case late =>
    intro b x s hx he hd hp ha hl
    refine ⟨_, rfl, ?_⟩
    rw [changeTimeout_late b x s hx he hp ha hl]
    exact ⟨congrArg Bay.dead (bayDies_bay b s he hd), bayDies_event b s he hd, by apply bayDies_blank <;> decide⟩
  case crossing =>
    intro rq c v s hc hw hv
    have heq := (byXcWrite_taken rq c v s hc hw).trans (xcStore_written c v s hv)
    have hreg : ∀ a, (byXcWrite rq c v s).reg .tsu a = (xcWritten c v s).reg .tsu a := fun a => by
      rw [heq]
      split
      · exact reg_recentre c a _
      · rfl
    refine ⟨_, rfl, (hreg _).trans ((reg_setReg ..).trans (if_pos rfl)), fun hn => ?_, fun hn => ?_, ?_⟩
    · rw [hreg, heq, if_pos hn]
      exact xing_recentre c (xcWritten c v s)
    · rw [heq, if_neg (by simp [hn])]
      rfl
    · rw [heq]
      split <;> simp [Only, xcWritten]
  case joins =>
    intro rq c v s hc hw hv hset
    have heq : byXcWrite rq c v s = raise .tsu 0x03 50 s := (byXcWrite_taken rq c v s hc hw).trans (if_pos ⟨hv, hset⟩)
    have hframe : Only [.com .tsu .pgEvent, .com .tsu .ic] s (raise .tsu 0x03 50 s) := by
      apply raise_tsu_blank <;> decide
    refine ⟨_, rfl, ?_⟩
    rw [heq]
    exact ⟨reg_of_only hframe (by decide), eventSet_raiseBays hw (by omega) 50 (by decide), hframe⟩
  case config =>
    intro rq b v s hb hw he h
    have heq := byBayCfgWrite_taken rq b v s hb hw
    have hframe := bayCfgStore_written b v s he h
    have hreg := reg_of_only hframe (by decide)
    have hcfg : bayCfg (bayCfgStore b v s) b = _ := (hreg _).trans ((reg_setReg ..).trans (if_pos rfl))
    have hkind : bayAdaptive (bayCfgStore b v s) b = bayAdaptive s b := by
      have hfuse : (bayCfgStore b v s).tc.fuse = s.tc.fuse := tc_fuse_eq (by apply bayCfgStore_blank <;> decide)
      rw [bayAdaptive, hfuse]
      rfl
    refine ⟨_, rfl, ?_⟩
    rw [heq]
    refine ⟨?_, ?_, ?_, fun a ha => (hreg a).trans ((reg_setReg ..).trans (if_neg ha)), ?_⟩
    · rw [bayReq, hcfg]
      exact fld_masked (bayCfgMask_req _)
    · rw [baySetOf, hcfg]
      exact fld_masked (bayCfgMask_set _)
    · rw [bayMonEn, hcfg, hkind]
      cases bayAdaptive s b
      · rw [bit_masked (by decide)]
      · simp
    · apply bayCfgStore_blank <;> decide
  case splits =>
    intro rq b v s hb hw he hset hsplit
    have heq : byBayCfgWrite rq b v s = raise .tsu 0x03 50 s :=
      (byBayCfgWrite_taken rq b v s hb hw).trans ((if_neg (by simp [he])).trans (if_pos ⟨hset, hsplit⟩))
    have hframe : Only [.com .tsu .pgEvent, .com .tsu .ic] s (raise .tsu 0x03 50 s) := by
      apply raise_tsu_blank <;> decide
    refine ⟨_, rfl, ?_⟩
    rw [heq]
    exact ⟨reg_of_only hframe (by decide), eventSet_raiseBay 50 b s he (by decide), hframe⟩
  case table =>
    intro rq b p v s hb hp hw he
    have heq := bayTableWrite_taken rq b p v s hb hp hw
    have hreg := reg_of_only (ptStore_only b p v s he) (by decide)
    have hword : ptWord (ptStore b p v s) b p = _ := (hreg _).trans ((reg_setReg ..).trans (if_pos rfl))
    refine ⟨_, rfl, ?_⟩
    rw [heq]
    refine ⟨?_, ?_, ?_, fun a ha => (hreg a).trans ((reg_setReg ..).trans (if_neg ha)), fun hbad => ?_, ?_⟩
    · rw [ptFreq, hword]
      exact fld_masked (by decide)
    · rw [ptMargin, hword]
      exact fld_masked (by decide)
    · rw [ptValid, hword]
      exact bit_masked (by decide)
    · rw [tableBad_congr hreg] at hbad
      rw [ptStore_eq b p v s he, if_pos hbad]
      exact eventSet_raiseBay 51 b _ he (by decide)
    · apply ptStore_blank <;> decide
  case counts =>
    intro rq b s hb hr
    refine ⟨_, rfl, ?_⟩
    rw [byChangesRead, if_pos hb, admitRead_taken _ _ _ _ _ _ _ hr, dropHalf_tsu]
    exact ⟨response_respond .tsu rq _ s, bay_modBay_same b _ _, fun j hj => bay_modBay_ne b j _ _ hj, by simp [Only]⟩
  case slips =>
    intro rq c s hc hr
    refine ⟨_, rfl, ?_⟩
    rw [byXcRead, if_pos hc, admitRead_taken _ _ _ _ _ _ _ hr, dropHalf_tsu]
    exact ⟨response_respond .tsu rq _ s, xing_modXing_same c _ _, fun j hj => xing_modXing_ne c j _ _ hj, by simp [Only]⟩

end Sys2Proof.Machine
end

section
/-!
PROOFS. What the ledger and the messages that leave keep of each job (R307, R310, R314).
-/

namespace Sys2Proof.Machine

/-- Every job keeps its slot and what `g` says of it. -/
def JobsKeep {α : Type} (g : Job → α) (s t : State) : Prop :=
  t.x.rf2.jobs.map (fun b => (b.slot, g b)) = s.x.rf2.jobs.map (fun b => (b.slot, g b))

/-- A BENCH that leaves at beat `n` changes nothing that `g` says: it dates the replay of its job (R314). -/
def IgnoresBench {α : Type} (g : Job → α) : Prop :=
  ∀ b n l, g { b with pause := b.pause.map (fun p => { p with benchAt := some n, lead := l }) } = g b

/-- A ledger that fills changes nothing that `g` says: it pauses the job with LEDGER_FULL (R310). -/
def IgnoresFull {α : Type} (g : Job → α) : Prop := ∀ b : Job, g { b with state := 4, result := 0xA } = g b

section
variable {α : Type} {g : Job → α} {s t u : State}

theorem JobsKeep.trans (h : JobsKeep g s t) (h' : JobsKeep g t u) : JobsKeep g s u := Eq.trans h' h

theorem jobsKeep_of_jobs_eq (h : t.x.rf2.jobs = s.x.rf2.jobs) : JobsKeep g s t := by rw [JobsKeep, h]

theorem jobsKeep_refl (s : State) : JobsKeep g s s := rfl

theorem jobsKeep_of_frame (h : t.blank (but .referee) = s.blank (but .referee)) : JobsKeep g s t :=
  jobsKeep_of_jobs_eq (by rw [x_rf2_eq h])

theorem jobsKeep_map (f : Job → Job) (h : t.x.rf2.jobs = s.x.rf2.jobs.map f)
    (hf : ∀ b, (f b).slot = b.slot ∧ g (f b) = g b) : JobsKeep g s t := by
  rw [JobsKeep, h, List.map_map]
  exact List.map_congr_left fun b _ => Prod.ext (hf b).1 (hf b).2

theorem jobsKeep_modJob (j : Nat) (f : Job → Job) (s : State) (hf : ∀ b, (f b).slot = b.slot ∧ g (f b) = g b) :
    JobsKeep g s (modJob j f s) :=
  map_listModify _ fun b _ => Prod.ext (hf b).1 (hf b).2

/-- What `g` says of the job in a slot. -/
theorem JobsKeep.job (h : JobsKeep g s t) (j : Nat) : (t.job j).map g = (s.job j).map g := by
  have hfind : ∀ u : State, (u.job j).map g =
      ((u.x.rf2.jobs.map (fun b => (b.slot, g b))).find? (fun k => k.1 == j)).map Prod.snd := fun u => by
    rw [List.find?_map, Option.map_map]
    rfl
  rw [hfind, hfind, h]

/-- A job there is afterwards, and `g` says the same of it. -/
theorem JobsKeep.exists_job (h : JobsKeep g s t) {j : Nat} {b : Job} (hb : s.job j = some b) :
    ∃ c, t.job j = some c ∧ g c = g b := by
  have := h.job j
  rw [hb, Option.map_some, Option.map_eq_some_iff] at this
  exact this

theorem jobsKeep_pauseEvery (hg : IgnoresFull g) (s : State) :
    JobsKeep g s (pauseEvery (fun b => { b with result := 0xA }) s) := by
  refine jobsKeep_map (fun b => if 1 ≤ b.state ∧ b.state ≤ 4 then { b with state := 4, result := 0xA } else b)
    (by simp [pauseEvery, raiseIf_x]) fun b => ?_
  split
  · exact ⟨rfl, hg b⟩
  · exact ⟨rfl, rfl⟩

theorem jobsKeep_ledgerWatch (hg : IgnoresFull g) (s : State) : JobsKeep g s (ledgerWatch s) := by
  have hlow : JobsKeep g s (if ledgerFree s.x.lg < 256 then raise .dxd 0x15 1 s else s) :=
    jobsKeep_of_jobs_eq (by split <;> simp)
  unfold ledgerWatch
  dsimp only
  split
  · exact hlow.trans (jobsKeep_pauseEvery hg _)
  · exact hlow

theorem jobsKeep_ledgerAppend (hg : IgnoresFull g) (ty attempt step epoch value : Nat) (data : List Byte) (ckpt : Bool)
    (s : State) : JobsKeep g s (ledgerAppend ty attempt step epoch value data ckpt s) := by
  unfold ledgerAppend
  split
  · exact jobsKeep_refl s
  · exact .trans (jobsKeep_of_jobs_eq (by simp)) (jobsKeep_ledgerWatch hg _)

theorem jobsKeep_takeOseq (hg : IgnoresFull g) (s : State) : JobsKeep g s (takeOseq s).2 := by
  unfold takeOseq
  dsimp only
  split
  · refine .trans (jobsKeep_of_jobs_eq ?_) (.trans (jobsKeep_ledgerAppend hg 3 0 0 0 (s.x.rf2.oseqNext + 4095) [] false
      (modRef (fun r => { r with oseqReserved := s.x.rf2.oseqNext + 4096 }) s)) (jobsKeep_of_jobs_eq ?_))
    · rw [modRef_x]
    · rw [modRef_x]
  · exact jobsKeep_of_jobs_eq (by rw [modRef_x])

theorem jobsKeep_noteSent (hg : IgnoresBench g) (f : Frame) (s : State) : JobsKeep g s (noteSent f s) := by
  unfold noteSent
  split
  · next b _ =>
    have hbench : JobsKeep g s (noteBench b.kind b.target b.reason s) := by
      refine jobsKeep_of_jobs_eq ?_
      unfold noteBench
      dsimp only
      split <;> simp
    refine hbench.trans ?_
    unfold replayFrom
    split
    · exact jobsKeep_refl _
    · refine jobsKeep_map (fun q => if q.epoch == b.newEpoch then
        { q with pause := q.pause.map (fun p =>
          { p with benchAt := some (noteBench b.kind b.target b.reason s).dc.tk.bc, lead := b.admitLead }) } else q)
        rfl fun q => ?_
      split
      · exact ⟨rfl, hg q _ _⟩
      · exact ⟨rfl, rfl⟩
  · exact jobsKeep_refl s

theorem jobsKeep_sendMsg (hg : IgnoresBench g) (m : LedgerMsg) (s : State) : JobsKeep g s (sendMsg m s) :=
  (jobsKeep_of_jobs_eq (by simp)).trans (jobsKeep_noteSent hg _ _)

theorem jobsKeep_flushMsgs (hg : IgnoresBench g) (n : Nat) (s : State) : JobsKeep g s (flushMsgs n s) := by
  induction n generalizing s with
  | zero => exact jobsKeep_refl s
  | succ n ih =>
    unfold flushMsgs
    split
    · split
      · exact .trans (.trans (jobsKeep_of_jobs_eq (by simp)) (jobsKeep_sendMsg hg _ _)) (ih _)
      · exact jobsKeep_refl s
    · exact jobsKeep_refl s

theorem jobsKeep_afterLedger (hg : IgnoresBench g) (ep : Nat) (f : Frame) (s : State) :
    JobsKeep g s (afterLedger ep f s) :=
  .trans (jobsKeep_of_jobs_eq (by simp [afterLedgerTo])) (jobsKeep_flushMsgs hg _ _)

end

/-! Free records (R310). -/

theorem lg_ledgerWatch (s : State) : (ledgerWatch s).x.lg = s.x.lg := x_lg_eq (by simp [but])

/-- While a record is free the ledger pauses no job. -/
theorem rf2_ledgerWatch (s : State) (h : 0 < ledgerFree s.x.lg) : (ledgerWatch s).x.rf2 = s.x.rf2 := by
  unfold ledgerWatch
  dsimp only
  rw [if_neg (by omega)]
  split <;> simp

/-- What a full ledger makes of a job (R310). -/
def Job.ledgerFull (b : Job) : Job := if 1 ≤ b.state ∧ b.state ≤ 4 then { b with state := 4, result := 0xA } else b

theorem slot_ledgerFull (b : Job) : b.ledgerFull.slot = b.slot := by
  unfold Job.ledgerFull
  split <;> rfl

/-- With no record free every job that runs or recovers is PAUSED. -/
theorem job_ledgerWatch_full (s : State) (j : Nat) (h : ledgerFree s.x.lg = 0) :
    (ledgerWatch s).job j = (s.job j).map Job.ledgerFull := by
  have hjobs : (ledgerWatch s).x.rf2.jobs = s.x.rf2.jobs.map Job.ledgerFull := by
    unfold ledgerWatch
    dsimp only
    rw [if_pos h, pauseEvery, raiseIf_x, modRef_x]
    dsimp only
    split
    · rw [raise_x]
      rfl
    · rfl
  rw [State.job, hjobs, List.find?_map]
  simp only [Function.comp_def, slot_ledgerFull]
  rfl

/-- The ledger with one more record. -/
def Ledger.append (ty attempt step epoch value : Nat) (data : List Byte) (ckpt : Bool) (l : Ledger) : Ledger :=
  { l with
    recs := (if 16384 ≤ l.recs.length then l.recs.drop 1 else l.recs) ++
      [⟨ty, attempt, step, epoch, l.next, value, data, l.solo, ckpt⟩]
    open_ := l.open_ ++ [l.next]
    next := nextSeq l.next }

theorem ledgerAppend_room (ty attempt step epoch value : Nat) (data : List Byte) (ckpt : Bool) (s : State)
    (h : 0 < ledgerFree s.x.lg) : ledgerAppend ty attempt step epoch value data ckpt s =
      ledgerWatch (modLg (Ledger.append ty attempt step epoch value data ckpt) s) := by
  rw [ledgerAppend, if_neg (by omega)]
  rfl

/-- A record takes at most one of the free ones. -/
theorem ledgerFree_append (ty attempt step epoch value : Nat) (data : List Byte) (ckpt : Bool) (l : Ledger) :
    ledgerFree l ≤ ledgerFree (l.append ty attempt step epoch value data ckpt) + 1 := by
  have hkept : (if 16384 ≤ l.recs.length then l.recs.drop 1 else l.recs).countP l.kept ≤ l.recs.countP l.kept := by
    split
    · exact (List.drop_sublist 1 l.recs).countP_le
    · exact le_rfl
  have hone : ([⟨ty, attempt, step, epoch, l.next, value, data, l.solo, ckpt⟩] : List LedgerRec).countP l.kept ≤ 1 :=
    List.countP_le_length
  have hsum : (l.append ty attempt step epoch value data ckpt).recs.countP l.kept ≤ l.recs.countP l.kept + 1 := by
    rw [Ledger.append, List.countP_append]
    omega
  have hfree : ledgerFree (l.append ty attempt step epoch value data ckpt) =
      16384 - (l.append ty attempt step epoch value data ckpt).recs.countP l.kept := rfl
  rw [hfree, ledgerFree]
  omega

theorem ledgerFree_ledgerAppend (ty attempt step epoch value : Nat) (data : List Byte) (ckpt : Bool) (s : State) :
    ledgerFree s.x.lg ≤ ledgerFree (ledgerAppend ty attempt step epoch value data ckpt s).x.lg + 1 := by
  by_cases h : 0 < ledgerFree s.x.lg
  · rw [ledgerAppend_room _ _ _ _ _ _ _ _ h, lg_ledgerWatch]
    exact ledgerFree_append ..
  · omega

/-- A record that is not the last one to fit leaves the jobs as they are. -/
theorem rf2_ledgerAppend (ty attempt step epoch value : Nat) (data : List Byte) (ckpt : Bool) (s : State)
    (h : 2 ≤ ledgerFree s.x.lg) : (ledgerAppend ty attempt step epoch value data ckpt s).x.rf2 = s.x.rf2 := by
  have := ledgerFree_append ty attempt step epoch value data ckpt s.x.lg
  rw [ledgerAppend_room _ _ _ _ _ _ _ _ (by omega), rf2_ledgerWatch _ (by simp only [modLg_x]; omega), modLg_x]

theorem takeOseq_fst (s : State) : (takeOseq s).1 = s.x.rf2.oseqNext % 2 ^ 32 := rfl

theorem oseqNext_takeOseq (s : State) : (takeOseq s).2.x.rf2.oseqNext = s.x.rf2.oseqNext + 1 := rfl

/-- With two records free the next ORIGIN_SEQ leaves the jobs as they are. -/
theorem jobs_takeOseq (s : State) (h : 2 ≤ ledgerFree s.x.lg) : (takeOseq s).2.x.rf2.jobs = s.x.rf2.jobs := by
  unfold takeOseq
  dsimp only
  split
  · rw [modRef_x, rf2_ledgerAppend _ _ _ _ _ _ _ _ (by simpa using h)]
    rfl
  · rfl

theorem ledgerFree_takeOseq (s : State) : ledgerFree s.x.lg ≤ ledgerFree (takeOseq s).2.x.lg + 1 := by
  unfold takeOseq
  dsimp only
  split
  · simpa using ledgerFree_ledgerAppend 3 0 0 0 (s.x.rf2.oseqNext + 4095) [] false
      (modRef (fun r => { r with oseqReserved := s.x.rf2.oseqNext + 4096 }) s)
  · rw [modRef_x]
    exact Nat.le_add_right _ 1

/-- The next ORIGIN_SEQ of a block that has its record takes none. -/
theorem takeOseq_reserved (s : State) (h : s.x.rf2.oseqNext < s.x.rf2.oseqReserved) :
    (takeOseq s).2 = modRef (fun r => { r with oseqNext := s.x.rf2.oseqNext + 1 }) s := by
  rw [takeOseq]
  dsimp only
  rw [if_neg (by omega)]

end Sys2Proof.Machine
end

section
/-!
PROOFS. Recovery (R310, R314): O43. A replay ARM whose record is the last one to fit pauses the job that it starts.
-/

namespace Sys2Proof.Machine

/-- A job changes STATE and nothing else. -/
theorem job_setJobState (j st : Nat) (b : Job) (s : State) (hb : s.job j = some b) :
    (setJobState j st s).job j = some { b with state := st } := by
  rw [setJobState, hb]
  dsimp only
  split
  · next h => rw [hb, ← h]
  · have hx : ∀ u : State, (raise .dxd 0x14 2 u).job j = u.job j := fun u => by rw [State.job, raise_x, State.job]
    rw [hx, job_modJob _ _ _ fun _ => by rfl, hb, Option.map_some]

theorem ledger_setJobState (j st : Nat) (s : State) : (setJobState j st s).x.lg = s.x.lg :=
  x_lg_eq (by simp [but])

theorem oseq_setJobState (j st : Nat) (s : State) : (setJobState j st s).x.rf2.oseqNext = s.x.rf2.oseqNext ∧
    (setJobState j st s).x.rf2.oseqReserved = s.x.rf2.oseqReserved := by
  unfold setJobState
  split
  · split
    · exact ⟨rfl, rfl⟩
    · rw [raise_x]
      exact ⟨rfl, rfl⟩
  · exact ⟨rfl, rfl⟩

/-- The job as the replay of step `r` starts it (R314). -/
def Job.replay (b : Job) (r k : Nat) (c : Job) : Job :=
  { c with
    steps := pruneSteps c ++ [newRStep b r (nextAttempt b r) k true]
    nextStep := r + 1, gS := r, gK := k, pause := none }

/-- The ARM of a replay goes out as one of a running job. -/
theorem replayArm_arms {j r a : Nat} {b : Job} {p : Pause} {s : State} (hb : s.job j = some b) (hp : b.pause = some p)
    (hpoint : replayPoint b p = some (r, a)) (hacts : rootActs s = true) (h3 : b.state = 3) (he : b.ending = none)
    (ha : a ≤ s.dc.tk.bc) (hx : exhausted b r = false) (hstop : (b.stopArms && nextAttempt b r == 0) = false)
    (hroom : ledgerRoom 1 s = true) : replayArm j s =
      queueArm b.epoch (newRStep b r (nextAttempt b r) (max a s.dc.tk.bc + lEff b.sched) true)
        (setJobState j 2 (modJob j (b.replay r (max a s.dc.tk.bc + lEff b.sched)) s)) := by
  rw [replayArm, hb]
  simp only [hp, hpoint, hacts, h3, he, hx, hstop, hroom, Nat.not_lt.mpr ha, decide_false, Bool.not_true,
    Option.isSome_none, bne_self_eq_false, Bool.or_false, Bool.false_eq_true, if_false]
  rfl

/-- An ARM whose record fills the ledger leaves every job that runs PAUSED. -/
theorem state_queueArm_full (ep : Nat) (x : RStep) (j : Nat) (b : Job) (s : State) (hb : s.job j = some b)
    (h1 : 1 ≤ b.state) (h4 : b.state ≤ 4) (hseq : s.x.rf2.oseqNext < s.x.rf2.oseqReserved)
    (hfree : 0 < ledgerFree s.x.lg)
    (hfull : ledgerFree (s.x.lg.append 4 x.attempt x.step ep x.k [] x.checkpoint) = 0) :
    ∃ c, (queueArm ep x s).job j = some c ∧ c.state = 4 := by
  have hlg : (takeOseq s).2.x.lg = s.x.lg := by rw [takeOseq_reserved s hseq, modRef_x]
  have hjobs : (takeOseq s).2.x.rf2.jobs = s.x.rf2.jobs := by rw [takeOseq_reserved s hseq, modRef_x]
  have hpaused : (ledgerAppend 4 x.attempt x.step ep x.k [] x.checkpoint (takeOseq s).2).job j =
      some { b with state := 4, result := 0xA } := by
    have hjob : (modLg (Ledger.append 4 x.attempt x.step ep x.k [] x.checkpoint) (takeOseq s).2).job j = some b := by
      rw [State.job, modLg_x, hjobs]
      exact hb
    rw [ledgerAppend_room _ _ _ _ _ _ _ _ (by rw [hlg]; exact hfree),
      job_ledgerWatch_full _ _ (by simp only [modLg_x, hlg]; exact hfull), hjob, Option.map_some, Job.ledgerFull,
      if_pos ⟨h1, h4⟩]
  have hrest : JobsKeep Job.state (ledgerAppend 4 x.attempt x.step ep x.k [] x.checkpoint (takeOseq s).2)
      (queueArm ep x s) :=
    .trans (jobsKeep_of_frame (by simp [but])) (jobsKeep_afterLedger (fun _ _ _ => rfl) ..)
  obtain ⟨c, hc, hstate⟩ := hrest.exists_job hpaused
  exact ⟨c, hc, hstate⟩

/-- A replay ARM whose record fills the ledger leaves the job PAUSED. -/
theorem state_replayArm_full {j r a : Nat} {b : Job} {p : Pause} {s : State} (hb : s.job j = some b)
    (hp : b.pause = some p) (hpoint : replayPoint b p = some (r, a)) (hacts : rootActs s = true) (h3 : b.state = 3)
    (he : b.ending = none) (ha : a ≤ s.dc.tk.bc) (hx : exhausted b r = false)
    (hstop : (b.stopArms && nextAttempt b r == 0) = false) (hroom : ledgerRoom 1 s = true)
    (hseq : s.x.rf2.oseqNext < s.x.rf2.oseqReserved)
    (hfull : ∀ k ckpt attempt, ledgerFree (s.x.lg.append 4 attempt r b.epoch k [] ckpt) = 0) :
    ∃ c, (replayArm j s).job j = some c ∧ c.state = 4 := by
  have hlg : (setJobState j 2 (modJob j (b.replay r (max a s.dc.tk.bc + lEff b.sched)) s)).x.lg = s.x.lg := by
    rw [ledger_setJobState]
    rfl
  have hrun : (setJobState j 2 (modJob j (b.replay r (max a s.dc.tk.bc + lEff b.sched)) s)).job j =
      some { b.replay r (max a s.dc.tk.bc + lEff b.sched) b with state := 2 } :=
    job_setJobState _ _ _ _ (by rw [job_modJob _ _ _ fun _ => by rfl, hb, Option.map_some])
  have hfree : 1 ≤ ledgerFree s.x.lg := by
    rw [ledgerRoom, decide_eq_true_iff] at hroom
    omega
  rw [replayArm_arms hb hp hpoint hacts h3 he ha hx hstop hroom]
  refine state_queueArm_full _ _ _ _ _ hrun (show 1 ≤ 2 by decide) (show 2 ≤ 4 by decide) ?_ (by rw [hlg]; exact hfree)
    (by rw [hlg]; exact hfull _ _ _)
  rw [(oseq_setJobState ..).1, (oseq_setJobState ..).2]
  exact hseq

/-! A root whose ledger has room for one record. -/

/-- A job whose pause has come to the replay of step 0, now. -/
def replayJob : Job :=
  { slot := 1, state := 3, result := 0, benched := 0, epoch := 1, job := 7, seedIndex := 0, seed := 0, mapClass := 0,
    engines := 1, ws := 1, digest := [], fp := [], ckptInterval := 0, groups := [], cold := false, engineMap := [0],
    wsMap := [0], sched := { minPeriod := 50000, armLead := 20000, maxAttempt := 3, runAhead := 1 }, gS := 0, gK := 0,
    period := 100000, late := 0, nextStep := 0, armFrom := 0, steps := [], committedTo := none, marks := [],
    pause := some ⟨0, 0, 0, [], false, some 0, none, true, 0⟩, ending := none, stopArms := false }

/-- The ledger holds the records 1 to 16,383; none is exported. -/
def lastRecordLedger : Ledger :=
  { recs := (List.range 16383).map (fun n => ⟨5, 0, n, 1, n + 1, 0, [], false, false⟩), next := 16384 }

/-- The acting root with this job and this ledger, inside a block of ORIGIN_SEQ that has its record. -/
def lastRecordRoot : State :=
  { State.reset with
    x := { straps := { role := 2 }, lg := lastRecordLedger,
           rf2 := { acting := true, jobs := [replayJob], oseqReserved := 4096 } } }

theorem serial_of_first (n : Nat) (h : n < 2 ^ 31) : serial 32 n 0 = n := by
  unfold serial sx
  omega

theorem kept_lastRecordLedger (r : LedgerRec) (h0 : 0 < r.seq) (h : r.seq < 2 ^ 31) :
    lastRecordLedger.kept r = true := by
  have hserial : serial 32 r.seq lastRecordLedger.exported = (r.seq : Int) := serial_of_first r.seq h
  rw [Ledger.kept, hserial, decide_eq_true (by omega), Bool.or_true]

theorem countP_lastRecordLedger : lastRecordLedger.recs.countP lastRecordLedger.kept = 16383 := by
  have hlength : lastRecordLedger.recs.length = 16383 := by
    rw [lastRecordLedger, List.length_map, List.length_range]
  rw [List.countP_eq_length.mpr, hlength]
  intro r hr
  unfold lastRecordLedger at hr
  simp only [List.mem_map, List.mem_range] at hr
  obtain ⟨n, hn, rfl⟩ := hr
  exact kept_lastRecordLedger _ (Nat.succ_pos n) (by dsimp only; omega)

theorem ledgerFree_lastRecordLedger : ledgerFree lastRecordLedger = 1 := by
  rw [ledgerFree, countP_lastRecordLedger]

theorem kept_append (ty attempt step epoch value : Nat) (data : List Byte) (ckpt : Bool) (l : Ledger) :
    (l.append ty attempt step epoch value data ckpt).kept = l.kept := rfl

theorem ledgerFree_append_lastRecordLedger (ty attempt step epoch value : Nat) (data : List Byte) (ckpt : Bool) :
    ledgerFree (lastRecordLedger.append ty attempt step epoch value data ckpt) = 0 := by
  have hlen : ¬ 16384 ≤ lastRecordLedger.recs.length := by
    rw [lastRecordLedger, List.length_map, List.length_range]
    decide
  have hrecs : (lastRecordLedger.append ty attempt step epoch value data ckpt).recs =
      lastRecordLedger.recs ++ [⟨ty, attempt, step, epoch, 16384, value, data, false, ckpt⟩] := by
    rw [Ledger.append, if_neg hlen]
    rfl
  rw [ledgerFree, hrecs, kept_append, List.countP_append, countP_lastRecordLedger,
    List.countP_cons_of_pos (kept_lastRecordLedger _ (show 0 < 16384 by decide) (show 16384 < 2 ^ 31 by decide)),
    List.countP_nil]

/-- Refutes O43: an ARM whose record is the last one to fit leaves the ledger full, so that the job that it replays is PAUSED
with LEDGER_FULL (R310) and not RUNNING. -/
theorem not_recovery : ¬ Obligations.Recovery := by
  unfold Obligations.Recovery
  rintro ⟨-, -, -, -, -, hreplay, -⟩
  have hroom : ledgerRoom 1 lastRecordRoot = true := by
    have hlg : lastRecordRoot.x.lg = lastRecordLedger := rfl
    rw [ledgerRoom, hlg, ledgerFree_lastRecordLedger]
    rfl
  have hb : lastRecordRoot.job 1 = some replayJob := rfl
  obtain ⟨t, ht, ⟨c, hc, hstate, -⟩, -⟩ := hreplay 1 replayJob _ 0 0 lastRecordRoot hb rfl rfl rfl rfl rfl (Nat.zero_le _)
    (by decide) (Or.inl rfl) hroom
  obtain ⟨d, hd, hpaused⟩ := state_replayArm_full hb rfl (r := 0) (a := 0) rfl rfl rfl rfl (Nat.zero_le _) (by decide) rfl
    hroom (by decide) (fun _ _ _ => ledgerFree_append_lastRecordLedger ..)
  have hrun : exec (.replayArm 1) lastRecordRoot = .next (replayArm 1 lastRecordRoot) := rfl
  obtain rfl : replayArm 1 lastRecordRoot = t := by
    rw [hrun] at ht
    injection ht
  rw [hd] at hc
  obtain rfl : d = c := by injection hc
  exact absurd (hpaused.symm.trans hstate) (by decide)

end Sys2Proof.Machine
end

section
/-!
PROOFS. How the cue engine issues an instruction, and what its parts do to threads and registers (R191 to R200).
-/

namespace Sys2Proof.Machine

/-! Words (R195). -/

theorem cueOp_cueWord (op : BitVec 8) (f : BitVec 24) : cueOp (cueWord op f) = op := BitVec.extractLsb'_append_eq_left

theorem fWide_cueWord (op : BitVec 8) (f : BitVec 24) : fWide (cueWord op f) = f := BitVec.extractLsb'_append_eq_right

theorem decodeCue_halt : decodeCue (encodeCue .halt) = some .halt := by decide
theorem decodeCue_done : decodeCue (encodeCue .done) = some .done := by decide
theorem decodeCue_arm (pd : BitVec 4) : decodeCue (encodeCue (.arm pd)) = some (.arm pd) := by revert pd; decide
theorem decodeCue_kick (pd : BitVec 4) : decodeCue (encodeCue (.kick pd)) = some (.kick pd) := by revert pd; decide
theorem decodeCue_waitr (pa : BitVec 4) : decodeCue (encodeCue (.waitr pa)) = some (.waitr pa) := by revert pa; decide

theorem decodeCue_waitk (off : BitVec 24) : decodeCue (encodeCue (.waitk off)) = some (.waitk off) := by
  simp [encodeCue, decodeCue, cueOf, cueOp_cueWord, fWide_cueWord, cueFields]

theorem decodeCue_waitn (inc : BitVec 24) : decodeCue (encodeCue (.waitn inc)) = some (.waitn inc) := by
  simp [encodeCue, decodeCue, cueOf, cueOp_cueWord, fWide_cueWord, cueFields]

/-! Threads and registers. -/

theorem getThr_setThr_same (th : Thread) (f : Thr → Thr) (e : Engine) : getThr (setThr th f e) th = f (getThr e th) := by
  cases th <;> rfl

theorem getThr_setThr_ne (th u : Thread) (f : Thr → Thr) (e : Engine) (h : u ≠ th) :
    getThr (setThr th f e) u = getThr e u := by
  cases th <;> cases u
  · exact absurd rfl h
  · rfl
  · rfl
  · exact absurd rfl h

theorem getThr_modThr_same (th : Thread) (f : Thr → Thr) (s : State) :
    getThr (modThr th f s).t.cue th = f (getThr s.t.cue th) := by
  rw [modThr, modCue_t]
  exact getThr_setThr_same ..

theorem getThr_modThr_ne (th u : Thread) (f : Thr → Thr) (s : State) (h : u ≠ th) :
    getThr (modThr th f s).t.cue u = getThr s.t.cue u := by
  rw [modThr, modCue_t]
  exact getThr_setThr_ne _ _ _ _ h

theorem otherThread_modThr (th : Thread) (f : Thr → Thr) (s : State) : OtherThread th s (modThr th f s) :=
  fun u hu => getThr_modThr_ne th u f s hu

theorem otherThread_of_eq {th : Thread} {s t : State} (h : ∀ u, getThr t.t.cue u = getThr s.t.cue u) :
    OtherThread th s t := fun u _ => h u

theorem OtherThread.trans {th : Thread} {s t u : State} (h : OtherThread th s t) (h' : OtherThread th t u) :
    OtherThread th s u := fun v hv => (h' v hv).trans (h v hv)

theorem sameP_of_eq {s t : State} (h : t.t.cue.p = s.t.cue.p) : SameP s t := fun j => by rw [State.p, h, State.p]

theorem SameP.trans {s t u : State} (h : SameP s t) (h' : SameP t u) : SameP s u := fun j => (h' j).trans (h j)

theorem setsP_setP (n : Nat) (v : Word) (s : State) : SetsP n v s (setP n v s) := by
  constructor
  · simp [State.p, setP]
  · intro j hj
    rw [State.p, setP, modCue_t]
    exact tabGet_tabSet_ne _ _ _ _ _ _ hj

theorem p_modThr (th : Thread) (f : Thr → Thr) (s : State) : (modThr th f s).t.cue.p = s.t.cue.p := by
  cases th <;> rfl

theorem store_modThr (th : Thread) (f : Thr → Thr) (s : State) : (modThr th f s).t.cue.store = s.t.cue.store := by
  cases th <;> rfl

/-- Page CU is operative in every TSU. -/
theorem eventSet_raiseCue (b : Nat) (s : State) (hb : b < 64) : eventSet .tsu 0x04 b (raise .tsu 0x04 b s) :=
  eventSet_raise .tsu 0x04 b s ⟨by simp [pageSt, pageStTsu], by decide⟩ hb

/-! Issue (R191, R195, R210). -/

/-- What counting a corrected error leaves of what an instruction looks at. -/
structure Noted (s u : State) : Prop where
  thr : ∀ th, getThr u.t.cue th = getThr s.t.cue th
  regs : u.t.cue.p = s.t.cue.p
  store : u.t.cue.store = s.t.cue.store
  passed : u.t.cue.passed = s.t.cue.passed
  withdrawn : u.t.cue.withdrawn = s.t.cue.withdrawn
  only : Only [.com .tsu .pgEvent, .com .tsu .ic, .cue] s u

theorem noted_noteEcc (e : Ecc) (pc : Nat) (s : State) : Noted s (noteEcc e pc s) := by
  have hcue : ∃ n l, (noteEcc e pc s).t.cue = { s.t.cue with corrected := n, lastIndex := l } := by
    unfold noteEcc
    split
    · rw [raise_t]
      exact ⟨_, _, rfl⟩
    · exact ⟨_, _, rfl⟩
  obtain ⟨n, l, hcue⟩ := hcue
  refine ⟨fun th => ?_, ?_, ?_, ?_, ?_, by simp [Only]⟩
  · rw [hcue]
    cases th <;> rfl
  all_goals rw [hcue]

theorem Noted.trans {s u v : State} (h : Noted s u) (h' : Noted u v) : Noted s v :=
  ⟨fun th => (h'.thr th).trans (h.thr th), h'.regs.trans h.regs, h'.store.trans h.store, h'.passed.trans h.passed,
    h'.withdrawn.trans h.withdrawn, h.only.trans h'.only⟩

namespace Noted
variable {s u : State} (h : Noted s u)
include h

theorem steps : u.t.steps = s.t.steps := t_steps_eq (h.only.blank_eq _ (by decide))
theorem tk : u.tc.tk = s.tc.tk := tc_tk_eq (h.only.blank_eq _ (by decide))
theorem hd : u.t.hd = s.t.hd := t_hd_eq (h.only.blank_eq _ (by decide))


theorem pcAfter (th : Thread) : pcAfter th u = Machine.pcAfter th s := by
  rw [Machine.pcAfter, h.thr, Machine.pcAfter]

theorem curRec (th : Thread) : curRec th u = Machine.curRec th s := by
  rw [Machine.curRec, h.thr, h.steps, Machine.curRec]

theorem runLaunched : runLaunched u = Machine.runLaunched s := by
  rw [Machine.runLaunched, h.curRec, Machine.runLaunched]

theorem curKick (th : Thread) : curKick th u = Machine.curKick th s := by
  rw [Machine.curKick, h.thr, h.curRec, Machine.curKick]

theorem bindable : bindable u = Machine.bindable s := by
  rw [Machine.bindable, h.steps, h.withdrawn, Machine.bindable]

theorem unreturned : unreturned u = Machine.unreturned s := by
  rw [Machine.unreturned, h.steps, Machine.unreturned]

theorem p_eq (n : Nat) : u.p n = s.p n := by rw [State.p, h.regs, State.p]

variable {t : State}

theorem otherThread {th : Thread} (ht : OtherThread th u t) : OtherThread th s t := fun v hv => (ht v hv).trans (h.thr v)

theorem sameP (ht : SameP u t) : SameP s t := fun j => (ht j).trans (h.p_eq j)

theorem setsP {n : Nat} {v : Word} (ht : SetsP n v u t) : SetsP n v s t :=
  ⟨ht.1, fun j hj => (ht.2 j hj).trans (h.p_eq j)⟩

theorem goesTo {th : Thread} {pc : Nat} (ht : GoesTo th pc u t) : GoesTo th pc s t := by
  obtain ⟨hthr, hother, hstore⟩ := ht
  exact ⟨by rw [hthr, h.thr], h.otherThread hother, hstore.trans h.store⟩

theorem waitsFor {th : Thread} {w : WaitOn} (ht : WaitsFor th w u t) : WaitsFor th w s t := by
  obtain ⟨hst, hwait, hpc, hother⟩ := ht
  exact ⟨hst, hwait, hpc.trans (h.pcAfter th), h.otherThread hother⟩

theorem waitsUntil {th : Thread} {n : Nat} (ht : WaitsUntil th n u t) : WaitsUntil th n s t := by
  obtain ⟨hwait, hlate, hother, hp⟩ := ht
  rw [h.tk] at hwait hlate
  refine ⟨fun hr => ?_, fun hr => ?_, h.otherThread hother, h.sameP hp⟩
  · rw [hwait hr, h.thr, h.pcAfter]
  · obtain ⟨hthr, hevent⟩ := hlate hr
    exact ⟨by rw [hthr, h.thr, h.pcAfter], hevent⟩

end Noted

/-- An instruction that its thread may issue does what its row says. -/
theorem issue_taken {th : Thread} {e : Ecc} {c : Cue} {s : State} (h : Issues th e c s) (ops : Nat → Bool)
    (body : Cue → State → State) (hop : ops (cueOp (encodeCue c)).toNat = true)
    (hdec : decodeCue (encodeCue c) = some c) : ∃ u, issue ops body th e s = body c u ∧ Noted s u := by
  obtain ⟨hcan, hecc, hword, hthread, hregs⟩ := h
  refine ⟨_, ?_, noted_noteEcc e (getThr s.t.cue th).pc s⟩
  have howns : (cueRegs c).any (fun p => !owns th p) = false := by
    simpa using hregs
  unfold issue
  simp only [hcan, hecc, hword, hop, hdec, hthread, howns, Bool.not_true, Bool.false_eq_true, if_false]

theorem cueOp_arm (pd : BitVec 4) : cueOp (encodeCue (.arm pd)) = 4 := cueOp_cueWord _ _
theorem cueOp_kick (pd : BitVec 4) : cueOp (encodeCue (.kick pd)) = 5 := cueOp_cueWord _ _
theorem cueOp_waitk (off : BitVec 24) : cueOp (encodeCue (.waitk off)) = 8 := cueOp_cueWord _ _
theorem cueOp_waitn (inc : BitVec 24) : cueOp (encodeCue (.waitn inc)) = 9 := cueOp_cueWord _ _
theorem cueOp_waitr (pa : BitVec 4) : cueOp (encodeCue (.waitr pa)) = 0xA := cueOp_cueWord _ _

/-! What an instruction does to its thread. -/

theorem cueNext_thr (th : Thread) (s : State) :
    getThr (cueNext th s).t.cue th = { getThr s.t.cue th with pc := pcAfter th s } := getThr_modThr_same ..

theorem goesTo_cueNext (th : Thread) (s : State) : GoesTo th (pcAfter th s) s (cueNext th s) :=
  ⟨cueNext_thr th s, otherThread_modThr _ _ _, store_modThr _ _ _⟩

theorem sameP_modThr (th : Thread) (f : Thr → Thr) (s : State) : SameP s (modThr th f s) := sameP_of_eq (p_modThr th f s)

theorem steps_modThr (th : Thread) (f : Thr → Thr) (s : State) : (modThr th f s).t.steps = s.t.steps :=
  t_steps_eq (by simp [but])



/-! halt (R196, R199). -/

theorem haltInStep_t (th : Thread) (s : State) : (haltInStep th s).t = s.t := raiseIf_t _ _ _ _

/-- The thread goes on and halts. -/
theorem thr_halted (th : Thread) (s : State) :
    getThr (modThr th (fun t => { t with st := 3 }) (cueNext th (haltInStep th s))).t.cue th =
      { getThr s.t.cue th with pc := pcAfter th s, st := 3 } := by
  rw [getThr_modThr_same, cueNext_thr, pcAfter, haltInStep_t, pcAfter]

theorem otherThread_halted (th : Thread) (s : State) :
    OtherThread th s (modThr th (fun t => { t with st := 3 }) (cueNext th (haltInStep th s))) :=
  (otherThread_of_eq fun _ => by rw [haltInStep_t]).trans ((otherThread_modThr _ _ _).trans (otherThread_modThr _ _ _))

theorem p_halted (th : Thread) (s : State) :
    (modThr th (fun t => { t with st := 3 }) (cueNext th (haltInStep th s))).t.cue.p = s.t.cue.p := by
  rw [p_modThr, cueNext, p_modThr, haltInStep_t]

/-- Leaving a LAUNCHED step undone is an event. -/
theorem eventSet_halted (s : State) (h : runLaunched s = true) :
    eventSet .tsu 0x04 5 (modThr .run (fun t => { t with st := 3 }) (cueNext .run (haltInStep .run s))) := by
  have hraise : haltInStep .run s = raise .tsu 0x04 5 s := by
    rw [haltInStep, h]
    rfl
  rw [hraise]
  exact eventSet_raiseCue 5 s (by decide)

/-! arm and kick (R197, R198). -/

theorem steps_modRec (r : StepRec) (f : StepRec → StepRec) (s : State) : (modRec r f s).t.steps =
    listModify (fun x => x.epoch == r.epoch && x.step == r.step && x.attempt == r.attempt) f s.t.steps := rfl

theorem cue_modRec (r : StepRec) (f : StepRec → StepRec) (s : State) : (modRec r f s).t.cue = s.t.cue := rfl

theorem wd_low (n : Nat) : wd [(0, n)] = BitVec.ofNat 64 n := by
  simp [wd]

/-- Where no step waits to be passed over, arm passes none. -/
theorem passOver_none (s : State) (h : s.t.cue.passed = []) : passOver s = modCue (fun e => { e with passed := [] }) s := by
  rw [passOver, h]
  rfl

/-- arm where no step waits to be passed over. -/
theorem noted_passOver (s : State) (h : s.t.cue.passed = []) : Noted s (passOver s) := by
  rw [passOver_none s h]
  refine ⟨fun th => by cases th <;> rfl, rfl, rfl, by rw [modCue_t]; exact h.symm, rfl, by simp [Only]⟩

/-- The binding thread's current step and T. -/
def Thr.onto (r : StepRec) (t : Thr) : Thr := { t with cur := some ⟨r.epoch, r.step, r.attempt, r.k⟩, t := some r.k }

/-- A thread takes a step as its current one, with its number in a register. -/
def takeStep (th : Thread) (pd : Nat) (r : StepRec) (f : StepRec → StepRec) (s : State) : State :=
  setP pd (wd [(0, r.step)]) (modThr th (Thr.onto r) (modRec r f s))

theorem bindStep_eq (pd : Nat) (r : StepRec) (s : State) : bindStep pd r s =
    if r.launched then leadLate (takeStep .lead pd r (fun x => { x with bound := true, inLead := x.armed }) s)
    else takeStep .lead pd r (fun x => { x with bound := true, inLead := x.armed }) s := rfl

theorem returnStep_eq (pd : Nat) (r : StepRec) (s : State) :
    returnStep pd r s = takeStep .run pd r (fun x => { x with returned := true }) s := rfl

theorem leadLate_thr (th : Thread) (s : State) : getThr (leadLate s).t.cue th = getThr s.t.cue th := by
  rw [leadLate, raise_t]
  cases th <;> rfl

theorem kickLate_thr (th : Thread) (s : State) : getThr (kickLate s).t.cue th = getThr s.t.cue th := by
  rw [kickLate, raise_t]
  cases th <;> rfl

section
variable (th : Thread) (pd : Nat) (r : StepRec) (f : StepRec → StepRec) (s : State)

theorem steps_takeStep : (takeStep th pd r f s).t.steps =
    listModify (fun x => x.epoch == r.epoch && x.step == r.step && x.attempt == r.attempt) f s.t.steps := by
  rw [takeStep, setP, modCue_t, steps_modThr, steps_modRec]

theorem thr_takeStep (u : Thread) : getThr (takeStep th pd r f s).t.cue u = getThr (modThr th (Thr.onto r) s).t.cue u := by
  cases th <;> cases u <;> rfl

theorem setsP_takeStep : SetsP pd (BitVec.ofNat 64 r.step) s (takeStep th pd r f s) := by
  obtain ⟨hset, hrest⟩ := setsP_setP pd (wd [(0, r.step)]) (modThr th (Thr.onto r) (modRec r f s))
  refine ⟨hset.trans (wd_low _), fun j hj => (hrest j hj).trans ?_⟩
  rw [State.p, p_modThr, cue_modRec, State.p]

end

/-- Registers that a later part leaves as they are. -/
theorem SetsP.of_cue {n : Nat} {v : Word} {s t u : State} (h : SetsP n v s t) (hu : u.t.cue.p = t.t.cue.p) :
    SetsP n v s u :=
  ⟨(sameP_of_eq hu n).trans h.1, fun j hj => (sameP_of_eq hu j).trans (h.2 j hj)⟩

theorem p_leadLate (s : State) : (leadLate s).t.cue.p = s.t.cue.p := by
  rw [leadLate, raise_t]
  rfl

theorem p_kickLate (s : State) : (kickLate s).t.cue.p = s.t.cue.p := by
  rw [kickLate, raise_t]
  rfl

theorem steps_kickLate (s : State) : (kickLate s).t.steps = s.t.steps := t_steps_eq (by simp [but])

section
variable (pd : Nat) (r : StepRec) (s : State)

/-- A late bind is counted, and is a bind otherwise. -/
theorem thr_bindStep (th : Thread) : getThr (bindStep pd r s).t.cue th =
    getThr (takeStep .lead pd r (fun x => { x with bound := true, inLead := x.armed }) s).t.cue th := by
  rw [bindStep_eq]
  split
  · exact leadLate_thr th _
  · rfl

theorem p_bindStep : (bindStep pd r s).t.cue.p =
    (takeStep .lead pd r (fun x => { x with bound := true, inLead := x.armed }) s).t.cue.p := by
  rw [bindStep_eq]
  split
  · exact p_leadLate _
  · rfl

theorem steps_bindStep : (bindStep pd r s).t.steps =
    listModify (fun x => x.epoch == r.epoch && x.step == r.step && x.attempt == r.attempt)
      (fun x => { x with bound := true, inLead := x.armed }) s.t.steps := by
  have hlate : ∀ u : State, (leadLate u).t.steps = u.t.steps := fun u => t_steps_eq (by simp [but])
  rw [bindStep_eq]
  split
  · rw [hlate, steps_takeStep]
  · exact steps_takeStep ..

end

theorem bindable_cueNext (th : Thread) (s : State) : bindable (cueNext th s) = bindable s := by cases th <;> rfl

theorem unreturned_cueNext (th : Thread) (s : State) : unreturned (cueNext th s) = unreturned s := rfl

/-- The instruction that takes a step moves its thread on and leaves the other one. -/
theorem thr_takeStep_next (th : Thread) (pd : Nat) (r : StepRec) (f : StepRec → StepRec) (s : State) :
    getThr (takeStep th pd r f (cueNext th s)).t.cue th =
      { getThr s.t.cue th with pc := pcAfter th s, cur := some ⟨r.epoch, r.step, r.attempt, r.k⟩, t := some r.k } := by
  rw [thr_takeStep, getThr_modThr_same, cueNext_thr]
  rfl

theorem otherThread_takeStep_next (th : Thread) (pd : Nat) (r : StepRec) (f : StepRec → StepRec) (s : State) :
    OtherThread th s (takeStep th pd r f (cueNext th s)) := fun u hu => by
  rw [thr_takeStep, getThr_modThr_ne _ _ _ _ hu, cueNext, getThr_modThr_ne _ _ _ _ hu]

theorem setsP_takeStep_next (th : Thread) (pd : Nat) (r : StepRec) (f : StepRec → StepRec) (s : State) :
    SetsP pd (BitVec.ofNat 64 r.step) s (takeStep th pd r f (cueNext th s)) := by
  obtain ⟨hset, hrest⟩ := setsP_takeStep th pd r f (cueNext th s)
  exact ⟨hset, fun j hj => (hrest j hj).trans (sameP_modThr _ _ _ j)⟩

/-- The instruction that finds no step makes its thread wait. -/
theorem waitsFor_next (th : Thread) (w : WaitOn) (s : State) :
    WaitsFor th w s (modThr th (fun t => { t with st := 2, wait := some w }) (cueNext th s)) := by
  have hthr : getThr (modThr th (fun t => { t with st := 2, wait := some w }) (cueNext th s)).t.cue th =
      { getThr s.t.cue th with pc := pcAfter th s, st := 2, wait := some w } := by
    rw [getThr_modThr_same, cueNext_thr]
  exact ⟨by rw [hthr], by rw [hthr], by rw [hthr], (otherThread_modThr _ _ _).trans (otherThread_modThr _ _ _)⟩

theorem sameP_next (th : Thread) (f : Thr → Thr) (s : State) : SameP s (modThr th f (cueNext th s)) :=
  (sameP_modThr _ _ _).trans (sameP_modThr _ _ _)

/-! The waits (R200). -/

/-- The thread with its T and its next PC. -/
theorem thr_waitUntil_next (th : Thread) (n : Nat) (s : State) :
    getThr (cueNext th (modThr th (fun t => { t with t := some n }) s)).t.cue th =
      { getThr s.t.cue th with pc := pcAfter th s, t := some n } := by
  rw [cueNext_thr, pcAfter, getThr_modThr_same, pcAfter]

theorem waitLate_thr (th : Thread) (s : State) : getThr (waitLate s).t.cue th = getThr s.t.cue th := by
  rw [waitLate, raise_t]
  cases th <;> rfl

theorem p_waitLate (s : State) : (waitLate s).t.cue.p = s.t.cue.p := by
  rw [waitLate, raise_t]
  rfl

theorem waitsUntil_waitUntil (th : Thread) (n : Nat) (s : State) : WaitsUntil th n s (waitUntil th n s) := by
  have hother : OtherThread th s (cueNext th (modThr th (fun t => { t with t := some n }) s)) :=
    (otherThread_modThr _ _ _).trans (otherThread_modThr _ _ _)
  have hp : SameP s (cueNext th (modThr th (fun t => { t with t := some n }) s)) :=
    (sameP_modThr _ _ _).trans (sameP_modThr _ _ _)
  by_cases hr : reached s.tc.tk.bc n = true
  · have heq : waitUntil th n s = waitLate (cueNext th (modThr th (fun t => { t with t := some n }) s)) := if_pos hr
    rw [heq]
    refine ⟨fun h => absurd hr (by simp [h]), fun _ => ⟨?_, eventSet_raiseCue 6 _ (by decide)⟩,
      hother.trans (otherThread_of_eq fun _ => waitLate_thr _ _), hp.trans (sameP_of_eq (p_waitLate _))⟩
    rw [waitLate_thr, thr_waitUntil_next]
  · have heq : waitUntil th n s = modThr th (fun t => { t with st := 2, wait := some (.beat n) })
        (cueNext th (modThr th (fun t => { t with t := some n }) s)) := if_neg hr
    rw [heq]
    refine ⟨fun _ => ?_, fun h => absurd h hr, hother.trans (otherThread_modThr _ _ _), hp.trans (sameP_modThr _ _ _)⟩
    rw [getThr_modThr_same, thr_waitUntil_next]

end Sys2Proof.Machine
end

section
/-!
PROOFS. halt, done, arm, kick and the waits (R183, R196 to R200): O28.
-/

namespace Sys2Proof.Machine

/-! The seal of a step (R278, R284). -/

/-- The launch, the local sources that stand and the last sealed step stay. -/
structure SealKept (s u : State) : Prop where
  launch : LaunchKept s u
  lastStep : u.t.tl.lastStep = s.t.tl.lastStep

theorem SealKept.trans {s u v : State} (h : SealKept s u) (h' : SealKept u v) : SealKept s v :=
  ⟨h.launch.trans h'.launch, h'.lastStep.trans h.lastStep⟩

theorem sealKept_refl (s : State) : SealKept s s := ⟨launchKept_refl s, rfl⟩

theorem sealKept_raise (pg b : Nat) (s : State) : SealKept s (raise .tsu pg b s) :=
  ⟨launchKept_raise (launchKept_refl s) pg b, by rw [raise_t]⟩

theorem sealKept_modTl (f : Tallies → Tallies) (s : State) (hf : ∀ t, (f t).lastStep = t.lastStep) :
    SealKept s (modTl f s) :=
  ⟨launchKept_of_frame (launchKept_refl s) (by simp [unlaunched]), by rw [modTl_t]; exact hf _⟩

theorem sealKept_sendAll (l : List Payload) (s : State) : SealKept s (sendAll l s) :=
  ⟨launchKept_of_frame (launchKept_refl s) (by simp [unlaunched]), congrArg Tallies.lastStep (t_tl_eq (by simp [but]))⟩

theorem sealKept_ringKeep (x : RingRec) (s : State) : SealKept s (ringKeep x s).2 := by
  unfold ringKeep
  dsimp only
  split
  · exact sealKept_raise 0x0A 0 s
  · dsimp only
    exact sealKept_modTl _ s fun _ => by rfl

theorem sealKept_closeWindow (r : StepRec) (lane w : Nat) (temp : Int) (waiting : Nat) (s : State) :
    SealKept s (closeWindow r lane w temp waiting s).2 := by
  have hkept (x : RingRec) (f : Tallies → Tallies) (hf : ∀ t, (f t).lastStep = t.lastStep) :
      SealKept s (modTl f (ringKeep x s).2) := (sealKept_ringKeep x s).trans (sealKept_modTl f _ hf)
  unfold closeWindow
  dsimp only
  split
  · dsimp only
    exact hkept _ _ fun _ => by rfl
  · split <;> dsimp only
    · exact hkept _ _ fun _ => by rfl
    · exact (hkept _ _ fun _ => by rfl).trans ((sealKept_modTl _ _ fun _ => by rfl).trans (sealKept_raise 0x09 2 _))

/-- The windows that are open at DONE close, where lock-step is enabled. -/
def sealWindows (r : StepRec) (s : State) : List Payload × State :=
  if lsEnable s then
    (openNow s r).foldl (fun acc lw =>
      let c := closeWindow r lw.1 lw.2 (dieTemp s) (tallyWaiting acc.2 + acc.1.length) acc.2
      (acc.1 ++ c.1, c.2)) ([], s)
  else ([], s)

/-- The lanes' step tallies are taken and the step's probe requests end. -/
def sealLanes (r : StepRec) (s : State) : State :=
  modTl (fun t => { t with
    lanes := ((upTo 16).filter (lanePresent s.tc.fuse.kind)).foldl (fun l n =>
      tabMod {} l n (fun x => { x with last := tally128 x.str })) t.lanes
    probes := t.probes.filter (fun p => !(p.step == r.step && p.attempt == r.attempt)), windows := [] })
    (sealWindows r s).2

/-- The scorecard is sealed. -/
def sealCard (r : StepRec) (s : State) : State :=
  modTl (fun t => { t with
    cards := (scorecard s r :: t.cards).take 8, lastStep := r.step, gapFlag := false, unsent := false }) s

/-- The closing record of a lane. -/
def sealLane (r : StepRec) (temp : Int) (s : State) (lane : Nat) : State :=
  if lanePresent s.tc.fuse.kind lane && bit s.t.tl.lsCtl lane then
    let l := s.lane lane
    let fs := tallyFrames s r lane 0xFFFFFF (tally128 l.str)
    let room := decide (tallyWaiting s + 2 ≤ 64) && s.t.tl.closingWait.isEmpty
    let k := ringKeep ⟨r.step, r.attempt, lane, room, true, 0xFFFFFF, tally128 l.str, sat16 l.units, s.t.st.g, temp⟩ s
    if room then sendAll fs k.2
    else modTl (fun t => { t with closingWait := t.closingWait ++ [(k.1.getD 1024, fs.map (fun p => tsuFrame p s))] }) k.2
  else s

/-- The closing records, where lock-step is enabled. -/
def sealRecords (r : StepRec) (temp : Int) (s : State) : State :=
  if !lsEnable s then s else (upTo 16).foldl (sealLane r temp) s

theorem sealStep_eq (r : StepRec) (s : State) : sealStep r s =
    sealRecords r (dieTemp s) (sendAll (sealWindows r s).1
      (sendAll (scoreFrames r (scorecard (sealLanes r s) r)) (sealCard r (sealLanes r s)))) := rfl

theorem launchKept_sealLanes (r : StepRec) (s : State) : LaunchKept s (sealLanes r s) := by
  have hwindows : LaunchKept s (sealWindows r s).2 := by
    unfold sealWindows
    split
    · exact foldl_keeps (fun acc : List Payload × State => LaunchKept s acc.2) (fun acc lw _ hacc =>
        hacc.trans (sealKept_closeWindow r lw.1 lw.2 (dieTemp s) _ acc.2).launch) (launchKept_refl s)
    · exact launchKept_refl s
  exact launchKept_of_frame hwindows (by simp [unlaunched, sealLanes])

theorem sealKept_sealLane (r : StepRec) (temp : Int) (s : State) (lane : Nat) : SealKept s (sealLane r temp s lane) := by
  unfold sealLane
  dsimp only
  split
  · split
    · exact (sealKept_ringKeep _ s).trans (sealKept_sendAll _ _)
    · exact (sealKept_ringKeep _ s).trans (sealKept_modTl _ _ fun _ => by rfl)
  · exact sealKept_refl s

theorem sealKept_sealRecords (r : StepRec) (temp : Int) (s : State) : SealKept s (sealRecords r temp s) := by
  unfold sealRecords
  split
  · exact sealKept_refl s
  · exact foldl_keeps (SealKept s) (fun u lane _ hu => hu.trans (sealKept_sealLane r temp u lane)) (sealKept_refl s)

/-- The frames and the records after a scorecard. -/
theorem sealKept_sealStep (r : StepRec) (s : State) : SealKept (sealCard r (sealLanes r s)) (sealStep r s) := by
  rw [sealStep_eq]
  exact (sealKept_sendAll _ _).trans ((sealKept_sendAll _ _).trans (sealKept_sealRecords r _ _))

theorem lastStep_sealStep (r : StepRec) (s : State) : (sealStep r s).t.tl.lastStep = r.step :=
  (sealKept_sealStep r s).lastStep

theorem launchKept_sealStep (r : StepRec) (s : State) : LaunchKept s (sealStep r s) :=
  (launchKept_of_frame (launchKept_sealLanes r s) (by simp [unlaunched, sealCard])).trans (sealKept_sealStep r s).launch

/-! done (R183, R199). -/

/-- The gap that opens is open when it has been used. -/
theorem gapOpen_openGap (s : State) : (openGap s).t.mem.gapOpen = true :=
  congrArg LaunchMarks.gapOpen (launchKept_useGap (launchKept_refl (modMem (fun m => { m with gapOpen := true }) s))).marks

theorem local_openGap (s : State) (i : Nat) (h : bit s.tc.ic.local_ i = true) :
    bit (openGap s).tc.ic.local_ i = true :=
  (launchKept_useGap (launchKept_refl (modMem (fun m => { m with gapOpen := true }) s))).locals i h

/-- A census entry that a TSU outside SIDELINE sends is kept (R238). -/
theorem census_sendEntry (c : CensusUpF) (s : State) (h : s.tc.tk.sideline = false) :
    (sendEntry c s).t.hd.census = s.t.hd.census ++ [c] := by
  have hanswer : ∀ u : State, (answerCensus c u).t.hd.census = u.t.hd.census := fun u => by
    unfold answerCensus
    split
    · exact congrArg Huddles.census (t_hd_eq (by simp [but]))
    · rfl
  rw [sendEntry, if_neg (by simp [h]), hanswer]
  rfl

/-- arm has bound the step, or will pass it over. -/
def notePassed (r : StepRec) (s : State) : State :=
  if r.bound then s else modCue (fun e => { e with passed := e.passed ++ [(r.step, r.attempt)] }) s

/-- The record of a step that is DONE. -/
def markDone (r : StepRec) (s : State) : State := modRec r (fun x => { x with st := .done, leaveReturn := true }) s

theorem stepDone_eq (r : StepRec) (s : State) : stepDone r s =
    openGap (sealStep r (raiseLocal 2 (sendEntry ⟨1, r.step % 8, r.step, r.attempt, 1, 0⟩ (markDone r (notePassed r s))))) :=
  rfl

section
variable (r : StepRec) (s : State)

theorem steps_stepDone : (stepDone r s).t.steps =
    listModify (fun x => x.epoch == r.epoch && x.step == r.step && x.attempt == r.attempt)
      (fun x => { x with st := .done, leaveReturn := true }) s.t.steps := by
  have hnote : (notePassed r s).t.steps = s.t.steps := by
    unfold notePassed
    split <;> rfl
  rw [stepDone_eq, t_steps_eq (t := openGap _) (s := markDone r (notePassed r s)) (by simp [but]), markDone, steps_modRec,
    hnote]

theorem census_stepDone (h : s.tc.tk.sideline = false) : (stepDone r s).t.hd.census =
    s.t.hd.census ++ [⟨1, r.step % 8, r.step, r.attempt, 1, 0⟩] := by
  have hmark : (markDone r (notePassed r s)).t.hd = s.t.hd := t_hd_eq (by simp [but, markDone, notePassed])
  have htk : (markDone r (notePassed r s)).tc.tk = s.tc.tk := tc_tk_eq (by simp [but, markDone, notePassed])
  have hsent : (stepDone r s).t.hd =
      (sendEntry ⟨1, r.step % 8, r.step, r.attempt, 1, 0⟩ (markDone r (notePassed r s))).t.hd := by
    rw [stepDone_eq]
    exact t_hd_eq (by simp [but])
  rw [hsent, census_sendEntry _ _ (by rw [htk]; exact h), hmark]

theorem local_stepDone : bit (stepDone r s).tc.ic.local_ 2 = true := by
  rw [stepDone_eq]
  exact local_openGap _ 2 ((launchKept_sealStep r _).locals 2 (bit_raiseLocal 2 (by decide) _))

theorem lastStep_stepDone : (stepDone r s).t.tl.lastStep = r.step := by
  have hgap : ∀ u : State, (openGap u).t.tl = u.t.tl := fun u => t_tl_eq (by simp [but])
  rw [stepDone_eq, hgap, lastStep_sealStep]

/-- The threads and the registers are as before. -/
theorem cue_stepDone : (stepDone r s).t.cue = (notePassed r s).t.cue := by
  rw [stepDone_eq, t_cue_eq (t := openGap _) (s := notePassed r s) (by simp [but, markDone])]

theorem goesTo_stepDone (th : Thread) (pc : Nat) (u : State) (h : GoesTo th pc u s) : GoesTo th pc u (stepDone r s) := by
  have hthr : ∀ v, getThr (stepDone r s).t.cue v = getThr s.t.cue v := fun v => by
    rw [cue_stepDone, notePassed]
    split
    · rfl
    · cases v <;> rfl
  have hstore : (stepDone r s).t.cue.store = s.t.cue.store := by
    rw [cue_stepDone, notePassed]
    split <;> rfl
  obtain ⟨hpc, hother, hst⟩ := h
  exact ⟨(hthr th).trans hpc, hother.trans (otherThread_of_eq hthr), hstore.trans hst⟩

theorem sameP_stepDone : SameP s (stepDone r s) := sameP_of_eq (by
  rw [cue_stepDone, notePassed]
  split <;> rfl)

end

/-! The release of a thread that waits for a beat (R39). -/

theorem targetReached_eq (th : Thread) (n : Nat) (s : State) (h : (getThr s.t.cue th).wait = some (.beat n)) :
    targetReached th s = if reached s.tc.tk.bc n ∧ !threadsHeld s then threadResume th s else s := by
  rw [targetReached, h]

/-- Settles O28, by one case for each row: an instruction that is issued does what its row says to the state in which a corrected
error has been counted (`Noted`). -/
theorem cueSteps : Obligations.CueSteps := by
  unfold Obligations.CueSteps
  refine ⟨?halt, ?done, ?bind, ?armWait, ?kick, ?kickWait, ?waitk, ?waitn, ?waitr, ?ends, ?goesOn⟩
  case halt =>
    intro th e s hi
    refine ⟨_, rfl, ?_⟩
    obtain ⟨u, hu, hn⟩ := issue_taken hi (opIs 2) (haltBody th) (by decide) decodeCue_halt
    rw [hu]
    simp only [haltBody]
    refine ⟨?_, ?_, ?_, ?_, ?_, hn.only.trans (by simp [Only])⟩
    · rw [raise_t, thr_halted, hn.thr, hn.pcAfter]
    · exact hn.otherThread ((otherThread_halted th u).trans (otherThread_of_eq fun _ => by rw [raise_t]))
    · exact hn.sameP ((sameP_of_eq (p_halted th u)).trans (sameP_of_eq (by rw [raise_t])))
    · exact eventSet_raiseCue _ _ (by cases th <;> decide)
    · rintro rfl hl
      exact eventSet_raise_of .tsu .tsu 0x04 0x04 _ 5 _ (eventSet_halted u (by rwa [hn.runLaunched]))
  case done =>
    intro e r s hi hr hl
    refine ⟨_, rfl, ?_⟩
    obtain ⟨u, hu, hn⟩ := issue_taken hi (opIs 3) (doneBody .run) (by decide) decodeCue_done
    have hbody : doneBody .run .done u = stepDone r (cueNext .run u) := by
      simp only [doneBody, hn.curRec, hr, hl, if_true]
    rw [hu, hbody]
    refine ⟨?_, gapOpen_openGap _, lastStep_stepDone r _, local_stepDone r _, ?_, ?_, ?_, ?_⟩
    · rw [steps_stepDone, cueNext, steps_modThr, hn.steps]
    · intro hside
      have hhd : (cueNext .run u).t.hd = u.t.hd := rfl
      rw [census_stepDone r _ (by rw [cueNext, modThr, modCue_tc, hn.tk]; exact hside), hhd, hn.hd]
    · exact hn.sameP ((sameP_modThr _ _ _).trans (sameP_stepDone r _))
    · rw [← hn.pcAfter]
      exact hn.goesTo (goesTo_stepDone r _ _ _ _ (goesTo_cueNext .run u))
    · exact (hn.only.mono (by decide)).trans (by simp [Only])
  case bind =>
    intro e pd r s hi hp hb
    refine ⟨_, rfl, ?_⟩
    obtain ⟨u, hu, hn'⟩ := issue_taken hi (opIs 4) (armBody .lead) (by rw [cueOp_arm]; decide) (decodeCue_arm pd)
    have hn := hn'.trans (noted_passOver u (hn'.passed.trans hp))
    have hbody : armBody .lead (.arm pd) u = bindStep pd.toNat r (cueNext .lead (passOver u)) := by
      simp only [armBody, bindable_cueNext, hn.bindable, hb]
    rw [hu, hbody]
    refine ⟨?_, ?_, ?_, ?_, fun hl => ?_, (hn.only.mono (by decide)).trans (by simp [Only])⟩
    · rw [steps_bindStep, cueNext, steps_modThr, hn.steps]
    · exact hn.setsP ((setsP_takeStep_next .lead ..).of_cue (p_bindStep ..))
    · rw [← hn.pcAfter .lead]
      exact ((thr_bindStep _ _ _ .lead).trans (thr_takeStep_next ..)).trans (by rw [hn.thr]; rfl)
    · exact hn.otherThread ((otherThread_takeStep_next _ _ _ _ _).trans (otherThread_of_eq fun v => thr_bindStep _ _ _ v))
    · rw [bindStep_eq, if_pos hl]
      exact eventSet_raiseCue 8 _ (by decide)
  case armWait =>
    intro e pd s hi hp hb
    refine ⟨_, rfl, ?_⟩
    obtain ⟨u, hu, hn'⟩ := issue_taken hi (opIs 4) (armBody .lead) (by rw [cueOp_arm]; decide) (decodeCue_arm pd)
    have hn := hn'.trans (noted_passOver u (hn'.passed.trans hp))
    have hbody : armBody .lead (.arm pd) u = modThr .lead (fun t => { t with st := 2, wait := some (.arm pd.toNat) })
        (cueNext .lead (passOver u)) := by
      simp only [armBody, bindable_cueNext, hn.bindable, hb]
    rw [hu, hbody]
    exact ⟨hn.waitsFor (waitsFor_next ..), hn.sameP (sameP_next _ _ _), hn.only.trans (by simp [Only])⟩
  case kick =>
    intro e pd r s hi hr
    refine ⟨_, rfl, ?_⟩
    obtain ⟨u, hu, hn⟩ := issue_taken hi (opIs 5) (kickBody .run) (by rw [cueOp_kick]; decide) (decodeCue_kick pd)
    have hbody : kickBody .run (.kick pd) u = kickLate (returnStep pd.toNat r (cueNext .run u)) := by
      simp only [kickBody, unreturned_cueNext, hn.unreturned, hr]
    rw [hu, hbody, returnStep_eq]
    refine ⟨?_, ?_, ?_, ?_, eventSet_raiseCue 7 _ (by decide), (hn.only.mono (by decide)).trans (by simp [Only, takeStep])⟩
    · rw [steps_kickLate, steps_takeStep, cueNext, steps_modThr, hn.steps]
    · exact hn.setsP ((setsP_takeStep_next .run ..).of_cue (p_kickLate _))
    · rw [← hn.pcAfter .run]
      exact ((kickLate_thr .run _).trans (thr_takeStep_next ..)).trans (by rw [hn.thr]; rfl)
    · exact hn.otherThread ((otherThread_takeStep_next _ _ _ _ _).trans (otherThread_of_eq fun v => kickLate_thr v _))
  case kickWait =>
    intro e pd s hi hr
    refine ⟨_, rfl, ?_⟩
    obtain ⟨u, hu, hn⟩ := issue_taken hi (opIs 5) (kickBody .run) (by rw [cueOp_kick]; decide) (decodeCue_kick pd)
    have hbody : kickBody .run (.kick pd) u = modThr .run (fun t => { t with st := 2, wait := some (.kick pd.toNat) })
        (cueNext .run u) := by
      simp only [kickBody, unreturned_cueNext, hn.unreturned, hr]
    rw [hu, hbody]
    exact ⟨hn.waitsFor (waitsFor_next ..), hn.sameP (sameP_next _ _ _), hn.only.trans (by simp [Only])⟩
  case waitk =>
    intro th e off k s hi hk
    refine ⟨_, rfl, ?_⟩
    obtain ⟨u, hu, hn⟩ := issue_taken hi (opIs 8) (waitkBody th) (by rw [cueOp_waitk]; decide) (decodeCue_waitk off)
    have hbody : waitkBody th (.waitk off) u = waitUntil th (((k : Int) + off.toInt) % 2 ^ 64).toNat u := by
      simp only [waitkBody, hn.curKick, hk]
      rfl
    rw [hu, hbody]
    exact ⟨hn.waitsUntil (waitsUntil_waitUntil ..), hn.only.trans (by simp [Only])⟩
  case waitn =>
    intro th e inc n s hi ht
    refine ⟨_, rfl, ?_⟩
    obtain ⟨u, hu, hn⟩ := issue_taken hi (opIs 9) (waitnBody th) (by rw [cueOp_waitn]; decide) (decodeCue_waitn inc)
    have hbody : waitnBody th (.waitn inc) u = waitUntil th ((n + inc.toNat) % 2 ^ 64) u := by
      simp only [waitnBody, hn.thr, ht]
    rw [hu, hbody]
    exact ⟨hn.waitsUntil (waitsUntil_waitUntil ..), hn.only.trans (by simp [Only])⟩
  case waitr =>
    intro th e pa s hi hw
    refine ⟨_, rfl, ?_⟩
    obtain ⟨u, hu, hn⟩ := issue_taken hi (opIs 0xA) (waitrBody th) (by rw [cueOp_waitr]; decide) (decodeCue_waitr pa)
    have hbody : waitrBody th (.waitr pa) u = waitUntil th (s.p pa.toNat).toNat u := by
      simp only [waitrBody, hn.p_eq, hn.tk, hw, if_true]
    rw [hu, hbody]
    exact ⟨hn.waitsUntil (waitsUntil_waitUntil ..), hn.only.trans (by simp [Only])⟩
  case ends =>
    intro th n s hw hr hh
    refine ⟨_, rfl, ?_⟩
    rw [targetReached_eq th n s hw, if_pos ⟨hr, by rw [hh]; rfl⟩]
    exact ⟨getThr_modThr_same .., otherThread_modThr _ _ _, sameP_modThr _ _ _, by simp [Only]⟩
  case goesOn =>
    intro th n s hw h
    refine congrArg Host.Outcome.next ?_
    rw [targetReached_eq th n s hw, if_neg]
    rintro ⟨hr, hh⟩
    rcases h with h | h
    · rw [hr] at h
      exact absurd h (by decide)
    · rw [h] at hh
      exact absurd hh (by decide)

end Sys2Proof.Machine
end

section
/-!
PROOFS. ARM, CALL_OFF and CENSUS_DN (R71, R173 to R188, R237): O24.
-/

namespace Sys2Proof.Machine

/-! A message that a link has accepted (R71). -/

/-- The state in which a message with a new ORIGIN_SEQ acts. -/
def messageTaken (d : Dev) (p : Nat) (h : LinkHdr) (q : Nat) (s : State) : State :=
  oseqTake d q (acceptSeq d p h.seq (takeLink d p h s))

theorem recvRetained_byOseq {d : Dev} {p : Nat} {h : LinkHdr} {fr : Frame} {q : Nat} {s : State} (f : State → State)
    (ha : Accepts d p h fr s) (hq : oseqNew d q s = true) :
    recvRetained d p h fr (byOseq d q f) s = f (messageTaken d p h q s) := by
  have hnew : oseqNew d q (acceptSeq d p h.seq (takeLink d p h s)) = true := by
    cases d <;> exact hq
  rw [recvRetained_accepts d p h _ _ s ha, byOseq, if_pos hnew, messageTaken]

section
variable (d : Dev) (p : Nat) (h : LinkHdr) (q : Nat) (s : State)

@[simp] theorem messageTaken_t : (messageTaken d p h q s).t = s.t := by simp [messageTaken, oseqTake]
@[simp] theorem messageTaken_x : (messageTaken d p h q s).x = s.x := by simp [messageTaken, oseqTake]
@[simp] theorem messageTaken_tsu_tk : (messageTaken .tsu p h q s).tc.tk = s.tc.tk := rfl
@[simp] theorem messageTaken_dxd_tk : (messageTaken .dxd p h q s).dc.tk = s.dc.tk := rfl

theorem messageTaken_oseq : ((messageTaken d p h q s).com d).oseq = some (q, (s.com d).up) := by cases d <;> rfl

theorem messageTaken_seqRx : ((messageTaken d p h q s).port d p).rel.seqRx = h.seq := by
  have hport : (messageTaken d p h q s).port d p = (acceptSeq d p h.seq (takeLink d p h s)).port d p := by cases d <;> rfl
  rw [hport, acceptSeq, port_modPort_same]

theorem only_messageTaken : Only [.com d .ports, .com d .oseq] s (messageTaken d p h q s) := by
  cases d <;> simp [Only, messageTaken]

end

/-- A message with a new identity acts on a state that differs from the present one in its link and in the identities held. -/
theorem recvRetained_bySeen {d : Dev} {p : Nat} {h : LinkHdr} {fr : Frame} {i : SeenId} {s : State} (f : State → State)
    (ha : Accepts d p h fr s) (hi : Unseen d i s) :
    ∃ u, recvRetained d p h fr (bySeen d i f) s = f u ∧ u.t = s.t ∧ u.x = s.x ∧
      Only [.com d .ports, .com d .seen] s u := by
  have hseen : ((acceptSeq d p h.seq (takeLink d p h s)).com d).seen = (s.com d).seen := by cases d <;> rfl
  have hup : ((acceptSeq d p h.seq (takeLink d p h s)).com d).up = (s.com d).up := by cases d <;> rfl
  obtain ⟨l, hl⟩ := bySeen_unseen d i f (acceptSeq d p h.seq (takeLink d p h s)) (unseen_congr hi hseen hup)
  refine ⟨_, by rw [recvRetained_accepts d p h _ _ s ha, hl], by simp, by simp, ?_⟩
  cases d <;> simp [Only, Com.blank]

/-! A new arming (R173, R174). -/

/-- The highest attempt seen for the step of an ARM is noted. -/
def noteAttempt (f : ArmF) (s : State) : State :=
  modMem (fun m => { m with attempts := tabMod 0 m.attempts f.step (max (f.attempt + 1)) }) s

theorem armAtTsu_new {ep : Nat} {f : ArmF} {s : State} (h : isNewArming f s = true) :
    armAtTsu ep f s = newArming ep f (noteAttempt f s) := by
  simp only [armAtTsu, h, if_true, noteAttempt]

theorem armAtTsu_retimed {ep : Nat} {f : ArmF} {r : StepRec} {s : State} (h : isNewArming f s = false)
    (hr : retimed f s = some r) : armAtTsu ep f s = reTime f r (noteAttempt f s) := by
  simp only [armAtTsu, h, hr, Bool.false_eq_true, if_false, noteAttempt]

theorem armRefusal_congr {k : Nat} {s u : State} (htk : u.tc.tk = s.tc.tk) (hsteps : u.t.steps = s.t.steps) :
    armRefusal k u = armRefusal k s := by
  rw [armRefusal, htk, hsteps, armRefusal]

/-- The step is the next one expected. -/
def expectNext (f : ArmF) (s : State) : State := modMem (fun m => { m with expected := some (f.step + 1) }) s

/-- The step is ARMED. -/
def armStep (ep : Nat) (f : ArmF) (s : State) : State :=
  modT (fun t => { t with
    steps := t.steps ++ [newRec ep (extend48 s.tc.tk.bc f.kick) f]
    mem := { t.mem with firstArmed := some (t.mem.firstArmed.getD f.step) } }) (expectNext f s)

theorem newArming_armed {ep : Nat} {f : ArmF} {s : State} (h : armRefusal (extend48 s.tc.tk.bc f.kick) s = none) :
    newArming ep f s = pokeArm (sendEntry ⟨0, f.step % 8, f.step, f.attempt, 1, 0⟩ (armStep ep f s)) := by
  rw [newArming]
  dsimp only
  rw [h]
  rfl

theorem newArming_refused {ep n : Nat} {f : ArmF} {s : State} (h : armRefusal (extend48 s.tc.tk.bc f.kick) s = some n) :
    newArming ep f s = raiseLocal 8 (modMem (fun m => { m with armReason := n }) (expectNext f s)) := by
  rw [newArming]
  dsimp only
  rw [h]
  rfl

/-- No arm waits. -/
theorem pokeArm_idle (s : State) (h : ∀ pd, s.t.cue.lead.wait ≠ some (.arm pd)) : pokeArm s = s := by
  unfold pokeArm
  split
  · next pd r hw hb => exact absurd hw (h pd)
  · rfl

theorem seqRx_sendEntry (c : CensusUpF) (p : Nat) (s : State) :
    ((sendEntry c s).port .tsu p).rel.seqRx = (s.port .tsu p).rel.seqRx := by
  have hanswer : ∀ u : State, ((answerCensus c u).port .tsu p).rel.seqRx = (u.port .tsu p).rel.seqRx := fun u => by
    unfold answerCensus
    split
    · exact enqueue_seqRx ..
    · rfl
  unfold sendEntry
  split
  · rfl
  · exact hanswer _

/-- The step of an ARM is ARMED, with its attempt noted and its census entry sent. -/
def armSent (ep : Nat) (f : ArmF) (s : State) : State :=
  sendEntry ⟨0, f.step % 8, f.step, f.attempt, 1, 0⟩ (armStep ep f (noteAttempt f s))

section
variable (ep : Nat) (f : ArmF) (s : State)

theorem steps_armSent : (armSent ep f s).t.steps = s.t.steps ++ [newRec ep (extend48 s.tc.tk.bc f.kick) f] := by
  rw [armSent, t_steps_eq (t := sendEntry _ _) (s := armStep ep f (noteAttempt f s)) (by simp [but]), armStep, modT_t]
  rfl

theorem mem_armSent : (armSent ep f s).t.mem = (armStep ep f (noteAttempt f s)).t.mem := t_mem_eq (by simp [but, armSent])

theorem seenAttempts_armSent : seenAttempts (armSent ep f s) f.step = max (f.attempt + 1) (seenAttempts s f.step) := by
  rw [seenAttempts, mem_armSent, seenAttempts]
  exact tabGet_tabMod_same ..

theorem cue_armSent : (armSent ep f s).t.cue = s.t.cue :=
  t_cue_eq (by simp [but, armSent, armStep, expectNext, noteAttempt, Tsu.blank])

theorem oseq_armSent : (armSent ep f s).tc.oseq = s.tc.oseq :=
  tc_oseq_eq (by simp [but, armSent, armStep, expectNext, noteAttempt, Tsu.blank])

theorem seqRx_armSent (p : Nat) : ((armSent ep f s).port .tsu p).rel.seqRx = (s.port .tsu p).rel.seqRx :=
  seqRx_sendEntry _ _ _

theorem only_armSent : Only [.com .tsu .ports, .com .tsu .pgEvent, .com .tsu .ic, .com .tsu .oseq, .steps, .member, .cue,
    .huddles, .bays] s (armSent ep f s) := by
  simp [Only, armSent, armStep, expectNext, noteAttempt, Tsu.blank]

end

/-- A new arming that no check refuses, with no arm waiting. -/
theorem armAtTsu_armed {ep : Nat} {f : ArmF} {s : State} (hnew : isNewArming f s = true)
    (hok : armRefusal (extend48 s.tc.tk.bc f.kick) s = none) (hidle : ∀ pd, s.t.cue.lead.wait ≠ some (.arm pd)) : armAtTsu ep f s = armSent ep f s := by
  have hok' : armRefusal (extend48 (noteAttempt f s).tc.tk.bc f.kick) (noteAttempt f s) = none := by
    rw [noteAttempt, modMem_tc, armRefusal_congr (s := s) (by rw [modMem_tc]) (by rw [modMem_t])]
    exact hok
  rw [armAtTsu_new hnew, newArming_armed hok', ← armSent, pokeArm_idle _ (by rw [cue_armSent]; exact hidle)]

/-- A new arming that a check refuses. -/
theorem armAtTsu_refused {ep n : Nat} {f : ArmF} {s : State} (hnew : isNewArming f s = true)
    (hno : armRefusal (extend48 s.tc.tk.bc f.kick) s = some n) : armAtTsu ep f s =
      raiseLocal 8 (modMem (fun m => { m with armReason := n }) (expectNext f (noteAttempt f s))) := by
  have hno' : armRefusal (extend48 (noteAttempt f s).tc.tk.bc f.kick) (noteAttempt f s) = some n := by
    rw [noteAttempt, modMem_tc, armRefusal_congr (s := s) (by rw [modMem_tc]) (by rw [modMem_t])]
    exact hno
  rw [armAtTsu_new hnew, newArming_refused hno']

theorem raiseLocal_t (i : Nat) (s : State) : (raiseLocal i s).t = s.t := (noteRaise_t _ _ _ _).trans rfl

/-! A re-time (R175). -/

theorem reTime_inTime {f : ArmF} {r : StepRec} {s : State} (h : s.tc.tk.bc + 1024 ≤ extend48 s.tc.tk.bc f.kick) :
    (reTime f r s).t.steps = listModify (fun x => x.epoch == r.epoch && x.step == r.step && x.attempt == r.attempt) (fun x =>
        { x with k := extend48 s.tc.tk.bc f.kick, decision := none, missed := false, reorigin := f.reorigin }) s.t.steps ∧
      (reTime f r s).t.mem = s.t.mem := by
  rw [reTime]
  dsimp only
  rw [if_pos h]
  constructor
  · rw [← steps_modRec]
    exact t_steps_eq (by simp [but])
  · exact t_mem_eq (by simp [but])

/-! A kickoff at a DX-D (R182). -/

/-- What a list's first match becomes is in the changed list. -/
theorem mem_listModify_first {α : Type} {p : α → Bool} (f : α → α) {l : List α} (h : l.any p = true) :
    ∃ a, a ∈ l ∧ p a = true ∧ f a ∈ listModify p f l := by
  induction l with
  | nil => exact absurd h Bool.false_ne_true
  | cons x l ih =>
    by_cases hx : p x = true
    · exact ⟨x, List.mem_cons_self, hx, by rw [listModify, if_pos hx]; exact List.mem_cons_self⟩
    · have hrest : l.any p = true := by
        rw [List.any_cons, Bool.or_eq_true] at h
        exact h.resolve_left hx
      obtain ⟨a, ha, hp, hmem⟩ := ih hrest
      exact ⟨a, List.mem_cons_of_mem _ ha, hp, by rw [listModify, if_neg hx]; exact List.mem_cons_of_mem _ hmem⟩

/-- A known kickoff is of the same step at any beat. -/
theorem is_withBeat (q : KnownKick) (k ep step attempt : Nat) :
    ({ q with k := k } : KnownKick).is ep step attempt = q.is ep step attempt := rfl

/-- The DX-D knows the kickoff that an ARM gives, unless its strobe is already under way. -/
theorem kicks_noteArm (ep : Nat) (f : ArmF) (s : State)
    (h : ∀ q, q ∈ s.x.kicks → q.is ep f.step f.attempt = true → s.dc.tk.bc + 512 ≤ q.k) :
    ∃ k, k ∈ (noteArm ep f s).x.kicks ∧ k.is ep f.step f.attempt = true ∧ k.k = extend48 s.dc.tk.bc f.kick := by
  rw [noteArm, modX_x]
  dsimp only
  split
  · next hany =>
    obtain ⟨q, hq, hthis, hmem⟩ := mem_listModify_first (fun q : KnownKick =>
      if s.dc.tk.bc + 512 ≤ q.k then { q with k := extend48 s.dc.tk.bc f.kick } else q) hany
    rw [if_pos (h q hq hthis)] at hmem
    exact ⟨_, hmem, (is_withBeat ..).trans hthis, rfl⟩
  · exact ⟨_, List.mem_append_right _ List.mem_cons_self, by simp [KnownKick.is], rfl⟩

/-! A withdrawal (R187, R188). -/

/-- What a withdrawal makes of a step. -/
def StepRec.withdrawn (r : StepRec) : StepRec :=
  { r with st := if r.armed then .calledOff else .failed, decision := none, leaveReturn := true, inLead := false,
           bound := false }

theorem steps_withdraw (p : StepRec → Bool) (e : Option Nat) (s : State) :
    (withdraw p e s).t.steps = s.t.steps.map (fun r => if r.active && p r then r.withdrawn else r) := by
  unfold withdraw
  extract_lets ws fails offs lead runCur s1 s2 s3 s4 s5 s6
  have hend : (if offs then raiseLocal 4 s6 else s6).t.steps = s1.t.steps :=
    t_steps_eq (by simp [but, s6, s5, s4, s3, s2])
  exact hend

theorem mem_withdraw (p : StepRec → Bool) (e : Option Nat) (s : State) : (withdraw p e s).t.mem = s.t.mem :=
  t_mem_eq (by simp [but])

theorem active_of_armed {r : StepRec} (h : r.armed = true) : r.active = true := by
  simp only [StepRec.armed] at h
  simp [StepRec.active, h]

theorem active_of_launched {r : StepRec} (h : r.launched = true) : r.active = true := by
  simp only [StepRec.launched] at h
  simp [StepRec.active, h]

theorem not_armed_of_launched {r : StepRec} (h : r.launched = true) : r.armed = false := by
  simp only [StepRec.launched, beq_iff_eq] at h
  simp [StepRec.armed, h]

/-- An ARMED step that is withdrawn is called off, with its interrupt. -/
theorem local_withdraw_armed (p : StepRec → Bool) (e : Option Nat) (s : State) (r : StepRec) (hr : r ∈ s.t.steps)
    (ha : r.armed = true) (hp : p r = true) : bit (withdraw p e s).tc.ic.local_ 4 = true := by
  have hoffs : ((s.t.steps.filter (fun r => r.active && p r)).any (·.armed)) = true :=
    List.any_eq_true.mpr ⟨r, List.mem_filter.mpr ⟨hr, by rw [active_of_armed ha, hp]; rfl⟩, ha⟩
  simp only [withdraw, hoffs, if_true]
  exact bit_raiseLocal 4 (by decide) _

/-- A LAUNCHED step that is withdrawn fails, with its interrupt. -/
theorem local_withdraw_launched (p : StepRec → Bool) (e : Option Nat) (s : State) (r : StepRec) (hr : r ∈ s.t.steps)
    (hl : r.launched = true) (hp : p r = true) : bit (withdraw p e s).tc.ic.local_ 0 = true := by
  have hfails : ((s.t.steps.filter (fun r => r.active && p r)).any (fun r => !r.armed)) = true :=
    List.any_eq_true.mpr ⟨r, List.mem_filter.mpr ⟨hr, by rw [active_of_launched hl, hp]; rfl⟩,
      by rw [not_armed_of_launched hl]; rfl⟩
  simp only [withdraw, hfails, if_true]
  have hraised (u : State) : bit (raiseLocal 0 u).tc.ic.local_ 0 = true := bit_raiseLocal 0 (by decide) u
  split
  · exact (launchKept_raiseLocal (launchKept_refl _) 4).locals 0 (hraised _)
  · exact hraised _

/-! A CALL_OFF (R187, R190). -/

/-- The steps that a CALL_OFF withdraws. -/
def calledOff (f : CallOffF) (r : StepRec) : Bool := (r.armed || r.launched) && decide (f.step ≤ r.step)

/-- The withdrawal of a CALL_OFF. -/
def callOffSteps (f : CallOffF) (s : State) : State :=
  tryChanges (withdraw (calledOff f) (s.t.mem.expected.map (fun e => min e f.step))
    (modMem (fun m => { m with expected := s.t.mem.expected.map (fun e => min e f.step) }) s))

theorem callOffAtTsu_eq (f : CallOffF) (s : State) (h : ∀ r, dueKick s = some r → r.decision ≠ some .fire ∨
    r.missed = true ∨ r.step < f.step) : callOffAtTsu f s = callOffSteps f s := by
  unfold callOffAtTsu
  split
  · next r hr =>
    rw [if_neg]
    · rfl
    · rintro ⟨hfire, hmissed, hstep⟩
      rcases h r hr with h | h | h
      · exact h hfire
      · rw [h] at hmissed
        exact absurd hmissed (by decide)
      · omega
  · rfl

theorem callOffAtTsu_fires (f : CallOffF) (r : StepRec) (s : State) (hr : dueKick s = some r)
    (hfire : r.decision = some .fire) (hmissed : r.missed = false) (hstep : f.step ≤ r.step) :
    callOffAtTsu f s = callOffSteps f (fireKick r [] s) := by
  unfold callOffAtTsu
  rw [hr]
  dsimp only
  rw [if_pos ⟨hfire, by rw [hmissed]; rfl, hstep⟩]
  rfl

section
variable (f : CallOffF) (s : State)

theorem steps_callOffSteps : (callOffSteps f s).t.steps =
    s.t.steps.map (fun r => if calledOff f r then r.withdrawn else r) := by
  have hactive : ∀ r : StepRec, (r.active && calledOff f r) = calledOff f r := fun r => by
    unfold calledOff StepRec.active StepRec.armed StepRec.launched
    cases r.st <;> simp
  have htry : (callOffSteps f s).t.steps = (withdraw (calledOff f) (s.t.mem.expected.map (fun e => min e f.step))
      (modMem (fun m => { m with expected := s.t.mem.expected.map (fun e => min e f.step) }) s)).t.steps :=
    t_steps_eq (by simp [but, callOffSteps])
  rw [htry, steps_withdraw]
  simp only [hactive, modMem_t]

theorem expected_callOffSteps : (callOffSteps f s).t.mem.expected = s.t.mem.expected.map (fun e => min e f.step) := by
  have htry : ∀ u : State, (tryChanges u).t.mem = u.t.mem := fun u => t_mem_eq (by simp [but])
  rw [callOffSteps, htry, mem_withdraw, modMem_t]

theorem launchKept_callOffSteps : LaunchKept s (callOffSteps f s) := by
  have hmem : LaunchKept s (modMem (fun m => { m with expected := s.t.mem.expected.map (fun e => min e f.step) }) s) :=
    ⟨rfl, fun _ h => h⟩
  exact launchKept_tryChanges (launchKept_withdraw hmem _ _)

theorem local_callOffSteps_armed (h : s.t.steps.any (fun r => r.armed && decide (f.step ≤ r.step)) = true) :
    bit (callOffSteps f s).tc.ic.local_ 4 = true := by
  obtain ⟨r, hr, hp⟩ := List.any_eq_true.mp h
  rw [Bool.and_eq_true] at hp
  obtain ⟨ha, hstep⟩ := hp
  exact (launchKept_tryChanges (launchKept_refl _)).locals 4
    (local_withdraw_armed _ _ _ r hr ha (by rw [calledOff, ha, hstep]; rfl))

theorem local_callOffSteps_launched (h : s.t.steps.any (fun r => r.launched && decide (f.step ≤ r.step)) = true) :
    bit (callOffSteps f s).tc.ic.local_ 0 = true := by
  obtain ⟨r, hr, hp⟩ := List.any_eq_true.mp h
  rw [Bool.and_eq_true] at hp
  obtain ⟨hl, hstep⟩ := hp
  exact (launchKept_tryChanges (launchKept_refl _)).locals 0
    (local_withdraw_launched _ _ _ r hr hl (by rw [calledOff, hl, hstep, Bool.or_true]; rfl))

end

/-! A CENSUS_DN (R177, R237). -/

theorem mem_dropOwnEntry (f : CensusDnF) (s : State) (c : CensusUpF) : c ∈ (dropOwnEntry f s).t.hd.census ↔
    c ∈ s.t.hd.census ∧ ¬(c.kind = f.kind ∧ c.slot = f.slot ∧ c.step = f.step ∧ c.attempt = f.attempt) := by
  rw [dropOwnEntry, modHd_t, List.mem_filter]
  simp only [Bool.not_eq_true', ← Bool.not_eq_true, Bool.and_eq_true, beq_iff_eq, and_assoc]

/-- A step is ACCEPTED or RELEASED. -/
theorem censusDnAtTsu_marks (f : CensusDnF) (s : State) (h : (f.kind = 0 ∧ f.outcome = 1) ∨ (f.kind = 1 ∧ f.outcome = 0)) :
    censusDnAtTsu f s = modNamed f (fun _ => true)
      (fun r => if f.outcome = 1 then { r with accepted := true } else { r with released := true }) (dropOwnEntry f s) := by
  unfold censusDnAtTsu
  rcases h with ⟨hk, ho⟩ | ⟨hk, ho⟩ <;> simp [hk, ho]

/-- A DONE step is COMMITTED. -/
theorem censusDnAtTsu_commits (f : CensusDnF) (s : State) (hk : f.kind ≠ 2) (ho : f.outcome = 2)
    (hany : s.t.steps.any (fun r => dnRec f r && r.st == .done) = true) :
    censusDnAtTsu f s = raiseLocal 3 (modNamed f (fun r => r.st == .done)
      (fun r => { r with st := .committed, released := true }) (dropOwnEntry f s)) := by
  unfold censusDnAtTsu
  dsimp only
  rw [if_neg hk, if_neg (by omega), if_neg (by omega), if_pos ⟨ho, hany⟩]

theorem steps_modNamed (f : CensusDnF) (p : StepRec → Bool) (g : StepRec → StepRec) (s : State) :
    (modNamed f p g s).t.steps = s.t.steps.map (fun r => if dnRec f r && p r then g r else r) := rfl

theorem mem_freeCensus (p : Census → Bool) (s : State) (c : Census) :
    c ∈ (freeCensus p s).x.cs.open_ ↔ c ∈ s.x.cs.open_ ∧ p c = false := by
  simp [freeCensus, List.mem_filter]

/-! The frames at their ports. -/

section
variable {p : Nat} {h : LinkHdr} {ep : Nat} {s : State}

theorem armReceive_tsu {f : ArmF} (ha : Accepts .tsu p h ⟨ep, .arm f⟩ s) (hq : oseqNew .tsu f.oseq s = true) :
    armReceive .tsu p h ep f s = armAtTsu ep f (messageTaken .tsu p h f.oseq s) := recvRetained_byOseq _ ha hq

theorem armReceive_dxd {f : ArmF} (ha : Accepts .dxd p h ⟨ep, .arm f⟩ s) (hq : oseqNew .dxd f.oseq s = true) :
    armReceive .dxd p h ep f s = noteArm ep f (sendDown ⟨ep, .arm f⟩ (some p) (messageTaken .dxd p h f.oseq s)) :=
  recvRetained_byOseq _ ha hq

theorem callOffReceive_tsu {f : CallOffF} (ha : Accepts .tsu p h ⟨ep, .callOff f⟩ s) (hq : oseqNew .tsu f.oseq s = true) :
    callOffReceive .tsu p h ep f s = callOffAtTsu f (messageTaken .tsu p h f.oseq s) := recvRetained_byOseq _ ha hq

theorem callOffReceive_dxd {f : CallOffF} (ha : Accepts .dxd p h ⟨ep, .callOff f⟩ s) (hq : oseqNew .dxd f.oseq s = true) :
    callOffReceive .dxd p h ep f s = callOffAtDxd p ep f (messageTaken .dxd p h f.oseq s) := recvRetained_byOseq _ ha hq

theorem isNewArming_messageTaken (f : ArmF) : isNewArming f (messageTaken .tsu p h f.oseq s) = isNewArming f s := by
  rw [isNewArming, seenAttempts, messageTaken_t, isNewArming, seenAttempts]

theorem retimed_messageTaken (f : ArmF) : retimed f (messageTaken .tsu p h f.oseq s) = retimed f s := by
  rw [retimed, messageTaken_t, messageTaken_tsu_tk, retimed]

theorem dueKick_messageTaken (q : Nat) : dueKick (messageTaken .tsu p h q s) = dueKick s := by
  rw [dueKick, messageTaken_t, messageTaken_tsu_tk, dueKick]

end

/-- Settles O24, from the state in which the frame acts (`messageTaken`) and what each message does to it. -/
theorem armAndCallOff : Obligations.ArmAndCallOff := by
  unfold Obligations.ArmAndCallOff
  refine ⟨?arms, ?refuses, ?retimes, ?armDxd, ?callOff, ?fires, ?callOffDxd, ?marks, ?commits, ?frees⟩
  case arms =>
    intro p h ep f s ha hq hnew hok hidle
    refine ⟨_, rfl, ?_⟩
    have ht := messageTaken_t .tsu p h f.oseq s
    have htk := messageTaken_tsu_tk p h f.oseq s
    rw [armReceive_tsu ha hq, armAtTsu_armed (by rw [isNewArming_messageTaken]; exact hnew)
      (by rw [htk, armRefusal_congr htk (by rw [ht])]; exact hok) (by rw [ht]; exact hidle)]
    refine ⟨?_, ?_, ?_, ?_, ?_, ((only_messageTaken .tsu p h f.oseq s).mono (by decide)).trans (only_armSent ..)⟩
    · rw [steps_armSent, ht, htk]
    · rw [mem_armSent]
      rfl
    · rw [seenAttempts_armSent, seenAttempts, ht, seenAttempts]
    · exact (oseq_armSent ..).trans (messageTaken_oseq .tsu p h f.oseq s)
    · rw [seqRx_armSent, messageTaken_seqRx]
  case refuses =>
    intro p h ep f n s ha hq hnew hno
    refine ⟨_, rfl, ?_⟩
    have ht := messageTaken_t .tsu p h f.oseq s
    have htk := messageTaken_tsu_tk p h f.oseq s
    rw [armReceive_tsu ha hq, armAtTsu_refused (by rw [isNewArming_messageTaken]; exact hnew)
      (by rw [htk, armRefusal_congr htk (by rw [ht])]; exact hno), raiseLocal_t]
    refine ⟨?_, rfl, rfl, bit_raiseLocal 8 (by decide) _,
      ((only_messageTaken .tsu p h f.oseq s).mono (by decide)).trans (by simp [Only, expectNext, noteAttempt])⟩
    rw [modMem_t, expectNext, modMem_t, noteAttempt, modMem_t, ht]
  case retimes =>
    intro p h ep f r s ha hq hnew hr hk
    refine ⟨_, rfl, ?_⟩
    have ht : (noteAttempt f (messageTaken .tsu p h f.oseq s)).t.steps = s.t.steps ∧
        (noteAttempt f (messageTaken .tsu p h f.oseq s)).t.mem.expected = s.t.mem.expected := by
      rw [noteAttempt, modMem_t, messageTaken_t]
      exact ⟨rfl, rfl⟩
    have htk : (noteAttempt f (messageTaken .tsu p h f.oseq s)).tc.tk = s.tc.tk := by
      rw [noteAttempt, modMem_tc, messageTaken_tsu_tk]
    obtain ⟨hsteps, hmem⟩ := reTime_inTime (f := f) (r := r) (s := noteAttempt f (messageTaken .tsu p h f.oseq s))
      (by rw [htk]; exact hk)
    rw [armReceive_tsu ha hq, armAtTsu_retimed (by rw [isNewArming_messageTaken]; exact hnew)
      (by rw [retimed_messageTaken]; exact hr)]
    refine ⟨by rw [hsteps, htk, ht.1], by rw [hmem, ht.2],
      ((only_messageTaken .tsu p h f.oseq s).mono (by decide)).trans (by simp [Only, noteAttempt])⟩
  case armDxd =>
    intro p h ep f s ha hq hlate
    refine ⟨_, rfl, ?_⟩
    rw [armReceive_dxd ha hq]
    have hx : (sendDown ⟨ep, .arm f⟩ (some p) (messageTaken .dxd p h f.oseq s)).x = s.x := by simp
    have htk : (sendDown ⟨ep, .arm f⟩ (some p) (messageTaken .dxd p h f.oseq s)).dc.tk = s.dc.tk :=
      (dc_tk_eq (by simp [but])).trans (messageTaken_dxd_tk p h f.oseq s)
    have hkicks := kicks_noteArm ep f (sendDown ⟨ep, .arm f⟩ (some p) (messageTaken .dxd p h f.oseq s))
    rw [hx, htk] at hkicks
    refine ⟨hkicks hlate, ?_, ((only_messageTaken .dxd p h f.oseq s).mono (by decide)).trans (by simp [Only])⟩
    exact (dc_oseq_eq (by simp [but])).trans (messageTaken_oseq .dxd p h f.oseq s)
  case callOff =>
    intro p h ep f s ha hq hdue
    refine ⟨_, rfl, ?_⟩
    rw [callOffReceive_tsu ha hq]
    have hlink := only_messageTaken .tsu p h f.oseq s
    have ht := messageTaken_t .tsu p h f.oseq s
    have hdue' := callOffAtTsu_eq f (messageTaken .tsu p h f.oseq s) (by rw [dueKick_messageTaken]; exact hdue)
    have honly : Only [.com .tsu .tk, .com .tsu .ports, .com .tsu .pgEvent, .com .tsu .ic, .com .tsu .oseq, .steps, .member,
        .cue, .signals, .huddles, .keyPort, .tallies, .bays, .kickPins] (messageTaken .tsu p h f.oseq s)
        (callOffAtTsu f (messageTaken .tsu p h f.oseq s)) := by simp [Only]
    rw [hdue'] at honly ⊢
    generalize messageTaken .tsu p h f.oseq s = u at hlink ht honly ⊢
    refine ⟨?_, ?_, fun hany => ?_, fun hany => ?_, (hlink.mono (by decide)).trans honly⟩
    · rw [steps_callOffSteps, ht]
      rfl
    · rw [expected_callOffSteps, ht]
    · exact local_callOffSteps_armed f u (by rw [ht]; exact hany)
    · exact local_callOffSteps_launched f u (by rw [ht]; exact hany)
  case fires =>
    intro p h ep f r s ha hq hr hfire hmissed hstep
    refine ⟨_, rfl, ?_⟩
    rw [callOffReceive_tsu ha hq]
    have honly : Only [.com .tsu .tk, .com .tsu .ports, .com .tsu .pgEvent, .com .tsu .ic, .com .tsu .oseq, .steps, .member,
        .cue, .signals, .huddles, .keyPort, .tallies, .bays, .kickPins] s
        (callOffAtTsu f (messageTaken .tsu p h f.oseq s)) :=
      ((only_messageTaken .tsu p h f.oseq s).mono (by decide)).trans (by simp [Only])
    have hdue : dueKick (messageTaken .tsu p h f.oseq s) = some r := by rw [dueKick_messageTaken]; exact hr
    rw [callOffAtTsu_fires f r _ hdue hfire hmissed hstep] at honly ⊢
    have hmarks := (launchKept_callOffSteps f (fireKick r [] (messageTaken .tsu p h f.oseq s))).marks.trans
      (fireKick_launched r [] (messageTaken .tsu p h f.oseq s)).1
    exact ⟨congrArg LaunchMarks.lastLaunched hmarks, congrArg LaunchMarks.lastAttempt hmarks, honly⟩
  case callOffDxd =>
    intro p h ep f s ha hq
    refine ⟨_, rfl, ?_⟩
    rw [callOffReceive_dxd ha hq]
    refine ⟨?_, fun c => ?_, ((only_messageTaken .dxd p h f.oseq s).mono (by decide)).trans (by simp [Only])⟩
    · have hprobe : (probeMissing ep f (messageTaken .dxd p h f.oseq s)).x.kicks = s.x.kicks :=
        x_kicks_eq (by simp [but, messageTaken])
      have hkicks : (callOffAtDxd p ep f (messageTaken .dxd p h f.oseq s)).x.kicks =
          (noteCallOff ep f.step (probeMissing ep f (messageTaken .dxd p h f.oseq s))).x.kicks :=
        x_kicks_eq (by simp [but, callOffAtDxd])
      rw [hkicks, noteCallOff, modX_x]
      dsimp only
      rw [hprobe]
    · have hcs : (callOffAtDxd p ep f (messageTaken .dxd p h f.oseq s)).x.cs =
          (freeCensus (fun c => c.id.epoch == ep && decide (f.step ≤ c.id.step)) s).x.cs := by
        have hbefore : (noteCallOff ep f.step (probeMissing ep f (messageTaken .dxd p h f.oseq s))).x.cs = s.x.cs :=
          x_cs_eq (by simp [but, messageTaken])
        have hafter : (callOffAtDxd p ep f (messageTaken .dxd p h f.oseq s)).x.cs =
            (freeCensus (fun c => c.id.epoch == ep && decide (f.step ≤ c.id.step))
              (noteCallOff ep f.step (probeMissing ep f (messageTaken .dxd p h f.oseq s)))).x.cs :=
          x_cs_eq (by simp [but, callOffAtDxd])
        rw [hafter, freeCensus, modCs_x, hbefore, freeCensus, modCs_x]
      rw [hcs, mem_freeCensus]
      simp [Bool.and_eq_false_imp]
  case marks =>
    intro p h ep f s ha hu hf
    refine ⟨_, rfl, ?_⟩
    obtain ⟨u, hrun, ht, -, hlink⟩ := recvRetained_bySeen (censusDnAtTsu f) ha hu
    have hrun' : censusDnReceive .tsu p h ep f s = censusDnAtTsu f u := hrun
    rw [hrun', censusDnAtTsu_marks f u hf]
    refine ⟨?_, fun c => ?_, (hlink.mono (by decide)).trans (by simp [Only])⟩
    · rw [steps_modNamed, ← ht]
      simp [dnRec, dropOwnEntry]
    · have hhd : ∀ v : State, (modNamed f (fun _ => true) (fun r =>
          if f.outcome = 1 then { r with accepted := true } else { r with released := true }) v).t.hd = v.t.hd :=
        fun v => rfl
      rw [hhd, mem_dropOwnEntry, ht]
  case commits =>
    intro p h ep f s ha hu hk ho hany
    refine ⟨_, rfl, ?_⟩
    obtain ⟨u, hrun, ht, -, hlink⟩ := recvRetained_bySeen (censusDnAtTsu f) ha hu
    have hrun' : censusDnReceive .tsu p h ep f s = censusDnAtTsu f u := hrun
    rw [hrun', censusDnAtTsu_commits f u hk ho (by rw [ht]; exact hany)]
    refine ⟨?_, bit_raiseLocal 3 (by decide) _, (hlink.mono (by decide)).trans (by simp [Only])⟩
    rw [raiseLocal_t, steps_modNamed, ← ht]
    rfl
  case frees =>
    intro p h ep f s ha hu
    refine ⟨_, rfl, ?_⟩
    obtain ⟨u, hrun, -, hx, hlink⟩ := recvRetained_bySeen (censusDnAtDxd p ep f) ha hu
    have hrun' : censusDnReceive .dxd p h ep f s = censusDnAtDxd p ep f u := hrun
    rw [hrun']
    refine ⟨fun c => ?_, (hlink.mono (by decide)).trans (by simp [Only])⟩
    have hbefore : (sendDown ⟨ep, .censusDn f⟩ (some p) (noteRelease ep f (copyCommit ep f (noteOutcome ep f u)))).x.cs =
      u.x.cs := x_cs_eq (by simp [but])
    rw [censusDnAtDxd, mem_freeCensus, hbefore, hx, beq_eq_false_iff_ne]

end Sys2Proof.Machine
end

section
/-!
PROOFS. The acting referee's steps (R165, R169 to R171, R307, R312): O26.
-/

namespace Sys2Proof.Machine

/-! What a message that leaves changes at the referee (R307, R314). -/

/-- The referee notes a BENCH that leaves in its jobs, in what it shows of the last BENCH and in its complaint alone. -/
def BenchNoted (s t : State) : Prop :=
  ∃ js r k g c, t.x.rf2 = { s.x.rf2 with jobs := js, benchReason := r, benchKind := k, benchTarget := g, complaint := c }

theorem benchNoted_of_rf2_eq {s t : State} (h : t.x.rf2 = s.x.rf2) : BenchNoted s t := ⟨_, _, _, _, _, h⟩

theorem BenchNoted.trans {s t u : State} (h : BenchNoted s t) (h' : BenchNoted t u) : BenchNoted s u := by
  obtain ⟨js, r, k, g, c, h⟩ := h
  obtain ⟨js', r', k', g', c', h'⟩ := h'
  exact ⟨js', r', k', g', c', by rw [h', h]⟩

theorem benchNoted_noteSent (f : Frame) (s : State) : BenchNoted s (noteSent f s) := by
  unfold noteSent
  split
  · next b _ =>
    have hbench : BenchNoted s (noteBench b.kind b.target b.reason s) := by
      unfold noteBench
      dsimp only
      split
      · exact ⟨_, _, _, _, _, by simp only [raise_x, modRef_x]; rfl⟩
      · exact ⟨_, _, _, _, _, by simp only [raise_x, modRef_x]; rfl⟩
    refine hbench.trans ?_
    unfold replayFrom
    split
    · exact benchNoted_of_rf2_eq rfl
    · exact ⟨_, _, _, _, _, by rw [modRef_x]⟩
  · exact benchNoted_of_rf2_eq rfl

theorem benchNoted_flushMsgs (n : Nat) (s : State) : BenchNoted s (flushMsgs n s) := by
  induction n generalizing s with
  | zero => exact benchNoted_of_rf2_eq rfl
  | succ n ih =>
    unfold flushMsgs
    split
    · split
      · exact .trans (.trans (benchNoted_of_rf2_eq (by simp)) (benchNoted_noteSent _ _)) (ih _)
      · exact benchNoted_of_rf2_eq rfl
    · exact benchNoted_of_rf2_eq rfl

theorem benchNoted_afterLedger (ep : Nat) (f : Frame) (s : State) : BenchNoted s (afterLedger ep f s) :=
  .trans (benchNoted_of_rf2_eq (by simp [afterLedgerTo])) (benchNoted_flushMsgs _ _)

/-! An ARM of the root (R169, R307). -/

/-- A job for an ARM of which two records are free. -/
theorem queueArm_keeps {α : Type} {g : Job → α} (hg : IgnoresBench g) (ep : Nat) (r : RStep) (s : State)
    (h : 3 ≤ ledgerFree s.x.lg) : JobsKeep g s (queueArm ep r s) ∧
      (queueArm ep r s).x.rf2.oseqNext = s.x.rf2.oseqNext + 1 := by
  have htake := ledgerFree_takeOseq s
  have hrecord : (ledgerAppend 4 r.attempt r.step ep r.k [] r.checkpoint (takeOseq s).2).x.rf2 = (takeOseq s).2.x.rf2 :=
    rf2_ledgerAppend _ _ _ _ _ _ _ _ (by omega)
  have hnote : ∀ f u, (noteArm ep f u).x.rf2 = u.x.rf2 := fun f u => x_rf2_eq (by simp [but])
  obtain ⟨js, a, k, m, c, hsent⟩ := benchNoted_afterLedger ep
    ⟨ep, .arm ⟨(takeOseq s).1, r.step, r.attempt, r.k % 2 ^ 48, r.checkpoint, r.reorigin⟩⟩
    (noteArm ep ⟨(takeOseq s).1, r.step, r.attempt, r.k % 2 ^ 48, r.checkpoint, r.reorigin⟩
      (ledgerAppend 4 r.attempt r.step ep r.k [] r.checkpoint (takeOseq s).2))
  constructor
  · refine .trans (jobsKeep_of_jobs_eq ?_) (jobsKeep_afterLedger hg ..)
    rw [hnote, hrecord, jobs_takeOseq s (by omega)]
  · rw [queueArm, hsent, hnote, hrecord, oseqNext_takeOseq]

/-- The job with its next step armed. -/
def Job.arming (b : Job) (k : Nat) (c : Job) : Job :=
  { c with
    steps := pruneSteps c ++ [newRStep b b.nextStep (nextAttempt b b.nextStep) k false], nextStep := b.nextStep + 1 }

/-- The next step is armed at the later of its predecessor rule and the lead. -/
theorem armSend_arms {j : Nat} {b : Job} {s : State} (hb : s.job j = some b) (hacts : rootActs s = true)
    (hok : armSendOk b s = true) (hx : exhausted b b.nextStep = false) : armSend j s =
      queueArm b.epoch (newRStep b b.nextStep (nextAttempt b b.nextStep)
          (max (kpOf b b.nextStep) (s.dc.tk.bc + lEff b.sched)) false)
        (setJobState j 2 (modJob j (b.arming (max (kpOf b b.nextStep) (s.dc.tk.bc + lEff b.sched))) s)) := by
  rw [armSend, hb]
  simp only [hacts, hok, hx, Bool.not_true, Bool.or_self, Bool.false_eq_true, if_false]
  rfl

theorem armSend_stops {j : Nat} {b : Job} {s : State} (hb : s.job j = some b) (hacts : rootActs s = true)
    (hok : armSendOk b s = true) (hx : exhausted b b.nextStep = true) : armSend j s = stopJob j 5 5 s := by
  rw [armSend, hb]
  simp only [hacts, hok, hx, Bool.not_true, Bool.or_self, Bool.false_eq_true, if_false, if_true]

theorem armSend_idle {j : Nat} {b : Job} {s : State} (hb : s.job j = some b)
    (h : rootActs s = false ∨ armSendOk b s = false) : armSend j s = s := by
  have hno : (!rootActs s || !armSendOk b s) = true := by
    rcases h with h | h <;> rw [h] <;> simp
  rw [armSend, hb]
  dsimp only
  rw [if_pos hno]

/-- What R169 asks of a job whose next step is armed. -/
theorem armSendOk_parts {b : Job} {s : State} (h : armSendOk b s = true) :
    (b.state = 1 ∨ b.state = 2) ∧ b.ending = none ∧ 256 ≤ ledgerFree s.x.lg := by
  simp only [armSendOk, Bool.and_eq_true, Bool.or_eq_true, beq_iff_eq, decide_eq_true_eq, Option.isNone_iff_eq_none] at h
  obtain ⟨⟨⟨⟨⟨⟨⟨⟨⟨hstate, -⟩, hending⟩, -⟩, -⟩, hfree⟩, -⟩, -⟩, -⟩, -⟩ := h
  exact ⟨hstate, hending, hfree⟩

/-! A pause (R186, R312). -/

section
variable {α : Type} {g : Job → α}

/-- What `g` says does not rest on the steps. -/
def IgnoresSteps (g : Job → α) : Prop := ∀ b l, g { b with steps := l } = g b

theorem jobsKeep_sendCallOff (hb : IgnoresBench g) (hf : IgnoresFull g) (hs : IgnoresSteps g) (j reason : Nat) (s : State) :
    JobsKeep g s (sendCallOff j reason s) := by
  unfold sendCallOff
  split
  · exact jobsKeep_refl s
  · split
    · exact jobsKeep_refl s
    · split
      · exact jobsKeep_refl s
      · refine .trans (jobsKeep_takeOseq hf s) (.trans ?_ (.trans (jobsKeep_afterLedger hb ..)
          (jobsKeep_modJob j _ _ fun b => ⟨rfl, hs b _⟩)))
        exact jobsKeep_of_frame (by simp [but])

theorem jobsKeep_commitStep (hb : IgnoresBench g) (hf : IgnoresFull g) (hs : IgnoresSteps g) (j : Nat) (r : RStep)
    (h : List Byte) (s : State) : JobsKeep g s (commitStep j r h s) := by
  refine .trans (jobsKeep_ledgerAppend hf 6 r.attempt r.step r.epoch 0 h r.checkpoint s) (.trans
    (jobsKeep_afterLedger hb r.epoch ⟨r.epoch, .censusDn ⟨1, r.step % 8, r.step, r.attempt, 2, 0⟩⟩ _) (.trans ?_
      (jobsKeep_modJob j _ _ fun b => ⟨rfl, hs b _⟩)))
  exact jobsKeep_of_jobs_eq rfl

theorem jobsKeep_commitSteps (hb : IgnoresBench g) (hf : IgnoresFull g) (hs : IgnoresSteps g) (j : Nat) (s : State) :
    JobsKeep g s (commitSteps j s) := by
  unfold commitSteps
  split
  · exact jobsKeep_refl s
  · refine foldl_keeps (JobsKeep g s) (fun u r _ hu => ?_) (jobsKeep_refl s)
    dsimp only
    split
    · next h _ =>
      split
      · exact hu.trans (jobsKeep_commitStep hb hf hs j r h u)
      · exact hu
    · exact hu

theorem jobsKeep_sendProbe (hb : IgnoresBench g) (hf : IgnoresFull g) (ep die : Nat) (s : State) :
    JobsKeep g s (sendProbe ep die s) := by
  unfold sendProbe
  split
  · exact jobsKeep_refl s
  · exact (jobsKeep_takeOseq hf s).trans (jobsKeep_afterLedger hb ..)

end

/-- A change of STATE keeps the jobs. -/
theorem jobsKeep_setJobState {α : Type} {g : Job → α} (hg : ∀ (b : Job) n, g { b with state := n } = g b) (j st : Nat)
    (s : State) : JobsKeep g s (setJobState j st s) := by
  unfold setJobState
  split
  · split
    · exact jobsKeep_refl s
    · exact .trans (jobsKeep_modJob j (fun b => { b with state := st }) s fun b => ⟨rfl, hg b st⟩)
        (jobsKeep_of_jobs_eq (by rw [raise_x]))
  · exact jobsKeep_refl s

theorem jobsKeep_setRecovering {α : Type} {g : Job → α} (hg : ∀ (b : Job) n, g { b with state := n } = g b) (j : Nat)
    (s : State) : JobsKeep g s (setRecovering j s) := by
  unfold setRecovering
  split
  · split
    · exact jobsKeep_refl s
    · exact jobsKeep_setJobState hg j 3 s
  · exact jobsKeep_refl s

/-- The pause of a job without one, with its wait. -/
theorem job_pauseJob {j : Nat} {b : Job} {s : State} (reason : Nat) (targets : List (Nat × Nat × Nat))
    (hb : s.job j = some b) (h1 : 1 ≤ b.state) (h4 : b.state ≤ 4) (hp : b.pause = none) :
    ∃ c p, (pauseJob j reason targets true s).job j = some c ∧
      c.pause = some p ∧ p.reason = reason ∧ p.waiting = true ∧ p.callAt = s.dc.tk.bc := by
  have hslots : JobsKeep (fun _ => ()) s (sendCallOff j reason (setRecovering j (commitSteps j s))) :=
    .trans (jobsKeep_commitSteps (fun _ _ _ => rfl) (fun _ => rfl) (fun _ _ => rfl) j s)
      (.trans (jobsKeep_setRecovering (fun _ _ => rfl) j _)
        (jobsKeep_sendCallOff (fun _ _ _ => rfl) (fun _ => rfl) (fun _ _ => rfl) j reason _))
  obtain ⟨c, hc, -⟩ := hslots.exists_job hb
  rw [pauseJob, hb]
  dsimp only
  rw [if_neg (by omega), hp]
  dsimp only
  rw [if_pos rfl, job_modJob _ _ _ fun _ => by rfl, hc, Option.map_some]
  exact ⟨_, _, rfl, rfl, rfl, rfl, rfl⟩

/-- A job that stops by itself keeps what does not rest on its end. -/
theorem jobsKeep_stopJob {α : Type} {g : Job → α} (hb : IgnoresBench g) (hf : IgnoresFull g) (hs : IgnoresSteps g)
    (he : ∀ (b : Job) n, g { b with ending := some n, stopArms := true, pause := none } = g b) (j reason result : Nat)
    (s : State) : JobsKeep g s (stopJob j reason result s) := by
  unfold stopJob
  split
  · split
    · exact jobsKeep_refl s
    · exact (jobsKeep_sendCallOff hb hf hs j reason s).trans (jobsKeep_modJob j
        (fun b => { b with ending := some result, stopArms := true, pause := none }) _ fun b => ⟨rfl, he b result⟩)
  · exact jobsKeep_refl s

/-! The check at K - 10,000 (R170). -/

/-- The job whose armed step has been checked. -/
def Job.checking (r : RStep) (b : Job) : Job :=
  { b with steps := b.steps.map (fun x => if x == r then { x with checked := true } else x) }

/-- The check of an armed step that comes due. -/
theorem deadlineCheck_due {j step : Nat} {b : Job} {r : RStep} {s : State} (hb : s.job j = some b)
    (hacts : rootActs s = true) (hr : b.steps.find? (fun r => r.step == step && r.isArmed) = some r)
    (hc : r.checked = false) (hk : r.k ≤ s.dc.tk.bc + 10000) : deadlineCheck j step s =
      if !r.armDone then
        (if b.ending.isSome then sendCallOff j 1 (modJob j (Job.checking r) s)
          else pauseJob j 1 [] true (modJob j (Job.checking r) s))
      else if prevDone b step then modJob j (Job.checking r) s
      else match (modJob j (Job.checking r) s).job j with
        | some b1 => slipStep j b1 step (modJob j (Job.checking r) s)
        | none => modJob j (Job.checking r) s := by
  have hdue : (!rootActs s || r.checked || decide (s.dc.tk.bc + 10000 < r.k)) = false := by
    rw [hacts, hc, decide_eq_false (by omega)]
    rfl
  rw [deadlineCheck, hb]
  dsimp only
  rw [hr]
  dsimp only
  rw [hdue]
  rfl

/-! The timeout of a step (R171). -/

/-- A launched step that is not done, or has no hall card, pauses its job, and its missing records are probed. -/
theorem stepTimeout_due {j step : Nat} {b : Job} {r : RStep} {s : State} (hb : s.job j = some b)
    (hacts : rootActs s = true) (hend : b.ending = none) (hp : b.pause = none) (hr : r ∈ b.steps) (hstep : r.step = step)
    (hl : r.launched = true) (hdone : r.doneDone = false ∨ r.hall = none) (hw : r.withdrawn = false)
    (hcm : r.committed = false) (hk : r.k + b.sched.stepTimeout ≤ s.dc.tk.bc) :
    ∃ l : List (Nat × Nat), stepTimeout j step s = l.foldl (fun s x => sendProbe x.1 x.2 s) (pauseJob j 3 [] true s) := by
  have hlate : (b.steps.any (fun r => r.step == step && r.launched &&
      (!r.doneDone || r.hall.isNone || (epochPaired s r.epoch && !s.x.tl.compared.contains (r.epoch, r.step))) &&
      !r.withdrawn && !r.committed && decide (r.k + b.sched.stepTimeout ≤ s.dc.tk.bc))) = true := by
    refine List.any_eq_true.mpr ⟨r, hr, ?_⟩
    have hmissing : (!r.doneDone || r.hall.isNone) = true := by
      rcases hdone with h | h <;> rw [h] <;> simp
    rw [hmissing, hl, hw, hcm, beq_iff_eq.mpr hstep, decide_eq_true hk]
    rfl
  rw [stepTimeout, hb]
  dsimp only
  rw [hacts, hend, hp, hlate]
  exact ⟨_, rfl⟩

/-- The reason of a job's pause, and whether it waits. -/
def pauseKind (b : Job) : Option (Nat × Bool) := b.pause.map (fun p => (p.reason, p.waiting))

theorem ignoresBench_pauseKind : IgnoresBench pauseKind := fun b n l => by
  rw [pauseKind, Option.map_map]
  rfl

theorem jobsKeep_probes (l : List (Nat × Nat)) (s : State) :
    JobsKeep pauseKind s (l.foldl (fun s x => sendProbe x.1 x.2 s) s) :=
  foldl_keeps (JobsKeep pauseKind s)
    (fun u x _ hu => hu.trans (jobsKeep_sendProbe ignoresBench_pauseKind (fun _ => rfl) x.1 x.2 u)) (jobsKeep_refl s)

/-- Settles O26, from the state in which the ARM is queued and from what a pause, a CALL_OFF and a commit keep of a job. -/
theorem rootSteps : Obligations.RootSteps := by
  unfold Obligations.RootSteps
  refine ⟨?arms, ?stops, ?idle, ?checked, ?missing, ?timeout⟩
  case arms =>
    intro j b s hb hacts hok hx
    refine ⟨_, rfl, ?_⟩
    obtain ⟨hstate, hending, hfree⟩ := armSendOk_parts hok
    rw [armSend_arms hb hacts hok hx]
    generalize max (kpOf b b.nextStep) (s.dc.tk.bc + lEff b.sched) = k
    have hjob : (setJobState j 2 (modJob j (b.arming k) s)).job j = some { b.arming k b with state := 2 } :=
      job_setJobState _ _ _ _ (by rw [job_modJob _ _ _ fun _ => by rfl, hb, Option.map_some])
    have hlg : (setJobState j 2 (modJob j (b.arming k) s)).x.lg = s.x.lg := by
      rw [ledger_setJobState]
      rfl
    obtain ⟨hkeep, hseq⟩ := queueArm_keeps (g := fun c => (c.state, c.nextStep, c.epoch, c.steps)) (fun _ _ _ => rfl)
      b.epoch (newRStep b b.nextStep (nextAttempt b b.nextStep) k false) (setJobState j 2 (modJob j (b.arming k) s))
      (by rw [hlg]; omega)
    obtain ⟨c, hc, hg⟩ := hkeep.exists_job hjob
    simp only [Prod.mk.injEq] at hg
    obtain ⟨hstate, hnext, hepoch, hsteps⟩ := hg
    refine ⟨⟨c, hc, hstate, hnext, hepoch, hsteps⟩, ?_, by simp [Only]⟩
    rw [hseq, (oseq_setJobState ..).1]
    rfl
  case stops =>
    intro j b s hb hacts hok hx
    refine ⟨_, rfl, ?_⟩
    obtain ⟨hstate, hending, -⟩ := armSendOk_parts hok
    obtain ⟨c, hc, hend, hstop, -⟩ := job_stopJob j 5 5 b s hb hending (by omega) (by omega)
    rw [armSend_stops hb hacts hok hx]
    refine ⟨⟨c, hc, hend, hstop, ?_⟩, by simp [Only]⟩
    obtain ⟨d, hd, hnext⟩ := (jobsKeep_stopJob (g := Job.nextStep) (fun _ _ _ => rfl) (fun _ => rfl) (fun _ _ => rfl)
      (fun _ _ => rfl) j 5 5 s).exists_job hb
    rw [hc] at hd
    obtain rfl : c = d := by injection hd
    exact hnext
  case idle =>
    intro j b s hb h
    exact congrArg Host.Outcome.next (armSend_idle hb h)
  case checked =>
    intro j step b r s hb hacts hr hc hk hd hprev
    refine ⟨_, rfl, ?_⟩
    rw [deadlineCheck_due hb hacts hr hc hk, hd, hprev]
    refine ⟨?_, by simp [Only]⟩
    rw [if_neg (by decide), if_pos rfl, job_modJob _ _ _ fun _ => by rfl, hb, Option.map_some]
    rfl
  case missing =>
    intro j step b r s hb hacts hr hc hk hd hend hp h1 h4
    refine ⟨_, rfl, ?_⟩
    rw [deadlineCheck_due hb hacts hr hc hk, hd, hend]
    obtain ⟨c, p, hjob, hpause, hreason, hwait, hat⟩ := job_pauseJob (s := modJob j (Job.checking r) s)
      (b := b.checking r) 1 []
      (by rw [job_modJob _ _ _ fun _ => by rfl, hb, Option.map_some]) h1 h4 hp
    refine ⟨⟨c, hjob, by rw [hpause, Option.map_some, hreason], by rw [hpause, Option.map_some, hwait],
      by rw [hpause, Option.map_some, hat]; rfl⟩, by simp [Only]⟩
  case timeout =>
    intro j step b r s hb hacts hend hp h1 h4 hr hstep hl hdone hw hcm hk
    refine ⟨_, rfl, ?_⟩
    have honly : Only [.com .dxd .ports, .com .dxd .regs, .com .dxd .pgEvent, .com .dxd .ic, .kicks, .census, .scores,
        .ledger, .referee] s (stepTimeout j step s) := by simp [Only]
    refine ⟨?_, honly⟩
    obtain ⟨l, hrun⟩ := stepTimeout_due hb hacts hend hp hr hstep hl hdone hw hcm hk
    obtain ⟨c, p, hjob, hpause, hreason, hwait, -⟩ := job_pauseJob 3 [] hb h1 h4 hp
    obtain ⟨d, hd, hg⟩ := (jobsKeep_probes l (pauseJob j 3 [] true s)).exists_job hjob
    rw [pauseKind, pauseKind, hpause, Option.map_some, hreason, hwait] at hg
    rw [hrun]
    refine ⟨d, hd, ?_, ?_⟩
    · simpa using congrArg (Option.map Prod.fst) hg
    · simpa using congrArg (Option.map Prod.snd) hg

end Sys2Proof.Machine
end

section
/-!
PROOFS. What messages, records, commits and resolutions keep of a root member's part in its pair (R307, R309, R310).
-/

namespace Sys2Proof.Machine

/-- A root member's part in the pair: whether it acts, acts alone, holds the twin's log, and what firmware has exported. -/
def State.pairPart (s : State) : Bool × Bool × Bool × Nat :=
  (s.x.rf2.acting, s.x.lg.solo, s.x.lg.mirrorOk, s.x.lg.exported)

def PartKept (s t : State) : Prop := t.pairPart = s.pairPart

theorem partKept_refl (s : State) : PartKept s s := rfl

theorem PartKept.trans {s t u : State} (h : PartKept s t) (h' : PartKept t u) : PartKept s u := Eq.trans h' h

theorem PartKept.parts {s t : State} (h : PartKept s t) : t.x.rf2.acting = s.x.rf2.acting ∧
    t.x.lg.solo = s.x.lg.solo ∧ t.x.lg.mirrorOk = s.x.lg.mirrorOk ∧ t.x.lg.exported = s.x.lg.exported := by
  simpa [PartKept, State.pairPart] using h

theorem partKept_of_eq {s t : State} (hr : t.x.rf2.acting = s.x.rf2.acting) (hl : t.x.lg = s.x.lg) : PartKept s t := by
  rw [PartKept, State.pairPart, State.pairPart, hr, hl]

/-- An operation of other parts keeps it. -/
theorem partKept_of_frame {s t : State} (hr : t.blank (but .referee) = s.blank (but .referee))
    (hl : t.blank (but .ledger) = s.blank (but .ledger)) : PartKept s t :=
  partKept_of_eq (by rw [x_rf2_eq hr]) (x_lg_eq hl)

theorem partKept_raise (pg b : Nat) (s : State) : PartKept s (raise .dxd pg b s) :=
  partKept_of_eq (by rw [raise_x]) (by rw [raise_x])

theorem partKept_raiseIf (c : Bool) (pg b : Nat) (s : State) : PartKept s (raiseIf c .dxd pg b s) :=
  partKept_of_eq (by rw [raiseIf_x]) (by rw [raiseIf_x])

theorem partKept_modJob (j : Nat) (f : Job → Job) (s : State) : PartKept s (modJob j f s) := rfl

theorem partKept_modRStep (ep step attempt : Nat) (f : RStep → RStep) (s : State) :
    PartKept s (modRStep ep step attempt f s) := rfl

theorem partKept_ledgerWatch (s : State) : PartKept s (ledgerWatch s) := by
  have hlow : PartKept s (if ledgerFree s.x.lg < 256 then raise .dxd 0x15 1 s else s) := by
    split
    · exact partKept_raise _ _ s
    · exact partKept_refl s
  unfold ledgerWatch
  dsimp only
  split
  · exact hlow.trans (partKept_raiseIf ..)
  · exact hlow

theorem partKept_ledgerAppend (ty attempt step epoch value : Nat) (data : List Byte) (ckpt : Bool) (s : State) :
    PartKept s (ledgerAppend ty attempt step epoch value data ckpt s) := by
  unfold ledgerAppend
  split
  · exact partKept_refl s
  · exact .trans rfl (partKept_ledgerWatch _)

theorem partKept_takeOseq (s : State) : PartKept s (takeOseq s).2 := by
  unfold takeOseq
  dsimp only
  split
  · exact (partKept_ledgerAppend 3 0 0 0 (s.x.rf2.oseqNext + 4095) [] false
      (modRef (fun r => { r with oseqReserved := s.x.rf2.oseqNext + 4096 }) s)).trans rfl
  · rfl

theorem partKept_sendMsg (m : LedgerMsg) (s : State) : PartKept s (sendMsg m s) := by
  obtain ⟨js, r, k, g, c, hnoted⟩ := (benchNoted_of_rf2_eq (s := s) (by simp)).trans
    (benchNoted_noteSent m.frame (sendTwin m.frame
      (enqueueAll .dxd (m.ports.filter (fun p => (s.port .dxd p).st == 5)) none m.frame s)))
  exact partKept_of_eq (by rw [sendMsg, hnoted]) (x_lg_eq (by simp [but]))

theorem partKept_flushMsgs (n : Nat) (s : State) : PartKept s (flushMsgs n s) := by
  induction n generalizing s with
  | zero => exact partKept_refl s
  | succ n ih =>
    unfold flushMsgs
    split
    · next m rest _ =>
      split
      · exact .trans (.trans (s := s) (t := modLg (fun l => { l with msgs := rest }) s) rfl (partKept_sendMsg m _)) (ih _)
      · exact partKept_refl s
    · exact partKept_refl s

theorem partKept_afterLedger (ep : Nat) (f : Frame) (s : State) : PartKept s (afterLedger ep f s) :=
  .trans (t := afterLedgerTo (epochPorts s ep) f s) rfl (partKept_flushMsgs _ _)

theorem partKept_imageAfterLedger (ports : List Nat) (fs : List Frame) (s : State) :
    PartKept s (imageAfterLedger ports fs s) := by
  have hqueued : PartKept s (fs.foldl (fun s f => afterLedgerTo ports f s) s) :=
    foldl_keeps (PartKept s) (fun u f _ hu => hu.trans (u := afterLedgerTo ports f u) rfl) (partKept_refl s)
  exact hqueued.trans (partKept_flushMsgs _ _)

theorem partKept_endSteps (ep step : Nat) (s : State) : PartKept s (endSteps ep step s) :=
  partKept_of_frame (by simp [but]) (by simp [but])

theorem partKept_sendCensusImages (b : Job) (s : State) : PartKept s (sendCensusImages b s) := by
  unfold sendCensusImages
  dsimp only
  refine foldl_keeps (PartKept s) (fun u n _ hu => ?_) (partKept_refl s)
  split
  · exact hu.trans (partKept_imageAfterLedger ..)
  · exact hu

theorem partKept_serveJob (b : Job) (s : State) : PartKept s (serveJob b s) := rfl

theorem partKept_benchDxd (target reason : Nat) (s : State) : PartKept s (benchDxd target reason s) := by
  unfold benchDxd
  split
  · exact partKept_refl s
  · refine (partKept_takeOseq s).trans ?_
    exact .trans (t := afterLedgerTo (portToward s target).toList
      ⟨0, .bench ⟨(takeOseq s).1, 0, 1, target, reason, 0⟩⟩
      (modRef (fun r => { r with benchedDevs := (1, target) :: r.benchedDevs }) (takeOseq s).2)) rfl
      (partKept_flushMsgs _ _)

/-! Commits and CALL_OFF (R183, R186). -/

theorem partKept_commitStep (j : Nat) (r : RStep) (h : List Byte) (s : State) : PartKept s (commitStep j r h s) := by
  refine (partKept_ledgerAppend 6 r.attempt r.step r.epoch 0 h r.checkpoint s).trans
    ((partKept_afterLedger r.epoch ⟨r.epoch, .censusDn ⟨1, r.step % 8, r.step, r.attempt, 2, 0⟩⟩ _).trans ?_)
  exact (partKept_of_frame (by simp [but]) (by simp [but])).trans
    (partKept_modJob j (markCommitting r) (noteOutcome r.epoch ⟨1, r.step % 8, r.step, r.attempt, 2, 0⟩ _))

theorem partKept_commitSteps (j : Nat) (s : State) : PartKept s (commitSteps j s) := by
  unfold commitSteps
  split
  · exact partKept_refl s
  · refine foldl_keeps (PartKept s) (fun u r _ hu => ?_) (partKept_refl s)
    dsimp only
    split
    · next h _ =>
      split
      · exact hu.trans (partKept_commitStep j r h u)
      · exact hu
    · exact hu

theorem partKept_sendCallOff (j reason : Nat) (s : State) : PartKept s (sendCallOff j reason s) := by
  unfold sendCallOff
  split
  · exact partKept_refl s
  · split
    · exact partKept_refl s
    · split
      · exact partKept_refl s
      · exact ((partKept_takeOseq s).trans (partKept_endSteps ..)).trans
          ((partKept_afterLedger ..).trans (partKept_modJob ..))

theorem partKept_stopJob (j reason result : Nat) (s : State) : PartKept s (stopJob j reason result s) := by
  unfold stopJob
  split
  · split
    · exact partKept_refl s
    · exact (partKept_sendCallOff j reason s).trans (partKept_modJob ..)
  · exact partKept_refl s

/-! Resolutions (R237, R241). -/

theorem partKept_misfitJob (ep : Nat) (s : State) : PartKept s (misfitJob ep s) := by
  unfold misfitJob
  split
  · exact partKept_refl s
  · split
    · exact partKept_stopJob ..
    · exact partKept_refl s

theorem partKept_freeCensus (p : Census → Bool) (s : State) : PartKept s (freeCensus p s) :=
  partKept_of_frame (by simp [but]) (by simp [but])

theorem partKept_sendResolved (ep : Nat) (f : CensusDnF) (s : State) : PartKept s (sendResolved ep f s) :=
  partKept_of_frame (by simp [but]) (by simp [but])

theorem partKept_resolveArm (i : CensusId) (total : Nat) (s : State) : PartKept s (resolveArm i total s) := by
  unfold resolveArm
  extract_lets f dn s1 s2
  split
  · exact partKept_refl s
  · split
    · exact partKept_refl s
    · split
      · exact (partKept_freeCensus ..).trans (partKept_afterLedger ..)
      · split
        · have h2 : PartKept s s2 := (partKept_modRStep ..).trans (partKept_ledgerAppend ..)
          have h3 : PartKept s2 (noteOutcome i.epoch f (freeCensus (fun c => c.id == i) s2)) :=
            partKept_of_frame (by simp [but]) (by simp [but])
          exact h2.trans (h3.trans (partKept_afterLedger ..))
        · exact partKept_refl s

theorem partKept_resolveDone (i : CensusId) (total : Nat) (s : State) : PartKept s (resolveDone i total s) :=
  (partKept_freeCensus ..).trans ((partKept_modRStep ..).trans (partKept_sendResolved ..))

theorem partKept_resolveHuddle (i : CensusId) (total : Nat) (s : State) : PartKept s (resolveHuddle i total s) := by
  unfold resolveHuddle
  split
  · exact partKept_refl s
  · extract_lets bad s1 s2
    have hsent : ∀ f, PartKept s (sendResolved i.epoch f s1) := fun f =>
      (partKept_freeCensus ..).trans (partKept_sendResolved ..)
    have h2 : PartKept s s2 := hsent _
    split
    · exact hsent _
    · refine h2.trans ?_
      split
      · exact partKept_misfitJob ..
      · exact partKept_of_frame (by simp [but]) (by simp [but])

theorem partKept_completeCensus (i : CensusId) (s : State) : PartKept s (completeCensus i s) := by
  unfold completeCensus
  split
  · exact partKept_refl s
  · split
    · exact partKept_refl s
    · extract_lets s1
      have hjudged : PartKept s s1 := by
        dsimp only [s1]
        split
        · exact partKept_of_frame (by simp [but]) (by simp [but])
        · exact partKept_refl s
      clear_value s1
      split
      · exact partKept_refl s
      · refine hjudged.trans ?_
        split
        · exact partKept_of_frame (by simp [but]) (by simp [but])
        · split
          · exact partKept_resolveArm ..
          · split
            · exact partKept_resolveDone ..
            · exact partKept_resolveHuddle ..

/-- Records that had no room, and what they resolve, change nothing of it. -/
theorem partKept_retryRecords (s : State) : PartKept s (retryRecords s) := by
  unfold retryRecords
  exact .trans (foldl_keeps (PartKept s) (fun _ _ _ hu => hu.trans (partKept_commitSteps ..)) (partKept_refl s))
    (foldl_keeps (PartKept _) (fun _ _ _ hu => hu.trans (partKept_completeCensus ..)) (partKept_refl _))

/-! A successor's jobs (R280, R316). -/

theorem partKept_sendAdmission (b : Job) (ne : Nat) (cr : Nat × Nat) (s : State) :
    PartKept s (sendAdmission b ne cr s) := partKept_imageAfterLedger ..

theorem partKept_resumeBench (b : Job) (s : State) : PartKept s (resumeBench b s) := by
  unfold resumeBench
  split
  · exact partKept_refl s
  · split
    · exact partKept_refl s
    · next r _ =>
      extract_lets old target slot q f s1 s2 s3
      have h1 : PartKept s s1 := (partKept_takeOseq s).trans (partKept_afterLedger ..)
      have h2 : PartKept s s2 := by
        refine h1.trans ?_
        dsimp only [s2]
        split
        · exact partKept_refl _
        · exact partKept_sendAdmission ..
      have h3 : PartKept s s3 := h2.trans (.trans rfl (partKept_endSteps old 0 _))
      split
      · exact h3.trans (partKept_serveJob ..)
      · exact h3.trans ((partKept_serveJob ..).trans (partKept_sendCensusImages ..))

theorem partKept_sumDone (v : Served) (c : Combine) (s : State) : PartKept s (sumDone v c s) := by
  unfold sumDone
  split
  · exact partKept_refl s
  · extract_lets sum s1
    have h1 : PartKept s s1 := rfl
    split
    · exact partKept_of_frame (by simp [but]) (by simp [but])
    · split
      · exact partKept_refl s
      · split
        · exact h1
        · split
          · exact h1
          · split
            · exact h1
            · extract_lets h s2 s3
              have h3 : PartKept s s3 := rfl
              exact h3.trans ((partKept_raise ..).trans (partKept_commitSteps ..))

theorem partKept_resumeJobs (s : State) : PartKept s (resumeJobs s) := by
  unfold resumeJobs
  refine .trans (foldl_keeps (PartKept s) (fun _ _ _ hu => hu.trans (partKept_resumeBench ..)) (partKept_refl s))
    (foldl_keeps (PartKept _) (fun u c _ hu => ?_) (partKept_refl _))
  split
  · exact hu.trans (partKept_sumDone ..)
  · exact hu

end Sys2Proof.Machine
end

section
/-!
PROOFS. The ledger of a root pair, the takeover and checkpoints (R183, R306 to R311, R319, R323): O45.
-/

namespace Sys2Proof.Machine

/-! Messages that leave, and messages that wait (R307). -/

theorem lg_sendMsg (m : LedgerMsg) (s : State) : (sendMsg m s).x.lg = s.x.lg := x_lg_eq (by simp [but])

/-- What leaves changes the list of waiting messages alone. -/
theorem lg_flushMsgs (n : Nat) (s : State) : ∃ l, (flushMsgs n s).x.lg = { s.x.lg with msgs := l } := by
  induction n generalizing s with
  | zero => exact ⟨_, rfl⟩
  | succ n ih =>
    unfold flushMsgs
    split
    · split
      · next m rest _ _ =>
        obtain ⟨l, hl⟩ := ih (sendMsg m (modLg (fun l => { l with msgs := rest }) s))
        exact ⟨l, by rw [hl, lg_sendMsg, modLg_x]⟩
      · exact ⟨_, rfl⟩
    · exact ⟨_, rfl⟩

/-- A message whose record is not durable waits. -/
theorem mem_flushMsgs (n : Nat) {m : LedgerMsg} {s : State} (hm : m ∈ s.x.lg.msgs)
    (hopen : recordsDurable s.x.lg m.seq = false) : m ∈ (flushMsgs n s).x.lg.msgs := by
  induction n generalizing s with
  | zero => exact hm
  | succ n ih =>
    unfold flushMsgs
    split
    · next a rest hl =>
      split
      · next hd =>
        have hne : m ≠ a := by
          rintro rfl
          rw [hopen] at hd
          exact absurd hd (by decide)
        have hrest : m ∈ rest := (List.mem_cons.mp (hl ▸ hm)).resolve_left hne
        refine ih ?_ ?_
        · rw [lg_sendMsg, modLg_x]
          exact hrest
        · rw [lg_sendMsg, modLg_x]
          exact hopen
      · exact hm
    · exact hm

/-- The only message that waits leaves when its record is durable. -/
theorem flushLedger_one {m : LedgerMsg} {s : State} (hm : s.x.lg.msgs = [m]) (hd : recordsDurable s.x.lg m.seq = true) :
    flushLedger s = sendMsg m (modLg (fun l => { l with msgs := [] }) s) := by
  rw [flushLedger, hm, List.length_singleton, flushMsgs, hm]
  dsimp only
  rw [if_pos hd]
  rfl

/-! The acting member's record becomes durable (R31, R183, R307). -/

/-- The ledger whose oldest open record has become durable. -/
def Ledger.durable (n : Nat) (l : Ledger) : Ledger := { l with open_ := l.open_.drop 1, head := n }

/-- The record commits the step. -/
def commitHits (c : LedgerRec) (r : RStep) : Bool :=
  r.step == c.step && r.attempt == c.attempt && r.epoch == c.epoch && r.committing

/-- The job with the steps of a durable COMMIT. -/
def Job.committed (c : LedgerRec) (b : Job) : Job :=
  { b with
    steps := b.steps.map (fun r => if commitHits c r then { r with committed := true, committing := false } else r)
    committedTo := some (max c.step (b.committedTo.getD 0)) }

/-- What a commit says of its job. -/
def commitKey (b : Job) : Option Nat × List RStep := (b.committedTo, b.steps)

/-- The step of a durable COMMIT is committed. -/
def commitNoted (c : LedgerRec) (j : Nat) (s : State) : State :=
  raiseIf c.ckpt .dxd 0x15 2 (lsForget c.step (modJob j (Job.committed c) s))

theorem lg_commitNoted (c : LedgerRec) (j : Nat) (s : State) : (commitNoted c j s).x.lg = s.x.lg := by
  rw [commitNoted, raiseIf_x]
  rfl

theorem job_commitNoted (c : LedgerRec) (j : Nat) (s : State) :
    (commitNoted c j s).job j = (s.job j).map (Job.committed c) := by
  rw [State.job, commitNoted, raiseIf_x]
  exact job_modJob _ _ _ fun _ => by rfl

/-- A job stopped by SUSTAINED_LATE pauses with its last commit (R185, R320); else a commit notes its step alone. -/
theorem commitDurable_noted {c : LedgerRec} {b : Job} {s : State} (hstep : c.step < 2 ^ 48 - 1)
    (hfind : s.x.rf2.jobs.find? (fun b => b.steps.any (commitHits c)) = some b) :
    commitDurable c s = commitNoted c b.slot s ∨
      commitDurable c s =
        setJobState b.slot 4 (modJob b.slot (fun b => { b with result := 7 }) (commitNoted c b.slot s)) := by
  unfold commitHits at hfind
  unfold commitDurable
  dsimp only
  rw [hfind]
  dsimp only
  rw [if_neg (by omega)]
  split
  · split
    · exact .inr rfl
    · exact .inl rfl
  · exact .inl rfl

/-- A COMMIT that is durable, of a step that is not the last one there is. -/
theorem commitDurable_commits {c : LedgerRec} {b : Job} {s : State} (hstep : c.step < 2 ^ 48 - 1)
    (hb : s.job b.slot = some b) (hfind : s.x.rf2.jobs.find? (fun b => b.steps.any (commitHits c)) = some b) :
    (commitDurable c s).x.lg = s.x.lg ∧
      ∃ d, (commitDurable c s).job b.slot = some d ∧ commitKey d = commitKey (b.committed c) := by
  have hjob : (commitNoted c b.slot s).job b.slot = some (b.committed c) := by
    rw [job_commitNoted, hb, Option.map_some]
  rcases commitDurable_noted hstep hfind with h | h
  · rw [h]
    exact ⟨lg_commitNoted .., _, hjob, rfl⟩
  · rw [h]
    refine ⟨(ledger_setJobState ..).trans (lg_commitNoted ..), ?_⟩
    exact JobsKeep.exists_job ((jobsKeep_modJob b.slot (fun b => { b with result := 7 }) _ fun _ => ⟨rfl, rfl⟩).trans
      (jobsKeep_setJobState (fun _ _ => rfl) b.slot 4 _)) hjob

theorem recordDurable_commit {n : Nat} {c : LedgerRec} {s : State} (hopen : s.x.lg.open_.head? = some n)
    (hrec : s.x.lg.recs.find? (fun r => r.seq == n) = some c) (hty : c.ty = 6) :
    recordDurable n s = flushLedger (commitDurable c (modLg (Ledger.durable n) s)) := by
  rw [recordDurable, if_neg (not_not_intro hopen), hrec]
  dsimp only
  rw [if_pos hty]
  rfl

theorem recordDurable_plain {n : Nat} {c : LedgerRec} {s : State} (hopen : s.x.lg.open_.head? = some n)
    (hrec : s.x.lg.recs.find? (fun r => r.seq == n) = some c) (hty : c.ty ≠ 6) :
    recordDurable n s = flushLedger (modLg (Ledger.durable n) s) := by
  rw [recordDurable, if_neg (not_not_intro hopen), hrec]
  dsimp only
  rw [if_neg hty]
  rfl

/-- The ledger whose oldest open record has become durable and whose messages have left. -/
def Ledger.drained (n : Nat) (l : Ledger) : Ledger := { l.durable n with msgs := [] }

/-- A record that the only waiting message waits for. -/
theorem recordDurable_sends {n : Nat} {c : LedgerRec} {m : LedgerMsg} {s : State} (hopen : s.x.lg.open_.head? = some n)
    (hrec : s.x.lg.recs.find? (fun r => r.seq == n) = some c) (hty : c.ty ≠ 6) (hm : s.x.lg.msgs = [m])
    (hrest : ∀ o, o ∈ s.x.lg.open_.drop 1 → 0 < serial 32 o m.seq) :
    recordDurable n s = sendMsg m (modLg (Ledger.drained n) s) := by
  have hd : recordsDurable (s.x.lg.durable n) m.seq = true := by
    rw [recordsDurable, List.all_eq_true]
    exact fun o ho => decide_eq_true (hrest o ho)
  rw [recordDurable_plain hopen hrec hty, flushLedger_one (s := modLg (Ledger.durable n) s) hm hd]
  rfl

/-- A frame that waits does so while it is queued again (R74). -/
theorem queued_enqueue_same (d : Dev) (p q : Nat) (src : Option Nat) (f : Frame) (s : State) (h : Queued d q f s)
    (hc : payloadCls f.payload = .control) : Queued d q f (enqueue d p src f s) := by
  by_cases hq : q = p
  · rw [hq]
    exact queued_enqueue d p src f s (.inl hc)
  · rw [Queued, enqueue, port_modPort_ne _ _ _ _ _ hq]
    exact h

theorem queued_enqueueAll_control (d : Dev) (ps : List Nat) (src : Option Nat) (f : Frame) (s : State)
    (hc : payloadCls f.payload = .control) {q : Nat} (hq : q ∈ ps) : Queued d q f (enqueueAll d ps src f s) := by
  obtain ⟨before, after, rfl⟩ := List.append_of_mem hq
  rw [enqueueAll, List.foldl_append, List.foldl_cons]
  exact foldl_keeps (Queued d q f) (fun u p _ hu => queued_enqueue_same d p q src f u hu hc)
    (queued_enqueue d q src f _ (.inl hc))

theorem queued_sendTwin_same {q : Nat} {f : Frame} {s : State} (h : Queued .dxd q f s)
    (hc : payloadCls f.payload = .control) : Queued .dxd q f (sendTwin f s) := by
  unfold sendTwin
  split
  · exact queued_enqueue_same _ _ _ _ _ _ h hc
  · exact h

theorem noteSent_plain {f : Frame} (s : State) (hb : ∀ e, f.payload ≠ .bench e) : noteSent f s = s := by
  unfold noteSent
  split
  · next e he => exact absurd he (hb e)
  · rfl

/-- A control message waits on each of its ports that is in UP. -/
theorem queued_sendMsg {m : LedgerMsg} {q : Nat} {s : State} (hb : ∀ e, m.frame.payload ≠ .bench e)
    (hc : payloadCls m.frame.payload = .control) (hq : q ∈ m.ports) (hup : (s.port .dxd q).st = 5) :
    Queued .dxd q m.frame (sendMsg m s) := by
  rw [sendMsg, noteSent_plain _ hb]
  exact queued_sendTwin_same (queued_enqueueAll_control _ _ _ _ _ hc (List.mem_filter.mpr ⟨hq, by simp [hup]⟩)) hc

theorem only_sendMsg {m : LedgerMsg} (s : State) (hb : ∀ e, m.frame.payload ≠ .bench e) :
    Only [.com .dxd .ports] s (sendMsg m s) := by
  rw [sendMsg, noteSent_plain _ hb]
  simp [Only]

theorem rf2_noteBench (kind target reason : Nat) (s : State) : ∃ c, (noteBench kind target reason s).x.rf2 =
    { s.x.rf2 with benchReason := reason, benchKind := kind, benchTarget := target, complaint := c } := by
  unfold noteBench
  dsimp only
  split
  · exact ⟨3, by simp only [raise_x, modRef_x]⟩
  · exact ⟨s.x.rf2.complaint, by simp only [raise_x, modRef_x]⟩

theorem eventSet_raiseMembers {b : Nat} (s : State) (hb : b < 64) : eventSet .dxd 0x14 b (raise .dxd 0x14 b s) :=
  eventSet_raise .dxd 0x14 b s ⟨by simp [pageSt, pageStDxd], by decide, by decide, by decide⟩ hb

theorem eventSet_noteBench (kind target reason : Nat) (s : State) :
    eventSet .dxd 0x14 1 (noteBench kind target reason s) := by
  unfold noteBench
  dsimp only
  have hset : ∀ u, eventSet .dxd 0x14 1 (raise .dxd 0x14 1 u) := fun u => eventSet_raiseMembers u (by decide)
  split
  · exact eventsKept_raise _ _ _ _ _ (eventsKept_of_pgEvent_eq (s := raise .dxd 0x14 1 (modRef (fun r => { r with
      benchReason := reason, benchKind := kind, benchTarget := target }) s)) (by simp) _ _ (hset _))
  · exact hset _

/-- The replay of a job counts from the beat at which its BENCH leaves (R314). -/
def Job.dated (now lead : Nat) (b : Job) : Job :=
  { b with pause := b.pause.map (fun p => { p with benchAt := some now, lead := lead }) }

theorem job_replayFrom {ep : Nat} {e : BenchF} {b : Job} {s : State} (hkind : e.kind ≠ 1) (hnew : e.newEpoch ≠ ep)
    (hb : s.job b.slot = some b) (hep : b.epoch = e.newEpoch) :
    (replayFrom ep e s).job b.slot = some (b.dated s.dc.tk.bc e.admitLead) := by
  have hslot : ∀ q : Job, (if q.epoch == e.newEpoch then q.dated s.dc.tk.bc e.admitLead else q).slot = q.slot :=
    fun q => by split <;> rfl
  have hjob : (replayFrom ep e s).job b.slot =
      (s.job b.slot).map (fun q => if q.epoch == e.newEpoch then q.dated s.dc.tk.bc e.admitLead else q) := by
    rw [replayFrom, if_neg (by simp [hkind, hnew]), State.job, State.job, modRef_x]
    change (s.x.rf2.jobs.map (fun q => if q.epoch == e.newEpoch then q.dated s.dc.tk.bc e.admitLead else q)).find? _ = _
    rw [List.find?_map]
    simp only [Function.comp_def, hslot]
  rw [hjob, hb, Option.map_some, if_pos (by simp [hep])]

/-- A message is queued before it is noted. -/
def queuedMsg (m : LedgerMsg) (s : State) : State :=
  sendTwin m.frame (enqueueAll .dxd (m.ports.filter (fun p => (s.port .dxd p).st == 5)) none m.frame s)

theorem sendMsg_bench {m : LedgerMsg} {e : BenchF} {s : State} (hm : m.frame.payload = .bench e) :
    sendMsg m s = replayFrom m.frame.epoch e (noteBench e.kind e.target e.reason (queuedMsg m s)) := by
  rw [sendMsg, noteSent, hm]
  rfl

theorem only_queuedMsg (m : LedgerMsg) (s : State) : Only [.com .dxd .ports] s (queuedMsg m s) := by
  simp [Only, queuedMsg]

/-- A BENCH that ends an epoch leaves. -/
theorem job_sendMsg_bench {m : LedgerMsg} {e : BenchF} {b : Job} {s : State} (hm : m.frame.payload = .bench e)
    (hkind : e.kind ≠ 1) (hnew : e.newEpoch ≠ m.frame.epoch) (hb : s.job b.slot = some b) (hep : b.epoch = e.newEpoch) :
    (sendMsg m s).job b.slot = some (b.dated s.dc.tk.bc e.admitLead) := by
  have hjob : (noteBench e.kind e.target e.reason (queuedMsg m s)).job b.slot = some b := by
    obtain ⟨c, hc⟩ := rf2_noteBench e.kind e.target e.reason (queuedMsg m s)
    have hrf2 : (queuedMsg m s).x.rf2 = s.x.rf2 := x_rf2_eq (by simp [but, queuedMsg])
    rw [State.job, hc, hrf2]
    exact hb
  have hbc : (noteBench e.kind e.target e.reason (queuedMsg m s)).dc.tk = s.dc.tk :=
    dc_tk_eq (by simp [but, queuedMsg])
  rw [sendMsg_bench hm, job_replayFrom hkind hnew hjob hep, hbc]

/-- What the referee shows of the last BENCH (R321, R322). -/
theorem noted_sendMsg_bench {m : LedgerMsg} {e : BenchF} {s : State} (hm : m.frame.payload = .bench e) :
    (sendMsg m s).x.rf2.benchReason = e.reason ∧ (sendMsg m s).x.rf2.benchTarget = e.target ∧
      (sendMsg m s).x.rf2.benchKind = e.kind ∧ eventSet .dxd 0x14 1 (sendMsg m s) := by
  obtain ⟨c, hc⟩ := rf2_noteBench e.kind e.target e.reason (queuedMsg m s)
  have hset := eventSet_noteBench e.kind e.target e.reason (queuedMsg m s)
  rw [sendMsg_bench hm]
  unfold replayFrom
  split
  · rw [hc]
    exact ⟨rfl, rfl, rfl, hset⟩
  · rw [modRef_x, hc]
    exact ⟨rfl, rfl, rfl, eventsKept_of_pgEvent_eq (by simp) _ _ hset⟩

/-! The member that does not act (R30, R307, R309). -/

/-- The ledger with a record of the acting member. -/
def Ledger.mirrored (r : LedgerRec) (l : Ledger) : Ledger :=
  { l with
    recs := (if 16384 ≤ l.recs.length then l.recs.drop 1 else l.recs) ++ [r]
    head := r.seq, next := nextSeq r.seq }

theorem shadowRecord_kept {js : List JobCopy} {r : LedgerRec} {s : State} (hsolo : r.solo = false)
    (hseq : r.seq = s.x.lg.next) (hpair : (pairPort s).isSome = true) :
    shadowRecord js r s = mirrorRecord js r (modLg (Ledger.mirrored r) s) := by
  rw [shadowRecord, if_neg]
  · rfl
  · have hsome : (pairPort s).isNone = false := by rw [Option.isNone_eq_false_iff, hpair]
    simp [hsolo, hseq, hsome]

theorem lg_mirrorRecord (js : List JobCopy) (r : LedgerRec) (s : State) : (mirrorRecord js r s).x.lg = s.x.lg :=
  x_lg_eq (by simp [but])

/-- A record of type 5 makes its step accepted. -/
theorem rstep_mirrorRecord {js : List JobCopy} {r : LedgerRec} {x : RStep} {s : State} (hty : r.ty = 5)
    (hx : s.rstep r.epoch r.step r.attempt = some x) : (mirrorRecord js r s).rstep r.epoch r.step r.attempt =
      some { x with armDone := true, accepted := true } := by
  have hrec : mirrorRecord js r s =
      modRStep r.epoch r.step r.attempt (fun x => { x with armDone := true, accepted := true }) s := by
    rw [mirrorRecord]
    simp only [hty]
  rw [hrec, rstep_modRStep _ _ _ _ _ fun _ => by exact ⟨rfl, rfl, rfl⟩, hx, Option.map_some]

theorem ledgerCopied_elsewhere (recs : List LedgerRec) (js : List JobCopy) (s : State)
    (h : s.x.straps.role ≠ 2 ∨ pairPort s = none) : ledgerCopied recs js s = s := by
  rw [ledgerCopied, if_pos (by simpa using h)]

/-- The ledger of a member that holds the acting member's log. -/
def Ledger.copied (recs : List LedgerRec) (l : Ledger) : Ledger :=
  { l with
    recs := recs, open_ := [], head := (recs.getLast?.map (·.seq)).getD 0
    next := nextSeq ((recs.getLast?.map (·.seq)).getD 0), mirrorOk := true }

section
variable {recs : List LedgerRec} {js : List JobCopy} {s : State} (hrole : s.x.straps.role = 2)
  (hpair : (pairPort s).isSome = true)
include hrole hpair

theorem notElsewhere : ¬(s.x.straps.role ≠ 2 ∨ (pairPort s).isNone = true) := by
  rw [not_or, not_not, Bool.not_eq_true, Option.isNone_eq_false_iff]
  exact ⟨hrole, hpair⟩

theorem ledgerCopied_shadow (hacts : s.x.rf2.acting = false) :
    ledgerCopied recs js s = copyJobs recs js (modLg (Ledger.copied recs) s) := by
  rw [ledgerCopied, if_neg (notElsewhere hrole hpair), if_neg (by simp [hacts])]
  rfl

theorem ledgerCopied_acting (hacts : s.x.rf2.acting = true) : ledgerCopied recs js s =
    modLg (fun l => { l with solo := false, mirrorOk := true }) (adoptLog recs s) := by
  rw [ledgerCopied, if_neg (notElsewhere hrole hpair), if_pos hacts]

end

theorem lg_copyJobs (recs : List LedgerRec) (js : List JobCopy) (s : State) : (copyJobs recs js s).x.lg = s.x.lg :=
  x_lg_eq (by simp [but])

/-- A log without jobs leaves none, and serves none. -/
theorem copyJobs_nil (s : State) :
    (copyJobs [] [] s).x.rf2.jobs = [] ∧ (copyJobs [] [] s).x.cs.served = [] := ⟨rfl, rfl⟩

theorem adoptLog_begun {recs : List LedgerRec} {s : State} (h : s.x.rf2.jobs ≠ [] ∨ s.x.lg.open_ ≠ []) :
    adoptLog recs s = s := by
  rw [adoptLog, if_pos]
  simpa using h

/-- What the acting member adopts before it begins a job. -/
theorem adoptLog_fresh {recs : List LedgerRec} {s : State} (hjobs : s.x.rf2.jobs = []) (hopen : s.x.lg.open_ = []) :
    (adoptLog recs s).x.lg.recs = adopted s.x.lg.recs recs ∧
      (adoptLog recs s).x.rf2.lastEpoch = max s.x.rf2.lastEpoch (epochAfter (adopted s.x.lg.recs recs)) := by
  rw [adoptLog, if_neg (by simp [hjobs, hopen])]
  exact ⟨rfl, rfl⟩

/-! LG_CKPT and LG_EXPORTED (R310, R319, R323). -/

/-- Only the root takes a write of the LG page's own registers, and BAR 0 is no path to it. -/
theorem role_ledgerPage {rq off : Nat} {s : State} (h : WriteTaken .dxd rq 0x15 off s) (hoff : 0x100 ≤ off) :
    s.x.straps.role = 2 ∧ rq ≠ 4 := by
  obtain ⟨hreach, -, htakes, -, -⟩ := h
  have hrole : s.x.straps.role = 2 := by
    by_contra hne
    rw [pageTakes, show pageSt .dxd s 0x15 = .dormant by simp [pageSt, pageStDxd, hne]] at htakes
    exact absurd (of_decide_eq_true htakes) (by omega)
  refine ⟨hrole, fun hrq => ?_⟩
  rw [reaches, hrole, if_pos hrq] at hreach
  exact absurd hreach (by decide)

/-- A write of the LG page that is taken has the effect of its register alone. -/
theorem admitWrite_ledgerPage {rq off : Nat} {s : State} (v : Word) (f : State → State)
    (h : WriteTaken .dxd rq 0x15 off s) (hoff : 0x100 ≤ off) : admitWrite .dxd rq 0x15 off v f s = f s := by
  rw [admitWrite_taken _ _ _ _ _ _ _ h, dropHalf, if_neg fun hh => (role_ledgerPage h hoff).2 hh.2]

/-- The ledger with what firmware has exported. -/
def Ledger.exportedTo (n : Nat) (l : Ledger) : Ledger :=
  { l with exported := if 0 < serial 32 n l.exported then n else l.exported }

theorem exportedWrite_room {v : Word} {s : State} (h : 0 < ledgerFree s.x.lg ∨ rootActs s = false) :
    exportedWrite v s = modLg (Ledger.exportedTo (fld v 0 32)) s := by
  rw [exportedWrite]
  rw [if_neg]
  · rfl
  · rw [Bool.and_eq_true, beq_iff_eq]
    rintro ⟨hfull, hacts⟩
    rcases h with h | h
    · omega
    · have : rootActs s = true := hacts
      rw [h] at this
      exact absurd this (by decide)

/-- What had no room and is written now leaves what is exported as it is. -/
theorem exported_exportedWrite (v : Word) (s : State) : (exportedWrite v s).x.lg.exported =
    ((s.x.lg.exportedTo (fld v 0 32)).exported) := by
  unfold exportedWrite
  dsimp only
  split
  · obtain ⟨-, -, -, hexported⟩ := (partKept_retryRecords (modLg (Ledger.exportedTo (fld v 0 32)) s)).parts
    exact hexported
  · rfl

/-- The job with a step that MARK noted (R319). -/
def Job.marked (n : Nat) (b : Job) : Job :=
  { b with marks := if b.marks.contains n then b.marks else b.marks ++ [n] }

theorem mem_marks_marked (n m : Nat) (b : Job) : m ∈ (b.marked n).marks ↔ m ∈ b.marks ∨ m = n := by
  unfold Job.marked
  dsimp only
  split
  · next h =>
    rw [List.contains_iff_mem] at h
    exact ⟨.inl, fun hm => hm.elim id fun hmn => hmn ▸ h⟩
  · simp

theorem ckptMark_unarmed {j n : Nat} {b : Job} {s : State} (hb : s.job j = some b) (ha : nextAttempt b n = 0)
    (hn : b.nextStep ≤ n) : ckptMark j n s = modJob j (Job.marked n) s := by
  rw [ckptMark, hb]
  dsimp only
  rw [if_neg (by omega)]
  rfl

theorem ckptMark_armed {j n : Nat} {b : Job} {s : State} (hb : s.job j = some b)
    (h : nextAttempt b n ≠ 0 ∨ n < b.nextStep) : ckptMark j n s = s := by
  rw [ckptMark, hb]
  dsimp only
  rw [if_pos h]

theorem ckptSaved_job {j n : Nat} {b : Job} {s : State} (hb : s.job j = some b) (h0 : b.state ≠ 0) :
    ckptSaved j n s = ledgerAppend 7 0 n b.epoch 0 [] false s := by
  rw [ckptSaved, hb]
  dsimp only
  rw [if_neg h0]

/-- MARK alone. -/
theorem ckptWrite_mark {v : Word} {s : State} (hsaved : bit v 63 = false) : ckptWrite v s =
    if rootActs s ∧ bit v 62 = true then ckptMark (fld v 48 4) (fld v 0 48) s else s := by
  rw [ckptWrite, atReferee]
  simp only [hsaved, Bool.false_eq_true, if_false]
  split <;> split <;> simp_all

/-- SAVED alone. -/
theorem ckptWrite_saved {v : Word} {s : State} (hacts : rootActs s = true) (hsaved : bit v 63 = true)
    (hmark : bit v 62 = false) : ckptWrite v s = ckptSaved (fld v 48 4) (fld v 0 48) s := by
  rw [ckptWrite, atReferee]
  simp only [hacts, hsaved, hmark, Bool.false_eq_true, if_true, if_false]

/-! The takeover (R299, R307, R311). -/

/-- The ledger of a member that is alone. -/
def Ledger.alone (l : Ledger) : Ledger := { l with solo := true, mirrorOk := false }

/-- Where a successor starts: after every ORIGIN and every epoch of its ledger. -/
def Referee.succeeds (recs : List LedgerRec) (r : Referee) : Referee :=
  { r with
    acting := true, oseqNext := originAfter recs, oseqReserved := originAfter recs
    lastEpoch := max r.lastEpoch (epochAfter recs) }

/-- A standby that acts, before it benches its twin. -/
def successor (s : State) : State :=
  raise .dxd 0x14 4 (modRef (Referee.succeeds s.x.lg.recs) (raise .dxd 0x15 0 (modLg Ledger.alone s)))

theorem x_successor (s : State) : (successor s).x =
    { s.x with lg := s.x.lg.alone, rf2 := s.x.rf2.succeeds s.x.lg.recs } := by
  rw [successor, raise_x, modRef_x, raise_x, modLg_x]

theorem rootTakeover_successor {s : State} (hrole : s.x.straps.role = 2) (hcellar : inCellar .dxd s = false)
    (hlost : pairLost s = true) (hacts : s.x.rf2.acting = false) :
    rootTakeover s = resumeJobs (dxdReselect (benchDxd (twinTarget s) rLinkLoss (successor s))) := by
  rw [rootTakeover, if_neg (by simp [hrole, hcellar, hlost, hacts])]
  dsimp only
  rw [if_neg (by simp [hacts])]
  rfl

theorem rootTakeover_none {s : State} (h : s.x.straps.role ≠ 2 ∨ pairLost s = false ∨
    (s.x.rf2.acting = true ∧ s.x.lg.solo = true)) : rootTakeover s = s := by
  rw [rootTakeover, if_pos]
  rcases h with h | h | ⟨h, h'⟩ <;> simp [*]

/-- A selection of a source is no part of it. -/
theorem partKept_dxdReselect (s : State) : PartKept s (dxdReselect s) :=
  partKept_of_frame (by simp [but]) (by simp [but])

/-- The successor acts alone. -/
theorem part_rootTakeover {s : State} (hrole : s.x.straps.role = 2) (hcellar : inCellar .dxd s = false)
    (hlost : pairLost s = true) (hacts : s.x.rf2.acting = false) : (rootTakeover s).x.rf2.acting = true ∧
      (rootTakeover s).x.lg.solo = true ∧ (rootTakeover s).x.lg.mirrorOk = false := by
  obtain ⟨hacting, hsolo, hmirror, -⟩ := ((partKept_benchDxd (twinTarget s) rLinkLoss (successor s)).trans
    ((partKept_dxdReselect _).trans (partKept_resumeJobs _))).parts
  rw [x_successor] at hacting hsolo hmirror
  rw [rootTakeover_successor hrole hcellar hlost hacts]
  exact ⟨hacting, hsolo, hmirror⟩

/-! A successor without jobs. -/

theorem rf2_ledgerWatch_idle (s : State) (h : s.x.rf2.jobs = []) : (ledgerWatch s).x.rf2 = s.x.rf2 := by
  have hlow : (if ledgerFree s.x.lg < 256 then raise .dxd 0x15 1 s else s).x = s.x := by
    split
    · rw [raise_x]
    · rfl
  unfold ledgerWatch
  dsimp only
  split
  · rw [pauseEvery, raiseIf_x, modRef_x, hlow]
    dsimp only
    rw [h, List.map_nil, ← h]
  · rw [hlow]

/-- Without a job, an ORIGIN record of a new block changes the numbers alone. -/
theorem takeOseq_idle {s : State} (hjobs : s.x.rf2.jobs = []) (hblock : s.x.rf2.oseqReserved ≤ s.x.rf2.oseqNext)
    (hfree : 0 < ledgerFree s.x.lg) :
    (takeOseq s).2.x.rf2 = { s.x.rf2 with
      oseqNext := s.x.rf2.oseqNext + 1, oseqReserved := s.x.rf2.oseqNext + 4096 } ∧
    (takeOseq s).2.x.lg = s.x.lg.append 3 0 0 0 (s.x.rf2.oseqNext + 4095) [] false := by
  have hnew : (takeOseq s).2 = modRef (fun r => { r with oseqNext := s.x.rf2.oseqNext + 1 })
      (ledgerAppend 3 0 0 0 (s.x.rf2.oseqNext + 4095) [] false
        (modRef (fun r => { r with oseqReserved := s.x.rf2.oseqNext + 4096 }) s)) := by
    rw [takeOseq]
    dsimp only
    rw [if_pos hblock]
  rw [hnew, ledgerAppend_room _ _ _ _ _ _ _ _ (by rw [modRef_x]; exact hfree), modRef_x]
  refine ⟨?_, ?_⟩
  · rw [rf2_ledgerWatch_idle _ (by rw [modLg_x, modRef_x]; exact hjobs), modLg_x, modRef_x]
  · rw [lg_ledgerWatch, modLg_x, modRef_x]

theorem serial_self (n : Nat) : serial 32 n n = 0 := by
  unfold serial sx
  omega

/-- A record that was just written is open: what waits for it is not sent. -/
theorem recordsDurable_append (ty attempt step epoch value : Nat) (data : List Byte) (ckpt : Bool) (l : Ledger) :
    recordsDurable (l.append ty attempt step epoch value data ckpt) l.next = false := by
  rw [recordsDurable, List.all_eq_false]
  exact ⟨l.next, by simp [Ledger.append], by simp [serial_self]⟩

theorem lastSeq_append (ty attempt step epoch value : Nat) (data : List Byte) (ckpt : Bool) (l : Ledger) :
    ((l.append ty attempt step epoch value data ckpt).recs.getLast?.map (·.seq)).getD 0 = l.next := by
  simp [Ledger.append]

/-- The BENCH of a device without a ledger record of its own. -/
def deviceBench (target reason : Nat) (s : State) : Frame :=
  ⟨0, .bench ⟨s.x.rf2.oseqNext % 2 ^ 32, 0, 1, target, reason, 0⟩⟩

/-- The BENCH of a device, queued behind the records written so far. -/
def benchQueued (target reason : Nat) (s : State) : State :=
  afterLedgerTo (portToward s target).toList (deviceBench target reason s)
    (modRef (fun r => { r with benchedDevs := (1, target) :: r.benchedDevs }) (takeOseq s).2)

theorem benchDxd_room {target reason : Nat} {s : State} (h : ledgerRoom 0 s = true) :
    benchDxd target reason s = flushLedger (benchQueued target reason s) := by
  rw [benchDxd, if_neg (by simp [h])]
  rfl

/-- The BENCH that opens a block of ORIGIN_SEQ waits for the block's record (R307). -/
theorem benchDxd_idle {target reason : Nat} {s : State} (hjobs : s.x.rf2.jobs = [])
    (hblock : s.x.rf2.oseqReserved ≤ s.x.rf2.oseqNext) (hfree : 0 < ledgerFree s.x.lg) :
    (benchDxd target reason s).x.rf2.jobs = [] ∧
      (benchDxd target reason s).x.rf2.oseqNext = s.x.rf2.oseqNext + 1 ∧
      (benchDxd target reason s).x.rf2.lastEpoch = s.x.rf2.lastEpoch ∧
      (1, target) ∈ (benchDxd target reason s).x.rf2.benchedDevs ∧
      ∃ m, m ∈ (benchDxd target reason s).x.lg.msgs ∧ m.frame = deviceBench target reason s := by
  obtain ⟨hrf2, hlg⟩ := takeOseq_idle hjobs hblock hfree
  have hqueued : (benchQueued target reason s).x.rf2 = { (takeOseq s).2.x.rf2 with
      benchedDevs := (1, target) :: (takeOseq s).2.x.rf2.benchedDevs } := rfl
  have hroom : ledgerRoom 0 s = true := by
    have hone : b2n (decide (s.x.rf2.oseqReserved ≤ s.x.rf2.oseqNext)) = 1 := by simp [hblock, b2n]
    rw [ledgerRoom, hone]
    exact decide_eq_true hfree
  obtain ⟨js, r, k, g, c, hsent⟩ := benchNoted_flushMsgs (benchQueued target reason s).x.lg.msgs.length
    (benchQueued target reason s)
  have hnone : (flushLedger (benchQueued target reason s)).x.rf2.jobs = [] := by
    have hkeep : JobsKeep (fun _ => ()) (benchQueued target reason s) (flushLedger (benchQueued target reason s)) :=
      jobsKeep_flushMsgs (fun _ _ _ => rfl) _ _
    rw [JobsKeep, hqueued, hrf2, hjobs] at hkeep
    exact List.map_eq_nil_iff.mp hkeep
  rw [benchDxd_room hroom]
  refine ⟨hnone, ?_, ?_, ?_, ?_⟩
  · rw [flushLedger, hsent, hqueued, hrf2]
  · rw [flushLedger, hsent, hqueued, hrf2]
  · rw [flushLedger, hsent, hqueued]
    exact List.mem_cons_self
  · have hmsgs : (benchQueued target reason s).x.lg = { (takeOseq s).2.x.lg with
        msgs := (takeOseq s).2.x.lg.msgs ++ [⟨((takeOseq s).2.x.lg.recs.getLast?.map (·.seq)).getD 0,
          deviceBench target reason s, (portToward s target).toList⟩] } := rfl
    refine ⟨⟨s.x.lg.next, deviceBench target reason s, (portToward s target).toList⟩, ?_, rfl⟩
    refine mem_flushMsgs _ ?_ ?_
    · rw [hmsgs, hlg, lastSeq_append]
      simp
    · rw [hmsgs, hlg]
      exact recordsDurable_append 3 0 0 0 (s.x.rf2.oseqNext + 4095) [] false s.x.lg

theorem eventsKept_takeOseq (s : State) : EventsKept s (takeOseq s).2 := by
  unfold takeOseq
  dsimp only
  split
  · exact .trans (eventsKept_of_pgEvent_eq rfl) (.trans (eventsKept_ledgerAppend 3 0 0 0 (s.x.rf2.oseqNext + 4095) [] false
      (modRef (fun r => { r with oseqReserved := s.x.rf2.oseqNext + 4096 }) s)) (eventsKept_of_pgEvent_eq rfl))
  · exact eventsKept_of_pgEvent_eq rfl

theorem eventsKept_benchDxd (target reason : Nat) (s : State) : EventsKept s (benchDxd target reason s) := by
  by_cases h : ledgerRoom 0 s = true
  · rw [benchDxd_room h]
    exact (eventsKept_takeOseq s).trans (.trans (t := benchQueued target reason s) (eventsKept_of_pgEvent_eq rfl)
      (eventsKept_flushMsgs _ _))
  · rw [benchDxd, if_pos (by simpa using h)]
    exact eventsKept_refl s

/-- Without a job, a sum that is complete at the root forms no hall scorecard. -/
theorem only_sumDone_idle (v : Served) (c : Combine) {s : State} (hrole : s.x.straps.role = 2)
    (hjobs : s.x.rf2.jobs = []) : Only [.scores] s (sumDone v c s) := by
  have hclosed : Only [.scores] s (closeCombo c s) := by simp [Only]
  have hnone : (closeCombo c s).x.rf2.jobs = [] := hjobs
  unfold sumDone
  split
  · exact rfl
  · dsimp only
    rw [if_neg (not_not_intro hrole), hnone]
    split
    · exact rfl
    · exact hclosed

/-- A successor without jobs has none to resume. -/
theorem only_resumeJobs_idle {s : State} (hrole : s.x.straps.role = 2) (hjobs : s.x.rf2.jobs = []) :
    Only [.scores] s (resumeJobs s) := by
  unfold resumeJobs
  rw [hjobs, List.foldl_nil]
  refine foldl_keeps (Only [.scores] s) (fun u c _ hu => ?_) rfl
  split
  · have hx : u.x.straps = s.x.straps := congrArg (·.x.straps) hu
    have hr : u.x.rf2 = s.x.rf2 := congrArg (·.x.rf2) hu
    exact hu.trans (only_sumDone_idle _ _ (by rw [hx, hrole]) (by rw [hr, hjobs]))
  · exact hu

/-- A root without jobs selects its source and has nothing to resume: its referee and its ledger stay. -/
theorem resumed_idle {s : State} (hrole : s.x.straps.role = 2) (hjobs : s.x.rf2.jobs = []) :
    (resumeJobs (dxdReselect s)).x.rf2 = s.x.rf2 ∧ (resumeJobs (dxdReselect s)).x.lg = s.x.lg ∧
      EventsKept s (resumeJobs (dxdReselect s)) := by
  have hrf2 : (dxdReselect s).x.rf2 = s.x.rf2 := x_rf2_eq (by simp [but])
  have hlg : (dxdReselect s).x.lg = s.x.lg := x_lg_eq (by simp [but])
  have hstraps : (dxdReselect s).x.straps = s.x.straps := x_straps_eq (by simp [but])
  have hselect : EventsKept s (dxdReselect s) := (portKept_dxdReselect (portKept_refl s)).events
  generalize dxdReselect s = u at hrf2 hlg hstraps hselect ⊢
  have honly : Only [.scores] u (resumeJobs u) := only_resumeJobs_idle (by rw [hstraps, hrole]) (by rw [hrf2, hjobs])
  have hr : (resumeJobs u).x.rf2 = u.x.rf2 := congrArg (·.x.rf2) honly
  have hl : (resumeJobs u).x.lg = u.x.lg := congrArg (·.x.lg) honly
  have hp : (resumeJobs u).dc.pgEvent = u.dc.pgEvent := congrArg (·.dc.pgEvent) honly
  exact ⟨hr.trans hrf2, hl.trans hlg, hselect.trans (eventsKept_of_pgEvent_eq hp)⟩

/-- A standby without jobs that acts (R299, R307, R311). -/
theorem rootTakeover_idle {s : State} (hrole : s.x.straps.role = 2) (hcellar : inCellar .dxd s = false)
    (hlost : pairLost s = true) (hacts : s.x.rf2.acting = false) (hjobs : s.x.rf2.jobs = [])
    (hfree : 0 < ledgerFree s.x.lg) :
    (rootTakeover s).x.rf2.oseqNext = originAfter s.x.lg.recs + 1 ∧
      (rootTakeover s).x.rf2.lastEpoch = max s.x.rf2.lastEpoch (epochAfter s.x.lg.recs) ∧
      (1, twinTarget s) ∈ (rootTakeover s).x.rf2.benchedDevs ∧
      (∃ m, m ∈ (rootTakeover s).x.lg.msgs ∧
        m.frame = ⟨0, .bench ⟨originAfter s.x.lg.recs % 2 ^ 32, 0, 1, twinTarget s, 1, 0⟩⟩) ∧
      EventsKept (successor s) (rootTakeover s) := by
  have hrf2 : (successor s).x.rf2 = s.x.rf2.succeeds s.x.lg.recs := by rw [x_successor]
  have hlg : (successor s).x.lg = s.x.lg.alone := by rw [x_successor]
  have hstraps : (successor s).x.straps = s.x.straps := by rw [x_successor]
  rw [rootTakeover_successor hrole hcellar hlost hacts]
  generalize successor s = u at hrf2 hlg hstraps ⊢
  obtain ⟨hnone, hnext, hepoch, hbenched, m, hm, hframe⟩ := benchDxd_idle (target := twinTarget s) (reason := rLinkLoss)
    (s := u) (by rw [hrf2]; exact hjobs) (by rw [hrf2]; exact le_rfl) (by rw [hlg]; exact hfree)
  have hrole' : (benchDxd (twinTarget s) rLinkLoss u).x.straps.role = 2 := by
    rw [x_straps_eq (t := benchDxd (twinTarget s) rLinkLoss u) (s := u) (by simp [but]), hstraps, hrole]
  obtain ⟨hreferee, hledger, hevents⟩ := resumed_idle hrole' hnone
  rw [hreferee, hledger]
  refine ⟨by rw [hnext, hrf2]; rfl, by rw [hepoch, hrf2]; rfl, hbenched, ⟨m, hm, ?_⟩,
    (eventsKept_benchDxd (twinTarget s) rLinkLoss u).trans hevents⟩
  rw [hframe, deviceBench, hrf2]
  rfl

theorem eventSet_raiseLedger {b : Nat} {s : State} (hrole : s.x.straps.role = 2) (hb : b < 64) :
    eventSet .dxd 0x15 b (raise .dxd 0x15 b s) :=
  eventSet_raise .dxd 0x15 b s ⟨by simp [pageSt, pageStDxd, hrole], by decide, by decide, by decide⟩ hb

/-- The takeover is an event of the MB page, and SOLO one of the LG page (R322). -/
theorem events_successor {s : State} (hrole : s.x.straps.role = 2) :
    eventSet .dxd 0x14 4 (successor s) ∧ eventSet .dxd 0x15 0 (successor s) := by
  refine ⟨eventSet_raiseMembers _ (by decide), eventsKept_raise _ _ _ _ _ ?_⟩
  exact (eventSet_congr rfl).mpr (eventSet_raiseLedger (s := modLg Ledger.alone s) hrole (by decide))

/-- Settles O45: what becomes durable, what the other member keeps, takes over or holds on its return, and LG_CKPT. -/
theorem ledgerCommands : Obligations.LedgerCommands := by
  unfold Obligations.LedgerCommands
  refine ⟨?commit, ?sent, ?bench, ?notOldest, ?mirrored, ?notRoot, ?copied, ?begun, ?adopts, ?noPair, ?idle, ?takes,
    ?stays, ?exported, ?mark, ?marked, ?saved⟩
  case commit =>
    intro a js n c b s hacts hn hopen hrec hty hstep hb hfind
    obtain ⟨hlg, d, hd, hkey⟩ := commitDurable_commits (s := modLg (Ledger.durable n) s) hstep hb hfind
    obtain ⟨l, hl⟩ := lg_flushMsgs (commitDurable c (modLg (Ledger.durable n) s)).x.lg.msgs.length
      (commitDurable c (modLg (Ledger.durable n) s))
    obtain ⟨d', hd', hkey'⟩ := (jobsKeep_flushMsgs (g := commitKey) (fun _ _ _ => rfl) _
      (commitDurable c (modLg (Ledger.durable n) s))).exists_job hd
    rw [hkey] at hkey'
    refine ⟨recordDurable n s, ?_, ?_, ?_, ⟨d', ?_, congrArg Prod.fst hkey', congrArg Prod.snd hkey'⟩, by simp [Only]⟩
    · rw [exec, execLedgerRecordDurable, if_pos hacts, hn]
    · rw [recordDurable_commit hopen hrec hty, flushLedger, hl, hlg]
      rfl
    · rw [recordDurable_commit hopen hrec hty, flushLedger, hl, hlg]
      rfl
    · rw [recordDurable_commit hopen hrec hty]
      exact hd'
  case sent =>
    intro a js n c m s hacts hn hopen hrec hty hm hrest hb
    refine ⟨sendMsg m (modLg (Ledger.drained n) s),
      by rw [exec, execLedgerRecordDurable, if_pos hacts, hn, recordDurable_sends hopen hrec hty hm hrest], ?_,
      fun hc q hq hup => queued_sendMsg hb hc hq hup, ?_⟩
    · rw [lg_sendMsg]
      rfl
    · exact Only.trans (t := modLg (Ledger.drained n) s) (by simp [Only]) ((only_sendMsg _ hb).mono (by decide))
  case bench =>
    intro a js n c m e b p s hacts hn hopen hrec hty hm hrest he hkind hnew hb hep hp
    obtain ⟨hreason, htarget, hk, hset⟩ := noted_sendMsg_bench (s := modLg (Ledger.drained n) s) he
    refine ⟨sendMsg m (modLg (Ledger.drained n) s),
      by rw [exec, execLedgerRecordDurable, if_pos hacts, hn, recordDurable_sends hopen hrec hty hm hrest], ?_,
      ?_, hreason, htarget, hk, hset, by simp [Only]⟩
    · rw [job_sendMsg_bench (s := modLg (Ledger.drained n) s) he hkind hnew hb hep, Job.dated, hp]
      rfl
    · rw [lg_sendMsg]
      rfl
  case notOldest =>
    intro a js s hacts hopen
    rw [exec, execLedgerRecordDurable, if_pos hacts, recordDurable, if_pos hopen]
  case mirrored =>
    intro a js s hshadow hsolo hseq hpair
    have hacts : ¬(rootActs s = true) := by
      rw [rootShadow, Bool.and_eq_true, Bool.not_eq_true'] at hshadow
      simp [rootActs, hshadow.2]
    refine ⟨mirrorRecord js a (modLg (Ledger.mirrored a) s),
      by rw [exec, execLedgerRecordDurable, if_neg hacts, if_pos hshadow, shadowRecord_kept hsolo hseq hpair],
      ?_, ?_, ?_, fun hty x hx => rstep_mirrorRecord hty hx, by simp [Only]⟩
    · rw [lg_mirrorRecord]
      exact List.getLast?_concat ..
    · rw [lg_mirrorRecord]
      rfl
    · rw [lg_mirrorRecord]
      rfl
  case notRoot =>
    intro a js s hrole
    rw [exec, execLedgerRecordDurable, if_neg (by simp [rootActs, hrole]), if_neg (by simp [rootShadow, hrole])]
  case copied =>
    intro recs js s hrole hpair hacts
    refine ⟨copyJobs recs js (modLg (Ledger.copied recs) s),
      by rw [exec, execLedgerCopyComplete, ledgerCopied_shadow hrole hpair hacts], ?_⟩
    rw [lg_copyJobs]
    refine ⟨rfl, rfl, rfl, rfl, rfl, fun hrecs hjs => ?_, by simp [Only]⟩
    rw [hrecs, hjs]
    exact copyJobs_nil _
  case begun =>
    intro recs js s hrole hpair hacts hbegun
    exact ⟨modLg (fun l => { l with solo := false, mirrorOk := true }) s,
      by rw [exec, execLedgerCopyComplete, ledgerCopied_acting hrole hpair hacts, adoptLog_begun hbegun], rfl,
      by simp [Only]⟩
  case adopts =>
    intro recs js s hrole hpair hacts hjobs hopen
    obtain ⟨hrecs, hepoch⟩ := adoptLog_fresh (recs := recs) hjobs hopen
    exact ⟨modLg (fun l => { l with solo := false, mirrorOk := true }) (adoptLog recs s),
      by rw [exec, execLedgerCopyComplete, ledgerCopied_acting hrole hpair hacts], hrecs, rfl, rfl, hepoch,
      by simp [Only]⟩
  case noPair =>
    intro recs js s h
    rw [exec, execLedgerCopyComplete, ledgerCopied_elsewhere _ _ _ h]
  case idle =>
    intro s hrole hcellar hlost hacts hjobs hfree
    obtain ⟨hacting, hsolo, -⟩ := part_rootTakeover hrole hcellar hlost hacts
    obtain ⟨hnext, hepoch, hbenched, hsent, hkept⟩ := rootTakeover_idle hrole hcellar hlost hacts hjobs hfree
    obtain ⟨hmembers, hledger⟩ := events_successor hrole
    exact ⟨_, rfl, hacting, hsolo, hnext, hepoch, hbenched, hsent, hkept _ _ hmembers, hkept _ _ hledger, by simp [Only]⟩
  case takes =>
    intro s hrole hcellar hlost hacts
    obtain ⟨hacting, hsolo, hmirror⟩ := part_rootTakeover hrole hcellar hlost hacts
    exact ⟨_, rfl, hacting, hsolo, hmirror, by simp [Only]⟩
  case stays =>
    intro s h
    rw [exec, execRootTakeover, rootTakeover_none h]
  case exported =>
    intro rq v s h
    refine ⟨exportedWrite v s, by rw [exec, execLgExportedWrite, admitWrite_ledgerPage _ _ h (by decide)],
      exported_exportedWrite v s, fun hroom => ?_, by simp [Only]⟩
    rw [exportedWrite_room hroom]
    exact ⟨rfl, by simp [Only]⟩
  case mark =>
    intro rq v b s h hacts hsaved hmark hb ha hn
    refine ⟨modJob (fld v 48 4) (Job.marked (fld v 0 48)) s,
      by rw [exec, execCkptMark, admitWrite_ledgerPage _ _ h (by decide), ckptWrite_mark hsaved,
        if_pos ⟨hacts, hmark⟩, ckptMark_unarmed hb ha hn],
      ⟨b.marked (fld v 0 48), ?_, rfl, fun m => mem_marks_marked ..⟩, by simp [Only]⟩
    rw [job_modJob _ _ _ fun _ => by rfl, hb, Option.map_some]
  case marked =>
    intro rq v b s h hsaved hb hno
    rw [exec, execCkptMark, admitWrite_ledgerPage _ _ h (by decide), ckptWrite_mark hsaved, ckptMark_armed hb hno, ite_self]
  case saved =>
    intro rq v b s h hacts hsaved hmark hb h0 hfree
    refine ⟨ledgerAppend 7 0 (fld v 0 48) b.epoch 0 [] false s,
      by rw [exec, execCkptSaved, admitWrite_ledgerPage _ _ h (by decide), ckptWrite_saved hacts hsaved hmark,
      ckptSaved_job hb h0], ⟨_, getLast_ledgerAppend _ _ _ _ _ _ _ _ hfree, rfl, rfl, rfl, rfl⟩, ?_, by simp [Only]⟩
    rw [ledgerAppend_room _ _ _ _ _ _ _ _ hfree, lg_ledgerWatch]
    rfl

end Sys2Proof.Machine
end
